-- ==== Sys2Proof/Word.lean ====
section
/-! DEFINITION. The word types of the UB9144 model and their plainest arithmetic. Bit vectors stand for what the
manual handles as bits (bytes on a path, a line or a drive; headers; check codes); counts, ticks, addresses and
amounts are `Nat` or `Int`. -/

namespace Sys2Proof

/-- A byte, as every message, frame, record and image of the manual counts them. -/
abbrev Byte := BitVec 8

/-- The byte that holds a natural number, taken modulo 256. -/
abbrev byteOf (n : Nat) : Byte := BitVec.ofNat 8 n

/-- Most-significant-byte-first coding of `n` in `k` bytes (R101, R303, R330). -/
def beBytes : Nat → Nat → List Byte
  | 0, _ => []
  | k + 1, n => byteOf (n / 256 ^ k) :: beBytes k n

/-- Least-significant-byte-first coding of `n` in `k` bytes (R334, R272, R451). -/
def leBytes : Nat → Nat → List Byte
  | 0, _ => []
  | k + 1, n => byteOf n :: leBytes k (n / 256)

/-- The number that bytes spell most significant byte first. -/
def beVal (bs : List Byte) : Nat := bs.foldl (fun a b => a * 256 + b.toNat) 0

/-- The number that bytes spell least significant byte first. -/
def leVal : List Byte → Nat
  | [] => 0
  | b :: bs => b.toNat + 256 * leVal bs

/-- Two's complement coding of `i` in `w` bits, as a natural number. -/
def twos (w : Nat) (i : Int) : Nat := (i % (2 ^ w : Int)).toNat

/-- The integer that the low `w` bits of `n` spell in two's complement. -/
def untwos (w : Nat) (n : Nat) : Int :=
  let m := n % 2 ^ w
  if m < 2 ^ (w - 1) then (m : Int) else (m : Int) - (2 ^ w : Int)

/-- Bits `[hi:lo]` of a number. -/
def bitsOf (n hi lo : Nat) : Nat := n / 2 ^ lo % 2 ^ (hi + 1 - lo)

end Sys2Proof
end

