-- ==== Sys2Proof/Syntax.lean ====
section
/-! DEFINITION. The commands of the UB9144: one constructor per row of spec/opcode_table.json, with its operands.
A command is a host request, a host write that has a row of its own, or an event. An event's operands carry what the
device measures or receives at that moment (a header, a sampled temperature, a status word): see notes/assumptions/2. -/

namespace Sys2Proof

/-- The three access paths of R329. -/
inductive Path where
  | spi | oxlA | oxlB
deriving DecidableEq, Repr

/-- The two host links of R293. -/
inductive Link where
  | a | b
deriving DecidableEq, Repr

/-- What the receiver has of a burst besides its decided levels: the equaliser's input for each symbol, 48 values at T/2 in
tap order in Q2.14 (R138, R139), from preamble detect to the end of the header and through the payload and CRC-32 field;
and what its gain and timing loops hold (R136, R137, R139, R158). -/
structure RxMeasure where
  /-- Input of the equaliser per symbol, up to the end of the header. -/
  acq : List (List Int)
  /-- Input of the equaliser per symbol of the payload and CRC-32 field. -/
  track : List (List Int)
  agcGain : Nat
  phase : Nat
  freqOffset : Int
  slicerScale : Nat
  /-- Received outer-level peak, 1/16 dB relative to 1 V. -/
  rxAmpl : Int
  /-- Arrival offset of R158, 1/256 tick. -/
  arrival : Int
  /-- Single-bit errors that the reads of the engine's tap store have met and corrected (R48). -/
  tapErrors : Nat
  /-- On a trunk, for each receive sample at 100 MS/s while the own train is on the line: the last 384 samples transmitted, in
  filter order, and the slicer error of the equalised signal (R170). Empty elsewhere. -/
  echo : List (List Int × Int)
deriving DecidableEq, Repr

/-- One sample of a DC unit (R236, R238): voltage of the wires against pipe (µV), their current (nA) and the differential
voltage (µV). -/
structure DcSample where
  microVolt : Int
  nanoAmp : Int
  loopMicroVolt : Int
deriving DecidableEq, Repr

/-- What one port's traverse window brings in one cycle: the converter samples of the record, µV at the line balls, one per
converter sample period from the launch of chip 0 with the device's own delays taken off (R228, R229), and the samples of
the DC span (R236). On a trunk in phase E, the samples of the own train of the cycle that ends: the last 384 samples transmitted, in
filter order, and the received one (R170). -/
structure Echo where
  port : Nat
  samples : List Int
  dc : List DcSample
  own : List (List Int × Int) := []
deriving DecidableEq, Repr

/-- A frame from the host as its blocks arrived on a link (R308, R310): START, the data blocks, and END; no END where the next
START came first. -/
structure HostFrame where
  start : BitVec 64
  data : List (BitVec 64)
  stop : Option (BitVec 64)
deriving DecidableEq, Repr

/-- What a host frame that is in error brings (R303, R310). -/
inductive FrameFault where
  /-- A control block of no known type, or a data block outside a frame (R303). -/
  | badBlock
  /-- A block with sync header 00b or 11b (R303). -/
  | badSync
  /-- A frame that fails one of the rules of R310. -/
  | frame (f : HostFrame)
  /-- The levels that the two data lanes of the link have received, 33 to a block, of which the receiver makes blocks and frames itself
  (R298–R302). -/
  | received (lane0 lane1 : List Int)
deriving DecidableEq, Repr

/-- The rows of R307 (and R315) that lose the receive side of a link. -/
inductive LossCause where
  | clockIdle
  /-- Invalid sync headers among 64 consecutive blocks, with their number. -/
  | syncHeaders (count : Nat)
  /-- Two consecutive ALIGN pairs missing at their positions. -/
  | alignMissing
  /-- The last pairs received carried a count other than the previous count plus 1. -/
  | alignCount
deriving DecidableEq, Repr

/-- How the PMBus transfer of a request ended (R433). -/
inductive PmbusResult where
  /-- Every byte acknowledged and every PEC good; the word that a read returned, 0 for a write. -/
  | ack (word : Nat)
  | nack
  | badPec
  | busyTimeout
deriving DecidableEq, Repr

/-- The memories of the device that a scrub, a slice test or a load can find an error in (R403's memory codes 0–6). -/
inductive Mem where
  | cells | trace | contexts | buffers | taps | mc | cask
deriving DecidableEq, Repr

/-- What SECDED finds in a word read (R48). -/
inductive Ecc where
  | good | single | double
deriving DecidableEq, Repr

/-- Why an engine is failing (R387). -/
inductive EngineFault where
  /-- A double-bit error in a word of its tap store, 0–383 (R382). -/
  | tapStore (word : Nat)
  /-- No acknowledgement of a scheduler command within 100 ns. -/
  | hang
deriving DecidableEq, Repr

/-- The responses of one test of an engine test, 64-bit words in their order: test id and words (R386, R394). -/
structure Response where
  test : Nat
  words : List (BitVec 64)
deriving DecidableEq, Repr

/-- The responses of one unit to one test (R394, R398, R400, R401): test id; unit, an engine, port, cluster or slice,
2 × port + half for a converter half, 0 and 1 for the cask copies; 64-bit words in their order. -/
structure UnitTest where
  test : Nat
  unit : Nat
  words : List (BitVec 64)
deriving DecidableEq, Repr

/-- What the start-up check of one cluster brings (R398): the responses of every test, and those of the engine tests that were
run a second time. -/
structure ClusterCheck where
  cluster : Nat
  runs : List UnitTest
  again : List UnitTest
deriving DecidableEq, Repr

/-- A watch cell, 128 bits (R250). -/
structure Cell where
  /-- start. U14. R250. Reset 0. -/
  start : Nat := 0
  /-- width, band width less 1. U6. R250. Reset 0. -/
  width : Nat := 0
  /-- bench. I16. R250. Reset 0. -/
  bench : Int := 0
  /-- drift. I12. R250. Reset 0. -/
  drift : Int := 0
  /-- residue. I8. R250. Reset 0. -/
  residue : Int := 0
  /-- var. U16. R250. Reset 0. -/
  var : Nat := 0
  /-- thresh. U8. R250. Reset 0. -/
  thresh : Nat := 0
  /-- hyst. U4. R250. Reset 0. -/
  hyst : Nat := 0
  /-- state. U3. R250. Reset 0. -/
  state : Nat := 0
  /-- kind. U2. R250. Reset 0. -/
  kind : Nat := 0
  /-- count. U4. R250. Reset 0. -/
  count : Nat := 0
  /-- page. U2. R250. Reset 0. -/
  page : Nat := 0
  /-- time. U32. R250. Reset 0. -/
  time : Nat := 0
deriving DecidableEq, Repr

/-- One port's entry of a snapshot's port table (R278). -/
structure SnapPort where
  benchTime : Nat
  allocA : Nat
  allocB : Nat
  host : Nat
deriving DecidableEq, Repr

/-- A record of the archive drive (R274): the header fields and the trace points or payload that it holds. -/
structure Rec where
  kind : Nat
  blocks : Nat
  seq : Nat
  time : Nat
  benchTime : Nat
  port : Nat
  step : Nat
  points : Nat
  flags : Nat
  page : Nat
  tier : Nat
  ins : Nat
  loopRes : Nat
  galvanic : Int
  vf : Nat
  leadIn : Nat
  termination : Nat
  coding : Nat
  cycles : Nat
  alarmSeq : Nat
  deviceId : Nat
  /-- First block on the drive. -/
  block : Nat
  /-- Trace points (kinds 1–3). -/
  data : List Int
  /-- Port table of a snapshot record (kind 4): 144 entries in port order. R278. -/
  table : List SnapPort
  /-- Cells of a snapshot record (kind 4) by index; an unlisted cell is all zeros. R278. -/
  cells : List (Nat × Cell)
deriving DecidableEq, Repr

/-- A label of the drive (R272). -/
structure Label where
  deviceId : Nat
  formatted : Nat
  blocks : Nat
  permStart : Nat
  permLen : Nat
  fineStart : Nat
  fineLen : Nat
  longStart : Nat
  longLen : Nat
  permPct : Nat
  finePct : Nat
deriving DecidableEq, Repr

/-- One port's entry of a journal block (R280). -/
structure JournalPort where
  bench : Nat
  prevBench : Nat
  longPeriod : Nat
deriving DecidableEq, Repr

/-- A journal block (R280). -/
structure Journal where
  seq : Nat
  time : Nat
  nextRec : Nat
  fineHead : Nat
  fineTail : Nat
  longHead : Nat
  longTail : Nat
  permHead : Nat
  snapSlot : Nat
  snapRec : Nat
  /-- 144 entries in port order. -/
  ports : List JournalPort
deriving DecidableEq, Repr

/-- What bring-up finds at a drive (R267, R273, R287): its link, the items that it reports, and the blocks that hold
labels, journal blocks or records. -/
structure DriveInfo where
  linkGen : Nat
  linkWidth : Nat
  /-- NVMe version as the drive reports it: major × 10000h + minor × 100h. R267. -/
  version : Nat
  /-- Logical block size of namespace 1, bytes. R267. -/
  blockSize : Nat
  /-- Metadata bytes of a block. R267. -/
  metadata : Nat
  /-- Protection information on. R267. -/
  protection : Bool
  /-- I/O queue pairs that the drive grants. R267. -/
  queuePairs : Nat
  /-- MQES as reported. R267. -/
  mqes : Nat
  /-- Greatest transfer (MDTS), bytes. R267. -/
  mdts : Nat
  /-- NSZE: blocks of namespace 1. R267. -/
  blocks : Nat
  /-- Content of blocks by address, 4,096 bytes each; an unlisted block holds no label, journal block or record. -/
  content : List (Nat × List Byte)
deriving DecidableEq, Repr

/-- What an NVMe completion brings: good, or an error status (R269, R290). -/
inductive NvmeStatus where
  | ok
  | error
deriving DecidableEq, Repr

/-- What a wake step measures when its delay ends (R429): the rail's STATUS_WORD, or whether the PLL is locked. -/
structure WakeMeasure where
  statusWord : Nat
  pllLocked : Bool
  /-- Offsets in the cluster's save set of the bytes whose parity is bad in cask copy A, and in copy B (R50). -/
  badA : List Nat
  badB : List Nat
deriving DecidableEq, Repr

/-- What the calibration finds of one converter half after correction (R396). -/
structure HalfFinding where
  /-- Gain against the other half's, 1/1,000 dB. -/
  gain : Int
  /-- Offset, 1/10,000 of full scale. -/
  offset : Int
  /-- Timing skew, ps. -/
  skew : Int
  /-- Consecutive samples with an unchanged output code. -/
  unchanged : Nat
  /-- Codes by which the other half's output varies meanwhile. -/
  otherSpan : Nat
deriving DecidableEq, Repr

/-- What the converter calibration of one port finds (R396). -/
structure CalFinding where
  port : Nat
  half0 : HalfFinding
  half1 : HalfFinding
deriving DecidableEq, Repr

/-- The commands: one constructor per row of spec/opcode_table.json, in the table's order. -/
inductive Instr where
  | nop (path : Path) (tid : Nat)
  | read (path : Path) (tid index sub : Nat)
  | write (path : Path) (tid index sub value : Nat)
  | domainReadInit (path : Path) (tid index sub : Nat)
  | domainWriteInit (path : Path) (tid index sub length : Nat)
  | segmentRead (path : Path) (tid index sub offset count : Nat)
  | segmentWrite (path : Path) (tid index sub offset count : Nat) (data : List Byte)
  | describe (path : Path) (tid index sub : Nat)
  | domainEnd (path : Path) (tid index sub : Nat)
  | domainTransferTimeout (path : Path)
  | spiStatus (clocked : Nat)
  | spiSend (bytes : List Byte)
  | spiFetch (clocked : Nat)
  | spiAbandon (clocked : Nat)
  | spiUnknownCommand (command : Byte) (clocked : Nat)
  | clearCounter (path : Path) (tid index sub value : Nat)
  | commit (path : Path) (tid value : Nat)
  | commitSetCurrent (nvmOk : Bool)
  | defaults (path : Path) (tid value : Nat)
  | revert (path : Path) (tid value : Nat)
  | ref10mQualified
  | ref10mDisqualified
  | ref1ppsEdge (sinceLast : Nat) (offsetNs : Int)
  | ref1ppsEdgeAbsent
  | learningComplete (xoOffset : Int)
  | tqGradeChange
  | datum (xoOffset : Int)
  | cycleStart (echoes : List Echo)
  | epochSet (path : Path) (tid value : Nat)
  | epochApply
  | timeAnnounce
  | realign (path : Path) (tid value : Nat)
  | realignGridStart (oldTime : Nat) (offsetNs : Int)
  | startTimeout
  | cycleLen (path : Path) (tid value : Nat)
  | dsWindow (path : Path) (tid value : Nat)
  | contWindow (path : Path) (tid value : Nat)
  | travWindow (path : Path) (tid value : Nat)
  | grant (path : Path) (tid value : Nat)
  | slotMapApply (port : Nat)
  | contextLoad (port drop : Nat) (errors : List (Nat × Ecc))
  | energyDetect (port : Nat) (symbol0 symbol1 : List Int)
  | preambleDetect (port : Nat) (decisions : BitVec 16) (agcConverged : Bool)
  | noiseEvent (port : Nat)
  | syncDetect (port : Nat) (window : BitVec 32) (symbols : List (List Int))
  | falseDetection (port : Nat)
  | headerCheck (port : Nat) (header : BitVec 64)
  | collisionAbort (port : Nat) (symbols : List (List Int))
  | recoveryPeriodEnd (port : Nat) (symbol0 symbol1 : List Int)
  | overrun (port : Nat)
  | burstEnd (port : Nat) (levels : List Nat) (measure : RxMeasure)
  | emptySlot (port : Nat)
  | outOfSlot (port : Nat) (period0 period1 : List Int)
  | eqReset (path : Path) (tid value : Nat)
  | keptEqualiserExpiry (port identity : Nat)
  | rollCall (path : Path) (tid value : Nat)
  | rollCloseAfterExpiry (port : Nat)
  | rollAnswer (port : Nat) (message : List Byte) (arrival rxAmpl : Int)
  | admission (port : Nat)
  | admitConfirm (port drop : Nat) (message : List Byte)
  | admitConfirmMissed (port drop : Nat)
  | keepaliveAck (port drop : Nat)
  | levelIntervalExpiry (port drop : Nat)
  | relevel (path : Path) (tid value : Nat)
  | soundReport (port drop : Nat) (message : List Byte)
  | soundMiss (port drop : Nat)
  | modeConfirm (port drop : Nat) (message : List Byte)
  | modeApply (port drop : Nat)
  | modeRevert (port drop : Nat)
  | sleep (path : Path) (tid value : Nat)
  | deepSleepFromCycle (port drop : Nat)
  | wake (path : Path) (tid value : Nat)
  | wakeSlotMapStart (port drop : Nat)
  | wakeMiss (port drop : Nat)
  | release (path : Path) (tid value : Nat)
  | releaseFromCycle (port drop : Nat)
  | dropLost (port drop : Nat)
  | standbyCheck (port drop : Nat)
  | twinLossPeriodsExpiry (port : Nat)
  | twinFailover (path : Path) (tid value : Nat)
  | dropMovePeriodsExpiry (port drop : Nat)
  | twinMoveApply (port : Nat)
  | twinReturn (path : Path) (tid value : Nat)
  | twinEnable (path : Path) (tid value : Nat)
  | twinPartner (path : Path) (tid value : Nat)
  | portMode (path : Path) (tid value : Nat)
  | hostDataFrame (link : Link) (frame : HostFrame)
  | rollCallHoldEnd (port : Nat)
  | trunkTrainingStart (port : Nat)
  | retrain (path : Path) (tid value : Nat)
  | trunkTrain (port : Nat) (message : List Byte) (arrival : Int) (snr : Nat) (own : List (List Int × Int))
  | phaseETimeout (port : Nat)
  | trunkTrainEnd (port good : Nat)
  | trunkTime (port : Nat) (message : List Byte) (arrival : Int) (crcOk : Bool)
  | trunkAck (port : Nat) (message : List Byte)
  | trunkMode (port : Nat) (message : List Byte)
  | trunkModeApply (port : Nat)
  | trunkDown (port : Nat) (message : List Byte)
  | trunkLoss (port : Nat)
  | trunkLevelDown (port : Nat)
  | traceComplete (port : Nat)
  | benchCapture (path : Path) (tid value : Nat)
  | leadInCal (path : Path) (tid value : Nat)
  | vfCal (path : Path) (tid value : Nat)
  | insDwellEnd (cluster : Nat)
  | cellAllocA (path : Path) (tid value : Nat)
  | cellAllocB (path : Path) (tid value : Nat)
  | cellLayout (path : Path) (tid value : Nat)
  | cellStart (path : Path) (tid value : Nat)
  | cellWidth (path : Path) (tid value : Nat)
  | cellState (path : Path) (tid value : Nat)
  | snapshot
  | archiveBringUp (drive : DriveInfo)
  | archFormat (path : Path) (tid value : Nat)
  | archAdopt (path : Path) (tid value : Nat)
  | nvmeCompletion (pair cid : Nat) (status : NvmeStatus)
  | cmdTimeoutExpiry (pair cid : Nat) (abortDone fatal : Bool)
  | archiveCommit (senseMicroVolt : Nat)
  | holdupRetry (commitStore : Bool) (senseMicroVolt : Nat)
  | driveLinkLost
  | smartPoll (temp : Int) (wear warn : Nat)
  | selTrace (path : Path) (tid value : Nat)
  | findGo (path : Path) (tid value : Nat)
  | findComplete (path : Path)
  | linkClockDetected (link : Link) (ppm : Int)
  | linkAdaptSettled (link : Link) (eye0 eye1 : Nat)
  | linkBlockLock (link : Link)
  | linkDeskew (link : Link) (block0 block1 : BitVec 64)
  | linkUp (link : Link)
  | linkStepTimeout (link : Link)
  | linkLoss (link : Link) (cause : LossCause)
  | oxlRetrain (path : Path) (tid : Nat) (link : Link) (value : Nat)
  | linkEnable (path : Path) (tid : Nat) (link : Link) (value : Nat)
  | align (link : Link) (block0 block1 : BitVec 64)
  | alignTransmit (link : Link)
  | flow (link : Link) (block : BitVec 64)
  | frameTransmit (link : Link)
  | quietEntry (link : Link)
  | quietRxEntry (link : Link)
  | quietExit (link : Link)
  | quietPeriodicExit (link : Link)
  | quietActivityTimeout (link : Link)
  | linkTrafficMove (link : Link) (hostCut : Bool)
  | returnHoldExpiry (link : Link)
  | linkMode (path : Path) (tid value : Nat)
  | preferred (path : Path) (tid value : Nat)
  | forceSwitch (path : Path) (tid value : Nat)
  | prbsGen (path : Path) (tid : Nat) (link : Link) (lane value : Nat)
  | prbsCheck (path : Path) (tid : Nat) (link : Link) (lane value : Nat)
  | prbsLock (link : Link) (lane : Nat) (bits : List Bool)
  | prbsClear (path : Path) (tid : Nat) (link : Link) (lane value : Nat)
  | readRecord (link : Link) (reqId recSeq first count : Nat)
  | readDriveBlocks (link : Link) (reqId block first count : Nat)
  | cancel (link : Link) (reqId : Nat)
  | resetCmdController (path : Path) (tid : Nat)
  | resetCmdDevice (path : Path) (tid : Nat)
  | lcRequest (path : Path) (tid value : Nat)
  | lcEntryErasure
  | fwBankErase (path : Path) (tid value : Nat)
  | fwEraseComplete (verified : Bool)
  | fwPageProgram (senseMicroVolt : Nat)
  | fwImageCheck
  | fwSwitch (path : Path) (tid value : Nat)
  | fwUpdateMigration (cluster : Nat)
  | fwUpdateSwitched
  | fwTrialEnd
  | clusterTargetDormant (path : Path) (tid : Nat)
  | clusterTargetWake (path : Path) (tid : Nat)
  | wakeAlarm (path : Path) (tid value : Nat)
  | wakeAlarmReached (cluster : Nat)
  | dormantEntry (cluster : Nat) (calibration : List Byte)
  | wakeStep (cluster : Nat) (measure : WakeMeasure)
  | portSteepEntry (port : Nat)
  | portSteepExit (port : Nat)
  | clusterSteepEntry (cluster : Nat)
  | clusterSteepExit (cluster : Nat)
  | pmbusRequestComplete (result : PmbusResult)
  | pmbusBusyPoll (statusWord : Nat)
  | pmbusRetry
  | pmbusPolling
  | avsAdjust (short ample : Bool)
  | thermalSample (temps : List Int)
  | throttleLift
  | thermalRestart
  | migration (port : Nat) (crcEqual : Bool) (badWords : List Nat)
  | engineTestComplete (engine : Nat) (responses : List Response)
  | engineFailing (engine : Nat) (fault : EngineFault)
  | engineExhausted (port : Nat)
  | sliceTestStart (mem : Mem)
  | sliceTestAbort (mem : Mem)
  | sliceTestComplete (mem : Mem) (words : List (BitVec 64)) (badWords : List Nat)
  | converterCalibration (cluster : Nat) (findings : List CalFinding)
  | patrolScrub (mem : Mem) (address : Nat) (ecc : Ecc)
  | clusterLinkLoss (cluster : Nat)
  | fullTest (path : Path) (tid value : Nat)
  | fullTestComplete (results : List UnitTest)
  | startupCheck (checks : List ClusterCheck)
  | faultAck (path : Path) (tid value : Nat)
  | faultClear (path : Path) (tid value : Nat)
  | fecRearm (path : Path) (tid value : Nat)
  | faultInject (path : Path) (tid value : Nat)
  | injectedRaise
  | powerOnReset
  | vddAonFall
  | clusterRailFall (cluster : Nat) (line : Bool)
  | resetN
  | watchdogExpiry
  | mcResetEnd
  | boot
  | startup (badPages : List Nat)
  | nvmPageProgramComplete (verified : Bool)
  | lineShort (port : Nat)
  | corePllUnlock
  | clusterPllUnlock (cluster : Nat)
  | quietRxExit (link : Link)
  | quietExitAlignTimeout (link : Link)
  | opUnknown (path : Path) (tid op index sub : Nat)
  | frameError (link : Link) (fault : FrameFault)
deriving DecidableEq, Repr

end Sys2Proof
end

