-- ==== Sys2Proof/Config.lean ====
section
/-! DEFINITION. What an implementation fixes and the manual does not state: opaque constants, of which nothing can be
proved, and free values. A statement that holds of the model holds whatever these are (notes/assumptions/5). -/

namespace Sys2Proof

/-- Values that the manual leaves open: the n-th free value that the machine draws, n being `State.free`. -/
opaque Config.freeValue : Nat → Int

/-- The 64 bits of SERIAL 1000.04, set at manufacture (R362). -/
opaque Config.serialBits : BitVec 64

/-- SERIAL 1000.04 (R362). -/
def Config.serial : Nat := Config.serialBits.toNat

/-- Whether the order code is UB9144-FCI rather than UB9144-FCB (R1, R362). -/
opaque Config.industrial : Bool

/-- DIE_STEPS 1000.05: the step byte of die C and of dies L0–L8 (R362). -/
opaque Config.dieStep : Nat → Byte

/-- PKG_STEP 1000.06 (R362). -/
opaque Config.pkgStep : Byte

/-- TRIM F000.01 as written at manufacture (R379). -/
opaque Config.trim : List Byte

/-- GOLDEN_MISR F001.01 as written at manufacture (R394). -/
opaque Config.goldenMisr : List Byte

/-- The SHA-256 digest of bytes (R455). -/
opaque Config.sha256 : List Byte → List Byte

/-- The internal bus address of a word, by memory code and word number (R376 FEC_ADDRESS). -/
opaque Config.busAddress : Nat → Nat → Nat

/-- The authorisation code in the one-time cells for the transition to a life-cycle state (R365). -/
opaque Config.lcCode : Nat → Nat

/-- Whether an ECDSA P-256 signature over a digest verifies with the Dunwen public key: the digest, then r and s, most significant
byte first (R455, R456). -/
opaque Config.signatureGood : List Byte → List Byte → List Byte → Bool

/-- A byte of a block of the archive drive that no record, label or journal known to the device covers, by block and
place (R271, R318). -/
opaque Config.driveByte : Nat → Nat → Byte

/-- Rate of the error bound, ns for each second, over unpowered time when both timing inputs were qualified at the loss of
power, for which R67 has no row (R74). -/
opaque Config.unpoweredRate : Nat

/-- What the interpolation between converter samples gives: the samples, a time in ps and the sample period in ps; the method
is left open (R228). -/
opaque Config.interpolated : List Int → Nat → Nat → Int

/-- The value that a computation of the manual leaves open where it takes the logarithm of 0, or of a quotient by 0: a name
for the place, and the finite operand. -/
opaque Config.logOfZero : Nat → Int → Int

/-- The quotient that a computation of the manual leaves open where its divisor is 0: a name for the place, and the
dividend. -/
opaque Config.quotientByZero : Nat → Int → Int

end Sys2Proof
end

