-- ==== Sys2Proof/Machine/State.lean ====
section
/-! DEFINITION. The state of the UB9144 as plain data, and the state after reset. Every field names the rule that gives
it. `Tab` is the one sparse table type: a list of key and value pairs with strictly rising keys, in which an unlisted
key reads as the default that the reader names. The dictionary's scalar objects live in one table, `State.regs`. -/

namespace Sys2Proof.Machine

/-- A sparse table: key and value pairs, keys strictly rising. -/
abbrev Tab (α : Type) := List (Nat × α)

/-- The reasons for which a command can fault. The manual gives every command of its table an effect, so there are
none: no command raises a fault. -/
inductive Fault where
deriving DecidableEq, Repr

/-- The reasons for which a command can be refused. -/
inductive Refusal where
  /-- No meaning yet for the row; raised by a dispatch arm only. Safe: it proves nothing about the row. -/
  | notModelled (mnemonic : String)
deriving DecidableEq, Repr

/-! ## Access paths and management -/

/-- An open domain transfer of a path (R342–R344). -/
structure Xfer where
  /-- Object of the transfer: code. 24 bits. R342. -/
  code : Nat
  /-- Address as the host named it: index. 16 bits. R344. -/
  index : Nat
  /-- Address as the host named it: subindex. 8 bits. R344. -/
  sub : Nat
  /-- Instance selected at the init. R342. -/
  inst : Nat
  /-- A write transfer. R343. -/
  write : Bool
  /-- Length of the copy, or stated length of the content. 32 bits. R342, R343. -/
  length : Nat
  /-- The copy, or the bytes taken so far. R342, R343. -/
  data : List Byte
  /-- Tick of the init or of the last segment. R344. -/
  lastSeg : Nat
deriving DecidableEq, Repr

/-- One access path (R329). -/
structure PathSt where
  /-- SEL_PORT 2000.00. 8 bits. R340. Reset 0. -/
  selPort : Nat := 0
  /-- SEL_DROP 2001.00. 8 bits. R340. Reset 1. -/
  selDrop : Nat := 1
  /-- SEL_CELL 2002.00. 20 bits. R340. Reset 0. -/
  selCell : Nat := 0
  /-- SEL_CLUSTER 2003.00. 8 bits. R340. Reset 0. -/
  selCluster : Nat := 0
  /-- SEL_TRACE 2004.00. 32 bits. R340. Reset 0. -/
  selTrace : Nat := 0
  /-- AUTO_STEP 2005.00. 8 bits. R340. Reset 0. -/
  autoStep : Nat := 0
  /-- FIND_PORT 5810.01. 8 bits. R290. Reset 0. -/
  findPort : Nat := 0
  /-- FIND_TIME 5810.02. 64 bits. R290. Reset 0. -/
  findTime : Nat := 0
  /-- FIND_KIND 5810.03. 8 bits. R290. Reset 0. -/
  findKind : Nat := 0
  /-- FIND_STATE 5810.06. 8 bits. R290. Reset 0. -/
  findState : Nat := 0
  /-- FIND_RESULT 5810.07. 64 bits. R290. Reset 0. -/
  findResult : Nat := 0
  /-- The open domain transfer. R344. Reset none. -/
  xfer : Option Xfer := none
  /-- Address (index, subindex) of a transfer that ended other than by DOMAIN_END. R344. Reset none. -/
  ended : Option (Nat × Nat) := none
deriving DecidableEq, Repr

/-- A management request as its message carries it (R330, R331). -/
structure MgmtReq where
  /-- op, byte 0. 8 bits. R330. -/
  op : Nat
  /-- tid, byte 1. 8 bits. R330. -/
  tid : Nat
  /-- index, bytes 5:4. 16 bits. R330. -/
  index : Nat := 0
  /-- subindex, byte 6. 8 bits. R330. -/
  sub : Nat := 0
  /-- byte 7, reserved. 8 bits. R330. -/
  last : Nat := 0
  /-- value field of a WRITE. 64 bits. R331. -/
  value : Nat := 0
  /-- length of a DOMAIN_WRITE_INIT, offset of a segment request. 32 bits. R331. -/
  arg : Nat := 0
  /-- count of a segment request. 16 bits. R331. -/
  count : Nat := 0
  /-- data bytes of a SEGMENT_WRITE. R331. -/
  data : List Byte := []
  /-- Whether the message's length is right for its op. R331. -/
  lengthOk : Bool := true
  /-- Its link has been lost while it waited: its response is discarded. R324. Reset 0. -/
  silent : Bool := false
deriving DecidableEq, Repr

/-- The management SPI (R353–R356). -/
structure SpiSt where
  /-- The response held for FETCH; RDY is its presence. R354, R356. Reset none. -/
  held : Option (List Byte) := none
  /-- BUSY: a request is executing. 1 bit. R354. Reset 0. -/
  busy : Bool := false
  /-- REJ. 1 bit. R354. Reset 0. -/
  rej : Bool := false
  /-- An ABANDON came while the request executed: its response is discarded. R356. Reset 0. -/
  abandoned : Bool := false
  /-- The bytes that MSPI_DO carried in the last transaction. R353. Reset empty. -/
  miso : List Byte := []
deriving DecidableEq, Repr

/-- The management controller and its requests (R350, R363, R448). -/
structure MgmtSt where
  /-- The SPI path. R329. -/
  spi : PathSt := {}
  /-- The OXL-A path. R329. -/
  oxlA : PathSt := {}
  /-- The OXL-B path. R329. -/
  oxlB : PathSt := {}
  /-- Requests that arrived during a management-controller reset, in order. R363, R448. Reset empty. -/
  waiting : List (Path × MgmtReq) := []
  /-- The management controller does not run: a reset of it is in progress, or the firmware has not started. R448, R449.
  Reset 1. -/
  mcReset : Bool := true
  /-- The path and the response that went out right before the last reset by RESET_CMD 2. R363. Reset none. -/
  sentLast : Option (Path × List Byte) := none
deriving DecidableEq, Repr

/-! ## Plant time -/

/-- Time base, grid and time quality (R57–R77). -/
structure TimeSt where
  /-- Ticks that have passed: the model's own count behind every duration, which runs on through resets. Reset 0. -/
  tick : Nat := 0
  /-- Tick of the last reset, by which resets of one moment are told. R445. Reset none. -/
  resetAt : Option Nat := none
  /-- TIME64 of the present tick. 64 bits. R61. Reset 0. -/
  time64 : Nat := 0
  /-- Cycle length N in force, in ms. 8 bits. R63, R64. Reset 4. -/
  n : Nat := 4
  /-- TIME64 at which the next cycle of the grid starts. 64 bits. R63. Reset 0. -/
  nextCycle : Nat := 0
  /-- Cycles started since the core started: the model's own count, by which it names future cycles. R63, R65. Reset 0. -/
  cycles : Nat := 0
  /-- TIME64 of the last datum handled. R59. Reset none. -/
  lastDatum : Option Nat := none
  /-- The grid runs. R73. Reset 0. -/
  running : Bool := false
  /-- The device waits for timing inputs at start-up. R73. Reset 0. -/
  starting : Bool := false
  /-- Tick at which that wait began. R73. Reset 0. -/
  waitFrom : Nat := 0
  /-- REF_10M qualified, REF_STATUS[0]. R57. Reset 0. -/
  ref10m : Bool := false
  /-- REF_1PPS qualified, REF_STATUS[1]. R57. Reset 0. -/
  pps : Bool := false
  /-- Consecutive candidate edges counted. R57, R60. Reset 0. -/
  candidates : Nat := 0
  /-- Tick since which REF_10M is qualified, or the trunk-derived tick is in use, without a break. R58, R75. Reset 0. -/
  qualifiedAt : Nat := 0
  /-- The grid was started without inputs and nothing has been acquired since: grade 3. R73. Reset 0. -/
  unsync : Bool := false
  /-- Time-quality grade, TQ_GRADE. 2 bits. R66. Reset 3. -/
  grade : Nat := 3
  /-- Error bound at `boundAt`, ns. 32 bits. R67. Reset 0. -/
  bound : Nat := 0
  /-- Tick at which `bound` was taken. R67. Reset 0. -/
  boundAt : Nat := 0
  /-- Offset still to slew, ticks; positive lengthens: SLEW_REMAIN. 32 bits. R70. Reset 0. -/
  slew : Int := 0
  /-- The slew under way is the correction of one accepted edge in holdover: no count, no flag. R67. Reset 0. -/
  quietSlew : Bool := false
  /-- Phase of the time base still to steer, 1/256 ns; positive delays it. R67, R76, R181. Reset 0. -/
  steer : Int := 0
  /-- The held tick of the present cycle has passed. R70. Reset 0. -/
  held : Bool := false
  /-- Realign pending, REF_STATUS[4]. R69. Reset 0. -/
  realignPending : Bool := false
  /-- Realignment begun: ports stop after the cycle in progress, the next accepted edge starts the grid. R71. Reset 0. -/
  realigning : Bool := false
  /-- PPS_RESIDUAL 210A.00, ns. I32. R59. Reset 0. -/
  residual : Int := 0
  /-- Pending epoch: the TIME64 value written and the present-numbering datum at which it applies. R62. Reset none. -/
  epoch : Option (Nat × Nat) := none
  /-- Tick of the write of the pending epoch, which waits for the grid to start. R62. Reset none. -/
  epochTick : Option Nat := none
  /-- The pending numbering is an adoption from a trunk. R174. Reset 0. -/
  adopting : Bool := false
  /-- TIME_ANNOUNCE of the pending epoch has been sent. R114. Reset 0. -/
  announced : Bool := false
  /-- EPOCH_PAGE. 2 bits. R264. Reset 0. -/
  page : Nat := 0
  /-- EPOCH_LOG: old and new TIME64, newest first, at most 4. R264. Reset empty. -/
  epochLog : List (Nat × Nat) := []
  /-- Trunk hops from the reference inputs, TRUNK_HOPS. 8 bits. R76. Reset 0. -/
  hops : Nat := 0
  /-- The tick is derived from the trunk that is the time source. R75. Reset 0. -/
  trunkTick : Bool := false
  /-- Grade taken from the trunk that is the time source. 2 bits. R76. Reset 3. -/
  trunkGrade : Nat := 3
deriving DecidableEq, Repr

/-! ## The always-on domain -/

/-- One copy of one cask byte: its value and whether its parity is good (R50). -/
structure CaskByte where
  /-- The byte. 8 bits. R50. -/
  val : Byte := 0
  /-- Parity good. 1 bit. R50. -/
  ok : Bool := true
deriving DecidableEq, Repr

/-- One sleep ledger entry (R91). -/
structure Ledger where
  /-- TIME64 at entry to Dormant. 64 bits. R91. -/
  entry : Nat
  /-- TIME64 of the wake alarm. 64 bits. R91. -/
  alarm : Nat
  /-- TIME64 of the datum of the time reload. 64 bits. R91. -/
  exit : Nat
  /-- Grade at entry. 8 bits. R91. -/
  gradeIn : Nat
  /-- Grade at exit. 8 bits. R91. -/
  gradeOut : Nat
  /-- flags. 8 bits. R91. -/
  flags : Nat
  /-- The entry is still open (no exit yet). R91, R426. -/
  opened : Bool
deriving DecidableEq, Repr

/-- A fault record (R410). -/
structure FaultRec where
  /-- TIME64 of the event. 64 bits. R410. -/
  time : Nat
  /-- Source number. 6 bits. R410. -/
  source : Nat
  /-- Class after escalation, 1–4. R410. -/
  cls : Nat
  /-- Default class. R410. -/
  dflt : Nat
  /-- flags. 8 bits. R410. -/
  flags : Nat
  /-- 1 raised, 2 acknowledged, 3 cleared. R410. -/
  event : Nat
  /-- access code. 8 bits. R410. -/
  access : Nat
  /-- master code. 16 bits. R410. -/
  master : Nat
  /-- address. 32 bits. R410. -/
  address : Nat
  /-- The source's count after the event. 32 bits. R410. -/
  count : Nat
  /-- Detail: (width in bytes, value) in order. At most 32 bytes. R403, R410. -/
  detail : List (Nat × Nat)
deriving DecidableEq, Repr

/-- The first-error capture (R408, R409). -/
structure Capture where
  /-- The captured raise. R408. -/
  fault : FaultRec
  /-- The captured raise is injected: bit [7] of FEC_SOURCE. R409. -/
  injected : Bool
  /-- FEC_COINCIDENT. 64 bits. R409. -/
  coincident : Nat
  /-- FEC_INJECTED. 64 bits. R409. -/
  coInjected : Nat
  /-- Tick of the captured core cycle. R408. -/
  tick : Nat
deriving DecidableEq, Repr

/-- One firmware bank's entry of the boot record (R458). -/
structure BankRecord where
  /-- The bank is barred. R458. Reset 0. -/
  barred : Bool := false
  /-- Tick of the switch to the bank, while its trial runs. R458. Reset none. -/
  trialFrom : Option Nat := none
  /-- Ticks of the watchdog resets while the bank ran, newest first. R458. Reset empty. -/
  watchdogs : List Nat := []
deriving DecidableEq, Repr

/-- The always-on domain: what survives a device-scope reset (R445). -/
structure AonSt where
  /-- Real-time clock, ticks. 64 bits. R54. Reset 0. -/
  rtc : Nat := 0
  /-- The always-on domain has kept time since it was powered. R73. Reset 0. -/
  keptTime : Bool := false
  /-- An epoch has been written since the domain was powered. R66, R74. Reset 0. -/
  epochWritten : Bool := false
  /-- Time has been acquired since the domain was powered. R66. Reset 0. -/
  acquired : Bool := false
  /-- Learning complete, REF_STATUS[2]. R58. Reset 0. -/
  learned : Bool := false
  /-- Learned offset of XO_25M, XO_OFFSET, ppm × 65,536. Q16. R58. Reset 0. -/
  xoOffset : Int := 0
  /-- Input state (REF_10M, REF_1PPS) at the loss of core power. R74. Reset lost. -/
  inputsAtLoss : Bool × Bool := (false, false)
  /-- Grade, bound (ns) and tick at the loss of core power. R74. Reset (3, 0, 0). -/
  qualityAtLoss : Nat × Nat × Nat := (3, 0, 0)
  /-- Cask copy A: save set of cluster k at 1,024 k. Bytes with parity. R50, R427. Reset 0, parity good. -/
  caskA : Tab CaskByte := []
  /-- Cask copy B. R50, R427. Reset 0, parity good. -/
  caskB : Tab CaskByte := []
  /-- Sleep ledgers by cluster, newest first, at most 16. R91. Reset empty. -/
  ledgers : Tab (List Ledger) := []
  /-- WAKE_ALARM 2200.03 by cluster; unlisted 0. 64 bits. R428. Reset 0. -/
  alarms : Tab Nat := []
  /-- First-error capture; FEC_VALID is its presence. R408. Reset none. -/
  capture : Option Capture := none
  /-- FAULT_LOG: last 64 records, newest first. R410. Reset empty. -/
  faultLog : List FaultRec := []
  /-- Counts of FAULT_TABLE by source; unlisted 0. 32 bits. R404. Reset 0. -/
  faultCounts : Tab Nat := []
  /-- TIME64 of the last raise by source. 64 bits. R376. Reset 0. -/
  faultTimes : Tab Nat := []
  /-- CORE_SHUTDOWNS 7111.04. 32 bits. R375. Reset 0. -/
  coreShutdowns : Nat := 0
  /-- TJ_GOVERN at the last core-die shutdown. R403 source 31. Reset 0. -/
  shutdownTemp : Int := 0
  /-- RESETS 1031.02. 32 bits. R362. Reset 0. -/
  resets : Nat := 0
  /-- Boot record, bank 0. R458. -/
  bank0 : BankRecord := {}
  /-- Boot record, bank 1. R458. -/
  bank1 : BankRecord := {}
deriving DecidableEq, Repr

/-! ## Lines: bursts, maps, contexts -/

/-- A burst that the head-end puts on a line (R100, R104), or a beacon (R123). -/
structure Burst where
  /-- Mode code (R94); 100h for the beacon. R94, R123. -/
  mode : Nat
  /-- type. 4 bits. R104. -/
  typ : Nat
  /-- drop field. 6 bits. R104. -/
  drop : Nat
  /-- epoch. 6 bits. R104. -/
  epoch : Nat
  /-- seq. 8 bits. R104. -/
  seq : Nat
  /-- ack. 8 bits. R104. -/
  ack : Nat
  /-- flags. 4 bits. R104. -/
  flags : Nat
  /-- Payload before whitening. R100. -/
  payload : List Byte
  /-- Tick of the first preamble symbol in the cycle. R100. -/
  start : Nat
  /-- Number of the cycle that holds the window; of the first cycle of a beacon's window. R118, R124. -/
  cycle : Nat := 0
  /-- The drop part of the whitening seed: the drop field, or a trunk frame's place in its train. R118, R164. -/
  seed : Nat := drop
  /-- The direction part of the seed: the head-end receives it. R118, R164. -/
  up : Bool := false
  /-- What the start lies beyond the tick, 1/256 tick: a partner side's reply in phase E. R172. -/
  startFrac : Nat := 0
  /-- Attenuation of A, or of A_b for the beacon, 0.5 dB. R97, R122. -/
  atten : Nat := 0
deriving DecidableEq, Repr

/-- One slot of a slot map (R84). -/
structure Slot where
  /-- Drop id. R84. -/
  drop : Nat
  /-- Map cycle. R84. -/
  cycle : Nat
  /-- First tick. R84. -/
  start : Nat
  /-- Length with guard, ticks. R84. -/
  len : Nat
deriving DecidableEq, Repr

/-- A slot map (R84). -/
structure SlotMap where
  /-- Map period P. R84. Reset 1. -/
  period : Nat := 1
  /-- The slots in ascending drop id. R84. Reset empty. -/
  slots : List Slot := []
deriving DecidableEq, Repr

/-- The map announced and not yet in force (R484). -/
structure PendingMap where
  /-- The map. R484. -/
  map : SlotMap
  /-- Its named cycle, in cycles of the grid. R86. -/
  apply : Nat
deriving DecidableEq, Repr

/-- A line management message that is repeated in every downstream window (R485), or waits to be sent once. -/
structure OutMsg where
  /-- Drop id. R485. -/
  drop : Nat
  /-- Message bytes. R112. -/
  bytes : List Byte
  /-- Cycle that the message names: repeats stop before it; none for a message sent once. R485. -/
  untilCycle : Option Nat
  /-- Sequence numbers of the frames that have carried it. R485. -/
  seqs : List Nat
  /-- First cycle from which it is sent. R211. -/
  fromCycle : Nat
deriving DecidableEq, Repr

/-- A frame awaiting acknowledgement (R200). -/
structure SentFrame where
  /-- Sequence number. 8 bits. R197. -/
  seq : Nat
  /-- Burst type. R108. -/
  typ : Nat
  /-- Payload. R108. -/
  payload : List Byte
  /-- Retransmitted once. R200. -/
  rtx : Bool
  /-- To be sent again first in the next window. R200. -/
  due : Bool
  /-- Cycle in which it was last sent. R198. -/
  cycle : Nat
  /-- It carries a repeated message: no retransmission, no count. R485. -/
  repeated : Bool
deriving DecidableEq, Repr

/-- A drop context, 512 bytes (R139, R218), with the link procedure's working state (R197–R200). Counters live in the
object table. -/
structure Ctx where
  /-- ffe. 48 × I16. R139. Reset: start context. -/
  ffe : List Int := List.replicate 12 0 ++ [0x4000] ++ List.replicate 35 0
  /-- dfe. 32 × I16. R139. Reset 0. -/
  dfe : List Int := List.replicate 32 0
  /-- agc_gain, 1/16 dB. U16. R139. Reset 0 (idle gain). -/
  agcGain : Nat := 0
  /-- phase. U16. R139. Reset 0. -/
  phase : Nat := 0
  /-- freq_offset. I16. R139. Reset 0. -/
  freqOffset : Int := 0
  /-- slicer_scale. U16. R139. Reset 4000h. -/
  slicerScale : Nat := 0x4000
  /-- snr, 1/16 dB. U16. R139. Reset 0. -/
  snr : Nat := 0
  /-- The next SNR update sets snr. R156. Reset 1. -/
  snrFresh : Bool := true
  /-- rx_ampl. I16. R139. Reset 0 (DESIGN CHOICE, notes/assumptions/4: the table gives a dash). -/
  rxAmpl : Int := 0
  /-- arrival_offset, 1/256 tick. I32. R139. Reset 0. -/
  arrival : Int := 0
  /-- last_rx. TIME64. R139. Reset 0. -/
  lastRx : Nat := 0
  /-- ctx_flags. U8. R139. Reset 0. -/
  ctxFlags : Nat := 0
  /-- identity. 48 bits. R218. Reset 0. -/
  identity : Nat := 0
  /-- epoch. 6 bits. R218. Reset 0. -/
  epoch : Nat := 0
  /-- state of R184. U8. R218. Reset 0. -/
  state : Nat := 0
  /-- role_flags. U8. R218. Reset 0. -/
  roleFlags : Nat := 0
  /-- mode. U8. R218. Reset 60h. -/
  mode : Nat := 0x60
  /-- prev_mode. U8. R218. Reset 60h. -/
  prevMode : Nat := 0x60
  /-- next_mode. U8. R218. Reset 60h. -/
  nextMode : Nat := 0x60
  /-- max_baud. U8. R218. Reset 0. -/
  maxBaud : Nat := 0
  /-- caps. U8. R218. Reset 0. -/
  caps : Nat := 0
  /-- tx_atten. U8. R218. Reset 0. -/
  txAtten : Nat := 0
  /-- mode_apply. U32. R218. Reset 0. -/
  modeApply : Nat := 0
  /-- advance, 1/256 tick. I32. R218. Reset 0. -/
  advance : Int := 0
  /-- tx_seq. U8. R218. Reset 0. -/
  txSeq : Nat := 0
  /-- rx_next. U8. R218. Reset 0. -/
  rxNext : Nat := 0
  /-- ack_in. U8. R218. Reset 0. -/
  ackIn : Nat := 0
  /-- standby_mode. U8. R218. Reset 60h. -/
  standbyMode : Nat := 0x60
  /-- admitted. TIME64. R218. Reset 0. -/
  admitted : Nat := 0
  /-- last_level. TIME64. R218. Reset 0. -/
  lastLevel : Nat := 0
  /-- sound_snr. 7 × U16. R218. Reset 0. -/
  soundSnr : List Nat := List.replicate 7 0
  /-- level_margin. I16. R218. Reset 0. -/
  levelMargin : Int := 0
  /-- ds_ampl. I16. R218. Reset 8000h (none). -/
  dsAmpl : Int := -32768
  /-- A slot of the drop has been held in the present map period. R212. Reset 0. -/
  slotHeld : Bool := false
  /-- A good burst of the drop came in the present map period. R212. Reset 0. -/
  goodSeen : Bool := false
  /-- A preamble was detected in a slot of the drop in the present map period. R215. Reset 0. -/
  preambleSeen : Bool := false
  /-- The last slot's acknowledgement point has been handled. R198. Reset 1. -/
  pointDone : Bool := true
  /-- Frames for the drop waiting in the frame buffer, oldest first: (epoch at arrival, type, payload). R87. -/
  queue : List (Nat × Nat × List Byte) := []
  /-- Frames awaiting acknowledgement, oldest first. R200. -/
  sent : List SentFrame := []
  /-- Marked sequence numbers of received frames. R200. -/
  marked : List Nat := []
  /-- named_count of R200. -/
  named : Nat := 0
  /-- The composed ack of the present point. R200. -/
  ackOut : Nat := 0
  /-- A sequenced frame came in the last slot: an ACKV burst is owed. R198. -/
  ackOwed : Bool := false
  /-- Map periods in a row without a good burst. R212. -/
  silent : Nat := 0
  /-- Map periods in a row in which the drop's slots stayed empty of preamble. R215. -/
  emptyPeriods : Nat := 0
  /-- Non-beacon cycles since the last burst addressed to the drop. R199. -/
  sinceTx : Nat := 0
  /-- Arrival offsets of the last good bursts, newest first, at most 16. R195. -/
  arrivals : List Int := []
  /-- Map periods left of the revert watch after a switch; none outside it. R209. -/
  revertLeft : Option Nat := none
  /-- A return to the previous mode is in force until a new map. R209. -/
  reverted : Bool := false
  /-- MODE_CONFIRM of the pending change has come. R208. -/
  confirmed : Bool := false
  /-- Attenuation announced with the pending change. R208. -/
  nextAtten : Nat := 0
  /-- from_cycle and reason of a release under way. R212. -/
  releasing : Option (Nat × Nat) := none
  /-- from_cycle of a DEEP_SLEEP under way. R210. -/
  sleeping : Option Nat := none
  /-- Wake misses so far, while a wake is under way. R211. -/
  waking : Option Nat := none
  /-- First cycle at least 20 ms after the beacon window that carried the wake bit. R211. -/
  wakeFrom : Option Nat := none
  /-- Apply cycle of the wake. R211. -/
  wakeApply : Option Nat := none
  /-- Map periods left in which the woken drop must be heard. R211. -/
  wakeLeft : Option Nat := none
  /-- The port on which the drop was admitted holds this context. R213. Reset 0. -/
  homeHere : Bool := false
  /-- Port from which the drop was moved here while asleep. R216. Reset none. -/
  movedAsleep : Option Nat := none
  /-- It was moved asleep to a mode below its previous one: it is levelled after its wake. R22, R216. Reset 0. -/
  levelAtWake : Bool := false
  /-- Apply cycle of a TWIN_MOVE under way. R216. -/
  moving : Option Nat := none
  /-- First cycle of the admission under way, and whether it has been repeated. R193. -/
  admitting : Option (Nat × Bool) := none
  /-- The role epoch of the admission under way, which holds from first_cycle. R201. Reset none. -/
  epochNext : Option Nat := none
  /-- Order of the answer among the admissions under way. R193. -/
  answerOrder : Nat := 0
  /-- The standby advance, 1/256 tick. R214. -/
  standbyAdvance : Int := 0
  /-- Bauds down from the home mode's at which the next standby check is made. R214. Reset 0. -/
  standbyDown : Nat := 0
  /-- Sounding cycle and mode of the standby check announced, on the standby port's context. R214. Reset none. -/
  standbyAt : Option (Nat × Nat) := none
  /-- SNR_b and arrival offset of the SOUND burst of the standby check, once received. R153, R214. Reset none. -/
  standbyHeard : Option (Nat × Int) := none
  /-- Tick of the last standby check, or of the start of the standby state. R214. Reset 0. -/
  standbyTick : Nat := 0
  /-- A keepalive ACK is owed in the drop's next slot cycle. R199. Reset 0. -/
  keepOwed : Bool := false
  /-- Tick of the last levelling. R204. Reset 0. -/
  levelTick : Nat := 0
  /-- A levelling caused by LEVEL_INTERVAL or MARGIN is deferred by the throttle. R440. Reset 0. -/
  levelDeferred : Bool := false
  /-- Advance announced by a ranging correction, and its apply cycle. R195. Reset none. -/
  advanceNext : Option (Nat × Int) := none
deriving DecidableEq, Repr

/-- Where the receiver of a branch port listens (R129). -/
inductive RxSpan where
  | off | slot (drop : Nat) | contention | sounding (drop : Nat) | idle
deriving DecidableEq, Repr

/-- Acquisition states (R132). -/
inductive RxState where
  | off | armed | acquire | search | header | payload | tail | idle
deriving DecidableEq, Repr

/-- The header of a burst in reception (R104). -/
structure RxHeader where
  typ : Nat
  drop : Nat
  epoch : Nat
  seq : Nat
  ack : Nat
  length : Nat
  flags : Nat
  /-- The 64 header bits, for the CRC-32 of R116. -/
  bits : BitVec 64
deriving DecidableEq, Repr

/-- The equaliser fields that a burst leaves (bytes 183:0 of a drop context), with its own SNR_b and arrival offset (R139,
R156, R158). -/
structure EqFields where
  /-- ffe. 48 × I16. R139. -/
  ffe : List Int
  /-- dfe. 32 × I16. R139. -/
  dfe : List Int
  /-- agc_gain. U16. R139. -/
  agcGain : Nat
  /-- phase. U16. R139. -/
  phase : Nat
  /-- freq_offset. I16. R139. -/
  freqOffset : Int
  /-- slicer_scale. U16. R139. -/
  slicerScale : Nat
  /-- SNR_b, 1/16 dB. U16. R156. -/
  snrB : Nat
  /-- rx_ampl. I16. R139. -/
  rxAmpl : Int
  /-- Arrival offset, 1/256 tick. I32. R158. -/
  arrival : Int
deriving DecidableEq, Repr

/-- Equaliser fields kept from a ROLL_ANSWER (R146). -/
structure KeptEq where
  /-- Answering identity. R146. -/
  identity : Nat
  /-- Cycle of the answer, in cycles of the grid. R146. -/
  cycle : Nat
  /-- TIME64 of the end of the answer. R139, R146. -/
  time : Nat
  /-- The fields kept. R146. -/
  eq : EqFields
deriving DecidableEq, Repr

/-- The receiver of a branch port (R129–R158). -/
structure RxSt where
  /-- Acquisition state. R132. Reset off. -/
  state : RxState := .off
  /-- Span in force. R129. Reset off. -/
  span : RxSpan := .off
  /-- Owner of the context in the second receive-state set. R141. Reset none. -/
  loaded : Option Nat := none
  /-- The loaded or active state is the start context. R140, R144. Reset 0. -/
  useStart : Bool := false
  /-- The loaded state, not yet active, is the start context. R140, R144. Reset 0. -/
  loadedStart : Bool := false
  /-- Mode expected of the burst. U8. R129. Reset 60h. -/
  mode : Nat := 0x60
  /-- A slot whose owner's context has been replaced by the next one's before it ended, no preamble seen in it: its owner.
  R141, R155. Reset none. -/
  ending : Option Nat := none
  /-- Noise-floor estimate, 1/16 dB × 65,536. R131 NOISE_FLOOR. Reset 0 (DESIGN CHOICE, notes/assumptions/4: the table gives
  a dash). -/
  noiseFloor : Int := 0
  /-- Energy reference, 1/16 dB. R132. Reset 0. -/
  reference : Int := 0
  /-- The AGC is frozen. R136. Reset 0. -/
  agcFrozen : Bool := false
  /-- A recovery period is open. R151. Reset 0. -/
  recovery : Bool := false
  /-- The search runs after a return under R150. R150. Reset 0. -/
  returned : Bool := false
  /-- A preamble was detected in the present slot. R155. Reset 0. -/
  preamble : Bool := false
  /-- OUT_OF_SLOT has been counted in the present idle span. R130. Reset 0. -/
  energySeen : Bool := false
  /-- Header of the burst in reception. R107. Reset none. -/
  header : Option RxHeader := none
  /-- The received-frame part lacked room at the header. R154. Reset 0. -/
  noRoom : Bool := false
  /-- An EQ_RESET was written for the owner during the reception. R145. Reset 0. -/
  eqReset : Bool := false
  /-- Equaliser fields kept from answers. R146. Reset empty. -/
  kept : List KeptEq := []
  /-- Sync words found in the trunk train of the present cycle. R164. Reset 0. -/
  frames : Nat := 0
  /-- Sampling phase that the timing recovery holds: of the context that it starts from, then of the burst received. U16. R137,
  R139. Reset 0. -/
  phase : Nat := 0
  /-- Frequency estimate of the timing recovery: the context's freq_offset, 0 from the start context, then what the burst
  received has brought it to. I16. R137, R139. Reset 0. -/
  freq : Int := 0
deriving DecidableEq, Repr

/-- A ROLL_ANSWER waiting for its decision (R191). -/
structure Answer where
  identity : Nat
  caps : Nat
  txAtten : Nat
  lastId : Nat
  /-- Arrival offset, 1/256 tick. R190. -/
  arrival : Int
  /-- Received peak, 1/16 dB. R192. -/
  rxAmpl : Int
  /-- Cycle of the answer. R191. -/
  cycle : Nat
deriving DecidableEq, Repr

/-- A levelling under way (R204–R208). -/
structure LevelRun where
  /-- Drop id. R204. -/
  drop : Nat
  /-- Attenuation of the run's bursts. R207. -/
  atten : Nat
  /-- Baud code being sounded. R207. -/
  baud : Nat
  /-- Mode code of both SOUND bursts. R206. -/
  mode : Nat
  /-- Payload bytes of both SOUND bursts. R205. -/
  length : Nat
  /-- Sounding cycle announced for it. R206. -/
  cycle : Option Nat
  /-- Misses of this baud. R206. -/
  misses : Nat
  /-- Upstream SNR_b of the sounding, once received. R207. -/
  upSnr : Option Nat
  /-- It waits for the levellings of the port that started before it. R205. -/
  held : Bool := false
  /-- Results so far: baud, level code (none when no level met the margin), SNR, peak reported. R207. -/
  results : List (Nat × Option Nat × Nat × Int)
deriving DecidableEq, Repr

/-! ## Trunks -/

/-- A frame of the last trunk train, awaiting TRUNK_ACK (R168). -/
structure TrunkFrame where
  seq : Nat
  payload : List Byte
  rtx : Bool
deriving DecidableEq, Repr

/-- A trunk port (R161–R182). -/
structure TrunkSt where
  /-- TRUNK_STATE 3050.05. R183. Reset 0. -/
  state : Nat := 0
  /-- TRUNK_MODE_NOW 3050.06. R183. Reset 60h. -/
  mode : Nat := 0x60
  /-- Start cycle s of the training. R172. Reset 0. -/
  start : Nat := 0
  /-- Pair index j of phase E. R175. Reset 0. -/
  pair : Nat := 0
  /-- m, pairs sent with cycles_left 3 from j = 63 on. R175. Reset 0. -/
  extra : Nat := 0
  /-- A partner train with flags[0] set has come; on the partner side, the offset lies within ±10 ticks. R175. -/
  flagged : Bool := false
  /-- First cycle of phase Q, once fixed. R175. Reset none. -/
  phaseQ : Option Nat := none
  /-- data_cycle of phase 3. R176. Reset none. -/
  dataCycle : Option Nat := none
  /-- Tick until which the port holds off. R172. Reset 0. -/
  holdoff : Nat := 0
  /-- A RETRAIN waits. R172, R180. Reset 0. -/
  retrain : Bool := false
  /-- Cycles of silence owed after a loss. R178. Reset 0. -/
  silence : Nat := 0
  /-- ONE_WAY_DELAY 3050.07, 1/256 tick. R173. Reset 0. -/
  delay : Nat := 0
  /-- PARTNER_OFFSET 3050.08, 1/256 tick. R173. Reset 0. -/
  offset : Int := 0
  /-- Latest arrival offset of the far end's train, 1/256 tick. R169. Reset none. -/
  arrival : Option Int := none
  /-- ECHO_REJECTION 3050.09, 1/16 dB. R171. Reset 0. -/
  echo : Nat := 0
  /-- Echo rejection of the last own train of the present phase E, 1/16 dB. R171. Reset none. -/
  echoNow : Option Nat := none
  /-- The 384 taps of the ECH slice, Q1.14. R170. Reset 0. -/
  ech : List Int := List.replicate 384 0
  /-- PARTNER_SNR 3050.0A, 1/16 dB. R183. Reset 0. -/
  farSnr : Nat := 0
  /-- Own SNR of the last SOUND frames or of context 1, 1/16 dB. R176. Reset 0. -/
  ownSnr : Nat := 0
  /-- Data-phase trains missed in a row. R178. Reset 0. -/
  missed : Nat := 0
  /-- Trains in a row without a good frame. R178. Reset 0. -/
  barren : Nat := 0
  /-- Cycles in a row with an SNR less than 3 dB above the reference. R179. Reset 0. -/
  low : Nat := 0
  /-- Announced level change: new mode and apply cycle. R179. Reset none. -/
  change : Option (Nat × Nat) := none
  /-- Markers: (a_H, a_P) of the last 16. R181. Reset empty. -/
  markers : List (Int × Int) := []
  /-- DATA frames of the previous train. R168. Reset empty. -/
  previous : List TrunkFrame := []
  /-- Frames to send again in the next train. R168. Reset empty. -/
  again : List TrunkFrame := []
  /-- Sequence numbers of DATA frames received good in the far end's last train. R169. Reset empty. -/
  marks : List Nat := []
  /-- Reason of a TRUNK_DOWN to send in the next train. R169. Reset none. -/
  down : Option Nat := none
  /-- Tick of the start cycle of the training. R175. Reset 0. -/
  startTick : Nat := 0
  /-- cycles_left of the reply that the partner side owes in the next cycle of phase E. R175. Reset none. -/
  reply : Option Nat := none
  /-- The head-end side's cycle number less the own one, as the partner side counts it. R174. Reset 0. -/
  numbering : Int := 0
  /-- DATA frames of the train of the present cycle. R168. Reset empty. -/
  current : List TrunkFrame := []
  /-- Data mode chosen in the final cycle of phase Q. R176. Reset 60h. -/
  chosen : Nat := 0x60
  /-- TRUNK_MARGIN of the training. R176, R180. Reset 12. -/
  trainMargin : Nat := 12
  /-- TRUNK_LEVEL_MAX of the training. R176, R180. Reset 3. -/
  trainLevel : Nat := 3
  /-- The datum marker of the present cycle has been judged. R181. Reset 0. -/
  markerSeen : Bool := false
  /-- The last level change: cycle of its effect, mode and LEVEL_DOWNS before it. R180. Reset none. -/
  applied : Option (Nat × Nat × Nat) := none
  /-- Stop tick of the own train of the present cycle. R163. Reset 0. -/
  stop : Nat := 0
  /-- Frames of the far end's train of the present cycle that have passed CRC-32. R165. Reset 0. -/
  goodFrames : Nat := 0
  /-- The epoch that the head-end side has announced: the cycle in which its numbering changes, and by how much. R169, R174.
  Reset none. -/
  headEpoch : Option (Nat × Int) := none
deriving DecidableEq, Repr

/-! ## Traverse, DC, cells -/

/-- What a traverse run is made for (R222, R232, R233, R241). -/
inductive RunKind where
  | normal | bench | leadIn | vf
deriving DecidableEq, Repr

/-- A traverse run in progress (R222–R229). -/
structure Run where
  /-- Kind. R222. -/
  kind : RunKind
  /-- Configured step code. R224. -/
  step : Nat
  /-- Effective step code. R235. -/
  effStep : Nat
  /-- Contributing cycles of the run. R224. -/
  cycles : Nat
  /-- LEAD_IN of the run, ps. R224. -/
  leadIn : Nat
  /-- TRAV_GAIN of the run. R224. -/
  gain : Nat
  /-- TERMINATION of the run. R224. -/
  termination : Nat
  /-- Valid points. R227. -/
  nValid : Nat
  /-- Contributing cycles so far. R228. -/
  done : Nat
  /-- Running sum in the trace accumulation memory. I32 each. R228. -/
  acc : List Int
  /-- A record sample reached full scale. R229. -/
  clipped : Bool
  /-- TIME64 of the start of the last contributing cycle. R230. -/
  lastAt : Nat
  /-- EPOCH_PAGE at that time. R274. -/
  page : Nat
  /-- The port ran on one receive converter half at the run's start. R235. -/
  oneHalf : Bool
deriving DecidableEq, Repr

/-- A trace (R230, R244). -/
structure Trace where
  /-- TRACE 5020.01. 16,384 × I16. R244. -/
  points : List Int
  /-- TRACE_TIME 5020.02. R244. -/
  time : Nat
  /-- TRACE_STEP 5020.03. R244. -/
  step : Nat
  /-- TRACE_POINTS 5020.04. R244. -/
  nValid : Nat
  /-- TRACE_FLAGS 5020.05. R244. -/
  flags : Nat
  /-- TRACE_INS 5020.06. R244. -/
  ins : Nat
  /-- TRACE_LOOP 5020.07. R244. -/
  loopRes : Nat
  /-- EMF of the same dwell pair, mV. R274. -/
  galvanic : Int
  /-- TRACE_REC_SEQ 5020.08. R291. -/
  recSeq : Nat
  /-- TRACE_TIER 5020.09. R291. -/
  tier : Nat
deriving DecidableEq, Repr

/-- A benchmark (R241, R242). -/
structure Bench where
  /-- The mean trace. R241. -/
  points : List Int
  /-- BENCH_TIME. R241. -/
  time : Nat
  /-- n_valid of its capture. R243. -/
  nValid : Nat
  /-- Configured step code at capture. R242. -/
  step : Nat
  /-- Effective step code at capture. R235, R244. -/
  effStep : Nat
  /-- LEAD_IN at capture. R242. -/
  leadIn : Nat
  /-- TERMINATION at capture. R242. -/
  termination : Nat
  /-- Insulation of its last counted run. R230, R244. -/
  ins : Nat
  /-- Loop resistance of its last counted run. R230, R244. -/
  loopRes : Nat
  /-- Record on the drive: rec_seq, 0 if not yet written. R291. -/
  recSeq : Nat
deriving DecidableEq, Repr

/-- Sums over the DC samples of one dwell (R236, R238). -/
structure DcSum where
  /-- Samples taken. -/
  count : Nat := 0
  /-- Sum of the wire voltages, µV. -/
  volts : Int := 0
  /-- Sum of the currents, nA. -/
  amps : Int := 0
  /-- Samples taken with the loop current on. R238. -/
  loopCount : Nat := 0
  /-- Sum of the differential voltages of those, µV. -/
  loop : Int := 0
  /-- A differential voltage reached compliance. -/
  compliance : Bool := false
deriving DecidableEq, Repr

/-- Traverse and DC state of a port (R222–R243). -/
structure TravSt where
  /-- The run in progress. R222. Reset none. -/
  run : Option Run := none
  /-- A scheduled start, or a start at the next contributing cycle, is due. R222, R224. Reset 0. -/
  due : Bool := false
  /-- Runs that have ended and whose traces are not yet complete, oldest first. R230. Reset empty. -/
  ended : List Run := []
  /-- The capture in progress has made its first run start. R222, R241. Reset 0. -/
  captureOn : Bool := false
  /-- Runs and traces counted so far of the benchmark capture in progress, newest first; a run without its sum. R241. Reset
  none. -/
  capture : Option (List (Run × Trace)) := none
  /-- TRAV_STEP in force. R224. Reset 0. -/
  step : Nat := 0
  /-- LEAD_IN in force, ps. R224. Reset 0. -/
  leadIn : Nat := 0
  /-- TERMINATION in force. R224. Reset 0. -/
  termination : Nat := 0
  /-- The port's runs use one receive converter half. R235. Reset 0. -/
  half : Bool := false
  /-- The calibration in progress. R232, R233. Reset none. -/
  calibration : Option RunKind := none
  /-- The last complete trace. R243. Reset none. -/
  last : Option Trace := none
  /-- The benchmark in force. R241. Reset none. -/
  bench : Option Bench := none
  /-- The previous benchmark. R241. Reset none. -/
  previous : Option Bench := none
  /-- Both converter halves as CONVERTER 3000.05 shows them. 2 bits. R369. Reset 3. -/
  halves : Nat := 3
  /-- Trace waiting for the archive behind the one being written. R279. Reset none. -/
  waiting : Option Rec := none
  /-- The archive writes a trace of this port. R279. Reset 0. -/
  writing : Bool := false
  /-- TRACE_TIME of the port's last long-ring record on the drive; of one that only a journal names, the start of its long period.
  R275. Reset none. -/
  longAt : Option Nat := none
  /-- Samples of the second half of the dwell in progress. R236. Reset none taken. -/
  dc : DcSum := {}
  /-- Samples of the last positive dwell. R236. Reset none. -/
  plus : Option DcSum := none
  /-- INS_RES 5001.05. 32 bits. R237. Reset FFFFFFFEh. -/
  ins : Nat := 0xFFFFFFFE
  /-- GALVANIC 5001.06, mV. I16. R236. Reset 0. -/
  galvanic : Int := 0
  /-- LOOP_RES 5001.07. 32 bits. R238. Reset FFFFFFFEh. -/
  loopRes : Nat := 0xFFFFFFFE
  /-- DC_TIME 5001.08. R236. Reset 0. -/
  dcTime : Nat := 0
  /-- Cells of the port have been restored since start-up. R449. Reset 0. -/
  restored : Bool := false
  /-- Permanent blocks reserved for the capture. R283. Reset 0. -/
  reserved : Nat := 0
deriving DecidableEq, Repr

/-- A cell range (R246). -/
structure Range where
  base : Nat
  count : Nat
deriving DecidableEq, Repr

/-- What the layout of a range gives to each of its cells (R248, R256). -/
structure Layout where
  /-- Points that the bands are spread over. R248. -/
  points : Nat
  /-- thresh. U8. R256. -/
  thresh : Nat
  /-- hyst. U4. R256. -/
  hyst : Nat
  /-- var. U16. R256. -/
  var : Nat
  /-- time. U32. R256. -/
  time : Nat
  /-- page. U2. R256. -/
  page : Nat
deriving DecidableEq, Repr

/-- A pipe alarm report (R261). -/
structure Report where
  time : Nat
  firstCell : Nat
  port : Nat
  cells : Nat
  newState : Nat
  oldState : Nat
  kind : Nat
  flags : Nat
  peak : Nat
  fromDm : Nat
  toDm : Nat
  residual : Int
  seq : Nat
deriving DecidableEq, Repr

/-- The watch cells and the alarm log (R246–R266). -/
structure CellSt where
  /-- The cell pool: 2^20 × 128 bits; an unlisted cell reads as the layout of its range has it, one of no range all zeros. R250. Reset all zeros. -/
  pool : Tab Cell := []
  /-- Layout of each range in force, by 2 × port + range: what its unlisted cells read as. R248. Reset none. -/
  layouts : Tab Layout := []
  /-- Range A in force by port. R246. Reset none in force. -/
  rangeA : Tab Range := []
  /-- Range B in force by port. R246. Reset none in force. -/
  rangeB : Tab Range := []
  /-- Ports whose written range A waits for a run start. R247. Reset empty. -/
  pendingA : List Nat := []
  /-- Ports whose written range B waits for a run start. R247. Reset empty. -/
  pendingB : List Nat := []
  /-- Cells whose drift stands at the cap, already counted. R252. Reset empty. -/
  atCap : List Nat := []
  /-- Cells whose bench and band are mapped to the derived benchmark, by port. R258. Reset empty. -/
  degraded : List Nat := []
  /-- ALARM_LOG: last 256 reports, newest first. R266. Reset empty. -/
  log : List Report := []
  /-- ALARM_SEQ, seq of the next report. U16. R266. Reset 0. -/
  seq : Nat := 0
  /-- A snapshot is due within 60 s. R263. Reset 0. -/
  snapDue : Bool := false
  /-- Tick of the last snapshot of the interval. R263. Reset 0. -/
  snapAt : Nat := 0
  /-- Cells laid out at start-up without a drive take the first datum's second as their time. R263. Reset 0. -/
  stampDue : Bool := false
deriving DecidableEq, Repr

/-! ## A port -/

/-- A change of a drop that needs a new slot map and waits for the pending one (R484). -/
inductive Change where
  /-- New grant; the grant that the newest plan still has (R86). -/
  | grant (old : Nat)
  /-- The port's plan anew: drops have come or gone (R193, R216). -/
  | replan
  /-- Release with a reason (R212). -/
  | release (reason : Nat)
  /-- DEEP_SLEEP (R210). -/
  | sleep
  /-- Mode or attenuation taken by a levelling (R208). -/
  | mode (code atten : Nat)
  /-- Wake (R211). -/
  | wake
  /-- Admission under way (R192). -/
  | admission
  /-- Return to the previous mode (R209). -/
  | revert
  /-- Return of moved drops to this port (R216). -/
  | twinReturn
deriving DecidableEq, Repr

/-- Objects of a port that are latched at the start of a cycle (R128, R159, R79, R224). -/
structure Latch where
  /-- D in force. R78. Reset 12,000. -/
  d : Nat := 12000
  /-- C in force. R78. Reset 6,000. -/
  c : Nat := 6000
  /-- T in force. R78. Reset 2,000. -/
  t : Nat := 2000
  /-- SYNC_TOL latched. R128. Reset 3. -/
  syncTol : Nat := 3
  /-- TX_ATTEN latched. R128. Reset 0. -/
  txAtten : Nat := 0
  /-- BEACON_ATTEN latched. R128. Reset 0. -/
  beaconAtten : Nat := 0
  /-- DET_THRESH latched. R159. Reset 12. -/
  detThresh : Nat := 12
  /-- MU_ACQ latched. R159. Reset 8. -/
  muAcq : Nat := 8
  /-- MU_TRK latched. R159. Reset 12. -/
  muTrk : Nat := 12
  /-- TRAV_ATTEN latched. R224. Reset 0. -/
  travAtten : Nat := 0
  /-- INS_ENABLE latched. R244. Reset 1. -/
  insEnable : Nat := 1
  /-- INS_BIAS latched. R244. Reset 12. -/
  insBias : Nat := 12
  /-- VF latched. R244. Reset 780. -/
  vf : Nat := 780
  /-- BENCH_RUNS latched. R244. Reset 16. -/
  benchRuns : Nat := 16
  /-- CHOKE_RES latched, 0.01 Ω. R244. Reset 200. -/
  chokeRes : Nat := 200
  /-- PROT_RES latched, 0.01 Ω. R244. Reset 0. -/
  protRes : Nat := 0
  /-- CAL_CHAINAGE latched, 0.1 m. R244. Reset 0. -/
  calChainage : Nat := 0
deriving DecidableEq, Repr

/-- A failover or move under way on a surviving port (R216). -/
structure Move where
  /-- Cycle of the trigger. R215. -/
  trigger : Nat
  /-- Apply cycle. R216. -/
  apply : Nat
  /-- Port the drops come from. R216. -/
  source : Nat
  /-- Reason of the twin move status message. R316. -/
  reason : Nat
  /-- Drop ids moved. R216. -/
  drops : List Nat
  /-- The map that the port runs from the apply cycle on. R216, R484. -/
  map : SlotMap
  /-- Trunk pair: traffic moves, context 1. R182. -/
  trunk : Bool
deriving DecidableEq, Repr

/-- A port (R78–R89, R184–R217, R369). -/
structure PortSt where
  /-- Mode in force: 0 off, 1 branch, 2 trunk. R369. Reset 0. -/
  mode : Nat := 0
  /-- The port has started its cycles since reset or wake. R90, R449. Reset 0. -/
  started : Bool := false
  /-- The port has run in branch mode since the last device-scope reset. R447. Reset 0. -/
  begun : Bool := false
  /-- Settings latched for the cycle in progress. R128. -/
  latch : Latch := {}
  /-- Cycles left of the beacon window, the present one included. R81. Reset 0. -/
  beaconLeft : Nat := 0
  /-- The beacon in progress is cut off; nothing is sent until the window ends. R384. Reset 0. -/
  beaconCut : Bool := false
  /-- Non-beacon cycles left of the hold of R447. Reset 0. -/
  hold : Nat := 0
  /-- Roll call waits for the hold to end. R447. Reset 0. -/
  rollHeld : Bool := false
  /-- Tick of the last good ROLL_ANSWER, or of the opening. R185. Reset 0. -/
  lastAnswer : Nat := 0
  /-- The map in force. R84. Reset empty, P = 1. -/
  map : SlotMap := {}
  /-- The map announced. R484. Reset none. -/
  pending : Option PendingMap := none
  /-- Changes that wait for the pending map to take effect, in order: drop id and change. R484. Reset empty. -/
  waiting : List (Nat × Change) := []
  /-- The receiver. R129. -/
  rx : RxSt := {}
  /-- Answers waiting for their decision, oldest first. R191. Reset empty. -/
  answers : List Answer := []
  /-- Place in the order of the answers, and drop, of the admission entry that the last ADMIT carried. R193. Reset none. -/
  admitLast : Option (Nat × Nat) := none
  /-- Levellings under way, in the order they started. R204. Reset empty. -/
  levels : List LevelRun := []
  /-- Messages to send. R485. Reset empty. -/
  msgs : List OutMsg := []
  /-- Bursts that the port puts on its line in the cycle in progress. R87. Reset empty. -/
  onLine : List Burst := []
  /-- Drop served first in the previous cycle. R87. Reset 0. -/
  turn : Nat := 0
  /-- Wake bits for the next beacon. 32 bits. R126, R211. Reset empty. -/
  wakeBits : List Nat := []
  /-- A TRAV_ENABLE-independent port state: steep. R422. Reset 0. -/
  steep : Bool := false
  /-- Stopped with no engine free. R388. Reset 0. -/
  stopped : Bool := false
  /-- Engine that serves the port, ENGINE 3000.04, when it is not the one of R41. 8 bits. R41. Reset none: EN(18k+i). -/
  movedTo : Option Nat := none
  /-- Trunk state. R161. -/
  trunk : TrunkSt := {}
  /-- Traverse state. R222. -/
  trav : TravSt := {}
  /-- TWIN_STATE 3063.03. R220. Reset 0. -/
  twinState : Nat := 0
  /-- Move under way onto this port. R216. Reset none. -/
  move : Option Move := none
  /-- Ports whose traffic this trunk carries as survivor. R182. Reset none. -/
  carries : Option Nat := none
  /-- Map periods in a row in which every active drop was silent. R215. Reset 0. -/
  twinSilent : Nat := 0
  /-- Bursts in a row without current limit while line-short is present. R403 source 25. Reset 0. -/
  shortClear : Nat := 0
  /-- The condition of line-short lasts. R403 source 25, R404. Reset 0. -/
  shorted : Bool := false
  /-- The line driver is stopped. R38, R71, R446. Reset 1. -/
  driverOff : Bool := true
  /-- FLOW stop bit of the port, as sent to the host. R311. Reset 0. -/
  flowStop : Bool := false
deriving DecidableEq, Repr

/-! ## OXL -/

/-- A frame to the host (R308). -/
structure OutFrame where
  /-- Class. R309. -/
  cls : Nat
  /-- Role epoch. R308. -/
  epoch : Nat
  /-- Port of the tag; FFh device. R308. -/
  port : Nat
  /-- Drop of the tag. R308. -/
  drop : Nat
  /-- Flags[0], copy. R308. -/
  copy : Bool
  /-- Body. R309. -/
  body : List Byte
  /-- A status message that was queued on one link only. R320, R322. Reset 0. -/
  alone : Bool := false
deriving DecidableEq, Repr

/-- An open bulk request (R318, R319). -/
structure Bulk where
  /-- op. R318. -/
  op : Nat
  /-- req_id. U16. R318. -/
  reqId : Nat
  /-- target. U64. R318. -/
  target : Nat
  /-- First block. R318. -/
  first : Nat
  /-- Blocks returned in all. R318. -/
  total : Nat
  /-- Blocks still to return, ascending. R319. -/
  left : List Nat
  /-- Number of the request among all since reset: the model's own, by which its drive reads are told. R319. Reset 0. -/
  tag : Nat := 0
deriving DecidableEq, Repr

/-- A PRBS checker of one lane (R325). -/
structure Checker where
  /-- Last 31 bits received, newest first. R325. Reset empty. -/
  bits : List Bool := []
  /-- Consecutive bits without error while unlocked. R325. Reset 0. -/
  good : Nat := 0
  /-- Mismatches of the last 256 bits, newest first. R325. Reset empty. -/
  window : List Bool := []
  /-- PRBS_LOCKED. R327. Reset 0. -/
  locked : Bool := false
deriving DecidableEq, Repr

/-- The kinds of block that a lane carries (R300, R301): data, control, and the control block ALIGN, which is not
scrambled. -/
inductive BlockKind where
  | data
  | control
  | align
deriving DecidableEq, Repr

/-- The scrambler and precoder of one data lane (R299, R301). -/
structure LaneCoder where
  /-- The last 58 scrambled bits, bit 0 the newest. 58 bits. R301. Reset 0. -/
  scrambler : BitVec 58 := 0
  /-- p_prev, the last value sent. 2 bits. R299. Reset 0. -/
  prev : Nat := 0
deriving DecidableEq, Repr

/-- A host link (R293–R326). -/
structure LinkSt where
  /-- LINK_STATE 6000.02. R305. Reset 0. -/
  state : Nat := 0
  /-- TX_STATE 6000.03. R327. Reset 0. -/
  tx : Nat := 0
  /-- FAR_RX_UP 6000.04. R327. Reset 0. -/
  farUp : Bool := false
  /-- Consecutive ALIGN pairs with rx_up 0. R321. Reset 0. -/
  farDown : Nat := 0
  /-- LANE_MAP 6000.05. R306. Reset 0. -/
  laneMap : Nat := 0
  /-- FAR_ID 6000.06. R327. Reset 0. -/
  farId : Nat := 0
  /-- Count of the last ALIGN pair received. U16. R304. Reset none. -/
  alignIn : Option Nat := none
  /-- Consecutive valid ALIGN pairs in state 4. R305. Reset 0. -/
  alignGood : Nat := 0
  /-- Consecutive ALIGN pairs missing or out of count. R307. Reset 0. -/
  alignBad : Nat := 0
  /-- Count of the last ALIGN pair sent. U16. R304. Reset 0. -/
  alignOut : Nat := 0
  /-- EYE_HEIGHT of data lane 0, mV. R327. Reset 0. -/
  eye0 : Nat := 0
  /-- EYE_HEIGHT of data lane 1, mV. R327. Reset 0. -/
  eye1 : Nat := 0
  /-- QUIET seen, idle expected on the receive side. R313. Reset 0. -/
  rxQuiet : Bool := false
  /-- Activity has returned on a Quiet receive direction. R314. Reset 0. -/
  rxExiting : Bool := false
  /-- The link is not lost for traffic. R321. Reset 0. -/
  fit : Bool := false
  /-- The link has become lost for traffic and its move is due. R322. Reset 0. -/
  moveDue : Bool := false
  /-- Waits for RETURN_HOLD: tick of availability. R323. Reset none. -/
  holdFrom : Option Nat := none
  /-- Host FLOW stop of data frames. R311. Reset 0. -/
  stopData : Bool := false
  /-- Host FLOW stop of bulk responses. R311. Reset 0. -/
  stopBulk : Bool := false
  /-- Status queue, 256 messages. R317. Reset empty. -/
  status : List OutFrame := []
  /-- Management responses waiting. R312. Reset empty. -/
  mgmt : List OutFrame := []
  /-- Data frames waiting, in order. R312. Reset empty. -/
  data : List OutFrame := []
  /-- Bulk responses waiting. R312. Reset empty. -/
  bulk : List OutFrame := []
  /-- Port served last within data. R312. Reset 143. -/
  lastPort : Nat := 143
  /-- Frame whose START is out and whose END is not. R322. Reset none. -/
  inProgress : Option OutFrame := none
  /-- The last block group put on the lanes: ALIGN pair and FLOW groups, as 64-bit blocks. R302. Reset empty. -/
  sentBlocks : List (BitVec 64) := []
  /-- PAM4 levels of that group on data lane 0. R298. Reset empty. -/
  laneOut0 : List Int := []
  /-- PAM4 levels of that group on data lane 1. R298. Reset empty. -/
  laneOut1 : List Int := []
  /-- Scrambler and precoder of transmit data lane 0. R299, R301. -/
  coder0 : LaneCoder := {}
  /-- Scrambler and precoder of transmit data lane 1. R299, R301. -/
  coder1 : LaneCoder := {}
  /-- Data lane of the next numbered block. R302. Reset 0. -/
  nextLane : Nat := 0
  /-- Tick at which the last ALIGN pair went out; none before the first. R302. Reset none. -/
  alignAt : Option Nat := none
  /-- Tick at which the link was last lost for traffic. R322. Reset 0. -/
  lostAt : Nat := 0
  /-- Descrambler and precoding decoder of receive data lane 0. R299, R301. -/
  rx0 : LaneCoder := {}
  /-- Descrambler and precoding decoder of receive data lane 1. R299, R301. -/
  rx1 : LaneCoder := {}
  /-- Numbered blocks per lane received since the last ALIGN pair or its missed position, at most 16,384. R302. Reset 0. -/
  rxBlocks : Nat := 0
  /-- Whether each of the last 64 sync headers of receive data lane 0 was invalid, newest first. R307. Reset empty. -/
  sync0 : List Bool := []
  /-- Whether each of the last 64 sync headers of receive data lane 1 was invalid, newest first. R307. Reset empty. -/
  sync1 : List Bool := []
  /-- The frame of the host whose START is in and whose END is not. R310. Reset none. -/
  rxFrame : Option HostFrame := none
  /-- Blocks are dropped up to the next START. R310. Reset 0. -/
  rxSkip : Bool := false
  /-- Last 31 bits of the PRBS generator of transmit data lane 0, newest first. R325. Reset empty. -/
  prbs0 : List Bool := []
  /-- Last 31 bits of the PRBS generator of transmit data lane 1, newest first. R325. Reset empty. -/
  prbs1 : List Bool := []
  /-- Tick at which the START of the frame in progress went out. R322. Reset 0. -/
  progressAt : Nat := 0
  /-- Tick since which no frame and no FLOW block has waited. R313. Reset 0. -/
  idleFrom : Nat := 0
  /-- Open bulk requests, at most 4. R319. Reset empty. -/
  bulkOpen : List Bulk := []
  /-- FLOW groups changed and not yet sent. R311. Reset empty. -/
  flowGroups : List Nat := []
  /-- PRBS checker of data lane 0. R325. -/
  check0 : Checker := {}
  /-- PRBS checker of data lane 1. R325. -/
  check1 : Checker := {}
  /-- RX_PRECODE, RX_INVERT, TX_PRECODE, TX_INVERT in force since bring-up, by lane (two data lanes). R307. Reset 0. -/
  laneSet : List (Bool × Bool × Bool × Bool) := []
deriving DecidableEq, Repr

/-- Device-wide OXL state (R316, R320–R324). -/
structure OxlSt where
  /-- Link A. R293. -/
  a : LinkSt := {}
  /-- Link B. R293. -/
  b : LinkSt := {}
  /-- STATUS_SEQ 6200.08. U32. R328. Reset 0. -/
  seq : Nat := 0
  /-- Active link of active/standby mode: B. R320. Reset 0 (A). -/
  activeB : Bool := false
  /-- Ports 0–71 go on B in split mode. R322. Reset 0. -/
  lowOnB : Bool := false
  /-- Ports 72–143 go on A in split mode. R322. Reset 0. -/
  highOnA : Bool := false
  /-- Bulk requests opened since reset: the model's own count, which numbers them. R319. Reset 0. -/
  bulkTag : Nat := 0
deriving DecidableEq, Repr

/-! ## Archive -/

/-- The Admin commands that the device may issue (R268). -/
inductive AdminCmd where
  /-- Identify, controller. -/
  | identifyController
  /-- Identify, a namespace. -/
  | identifyNamespace (nsid : Nat)
  /-- Set Features, Number of Queues. -/
  | setQueues (pairs : Nat)
  /-- Get Features, Number of Queues. -/
  | getQueues
  /-- Set Features, Interrupt Coalescing off. -/
  | coalescingOff
  /-- Create I/O Completion Queue of a pair: entries and MSI-X vector. -/
  | createCompletion (pair entries vector : Nat)
  /-- Create I/O Submission Queue of a pair: entries. -/
  | createSubmission (pair entries : Nat)
  /-- Delete I/O Submission Queue. -/
  | deleteSubmission (pair : Nat)
  /-- Delete I/O Completion Queue. -/
  | deleteCompletion (pair : Nat)
  /-- Get Log Page, Error Information. -/
  | errorLog
  /-- Get Log Page, SMART / Health Information. -/
  | smartLog
  /-- Abort of a command of a pair. -/
  | abort (pair cid : Nat)
  /-- Asynchronous Event Request. -/
  | asyncEvent
deriving DecidableEq, Repr

/-- An I/O command as it stands in a submission queue (R268): Read, Write, or Write with FUA; namespace 1; a PRP list. -/
structure NvmeEntry where
  /-- 01h Write; 02h Read. R268. -/
  opcode : Nat
  /-- Write with FUA. R268. -/
  fua : Bool
  /-- Namespace. R268. -/
  nsid : Nat
  /-- PRP (0) or SGL for the data. R268. -/
  psdt : Nat
  /-- First block. R271. -/
  block : Nat
  /-- Blocks. R267. -/
  count : Nat
deriving DecidableEq, Repr

/-- What an NVMe command does (R269). -/
inductive NvmeJob where
  /-- Writes a record: rings, permanent region. R275. -/
  | record (r : Rec)
  /-- Writes a piece of the cells of the snapshot in hand: its first block within the record. R278. -/
  | snapCells (first : Nat)
  /-- Writes the header blocks of the snapshot in hand, last. R278. -/
  | snapHead
  /-- Writes a commit to journal A. R280. -/
  | journalA (j : Journal)
  /-- Writes a commit to journal B, after journal A. R280. -/
  | journalB (j : Journal)
  /-- Writes zeros to a piece of the journals at a format: its first block. R273. -/
  | zeroJournal (first : Nat)
  /-- Writes label B. R273. -/
  | labelB (l : Label)
  /-- Writes label A, after label B. R273. -/
  | labelA (l : Label)
  /-- Reads the next block of a bulk request, by the request's tag. R319. -/
  | bulkRead (link : Link) (tag : Nat) (block : Nat)
  /-- Reads for the search of a path, from a block on. R269, R289. -/
  | find (path : Path) (block : Nat)
deriving DecidableEq, Repr

/-- An NVMe command in flight (R269). -/
structure NvmeCmd where
  /-- Queue pair 0–7. R269. -/
  pair : Nat
  /-- Command identifier 0–1,023. R269. -/
  cid : Nat
  /-- What it does. R269. -/
  job : NvmeJob
  /-- Tick of its issue. R270. -/
  issued : Nat
  /-- Tick of its Abort, which has not completed. R270. Reset none. -/
  aborted : Option Nat := none
deriving DecidableEq, Repr

/-- The archive (R267–R291). -/
structure ArchSt where
  /-- ARCH_STATE 5800.02. R290. Reset 1. -/
  state : Nat := 1
  /-- ARCH_REASON 5800.03. R290. Reset 0. -/
  reason : Nat := 0
  /-- LINK_STATUS 5801.01. R290. Reset 0. -/
  link : Nat := 0
  /-- Blocks of namespace 1 in use. R267. Reset 0. -/
  blocks : Nat := 0
  /-- A drive that met every check of R267 is attached and operating. R267. Reset 0. -/
  driveOk : Bool := false
  /-- Admin commands that the latest bring-up, reset, poll, error or abort issued. R268. Reset empty. -/
  admin : List AdminCmd := []
  /-- Content of blocks of the drive, by address, as bring-up found it or as labels, journals and zeros were written since;
  a shorter list is padded with zeros. Records written since stand in `records`. R271. Reset empty. -/
  content : Tab (List Byte) := []
  /-- The label in force. R272. Reset none. -/
  label : Option Label := none
  /-- The newest commit. R280. Reset none. -/
  journal : Option Journal := none
  /-- Next block of the journals, 0–16,383. R280. Reset 0. -/
  journalAt : Nat := 0
  /-- Records on the drive, as the device knows them, oldest first. R275. Reset empty. -/
  records : List Rec := []
  /-- Next rec_seq. U64. R274. Reset 16. -/
  nextSeq : Nat := 16
  /-- Commands that wait for a free identifier of their pair, oldest first: pair and job. R269. Reset empty. -/
  toIssue : List (Nat × NvmeJob) := []
  /-- A format is under way: commit 1 and the labels follow. R273. Reset none. -/
  formatting : Option Label := none
  /-- Fine ring: committed tail. R282. Reset 0. -/
  fineTail : Nat := 0
  /-- Fine ring: next block to place a record at. R282. Reset 0. -/
  fineHead : Nat := 0
  /-- Long ring: committed tail. R282. Reset 0. -/
  longTail : Nat := 0
  /-- Long ring: next block to place a record at. R282. Reset 0. -/
  longHead : Nat := 0
  /-- Permanent region: next block to place a record at. R280. Reset 0. -/
  permHead : Nat := 0
  /-- Newest complete snapshot: slot and rec_seq. R280. Reset none. -/
  snap : Option (Nat × Nat) := none
  /-- SNAP_TIME 5801.08. R290. Reset 0. -/
  snapTime : Nat := 0
  /-- The snapshot that is being written. R263. Reset none. -/
  snapshot : Option Rec := none
  /-- Pieces of its cells whose writes have not completed. R278. Reset 0. -/
  snapLeft : Nat := 0
  /-- Pieces of the journals whose zeros have not been written. R273. Reset 0. -/
  zeroLeft : Nat := 0
  /-- The restart's commit is outstanding; service follows it. R287. Reset 0. -/
  recovering : Bool := false
  /-- Commands in flight, oldest first. R269. Reset empty. -/
  inFlight : List NvmeCmd := []
  /-- A commit is due at once: a permanent record, a snapshot header, a reclaim, a format or a restart. R281. Reset 0. -/
  commitDue : Bool := false
  /-- Tick of the first record that completed since the last commit. R281. Reset none. -/
  commitFrom : Option Nat := none
  /-- A commit is being written: 1 to journal A, 2 to journal B. R280. Reset 0. -/
  committing : Nat := 0
  /-- Reclaim of the fine ring that the next commit carries: new tail and the lowest rec_seq kept. R282. Reset none. -/
  reclaimFine : Option (Nat × Nat) := none
  /-- Reclaim of the long ring that the next commit carries: new tail and the lowest rec_seq kept. R282. Reset none. -/
  reclaimLong : Option (Nat × Nat) := none
  /-- Reclaim of the fine ring that the commit under way carries. R282. Reset none. -/
  commitFine : Option (Nat × Nat) := none
  /-- Reclaim of the long ring that the commit under way carries. R282. Reset none. -/
  commitLong : Option (Nat × Nat) := none
  /-- Records that wait for a reclaim commit. R282. Reset empty. -/
  blocked : List Rec := []
  /-- LAST_COMMIT 5801.07. R290. Reset 0. -/
  lastCommit : Nat := 0
  /-- Ticks of the controller resets of the last 10 minutes. R270. Reset empty. -/
  resets : List Nat := []
  /-- DRIVE_TEMP 5801.0A. I16. R290. Reset 0. -/
  temp : Int := 0
  /-- DRIVE_WEAR 5801.0B. 8 bits. R290. Reset 0. -/
  wear : Nat := 0
  /-- DRIVE_WARN 5801.0C. 8 bits. R290. Reset 0. -/
  warn : Nat := 0
deriving DecidableEq, Repr

/-- The hold-up bank (R284). -/
structure HoldSt where
  /-- HOLDUP_V 7020.05, mV. R292. Reset 0. -/
  volt : Nat := 0
  /-- HOLDUP_E 7020.06, mJ. R292. Reset 0. -/
  energy : Nat := 0
  /-- Tick of the first refusal of the present run of page programs. R284. Reset none. -/
  nvmFrom : Option Nat := none
  /-- Tick of the first refusal of the present run of commits. R284. Reset none. -/
  archFrom : Option Nat := none
  /-- hold-up-not-configured has been raised since start-up. R284. Reset 0. -/
  told : Bool := false
  /-- hold-up-low is present. R284. Reset 0. -/
  low : Bool := false
deriving DecidableEq, Repr

/-! ## Configuration NVM and firmware -/

/-- A complete committed set (R452). -/
structure CommitSet where
  /-- set_seq. U32. R452. -/
  seq : Nat
  /-- time. R452. -/
  time : Nat
  /-- Scalar RWP entries of the instances whose values had been written; the entry of any other instance holds its default. R452. -/
  regs : Tab Int
  /-- DOMAIN and STR RWP entries that are not empty. R452. -/
  doms : Tab (List Byte)
deriving DecidableEq, Repr

/-- A repair log entry (R453). -/
structure Repair where
  /-- kind 1–3. R453. -/
  kind : Nat
  /-- unit. 24 bits. R453. -/
  unit : Nat
  /-- spare slice. U16. R453. -/
  spare : Nat
  /-- TIME64. R453. -/
  time : Nat
  /-- The entry's CRC-16 was good when it was last read. R453. -/
  good : Bool := true
deriving DecidableEq, Repr

/-- The operation that the NVM runs (R454). -/
inductive NvmOp where
  /-- Page program of a repair log entry. -/
  | repair (entry : Repair)
  /-- Page program of the set being committed. -/
  | commit
  /-- Erase of a sector of the slot that is not current. -/
  | erase
  /-- Page program of a firmware segment. -/
  | fwPage
deriving DecidableEq, Repr

/-- The configuration NVM (R451–R454). -/
structure NvmSt where
  /-- Persistence slot A: the set it holds. R452. Reset erased. -/
  slotA : Option CommitSet := none
  /-- Persistence slot B. R452. Reset erased. -/
  slotB : Option CommitSet := none
  /-- The set being written. R346. Reset none. -/
  writing : Option CommitSet := none
  /-- COMMIT_STATE 1100.02. R360. Reset 0. -/
  commitState : Nat := 0
  /-- One further commit is set. R348. Reset 0. -/
  further : Bool := false
  /-- Pages of the set being written that have been programmed. R452. Reset 0. -/
  pages : Nat := 0
  /-- A set that did not become current, and the pages of it that the slot for the next set still holds. R452. Reset none. -/
  left : Option (CommitSet × Nat) := none
  /-- The slot that is being erased (true is B), and the sectors of it that are. R451, R452. Reset none. -/
  erasing : Option (Bool × Nat) := none
  /-- Both slots are to be erased on entry to DEPLOYED or RETURN. R450. Reset 0. -/
  erasure : Bool := false
  /-- COMMIT_TIME 1100.04. R360. Reset 0. -/
  commitTime : Nat := 0
  /-- The repair log, oldest first, at most 4,096. R453. Reset empty. -/
  log : List Repair := []
  /-- Repair entries waiting for their page program. R453. Reset empty. -/
  toLog : List Repair := []
  /-- The operation in progress. R454. Reset none. -/
  op : Option NvmOp := none
  /-- Life-cycle requests refused since the last device reset. R365. Reset 0. -/
  lcRefused : Nat := 0
deriving DecidableEq, Repr

/-- A firmware bank (R366, R455). -/
structure Bank where
  /-- BANK_STATE: 0 erased, 1 valid, 2 signature failed, 3 partial, 4 erasing, 5 loading. R366. Reset 0. -/
  state : Nat := 0
  /-- version. U32. R455. Reset 0. -/
  version : Nat := 0
  /-- seq. U32. R455. Reset 0. -/
  seq : Nat := 0
  /-- Bytes programmed. R455. Reset empty. -/
  image : List Byte := []
deriving DecidableEq, Repr

/-- Firmware (R366, R367, R455–R460). -/
structure FwSt where
  /-- Bank 0. R366. Reset valid, version 1, seq 1. -/
  bank0 : Bank := { state := 1, version := 1, seq := 1 }
  /-- Bank 1. R366. Reset erased. -/
  bank1 : Bank := {}
  /-- FW_ACTIVE 1020.01. R366. Reset 0. -/
  active : Nat := 0
  /-- FW_BOOT_BANK 1020.02. R366. Reset 0. -/
  boot : Nat := 0
  /-- The boot ROM has started a bank since the last device-scope reset. R449, R457. Reset 0. -/
  booted : Bool := false
  /-- FW_UPDATE_STATE 1020.06. R366. Reset 0. -/
  update : Nat := 0
  /-- Segments held whose pages are not yet programmed, at most two. R367. Reset empty. -/
  held : List (List Byte) := []
  /-- Stated length of the image being loaded. R367. Reset 0. -/
  length : Nat := 0
  /-- The image's last segment has come. R367. Reset 0. -/
  complete : Bool := false
  /-- A hitless update runs. R460. Reset 0. -/
  switching : Bool := false
  /-- Engines that hold the microcode being installed, or with no update running that of the active bank. R460. Reset empty. -/
  newCode : List Nat := []
  /-- Earliest tick of the next update migration, by cluster. R460. Reset empty. -/
  paced : Tab Nat := []
  /-- Ports move back to the old microcode after a bar. R460. Reset 0. -/
  goingBack : Bool := false
deriving DecidableEq, Repr

/-! ## Clusters, engines, power, heat -/

/-- A cluster (R38, R236, R368, R426–R430). -/
structure ClusterSt where
  /-- CLUSTER_STATE 2200.01. R368. Reset 0. -/
  state : Nat := 0
  /-- The cluster link and PLL run. R38, R429, R446. Reset 0. -/
  linkOn : Bool := false
  /-- Entry to Dormant is accepted and waits for its boundary. R425. Reset 0. -/
  entering : Bool := false
  /-- The off requests of the entry still run. R426, R444. Reset 0. -/
  closing : Bool := false
  /-- A wake starts as soon as the entry completes. R444. Reset 0. -/
  wakeAfter : Bool := false
  /-- Wake step in progress, 0 none. R429. Reset 0. -/
  step : Nat := 0
  /-- Tries of the step made so far. R430. Reset 0. -/
  tries : Nat := 0
  /-- The rail of the step has been acknowledged and its delay runs. R429. Reset 0. -/
  acked : Bool := false
  /-- The off requests of a put-down still run; a new ledger entry opens at their end. R430. Reset 0. -/
  reopen : Bool := false
  /-- Wake ended; service starts at the next datum. R90. Reset 0. -/
  ready : Bool := false
  /-- Datum intended for the wake, from the alarm. R90. Reset none. -/
  intended : Option Nat := none
  /-- The save set failed in both copies at the wake. R51. Reset 0. -/
  fromNvm : Bool := false
  /-- INS_POLARITY 2250.02: 1 negative. R245. Reset 0. -/
  negative : Bool := false
  /-- Seconds into the present dwell. R236. Reset 0. -/
  dwell : Nat := 0
  /-- The present dwell began at a datum whose other work is still to come. R236. Reset 0. -/
  dwellFresh : Bool := false
  /-- Length of the present dwell, s; 0 before the first. R236, R245. Reset 0. -/
  dwellLen : Nat := 0
  /-- The cluster's engine clocks are gated. R424. Reset 0. -/
  gated : Bool := false
  /-- The cluster restarts from a shutdown by heat. R441. Reset 0. -/
  heatRestart : Bool := false
  /-- It stays down in state 5 until the next device-scope reset. R441. Reset 0. -/
  heatStuck : Bool := false
  /-- The cluster had a failure migration in the present cycle. R385. Reset 0. -/
  failMoved : Bool := false
  /-- Rotation has stopped for lack of spares. R381. Reset 0. -/
  rotationStopped : Bool := false
  /-- Calibration fields of the save set as restored, bytes 655:0. R427. Reset empty. -/
  calibration : List Byte := []
deriving DecidableEq, Repr

/-- An engine (R380–R388). -/
structure EngineSt where
  /-- State of R377: 0 in service, 1 spare, 2 under test, 3 migrating, 4 failed. Reset by R41. -/
  state : Nat := 0
  /-- Tick since which it is in that state. R385. Reset 0. -/
  since : Nat := 0
  /-- ENGINE_TESTED: second of the last pass. U32. R377. Reset 0. -/
  tested : Nat := 0
  /-- The test in progress is the second attempt. R386. Reset 0. -/
  second : Bool := false
  /-- It has passed its last test. R380. Reset 1. -/
  passed : Bool := true
  /-- It is failing, and its port migrates at the next boundary. R387. Reset 0. -/
  failing : Bool := false
  /-- The engine to which its port migrates. R382. Reset none. -/
  target : Option Nat := none
  /-- The migration comes from a rotation. R385. Reset 0. -/
  rotating : Bool := false
  /-- Words of its tap store, 0–383, that were set to 0 in the last copy into it. R387. Reset empty. -/
  zeroed : List Nat := []
deriving DecidableEq, Repr

/-- A PMBus request (R433, R434). -/
structure PmReq where
  /-- Rail n of R373. -/
  rail : Nat
  /-- Command code. R431. -/
  cmd : Nat
  /-- Data of a write. R431. -/
  data : Nat
  /-- Priority 1–4. R434. -/
  prio : Nat
  /-- Tries made. R433. -/
  tries : Nat
  /-- A wake step waits for it: cluster. R429. -/
  wakeOf : Option Nat
  /-- Command acknowledged, BUSY awaited. R433. -/
  busy : Bool
  /-- Its repeat waits 100 µs. R433. -/
  waiting : Bool
  /-- A STATUS_WORD read since the command has shown BUSY clear. R433. Reset 0. -/
  clear : Bool := false
  /-- RAIL_ADDR and RAIL_PAGE as they stood when the request came to the bus. R373. Reset none. -/
  addr : Option (Nat × Nat) := none
  /-- The rail check of the start-up: a STATUS_WORD read after the rail's delay; `data` holds the tries made. R429, R449. -/
  check : Bool := false
  /-- Tick before which it does not come to the bus: the delay after a rail request of the start-up. R429, R449. Reset 0. -/
  notBefore : Nat := 0
deriving DecidableEq, Repr

/-- Power (R431–R436, R372). -/
structure PowerSt where
  /-- PMBus requests, the one in progress first. R434. Reset empty. -/
  queue : List PmReq := []
  /-- VCORE_NOW 7000.02, mV. R372. Reset 750. -/
  vcore : Nat := 750
  /-- Set point held before the throttle. R436. Reset 750. -/
  vcoreHeld : Nat := 750
  /-- Tick of the last VOUT_COMMAND of R435. Reset none. -/
  avsAt : Option Nat := none
  /-- The core clock is at 0.8 GHz. R436, R440. Reset 0. -/
  slow : Bool := false
  /-- A raise failed: the clock stays low until a raise is acknowledged. R436. Reset 0. -/
  raiseFailed : Bool := false
  /-- The throttle lift waits for its set point. R436. Reset 0. -/
  lifting : Bool := false
  /-- RAIL_VSET, mV, by rail. R373. Reset 0. -/
  vset : Tab Nat := []
  /-- RAIL_VREAD, mV, by rail. R373. Reset 0. -/
  vread : Tab Nat := []
  /-- RAIL_STATUS by rail. R373. Reset 0. -/
  status : Tab Nat := []
  /-- RAIL_ON by rail. R373. Reset: rails 0–3 on. -/
  on : Tab Bool := [(0, true), (1, true), (2, true), (3, true)]
  /-- Clusters whose start-up check has ended. R398, R449. Reset empty. -/
  checked : List Nat := []
  /-- The set point of VDD_CORE last requested, mV. R435. Reset none. -/
  vcoreAsked : Option Nat := none
  /-- Start-up has completed. R449. Reset 0. -/
  started : Bool := false
deriving DecidableEq, Repr

/-- A temperature sensor (R374, R437, R438). -/
structure SensorSt where
  /-- TJ, 1/16 °C. I16. R374. Reset 0. -/
  tj : Int := 0
  /-- TJ_PEAK. I16. R374. Reset 0. -/
  peak : Int := 0
  /-- NEIGHBOUR_MEAN. I16. R374. Reset 0. -/
  mean : Int := 0
  /-- TJ_GOVERN. I16. R374. Reset 0. -/
  govern : Int := 0
  /-- SENSOR_STATE: declared broken. R374. Reset 0. -/
  broken : Bool := false
  /-- Consecutive samples off the neighbour mean. R438. Reset 0. -/
  off : Nat := 0
  /-- Tick since which its die is powered; none while it is not. R437. Reset none; sensor 0 powered since tick 0. -/
  poweredAt : Option Nat := none
  /-- Consecutive samples at or above 115 °C. R439. Reset 0. -/
  hot : Nat := 0
  /-- A sample has been taken since reset. R374. Reset 0. -/
  sampled : Bool := false
  /-- thermal-warning is present; samples in a row below TJ_WARN − 5 °C. R403 source 28. Reset none. -/
  warned : Option Nat := none
deriving DecidableEq, Repr

/-- Heat (R437–R442). -/
structure HeatSt where
  /-- Sensors 0–9. R374. -/
  sensors : Tab SensorSt := [(0, { poweredAt := some 0 })]
  /-- Consecutive samples with every die below 110 °C. R439. Reset 0. -/
  cool : Nat := 0
  /-- Consecutive samples with every sensor that is not broken at or below 95 °C. R441. Reset 0. -/
  cold : Nat := 0
  /-- Throttle in force. R440. Reset 0. -/
  throttled : Bool := false
  /-- The core die is shut down by heat. R442. Reset 0. -/
  coreDown : Bool := false
  /-- A page program keeps VDD_CORE up during the shutdown: tick of the shutdown. R443. Reset none. -/
  keepCore : Option Nat := none
  /-- Source 31 is owed at the restart. R442. Reset 0. -/
  owed31 : Bool := false
  /-- The restart has requested VDD_CORE and VDD_SRAM on. R442. Reset 0. -/
  restarting : Bool := false
deriving DecidableEq, Repr

/-! ## Memories and tests -/

/-- A memory tester (R389–R393). -/
structure TesterSt where
  /-- Slice to test next. R389. Reset 0. -/
  slice : Nat := 0
  /-- A test is in progress. R390. Reset 0. -/
  running : Bool := false
  /-- Aborts in a row of this slice. R392. Reset 0. -/
  aborts : Nat := 0
  /-- Tick of the last abort. R391. Reset none. -/
  abortAt : Option Nat := none
  /-- Slices that failed their last test. R393. Reset empty. -/
  failedOnce : List Nat := []
  /-- Remapped slices: (slice, spare). R393. Reset empty. -/
  remap : List (Nat × Nat) := []
  /-- Spare slices that have failed. R393, R400. Reset empty. -/
  badSpares : List Nat := []
deriving DecidableEq, Repr

/-- Protected memories and the self-tests (R48, R49, R389–R401). -/
structure TestSt where
  /-- Words marked bad, by memory code and word address. R48. Reset empty. -/
  badWords : List (Nat × Nat) := []
  /-- Corrected-error counters by memory code. R48. Reset 0. -/
  corrected : Tab Nat := []
  /-- Test ids without a golden value, whose condition golden-value-missing lasts. R395, R404. Reset empty. -/
  missing : List Nat := []
  /-- Watch-cell tester. R389. -/
  cells : TesterSt := {}
  /-- Frame-buffer tester. R389. -/
  buffers : TesterSt := {}
  /-- Drop-context tester. R389. -/
  contexts : TesterSt := {}
  /-- FULL_TEST_STATE 7C20.02. R377. Reset 0. -/
  fullState : Nat := 0
  /-- TIME64 of the start of the full test. R401. Reset 0. -/
  fullAt : Nat := 0
  /-- FULL_TEST_RESULT 7C20.03. R401. Reset empty. -/
  fullResult : List Byte := []
deriving DecidableEq, Repr

/-! ## Faults -/

/-- A held raise (R404, R405). -/
structure Raise where
  /-- Source number. R403. -/
  source : Nat
  /-- Key fields. R403. -/
  key : List Nat
  /-- Class after escalation. R406. -/
  cls : Nat
  /-- Acknowledged. R412. -/
  acked : Bool
  /-- Its condition is still present (condition sources). R404. -/
  present : Bool
  /-- Injected. R419. -/
  injected : Bool
  /-- Captured as first error. R408. -/
  captured : Bool
  /-- Time of the raise or of its last repeat. R404. -/
  time : Nat
  /-- Detail. R403. -/
  detail : List (Nat × Nat)
  /-- access, master, address of the access that found it. R408. -/
  access : Nat
  master : Nat
  address : Nat
deriving DecidableEq, Repr

/-- An occurrence of a fault source in the present core cycle (R403, R404). -/
structure Occ where
  /-- Source number. R403. -/
  source : Nat
  /-- Key fields. R403. -/
  key : List Nat
  /-- Detail: (width in bytes, value). R403. -/
  detail : List (Nat × Nat)
  /-- access code. 8 bits. R408. -/
  access : Nat := 0
  /-- master code. 16 bits. R408. -/
  master : Nat := 0
  /-- address. 32 bits. R408. -/
  address : Nat := 0
  /-- Injected. R419. -/
  injected : Bool := false
deriving DecidableEq, Repr

/-- The fault collector (R403–R421). -/
structure FaultSt where
  /-- Held raises, oldest first, at most 256. R405. Reset empty. -/
  held : List Raise := []
  /-- The collector has started. R415. Reset 0. -/
  started : Bool := false
  /-- Fatal: the core clock has stopped. R416. Reset 0. -/
  fatal : Bool := false
  /-- Occurrences of the command that is executing, in order of detection; empty between commands. R407. Reset empty. -/
  due : List Occ := []
  /-- Injected raises due in the next core cycle: source, and the master that wrote it. R408, R419. Reset none. -/
  inject : List (Nat × Nat) := []
  /-- Injected raises written in the present core cycle, which occur in a later one: source and master. R6, R408, R419. Reset empty. -/
  injectNext : List (Nat × Nat) := []
  /-- The sources among 18, 19 and 22 whose condition a device-scope reset found held, until the first check after start-up.
  R418. Reset empty. -/
  recheck : List Nat := []
  /-- Raises acknowledged in the present core cycle, as they were before; empty between commands. R414. Reset empty. -/
  ackedNow : List Raise := []
deriving DecidableEq, Repr

/-! ## The device -/

/-- The UB9144 and the queue of commands that wait for it. -/
structure State where
  /-- Commands that wait, first in, first out. -/
  pending : List Instr
  /-- Free-value counter: the model's own, not the manual's; a step that needs an unstated value reads and advances it.
  Reset 0 (DESIGN CHOICE, notes/assumptions/5). -/
  free : Nat
  /-- Working values of the dictionary's scalar objects and counters, by object and instance; unlisted: never written,
  reads as the object's default. R336, R345. Reset empty. -/
  regs : Tab Int
  /-- Contents of the writable DOMAIN and STR objects, by object and instance; unlisted: empty. R342. Reset: TRIM and
  GOLDEN_MISR as written at manufacture (R379, R394), the others empty. -/
  doms : Tab (List Byte)
  /-- RESET_CAUSE 1030.02. R362. Reset 1. -/
  resetCause : Nat
  mgmt : MgmtSt
  spi : SpiSt
  time : TimeSt
  aon : AonSt
  /-- Ports by number. -/
  ports : Tab PortSt
  /-- Drop contexts by 64 × port + drop id. R139. -/
  ctxs : Tab Ctx
  cells : CellSt
  oxl : OxlSt
  arch : ArchSt
  hold : HoldSt
  nvm : NvmSt
  fw : FwSt
  /-- Clusters by number. -/
  clusters : Tab ClusterSt
  /-- Engines by number. -/
  engines : Tab EngineSt
  power : PowerSt
  heat : HeatSt
  test : TestSt
  faults : FaultSt
  /-- LC_STATE 1010.01, in one-time cells: 0 BLANK, 1 FACTORY_TEST, 2 DEPLOYED, 3 RETURN. R364, R450. Reset 2. -/
  lc : Nat
deriving DecidableEq, Repr

/-- The engine that serves port LP(16k+i) after a reset: EN(18k+i) (R41). -/
def engineOf (p : Nat) : Nat := 18 * (p / 16) + p % 16

/-- The state right after the release of a device-scope reset, before the boot step (R446, R449): every register at
the value that the manual gives, and where it gives none at the value that notes/assumptions/4 names. -/
def State.reset : State where
  pending := []
  free := 0
  regs := []
  doms := [(0xF00001 * 2 ^ 24, Config.trim), (0xF00101 * 2 ^ 24, Config.goldenMisr)]
  resetCause := 1
  mgmt := {}
  spi := {}
  time := {}
  aon := { resets := 1 }
  ports := []
  ctxs := []
  cells := {}
  oxl := {}
  arch := {}
  hold := {}
  nvm := {}
  fw := {}
  clusters := []
  engines := []
  power := {}
  heat := {}
  test := {}
  faults := {}
  lc := 2

end Sys2Proof.Machine
end

