-- ==== Sys2Proof/Machine/Objects.lean ====
section
/-! DEFINITION. The object dictionary as data: one row for each object of the tables of R93, R128, R159, R160, R183,
R220, R221, R244, R245, R265, R266, R290–R292, R327, R328, R340, R360, R362, R364, R366, R368, R369, R372–R377 and R379, with
its type, access right, instance class, range and default. An object's number is index × 256 + subindex. Where a default
or a range depends on something, `objDefault` and `valueInSet` say so. -/

namespace Sys2Proof.Machine

/-- The object types of R333. -/
inductive Ty where
  | bool | u8 | u16 | u32 | u64 | i8 | i16 | i32 | q16 | time64 | domain | str
deriving DecidableEq, Repr

/-- The access rights of R336. -/
inductive Acc where
  | ro | rw | wo | rwp | rw1c | rwf
deriving DecidableEq, Repr

/-- What an object's instances are counted by (R361). -/
inductive Scope where
  | device | cluster | port | drop | cell | trace | path
deriving DecidableEq, Repr

/-- A row of the dictionary. For DOMAIN and STR objects `hi` is the greatest length in bytes. -/
structure Obj where
  code : Nat
  ty : Ty
  acc : Acc
  scope : Scope
  lo : Int
  hi : Int
  dflt : Int
deriving DecidableEq, Repr

/-! ## Object numbers -/

namespace Code

/-- CYCLE_LEN 2100.00 (R93). -/
abbrev cycleLen : Nat := 0x210000
/-- TIME64_NOW 2101.00 (R93). -/
abbrev time64Now : Nat := 0x210100
/-- EPOCH_SET 2102.00 (R93). -/
abbrev epochSet : Nat := 0x210200
/-- EPOCH_PENDING 2103.00 (R93). -/
abbrev epochPending : Nat := 0x210300
/-- CYCLE_NOW 2104.00 (R93). -/
abbrev cycleNow : Nat := 0x210400
/-- TQ_GRADE 2105.00 (R93). -/
abbrev tqGrade : Nat := 0x210500
/-- TQ_BOUND 2106.00 (R93). -/
abbrev tqBound : Nat := 0x210600
/-- REF_STATUS 2107.00 (R93). -/
abbrev refStatus : Nat := 0x210700
/-- TIME_SOURCE 2108.00 (R93). -/
abbrev timeSource : Nat := 0x210800
/-- PPS_DELAY_COMP 2109.00 (R93). -/
abbrev ppsDelayComp : Nat := 0x210900
/-- PPS_RESIDUAL 210A.00 (R93). -/
abbrev ppsResidual : Nat := 0x210A00
/-- XO_OFFSET 210B.00 (R93). -/
abbrev xoOffset : Nat := 0x210B00
/-- LEARN_TIME 210C.00 (R93). -/
abbrev learnTime : Nat := 0x210C00
/-- SLEW_REMAIN 210D.00 (R93). -/
abbrev slewRemain : Nat := 0x210D00
/-- REALIGN_POLICY 210E.00 (R93). -/
abbrev realignPolicy : Nat := 0x210E00
/-- REALIGN 2110.00 (R93). -/
abbrev realign : Nat := 0x211000
/-- TRUNK_HOPS 2111.00 (R93). -/
abbrev trunkHops : Nat := 0x211100
/-- PPS_OUTLIERS 2112.00 (R93). -/
abbrev ppsOutliers : Nat := 0x211200
/-- HOLDOVER_ENTRIES 2113.00 (R93). -/
abbrev holdoverEntries : Nat := 0x211300
/-- SLEW_EVENTS 2114.00 (R93). -/
abbrev slewEvents : Nat := 0x211400
/-- REALIGN_EVENTS 2115.00 (R93). -/
abbrev realignEvents : Nat := 0x211500
/-- START_TIMEOUT 2116.00 (R93). -/
abbrev startTimeout : Nat := 0x211600
/-- SLEEP_LEDGER 2240.01 (R93). -/
abbrev sleepLedger : Nat := 0x224001
/-- LEDGER_VALID 2240.02 (R93). -/
abbrev ledgerValid : Nat := 0x224002
/-- DS_WINDOW 3020.01 (R93). -/
abbrev dsWindow : Nat := 0x302001
/-- CONT_WINDOW 3020.02 (R93). -/
abbrev contWindow : Nat := 0x302002
/-- TRAV_WINDOW 3020.03 (R93). -/
abbrev travWindow : Nat := 0x302003
/-- MAP_PERIOD 3020.04 (R93). -/
abbrev mapPeriod : Nat := 0x302004
/-- BEACON_INTERVAL 3020.05 (R93). -/
abbrev beaconInterval : Nat := 0x302005
/-- BEACON_OFFSET 3020.06 (R93). -/
abbrev beaconOffset : Nat := 0x302006
/-- UP_REGION 3020.07 (R93). -/
abbrev upRegion : Nat := 0x302007
/-- OVERSIZE_DISCARDS 3020.08 (R93). -/
abbrev oversizeDiscards : Nat := 0x302008
/-- GRANT 4020.01 (R93). -/
abbrev grant : Nat := 0x402001
/-- MAP_CYCLE 4020.02 (R93). -/
abbrev mapCycle : Nat := 0x402002
/-- SLOT_START 4020.03 (R93). -/
abbrev slotStart : Nat := 0x402003
/-- SLOT_LEN 4020.04 (R93). -/
abbrev slotLen : Nat := 0x402004
/-- UP_MAX_PAYLOAD 4020.05 (R93). -/
abbrev upMaxPayload : Nat := 0x402005
/-- DS_MAX_PAYLOAD 4020.06 (R93). -/
abbrev dsMaxPayload : Nat := 0x402006
/-- SYNC_TOL 3030.01 (R128). -/
abbrev syncTol : Nat := 0x303001
/-- TX_ATTEN 3030.02 (R128). -/
abbrev txAtten : Nat := 0x303002
/-- BEACON_ATTEN 3030.03 (R128). -/
abbrev beaconAtten : Nat := 0x303003
/-- BASE_MODE 3030.04 (R128). -/
abbrev baseMode : Nat := 0x303004
/-- DET_THRESH 3040.01 (R159). -/
abbrev detThresh : Nat := 0x304001
/-- MU_ACQ 3040.02 (R159). -/
abbrev muAcq : Nat := 0x304002
/-- MU_TRK 3040.03 (R159). -/
abbrev muTrk : Nat := 0x304003
/-- NOISE_FLOOR 3040.04 (R159). -/
abbrev noiseFloor : Nat := 0x304004
/-- ENERGY_DETECTS 3041.01 (R159). -/
abbrev energyDetects : Nat := 0x304101
/-- NOISE_EVENTS 3041.02 (R159). -/
abbrev portNoiseEvents : Nat := 0x304102
/-- FALSE_DETECTS 3041.03 (R159). -/
abbrev portFalseDetects : Nat := 0x304103
/-- COLLISION_ABORTS 3041.04 (R159). -/
abbrev collisionAborts : Nat := 0x304104
/-- CONT_COLLISIONS 3041.05 (R159). -/
abbrev contCollisions : Nat := 0x304105
/-- HEADER_ERRORS 3041.06 (R159). -/
abbrev portHeaderErrors : Nat := 0x304106
/-- LENOVR 3041.07 (R159). -/
abbrev portLenovr : Nat := 0x304107
/-- FORMAT_ERRORS 3041.08 (R159). -/
abbrev portFormatErrors : Nat := 0x304108
/-- CRC_ERRORS 3041.09 (R159). -/
abbrev portCrcErrors : Nat := 0x304109
/-- SLOT_TRESPASS 3041.0A (R159). -/
abbrev slotTrespass : Nat := 0x30410A
/-- OVERRUNS 3041.0B (R159). -/
abbrev portOverruns : Nat := 0x30410B
/-- EMPTY_SLOTS 3041.0C (R159). -/
abbrev portEmptySlots : Nat := 0x30410C
/-- BURSTS_OK 3041.0D (R159). -/
abbrev portBurstsOk : Nat := 0x30410D
/-- CONT_ANSWERS 3041.0E (R159). -/
abbrev contAnswers : Nat := 0x30410E
/-- CONT_DISCARDS 3041.0F (R159). -/
abbrev contDiscards : Nat := 0x30410F
/-- OUT_OF_SLOT 3041.10 (R159). -/
abbrev outOfSlot : Nat := 0x304110
/-- BUFFER_FULL 3041.11 (R159). -/
abbrev portBufferFull : Nat := 0x304111
/-- CTX_ECC_STARTS 3041.12 (R159). -/
abbrev ctxEccStarts : Nat := 0x304112
/-- SNR 4030.01 (R160). -/
abbrev snr : Nat := 0x403001
/-- MARGIN 4030.02 (R160). -/
abbrev margin : Nat := 0x403002
/-- RX_AMPL 4030.03 (R160). -/
abbrev rxAmpl : Nat := 0x403003
/-- FREQ_OFFSET 4030.04 (R160). -/
abbrev freqOffset : Nat := 0x403004
/-- ARRIVAL_OFFSET 4030.05 (R160). -/
abbrev arrivalOffset : Nat := 0x403005
/-- LAST_RX 4030.06 (R160). -/
abbrev lastRx : Nat := 0x403006
/-- EQ_RESET 4030.07 (R160). -/
abbrev eqReset : Nat := 0x403007
/-- FFE_TAPS 4030.08 (R160). -/
abbrev ffeTaps : Nat := 0x403008
/-- DFE_TAPS 4030.09 (R160). -/
abbrev dfeTaps : Nat := 0x403009
/-- CTX_FLAGS 4030.0A (R160). -/
abbrev ctxFlags : Nat := 0x40300A
/-- BURSTS_OK 4031.01 (R160). -/
abbrev dropBurstsOk : Nat := 0x403101
/-- CRC_ERRORS 4031.02 (R160). -/
abbrev dropCrcErrors : Nat := 0x403102
/-- HEADER_ERRORS 4031.03 (R160). -/
abbrev dropHeaderErrors : Nat := 0x403103
/-- FORMAT_ERRORS 4031.04 (R160). -/
abbrev dropFormatErrors : Nat := 0x403104
/-- COLLISIONS 4031.05 (R160). -/
abbrev collisions : Nat := 0x403105
/-- FALSE_DETECTS 4031.06 (R160). -/
abbrev dropFalseDetects : Nat := 0x403106
/-- NOISE_EVENTS 4031.07 (R160). -/
abbrev dropNoiseEvents : Nat := 0x403107
/-- EMPTY_SLOTS 4031.08 (R160). -/
abbrev dropEmptySlots : Nat := 0x403108
/-- OVERRUNS 4031.09 (R160). -/
abbrev dropOverruns : Nat := 0x403109
/-- TRESPASS_IN 4031.0A (R160). -/
abbrev trespassIn : Nat := 0x40310A
/-- TRESPASS_OUT 4031.0B (R160). -/
abbrev trespassOut : Nat := 0x40310B
/-- LENOVR 4031.0C (R160). -/
abbrev dropLenovr : Nat := 0x40310C
/-- BUFFER_FULL 4031.0D (R160). -/
abbrev dropBufferFull : Nat := 0x40310D
/-- CTX_ECC 4031.0E (R160). -/
abbrev ctxEcc : Nat := 0x40310E
/-- SOUND_BURSTS 4031.0F (R160). -/
abbrev soundBursts : Nat := 0x40310F
/-- TRUNK_ROLE 3050.01 (R183). -/
abbrev trunkRole : Nat := 0x305001
/-- TRUNK_BAUD 3050.02 (R183). -/
abbrev trunkBaud : Nat := 0x305002
/-- TRUNK_MARGIN 3050.03 (R183). -/
abbrev trunkMargin : Nat := 0x305003
/-- TRUNK_LEVEL_MAX 3050.04 (R183). -/
abbrev trunkLevelMax : Nat := 0x305004
/-- TRUNK_STATE 3050.05 (R183). -/
abbrev trunkState : Nat := 0x305005
/-- TRUNK_MODE_NOW 3050.06 (R183). -/
abbrev trunkModeNow : Nat := 0x305006
/-- ONE_WAY_DELAY 3050.07 (R183). -/
abbrev oneWayDelay : Nat := 0x305007
/-- PARTNER_OFFSET 3050.08 (R183). -/
abbrev partnerOffset : Nat := 0x305008
/-- ECHO_REJECTION 3050.09 (R183). -/
abbrev echoRejection : Nat := 0x305009
/-- PARTNER_SNR 3050.0A (R183). -/
abbrev partnerSnr : Nat := 0x30500A
/-- LOSS_CYCLES 3050.0B (R183). -/
abbrev lossCycles : Nat := 0x30500B
/-- RETRAIN_HOLDOFF 3050.0C (R183). -/
abbrev retrainHoldoff : Nat := 0x30500C
/-- RETRAIN 3050.0D (R183). -/
abbrev trunkRetrain : Nat := 0x30500D
/-- ECH_MU_TRN 3050.0E (R183). -/
abbrev echMuTrn : Nat := 0x30500E
/-- ECH_MU_TRK 3050.0F (R183). -/
abbrev echMuTrk : Nat := 0x30500F
/-- TRAININGS 3051.01 (R183). -/
abbrev trainings : Nat := 0x305101
/-- TRAIN_FAILS 3051.02 (R183). -/
abbrev trainFails : Nat := 0x305102
/-- TRUNK_LOSSES 3051.03 (R183). -/
abbrev trunkLosses : Nat := 0x305103
/-- TRAINS_OK 3051.04 (R183). -/
abbrev trainsOk : Nat := 0x305104
/-- TRAINS_MISSED 3051.05 (R183). -/
abbrev trainsMissed : Nat := 0x305105
/-- MARKERS_MISSED 3051.06 (R183). -/
abbrev markersMissed : Nat := 0x305106
/-- LEVEL_DOWNS 3051.07 (R183). -/
abbrev levelDowns : Nat := 0x305107
/-- FRAMES_DROPPED 3051.08 (R183). -/
abbrev trunkFramesDropped : Nat := 0x305108
/-- RETRANSMISSIONS 3051.09 (R183). -/
abbrev trunkRetransmissions : Nat := 0x305109
/-- NUMBERING_MISMATCH 3051.0A (R183). -/
abbrev numberingMismatch : Nat := 0x30510A
/-- ROLL_CALL 3060.01 (R220). -/
abbrev rollCall : Nat := 0x306001
/-- ROLL_POLICY 3060.02 (R220). -/
abbrev rollPolicy : Nat := 0x306002
/-- ROLL_CLOSE_AFTER 3060.03 (R220). -/
abbrev rollCloseAfter : Nat := 0x306003
/-- UNLISTED_MAX_BAUD 3060.04 (R220). -/
abbrev unlistedMaxBaud : Nat := 0x306004
/-- LEVEL_MARGIN 3060.05 (R220). -/
abbrev levelMargin : Nat := 0x306005
/-- LEVEL_REDO 3060.06 (R220). -/
abbrev levelRedo : Nat := 0x306006
/-- LEVEL_INTERVAL 3060.07 (R220). -/
abbrev levelInterval : Nat := 0x306007
/-- LEVEL_MAX 3060.08 (R220). -/
abbrev levelMax : Nat := 0x306008
/-- SOUND_LEN 3060.09 (R220). -/
abbrev soundLen : Nat := 0x306009
/-- MODE_LEAD 3060.0A (R220). -/
abbrev modeLead : Nat := 0x30600A
/-- UP_TARGET 3060.0B (R220). -/
abbrev upTarget : Nat := 0x30600B
/-- DROP_LOST 3060.0C (R220). -/
abbrev dropLost : Nat := 0x30600C
/-- RANGE_TRIM 3060.0D (R220). -/
abbrev rangeTrim : Nat := 0x30600D
/-- DROP_TABLE 3061.01 (R220). -/
abbrev dropTable : Nat := 0x306101
/-- DROP_TABLE_COUNT 3061.02 (R220). -/
abbrev dropTableCount : Nat := 0x306102
/-- ROLL_IGNORED 3062.01 (R220). -/
abbrev rollIgnored : Nat := 0x306201
/-- ADMISSIONS 3062.02 (R220). -/
abbrev admissions : Nat := 0x306202
/-- ADMIT_REFUSED 3062.03 (R220). -/
abbrev admitRefused : Nat := 0x306203
/-- ADMIT_FAILS 3062.04 (R220). -/
abbrev admitFails : Nat := 0x306204
/-- Reserved 3062.05 (R220). -/
abbrev reserved3062 : Nat := 0x306205
/-- STALE_EPOCH 3062.06 (R220). -/
abbrev staleEpoch : Nat := 0x306206
/-- NO_DROP 3062.07 (R220). -/
abbrev noDrop : Nat := 0x306207
/-- LEVEL_RUNS 3062.08 (R220). -/
abbrev levelRuns : Nat := 0x306208
/-- SOUND_MISSES 3062.09 (R220). -/
abbrev soundMisses : Nat := 0x306209
/-- MODE_CHANGES 3062.0A (R220). -/
abbrev modeChanges : Nat := 0x30620A
/-- RELEASES 3062.0B (R220). -/
abbrev releases : Nat := 0x30620B
/-- TWIN_FAILOVERS 3062.0C (R220). -/
abbrev twinFailovers : Nat := 0x30620C
/-- TWIN_ENABLE 3063.01 (R220). -/
abbrev twinEnable : Nat := 0x306301
/-- TWIN_PARTNER 3063.02 (R220). -/
abbrev twinPartner : Nat := 0x306302
/-- TWIN_STATE 3063.03 (R220). -/
abbrev twinState : Nat := 0x306303
/-- TWIN_LOSS_PERIODS 3063.04 (R220). -/
abbrev twinLossPeriods : Nat := 0x306304
/-- TWIN_FAILOVER 3063.05 (R220). -/
abbrev twinFailover : Nat := 0x306305
/-- DROP_MOVE_PERIODS 3063.06 (R220). -/
abbrev dropMovePeriods : Nat := 0x306306
/-- TWIN_RETURN 3063.07 (R220). -/
abbrev twinReturn : Nat := 0x306307
/-- IDENTITY 4010.01 (R221). -/
abbrev identity : Nat := 0x401001
/-- DROP_STATE 4010.02 (R221). -/
abbrev dropState : Nat := 0x401002
/-- EPOCH 4010.03 (R221). -/
abbrev epoch : Nat := 0x401003
/-- MODE 4010.04 (R221). -/
abbrev mode : Nat := 0x401004
/-- MAX_BAUD 4010.05 (R221). -/
abbrev maxBaud : Nat := 0x401005
/-- DROP_TX_ATTEN 4010.06 (R221). -/
abbrev dropTxAtten : Nat := 0x401006
/-- ADVANCE 4010.07 (R221). -/
abbrev advance : Nat := 0x401007
/-- CAPS 4010.08 (R221). -/
abbrev caps : Nat := 0x401008
/-- LAST_LEVEL 4010.09 (R221). -/
abbrev lastLevel : Nat := 0x401009
/-- RELEVEL 4010.0A (R221). -/
abbrev relevel : Nat := 0x40100A
/-- RELEASE 4010.0B (R221). -/
abbrev release : Nat := 0x40100B
/-- SLEEP 4010.0C (R221). -/
abbrev sleep : Nat := 0x40100C
/-- WAKE 4010.0D (R221). -/
abbrev wake : Nat := 0x40100D
/-- SOUND_SNR 4010.0E (R221). -/
abbrev soundSnr : Nat := 0x40100E
/-- STANDBY_MODE 4010.0F (R221). -/
abbrev standbyMode : Nat := 0x40100F
/-- DS_AMPL 4010.10 (R221). -/
abbrev dsAmpl : Nat := 0x401010
/-- RETRANSMISSIONS 4041.01 (R221). -/
abbrev dropRetransmissions : Nat := 0x404101
/-- FRAMES_DROPPED 4041.02 (R221). -/
abbrev dropFramesDropped : Nat := 0x404102
/-- UP_GIVEN_UP 4041.03 (R221). -/
abbrev upGivenUp : Nat := 0x404103
/-- DUPLICATES 4041.04 (R221). -/
abbrev duplicates : Nat := 0x404104
/-- STALE_LINE 4041.05 (R221). -/
abbrev staleLine : Nat := 0x404105
/-- STALE_HOST 4041.06 (R221). -/
abbrev staleHost : Nat := 0x404106
/-- MODE_REVERTS 4041.07 (R221). -/
abbrev modeReverts : Nat := 0x404107
/-- ASLEEP_DISCARDS 4041.08 (R221). -/
abbrev asleepDiscards : Nat := 0x404108
/-- TRAV_ENABLE 5000.01 (R244). -/
abbrev travEnable : Nat := 0x500001
/-- TRAV_STEP 5000.02 (R244). -/
abbrev travStep : Nat := 0x500002
/-- TRAV_CYCLES 5000.03 (R244). -/
abbrev travCycles : Nat := 0x500003
/-- TRAV_INTERVAL 5000.04 (R244). -/
abbrev travInterval : Nat := 0x500004
/-- TRAV_OFFSET 5000.05 (R244). -/
abbrev travOffset : Nat := 0x500005
/-- TRAV_ATTEN 5000.06 (R244). -/
abbrev travAtten : Nat := 0x500006
/-- TRAV_GAIN 5000.07 (R244). -/
abbrev travGain : Nat := 0x500007
/-- VF 5000.08 (R244). -/
abbrev vf : Nat := 0x500008
/-- LEAD_IN 5000.09 (R244). -/
abbrev leadIn : Nat := 0x500009
/-- TERMINATION 5000.0A (R244). -/
abbrev termination : Nat := 0x50000A
/-- CHOKE_RES 5000.0B (R244). -/
abbrev chokeRes : Nat := 0x50000B
/-- PROT_RES 5000.0C (R244). -/
abbrev protRes : Nat := 0x50000C
/-- INS_ENABLE 5000.0D (R244). -/
abbrev insEnable : Nat := 0x50000D
/-- INS_BIAS 5000.0E (R244). -/
abbrev insBias : Nat := 0x50000E
/-- BENCH_RUNS 5000.10 (R244). -/
abbrev benchRuns : Nat := 0x500010
/-- BENCH_CAPTURE 5000.11 (R244). -/
abbrev benchCapture : Nat := 0x500011
/-- LEAD_IN_CAL 5000.12 (R244). -/
abbrev leadInCal : Nat := 0x500012
/-- CAL_CHAINAGE 5000.13 (R244). -/
abbrev calChainage : Nat := 0x500013
/-- VF_CAL 5000.14 (R244). -/
abbrev vfCal : Nat := 0x500014
/-- TRAV_STATE 5001.01 (R244). -/
abbrev travState : Nat := 0x500101
/-- TRAV_COUNT 5001.02 (R244). -/
abbrev travCount : Nat := 0x500102
/-- EFF_STEP 5001.03 (R244). -/
abbrev effStep : Nat := 0x500103
/-- TRAV_POINTS 5001.04 (R244). -/
abbrev travPoints : Nat := 0x500104
/-- INS_RES 5001.05 (R244). -/
abbrev insRes : Nat := 0x500105
/-- GALVANIC 5001.06 (R244). -/
abbrev galvanic : Nat := 0x500106
/-- LOOP_RES 5001.07 (R244). -/
abbrev loopRes : Nat := 0x500107
/-- DC_TIME 5001.08 (R244). -/
abbrev dcTime : Nat := 0x500108
/-- BENCH_STATE 5001.09 (R244). -/
abbrev benchState : Nat := 0x500109
/-- BENCH_TIME 5001.0A (R244). -/
abbrev benchTime : Nat := 0x50010A
/-- CAL_RESULT 5001.0B (R244). -/
abbrev calResult : Nat := 0x50010B
/-- CAL_CHAINAGE_FOUND 5001.0C (R244). -/
abbrev calChainageFound : Nat := 0x50010C
/-- CAL_VF 5001.0D (R244). -/
abbrev calVf : Nat := 0x50010D
/-- RUNS_ABANDONED 5002.01 (R244). -/
abbrev runsAbandoned : Nat := 0x500201
/-- RUNS_SKIPPED 5002.02 (R244). -/
abbrev runsSkipped : Nat := 0x500202
/-- CLIPPED_RUNS 5002.03 (R244). -/
abbrev clippedRuns : Nat := 0x500203
/-- CAL_FAILS 5002.04 (R244). -/
abbrev calFails : Nat := 0x500204
/-- TRACE 5020.01 (R244). -/
abbrev trace : Nat := 0x502001
/-- TRACE_TIME 5020.02 (R244). -/
abbrev traceTime : Nat := 0x502002
/-- TRACE_STEP 5020.03 (R244). -/
abbrev traceStep : Nat := 0x502003
/-- TRACE_POINTS 5020.04 (R244). -/
abbrev tracePoints : Nat := 0x502004
/-- TRACE_FLAGS 5020.05 (R244). -/
abbrev traceFlags : Nat := 0x502005
/-- TRACE_INS 5020.06 (R244). -/
abbrev traceIns : Nat := 0x502006
/-- TRACE_LOOP 5020.07 (R244). -/
abbrev traceLoop : Nat := 0x502007
/-- INS_DWELL 2250.01 (R245). -/
abbrev insDwell : Nat := 0x225001
/-- INS_POLARITY 2250.02 (R245). -/
abbrev insPolarity : Nat := 0x225002
/-- CELL_ALLOC_A 5040.01 (R265). -/
abbrev cellAllocA : Nat := 0x504001
/-- CELL_ALLOC_B 5040.02 (R265). -/
abbrev cellAllocB : Nat := 0x504002
/-- CELL_LAYOUT 5040.03 (R265). -/
abbrev cellLayout : Nat := 0x504003
/-- DEF_THRESH 5040.04 (R265). -/
abbrev defThresh : Nat := 0x504004
/-- DEF_HYST 5040.05 (R265). -/
abbrev defHyst : Nat := 0x504005
/-- SIGMA_K 5040.06 (R265). -/
abbrev sigmaK : Nat := 0x504006
/-- DRIFT_COUNT 5040.07 (R265). -/
abbrev driftCount : Nat := 0x504007
/-- DRIFT_CAP 5040.08 (R265). -/
abbrev driftCap : Nat := 0x504008
/-- VAR_SHIFT 5040.09 (R265). -/
abbrev varShift : Nat := 0x504009
/-- STEP_LEVEL 5040.0A (R265). -/
abbrev stepLevel : Nat := 0x50400A
/-- REPORT_WATCH 5040.0B (R265). -/
abbrev reportWatch : Nat := 0x50400B
/-- ALARM_COUNT 5040.0C (R265). -/
abbrev alarmCount : Nat := 0x50400C
/-- CONFIRM_TIME 5040.0D (R265). -/
abbrev confirmTime : Nat := 0x50400D
/-- VAR_INIT 5040.0E (R265). -/
abbrev varInit : Nat := 0x50400E
/-- REPORT_BUDGET 5040.0F (R265). -/
abbrev reportBudget : Nat := 0x50400F
/-- LAYOUT_HOST 5040.12 (R265). -/
abbrev layoutHost : Nat := 0x504012
/-- CELLS_QUIET 5041.01 (R265). -/
abbrev cellsQuiet : Nat := 0x504101
/-- CELLS_WATCH 5041.02 (R265). -/
abbrev cellsWatch : Nat := 0x504102
/-- CELLS_ALARM 5041.03 (R265). -/
abbrev cellsAlarm : Nat := 0x504103
/-- CELLS_CONFIRMED 5041.04 (R265). -/
abbrev cellsConfirmed : Nat := 0x504104
/-- CELLS_MASKED 5041.05 (R265). -/
abbrev cellsMasked : Nat := 0x504105
/-- CELLS_SKIPPED 5041.08 (R265). -/
abbrev cellsSkipped : Nat := 0x504108
/-- DRIFT_CAPPED 5041.09 (R265). -/
abbrev driftCapped : Nat := 0x504109
/-- CELL_REBUILDS 5041.0A (R265). -/
abbrev cellRebuilds : Nat := 0x50410A
/-- REPORTS_OVER 5041.0B (R265). -/
abbrev reportsOver : Nat := 0x50410B
/-- CELL_OWNER 5100.01 (R266). -/
abbrev cellOwner : Nat := 0x510001
/-- CELL_START 5100.02 (R266). -/
abbrev cellStart : Nat := 0x510002
/-- CELL_WIDTH 5100.03 (R266). -/
abbrev cellWidth : Nat := 0x510003
/-- CELL_BENCH 5100.04 (R266). -/
abbrev cellBench : Nat := 0x510004
/-- CELL_DRIFT 5100.05 (R266). -/
abbrev cellDrift : Nat := 0x510005
/-- CELL_RESIDUE 5100.06 (R266). -/
abbrev cellResidue : Nat := 0x510006
/-- CELL_VAR 5100.07 (R266). -/
abbrev cellVar : Nat := 0x510007
/-- CELL_THRESH 5100.08 (R266). -/
abbrev cellThresh : Nat := 0x510008
/-- CELL_STATE 5100.09 (R266). -/
abbrev cellState : Nat := 0x510009
/-- CELL_HYST 5100.0A (R266). -/
abbrev cellHyst : Nat := 0x51000A
/-- CELL_KIND 5100.0B (R266). -/
abbrev cellKind : Nat := 0x51000B
/-- CELL_COUNT 5100.0C (R266). -/
abbrev cellCount : Nat := 0x51000C
/-- CELL_TIME 5100.0D (R266). -/
abbrev cellTime : Nat := 0x51000D
/-- CELL_PAGE 5100.0E (R266). -/
abbrev cellPage : Nat := 0x51000E
/-- CELL_RAW 5100.0F (R266). -/
abbrev cellRaw : Nat := 0x51000F
/-- CELL_CHAINAGE 5100.10 (R266). -/
abbrev cellChainage : Nat := 0x510010
/-- ALARM_LOG 5140.01 (R266). -/
abbrev alarmLog : Nat := 0x514001
/-- ALARM_SEQ 5140.02 (R266). -/
abbrev alarmSeq : Nat := 0x514002
/-- EPOCH_PAGE 5140.03 (R266). -/
abbrev epochPage : Nat := 0x514003
/-- EPOCH_LOG 5140.04 (R266). -/
abbrev epochLog : Nat := 0x514004
/-- SNAP_INTERVAL 5140.05 (R266). -/
abbrev snapInterval : Nat := 0x514005
/-- CELLS_FREE 5140.06 (R266). -/
abbrev cellsFree : Nat := 0x514006
/-- ARCH_ENABLE 5800.01 (R290). -/
abbrev archEnable : Nat := 0x580001
/-- ARCH_STATE 5800.02 (R290). -/
abbrev archState : Nat := 0x580002
/-- ARCH_REASON 5800.03 (R290). -/
abbrev archReason : Nat := 0x580003
/-- ARCH_FORMAT 5800.04 (R290). -/
abbrev archFormat : Nat := 0x580004
/-- ARCH_ADOPT 5800.05 (R290). -/
abbrev archAdopt : Nat := 0x580005
/-- AUTO_FORMAT 5800.06 (R290). -/
abbrev autoFormat : Nat := 0x580006
/-- PERM_PCT 5800.07 (R290). -/
abbrev permPct : Nat := 0x580007
/-- FINE_PCT 5800.08 (R290). -/
abbrev finePct : Nat := 0x580008
/-- LONG_INTERVAL 5800.09 (R290). -/
abbrev longInterval : Nat := 0x580009
/-- COMMIT_INTERVAL 5800.0A (R290). -/
abbrev commitInterval : Nat := 0x58000A
/-- CMD_TIMEOUT 5800.0B (R290). -/
abbrev cmdTimeout : Nat := 0x58000B
/-- LINK_STATUS 5801.01 (R290). -/
abbrev linkStatus : Nat := 0x580101
/-- FINE_OLDEST 5801.02 (R290). -/
abbrev fineOldest : Nat := 0x580102
/-- LONG_OLDEST 5801.03 (R290). -/
abbrev longOldest : Nat := 0x580103
/-- PERM_FREE 5801.04 (R290). -/
abbrev permFree : Nat := 0x580104
/-- NEXT_REC_SEQ 5801.05 (R290). -/
abbrev nextRecSeq : Nat := 0x580105
/-- COMMIT_SEQ 5801.06 (R290). -/
abbrev commitSeq : Nat := 0x580106
/-- LAST_COMMIT 5801.07 (R290). -/
abbrev lastCommit : Nat := 0x580107
/-- SNAP_TIME 5801.08 (R290). -/
abbrev snapTime : Nat := 0x580108
/-- IN_FLIGHT 5801.09 (R290). -/
abbrev inFlight : Nat := 0x580109
/-- DRIVE_TEMP 5801.0A (R290). -/
abbrev driveTemp : Nat := 0x58010A
/-- DRIVE_WEAR 5801.0B (R290). -/
abbrev driveWear : Nat := 0x58010B
/-- DRIVE_WARN 5801.0C (R290). -/
abbrev driveWarn : Nat := 0x58010C
/-- RECORDS_WRITTEN 5802.01 (R290). -/
abbrev recordsWritten : Nat := 0x580201
/-- RECORDS_LATE 5802.02 (R290). -/
abbrev recordsLate : Nat := 0x580202
/-- RECORDS_UNWRITTEN 5802.03 (R290). -/
abbrev recordsUnwritten : Nat := 0x580203
/-- RECORDS_RECOVERED 5802.04 (R290). -/
abbrev recordsRecovered : Nat := 0x580204
/-- RECORDS_DISCARDED 5802.05 (R290). -/
abbrev recordsDiscarded : Nat := 0x580205
/-- CMD_TIMEOUTS 5802.06 (R290). -/
abbrev cmdTimeouts : Nat := 0x580206
/-- CMD_ERRORS 5802.07 (R290). -/
abbrev cmdErrors : Nat := 0x580207
/-- CTRL_RESETS 5802.08 (R290). -/
abbrev ctrlResets : Nat := 0x580208
/-- COMMITS 5802.09 (R290). -/
abbrev archCommits : Nat := 0x580209
/-- PERM_REFUSED 5802.0A (R290). -/
abbrev permRefused : Nat := 0x58020A
/-- READ_ERRORS 5802.0B (R290). -/
abbrev readErrors : Nat := 0x58020B
/-- FIND_PORT 5810.01 (R290). -/
abbrev findPort : Nat := 0x581001
/-- FIND_TIME 5810.02 (R290). -/
abbrev findTime : Nat := 0x581002
/-- FIND_KIND 5810.03 (R290). -/
abbrev findKind : Nat := 0x581003
/-- FIND_GO 5810.05 (R290). -/
abbrev findGo : Nat := 0x581005
/-- FIND_STATE 5810.06 (R290). -/
abbrev findState : Nat := 0x581006
/-- FIND_RESULT 5810.07 (R290). -/
abbrev findResult : Nat := 0x581007
/-- ARCH_ROUTINE 5000.15 (R291). -/
abbrev archRoutine : Nat := 0x500015
/-- TRACE_REC_SEQ 5020.08 (R291). -/
abbrev traceRecSeq : Nat := 0x502008
/-- TRACE_TIER 5020.09 (R291). -/
abbrev traceTier : Nat := 0x502009
/-- TRACE_RECORD 5020.0A (R291). -/
abbrev traceRecord : Nat := 0x50200A
/-- HOLDUP_CAP 7020.01 (R292). -/
abbrev holdupCap : Nat := 0x702001
/-- HOLDUP_DIV 7020.02 (R292). -/
abbrev holdupDiv : Nat := 0x702002
/-- HOLDUP_NVM_REQ 7020.03 (R292). -/
abbrev holdupNvmReq : Nat := 0x702003
/-- HOLDUP_ARCH_REQ 7020.04 (R292). -/
abbrev holdupArchReq : Nat := 0x702004
/-- HOLDUP_V 7020.05 (R292). -/
abbrev holdupV : Nat := 0x702005
/-- HOLDUP_E 7020.06 (R292). -/
abbrev holdupE : Nat := 0x702006
/-- NVM_REFUSALS 7021.01 (R292). -/
abbrev nvmRefusals : Nat := 0x702101
/-- ARCH_REFUSALS 7021.02 (R292). -/
abbrev archRefusals : Nat := 0x702102
/-- HOLDUP_BYPASSES 7021.03 (R292). -/
abbrev holdupBypasses : Nat := 0x702103
/-- LINK_ENABLE 6000.01 (R327). -/
abbrev linkEnable : Nat := 0x600001
/-- LINK_STATE 6000.02 (R327). -/
abbrev linkState : Nat := 0x600002
/-- TX_STATE 6000.03 (R327). -/
abbrev txState : Nat := 0x600003
/-- FAR_RX_UP 6000.04 (R327). -/
abbrev farRxUp : Nat := 0x600004
/-- LANE_MAP 6000.05 (R327). -/
abbrev laneMap : Nat := 0x600005
/-- FAR_ID 6000.06 (R327). -/
abbrev farId : Nat := 0x600006
/-- QUIET_IDLE 6000.07 (R327). -/
abbrev quietIdle : Nat := 0x600007
/-- RETRAIN 6000.08 (R327). -/
abbrev linkRetrain : Nat := 0x600008
/-- LINK_UPS 6001.01 (R327). -/
abbrev linkUps : Nat := 0x600101
/-- LINK_LOSSES 6001.02 (R327). -/
abbrev linkLosses : Nat := 0x600102
/-- SYNC_ERRORS 6001.03 (R327). -/
abbrev syncErrors : Nat := 0x600103
/-- BLOCK_ERRORS 6001.04 (R327). -/
abbrev blockErrors : Nat := 0x600104
/-- START_ERRORS 6001.05 (R327). -/
abbrev startErrors : Nat := 0x600105
/-- FRAME_ERRORS 6001.06 (R327). -/
abbrev frameErrors : Nat := 0x600106
/-- FRAMES_IN 6001.07 (R327). -/
abbrev framesIn : Nat := 0x600107
/-- FRAMES_OUT 6001.08 (R327). -/
abbrev framesOut : Nat := 0x600108
/-- TX_OVERFLOWS 6001.09 (R327). -/
abbrev txOverflows : Nat := 0x600109
/-- UNROUTABLE 6001.0A (R327). -/
abbrev unroutable : Nat := 0x60010A
/-- PARTIAL_FRAMES 6001.0B (R327). -/
abbrev partialFrames : Nat := 0x60010B
/-- COPIES_SENT 6001.0C (R327). -/
abbrev copiesSent : Nat := 0x60010C
/-- STATUS_DROPS 6001.0D (R327). -/
abbrev statusDrops : Nat := 0x60010D
/-- QUIET_ENTRIES_TX 6001.0E (R327). -/
abbrev quietEntriesTx : Nat := 0x60010E
/-- QUIET_ENTRIES_RX 6001.0F (R327). -/
abbrev quietEntriesRx : Nat := 0x60010F
/-- BULK_BUSY 6001.10 (R327). -/
abbrev bulkBusy : Nat := 0x600110
/-- WIRING_ERRORS 6001.11 (R327). -/
abbrev wiringErrors : Nat := 0x600111
/-- TX_SWING 6010+n.01 (R327). -/
abbrev txSwing : Nat := 0x601001
/-- TX_PRE 6010+n.02 (R327). -/
abbrev txPre : Nat := 0x601002
/-- TX_POST 6010+n.03 (R327). -/
abbrev txPost : Nat := 0x601003
/-- TX_PRECODE 6010+n.04 (R327). -/
abbrev txPrecode : Nat := 0x601004
/-- TX_INVERT 6010+n.05 (R327). -/
abbrev txInvert : Nat := 0x601005
/-- PRBS_GEN 6010+n.06 (R327). -/
abbrev prbsGen : Nat := 0x601006
/-- RX_PRECODE 6020+n.01 (R327). -/
abbrev rxPrecode : Nat := 0x602001
/-- RX_INVERT 6020+n.02 (R327). -/
abbrev rxInvert : Nat := 0x602002
/-- EYE_HEIGHT 6020+n.03 (R327). -/
abbrev eyeHeight : Nat := 0x602003
/-- PRBS_CHECK 6020+n.04 (R327). -/
abbrev prbsCheck : Nat := 0x602004
/-- PRBS_LOCKED 6020+n.05 (R327). -/
abbrev prbsLocked : Nat := 0x602005
/-- PRBS_BITS 6020+n.06 (R327). -/
abbrev prbsBits : Nat := 0x602006
/-- PRBS_ERRORS 6020+n.07 (R327). -/
abbrev prbsErrors : Nat := 0x602007
/-- PRBS_CLEAR 6020+n.08 (R327). -/
abbrev prbsClear : Nat := 0x602008
/-- LINK_MODE 6200.01 (R328). -/
abbrev linkMode : Nat := 0x620001
/-- PREFERRED 6200.02 (R328). -/
abbrev preferred : Nat := 0x620002
/-- RETURN_HOLD 6200.03 (R328). -/
abbrev returnHold : Nat := 0x620003
/-- TRAFFIC_LINKS 6200.04 (R328). -/
abbrev trafficLinks : Nat := 0x620004
/-- LINK_FAILOVERS 6200.05 (R328). -/
abbrev linkFailovers : Nat := 0x620005
/-- LINK_RETURNS 6200.06 (R328). -/
abbrev linkReturns : Nat := 0x620006
/-- FORCE_SWITCH 6200.07 (R328). -/
abbrev forceSwitch : Nat := 0x620007
/-- STATUS_SEQ 6200.08 (R328). -/
abbrev statusSeq : Nat := 0x620008
/-- SEL_PORT 2000.00 (R340). -/
abbrev selPort : Nat := 0x200000
/-- SEL_DROP 2001.00 (R340). -/
abbrev selDrop : Nat := 0x200100
/-- SEL_CELL 2002.00 (R340). -/
abbrev selCell : Nat := 0x200200
/-- SEL_CLUSTER 2003.00 (R340). -/
abbrev selCluster : Nat := 0x200300
/-- SEL_TRACE 2004.00 (R340). -/
abbrev selTrace : Nat := 0x200400
/-- AUTO_STEP 2005.00 (R340). -/
abbrev autoStep : Nat := 0x200500
/-- PATH_ID 2006.00 (R340). -/
abbrev pathId : Nat := 0x200600
/-- COMMIT 1100.01 (R360). -/
abbrev commit : Nat := 0x110001
/-- COMMIT_STATE 1100.02 (R360). -/
abbrev commitState : Nat := 0x110002
/-- COMMIT_PENDING 1100.03 (R360). -/
abbrev commitPending : Nat := 0x110003
/-- COMMIT_TIME 1100.04 (R360). -/
abbrev commitTime : Nat := 0x110004
/-- COMMITS 1100.05 (R360). -/
abbrev nvmCommits : Nat := 0x110005
/-- COMMIT_FAILS 1100.06 (R360). -/
abbrev commitFails : Nat := 0x110006
/-- DEFAULTS 1100.07 (R360). -/
abbrev defaults : Nat := 0x110007
/-- REVERT 1100.08 (R360). -/
abbrev revert : Nat := 0x110008
/-- ABORTS_SPI 1101.01 (R360). -/
abbrev abortsSpi : Nat := 0x110101
/-- ABORTS_A 1101.02 (R360). -/
abbrev abortsA : Nat := 0x110102
/-- ABORTS_B 1101.03 (R360). -/
abbrev abortsB : Nat := 0x110103
/-- SPI_REJECTS 1101.04 (R360). -/
abbrev spiRejects : Nat := 0x110104
/-- VENDOR_ID 1000.01 (R362). -/
abbrev vendorId : Nat := 0x100001
/-- PRODUCT_ID 1000.02 (R362). -/
abbrev productId : Nat := 0x100002
/-- ORDER_CODE 1000.03 (R362). -/
abbrev orderCode : Nat := 0x100003
/-- SERIAL 1000.04 (R362). -/
abbrev serial : Nat := 0x100004
/-- DIE_STEPS 1000.05 (R362). -/
abbrev dieSteps : Nat := 0x100005
/-- PKG_STEP 1000.06 (R362). -/
abbrev pkgStep : Nat := 0x100006
/-- TJ_MIN 1000.07 (R362). -/
abbrev tjMin : Nat := 0x100007
/-- TJ_MAX 1000.08 (R362). -/
abbrev tjMax : Nat := 0x100008
/-- USER_TAG 1000.09 (R362). -/
abbrev userTag : Nat := 0x100009
/-- RESET_CMD 1030.01 (R362). -/
abbrev resetCmd : Nat := 0x103001
/-- RESET_CAUSE 1030.02 (R362). -/
abbrev resetCause : Nat := 0x103002
/-- WATCHDOG_TIMEOUT 1030.03 (R362). -/
abbrev watchdogTimeout : Nat := 0x103003
/-- WATCHDOG_RESETS 1031.01 (R362). -/
abbrev watchdogResets : Nat := 0x103101
/-- RESETS 1031.02 (R362). -/
abbrev resets : Nat := 0x103102
/-- LC_STATE 1010.01 (R364). -/
abbrev lcState : Nat := 0x101001
/-- LC_REQUEST 1010.02 (R364). -/
abbrev lcRequest : Nat := 0x101002
/-- LC_REFUSALS 1010.03 (R364). -/
abbrev lcRefusals : Nat := 0x101003
/-- FW_ACTIVE 1020.01 (R366). -/
abbrev fwActive : Nat := 0x102001
/-- FW_BOOT_BANK 1020.02 (R366). -/
abbrev fwBootBank : Nat := 0x102002
/-- FW_BANK_ERASE 1020.03 (R366). -/
abbrev fwBankErase : Nat := 0x102003
/-- FW_IMAGE 1020.04 (R366). -/
abbrev fwImage : Nat := 0x102004
/-- FW_SWITCH 1020.05 (R366). -/
abbrev fwSwitch : Nat := 0x102005
/-- FW_UPDATE_STATE 1020.06 (R366). -/
abbrev fwUpdateState : Nat := 0x102006
/-- BANK0_STATE 1021.01 (R366). -/
abbrev bank0State : Nat := 0x102101
/-- BANK1_STATE 1021.02 (R366). -/
abbrev bank1State : Nat := 0x102102
/-- BANK0_VERSION 1021.03 (R366). -/
abbrev bank0Version : Nat := 0x102103
/-- BANK1_VERSION 1021.04 (R366). -/
abbrev bank1Version : Nat := 0x102104
/-- BANK0_SEQ 1021.05 (R366). -/
abbrev bank0Seq : Nat := 0x102105
/-- BANK1_SEQ 1021.06 (R366). -/
abbrev bank1Seq : Nat := 0x102106
/-- CLUSTER_STATE 2200.01 (R368). -/
abbrev clusterState : Nat := 0x220001
/-- CLUSTER_TARGET 2200.02 (R368). -/
abbrev clusterTarget : Nat := 0x220002
/-- WAKE_ALARM 2200.03 (R368). -/
abbrev wakeAlarm : Nat := 0x220003
/-- WAKES 2201.01 (R368). -/
abbrev wakes : Nat := 0x220101
/-- WAKE_FAILS 2201.02 (R368). -/
abbrev wakeFails : Nat := 0x220102
/-- DORMANT_ENTRIES 2201.03 (R368). -/
abbrev dormantEntries : Nat := 0x220103
/-- ENGINE_MAP 2210.01 (R368). -/
abbrev engineMap : Nat := 0x221001
/-- SPARES_LEFT 2210.02 (R368). -/
abbrev sparesLeft : Nat := 0x221002
/-- FAILED_ENGINES 2210.03 (R368). -/
abbrev failedEngines : Nat := 0x221003
/-- CLINK_FRAME_ERRORS 2220.01 (R368). -/
abbrev clinkFrameErrors : Nat := 0x222001
/-- CLINK_LOSSES 2220.02 (R368). -/
abbrev clinkLosses : Nat := 0x222002
/-- PORT_MODE 3000.01 (R369). -/
abbrev portMode : Nat := 0x300001
/-- PORT_STATE 3000.02 (R369). -/
abbrev portState : Nat := 0x300002
/-- PORT_CLUSTER 3000.03 (R369). -/
abbrev portCluster : Nat := 0x300003
/-- ENGINE 3000.04 (R369). -/
abbrev engine : Nat := 0x300004
/-- CONVERTER 3000.05 (R369). -/
abbrev converter : Nat := 0x300005
/-- MIGRATIONS 3001.01 (R369). -/
abbrev migrations : Nat := 0x300101
/-- HALF_LOSSES 3001.02 (R369). -/
abbrev halfLosses : Nat := 0x300102
/-- AVS_ENABLE 7000.01 (R372). -/
abbrev avsEnable : Nat := 0x700001
/-- VCORE_NOW 7000.02 (R372). -/
abbrev vcoreNow : Nat := 0x700002
/-- VCORE_NOM 7000.03 (R372). -/
abbrev vcoreNom : Nat := 0x700003
/-- VCORE_MIN 7000.04 (R372). -/
abbrev vcoreMin : Nat := 0x700004
/-- VCORE_MAX 7000.05 (R372). -/
abbrev vcoreMax : Nat := 0x700005
/-- PMBUS_NACKS 7001.01 (R372). -/
abbrev pmbusNacks : Nat := 0x700101
/-- PMBUS_PEC_ERRORS 7001.02 (R372). -/
abbrev pmbusPecErrors : Nat := 0x700102
/-- PMBUS_BUSY_TIMEOUTS 7001.03 (R372). -/
abbrev pmbusBusyTimeouts : Nat := 0x700103
/-- PMBUS_RETRIES 7001.04 (R372). -/
abbrev pmbusRetries : Nat := 0x700104
/-- RAIL_ADDR 7040+n.01 (R373). -/
abbrev railAddr : Nat := 0x704001
/-- RAIL_PAGE 7040+n.02 (R373). -/
abbrev railPage : Nat := 0x704002
/-- RAIL_VSET 7040+n.03 (R373). -/
abbrev railVset : Nat := 0x704003
/-- RAIL_VREAD 7040+n.04 (R373). -/
abbrev railVread : Nat := 0x704004
/-- RAIL_STATUS 7040+n.05 (R373). -/
abbrev railStatus : Nat := 0x704005
/-- RAIL_ON 7040+n.06 (R373). -/
abbrev railOn : Nat := 0x704006
/-- RAIL_FAILS 7040+n.07 (R373). -/
abbrev railFails : Nat := 0x704007
/-- TJ 7100+s.01 (R374). -/
abbrev tj : Nat := 0x710001
/-- TJ_PEAK 7100+s.02 (R374). -/
abbrev tjPeak : Nat := 0x710002
/-- NEIGHBOUR_MEAN 7100+s.03 (R374). -/
abbrev neighbourMean : Nat := 0x710003
/-- SENSOR_STATE 7100+s.04 (R374). -/
abbrev sensorState : Nat := 0x710004
/-- TJ_GOVERN 7100+s.05 (R374). -/
abbrev tjGovern : Nat := 0x710005
/-- TJ_WARN 7110.01 (R375). -/
abbrev tjWarn : Nat := 0x711001
/-- TJ_THROTTLE 7110.02 (R375). -/
abbrev tjThrottle : Nat := 0x711002
/-- TJ_SHUTDOWN 7110.03 (R375). -/
abbrev tjShutdown : Nat := 0x711003
/-- TJ_RESTART 7110.04 (R375). -/
abbrev tjRestart : Nat := 0x711004
/-- THERMAL_STATE 7110.05 (R375). -/
abbrev thermalState : Nat := 0x711005
/-- WARN_EVENTS 7111.01 (R375). -/
abbrev warnEvents : Nat := 0x711101
/-- THROTTLE_EVENTS 7111.02 (R375). -/
abbrev throttleEvents : Nat := 0x711102
/-- LINE_DIE_SHUTDOWNS 7111.03 (R375). -/
abbrev lineDieShutdowns : Nat := 0x711103
/-- CORE_SHUTDOWNS 7111.04 (R375). -/
abbrev coreShutdowns : Nat := 0x711104
/-- SENSORS_BROKEN 7111.05 (R375). -/
abbrev sensorsBroken : Nat := 0x711105
/-- FAULT_PENDING 7800.01 (R376). -/
abbrev faultPending : Nat := 0x780001
/-- FAULT_UNACKED 7800.02 (R376). -/
abbrev faultUnacked : Nat := 0x780002
/-- FAULT_ACK 7800.03 (R376). -/
abbrev faultAck : Nat := 0x780003
/-- FAULT_CLEAR 7800.04 (R376). -/
abbrev faultClear : Nat := 0x780004
/-- FAULT_SOURCES_ACTIVE 7800.05 (R376). -/
abbrev faultSourcesActive : Nat := 0x780005
/-- FEC_VALID 7801.01 (R376). -/
abbrev fecValid : Nat := 0x780101
/-- FEC_SOURCE 7801.02 (R376). -/
abbrev fecSource : Nat := 0x780102
/-- FEC_CLASS 7801.03 (R376). -/
abbrev fecClass : Nat := 0x780103
/-- FEC_ADDRESS 7801.04 (R376). -/
abbrev fecAddress : Nat := 0x780104
/-- FEC_MASTER 7801.05 (R376). -/
abbrev fecMaster : Nat := 0x780105
/-- FEC_ACCESS 7801.06 (R376). -/
abbrev fecAccess : Nat := 0x780106
/-- FEC_TIME 7801.07 (R376). -/
abbrev fecTime : Nat := 0x780107
/-- FEC_COINCIDENT 7801.08 (R376). -/
abbrev fecCoincident : Nat := 0x780108
/-- FEC_INJECTED 7801.09 (R376). -/
abbrev fecInjected : Nat := 0x780109
/-- FEC_DETAIL 7801.0A (R376). -/
abbrev fecDetail : Nat := 0x78010A
/-- FEC_REARM 7801.0B (R376). -/
abbrev fecRearm : Nat := 0x78010B
/-- FAULT_TABLE 7802.01 (R376). -/
abbrev faultTable : Nat := 0x780201
/-- FAULT_LOG 7802.02 (R376). -/
abbrev faultLog : Nat := 0x780202
/-- ROTATION_ENABLE 7C00.01 (R377). -/
abbrev rotationEnable : Nat := 0x7C0001
/-- ROTATION_INTERVAL 7C00.02 (R377). -/
abbrev rotationInterval : Nat := 0x7C0002
/-- SLICE_TEST_ENABLE 7C00.03 (R377). -/
abbrev sliceTestEnable : Nat := 0x7C0003
/-- ROTATION_NEXT 7C00.04 (R377). -/
abbrev rotationNext : Nat := 0x7C0004
/-- ROTATIONS 7C01.01 (R377). -/
abbrev rotations : Nat := 0x7C0101
/-- ENGINE_PASSES 7C01.02 (R377). -/
abbrev enginePasses : Nat := 0x7C0102
/-- ENGINE_FAILS 7C01.03 (R377). -/
abbrev engineFails : Nat := 0x7C0103
/-- SLICE_TESTS 7C01.04 (R377). -/
abbrev sliceTests : Nat := 0x7C0104
/-- SLICE_ABORTS 7C01.05 (R377). -/
abbrev sliceAborts : Nat := 0x7C0105
/-- SLICES_STARVED 7C01.06 (R377). -/
abbrev slicesStarved : Nat := 0x7C0106
/-- MISR_MISMATCHES 7C01.07 (R377). -/
abbrev misrMismatches : Nat := 0x7C0107
/-- ENGINE_STATES 7C10.01 (R377). -/
abbrev engineStates : Nat := 0x7C1001
/-- ENGINE_TESTED 7C10.02 (R377). -/
abbrev engineTested : Nat := 0x7C1002
/-- FULL_TEST 7C20.01 (R377). -/
abbrev fullTest : Nat := 0x7C2001
/-- FULL_TEST_STATE 7C20.02 (R377). -/
abbrev fullTestState : Nat := 0x7C2002
/-- FULL_TEST_RESULT 7C20.03 (R377). -/
abbrev fullTestResult : Nat := 0x7C2003
/-- TRIM F000.01 (R379). -/
abbrev trim : Nat := 0xF00001
/-- GOLDEN_MISR F001.01 (R379). -/
abbrev goldenMisr : Nat := 0xF00101
/-- FAULT_INJECT F010.01 (R379). -/
abbrev faultInject : Nat := 0xF01001
/-- INJECTIONS F010.02 (R379). -/
abbrev injections : Nat := 0xF01002

end Code

/-! ## The rows -/

/-- Objects of R93. -/
def objsR93 : List Obj := [
  ⟨0x210000, .u8, .rwp, .device, 1, 10, 4⟩,
  ⟨0x210100, .time64, .ro, .device, 0, 18446744073709551615, 0⟩,
  ⟨0x210200, .time64, .wo, .device, 0, 18446744073709551615, 0⟩,
  ⟨0x210300, .bool, .ro, .device, 0, 1, 0⟩,
  ⟨0x210400, .u32, .ro, .device, 0, 4294967295, 0⟩,
  ⟨0x210500, .u8, .ro, .device, 0, 255, 3⟩,
  ⟨0x210600, .u32, .ro, .device, 0, 4294967295, 0⟩,
  ⟨0x210700, .u8, .ro, .device, 0, 255, 0⟩,
  ⟨0x210800, .u8, .rwp, .device, 0, 255, 255⟩,
  ⟨0x210900, .i32, .rwp, .device, -100000, 100000, 0⟩,
  ⟨0x210A00, .i32, .ro, .device, -2147483648, 2147483647, 0⟩,
  ⟨0x210B00, .q16, .ro, .device, -2147483648, 2147483647, 0⟩,
  ⟨0x210C00, .u32, .ro, .device, 0, 4294967295, 0⟩,
  ⟨0x210D00, .i32, .ro, .device, -2147483648, 2147483647, 0⟩,
  ⟨0x210E00, .u8, .rwp, .device, 0, 1, 0⟩,
  ⟨0x211000, .bool, .wo, .device, 0, 1, 0⟩,
  ⟨0x211100, .u8, .ro, .device, 0, 255, 0⟩,
  ⟨0x211200, .u32, .rw1c, .device, 0, 1, 0⟩,
  ⟨0x211300, .u32, .rw1c, .device, 0, 1, 0⟩,
  ⟨0x211400, .u32, .rw1c, .device, 0, 1, 0⟩,
  ⟨0x211500, .u32, .rw1c, .device, 0, 1, 0⟩,
  ⟨0x211600, .u16, .rwp, .device, 1, 600, 10⟩,
  ⟨0x224001, .domain, .ro, .cluster, 0, 512, 0⟩,
  ⟨0x224002, .u8, .ro, .cluster, 0, 255, 0⟩,
  ⟨0x302001, .u32, .rwp, .port, 0, 100000, 0⟩,
  ⟨0x302002, .u32, .rwp, .port, 0, 20000, 0⟩,
  ⟨0x302003, .u32, .rwp, .port, 0, 50000, 2000⟩,
  ⟨0x302004, .u8, .ro, .port, 0, 255, 1⟩,
  ⟨0x302005, .u16, .rwp, .port, 1, 256, 16⟩,
  ⟨0x302006, .u16, .rwp, .port, 0, 255, 0⟩,
  ⟨0x302007, .u32, .ro, .port, 0, 4294967295, 0⟩,
  ⟨0x302008, .u32, .rw1c, .port, 0, 1, 0⟩]
/-- Objects of R93. -/
def objsR93b : List Obj := [
  ⟨0x402001, .u16, .rw, .drop, 0, 2000, 128⟩,
  ⟨0x402002, .u8, .ro, .drop, 0, 255, 0⟩,
  ⟨0x402003, .u32, .ro, .drop, 0, 4294967295, 0⟩,
  ⟨0x402004, .u32, .ro, .drop, 0, 4294967295, 0⟩,
  ⟨0x402005, .u16, .ro, .drop, 0, 65535, 0⟩,
  ⟨0x402006, .u16, .ro, .drop, 0, 65535, 0⟩]
/-- Objects of R128. -/
def objsR128 : List Obj := [
  ⟨0x303001, .u8, .rwp, .port, 0, 6, 3⟩,
  ⟨0x303002, .u8, .rwp, .port, 0, 48, 0⟩,
  ⟨0x303003, .u8, .rwp, .port, 0, 48, 0⟩,
  ⟨0x303004, .u8, .ro, .port, 0, 255, 96⟩]
/-- Objects of R159. -/
def objsR159 : List Obj := [
  ⟨0x304001, .u8, .rwp, .port, 6, 40, 12⟩,
  ⟨0x304002, .u8, .rwp, .port, 6, 12, 8⟩,
  ⟨0x304003, .u8, .rwp, .port, 8, 16, 12⟩,
  ⟨0x304004, .i16, .ro, .port, -32768, 32767, 0⟩,
  ⟨0x304101, .u32, .rw1c, .port, 0, 1, 0⟩,
  ⟨0x304102, .u32, .rw1c, .port, 0, 1, 0⟩,
  ⟨0x304103, .u32, .rw1c, .port, 0, 1, 0⟩,
  ⟨0x304104, .u32, .rw1c, .port, 0, 1, 0⟩,
  ⟨0x304105, .u32, .rw1c, .port, 0, 1, 0⟩,
  ⟨0x304106, .u32, .rw1c, .port, 0, 1, 0⟩,
  ⟨0x304107, .u32, .rw1c, .port, 0, 1, 0⟩,
  ⟨0x304108, .u32, .rw1c, .port, 0, 1, 0⟩,
  ⟨0x304109, .u32, .rw1c, .port, 0, 1, 0⟩,
  ⟨0x30410A, .u32, .rw1c, .port, 0, 1, 0⟩,
  ⟨0x30410B, .u32, .rw1c, .port, 0, 1, 0⟩,
  ⟨0x30410C, .u32, .rw1c, .port, 0, 1, 0⟩,
  ⟨0x30410D, .u32, .rw1c, .port, 0, 1, 0⟩,
  ⟨0x30410E, .u32, .rw1c, .port, 0, 1, 0⟩,
  ⟨0x30410F, .u32, .rw1c, .port, 0, 1, 0⟩,
  ⟨0x304110, .u32, .rw1c, .port, 0, 1, 0⟩,
  ⟨0x304111, .u32, .rw1c, .port, 0, 1, 0⟩,
  ⟨0x304112, .u32, .rw1c, .port, 0, 1, 0⟩]
/-- Objects of R160. -/
def objsR160 : List Obj := [
  ⟨0x403001, .u16, .ro, .drop, 0, 65535, 0⟩,
  ⟨0x403002, .i16, .ro, .drop, -32768, 32767, 0⟩,
  ⟨0x403003, .i16, .ro, .drop, -32768, 32767, 0⟩,
  ⟨0x403004, .i16, .ro, .drop, -32768, 32767, 0⟩,
  ⟨0x403005, .i32, .ro, .drop, -2147483648, 2147483647, 0⟩,
  ⟨0x403006, .time64, .ro, .drop, 0, 18446744073709551615, 0⟩,
  ⟨0x403007, .bool, .wo, .drop, 0, 1, 0⟩,
  ⟨0x403008, .domain, .ro, .drop, 0, 96, 0⟩,
  ⟨0x403009, .domain, .ro, .drop, 0, 64, 0⟩,
  ⟨0x40300A, .u8, .ro, .drop, 0, 255, 0⟩,
  ⟨0x403101, .u32, .rw1c, .drop, 0, 1, 0⟩,
  ⟨0x403102, .u32, .rw1c, .drop, 0, 1, 0⟩,
  ⟨0x403103, .u32, .rw1c, .drop, 0, 1, 0⟩,
  ⟨0x403104, .u32, .rw1c, .drop, 0, 1, 0⟩,
  ⟨0x403105, .u32, .rw1c, .drop, 0, 1, 0⟩,
  ⟨0x403106, .u32, .rw1c, .drop, 0, 1, 0⟩,
  ⟨0x403107, .u32, .rw1c, .drop, 0, 1, 0⟩,
  ⟨0x403108, .u32, .rw1c, .drop, 0, 1, 0⟩,
  ⟨0x403109, .u32, .rw1c, .drop, 0, 1, 0⟩,
  ⟨0x40310A, .u32, .rw1c, .drop, 0, 1, 0⟩,
  ⟨0x40310B, .u32, .rw1c, .drop, 0, 1, 0⟩,
  ⟨0x40310C, .u32, .rw1c, .drop, 0, 1, 0⟩,
  ⟨0x40310D, .u32, .rw1c, .drop, 0, 1, 0⟩,
  ⟨0x40310E, .u32, .rw1c, .drop, 0, 1, 0⟩,
  ⟨0x40310F, .u32, .rw1c, .drop, 0, 1, 0⟩]
/-- Objects of R183. -/
def objsR183 : List Obj := [
  ⟨0x305001, .u8, .rwp, .port, 0, 1, 0⟩,
  ⟨0x305002, .u8, .rwp, .port, 0, 6, 6⟩,
  ⟨0x305003, .u8, .rwp, .port, 0, 40, 12⟩,
  ⟨0x305004, .u8, .rwp, .port, 0, 3, 3⟩,
  ⟨0x305005, .u8, .ro, .port, 0, 255, 0⟩,
  ⟨0x305006, .u8, .ro, .port, 0, 255, 96⟩,
  ⟨0x305007, .u32, .ro, .port, 0, 4294967295, 0⟩,
  ⟨0x305008, .i32, .ro, .port, -2147483648, 2147483647, 0⟩,
  ⟨0x305009, .u16, .ro, .port, 0, 65535, 0⟩,
  ⟨0x30500A, .u16, .ro, .port, 0, 65535, 0⟩,
  ⟨0x30500B, .u8, .rwp, .port, 2, 64, 8⟩,
  ⟨0x30500C, .u16, .rwp, .port, 1, 3600, 10⟩,
  ⟨0x30500D, .bool, .wo, .port, 0, 1, 0⟩,
  ⟨0x30500E, .u8, .rwp, .port, 6, 14, 10⟩,
  ⟨0x30500F, .u8, .rwp, .port, 10, 20, 14⟩,
  ⟨0x305101, .u32, .rw1c, .port, 0, 1, 0⟩,
  ⟨0x305102, .u32, .rw1c, .port, 0, 1, 0⟩,
  ⟨0x305103, .u32, .rw1c, .port, 0, 1, 0⟩,
  ⟨0x305104, .u32, .rw1c, .port, 0, 1, 0⟩,
  ⟨0x305105, .u32, .rw1c, .port, 0, 1, 0⟩,
  ⟨0x305106, .u32, .rw1c, .port, 0, 1, 0⟩,
  ⟨0x305107, .u32, .rw1c, .port, 0, 1, 0⟩,
  ⟨0x305108, .u32, .rw1c, .port, 0, 1, 0⟩,
  ⟨0x305109, .u32, .rw1c, .port, 0, 1, 0⟩,
  ⟨0x30510A, .u32, .rw1c, .port, 0, 1, 0⟩]
/-- Objects of R220. -/
def objsR220 : List Obj := [
  ⟨0x306001, .u8, .rwp, .port, 0, 1, 0⟩,
  ⟨0x306002, .u8, .rwp, .port, 0, 1, 0⟩,
  ⟨0x306003, .u16, .rwp, .port, 0, 65535, 0⟩,
  ⟨0x306004, .u8, .rwp, .port, 0, 6, 6⟩,
  ⟨0x306005, .u8, .rwp, .port, 0, 40, 12⟩,
  ⟨0x306006, .u8, .rwp, .port, 0, 39, 6⟩,
  ⟨0x306007, .u32, .rwp, .port, 60, 86400, 900⟩,
  ⟨0x306008, .u8, .rwp, .port, 0, 3, 3⟩,
  ⟨0x306009, .u16, .rwp, .port, 16, 2000, 256⟩,
  ⟨0x30600A, .u8, .rwp, .port, 8, 255, 16⟩,
  ⟨0x30600B, .i16, .rwp, .port, -32768, 32767, 96⟩,
  ⟨0x30600C, .u8, .rwp, .port, 8, 255, 64⟩,
  ⟨0x30600D, .u8, .rwp, .port, 1, 20, 2⟩,
  ⟨0x306101, .domain, .rwp, .port, 0, 512, 0⟩,
  ⟨0x306102, .u8, .ro, .port, 0, 255, 0⟩,
  ⟨0x306201, .u32, .rw1c, .port, 0, 1, 0⟩,
  ⟨0x306202, .u32, .rw1c, .port, 0, 1, 0⟩,
  ⟨0x306203, .u32, .rw1c, .port, 0, 1, 0⟩,
  ⟨0x306204, .u32, .rw1c, .port, 0, 1, 0⟩,
  ⟨0x306205, .u32, .ro, .port, 0, 4294967295, 0⟩,
  ⟨0x306206, .u32, .rw1c, .port, 0, 1, 0⟩,
  ⟨0x306207, .u32, .rw1c, .port, 0, 1, 0⟩,
  ⟨0x306208, .u32, .rw1c, .port, 0, 1, 0⟩,
  ⟨0x306209, .u32, .rw1c, .port, 0, 1, 0⟩,
  ⟨0x30620A, .u32, .rw1c, .port, 0, 1, 0⟩,
  ⟨0x30620B, .u32, .rw1c, .port, 0, 1, 0⟩,
  ⟨0x30620C, .u32, .rw1c, .port, 0, 1, 0⟩,
  ⟨0x306301, .bool, .rwp, .port, 0, 1, 0⟩,
  ⟨0x306302, .u8, .rwp, .port, 0, 143, 0⟩,
  ⟨0x306303, .u8, .ro, .port, 0, 255, 0⟩,
  ⟨0x306304, .u8, .rwp, .port, 2, 64, 4⟩,
  ⟨0x306305, .bool, .wo, .port, 0, 1, 0⟩]
/-- Objects of R220. -/
def objsR220b : List Obj := [
  ⟨0x306306, .u8, .rwp, .port, 4, 64, 8⟩,
  ⟨0x306307, .bool, .wo, .port, 0, 1, 0⟩]
/-- Objects of R221. -/
def objsR221 : List Obj := [
  ⟨0x401001, .u64, .ro, .drop, 0, 18446744073709551615, 0⟩,
  ⟨0x401002, .u8, .ro, .drop, 0, 255, 0⟩,
  ⟨0x401003, .u8, .ro, .drop, 0, 255, 0⟩,
  ⟨0x401004, .u8, .ro, .drop, 0, 255, 96⟩,
  ⟨0x401005, .u8, .rw, .drop, 0, 6, 0⟩,
  ⟨0x401006, .u8, .ro, .drop, 0, 255, 0⟩,
  ⟨0x401007, .i32, .ro, .drop, -2147483648, 2147483647, 0⟩,
  ⟨0x401008, .u8, .ro, .drop, 0, 255, 0⟩,
  ⟨0x401009, .time64, .ro, .drop, 0, 18446744073709551615, 0⟩,
  ⟨0x40100A, .bool, .wo, .drop, 0, 1, 0⟩,
  ⟨0x40100B, .bool, .wo, .drop, 0, 1, 0⟩,
  ⟨0x40100C, .bool, .wo, .drop, 0, 1, 0⟩,
  ⟨0x40100D, .bool, .wo, .drop, 0, 1, 0⟩,
  ⟨0x40100E, .domain, .ro, .drop, 0, 14, 0⟩,
  ⟨0x40100F, .u8, .ro, .drop, 0, 255, 96⟩,
  ⟨0x401010, .i16, .ro, .drop, -32768, 32767, -32768⟩,
  ⟨0x404101, .u32, .rw1c, .drop, 0, 1, 0⟩,
  ⟨0x404102, .u32, .rw1c, .drop, 0, 1, 0⟩,
  ⟨0x404103, .u32, .rw1c, .drop, 0, 1, 0⟩,
  ⟨0x404104, .u32, .rw1c, .drop, 0, 1, 0⟩,
  ⟨0x404105, .u32, .rw1c, .drop, 0, 1, 0⟩,
  ⟨0x404106, .u32, .rw1c, .drop, 0, 1, 0⟩,
  ⟨0x404107, .u32, .rw1c, .drop, 0, 1, 0⟩,
  ⟨0x404108, .u32, .rw1c, .drop, 0, 1, 0⟩]
/-- Objects of R244. -/
def objsR244 : List Obj := [
  ⟨0x500001, .bool, .rwp, .port, 0, 1, 1⟩,
  ⟨0x500002, .u8, .rwp, .port, 0, 3, 0⟩,
  ⟨0x500003, .u16, .rwp, .port, 1, 1024, 64⟩,
  ⟨0x500004, .u32, .rwp, .port, 0, 86400, 60⟩,
  ⟨0x500005, .u32, .rwp, .port, 0, 4294967295, 0⟩,
  ⟨0x500006, .u8, .rwp, .port, 0, 48, 0⟩,
  ⟨0x500007, .u8, .rwp, .port, 0, 60, 0⟩,
  ⟨0x500008, .u16, .rwp, .port, 600, 950, 780⟩,
  ⟨0x500009, .u32, .rwp, .port, 0, 500000, 0⟩,
  ⟨0x50000A, .u8, .rwp, .port, 0, 1, 0⟩,
  ⟨0x50000B, .u16, .rwp, .port, 0, 500, 200⟩,
  ⟨0x50000C, .u16, .rwp, .port, 0, 2000, 0⟩,
  ⟨0x50000D, .bool, .rwp, .port, 0, 1, 1⟩,
  ⟨0x50000E, .u8, .rwp, .port, 2, 12, 12⟩,
  ⟨0x500010, .u8, .rwp, .port, 1, 64, 16⟩,
  ⟨0x500011, .bool, .wo, .port, 0, 1, 0⟩,
  ⟨0x500012, .bool, .wo, .port, 0, 1, 0⟩,
  ⟨0x500013, .u32, .rw, .port, 0, 4294967295, 0⟩,
  ⟨0x500014, .bool, .wo, .port, 0, 1, 0⟩,
  ⟨0x500101, .u8, .ro, .port, 0, 255, 0⟩,
  ⟨0x500102, .u32, .ro, .port, 0, 4294967295, 0⟩,
  ⟨0x500103, .u8, .ro, .port, 0, 255, 0⟩,
  ⟨0x500104, .u16, .ro, .port, 0, 65535, 0⟩,
  ⟨0x500105, .u32, .ro, .port, 0, 4294967295, 4294967294⟩,
  ⟨0x500106, .i16, .ro, .port, -32768, 32767, 0⟩,
  ⟨0x500107, .u32, .ro, .port, 0, 4294967295, 4294967294⟩,
  ⟨0x500108, .time64, .ro, .port, 0, 18446744073709551615, 0⟩,
  ⟨0x500109, .u8, .ro, .port, 0, 255, 0⟩,
  ⟨0x50010A, .time64, .ro, .port, 0, 18446744073709551615, 0⟩,
  ⟨0x50010B, .u8, .ro, .port, 0, 255, 0⟩,
  ⟨0x50010C, .u32, .ro, .port, 0, 4294967295, 0⟩,
  ⟨0x50010D, .u16, .ro, .port, 0, 65535, 0⟩]
/-- Objects of R244. -/
def objsR244b : List Obj := [
  ⟨0x500201, .u32, .rw1c, .port, 0, 1, 0⟩,
  ⟨0x500202, .u32, .rw1c, .port, 0, 1, 0⟩,
  ⟨0x500203, .u32, .rw1c, .port, 0, 1, 0⟩,
  ⟨0x500204, .u32, .rw1c, .port, 0, 1, 0⟩,
  ⟨0x502001, .domain, .ro, .trace, 0, 32768, 0⟩,
  ⟨0x502002, .time64, .ro, .trace, 0, 18446744073709551615, 0⟩,
  ⟨0x502003, .u8, .ro, .trace, 0, 255, 0⟩,
  ⟨0x502004, .u16, .ro, .trace, 0, 65535, 0⟩,
  ⟨0x502005, .u16, .ro, .trace, 0, 65535, 0⟩,
  ⟨0x502006, .u32, .ro, .trace, 0, 4294967295, 0⟩,
  ⟨0x502007, .u32, .ro, .trace, 0, 4294967295, 0⟩]
/-- Objects of R245. -/
def objsR245 : List Obj := [
  ⟨0x225001, .u8, .rwp, .cluster, 1, 60, 2⟩,
  ⟨0x225002, .u8, .ro, .cluster, 0, 255, 0⟩]
/-- Objects of R265. -/
def objsR265 : List Obj := [
  ⟨0x504001, .u64, .rwp, .port, 0, 18446744073709551615, 0⟩,
  ⟨0x504002, .u64, .rwp, .port, 0, 18446744073709551615, 0⟩,
  ⟨0x504003, .u8, .wo, .port, 1, 3, 0⟩,
  ⟨0x504004, .u8, .rwp, .port, 1, 255, 16⟩,
  ⟨0x504005, .u8, .rwp, .port, 0, 12, 4⟩,
  ⟨0x504006, .u8, .rwp, .port, 8, 80, 24⟩,
  ⟨0x504007, .u8, .rwp, .port, 8, 127, 96⟩,
  ⟨0x504008, .u16, .rwp, .port, 0, 2047, 128⟩,
  ⟨0x504009, .u8, .rwp, .port, 2, 12, 6⟩,
  ⟨0x50400A, .u16, .rwp, .port, 256, 32767, 4096⟩,
  ⟨0x50400B, .bool, .rwp, .port, 0, 1, 0⟩,
  ⟨0x50400C, .u8, .rwp, .port, 1, 15, 4⟩,
  ⟨0x50400D, .u32, .rwp, .port, 0, 604800, 3600⟩,
  ⟨0x50400E, .u16, .rwp, .port, 4, 65535, 64⟩,
  ⟨0x50400F, .u8, .rwp, .port, 1, 64, 16⟩,
  ⟨0x504012, .u8, .ro, .port, 0, 255, 0⟩,
  ⟨0x504101, .u32, .ro, .port, 0, 4294967295, 0⟩,
  ⟨0x504102, .u32, .ro, .port, 0, 4294967295, 0⟩,
  ⟨0x504103, .u32, .ro, .port, 0, 4294967295, 0⟩,
  ⟨0x504104, .u32, .ro, .port, 0, 4294967295, 0⟩,
  ⟨0x504105, .u32, .ro, .port, 0, 4294967295, 0⟩,
  ⟨0x504108, .u32, .rw1c, .port, 0, 1, 0⟩,
  ⟨0x504109, .u32, .rw1c, .port, 0, 1, 0⟩,
  ⟨0x50410A, .u32, .rw1c, .port, 0, 1, 0⟩,
  ⟨0x50410B, .u32, .rw1c, .port, 0, 1, 0⟩]
/-- Objects of R266. -/
def objsR266 : List Obj := [
  ⟨0x510001, .u8, .ro, .cell, 0, 255, 0⟩,
  ⟨0x510002, .u16, .rw, .cell, 0, 16383, 0⟩,
  ⟨0x510003, .u8, .rw, .cell, 1, 64, 0⟩,
  ⟨0x510004, .i16, .ro, .cell, -32768, 32767, 0⟩,
  ⟨0x510005, .i16, .ro, .cell, -32768, 32767, 0⟩,
  ⟨0x510006, .i8, .ro, .cell, -128, 127, 0⟩,
  ⟨0x510007, .u16, .ro, .cell, 0, 65535, 0⟩,
  ⟨0x510008, .u8, .rw, .cell, 1, 255, 0⟩,
  ⟨0x510009, .u8, .rw, .cell, 0, 7, 0⟩,
  ⟨0x51000A, .u8, .rw, .cell, 0, 12, 0⟩,
  ⟨0x51000B, .u8, .ro, .cell, 0, 255, 0⟩,
  ⟨0x51000C, .u8, .ro, .cell, 0, 255, 0⟩,
  ⟨0x51000D, .u32, .ro, .cell, 0, 4294967295, 0⟩,
  ⟨0x51000E, .u8, .ro, .cell, 0, 255, 0⟩,
  ⟨0x51000F, .domain, .ro, .cell, 0, 16, 0⟩,
  ⟨0x510010, .u32, .ro, .cell, 0, 4294967295, 0⟩,
  ⟨0x514001, .domain, .ro, .device, 0, 8192, 0⟩,
  ⟨0x514002, .u16, .ro, .device, 0, 65535, 0⟩,
  ⟨0x514003, .u8, .ro, .device, 0, 255, 0⟩,
  ⟨0x514004, .domain, .ro, .device, 0, 64, 0⟩,
  ⟨0x514005, .u32, .rwp, .device, 600, 86400, 3600⟩,
  ⟨0x514006, .u32, .ro, .device, 0, 4294967295, 16384⟩]
/-- Objects of R290. -/
def objsR290 : List Obj := [
  ⟨0x580001, .bool, .rwp, .device, 0, 1, 1⟩,
  ⟨0x580002, .u8, .ro, .device, 0, 255, 1⟩,
  ⟨0x580003, .u8, .ro, .device, 0, 255, 0⟩,
  ⟨0x580004, .bool, .wo, .device, 0, 1, 0⟩,
  ⟨0x580005, .bool, .wo, .device, 0, 1, 0⟩,
  ⟨0x580006, .bool, .rwp, .device, 0, 1, 1⟩,
  ⟨0x580007, .u8, .rwp, .device, 1, 50, 4⟩,
  ⟨0x580008, .u8, .rwp, .device, 10, 95, 80⟩,
  ⟨0x580009, .u32, .rwp, .device, 60, 86400, 900⟩,
  ⟨0x58000A, .u16, .rwp, .device, 1, 600, 10⟩,
  ⟨0x58000B, .u16, .rwp, .device, 100, 30000, 2000⟩,
  ⟨0x580101, .u8, .ro, .device, 0, 255, 0⟩,
  ⟨0x580102, .time64, .ro, .device, 0, 18446744073709551615, 0⟩,
  ⟨0x580103, .time64, .ro, .device, 0, 18446744073709551615, 0⟩,
  ⟨0x580104, .u32, .ro, .device, 0, 4294967295, 0⟩,
  ⟨0x580105, .u64, .ro, .device, 0, 18446744073709551615, 0⟩,
  ⟨0x580106, .u64, .ro, .device, 0, 18446744073709551615, 0⟩,
  ⟨0x580107, .time64, .ro, .device, 0, 18446744073709551615, 0⟩,
  ⟨0x580108, .time64, .ro, .device, 0, 18446744073709551615, 0⟩,
  ⟨0x580109, .u16, .ro, .device, 0, 65535, 0⟩,
  ⟨0x58010A, .i16, .ro, .device, -32768, 32767, 0⟩,
  ⟨0x58010B, .u8, .ro, .device, 0, 255, 0⟩,
  ⟨0x58010C, .u8, .ro, .device, 0, 255, 0⟩,
  ⟨0x580201, .u32, .rw1c, .device, 0, 1, 0⟩,
  ⟨0x580202, .u32, .rw1c, .device, 0, 1, 0⟩,
  ⟨0x580203, .u32, .rw1c, .device, 0, 1, 0⟩,
  ⟨0x580204, .u32, .rw1c, .device, 0, 1, 0⟩,
  ⟨0x580205, .u32, .rw1c, .device, 0, 1, 0⟩,
  ⟨0x580206, .u32, .rw1c, .device, 0, 1, 0⟩,
  ⟨0x580207, .u32, .rw1c, .device, 0, 1, 0⟩,
  ⟨0x580208, .u32, .rw1c, .device, 0, 1, 0⟩,
  ⟨0x580209, .u32, .rw1c, .device, 0, 1, 0⟩]
/-- Objects of R290. -/
def objsR290b : List Obj := [
  ⟨0x58020A, .u32, .rw1c, .device, 0, 1, 0⟩,
  ⟨0x58020B, .u32, .rw1c, .device, 0, 1, 0⟩,
  ⟨0x581001, .u8, .rw, .path, 0, 143, 0⟩,
  ⟨0x581002, .time64, .rw, .path, 0, 18446744073709551615, 0⟩,
  ⟨0x581003, .u8, .rw, .path, 0, 4, 0⟩,
  ⟨0x581005, .bool, .wo, .path, 0, 1, 0⟩,
  ⟨0x581006, .u8, .ro, .path, 0, 255, 0⟩,
  ⟨0x581007, .u64, .ro, .path, 0, 18446744073709551615, 0⟩]
/-- Objects of R291. -/
def objsR291 : List Obj := [
  ⟨0x500015, .u8, .rwp, .port, 0, 2, 1⟩,
  ⟨0x502008, .u64, .ro, .trace, 0, 18446744073709551615, 0⟩,
  ⟨0x502009, .u8, .ro, .trace, 0, 255, 0⟩,
  ⟨0x50200A, .domain, .ro, .trace, 0, 36864, 0⟩]
/-- Objects of R292. -/
def objsR292 : List Obj := [
  ⟨0x702001, .u32, .rwp, .device, 0, 4294967295, 0⟩,
  ⟨0x702002, .q16, .rwp, .device, 65536, 4194304, 65536⟩,
  ⟨0x702003, .u16, .rwp, .device, 10, 10000, 40⟩,
  ⟨0x702004, .u16, .rwp, .device, 50, 20000, 250⟩,
  ⟨0x702005, .u32, .ro, .device, 0, 4294967295, 0⟩,
  ⟨0x702006, .u32, .ro, .device, 0, 4294967295, 0⟩,
  ⟨0x702101, .u32, .rw1c, .device, 0, 1, 0⟩,
  ⟨0x702102, .u32, .rw1c, .device, 0, 1, 0⟩,
  ⟨0x702103, .u32, .rw1c, .device, 0, 1, 0⟩]
/-- Objects of R327. -/
def objsR327 : List Obj := [
  ⟨0x600001, .bool, .rwp, .device, 0, 1, 1⟩,
  ⟨0x600002, .u8, .ro, .device, 0, 255, 0⟩,
  ⟨0x600003, .u8, .ro, .device, 0, 255, 0⟩,
  ⟨0x600004, .bool, .ro, .device, 0, 1, 0⟩,
  ⟨0x600005, .u8, .ro, .device, 0, 255, 0⟩,
  ⟨0x600006, .u32, .ro, .device, 0, 4294967295, 0⟩,
  ⟨0x600007, .u16, .rwp, .device, 0, 10000, 50⟩,
  ⟨0x600008, .bool, .wo, .device, 0, 1, 0⟩,
  ⟨0x600101, .u32, .rw1c, .device, 0, 1, 0⟩,
  ⟨0x600102, .u32, .rw1c, .device, 0, 1, 0⟩,
  ⟨0x600103, .u32, .rw1c, .device, 0, 1, 0⟩,
  ⟨0x600104, .u32, .rw1c, .device, 0, 1, 0⟩,
  ⟨0x600105, .u32, .rw1c, .device, 0, 1, 0⟩,
  ⟨0x600106, .u32, .rw1c, .device, 0, 1, 0⟩,
  ⟨0x600107, .u32, .rw1c, .device, 0, 1, 0⟩,
  ⟨0x600108, .u32, .rw1c, .device, 0, 1, 0⟩,
  ⟨0x600109, .u32, .rw1c, .device, 0, 1, 0⟩,
  ⟨0x60010A, .u32, .rw1c, .device, 0, 1, 0⟩,
  ⟨0x60010B, .u32, .rw1c, .device, 0, 1, 0⟩,
  ⟨0x60010C, .u32, .rw1c, .device, 0, 1, 0⟩,
  ⟨0x60010D, .u32, .rw1c, .device, 0, 1, 0⟩,
  ⟨0x60010E, .u32, .rw1c, .device, 0, 1, 0⟩,
  ⟨0x60010F, .u32, .rw1c, .device, 0, 1, 0⟩,
  ⟨0x600110, .u32, .rw1c, .device, 0, 1, 0⟩,
  ⟨0x600111, .u32, .rw1c, .device, 0, 1, 0⟩,
  ⟨0x601001, .u8, .rwp, .device, 0, 7, 4⟩,
  ⟨0x601002, .u8, .rwp, .device, 0, 7, 1⟩,
  ⟨0x601003, .u8, .rwp, .device, 0, 15, 5⟩,
  ⟨0x601004, .bool, .rwp, .device, 0, 1, 0⟩,
  ⟨0x601005, .bool, .rwp, .device, 0, 1, 0⟩,
  ⟨0x601006, .u8, .rw, .device, 0, 2, 0⟩,
  ⟨0x602001, .bool, .rwp, .device, 0, 1, 0⟩]
/-- Objects of R327. -/
def objsR327b : List Obj := [
  ⟨0x602002, .bool, .rwp, .device, 0, 1, 0⟩,
  ⟨0x602003, .u16, .ro, .device, 0, 65535, 0⟩,
  ⟨0x602004, .u8, .rw, .device, 0, 2, 0⟩,
  ⟨0x602005, .bool, .ro, .device, 0, 1, 0⟩,
  ⟨0x602006, .u64, .rw1c, .device, 0, 1, 0⟩,
  ⟨0x602007, .u64, .rw1c, .device, 0, 1, 0⟩,
  ⟨0x602008, .bool, .wo, .device, 0, 1, 0⟩]
/-- Objects of R328. -/
def objsR328 : List Obj := [
  ⟨0x620001, .u8, .rwp, .device, 0, 2, 0⟩,
  ⟨0x620002, .u8, .rwp, .device, 0, 1, 0⟩,
  ⟨0x620003, .u16, .rwp, .device, 0, 3600, 10⟩,
  ⟨0x620004, .u8, .ro, .device, 0, 255, 0⟩,
  ⟨0x620005, .u32, .rw1c, .device, 0, 1, 0⟩,
  ⟨0x620006, .u32, .rw1c, .device, 0, 1, 0⟩,
  ⟨0x620007, .bool, .wo, .device, 0, 1, 0⟩,
  ⟨0x620008, .u32, .ro, .device, 0, 4294967295, 0⟩]
/-- Objects of R340. -/
def objsR340 : List Obj := [
  ⟨0x200000, .u8, .rw, .path, 0, 143, 0⟩,
  ⟨0x200100, .u8, .rw, .path, 1, 32, 1⟩,
  ⟨0x200200, .u32, .rw, .path, 0, 1048575, 0⟩,
  ⟨0x200300, .u8, .rw, .path, 0, 8, 0⟩,
  ⟨0x200400, .u32, .rw, .path, 0, 4294967295, 0⟩,
  ⟨0x200500, .u8, .rw, .path, 0, 1, 0⟩,
  ⟨0x200600, .u8, .ro, .path, 0, 255, 0⟩]
/-- Objects of R360. -/
def objsR360 : List Obj := [
  ⟨0x110001, .bool, .wo, .device, 0, 1, 0⟩,
  ⟨0x110002, .u8, .ro, .device, 0, 255, 0⟩,
  ⟨0x110003, .u32, .ro, .device, 0, 4294967295, 0⟩,
  ⟨0x110004, .time64, .ro, .device, 0, 18446744073709551615, 0⟩,
  ⟨0x110005, .u32, .rw1c, .device, 0, 1, 0⟩,
  ⟨0x110006, .u32, .rw1c, .device, 0, 1, 0⟩,
  ⟨0x110007, .bool, .wo, .device, 0, 1, 0⟩,
  ⟨0x110008, .bool, .wo, .device, 0, 1, 0⟩,
  ⟨0x110101, .u32, .rw1c, .device, 0, 1, 0⟩,
  ⟨0x110102, .u32, .rw1c, .device, 0, 1, 0⟩,
  ⟨0x110103, .u32, .rw1c, .device, 0, 1, 0⟩,
  ⟨0x110104, .u32, .rw1c, .device, 0, 1, 0⟩]
/-- Objects of R362. -/
def objsR362 : List Obj := [
  ⟨0x100001, .u32, .ro, .device, 0, 4294967295, 17495⟩,
  ⟨0x100002, .u32, .ro, .device, 0, 4294967295, 37188⟩,
  ⟨0x100003, .str, .ro, .device, 0, 10, 0⟩,
  ⟨0x100004, .u64, .ro, .device, 0, 18446744073709551615, 0⟩,
  ⟨0x100005, .domain, .ro, .device, 0, 10, 0⟩,
  ⟨0x100006, .u8, .ro, .device, 0, 255, 0⟩,
  ⟨0x100007, .i8, .ro, .device, -128, 127, 0⟩,
  ⟨0x100008, .i8, .ro, .device, -128, 127, 0⟩,
  ⟨0x100009, .str, .rwp, .device, 0, 64, 0⟩,
  ⟨0x103001, .u8, .wo, .device, 1, 2, 0⟩,
  ⟨0x103002, .u8, .ro, .device, 0, 255, 0⟩,
  ⟨0x103003, .u16, .rwp, .device, 100, 10000, 500⟩,
  ⟨0x103101, .u32, .rw1c, .device, 0, 1, 0⟩,
  ⟨0x103102, .u32, .ro, .device, 0, 4294967295, 0⟩]
/-- Objects of R364. -/
def objsR364 : List Obj := [
  ⟨0x101001, .u8, .ro, .device, 0, 255, 0⟩,
  ⟨0x101002, .u64, .wo, .device, 0, 18446744073709551615, 0⟩,
  ⟨0x101003, .u32, .rw1c, .device, 0, 1, 0⟩]
/-- Objects of R366. -/
def objsR366 : List Obj := [
  ⟨0x102001, .u8, .ro, .device, 0, 255, 0⟩,
  ⟨0x102002, .u8, .ro, .device, 0, 255, 0⟩,
  ⟨0x102003, .u8, .wo, .device, 0, 1, 0⟩,
  ⟨0x102004, .domain, .wo, .device, 0, 3145728, 0⟩,
  ⟨0x102005, .bool, .wo, .device, 0, 1, 0⟩,
  ⟨0x102006, .u8, .ro, .device, 0, 255, 0⟩,
  ⟨0x102101, .u8, .ro, .device, 0, 255, 0⟩,
  ⟨0x102102, .u8, .ro, .device, 0, 255, 0⟩,
  ⟨0x102103, .u32, .ro, .device, 0, 4294967295, 0⟩,
  ⟨0x102104, .u32, .ro, .device, 0, 4294967295, 0⟩,
  ⟨0x102105, .u32, .ro, .device, 0, 4294967295, 0⟩,
  ⟨0x102106, .u32, .ro, .device, 0, 4294967295, 0⟩]
/-- Objects of R368. -/
def objsR368 : List Obj := [
  ⟨0x220001, .u8, .ro, .cluster, 0, 255, 0⟩,
  ⟨0x220002, .u8, .rwp, .cluster, 0, 2, 0⟩,
  ⟨0x220003, .time64, .rw, .cluster, 0, 18446744073709551615, 0⟩,
  ⟨0x220101, .u32, .rw1c, .cluster, 0, 1, 0⟩,
  ⟨0x220102, .u32, .rw1c, .cluster, 0, 1, 0⟩,
  ⟨0x220103, .u32, .rw1c, .cluster, 0, 1, 0⟩,
  ⟨0x221001, .domain, .ro, .cluster, 0, 16, 0⟩,
  ⟨0x221002, .u8, .ro, .cluster, 0, 255, 2⟩,
  ⟨0x221003, .u32, .ro, .cluster, 0, 4294967295, 0⟩,
  ⟨0x222001, .u32, .rw1c, .cluster, 0, 1, 0⟩,
  ⟨0x222002, .u32, .rw1c, .cluster, 0, 1, 0⟩]
/-- Objects of R369. -/
def objsR369 : List Obj := [
  ⟨0x300001, .u8, .rwp, .port, 0, 2, 0⟩,
  ⟨0x300002, .u8, .ro, .port, 0, 255, 0⟩,
  ⟨0x300003, .u8, .ro, .port, 0, 255, 0⟩,
  ⟨0x300004, .u8, .ro, .port, 0, 255, 0⟩,
  ⟨0x300005, .u8, .ro, .port, 0, 255, 3⟩,
  ⟨0x300101, .u32, .rw1c, .port, 0, 1, 0⟩,
  ⟨0x300102, .u32, .rw1c, .port, 0, 1, 0⟩]
/-- Objects of R372. -/
def objsR372 : List Obj := [
  ⟨0x700001, .bool, .rwp, .device, 0, 1, 1⟩,
  ⟨0x700002, .u16, .ro, .device, 0, 65535, 0⟩,
  ⟨0x700003, .u16, .rwp, .device, 700, 850, 750⟩,
  ⟨0x700004, .u16, .rwp, .device, 700, 850, 700⟩,
  ⟨0x700005, .u16, .rwp, .device, 700, 850, 850⟩,
  ⟨0x700101, .u32, .rw1c, .device, 0, 1, 0⟩,
  ⟨0x700102, .u32, .rw1c, .device, 0, 1, 0⟩,
  ⟨0x700103, .u32, .rw1c, .device, 0, 1, 0⟩,
  ⟨0x700104, .u32, .rw1c, .device, 0, 1, 0⟩]
/-- Objects of R373. -/
def objsR373 : List Obj := [
  ⟨0x704001, .u8, .rwp, .device, 8, 119, 0⟩,
  ⟨0x704002, .u8, .rwp, .device, 0, 31, 0⟩,
  ⟨0x704003, .u16, .ro, .device, 0, 65535, 0⟩,
  ⟨0x704004, .u16, .ro, .device, 0, 65535, 0⟩,
  ⟨0x704005, .u16, .ro, .device, 0, 65535, 0⟩,
  ⟨0x704006, .bool, .ro, .device, 0, 1, 0⟩,
  ⟨0x704007, .u32, .rw1c, .device, 0, 1, 0⟩]
/-- Objects of R374. -/
def objsR374 : List Obj := [
  ⟨0x710001, .i16, .ro, .device, -32768, 32767, 0⟩,
  ⟨0x710002, .i16, .ro, .device, -32768, 32767, 0⟩,
  ⟨0x710003, .i16, .ro, .device, -32768, 32767, 0⟩,
  ⟨0x710004, .u8, .ro, .device, 0, 255, 0⟩,
  ⟨0x710005, .i16, .ro, .device, -32768, 32767, 0⟩]
/-- Objects of R375. -/
def objsR375 : List Obj := [
  ⟨0x711001, .i16, .rwp, .device, 60, 105, 105⟩,
  ⟨0x711002, .i16, .ro, .device, -32768, 32767, 115⟩,
  ⟨0x711003, .i16, .ro, .device, -32768, 32767, 125⟩,
  ⟨0x711004, .i16, .ro, .device, -32768, 32767, 95⟩,
  ⟨0x711005, .u8, .ro, .device, 0, 255, 0⟩,
  ⟨0x711101, .u32, .rw1c, .device, 0, 1, 0⟩,
  ⟨0x711102, .u32, .rw1c, .device, 0, 1, 0⟩,
  ⟨0x711103, .u32, .rw1c, .device, 0, 1, 0⟩,
  ⟨0x711104, .u32, .ro, .device, 0, 4294967295, 0⟩,
  ⟨0x711105, .u32, .rw1c, .device, 0, 1, 0⟩]
/-- Objects of R376. -/
def objsR376 : List Obj := [
  ⟨0x780001, .u8, .ro, .device, 0, 255, 0⟩,
  ⟨0x780002, .u8, .ro, .device, 0, 255, 0⟩,
  ⟨0x780003, .u8, .wo, .device, 0, 7, 0⟩,
  ⟨0x780004, .u8, .wo, .device, 0, 7, 0⟩,
  ⟨0x780005, .u64, .ro, .device, 0, 18446744073709551615, 0⟩,
  ⟨0x780101, .bool, .ro, .device, 0, 1, 0⟩,
  ⟨0x780102, .u8, .ro, .device, 0, 255, 0⟩,
  ⟨0x780103, .u8, .ro, .device, 0, 255, 0⟩,
  ⟨0x780104, .u32, .ro, .device, 0, 4294967295, 0⟩,
  ⟨0x780105, .u16, .ro, .device, 0, 65535, 0⟩,
  ⟨0x780106, .u8, .ro, .device, 0, 255, 0⟩,
  ⟨0x780107, .time64, .ro, .device, 0, 18446744073709551615, 0⟩,
  ⟨0x780108, .u64, .ro, .device, 0, 18446744073709551615, 0⟩,
  ⟨0x780109, .u64, .ro, .device, 0, 18446744073709551615, 0⟩,
  ⟨0x78010A, .domain, .ro, .device, 0, 48, 0⟩,
  ⟨0x78010B, .bool, .wo, .device, 0, 1, 0⟩,
  ⟨0x780201, .domain, .ro, .device, 0, 1024, 0⟩,
  ⟨0x780202, .domain, .ro, .device, 0, 4096, 0⟩]
/-- Objects of R377. -/
def objsR377 : List Obj := [
  ⟨0x7C0001, .bool, .rwp, .device, 0, 1, 1⟩,
  ⟨0x7C0002, .u16, .rwp, .device, 10, 3600, 30⟩,
  ⟨0x7C0003, .bool, .rwp, .device, 0, 1, 1⟩,
  ⟨0x7C0004, .u8, .ro, .device, 0, 255, 0⟩,
  ⟨0x7C0101, .u32, .rw1c, .device, 0, 1, 0⟩,
  ⟨0x7C0102, .u32, .rw1c, .device, 0, 1, 0⟩,
  ⟨0x7C0103, .u32, .rw1c, .device, 0, 1, 0⟩,
  ⟨0x7C0104, .u32, .rw1c, .device, 0, 1, 0⟩,
  ⟨0x7C0105, .u32, .rw1c, .device, 0, 1, 0⟩,
  ⟨0x7C0106, .u32, .rw1c, .device, 0, 1, 0⟩,
  ⟨0x7C0107, .u32, .rw1c, .device, 0, 1, 0⟩,
  ⟨0x7C1001, .domain, .ro, .device, 0, 162, 0⟩,
  ⟨0x7C1002, .domain, .ro, .device, 0, 648, 0⟩,
  ⟨0x7C2001, .u8, .rwf, .device, 0, 1, 0⟩,
  ⟨0x7C2002, .u8, .ro, .device, 0, 255, 0⟩,
  ⟨0x7C2003, .domain, .ro, .device, 0, 256, 0⟩]
/-- Objects of R379. -/
def objsR379 : List Obj := [
  ⟨0xF00001, .domain, .rwf, .device, 0, 4096, 0⟩,
  ⟨0xF00101, .domain, .rwf, .device, 0, 65536, 0⟩,
  ⟨0xF01001, .u8, .rwf, .device, 1, 63, 0⟩,
  ⟨0xF01002, .u32, .rw1c, .device, 0, 1, 0⟩]

/-- Every row of the dictionary; link B, the rails, sensors and lanes share the rows of link A, rail 0, sensor 0 and lane 0. -/
def objects : List Obj :=
  objsR93 ++ objsR93b ++ objsR128 ++ objsR159 ++ objsR160 ++ objsR183 ++ objsR220 ++ objsR220b ++ objsR221 ++ objsR244 ++ objsR244b ++ objsR245 ++ objsR265 ++ objsR266 ++ objsR290 ++ objsR290b ++ objsR291 ++ objsR292 ++ objsR327 ++ objsR327b ++ objsR328 ++ objsR340 ++ objsR360 ++ objsR362 ++ objsR364 ++ objsR366 ++ objsR368 ++ objsR369 ++ objsR372 ++ objsR373 ++ objsR374 ++ objsR375 ++ objsR376 ++ objsR377 ++ objsR379
end Sys2Proof.Machine
end

