-- ==== Sys2Proof/Machine/Tables.lean ====
section
/-! DEFINITION. The sparse tables and the list helpers that every family uses. A table is in canonical form when its
keys rise strictly (`Tab.wf`); a memory's table also lists no entry equal to what an unlisted key reads as
(`Tab.tidy`). `Tab.put`, `Tab.del` and `Tab.store` keep the form (Sys2Proof/Laws/Tables.lean). -/

namespace Sys2Proof.Machine

/-- The entry of a key, if it is listed. -/
def Tab.find (t : Tab α) (k : Nat) : Option α :=
  match t with
  | [] => none
  | (j, v) :: rest => if j = k then some v else Tab.find rest k

/-- The entry of a key, or the default that an unlisted key reads as. -/
def Tab.get (t : Tab α) (k : Nat) (d : α) : α := (Tab.find t k).getD d

/-- Lists `v` under `k`, in place of what stood there. -/
def Tab.put (t : Tab α) (k : Nat) (v : α) : Tab α :=
  match t with
  | [] => [(k, v)]
  | (j, w) :: rest =>
    if k < j then (k, v) :: (j, w) :: rest
    else if k = j then (k, v) :: rest
    else (j, w) :: Tab.put rest k v

/-- Unlists `k`. -/
def Tab.del (t : Tab α) (k : Nat) : Tab α :=
  match t with
  | [] => []
  | (j, w) :: rest => if j = k then Tab.del rest k else (j, w) :: Tab.del rest k

/-- Writes `v` at `k` in a memory whose unlisted cells read as `d`. -/
def Tab.store [DecidableEq α] (d : α) (t : Tab α) (k : Nat) (v : α) : Tab α :=
  if v = d then Tab.del t k else Tab.put t k v

/-- Keys rise strictly. -/
def Tab.wf (t : Tab α) : Bool :=
  match t with
  | [] => true
  | [_] => true
  | (j, _) :: (k, w) :: rest => decide (j < k) && Tab.wf ((k, w) :: rest)

/-- A memory's canonical form: keys rise strictly and no entry equals the default `d`. -/
def Tab.tidy [DecidableEq α] (d : α) (t : Tab α) : Bool :=
  Tab.wf t && t.all (fun e => decide (e.2 ≠ d))

/-! ## Lists and loops -/

/-- Folds a state change over a list, first element first. -/
def forAll (xs : List α) (f : α → State → State) (s : State) : State :=
  xs.foldl (fun t x => f x t) s

/-- Applies a change when a condition holds. -/
def onlyIf (c : Bool) (f : State → State) (s : State) : State := if c then f s else s

/-- The numbers `lo`, `lo + 1`, …, `lo + n - 1`. -/
def span (lo n : Nat) : List Nat := (List.range n).map (lo + ·)

/-- Adds to a set held as a list without repeats. -/
def addTo [DecidableEq α] (x : α) (xs : List α) : List α := if x ∈ xs then xs else xs ++ [x]

/-- Removes from a set held as a list. -/
def dropFrom [DecidableEq α] (x : α) (xs : List α) : List α := xs.filter (fun y => !decide (y = x))

/-- Puts a list element at a place, if the place exists. -/
def setAt (xs : List α) (i : Nat) (v : α) : List α := xs.set i v

/-- The element at a place, or a default. -/
def atOr (xs : List α) (i : Nat) (d : α) : α := (xs[i]?).getD d

/-- Inserts into a list sorted by `le`, after the elements that it does not precede. -/
def insertBy (le : α → α → Bool) (x : α) (xs : List α) : List α :=
  match xs with
  | [] => [x]
  | y :: ys => if le y x then y :: insertBy le x ys else x :: y :: ys

/-- Sorts by insertion, keeping the order of equals. -/
def sortBy (le : α → α → Bool) (xs : List α) : List α := xs.foldl (fun acc x => insertBy le x acc) []

/-- The sum of a list of integers. -/
def sumInt (xs : List Int) : Int := xs.foldl (· + ·) 0

/-- A quotient rounded to the nearest integer, halves away from zero. -/
def roundDiv (a : Int) (b : Nat) : Int :=
  if 0 ≤ a then (2 * a + b) / (2 * b) else -((-(2 * a) + b) / (2 * b))

/-- Holds an integer between two bounds. -/
def clamp (lo hi x : Int) : Int := if x < lo then lo else if hi < x then hi else x

end Sys2Proof.Machine
end

