-- ==== Sys2Proof/Machine/Ops.lean ====
section
/-! DEFINITION. The named operations over the state: reads and writes of dictionary values, counters (R6), ports, drop
contexts, clusters, engines, links and paths, and the time arithmetic that every family uses. -/

namespace Sys2Proof.Machine

/-! ## Time -/

/-- Ticks of a second, a millisecond and a microsecond (R61). -/
def secondTicks : Nat := 10000000
/-- Ticks of a millisecond (R61). -/
def milliTicks : Nat := 10000
/-- Ticks of a microsecond (R61). -/
def microTicks : Nat := 10

/-- Cycle length L in ticks (R63). -/
def State.cycleTicks (s : State) : Nat := s.time.n * milliTicks


/-- The number of the cycle that starts at a TIME64 value, modulo 2^32 (R63). -/
def State.cycleNo (s : State) (t : Nat) : Nat := t / s.cycleTicks % 2 ^ 32

/-- CYCLE_NOW: the number of the current cycle (R63, R93). -/
def State.cycleNow (s : State) : Nat := s.cycleNo s.time.time64

/-- The number of the cycle that the model counts as `k`, now or later (R63, R65). -/
def State.cycleOf (s : State) (k : Nat) : Nat := (s.cycleNow + (k - s.time.cycles)) % 2 ^ 32

/-- Whether `ticks` have passed since the model's tick `t0`. -/
def State.elapsed (s : State) (t0 ticks : Nat) : Bool := decide (t0 + ticks ≤ s.time.tick)

/-! ## Dictionary values -/

/-- The key of an object's instance in the value tables. -/
def objKey (code inst : Nat) : Nat := code * 2 ^ 24 + inst

/-- Whether the device is a rail object of R373, rail 0 to 21. -/
def railOf (code : Nat) : Option Nat :=
  let ix := code / 256
  if 0x7040 ≤ ix ∧ ix ≤ 0x7055 then some (ix - 0x7040) else none

/-- The row under which an object is listed: link B, rails, sensors and lanes share the rows of link A, rail 0, sensor 0
and lane 0 (R327, R373, R374). The clock lane has TX_SWING and TX_INVERT alone. -/
def rowCode (code : Nat) : Nat :=
  let ix := code / 256
  let sub := code % 256
  if 0x7040 ≤ ix ∧ ix ≤ 0x7055 then 0x704000 + sub
  else if 0x7100 ≤ ix ∧ ix ≤ 0x7109 then 0x710000 + sub
  else if ix = 0x6100 ∨ ix = 0x6101 then code - 0x10000
  else if ix = 0x6010 ∨ ix = 0x6011 ∨ ix = 0x6110 ∨ ix = 0x6111 then 0x601000 + sub
  else if ix = 0x6012 ∨ ix = 0x6112 then (if sub = 1 ∨ sub = 5 then 0x601000 + sub else 0)
  else if ix = 0x6020 ∨ ix = 0x6021 ∨ ix = 0x6120 ∨ ix = 0x6121 then 0x602000 + sub
  else code

/-- The dictionary's row of an object, if the object exists (R361). -/
def findObj (code : Nat) : Option Obj :=
  let r := rowCode code
  objects.find? (fun o => o.code == r)

/-- Whether an index holds any object (R361). -/
def indexExists (index : Nat) : Bool :=
  objects.any (fun o => o.code / 256 == rowCode (index * 256 + 1) / 256 || o.code / 256 == index)

/-- Default windows by cycle length: D and C (R79). -/
def defaultD (n : Nat) : Nat := n * 3000
/-- Default contention window by cycle length (R79). -/
def defaultC (n : Nat) : Nat := if n = 1 then 0 else if n = 2 then 6000 else n * 1500

/-- The value that an instance reads when it has never been written, apart from ROLL_CALL (R79, R336, R361). -/
def plainDefault (code inst n : Nat) : Int :=
  if code = Code.dsWindow then (defaultD n : Int)
  else if code = Code.contWindow then (defaultC n : Int)
  else if code = Code.beaconOffset then ((inst % 16 : Nat) : Int)
  else if code = Code.travOffset then ((inst % 60 : Nat) : Int)
  else if code = Code.twinPartner then (if inst < 72 then ((inst + 72 : Nat) : Int) else ((inst - 72 : Nat) : Int))
  else if code = Code.cellAllocA then ((inst * 7168 + 7168 * 2 ^ 20 : Nat) : Int)
  else if code = Code.portCluster then ((inst / 16 : Nat) : Int)
  else if rowCode code = Code.railAddr then ((0x10 + (code / 256 - 0x7040) : Nat) : Int)
  else
    match findObj code with
    | some o => o.dflt
    | none => 0

/-- The written working value of an instance, or `none` where it follows its default. -/
def State.regWritten (s : State) (code inst : Nat) : Option Int := Tab.find s.regs (objKey code inst)

/-- The working value of an instance before ROLL_CALL's own rule (R336). -/
def State.regPlain (s : State) (code inst : Nat) : Int :=
  (s.regWritten code inst).getD (plainDefault code inst s.time.n)

/-- Whether the windows of a port let its roll call be open (R185). -/
def State.rollWindowsOk (s : State) (p : Nat) : Bool :=
  decide (5857 ≤ s.regPlain Code.dsWindow p) && decide (4219 ≤ s.regPlain Code.contWindow p)

/-- The working value of an instance: the last accepted write, or the default (R336, R338). ROLL_CALL defaults to 1, and to
0 where the windows fail R185. -/
def State.reg (s : State) (code inst : Nat) : Int :=
  match s.regWritten code inst with
  | some v => v
  | none =>
    if code = Code.rollCall then (if s.rollWindowsOk inst then 1 else 0)
    else plainDefault code inst s.time.n

/-- A working value as a natural number. -/
def State.regN (s : State) (code inst : Nat) : Nat := (s.reg code inst).toNat

/-- A Boolean working value. -/
def State.regB (s : State) (code inst : Nat) : Bool := decide (s.reg code inst = 1)

/-- Writes a working value. -/
def State.setReg (s : State) (code inst : Nat) (v : Int) : State :=
  { s with regs := Tab.put s.regs (objKey code inst) v }

/-- The current set: of the complete sets, the one with the higher set_seq (R452). -/
def State.currentSet (s : State) : Option CommitSet :=
  match s.nvm.slotA, s.nvm.slotB with
  | some a, some b => if a.seq < b.seq then some b else some a
  | some a, none => some a
  | none, b => b

/-- The committed value of an instance, or its default where none was committed (R345). -/
def State.committed (s : State) (code inst : Nat) : Option Int :=
  (s.currentSet).bind (fun c => Tab.find c.regs (objKey code inst))

/-- The committed value of an instance as a natural number, its default where none was committed (R345). -/
def State.committedN (s : State) (code inst : Nat) : Nat :=
  ((s.committed code inst).getD (plainDefault code inst s.time.n)).toNat

/-- The content of a DOMAIN or STR object that a host has written. -/
def State.dom (s : State) (code inst : Nat) : List Byte := Tab.get s.doms (objKey code inst) []

/-- Writes the content of a DOMAIN or STR object. -/
def State.setDom (s : State) (code inst : Nat) (v : List Byte) : State :=
  { s with doms := Tab.put s.doms (objKey code inst) v }

/-- Adds to an event counter, which stops at its maximum (R6). -/
def State.bumpBy (s : State) (code inst n : Nat) : State :=
  if n = 0 then s else s.setReg code inst (min ((s.regN code inst + n : Nat) : Int) (2 ^ 32 - 1))

/-- Counts one event (R6). -/
def State.bump (s : State) (code inst : Nat) : State := s.bumpBy code inst 1

/-! ## Free values -/

/-- Draws a free value: the present one, and the state with the counter advanced (notes/assumptions/5). -/
def State.draw (s : State) : Int × State :=
  (Config.freeValue s.free, { s with free := s.free + 1 })

/-! ## Ports, contexts, clusters, engines, links, paths -/

/-- A port (R8). -/
def State.port (s : State) (p : Nat) : PortSt := Tab.get s.ports p {}
/-- Writes a port. -/
def State.setPort (s : State) (p : Nat) (x : PortSt) : State := { s with ports := Tab.put s.ports p x }
/-- Changes a port. -/
def State.modPort (s : State) (p : Nat) (f : PortSt → PortSt) : State := s.setPort p (f (s.port p))
/-- Changes a port's receiver. -/
def State.modRx (s : State) (p : Nat) (f : RxSt → RxSt) : State :=
  s.modPort p (fun x => { x with rx := f x.rx })
/-- Changes a port's trunk state. -/
def State.modTrunk (s : State) (p : Nat) (f : TrunkSt → TrunkSt) : State :=
  s.modPort p (fun x => { x with trunk := f x.trunk })
/-- Changes a port's traverse state. -/
def State.modTrav (s : State) (p : Nat) (f : TravSt → TravSt) : State :=
  s.modPort p (fun x => { x with trav := f x.trav })

/-- The table key of a drop (R139): 64 contexts for each port. -/
def dropKey (p d : Nat) : Nat := 64 * p + d
/-- A drop context (R139). -/
def State.ctx (s : State) (p d : Nat) : Ctx := Tab.get s.ctxs (dropKey p d) {}
/-- Writes a drop context. -/
def State.setCtx (s : State) (p d : Nat) (x : Ctx) : State := { s with ctxs := Tab.put s.ctxs (dropKey p d) x }
/-- Changes a drop context. -/
def State.modCtx (s : State) (p d : Nat) (f : Ctx → Ctx) : State := s.setCtx p d (f (s.ctx p d))

/-- The cluster of a port (R38, R369). -/
def clusterOf (p : Nat) : Nat := p / 16
/-- The ports of a cluster (R38). -/
def portsOf (k : Nat) : List Nat := span (16 * k) 16
/-- All ports (R8). -/
def allPorts : List Nat := List.range 144
/-- Drop ids (R84). -/
def allDrops : List Nat := span 1 32
/-- A cluster (R38). -/
def State.cluster (s : State) (k : Nat) : ClusterSt := Tab.get s.clusters k {}
/-- Writes a cluster. -/
def State.setCluster (s : State) (k : Nat) (x : ClusterSt) : State :=
  { s with clusters := Tab.put s.clusters k x }
/-- Changes a cluster. -/
def State.modCluster (s : State) (k : Nat) (f : ClusterSt → ClusterSt) : State := s.setCluster k (f (s.cluster k))

/-- An engine at reset: EN(18k+16) and EN(18k+17) are spares, the others are in service (R41). -/
def defaultEngine (e : Nat) : EngineSt := { state := if 16 ≤ e % 18 then 1 else 0 }
/-- An engine (R41). -/
def State.engine (s : State) (e : Nat) : EngineSt := Tab.get s.engines e (defaultEngine e)
/-- Writes an engine. -/
def State.setEngine (s : State) (e : Nat) (x : EngineSt) : State := { s with engines := Tab.put s.engines e x }
/-- Changes an engine. -/
def State.modEngine (s : State) (e : Nat) (f : EngineSt → EngineSt) : State := s.setEngine e (f (s.engine e))
/-- The engine that serves a port (R41, R369). -/
def State.engineFor (s : State) (p : Nat) : Nat := ((s.port p).movedTo).getD (engineOf p)

/-- A host link. -/
def State.link (s : State) (l : Link) : LinkSt :=
  match l with
  | .a => s.oxl.a
  | .b => s.oxl.b
/-- Writes a host link. -/
def State.setLink (s : State) (l : Link) (x : LinkSt) : State :=
  match l with
  | .a => { s with oxl := { s.oxl with a := x } }
  | .b => { s with oxl := { s.oxl with b := x } }
/-- Changes a host link. -/
def State.modLink (s : State) (l : Link) (f : LinkSt → LinkSt) : State := s.setLink l (f (s.link l))
/-- The other link. -/
def otherLink (l : Link) : Link :=
  match l with
  | .a => .b
  | .b => .a
/-- The number of a link in messages: 0 A, 1 B (R316). -/
def linkNo (l : Link) : Nat :=
  match l with
  | .a => 0
  | .b => 1
/-- The object of a link, from link A's (R327). -/
def linkCode (l : Link) (code : Nat) : Nat :=
  match l with
  | .a => code
  | .b => code + 0x10000
/-- The object of a lane of a link, from lane 0's of link A (R327). -/
def laneCode (l : Link) (lane code : Nat) : Nat := linkCode l (code + 256 * lane)

/-- An access path (R329). -/
def State.path (s : State) (q : Path) : PathSt :=
  match q with
  | .spi => s.mgmt.spi
  | .oxlA => s.mgmt.oxlA
  | .oxlB => s.mgmt.oxlB
/-- Writes an access path. -/
def State.setPath (s : State) (q : Path) (x : PathSt) : State :=
  match q with
  | .spi => { s with mgmt := { s.mgmt with spi := x } }
  | .oxlA => { s with mgmt := { s.mgmt with oxlA := x } }
  | .oxlB => { s with mgmt := { s.mgmt with oxlB := x } }
/-- Changes an access path. -/
def State.modPath (s : State) (q : Path) (f : PathSt → PathSt) : State := s.setPath q (f (s.path q))
/-- PATH_ID of a path (R340). -/
def pathNo (q : Path) : Nat :=
  match q with
  | .spi => 0
  | .oxlA => 1
  | .oxlB => 2

/-- A sensor (R374). -/
def State.sensor (s : State) (n : Nat) : SensorSt := Tab.get s.heat.sensors n {}
/-- Writes a sensor. -/
def State.setSensor (s : State) (n : Nat) (x : SensorSt) : State :=
  { s with heat := { s.heat with sensors := Tab.put s.heat.sensors n x } }

/-- Applies an event of a port when the port exists (notes/assumptions/2). -/
def atPort (p : Nat) (f : State → State) (s : State) : State := if p < 144 then f s else s
/-- Applies an event of a drop when port and drop id exist. -/
def atDrop (p d : Nat) (f : State → State) (s : State) : State :=
  if p < 144 ∧ 1 ≤ d ∧ d ≤ 32 then f s else s
/-- Applies an event of a cluster when the cluster exists. -/
def atCluster (k : Nat) (f : State → State) (s : State) : State := if k < 9 then f s else s

/-- The instance that an object shows on a path (R340, R341, R361). -/
def State.instOf (s : State) (q : Path) (sc : Scope) : Nat :=
  let x := s.path q
  match sc with
  | .device => 0
  | .cluster => x.selCluster
  | .port => x.selPort
  | .drop => dropKey x.selPort x.selDrop
  | .cell => x.selCell
  | .trace => x.selPort
  | .path => pathNo q

end Sys2Proof.Machine
end

