-- ==== Sys2Proof/Machine/Flags.lean ====
section
/-! DEFINITION. Check codes, whitening and the status byte: every computation of a code or a flag word that the manual
gives (R105, R115, R116, R354, R408–R410, R431). Bits go most significant first, as R101 sends them. -/

namespace Sys2Proof.Machine

/-- The bits of a byte, most significant first (R101). -/
def byteBits (b : Byte) : List Bool := [b[7], b[6], b[5], b[4], b[3], b[2], b[1], b[0]]

/-- The bits of bytes, in sending order (R101). -/
def bytesBits (bs : List Byte) : List Bool := bs.flatMap byteBits

/-- One bit through a check register of `w` bits with polynomial `poly`. -/
def crcStep (w : Nat) (poly : BitVec w) (r : BitVec w) (b : Bool) : BitVec w :=
  if (r.getMsbD 0) == b then r <<< 1 else (r <<< 1) ^^^ poly

/-- A check register after a run of bits. -/
def crcRun (w : Nat) (poly init : BitVec w) (bits : List Bool) : BitVec w := bits.foldl (crcStep w poly) init

/-- The 16-bit check code of R115: polynomial 1021h, initial value FFFFh. -/
def crc16 (bits : List Bool) : BitVec 16 := crcRun 16 0x1021 0xFFFF bits

/-- The 8-bit check code of R115: polynomial 07h, initial value 00h. -/
def crc8 (bits : List Bool) : BitVec 8 := crcRun 8 0x07 0x00 bits

/-- The 32-bit check code of R115: polynomial 04C11DB7h, initial value and final XOR FFFFFFFFh. -/
def crc32 (bits : List Bool) : BitVec 32 := crcRun 32 0x04C11DB7 0xFFFFFFFF bits ^^^ 0xFFFFFFFF

/-- The bits of a word, most significant first (R101). -/
def wordBits (w : BitVec n) : List Bool := (List.range n).map (fun i => w.getMsbD i)

/-- The bytes that bits spell, most significant first; a short last group is dropped. -/
def bitsBytes (fuel : Nat) (bits : List Bool) : List Byte :=
  match fuel with
  | 0 => []
  | f + 1 =>
    if bits.length < 8 then []
    else byteOf ((bits.take 8).foldl (fun a b => 2 * a + (if b then 1 else 0)) 0) :: bitsBytes f (bits.drop 8)

/-! ## Line codes -/

/-- hcrc over bits [63:16] of a header (R104, R115). -/
def hcrc (header : BitVec 64) : BitVec 16 := crc16 ((wordBits header).take 48)

/-- bcrc over bits [31:8] of a beacon header (R115, R124). -/
def bcrc (header : BitVec 32) : BitVec 8 := crc8 ((wordBits header).take 24)

/-- CRC-32 of a burst: the whole header, then the payload before whitening (R115, R116). -/
def lineCrc (header : BitVec 64) (payload : List Byte) : BitVec 32 :=
  crc32 (wordBits header ++ bytesBits payload)

/-- The whitening seed {cycle[15:0], drop[5:0], dir}, with 1 in place of 0 (R117, R118). -/
def whitenSeed (cycle drop : Nat) (upstream : Bool) : BitVec 23 :=
  let v := cycle % 65536 * 128 + drop % 64 * 2 + (if upstream then 1 else 0)
  if v = 0 then 1 else BitVec.ofNat 23 v

/-- Adds the keystream of x^23 + x^18 + 1 to bits; the same operation removes it (R117). -/
def whitenBits (st : BitVec 23) (bits : List Bool) : List Bool :=
  match bits with
  | [] => []
  | x :: xs =>
    let k := Bool.xor st[22] st[17]
    Bool.xor x k :: whitenBits ((st <<< 1) ||| (if k then 1 else 0)) xs

/-- Whitens or de-whitens whole bytes (R117). -/
def whiten (seed : BitVec 23) (bs : List Byte) : List Byte :=
  bitsBytes bs.length (whitenBits seed (bytesBits bs))

/-- The 64-bit header of a burst with its hcrc (R104). -/
def packHeader (typ drop epoch seq ack length flags : Nat) : BitVec 64 :=
  let h : BitVec 64 :=
    BitVec.ofNat 64 ((((((((typ % 16) * 64 + drop % 64) * 64 + epoch % 64) * 256 + seq % 256) * 256 + ack % 256) * 4096
      + length % 4096) * 16 + flags % 16) * 65536)
  h ||| (hcrc h).setWidth 64

/-- The fields of a header (R104): type, drop, epoch, seq, ack, length, flags. -/
def unpackHeader (h : BitVec 64) : RxHeader :=
  let n := h.toNat
  { typ := bitsOf n 63 60, drop := bitsOf n 59 54, epoch := bitsOf n 53 48, seq := bitsOf n 47 40,
    ack := bitsOf n 39 32, length := bitsOf n 31 20, flags := bitsOf n 19 16, bits := h }

/-- The header of a burst on a line (R104). -/
def Burst.header (b : Burst) : BitVec 64 :=
  packHeader b.typ b.drop b.epoch b.seq b.ack b.payload.length b.flags

/-- The header of a beacon whose window starts in a cycle: cyc, kind 1h, bcrc (R124). -/
def beaconHeader (cycle : Nat) : BitVec 32 :=
  let h : BitVec 32 := BitVec.ofNat 32 (cycle % 65536 * 65536 + 0x1000)
  h ||| (bcrc h).setWidth 32

/-! ## SPI -/

/-- The CRC-16 of an SPI message: over the two length bytes and the message (R353). -/
def spiCrc (bytes : List Byte) : BitVec 16 := crc16 (bytesBits bytes)

/-- FAULT_N is low: a raise is held, the collector has not started since a device-scope reset, or the device is in
Fatal (R415). -/
def State.faultN (s : State) : Bool := !s.faults.held.isEmpty || !s.faults.started || s.faults.fatal

/-- The status byte of the SPI (R354). -/
def State.spiStatus (s : State) : Byte :=
  0x50#8 ||| (if s.faultN then 0x08#8 else 0#8) ||| (if s.spi.rej then 0x04#8 else 0#8) |||
    (if s.spi.busy then 0x02#8 else 0#8) ||| (if s.spi.held.isSome then 0x01#8 else 0#8)

end Sys2Proof.Machine
end

