-- ==== Sys2Proof/Machine/Status.lean ====
section
/-! DEFINITION. Which link carries what (R320, R321), and the status messages of R316 and R317. -/

namespace Sys2Proof.Machine

/-- LINK_MODE 6200.01: 0 split, 1 mirrored, 2 active/standby (R320). -/
def State.linkMode (s : State) : Nat := s.regN Code.linkMode 0

/-- The link of a port in split mode, after moves (R320, R322). -/
def State.splitLink (s : State) (p : Nat) : Link :=
  if p < 72 then (if s.oxl.lowOnB then .b else .a) else (if s.oxl.highOnA then .a else .b)

/-- The active link of active/standby mode (R320). -/
def State.activeLink (s : State) : Link := if s.oxl.activeB then .b else .a

/-- Whether traffic is assigned to a link: in split mode it has ports; in mirrored mode it is not lost for traffic, or its move is
still due, or the other link could not take over; in active/standby mode it is the active link (R320, R322, R324). -/
def State.assigned (s : State) (l : Link) : Bool :=
  if s.linkMode = 0 then (s.splitLink 0 == l) || (s.splitLink 143 == l)
  else if s.linkMode = 1 then
    (s.link l).fit || (s.link l).moveDue || !((s.link (otherLink l)).fit)
  else s.activeLink == l

/-- Whether a link carries traffic: it is not lost for traffic and traffic is assigned to it (R321, TRAFFIC_LINKS). -/
def State.carries (s : State) (l : Link) : Bool := (s.link l).fit && s.assigned l

/-- TRAFFIC_LINKS 6200.04 (R328). -/
def State.trafficLinks (s : State) : Nat := (if s.carries .a then 1 else 0) + (if s.carries .b then 2 else 0)

/-- The links that traffic is assigned to. -/
def State.assignedLinks (s : State) : List Link := [Link.a, Link.b].filter (fun l => s.assigned l)

/-- Both links; a link that is lost and whose traffic the other link has taken is left out (R322; DEDUCED,
notes/assumptions/9). -/
def State.bothLinks (s : State) : List Link :=
  [Link.a, Link.b].filter (fun l =>
    s.assigned l || (s.link l).fit || !((s.link (otherLink l)).fit))

/-- The links that carry the data and the status messages of a port to the host (R320). -/
def State.linksOfPort (s : State) (p : Nat) : List Link :=
  if s.linkMode = 0 then [s.splitLink p] else s.assignedLinks

/-- Puts a status message on the queue of a link, which holds 256; a message that finds it full is dropped and counted
(R317). -/
def pushStatus (f : OutFrame) (l : Link) (s : State) : State :=
  if (s.link l).status.length < 256 then s.modLink l (fun x => { x with status := x.status ++ [f] })
  else s.bump (linkCode l Code.statusDrops) 0

/-- The head of a status message (R316): kind, version 01h, sequence number, TIME64 of the event. -/
def statusHead (kind seq time : Nat) : List Byte :=
  [byteOf kind, 1, 0, 0] ++ beBytes 4 seq ++ beBytes 8 time

/-- Sends one status message on the given links under one sequence number, which is spent even where a queue is full
(R316, R317). `port` is FFh for the device. -/
def sendStatus (links : List Link) (kind port drop epoch : Nat) (body : List Byte) (s : State) : State :=
  let f : OutFrame := { cls := 1, epoch := epoch, port := port, drop := drop, copy := false,
                        body := statusHead kind s.oxl.seq s.time.time64 ++ body, alone := decide (links.length = 1) }
  let t := forAll links (pushStatus f) s
  { t with oxl := { t.oxl with seq := (t.oxl.seq + 1) % 2 ^ 32 } }

/-- A status message about a port and drop, on the link of the port (R316, R320). -/
def portStatus (kind port drop epoch : Nat) (body : List Byte) (s : State) : State :=
  sendStatus (s.linksOfPort port) kind port drop epoch body s

/-- The links of a status message of the device: both links in split mode, the links of all traffic elsewhere (R320). -/
def State.deviceLinks (s : State) : List Link := if s.linkMode = 0 then s.bothLinks else s.assignedLinks

/-- A status message of the device, tag FF00h (R316, R320). -/
def deviceStatus (kind : Nat) (body : List Byte) (s : State) : State :=
  sendStatus s.deviceLinks kind 0xFF 0 0 body s

/-- Status message 01h, admission (R316). -/
def admissionStatus (p d epoch mode identity caps : Nat) (s : State) : State :=
  portStatus 1 p d epoch ([byteOf p, byteOf d, byteOf epoch, byteOf mode] ++ beBytes 6 identity ++ [byteOf caps, 0]) s

/-- Status message 02h, release (R316). -/
def releaseStatus (p d epoch reason : Nat) (s : State) : State :=
  portStatus 2 p d epoch [byteOf p, byteOf d, byteOf epoch, byteOf reason] s

/-- Status message 03h, stale epoch (R316). -/
def staleStatus (p d cause frameEpoch epoch : Nat) (s : State) : State :=
  portStatus 3 p d epoch [byteOf p, byteOf d, byteOf cause, byteOf frameEpoch, byteOf epoch, 0, 0, 0] s

/-- Status message 04h, discard (R316). A tag that names no port of the device is reported as the device's. -/
def discardStatus (p d cause length : Nat) (s : State) : State :=
  let body := [byteOf p, byteOf d, byteOf cause, 0] ++ beBytes 2 length ++ [0, 0]
  if p < 144 then portStatus 4 p d 0 body s else deviceStatus 4 body s

/-- Status message 05h, twin move (R316); it goes on the link of the new port (R324). -/
def twinMoveStatus (src dst d oldEpoch newEpoch reason : Nat) (s : State) : State :=
  portStatus 5 dst d newEpoch
    [byteOf src, byteOf dst, byteOf d, byteOf oldEpoch, byteOf newEpoch, byteOf reason, 0, 0] s

/-- Status message 08h, link event (R316, R320): on both links, and on the given ones for a loss. -/
def linkEventStatus (links : List Link) (l : Link) (event : Nat) (s : State) : State :=
  sendStatus links 8 0xFF 0 0 [byteOf (linkNo l), byteOf event, byteOf s.trafficLinks, 0] s

/-- Status message 0Ah, trunk event (R316). -/
def trunkStatus (p event : Nat) (s : State) : State :=
  portStatus 10 p 1 0 [byteOf p, byteOf event, byteOf (s.port p).trunk.mode, 0] s

/-- Status message 0Bh, mode change (R316). -/
def modeStatus (p d old new : Nat) (s : State) : State :=
  portStatus 11 p d (s.ctx p d).epoch [byteOf p, byteOf d, byteOf old, byteOf new] s

end Sys2Proof.Machine
end

