-- ==== Sys2Proof/Machine/Collector.lean ====
section
/-! DEFINITION. The fault collector (R403–R421): occurrences of one core cycle, repeats and raises, escalation, the
first-error capture, fault records, acknowledge and clear, and the Fatal stop. A command of the model is one core cycle:
its occurrences are noted as they are found and collected when it ends, in capture order (notes/assumptions/8). -/

namespace Sys2Proof.Machine

/-- Default class of a source: 1 Minor, 2 Major, 3 Critical, 4 Fatal; 0 for a number that is no source (R403). -/
def defaultClass (source : Nat) : Nat :=
  if source ∈ [1, 2] then 4
  else if source ∈ [8, 9] then 3
  else if source ∈ [11, 13, 14, 16, 21, 24, 28, 34, 37, 39] then 1
  else if 1 ≤ source ∧ source ≤ 39 then 2
  else 0

/-- Whether a source marks a lasting condition (R403). -/
def isCondition (source : Nat) : Bool :=
  decide (source ∈ [1, 7, 9, 12, 17, 18, 19, 20, 22, 25, 27, 28, 29, 30, 33, 35, 37])

/-- Notes an occurrence of the present core cycle (R404). -/
def notice (o : Occ) (s : State) : State := { s with faults := { s.faults with due := s.faults.due ++ [o] } }

/-- Notes an occurrence without an access (R404, R408). -/
def fault (source : Nat) (key : List Nat) (detail : List (Nat × Nat)) (s : State) : State :=
  notice { source := source, key := key, detail := detail } s

/-- Whether an occurrence comes before another in capture order: higher default class, then lower source number, then a
real one before an injected one (R407). -/
def captureBefore (x y : Occ) : Bool :=
  if defaultClass x.source ≠ defaultClass y.source then decide (defaultClass y.source < defaultClass x.source)
  else if x.source ≠ y.source then decide (x.source < y.source)
  else !x.injected || y.injected

/-- Whether a held raise makes a real occurrence a repeat (R404, R420). -/
def repeats (o : Occ) (r : Raise) : Bool :=
  !o.injected && !r.injected && r.source == o.source && r.key == o.key &&
    (!r.acked || (isCondition r.source && r.present))

/-- The class of a raise: its default class, one higher where a real, unacknowledged raise of that class is held, `held` being the
raises before any acknowledgement of this core cycle; an injected raise is never escalated (R406, R414, R420). -/
def raiseClass (held : List Raise) (o : Occ) : Nat :=
  let d := defaultClass o.source
  if !o.injected && d < 4 && held.any (fun r => !r.injected && !r.acked && r.cls == d) then d + 1 else d

/-- The source's count in FAULT_TABLE (R404). -/
def State.faultCount (s : State) (source : Nat) : Nat := Tab.get s.aon.faultCounts source 0

/-- Counts an occurrence: a real one in FAULT_TABLE, an injected one in INJECTIONS (R404, R419). -/
def countOcc (o : Occ) (s : State) : State :=
  if o.injected then s.bump Code.injections 0
  else { s with aon := { s.aon with
           faultCounts := Tab.put s.aon.faultCounts o.source (min (s.faultCount o.source + 1) (2 ^ 32 - 1)) } }

/-- Sets the time of a source's last raise (R376). -/
def stampOcc (o : Occ) (s : State) : State :=
  { s with aon := { s.aon with faultTimes := Tab.put s.aon.faultTimes o.source s.time.time64 } }

/-- Puts a record at the head of FAULT_LOG, which holds 64 (R410). -/
def logFault (r : FaultRec) (s : State) : State :=
  { s with aon := { s.aon with faultLog := (r :: s.aon.faultLog).take 64 } }

/-- A field in the byte order asked for. -/
def fieldBytes (big : Bool) (w v : Nat) : List Byte := if big then beBytes w v else leBytes w v

/-- The detail bytes of a record (R403). -/
def detailBytes (big : Bool) (d : List (Nat × Nat)) : List Byte := d.flatMap (fun e => fieldBytes big e.1 e.2)

/-- A fault record as 64 bytes: little-endian in FAULT_LOG, most significant byte first in a status message (R403,
R410). -/
def recordBytes (big : Bool) (r : FaultRec) : List Byte :=
  let d := detailBytes big r.detail
  fieldBytes big 8 r.time ++ [byteOf r.source, byteOf r.cls, byteOf r.dflt, byteOf r.flags, byteOf r.event,
    byteOf r.access] ++ fieldBytes big 2 r.master ++ fieldBytes big 4 r.address ++ fieldBytes big 4 r.count ++
    [byteOf d.length] ++ List.replicate 7 0 ++ d ++ List.replicate (32 - d.length) 0

/-- Reports a record: status message 07h, on both links for class 3 and 4 (R411). -/
def reportFault (r : FaultRec) (s : State) : State :=
  sendStatus (if 3 ≤ r.cls then s.bothLinks else s.assignedLinks) 7 0xFF 0 0 (recordBytes true r) s

/-- Bits of the flags field of a record (R410). -/
def faultFlags (injected escalated captured notHeld present : Bool) : Nat :=
  (if injected then 1 else 0) + (if escalated then 2 else 0) + (if captured then 4 else 0) +
    (if notHeld then 8 else 0) + (if present then 16 else 0)

/-- The collector's work on one raise: it is held where there is room, captured where the capture is free, noted as
coincident where the capture was taken in this core cycle, and logged (R404–R410). `fresh` says that the capture was
taken in this core cycle. Gives the state, the record and the new value of `fresh`. -/
def takeRaise (o : Occ) (fresh : Bool) (s : State) : State × FaultRec × Bool :=
  let d := defaultClass o.source
  let cls := raiseClass (s.faults.held ++ s.faults.ackedNow) o
  let room := decide (s.faults.held.length < 256)
  let free := s.aon.capture.isNone
  let s1 := stampOcc o (countOcc o s)
  let entry : FaultRec :=
    { time := s.time.time64, source := o.source, cls := cls, dflt := d,
      flags := faultFlags o.injected (decide (d < cls)) free (!room) false, event := 1, access := o.access,
      master := o.master, address := o.address, count := s1.faultCount o.source, detail := o.detail }
  let r : Raise :=
    { source := o.source, key := o.key, cls := cls, acked := false,
      present := isCondition o.source && !o.injected, injected := o.injected, captured := free,
      time := s.time.time64, detail := o.detail, access := o.access, master := o.master, address := o.address }
  let s2 := if room then { s1 with faults := { s1.faults with held := s1.faults.held ++ [r] } } else s1
  let s3 :=
    match s2.aon.capture with
    | none =>
      { s2 with aon := { s2.aon with
          capture := some { fault := entry, injected := o.injected, coincident := 0, coInjected := 0,
                            tick := s2.time.tick } } }
    | some c =>
      if fresh then
        let c' : Capture :=
          { c with coincident := c.coincident ||| 2 ^ o.source,
                   coInjected := if o.injected then c.coInjected ||| 2 ^ o.source else c.coInjected }
        { s2 with aon := { s2.aon with capture := some c' } }
      else s2
  (logFault entry s3, entry, fresh || free)

/-- The collector's work on one repeat: time and count (R404). -/
def takeRepeat (o : Occ) (s : State) : State :=
  let s1 := stampOcc o (countOcc o s)
  { s1 with faults := { s1.faults with
      held := s1.faults.held.map (fun r =>
        if repeats o r then { r with time := s.time.time64, present := isCondition r.source } else r) } }

/-- Takes the occurrences of one core cycle in order, gathering the records of raises (R404, R407). -/
def takeAll (os : List Occ) (fresh : Bool) (s : State) : State × List FaultRec :=
  match os with
  | [] => (s, [])
  | o :: rest =>
    if s.faults.held.any (repeats o) then takeAll rest fresh (takeRepeat o s)
    else
      let r := takeRaise o fresh s
      let t := takeAll rest r.2.2 r.1
      (t.1, r.2.1 :: t.2)

/-- What is left of a link when the transmitters go to electrical idle at a Fatal stop: nothing leaves any more
(R416). -/
def LinkSt.stopped (x : LinkSt) : LinkSt :=
  { x with tx := 0, status := [], inProgress := none, sentBlocks := [], laneOut0 := [], laneOut1 := [] }

/-- The Fatal stop: cluster links, so line drivers, stop; host links go idle and the archive's writes in flight are
abandoned; the core clock stops (R416). -/
def fatalStop (s : State) : State :=
  let t := forAll allPorts (fun p t => t.modPort p (fun x => { x with driverOff := true, onLine := [] })) s
  { t with
    clusters := t.clusters.map (fun e => (e.1, { e.2 with linkOn := false }))
    oxl := { t.oxl with a := t.oxl.a.stopped, b := t.oxl.b.stopped }
    arch := { t.arch with inFlight := [], toIssue := [], committing := 0 }
    faults := { t.faults with fatal := true } }

/-- The occurrence of an injected raise: of sources 4, 5 and 6 the access is the write of FAULT_INJECT by its master, of any other
source there is none (R376, R408, R419; DEDUCED, notes/assumptions/8). -/
def injectedOcc (x : Nat × Nat) : Occ :=
  if x.1 = 4 ∨ x.1 = 5 ∨ x.1 = 6 then
    { source := x.1, key := [], detail := [], injected := true, access := 2, master := x.2, address := Code.faultInject }
  else { source := x.1, key := [], detail := [], injected := true }

/-- The occurrences of the injected raises that are due. FAULT_INJECT takes no source of class Fatal (R419). -/
def State.injections (s : State) : List Occ :=
  (s.faults.inject.filter (fun x => decide (defaultClass x.1 < 4))).map injectedOcc

/-- The core cycle of the acknowledgements is over (R414). -/
def State.forgetAcks (s : State) : State := { s with faults := { s.faults with ackedNow := [] } }

/-- Collects the occurrences of the core cycle that ends (R404–R411, R416). An injected raise that is due falls in the
same core cycle; one that was written in this core cycle falls in a later one (R6, R419, R420). -/
def collect (s : State) : State :=
  match s.faults.due, s.faults.injectNext with
  | [], [] => s.forgetAcks
  | [], _ =>
    { s with faults := { s.faults with inject := s.faults.inject ++ s.faults.injectNext, injectNext := [], ackedNow := [] } }
  | os, next =>
    let inj : List Occ := if os.any (fun o => o.injected) then [] else s.injections
    let s1 := { s with faults := { s.faults with due := [], inject := next, injectNext := [] } }
    let r := takeAll (sortBy captureBefore (os ++ inj)) false s1
    (if r.2.any (fun x => x.cls == 4) then fatalStop r.1 else forAll r.2 reportFault r.1).forgetAcks

/-- The condition of a source has ended for a key (R404, R413). -/
def endCondition (source : Nat) (key : List Nat) (s : State) : State :=
  { s with faults := { s.faults with
      held := s.faults.held.map (fun r =>
        if r.source == source && r.key == key && !r.injected then { r with present := false } else r) } }

/-- The condition of a source has ended for every key. -/
def endConditions (source : Nat) (s : State) : State :=
  { s with faults := { s.faults with
      held := s.faults.held.map (fun r =>
        if r.source == source && !r.injected then { r with present := false } else r) } }

/-- Whether a held raise of a condition source is present for a key. -/
def State.conditionHeld (s : State) (source : Nat) (key : List Nat) : Bool :=
  s.faults.held.any (fun r => r.source == source && r.key == key && !r.injected && r.present)

/-- The record of an acknowledgement or a clear of a held raise (R410, R412, R413). -/
def raiseRecord (event : Nat) (r : Raise) (s : State) : FaultRec :=
  { time := s.time.time64, source := r.source, cls := r.cls, dflt := defaultClass r.source,
    flags := faultFlags r.injected (decide (defaultClass r.source < r.cls)) r.captured false r.present,
    event := event, access := r.access, master := r.master, address := r.address,
    count := s.faultCount r.source, detail := r.detail }

/-- Whether a class lies in a class mask (R376). -/
def inMask (mask cls : Nat) : Bool := mask.testBit (cls - 1)

/-- Logs and reports records in order (R410, R411). -/
def emitRecords (rs : List FaultRec) (s : State) : State :=
  forAll rs (fun r t => reportFault r (logFault r t)) s

/-- A write of a class mask to FAULT_ACK (R412). The raises as they were are kept for the rest of the core cycle (R414). -/
def faultAck (mask : Nat) (s : State) : State :=
  let hit := fun (r : Raise) => inMask mask r.cls && !r.acked
  let rs := (s.faults.held.filter hit).map (fun r => raiseRecord 2 r s)
  emitRecords rs { s with faults := { s.faults with
      held := s.faults.held.map (fun r => if hit r then { r with acked := true } else r)
      ackedNow := s.faults.ackedNow ++ s.faults.held.filter hit } }

/-- A write of a class mask to FAULT_CLEAR (R413). -/
def faultClear (mask : Nat) (s : State) : State :=
  let hit := fun (r : Raise) => inMask mask r.cls && r.acked
  let rs := (s.faults.held.filter hit).map (fun r => raiseRecord 3 r s)
  emitRecords rs { s with faults := { s.faults with
      held := s.faults.held.filter (fun r => !(hit r && !r.present)) } }

/-- A write of 1 to FEC_REARM (R408). -/
def fecRearm (s : State) : State := { s with aon := { s.aon with capture := none } }

/-- A class mask of the classes of held raises that satisfy a test (R376). -/
def State.classMask (s : State) (p : Raise → Bool) : Nat :=
  (s.faults.held.filter p).foldl (fun m r => m ||| 2 ^ (r.cls - 1)) 0

/-- FAULT_SOURCES_ACTIVE 7800.05 (R376). -/
def State.sourcesActive (s : State) : Nat := s.faults.held.foldl (fun m r => m ||| 2 ^ r.source) 0

/-- One entry of FAULT_TABLE (R376, R405). -/
def State.faultEntry (s : State) (source : Nat) : List Byte :=
  let rs := s.faults.held.filter (fun r => r.source == source)
  let inForce := if rs.isEmpty then defaultClass source else rs.foldl (fun m r => max m r.cls) 0
  let st := if rs.isEmpty then 0 else if rs.any (fun r => !r.acked) then 1 else 2
  [byteOf (defaultClass source), byteOf inForce, byteOf st, 0] ++ leBytes 4 (s.faultCount source) ++
    leBytes 8 (Tab.get s.aon.faultTimes source 0)

/-- FAULT_TABLE 7802.01 (R376). -/
def State.faultTable (s : State) : List Byte := (List.range 64).flatMap s.faultEntry

/-- FAULT_LOG 7802.02: the records, newest first (R410). -/
def State.faultLogBytes (s : State) : List Byte := s.aon.faultLog.flatMap (recordBytes false)

/-- Whether the core of the device stands still: Fatal, or the core die shut down by heat (R416, R442). -/
def State.coreStopped (s : State) : Bool := s.faults.fatal || s.heat.coreDown

/-- Runs a command on the core: nothing happens while the core stands still; otherwise the command's effect, then the
collector's work for its core cycle (notes/assumptions/8). -/
def run (f : State → State) (s : State) : Host.Outcome State Fault Refusal :=
  if s.coreStopped then .next s else .next (collect (f s))

/-- Runs a command of the always-on domain, which works while the core stands still (R416). -/
def runAlways (f : State → State) (s : State) : Host.Outcome State Fault Refusal := .next (collect (f s))

end Sys2Proof.Machine
end

