-- ==== Sys2Proof/Machine/Memory.lean ====
section
/-! DEFINITION. Errors of the protected memories (R48) and the words of the drop-context memory (R139, R218, R219).
Words are 64 bits; a memory's words are numbered from 0. -/

namespace Sys2Proof.Machine

/-- The memory code of fault details (R403). -/
def memCode (m : Mem) : Nat :=
  match m with
  | .cells => 0
  | .trace => 1
  | .contexts => 2
  | .buffers => 3
  | .taps => 4
  | .mc => 5
  | .cask => 6

/-- Access codes of FEC_ACCESS (R376). -/
def accRead : Nat := 1
/-- A write (R376). -/
def accWrite : Nat := 2

/-- FEC_MASTER of the management controller (R376). -/
def masterMc : Nat := 4
/-- FEC_MASTER of the archive DMA (R376). -/
def masterDma : Nat := 5
/-- FEC_MASTER of an engine (R376). -/
def masterEngine (e : Nat) : Nat := 0x100 + e

/-- FEC_ADDRESS of a word of a memory: bit 31 set, the bus address below it (R376). -/
def busAddress (mem word : Nat) : Nat := 2 ^ 31 + Config.busAddress mem word % 2 ^ 31

/-- A single-bit error: corrected and counted in the memory's counter (R48). -/
def sramCorrected (mem : Nat) (s : State) : State :=
  { s with test := { s.test with
      corrected := Tab.put s.test.corrected mem (min (Tab.get s.test.corrected mem 0 + 1) (2 ^ 32 - 1)) } }

/-- A run of single-bit errors: each corrected and counted (R48). -/
def sramCorrectedBy (mem n : Nat) (s : State) : State :=
  if n = 0 then s
  else { s with test := { s.test with
    corrected := Tab.put s.test.corrected mem (min (Tab.get s.test.corrected mem 0 + n) (2 ^ 32 - 1)) } }

/-- Marks a word bad (R48). -/
def markBad (mem word : Nat) (s : State) : State :=
  { s with test := { s.test with badWords := addTo (mem, word) s.test.badWords } }

/-- Clears the bad marking of `n` words from `word` on, which have been written (R48). -/
def clearBad (mem word n : Nat) (s : State) : State :=
  { s with test := { s.test with
      badWords := s.test.badWords.filter (fun w => !(w.1 == mem && decide (word ≤ w.2) && decide (w.2 < word + n))) } }

/-- A double-bit error: the word is marked bad and SRAM-uncorrectable raised with the access that found it (R48,
R403 source 4, R408). -/
def sramUncorrectable (mem word access master : Nat) (s : State) : State :=
  notice { source := 4, key := [mem, word], detail := [(1, mem)], access := access, master := master,
           address := busAddress mem word } (markBad mem word s)

/-- Whether a word is marked bad. -/
def State.isBad (s : State) (mem word : Nat) : Bool := s.test.badWords.contains (mem, word)

/-- The first word of a drop's context in the drop-context memory: 64 words for each of 32 contexts of a port (R139). -/
def ctxWord (p d : Nat) : Nat := (32 * p + (d - 1)) * 64

/-- The first counter object of the two that a word `w` of a drop context, 0–63, holds: 4031.01 on in words 24–31, 4041.01 on
in words 40–43 (R139, R218). -/
def ctxCounters (w : Nat) : Option Nat :=
  if 24 ≤ w ∧ w < 32 then some (0x403101 + 2 * (w - 24))
  else if 40 ≤ w ∧ w < 44 then some (0x404101 + 2 * (w - 40))
  else none

/-- The management controller rebuilds a context after words of its bytes 511:192 have failed: the counters in the failed
words are cleared and bytes 299:256 written from its copy, which holds what the context held. Figures of the last levelling
in a failed word, which the copy lacks, are left open; the failed words have then been written (R144, R219;
notes/assumptions/11). -/
def rebuildCtx (p d : Nat) (words : List Nat) (s : State) : State :=
  if (s.ctx p d).state = 0 then s
  else
    let s1 := forAll words (fun w t =>
      match ctxCounters w with
      | some c => (t.setReg c (dropKey p d) 0).setReg (c + 1) (dropKey p d) 0
      | none => t) s
    let lost := fun (lo hi : Nat) => words.any (fun w => decide (lo ≤ 8 * w + 7) && decide (8 * w ≤ hi))
    let s2 := forAll (List.range 7) (fun i t =>
      if lost (300 + 2 * i) (301 + 2 * i) then
        let r := t.draw
        r.2.modCtx p d (fun x => { x with soundSnr := setAt x.soundSnr i (r.1.toNat % 65536) })
      else t) s1
    let s3 := if lost 314 315 then
        let r := s2.draw
        r.2.modCtx p d (fun x => { x with levelMargin := r.1 % 65536 - 32768 })
      else s2
    let s4 := if lost 316 317 then
        let r := s3.draw
        r.2.modCtx p d (fun x => { x with dsAmpl := r.1 % 65536 - 32768 })
      else s3
    forAll words (fun w t => clearBad 2 (ctxWord p d + w) 1 t) s4

/-- What a double-bit error in a word of the drop-context memory asks of the management controller (R219). -/
def ctxWordFailed (word : Nat) (s : State) : State :=
  let w := word % 64
  if 24 ≤ w then rebuildCtx (word / 2048) (word / 64 % 32 + 1) [w] s else s

/-- The first word of a port's sum in the trace accumulation memory: 16,384 points of 32 bits, two in a word; the clusters' and
ports' places follow their numbers (R44; DEDUCED, notes/assumptions/14). -/
def traceWord (p : Nat) : Nat := 8192 * p

/-- A running sum of `n` points as the trace accumulation memory gives it: the points of a word marked bad bring no data, and are
left open (R48, notes/assumptions/14). -/
def readSum (p n master : Nat) (acc : List Int) (s : State) : List Int × State :=
  let bad := ((s.test.badWords.filter (fun w => w.1 == 1)).map (fun w => w.2)).filter
    (fun w => decide (traceWord p ≤ w) && decide (2 * (w - traceWord p) < n))
  bad.foldl (fun (x : List Int × State) w =>
    let a := x.2.draw
    let b := a.2.draw
    let i := 2 * (w - traceWord p)
    (setAt (setAt x.1 i a.1) (i + 1) b.1, sramUncorrectable 1 w accRead master b.2)) (acc, s)

/-- A word of a frame buffer has failed: at most one stored frame to the port's drops is lost with it. Which one the word holds,
if any, is left open (R48, R402; notes/assumptions/14). -/
def bufferWordFailed (word : Nat) (s : State) : State :=
  let p := word / 8192
  let frames := allDrops.flatMap (fun d => (List.range (s.ctx p d).queue.length).map (fun i => (d, i)))
  let r := s.draw
  match frames[r.1.toNat]? with
  | some (d, i) => r.2.modCtx p d (fun x => { x with queue := x.queue.eraseIdx i })
  | none => r.2

/-- A frame is stored in the frame buffer of a port's cluster: the words it takes are written, and so no longer marked bad. Which of
the port's words these are is left open (R48; notes/assumptions/14). -/
def bufferWritten (p : Nat) (s : State) : State :=
  forAll (s.test.badWords.filter (fun w => w.1 == 3 && w.2 / 8192 == p)) (fun w t =>
    let r := t.draw
    if r.1 = 0 then r.2 else clearBad 3 w.2 1 r.2) s

/-- The 64-bit words of an engine's tap store, 3 KiB (R382). -/
def tapWords : Nat := 384

/-- The word of the tap stores that word `w` of an engine's store is: the stores follow one another by engine number (DESIGN
CHOICE, notes/assumptions/19). -/
def tapWord (e w : Nat) : Nat := tapWords * e + w % tapWords

end Sys2Proof.Machine
end

