-- ==== Sys2Proof/Machine/Time.lean ====
section
/-! DEFINITION. Plant time: the tick, the timing inputs, time quality and holdover, slew, realignment, epochs and the
start of the grid (R57–R77, R93). -/

namespace Sys2Proof.Machine

/-! ## The passing of time -/

/-- Lets `n` ticks pass for every clock; TIME64 takes the value given (R54, R61). -/
def passTicks (n time64 : Nat) (s : State) : State :=
  { s with
    time := { s.time with tick := s.time.tick + n, time64 := time64 }
    aon := { s.aon with rtc := s.aon.rtc + n } }

/-- Ticks from now to the TIME64 value `t`, the held or skipped tick of a slew at the end of the cycle in progress
included (R70). -/
def State.ticksTo (s : State) (t : Nat) : Nat :=
  let d := t - s.time.time64
  if s.time.nextCycle ≤ t ∧ s.time.time64 < s.time.nextCycle then
    (if 0 < s.time.slew ∧ s.time.held = false then d + 1 else if s.time.slew < 0 then d - 1 else d)
  else d

/-- Lets time pass up to the TIME64 value `t`; nothing changes where `t` has passed. -/
def advanceTo (t : Nat) (s : State) : State := if t ≤ s.time.time64 then s else passTicks (s.ticksTo t) t s

/-- Counts the cycles that begin before the TIME64 value `t`, where `t` is a boundary of the grid (R63). -/
def skipTo (t : Nat) (s : State) : State :=
  if s.time.nextCycle < t then
    { s with time := { s.time with cycles := s.time.cycles + (t - s.time.nextCycle) / s.cycleTicks, nextCycle := t } }
  else s

/-- One tick of 100 ns passes while no command waits (notes/assumptions/1). TIME64 advances by one; in the last tick of a
cycle that a slew lengthens it holds, and in a cycle that a slew shortens it advances by 2 to the cycle's end (R61,
R70). Before the grid starts there is no datum to count from and TIME64 stands (R61, R73; DEDUCED, notes/assumptions/10). In Fatal and in a core-die shutdown only the always-on clock runs (R416, R442). -/
def tickPass (s : State) : State :=
  let s1 := { s with aon := { s.aon with rtc := s.aon.rtc + 1 }, time := { s.time with tick := s.time.tick + 1 } }
  if s.coreStopped || !(s.time.running || s.time.realigning) then s1
  else
    let t := s.time.time64
    if 0 < s.time.slew ∧ s.time.held = false ∧ t + 1 = s.time.nextCycle then
      { s1 with time := { s1.time with held := true } }
    else if s.time.slew < 0 ∧ t + 2 = s.time.nextCycle then
      { s1 with time := { s1.time with time64 := t + 2 } }
    else { s1 with time := { s1.time with time64 := t + 1 } }

/-! ## Quality -/

/-- Rate of the error bound by input state, ns for each second (R67). With both inputs qualified R67 has no row: nothing is
added (DEDUCED, notes/assumptions/10). -/
def boundRate (ref10m pps learned : Bool) : Nat :=
  if ref10m && !pps then 100 else if pps then 0 else if learned then 1000 else 2500

/-- The error bound by R67 alone: from `boundAt` it has grown at the rate of the present input state; with REF_1PPS alone
it is held at 1 µs. R67 has no row for a trunk as the source: a partner in the data phase at a carried grade of 1 or worse takes the
rate of both inputs lost (DESIGN CHOICE, notes/assumptions/10). -/
def State.bound67 (s : State) : Nat :=
  if s.time.pps && !s.time.ref10m then 1000
  else s.time.bound + (s.time.tick - s.time.boundAt) * boundRate s.time.ref10m s.time.pps s.aon.learned / secondTicks

/-- TQ_BOUND 2106.00, ns: 0 in grade 0 (DEDUCED, notes/assumptions/10); the last measured offset plus 1 µs while realign
is pending (R69); the remaining offset during a slew where it is the larger (R70); else the bound of R67. It stops at
FFFFFFFFh (R93). -/
def State.boundNow (s : State) : Nat :=
  let b :=
    if s.time.realignPending then s.time.bound
    else if s.time.slew ≠ 0 ∧ s.time.quietSlew = false then
      max (s.time.slew.natAbs * 100) (if s.time.ref10m && s.time.pps then 0 else s.bound67)
    else if s.time.grade = 0 then 0
    else s.bound67
  min b (2 ^ 32 - 1)

/-- The trunk port that is the time source, if TIME_SOURCE names one (R75). -/
def State.trunkSource (s : State) : Option Nat :=
  let v := s.regN Code.timeSource 0
  if v < 144 then some v else none

/-- The grade of an error bound (R66). -/
def gradeOfBound (b : Nat) : Nat := if b ≤ 10000 then 1 else if b ≤ 1000000 then 2 else 3

/-- The grade of R66: 3 where no time has been acquired, no epoch written, or the grid was started without inputs (R73);
on a trunk source in the data phase the trunk's grade, with 0 carried through 4 hops (R76), and out of it holdover at
that grade or worse (R77); 0 where both inputs are
qualified, a grid runs that was aligned to them, and the datum lies within ±10 ticks; else by the bound. While a trunk partner slews,
R70 would have the grade follow the bound and R66 and R76 have the marker's: the model takes the marker's (DESIGN CHOICE,
notes/assumptions/10). -/
def State.gradeNow (s : State) : Nat :=
  if !s.aon.acquired || !s.aon.epochWritten || s.time.unsync then 3
  else
    match s.trunkSource with
    | some p =>
      if (s.port p).trunk.state = 3 && s.time.hops > 0 then
        (if s.time.trunkGrade = 0 && 4 < s.time.hops then 1 else s.time.trunkGrade)
      else max (gradeOfBound s.boundNow) (max 1 s.time.trunkGrade)
    | none =>
      if s.time.ref10m && s.time.pps && s.time.running && !s.time.realignPending && s.time.slew.natAbs ≤ 10 then 0
      else gradeOfBound (max 1 s.boundNow)

/-- Fixes the bound reached so far as the base from which it grows at a new rate (R67). -/
def settleBound (s : State) : State :=
  { s with time := { s.time with bound := if s.time.realignPending then s.time.bound
                                          else if s.time.grade = 0 then 0 else s.bound67,
                                 boundAt := s.time.tick } }

/-- Takes up the grade that now holds: a change is reported (R316), leaving grade 0 starts the bound at 0 and counts
(R67, R72), and reaching it ends the condition of source 22 (R403). -/
def refreshGrade (s : State) : State :=
  let old := s.time.grade
  let s1 := if old = 0 ∧ s.gradeNow ≠ 0 ∧ s.time.realignPending = false then
      { s with time := { s.time with bound := 0, boundAt := s.time.tick } } else s
  let s2 := if old = 0 then { s1 with time := { s1.time with grade := 1 } } else s1
  let new := s2.gradeNow
  let s3 := { s2 with time := { s2.time with grade := new } }
  if new = old then s3
  else
    let s4 := if old = 0 then s3.bump Code.holdoverEntries 0 else s3
    let s5 := if new = 0 then endConditions 22 s4 else s4
    deviceStatus 9 ([byteOf old, byteOf new, 0, 0] ++ beBytes 4 s5.boundNow) s5

/-- Least bound of a grade, ns (R66). -/
def leastBound (grade : Nat) : Nat := if grade ≤ 1 then 0 else if grade = 2 then 10001 else 1000001

/-- A write of TIME_SOURCE: the inputs of the former source count no more, and the device is in holdover at the grade it had
until the new source brings time (R75, R77; the bound starts from the least of that grade where the trunk gave it: DESIGN
CHOICE, notes/assumptions/10). -/
def sourceChanged (s : State) : State :=
  let s1 := settleBound s
  refreshGrade { s1 with time := { s1.time with
    ref10m := false, pps := false, candidates := 0, trunkTick := false, hops := 0, trunkGrade := s.time.grade,
    bound := max s1.time.bound (leastBound s.time.grade), steer := 0 } }

/-- Raises time-reference-loss (R72, R403 source 22): which inputs are lost, and the grade. -/
def raiseReferenceLoss (trunk : Bool) (s : State) : State :=
  let lost := (if s.time.ref10m then 0 else 1) + (if s.time.pps then 0 else 2) + (if trunk then 4 else 0)
  fault 22 [] [(1, if trunk then 4 else lost), (1, s.time.grade)] s

/-- The first check of source 22 after start-up: raised afresh where a device-scope reset found its condition held and the grade is
not 0 (R418; notes/assumptions/17). -/
def recheckReference (s : State) : State :=
  if s.faults.recheck.contains 22 then
    let t := { s with faults := { s.faults with recheck := dropFrom 22 s.faults.recheck } }
    if t.time.grade = 0 then t else raiseReferenceLoss t.trunkSource.isSome t
  else s

/-! ## Timing inputs -/

/-- REF_10M_QUALIFIED (R57, R58, R69). With a trunk source the input is ignored (R75). -/
def ref10mQualified (s : State) : State :=
  if s.trunkSource.isSome || s.time.ref10m then s
  else
    let s1 := settleBound s
    refreshGrade { s1 with time := { s1.time with ref10m := true, qualifiedAt := s1.time.tick } }

/-- REF_10M_DISQUALIFIED (R57, R67, R72). -/
def ref10mDisqualified (s : State) : State :=
  if s.trunkSource.isSome || !s.time.ref10m then s
  else
    let s1 := settleBound s
    raiseReferenceLoss false (refreshGrade { s1 with time := { s1.time with ref10m := false } })

/-- REF_1PPS_EDGE_ABSENT (R57, R67, R72). -/
def edgeAbsent (s : State) : State :=
  if s.trunkSource.isSome || !s.time.pps then s
  else
    let s1 := settleBound s
    raiseReferenceLoss false (refreshGrade { s1 with time := { s1.time with pps := false, candidates := 0 } })

/-- Whether XO_25M is being learned: against REF_10M, or against the tick that the source trunk brings (R58, R75). -/
def State.learning (s : State) : Bool := if s.trunkSource.isSome then s.time.trunkTick else s.time.ref10m

/-- Learning goes on with every second: `xo` is the offset it has reached (R58). -/
def learnOffset (xo : Int) (s : State) : State :=
  if s.learning then { s with aon := { s.aon with xoOffset := xo } } else s

/-- LEARNING_COMPLETE: after 60 s of unbroken qualification (R58). -/
def learningComplete (xo : Int) (s : State) : State :=
  if s.learning && s.elapsed s.time.qualifiedAt (60 * secondTicks) then
    let s1 := settleBound s
    { s1 with aon := { s1.aon with learned := true, xoOffset := xo } }
  else s

/-- Rounds nanoseconds to a resolution of 5 ns (R59). -/
def round5 (x : Int) : Int := (x + 2).fdiv 5 * 5

/-- PPS_RESIDUAL for a compensated edge `ns` after a tick boundary: from the nearest boundary (R59). -/
def residualOf (ns : Int) : Int := round5 (ns - 100 * roundDiv ns 100)

/-- Whole ticks of an offset in ns, towards zero (R67; DEDUCED, notes/assumptions/10). -/
def wholeTicks (ns : Int) : Int := ns.tdiv 100

/-- The compensated edge for an edge `ns` after the device datum (R59). -/
def State.compensated (s : State) (ns : Int) : Int := ns - s.reg Code.ppsDelayComp 0

/-- Begins a realignment: ports finish the cycle in progress and then stop (R71). -/
def beginRealign (s : State) : State := { s with time := { s.time with realigning := true } }

/-- What the device does about the offset of a newly qualified reference, or of a marker that returns (R69, R77): lock
within ±10 ticks, slew within ±10,000 ticks, by the nearest number of ticks, else realign pending. -/
def actOnOffset (ns : Int) (s : State) : State :=
  let t := roundDiv ns 100
  let got := { s with aon := { s.aon with acquired := true }, time := { s.time with unsync := false } }
  if ns.natAbs ≤ 1000 then
    refreshGrade { got with time := { got.time with slew := 0, quietSlew := false, realignPending := false } }
  else if ns.natAbs ≤ 1000000 then
    let s1 := { got with time := { got.time with slew := t, quietSlew := false, realignPending := false } }
    refreshGrade (s1.bump Code.slewEvents 0)
  else
    let s1 := { s with time := { s.time with realignPending := true, slew := 0, quietSlew := false,
                                             bound := ns.natAbs + 1000, boundAt := s.time.tick } }
    let s2 := refreshGrade s1
    if s2.regN Code.realignPolicy 0 = 1 then beginRealign s2 else s2

/-- TIME64 of the first datum at start-up: the real-time clock rounded to the nearest second where the always-on domain
kept time, else 0 (R73). -/
def State.firstDatum (s : State) : Nat :=
  if s.aon.keptTime then (s.aon.rtc + secondTicks / 2) / secondTicks * secondTicks else 0

/-- The pending epoch on a grid that starts now at `t`: it goes to the first datum at least 2 s after its write (R62). -/
def State.epochFrom (s : State) (t : Nat) : Option (Nat × Nat) :=
  match s.time.epoch, s.time.epochTick with
  | some e, some w => some (e.1, t + (w + 2 * secondTicks + (secondTicks - 1) - s.time.tick) / secondTicks * secondTicks)
  | e, _ => e

/-- Ticks by which the datum that an edge sets lies before the present tick, in which the edge falls, `ns` after its boundary: the
datum is the boundary nearest to the edge less PPS_DELAY_COMP (R59). Negative where it lies ahead. -/
def State.sinceDatum (s : State) (ns : Int) : Int := -(roundDiv (s.compensated (ns % 100)) 100)

/-- Starts the grid with a datum of TIME64 `t` that lies `late` ticks before the present tick; where it lies ahead, time passes up
to it (R59, R71, R73; DEDUCED, notes/assumptions/10). -/
def startGrid (t : Nat) (late : Int) (s : State) : State :=
  let s0 := passTicks (-late).toNat s.time.time64 s
  { s0 with time := { s0.time with time64 := t + late.toNat, nextCycle := t, running := true, starting := false, held := false,
                                   lastDatum := none, epoch := s0.epochFrom t, epochTick := none } }

/-- The work of an accepted REF_1PPS edge `edge` ns after the device datum, or after a tick boundary while no grid runs: its
compensated edge counts (R59, R67, R69, R73). Between two grids, and before start-up, there is no datum to act on. -/
def acceptedEdge (edge : Int) (s : State) : State :=
  let ns := s.compensated edge
  if s.time.starting then
    let s1 := startGrid s.firstDatum (s.sinceDatum edge) s
    recheckReference (refreshGrade { s1 with
      aon := { s1.aon with acquired := true }
      time := { s1.time with unsync := false, residual := residualOf ns, bound := 0, boundAt := s1.time.tick } })
  else
    let s1 := { s with time := { s.time with residual := residualOf ns } }
    if s1.time.running = false then s1
    else if s1.time.realignPending then
      refreshGrade { s1 with time := { s1.time with bound := ns.natAbs + 1000, boundAt := s1.time.tick } }
    else if !s1.time.ref10m && (s1.time.slew == 0 || s1.time.quietSlew) then
      { s1 with time := { s1.time with slew := wholeTicks ns, quietSlew := decide (wholeTicks ns ≠ 0),
                                       steer := 256 * (ns - 100 * wholeTicks ns) } }
    else s1

/-- REF_1PPS_EDGE (R57, R59, R60, R69, R73): `since` ticks after the last accepted edge, or after the last candidate
while REF_1PPS is not qualified; `edge` is the edge less the device datum, ns. -/
def ppsEdge (since : Nat) (edge : Int) (s : State) : State :=
  if s.trunkSource.isSome then s
  else
    let ns := s.compensated edge
    let near := decide (secondTicks ≤ since + 10) && decide (since ≤ secondTicks + 10)
    if s.time.pps then
      if near then acceptedEdge edge s else s.bump Code.ppsOutliers 0
    else if s.time.candidates = 0 then { s with time := { s.time with candidates := 1 } }
    else if !near then (s.bump Code.ppsOutliers 0 |> fun t => { t with time := { t.time with candidates := 1 } })
    else if s.time.candidates < 2 then { s with time := { s.time with candidates := s.time.candidates + 1 } }
    else
      let s1 := settleBound s
      let s2 := { s1 with time := { s1.time with pps := true, candidates := 0 } }
      if s2.time.running = false then s2
      else actOnOffset ns { s2 with time := { s2.time with residual := residualOf ns } }

/-- TQ_GRADE_CHANGE: the bound has crossed a limit (R66, R67). -/
def gradeChange (s : State) : State := refreshGrade s

/-- START_TIMEOUT: without a qualified REF_1PPS the grid starts on XO_25M in grade 3 once START_TIMEOUT has passed since
the wait began (R73). -/
def startTimeout (s : State) : State :=
  if s.time.starting && !s.time.pps && s.elapsed s.time.waitFrom (s.regN Code.startTimeout 0 * secondTicks) then
    recheckReference (refreshGrade { startGrid s.firstDatum 0 s with
      time := { (startGrid s.firstDatum 0 s).time with unsync := true } })
  else s

/-! ## Epochs -/

/-- The first datum, in the present numbering, at least 2 s after now (R62). -/
def State.epochDatum (s : State) : Nat :=
  (s.time.time64 + 2 * secondTicks + (secondTicks - 1)) / secondTicks * secondTicks

/-- A write of EPOCH_SET: the value goes to the first datum at least 2 s ahead and replaces a pending one; while no grid runs
its datum is settled when one starts (R62). -/
def epochSet (v : Nat) (s : State) : State :=
  { s with time := { s.time with epoch := some (v, s.epochDatum), adopting := false, announced := false,
                                 epochTick := if s.time.running then none else some s.time.tick }
           aon := { s.aon with epochWritten := true } }

/-- Renumbers TIME64 at a datum, with the epoch page and log of R264. `old` is the present numbering's value. -/
def renumber (old new : Nat) (s : State) : State :=
  { s with time := { s.time with
      time64 := new + (s.time.time64 - old)
      nextCycle := if old ≤ s.time.nextCycle then new + (s.time.nextCycle - old) else new
      lastDatum := if s.time.lastDatum = some old then some new else none
      page := (s.time.page + 1) % 4
      epochLog := ((old, new) :: s.time.epochLog).take 4 } }

/-- EPOCH_APPLY: at its datum the pending epoch takes effect (R62, R92, R174, R264). -/
def epochApply (s : State) : State :=
  match (if s.time.running then s.time.epoch else none) with
  | none => s
  | some (v, atDatum) =>
    let s1 := skipTo atDatum (advanceTo atDatum s)
    let s2 := renumber atDatum v { s1 with time := { s1.time with epoch := none, announced := false } }
    refreshGrade { s2 with
      time := { s2.time with adopting := false }
      aon := { s2.aon with acquired := s2.aon.acquired || s1.time.adopting
                           epochWritten := true
                           ledgers := s2.aon.ledgers.map (fun e =>
                             (e.1, match e.2 with
                                   | l :: ls => (if l.opened then { l with flags := l.flags ||| 8 } else l) :: ls
                                   | [] => [])) } }

/-- REALIGN_GRID_START: at the next accepted edge a new grid starts; TIME64 is the old grid's value rounded to the nearest
second, half up (R71); `ns` is the edge after a tick boundary. The model's count of cycles follows the numbers, so that a named cycle keeps
its number (R65). -/
def realignGridStart (old : Nat) (ns : Int) (s : State) : State :=
  if s.time.realigning ∧ s.time.running = false then
    let new := (old + secondTicks / 2) / secondTicks * secondTicks
    let s1 := startGrid new (s.sinceDatum ns) s
    let count := ((s.time.cycles : Int) + ((new / s.cycleTicks : Nat) : Int) - ((s.time.nextCycle / s.cycleTicks : Nat) : Int)).toNat
    let s2 := ({ s1 with time := { s1.time with cycles := count } }).bump Code.realignEvents 0
    refreshGrade { s2 with
      aon := { s2.aon with acquired := true }
      time := { s2.time with realigning := false, realignPending := false, unsync := false, slew := 0,
                             quietSlew := false, bound := 0, boundAt := s2.time.tick,
                             residual := residualOf (s.compensated ns), steer := 0 } }
  else s

/-- The phase of the time base is steered by at most 1 ns in a cycle (R67, R76, R181). -/
def stepSteer (x : TimeSt) : TimeSt := { x with steer := x.steer - clamp (-256) 256 x.steer }

/-- REF_STATUS 2107.00 (R93). -/
def State.refStatus (s : State) : Nat :=
  (if s.time.ref10m then 1 else 0) + (if s.time.pps then 2 else 0) + (if s.aon.learned then 4 else 0) +
    (if s.time.slew ≠ 0 ∧ s.time.quietSlew = false then 8 else 0) + (if s.time.realignPending then 16 else 0)

/-- LEARN_TIME 210C.00 (R93). -/
def State.learnTime (s : State) : Nat :=
  if s.time.ref10m then min ((s.time.tick - s.time.qualifiedAt) / secondTicks) (2 ^ 32 - 1) else 0

end Sys2Proof.Machine
end

