-- ==== Sys2Proof/Machine/Slots.lean ====
section
/-! DEFINITION. Cycles of a port: windows, beacon windows, burst sizes, slot maps and their announcement (R78–R89, R96,
R194–R196, R213, R484, R485). Future cycles are named by the model's count of cycles (`TimeSt.cycles`); messages carry
their numbers (R65). -/

namespace Sys2Proof.Machine

/-! ## Cycles -/

/-- TIME64 at the start of the cycle that the model counts as `k` (R63). -/
def State.cycleStartOf (s : State) (k : Nat) : Nat :=
  s.time.nextCycle + k * s.cycleTicks - (s.time.cycles + 1) * s.cycleTicks

/-- Number of the cycle that the model counts as `k`, in the present numbering (R63). -/
def State.numberOf (s : State) (k : Nat) : Nat := s.cycleNo (s.cycleStartOf k)

/-- Whether the boundary of a named cycle has come: the cycle has begun, or is the next to begin (notes/assumptions/7). -/
def State.due (s : State) (k : Nat) : Bool := decide (k ≤ s.time.cycles + 1)

/-- Cycles of a beacon window (R81). -/
def beaconCycles (n : Nat) : Nat := (10 + n - 1) / n

/-- Whether a second is a beacon second of a port (R81). -/
def State.beaconSecond (s : State) (p second : Nat) : Bool :=
  let iv := s.regN Code.beaconInterval p
  if iv = 0 then false else decide ((second + iv * 2 ^ 32 - s.regN Code.beaconOffset p) % iv = 0)

/-- Whether the cycle counted as `k` lies in a beacon window of a branch port (R81, R82). -/
def State.beaconAt (s : State) (p k : Nat) : Bool :=
  let t := s.cycleStartOf k
  s.beaconSecond p (t / secondTicks) &&
    decide (t % secondTicks / s.cycleTicks < beaconCycles s.time.n)

/-- The first cycle from `k` on, among the next 4,096, that satisfies a test. -/
def firstCycle (test : Nat → Bool) (fuel k : Nat) : Nat :=
  match fuel with
  | 0 => k
  | f + 1 => if test k then k else firstCycle test f (k + 1)

/-- The first cycle from `k` on whose number is a multiple of a map period (R84, R86). -/
def State.alignedFrom (s : State) (k period : Nat) : Nat :=
  firstCycle (fun c => decide (s.numberOf c % period = 0)) 8 k

/-! ## Modes and burst sizes -/

/-- Bits per symbol of a mode code (R94). -/
def modeBits (mode : Nat) : Nat := mode % 4 + 1
/-- Baud code of a mode code (R94). -/
def modeBaud (mode : Nat) : Nat := mode / 16 % 8
/-- Mode code of a baud code and a level code (R94). -/
def modeOf (baud level : Nat) : Nat := baud * 16 + level
/-- The mode that a received mode code names: reserved bits are ignored, baud code 7 is invalid (R5, R94). -/
def modeField (code : Nat) : Option Nat :=
  if code / 16 % 8 = 7 then none else some (modeOf (code / 16 % 8) (code % 4))
/-- Symbol period in tenths of a tick (R83, R94). -/
def symbolTenths (mode : Nat) : Nat := 2 * 2 ^ modeBaud mode
/-- The base mode (R95). -/
def baseMode : Nat := 0x60
/-- Rate of a mode: baud × bits per symbol, in units of the slowest baud (R207). -/
def modeRate (mode : Nat) : Nat := 2 ^ (6 - modeBaud mode) * modeBits mode
/-- A quotient rounded up. -/
def ceilDiv (a b : Nat) : Nat := (a + b - 1) / b
/-- Symbols of a burst with `payload` bytes (R83). -/
def burstSymbols (payload mode : Nat) : Nat := 64 + 32 + 64 + ceilDiv (8 * (payload + 4)) (modeBits mode) + 8
/-- Ticks of a burst (R83). -/
def burstTicks (payload mode : Nat) : Nat := ceilDiv (burstSymbols payload mode * symbolTenths mode) 10
/-- Ticks of a burst with its guard (R83). -/
def slotTicks (payload mode : Nat) : Nat := burstTicks payload mode + 20
/-- The largest payload, at most 2,000 bytes, whose burst with guard fits a span; none where not even an empty payload
fits (R83, R88, R108). -/
def largestPayload (ticks mode : Nat) : Option Nat :=
  if ticks < slotTicks 0 mode then none
  else
    let syms := (ticks - 20) * 10 / symbolTenths mode
    some (min 2000 ((syms - 168) * modeBits mode / 8 - 4))

/-! ## Windows of a port -/

/-- Written D of a port (R79). -/
def State.winD (s : State) (p : Nat) : Nat := s.regN Code.dsWindow p
/-- Written C of a port (R79). -/
def State.winC (s : State) (p : Nat) : Nat := s.regN Code.contWindow p
/-- Written T of a port (R79). -/
def State.winT (s : State) (p : Nat) : Nat := s.regN Code.travWindow p
/-- UP_REGION: the upstream region's length L − D − C − T (R78, R93). -/
def State.upRegion (s : State) (p : Nat) : Nat := s.cycleTicks - s.winD p - s.winC p - s.winT p
/-- Whether a port is in branch mode. -/
def State.isBranch (s : State) (p : Nat) : Bool := (s.port p).mode == 1
/-- Whether a port is in trunk mode. -/
def State.isTrunk (s : State) (p : Nat) : Bool := (s.port p).mode == 2
/-- Whether the cycle in progress is a beacon cycle of the port (R82). -/
def State.inBeacon (s : State) (p : Nat) : Bool := decide (0 < (s.port p).beaconLeft)
/-- Whether roll call is open on the port now: ROLL_CALL is 1, and the hold of R447 has ended (R185, R447). -/
def State.rollOpen (s : State) (p : Nat) : Bool :=
  s.regB Code.rollCall p && !(s.port p).rollHeld && s.isBranch p

/-- UP_MAX_PAYLOAD: the largest upstream payload of a drop at its mode (R84, R88). -/
def State.upMax (s : State) (p d : Nat) : Nat := (largestPayload (s.upRegion p) (s.ctx p d).mode).getD 0

/-- An advance in 1/256 tick rounded up to ticks, 0 where negative (R194). -/
def advanceTicks (a : Int) : Nat := ((a + 255) / 256).toNat

/-- The tick by which a burst to a drop must end in a cycle in which the drop has a slot (R194). -/
def State.dsLimit (s : State) (p d : Nat) : Nat := s.winD p - advanceTicks (s.ctx p d).advance - 20

/-- DS_MAX_PAYLOAD: the largest downstream payload of a drop, under the limit of R194 (R88). -/
def State.dsMax (s : State) (p d : Nat) : Nat := (largestPayload (s.dsLimit p d + 20) (s.ctx p d).mode).getD 0

/-! ## Slot maps -/

/-- Places one slot in the first map cycle from `c` on that has room, packed after what stands there (R84). `used` lists
the ticks taken in each map cycle. -/
def placeSlot (region start d len : Nat) (used : List Nat) (c : Nat) : Option (Slot × List Nat) :=
  match used with
  | [] => none
  | u :: us =>
    if u + len ≤ region then some ({ drop := d, cycle := c, start := start + u, len := len }, (u + len) :: us)
    else
      match placeSlot region start d len us (c + 1) with
      | none => none
      | some (sl, us') => some (sl, u :: us')

/-- Places slots in order (R84). -/
def placeAll (region start : Nat) (ds : List (Nat × Nat)) (used : List Nat) : Option (List Slot) :=
  match ds with
  | [] => some []
  | (d, len) :: rest =>
    match placeSlot region start d len used 0 with
    | none => none
    | some (sl, used') =>
      match placeAll region start rest used' with
      | none => none
      | some sls => some (sl :: sls)

/-- The first map period of 1, 2, 4 and 8 that holds all slots (R84). -/
def buildMap (region start : Nat) (ds : List (Nat × Nat)) : Option SlotMap :=
  [1, 2, 4, 8].findSome? (fun per =>
    (placeAll region start ds (List.replicate per 0)).map (fun sl => { period := per, slots := sl }))

/-- The slot of a drop in a map. -/
def SlotMap.slotOf (m : SlotMap) (d : Nat) : Option Slot := m.slots.find? (fun sl => sl.drop == d)

/-- Whether a map gives a drop a slot in a cycle with a number (R84). -/
def SlotMap.hasSlot (m : SlotMap) (d number : Nat) : Bool :=
  match m.slotOf d with
  | some sl => decide (number % m.period = sl.cycle)
  | none => false

/-- Whether a change of some kind of a drop waits for the pending map. -/
def State.waitsFor (s : State) (p d : Nat) (test : Change → Bool) : Bool :=
  (s.port p).waiting.any (fun w => w.1 == d && test w.2)

/-- Whether a map that is in force or announced gives a drop a slot. -/
def State.mapped (s : State) (p d : Nat) : Bool :=
  ((s.port p).map.slotOf d).isSome || ((s.port p).pending.bind (fun q => q.map.slotOf d)).isSome

/-- Whether a change is a release (R212). -/
def Change.isRelease (c : Change) : Bool :=
  match c with
  | .release _ => true
  | _ => false

/-- Whether a drop has a place in the newest plan of its port: admitting or active and not leaving, or asleep and waking,
or on its way onto the port; a change that waits for the pending map is not in the plan yet (R84, R192, R210–R212, R216, R484). -/
def State.wantsSlot (s : State) (p d : Nat) : Bool :=
  let x := s.ctx p d
  if x.state = 1 then !s.waitsFor p d (fun c => c == .admission) || s.mapped p d
  else if x.state = 2 then
    (x.releasing.isNone || s.waitsFor p d Change.isRelease) && (x.sleeping.isNone || s.waitsFor p d (fun c => c == .sleep)) &&
      x.moving.isNone
  else if x.state = 4 then x.waking.isSome && !s.waitsFor p d (fun c => c == .wake)
  else if x.state = 3 then
    match (s.port p).move with
    | some m => m.drops.contains d
    | none => false
  else false

/-- The mode of a drop in the newest plan: the announced mode while a change is pending, the standby mode for a drop that
moves onto the port, the mode that it has left where its return waits for the pending map, else the mode in force (R208, R209, R216,
R484). -/
def State.plannedMode (s : State) (p d : Nat) : Nat :=
  let x := s.ctx p d
  if x.state = 3 then x.standbyMode else if x.roleFlags.testBit 1 then x.nextMode
  else if s.waitsFor p d (fun c => c == .revert) then x.prevMode else x.mode

/-- The grant of a drop in the newest plan: a grant written that still waits for the pending map is not in it (R86, R484). -/
def State.grantIn (s : State) (p d : Nat) : Nat :=
  ((s.port p).waiting.findSome? (fun w => match w with
    | (e, .grant old) => if e = d then some old else none
    | _ => none)).getD (s.regN Code.grant (dropKey p d))

/-- The slot length of a drop: its grant, capped at the largest payload that fits the region (R84). An impossible length
stands for a drop whose mode fits no slot at all. -/
def State.slotLen (s : State) (p d mode : Nat) : Nat :=
  match largestPayload (s.upRegion p) mode with
  | none => s.upRegion p + 1
  | some m => slotTicks (min (s.grantIn p d) m) mode

/-- The drops that a port's newest plan holds, ascending (R84). -/
def State.planned (s : State) (p : Nat) : List Nat := allDrops.filter (fun d => s.wantsSlot p d)

/-- The map of a port's newest plan, or none where it overflows (R84, R85). -/
def State.planMap (s : State) (p : Nat) : Option SlotMap :=
  buildMap (s.upRegion p) (s.winD p) ((s.planned p).map (fun d => (d, s.slotLen p d (s.plannedMode p d))))

/-! ## Twin pairs and failover maps -/

/-- The twin of a port, where twinning is in force: both ports enabled and naming each other (R371). -/
def State.twinOf (s : State) (p : Nat) : Option Nat :=
  let q := s.regN Code.twinPartner p
  if s.regB Code.twinEnable p && decide (q < 144) && s.regB Code.twinEnable q &&
      decide (s.regN Code.twinPartner q = p) then some q else none

/-- The map that port `p` would run if it carried the twin-capable active drops of port `q` as well: its own drops keep
their map cycles and slots of `m`, the others are placed after them (R213). -/
def State.failoverMap (s : State) (p q : Nat) (m : SlotMap) (moved : List Nat) : Option SlotMap :=
  let ds := moved.map (fun d => (d, s.slotLen p d
    (if (s.ctx p d).state = 3 then (s.ctx p d).standbyMode else (s.ctx q d).mode)))
  [1, 2, 4, 8].findSome? (fun per =>
    if per < m.period then none
    else
      let used := (List.range per).map (fun c =>
        m.slots.foldl (fun u sl => if sl.cycle = c then max u (sl.start + sl.len - s.winD p) else u) 0)
      (placeAll (s.upRegion p) (s.winD p) ds used).map (fun sl =>
        { period := per, slots := sortBy (fun a b => decide (a.drop ≤ b.drop)) (m.slots ++ sl) }))

/-- The twin-capable active drops of a port (R213). -/
def State.twinDrops (s : State) (p : Nat) : List Nat :=
  allDrops.filter (fun d => (s.ctx p d).state == 2 && (s.ctx p d).roleFlags.testBit 0)

/-- The twin-capable drops of a port that a failover map has to hold: active or on their way to it (R192, R213). -/
def State.twinPlanned (s : State) (p : Nat) : List Nat :=
  allDrops.filter (fun d => ((s.ctx p d).state == 2 || (s.ctx p d).state == 1) && (s.ctx p d).roleFlags.testBit 0)

/-- Whether the failover maps of a port's pair fit, with port `p` at map `m` (R213). A port without a twin has none. -/
def State.failoverFits (s : State) (p : Nat) (m : SlotMap) : Bool :=
  match s.twinOf p with
  | none => true
  | some q =>
    (s.failoverMap p q m (s.twinPlanned q)).isSome &&
      (s.failoverMap q p ((s.port q).pending.map (·.map) |>.getD (s.port q).map) (s.twinPlanned p)).isSome

/-- Whether the map of a port's plan and the failover maps fit (R85, R213). -/
def State.planFits (s : State) (p : Nat) : Bool :=
  match s.planMap p with
  | none => false
  | some m => s.failoverFits p m

/-- The state with every change that waits for the pending map taken into the plan (R484). -/
def State.allTaken (s : State) (p : Nat) : State := s.modPort p (fun x => { x with waiting := [] })

/-- Whether a port's plan fits as it stands, and also once the changes that wait for the pending map are in it: what is accepted
here finds its map when its turn comes (R85, R484). -/
def State.plansFit (s : State) (p : Nat) : Bool := s.planFits p && (s.allTaken p).planFits p

/-! ## Announcing a map -/

/-- Puts a message in a port's list of messages to send (R485). -/
def queueMsg (p : Nat) (m : OutMsg) (s : State) : State := s.modPort p (fun x => { x with msgs := x.msgs ++ [m] })

/-- Takes the messages with a code for a drop out of the list. -/
def dropMsgs (p d code : Nat) (s : State) : State :=
  s.modPort p (fun x => { x with msgs := x.msgs.filter (fun m =>
    !(m.drop == d && m.bytes.head? == some (byteOf code))) })

/-- SLOT_MAP, 24 bytes (R196). -/
def slotMapBytes (period : Nat) (sl : Slot) (apply upMax : Nat) (advance : Int) : List Byte :=
  [8, 0, byteOf (period + sl.cycle * 16), 0] ++ beBytes 4 apply ++ beBytes 3 sl.start ++ beBytes 3 sl.len ++
    beBytes 2 upMax ++ beBytes 4 (twos 32 advance) ++ List.replicate 4 0

/-- The largest upstream payload of a drop at a mode (R84, R196). -/
def State.upMaxAt (s : State) (p mode : Nat) : Nat := (largestPayload (s.upRegion p) mode).getD 0

/-- The advance that a drop is to apply from a cycle on: an announced correction counts from its own cycle (R195). -/
def State.advanceAt (s : State) (p d k : Nat) : Int :=
  match (s.ctx p d).advanceNext with
  | some (k', a) => if k' ≤ k then a else (s.ctx p d).advance
  | none => (s.ctx p d).advance

/-- Sends SLOT_MAP for an entry to a drop from a cycle on, repeated until acknowledged or until the apply cycle; one not
yet acknowledged for the same apply cycle is replaced (R196, R485). -/
def sendSlotMap (p : Nat) (m : SlotMap) (sl : Slot) (apply fromCycle : Nat) (advance : Int) (s : State) : State :=
  let s1 := s.modPort p (fun x => { x with msgs := x.msgs.filter (fun o =>
    !(o.drop == sl.drop && o.bytes.head? == some 8#8 && o.untilCycle == some apply)) })
  queueMsg p { drop := sl.drop,
               bytes := slotMapBytes m.period sl (s.numberOf apply) (s.upMaxAt p (s.plannedMode p sl.drop)) advance,
               untilCycle := some apply, seqs := [], fromCycle := fromCycle } s1

/-- Whether a drop is told a new map by SLOT_MAP: an active one, and one that is being admitted by an entry that named an
earlier cycle (R193). -/
def State.toldMap (s : State) (p d apply : Nat) (known : SlotMap) : Bool :=
  let x := s.ctx p d
  x.state == 2 || (x.state == 1 && (known.slotOf d).isSome && decide (x.admitting.map (fun a => a.1) ≠ some apply))

/-- Announces a map to the drops whose entry differs from the one they know (R86, R193, R208). -/
def announceMap (p : Nat) (known new : SlotMap) (apply : Nat) (s : State) : State :=
  forAll new.slots (fun sl t =>
    if t.toldMap p sl.drop apply known ∧ ¬ (known.slotOf sl.drop = some sl ∧ known.period = new.period) then
      sendSlotMap p new sl apply (t.time.cycles + 1) (t.advanceAt p sl.drop apply) t
    else t) s

/-- The cycle for which a change is named that may take effect from a cycle on, or none where it must wait for the pending
map: a change folds into the pending map when that map's cycle lies late enough (R86, R484). -/
def State.namedFrom (s : State) (p earliest newPeriod : Nat) : Option Nat :=
  if (s.port p).move.isSome then none
  else
    match (s.port p).pending with
    | none => some (s.alignedFrom earliest (max (s.port p).map.period newPeriod))
    | some q => if earliest ≤ q.apply ∧ s.numberOf q.apply % newPeriod = 0 then some q.apply else none

/-- The cycle for which a change with a lead is named (R86, R484). -/
def State.namedCycle (s : State) (p lead newPeriod : Nat) : Option Nat :=
  s.namedFrom p (s.time.cycles + lead) newPeriod

/-- The lead of a change that no other statement gives: 2P + 1 with the larger P (R86). -/
def State.mapLead (s : State) (p newPeriod : Nat) : Nat := 2 * max (s.port p).map.period newPeriod + 1

/-- Installs a plan as the port's pending map and announces it against what the drops know (R86, R484). -/
def installMap (p : Nat) (m : SlotMap) (apply : Nat) (s : State) : State :=
  let known := ((s.port p).pending.map (·.map)).getD (s.port p).map
  let s1 := s.modPort p (fun x => { x with pending := some { map := m, apply := apply } })
  announceMap p known m apply s1

/-- Puts a change on the list of changes that wait for the pending map (R484). -/
def waitFor (p d : Nat) (c : Change) (s : State) : State :=
  s.modPort p (fun x => { x with waiting := x.waiting ++ [(d, c)] })

/-- A change of grant from an old value: named under R86, or waiting under R484. -/
def planGrant (p d old : Nat) (s : State) : State :=
  match s.planMap p with
  | none => s
  | some m =>
    if (s.port p).map.slotOf d = none ∧ ((s.port p).pending.bind (fun q => q.map.slotOf d)) = none then s
    else
      match s.namedCycle p (s.mapLead p m.period) m.period with
      | some k => installMap p m k s
      | none => waitFor p d (.grant old) s

/-- Stored frames that the transmit half of a port's frame buffer holds, in bytes (R200, R311). -/
def State.txUsed (s : State) (p : Nat) : Nat :=
  allDrops.foldl (fun n d =>
    (s.ctx p d).queue.foldl (fun m f => m + f.2.2.length) n +
      (s.ctx p d).sent.foldl (fun m f => m + (if f.typ = 1 then f.payload.length else 0)) 0) 0 +
  (s.port p).trunk.previous.foldl (fun m f => m + f.payload.length) 0 +
  (s.port p).trunk.again.foldl (fun m f => m + f.payload.length) 0

/-- Free bytes of the transmit half, 32 KiB, of a port's frame buffer (R154, R311). -/
def State.txFree (s : State) (p : Nat) : Nat := 32768 - s.txUsed p

/-- Received frames of a port that still wait for a host link, in bytes: the larger of the two links' queues (R154). -/
def State.rxUsed (s : State) (p : Nat) : Nat :=
  let n := fun (l : Link) => (s.link l).data.foldl (fun m f => if f.port = p then m + f.body.length else m) 0
  max (n .a) (n .b)

end Sys2Proof.Machine
end

