-- ==== Sys2Proof/Machine/Signal.lean ====
section
/-! DEFINITION. The line signal and what the receiver computes from it: levels and amplitudes, the symbols of bursts, beacons
and trunk frames, symbol energies, equaliser adaptation and SNR (R97, R100–R103, R116–R125, R131, R138, R140, R156,
R163, R164). Voltages are in µV, energies in 1/16 dB relative to 1 V². -/

namespace Sys2Proof.Machine

/-! ## Levels (R94, R97) -/

/-- Levels M of a mode (R94). -/
def modeLevels (mode : Nat) : Nat := 2 ^ modeBits mode

/-- The bits that level index `i` carries: i xor (i >> 1) (R97). -/
def gray (i : Nat) : Nat := i ^^^ (i / 2)

/-- The level index that carries a group of bits (R97). -/
def levelOf (levels bits : Nat) : Nat := ((List.range levels).find? (fun i => gray i == bits)).getD 0

/-- A number from bits, most significant first (R101). -/
def bitsNat (bits : List Bool) : Nat := bits.foldl (fun a b => 2 * a + (if b then 1 else 0)) 0

/-- The bits of a number, most significant of `n` first (R101). -/
def natBits (n v : Nat) : List Bool := (List.range n).map (fun i => v.testBit (n - 1 - i))

/-- What the line carries in one symbol: a level as a fraction of A (R97), the zero level (R120, R122), an on-symbol of a
beacon, which is 8 periods of a 250 kHz sine of peak A_b (R122). -/
inductive LineSym where
  | level (num : Int) (den : Nat)
  | zero
  | tone
deriving DecidableEq, Repr

/-- The level of index `i` among M: A × (2i − (M − 1)) / (M − 1) (R97). -/
def pamLevel (levels i : Nat) : LineSym := .level (2 * (i : Int) - ((levels : Int) - 1)) (levels - 1)

/-- The symbol of a group of bits (R97). -/
def pamSymbol (levels : Nat) (group : List Bool) : LineSym := pamLevel levels (levelOf levels (bitsNat group))

/-- A PAM2 symbol: bit 0 is −A, bit 1 is +A (R97). -/
def pam2 (b : Bool) : LineSym := .level (if b then 1 else -1) 1

/-- The largest number below 2^bits that satisfies a test that all smaller ones satisfy. -/
def bisect (test : Nat → Bool) (bits acc : Nat) : Nat :=
  match bits with
  | 0 => acc
  | n + 1 => bisect test n (if test (acc + 2 ^ n) then acc + 2 ^ n else acc)

/-- A voltage × 10^(−k/40), to the nearest µV; below 8.39 V (R97, R229; the µV is the model's unit, notes/assumptions/24). -/
def attenuated (microVolt k : Nat) : Nat :=
  bisect (fun a => decide ((2 * a - 1) ^ 40 * 10 ^ k ≤ (2 * microVolt) ^ 40)) 23 0

/-- The amplitude 7.0 V × 10^(−k/40) of an attenuation in 0.5 dB (R97, R122, R225). -/
def amplitude (k : Nat) : Nat := attenuated 7000000 k

/-- 10,000 times the sine of `k` degrees of a quarter circle, to the nearest integer. -/
def sineTable : List Int :=
  [0, 175, 349, 523, 698, 872, 1045, 1219, 1392, 1564, 1736, 1908, 2079, 2250, 2419, 2588, 2756, 2924, 3090, 3256, 3420, 3584, 3746,
   3907, 4067, 4226, 4384, 4540, 4695, 4848, 5000, 5150, 5299, 5446, 5592, 5736, 5878, 6018, 6157, 6293, 6428, 6561, 6691, 6820, 6947,
   7071, 7193, 7314, 7431, 7547, 7660, 7771, 7880, 7986, 8090, 8192, 8290, 8387, 8480, 8572, 8660, 8746, 8829, 8910, 8988, 9063, 9135,
   9205, 9272, 9336, 9397, 9455, 9511, 9563, 9613, 9659, 9703, 9744, 9781, 9816, 9848, 9877, 9903, 9925, 9945, 9962, 9976, 9986, 9994,
   9998, 10000]

/-- 10,000 times the sine of a phase in degrees, at the nearest whole degree (the table's step is the model's,
notes/assumptions/24). -/
def sine (degrees : Nat) : Int :=
  let d := degrees % 360
  let q := if d % 180 ≤ 90 then d % 180 else 180 - d % 180
  (if d < 180 then 1 else -1) * (sineTable[q]?).getD 0

/-- The voltage of a symbol of amplitude A at `at_` of its `len` equal parts, to the nearest µV: its level throughout, and for an
on-symbol 8 periods of a sine that starts at zero phase, going positive (R97, R120, R122). -/
def LineSym.microVoltAt (x : LineSym) (a at_ len : Nat) : Int :=
  match x with
  | .tone => roundDiv ((a : Int) * sine (8 * 360 * at_ / len)) 10000
  | .level num den => roundDiv ((a : Int) * num) den
  | .zero => 0

/-- The voltage of a symbol of amplitude A, to the nearest µV; the peak for an on-symbol (R97, R120, R122). -/
def LineSym.microVolt (x : LineSym) (a : Nat) : Int :=
  match x with
  | .level num den => roundDiv ((a : Int) * num) den
  | .zero => 0
  | .tone => a

/-! ## The parts of a burst (R100–R103, R119, R120) -/

/-- The preamble's bits: +A, +A, −A, −A, 16 times (R102). -/
def preambleBits : List Bool := (List.replicate 16 [true, true, false, false]).flatten

/-- The sync word (R103). -/
def syncWord : BitVec 32 := 0x9E35C06B#32

/-- Cuts bits into groups of `b`; the last one is completed with 0 bits (R119). -/
def groupsOf (fuel b : Nat) (bits : List Bool) : List (List Bool) :=
  match fuel with
  | 0 => []
  | f + 1 =>
    if bits.isEmpty then []
    else ((bits.take b) ++ List.replicate (b - bits.length) false) :: groupsOf f b (bits.drop b)

/-- The symbols of bytes at a mode (R97, R119). -/
def bodySymbols (mode : Nat) (bytes : List Byte) : List LineSym :=
  (groupsOf (8 * bytes.length) (modeBits mode) (bytesBits bytes)).map (pamSymbol (modeLevels mode))

/-- The level indices of bytes at a mode (R97, R119). -/
def bodyLevels (mode : Nat) (bytes : List Byte) : List Nat :=
  (groupsOf (8 * bytes.length) (modeBits mode) (bytesBits bytes)).map (fun g => levelOf (modeLevels mode) (bitsNat g))

/-- The bytes, at most `n`, that decided levels spell at a mode; fill bits are ignored (R97, R119). -/
def levelBytes (mode n : Nat) (levels : List Nat) : List Byte :=
  bitsBytes n (levels.flatMap (fun i => natBits (modeBits mode) (gray i)))

/-- The whitened payload and CRC-32 of a burst (R115–R118, R164). -/
def Burst.body (b : Burst) : List Byte :=
  whiten (whitenSeed b.cycle b.seed b.up) (b.payload ++ beBytes 4 (lineCrc b.header b.payload).toNat)

/-- Sync word, header and body: a frame of a trunk train, and what follows the preamble of a burst (R100, R163). -/
def Burst.frame (b : Burst) : List LineSym :=
  (wordBits syncWord ++ wordBits b.header).map pam2 ++ bodySymbols b.mode b.body

/-- The tail (R120). -/
def tailSymbols : List LineSym := List.replicate 8 .zero

/-- The symbols of a burst of a branch line, in order (R100). -/
def Burst.symbols (b : Burst) : List LineSym := preambleBits.map pam2 ++ b.frame ++ tailSymbols

/-- The pattern that fills a span of `n` symbols between the last frame of a train and its tail: that of the preamble, from +A on
(R102, R163). -/
def fillSymbols (n : Nat) : List LineSym := (List.range n).map (fun i => pam2 (decide (i % 4 < 2)))

/-- The symbols of a train of `room` symbols at most: one preamble, its frames, fill and one tail (R163). -/
def trainSymbols (room : Nat) (frames : List Burst) : List LineSym :=
  let head := preambleBits.map pam2 ++ frames.flatMap Burst.frame
  head ++ fillSymbols (room - tailSymbols.length - head.length) ++ tailSymbols

/-! ## Beacons (R122–R125) -/

/-- The whitened payload and CRC-32 of a beacon (R115, R123, R125). -/
def Burst.beaconBody (b : Burst) : List Byte :=
  whiten (whitenSeed b.cycle 63 false)
    (b.payload ++ beBytes 4 (crc32 (wordBits (beaconHeader b.cycle) ++ bytesBits b.payload)).toNat)

/-- The bits of a beacon without its tail (R123). -/
def Burst.beaconBits (b : Burst) : List Bool :=
  preambleBits ++ wordBits syncWord ++ wordBits (beaconHeader b.cycle) ++ bytesBits b.beaconBody

/-- The 296 symbols of a beacon: on for a 1, off for a 0, and the tail off (R122, R123). -/
def Burst.beaconSymbols (b : Burst) : List LineSym :=
  b.beaconBits.map (fun x => if x then .tone else .zero) ++ tailSymbols

/-- Whether a burst is a beacon. -/
def Burst.isBeacon (b : Burst) : Bool := decide (b.mode = 0x100)

/-- Ticks of a beacon symbol: 32 µs (R122). -/
def beaconSymbolTicks : Nat := 320

/-! ## Energies (R131) -/

/-- 160 × log10 of a quotient to the nearest integer: a power ratio in 1/16 dB. -/
def decibels16 (n d : Nat) : Int :=
  (bisect (fun k => if 8192 < k then decide (10 ^ (2 * (k - 8192) - 1) * d ^ 320 ≤ n ^ 320)
                    else decide (d ^ 320 ≤ n ^ 320 * 10 ^ (2 * (8192 - k) + 1))) 14 0 : Int) - 8192

/-- The energy of converter samples, their mean square relative to 1 V² in 1/16 dB; none where every sample is 0 (R131). -/
def energyOf (samples : List Int) : Option Int :=
  let sum := samples.foldl (fun n v => n + v.natAbs * v.natAbs) 0
  if sum = 0 then none else some (decibels16 sum (samples.length * 10 ^ 12))

/-- An energy as a number: the logarithm of 0 is left open (notes/assumptions/24). -/
def energyValue (e : Option Int) : Int := e.getD (Config.logOfZero 0 0)

/-! ## The equaliser (R138–R140) -/

/-- Holds a value to 16 bits. -/
def sat16 (x : Int) : Int := clamp (-32768) 32767 x

/-- The equaliser while it adapts: taps, the last 32 decisions newest first (Q2.14), and the squared slicer errors of the
payload and CRC-32 symbols (R138, R156). -/
structure EqRun where
  ffe : List Int
  dfe : List Int
  past : List Int
  squares : Nat
  count : Nat
deriving DecidableEq, Repr

/-- The sum of products of two lists. -/
def dot (a b : List Int) : Int := sumInt (List.zipWith (· * ·) a b)

/-- The equaliser's output for a symbol: what the feed-forward taps make of the samples less what the feedback taps make of
the decisions (R138; rounding: notes/assumptions/24). -/
def EqRun.output (q : EqRun) (x : List Int) : Int := roundDiv (dot q.ffe x - dot q.dfe q.past) 16384

/-- One least-mean-squares step of taps with error `e` and step 2^−mu (R138). -/
def lmsStep (mu : Nat) (e : Int) (taps inputs : List Int) : List Int :=
  List.zipWith (fun w v => sat16 (w + roundDiv (e * v) (2 ^ (14 + mu)))) taps inputs

/-- One symbol: the error is taken against `target` of the output, and both filters step (R138). -/
def EqRun.step (mu : Nat) (target : Int → Int) (q : EqRun) (x : List Int) : EqRun :=
  let v := (x ++ List.replicate 48 0).take 48
  let y := q.output v
  let t := target y
  let e := t - y
  { ffe := lmsStep mu e q.ffe v, dfe := lmsStep mu (-e) q.dfe q.past, past := (t :: q.past).take 32,
    squares := q.squares + e.natAbs * e.natAbs, count := q.count + 1 }

/-- The value of a level on the slicer's scale (R97, R139). -/
def levelValue (scale levels i : Nat) : Int := roundDiv ((2 * (i : Int) - ((levels : Int) - 1)) * scale) (levels - 1)

/-- Adaptation over a burst: with PAM2 decisions at 2^−MU_ACQ up to the end of the header, then against the levels of payload
and CRC-32 at 2^−MU_TRK (R138). -/
def equalise (muAcq muTrk scale levels : Nat) (ffe dfe : List Int) (acq track : List (List Int)) (targets : List Nat) : EqRun :=
  let q0 : EqRun := { ffe := ffe, dfe := dfe, past := List.replicate 32 0, squares := 0, count := 0 }
  let q1 := acq.foldl (EqRun.step muAcq (fun y => if 0 ≤ y then (scale : Int) else -(scale : Int))) q0
  (List.zip targets track).foldl (fun q e => EqRun.step muTrk (fun _ => levelValue scale levels e.1) q e.2)
    { q1 with squares := 0, count := 0 }

/-- SNR_b = 10 log10(Es / MSE): Es of the mode's ideal levels is scale² (M + 1) / (3 (M − 1)). Without any error, or on a
scale of 0, the manual gives no value (R156, notes/assumptions/24). -/
def snrOf (scale levels : Nat) (q : EqRun) : Nat :=
  if q.squares = 0 ∨ scale = 0 then (Config.logOfZero 1 (scale : Int)).toNat % 65536
  else (clamp 0 65535 (decibels16 (scale * scale * (levels + 1) * q.count) (3 * (levels - 1) * q.squares))).toNat

/-- The ECH slice over the samples of an own train: taps after a least-mean-squares step of 2^−mu for each, and the sums of
squares of the newest transmitted samples and of the residuals (R170, R171). The error is the residual itself in phase E
(`residual`), else the slicer error that comes with the sample. -/
def echRun (mu : Nat) (residual : Bool) (taps : List Int) (samples : List (List Int × Int)) : List Int × Nat × Nat :=
  samples.foldl (fun a v =>
    let x := (v.1 ++ List.replicate 384 0).take 384
    let e := if residual then v.2 - roundDiv (dot a.1 x) 16384 else v.2
    (lmsStep mu e a.1 x, a.2.1 + (x.headD 0).natAbs ^ 2, a.2.2 + e.natAbs ^ 2)) (taps, 0, 0)

/-- Echo rejection: 10 log10 of transmitted power over residual power in 1/16 dB; open where either is 0 (R171). -/
def echoRejection (sent residual : Nat) : Nat :=
  if sent = 0 ∨ residual = 0 then (Config.logOfZero 2 (sent : Int)).toNat % 65536
  else (clamp 0 65535 (decibels16 sent residual)).toNat

/-- The levels against which the error of a burst is taken: the decided ones, and for the payload of a SOUND burst those that
the whitening keystream gives (R111, R138). -/
def targetLevels (mode : Nat) (sound : Bool) (seed : BitVec 23) (length : Nat) (decided : List Nat) : List Nat :=
  if sound then
    let known := (bodyLevels mode (whiten seed (List.replicate length 0))).take (8 * length / modeBits mode)
    known ++ decided.drop known.length
  else decided

/-- What a burst leaves of the equaliser fields (R138, R139, R156, R158). -/
def eqFields (muAcq muTrk mode : Nat) (ffe dfe : List Int) (targets : List Nat) (m : RxMeasure) : EqFields :=
  let q := equalise muAcq muTrk m.slicerScale (modeLevels mode) ffe dfe m.acq m.track targets
  { ffe := q.ffe, dfe := q.dfe, agcGain := m.agcGain, phase := m.phase, freqOffset := m.freqOffset,
    slicerScale := m.slicerScale, snrB := snrOf m.slicerScale (modeLevels mode) q, rxAmpl := m.rxAmpl, arrival := m.arrival }

end Sys2Proof.Machine
end

