-- ==== Sys2Proof/Machine/Traverse.lean ====
section
/-! DEFINITION. Traverse runs, the trace window's sources, chainage, calibration and the DC readings (R43, R222–R245).
What a completed trace does beyond its own figures stands in Complete.lean. -/

namespace Sys2Proof.Machine

/-! ## Steps and points -/

/-- Sample step of a step code, ns (R226). -/
def stepNs (code : Nat) : Nat := 5 * 2 ^ code

/-- Chip period of a step code, ns: four sample steps (R226). -/
def chipNs (code : Nat) : Nat := 4 * stepNs code

/-- Chip rate of a step code, chip/s (R226). -/
def chipRate (code : Nat) : Nat := 1000000000 / chipNs code

/-- Probe length of a step code, in tenths of a tick (R226). -/
def probeTenths (code : Nat) : Nat := 4094 * 2 ^ code

/-- n_valid for a traverse window, a configured and an effective step code (R227). -/
def nValidOf (t cfg eff : Nat) : Nat := min 16384 ((10 * t - 1200 - probeTenths cfg) * 10 / stepNs eff)

/-- Whether a port runs on one receive converter half (R43, R235). -/
def State.oneHalf (s : State) (p : Nat) : Bool := decide ((s.port p).trav.halves ≠ 3)

/-- The step code that a configured code runs with, on one half or on both (R235). -/
def effCode (half : Bool) (code : Nat) : Nat := if half && code == 0 then 1 else code

/-- EFF_STEP: the step code in use (R235). -/
def State.effStep (s : State) (p : Nat) : Nat := effCode (s.port p).trav.half (s.port p).trav.step

/-- TRAV_POINTS: n_valid under the settings in force (R227, R244). -/
def State.nValid (s : State) (p : Nat) : Nat := nValidOf (s.port p).latch.t (s.port p).trav.step (s.effStep p)

/-- The port runs its cells and its benchmark in the degraded state: step code 0 on one half (R235, R258). -/
def State.degraded (s : State) (p : Nat) : Bool := (s.port p).trav.half && decide ((s.port p).trav.step = 0)

/-- TRAV_STEP, LEAD_IN, TERMINATION and the converter halves come into force where no run is in progress: a run finishes with
the values it has (R224, R235). -/
def latchRun (p : Nat) (s : State) : State :=
  if (s.port p).trav.run.isSome then s
  else s.modTrav p (fun x => { x with
    step := s.regN Code.travStep p, leadIn := s.regN Code.leadIn p, termination := s.regN Code.termination p,
    half := s.oneHalf p })

/-! ## The traverse window (R227) -/

/-- First tick of the probe and of the record in a cycle of `l` ticks with window `t`. -/
def probeStart (l t : Nat) : Nat := l - t
/-- Last tick of the record. -/
def recordEnd (l : Nat) : Nat := l - 121
/-- First and last tick of the DC span. -/
def dcFirst (l : Nat) : Nat := l - 120
def dcLast (l : Nat) : Nat := l - 21

/-! ## The probe (R225) -/

/-- One step of the probe's generator. -/
def probeAdvance (st : Nat) : Nat := (2 * st + (if st.testBit 10 != st.testBit 8 then 1 else 0)) % 2048

/-- Chips that the generator sends from a state. -/
def probeFrom (n st : Nat) : List Int :=
  match n with
  | 0 => []
  | m + 1 => (if st.testBit 10 then 1 else -1) :: probeFrom m (probeAdvance st)

/-- The probe of contributing cycle `j`, in units of Ap. -/
def probeChips (j : Nat) : List Int := probeFrom 2047 (Nat.repeat probeAdvance (32 * j % 2047) 0x7FF)

/-- Ap, µV: TRAV_ATTEN in force, 3 dB lower in thermal throttle. -/
def State.probeAmplitude (s : State) (p : Nat) : Nat :=
  amplitude ((s.port p).latch.travAtten + (if s.heat.throttled then 6 else 0))

/-! ## Contributing -/

/-- Whether a port is the head-end side of a trunk (R161). -/
def State.trunkHead (s : State) (p : Nat) : Bool := s.isTrunk p && decide (s.regN Code.trunkRole p = 0)

/-- Whether a port can contribute at all under R223. -/
def State.canContribute (s : State) (p : Nat) : Bool :=
  decide ((s.port p).latch.t ≠ 0) &&
    (s.isBranch p || s.trunkHead p || (s.isTrunk p && decide ((s.port p).trunk.state = 3)))

/-- Whether the cycle in progress is a contributing cycle of a port (R223). On a trunk its number decides (R80): a partner side takes its
own number, also before it has adopted the head-end side's (DESIGN CHOICE, notes/assumptions/16). -/
def State.contributing (s : State) (p : Nat) : Bool :=
  s.time.running && (s.port p).started && s.canContribute p && !s.inBeacon p &&
    (s.isBranch p ||
      (if s.trunkHead p then decide (s.cycleNow % 2 = 0)
       else decide (s.cycleNow % 2 = 1) && decide ((s.port p).trunk.state = 3)))

/-- Whether a run's last contributing cycle has begun. -/
def Run.full (r : Run) : Bool := decide (r.cycles ≤ r.done)

/-! ## Runs -/

/-- Abandons the run in progress: its sum is discarded, it counts, and a new run starts at the next contributing cycle
(R224). -/
def abandonRun (p : Nat) (s : State) : State :=
  match (s.port p).trav.run with
  | none => s
  | some _ => (s.modTrav p (fun x => { x with run := none, due := true })).bump Code.runsAbandoned p

/-- Ends a calibration as failed (R232, R233). -/
def calFailed (p : Nat) (s : State) : State :=
  ((s.modTrav p (fun x => { x with calibration := none })).setReg Code.calResult p 2).bump Code.calFails p

/-- Whether the calibration in force still has to make its run. -/
def State.calWaits (s : State) (p : Nat) : Bool :=
  match (s.port p).trav.calibration with
  | none => false
  | some k => !(s.port p).trav.ended.any (fun r => r.kind == k)

/-- A calibration ends as failed when its port can contribute no more before its run has completed (R232). -/
def calStops (p : Nat) (s : State) : State := if s.calWaits p then calFailed p s else s

/-- What a cleared TRAV_ENABLE does (R224, R232). -/
def travDisabled (p : Nat) (s : State) : State := calStops p (abandonRun p s)

/-- Unclipped capture runs counted or ended (R241). -/
def State.captureRuns (s : State) (p : Nat) : Nat :=
  (((s.port p).trav.capture).getD []).length +
    ((s.port p).trav.ended.filter (fun r => r.kind == .bench && !r.clipped)).length

/-- The run that starts at the contributing cycle in progress, if one does (R222, R224, R232, R241). -/
def State.runToStart (s : State) (p : Nat) : Option RunKind :=
  let x := (s.port p).trav
  if x.run.isSome || !s.regB Code.travEnable p then none
  else if s.calWaits p then x.calibration
  else
    let more := x.capture.isSome && decide (s.captureRuns p < (s.port p).latch.benchRuns)
    if x.captureOn && more then some .bench
    else if x.due || decide (s.regN Code.travInterval p = 0) then (if more then some .bench else some .normal)
    else none

/-- Begins a run with the settings in force (R224, R227, R232). -/
def beginRun (p : Nat) (k : RunKind) (s : State) : State :=
  let x := (s.port p).trav
  let r : Run :=
    { kind := k, step := x.step, effStep := s.effStep p, cycles := s.regN Code.travCycles p,
      leadIn := if k = .leadIn then 0 else x.leadIn, gain := s.regN Code.travGain p, termination := x.termination, nValid := s.nValid p, done := 0, acc := [], clipped := false,
      lastAt := s.time.time64, page := s.time.page, oneHalf := (s.port p).trav.half }
  s.modTrav p (fun x => { x with run := some r, due := false, captureOn := x.captureOn || k == .bench })

/-- Converter sample period of a run, ps (R228). -/
def Run.samplePs (r : Run) : Nat := if r.oneHalf then 10000 else 5000

/-- The converter's full scale at the run's gain: half of 16.0 Vpp × 10^(−g/40), µV (R229). -/
def Run.fullScale (r : Run) : Nat := attenuated 8000000 r.gain

/-- The voltage at the line balls `ps` after the launch of chip 0, within full scale: a sample, or what the interpolation
gives between samples (R228). -/
def Run.voltage (r : Run) (samples : Array Int) (ps : Nat) : Int :=
  clamp (-(r.fullScale : Int)) r.fullScale
    (if ps % r.samplePs = 0 then samples.getD (ps / r.samplePs) 0 else Config.interpolated samples.toList ps r.samplePs)

/-- The correlation of point `n` with a probe (R228). -/
def Run.correlate (r : Run) (chips : List Int) (samples : Array Int) (n : Nat) : Int :=
  let k := chipNs r.step * 1000 / r.samplePs
  sumInt ((List.zip (List.range 2047) chips).map (fun c =>
    c.2 * sumInt ((List.range k).map (fun m =>
      r.voltage samples (r.leadIn + n * stepNs r.effStep * 1000 + c.1 * chipNs r.step * 1000 + m * r.samplePs)))))

/-- Holds a value as a signed 32-bit number does. -/
def i32 (x : Int) : Int := (x + 2 ^ 31) % 2 ^ 32 - 2 ^ 31

/-- What the record of one contributing cycle adds to the sum, with probe amplitude `ap` in µV (R228). -/
def Run.contribution (r : Run) (ap : Nat) (samples : List Int) : List Int :=
  if samples.isEmpty then []
  else
    let k := chipNs r.step * 1000 / r.samplePs
    (List.range r.nValid).map (fun n =>
      roundDiv (32768 * r.correlate (probeChips r.done) samples.toArray n) (2047 * k * ap))

/-- Adds the points of one cycle to a sum (R228). -/
def addPoints (n : Nat) (acc pts : List Int) : List Int :=
  (List.range n).map (fun i => i32 (atOr acc i 0 + atOr pts i 0))

/-- Whether a sample of the record, with window `t`, reaches full scale (R227, R229). -/
def Run.clips (r : Run) (t : Nat) (samples : List Int) : Bool :=
  (samples.take ((t - 120) * 100000 / r.samplePs)).any (fun v => decide (r.fullScale ≤ v.natAbs))

/-- The contribution of the cycle in progress to the run in progress: the sum is read, but for the first cycle, and written
(R48, R228, R229). -/
def contribute (p : Nat) (es : List Echo) (s : State) : State :=
  match (s.port p).trav.run with
  | none => s
  | some r =>
    let xs := ((es.find? (fun e => e.port == p)).map (fun e => e.samples)).getD []
    let sum := if r.done = 0 then (r.acc, s) else readSum p r.nValid (masterEngine (s.engineFor p)) r.acc s
    let r' : Run := { r with done := r.done + 1,
                             acc := addPoints r.nValid sum.1 (r.contribution (s.probeAmplitude p) xs),
                             clipped := r.clipped || r.clips (s.port p).latch.t xs, lastAt := s.time.time64,
                             page := s.time.page }
    clearBad 1 (traceWord p) ((r.nValid + 1) / 2) (sum.2.modTrav p (fun x => { x with run := some r' }))

/-- At a cycle's start, a run whose last contributing cycle is over has ended (R223). -/
def endFullRun (p : Nat) (s : State) : State :=
  match (s.port p).trav.run with
  | some r => if r.full then s.modTrav p (fun x => { x with run := none, ended := x.ended ++ [r] }) else s
  | none => s

/-- Whether a datum is a scheduled datum of a port (R222). -/
def State.scheduled (s : State) (p second : Nat) : Bool :=
  let iv := s.regN Code.travInterval p
  if iv = 0 then false else decide ((second + iv * 2 ^ 32 - s.regN Code.travOffset p) % iv = 0)

/-- The schedule at a datum: a start falls due, or is dropped and counted where a run, a capture or a calibration is in
progress (R222). -/
def travDatum (p second : Nat) (s : State) : State :=
  if s.regB Code.travEnable p && s.scheduled p second then
    let x := (s.port p).trav
    let busy := (match x.run with
      | some r => !r.full
      | none => false) || x.captureOn || x.calibration.isSome
    if busy then s.bump Code.runsSkipped p else s.modTrav p (fun x => { x with due := true })
  else s

/-- TRAV_STATE (R244): off while TRAV_ENABLE is clear, or the port is in no mode that contributes (DEDUCED,
notes/assumptions/13). -/
def State.travStateNow (s : State) (p : Nat) : Nat :=
  let x := (s.port p).trav
  if !s.regB Code.travEnable p || decide ((s.port p).mode = 0) then 0
  else if x.calibration.isSome then 4
  else if x.capture.isSome then 3
  else if x.run.isSome then 2
  else 1

/-! ## Traces -/

/-- The trace points of an ended run (R228). -/
def scaleTrace (r : Run) : List Int := r.acc.map (fun a => sat16 ((a + (r.cycles / 2 : Nat)) / (r.cycles : Int)))

/-- A point of a trace; 0 from n_valid on (R227). -/
def pointOf (pts : List Int) (n : Nat) : Int := atOr pts n 0

/-! ## Benchmarks -/

/-- Whether a benchmark's step code, LEAD_IN and TERMINATION match those in force (R242). -/
def State.benchMatches (s : State) (p : Nat) (b : Bench) : Bool :=
  let x := (s.port p).trav
  b.step == x.step && b.leadIn == x.leadIn && b.termination == x.termination

/-- BENCH_STATE 5001.09 (R235, R242). A benchmark that does not match reads 2 on one half as well (DEDUCED,
notes/assumptions/13). -/
def State.benchStateNow (s : State) (p : Nat) : Nat :=
  match (s.port p).trav.bench with
  | none => 0
  | some b => if !s.benchMatches p b then 2 else if s.degraded p then 3 else 1

/-- BENCH_TIME 5001.0A (R241). -/
def State.benchTimeNow (s : State) (p : Nat) : Nat := ((s.port p).trav.bench.map (fun b => b.time)).getD 0

/-- The even points of a benchmark, as points 0–8,191 of the derived one (R235). -/
def derivedPoints (pts : List Int) : List Int := (List.range 8192).map (fun i => pointOf pts (2 * i))

/-- The points of the benchmark that traces are compared against: the benchmark in force, or the derived one (R235). -/
def State.comparePoints (s : State) (p : Nat) : Option (List Int) :=
  match (s.port p).trav.bench with
  | none => none
  | some b => some (if s.degraded p then derivedPoints b.points else b.points)

/-! ## Chainage -/

/-- Chainage, 0.1 m, of a position `num / den` in points: n × eff_step × 0.299792458 × VF / 2, rounded to the nearest
(R231). -/
def chainage (eff vf : Nat) (num : Int) (den : Nat) : Int :=
  roundDiv (num * (stepNs eff * 299792458 * vf : Nat)) (den * 200000000000)

/-- The located position of the reflection at point `k` of `y`, as a quotient (R234). -/
def locate (y : Nat → Int) (k : Nat) : Int × Nat :=
  let den := y (k - 1) - 2 * y k + y (k + 1)
  let num := y (k - 1) - y (k + 1)
  if den = 0 then ((k : Int), 1)
  else
    let n := if den < 0 then -num else num
    let m := den.natAbs
    ((k : Int) * (2 * m : Nat) + clamp (-(m : Int)) m n, 2 * m)

/-- The lowest point with the largest figure among some points, if there are any (R234). -/
def largestBy (f : Nat → Int) (ks : List Nat) : Option Nat :=
  ks.foldl (fun best k =>
    match best with
    | none => some k
    | some b => if f b < f k then some k else best) none

/-! ## Calibration -/

/-- The result of a LEAD_IN_CAL run (R232). -/
def leadInResult (p : Nat) (r : Run) (pts : List Int) (s : State) : State :=
  match largestBy (pointOf pts) (List.range 200) with
  | none => calFailed p s
  | some k =>
    let pos := locate (pointOf pts) k
    let ps := roundDiv (pos.1 * (stepNs r.effStep * 1000 : Nat)) pos.2
    if 16384 ≤ pointOf pts k ∧ k ≠ 0 ∧ k ≠ 199 ∧ 0 ≤ ps ∧ ps ≤ 500000 then
      ((s.setReg Code.leadIn p ps).setReg Code.calResult p 1).modTrav p (fun x => { x with calibration := none })
    else calFailed p s

/-- The points whose chainage lies within ±10 % of CAL_CHAINAGE (R233). -/
def State.vfRange (s : State) (p : Nat) (r : Run) : List Nat :=
  let cc := (s.port p).latch.calChainage
  (List.range r.nValid).filter (fun n =>
    let x := n * stepNs r.effStep * 299792458 * (s.port p).latch.vf
    decide (9 * cc * 200000000000 ≤ 10 * x) && decide (10 * x ≤ 11 * cc * 200000000000))

/-- The result of a VF_CAL run (R233): the trace, less the benchmark where one is in force and matching. -/
def vfResult (p : Nat) (r : Run) (pts : List Int) (s : State) : State :=
  let y := fun (n : Nat) =>
    match (s.port p).trav.bench with
    | some b => if s.benchStateNow p = 1 then pointOf pts n - pointOf b.points n else pointOf pts n
    | none => pointOf pts n
  let ks := s.vfRange p r
  match largestBy (fun n => ((y n).natAbs : Int)) ks with
  | none => calFailed p s
  | some k =>
    if ks.head? = some k ∨ ks.getLast? = some k then calFailed p s
    else
      let pos := locate y k
      let found := chainage r.effStep (s.port p).latch.vf pos.1 pos.2
      let num : Int := (10 * (s.port p).latch.vf * (s.port p).latch.calChainage : Nat)
      let v := if found = 0 then Config.quotientByZero 2 num else roundDiv num found.toNat
      (((s.setReg Code.calChainageFound p found).setReg Code.calVf p v).setReg Code.calResult p 1).modTrav p
        (fun x => { x with calibration := none })

/-- A command that starts a calibration has been accepted (R232, R233). -/
def startCal (p : Nat) (k : RunKind) (s : State) : State :=
  (s.modTrav p (fun x => { x with calibration := some k })).setReg Code.calResult p 3

/-- Whether BENCH_CAPTURE, LEAD_IN_CAL and VF_CAL are accepted on a port, as far as the port goes (R232, R241). -/
def State.travFree (s : State) (p : Nat) : Bool :=
  (s.port p).trav.capture.isNone && (s.port p).trav.calibration.isNone && s.regB Code.travEnable p && s.canContribute p

/-! ## DC readings -/

/-- A code of INS_RES that stands for no figure in range (R237). -/
def notMeasured : Nat := 0xFFFFFFFE
/-- Over range, or open (R237, R238). -/
def overRange : Nat := 0xFFFFFFFF

/-- INS_RES for a resistance `num / den` in ohms, `0 < den` (R237). -/
def insCode (num : Int) (den : Nat) : Nat :=
  if num < 1000 * (den : Int) then 0
  else if 100000000 * (den : Int) < num then overRange
  else (roundDiv num den).toNat

/-- Insulation code and EMF in mV from the means of a dwell pair, over both counts of samples (R236, R237). Without a
difference of the currents the quotients are open (notes/assumptions/5). -/
def dwellPair (a b : DcSum) : Nat × Int :=
  let di := a.amps * b.count - b.amps * a.count
  let r := (a.volts * b.count - b.volts * a.count) * 1000
  let e := a.amps * b.volts - a.volts * b.amps
  if di = 0 then (insCode (Config.quotientByZero 0 r) 1, Config.quotientByZero 1 e)
  else
    let m := di.natAbs
    (insCode (if di < 0 then -r else r) m, roundDiv (if di < 0 then -e else e) (1000 * m))

/-- Whether the DC unit of a port measures: a branch port or a trunk's head-end side, in a cluster that is in service
(R236, R240). -/
def State.dcOn (s : State) (p : Nat) : Bool :=
  (s.isBranch p || s.trunkHead p) && decide ((s.cluster (clusterOf p)).state ≤ 1) && (s.port p).started

/-- The bias of a port's wires against PIPE_REF_k, V (R236). -/
def State.biasVolts (s : State) (p : Nat) : Int :=
  let l := (s.port p).latch
  if s.dcOn p && decide (l.insEnable = 1) then
    (if (s.cluster (clusterOf p)).negative then -(l.insBias : Int) else (l.insBias : Int))
  else 0

/-- Whether the DC unit drives the loop current of 1.000 mA (R238). -/
def State.loopOn (s : State) (p : Nat) : Bool :=
  s.dcOn p && s.isBranch p && decide ((s.port p).trav.termination = 1)

/-- Takes one sample into the sums, that of the differential voltage only while the loop current is on; compliance is ±3.5 V (R236,
R238). -/
def DcSum.add (loop : Bool) (x : DcSum) (v : DcSample) : DcSum :=
  { count := x.count + 1, volts := x.volts + v.microVolt, amps := x.amps + v.nanoAmp,
    loopCount := if loop then x.loopCount + 1 else x.loopCount,
    loop := if loop then x.loop + v.loopMicroVolt else x.loop,
    compliance := x.compliance || (loop && decide (3500000 ≤ v.loopMicroVolt.natAbs)) }

/-- The DC span of the cycle in progress: its samples count where the span lies in the second half of the dwell (R236; by the
span's first tick, notes/assumptions/13). -/
def dcSpan (p : Nat) (es : List Echo) (s : State) : State :=
  let c := s.cluster (clusterOf p)
  let since := c.dwell * secondTicks + (s.time.time64 + dcFirst s.cycleTicks - s.time.lastDatum.getD s.time.time64) -
    (if c.dwellFresh then secondTicks else 0)
  if s.dcOn p && decide ((s.port p).latch.t ≠ 0) && !s.inBeacon p && decide (c.dwellLen * secondTicks ≤ 2 * since) &&
      decide (since < c.dwellLen * secondTicks) then
    let xs := ((es.find? (fun e => e.port == p)).map (fun e => e.dc)).getD []
    s.modTrav p (fun x => { x with dc := xs.foldl (DcSum.add (s.loopOn p)) x.dc })
  else s

/-- What a port whose DC unit does not measure reads: off, or the partner side of a trunk, not measured (R240); in a cluster that is not
in service the figures of the last dwell pair (R427). Without the loop current LOOP_RES reads not measured (R238). -/
def dcIdle (p : Nat) (s : State) : State :=
  if !(s.isBranch p || s.trunkHead p) then
    s.modTrav p (fun x => { x with dc := {}, plus := none, ins := notMeasured, loopRes := notMeasured })
  else if !s.dcOn p then s.modTrav p (fun x => { x with dc := {}, plus := none })
  else if s.loopOn p then s
  else s.modTrav p (fun x => { x with loopRes := notMeasured })

/-- The end of a dwell pair on one port: INS_RES, GALVANIC, LOOP_RES and DC_TIME (R236–R240). An EMF beyond GALVANIC's
range, and a loop resistance below 0, are stated nowhere: free values. -/
def pairEnd (p : Nat) (s : State) : State :=
  let x := (s.port p).trav
  let b := x.dc
  match s.dcOn p && decide (b.count ≠ 0), x.plus with
  | true, some a =>
    let r := dwellPair a b
    let w := s.draw
    let on := decide ((s.port p).latch.insEnable = 1)
    let out := decide (r.2 < -5000) || decide (5000 < r.2)
    let loop := s.loopOn p && decide (a.loopCount + b.loopCount ≠ 0)
    let l := roundDiv (a.loop + b.loop) (10 * (a.loopCount + b.loopCount)) - (s.port p).latch.chokeRes - (s.port p).latch.protRes
    let under := loop && !a.compliance && !b.compliance && decide (l < 0)
    let s1 := if (on && out) || under then w.2 else s
    s1.modTrav p (fun x => { x with
      plus := none
      ins := if on then r.1 else notMeasured
      galvanic := if on then (if out then clamp (-5000) 5000 w.1 else r.2) else x.galvanic
      loopRes := if !loop then notMeasured
                 else if a.compliance || b.compliance then overRange
                 else if l < 0 then twos 32 w.1
                 else l.toNat
      dcTime := s.time.time64 })
  | true, none => s.modTrav p (fun x => { x with ins := notMeasured, loopRes := notMeasured, dcTime := s.time.time64 })
  | false, _ =>
    if s.dcOn p then
      s.modTrav p (fun x => { x with plus := none, ins := notMeasured, loopRes := notMeasured, dcTime := s.time.time64 })
    else s.modTrav p (fun x => { x with plus := none })

/-- The end of a dwell on one port: a positive one keeps its samples for the pair, a negative one ends the pair (R236). -/
def portDwellEnd (negative : Bool) (p : Nat) (s : State) : State :=
  let t := if negative then pairEnd p s
           else s.modTrav p (fun x => { x with plus := if s.dcOn p && decide (x.dc.count ≠ 0) then some x.dc else none })
  t.modTrav p (fun x => { x with dc := {} })

/-- Seconds that have passed since the last datum that was handled: 1 at a datum whose other work is still to come. -/
def State.datumDue (s : State) : Nat :=
  match s.time.lastDatum with
  | some d => if d + secondTicks ≤ s.time.time64 then 1 else 0
  | none => 0

/-- INS_DWELL_END (R236, R245): at the datum that ends the dwell every port of the cluster reverses together. It comes before that
datum's other work or after it. -/
def insDwellEnd (k : Nat) (s : State) : State :=
  let c := s.cluster k
  let ahead := s.datumDue
  if c.dwellLen = 0 ∨ c.dwellFresh = true ∨ c.dwell + ahead < c.dwellLen then s
  else
    (forAll (portsOf k) (portDwellEnd c.negative) s).modCluster k (fun x => { x with
      negative := !x.negative, dwell := 0, dwellFresh := decide (ahead ≠ 0), dwellLen := s.regN Code.insDwell k })

/-- The dwell clock of a cluster at a datum: the first dwell begins, or one has begun at this datum, or a second of the present one has
passed (R236). -/
def dwellDatum (k : Nat) (s : State) : State :=
  let c := s.cluster k
  if c.dwellLen = 0 then
    s.modCluster k (fun x => { x with dwell := 0, dwellFresh := false, dwellLen := s.regN Code.insDwell k, negative := false })
  else s.modCluster k (fun x => { x with dwell := if x.dwellFresh then 0 else x.dwell + 1, dwellFresh := false })

/-! ## Settings -/

/-- Latches the settings of a port for the cycle; a changed traverse window abandons the run in progress, and a port whose DC
unit measures nothing reads so (R128, R159, R224, R240, R244). -/
def latchPort (p : Nat) (s : State) : State :=
  let g := fun (c : Nat) => s.regN c p
  let l : Latch :=
    { d := s.winD p, c := s.winC p, t := s.winT p, syncTol := g Code.syncTol, txAtten := g Code.txAtten,
      beaconAtten := g Code.beaconAtten, detThresh := g Code.detThresh, muAcq := g Code.muAcq, muTrk := g Code.muTrk,
      travAtten := g Code.travAtten, insEnable := g Code.insEnable, insBias := g Code.insBias,
      vf := g Code.vf, benchRuns := g Code.benchRuns, chokeRes := g Code.chokeRes, protRes := g Code.protRes,
      calChainage := g Code.calChainage }
  let s1 := if l.t = (s.port p).latch.t then s else abandonRun p s
  dcIdle p (latchRun p (s1.modPort p (fun x => { x with latch := l, steep := false })))

/-! ## The commands -/

/-- INS_DWELL_END (R236). -/
def execInsDwellEnd (cluster : Nat) (s : State) : Host.Outcome State Fault Refusal :=
  run (atCluster cluster (insDwellEnd cluster)) s

end Sys2Proof.Machine
end

