-- ==== Sys2Proof/Machine/Cells.lean ====
section
/-! DEFINITION. The watch cells: ranges, layout, update, state transitions, reports, host writes and rebuilds
(R45, R46, R246–R266, R486). -/

namespace Sys2Proof.Machine

/-! ## Ranges -/

/-- The range that a CELL_ALLOC value codes (R246). -/
def rangeOfWord (v : Nat) : Range := { base := v % 2 ^ 20, count := v / 2 ^ 20 % 2 ^ 21 }

/-- The CELL_ALLOC value of a range (R246). -/
def wordOfRange (r : Range) : Nat := r.base + r.count * 2 ^ 20

/-- The object of range A, or of range B (R246). -/
def allocCode (b : Bool) : Nat := if b then Code.cellAllocB else Code.cellAllocA

/-- The range in force of a port: A, or B where `b` holds (R246). -/
def State.rangeOf (s : State) (p : Nat) (b : Bool) : Range :=
  Tab.get (if b then s.cells.rangeB else s.cells.rangeA) p { base := 0, count := 0 }

/-- The range of a port as written (R246, R247). -/
def State.rangeWritten (s : State) (p : Nat) (b : Bool) : Range := rangeOfWord (s.regN (allocCode b) p)

/-- Puts a range into force. -/
def setRange (p : Nat) (b : Bool) (r : Range) (s : State) : State :=
  if b then { s with cells := { s.cells with rangeB := Tab.put s.cells.rangeB p r } }
  else { s with cells := { s.cells with rangeA := Tab.put s.cells.rangeA p r } }

/-- Cell indices of a range, ascending. -/
def Range.cells (r : Range) : List Nat := span r.base r.count

/-- Whether a range holds a cell. -/
def Range.has (r : Range) (i : Nat) : Bool := decide (r.base ≤ i) && decide (i < r.base + r.count)

/-- Whether two ranges share a cell (R247). -/
def Range.meets (x y : Range) : Bool :=
  decide (0 < x.count) && decide (0 < y.count) && decide (x.base < y.base + y.count) && decide (y.base < x.base + x.count)

/-- Whether a new range of a port is refused for an overlap with another, in force or accepted (R247). -/
def State.rangeClash (s : State) (p : Nat) (b : Bool) (r : Range) : Bool :=
  allPorts.any (fun q => [false, true].any (fun c =>
    !(q == p && c == b) && (r.meets (s.rangeOf q c) || r.meets (s.rangeWritten q c))))

/-- The owner of a cell, and whether range B holds it (R246, CELL_OWNER). -/
def State.cellOwner (s : State) (i : Nat) : Option (Nat × Bool) :=
  match s.cells.rangeA.find? (fun e => e.2.has i) with
  | some e => some (e.1, false)
  | none => (s.cells.rangeB.find? (fun e => e.2.has i)).map (fun e => (e.1, true))

/-- CELLS_FREE 5140.06: cells in no range (R266). -/
def State.cellsFree (s : State) : Nat :=
  2 ^ 20 - (allPorts.map (fun p => (s.rangeOf p false).count + (s.rangeOf p true).count)).foldl (· + ·) 0

/-! ## The pool -/

/-- The band of cell `i` of a range of `c` cells over `n` points: start and stored width (R248). -/
def layoutBand (i c n : Nat) : Nat × Nat :=
  let st := i * n / c
  (st, min 64 (max 1 ((i + 1) * n / c - st)) - 1)

/-- The key of a range's layout. -/
def layoutKey (p : Nat) (b : Bool) : Nat := 2 * p + (if b then 1 else 0)

/-- Cell `i` of a range of `c` cells as a layout without a benchmark leaves it (R248, R256). -/
def layoutCell (l : Layout) (c i : Nat) : Cell :=
  { start := (layoutBand i c l.points).1, width := (layoutBand i c l.points).2, var := l.var, thresh := l.thresh,
    hyst := l.hyst, time := l.time, page := l.page }

/-- What an unlisted cell of a range reads as. -/
def State.laidCell (s : State) (p : Nat) (b : Bool) (i : Nat) : Cell :=
  let r := s.rangeOf p b
  match Tab.find s.cells.layouts (layoutKey p b) with
  | some l => layoutCell l r.count (i - r.base)
  | none => {}

/-- What an unlisted cell reads as: as its range was laid out; all zeros in no range (R248, R250). -/
def State.unlisted (s : State) (i : Nat) : Cell :=
  match s.cellOwner i with
  | some o => s.laidCell o.1 o.2 i
  | none => {}

/-- A cell (R250). -/
def State.cell (s : State) (i : Nat) : Cell :=
  match Tab.find s.cells.pool i with
  | some c => c
  | none => s.unlisted i

/-- Writes a cell, which clears the marking of its words (R48). -/
def State.setCell (s : State) (i : Nat) (c : Cell) : State :=
  clearBad 0 (2 * i) 2 { s with cells := { s.cells with pool := Tab.store (s.unlisted i) s.cells.pool i c } }

/-- The pool without entries equal to what unlisted cells read as. -/
def tidyPool (s : State) : State :=
  { s with cells := { s.cells with pool := s.cells.pool.filter (fun e => decide (e.2 ≠ s.unlisted e.1)) } }

/-- The canonical form of the pool: keys rise strictly, and no entry equals what an unlisted cell reads as. -/
def State.poolTidy (s : State) : Bool :=
  Tab.wf s.cells.pool && s.cells.pool.all (fun e => decide (e.2 ≠ s.unlisted e.1))

/-- The listed cells of a range. -/
def State.listedIn (s : State) (r : Range) : Tab Cell := s.cells.pool.filter (fun e => r.has e.1)

/-- Cells `base` to `base + n - 1`, from the listed ones among them and what the others read as. -/
def fillCells (d : Nat → Cell) (base n : Nat) (t : Tab Cell) : Tab Cell :=
  match n with
  | 0 => []
  | m + 1 =>
    match t with
    | [] => (base, d base) :: fillCells d (base + 1) m []
    | (j, c) :: rest =>
      if j = base then (base, c) :: fillCells d (base + 1) m rest
      else (base, d base) :: fillCells d (base + 1) m ((j, c) :: rest)

/-- The cells of a range, ascending. -/
def State.rangeCells (s : State) (p : Nat) (b : Bool) : Tab Cell :=
  let r := s.rangeOf p b
  fillCells (s.laidCell p b) r.base r.count (s.listedIn r)

/-- Puts listed cells in place of those of a range, and clears the marking of the range's words (R48). -/
def putCells (r : Range) (cs : Tab Cell) (s : State) : State :=
  tidyPool (clearBad 0 (2 * r.base) (2 * r.count) { s with cells := { s.cells with
    pool := s.cells.pool.filter (fun e => decide (e.1 < r.base)) ++ cs ++
      s.cells.pool.filter (fun e => decide (r.base + r.count ≤ e.1)) } })

/-- Puts the layout of a range in place. -/
def setLayout (p : Nat) (b : Bool) (l : Layout) (s : State) : State :=
  { s with cells := { s.cells with layouts := Tab.put s.cells.layouts (layoutKey p b) l } }

/-- Remakes the cells of a range under a new layout: `f` gives a cell from its number in the range and its old content. Where
`whole` does not hold, `f` takes what the old layout gives to what the new one gives, so that only listed cells are made. -/
def remake (whole : Bool) (p : Nat) (b : Bool) (l : Layout) (f : Nat → Cell → Cell) (s : State) : State :=
  let r := s.rangeOf p b
  let cs := if whole then s.rangeCells p b else s.listedIn r
  putCells r (cs.map (fun e => (e.1, f (e.1 - r.base) e.2))) (setLayout p b l s)

/-- Whether a word of a cell is marked bad (R48). -/
def State.cellBad (s : State) (i : Nat) : Bool := s.isBad 0 (2 * i) || s.isBad 0 (2 * i + 1)

/-- The whole seconds of a TIME64 value that a cell's time holds (R250). -/
def secondsOf (t : Nat) : Nat := t / secondTicks % 2 ^ 32

/-- The 16 bytes of a cell, bit 127 first (R250, CELL_RAW). -/
def cellBytes (c : Cell) : List Byte :=
  beBytes 16 ((((((((((((c.start % 2 ^ 14 * 2 ^ 6 + c.width % 2 ^ 6) * 2 ^ 16 + twos 16 c.bench) * 2 ^ 12 + twos 12 c.drift)
    * 2 ^ 8 + twos 8 c.residue) * 2 ^ 16 + c.var % 2 ^ 16) * 2 ^ 8 + c.thresh % 2 ^ 8) * 2 ^ 4 + c.hyst % 2 ^ 4) * 2 ^ 3
    + c.state % 2 ^ 3) * 2 ^ 2 + c.kind % 2 ^ 2) * 2 ^ 4 + c.count % 2 ^ 4) * 2 ^ 2 + c.page % 2 ^ 2) * 2 ^ 33
    + c.time % 2 ^ 32)

/-! ## Bands -/

/-- First and last point of a band in the points of the trace: halved in the degraded state (R258). -/
def State.bandOf (s : State) (p : Nat) (c : Cell) : Nat × Nat :=
  if s.degraded p then (c.start / 2, (c.start + c.width) / 2) else (c.start, c.start + c.width)

/-- The mean of some points, rounded to the nearest (R250, R252). -/
def bandMean (pts : List Int) (lo hi : Nat) : Int :=
  roundDiv (sumInt ((span lo (hi + 1 - lo)).map (pointOf pts))) (hi + 1 - lo)

/-- The bench of a cell of a port: the mean of the benchmark over its band, 0 without one (R250, R256, R258). -/
def State.benchOf (s : State) (p : Nat) (c : Cell) : Int :=
  match s.comparePoints p with
  | none => 0
  | some pts => bandMean pts (s.bandOf p c).1 (s.bandOf p c).2

/-- A cell reset as by a CELL_START write (R256). -/
def State.resetCell (s : State) (p second : Nat) (c : Cell) : Cell :=
  { c with bench := s.benchOf p c, drift := 0, residue := 0, count := 0, kind := 0, var := s.regN Code.varInit p,
           state := 0, time := second % 2 ^ 32, page := s.time.page }

/-- n_valid of a port's configuration, both halves: the points in which bands are laid out (R248). -/
def State.cfgValid (s : State) (p : Nat) : Nat :=
  nValidOf (s.port p).latch.t (s.port p).trav.step (s.port p).trav.step

/-- Forgets a cell's cap reach (R252). -/
def leaveCap (i : Nat) (s : State) : State := { s with cells := { s.cells with atCap := dropFrom i s.cells.atCap } }

/-- Forgets the cap reaches in a range, but for masked cells where `keep` holds. -/
def leaveCaps (r : Range) (keep : Bool) (s : State) : State :=
  { s with cells := { s.cells with
      atCap := s.cells.atCap.filter (fun i => !r.has i || (keep && (s.cell i).state == 4)) } }

/-- The layout in place of a range; all zeros where there is none. -/
def State.layoutOf (s : State) (p : Nat) (b : Bool) : Layout :=
  Tab.get s.cells.layouts (layoutKey p b) { points := 0, thresh := 0, hyst := 0, var := 0, time := 0, page := 0 }

/-- The bit of a range in LAYOUT_HOST (R265). -/
def hostBit (b : Bool) : Nat := if b then 1 else 0

/-- Whether a range has been shaped by the host (R248, LAYOUT_HOST). -/
def State.hostShaped (s : State) (p : Nat) (b : Bool) : Bool := (s.regN Code.layoutHost p).testBit (hostBit b)

/-- Sets or clears the bit of a range in LAYOUT_HOST (R256, R265). -/
def setShaped (p : Nat) (b v : Bool) (s : State) : State :=
  let n := s.regN Code.layoutHost p
  s.setReg Code.layoutHost p (if v then n ||| 2 ^ hostBit b else n &&& (3 - 2 ^ hostBit b) : Nat)

/-! ## Rebuilds -/

/-- The newest complete snapshot, while the drive can be read (R263). -/
def State.newestSnap (s : State) : Option Rec :=
  match (if s.arch.state = 3 ∨ s.arch.state = 4 then s.arch.snap else none) with
  | none => none
  | some (_, q) => s.arch.records.find? (fun r => r.kind == 4 && r.seq == q)

/-- A cell of a port as a snapshot holds it. Where the snapshot was taken under the benchmark in force, bench is that benchmark's over the
band as the port now runs, on one converter half or on both (R258, R263). -/
def State.snapCell (s : State) (r : Rec) (p i : Nat) : Cell :=
  let c := Tab.get r.cells i {}
  let bt := (atOr r.table p { benchTime := 0, allocA := 0, allocB := 0, host := 0 }).benchTime
  if c ≠ {} ∧ bt = s.benchTimeNow p then { c with bench := s.benchOf p c } else c

/-- The management controller rewrites a cell with a double-bit error: from the newest snapshot, or by a reset; a cell of
no port becomes all zeros (R259). -/
def rebuildCell (i : Nat) (s : State) : State :=
  match s.cellOwner i with
  | none => s.setCell i {}
  | some (p, _) =>
    let c :=
      match s.newestSnap with
      | some r => s.snapCell r p i
      | none => s.resetCell p (secondsOf s.time.time64) (s.cell i)
    (leaveCap i (s.setCell i c)).bump Code.cellRebuilds p

/-- A read that meets a bad word of a cell: no data, the fault again, and the rebuild (R48, R259). -/
def cellReadError (i master : Nat) (s : State) : State :=
  let w := if s.isBad 0 (2 * i) then 2 * i else 2 * i + 1
  rebuildCell i (sramUncorrectable 0 w accRead master s)

/-- Reads every cell of a range: those with a word marked bad are rebuilt (R48, R259). -/
def mendRange (r : Range) (master : Nat) (s : State) : State :=
  forAll ((s.test.badWords.filter (fun w => w.1 == 0 && r.has (w.2 / 2))).map (fun w => w.2 / 2))
    (fun i t => if t.cellBad i then cellReadError i master t else t) s

/-! ## Layout and reload -/

/-- Lays out a range over `n` points and resets its cells (R248, R256). With `keep` a masked cell takes the band and the
new bench only (R257 step 4). -/
def layoutRange (p : Nat) (b keep : Bool) (n second : Nat) (s0 : State) : State :=
  let r := s0.rangeOf p b
  let s := if keep then mendRange r 0 s0 else s0
  let l : Layout := { points := n, thresh := s.regN Code.defThresh p, hyst := s.regN Code.defHyst p,
                      var := s.regN Code.varInit p, time := second % 2 ^ 32, page := s.time.page }
  let f := fun (i : Nat) (old : Cell) =>
    let band := layoutBand i r.count n
    let placed : Cell := { old with start := band.1, width := band.2 }
    if keep && old.state == 4 then { placed with bench := s.benchOf p placed }
    else s.resetCell p second { placed with thresh := l.thresh, hyst := l.hyst }
  setShaped p b false (remake (s.comparePoints p).isSome p b l f (leaveCaps r keep s))

/-- Resets the cells of a range on the bands they have; a masked one takes the new bench only (R257). -/
def resetRange (p : Nat) (b : Bool) (second : Nat) (s0 : State) : State :=
  let s := mendRange (s0.rangeOf p b) 0 s0
  let l : Layout := { s.layoutOf p b with var := s.regN Code.varInit p, time := second % 2 ^ 32, page := s.time.page }
  let f := fun (_ : Nat) (c : Cell) =>
    if c.state = 4 then { c with bench := s.benchOf p c } else s.resetCell p second c
  remake (s.comparePoints p).isSome p b l f (leaveCaps (s.rangeOf p b) true s)

/-- Puts a written range into force at a run start: cells that leave it are cleared, the new ones laid out and reset
(R247). -/
def takeRange (p : Nat) (b : Bool) (s : State) : State :=
  let s1 := putCells (s.rangeOf p b) [] (leaveCaps (s.rangeOf p b) false s)
  layoutRange p b false (s.cfgValid p) (secondsOf s.time.time64) (tidyPool (setRange p b (s.rangeWritten p b) s1))

/-- The ranges that wait for a run start of a port (R247). -/
def takeRanges (p : Nat) (s : State) : State :=
  let s1 := if s.cells.pendingA.contains p then takeRange p false s else s
  let s2 := if s.cells.pendingB.contains p then takeRange p true s1 else s1
  { s2 with cells := { s2.cells with pendingA := dropFrom p s2.cells.pendingA, pendingB := dropFrom p s2.cells.pendingB } }

/-- An accepted write of CELL_ALLOC_A or CELL_ALLOC_B (R247). -/
def rangeAccepted (p : Nat) (b : Bool) (s : State) : State :=
  if b then { s with cells := { s.cells with pendingB := addTo p s.cells.pendingB } }
  else { s with cells := { s.cells with pendingA := addTo p s.cells.pendingA } }

/-- A write of CELL_LAYOUT: 1 range A, 2 range B, 3 both (R248; the reset is DEDUCED, notes/assumptions/14). -/
def cellLayoutWrite (p v : Nat) (s : State) : State :=
  let now := secondsOf s.time.time64
  let s1 := if v.testBit 0 then layoutRange p false false (s.cfgValid p) now s else s
  if v.testBit 1 then layoutRange p true false (s.cfgValid p) now s1 else s1

/-! ## The update -/

/-- A state change of a cell by an update (R254, R260). -/
structure CellChange where
  idx : Nat
  inB : Bool
  old : Nat
  new : Nat
  kind : Nat
  resid : Int
  lo : Nat
  hi : Nat
deriving DecidableEq, Repr

/-- Kind from a residual (R253). -/
def kindOf (r : Int) (level : Nat) : Nat :=
  if r < 0 then (if r.natAbs < level then 0 else 2) else (if r.natAbs < level then 3 else 1)

/-- The threshold test of R252. -/
def exceeds (r : Int) (c : Cell) (k : Nat) : Bool :=
  decide (4 * c.thresh ≤ r.natAbs) && decide (k * k * c.var ≤ 256 * r.natAbs * r.natAbs)

/-- The clear test of R252. -/
def clears (r : Int) (c : Cell) (k : Nat) : Bool :=
  decide (16 * r.natAbs < 4 * c.thresh * (16 - c.hyst)) ||
    decide (256 * r.natAbs * r.natAbs * 16 * 16 < k * k * c.var * (16 - c.hyst) * (16 - c.hyst))

/-- One row of R254's table: the transition, and whether it is taken. -/
def transition (src dst second page : Nat) (on : Cell → Bool) (x : Cell × List (Nat × Nat)) : Cell × List (Nat × Nat) :=
  if x.1.state = src ∧ on x.1 = true then ({ x.1 with state := dst, time := second, page := page }, x.2 ++ [(src, dst)])
  else x

/-- The transitions of R254, checked in the table's order, each once (DEDUCED, notes/assumptions/14). -/
def transitions (exceed : Bool) (alarmCount confirm second page : Nat) (c : Cell) : Cell × List (Nat × Nat) :=
  transition 2 0 second page (fun c => decide (c.count = 0))
    (transition 2 3 second page
      (fun c => decide (c.count = 15) && decide (confirm ≤ (second + 2 ^ 32 - c.time) % 2 ^ 32))
      (transition 1 0 second page (fun c => decide (c.count = 0))
        (transition 1 2 second page (fun c => decide (alarmCount ≤ c.count))
          (transition 0 1 second page (fun _ => exceed) (c, [])))))

/-- Learning of a quiet cell that does not exceed (R252): the cell, and whether its drift would pass the cap. -/
def learn (r : Int) (driftCount driftCap varShift : Nat) (c : Cell) : Cell × Bool :=
  let res := c.residue + (if 0 < r then 1 else 0) - (if r < 0 then 1 else 0)
  let up := decide ((driftCount : Int) ≤ res)
  let down := decide (res ≤ -(driftCount : Int))
  let capped := (up && decide ((driftCap : Int) ≤ c.drift)) || (down && decide (c.drift ≤ -(driftCap : Int)))
  let drift := if up && decide (c.drift < driftCap) then c.drift + 1
               else if down && decide (-(driftCap : Int) < c.drift) then c.drift - 1 else c.drift
  let v := min (16 * r.natAbs * r.natAbs) 65535
  let var := max 4 ((c.var : Int) + ((v : Int) - (c.var : Int)) / (2 ^ varShift : Int))
  ({ c with residue := if up || down then 0 else res, drift := drift, var := var.toNat }, capped)

/-- The update of one cell from a trace (R251–R254): the state with its counters, the cell, and the changes it makes. A cell
that cannot be read is skipped and rebuilt; R376 has no code for a cell updater, and FEC_MASTER is 0 (DESIGN CHOICE,
notes/assumptions/14). -/
def updateCell (p : Nat) (b : Bool) (pts : List Int) (nValid second i : Nat) (c : Cell) (s : State) :
    State × Cell × List CellChange :=
  if s.cellBad i then
    let t := cellReadError i 0 s
    (t, t.cell i, [])
  else
    let band := s.bandOf p c
    if c.state = 3 ∨ c.state = 4 then (s, c, [])
    else if nValid ≤ band.2 ∨ (s.degraded p = true ∧ 8192 ≤ band.2) then (s.bump Code.cellsSkipped p, c, [])
    else
      let k := s.regN Code.sigmaK p
      let r := bandMean pts band.1 band.2 - c.bench - c.drift
      let ex := exceeds r c k
      let count := if ex then min (c.count + 1) 15 else if clears r c k then c.count - 1 else c.count
      let counted : Cell :=
        { c with count := count, kind := if ex then kindOf r (s.regN Code.stepLevel p) else c.kind }
      let m := transitions ex (s.regN Code.alarmCount p) (s.regN Code.confirmTime p) second s.time.page counted
      let cap := s.regN Code.driftCap p
      let l := if m.1.state = 0 ∧ ex = false then learn r (s.regN Code.driftCount p) cap (s.regN Code.varShift p) m.1
               else (m.1, false)
      let s1 := if l.2 then
          (if s.cells.atCap.contains i then s
           else { s with cells := { s.cells with atCap := addTo i s.cells.atCap } }.bump Code.driftCapped p)
        else if l.1.drift.natAbs < cap then leaveCap i s else s
      (s1, l.1, m.2.map (fun t =>
        { idx := i, inB := b, old := t.1, new := t.2, kind := l.1.kind, resid := r, lo := band.1, hi := band.2 }))

/-- Updates cells in turn; gives the state, the cells and the changes (R251). -/
def updateEach (f : Nat → Cell → State → State × Cell × List CellChange) (cs : Tab Cell) (s : State) :
    State × Tab Cell × List CellChange :=
  match cs with
  | [] => (s, [], [])
  | (i, c) :: rest =>
    let x := f i c s
    let y := updateEach f rest x.1
    (y.1, (i, x.2.1) :: y.2.1, x.2.2 ++ y.2.2)

/-- Recomputes the bench of every cell of a port when it enters or leaves the degraded state (R258). -/
def rebench (p : Nat) (s0 : State) : State :=
  let was := s0.cells.degraded.contains p
  if was = s0.degraded p then s0
  else
    let s := mendRange (s0.rangeOf p true) 0 (mendRange (s0.rangeOf p false) 0 s0)
    let f := fun (_ : Nat) (c : Cell) => { c with bench := s.benchOf p c }
    let one := fun (b : Bool) (t : State) => remake (s.comparePoints p).isSome p b (t.layoutOf p b) f t
    let s1 := one true (one false s)
    { s1 with cells := { s1.cells with
        degraded := if was then dropFrom p s1.cells.degraded else addTo p s1.cells.degraded } }

/-- Updates the cells of a range from a trace, ascending (R251). -/
def updateRange (p : Nat) (b : Bool) (pts : List Int) (nValid second : Nat) (s : State) : State × List CellChange :=
  let x := updateEach (updateCell p b pts nValid second) (s.rangeCells p b) s
  (putCells (s.rangeOf p b) x.2.1 x.1, x.2.2)

/-- Updates every cell of a port from an offered trace: range A before range B (R251). -/
def updateCells (p : Nat) (pts : List Int) (nValid time : Nat) (s : State) : State × List CellChange :=
  let x := updateRange p false pts nValid (secondsOf time) (rebench p s)
  let y := updateRange p true pts nValid (secondsOf time) x.1
  (y.1, x.2 ++ y.2)

/-! ## Reports -/

/-- A report as 32 bytes, little-endian or most significant byte first (R261). -/
def reportBytes (big : Bool) (r : Report) : List Byte :=
  fieldBytes big 8 r.time ++ fieldBytes big 3 r.firstCell ++ [byteOf r.port] ++ fieldBytes big 2 r.cells ++
    [byteOf (r.newState + r.oldState * 8 + r.kind * 64), byteOf r.flags] ++ fieldBytes big 4 r.peak ++
    fieldBytes big 4 r.fromDm ++ fieldBytes big 4 r.toDm ++ fieldBytes big 2 (twos 16 r.residual) ++ fieldBytes big 2 r.seq

/-- Sends a report under the next number: ALARM_LOG and status message 06h (R260, R266, R316). -/
def sendReport (r : Report) (s : State) : State :=
  let r' : Report := { r with seq := s.cells.seq }
  portStatus 6 r.port 0 0 (reportBytes true r')
    { s with cells := { s.cells with log := (r' :: s.cells.log).take 256, seq := (s.cells.seq + 1) % 65536 } }

/-- The content of ALARM_LOG 5140.01, newest first (R266). -/
def State.alarmLogBytes (s : State) : List Byte := s.cells.log.flatMap (reportBytes false)

/-- A run of merged changes (R260). -/
structure ChangeRun where
  first : CellChange
  last : CellChange
  peak : CellChange
  cells : Nat
  lo : Nat
  hi : Nat
deriving DecidableEq, Repr

/-- Whether a change continues a run (R260). -/
def ChangeRun.takes (r : ChangeRun) (c : CellChange) : Bool :=
  c.inB == r.last.inB && c.idx == r.last.idx + 1 && c.old == r.last.old && c.new == r.last.new && c.kind == r.last.kind &&
    decide (c.lo ≤ r.last.hi + 1) && decide (r.last.lo ≤ c.hi + 1)

/-- Takes a change into the runs so far, newest run first (R260). -/
def mergeChange (rs : List ChangeRun) (c : CellChange) : List ChangeRun :=
  let fresh : ChangeRun := { first := c, last := c, peak := c, cells := 1, lo := c.lo, hi := c.hi }
  match rs with
  | [] => [fresh]
  | r :: rest =>
    if r.takes c then
      { r with last := c, peak := if r.peak.resid.natAbs < c.resid.natAbs then c else r.peak, cells := r.cells + 1,
               lo := min r.lo c.lo, hi := max r.hi c.hi } :: rest
    else fresh :: r :: rest

/-- The runs of a trace's changes in ascending cell index: changes of one transition form runs together (R260). -/
def changeRuns (cs : List CellChange) : List ChangeRun :=
  let kinds := [(0, 1), (1, 2), (1, 0), (2, 3), (2, 0)]
  sortBy (fun a b => decide (a.first.idx ≤ b.first.idx))
    (kinds.flatMap (fun k => ((cs.filter (fun c => c.old == k.1 && c.new == k.2)).foldl mergeChange []).reverse))

/-- Chainage, 0.1 m, of a point of a port under the settings in force (R231). -/
def State.pointDm (s : State) (p eff n : Nat) : Nat := (chainage eff (s.port p).latch.vf (n : Int) 1).toNat

/-- The located peak of a run, 0.1 m (R260). -/
def State.peakDm (s : State) (p eff nValid : Nat) (pts : List Int) (r : ChangeRun) : Nat :=
  let cmp := (s.comparePoints p).getD []
  let y := fun (n : Nat) => pointOf pts n - pointOf cmp n
  let lo := r.peak.lo - 1
  let hi := min (r.peak.hi + 1) (nValid - 1)
  match largestBy (fun n => ((y n).natAbs : Int)) (span lo (hi + 1 - lo)) with
  | none => 0
  | some k =>
    if k = 0 ∨ k + 1 = nValid then s.pointDm p eff k
    else
      let pos := locate y k
      (chainage eff (s.port p).latch.vf pos.1 pos.2).toNat

/-- The report of one run (R260, R261). -/
def State.runReport (s : State) (p eff nValid time flags : Nat) (pts : List Int) (r : ChangeRun) : Report :=
  { time := time, firstCell := r.first.idx, port := p, cells := min r.cells 65535, newState := r.first.new,
    oldState := r.first.old, kind := r.first.kind, flags := flags, peak := s.peakDm p eff nValid pts r,
    fromDm := s.pointDm p eff r.lo, toDm := s.pointDm p eff r.hi, residual := r.peak.resid, seq := 0 }

/-- Reports the changes of a trace: runs in ascending cell index within the budget, then one summary (R260). -/
def reportChanges (p eff nValid time : Nat) (oneHalf : Bool) (pts : List Int) (cs : List CellChange) (s : State) : State :=
  let watch := s.regB Code.reportWatch p
  let rs := changeRuns (cs.filter (fun c => watch || !((c.old == 0 && c.new == 1) || (c.old == 1 && c.new == 0))))
  let budget := s.regN Code.reportBudget p
  let flag := if oneHalf then 1 else 0
  let s1 := forAll (rs.take budget) (fun r t => sendReport (t.runReport p eff nValid time flag pts r) t) s
  match rs.drop budget with
  | [] => s1
  | r :: rest =>
    (sendReport { time := time, firstCell := r.first.idx, port := p,
                  cells := min ((r :: rest).foldl (fun n x => n + x.cells) 0) 65535, newState := r.first.new,
                  oldState := r.first.old, kind := r.first.kind, flags := flag + 2, peak := 0, fromDm := 0, toDm := 0,
                  residual := 0, seq := 0 } s1).bump Code.reportsOver p

/-- Whether a trace's changes move a cell into alarm or confirmed (R262). -/
def raisesAlarm (cs : List CellChange) : Bool := cs.any (fun c => c.new == 2 || c.new == 3)

/-- A report of one cell outside a trace: a host write (flag [2], R486) or a restore (flag [3], R263). -/
def cellReport (i p old flags : Nat) (s : State) : State :=
  let c := s.cell i
  let band := s.bandOf p c
  let eff := s.effStep p
  sendReport { time := s.time.time64, firstCell := i, port := p, cells := 1, newState := c.state, oldState := old,
               kind := c.kind, flags := flags + (if (s.port p).trav.half then 1 else 0), peak := 0,
               fromDm := s.pointDm p eff band.1, toDm := s.pointDm p eff band.2, residual := 0, seq := 0 } s

/-! ## Benchmark reload -/

/-- Reloads the cells of a port, all of which can be read, over `n` points, with one report (R257, R486). -/
def reloadMended (p n benchTime : Nat) (s : State) : State :=
  let second := secondsOf benchTime
  let masked := fun (t : State) (b : Bool) => ((t.listedIn (t.rangeOf p b)).filter (fun e => e.2.state == 4)).length
  let count := (s.rangeOf p false).count + (s.rangeOf p true).count - masked s false - masked s true
  let one := fun (b : Bool) (t : State) =>
    if t.hostShaped p b then resetRange p b second t
    else layoutRange p b true n second t
  let s1 := one true (one false s)
  let s2 := { s1 with cells := { s1.cells with
      degraded := if s1.degraded p then addTo p s1.cells.degraded else dropFrom p s1.cells.degraded } }
  let base := if (s2.rangeOf p false).count = 0 then (s2.rangeOf p true).base else (s2.rangeOf p false).base
  sendReport { time := benchTime, firstCell := base, port := p, cells := min count 65535, newState := 0, oldState := 7,
               kind := 0, flags := 16 + (if (s2.port p).trav.half then 1 else 0), peak := 0, fromDm := 0, toDm := 0, residual := 0, seq := 0 } s2

/-- Reloads the cells of a port for a benchmark that takes effect, over `n` points. Cells that cannot be read are rebuilt first (R257,
R259). -/
def reloadCells (p n benchTime : Nat) (s : State) : State :=
  reloadMended p n benchTime (mendRange (s.rangeOf p true) 0 (mendRange (s.rangeOf p false) 0 s))

/-! ## Host writes -/

/-- A host write to a cell makes a snapshot due within 60 s (R263). -/
def snapSoon (s : State) : State := { s with cells := { s.cells with snapDue := true } }

/-- The end of a host write to a cell: a changed state is reported (R254, R486), and a snapshot falls due. -/
def hostWrote (i p old : Nat) (s : State) : State :=
  snapSoon (if (s.cell i).state = old then s else cellReport i p old 4 s)

/-- A write of CELL_STATE: 0 quiet, 4 masked (R256). -/
def writeCellState (i p v : Nat) (s : State) : State :=
  let c := s.cell i
  hostWrote i p c.state (s.setCell i
    { c with state := v, count := if v = 0 then 0 else c.count, time := secondsOf s.time.time64, page := s.time.page })

/-- A write of CELL_START or CELL_WIDTH: the cell is reset on its new band, and its range counts as shaped (R256). -/
def writeCellBand (i p : Nat) (b : Bool) (start width : Nat) (s : State) : State :=
  let c := s.cell i
  hostWrote i p c.state (setShaped p b true (leaveCap i (s.setCell i
    (s.resetCell p (secondsOf s.time.time64) { c with start := start, width := width }))))

/-- A write of CELL_THRESH or CELL_HYST, which resets nothing (R256). -/
def writeCellField (i : Nat) (f : Cell → Cell) (s : State) : State := snapSoon (s.setCell i (f (s.cell i)))

/-- Cells of a range in a state; unlisted cells are quiet. -/
def State.cellsInRange (s : State) (r : Range) (st : Nat) : Nat :=
  let cs := s.listedIn r
  (cs.filter (fun e => e.2.state == st)).length + (if st = 0 then r.count - cs.length else 0)

/-- Cells of a port in a state (R265 CELLS_QUIET to CELLS_MASKED). -/
def State.cellsIn (s : State) (p st : Nat) : Nat :=
  s.cellsInRange (s.rangeOf p false) st + s.cellsInRange (s.rangeOf p true) st

/-- All cells that are not all zeros, ascending (R278). -/
def State.poolCells (s : State) : List (Nat × Cell) :=
  let rs := (allPorts.flatMap (fun p => [(p, false), (p, true)])).filter (fun e => (s.rangeOf e.1 e.2).count ≠ 0)
  (sortBy (fun x y => decide ((s.rangeOf x.1 x.2).base ≤ (s.rangeOf y.1 y.2).base)) rs).flatMap
    (fun e => (s.rangeCells e.1 e.2).filter (fun c => decide (c.2 ≠ {})))

end Sys2Proof.Machine
end

