-- ==== Sys2Proof/Machine/Archive.lean ====
section
/-! DEFINITION. The trace archive: coding and records, placement on the drive, NVMe commands, the hold-up check, commits
and reclaim, bring-up, format and recovery, snapshots, and the search for records (R263, R267–R292). -/

namespace Sys2Proof.Machine

/-! ## Block floating-point coding -/

/-- The exponent of a block of points that are not all 0 (R276). -/
def bfpExponent (xs : List Int) : Nat :=
  ((span 1 15).find? (fun e => xs.all (fun x => decide (-(2 ^ e : Int) ≤ x) && decide (x < (2 ^ e : Int))))).getD 15

/-- The mantissa of a point (R276). -/
def bfpMantissa (e : Nat) (x : Int) : Int := if e ≤ 9 then x * 2 ^ (9 - e) else x / 2 ^ (e - 9)

/-- The bits of one block (R276). -/
def bfpBlock (xs : List Int) : List Bool :=
  if xs.all (fun x => x == 0) then natBits 4 0
  else
    let e := bfpExponent xs
    natBits 4 e ++ xs.flatMap (fun x => natBits 10 (twos 10 (bfpMantissa e x)))

/-- Block `i` of a trace (R276). -/
def traceBlock (pts : List Int) (i : Nat) : List Int := (span (32 * i) 32).map (pointOf pts)

/-- The coded payload of a trace, padded to whole bytes (R276). -/
def bfpEncode (pts : List Int) : List Byte :=
  let bits := (List.range 512).flatMap (fun i => bfpBlock (traceBlock pts i))
  bitsBytes (bits.length / 8 + 1) (bits ++ List.replicate ((8 - bits.length % 8) % 8) false)

/-- The length of the coded payload of a trace, bytes (R276, R277). -/
def bfpLength (pts : List Int) : Nat :=
  ((List.range 512).foldl (fun n i => n + (if (traceBlock pts i).all (fun x => x == 0) then 4 else 324)) 0 + 7) / 8

/-- A point after coding and decoding with exponent `e` (R276). -/
def bfpDecoded (e : Nat) (x : Int) : Int :=
  let m := bfpMantissa e x
  if e ≤ 9 then m / 2 ^ (9 - e) else m * 2 ^ (e - 9) + 2 ^ (e - 10)

/-- A trace as its coded record decodes (R276, R288). -/
def bfpRoundTrip (pts : List Int) : List Int :=
  (List.range 512).flatMap (fun i =>
    let xs := traceBlock pts i
    if xs.all (fun x => x == 0) then xs else xs.map (bfpDecoded (bfpExponent xs)))

/-! ## Records -/

/-- 16,384 points, point 0 first (R244, R275). -/
def rawPoints (pts : List Int) : List Byte := (List.range 16384).flatMap (fun i => leBytes 2 (twos 16 (pointOf pts i)))

/-- The port table of a snapshot, 144 entries of 32 bytes (R278). -/
def snapTable (t : List SnapPort) : List Byte :=
  (List.range 144).flatMap (fun p =>
    let e := atOr t p { benchTime := 0, allocA := 0, allocB := 0, host := 0 }
    leBytes 8 e.benchTime ++ leBytes 8 e.allocA ++ leBytes 8 e.allocB ++ [byteOf e.host] ++ List.replicate 7 0)

/-- The payload of a record (R275, R276, R278). -/
def recPayload (r : Rec) : List Byte :=
  if r.kind = 4 then
    let t := snapTable r.table
    t ++ List.replicate (8064 - t.length) 0 ++ (List.range (2 ^ 20)).flatMap (fun i => cellBytes (Tab.get r.cells i {}))
  else if r.coding = 1 then bfpEncode r.data
  else rawPoints r.data

/-- Blocks of a record (R274, R275). -/
def recordBlocks (kind coding : Nat) (data : List Int) : Nat :=
  if kind = 4 then 4098 else if coding = 1 then ceilDiv (128 + bfpLength data) 4096 else 9

/-- The CRC-32 over bytes of the drive (R115, R272). -/
def driveCrc (bs : List Byte) : Nat := (crc32 (bytesBits bs)).toNat

/-- The 128-byte header of a record (R274). -/
def recHeader (r : Rec) : List Byte :=
  let pl := (recPayload r)
  let h := leBytes 4 0x55424152 ++ [byteOf r.kind, 1] ++ leBytes 2 r.blocks ++ leBytes 8 r.seq ++ leBytes 8 r.time ++
    leBytes 8 r.benchTime ++ [byteOf r.port, byteOf r.step] ++ leBytes 2 r.points ++ leBytes 2 r.flags ++
    [byteOf r.page, byteOf r.tier] ++ leBytes 4 r.ins ++ leBytes 4 r.loopRes ++ leBytes 2 (twos 16 r.galvanic) ++
    leBytes 2 r.vf ++ leBytes 4 r.leadIn ++ [byteOf r.termination, byteOf r.coding] ++ leBytes 2 r.cycles ++
    leBytes 2 r.alarmSeq ++ leBytes 2 0 ++ leBytes 8 r.deviceId ++ leBytes 4 pl.length ++ leBytes 4 (driveCrc pl) ++
    List.replicate 44 0
  h ++ leBytes 4 (driveCrc h)

/-- A record as on the drive: header, payload, zeros to a whole number of blocks (R274). -/
def recBytes (r : Rec) : List Byte :=
  let b := recHeader r ++ (recPayload r)
  b ++ List.replicate (r.blocks * 4096 - b.length) 0

/-- One block of a record (R318). -/
def recBlock (r : Rec) (i : Nat) : List Byte := ((recBytes r).drop (4096 * i)).take 4096

/-- A label block (R272). -/
def labelBytes (l : Label) : List Byte :=
  let h := leBytes 4 0x55424C42 ++ [1, 0, 0, 0] ++ leBytes 8 l.deviceId ++ leBytes 8 l.formatted ++ leBytes 4 l.blocks ++
    leBytes 4 l.permStart ++ leBytes 4 l.permLen ++ leBytes 4 l.fineStart ++ leBytes 4 l.fineLen ++ leBytes 4 l.longStart ++
    leBytes 4 l.longLen ++ [byteOf l.permPct, byteOf l.finePct] ++ List.replicate 4038 0
  h ++ leBytes 4 (driveCrc h)

/-- A journal block (R280). -/
def journalBytes (j : Journal) : List Byte :=
  let ports := (List.range 144).flatMap (fun p =>
    let e := atOr j.ports p { bench := 0, prevBench := 0, longPeriod := 0 }
    leBytes 4 e.bench ++ leBytes 4 e.prevBench ++ leBytes 4 e.longPeriod ++ leBytes 4 0)
  let h := leBytes 4 0x55424A4E ++ [1, 0, 0, 0] ++ leBytes 8 j.seq ++ leBytes 8 j.time ++ leBytes 8 j.nextRec ++
    leBytes 4 j.fineHead ++ leBytes 4 j.fineTail ++ leBytes 4 j.longHead ++ leBytes 4 j.longTail ++ leBytes 4 j.permHead ++
    [byteOf j.snapSlot, 0, 0, 0] ++ leBytes 8 j.snapRec ++ List.replicate 64 0 ++ ports ++ List.replicate 1660 0
  h ++ leBytes 4 (driveCrc h)

/-- A block of the drive: as bring-up found it or as it was written since, and bytes left open elsewhere (R271, R319). -/
def State.driveBlock (s : State) (b : Nat) : List Byte :=
  match Tab.find s.arch.content b with
  | some bs => bs ++ List.replicate (4096 - bs.length) 0
  | none =>
    match s.arch.records.find? (fun r => decide (r.block ≤ b) && decide (b < r.block + r.blocks)) with
    | some r => recBlock r (b - r.block)
    | none => (List.range 4096).map (Config.driveByte b)

/-! ## Reading labels, journals and records -/

/-- A little-endian field of some bytes (R272). -/
def leAt (bs : List Byte) (first n : Nat) : Nat := leVal ((bs.drop first).take n)

/-- Content of a block; empty where nothing is listed. -/
def driveAt (d : Tab (List Byte)) (b : Nat) : List Byte := Tab.get d b []

/-- The label that a block holds: magic, version and CRC valid (R272, R273). -/
def parseLabel (bs : List Byte) : Option Label :=
  if leAt bs 0 4 = 0x55424C42 ∧ leAt bs 4 1 = 1 ∧ leAt bs 4092 4 = driveCrc (bs.take 4092) then
    some { deviceId := leAt bs 8 8, formatted := leAt bs 16 8, blocks := leAt bs 24 4, permStart := leAt bs 28 4,
           permLen := leAt bs 32 4, fineStart := leAt bs 36 4, fineLen := leAt bs 40 4, longStart := leAt bs 44 4,
           longLen := leAt bs 48 4, permPct := leAt bs 52 1, finePct := leAt bs 53 1 }
  else none

/-- The label in use: the first valid copy, label A before label B (R273). -/
def firstLabel (d : Tab (List Byte)) : Option Label := (parseLabel (driveAt d 0)).or (parseLabel (driveAt d 1))

/-- The commit that a journal block holds: magic, version and CRC valid (R280, R287). -/
def parseJournal (bs : List Byte) : Option Journal :=
  if leAt bs 0 4 = 0x55424A4E ∧ leAt bs 4 1 = 1 ∧ leAt bs 4092 4 = driveCrc (bs.take 4092) then
    some { seq := leAt bs 8 8, time := leAt bs 16 8, nextRec := leAt bs 24 8, fineHead := leAt bs 32 4,
           fineTail := leAt bs 36 4, longHead := leAt bs 40 4, longTail := leAt bs 44 4, permHead := leAt bs 48 4,
           snapSlot := leAt bs 52 1, snapRec := leAt bs 56 8,
           ports := allPorts.map (fun p =>
             { bench := leAt bs (128 + 16 * p) 4, prevBench := leAt bs (132 + 16 * p) 4,
               longPeriod := leAt bs (136 + 16 * p) 4 }) }
  else none

/-- The block of a journal, 0–16,383, that an address of either copy stands for (R271). -/
def journalSlot (b : Nat) : Option Nat :=
  if 1024 ≤ b ∧ b < 17408 then some (b - 1024) else if 17408 ≤ b ∧ b < 33792 then some (b - 17408) else none

/-- The valid block with the highest commit_seq of either journal, with its place in the journal (R287 step 1). -/
def newestJournal (d : Tab (List Byte)) : Option (Nat × Journal) :=
  d.foldl (fun best e =>
    match journalSlot e.1, parseJournal e.2 with
    | some k, some j =>
      (match best with
       | some b => if b.2.seq < j.seq then some (k, j) else best
       | none => some (k, j))
    | _, _ => best) none

/-- The points of one block of a coded stream, and the bits that follow it (R276). -/
def bfpDecodeBlock (bits : List Bool) : List Int × List Bool :=
  let e := bitsNat (bits.take 4)
  let rest := bits.drop 4
  if e = 0 then (List.replicate 32 0, rest)
  else
    let x := fun (i : Nat) =>
      let m := untwos 10 (bitsNat ((rest.drop (10 * i)).take 10))
      if e ≤ 9 then m / 2 ^ (9 - e) else m * 2 ^ (e - 9) + 2 ^ (e - 10)
    ((List.range 32).map x, rest.drop 320)

/-- The points of `n` blocks of a coded stream (R276). -/
def bfpDecode : Nat → List Bool → List Int
  | 0, _ => []
  | n + 1, bits => (bfpDecodeBlock bits).1 ++ bfpDecode n (bfpDecodeBlock bits).2

/-- The cell that 16 bytes hold, bit 127 first (R250). -/
def cellOfBytes (bs : List Byte) : Cell :=
  let n := beVal bs
  { start := bitsOf n 127 114, width := bitsOf n 113 108, bench := untwos 16 (bitsOf n 107 92),
    drift := untwos 12 (bitsOf n 91 80), residue := untwos 8 (bitsOf n 79 72), var := bitsOf n 71 56,
    thresh := bitsOf n 55 48, hyst := bitsOf n 47 44, state := bitsOf n 43 41, kind := bitsOf n 40 39,
    count := bitsOf n 38 35, page := bitsOf n 34 33, time := bitsOf n 31 0 }

/-- The cells of a snapshot's payload, those not all zeros listed (R278). -/
def cellsOf (payload : List Byte) : Tab Cell :=
  (List.range (2 ^ 20)).filterMap (fun i =>
    let c := cellOfBytes ((payload.drop (8064 + 16 * i)).take 16)
    if c = {} then none else some (i, c))

/-- The port table of a snapshot's payload (R278). -/
def snapTableOf (payload : List Byte) : List SnapPort :=
  allPorts.map (fun p =>
    { benchTime := leAt payload (32 * p) 8, allocA := leAt payload (32 * p + 8) 8, allocB := leAt payload (32 * p + 16) 8,
      host := leAt payload (32 * p + 24) 1 })

/-- The trace points of a payload (R275, R276). -/
def pointsOfPayload (coding : Nat) (payload : List Byte) : List Int :=
  if coding = 1 then bfpDecode 512 (bytesBits payload)
  else (List.range 16384).map (fun i => untwos 16 (leAt payload (2 * i) 2))

/-- Whether a block begins with a record's magic (R274). -/
def hasRecord (d : Tab (List Byte)) (b : Nat) : Bool := decide (leAt (driveAt d b) 0 4 = 0x55424152)

/-- The record that begins at a block: magic and both CRCs valid (R274, R287 step 2). -/
def recordAt (d : Tab (List Byte)) (b : Nat) : Option Rec :=
  let h := driveAt d b
  let blocks := leAt h 6 2
  let payload := (((span b blocks).flatMap (driveAt d)).drop 128).take (leAt h 72 4)
  if hasRecord d b = true ∧ leAt h 124 4 = driveCrc (h.take 124) ∧ leAt h 76 4 = driveCrc payload then
    let kind := leAt h 4 1
    let coding := leAt h 57 1
    some { kind := kind, blocks := blocks, seq := leAt h 8 8, time := leAt h 16 8, benchTime := leAt h 24 8,
           port := leAt h 32 1, step := leAt h 33 1, points := leAt h 34 2, flags := leAt h 36 2, page := leAt h 38 1,
           tier := leAt h 39 1, ins := leAt h 40 4, loopRes := leAt h 44 4, galvanic := untwos 16 (leAt h 48 2),
           vf := leAt h 50 2, leadIn := leAt h 52 4, termination := leAt h 56 1, coding := coding, cycles := leAt h 58 2,
           alarmSeq := leAt h 60 2, deviceId := leAt h 64 8, block := b,
           data := if kind = 4 then [] else pointsOfPayload coding payload,
           table := if kind = 4 then snapTableOf payload else [], cells := if kind = 4 then cellsOf payload else [] }
  else none

/-! ## The archive as a whole -/

/-- Changes the archive's state. -/
def State.modArch (s : State) (f : ArchSt → ArchSt) : State := { s with arch := f s.arch }

/-- Whether a drive is in service (R290). -/
def State.archOn (s : State) : Bool := decide (s.arch.state = 3)

/-- Whether a drive can be read (R288, R289). -/
def State.archReadable (s : State) : Bool := decide (s.arch.state = 3) || decide (s.arch.state = 4)

/-- A find that is busy when the drive stops being readable (R289). -/
def findLost (x : PathSt) : PathSt := if x.findState = 1 then { x with findState := 4 } else x

/-- Every path's find when the drive stops being readable (R289). -/
def findsLost (s : State) : State :=
  { s with mgmt := { s.mgmt with spi := findLost s.mgmt.spi, oxlA := findLost s.mgmt.oxlA, oxlB := findLost s.mgmt.oxlB } }

/-- Sets ARCH_STATE and ARCH_REASON: state 6 begins the condition of archive-timeout and state 3 ends it (R290, R403
source 35). A search is lost with a drive that can no longer be read (R289). -/
def setArch (st reason : Nat) (s : State) : State :=
  let s0 := if st = 3 ∨ st = 4 then s else findsLost s
  let s1 := s0.modArch (fun a => { a with state := st, reason := if st = 6 then reason else 0 })
  if st = 6 ∧ s.arch.state ≠ 6 then fault 35 [] [(1, reason)] s1
  else if st = 3 then endConditions 35 s1
  else s1

/-! ## NVMe commands -/

/-- Pieces of a long transfer, blocks: 128 KiB, which every drive that meets R267 takes (R267; DESIGN CHOICE,
notes/assumptions/16). -/
def pieceBlocks : Nat := 32

/-- Entries of every submission and completion queue (R269). -/
def queueEntries : Nat := 1024

/-- The MSI-X vector of a completion queue: one of its own, the Admin queue's first (R268; the numbers are
notes/assumptions/16). -/
def msixVector (pair : Nat) : Nat := pair + 1

/-- The Admin commands that set up the 8 I/O queue pairs (R268, R269). -/
def queueSetup : List AdminCmd :=
  [.setQueues 8, .getQueues, .coalescingOff] ++
    (List.range 8).flatMap (fun q => [.createCompletion q queueEntries (msixVector q), .createSubmission q queueEntries]) ++
    [.asyncEvent]

/-- Notes Admin commands as issued (R268). -/
def issueAdmin (cs : List AdminCmd) (s : State) : State := s.modArch (fun a => { a with admin := cs })

/-- The queue pair of a record (R269). -/
def pairOfTier (tier : Nat) : Nat := if tier = 0 then 4 else if tier = 1 then 5 else if tier = 2 then 1 else 2

/-- The queue pair of a piece of a snapshot: pairs 2 and 3 in turn (R269). -/
def snapPair (piece : Nat) : Nat := 2 + piece % 2

/-- The queue pair for a read: of pairs 6 and 7 the one with fewer commands outstanding (R269). -/
def State.readPair (s : State) : Nat :=
  let n := fun (q : Nat) => (s.arch.inFlight.filter (fun x => x.pair == q)).length
  if n 7 < n 6 then 7 else 6

/-- The lowest command identifier that is free on a pair (R269; the choice is notes/assumptions/16). -/
def State.freeCid (s : State) (pair : Nat) : Option Nat :=
  (List.range 1024).find? (fun c => !s.arch.inFlight.any (fun x => x.pair == pair && x.cid == c))

/-- Issues an NVMe command, or lets it wait for a free identifier (R269). -/
def issue (pair : Nat) (job : NvmeJob) (s : State) : State :=
  match s.freeCid pair with
  | some c => s.modArch (fun a => { a with
      inFlight := a.inFlight ++ [{ pair := pair, cid := c, job := job, issued := s.time.tick }] })
  | none => s.modArch (fun a => { a with toIssue := a.toIssue ++ [(pair, job)] })

/-- Issues the oldest command that waits for an identifier of a pair (R269). -/
def issueNext (pair : Nat) (s : State) : State :=
  match s.arch.toIssue.find? (fun x => x.1 == pair) with
  | none => s
  | some x => issue pair x.2 (s.modArch (fun a => { a with toIssue := a.toIssue.erase x }))

/-- The record that a job writes, where it writes one. -/
def jobRecord (j : NvmeJob) : Option Rec :=
  match j with
  | .record r => some r
  | _ => none

/-- The command of a job as it stands in a submission queue: journal writes use FUA (R268, R278, R280). -/
def State.entryOf (s : State) (j : NvmeJob) : NvmeEntry :=
  let snapAt := (s.arch.snapshot.map (fun r => r.block)).getD 0
  let e := fun (opcode : Nat) (fua : Bool) (block count : Nat) =>
    ({ opcode := opcode, fua := fua, nsid := 1, psdt := 0, block := block, count := count } : NvmeEntry)
  match j with
  | .record r => e 1 false r.block r.blocks
  | .snapCells first => e 1 false (snapAt + first) pieceBlocks
  | .snapHead => e 1 false snapAt 2
  | .journalA _ => e 1 true (1024 + s.arch.journalAt) 1
  | .journalB _ => e 1 true (17408 + s.arch.journalAt) 1
  | .zeroJournal first => e 1 false first pieceBlocks
  | .labelB _ => e 1 false 1 1
  | .labelA _ => e 1 false 0 1
  | .bulkRead _ _ b => e 2 false b 1
  | .find _ b => e 2 false b pieceBlocks

/-- Records whose writes are issued and not completed, in order of rec_seq. -/
def State.writing (s : State) : List Rec :=
  sortBy (fun a b => decide (a.seq ≤ b.seq))
    (s.arch.inFlight.filterMap (fun c => jobRecord c.job) ++ s.arch.toIssue.filterMap (fun x => jobRecord x.2) ++
      s.arch.snapshot.toList)

/-! ## Areas -/

/-- First block and length of a ring (R271): fine, or long. -/
def State.ringArea (s : State) (tier : Nat) : Nat × Nat :=
  match s.arch.label with
  | none => (0, 0)
  | some l => if tier = 0 then (l.fineStart, l.fineLen) else (l.longStart, l.longLen)

/-- The committed tail of a ring. -/
def State.ringTail (s : State) (tier : Nat) : Nat := if tier = 0 then s.arch.fineTail else s.arch.longTail
/-- The next block of a ring to place a record at. -/
def State.ringHead (s : State) (tier : Nat) : Nat := if tier = 0 then s.arch.fineHead else s.arch.longHead

/-- Records of a tier that stand on the drive or are being written, in order of rec_seq. -/
def State.tierRecords (s : State) (tier : Nat) : List Rec :=
  sortBy (fun a b => decide (a.seq ≤ b.seq))
    ((s.arch.records ++ s.writing).filter (fun r => r.tier == tier && r.kind != 4))

/-- The time of the oldest record of a tier on the drive; 0 without one (FINE_OLDEST, LONG_OLDEST, R290). -/
def State.oldestTime (s : State) (tier : Nat) : Nat :=
  ((sortBy (fun a b => decide (a.seq ≤ b.seq)) (s.arch.records.filter (fun r => r.tier == tier && r.kind != 4))).head?.map
    (fun r => r.time)).getD 0

/-- Where a record of `n` blocks is placed in a ring: never across its end, never over what lies between tail and head;
none where it does not fit (R282). -/
def ringPlace (start len head tail : Nat) (empty : Bool) (n : Nat) : Option Nat :=
  let e := start + len
  if empty then (if head + n ≤ e then some head else if n ≤ len then some start else none)
  else if tail < head then (if head + n ≤ e then some head else if start + n ≤ tail then some start else none)
  else if head + n ≤ tail then some head
  else none

/-- The new tail of a ring that reclaims at least 65,536 blocks of whole oldest records, with the lowest rec_seq kept
(R282). -/
def State.reclaimTo (s : State) (tier : Nat) : Nat × Nat :=
  let a := s.ringArea tier
  let tail := s.ringTail tier
  let done := sortBy (fun x y => decide (x.seq ≤ y.seq)) (s.arch.records.filter (fun r => r.tier == tier && r.kind != 4))
  let marks := ((s.tierRecords tier).map (fun r => (r.block, r.seq)) ++ [(s.ringHead tier, s.arch.nextSeq)]).drop 1
  let far := fun (b : Nat) => decide (65536 ≤ (b + a.2 - tail) % (max a.2 1))
  let usable := marks.take done.length
  match usable.find? (fun m => far m.1) with
  | some m => m
  | none => usable.getLast?.getD (tail, 0)

/-- Lets a ring reclaim: the new tail waits for a commit (R281, R282). -/
def startReclaim (tier : Nat) (s : State) : State :=
  if tier = 0 then
    (if s.arch.reclaimFine.isSome ∨ s.arch.commitFine.isSome then s
     else s.modArch (fun a => { a with reclaimFine := some (s.reclaimTo 0), commitDue := true }))
  else if s.arch.reclaimLong.isSome ∨ s.arch.commitLong.isSome then s
  else s.modArch (fun a => { a with reclaimLong := some (s.reclaimTo 1), commitDue := true })

/-- End of the permanent region. -/
def State.permEnd (s : State) : Nat := (s.arch.label.map (fun l => l.permStart + l.permLen)).getD 0

/-- Permanent blocks reserved for captures (R283). -/
def State.permReserved (s : State) : Nat := allPorts.foldl (fun n p => n + (s.port p).trav.reserved) 0

/-- PERM_FREE 5801.04: free permanent blocks, reservations removed (R290). -/
def State.permFree (s : State) : Nat := s.permEnd - s.arch.permHead - s.permReserved

/-- Writes a record into its area under the next rec_seq (R274, R275, R282). -/
def writeRecord (r : Rec) (s : State) : State :=
  let put := fun (b : Nat) (t : State) =>
    issue (pairOfTier r.tier) (.record { r with seq := t.arch.nextSeq, block := b })
      (t.modArch (fun a => { a with nextSeq := a.nextSeq + 1 }))
  if r.tier = 2 then
    put s.arch.permHead (s.modArch (fun a => { a with permHead := a.permHead + r.blocks }))
  else
    let a := s.ringArea r.tier
    let waits :=
      if r.tier = 0 then s.arch.reclaimFine.isSome || s.arch.commitFine.isSome
      else s.arch.reclaimLong.isSome || s.arch.commitLong.isSome
    match (if waits then none
           else ringPlace a.1 a.2 (s.ringHead r.tier) (s.ringTail r.tier) (s.tierRecords r.tier).isEmpty r.blocks) with
    | some b =>
      put b (s.modArch (fun x => if r.tier = 0 then { x with fineHead := b + r.blocks }
                                 else { x with longHead := b + r.blocks }))
    | none => startReclaim r.tier (s.modArch (fun x => { x with blocked := x.blocked ++ [r] }))

/-! ## Traces of a port -/

/-- The long period of a time (R275). -/
def State.longPeriodOf (s : State) (time : Nat) : Nat := time / (s.regN Code.longInterval 0 * secondTicks)

/-- The long period of a port's last long-ring record, those being written included (R275). -/
def State.lastLong (s : State) (p : Nat) : Option Nat :=
  ((s.writing ++ s.arch.blocked).filter (fun r => r.tier == 1 && r.kind == 1 && r.port == p)).foldl
    (fun m r => some (max (m.getD 0) (s.longPeriodOf r.time))) ((s.port p).trav.longAt.map s.longPeriodOf)

/-- The tiers into which a routine trace is to be written: fine, long (R275, ARCH_ROUTINE). -/
def State.routineTiers (s : State) (p time : Nat) : List Nat :=
  let ar := s.regN Code.archRoutine p
  let due := match s.lastLong p with
    | none => true
    | some l => decide (l < s.longPeriodOf time)
  (if ar = 1 then [0] else []) ++ (if ar ≠ 0 ∧ due = true then [1] else [])

/-- Starts the writes of a routine trace (R275). -/
def startRoutine (p : Nat) (r : Rec) (s : State) : State :=
  let ts := s.routineTiers p r.time
  let s1 := forAll ts (fun t u => writeRecord { r with tier := t } u) s
  s1.modTrav p (fun x => { x with waiting := none, writing := !ts.isEmpty })

/-- Passes a trace to the archive (R230, R275, R279). -/
def archiveRoutine (p : Nat) (r : Rec) (s : State) : State :=
  let ts := s.routineTiers p r.time
  if ts.isEmpty then s
  else if !s.archOn then s.bumpBy Code.recordsUnwritten 0 ts.length
  else if (s.port p).trav.writing then
    (if (s.port p).trav.waiting.isSome then s.bump Code.recordsLate 0 else s).modTrav p (fun x => { x with waiting := some r })
  else startRoutine p r s

/-- Writes a benchmark to the permanent region, into the blocks reserved for it (R241, R275, R283). -/
def archiveBench (p : Nat) (r : Rec) (s : State) : State :=
  let s1 := s.modTrav p (fun x => { x with reserved := 0 })
  if s.archOn then writeRecord { r with tier := 2 } s1 else s1.bump Code.recordsUnwritten 0

/-- Writes an alarm capture to the permanent region where 9 blocks are free (R262, R275, R283). -/
def archiveAlarm (p : Nat) (r : Rec) (s : State) : State :=
  if !s.archOn then s.bump Code.recordsUnwritten 0
  else if s.permFree < 9 then fault 36 [p] [(1, p)] (s.bump Code.permRefused 0)
  else writeRecord { r with tier := 2 } s

/-- Whether a routine record of a port is still being written or waits for a reclaim. -/
def State.routineBusy (s : State) (p : Nat) : Bool :=
  (s.writing ++ s.arch.blocked).any (fun r => r.kind == 1 && r.port == p)

/-! ## Hold-up check -/

/-- The hold-up check of R284 on a reading of HOLDUP_SNS: whether the store starts, and the state with HOLDUP_V, HOLDUP_E
and the counts. `commit` tells a commit from a page program. -/
def holdupCheck (commit : Bool) (microVolt : Nat) (s : State) : Bool × State :=
  let cap := s.regN Code.holdupCap 0
  let x := microVolt * s.regN Code.holdupDiv 0
  let req := s.regN (if commit then Code.holdupArchReq else Code.holdupNvmReq) 0
  let mV := x / (65536 * 1000)
  let mJ := (roundDiv ((cap * x * x : Nat) : Int) (2 * 10 ^ 15 * 65536 * 65536)).toNat
  let s1 := { s with hold := { s.hold with volt := mV, energy := min mJ (2 ^ 32 - 1) } }
  let passed := fun (t : State) =>
    let u := { t with hold := { t.hold with
        low := false, archFrom := if commit then none else t.hold.archFrom,
        nvmFrom := if commit then t.hold.nvmFrom else none } }
    if t.hold.low then endConditions 33 u else u
  if cap = 0 then
    let s2 := passed (s1.bump Code.holdupBypasses 0)
    (true, if s.hold.told then s2 else fault 34 [] [] { s2 with hold := { s2.hold with told := true } })
  else if req * (2 * 10 ^ 15 * 65536 * 65536) ≤ cap * x * x then (true, passed s1)
  else
    let from_ := (if commit then s.hold.archFrom else s.hold.nvmFrom).getD s.time.tick
    let s2 := s1.bump (if commit then Code.archRefusals else Code.nvmRefusals) 0
    let s3 := { s2 with hold := { s2.hold with
        archFrom := if commit then some from_ else s2.hold.archFrom,
        nvmFrom := if commit then s2.hold.nvmFrom else some from_ } }
    if s.elapsed from_ (10 * secondTicks) ∧ s.hold.low = false then
      (false, fault 33 [] [(1, if commit then 2 else 1), (4, s3.hold.energy)]
        { s3 with hold := { s3.hold with low := true } })
    else (false, s3)

/-! ## Commits -/

/-- The block of a benchmark's record on the drive; 0 means none (R280). -/
def State.benchBlock (s : State) (p : Nat) (b : Option Bench) : Nat :=
  match b with
  | none => 0
  | some x =>
    ((s.arch.records.find? (fun r => r.kind == 2 && r.port == p && r.time == x.time)).map (fun r => r.block)).getD 0

/-- A head as a commit names it: up to the first record whose write has not completed (R281). -/
def State.committedHead (s : State) (tier head : Nat) : Nat :=
  match s.writing.find? (fun r => r.tier == tier && r.kind != 4) with
  | some r => r.block
  | none => head

/-- A journal's entry of a port. -/
def journalPort (j : Option Journal) (p : Nat) : JournalPort :=
  (j.map (fun x => atOr x.ports p { bench := 0, prevBench := 0, longPeriod := 0 })).getD
    { bench := 0, prevBench := 0, longPeriod := 0 }

/-- The journal block of the next commit (R280). A port that has not been restored keeps its entry. -/
def State.nextJournal (s : State) : Journal :=
  let a := s.arch
  { seq := (a.journal.map (fun j => j.seq)).getD 0 + 1, time := s.time.time64,
    nextRec := (s.writing.head?.map (fun r => r.seq)).getD a.nextSeq,
    fineHead := s.committedHead 0 a.fineHead, fineTail := (a.reclaimFine.map (fun x => x.1)).getD a.fineTail,
    longHead := s.committedHead 1 a.longHead, longTail := (a.reclaimLong.map (fun x => x.1)).getD a.longTail,
    permHead := s.committedHead 2 a.permHead,
    snapSlot := (a.snap.map (fun x => x.1)).getD 255, snapRec := (a.snap.map (fun x => x.2)).getD 0,
    ports := allPorts.map (fun p =>
      if (s.port p).trav.restored then
        { bench := s.benchBlock p (s.port p).trav.bench, prevBench := s.benchBlock p (s.port p).trav.previous,
          longPeriod := ((s.port p).trav.longAt.map s.longPeriodOf).getD 0 }
      else journalPort a.journal p) }

/-- Whether a commit falls due (R281). -/
def State.commitReady (s : State) : Bool :=
  (s.archOn || (s.arch.formatting.isSome && decide (s.arch.zeroLeft = 0)) || s.arch.recovering) &&
    decide (s.arch.committing = 0) &&
    (s.arch.commitDue ||
      (match s.arch.commitFrom with
       | some t => s.elapsed t (s.regN Code.commitInterval 0 * secondTicks)
       | none => false))

/-- ARCHIVE_COMMIT (R280, R281, R284): after the hold-up check the commit goes to journal A. -/
def archiveCommit (microVolt : Nat) (s : State) : State :=
  if s.commitReady then
    let c := holdupCheck true microVolt s
    if c.1 then
      let t := c.2
      issue 0 (.journalA t.nextJournal)
        (t.modArch (fun a => { a with
          committing := 1, commitDue := false, commitFrom := none, commitFine := a.reclaimFine, commitLong := a.reclaimLong,
          reclaimFine := none, reclaimLong := none }))
    else c.2
  else s

/-- Drops the records that a reclaim has given up (R282). -/
def dropReclaimed (tier : Nat) (keep : Option (Nat × Nat)) (rs : List Rec) : List Rec :=
  match keep with
  | none => rs
  | some k => rs.filter (fun r => !(r.tier == tier && r.kind != 4 && decide (r.seq < k.2)))

/-! ## Completions -/

/-- A record stands on the drive (R275, R281, R291). -/
def recordDone (r : Rec) (s : State) : State :=
  let s1 := (s.bump Code.recordsWritten 0).modArch (fun a => { a with
    records := a.records ++ [r], content := a.content.filter (fun e => !(decide (r.block ≤ e.1) && decide (e.1 < r.block + r.blocks))),
    commitFrom := some (a.commitFrom.getD s.time.tick),
    commitDue := a.commitDue || r.tier == 2 })
  if r.kind = 2 then
    s1.modTrav r.port (fun x => { x with
      bench := x.bench.map (fun b => if b.time = r.time then { b with recSeq := r.seq } else b)
      previous := x.previous.map (fun b => if b.time = r.time then { b with recSeq := r.seq } else b) })
  else if r.kind = 1 then
    let s2 := s1.modTrav r.port (fun x => { x with
      last := x.last.map (fun t =>
        if t.time = r.time ∧ (t.recSeq = 0 ∨ r.tier < t.tier) then { t with recSeq := r.seq, tier := r.tier } else t)
      writing := s1.routineBusy r.port
      longAt := if r.tier = 1 then some r.time else x.longAt })
    match (s2.port r.port).trav.writing, (s2.port r.port).trav.waiting with
    | false, some w => startRoutine r.port w s2
    | _, _ => s2
  else s1

/-- The slot of a snapshot by its first block (R271). -/
def snapSlotOf (r : Rec) : Nat := (r.block - 33792) / 4098

/-! ## Restore -/

/-- The newest complete snapshot whose benchmark time for a port is the given one (R263). -/
def State.matchingSnap (s : State) (p benchTime : Nat) : Option Rec :=
  (s.arch.records.filter (fun r => r.kind == 4 &&
      (atOr r.table p { benchTime := 0, allocA := 0, allocB := 0, host := 0 }).benchTime == benchTime)).foldl
    (fun best r => match best with
      | none => some r
      | some b => if b.seq < r.seq then some r else best) none

/-- n_valid for a layout at start-up: the committed step code and traverse window, both halves (R263). -/
def State.startValid (s : State) (p : Nat) : Nat :=
  nValidOf (s.committedN Code.travWindow p) (s.committedN Code.travStep p) (s.committedN Code.travStep p)

/-- The benchmark that a record holds (R241, R274). -/
def benchOfRecord (r : Rec) : Bench :=
  { points := r.data, time := r.time, nValid := r.points, step := r.step, effStep := r.step, leadIn := r.leadIn,
    termination := r.termination, ins := r.ins, loopRes := r.loopRes, recSeq := r.seq }

/-- The benchmark of the record that starts at a block; block 0 means none (R280). -/
def State.benchAt (s : State) (p block : Nat) : Option Bench :=
  if block = 0 then none
  else (s.arch.records.find? (fun r => r.kind == 2 && r.port == p && r.block == block)).map benchOfRecord

/-- Restores the benchmarks, the long period and the cells of one port, once after start-up (R263, R280): from a matching
snapshot with the ranges of its port table, or else with the ranges of the persistence area. A restored cell in alarm or
confirmed is reported once. -/
def restorePort (p : Nat) (s : State) : State :=
  if (s.port p).trav.restored then s
  else
    let e := journalPort s.arch.journal p
    let s1 := s.modTrav p (fun x => { x with
      restored := true, bench := s.benchAt p e.bench, previous := s.benchAt p e.prevBench })
    let bt := s1.benchTimeNow p
    match s1.matchingSnap p bt with
    | none => reloadCells p (s1.startValid p) bt s1
    | some r =>
      let x := atOr r.table p { benchTime := 0, allocA := 0, allocB := 0, host := 0 }
      let s2 := setRange p true (rangeOfWord x.allocB) (setRange p false (rangeOfWord x.allocA)
        (s1.setReg Code.layoutHost p (x.host % 4 : Nat)))
      let one := fun (b : Bool) (t : State) =>
        remake true p b (t.layoutOf p b) (fun i _ => t.snapCell r p ((t.rangeOf p b).base + i)) t
      let s4 := one true (one false s2)
      let s3 := { s4 with cells := { s4.cells with
          degraded := if s4.degraded p then addTo p s4.cells.degraded else dropFrom p s4.cells.degraded } }
      let alarmed := fun (b : Bool) => (s3.listedIn (s3.rangeOf p b)).filter (fun e => e.2.state == 2 || e.2.state == 3)
      forAll (alarmed false ++ alarmed true) (fun e t => cellReport e.1 p e.2.state 8 t) s3

/-- The rec_seq of the device's own record of a port, a kind and a time on the drive; 0 without one (R291). -/
def State.seqOf (s : State) (p kind time : Nat) : Nat :=
  ((s.arch.records.find? (fun r => r.kind == kind && r.port == p && r.time == time && r.deviceId == Config.serial)).map
    (fun r => r.seq)).getD 0

/-- TRACE_TIME of a port's newest long-ring record on the drive, or the start of the long period that the journal names (R275,
R280). -/
def State.longOnDrive (s : State) (p : Nat) : Option Nat :=
  let times := (s.arch.records.filter (fun r => r.kind == 1 && r.tier == 1 && r.port == p)).map (fun r => r.time)
  let named := (journalPort s.arch.journal p).longPeriod
  match times with
  | [] => if named = 0 then none else some (named * (s.regN Code.longInterval 0 * secondTicks))
  | t :: rest => some (rest.foldl max t)

/-- Holds what a port keeps of its records against the drive as it now stands: TRACE_REC_SEQ of its traces, and its last long-ring
record (R275, R291). -/
def reseatPort (p : Nat) (s : State) : State :=
  let bench := fun (b : Bench) => { b with recSeq := s.seqOf p 2 b.time }
  s.modTrav p (fun x => { x with
    bench := x.bench.map bench, previous := x.previous.map bench,
    last := x.last.map (fun t => { t with recSeq := s.seqOf p 1 t.time }),
    longAt := s.longOnDrive p })

/-- The archive goes into service (R273, R287). -/
def enterService (s : State) : State := forAll allPorts (fun p t => reseatPort p (restorePort p t)) (setArch 3 0 s)

/-- Notes what a block of the drive holds. -/
def keepBlock (b : Nat) (bs : List Byte) (s : State) : State :=
  s.modArch (fun a => { a with content := Tab.put a.content b bs })

/-- A commit whose second copy is written: it counts, new tails stand, and records that waited are written (R281, R282);
after a format's first commit the labels follow (R273), and after a restart's commit the archive is in service (R287). -/
def commitDone (j : Journal) (s : State) : State :=
  let a := s.arch
  let s1 := (s.bump Code.archCommits 0).modArch (fun x => { x with
    committing := 0, journal := some j, lastCommit := j.time, journalAt := (x.journalAt + 1) % 16384
    fineTail := j.fineTail, longTail := j.longTail
    records := dropReclaimed 1 a.commitLong (dropReclaimed 0 a.commitFine x.records)
    commitFine := none, commitLong := none, blocked := [], recovering := false })
  match a.formatting with
  | some l => issue 0 (.labelB l) s1
  | none => if a.recovering then enterService s1 else forAll a.blocked writeRecord s1

/-- A piece of the snapshot's cells is written: after the last one the header follows, with the end of the copy (R278). -/
def snapPieceDone (s : State) : State :=
  let s1 := s.modArch (fun a => { a with snapLeft := a.snapLeft - 1 })
  if s1.arch.snapLeft ≠ 0 then s1
  else
    issue 2 .snapHead (s1.modArch (fun a => { a with
      snapshot := a.snapshot.map (fun r => { r with benchTime := s.time.time64 }) }))

/-- The header of the snapshot is written: it is the newest complete one (R263, R275, R281). -/
def snapDone (s : State) : State :=
  match s.arch.snapshot with
  | none => s
  | some r =>
    (s.bump Code.recordsWritten 0).modArch (fun a => { a with
      records := a.records ++ [r], snap := some (snapSlotOf r, r.seq), snapTime := r.time, snapshot := none,
      content := a.content.filter (fun e => !(decide (r.block ≤ e.1) && decide (e.1 < r.block + r.blocks))),
      commitDue := true })

/-- A piece of the journals holds zeros; after the last one commit 1 is due (R273). -/
def zeroDone (first : Nat) (s : State) : State :=
  let s1 := forAll (span first pieceBlocks) (fun b t => keepBlock b [] t) s
  s1.modArch (fun a => { a with zeroLeft := a.zeroLeft - 1, commitDue := decide (a.zeroLeft = 1) || a.commitDue })

/-- The Admin commands that take the 8 I/O queue pairs down (R268). -/
def queueRemoval : List AdminCmd := (List.range 8).flatMap (fun q => [.deleteSubmission q, .deleteCompletion q])

/-- Both labels stand: the format or the adoption has ended (R273). With ARCH_ENABLE 0 the archive stays disabled, and the queues
that the format took go again. -/
def labelsDone (l : Label) (s : State) : State :=
  let s1 := s.modArch (fun a => { a with label := some l, formatting := none })
  if s.arch.state = 0 then issueAdmin queueRemoval s1 else enterService s1

/-- The effect of a command that ended good, but for bulk reads (R263, R268–R282). -/
def jobDone (j : NvmeJob) (s : State) : State :=
  match j with
  | .record r => recordDone r s
  | .snapCells _ => snapPieceDone s
  | .snapHead => snapDone s
  | .journalA x => issue 0 (.journalB x)
      ((keepBlock (1024 + s.arch.journalAt) (journalBytes x) s).modArch (fun a => { a with committing := 2 }))
  | .journalB x => commitDone x (keepBlock (17408 + s.arch.journalAt) (journalBytes x) s)
  | .zeroJournal first => zeroDone first s
  | .labelB l => issue 0 (.labelA l) (keepBlock 1 (labelBytes l) s)
  | .labelA l => labelsDone l (keepBlock 0 (labelBytes l) s)
  | .bulkRead _ _ _ => s
  | .find q b => if (s.path q).findState = 1 then issue s.readPair (.find q (b + pieceBlocks)) s else s

/-- Whether a job reads. -/
def jobReads (j : NvmeJob) : Bool :=
  match j with
  | .bulkRead _ _ _ => true
  | .find _ _ => true
  | _ => false

/-- Takes a command out of flight and lets the next one of its pair be issued. -/
def retire (c : NvmeCmd) (s : State) : State :=
  issueNext c.pair (s.modArch (fun a => { a with inFlight := a.inFlight.erase c }))

/-- The command in flight under an identifier. -/
def State.cmdAt (s : State) (pair cid : Nat) : Option NvmeCmd :=
  s.arch.inFlight.find? (fun c => c.pair == pair && c.cid == cid)

/-! ## Losses and resets -/

/-- What is lost with the drive's link, its power or the archive's use: writes in flight are abandoned, traces not yet
issued are lost (R286, R287). -/
def abandonArchive (s : State) : State :=
  let s1 := s.modArch (fun a => { a with
    inFlight := [], toIssue := [], blocked := [], committing := 0, commitDue := false, commitFrom := none,
    reclaimFine := none, reclaimLong := none, commitFine := none, commitLong := none, snapshot := none, snapLeft := 0,
    zeroLeft := 0, recovering := false, formatting := none })
  forAll allPorts (fun p t => t.modTrav p (fun x => { x with writing := false, waiting := none })) s1

/-- DRIVE_LINK_LOST (R273, R286, R287). -/
def driveLinkLost (s : State) : State :=
  let s1 := abandonArchive (s.modArch (fun a => { a with link := 0, driveOk := false }))
  if s.arch.state = 0 then s1 else setArch 1 0 s1

/-- A controller reset: the queues are rebuilt and every uncompleted write is issued again; a third one within 10 minutes
fails the archive (R270). -/
def controllerReset (fatal : Bool) (s : State) : State :=
  let recent := (s.time.tick :: s.arch.resets).filter (fun t => decide (s.time.tick < t + 600 * secondTicks))
  let s1 := (s.bump Code.ctrlResets 0).modArch (fun a => { a with resets := recent, admin := queueSetup })
  if 3 ≤ recent.length then
    setArch 6 (if fatal then 4 else 3) (abandonArchive (s1.modArch (fun a => { a with driveOk := false, admin := [] })))
  else
    let jobs := s.arch.inFlight.map (fun c => (c.pair, c.job)) ++ s.arch.toIssue
    forAll (jobs.filter (fun j => !jobReads j.2)) (fun j t => issue j.1 j.2 t)
      (s1.modArch (fun a => { a with inFlight := [], toIssue := [] }))

/-! ## Bring-up -/

/-- The layout of a drive of some blocks (R271). -/
def State.makeLabel (s : State) (blocks : Nat) : Label :=
  let pp := s.regN Code.permPct 0
  let fp := s.regN Code.finePct 0
  let perm := blocks * pp / 100 / 1024 * 1024
  let rest := blocks - 65536 - perm
  let fine := rest * fp / 100 / 1024 * 1024
  { deviceId := Config.serial, formatted := s.time.time64, blocks := blocks, permStart := 65536, permLen := perm,
    fineStart := 65536 + perm, fineLen := fine, longStart := 65536 + perm + fine, longLen := rest - fine, permPct := pp,
    finePct := fp }

/-- The pieces in which both journals are zeroed: their first blocks (R271, R273). -/
def zeroPieces : List Nat := (List.range (32768 / pieceBlocks)).map (fun k => 1024 + pieceBlocks * k)

/-- Begins a format: zeros to both journals, then commit 1 with empty rings and rec_seq 16, then labels B and A (R273). No
trace has a record any more (R291). A disabled archive stays disabled: its queues are set up for the format alone. -/
def beginFormat (s : State) : State :=
  let l := s.makeLabel s.arch.blocks
  let s1 := abandonArchive s
  let s2 := s1.modArch (fun a => { a with
    formatting := some l, label := some l, journal := none, journalAt := 0, records := [], nextSeq := 16,
    fineTail := l.fineStart, fineHead := l.fineStart, longTail := l.longStart, longHead := l.longStart,
    permHead := l.permStart, snap := none, snapTime := 0, zeroLeft := zeroPieces.length })
  forAll zeroPieces (fun b t => issue 0 (.zeroJournal b) t)
    (forAll allPorts reseatPort (if s.arch.state = 0 then issueAdmin queueSetup s2 else setArch 2 0 s2))

/-- Whether a record lies within some blocks. -/
def within (start len : Nat) (r : Rec) : Bool := decide (start ≤ r.block) && decide (r.block + r.blocks ≤ start + len)

/-- The greatest length of a routine record, blocks (R277). -/
def ringRecord : Nat := 6

/-- The scan of one area from `pos` (R287 steps 2 and 3): the records adopted, and whether it stopped on a record that
fails. In a ring the start is tried once, when no record of the greatest length fits before the end any more and what stands there is no
record or an older one, which the ring has passed over (DEDUCED, notes/assumptions/14); a place without a record's magic holds no record
and counts nothing (DEDUCED, the same). `fuel` bounds the records adopted. -/
def scanArea (d : Tab (List Byte)) (start len nextRec : Nat) (ring : Bool) : Nat → Nat → Nat → List Rec × Bool
  | 0, _, _ => ([], false)
  | fuel + 1, pos, last =>
    let torn := decide (pos < start + len) && hasRecord d pos
    let next : List Rec × Bool := scanArea d start len nextRec false fuel start last
    let nearEnd := ring && decide (start + len < pos + ringRecord)
    match recordAt d pos with
    | none => if nearEnd && !torn then next else ([], torn)
    | some r =>
      let stop : List Rec × Bool := if nearEnd && decide (r.seq < nextRec) then next else ([], torn)
      if r.deviceId = Config.serial ∧ within start len r = true ∧ nextRec ≤ r.seq ∧ last < r.seq then
        let t := scanArea d start len nextRec ring fuel (pos + r.blocks) r.seq
        (r :: t.1, t.2)
      else stop

/-- The records of an area that a commit covers, from its tail (or the region's start) to its head, written since the
format (R280, R282). Where tail and head are one block, a record there with a number below next_rec_seq means a full area (DEDUCED,
notes/assumptions/14); elsewhere a covered record may have a number above that of a write of another area that was not done. -/
def knownRecords (d : Tab (List Byte)) (start len since nextRec head : Nat) (ring : Bool) : Nat → Nat → Nat → List Rec
  | 0, _, _ => []
  | fuel + 1, pos, last =>
    let stop : List Rec :=
      if ring && decide (start + len < pos + ringRecord) then knownRecords d start len since nextRec head false fuel start last
      else []
    match recordAt d pos with
    | none => stop
    | some r =>
      if within start len r = true ∧ since ≤ r.time ∧ (pos ≠ head ∨ r.seq < nextRec) ∧ last < r.seq then
        if pos + r.blocks = head then [r]
        else r :: knownRecords d start len since nextRec head ring fuel (pos + r.blocks) r.seq
      else stop

/-- The block after the last of some records, or a default. -/
def afterLast (rs : List Rec) (d : Nat) : Nat := (rs.getLast?.map (fun r => r.block + r.blocks)).getD d

/-- The highest rec_seq of some records. -/
def maxSeq (rs : List Rec) : Nat := rs.foldl (fun m r => max m r.seq) 0

/-- The records of the fine ring, the long ring and the permanent region that a commit covers (R280, R282). -/
def committedRecords (d : Tab (List Byte)) (l : Label) (j : Journal) : List Rec :=
  let n := d.length + 2
  knownRecords d l.fineStart l.fineLen l.formatted j.nextRec j.fineHead true n j.fineTail 0 ++
    knownRecords d l.longStart l.longLen l.formatted j.nextRec j.longHead true n j.longTail 0 ++
    (if j.permHead = l.permStart then []
     else knownRecords d l.permStart l.permLen l.formatted j.nextRec j.permHead false n l.permStart 0)

/-- The intact snapshots of the four slots, slot 0 first (R271, R278). -/
def snapshotsOn (d : Tab (List Byte)) : List Rec :=
  (List.range 4).filterMap (fun n => (recordAt d (33792 + 4098 * n)).filter (fun r => r.kind == 4 && r.blocks == 4098))

/-- The slots whose snapshots become the newest complete one in turn, slot 0 first (R287 step 4): own, not covered by the
commit, and newer than the newest so far. -/
def newerSnaps (nextRec : Nat) : Nat → List Rec → List Rec
  | _, [] => []
  | last, r :: rest =>
    if r.deviceId = Config.serial ∧ nextRec ≤ r.seq ∧ last < r.seq then r :: newerSnaps nextRec r.seq rest
    else newerSnaps nextRec last rest

/-- A port's entry of the journal as adopted records leave it: a benchmark becomes the one in force and a long-ring record
sets the long period (R275, R280; DEDUCED, notes/assumptions/14). -/
def adoptEntry (long : Nat → Nat) (p : Nat) (e : JournalPort) (rs : List Rec) : JournalPort :=
  rs.foldl (fun x r =>
    if r.port ≠ p then x
    else if r.kind = 2 then { x with bench := r.block, prevBench := x.bench }
    else if r.kind = 1 ∧ r.tier = 1 then { x with longPeriod := long r.time }
    else x) e

/-- The recovery of R287 from a drive's content: the scan from the newest commit, the snapshots, and the commit of the
result, after which the archive is in service. -/
def recoverArchive (l : Label) (slot : Nat) (j : Journal) (s : State) : State :=
  let d := s.arch.content
  let n := d.length + 2
  let fine := scanArea d l.fineStart l.fineLen j.nextRec true n j.fineHead 0
  let long := scanArea d l.longStart l.longLen j.nextRec true n j.longHead 0
  let perm := scanArea d l.permStart l.permLen j.nextRec false n j.permHead 0
  let snaps := snapshotsOn d
  let newer := newerSnaps j.nextRec j.snapRec snaps
  let adopted := fine.1 ++ long.1 ++ perm.1
  let bad := [fine.2, long.2, perm.2].filter id
  let snapOf := fun (q : Nat) => (snaps.find? (fun r => r.seq == q)).map (fun r => r.time)
  let s1 := s.modArch (fun a => { a with
    label := some l, journalAt := (slot + 1) % 16384,
    journal := some { j with ports := allPorts.map (fun p => adoptEntry s.longPeriodOf p (journalPort (some j) p) adopted) },
    records := committedRecords d l j ++ adopted ++ snaps.filter (fun r => decide (r.seq ≤ j.snapRec) || newer.contains r),
    nextSeq := max j.nextRec (maxSeq (committedRecords d l j ++ adopted ++ newer) + 1),
    fineTail := j.fineTail, fineHead := afterLast fine.1 j.fineHead, longTail := j.longTail,
    longHead := afterLast long.1 j.longHead, permHead := afterLast perm.1 j.permHead,
    snap := match newer.getLast? with
      | some r => some (snapSlotOf r, r.seq)
      | none => if j.snapSlot = 255 then none else some (j.snapSlot, j.snapRec),
    snapTime := (newer.getLast?.map (fun r => r.time)).getD ((snapOf j.snapRec).getD 0),
    lastCommit := j.time, commitDue := true, recovering := true })
  setArch 2 0 ((s1.bumpBy Code.recordsRecovered 0 adopted.length).bumpBy Code.recordsDiscarded 0 bad.length)

/-- The time of a drive's newest complete snapshot as its commit names it; 0 without one (R280, R290). -/
def snapTimeOf (rs : List Rec) (j : Journal) : Nat :=
  if j.snapSlot = 255 then 0 else ((rs.find? (fun r => r.kind == 4 && r.seq == j.snapRec)).map (fun r => r.time)).getD 0

/-- The records of a foreign drive, from its newest commit: they can be read (R273), and its objects show what stands on it (R290). -/
def readForeign (l : Label) (s : State) : State :=
  let d := s.arch.content
  let j := newestJournal d
  let rs := ((j.map (fun x => committedRecords d l x.2)).getD []) ++ snapshotsOn d
  forAll allPorts reseatPort (s.modArch (fun a => { a with
    label := some l, journal := j.map (fun x => x.2), journalAt := ((j.map (fun x => x.1 + 1)).getD 0) % 16384, records := rs,
    permHead := (j.map (fun x => x.2.permHead)).getD l.permStart, lastCommit := (j.map (fun x => x.2.time)).getD 0,
    snapTime := (j.map (fun x => snapTimeOf rs x.2)).getD 0,
    snap := j.bind (fun x => if x.2.snapSlot = 255 then none else some (x.2.snapSlot, x.2.snapRec)),
    nextSeq := max ((j.map (fun x => x.2.nextRec)).getD 16) (maxSeq rs + 1) }))

/-- Whether a drive meets every requirement of R267 that it reports. -/
def driveMeets (d : DriveInfo) : Bool :=
  decide (0x10400 ≤ d.version) && decide (d.blockSize = 4096) && decide (d.metadata = 0) && !d.protection &&
    decide (488378646 ≤ d.blocks) && decide (8 ≤ d.queuePairs) && decide (1023 ≤ d.mqes) && decide (131072 ≤ d.mdts)

/-- ARCHIVE_BRING_UP (R267, R270, R273, R287, R290): the drive's link has come up. One that has come up at no rate or width is the
failure of reason 1 (DEDUCED, notes/assumptions/16). -/
def archiveBringUp (d : DriveInfo) (s : State) : State :=
  let s0 := s.modArch (fun a => { a with link := d.linkGen % 16 + d.linkWidth % 16 * 16 })
  if s.arch.state = 1 ∨ s.arch.state = 2 ∨ s.arch.state = 6 then
    let found := d.content.foldl (fun t e => Tab.put t e.1 e.2) []
    let s1 := (abandonArchive s0).modArch (fun a => { a with
      blocks := min d.blocks (2 ^ 32), driveOk := driveMeets d, content := found, label := none, journal := none,
      records := [], snap := none, snapTime := 0, lastCommit := 0, permHead := 0,
      admin := [.identifyController, .identifyNamespace 1] ++ (if driveMeets d then queueSetup else []) })
    if d.linkGen = 0 ∨ d.linkWidth = 0 then setArch 6 1 (s1.modArch (fun a => { a with driveOk := false, admin := [] }))
    else if driveMeets d = false then setArch 6 2 s1
    else
      match firstLabel found with
      | none =>
        let s2 := setArch 5 0 s1
        if s.regB Code.autoFormat 0 then beginFormat s2 else s2
      | some l =>
        if l.deviceId ≠ Config.serial then setArch 4 0 (readForeign l s1)
        else
          match newestJournal found with
          | none => setArch 6 5 (s1.modArch (fun a => { a with label := some l }))
          | some j => recoverArchive l j.1 j.2 s1
  else s0

/-- A write of 1 to ARCH_ADOPT on a foreign drive (R273): both labels are rewritten with this device's id, every record
stays, and numbering goes on from the drive's newest commit. -/
def adoptDrive (s : State) : State :=
  match s.arch.label, s.arch.journal with
  | some l, some j =>
    issue 0 (.labelB { l with deviceId := Config.serial }) (setArch 2 0 (s.modArch (fun a => { a with
      nextSeq := max j.nextRec (maxSeq s.arch.records + 1), fineTail := j.fineTail, fineHead := j.fineHead,
      longTail := j.longTail, longHead := j.longHead, permHead := j.permHead, lastCommit := j.time,
      snap := if j.snapSlot = 255 then none else some (j.snapSlot, j.snapRec), snapTime := snapTimeOf s.arch.records j })))
  | _, _ => setArch 6 5 s

/-- A write of ARCH_ENABLE (R273, R290): 0 disables the archive, 1 lets it start again. -/
def archEnable (on : Bool) (s : State) : State :=
  if on then (if s.arch.state = 0 then setArch (if s.arch.link = 0 then 1 else 2) 0 s else s)
  else if s.arch.state = 0 then s
  else setArch 0 0 (issueAdmin queueRemoval (abandonArchive s))

/-! ## Snapshots -/

/-- The port table of a snapshot (R278). -/
def State.snapPorts (s : State) : List SnapPort :=
  allPorts.map (fun p => { benchTime := s.benchTimeNow p, allocA := wordOfRange (s.rangeOf p false),
                           allocB := wordOfRange (s.rangeOf p true), host := s.regN Code.layoutHost p })

/-- The slot with no snapshot, or else with the oldest (R275). -/
def State.snapTarget (s : State) : Nat :=
  let taken := s.arch.records.filter (fun r => r.kind == 4)
  let age : Nat → Nat := fun n => ((taken.find? (fun r => snapSlotOf r == n)).map (fun r => r.seq)).getD 0
  (List.range 4).foldl (fun (m n : Nat) => if age n < age m then n else m) 0

/-- Every cell of the pool as the archive engine reads it: a cell with a bad word is rebuilt (R46, R48, R259, R278). -/
def mendPool (s : State) : State :=
  forAll allPorts (fun p t => mendRange (t.rangeOf p true) masterDma (mendRange (t.rangeOf p false) masterDma t)) s

/-- SNAPSHOT (R263, R275, R278, R279): at its interval, or within 60 s of an alarm or of a host write to a cell. One that
falls due while another is written is merged with it (R287); one without a drive in service is dropped and counted. -/
def takeSnapshot (s : State) : State :=
  let timed := s.elapsed s.cells.snapAt (s.regN Code.snapInterval 0 * secondTicks)
  let done := { s with cells := { s.cells with snapDue := false, snapAt := s.time.tick } }
  if !(s.cells.snapDue || timed) then s
  else if !s.archOn then done.bump Code.recordsUnwritten 0
  else if s.arch.snapshot.isSome then done
  else
    let m := mendPool done
    let slot := m.snapTarget
    let r : Rec :=
      { kind := 4, blocks := 4098, seq := m.arch.nextSeq, time := m.time.time64, benchTime := 0, port := 255, step := 0,
        points := 0, flags := 0, page := m.time.page, tier := 3, ins := 0, loopRes := 0, galvanic := 0, vf := 0,
        leadIn := 0, termination := 0, coding := 0, cycles := 0, alarmSeq := 0, deviceId := Config.serial,
        block := 33792 + 4098 * slot, data := [], table := m.snapPorts, cells := m.poolCells }
    let pieces := List.range (4096 / pieceBlocks)
    forAll pieces (fun k t => issue (snapPair k) (.snapCells (2 + pieceBlocks * k)) t)
      (m.modArch (fun a => { a with
        snapshot := some r, snapLeft := pieces.length, nextSeq := a.nextSeq + 1,
        records := a.records.filter (fun x => !(x.kind == 4 && snapSlotOf x == slot)) }))

/-! ## SMART and search -/

/-- SMART_POLL (R290, R403 source 37). -/
def smartPoll (temp : Int) (wear warn : Nat) (s : State) : State :=
  let s1 := s.modArch (fun a => { a with temp := temp, wear := wear, warn := warn, admin := [.smartLog] })
  if warn ≠ 0 ∧ s.arch.warn = 0 then fault 37 [] [(1, warn)] s1
  else if warn = 0 then endConditions 37 s1
  else s1

/-- Whether a record is of a FIND_KIND (R290). -/
def findKindOk (k : Nat) (r : Rec) : Bool :=
  if k = 0 then r.kind == 1
  else if k = 1 then r.kind == 1 && r.tier == 0
  else if k = 2 then r.kind == 1 && r.tier == 1
  else if k = 3 then r.kind == 2
  else r.kind == 3

/-- The newest record that a search asks for (R289). -/
def State.findRecord (s : State) (x : PathSt) : Option Rec :=
  (s.arch.records.filter (fun r => r.port == x.findPort && findKindOk x.findKind r && decide (r.time ≤ x.findTime))).foldl
    (fun best r => match best with
      | none => some r
      | some b => if b.time < r.time ∨ (b.time = r.time ∧ b.seq < r.seq) then some r else best) none

/-- Whether a job reads for the search of a path. -/
def findsFor (q : Path) (j : NvmeJob) : Bool :=
  match j with
  | .find p _ => p == q
  | _ => false

/-- A search begins: its first read goes out, from the committed tail of the fine ring on (R269, R289; where it begins: DESIGN CHOICE,
notes/assumptions/16). -/
def startFind (q : Path) (s : State) : State :=
  if s.arch.inFlight.any (fun c => findsFor q c.job) || s.arch.toIssue.any (fun x => findsFor q x.2) then s
  else issue s.readPair (.find q s.arch.fineTail) s

/-- FIND_COMPLETE (R289): the search has its result, and its reads are done. -/
def findComplete (q : Path) (s : State) : State :=
  if (s.path q).findState ≠ 1 then s
  else if !s.archReadable then s.modPath q (fun x => { x with findState := 4 })
  else
    let t := s.modArch (fun a => { a with
      inFlight := a.inFlight.filter (fun c => !findsFor q c.job), toIssue := a.toIssue.filter (fun x => !findsFor q x.2) })
    match s.findRecord (s.path q) with
    | some r => t.modPath q (fun x => { x with findState := 2, findResult := r.seq })
    | none => t.modPath q (fun x => { x with findState := 3 })

/-- The archived record that a trace selector names (R288). -/
def State.archived (s : State) (sel : Nat) : Option Rec :=
  s.arch.records.find? (fun r => decide (r.seq % 2 ^ 32 = sel) && r.kind != 4)

/-- A record as the trace window shows it, decoded (R288). -/
def traceOfRecord (r : Rec) : Trace :=
  { points := if r.coding = 1 then bfpRoundTrip r.data else r.data, time := r.time, step := r.step, nValid := r.points,
    flags := r.flags, ins := r.ins, loopRes := r.loopRes, galvanic := r.galvanic, recSeq := r.seq, tier := r.tier }

/-- A benchmark as the trace window shows it (R243, R291). -/
def traceOfBench (b : Bench) : Trace :=
  { points := b.points, time := b.time, step := b.effStep, nValid := b.nValid, flags := 8, ins := b.ins,
    loopRes := b.loopRes, galvanic := 0, recSeq := b.recSeq, tier := 2 }

/-- What the trace window of a port shows for a selector (R243, R288). -/
def State.traceSel (s : State) (p sel : Nat) : Option Trace :=
  if sel = 0 then (s.port p).trav.last
  else if sel = 1 then (s.port p).trav.bench.map traceOfBench
  else if sel = 2 then (s.port p).trav.previous.map traceOfBench
  else if sel < 16 then none
  else if s.archReadable then (s.archived sel).map traceOfRecord
  else none

/-! ## The commands -/

/-- SNAPSHOT (R263). -/
def execSnapshot (s : State) : Host.Outcome State Fault Refusal := run takeSnapshot s

/-- ARCHIVE_BRING_UP (R273). -/
def execArchiveBringUp (drive : DriveInfo) (s : State) : Host.Outcome State Fault Refusal := run (archiveBringUp drive) s

/-- ARCHIVE_COMMIT (R281). -/
def execArchiveCommit (senseMicroVolt : Nat) (s : State) : Host.Outcome State Fault Refusal :=
  run (archiveCommit senseMicroVolt) s

/-- SMART_POLL (R290). -/
def execSmartPoll (temp : Int) (wear warn : Nat) (s : State) : Host.Outcome State Fault Refusal :=
  run (smartPoll temp wear warn) s

/-- FIND_COMPLETE (R289). -/
def execFindComplete (path : Path) (s : State) : Host.Outcome State Fault Refusal := run (findComplete path) s

end Sys2Proof.Machine
end

