-- ==== Sys2Proof/Machine/Complete.lean ====
section
/-! DEFINITION. A run's cycle on a port, and the completion of a trace: cells, reports, archive, calibration and
benchmark (R222, R224, R228–R230, R232, R233, R241, R247, R257, R260, R262, R275). -/

namespace Sys2Proof.Machine

/-! ## Completion -/

/-- The record of a trace, its tier and number still open (R274). -/
def State.recordOf (s : State) (p kind coding alarmSeq : Nat) (r : Run) (t : Trace) (benchTime : Nat) : Rec :=
  { kind := kind, blocks := recordBlocks kind coding t.points, seq := 0, time := t.time, benchTime := benchTime, port := p,
    step := t.step, points := t.nValid, flags := t.flags, page := r.page, tier := 0, ins := t.ins,
    loopRes := t.loopRes, galvanic := t.galvanic, vf := (s.port p).latch.vf, leadIn := r.leadIn,
    termination := r.termination, coding := coding, cycles := r.cycles, alarmSeq := alarmSeq, deviceId := Config.serial,
    block := 0, data := t.points, table := [], cells := [] }

/-- The run whose trace is completed next: the oldest ended one, or the run in progress in its last cycle (R230). -/
def State.runToComplete (s : State) (p : Nat) : Option (Run × State) :=
  let x := (s.port p).trav
  match x.ended with
  | r :: rest => some (r, s.modTrav p (fun y => { y with ended := rest }))
  | [] =>
    match x.run with
    | some r => if r.full then some (r, s.modTrav p (fun y => { y with run := none })) else none
    | none => none

/-- The trace of an ended run (R228–R230, R235). -/
def State.traceOf (s : State) (p : Nat) (r : Run) : Trace :=
  let st := s.benchStateNow p
  let offered := !r.clipped && (st == 1 || st == 3) && (r.kind == .normal || r.kind == .bench)
  let x := (s.port p).trav
  { points := scaleTrace r, time := r.lastAt, step := r.effStep, nValid := r.nValid,
    flags := (if r.clipped then 1 else 0) + (if r.oneHalf then 2 else 0) + (if offered then 0 else 4),
    ins := x.ins, loopRes := x.loopRes, galvanic := x.galvanic, recSeq := 0, tier := 0 }

/-- Offers a trace to the cells: update, reports, and the capture and snapshot of an alarm (R230, R251, R260, R262,
R263). -/
def offerTrace (p : Nat) (r : Run) (t : Trace) (s : State) : State :=
  let u := updateCells p t.points t.nValid t.time s
  let first := u.1.cells.seq
  let s1 := reportChanges p r.effStep t.nValid t.time r.oneHalf t.points u.2 u.1
  if raisesAlarm u.2 then snapSoon (archiveAlarm p (s1.recordOf p 3 0 first r t (s1.benchTimeNow p)) s1) else s1

/-- The mean of the counted traces, point by point (R241). -/
def meanTrace (ts : List Trace) : List Int :=
  (List.range 16384).map (fun i => roundDiv (sumInt (ts.map (fun t => pointOf t.points i))) ts.length)

/-- A benchmark takes effect (R241, R242, R257, R275). -/
def takeBench (p : Nat) (r : Run) (t : Trace) (ts : List (Run × Trace)) (s : State) : State :=
  let b : Bench :=
    { points := meanTrace (ts.map (fun x => x.2)), time := t.time, nValid := t.nValid, step := r.step, effStep := r.effStep,
      leadIn := r.leadIn,
      termination := r.termination, ins := t.ins, loopRes := t.loopRes, recSeq := 0 }
  let s1 := s.modTrav p (fun x => { x with bench := some b, previous := x.bench, capture := none, captureOn := false })
  let s2 := archiveBench p (s1.recordOf p 2 0 0 r { t with points := b.points, flags := 8 } t.time) s1
  reloadCells p (s2.cfgValid p) t.time s2

/-- A capture run has completed unclipped (R241). -/
def countCapture (p : Nat) (r : Run) (t : Trace) (s : State) : State :=
  match (s.port p).trav.capture with
  | none => s
  | some ts =>
    let all := ({ r with acc := [] }, t) :: ts
    if (s.port p).latch.benchRuns ≤ all.length then takeBench p r t all s
    else s.modTrav p (fun x => { x with capture := some all })

/-- A capture whose counted runs reach a lowered BENCH_RUNS completes, unless one of its runs is still to complete (R241). -/
def endCapture (p : Nat) (s : State) : State :=
  let x := (s.port p).trav
  match x.capture with
  | some ((r, t) :: ts) =>
    if (s.port p).latch.benchRuns ≤ ts.length + 1 ∧
        (x.run.toList ++ x.ended).all (fun r => r.kind != .bench) = true then takeBench p r t ((r, t) :: ts) s
    else s
  | _ => s

/-- Does something under the settings that a run had, which may differ from those that have come into force since (R224). -/
def underRun (p : Nat) (r : Run) (f : State → State) (s : State) : State :=
  let x := (s.port p).trav
  (f (s.modTrav p (fun y => { y with step := r.step, termination := r.termination, half := r.oneHalf
                                     leadIn := if r.kind = .leadIn then y.leadIn else r.leadIn }))).modTrav p
    (fun y => { y with step := x.step, termination := x.termination, half := x.half, leadIn := x.leadIn })

/-- The work of the trace of a run that has ended (R230, R232, R233, R241). -/
def completeRun (p : Nat) (r0 : Run) (s0 : State) : State :=
  let sum := readSum p r0.nValid (masterEngine (s0.engineFor p)) r0.acc s0
  let r : Run := { r0 with acc := sum.1 }
  let t := sum.2.traceOf p r
  let s1 := (sum.2.modTrav p (fun x => { x with last := some t })).bump Code.travCount p
  let s2 := if r.clipped then s1.bump Code.clippedRuns p else s1
  let s3 := archiveRoutine p (s2.recordOf p 1 1 0 r t (s2.benchTimeNow p)) s2
  let s4 := if t.flags.testBit 2 then s3 else offerTrace p r t s3
  match r.kind with
  | .normal => s4
  | .bench => if r.clipped then s4 else countCapture p r t s4
  | .leadIn => leadInResult p r t.points s4
  | .vf => vfResult p r t.points s4

/-- TRACE_COMPLETE (R230). -/
def traceComplete (p : Nat) (s : State) : State :=
  match s.runToComplete p with
  | none => s
  | some (r, t) => underRun p r (completeRun p r) t

/-! ## A cycle of a run -/

/-- The traverse of a port in the cycle that begins: a capture with enough counted runs completes, a calibration that can contribute no
more fails, and in a contributing cycle a run starts where one is due, written ranges first, and the cycle contributes
(R222, R223, R228, R232, R247). -/
def traverseCycle (p : Nat) (es : List Echo) (s : State) : State :=
  let s1 := endCapture p s
  let s2 := if s1.canContribute p then s1 else calStops p s1
  if s2.contributing p then
    let s3 :=
      match s2.runToStart p with
      | some k => beginRun p k (takeRanges p s2)
      | none => s2
    contribute p es s3
  else s2

/-- Starts a benchmark capture, with 9 permanent blocks reserved (R241, R283). -/
def startCapture (p : Nat) (s : State) : State :=
  s.modTrav p (fun x => { x with capture := some [], captureOn := false, reserved := 9 })

/-- Whether BENCH_CAPTURE is accepted on a port (R241, R283). -/
def State.captureFree (s : State) (p : Nat) : Bool := s.travFree p && s.archOn && decide (9 ≤ s.permFree)

/-- TRACE_COMPLETE (R230). -/
def execTraceComplete (port : Nat) (s : State) : Host.Outcome State Fault Refusal := run (atPort port (traceComplete port)) s

end Sys2Proof.Machine
end

