-- ==== Sys2Proof/Machine/Nvm.lean ====
section
/-! DEFINITION. The configuration NVM: committed sets, the repair log, the order of its operations and the hold-up check
before each page program (R284, R345–R348, R450–R454). The bank voltage that a check measures without a command that
carries it is a free value (notes/assumptions/5). -/

namespace Sys2Proof.Machine

/-! ## Committed sets -/

/-- The object of a table key. -/
def keyCode (key : Nat) : Nat := key / 2 ^ 24
/-- The instance of a table key. -/
def keyInst (key : Nat) : Nat := key % 2 ^ 24

/-- Whether an object is persistent (R336). -/
def isRwp (code : Nat) : Bool :=
  match findObj code with
  | some o => o.acc == .rwp
  | none => false

/-- Bytes of a value of a scalar type in a committed set (R333, R452). -/
def tyBytes (t : Ty) : Nat :=
  match t with
  | .bool => 1
  | .u8 => 1
  | .i8 => 1
  | .u16 => 2
  | .i16 => 2
  | .u32 => 4
  | .i32 => 4
  | .q16 => 4
  | .u64 => 8
  | .time64 => 8
  | .domain => 0
  | .str => 0

/-- The working RWP values as they stand (R346): those that have been written (DEDUCED, notes/assumptions/4). -/
def State.rwpRegs (s : State) : Tab Int := s.regs.filter (fun e => isRwp (keyCode e.1))
/-- The DOMAIN and STR RWP contents as they stand (R346). -/
def State.rwpDoms (s : State) : Tab (List Byte) := s.doms.filter (fun e => isRwp (keyCode e.1))

/-- The objects that share a row of the dictionary: those of both links, of the rails, and of the lanes (R327, R373). The
clock lane has TX_SWING and TX_INVERT alone. -/
def rowCodes (o : Obj) : List Nat :=
  let ix := o.code / 256
  let sub := o.code % 256
  if ix = 0x7040 then (List.range 22).map (fun n => o.code + 256 * n)
  else if ix = 0x6000 ∨ ix = 0x6001 then [o.code, o.code + 0x10000]
  else if ix = 0x6010 then
    [o.code, o.code + 256, o.code + 0x10000, o.code + 0x10100] ++
      (if sub = 1 ∨ sub = 5 then [o.code + 512, o.code + 0x10200] else [])
  else if ix = 0x6020 then [o.code, o.code + 256, o.code + 0x10000, o.code + 0x10100]
  else [o.code]

/-- The instances of an object by its scope (R8, R336). -/
def scopeInsts (c : Scope) : List Nat :=
  match c with
  | .device => [0]
  | .cluster => List.range 9
  | .port => allPorts
  | .drop => allPorts.flatMap (fun p => allDrops.map (dropKey p))
  | .cell => []
  | .trace => []
  | .path => []

/-- The rows of the persistent objects (R336). -/
def rwpRows : List Obj := objects.filter (fun o => o.acc == .rwp)

/-- What a set of written values makes an instance read: the value written, or the default, with ROLL_CALL's own rule, at cycle
length `n` (R79, R185, R336). -/
def valueIn (regs : Tab Int) (n code inst : Nat) : Int :=
  let plain := fun (c : Nat) => (Tab.find regs (objKey c inst)).getD (plainDefault c inst n)
  match Tab.find regs (objKey code inst) with
  | some v => v
  | none =>
    if code = Code.rollCall then
      (if decide (5857 ≤ plain Code.dsWindow) && decide (4219 ≤ plain Code.contWindow) then 1 else 0)
    else plainDefault code inst n

/-- CYCLE_LEN as a set of written values has it. -/
def cycleLenIn (regs : Tab Int) : Nat := (valueIn regs 4 Code.cycleLen 0).toNat

/-- One entry of a committed set; the instance of a drop is numbered as the value tables number it, and a device-wide object's,
a link's and a rail's, which its index names, reads FFFFFFh (R452; DESIGN CHOICE, notes/assumptions/17). -/
def entryBytes (code : Nat) (scope : Scope) (inst : Nat) (v : List Byte) : List Byte :=
  leBytes 2 (code / 256) ++ [byteOf code] ++ leBytes 3 (if scope = .device then 0xFFFFFF else inst) ++ leBytes 2 v.length ++ v

/-- The entries of a committed set, one for every instance of a persistent object, in the order of the dictionary (R346, R452;
the order is a DESIGN CHOICE, notes/assumptions/17). -/
def CommitSet.entries (c : CommitSet) : List Byte :=
  rwpRows.flatMap (fun o => (rowCodes o).flatMap (fun code => (scopeInsts o.scope).flatMap (fun inst =>
    entryBytes code o.scope inst
      (if tyBytes o.ty = 0 then Tab.get c.doms (objKey code inst) []
       else leBytes (tyBytes o.ty) (twos (8 * tyBytes o.ty) (valueIn c.regs (cycleLenIn c.regs) code inst))))))

/-- Bytes of the entries of a set: those of every instance, and the contents of the DOMAIN and STR objects that are not empty
(R346, R452). -/
def setBytes (doms : Tab (List Byte)) : Nat :=
  rwpRows.foldl (fun n o => n + (rowCodes o).length * (scopeInsts o.scope).length * (8 + tyBytes o.ty)) 0 +
    doms.foldl (fun n e => n + e.2.length) 0

/-- The most bytes of entries that a persistence slot holds (R346, R452). -/
def slotRoom : Nat := 1015552

/-- The first 16 bytes of a slot: magic, set_seq and time (R452). -/
def CommitSet.head (c : CommitSet) : List Byte := leBytes 4 0x55425053 ++ leBytes 4 c.seq ++ leBytes 8 c.time

/-- The bytes of a set in its slot, with the marker as it stands: 5A5AA5A5h once the set is complete (R452). -/
def CommitSet.image (c : CommitSet) (marker : Nat) : List Byte :=
  c.head ++ leBytes 4 c.entries.length ++ leBytes 4 (driveCrc (c.head ++ c.entries)) ++ leBytes 4 marker ++
    List.replicate 228 0xFF ++ c.entries

/-- The check of a slot at start-up: magic, marker and CRC-32 (R452). -/
def slotGood (bs : List Byte) : Bool :=
  let len := leVal ((bs.drop 16).take 4)
  decide (leVal (bs.take 4) = 0x55425053) && decide (leVal ((bs.drop 24).take 4) = 0x5A5AA5A5) &&
    decide (leVal ((bs.drop 20).take 4) = driveCrc (bs.take 16 ++ (bs.drop 256).take len))

/-- Page programs of a set before its marker's: the header, whose marker stays erased, and the entries (R451, R452; that the header
goes first is a DESIGN CHOICE, notes/assumptions/17). -/
def setPages (doms : Tab (List Byte)) : Nat := 1 + ceilDiv (setBytes doms) 256

/-- The slot that the next set is written to: the one that does not hold the current set; false is A (R346, R452). -/
def State.freeSlotB (s : State) : Bool :=
  match s.nvm.slotA, s.nvm.slotB with
  | some a, some b => decide (b.seq ≤ a.seq)
  | some _, none => true
  | none, _ => false

/-- The content of a slot, its erased rest left out: the complete set, or what a set that is being written, or was interrupted, has
had programmed (R346, R452). -/
def State.slotImage (s : State) (slotB : Bool) : List Byte :=
  match if slotB then s.nvm.slotB else s.nvm.slotA with
  | some c => c.image 0x5A5AA5A5
  | none =>
    if s.freeSlotB = slotB then
      (match s.nvm.writing, s.nvm.left with
       | some c, _ => (c.image 0xFFFFFFFF).take (256 * s.nvm.pages)
       | none, some (c, n) => (c.image 0xFFFFFFFF).take (256 * n)
       | none, none => [])
    else []

/-- The objects whose unwritten value is not a fixed default: the windows D and C, which follow the cycle length, and ROLL_CALL
(R79, R185). -/
def movingCodes : List Nat := [Code.dsWindow, Code.contWindow, Code.rollCall]

/-- COMMIT_PENDING 1100.03: RWP instances whose working value differs from the committed value (R360). -/
def State.commitPending (s : State) : Nat :=
  let c := s.currentSet
  let cr := (c.map (fun x => x.regs)).getD []
  let cd := (c.map (fun x => x.doms)).getD []
  let wr := s.rwpRegs
  let wd := s.rwpDoms
  let differs := fun (k : Nat) =>
    decide (valueIn wr s.time.n (keyCode k) (keyInst k) ≠ valueIn cr (cycleLenIn cr) (keyCode k) (keyInst k))
  let still := fun (e : Nat × Int) => !movingCodes.contains (keyCode e.1)
  ((wr.filter still).filter (fun e => differs e.1)).length +
    ((cr.filter still).filter (fun e => (Tab.find wr e.1).isNone && differs e.1)).length +
    ((movingCodes.flatMap (fun m => allPorts.map (objKey m))).filter differs).length +
    (wd.filter (fun e => e.2 ≠ Tab.get cd e.1 [])).length +
    (cd.filter (fun e => (Tab.find wd e.1).isNone && decide (e.2 ≠ []))).length

/-! ## The order of operations -/

/-- Page numbers of the NVM: the slots and the repair log (R451). -/
def slotPage (slotB : Bool) : Nat := if slotB then 0x6F8000 / 256 else 0x600000 / 256
/-- The page of a repair log entry (R451, R453). -/
def logPage (n : Nat) : Nat := (0x7F0000 + 16 * n) / 256
/-- An entry of the repair log as its 16 bytes (R453). -/
def Repair.bytes (r : Repair) : List Byte :=
  let b := leBytes 1 r.kind ++ leBytes 3 r.unit ++ leBytes 2 r.spare ++ leBytes 8 r.time
  b ++ leBytes 2 (crc16 (bytesBits b)).toNat
/-- The check of an entry of the repair log at start-up: its CRC-16 (R453). -/
def repairGood (bs : List Byte) : Bool :=
  decide (bs.drop 14 = leBytes 2 (crc16 (bytesBits (bs.take 14))).toNat)
/-- The first page of a firmware bank (R451). -/
def bankPage (bank : Nat) : Nat := bank * 0x300000 / 256

/-- What R451 calls a sector, 4 KiB: 248 of them are a persistence slot. -/
def slotSectors : Nat := 248

/-- The area of the configuration NVM among the bus addresses that the manual leaves open: behind the seven memories of R403 (R376;
notes/assumptions/19). -/
def nvmArea : Nat := 7

/-- NVM-error (R403 source 6, R408): operation 1 program, 2 erase, 3 read, and page; the management controller makes the
access. -/
def nvmError (op page : Nat) (s : State) : State :=
  notice { source := 6, key := [page], detail := [(1, op), (4, page)], access := if op = 3 then accRead else accWrite,
           master := masterMc, address := busAddress nvmArea page } s

/-- The hold-up check before a page program, on a bank voltage that no command carries (R284, R454). -/
def pageCheck (s : State) : Bool × State :=
  let d := s.draw
  holdupCheck false d.1.toNat d.2

/-- Starts the next operation by priority, repair log before commit, a page program on a measured bank voltage (R284, R454). A
refused one waits for HOLDUP_RETRY. The erase of a slot by sectors comes with the commits and takes no check (R284, R452). -/
def nvmStartWith (check : State → Bool × State) (s : State) : State :=
  if s.nvm.op.isSome then s
  else
    match s.nvm.toLog with
    | e :: _ =>
      let r := check s
      if r.1 then { r.2 with nvm := { r.2.nvm with op := some (.repair e) } } else r.2
    | [] =>
      if s.nvm.erasing.isSome then { s with nvm := { s.nvm with op := some .erase } }
      else if s.nvm.writing.isSome then
        let r := check s
        if r.1 then { r.2 with nvm := { r.2.nvm with op := some .commit } } else r.2
      else s

/-- Starts the next page program, unless one was refused and waits for its repeat (R284, R454). -/
def nvmStart (s : State) : State := if s.hold.nvmFrom.isSome then s else nvmStartWith pageCheck s

/-- Appends an entry to the repair log: its page program is due (R381, R393, R453). -/
def logRepair (kind unit spare : Nat) (s : State) : State :=
  nvmStart { s with nvm := { s.nvm with
    toLog := s.nvm.toLog ++ [{ kind := kind, unit := unit, spare := spare, time := s.time.time64 }] } }

/-! ## Commits -/

/-- Begins the erase of the slot that does not hold the current set (R452). -/
def eraseOther (s : State) : State :=
  let b := s.freeSlotB
  nvmStart { s with nvm := { s.nvm with
    slotA := if b then s.nvm.slotA else none, slotB := if b then none else s.nvm.slotB, left := none, erasing := some (b, 0) } }

/-- Whether the slot for the next set is not erased: it holds an older set, or pages of one that did not become current. -/
def State.slotDirty (s : State) : Bool :=
  s.nvm.left.isSome || (if s.freeSlotB then s.nvm.slotB.isSome else s.nvm.slotA.isSome)

/-- Starts a commit: the values as they stand are taken, and a set that does not fit fails. It waits for the erase of its slot
(R346, R452). -/
def startCommit (s : State) : State :=
  let regs := s.rwpRegs
  let doms := s.rwpDoms
  if slotRoom < setBytes doms then
    ({ s with nvm := { s.nvm with commitState := 3, further := false } }).bump Code.commitFails 0
  else if s.slotDirty then
    eraseOther { s with nvm := { s.nvm with commitState := 1, further := true } }
  else
    let c : CommitSet := { seq := ((s.currentSet.map (fun x => x.seq)).getD 0 + 1) % 2 ^ 32, time := s.time.time64,
                           regs := regs, doms := doms }
    nvmStart { s with nvm := { s.nvm with writing := some c, pages := 0, commitState := 1, further := false } }

/-- Whether a commit runs or waits to start (R346, R348). -/
def State.commitRuns (s : State) : Bool := s.nvm.writing.isSome || s.nvm.further

/-- A write of 1 to COMMIT (R346, R348, R450, R452): it starts, or one further commit is set, which waits for the commit or the
erase that runs. -/
def commitWrite (s : State) : State :=
  if s.nvm.writing.isSome ∨ s.nvm.erasure ∨ s.nvm.erasing.isSome then
    { s with nvm := { s.nvm with further := true, commitState := 1 } }
  else startCommit s

/-- What follows a commit or an erase that has ended: the further commit that was set, unless the erasure of R450 comes first
(R348, R450, R452). -/
def afterCommit (s : State) : State :=
  if s.nvm.further ∧ s.nvm.erasure = false then startCommit s else nvmStart s

/-- A commit that ends with an NVM error: the previous set is still current, and the slot keeps what was programmed
(R346). -/
def commitFailed (page : Nat) (s : State) : State :=
  afterCommit (nvmError 1 page
    (({ s with nvm := { s.nvm with
        writing := none, left := s.nvm.writing.map (fun c => (c, s.nvm.pages)), op := none
        commitState := if s.nvm.further then 1 else 3 } }).bump Code.commitFails 0))

/-- The set that has been written is current: its marker is programmed (R346, R452). -/
def setCurrent (c : CommitSet) (s : State) : State :=
  let b := s.freeSlotB
  ({ s with nvm := { s.nvm with
      slotA := if b then s.nvm.slotA else some c, slotB := if b then some c else s.nvm.slotB, writing := none, op := none
      commitState := if s.nvm.further then 1 else 2, commitTime := s.time.time64 } }).bump Code.nvmCommits 0

/-- Whether what the NVM programs is the marker of a set, all of whose pages are programmed (R452). -/
def State.markerRuns (s : State) (c : CommitSet) : Bool :=
  s.nvm.op == some .commit && decide (s.nvm.pages = setPages c.doms)

/-- COMMIT_SET_CURRENT (R284, R346, R452, R454): the marker is programmed and the set is current, and the other slot is
erased; or the program fails. The marker's program begins only after every page of the set is programmed and its hold-up
check has passed: until then there is none to end. -/
def commitSetCurrent (nvmOk : Bool) (s : State) : State :=
  match s.nvm.writing with
  | none => s
  | some c =>
    if s.markerRuns c then (if nvmOk then eraseOther (setCurrent c s) else commitFailed (slotPage s.freeSlotB) s)
    else s

/-! ## Page programs -/

/-- Appends a repair entry that has been programmed (R453). -/
def repairLogged (e : Repair) (s : State) : State :=
  { s with nvm := { s.nvm with log := s.nvm.log ++ [e], toLog := s.nvm.toLog.drop 1, op := none } }

/-- The bank that is not active (R366). -/
def State.inactive (s : State) : Nat := if s.fw.active = 0 then 1 else 0
/-- A firmware bank (R366). -/
def State.bank (s : State) (b : Nat) : Bank := if b = 0 then s.fw.bank0 else s.fw.bank1
/-- Writes a firmware bank. -/
def State.setBank (s : State) (b : Nat) (x : Bank) : State :=
  { s with fw := if b = 0 then { s.fw with bank0 := x } else { s.fw with bank1 := x } }
/-- Changes a firmware bank. -/
def State.modBank (s : State) (b : Nat) (f : Bank → Bank) : State := s.setBank b (f (s.bank b))

/-- FW_UPDATE_STATE reaches 6 (R366, R403 source 39). -/
def updateFailed (s : State) : State :=
  fault 39 [] [(1, s.fw.update)] { s with fw := { s.fw with update := 6, held := [], complete := false } }

/-- The bytes of a held segment that its next page takes: up to the end of the 256-byte page that the bank has come to (R367,
R451). -/
def State.pageRoom (s : State) : Nat := 256 - (s.bank s.inactive).image.length % 256

/-- The transfer of FW_IMAGE on a path ends other than by DOMAIN_END (R343, R344). -/
def PathSt.loadFails (x : PathSt) : PathSt :=
  match x.xfer with
  | some t => if t.code = Code.fwImage then { x with xfer := none, ended := some (t.index, t.sub) } else x
  | none => x

/-- The end of one page program of a firmware segment (R367, R451): its bytes are in the bank; after a failed program the bank
is left partial, nothing further of the image is programmed, and the transfer ends. -/
def fwPageDone (verified : Bool) (s : State) : State :=
  let b := s.inactive
  let done := { s with nvm := { s.nvm with op := none } }
  match s.fw.held with
  | [] => done
  | seg :: rest =>
    if verified then
      let left := seg.drop s.pageRoom
      let held := if left.isEmpty then rest else left :: rest
      (done.modBank b (fun x => { x with image := x.image ++ seg.take s.pageRoom })) |> fun t =>
        { t with fw := { t.fw with held := held, update := if held.isEmpty ∧ t.fw.complete then 3 else t.fw.update } }
    else
      let t := done.modBank b (fun x => { x with state := 3 })
      updateFailed (nvmError 1 (bankPage b + (s.bank b).image.length / 256)
        { t with mgmt := { t.mgmt with spi := t.mgmt.spi.loadFails, oxlA := t.mgmt.oxlA.loadFails,
                                       oxlB := t.mgmt.oxlB.loadFails } })

/-- The end of the erase of one sector of a slot (R451, R452, R403 source 6): the next sector follows, or what waits for the erase.
A sector whose erase fails its verify is erased again (DESIGN CHOICE, notes/assumptions/17). -/
def sectorErased (verified : Bool) (s : State) : State :=
  let done := { s with nvm := { s.nvm with op := none } }
  match s.nvm.erasing with
  | none => done
  | some (b, n) =>
    if verified then
      if n + 1 < slotSectors then nvmStart { done with nvm := { done.nvm with erasing := some (b, n + 1) } }
      else afterCommit { done with nvm := { done.nvm with erasing := none } }
    else nvmStart (nvmError 2 (slotPage b + 16 * n) done)

/-- NVM_PAGE_PROGRAM_COMPLETE (R453, R454): the program ends, and the next operation by priority starts. A repair entry
whose program fails is programmed again (DESIGN CHOICE, notes/assumptions/17). The table has no row of its own for the erase of
a slot's sector: its end is this one too (DESIGN CHOICE, notes/assumptions/17). The end of a marker's program is
COMMIT_SET_CURRENT. -/
def pageProgramComplete (verified : Bool) (s : State) : State :=
  match s.nvm.op with
  | none => s
  | some (.repair e) =>
    if verified then nvmStart (repairLogged e s)
    else nvmStart (nvmError 1 (logPage s.nvm.log.length) { s with nvm := { s.nvm with op := none } })
  | some .commit =>
    match s.nvm.writing with
    | none => { s with nvm := { s.nvm with op := none } }
    | some c =>
      if s.markerRuns c then s
      else if verified then nvmStart { s with nvm := { s.nvm with op := none, pages := s.nvm.pages + 1 } }
      else commitFailed (slotPage s.freeSlotB + s.nvm.pages) s
  | some .erase => sectorErased verified s
  | some .fwPage => nvmStart (fwPageDone verified s)

/-- Starts the next page program of the firmware segment held longest, which gives way to the repair log and to a commit
(R284, R367, R454). -/
def fwPageStart (microVolt : Nat) (s : State) : State :=
  if s.nvm.op.isNone ∧ s.nvm.toLog = [] ∧ s.nvm.writing.isNone ∧ s.nvm.erasing.isNone ∧ s.fw.held ≠ [] then
    let r := holdupCheck false microVolt s
    if r.1 then { r.2 with nvm := { r.2.nvm with op := some .fwPage } } else r.2
  else s

/-- The repeat of a refused page program after 10 ms (R284). -/
def nvmRetry (microVolt : Nat) (s : State) : State :=
  if s.hold.nvmFrom.isSome then
    let t := nvmStartWith (holdupCheck false microVolt) s
    if s.nvm.op.isNone ∧ s.nvm.toLog = [] ∧ s.nvm.writing.isNone ∧ s.nvm.erasing.isNone then fwPageStart microVolt t else t
  else s

/-- HOLDUP_RETRY (R284): the check of a refused commit of the archive, or of a refused page program, is repeated. -/
def holdupRetry (commitStore : Bool) (microVolt : Nat) (s : State) : State :=
  if commitStore then (if s.hold.archFrom.isSome then archiveCommit microVolt s else s) else nvmRetry microVolt s

/-! ## Commands -/

/-- HOLDUP_RETRY. -/
def execHoldupRetry (commitStore : Bool) (senseMicroVolt : Nat) (s : State) : Host.Outcome State Fault Refusal :=
  run (holdupRetry commitStore senseMicroVolt) s

end Sys2Proof.Machine
end

