-- ==== Sys2Proof/Machine/Arq.lean ====
section
/-! DEFINITION. Acknowledgement and retransmission on a branch line, and the hand-over of received frames to the host
(R88, R197, R198, R200, R202, R485). -/

namespace Sys2Proof.Machine

/-- Whether a sequence number lies before another (R197). -/
def seqBefore (s a : Nat) : Bool := decide (1 ≤ (a + 256 - s) % 256) && decide ((a + 256 - s) % 256 ≤ 128)

/-- What becomes of one frame at an acknowledgement point with ack `a` in cycle `c`; `repeated` says that a newer frame carries
the same message (R200, R485): kept as it is or marked
for retransmission; none where it is released, with whether it counts as dropped. The points are those of R198 also at P = 1, where
R89's bound of c + 2P for one retransmission would want the slot of cycle c + 1 to judge a frame of cycle c + 1 (DESIGN CHOICE,
notes/assumptions/23). -/
def judgeFrame (a c : Nat) (repeated : Bool) (f : SentFrame) : Option SentFrame × Bool :=
  if f.due then (if seqBefore f.seq a then (none, false) else (some f, false))
  else if c ≤ f.cycle then (some f, false)
  else if seqBefore f.seq a then (none, false)
  else if repeated then (none, false)
  else if f.rtx = false then (some { f with rtx := true, due := true }, false)
  else (none, true)

/-- What becomes of the frames that await acknowledgement, oldest first. A frame of a repeated message that a newer frame also
carries is not retransmitted (R200, R485). -/
def judgeFrames (a c : Nat) (fs : List SentFrame) : List (Option SentFrame × Bool) :=
  match fs with
  | [] => []
  | f :: rest =>
    judgeFrame a c (f.repeated && rest.any (fun g => g.repeated && g.payload == f.payload)) f :: judgeFrames a c rest

/-- An acknowledgement point for the frames that the head-end sent to a drop before the cycle of the slot: `a` is the ack
received, or the last one again (R198, R200). A repeated message whose frame is acknowledged is sent no more (R485). -/
def ackPoint (p d a : Nat) (s : State) : State :=
  let c := s.time.cycles
  let fs := (s.ctx p d).sent
  let rs := judgeFrames a c fs
  let dropped := (rs.filter (fun r => r.2)).length
  let acked := (fs.filter (fun f => (f.due || decide (f.cycle < c)) && seqBefore f.seq a)).map (fun f => f.seq)
  let s1 := s.modCtx p d (fun x => { x with sent := rs.filterMap (fun r => r.1), ackIn := a, pointDone := true })
  let s2 := s1.modPort p (fun x => { x with msgs := x.msgs.filter (fun m =>
    !(m.drop == d && m.seqs.any (fun q => acked.contains q))) })
  s2.bumpBy Code.dropFramesDropped (dropKey p d) dropped

/-- The ack of a good burst outside the drop's slots, which is no acknowledgement point: the frames before it are released
(R155, R197, R198; notes/assumptions/11). -/
def ackOutside (p d : Nat) (h : RxHeader) (s : State) : State :=
  if h.flags.testBit 3 then
    let acked := ((s.ctx p d).sent.filter (fun f => seqBefore f.seq h.ack)).map (fun f => f.seq)
    let s1 := s.modCtx p d (fun x => { x with sent := x.sent.filter (fun f => !seqBefore f.seq h.ack), ackIn := h.ack })
    s1.modPort p (fun x => { x with msgs := x.msgs.filter (fun m =>
      !(m.drop == d && m.seqs.any (fun q => acked.contains q))) })
  else s

/-- A missed acknowledgement point: the last ack again (R198). -/
def missedPoint (p d : Nat) (s : State) : State := ackPoint p d (s.ctx p d).ackIn s

/-- Steps the next expected number past marked numbers (R200). -/
def stepMarked (fuel n : Nat) (marked : List Nat) : Nat × List Nat :=
  match fuel with
  | 0 => (n, marked)
  | f + 1 => if marked.contains n then stepMarked f ((n + 1) % 256) (dropFrom n marked) else (n, marked)

/-- Takes a good sequenced frame into the receive window of R200. The Boolean says whether it is new. -/
def takeSeq (p d seq : Nat) (s : State) : State × Bool :=
  let x := s.ctx p d
  let fresh := decide ((seq + 256 - x.rxNext) % 256 < 128) && !x.marked.contains seq
  let r := stepMarked 256 x.rxNext (if fresh then addTo seq x.marked else x.marked)
  let s1 := s.setCtx p d { x with rxNext := r.1, marked := r.2, ackOwed := true }
  (if fresh then s1 else s1.bump Code.duplicates (dropKey p d), fresh)

/-- The first marked number after `n`. -/
def firstMarked (n : Nat) (marked : List Nat) : Nat :=
  (List.range 256).map (fun k => (n + k) % 256) |>.find? (fun q => marked.contains q) |>.getD n

/-- Composes the ack of an acknowledgement point of the drop's frames, with the give-up count (R200). -/
def composeAck (p d : Nat) (s : State) : State :=
  let x := s.ctx p d
  if x.marked.isEmpty then s.setCtx p d { x with named := 0, ackOut := x.rxNext, ackOwed := false }
  else if x.named + 1 = 2 then
    let m := firstMarked x.rxNext x.marked
    let r := stepMarked 256 m x.marked
    (s.setCtx p d { x with named := 0, rxNext := r.1, marked := r.2, ackOut := r.1, ackOwed := false }).bumpBy
      Code.upGivenUp (dropKey p d) ((m + 256 - x.rxNext) % 256)
  else s.setCtx p d { x with named := x.named + 1, ackOut := x.rxNext, ackOwed := false }

/-- Puts a frame on a link's data queue. -/
def pushData (f : OutFrame) (l : Link) (s : State) : State :=
  s.modLink l (fun x => { x with data := x.data ++ [f] })

/-- Hands a MAC frame from a line to the host, on the links of its port; it takes words of the received-frame part (R48, R154,
R309, R320). -/
def frameToHost (p d epoch : Nat) (payload : List Byte) (s : State) : State :=
  bufferWritten p
    (forAll (s.linksOfPort p) (pushData { cls := 0, epoch := epoch, port := p, drop := d, copy := false, body := payload }) s)

/-- Hands a drop's MAC frame to the host, or discards it as oversize where it exceeds the drop's upstream largest payload
(R88). -/
def deliverUp (p d : Nat) (payload : List Byte) (s : State) : State :=
  if s.upMax p d < payload.length then
    discardStatus p d 1 payload.length (s.bump Code.oversizeDiscards p)
  else frameToHost p d (s.ctx p d).epoch payload s

/-- Restarts both sequence counts of a drop: nothing awaits acknowledgement any more (R192, R211, R216). -/
def restartSeq (p d : Nat) (s : State) : State :=
  s.modCtx p d (fun x => { x with txSeq := 0, rxNext := 0, ackIn := 0, ackOut := 0, named := 0, marked := [], sent := [],
                                  ackOwed := false, sinceTx := 0 })

/-- Discards the frames queued for a drop whose epoch changes, counts and reports them, and releases the frames that
await acknowledgement (R202). -/
def purgeQueue (p d newEpoch : Nat) (s : State) : State :=
  let fs := (s.ctx p d).queue.filter (fun f => f.2.1 == 1)
  let s1 := s.modCtx p d (fun x => { x with queue := [], sent := [] })
  forAll fs (fun f t => staleStatus p d 3 f.1 newEpoch
    ((t.bump Code.staleHost (dropKey p d)).bump Code.staleEpoch p)) s1

/-- Queues one line management message to a drop, sent once as a sequenced frame (R485). -/
def queueOnce (p d : Nat) (bytes : List Byte) (s : State) : State :=
  queueMsg p { drop := d, bytes := bytes, untilCycle := none, seqs := [], fromCycle := s.time.cycles + 1 } s

end Sys2Proof.Machine
end

