-- ==== Sys2Proof/Machine/Levelling.lean ====
section
/-! DEFINITION. Sounding, levelling and mode changes (R157, R204–R209, R440). -/

namespace Sys2Proof.Machine

/-! ## References and margins -/

/-- Reference SNR of a level code, in 1/160 dB: 16.1, 23.0, 29.2 and 35.2 dB (R157). -/
def refExact (level : Nat) : Int :=
  if level = 0 then 2576 else if level = 1 then 3680 else if level = 2 then 4672 else 5632

/-- Reference SNR of a level code to the nearest 1/16 dB (R157). -/
def refSnr (level : Nat) : Int := roundDiv (refExact level) 10

/-- MARGIN 4030.02: SNR less the reference SNR of the mode's level count, 1/16 dB (R157, R160). -/
def marginAt (snr mode : Nat) : Int := (snr : Int) - refSnr (mode % 16)

/-- MARGIN 4030.02 of a drop: 0 until its first SNR (R157, R160). -/
def Ctx.marginNow (x : Ctx) : Int := if x.snr = 0 ∧ x.snrFresh = true then 0 else marginAt x.snr x.mode

/-- Whether an SNR exceeds a level's reference by a margin in 0.5 dB (R207 step 3). -/
def meets (snr level margin : Nat) : Bool := decide (refExact level + 80 * (margin : Int) ≤ 10 * (snr : Int))

/-- The drop attenuation of R192, 0.5 dB, from the attenuation in use and the received peak. -/
def attenFor (atten : Nat) (rxAmpl target : Int) : Nat :=
  (clamp 0 48 ((atten : Int) + roundDiv (rxAmpl - target) 8)).toNat

/-- The highest permitted level code of a drop (R207 step 3). -/
def State.levelCap (s : State) (p d : Nat) : Nat := min (s.regN Code.levelMax p) ((s.ctx p d).caps / 16 % 4)

/-- The payload of a sounding at a mode: the largest up to SOUND_LEN whose burst with guard fits C, none below 16 bytes
(R205). -/
def State.soundPayload (s : State) (p mode : Nat) : Option Nat :=
  match largestPayload (s.winC p) mode with
  | none => none
  | some n => if min n (s.regN Code.soundLen p) < 16 then none else some (min n (s.regN Code.soundLen p))

/-- The highest level code that meets the margin at an SNR (R207 step 3). -/
def bestLevel (cap margin snr : Nat) : Option Nat :=
  [3, 2, 1, 0].find? (fun l => decide (l ≤ cap) && meets snr l margin)

/-- The best rate among the results of a run (R207 steps 4 and 6). -/
def bestRate (rs : List (Nat × Option Nat × Nat × Int)) : Nat :=
  rs.foldl (fun m r => match r.2.1 with
    | some l => max m (modeRate (modeOf r.1 l))
    | none => m) 0

/-! ## Plans with another mode -/

/-- The map of a port's plan with one drop at another mode, or none where it overflows (R84, R208). -/
def State.planMapAt (s : State) (p d mode : Nat) : Option SlotMap :=
  buildMap (s.upRegion p) (s.winD p) ((s.planned p).map (fun e =>
    (e, s.slotLen p e (if e = d then mode else s.plannedMode p e))))

/-- Whether a drop's mode can be taken: its map and the failover maps fit, also with the changes that wait for the pending map
(R208, R213, R484). -/
def State.modeFits (s : State) (p d mode : Nat) : Bool :=
  let fits := fun (t : State) => match t.planMapAt p d mode with
    | none => false
    | some m => t.failoverFits p m
  fits s && fits (s.allTaken p)

/-- Whether a levelling of a drop runs: a run, or the mode change that it announced (R204). -/
def State.levelling (s : State) (p d : Nat) : Bool :=
  (s.port p).levels.any (fun r => r.drop == d) || (s.ctx p d).roleFlags.testBit 1 ||
    (s.port p).waiting.any (fun w => w.1 == d && (match w.2 with
      | .mode _ _ => true
      | _ => false))

/-- Sets or clears a bit of a drop's role flags (R218). -/
def setRole (bit : Nat) (v : Bool) (x : Ctx) : Ctx :=
  { x with roleFlags := if v then x.roleFlags ||| 2 ^ bit else x.roleFlags &&& (255 - 2 ^ bit) }

/-- MODE_CHANGE, 8 bytes (R208). -/
def modeChangeBytes (mode atten apply : Nat) : List Byte := [6, 0, byteOf mode, byteOf atten] ++ beBytes 4 apply

/-- Announces a mode and attenuation for an apply cycle at least MODE_LEAD cycles ahead, or lets the change wait for the
pending map (R208, R484). -/
def changeMode (p d mode atten : Nat) (s : State) : State :=
  match s.planMapAt p d mode with
  | none => s
  | some m =>
    match s.namedCycle p (s.regN Code.modeLead p) m.period with
    | none => waitFor p d (.mode mode atten) s
    | some k =>
      let s1 := s.modCtx p d (fun x => setRole 1 true
        { x with nextMode := mode, nextAtten := atten, modeApply := k, confirmed := false })
      let s2 := queueMsg p { drop := d, bytes := modeChangeBytes mode atten (s.numberOf k), untilCycle := some k,
                             seqs := [], fromCycle := s.time.cycles + 1 } s1
      installMap p m k s2

/-! ## A levelling run -/

/-- SOUND_REQUEST, 16 bytes (R206). -/
def soundRequestBytes (mode atten cycle length kind c t : Nat) : List Byte :=
  [4, 0, byteOf mode, byteOf atten] ++ beBytes 4 cycle ++ beBytes 2 length ++ [byteOf kind, 0] ++ beBytes 2 c ++
    beBytes 2 t

/-- Whether a cycle of a port is free for a sounding: number mod 16 is 15, no beacon window, no sounding yet (R205). -/
def State.soundingFree (s : State) (p k : Nat) : Bool :=
  decide (s.numberOf k % 16 = 15) && !s.beaconAt p k &&
    !(s.port p).levels.any (fun r => r.cycle == some k) &&
    !allDrops.any (fun d => ((s.ctx p d).standbyAt.map (fun a => a.1)) == some k)

/-- The sounding cycle for a request that leaves in the next downstream window: at least 2P + 1 cycles after it (R206). -/
def State.soundingCycle (s : State) (p : Nat) : Nat :=
  let sent := firstCycle (fun k => !s.beaconAt p k) 64 (s.time.cycles + 1)
  firstCycle (s.soundingFree p) 4096 (sent + 2 * (s.port p).map.period + 1)

/-- Replaces a drop's run. -/
def putRun (p : Nat) (r : LevelRun) (s : State) : State :=
  s.modPort p (fun x => { x with levels := x.levels.map (fun q => if q.drop = r.drop then r else q) })

/-- Removes a drop's run. -/
def endRun (p d : Nat) (s : State) : State :=
  s.modPort p (fun x => { x with levels := x.levels.filter (fun q => !decide (q.drop = d)) })

/-- Requests a sounding of the run's baud (R206). -/
def requestSounding (p length : Nat) (r : LevelRun) (s : State) : State :=
  let k := s.soundingCycle p
  let mode := modeOf r.baud (s.levelCap p r.drop)
  let s1 := putRun p { r with cycle := some k, upSnr := none, mode := mode, length := length } s
  queueOnce p r.drop (soundRequestBytes mode r.atten (s.numberOf k) length 0 (s.winC p) (s.winT p)) s1

/-- The modes that met the margin, best rate first and the slower baud first between equal rates (R207, R208): rate, mode
and SNR. -/
def candidates (cap margin : Nat) (rs : List (Nat × Option Nat × Nat × Int)) : List (Nat × Nat × Nat) :=
  sortBy (fun a b => decide (b.1 < a.1) || (decide (a.1 = b.1) && decide (modeBaud b.2.1 ≤ modeBaud a.2.1)))
    (rs.flatMap (fun r =>
      ((List.range (cap + 1)).filter (fun l => meets r.2.2.1 l margin)).map (fun l =>
        (modeRate (modeOf r.1 l), modeOf r.1 l, r.2.2.1))))

/-- Ends a run and takes its mode and attenuation (R207 steps 6 and 7, R208). -/
def decideRun (p : Nat) (r : LevelRun) (s : State) : State :=
  let d := r.drop
  let x := s.ctx p d
  let margin := s.regN Code.levelMargin p
  let cs := candidates (s.levelCap p d) margin r.results
  let snrOf := fun (mode : Nat) =>
    ((r.results.find? (fun q => q.1 == modeBaud mode)).map (fun q => q.2.2.1)).getD x.snr
  let cs' := if cs.isEmpty then [(0, baseMode, snrOf baseMode)] else cs
  let pick := cs'.find? (fun c => s.modeFits p d c.2.1)
  let mode := (pick.map (fun c => c.2.1)).getD x.mode
  let snr := (pick.map (fun c => c.2.2)).getD (snrOf x.mode)
  let peak := ((r.results.find? (fun q => q.1 == modeBaud mode)).map (fun q => q.2.2.2)).getD (-32768)
  let s1 := (endRun p d s).modCtx p d (fun y => setRole 2 (!meets snr (mode % 16) margin)
    { y with lastLevel := s.time.time64, levelTick := s.time.tick, dsAmpl := peak, levelMargin := marginAt snr mode })
  if mode ≠ x.mode ∨ r.atten ≠ x.txAtten then changeMode p d mode r.atten s1 else s1

/-- Goes on with a run at baud `b`: it decides when no slower baud can offer more, passes over a baud that cannot be
sounded, and otherwise requests its sounding (R205, R207 steps 2 and 5). -/
def goOn (fuel p b : Nat) (r : LevelRun) (s : State) : State :=
  match fuel with
  | 0 => decideRun p r s
  | f + 1 =>
    let cap := s.levelCap p r.drop
    if 6 < b ∨ (0 < bestRate r.results ∧ modeRate (modeOf b cap) ≤ bestRate r.results) then decideRun p r s
    else
      match s.soundPayload p (modeOf b cap) with
      | none => goOn f p (b + 1) { r with results := r.results ++ [(b, none, 0, -32768)] } s
      | some n => requestSounding p n { r with baud := b, misses := 0 } s

/-- Goes on with the levelling that started first, where it has waited for those before it: the soundings of a port serve
its drops in the order their levellings started (R205). -/
def serveRuns (fuel p : Nat) (s : State) : State :=
  match fuel with
  | 0 => s
  | f + 1 =>
    match (s.port p).levels with
    | [] => s
    | r :: _ => if r.held then serveRuns f p (goOn 8 p r.baud { r with held := false } s) else s

/-- Starts a levelling of an active drop, unless one runs (R204, R205, R207 steps 1 and 2). -/
def startLevelling (p d : Nat) (s : State) : State :=
  let x := s.ctx p d
  if x.state ≠ 2 ∨ s.levelling p d = true then s
  else
    let r : LevelRun :=
      { drop := d, atten := attenFor x.txAtten x.rxAmpl (s.reg Code.upTarget p), baud := x.maxBaud, mode := baseMode, length := 0,
        cycle := none, misses := 0, upSnr := none, results := [], held := true }
    let s1 := (s.bump Code.levelRuns p).modPort p (fun y => { y with levels := y.levels ++ [r] })
    let s2 := s1.modCtx p d (fun y => { y with soundSnr := List.replicate 7 0, levelDeferred := false })
    serveRuns 33 p s2

/-- Starts a levelling caused by LEVEL_INTERVAL or MARGIN, which a throttle defers (R204, R440). -/
def startDeferrable (p d : Nat) (s : State) : State :=
  if (s.ctx p d).state ≠ 2 then s
  else if s.heat.throttled then s.modCtx p d (fun x => { x with levelDeferred := true })
  else startLevelling p d s

/-- Starts the levellings that a throttle deferred (R440). -/
def startDeferred (s : State) : State :=
  forAll allPorts (fun p t => forAll allDrops (fun d u =>
    if (u.ctx p d).levelDeferred then startLevelling p d (u.modCtx p d (fun x => { x with levelDeferred := false }))
    else u) t) s

/-- The run of a drop. -/
def State.runOf (s : State) (p d : Nat) : Option LevelRun := (s.port p).levels.find? (fun r => r.drop == d)

/-- Takes the result of a sounded baud and goes on (R207 step 3). -/
def soundResult (p : Nat) (r : LevelRun) (snr : Nat) (peak : Int) (s : State) : State :=
  let lv := bestLevel (s.levelCap p r.drop) (s.regN Code.levelMargin p) snr
  let s1 := s.modCtx p r.drop (fun x => { x with soundSnr := setAt x.soundSnr r.baud (min snr 65535) })
  let r1 := { r with results := r.results ++ [(r.baud, lv, snr, peak)], cycle := none, upSnr := none, misses := 0 }
  serveRuns 33 p (goOn 8 p (r.baud + 1) r1 (putRun p r1 s1))

/-- A baud that was missed: it is sounded once more, and a second miss sets its SNR to 0 (R206). -/
def soundMissed (p : Nat) (r : LevelRun) (s : State) : State :=
  if r.misses = 0 then requestSounding p r.length { r with misses := 1 } s
  else soundResult p r 0 (-32768) (s.bump Code.soundMisses p)

/-- The upstream SNR_b and arrival offset of a SOUND burst received for a drop in the present cycle, for the levelling or the
standby check whose sounding it is (R153, R156, R205, R207, R214). -/
def takeUpSound (p d snr : Nat) (arrival : Int) (s : State) : State :=
  match (s.port p).levels.find? (fun r => r.drop == d && r.cycle == some s.time.cycles) with
  | some r => if r.upSnr = none then putRun p { r with upSnr := some snr } s else s
  | none =>
    if (s.ctx p d).standbyAt.map (fun a => a.1) = some s.time.cycles then
      s.modCtx p d (fun x => { x with standbyHeard := some (snr, arrival) })
    else s

/-- SOUND_REPORT (R206, R207): it must name the mode and the cycle of the sounding. -/
def soundReport (p d : Nat) (m : List Byte) (s : State) : State :=
  match s.runOf p d with
  | none => s
  | some r =>
    match r.cycle with
    | none => s
    | some k =>
      if m.length = 16 ∧ atOr m 0 0 = 5 ∧ modeField (atOr m 2 0).toNat = some r.mode ∧ beVal ((m.drop 4).take 4) = s.numberOf k ∧
          k ≤ s.time.cycles then
        match r.upSnr with
        | none => soundMissed p r s
        | some up =>
          soundResult p r (min up (beVal ((m.drop 8).take 2))) (untwos 16 (beVal ((m.drop 10).take 2))) s
      else s

/-- SOUND_MISS (R206): the sounding cycle has passed without an upstream SOUND burst, or 2P cycles after it without a
report. -/
def soundMiss (p d : Nat) (s : State) : State :=
  match s.runOf p d with
  | none => s
  | some r =>
    match r.cycle with
    | none => s
    | some k =>
      if (r.upSnr = none ∧ k < s.time.cycles) ∨ k + 2 * (s.port p).map.period ≤ s.time.cycles then soundMissed p r s
      else s

/-- LEVEL_INTERVAL_EXPIRY (R204, R440). -/
def levelIntervalExpiry (p d : Nat) (s : State) : State :=
  if s.elapsed (s.ctx p d).levelTick (s.regN Code.levelInterval p * secondTicks) then startDeferrable p d s else s

/-! ## Mode changes -/

/-- MODE_CONFIRM (R5, R94, R208): an echo of the announced values that arrives by the start of the cycle before the apply
cycle. -/
def modeConfirm (p d : Nat) (m : List Byte) (s : State) : State :=
  let x := s.ctx p d
  if x.roleFlags.testBit 1 ∧ m.length = 8 ∧ atOr m 0 0 = 7 ∧ modeField (atOr m 2 0).toNat = some x.nextMode ∧
      (atOr m 3 0).toNat = x.nextAtten ∧ beVal (m.drop 4) = s.numberOf x.modeApply ∧ s.time.cycles + 2 ≤ x.modeApply then
    s.modCtx p d (fun y => { y with confirmed := true })
  else s

/-- Builds the port's plan again for the cycle of its pending map: where the plan is the map in force, nothing is pending
any more; drops whose announced entry changes are told (R208, R484). -/
def restorePlan (p : Nat) (s : State) : State :=
  match (s.port p).pending with
  | none => s
  | some q =>
    match s.planMap p with
    | none => s
    | some m =>
      let s1 := announceMap p q.map m q.apply s
      if m = (s.port p).map then s1.modPort p (fun x => { x with pending := none })
      else s1.modPort p (fun x => { x with pending := some { q with map := m } })

/-- Names a map for the port's present plan under R86, or lets the change wait. -/
def remap (p d : Nat) (c : Change) (s : State) : State :=
  match s.planMap p with
  | none => s
  | some m =>
    match s.namedCycle p (s.mapLead p m.period) m.period with
    | some k => installMap p m k s
    | none => waitFor p d c s

/-- MODE_APPLY (R96, R208): the switch at the apply cycle when MODE_CONFIRM came in time; otherwise, from the start of the
cycle before it on, the old mode and map are kept and the drop is levelled again. -/
def modeApply (p d : Nat) (s : State) : State :=
  let x := s.ctx p d
  if x.roleFlags.testBit 1 = false then s
  else if x.confirmed then
    if s.due x.modeApply then
      let s1 := s.modCtx p d (fun y => setRole 1 false
        { y with prevMode := y.mode, mode := y.nextMode, txAtten := y.nextAtten, revertLeft := some 8, reverted := false,
                 confirmed := false })
      modeStatus p d x.mode x.nextMode (s1.bump Code.modeChanges p)
    else s
  else if x.modeApply ≤ s.time.cycles + 2 then
    let s1 := (dropMsgs p d 6 s).modCtx p d (fun y => setRole 1 false { y with nextMode := y.mode, nextAtten := y.txAtten })
    startLevelling p d (restorePlan p s1)
  else s

/-- MODE_REVERT (R209, R217): no good burst in the first 8 map periods after a switch. -/
def modeRevert (p d : Nat) (s : State) : State :=
  let x := s.ctx p d
  if x.state = 2 ∧ x.revertLeft = some 0 then
    let s1 := s.modCtx p d (fun y => { y with mode := y.prevMode, prevMode := y.mode, nextMode := y.prevMode,
                                              revertLeft := none, reverted := true, silent := 0 })
    let s2 := modeStatus p d x.mode x.prevMode (s1.bump Code.modeReverts (dropKey p d))
    startLevelling p d (remap p d .revert s2)
  else s

/-! ## The commands -/

/-- LEVEL_INTERVAL_EXPIRY (R204). -/
def execLevelIntervalExpiry (port drop : Nat) (s : State) : Host.Outcome State Fault Refusal :=
  run (atDrop port drop (levelIntervalExpiry port drop)) s

/-- SOUND_REPORT (R207). -/
def execSoundReport (port drop : Nat) (message : List Byte) (s : State) : Host.Outcome State Fault Refusal :=
  run (atDrop port drop (soundReport port drop message)) s

/-- SOUND_MISS (R206). -/
def execSoundMiss (port drop : Nat) (s : State) : Host.Outcome State Fault Refusal :=
  run (atDrop port drop (soundMiss port drop)) s

/-- MODE_CONFIRM (R208). -/
def execModeConfirm (port drop : Nat) (message : List Byte) (s : State) : Host.Outcome State Fault Refusal :=
  run (atDrop port drop (modeConfirm port drop message)) s

/-- MODE_APPLY (R208). -/
def execModeApply (port drop : Nat) (s : State) : Host.Outcome State Fault Refusal :=
  run (atDrop port drop (modeApply port drop)) s

/-- MODE_REVERT (R209). -/
def execModeRevert (port drop : Nat) (s : State) : Host.Outcome State Fault Refusal :=
  run (atDrop port drop (modeRevert port drop)) s

end Sys2Proof.Machine
end

