-- ==== Sys2Proof/Machine/Receiver.lean ====
section
/-! DEFINITION. Burst reception on branch lines: acquisition, context load and write-back, overlaps, wrong bursts and the
outcomes of R155 (R103, R107, R109, R113, R116, R129–R158, R195, R202). -/

namespace Sys2Proof.Machine

/-! ## Spans -/

/-- The drop whose context a span counts in: the slot's owner or the sounding drop (R155). -/
def spanOwner (sp : RxSpan) : Option Nat :=
  match sp with
  | .slot d => some d
  | .sounding d => some d
  | _ => none

/-- Whether a span is a slot. -/
def spanIsSlot (sp : RxSpan) : Bool :=
  match sp with
  | .slot _ => true
  | _ => false

/-- Whether an acquisition or reception is in progress (R132, R141). -/
def inReception (st : RxState) : Bool :=
  match st with
  | .acquire | .search | .header | .payload | .tail => true
  | _ => false

/-- Whether the receiver of a branch port works at all: the grid runs, and the port has started its cycles and is outside
its beacon windows (R82, R129). -/
def State.listening (s : State) (p : Nat) : Bool :=
  s.time.running && s.isBranch p && (s.port p).started && !s.inBeacon p

/-- The drop whose sounding the contention window of the present cycle holds (R205, R214). -/
def State.soundingNow (s : State) (p : Nat) : Option Nat :=
  match (s.port p).levels.find? (fun r => r.cycle == some s.time.cycles) with
  | some r => some r.drop
  | none => allDrops.find? (fun d => ((s.ctx p d).standbyAt.map (fun a => a.1)) == some s.time.cycles)

/-- The mode of the sounding of a drop that the present cycle holds: the run's, or the standby check's (R206, R214). -/
def State.soundingMode (s : State) (p d : Nat) : Nat :=
  match (s.port p).levels.find? (fun r => r.drop == d && r.cycle == some s.time.cycles) with
  | some r => r.mode
  | none => ((s.ctx p d).standbyAt.map (fun a => a.2)).getD baseMode

/-- Leaves a slot: one in which no preamble was detected waits for its EMPTY_SLOT (R155). -/
def leaveSlot (p : Nat) (s : State) : State :=
  let x := (s.port p).rx
  let ending := match x.span with
    | .slot d => if x.preamble then x.ending else some d
    | _ => x.ending
  s.modRx p (fun y => { y with ending := ending, span := .idle, state := .idle, energySeen := false })

/-- Counts in a port counter and in a drop's counter (R155). -/
def countDrop (p d portCode dropCode : Nat) (s : State) : State := (s.bump portCode p).bump dropCode (dropKey p d)

/-- The words of a drop's context, 0–63, that a load cannot read: those with a double-bit error, and those marked bad
before (R48, R144). -/
def State.badCtxWords (s : State) (p d : Nat) (errors : List (Nat × Ecc)) : List Nat :=
  (List.range 64).filter (fun w => errors.contains (w, .double) || s.isBad 2 (ctxWord p d + w))

/-- The reading of a drop's context before a slot or a train: single-bit errors are corrected; bad equaliser words make the
receiver use the start context, bad counter or link-and-role words have the context rebuilt (R48, R144, R145, R219). The
Boolean says whether the start context is used. -/
def readContext (p d : Nat) (errors : List (Nat × Ecc)) (s : State) : State × Bool :=
  let x := s.ctx p d
  let lost := s.badCtxWords p d errors
  let bad := lost.any (fun w => decide (w < 24))
  let start := bad || !x.ctxFlags.testBit 0 || x.ctxFlags.testBit 2
  let s1 := s.modCtx p d (fun y =>
    { y with ctxFlags := (if y.ctxFlags.testBit 0 then 1 else 0) + (if bad then 2 else 0), snrFresh := y.snrFresh || start })
  let s2 := forAll (errors.filter (fun e => decide (e.1 < 64) && decide (e.2 = .single))) (fun _ t => sramCorrected 2 t) s1
  let s3 := forAll lost (fun w t =>
    sramUncorrectable 2 (ctxWord p d + w) accRead (masterEngine (s.engineFor p)) t) s2
  let s4 := if bad then countDrop p d Code.ctxEccStarts Code.ctxEcc s3 else s3
  (rebuildCtx p d (lost.filter (fun w => decide (24 ≤ w))) s4, start)

/-- The timing recovery's estimate starts from a context's phase and frequency offset, or from the start context's, which are 0
(R137, R140). -/
def startTiming (p : Nat) (owner : Option Nat) (s : State) : State :=
  match owner with
  | some d => s.modRx p (fun y => { y with phase := (s.ctx p d).phase, freq := (s.ctx p d).freqOffset })
  | none => s.modRx p (fun y => { y with phase := 0, freq := 0 })

/-- The receive state at the opening of the contention window: armed for a sounding, from the drop's context where the mode
has its levelled baud; armed for answers while roll call is open; else idle (R78, R129, R140). The sounding at the levelled baud
loads the drop's context as a slot does (R144, R145; DEDUCED, notes/assumptions/11). -/
def openContention (p : Nat) (s : State) : State :=
  match s.soundingNow p with
  | some d =>
    let mode := s.soundingMode p d
    let r := if modeBaud mode = modeBaud (s.ctx p d).mode then readContext p d [] s else (s, true)
    startTiming p (if r.2 then none else some d)
      (r.1.modRx p (fun y => { y with
        span := .sounding d, state := .armed, mode := mode, loaded := none, energySeen := false, useStart := r.2 }))
  | none =>
    if s.rollOpen p && decide (0 < (s.port p).latch.c) then
      startTiming p none (s.modRx p (fun x => { x with
        span := .contention, state := .armed, mode := baseMode, useStart := true, loaded := none, energySeen := false }))
    else s.modRx p (fun x => { x with span := .idle, state := .idle, loaded := none, energySeen := false })

/-- Position in the present cycle, in ticks. -/
def State.cyclePos (s : State) : Nat := s.time.time64 + s.cycleTicks - s.time.nextCycle

/-- Whether the present tick lies in the upstream region of a port (R78). -/
def State.inUpRegion (s : State) (p : Nat) : Bool :=
  let la := (s.port p).latch
  decide (la.d ≤ s.cyclePos) && decide (s.cyclePos + la.c + la.t < s.cycleTicks)

/-- Whether the slot of a drop is over at the present tick (R84). -/
def State.slotOver (s : State) (p d : Nat) : Bool :=
  match (s.port p).map.slotOf d with
  | some sl => decide (sl.start + sl.len ≤ s.cyclePos)
  | none => true

/-- Takes up the part of the cycle that the time has reached, where no reception is in progress: a slot ends at its end, the
contention window opens at its first tick, and the traverse window ends reception (R129). -/
def syncWindow (p : Nat) (s : State) : State :=
  let x := (s.port p).rx
  let la := (s.port p).latch
  if inReception x.state then s
  else if s.cycleTicks ≤ s.cyclePos + la.t then
    (leaveSlot p s).modRx p (fun y => { y with span := .off, state := .off, loaded := none })
  else if s.cycleTicks ≤ s.cyclePos + la.t + la.c then
    if spanIsSlot x.span = true ∨ x.span = .idle then openContention p (leaveSlot p s) else s
  else
    match x.span with
    | .slot d => if s.slotOver p d then leaveSlot p s else s
    | _ => s

/-- Makes the loaded context the active one: the receiver is armed for the slot of `d` in the mode in force for it (R129, R137,
R141). -/
def activate (p d : Nat) (s : State) : State :=
  startTiming p (if (s.port p).rx.loadedStart then none else some d) ((leaveSlot p s).modRx p (fun x =>
    { x with span := .slot d, state := .armed, loaded := none, useStart := x.loadedStart, mode := (s.ctx p d).mode,
             preamble := false, energySeen := false, eqReset := false, agcFrozen := false, returned := false,
             header := none, noRoom := false }))

/-- The end of an acquisition or reception: the AGC returns to idle gain, and a loaded context becomes active (R134, R135,
R141, R155). -/
def settleRx (p : Nat) (next : RxState) (s : State) : State :=
  match (s.port p).rx.loaded with
  | some d => activate p d s
  | none =>
    s.modRx p (fun y => { y with state := next, agcFrozen := false, returned := false, header := none, noRoom := false,
                                 eqReset := false })

/-- Where the receiver goes after a burst received to its end: armed in contention, idle to the slot's end (R155). -/
def afterBurst (sp : RxSpan) : RxState := if spanIsSlot sp then .idle else .armed

/-! ## Counts -/

/-- Counts in a port counter, and in a drop counter of the slot's owner or the sounding drop (R155). -/
def countRx (p portCode dropCode : Nat) (s : State) : State :=
  match spanOwner (s.port p).rx.span with
  | some d => countDrop p d portCode dropCode s
  | none => s.bump portCode p

/-- Returns to sync-word search with the AGC frozen, inside a recovery period: the burst in reception is over (R143, R150,
R151). -/
def backToSearch (p : Nat) (s : State) : State :=
  s.modRx p (fun x => { x with state := .search, returned := true, recovery := true, header := none, noRoom := false,
                               eqReset := false })

/-! ## Load, detection and acquisition -/

/-- CONTEXT_LOAD (R140, R141, R144, R145, R219). -/
def contextLoad (p d : Nat) (errors : List (Nat × Ecc)) (s : State) : State :=
  if s.listening p && (s.port p).map.hasSlot d s.cycleNow then
    let r := readContext p d errors s
    let s1 := r.1.modRx p (fun y => { y with loaded := some d, loadedStart := r.2 })
    if inReception (s.port p).rx.state then s1 else activate p d s1
  else s

/-- Whether a symbol's energy exceeds the noise floor by DET_THRESH, 0.5 dB steps (R132). A symbol of nothing but zeros does
not. -/
def overThreshold (x : PortSt) (e : Option Int) : Bool :=
  match e with
  | some v => decide (x.rx.noiseFloor + 65536 * 8 * (x.latch.detThresh : Int) ≤ 65536 * v)
  | none => false

/-- The noise-floor estimate, 1/16 dB × 65,536, after a symbol in which nothing is detected: weight 1/256 (R131). -/
def trackFloor (nf : Int) (e : Option Int) : Int := nf + roundDiv (65536 * energyValue e - nf) 256

/-- A recovery period ends at two consecutive symbols below the threshold, `over` saying whether a symbol is not (R151). -/
def endRecovery (p : Nat) (over0 over1 : Bool) (s : State) : State :=
  if over0 || over1 then s else s.modRx p (fun y => { y with recovery := false })

/-- ENERGY_DETECT (R131, R132, R151): the samples of two consecutive symbols. -/
def energyDetect (p : Nat) (symbol0 symbol1 : List Int) (s0 : State) : State :=
  if s0.listening p then
    let s := syncWindow p s0
    let x := s.port p
    let e0 := energyOf symbol0
    let e1 := energyOf symbol1
    let over0 := overThreshold x e0
    let over1 := overThreshold x e1
    if x.rx.state = .armed then
      if over0 && over1 then
        let s1 := s.modRx p (fun y => { y with state := .acquire, reference := energyValue (energyOf (symbol0 ++ symbol1)),
                                               returned := false })
        if x.rx.recovery then s1 else s1.bump Code.energyDetects p
      else endRecovery p over0 over1 (s.modRx p (fun y => { y with noiseFloor := trackFloor (trackFloor y.noiseFloor e0) e1 }))
    else endRecovery p over0 over1 s
  else s0

/-- Whether 16 consecutive PAM2 decisions, the first in bit 15, match the preamble's pattern at one of its four phases with
at most one mismatch (R102, R133). -/
def preambleMatch (decisions : BitVec 16) : Bool :=
  (List.range 4).any (fun k => decide (
    ((List.range 16).filter (fun i => decisions.getMsbD i != atOr preambleBits (i + k) false)).length ≤ 1))

/-- PREAMBLE_DETECT (R133, R155): 16 decisions, and whether the AGC has converged. -/
def preambleDetect (p : Nat) (decisions : BitVec 16) (agcConverged : Bool) (s : State) : State :=
  if s.listening p && decide ((s.port p).rx.state = .acquire) && agcConverged && preambleMatch decisions then
    let s1 := s.modRx p (fun y => { y with state := .search, returned := false, preamble := true })
    match (s.port p).rx.span with
    | .slot d => s1.modCtx p d (fun c => { c with preambleSeen := true })
    | _ => s1
  else s

/-- NOISE_EVENT (R134, R151). -/
def noiseEvent (p : Nat) (s : State) : State :=
  if s.listening p && decide ((s.port p).rx.state = .acquire) then
    settleRx p .armed
      (if (s.port p).rx.recovery then s else countRx p Code.portNoiseEvents Code.dropNoiseEvents s)
  else s

/-- FALSE_DETECTION (R135, R150, R151). -/
def falseDetection (p : Nat) (s : State) : State :=
  if s.listening p && decide ((s.port p).rx.state = .search) then
    settleRx p .armed
      (if (s.port p).rx.recovery || (s.port p).rx.returned then s
       else countRx p Code.portFalseDetects Code.dropFalseDetects s)
  else s

/-- Bits in which a window differs from the sync word (R103). -/
def syncErrors (w : BitVec 32) : Nat :=
  ((List.range 32).filter (fun i => (w ^^^ syncWord).getLsbD i)).length

/-- SYNC_DETECT (R103, R136): the 32 latest decisions, and the samples of the 32 symbols. -/
def syncDetect (p : Nat) (w : BitVec 32) (symbols : List (List Int)) (s : State) : State :=
  if s.listening p && decide ((s.port p).rx.state = .search) && decide (syncErrors w ≤ (s.port p).latch.syncTol) then
    s.modRx p (fun y => { y with state := .header, agcFrozen := true, reference := energyValue (energyOf symbols.flatten),
                                 returned := false })
  else s

/-! ## Header -/

/-- A slot trespass (R152). -/
def slotTrespass (p owner field : Nat) (s : State) : State :=
  let s1 := countRx p Code.slotTrespass Code.trespassIn s
  let admitted := decide (1 ≤ field) && decide (field ≤ 32) &&
    ((s.ctx p field).state == 2 || (s.ctx p field).state == 4)
  let s2 := if admitted then s1.bump Code.trespassOut (dropKey p field) else s1
  backToSearch p (fault 24 [p, owner, field] [(1, p), (1, owner), (1, field)] s2)

/-- Takes in a burst whose header is accepted; buffer room is judged here (R107 step 4, R154). -/
def acceptHeader (p : Nat) (h : RxHeader) (s : State) : State :=
  s.modRx p (fun y => { y with state := .payload, header := some h,
                               noRoom := decide (32768 < s.rxUsed p + h.length) })

/-- HEADER_CHECK (R107, R152, R153, R154). -/
def headerCheck (p : Nat) (bits : BitVec 64) (s : State) : State :=
  if s.listening p && decide ((s.port p).rx.state = .header) then
    let h := unpackHeader bits
    let bad := countRx p Code.portHeaderErrors Code.dropHeaderErrors s
    if hcrc bits ≠ bits.setWidth 16 then backToSearch p bad
    else if 2000 < h.length then backToSearch p (countRx p Code.portLenovr Code.dropLenovr s)
    else if 33 ≤ h.drop ∧ h.drop ≤ 62 then backToSearch p bad
    else
      match (s.port p).rx.span with
      | .slot d => if h.drop = d then acceptHeader p h s else slotTrespass p d h.drop s
      | .sounding d => if h.drop = d then acceptHeader p h s else backToSearch p (s.bump Code.contDiscards p)
      | _ => if h.drop = 0 then acceptHeader p h s else backToSearch p (s.bump Code.contDiscards p)
  else s

/-! ## Overlaps -/

/-- Whether a symbol's energy exceeds the energy reference by 9 dB or more (R147). -/
def risesOver (reference : Int) (e : Option Int) : Bool :=
  match e with
  | some v => decide (reference + 144 ≤ v)
  | none => false

/-- COLLISION_ABORT (R147, R148, R151): the samples of 8 consecutive symbols. -/
def collisionAbort (p : Nat) (symbols : List (List Int)) (s : State) : State :=
  let x := (s.port p).rx
  if s.listening p && inReception x.state && decide (symbols.length = 8) &&
      symbols.all (fun v => risesOver x.reference (energyOf v)) then
    let s1 := countRx p (if spanIsSlot x.span then Code.collisionAborts else Code.contCollisions) Code.collisions s
    s1.modRx p (fun y => { y with state := .acquire, reference := energyValue (energyOf symbols.flatten), agcFrozen := false,
                                  recovery := true, returned := false, header := none, noRoom := false,
                                  eqReset := false })
  else s

/-- RECOVERY_PERIOD_END (R151): the samples of two consecutive symbols. -/
def recoveryPeriodEnd (p : Nat) (symbol0 symbol1 : List Int) (s : State) : State :=
  if s.listening p then
    endRecovery p (overThreshold (s.port p) (energyOf symbol0)) (overThreshold (s.port p) (energyOf symbol1)) s
  else s

/-- OVERRUN (R142): the next slot or window begins. -/
def overrun (p : Nat) (s : State) : State :=
  let x := (s.port p).rx
  if s.listening p && inReception x.state then
    let s1 := countRx p Code.portOverruns Code.dropOverruns s
    match x.loaded with
    | some d => activate p d s1
    | none =>
      let s2 := (leaveSlot p s1).modRx p (fun y => { y with agcFrozen := false, returned := false, header := none,
                                                            noRoom := false, eqReset := false })
      if spanIsSlot x.span then syncWindow p s2
      else s2.modRx p (fun y => { y with span := .off, state := .off })
  else s

/-! ## The end of a burst -/

/-- The fixed length of a line management message, by its code; none for a reserved code (R112, R169). -/
def messageLength (code : Nat) : Option Nat :=
  if code ∈ [1, 3, 4, 5, 9] then some 16
  else if code = 2 then some 32
  else if code ∈ [6, 7, 10, 11] then some 8
  else if code ∈ [8, 12] then some 24
  else if code = 0x30 then some 40
  else if code = 0x31 then some 24
  else if code = 0x32 then some 8
  else if code = 0x33 then some 36
  else if code = 0x34 then some 4
  else none

/-- Whether a burst that passes its CRC-32 is a format error under R109; a MGMT burst of a reserved code falls under R113
instead. -/
def formatError (typ : Nat) (payload : List Byte) : Bool :=
  if typ = 0 then !payload.isEmpty
  else if typ = 1 then decide (payload.length < 64) || decide (1522 < payload.length)
  else if typ = 2 then
    match payload.head? with
    | none => true
    | some c =>
      match messageLength c.toNat with
      | some n => decide (n ≠ payload.length)
      | none => false
  else if typ = 3 then decide (payload.length < 16) || decide (2000 < payload.length)
  else true

/-- Whether a MGMT burst carries a reserved code (R113). -/
def reservedCode (typ : Nat) (payload : List Byte) : Bool :=
  decide (typ = 2) && (match payload.head? with
    | some c => (messageLength c.toNat).isNone
    | none => false)

/-- Writes the equaliser fields of a burst back to its context, but for the SNR; rewritten words lose their bad marking
(R143, R144, R158). -/
def keepTaps (p d : Nat) (m : EqFields) (s : State) : State :=
  clearBad 2 (ctxWord p d) 24 (s.modCtx p d (fun x =>
    { x with ffe := m.ffe, dfe := m.dfe, agcGain := m.agcGain, phase := m.phase, freqOffset := m.freqOffset,
             slicerScale := m.slicerScale, rxAmpl := m.rxAmpl, arrival := m.arrival, lastRx := s.time.time64,
             ctxFlags := x.ctxFlags ||| 1 }))

/-- The write-back of a burst: equaliser fields, and the SNR smoothed by 1/16, or set where the start context was used
(R143, R156). -/
def writeBack (p d : Nat) (m : EqFields) (s : State) : State :=
  (keepTaps p d m s).modCtx p d (fun x =>
    { x with snr := if x.snrFresh then m.snrB else ((x.snr : Int) + roundDiv ((m.snrB : Int) - (x.snr : Int)) 16).toNat,
             snrFresh := false })

/-- R143 for a burst in a slot whose CRC-32, drop and epoch are right. -/
def writeBackIf (p d typ : Nat) (m : EqFields) (s : State) : State :=
  if typ = 3 ∨ (s.port p).rx.eqReset = true then s else writeBack p d m s

/-- The start taps of a reception: the start context's, or those of a drop's context (R129, R140). -/
def State.startTaps (s : State) (p : Nat) (owner : Option Nat) : List Int × List Int :=
  match owner with
  | some d => if (s.port p).rx.useStart then (({} : Ctx).ffe, ({} : Ctx).dfe) else ((s.ctx p d).ffe, (s.ctx p d).dfe)
  | none => (({} : Ctx).ffe, ({} : Ctx).dfe)

/-- The arrival offsets of the last 16 good bursts of a drop (R195). -/
def noteArrival (p d : Nat) (arrival : Int) (s : State) : State :=
  s.modCtx p d (fun x => { x with arrivals := (arrival :: x.arrivals).take 16 })

/-- What the timing recovery has come to at the end of a burst (R137). -/
def heldTiming (p : Nat) (m : EqFields) (s : State) : State :=
  s.modRx p (fun y => { y with phase := m.phase, freq := m.freqOffset })

/-- Ranging: when the mean arrival offset of the last 16 good bursts lies beyond RANGE_TRIM, SLOT_MAP with the corrected
advance is announced for the first cycle at least 2P + 1 cycles ahead in which the drop has a slot (R195). -/
def rangingTrim (p d : Nat) (s : State) : State :=
  let x := s.ctx p d
  let m := (s.port p).map
  if x.arrivals.length < 16 ∨ x.advanceNext.isSome = true ∨ (s.port p).pending.isSome = true ∨ x.state ≠ 2 then s
  else
    let mean := roundDiv (sumInt x.arrivals) 16
    if mean.natAbs ≤ 256 * s.regN Code.rangeTrim p then s
    else
      match m.slotOf d with
      | none => s
      | some sl =>
        let k := firstCycle (fun c => decide (s.numberOf c % m.period = sl.cycle)) 8 (s.time.cycles + 2 * m.period + 1)
        let a := x.advance + mean
        sendSlotMap p m sl k (s.time.cycles + 1) a (s.modCtx p d (fun y => { y with advanceNext := some (k, a) }))

/-- Acknowledgement handling of a burst received good in a slot: its ack, or the last one again (R198). -/
def takeAck (p d : Nat) (h : RxHeader) (s : State) : State :=
  ackPoint p d (if h.flags.testBit 3 then h.ack else (s.ctx p d).ackIn) s

/-- What a good burst in a slot says of its drop: it is heard, so loss, revert and wake counts start again and a TWIN_MOVE
is repeated no more (R209, R211, R212, R216). -/
def heard (p d : Nat) (s : State) : State :=
  dropMsgs p d 12 (s.modCtx p d (fun x =>
    (if x.state = 2 then setRole 3 false { x with waking := none, wakeLeft := none } else x) |> fun y =>
      { y with goodSeen := true, silent := 0, revertLeft := none }))

/-- A good burst in a slot (R155, R156, R195, R198, R200, R204). -/
def goodSlot (p d : Nat) (h : RxHeader) (payload : List Byte) (m : EqFields) (s : State) : State :=
  if h.typ = 3 then
    takeUpSound p d m.snrB m.arrival (takeAck p d h (heard p d (s.bump Code.soundBursts (dropKey p d))))
  else
    let s1 := countDrop p d Code.portBurstsOk Code.dropBurstsOk s
    let s2 := noteArrival p d m.arrival (heard p d (writeBackIf p d h.typ m s1))
    let s3 := takeAck p d h s2
    let s4 :=
      if h.typ = 1 ∨ h.typ = 2 then
        let r := takeSeq p d h.seq s3
        if h.typ = 1 ∧ r.2 = true then deliverUp p d payload r.1 else r.1
      else s3
    let s5 := rangingTrim p d s4
    if marginAt (s5.ctx p d).snr (s5.ctx p d).mode < 8 * (s5.regN Code.levelRedo p : Int) then startDeferrable p d s5
    else s5

/-- A burst with a stale epoch: discarded, counted and reported (R155, R202). -/
def staleBurst (p d : Nat) (h : RxHeader) (s : State) : State :=
  staleStatus p d 2 h.epoch (s.ctx p d).epoch ((s.bump Code.staleEpoch p).bump Code.staleLine (dropKey p d))

/-- A burst in a slot that passed its CRC-32: stale epoch, format error, buffer full or good (R154, R155, R202). -/
def endInSlot (p d : Nat) (h : RxHeader) (payload : List Byte) (m : EqFields) (s : State) : State :=
  if h.epoch ≠ (s.ctx p d).epoch then staleBurst p d h s
  else if formatError h.typ payload then
    countRx p Code.portFormatErrors Code.dropFormatErrors (writeBackIf p d h.typ m s)
  else if reservedCode h.typ payload then
    countRx p Code.portFormatErrors Code.dropFormatErrors
      (takeSeq p d h.seq (takeAck p d h (writeBackIf p d h.typ m s))).1
  else if (s.port p).rx.noRoom then
    countRx p Code.portBufferFull Code.dropBufferFull (writeBackIf p d h.typ m s)
  else goodSlot p d h payload m s

/-- A burst of the sounding drop that passed its CRC-32: stale epoch, format error, buffer full, a good SOUND burst, or a
discard (R153, R154, R155, R156). -/
def endInSounding (p d : Nat) (h : RxHeader) (payload : List Byte) (m : EqFields) (s : State) : State :=
  if h.epoch ≠ (s.ctx p d).epoch then staleBurst p d h s
  else if formatError h.typ payload then countRx p Code.portFormatErrors Code.dropFormatErrors s
  else if reservedCode h.typ payload then
    countRx p Code.portFormatErrors Code.dropFormatErrors (takeSeq p d h.seq (ackOutside p d h s)).1
  else if (s.port p).rx.noRoom then countRx p Code.portBufferFull Code.dropBufferFull s
  else if h.typ = 3 then
    takeUpSound p d m.snrB m.arrival (ackOutside p d h (s.bump Code.soundBursts (dropKey p d)))
  else s.bump Code.contDiscards p

/-- A contention burst that passed its CRC-32: a format error, buffer full, a ROLL_ANSWER, whose equaliser fields are kept for
16 cycles, or a discard (R146, R153, R154, R155). One that is no ROLL_ANSWER counts in CONT_DISCARDS by R153, and as a format error or
buffer full by the order of R155: the model follows R155, here and for a sounding burst (DESIGN CHOICE, notes/assumptions/11). -/
def endInContention (p : Nat) (h : RxHeader) (payload : List Byte) (m : EqFields) (s : State) : State :=
  if formatError h.typ payload || reservedCode h.typ payload then countRx p Code.portFormatErrors Code.dropFormatErrors s
  else if h.typ = 2 ∧ payload.length = 16 ∧ atOr payload 0 0 = 1 then
    let id := beVal ((payload.drop 2).take 6)
    let s1 := s.modRx p (fun x =>
      { x with kept := x.kept.filter (fun k => !decide (k.identity = id)) ++
                         [{ identity := id, cycle := s.time.cycles, time := s.time.time64, eq := m }] })
    if (s.port p).rx.noRoom then countRx p Code.portBufferFull Code.dropBufferFull s1 else s1.bump Code.contAnswers p
  else if (s.port p).rx.noRoom then countRx p Code.portBufferFull Code.dropBufferFull s
  else s.bump Code.contDiscards p

/-- The payload of a burst from its decided levels, and whether its CRC-32 is right (R116, R117, R119). -/
def decodeBody (mode : Nat) (seed : BitVec 23) (h : RxHeader) (levels : List Nat) : List Byte × Bool :=
  let clear := whiten seed (levelBytes mode (h.length + 4) levels)
  let payload := clear.take h.length
  (payload, decide (clear.drop h.length = beBytes 4 (lineCrc h.bits payload).toNat))

/-- BURST_END (R116, R117, R138, R155): the decided levels of payload, CRC-32 and fill, and what the receiver measured. -/
def burstEnd (p : Nat) (levels : List Nat) (m : RxMeasure) (s : State) : State :=
  let x := (s.port p).rx
  match x.header with
  | none => s
  | some h =>
    if s.listening p && inReception x.state then
      let seed := whitenSeed s.cycleNow h.drop true
      let b := decodeBody x.mode seed h levels
      let taps := s.startTaps p (spanOwner x.span)
      let q := eqFields (s.port p).latch.muAcq (s.port p).latch.muTrk x.mode taps.1 taps.2
        (targetLevels x.mode (decide (h.typ = 3)) seed h.length levels) m
      let s0 := sramCorrectedBy (memCode .taps) m.tapErrors (heldTiming p q s)
      let s1 :=
        if b.2 = false then countRx p Code.portCrcErrors Code.dropCrcErrors s0
        else
          match x.span with
          | .slot d => endInSlot p d h b.1 q s0
          | .sounding d => endInSounding p d h b.1 q s0
          | _ => endInContention p h b.1 q s0
      let s2 := settleRx p (afterBurst x.span) s1
      if spanIsSlot (s2.port p).rx.span then s2 else startTiming p (if (s2.port p).rx.useStart then none else spanOwner x.span) s2
    else s

/-! ## Empty slots and idle spans -/

/-- Whether the drop of a slot omits its burst for a standby check in the present cycle at P = 1 (R214). -/
def State.slotOmitted (s : State) (p d : Nat) : Bool :=
  match s.twinOf p with
  | some q => decide ((s.port p).map.period = 1) && (((s.ctx q d).standbyAt.map (fun a => a.1)) == some s.time.cycles)
  | none => false

/-- Counts the slot of a drop as empty, unless it was omitted for a standby check (R155, R214). -/
def countEmpty (p d : Nat) (s : State) : State :=
  if s.slotOmitted p d then s else countDrop p d Code.portEmptySlots Code.dropEmptySlots s

/-- EMPTY_SLOT (R155): a slot ends without any preamble detect; its owner's context may have been replaced by then. -/
def emptySlot (p : Nat) (s : State) : State :=
  if s.listening p then
    let x := (s.port p).rx
    match x.ending, x.span with
    | some d, _ => countEmpty p d (s.modRx p (fun y => { y with ending := none }))
    | none, .slot d =>
      if x.preamble || inReception x.state then s
      else countEmpty p d (s.modRx p (fun y => { y with span := .idle, state := .idle, energySeen := false }))
    | none, _ => s
  else s

/-- OUT_OF_SLOT (R130): the samples of two consecutive periods of 12.8 ticks; energy in the ticks of the upstream region
outside every slot, counted once in a span. -/
def outOfSlot (p : Nat) (period0 period1 : List Int) (s0 : State) : State :=
  if s0.listening p then
    let s := syncWindow p s0
    let x := s.port p
    if decide (x.rx.span = .idle) && s.inUpRegion p && !x.rx.energySeen &&
        overThreshold x (energyOf period0) && overThreshold x (energyOf period1) then
      (s.modRx p (fun y => { y with energySeen := true })).bump Code.outOfSlot p
    else s
  else s0

/-- A write of 1 to EQ_RESET (R145). -/
def eqResetDrop (p d : Nat) (s : State) : State :=
  let s1 := s.modCtx p d (fun x => { x with ctxFlags := x.ctxFlags ||| 4 })
  if (s.port p).rx.span = .slot d ∧ inReception (s.port p).rx.state = true then
    s1.modRx p (fun y => { y with eqReset := true })
  else s1

/-- KEPT_EQUALISER_EXPIRY (R146). -/
def keptExpiry (p identity : Nat) (s : State) : State :=
  s.modRx p (fun x => { x with kept := x.kept.filter (fun k =>
    !(decide (k.identity = identity) && decide (k.cycle + 16 ≤ s.time.cycles))) })

/-! ## The commands -/

/-- ENERGY_DETECT (R132). -/
def execEnergyDetect (port : Nat) (symbol0 symbol1 : List Int) (s : State) : Host.Outcome State Fault Refusal :=
  run (atPort port (energyDetect port symbol0 symbol1)) s

/-- NOISE_EVENT (R134). -/
def execNoiseEvent (port : Nat) (s : State) : Host.Outcome State Fault Refusal :=
  run (atPort port (noiseEvent port)) s

/-- FALSE_DETECTION (R135). -/
def execFalseDetection (port : Nat) (s : State) : Host.Outcome State Fault Refusal :=
  run (atPort port (falseDetection port)) s

/-- COLLISION_ABORT (R147). -/
def execCollisionAbort (port : Nat) (symbols : List (List Int)) (s : State) : Host.Outcome State Fault Refusal :=
  run (atPort port (collisionAbort port symbols)) s

/-- RECOVERY_PERIOD_END (R151). -/
def execRecoveryPeriodEnd (port : Nat) (symbol0 symbol1 : List Int) (s : State) : Host.Outcome State Fault Refusal :=
  run (atPort port (recoveryPeriodEnd port symbol0 symbol1)) s

/-- OVERRUN (R142). -/
def execOverrun (port : Nat) (s : State) : Host.Outcome State Fault Refusal :=
  run (atPort port (overrun port)) s

/-- EMPTY_SLOT (R155). -/
def execEmptySlot (port : Nat) (s : State) : Host.Outcome State Fault Refusal :=
  run (atPort port (emptySlot port)) s

/-- OUT_OF_SLOT (R130). -/
def execOutOfSlot (port : Nat) (period0 period1 : List Int) (s : State) : Host.Outcome State Fault Refusal :=
  run (atPort port (outOfSlot port period0 period1)) s

/-- KEPT_EQUALISER_EXPIRY (R146). -/
def execKeptEqualiserExpiry (port identity : Nat) (s : State) : Host.Outcome State Fault Refusal :=
  run (atPort port (keptExpiry port identity)) s

end Sys2Proof.Machine
end

