-- ==== Sys2Proof/Machine/Admission.lean ====
section
/-! DEFINITION. Roll call and admission (R146, R185–R187, R190–R193, R199, R213, R425, R447). -/

namespace Sys2Proof.Machine

/-! ## Contexts -/

/-- Clears the counters of a drop: bytes 255:192 and 351:320 of its context (R192 step 6). -/
def clearDropCounters (p d : Nat) (s : State) : State :=
  { s with regs := (span 0x403101 15 ++ span 0x404101 8).foldl (fun t c => Tab.del t (objKey c (dropKey p d))) s.regs }

/-- Frees a context: the epoch it leaves stays, and everything that was under way for the drop on the port ends. -/
def freeCtx (p d epoch : Nat) (s : State) : State :=
  (s.setCtx p d { epoch := epoch }).modPort p (fun x =>
    { x with levels := x.levels.filter (fun r => !decide (r.drop = d))
             msgs := x.msgs.filter (fun m => !decide (m.drop = d))
             waiting := x.waiting.filter (fun w => !decide (w.1 = d))
             wakeBits := dropFrom d x.wakeBits })

/-- Gives the twin port's context of a drop id the role epoch of this port's: both contexts of a pair carry the same (R192
step 2, R201). -/
def sameEpoch (p d epoch : Nat) (s : State) : State :=
  match s.twinOf p with
  | some q => if (s.ctx q d).state = 0 ∨ (s.ctx q d).state = 3 then s.modCtx q d (fun x => { x with epoch := epoch }) else s
  | none => s

/-- Frees the standby context that the twin port holds for a drop of a port (R184, R213). -/
def freeStandby (p d epoch : Nat) (s : State) : State :=
  match s.twinOf p with
  | some q => if (s.ctx q d).state = 3 then freeCtx q d epoch s else s
  | none => s

/-- Makes the standby context of a twin-capable drop on the twin port (R192 step 8, R213). -/
def makeStandby (p d : Nat) (s : State) : State :=
  let x := s.ctx p d
  match s.twinOf p with
  | some q =>
    if x.roleFlags.testBit 0 then
      s.setCtx q d { identity := x.identity, epoch := x.epoch, state := 3, roleFlags := 1, caps := x.caps,
                     maxBaud := x.maxBaud, standbyTick := s.time.tick }
    else s
  | none => s

/-! ## The drop table -/

/-- The entries of DROP_TABLE 3061.01: identity and baud code limit (R220, R334). -/
def dropEntries (fuel : Nat) (bs : List Byte) : List (Nat × Nat) :=
  match fuel with
  | 0 => []
  | f + 1 =>
    if bs.length < 8 then [] else (leVal (bs.take 6), (atOr bs 6 0).toNat) :: dropEntries f (bs.drop 8)

/-- The baud code limit that DROP_TABLE lists for an identity. -/
def State.listedBaud (s : State) (p id : Nat) : Option Nat :=
  ((dropEntries 64 (s.dom Code.dropTable p)).find? (fun e => e.1 == id)).map (fun e => e.2)

/-! ## Naming first_cycle -/

/-- The cycle in which the `n`-th ADMIT from the next cycle on is sent, beacon windows left out (R186). -/
def nthOpen (fuel : Nat) (s : State) (p k n : Nat) : Nat :=
  match fuel with
  | 0 => k
  | f + 1 => if s.beaconAt p k then nthOpen f s p (k + 1) n else if n ≤ 1 then k else nthOpen f s p (k + 1) (n - 1)

/-- Admissions under way on a port whose first_cycle is named. -/
def State.admissions (s : State) (p : Nat) : List Nat :=
  allDrops.filter (fun d => (s.ctx p d).state == 1 && (s.ctx p d).admitting.isSome)

/-- The first cycle that leaves an entry its two cycles beside the other admissions under way (R192 step 7, R193). -/
def State.turnCycle (s : State) (p d : Nat) : Nat :=
  let others := ((s.admissions p).filter (fun e => !decide (e = d))).length
  if others = 0 then 0 else nthOpen 4096 s p (s.time.cycles + 1) (2 * (others + 1)) + 1

/-- Names first_cycle for an admission whose answer came in cycle `ans`, installs the map, or lets it wait for the pending
map (R192 step 7, R193, R484). -/
def nameAdmission (p d ans : Nat) (repeated : Bool) (s : State) : State :=
  match s.planMap p with
  | none => freeStandby p d (s.ctx p d).epoch (freeCtx p d (s.ctx p d).epoch (s.bump Code.admitFails p))
  | some m =>
    match s.namedFrom p (max (max (ans + 8) (s.turnCycle p d)) (s.time.cycles + 1)) m.period with
    | some k => installMap p m k (s.modCtx p d (fun x => { x with admitting := some (k, repeated), answerOrder := ans }))
    | none => waitFor p d .admission (s.modCtx p d (fun x => { x with answerOrder := ans }))

/-! ## Decisions -/

/-- The fields that the head-end takes from an answer for a context that enters admitting; the new role epoch holds from
first_cycle (R192 steps 2–6, R201). -/
def admittedCtx (s : State) (p d : Nat) (a : Answer) (epoch : Nat) : Ctx :=
  { identity := a.identity, epoch := (s.ctx p d).epoch, epochNext := some epoch, state := 1, caps := a.caps,
    queue := (s.ctx p d).queue,
    roleFlags := if a.caps.testBit 6 then 1 else 0,
    txAtten := attenFor a.txAtten a.rxAmpl (s.reg Code.upTarget p),
    advance := a.arrival, maxBaud := max ((s.listedBaud p a.identity).getD (s.regN Code.unlistedMaxBaud p)) (a.caps % 8),
    admitted := s.time.time64, standbyTick := s.time.tick, homeHere := true }

/-- Takes up the equaliser fields kept from the answer, where 16 cycles have not passed (R146). -/
def adoptKept (p d id : Nat) (s : State) : State :=
  match (s.port p).rx.kept.find? (fun k => k.identity == id && decide (s.time.cycles < k.cycle + 16)) with
  | none => s
  | some k =>
    let m := k.eq
    let s1 := s.modCtx p d (fun x =>
      { x with ffe := m.ffe, dfe := m.dfe, agcGain := m.agcGain, phase := m.phase, freqOffset := m.freqOffset,
               slicerScale := m.slicerScale, snr := m.snrB, rxAmpl := m.rxAmpl, arrival := m.arrival,
               lastRx := k.time, ctxFlags := 1 })
    s1.modRx p (fun x => { x with kept := x.kept.filter (fun q => !decide (q.identity = id)) })

/-- Begins an admission into context `d` with a role epoch: the state with the context in admitting; every word of it is
written (R48, R192). -/
def enterAdmitting (p d epoch : Nat) (a : Answer) (s : State) : State :=
  clearBad 2 (ctxWord p d) 64
    (clearDropCounters p d ((freeCtx p d (s.ctx p d).epoch s).setCtx p d (admittedCtx s p d a epoch)))

/-- The role epoch of an admission comes into force in its first_cycle, on both ports of a pair: the frames queued for the
drop id are discarded (R201, R202). -/
def epochHolds (p d : Nat) (s : State) : State :=
  let x := s.ctx p d
  match x.admitting, x.epochNext with
  | some (k, _), some e =>
    if k ≤ s.time.cycles then
      sameEpoch p d e ((purgeQueue p d e s).modCtx p d (fun y => { y with epoch := e, epochNext := none }))
    else s
  | _, _ => s

/-- Admits into context `d` where the port's new map and the failover maps fit; none where they overflow (R85, R191,
R192, R213). -/
def tryAdmit (p d epoch : Nat) (a : Answer) (s : State) : Option State :=
  let s1 := enterAdmitting p d epoch a s
  if s1.plansFit p then
    some (nameAdmission p d a.cycle false (makeStandby p d (adoptKept p d a.identity (s1.bump Code.admissions p))))
  else none

/-- The lowest drop id free on a port and, if twinned, on its twin (R192 step 1). -/
def State.freeDrop (s : State) (p : Nat) : Option Nat :=
  allDrops.find? (fun d => (s.ctx p d).state == 0 &&
    (match s.twinOf p with
     | some q => (s.ctx q d).state == 0
     | none => true))

/-- The context that holds an identity in one of some states. -/
def State.holder (s : State) (p id : Nat) (states : List Nat) : Option Nat :=
  allDrops.find? (fun d => (s.ctx p d).identity == id && states.contains (s.ctx p d).state)

/-- The decision on one answer: the first row of R191 that applies. The row of the twin port does not apply where this
port already serves the identity, its twin then holding the standby context (notes/assumptions/11). From an accepted CLUSTER_TARGET 2
to the end of the wake no drop is admitted (R425). -/
def decideAnswer (p : Nat) (a : Answer) (s : State) : State :=
  let own := s.holder p a.identity [1, 2, 4]
  let onTwin :=
    match s.twinOf p with
    | some q => (s.holder q a.identity [1, 2, 3]).isSome
    | none => false
  let refuse := s.bump Code.admitRefused p
  let k := s.cluster (clusterOf p)
  if k.entering ∨ k.state = 2 ∨ k.state = 3 then s.bump Code.rollIgnored p
  else if onTwin && own.isNone then s.bump Code.rollIgnored p
  else if s.regN Code.rollPolicy p = 1 ∧ s.listedBaud p a.identity = none then s.bump Code.rollIgnored p
  else
    match own with
    | some d =>
      if (s.ctx p d).state = 1 then
        let s1 := restartSeq p d (s.modCtx p d (fun x =>
          { x with advance := a.arrival, txAtten := attenFor a.txAtten a.rxAmpl (s.reg Code.upTarget p),
                   admitting := none }))
        nameAdmission p d a.cycle false (adoptKept p d a.identity (s1.bump Code.admissions p))
      else
        let e := ((s.ctx p d).epoch + 1) % 64
        match tryAdmit p d e a (releaseStatus p d e 4 (s.bump Code.releases p)) with
        | some t => t
        | none => refuse
    | none =>
      match s.freeDrop p with
      | none => refuse
      | some d => (tryAdmit p d (((s.ctx p d).epoch + 1) % 64) a s).getD refuse

/-- ADMISSION (R191): the decision on the oldest answer. -/
def admission (p : Nat) (s : State) : State :=
  match (s.port p).answers with
  | [] => s
  | a :: rest => decideAnswer p a (s.modPort p (fun x => { x with answers := rest }))

/-! ## Answers and confirmations -/

/-- ROLL_ANSWER (R190, R191): a good answer reaches the management controller. -/
def rollAnswer (p : Nat) (m : List Byte) (arrival rxAmpl : Int) (s : State) : State :=
  if s.listening p ∧ m.length = 16 ∧ atOr m 0 0 = 1 then
    s.modPort p (fun x => { x with
      lastAnswer := s.time.tick
      answers := x.answers ++ [{ identity := beVal ((m.drop 2).take 6), caps := (atOr m 8 0 &&& 0xF7).toNat,
                                 txAtten := (atOr m 10 0).toNat, lastId := (atOr m 11 0).toNat,
                                 arrival := arrival, rxAmpl := rxAmpl, cycle := s.time.cycles }] })
  else s

/-- The failure of an admission's first slot: it is repeated once; the second failure frees the context (R193). -/
def admitMissed (p d : Nat) (s : State) : State :=
  let x := s.ctx p d
  match x.admitting with
  | none => s
  | some (first, again) =>
    if x.state = 1 ∧ first ≤ s.time.cycles then
      if again = false then
        let k := s.alignedFrom (max (s.time.cycles + 8) (s.turnCycle p d))
          (max (s.port p).map.period (((s.port p).pending.map (fun q => q.map.period)).getD 1))
        restartSeq p d (s.modCtx p d (fun y => { y with admitting := some (k, true) }))
      else
        remap p d .replan (freeStandby p d x.epoch (freeCtx p d x.epoch (s.bump Code.admitFails p)))
    else s

/-- TIME_ANNOUNCE, 16 bytes (R114). -/
def State.announceBytes (s : State) (v datumAt : Nat) : List Byte :=
  [9, 0, byteOf s.time.n, 0] ++ beBytes 4 (s.cycleNo datumAt) ++ beBytes 8 v

/-- Announces the pending numbering to a drop that is admitted after the announcement to the others (R62, R114). -/
def announceLate (p d : Nat) (s : State) : State :=
  match s.time.epoch with
  | some (v, at_) =>
    if s.time.announced ∧ s.time.time64 < at_ then queueOnce p d (s.announceBytes v at_) s else s
  | none => s

/-- ADMIT_CONFIRM (R114, R193, R204, R217). -/
def admitConfirm (p d : Nat) (m : List Byte) (s : State) : State :=
  let x := s.ctx p d
  match x.admitting with
  | none => s
  | some (first, _) =>
    if x.state = 1 ∧ first ≤ s.time.cycles ∧ m.length = 16 ∧ atOr m 0 0 = 3 then
      if beVal ((m.drop 2).take 6) = x.identity then
        let s1 := s.modCtx p d (fun y => { y with state := 2, admitting := none, silent := 0, emptyPeriods := 0,
                                                  levelTick := s.time.tick })
        announceLate p d (startLevelling p d (admissionStatus p d x.epoch x.mode x.identity x.caps s1))
      else admitMissed p d s
    else s

/-! ## ADMIT -/

/-- The map that holds in a cycle: the one in force, or the pending one from its named cycle on. -/
def State.mapAt (s : State) (p k : Nat) : SlotMap :=
  match (s.port p).pending with
  | some q => if q.apply ≤ k then q.map else (s.port p).map
  | none => (s.port p).map

/-- The admission whose entry the next ADMIT carries: in the order of the answers, in turn, after the one that the last ADMIT
carried (R193). -/
def State.admitTurn (s : State) (p : Nat) : Option Nat :=
  let ds := sortBy (fun a b => decide ((s.ctx p a).answerOrder ≤ (s.ctx p b).answerOrder))
    ((s.admissions p).filter (fun d =>
      match (s.ctx p d).admitting with
      | some (k, _) => decide (s.time.cycles < k)
      | none => false))
  let next := match (s.port p).admitLast with
    | some (o, d) => ds.find? (fun e =>
        decide (o < (s.ctx p e).answerOrder) || (decide (o = (s.ctx p e).answerOrder) && decide (d < e)))
    | none => none
  match next with
  | some d => some d
  | none => ds.head?

/-- Notes which admission's entry the ADMIT of the present cycle carries, if it carries one (R193). -/
def admitTaken (p : Nat) (s : State) : State :=
  match s.admitTurn p with
  | some d => s.modPort p (fun x => { x with admitLast := some ((s.ctx p d).answerOrder, d) })
  | none => s

/-- The payload of the ADMIT of the present cycle, 32 bytes, or none where no ADMIT is sent (R186, R187). Byte 3 of one that only
invites is 0 as well, which R187 leaves open (DESIGN CHOICE, notes/assumptions/12). -/
def State.admitBytes (s : State) (p : Nat) : Option (List Byte) :=
  let opened := s.rollOpen p
  let windows := beBytes 2 (s.port p).latch.c ++ beBytes 2 (s.port p).latch.t
  let invitation := if opened then some ([2, 0, 2, 0] ++ windows ++ List.replicate 24 0) else none
  match s.admitTurn p with
  | none => invitation
  | some d =>
    let x := s.ctx p d
    match x.admitting with
    | none => invitation
    | some (k, _) =>
      let m := s.mapAt p k
      match m.slotOf d with
      | none => invitation
      | some sl =>
        some ([2, 0, byteOf (1 + if opened then 2 else 0), byteOf x.txAtten] ++ windows ++ beBytes 6 x.identity ++
          [byteOf d, byteOf (x.epochNext.getD x.epoch), byteOf (m.period + sl.cycle * 16)] ++ beBytes 3 sl.start ++ beBytes 3 sl.len ++ [0] ++
          beBytes 4 (twos 32 x.advance) ++ beBytes 4 (s.numberOf k))

/-! ## Opening, closing and keepalive -/

/-- Notes that roll call opens: ROLL_CLOSE_AFTER counts from here (R185). -/
def rollOpened (p : Nat) (s : State) : State := s.modPort p (fun x => { x with lastAnswer := s.time.tick })

/-- ROLL_CLOSE_AFTER_EXPIRY (R185). -/
def rollCloseExpiry (p : Nat) (s : State) : State :=
  let n := s.regN Code.rollCloseAfter p
  if 0 < n ∧ s.rollOpen p = true ∧ s.elapsed (s.port p).lastAnswer (n * secondTicks) = true then
    s.setReg Code.rollCall p 0
  else s

/-- ROLL_CALL_HOLD_END (R447): the hold after a device-scope reset has run out. -/
def rollHoldEnd (p : Nat) (s : State) : State :=
  if (s.port p).rollHeld ∧ (s.port p).hold = 0 then
    s.modPort p (fun x => { x with rollHeld := false, lastAnswer := s.time.tick })
  else s

/-- KEEPALIVE_ACK (R199): 128 cycles outside beacon windows have passed without a burst to an active drop; its ACK burst
goes out in its next slot cycle. -/
def keepaliveAck (p d : Nat) (s : State) : State :=
  if (s.ctx p d).state = 2 ∧ 128 ≤ (s.ctx p d).sinceTx then s.modCtx p d (fun x => { x with keepOwed := true }) else s

/-! ## The commands -/

/-- ROLL_CLOSE_AFTER_EXPIRY (R185). -/
def execRollCloseAfterExpiry (port : Nat) (s : State) : Host.Outcome State Fault Refusal :=
  run (atPort port (rollCloseExpiry port)) s

/-- ROLL_ANSWER (R191). -/
def execRollAnswer (port : Nat) (message : List Byte) (arrival rxAmpl : Int) (s : State) :
    Host.Outcome State Fault Refusal :=
  run (atPort port (rollAnswer port message arrival rxAmpl)) s

/-- ADMISSION (R192). -/
def execAdmission (port : Nat) (s : State) : Host.Outcome State Fault Refusal := run (atPort port (admission port)) s

/-- ADMIT_CONFIRM (R193). -/
def execAdmitConfirm (port drop : Nat) (message : List Byte) (s : State) : Host.Outcome State Fault Refusal :=
  run (atDrop port drop (admitConfirm port drop message)) s

/-- ADMIT_CONFIRM_MISSED (R193). -/
def execAdmitConfirmMissed (port drop : Nat) (s : State) : Host.Outcome State Fault Refusal :=
  run (atDrop port drop (admitMissed port drop)) s

/-- KEEPALIVE_ACK (R199). -/
def execKeepaliveAck (port drop : Nat) (s : State) : Host.Outcome State Fault Refusal :=
  run (atDrop port drop (keepaliveAck port drop)) s

/-- ROLL_CALL_HOLD_END (R447). -/
def execRollCallHoldEnd (port : Nat) (s : State) : Host.Outcome State Fault Refusal :=
  run (atPort port (rollHoldEnd port)) s

end Sys2Proof.Machine
end

