-- ==== Sys2Proof/Machine/Twin.lean ====
section
/-! DEFINITION. Sleep, wake, release, loss, twin failover and the change of a slot map at its cycle (R86, R201, R202,
R210–R217, R371, R425, R484). -/

namespace Sys2Proof.Machine

/-! ## Release -/

/-- Whether a release of a drop is under way (R221). -/
def State.releaseRuns (s : State) (p d : Nat) : Bool :=
  (s.ctx p d).releasing.isSome || s.waitsFor p d Change.isRelease

/-- Frees a drop's context with its epoch raised: queued frames are purged, RELEASES counts and the host is told (R201,
R202, R212, R316). -/
def releaseNow (p d reason : Nat) (s : State) : State :=
  let e := ((s.ctx p d).epoch + 1) % 64
  let s1 := purgeQueue p d e s
  let s2 := sameEpoch p d e (freeStandby p d e s1)
  releaseStatus p d e reason ((freeCtx p d e s2).bump Code.releases p)

/-- RELEASE, 8 bytes (R212). -/
def releaseBytes (reason from_ : Nat) : List Byte := [10, 0, byteOf reason, 0] ++ beBytes 4 from_

/-- Begins the release of a drop: an asleep drop is released at once, an active one by RELEASE from a named cycle (R212,
R217, R484). -/
def beginRelease (p d reason : Nat) (s : State) : State :=
  let x := s.ctx p d
  if x.state = 4 then releaseNow p d reason s
  else if x.state ≠ 2 ∨ x.releasing.isSome = true then s
  else
    let gone := s.modCtx p d (fun y => { y with releasing := some (0, reason) })
    match gone.planMap p with
    | none => s
    | some m =>
      match s.namedCycle p (s.mapLead p m.period) m.period with
      | none => waitFor p d (.release reason) s
      | some k =>
        let s1 := s.modCtx p d (fun y => { y with releasing := some (k, reason) })
        let s2 := queueMsg p { drop := d, bytes := releaseBytes reason (s.numberOf k), untilCycle := some k, seqs := [],
                               fromCycle := s.time.cycles + 1 } s1
        installMap p m k s2

/-- A write of 1 to RELEASE (R212, R221). -/
def releaseDrop (p d : Nat) (s : State) : State := if s.releaseRuns p d then s else beginRelease p d 1 s

/-- RELEASE_FROM_CYCLE (R212). -/
def releaseFromCycle (p d : Nat) (s : State) : State :=
  match (s.ctx p d).releasing with
  | some (k, reason) => if s.due k then releaseNow p d reason s else s
  | none => s

/-! ## Sleep and wake -/

/-- DEEP_SLEEP, 8 bytes (R210). -/
def deepSleepBytes (from_ : Nat) : List Byte := [11, 0, 0, 0] ++ beBytes 4 from_

/-- A write of 1 to SLEEP (R210). -/
def sleepDrop (p d : Nat) (s : State) : State :=
  let x := s.ctx p d
  if x.state ≠ 2 ∨ x.sleeping.isSome = true ∨ x.releasing.isSome = true then s
  else
    let gone := s.modCtx p d (fun y => { y with sleeping := some 0 })
    match gone.planMap p with
    | none => s
    | some m =>
      match s.namedCycle p (s.regN Code.modeLead p) m.period with
      | none => waitFor p d .sleep s
      | some k =>
        let s1 := s.modCtx p d (fun y => { y with sleeping := some k })
        installMap p m k (queueOnce p d (deepSleepBytes (s.numberOf k)) s1)

/-- DEEP_SLEEP_FROM_CYCLE (R210): asleep, with the frames that await acknowledgement released. Host frames still queued, of which
R210 says nothing, stay queued (DESIGN CHOICE, notes/assumptions/12). -/
def deepSleepFromCycle (p d : Nat) (s : State) : State :=
  match (s.ctx p d).sleeping with
  | some k =>
    if s.due k then
      let s1 := s.modCtx p d (fun x => setRole 1 false
        { x with state := 4, sleeping := none, sent := [], marked := [], named := 0, ackOwed := false, nextMode := x.mode,
                 revertLeft := none })
      s1.modPort p (fun x => { x with levels := x.levels.filter (fun r => !decide (r.drop = d))
                                      msgs := x.msgs.filter (fun m => !decide (m.drop = d)) })
    else s
  | none => s

/-- Sets a drop's wake bit for the next beacon (R126, R211). -/
def setWakeBit (p d : Nat) (s : State) : State :=
  (s.modCtx p d (fun x => setRole 3 true { x with wakeFrom := none, wakeApply := none, wakeLeft := none })).modPort p
    (fun x => { x with wakeBits := addTo d x.wakeBits })

/-- A write of 1 to WAKE (R211, R221). -/
def wakeDrop (p d : Nat) (s : State) : State :=
  let x := s.ctx p d
  if x.state = 4 ∧ x.waking = none then setWakeBit p d (s.modCtx p d (fun y => { y with waking := some 0 })) else s

/-- TWIN_MOVE, 24 bytes (R216). -/
def twinMoveBytes (epoch mode apply period : Nat) (sl : Slot) (atten : Nat) (advance : Int) (port upMax : Nat) :
    List Byte :=
  [12, 0, byteOf epoch, byteOf mode] ++ beBytes 4 apply ++ [byteOf (period + sl.cycle * 16), byteOf atten] ++
    beBytes 3 sl.start ++ beBytes 3 sl.len ++ beBytes 4 (twos 32 advance) ++ [byteOf port, 0] ++ beBytes 2 upMax

/-- Tells a waking drop its slot: SLOT_MAP, or TWIN_MOVE where it was moved while asleep (R211, R216). -/
def tellWaking (p d : Nat) (m : SlotMap) (apply from_ : Nat) (s : State) : State :=
  match m.slotOf d with
  | none => s
  | some sl =>
    let x := s.ctx p d
    match x.movedAsleep with
    | some _ =>
      queueMsg p { drop := d,
                   bytes := twinMoveBytes x.epoch x.mode (s.numberOf apply) m.period sl x.txAtten x.advance p
                     (s.upMaxAt p x.mode),
                   untilCycle := none, seqs := [], fromCycle := from_ } s
    | none => sendSlotMap p m sl apply from_ x.advance s

/-- WAKE_SLOT_MAP_START (R211): from this cycle SLOT_MAP goes to the waking drop, for a cycle at least MODE_LEAD cycles
after the first of them. -/
def wakeSlotMapStart (p d : Nat) (s : State) : State :=
  let x := s.ctx p d
  match x.wakeFrom with
  | none => s
  | some k =>
    if s.due k then
      let from_ := max k (s.time.cycles + 1)
      let s0 := s.modCtx p d (fun y => { y with waking := some (y.waking.getD 0) })
      match s0.planMap p with
      | none => s
      | some m =>
        match s0.namedFrom p (from_ + s.regN Code.modeLead p) m.period with
        | none => waitFor p d .wake s
        | some a =>
          let s1 := s0.modCtx p d (fun y => { y with wakeFrom := none, wakeApply := some a })
          let s2 := if x.state = 2 ∧ (s.port p).pending = none ∧ m = (s.port p).map then s1 else installMap p m a s1
          tellWaking p d m a from_ s2
    else s

/-- WAKE_MISS (R211): no good burst in the first 8 map periods after the apply cycle. -/
def wakeMiss (p d : Nat) (s : State) : State :=
  let x := s.ctx p d
  match x.waking with
  | none => s
  | some n =>
    if x.state = 2 ∧ x.wakeLeft = some 0 then
      if n + 1 < 3 then setWakeBit p d (s.modCtx p d (fun y => { y with waking := some (n + 1) }))
      else beginRelease p d 3 (s.modCtx p d (fun y => setRole 3 false { y with waking := none, wakeLeft := none }))
    else s

/-- A wake at its apply cycle: the drop is active, with both sequence counts at 0; one that was moved asleep to a mode below its
previous one is levelled (R22, R184, R211, R216). -/
def wakeApplies (p d : Nat) (s : State) : State :=
  let s1 := restartSeq p d (s.modCtx p d (fun x =>
    { x with state := 2, wakeApply := none, wakeLeft := some 8, silent := 0, emptyPeriods := 0, movedAsleep := none,
             levelAtWake := false }))
  if (s.ctx p d).levelAtWake then startLevelling p d s1 else s1

/-! ## Failover -/

/-- Whether a port can take drops by failover: a branch port, whose cluster is in service and not on its way to Dormant
(R20, R425). -/
def State.canTake (s : State) (q : Nat) : Bool :=
  let c := s.cluster (clusterOf q)
  s.isBranch q && (s.port q).started && !(s.port q).stopped && !c.entering && (c.state == 0 || c.state == 1)

/-- The drops of a port that a failover carries: twin-capable, active or asleep, with a standby context on the other port
(R33, R213, R216), and not on their way there already. -/
def State.movable (s : State) (p q : Nat) : List Nat :=
  allDrops.filter (fun d => ((s.ctx p d).state == 2 || (s.ctx p d).state == 4) && (s.ctx p d).roleFlags.testBit 0 &&
    (s.ctx q d).state == 3 && (s.ctx p d).moving.isNone)

/-- Abandons the admissions under way on a port (R217). -/
def abandonAdmissions (p : Nat) (s : State) : State :=
  forAll allDrops (fun d t =>
    if (t.ctx p d).state = 1 then
      freeStandby p d (t.ctx p d).epoch (freeCtx p d (t.ctx p d).epoch (t.bump Code.admitFails p))
    else t) s

/-- Sends TWIN_MOVE to a moved drop on the port that takes it, from the next window until its first good burst there
(R216, R485). -/
def sendTwinMove (q p d apply : Nat) (m : SlotMap) (s : State) : State :=
  match m.slotOf d with
  | none => s
  | some sl =>
    let x := s.ctx q d
    queueMsg q { drop := d,
                 bytes := twinMoveBytes (((s.ctx p d).epoch + 1) % 64) x.standbyMode (s.numberOf apply) m.period sl
                   (s.ctx p d).txAtten x.standbyAdvance q (s.upMaxAt q x.standbyMode),
                 untilCycle := none, seqs := [], fromCycle := s.time.cycles + 1 } s

/-- Starts a move of drops from port `p` onto port `q` for an apply cycle (R216, R217). -/
def startMove (p q reason apply : Nat) (m : SlotMap) (drops : List Nat) (s : State) : State :=
  let s1 := s.modPort q (fun x => { x with
    move := some { trigger := s.time.cycles, apply := apply, source := p, reason := reason, drops := drops, map := m,
                   trunk := false } })
  let s2 := forAll drops (fun d t => t.modCtx p d (fun x => setRole 1 false
    { x with moving := some apply, nextMode := x.mode, confirmed := false })) s1
  let s3 := forAll drops (fun d t => if (t.ctx p d).state = 2 then sendTwinMove q p d apply m t else t) s2
  announceMap q (s.mapAt q (apply - 1)) m apply s3

/-- Ends a move under way onto a port without effect: its drops stay where they are, and drops of the port that know the map of the
move are told their entries of the map that holds (R215, R217, R425, R484; notes/assumptions/12). -/
def cancelMove (q : Nat) (s : State) : State :=
  match (s.port q).move with
  | none => s
  | some v =>
    let s1 := s.modPort q (fun x => { x with move := none })
    if v.trunk then s1
    else
      announceMap q v.map (s1.mapAt q (v.apply - 1)) v.apply
        (forAll v.drops (fun d t => dropMsgs q d 12 (t.modCtx v.source d (fun x => { x with moving := none }))) s1)

/-- The map of a move onto port `q` and its apply cycle, the first from `k` on that meets R86: built on the map in force, or on
the pending map where that one takes effect first (R86, R216, R484). -/
def State.movePlan (s : State) (q p k : Nat) (active : List Nat) : Option (SlotMap × Nat) :=
  let onto := fun (base : SlotMap) (from_ : Nat) =>
    (s.failoverMap q p base active).map (fun m => (m, s.alignedFrom from_ (max base.period m.period)))
  let now := onto (s.port q).map k
  match (s.port q).pending with
  | none => now
  | some w =>
    match now with
    | some r => if w.apply ≤ r.2 then onto w.map (max k w.apply) else some r
    | none => onto w.map (max k w.apply)

/-- Failover of a port's drops, or of one of them, to its twin (R215, R216, R217, R425). It takes up a one-drop move that is under
way, and one of the whole port a return that is under way; while another failover is, it carries nothing further (DESIGN CHOICE,
notes/assumptions/12). A one-drop move abandons admissions as a failover does, and so does a failover that finds no drop to move, which
counts in TWIN_FAILOVERS as little (R217; DESIGN CHOICE, notes/assumptions/12). -/
def failover (p reason : Nat) (only : Option Nat) (s : State) : State :=
  match s.twinOf p with
  | none => s
  | some q =>
    let under := (s.port q).move
    let stays := match under with
      | some v => decide (v.reason ≠ 4) && (decide (v.reason ≠ 5) || only.isSome)
      | none => false
    if !(s.canTake q) || stays then s
    else
      let with_ := match under with
        | some v => if v.reason = 4 then v.drops else []
        | none => []
      let s0 := abandonAdmissions q (abandonAdmissions p (cancelMove q (if only.isNone then cancelMove p s else s)))
      let drops := (s0.movable p q).filter (fun d => only = none ∨ only = some d ∨ with_.contains d = true)
      let active := drops.filter (fun d => (s0.ctx p d).state == 2)
      match s0.movePlan q p (s.time.cycles + 2) active with
      | none => s0
      | some (m, k) => if drops.isEmpty then s0 else startMove p q reason k m drops s0

/-- The surviving port of a failover under way is lost: every drop of the pair is lost, and released with reason 2 (R217). A
one-drop move or a return onto a port that is lost ends, its drops staying where they are (DESIGN CHOICE, notes/assumptions/12). -/
def survivorLost (q : Nat) (s : State) : State :=
  match (s.port q).move with
  | none => s
  | some v =>
    if v.trunk then s
    else if v.reason = 4 ∨ v.reason = 5 then cancelMove q s
    else
      let ds := fun (a : Nat) (t : State) => allDrops.filter (fun d => (t.ctx a d).state == 2 || (t.ctx a d).state == 4)
      let all := fun (a : Nat) (t : State) => forAll (ds a t) (fun d u => releaseNow a d 2 u) t
      all q (all v.source (abandonAdmissions q (abandonAdmissions v.source
        (s.modPort q (fun x => { x with move := none })))))

/-- TWIN_LOSS_PERIODS_EXPIRY (R215). -/
def twinLossExpiry (p : Nat) (s : State) : State :=
  if s.isBranch p ∧ s.regN Code.twinLossPeriods p ≤ (s.port p).twinSilent then failover p 2 none s else s

/-- Whether the single move of R215 is due for a drop: twin-capable, its slots empty for DROP_MOVE_PERIODS map periods
outside the revert span, while other drops of the port are heard. -/
def State.moveDue (s : State) (p d : Nat) : Bool :=
  let x := s.ctx p d
  x.state == 2 && x.roleFlags.testBit 0 && x.revertLeft.isNone && x.moving.isNone &&
    decide (s.regN Code.dropMovePeriods p ≤ x.emptyPeriods) &&
    allDrops.any (fun e => decide (e ≠ d) && (s.ctx p e).state == 2 && decide ((s.ctx p e).silent = 0)) &&
    (match s.twinOf p with
     | some q => s.canTake q && (s.ctx q d).state == 3
     | none => false)

/-- DROP_MOVE_PERIODS_EXPIRY (R215). -/
def dropMoveExpiry (p d : Nat) (s : State) : State := if s.moveDue p d then failover p 4 (some d) s else s

/-- DROP_LOST (R209, R212, R217): released with reason 2, or moved where the single move falls due with it. -/
def dropLost (p d : Nat) (s : State) : State :=
  if (s.ctx p d).state = 2 ∧ s.regN Code.dropLost p ≤ (s.ctx p d).silent ∧ (s.ctx p d).revertLeft ≠ some 0 then
    if s.moveDue p d then failover p 4 (some d) s else if s.releaseRuns p d then s else beginRelease p d 2 s
  else s

/-- Whether a line cannot carry a drop at its previous mode, by the mode of its standby check: a lower rate, or a slower baud
(R22, R216). -/
def modeBelow (mode previous : Nat) : Bool :=
  decide (modeRate mode < modeRate previous) || decide (modeBaud previous < modeBaud mode)

/-- What a move does to one drop at its apply cycle: active (or asleep) on the new port with the epoch raised, standby on
the old one, its queued frames purged, the host told (R201, R202, R216). Its MAX_BAUD goes with it: R29 does not say whether one written
to the standby context, or listed for the twin port, would hold there instead (DESIGN CHOICE, notes/assumptions/12). -/
def moveDrop (p q reason d : Nat) (s : State) : State :=
  let x := s.ctx p d
  let y := s.ctx q d
  let e := (x.epoch + 1) % 64
  let s1 := purgeQueue p d e s
  let s2 := s1.setCtx p d { y with epoch := e, state := 3, roleFlags := 1, standbyMode := 0x60, standbyAdvance := 0,
                                   standbyDown := 0, standbyAt := none, standbyTick := s.time.tick,
                                   identity := x.identity, caps := x.caps, maxBaud := x.maxBaud, homeHere := x.homeHere }
  let s3 := s2.setCtx q d { y with epoch := e, state := x.state, roleFlags := 1, mode := y.standbyMode,
                                   prevMode := y.standbyMode, nextMode := y.standbyMode, advance := y.standbyAdvance,
                                   txAtten := x.txAtten, nextAtten := x.txAtten, identity := x.identity, caps := x.caps,
                                   maxBaud := x.maxBaud, admitted := x.admitted, standbyAt := none,
                                   silent := 0, emptyPeriods := 0, slotHeld := false, goodSeen := false,
                                   levelTick := s.time.tick,
                                   movedAsleep := if x.state = 4 then some p else none,
                                   levelAtWake := decide (x.state = 4) && modeBelow y.standbyMode x.mode,
                                   waking := if x.state = 4 then x.waking else none }
  let s4 := s3.modPort p (fun z => { z with levels := z.levels.filter (fun r => !decide (r.drop = d))
                                            msgs := z.msgs.filter (fun o => !decide (o.drop = d))
                                            wakeBits := dropFrom d z.wakeBits })
  let s5 := if x.state = 4 ∧ x.waking.isSome = true then setWakeBit q d s4 else s4
  let s6 := twinMoveStatus p q d x.epoch e reason (restartSeq q d s5)
  if x.state = 2 ∧ modeBelow y.standbyMode x.mode = true then startLevelling q d s6 else s6

/-- Whether a port serves drops whose home is its twin (R220 TWIN_STATE). -/
def State.holdsMoved (s : State) (q : Nat) : Bool :=
  allDrops.any (fun d => ((s.ctx q d).state == 2 || (s.ctx q d).state == 4) && !(s.ctx q d).homeHere &&
    (s.ctx q d).roleFlags.testBit 0)

/-- TWIN_STATE of both ports of a pair after a move (R220). -/
def settleTwinState (p q reason : Nat) (s : State) : State :=
  let moved := s.holdsMoved q
  let back := s.holdsMoved p
  let s1 := s.modPort q (fun x => { x with twinState := if moved then 2 else 1 })
  s1.modPort p (fun x => { x with
    twinState := if back then 2 else if moved ∧ reason ≠ 4 ∧ reason ≠ 5 then 3
                 else if moved ∧ x.twinState = 3 then 3 else 1 })

/-- Takes a new map into force: messages that named the cycle stop, returns under R209 end, and slots count anew (R86,
R209, R485). -/
def takeMap (p : Nat) (m : SlotMap) (s : State) : State :=
  forAll allDrops (fun d t => t.modCtx p d (fun x => { x with reverted := false }))
    (s.modPort p (fun x => { x with map := m }))

/-- A write of 1 to TWIN_RETURN on the original home port of drops (R216). -/
def twinReturnDrops (p : Nat) (s : State) : State :=
  match s.twinOf p with
  | none => s
  | some q =>
    let drops := allDrops.filter (fun d => (s.ctx p d).state == 3 && (s.ctx p d).homeHere &&
      ((s.ctx q d).state == 2 || (s.ctx q d).state == 4))
    let active := drops.filter (fun d => (s.ctx q d).state == 2)
    if drops.isEmpty ∨ s.canTake p = false ∨ (s.port p).move.isSome = true then s
    else if (s.port p).pending.isSome then waitFor p 0 .twinReturn s
    else
      match s.movePlan p q (s.time.cycles + s.regN Code.modeLead p) active with
      | none => s
      | some (m, k) => startMove q p 5 k m drops s

/-- Takes up a change that has waited for the pending map: a drop `d` and the change (R484). -/
def takeChange (p d : Nat) (c : Change) (s : State) : State :=
  match c with
  | .grant old => planGrant p d old s
  | .replan => remap p d .replan s
  | .release reason => beginRelease p d reason (s.modCtx p d (fun x => { x with releasing := none }))
  | .sleep => sleepDrop p d (s.modCtx p d (fun x => { x with sleeping := none }))
  | .mode code atten => if (s.ctx p d).state = 2 then changeMode p d code atten s else s
  | .wake => wakeSlotMapStart p d s
  | .admission => if (s.ctx p d).state = 1 then nameAdmission p d (s.ctx p d).answerOrder false s else s
  | .revert => remap p d .revert s
  | .twinReturn => twinReturnDrops p s

/-- Takes up the changes that waited for the pending map, in order; those behind a change still wait while it is named (R484). -/
def takeWaiting (p : Nat) (s : State) : State :=
  forAll (s.port p).waiting (fun w t =>
    takeChange p w.1 w.2 (t.modPort p (fun x => { x with waiting := x.waiting.erase w }))) s

/-- TWIN_MOVE_APPLY (R201, R216, R425, R484) of branch drops; a port that can take none any more takes none: the moved drops change ports, the failover map takes effect, a
pending map is rebuilt with the moved drops in it, the other port's map is planned again without them, and changes that waited
for the move are named. -/
def twinMoveApply (q : Nat) (s : State) : State :=
  match (s.port q).move with
  | none => s
  | some v =>
    if v.trunk = false ∧ s.due v.apply ∧ s.canTake q = false then cancelMove q s
    else if v.trunk = false ∧ s.due v.apply then
      let p := v.source
      let s1 := takeMap q v.map (s.modPort q (fun x => { x with move := none }))
      let s2 := forAll v.drops (moveDrop p q v.reason) s1
      let s3 := if v.reason = 5 then s2 else s2.bump Code.twinFailovers q
      let s4 := settleTwinState p q v.reason s3
      let s5 := restorePlan q s4
      let s6 := if s.canTake p then remap p (v.drops.headD 0) .replan s5 else s5
      if (s6.port q).pending.isNone then takeWaiting q s6 else s6
    else s

/-! ## Standby checks -/

/-- The mode that a standby check at a mode gives for an SNR_b, and whether the baud checked next stays: base mode where no
level count meets the margin; at the home mode's baud at most the home mode (R207, R214). -/
def State.standbyResult (s : State) (q d mode home snr : Nat) : Nat × Bool :=
  let atHome := decide (modeBaud mode = modeBaud home)
  match bestLevel (s.levelCap q d) (s.regN Code.levelMargin q) snr with
  | none => (baseMode, decide (baseMode = home))
  | some l =>
    let result := modeOf (modeBaud mode) (if atHome then min l (home % 16) else l)
    (result, decide (result = home) || !atHome)

/-- STANDBY_CHECK (R207, R214): the sounding of a standby drop has brought its SOUND burst, with an arrival offset and an
SNR_b. -/
def standbyCheck (q d : Nat) (s : State) : State :=
  let x := s.ctx q d
  match x.standbyAt, x.standbyHeard with
  | some (k, mode), some (snr, arrival) =>
    if x.state = 3 ∧ k ≤ s.time.cycles then
      let home := match s.twinOf q with
        | some p => (s.ctx p d).mode
        | none => mode
      let r := s.standbyResult q d mode home snr
      s.modCtx q d (fun y => { y with
        standbyAt := none, standbyHeard := none, standbyTick := s.time.tick, standbyAdvance := arrival, standbyMode := r.1,
        standbyDown := if r.2 then y.standbyDown else min 6 (y.standbyDown + 1) })
    else s
  | _, _ => s

/-! ## Twinning as such -/

/-- Raises the epoch of every admitted drop of a port, purging what is queued (R201, R202). -/
def raiseEpochs (p : Nat) (s : State) : State :=
  forAll allDrops (fun d t =>
    if (t.ctx p d).state = 2 ∨ (t.ctx p d).state = 4 then
      let e := ((t.ctx p d).epoch + 1) % 64
      (purgeQueue p d e t).modCtx p d (fun x => { x with epoch := e })
    else t) s

/-- Ends a pair: standby contexts are freed and the epoch of every admitted drop rises (R201, R213, R371). -/
def endPair (p q : Nat) (s : State) : State :=
  let freeAll := fun (a : Nat) (t : State) => forAll allDrops (fun d u =>
    if (u.ctx a d).state = 3 then freeCtx a d (((u.ctx a d).epoch + 1) % 64) u else u) t
  let s1 := raiseEpochs q (raiseEpochs p (freeAll q (freeAll p s)))
  (s1.modPort p (fun x => { x with twinState := 0, move := none })).modPort q
    (fun x => { x with twinState := 0, move := none })

/-- Gives both ports' contexts of a drop id one role epoch when a pair forms: that of the one that is not free, else the
lower-numbered port's; two drops admitted under the same id on both keep theirs (R201, R213; notes/assumptions/16). -/
def pairEpoch (p q d : Nat) (s : State) : State :=
  let fp := decide ((s.ctx p d).state = 0)
  let fq := decide ((s.ctx q d).state = 0)
  let e := if fp && !fq then (s.ctx q d).epoch else if fq && !fp then (s.ctx p d).epoch else (s.ctx (min p q) d).epoch
  if fp || fq then (s.modCtx p d (fun x => { x with epoch := e })).modCtx q d (fun x => { x with epoch := e }) else s

/-- Brings a pair into force: TWIN_STATE reads 1; twin-capable drops of branch ports get their standby contexts, and twinned
trunk ports take one role epoch, the lower-numbered port's (R182, R213, R371; notes/assumptions/16). DESIGN CHOICE
(notes/assumptions/16): the pair also forms over drops that R21 does not provide for, more than 32 together or two drops under
one id; an id that is not free on the other port gets no standby context there, and every drop stays admitted. -/
def formPair (p q : Nat) (s : State) : State :=
  let give := fun (a b : Nat) (t : State) => forAll allDrops (fun d u =>
    if ((u.ctx a d).state = 2 ∨ (u.ctx a d).state = 4) ∧ (u.ctx b d).state = 0 then makeStandby a d u else u) t
  let e := (s.ctx (min p q) 1).epoch
  let s1 :=
    if s.isTrunk p && s.isTrunk q then (s.modCtx p 1 (fun x => { x with epoch := e })).modCtx q 1 (fun x => { x with epoch := e })
    else if s.isBranch p && s.isBranch q then give q p (give p q (forAll allDrops (pairEpoch p q) s))
    else s
  (s1.modPort p (fun x => { x with twinState := 1 })).modPort q (fun x => { x with twinState := 1 })

/-- Ends a pair of branch ports, or one of trunk ports or of ports that are off: no traffic of one is carried by the other any
more (R182, R371). -/
def endTwins (p q : Nat) (s : State) : State :=
  if s.isBranch p then endPair p q s
  else (s.modPort p (fun x => { x with twinState := 0, move := none, carries := none })).modPort q
    (fun x => { x with twinState := 0, move := none, carries := none })

/-- Applies a change to the twin settings of a port: pairs that end and pairs that form (R201, R371). -/
def withTwinChange (p : Nat) (change : State → State) (s : State) : State :=
  let before := s.twinOf p
  let after := (change s).twinOf p
  if before = after then change s
  else
    let s1 := match before with
      | some q => endTwins p q s
      | none => s
    let s2 := change s1
    match after with
    | some q => formPair p q s2
    | none => s2

/-- Applies a change to the twin settings of any ports: pairs that end and pairs that form (R201, R371). -/
def withTwinChanges (change : State → State) (s : State) : State :=
  let t := change s
  let pairs := fun (u : State) => allPorts.filterMap (fun p =>
    (u.twinOf p).bind (fun q => if p < q then some (p, q) else none))
  let old := pairs s
  let new := pairs t
  let s1 := forAll (old.filter (fun e => !new.contains e)) (fun e u => endTwins e.1 e.2 u) s
  forAll (new.filter (fun e => !old.contains e)) (fun e u => formPair e.1 e.2 u) (change s1)

/-! ## A map takes effect -/

/-- SLOT_MAP_APPLY (R86, R184, R211, R484): at its named cycle the pending map takes effect, wakes named for the cycle
apply, and the changes that waited are named. -/
def slotMapApply (p : Nat) (s : State) : State :=
  let s1 :=
    match (s.port p).pending with
    | some q => if s.due q.apply then takeMap p q.map (s.modPort p (fun x => { x with pending := none })) else s
    | none => s
  let s2 := forAll allDrops (fun d t =>
    match (t.ctx p d).wakeApply with
    | some k => if t.due k then wakeApplies p d t else t
    | none => t) s1
  if (s2.port p).pending.isNone && (s2.port p).move.isNone then takeWaiting p s2 else s2

/-! ## The commands -/

/-- SLOT_MAP_APPLY (R86). -/
def execSlotMapApply (port : Nat) (s : State) : Host.Outcome State Fault Refusal :=
  run (atPort port (slotMapApply port)) s

/-- RELEASE_FROM_CYCLE (R212). -/
def execReleaseFromCycle (port drop : Nat) (s : State) : Host.Outcome State Fault Refusal :=
  run (atDrop port drop (releaseFromCycle port drop)) s

/-- DEEP_SLEEP_FROM_CYCLE (R210). -/
def execDeepSleepFromCycle (port drop : Nat) (s : State) : Host.Outcome State Fault Refusal :=
  run (atDrop port drop (deepSleepFromCycle port drop)) s

/-- WAKE_SLOT_MAP_START (R211). -/
def execWakeSlotMapStart (port drop : Nat) (s : State) : Host.Outcome State Fault Refusal :=
  run (atDrop port drop (wakeSlotMapStart port drop)) s

/-- WAKE_MISS (R211). -/
def execWakeMiss (port drop : Nat) (s : State) : Host.Outcome State Fault Refusal :=
  run (atDrop port drop (wakeMiss port drop)) s

/-- DROP_LOST (R212). -/
def execDropLost (port drop : Nat) (s : State) : Host.Outcome State Fault Refusal :=
  run (atDrop port drop (dropLost port drop)) s

/-- STANDBY_CHECK (R214). -/
def execStandbyCheck (port drop : Nat) (s : State) : Host.Outcome State Fault Refusal :=
  run (atDrop port drop (standbyCheck port drop)) s

/-- TWIN_LOSS_PERIODS_EXPIRY (R215). -/
def execTwinLossPeriodsExpiry (port : Nat) (s : State) : Host.Outcome State Fault Refusal :=
  run (atPort port (twinLossExpiry port)) s

/-- DROP_MOVE_PERIODS_EXPIRY (R215). -/
def execDropMovePeriodsExpiry (port drop : Nat) (s : State) : Host.Outcome State Fault Refusal :=
  run (atDrop port drop (dropMoveExpiry port drop)) s

end Sys2Proof.Machine
end

