-- ==== Sys2Proof/Machine/Trunk.lean ====
section
/-! DEFINITION. Trunk ports: trains, training, time down a trunk, loss, level changes and twinned trunks (R75–R77, R80,
R161–R182). The head-end side's cycle numbers are kept as a difference from the own ones (`TrunkSt.numbering`). -/

namespace Sys2Proof.Machine

/-! ## Names and numbers -/

/-- Whether a trunk port's lines run at all: the grid runs and the port has started its cycles. -/
def State.trunkOn (s : State) (p : Nat) : Bool := s.time.running && s.isTrunk p && (s.port p).started

/-- The present cycle's number in the head-end side's numbering (R164, R174). -/
def State.headCycle (s : State) (p : Nat) : Nat := twos 32 ((s.cycleNow : Int) + (s.port p).trunk.numbering)

/-- The cycle, by the model's count, that has a number of the head-end side's numbering, now or later. -/
def State.countOfHead (s : State) (p number : Nat) : Nat :=
  s.time.cycles + (number + 2 ^ 32 - s.headCycle p) % 2 ^ 32

/-- Whether a cycle number of the head-end side's numbering names a future cycle (R65). -/
def State.headFuture (s : State) (p number : Nat) : Bool :=
  let k := (number + 2 ^ 32 - s.headCycle p) % 2 ^ 32
  decide (1 ≤ k) && decide (k < 2 ^ 31)

/-- The mode of the trains that a port sends and receives: the data mode in the data phase, PAM2 at its baud in training (R169,
R176). -/
def State.trainMode (s : State) (p : Nat) : Nat :=
  let x := (s.port p).trunk
  if x.state = 3 then x.mode else x.mode / 16 * 16

/-- Whether the trunk port is the device's time source, as a partner side (R75, R174). -/
def State.isTimeSource (s : State) (p : Nat) : Bool := decide (s.trunkSource = some p) && !s.trunkHead p

/-- An arrival offset as TRUNK_TIME and TRUNK_TRAIN carry it: 7FFFFFFFh if none (R169). -/
def arrivalWord (a : Option Int) : Nat :=
  match a with
  | some x => twos 32 x
  | none => 0x7FFFFFFF

/-- An arrival offset as it is received (R169). -/
def arrivalOf (bs : List Byte) : Option Int :=
  let v := beVal bs
  if v = 0x7FFFFFFF then none else some (untwos 32 v)

/-! ## Messages -/

/-- TRUNK_TRAIN, 24 bytes (R169). -/
def trunkTrainBytes (phase mode left cycle n : Nat) (flag : Bool) (arrival : Option Int) (snr dataCycle : Nat) :
    List Byte :=
  [0x31, 0, byteOf phase, byteOf mode] ++ beBytes 2 left ++ beBytes 4 cycle ++ [byteOf n, if flag then 1 else 0] ++
    beBytes 4 (arrivalWord arrival) ++ beBytes 2 snr ++ [0, 0] ++ beBytes 4 dataCycle

/-- The pending epoch as TRUNK_TIME and TIME_ANNOUNCE name it: number of the first cycle of the new numbering in the
present one, and the new TIME64 (R114, R169). -/
def State.announcedEpoch (s : State) : Option (Nat × Nat) :=
  s.time.epoch.map (fun e => (s.cycleNo e.2, e.1))

/-- TRUNK_TIME, 40 bytes (R169). -/
def State.trunkTimeBytes (s : State) (p : Nat) : List Byte :=
  let x := (s.port p).trunk
  let e := s.announcedEpoch
  [0x30, 0, byteOf s.time.n, byteOf (s.time.grade + (if e.isSome then 4 else 0)), byteOf s.time.hops, 0, 0, 0] ++
    beBytes 4 (s.headCycle p) ++ beBytes 8 (s.cycleStartOf s.time.cycles) ++ beBytes 4 (arrivalWord x.arrival) ++
    beBytes 2 (s.ctx p 1).snr ++ [0, 0] ++ beBytes 4 ((e.map (·.1)).getD 0) ++ beBytes 8 ((e.map (·.2)).getD 0)

/-- TRUNK_MODE, 8 bytes (R169). -/
def trunkModeBytes (mode apply : Nat) : List Byte := [0x32, 0, byteOf mode, 0] ++ beBytes 4 apply

/-- TRUNK_ACK, 36 bytes: how many frames are marked, and a 256-bit map sent most significant bit first (R101, R169). -/
def trunkAckBytes (marks : List Nat) : List Byte :=
  [0x33, 0, byteOf marks.length, 0] ++ beBytes 32 (marks.foldl (fun m q => m ||| 2 ^ q) 0)

/-- TRUNK_DOWN, 4 bytes (R169). -/
def trunkDownBytes (reason : Nat) : List Byte := [0x34, 0, byteOf reason, 0]

/-! ## Composing a train -/

/-- Symbols of one frame of a train (R163). -/
def frameSymbols (payload mode : Nat) : Nat := 96 + ceilDiv (8 * (payload + 4)) (modeBits mode)

/-- Stop tick of the data phase (R80). -/
def State.stopTick (s : State) (p : Nat) : Nat :=
  s.cycleTicks - (s.port p).latch.t - ceilDiv (s.port p).trunk.delay 256 - 20

/-- Training stop tick of phase E (R170). -/
def State.trainStop (s : State) (p : Nat) : Nat := s.cycleTicks - (s.port p).latch.t - 1620

/-- Symbols that a train may take up to a stop tick, without its preamble and tail (R163). -/
def trainRoom (stop mode : Nat) : Nat := stop * 10 / symbolTenths mode - 72

/-- A trunk frame on the line (R162, R164). -/
def State.trunkBurst (s : State) (p mode typ seq flags : Nat) (payload : List Byte) : Burst :=
  { mode := mode, typ := typ, drop := 1, epoch := (s.ctx p 1).epoch, seq := seq, ack := 0, flags := flags,
    payload := payload, start := 0, cycle := s.headCycle p, seed := 0, up := !s.trunkHead p,
    atten := (s.port p).latch.txAtten }

/-- The frames of a train that starts at a time in 1/256 tick, whitened by their place in it. MORE is set in a frame that
others follow, in the train or, with `more`, beyond it (R104, R163, R164). -/
def trainOf (start : Nat) (more : Bool) (k : Nat) (frames : List Burst) : List Burst :=
  match frames with
  | [] => []
  | f :: rest =>
    { f with start := start / 256, startFrac := start % 256, seed := k % 64,
             flags := f.flags + (if more || !rest.isEmpty then 2 else 0) } :: trainOf start more (k + 1) rest

/-- Lengths of the SOUND frames that fill a training train: 2,000 bytes each, the last one shortened to no fewer than 16
(R171). -/
def soundFrames (fuel room mode : Nat) : List Nat :=
  match fuel with
  | 0 => []
  | f + 1 =>
    if frameSymbols 2000 mode ≤ room then 2000 :: soundFrames f (room - frameSymbols 2000 mode) mode
    else if frameSymbols 16 mode ≤ room then [(room - 96) * modeBits mode / 8 - 4]
    else []

/-- The payload of a SOUND burst: bytes of 00h (R111). -/
def soundPayloadBytes (n : Nat) : List Byte := List.replicate n 0

/-- Whether frames are held for the far end of a trunk; MORE of the last frame of a train then (R104). -/
def State.trunkHolds (s : State) (p : Nat) : Bool := !(s.ctx p 1).queue.isEmpty

/-- Puts a train on the line: its frames and the stop tick (R163). -/
def putTrain (p stop : Nat) (frames : List Burst) (s : State) : State :=
  s.modPort p (fun x => { x with onLine := frames, trunk := { x.trunk with stop := stop } })

/-- Puts a training train on the line, from a start in 1/256 tick up to a stop tick; nothing where its message has no room (R163,
R171). -/
def sendTraining (p stop start : Nat) (message : List Byte) (s : State) : State :=
  let mode := (s.port p).trunk.mode / 16 * 16
  let room := trainRoom (stop - ceilDiv start 256) mode
  if room < frameSymbols 24 mode then s
  else
    let sounds := (soundFrames 64 (room - frameSymbols 24 mode) mode).map (fun n => s.trunkBurst p mode 3 0 0 (soundPayloadBytes n))
    putTrain p stop (trainOf start (s.trunkHolds p) 0 (s.trunkBurst p mode 2 0 0 message :: sounds)) s

/-- Symbols of the frames of a train (R163). -/
def framesLength (mode : Nat) (fs : List Burst) : Nat := fs.foldl (fun n f => n + frameSymbols f.payload.length mode) 0

/-- The frames of the train on a port's line whose first symbol has gone out at the present tick (R163). -/
def State.framesBegun (s : State) (p mode : Nat) : Nat :=
  let fs := (s.port p).onLine
  ((List.range fs.length).filter (fun k =>
    decide (2560 * s.cyclePos ≥ 10 * (256 * (fs.head?.map (·.start)).getD 0) + 256 * symbolTenths mode * (64 + framesLength mode (fs.take k))))).length

/-- Puts a last frame behind those of the train on the line that have begun; later ones give way to it as far as the stop tick
asks for it. Where there is no room at all the train goes on as it is (R163, R180; DEDUCED, notes/assumptions/16). -/
def appendFrame (p mode : Nat) (payload : List Byte) (s : State) : State :=
  let fs := (s.port p).onLine
  let start := (fs.head?.map (·.start)).getD 0
  let stop := if fs.isEmpty then s.stopTick p else (s.port p).trunk.stop
  let last := s.trunkBurst p mode 2 0 (if s.trunkHolds p then 2 else 0) payload
  let kept := ((List.range (fs.length + 1 - s.framesBegun p mode)).map (fun i => fs.take (fs.length - i))).find? (fun gs =>
    decide (framesLength mode gs + frameSymbols payload.length mode ≤ trainRoom (stop - start - 1) mode))
  match kept with
  | some gs => putTrain p stop (gs ++ [{ last with seed := gs.length % 64, start := start }]) s
  | none => s

/-- Places frames while they fit and while the train holds at most 128 DATA frames (R166, R167): what was placed, what is
left, and the room left. -/
def placeFrames (mode : Nat) (fs : List TrunkFrame) (room count : Nat) : List TrunkFrame × List TrunkFrame × Nat :=
  match fs with
  | [] => ([], [], room)
  | f :: rest =>
    if count < 128 ∧ frameSymbols f.payload.length mode ≤ room then
      let r := placeFrames mode rest (room - frameSymbols f.payload.length mode) (count + 1)
      (f :: r.1, r.2.1, r.2.2)
    else ([], f :: rest, room)

/-- Numbers queued DATA frames from a sequence number on, up to the first number that a frame awaiting acknowledgement still
holds (R162, R167). -/
def numberFrames (seq : Nat) (taken : List Nat) (ps : List (List Byte)) : List TrunkFrame :=
  match ps with
  | [] => []
  | b :: rest =>
    if taken.contains seq then []
    else { seq := seq, payload := b, rtx := false } :: numberFrames ((seq + 1) % 256) (seq :: taken) rest

/-- Whether the present cycle is the first of a second (R166, R181). -/
def State.markerCycle (s : State) : Bool := decide (s.cycleStartOf s.time.cycles % secondTicks = 0)

/-- Puts the data train of the present cycle on the line, in the order of R166. -/
def sendDataTrain (p : Nat) (s : State) : State :=
  let x := (s.port p).trunk
  let mode := x.mode
  let time := if s.markerCycle then [s.trunkTimeBytes p] else []
  let change := match x.change with
    | some (m, k) => if s.trunkHead p && decide (s.time.cycles < k) then
        [trunkModeBytes m (s.numberOf k)] else []
    | none => []
  let mgmt := time ++ change ++ [trunkAckBytes x.marks]
  let room := mgmt.foldl (fun r b => r - frameSymbols b.length mode) (trainRoom (s.stopTick p) mode)
  let a := placeFrames mode x.again room 0
  let q := (s.ctx p 1).queue
  let fresh := numberFrames (s.ctx p 1).txSeq ((x.previous ++ x.again).map (fun f => f.seq)) (q.map (fun f => f.2.2))
  let b := if a.2.1.isEmpty then placeFrames mode fresh a.2.2 a.1.length else ([], fresh, 0)
  let rtx := a.1.map (fun f => { f with rtx := true })
  let line := trainOf 0 (!a.2.1.isEmpty || decide (b.1.length < q.length)) 0
    (mgmt.map (fun m => s.trunkBurst p mode 2 0 0 m) ++
      rtx.map (fun f => s.trunkBurst p mode 1 f.seq 4 f.payload) ++
      b.1.map (fun f => s.trunkBurst p mode 1 f.seq 0 f.payload))
  let s1 := s.modCtx p 1 (fun c => { c with queue := c.queue.drop b.1.length,
                                            txSeq := (c.txSeq + b.1.length) % 256 })
  let s2 := (putTrain p (s.stopTick p) line s1).modPort p (fun y => { y with
    trunk := { y.trunk with current := rtx ++ b.1, again := a.2.1, marks := [] } })
  s2.bumpBy Code.trunkRetransmissions p rtx.length

/-! ## Ends of a training and of a data phase -/

/-- Ticks of RETRAIN_HOLDOFF from now (R172). -/
def State.holdoffTick (s : State) (p : Nat) : Nat := s.time.tick + s.regN Code.retrainHoldoff p * secondTicks

/-- The state of a trunk port after an attempt or a data phase has ended: the head-end side holds off, the partner side
listens (R177, R178, R183). -/
def trunkIdle (p : Nat) (s : State) : State :=
  let head := s.trunkHead p
  s.modTrunk p (fun x => { x with
    state := if head then 4 else 0, holdoff := if head then s.holdoffTick p else x.holdoff,
    phaseQ := none, dataCycle := none, reply := none, flagged := false, change := none, missed := 0, barren := 0,
    low := 0, markers := [], pair := 0, extra := 0 })

/-- A failed training: TRUNK_DOWN with reason 4, counted, reported; the head-end side waits RETRAIN_HOLDOFF (R177,
R316). -/
def trainFail (p : Nat) (s : State) : State :=
  let s1 := (trunkIdle p s).modTrunk p (fun x => { x with down := some 4 })
  trunkStatus p 4 (s1.bump Code.trainFails p)

/-- Ends an attempt without a message to the far end (R161, R178, R316). -/
def attemptEnds (p : Nat) (s : State) : State := trunkStatus p 4 ((trunkIdle p s).bump Code.trainFails p)

/-- Whether a training is in progress. -/
def State.training (s : State) (p : Nat) : Bool := decide ((s.port p).trunk.state = 1) || decide ((s.port p).trunk.state = 2)

/-- Frames that await acknowledgement on a trunk (R168, R178). -/
def TrunkSt.awaiting (x : TrunkSt) : Nat := x.previous.length + x.current.length + x.again.length

/-- R77: the trunk that is the time source is lost; holdover starts with a bound of 0. -/
def sourceLost (p : Nat) (s : State) : State :=
  if s.isTimeSource p then
    raiseReferenceLoss true (refreshGrade
      { s with time := { s.time with bound := 0, boundAt := s.time.tick, slew := 0, quietSlew := false, steer := 0,
                                       trunkTick := false } })
  else s

/-- Starts the move of a lost trunk's traffic to its twin, from the next cycle, where the twin is in its data phase
(R182). -/
def moveTraffic (src dst reason : Nat) (s : State) : State :=
  if s.isTrunk src && s.isTrunk dst && decide ((s.port dst).trunk.state = 3) && (s.port dst).move.isNone &&
      decide ((s.port dst).carries ≠ some src) then
    s.modPort dst (fun x => { x with
      move := some { trigger := s.time.cycles, apply := s.time.cycles + 1, source := src, reason := reason, drops := [1],
                     map := {}, trunk := true } })
  else s

/-- The move that a loss of a twinned trunk causes; a move onto the lost trunk that has not taken effect moves nothing any more
(R182). -/
def lossMove (p reason : Nat) (s : State) : State :=
  let t := s.modPort p (fun x => { x with move := x.move.filter (fun v => !v.trunk) })
  match s.twinOf p with
  | some q => moveTraffic p q reason t
  | none => t

/-- A loss in the apply cycle of a level change that has taken effect voids the change (R180). -/
def voidChange (p : Nat) (s : State) : State :=
  match (s.port p).trunk.applied with
  | some (k, mode, downs) =>
    if k = s.time.cycles then
      (s.modTrunk p (fun x => { x with mode := mode, applied := none })).setReg Code.levelDowns p
        (min (s.regN Code.levelDowns p) downs : Nat)
    else s
  | none => s

/-- Trunk loss (R77, R178, R180, R182, R224, R316, R403). -/
def trunkLost (p reason : Nat) (s : State) : State :=
  let n := (s.port p).trunk.awaiting
  let s1 := ((voidChange p s).bump Code.trunkLosses p).bumpBy Code.trunkFramesDropped p n
  let s2 := fault 23 [p] [(1, p), (1, reason)] s1
  let s3 := (trunkIdle p s2).modTrunk p (fun x => { x with
    previous := [], current := [], again := [], marks := [], down := some 2, silence := 18 })
  let s4 := sourceLost p (trunkStatus p 2 s3)
  lossMove p 2 (abandonRun p s4 |> fun t => if t.trunkHead p then t else calStops p t)

/-! ## The cycle of a trunk port -/

/-- cycles_left of the head-end side's train in phase E (R175). -/
def headLeft (j : Nat) (flagged : Bool) : Nat := if j < 63 then 127 - 2 * j else if flagged then 1 else 3

/-- The head-end side's part in a cycle of phase E (R172, R175). -/
def headPhaseE (p : Nat) (s : State) : State :=
  let x := (s.port p).trunk
  let rel := s.time.cycles - x.start
  if rel % 2 = 1 then s
  else
    let j := rel / 2
    let left := headLeft j x.flagged
    let s1 := s.modTrunk p (fun y => { y with
      pair := j, extra := if 63 ≤ j ∧ left = 3 then y.extra + 1 else y.extra,
      phaseQ := if left = 1 then some (s.time.cycles + 2) else none })
    sendTraining p (s.trainStop p) 0
      (trunkTrainBytes 1 x.mode left (s.headCycle p) s.time.n false x.arrival 0 0) s1

/-- The partner side's reply in phase E: one cycle after the arrival of the train that it answers, which is in the cycle after the
arrival, or in the present one where the train arrived before the partner's tick 0 (R172, R175). -/
def partnerPhaseE (p : Nat) (s : State) : State :=
  let x := (s.port p).trunk
  match x.reply with
  | none => s
  | some left =>
    let start := (x.arrival.getD 0 % (256 * s.cycleTicks : Int)).toNat
    sendTraining p (s.trainStop p) start
      (trunkTrainBytes 1 x.mode left (s.headCycle p) s.time.n x.flagged x.arrival 0 0)
      (s.modTrunk p (fun y => { y with reply := none }))

/-- The highest level code that meets the margin at the smaller of both SNRs (R176). -/
def State.trunkLevel (s : State) (p : Nat) : Option Nat :=
  let x := (s.port p).trunk
  bestLevel x.trainLevel x.trainMargin (min x.ownSnr x.farSnr)

/-- A cycle of phase Q: 64 cycles, in the last of which the head-end side picks the data mode. The partner side, which does not
know that mode yet, marks its last cycle with phase 3 and names PAM2 at the trunk baud (R169, R172, R176;
notes/assumptions/16). -/
def phaseQCycle (p q : Nat) (s : State) : State :=
  let x := (s.port p).trunk
  if s.trunkHead p ∧ q = 63 then
    match s.trunkLevel p with
    | none => trainFail p s
    | some l =>
      let mode := modeOf (modeBaud x.mode) l
      let k := s.time.cycles + 1
      sendTraining p (s.stopTick p) 0
        (trunkTrainBytes 3 mode 0 (s.headCycle p) s.time.n false x.arrival x.ownSnr (s.numberOf k))
        (s.modTrunk p (fun y => { y with chosen := mode, dataCycle := some k }))
  else
    let last := decide (63 ≤ q)
    sendTraining p (s.stopTick p) 0
      (trunkTrainBytes (if last then 3 else 2) x.mode (63 - q) (s.headCycle p) s.time.n (x.flagged && !s.trunkHead p) x.arrival
        x.ownSnr (if last then twos 32 (((s.headCycle p : Nat) : Int) + 1) else 0)) s

/-- The start of the data phase (R177, R316). -/
def enterData (p : Nat) (s : State) : State :=
  trunkStatus p 1 (s.modTrunk p (fun x => { x with
    state := 3, mode := if x.dataCycle.isSome then x.chosen else x.mode, phaseQ := none, missed := 0, barren := 0,
    low := 0, markers := [], previous := [], current := [], again := [], marks := [], change := none, applied := none }))

/-- Counts the cycles in a row in which an SNR lies less than 3 dB above the reference of the level count (R179). -/
def countLow (p : Nat) (s : State) : State :=
  let x := (s.port p).trunk
  let under := fun (snr : Nat) => !meets snr (x.mode % 16) 6
  s.modTrunk p (fun y => { y with
    low := if s.trunkHead p && (under (s.ctx p 1).snr || under x.farSnr) then y.low + 1 else 0 })

/-- Frames of a train that the far end's next TRUNK_ACK did not mark, or whose TRUNK_ACK did not come: they go again once, and
are dropped after that (R168). -/
def unmarked (p : Nat) (fs : List TrunkFrame) (s : State) : State :=
  (s.modTrunk p (fun y => { y with again := y.again ++ fs.filter (fun f => !f.rtx) })).bumpBy Code.trunkFramesDropped p
    (fs.filter (fun f => f.rtx)).length

/-- The head-end side down for a RETRAIN: TRUNK_DOWN with reason 1 goes out, frames awaiting acknowledgement are dropped (R169,
R172, R178). -/
def retrainDown (p : Nat) (s : State) : State :=
  let n := (s.port p).trunk.awaiting
  ((trunkIdle p s).modTrunk p (fun x => { x with
    down := some 1, retrain := true, previous := [], current := [], again := [], marks := [] })).bumpBy Code.trunkFramesDropped p n

/-- Whether the next cycle is one in which the head-end side may start a training (R172). -/
def State.evenDatumNext (s : State) : Bool :=
  decide (s.cycleStartOf (s.time.cycles + 1) % secondTicks = 0) && decide (s.numberOf (s.time.cycles + 1) % 2 = 0)

/-- The head-end side's numbering from the cycle on that its announced epoch names (R164, R174). -/
def headNumbering (p : Nat) (s : State) : State :=
  match (s.port p).trunk.headEpoch with
  | some (k, d) =>
    if k ≤ s.time.cycles then
      s.modTrunk p (fun x => { x with numbering := untwos 32 (twos 32 (x.numbering + d)), headEpoch := none })
    else s
  | none => s

/-- TRUNK_DOWN as the only frame of the train of the present cycle (R169, R178; notes/assumptions/16). -/
def sendDown (p r : Nat) (s : State) : State :=
  (putTrain p (s.stopTick p)
    [s.trunkBurst p (s.port p).trunk.mode 2 0 (if s.trunkHolds p then 2 else 0) (trunkDownBytes r)] s).modTrunk p
    (fun y => { y with down := none })

/-- The train of a cycle of the data phase. A RETRAIN that was written during the training takes effect at the first even datum
cycle: the cycle before it carries TRUNK_DOWN (R180). -/
def dataCycle (p : Nat) (s : State) : State :=
  if (s.port p).trunk.retrain && s.trunkHead p && s.evenDatumNext then sendDown p 1 (retrainDown p s)
  else if (s.port p).trunk.dataCycle.isSome then sendDataTrain p s
  else s

/-- What a trunk port does at the start of a cycle: its receiver starts on the train to come, an owed TRUNK_DOWN goes out,
or the train of its phase (R163–R180). -/
def trunkCycle (p : Nat) (s : State) : State :=
  let s0 := headNumbering p ((unmarked p (s.port p).trunk.previous s).modPort p (fun y => { y with
    onLine := []
    rx := { y.rx with state := .acquire, span := .slot 1, loaded := none, frames := 0, header := none, noRoom := false,
                      preamble := false, agcFrozen := true }
    trunk := { y.trunk with previous := y.trunk.current, current := [], markerSeen := false, goodFrames := 0,
                            silence := y.trunk.silence - 1 } }))
  let x := (s0.port p).trunk
  match x.down with
  | some r => sendDown p r s0
  | none =>
    if x.state = 1 then
      match x.phaseQ with
      | some k =>
        if k ≤ s.time.cycles then
          let s1 := s0.modTrunk p (fun y => { y with echo := y.echoNow.getD 0 })
          if (s1.port p).trunk.echo < 640 then trainFail p s1
          else phaseQCycle p (s.time.cycles - k) (s1.modTrunk p (fun y => { y with state := 2 }))
        else if s0.trunkHead p then s0 else partnerPhaseE p s0
      | none => if s0.trunkHead p then headPhaseE p s0 else partnerPhaseE p s0
    else if x.state = 2 then
      match x.phaseQ with
      | some k =>
        let q := s.time.cycles - k
        if q < 64 then phaseQCycle p q s0 else dataCycle p (enterData p s0)
      | none => s0
    else if x.state = 3 then dataCycle p (countLow p s0)
    else s0

/-! ## Training -/

/-- What every training starts with, on either side (R170, R172, R180). -/
def openTraining (p : Nat) (s : State) : State :=
  (s.modTrunk p (fun x => { x with
    state := 1, mode := modeOf (s.regN Code.trunkBaud p) 0, start := s.time.cycles, startTick := s.time.tick, pair := 0,
    extra := 0, flagged := false, phaseQ := none, dataCycle := none, reply := none, arrival := none, retrain := false,
    echoNow := none, down := none, ownSnr := 0, farSnr := 0, trainMargin := s.regN Code.trunkMargin p,
    trainLevel := s.regN Code.trunkLevelMax p })).bump Code.trainings p

/-- TRUNK_TRAINING_START (R172): in a cycle that begins at a datum and has an even number, once the holdoff has passed or a
RETRAIN waits. -/
def trainingStart (p : Nat) (s : State) : State :=
  let x := (s.port p).trunk
  if s.trunkOn p && s.trunkHead p && (decide (x.state = 0) || decide (x.state = 4)) && s.markerCycle &&
      decide (s.cycleNow % 2 = 0) && decide (x.silence = 0) && (x.retrain || decide (x.holdoff ≤ s.time.tick)) then
    headPhaseE p (openTraining p s)
  else s

/-- A write of 1 to RETRAIN (R172, R178, R180): during a training it waits for its end; in the data phase the trunk goes down
with reason 1 first, in its next train. -/
def retrainPort (p : Nat) (s : State) : State :=
  if (s.port p).trunk.state = 3 then retrainDown p s else s.modTrunk p (fun x => { x with retrain := true })

/-- A write that takes a port's mode away from trunk (R180): TRUNK_DOWN with reason 3 goes out, a training ends, and a time
source is lost (R77). -/
def trunkLeaves (p : Nat) (s : State) : State :=
  if s.trunkOn p then
    let x := (s.port p).trunk
    let s1 := appendFrame p (s.trainMode p) (trunkDownBytes 3) s
    let s2 := ((trunkIdle p s1).modTrunk p (fun y => { y with previous := [], current := [], again := [], marks := [] })).bumpBy
      Code.trunkFramesDropped p x.awaiting
    if x.state = 3 then sourceLost p s2 else s2
  else s

/-- The partner side's delay and offset from the head-end side's arrival figure and its own (R173, R174): the training
fails beyond 800 ticks, or on a numbering mismatch; a time source takes up the offset. -/
def partnerMeasure (p : Nat) (aH aP : Int) (msgCycle : Nat) (s : State) : State :=
  let d := aH / 2
  let e := d - aP
  let s1 := s.modTrunk p (fun x => { x with delay := d.toNat, offset := e, flagged := decide (e.natAbs ≤ 2560) })
  if 800 * 256 < d then trainFail p s1
  else if s1.isTimeSource p then
    if s1.time.slew = 0 then actOnOffset ((-(e * 100)).tdiv 256) s1 else s1
  else if s1.cycleNow ≠ msgCycle ∨ 2560 < e.natAbs then trainFail p (s1.bump Code.numberingMismatch p)
  else s1

/-- The fields of a TRUNK_TRAIN message (R169). -/
structure TrainMsg where
  phase : Nat
  mode : Nat
  left : Nat
  cycle : Nat
  flag : Bool
  arrival : Option Int
  snr : Nat
  dataCycle : Nat
deriving DecidableEq, Repr

/-- Reads a TRUNK_TRAIN message of 24 bytes (R169). -/
def readTrain (m : List Byte) : Option TrainMsg :=
  if m.length = 24 ∧ atOr m 0 0 = 0x31 then
    some { phase := (atOr m 2 0).toNat, mode := (atOr m 3 0).toNat, left := beVal ((m.drop 4).take 2),
           cycle := beVal ((m.drop 6).take 4), flag := (atOr m 11 0).getLsbD 0, arrival := arrivalOf ((m.drop 12).take 4),
           snr := beVal ((m.drop 16).take 2), dataCycle := beVal ((m.drop 20).take 4) }
  else none

/-- A TRUNK_TRAIN received by the head-end side (R161, R173, R175). A message that is no reply of this training comes from
another head-end side: a role conflict, which ends the attempt. -/
def headTrain (p : Nat) (m : TrainMsg) (arrival : Int) (snr : Nat) (s : State) : State :=
  let x := (s.port p).trunk
  let reply := decide (x.state = 1) && decide (m.phase = 1) && decide ((s.time.cycles - x.start) % 2 = 1)
  let phaseQ := decide (x.state = 2) && (decide (m.phase = 2) || decide (m.phase = 3))
  if reply then
    s.modTrunk p (fun y => { y with
      arrival := some arrival, delay := (arrival / 2).toNat, flagged := y.flagged || m.flag })
  else if phaseQ then
    s.modTrunk p (fun y => { y with arrival := some arrival, ownSnr := snr, farSnr := m.snr })
  else if s.training p then attemptEnds p s
  else s.bump Code.trainFails p

/-- A TRUNK_TRAIN received by the partner side (R172–R177). -/
def partnerTrain (p : Nat) (m : TrainMsg) (arrival : Int) (snr : Nat) (s : State) : State :=
  let x := (s.port p).trunk
  if m.phase = 1 ∧ (x.state = 0 ∨ x.state = 1) then
    let s1 := if x.state = 0 then openTraining p s else s
    let s2 := s1.modTrunk p (fun y => { y with
      numbering := untwos 32 (m.cycle + 2 ^ 32 - s.cycleNow), arrival := some arrival, reply := some (m.left - 1),
      phaseQ := if m.left = 1 then some (s.time.cycles + 2) else y.phaseQ })
    let s3 := match m.arrival with
      | none => s2
      | some aH => partnerMeasure p aH arrival m.cycle s2
    if arrival < 0 then partnerPhaseE p s3 else s3
  else if x.state = 2 ∧ m.phase = 2 then
    s.modTrunk p (fun y => { y with arrival := some arrival, ownSnr := snr, farSnr := m.snr })
  else if x.state = 2 ∧ m.phase = 3 then
    let s1 := s.modTrunk p (fun y => { y with arrival := some arrival, ownSnr := snr, farSnr := m.snr })
    match modeField m.mode with
    | some mode =>
      if s.headFuture p m.dataCycle then
        s1.modTrunk p (fun y => { y with chosen := mode, dataCycle := some (s.countOfHead p m.dataCycle) })
      else s1
    | none => s1
  else s

/-- The ECH slice over the samples of the end's own train of phase E: it subtracts its estimate and adapts at 2^−ECH_MU_TRN on what is
left, and its rejection is that of the last such train (R170, R171). The samples come with the far end's answer, or with the start of
the cycle that follows. -/
def ownTrain (p : Nat) (own : List (List Int × Int)) (s : State) : State :=
  if (s.port p).trunk.state = 1 ∧ own ≠ [] then
    let r := echRun (s.regN Code.echMuTrn p) true (s.port p).trunk.ech own
    s.modTrunk p (fun y => { y with ech := r.1, echoNow := some (echoRejection r.2.1 r.2.2) })
  else s

/-- TRUNK_TRAIN (R170, R171, R173): the message, its arrival offset, the SNR of the train's SOUND frames, and the samples of the
end's own last train of phase E. -/
def trunkTrain (p : Nat) (bytes : List Byte) (arrival : Int) (snr : Nat) (own : List (List Int × Int)) (s : State) : State :=
  match readTrain bytes with
  | none => s
  | some m =>
    if !s.trunkOn p then s
    else
      let s1 := ownTrain p own s
      if s.trunkHead p then headTrain p m arrival snr s1 else partnerTrain p m arrival snr s1

/-- PHASE_E_TIMEOUT (R175): 60 s from the start cycle without a partner train with flags[0] set. -/
def phaseETimeout (p : Nat) (s : State) : State :=
  let x := (s.port p).trunk
  if s.trunkOn p && s.trunkHead p && decide (x.state = 1) && !x.flagged && s.elapsed x.startTick (60 * secondTicks) then
    trainFail p s
  else s

/-! ## Data phase -/

/-- TRUNK_TRAIN_END, the expected end of the far end's train (R165, R178, R181): `count` frames of it passed CRC-32, besides those
that have ended as frames of their own (BURST_END). -/
def trunkTrainEnd (p count : Nat) (s : State) : State :=
  if !s.trunkOn p then s
  else
    let x := (s.port p).trunk
    let good := count + x.goodFrames
    let s1 := s.bump (if good = 0 then Code.trainsMissed else Code.trainsOk) p
    let s2 := if x.state = 3 ∧ s.trunkHead p = false ∧ s.markerCycle = true ∧ x.markerSeen = false then
        (s1.bump Code.markersMissed p).modTrunk p (fun y => { y with markerSeen := true }) else s1
    let s3 := if x.state = 3 then
        s2.modTrunk p (fun y => { y with missed := if good = 0 then y.missed + 1 else 0,
                                         barren := if good = 0 then y.barren + 1 else 0 }) else s2
    (s3.modTrunk p (fun y => { y with goodFrames := 0 })).modRx p (fun y => { y with state := .off, header := none, noRoom := false })

/-- Takes the marker's time into force on the partner side whose time source is the trunk: grade, hops, numbering, a
pending epoch of the head-end side, and the offset (R70, R76, R174, R181). -/
def takeMarker (p : Nat) (m : List Byte) (s : State) : State :=
  let q := (atOr m 3 0).toNat
  let time := beVal ((m.drop 12).take 8)
  let now := s.cycleStartOf s.time.cycles
  let delta : Int := (time : Int) - (now : Int)
  let s1 := { s with time := { s.time with hops := min 255 ((atOr m 4 0).toNat + 1), trunkGrade := q % 4, trunkTick := true,
                                                 qualifiedAt := if s.time.trunkTick then s.time.qualifiedAt else s.time.tick } }
  let s2 : State :=
    let ahead := (beVal ((m.drop 28).take 4) + 2 ^ 32 - beVal ((m.drop 8).take 4)) % 2 ^ 32
    if q.testBit 2 && decide (1 ≤ ahead) && decide (ahead < 2 ^ 31) then
      { s1 with time := { s1.time with epoch := some (beVal ((m.drop 32).take 8), now + ahead * s.cycleTicks),
                                       adopting := true,
                                       announced := s.time.announced && s.time.epoch.isSome } }
    else if s1.time.epoch = none ∧ (delta ≠ 0 ∨ s1.aon.epochWritten = false) then
      { s1 with time := { s1.time with epoch := some (((s1.epochDatum : Int) + delta).toNat, s1.epochDatum),
                                       adopting := true, announced := false } }
    else s1
  let e : Int := (s2.port p).trunk.offset
  let s3 : State := { s2 with time := { s2.time with steer := -(100 * e.tmod 256) } }
  let s4 : State := if s3.time.slew = 0 ∧ 256 ≤ e.natAbs then
      State.bump { s3 with time := { s3.time with slew := -(e.tdiv 256), quietSlew := false } } Code.slewEvents 0
    else s3
  refreshGrade s4

/-- The epoch that a TRUNK_TIME announces for the head-end side: the cycle, by the model's count, and what its cycle numbers change
by (R114, R169, R174). -/
def State.headAnnounces (s : State) (m : List Byte) : Option (Nat × Int) :=
  let at_ := beVal ((m.drop 28).take 4)
  let ahead := (at_ + 2 ^ 32 - beVal ((m.drop 8).take 4)) % 2 ^ 32
  if (atOr m 3 0).getLsbD 2 && decide (1 ≤ ahead) && decide (ahead < 2 ^ 31) then
    some (s.time.cycles + ahead, ((s.cycleNo (beVal ((m.drop 32).take 8)) : Nat) : Int) - ((at_ : Nat) : Int))
  else none

/-- TRUNK_TIME (R76, R174, R181): the message, the arrival offset of the marker, and whether it passed CRC-32. -/
def trunkTime (p : Nat) (m : List Byte) (arrival : Int) (crcOk : Bool) (s : State) : State :=
  if !(s.trunkOn p && decide ((s.port p).trunk.state = 3)) then s
  else if s.trunkHead p then
    if crcOk && decide (m.length = 40) then
      s.modTrunk p (fun x => { x with farSnr := beVal ((m.drop 24).take 2) })
    else s
  else if !(crcOk && decide (m.length = 40)) then
    (s.bump Code.markersMissed p).modTrunk p (fun x => { x with markerSeen := true })
  else
    let s1 := s.modTrunk p (fun x =>
      let ms := match arrivalOf ((m.drop 20).take 4) with
        | some aH => ((aH, arrival) :: x.markers).take 16
        | none => x.markers
      let n := ms.length
      let h := sumInt (ms.map (·.1))
      let o := sumInt (ms.map (·.2))
      { x with farSnr := beVal ((m.drop 24).take 2), markerSeen := true, markers := ms,
               numbering := untwos 32 (beVal ((m.drop 8).take 4) + 2 ^ 32 - s.cycleNow), headEpoch := s.headAnnounces m,
               delay := if n = 0 then x.delay else (roundDiv (h + o) (2 * n)).toNat,
               offset := if n = 0 then x.offset else roundDiv (h - o) (2 * n) })
    if s1.isTimeSource p then takeMarker p m s1 else s1

/-- TRUNK_ACK (R168): frames of the previous train that are marked are released; the others go again once, and are
dropped after that. -/
def trunkAck (p : Nat) (m : List Byte) (s : State) : State :=
  if s.trunkOn p && decide ((s.port p).trunk.state = 3) && decide (m.length = 36) then
    let map := beVal (m.drop 4)
    let x := (s.port p).trunk
    unmarked p (x.previous.filter (fun f => !map.testBit f.seq)) (s.modTrunk p (fun y => { y with previous := [] }))
  else s

/-- TRUNK_MODE (R179), on the partner side; one that names an invalid mode or no future cycle changes nothing (R65, R94;
notes/assumptions/16). -/
def trunkMode (p : Nat) (m : List Byte) (s : State) : State :=
  if s.trunkOn p && !s.trunkHead p && decide ((s.port p).trunk.state = 3) && decide (m.length = 8) then
    match modeField (atOr m 2 0).toNat with
    | some mode =>
      if s.headFuture p (beVal (m.drop 4)) then
        s.modTrunk p (fun x => { x with change := some (mode, s.countOfHead p (beVal (m.drop 4))) })
      else s
    | none => s
  else s

/-- TRUNK_MODE_APPLY (R179, R316). -/
def trunkModeApply (p : Nat) (s : State) : State :=
  match (s.port p).trunk.change with
  | none => s
  | some (mode, k) =>
    if s.isTrunk p && s.due k then
      trunkStatus p 3 ((s.modTrunk p (fun x => { x with
        mode := mode, change := none, low := 0, applied := some (k, x.mode, s.regN Code.levelDowns p) })).bump Code.levelDowns p)
    else s

/-- TRUNK_DOWN (R178): trunk loss at once in the data phase; a training under way ends. -/
def trunkDown (p : Nat) (m : List Byte) (s : State) : State :=
  if s.trunkOn p && decide (m.length = 4) then
    if (s.port p).trunk.state = 3 then trunkLost p (atOr m 2 0).toNat s
    else if s.training p then attemptEnds p s
    else s
  else s

/-- TRUNK_LOSS (R178). -/
def trunkLoss (p : Nat) (s : State) : State :=
  let x := (s.port p).trunk
  if s.trunkOn p && decide (x.state = 3) && (decide (s.regN Code.lossCycles p ≤ x.missed) || decide (32 ≤ x.barren)) then
    trunkLost p 2 s
  else s

/-- TRUNK_LEVEL_DOWN (R179), on the head-end side: 16 low cycles in a row lower the level count 8 cycles ahead. -/
def trunkLevelDown (p : Nat) (s : State) : State :=
  let x := (s.port p).trunk
  if s.trunkOn p && s.trunkHead p && decide (x.state = 3) && decide (16 ≤ x.low) && x.change.isNone &&
      decide (0 < x.mode % 16) then
    s.modTrunk p (fun y => { y with change := some (y.mode - 1, s.time.cycles + 8) })
  else s

/-! ## Reception of frames -/

/-- The tick of the own cycle at which the far end's train is expected to end: its stop tick and the measured one-way delay
(R165). -/
def State.trainEnd (s : State) (p : Nat) : Nat :=
  (if (s.port p).trunk.state = 1 then s.trainStop p else s.stopTick p) + ceilDiv (s.port p).trunk.delay 256

/-- PREAMBLE_DETECT of a train: the gain is the context's, so there is no fast AGC to wait for (R133, R165). -/
def trunkPreamble (p : Nat) (decisions : BitVec 16) (s : State) : State :=
  if (s.port p).rx.state = .acquire ∧ preambleMatch decisions = true ∧ s.cyclePos ≤ s.trainEnd p then s.modRx p (fun y => { y with state := .search, preamble := true }) else s

/-- SYNC_DETECT of a frame: the search goes on until the expected end of the train (R136, R164, R165). -/
def trunkSync (p : Nat) (w : BitVec 32) (s : State) : State :=
  if (s.port p).rx.state = .search ∧ syncErrors w ≤ (s.port p).latch.syncTol ∧ s.cyclePos ≤ s.trainEnd p then
    s.modRx p (fun y => { y with state := .header, frames := y.frames + 1 })
  else s

/-- HEADER_CHECK of a frame: after an error the receiver searches on (R107, R162, R165). DESIGN CHOICE
(notes/assumptions/16): a frame with drop field 0, 2–32 or 63, for which R162 names no outcome, is taken in under R107 step 4
like one with drop field 1. -/
def trunkHeader (p : Nat) (bits : BitVec 64) (s : State) : State :=
  if (s.port p).rx.state = .header then
    let h := unpackHeader bits
    let again := fun (t : State) => t.modRx p (fun y => { y with state := .search, header := none, noRoom := false,
                                                                 eqReset := false })
    let bad := countRx p Code.portHeaderErrors Code.dropHeaderErrors s
    if hcrc bits ≠ bits.setWidth 16 then again bad
    else if 2000 < h.length then again (countRx p Code.portLenovr Code.dropLenovr s)
    else if 33 ≤ h.drop ∧ h.drop ≤ 62 then again bad
    else acceptHeader p h s
  else s

/-- A frame of a train that passed its CRC-32: format errors are counted; a DATA frame is marked for TRUNK_ACK and goes to
the host; a SOUND frame leaves its taps, for the trains that follow, and its SNR (R109, R113, R143, R154, R155, R162, R165,
R168, R172). -/
def trunkFrame (p : Nat) (h : RxHeader) (payload : List Byte) (m : EqFields) (s : State) : State :=
  let back := writeBackIf p 1 h.typ m s
  if formatError h.typ payload || reservedCode h.typ payload then
    countRx p Code.portFormatErrors Code.dropFormatErrors back
  else if (s.port p).rx.noRoom then countRx p Code.portBufferFull Code.dropBufferFull back
  else if h.typ = 1 then
    frameToHost p 1 (s.ctx p 1).epoch payload
      (back.modTrunk p (fun x => { x with marks := addTo h.seq x.marks }))
  else if h.typ = 3 then (keepTaps p 1 m s).modTrunk p (fun x => { x with ownSnr := m.snrB })
  else back

/-- BURST_END of a frame of a train: whitened with {cycle, k mod 64, dir}. The ECH slice adapts on while the own train is on the
line, and the arrival offset of the train is kept (R116, R117, R119, R138, R155, R158, R164, R169, R170). -/
def trunkFrameEnd (p : Nat) (levels : List Nat) (m : RxMeasure) (s : State) : State :=
  match (s.port p).rx.header with
  | none => s
  | some h =>
    let mode := s.trainMode p
    let seed := whitenSeed (s.headCycle p) (((s.port p).rx.frames - 1) % 64) (s.trunkHead p)
    let b := decodeBody mode seed h levels
    let taps := s.startTaps p (some 1)
    let q := eqFields (s.port p).latch.muAcq (s.port p).latch.muTrk mode taps.1 taps.2
      (targetLevels mode (decide (h.typ = 3)) seed h.length levels) m
    let s0 := (sramCorrectedBy (memCode .taps) m.tapErrors (heldTiming p q s)).modTrunk p (fun x => { x with
      arrival := some m.arrival
      goodFrames := if b.2 then x.goodFrames + 1 else x.goodFrames
      ech := if 2 ≤ x.state ∧ x.state ≤ 3 then (echRun (s.regN Code.echMuTrk p) false x.ech m.echo).1 else x.ech })
    let s1 := if b.2 then trunkFrame p h b.1 q s0 else countRx p Code.portCrcErrors Code.dropCrcErrors s0
    s1.modRx p (fun y => { y with state := .search, header := none, noRoom := false, eqReset := false })

/-- CONTEXT_LOAD of a trunk port: context 1 before each train (R137, R144, R165). -/
def trunkLoad (p : Nat) (errors : List (Nat × Ecc)) (s : State) : State :=
  let r := readContext p 1 errors s
  startTiming p (if r.2 then none else some 1) (r.1.modRx p (fun y => { y with useStart := r.2 }))

/-! ## Moves between twinned trunks -/

/-- The move of a trunk's traffic takes effect (R182, R201, R216, R220): onto the survivor `q`, or back to it. -/
def trunkMoveApply (q : Nat) (v : Move) (s : State) : State :=
  let p := v.source
  let e := (s.ctx q 1).epoch
  let e' := (e + 1) % 64
  let back := decide (v.reason = 5)
  let fs := if back then [] else (s.ctx p 1).queue
  let s1 := (s.modCtx q 1 (fun x => { x with epoch := e', queue := x.queue ++ fs })).modCtx p 1
    (fun x => { x with epoch := e', queue := if back then x.queue else [] })
  let s2 := s1.modPort q (fun x => { x with move := none, carries := if back then x.carries else some p,
                                            twinState := if back then 1 else 2 })
  let s3 := s2.modPort p (fun x => { x with carries := none, twinState := if back then 1 else 3 })
  let s4 := twinMoveStatus p q 1 e e' v.reason s3
  if back then s4 else s4.bump Code.twinFailovers q

/-- A write of 1 to TWIN_RETURN of a lost trunk that is back in its data phase (R182). -/
def trunkReturn (p : Nat) (s : State) : State :=
  match s.twinOf p with
  | none => s
  | some q =>
    if (s.port q).carries = some p ∧ (s.port p).trunk.state = 3 ∧ (s.port p).move = none then
      s.modPort p (fun x => { x with
        move := some { trigger := s.time.cycles, apply := s.time.cycles + 1, source := q, reason := 5, drops := [1],
                       map := {}, trunk := true } })
    else s

/-- The port on which frames tagged with a trunk port go out (R182). -/
def State.trunkPath (s : State) (p : Nat) : Nat :=
  match s.twinOf p with
  | some q => if (s.port q).carries = some p then q else p
  | none => p

/-- TWIN_MOVE_APPLY (R182, R216): branch drops or trunk traffic. -/
def moveApply (q : Nat) (s : State) : State :=
  match (s.port q).move with
  | none => s
  | some v =>
    if v.trunk then (if s.due v.apply then trunkMoveApply q v s else s)
    else twinMoveApply q s

/-! ## The commands -/

/-- CONTEXT_LOAD (R141, R165). -/
def execContextLoad (port drop : Nat) (errors : List (Nat × Ecc)) (s : State) : Host.Outcome State Fault Refusal :=
  run (atDrop port drop (fun t =>
    if t.isTrunk port then (if t.trunkOn port && decide (drop = 1) then trunkLoad port errors t else t)
    else contextLoad port drop errors t)) s

/-- PREAMBLE_DETECT (R133, R165). -/
def execPreambleDetect (port : Nat) (decisions : BitVec 16) (agcConverged : Bool) (s : State) :
    Host.Outcome State Fault Refusal :=
  run (atPort port (fun t => if t.trunkOn port then trunkPreamble port decisions t
    else preambleDetect port decisions agcConverged t)) s

/-- SYNC_DETECT (R136, R165). -/
def execSyncDetect (port : Nat) (window : BitVec 32) (symbols : List (List Int)) (s : State) : Host.Outcome State Fault Refusal :=
  run (atPort port (fun t => if t.trunkOn port then trunkSync port window t else syncDetect port window symbols t)) s

/-- HEADER_CHECK (R107, R165). -/
def execHeaderCheck (port : Nat) (header : BitVec 64) (s : State) : Host.Outcome State Fault Refusal :=
  run (atPort port (fun t => if t.trunkOn port then trunkHeader port header t else headerCheck port header t)) s

/-- BURST_END (R155, R165). -/
def execBurstEnd (port : Nat) (levels : List Nat) (measure : RxMeasure) (s : State) : Host.Outcome State Fault Refusal :=
  run (atPort port (fun t => if t.trunkOn port then trunkFrameEnd port levels measure t else burstEnd port levels measure t)) s

/-- TWIN_MOVE_APPLY (R216). -/
def execTwinMoveApply (port : Nat) (s : State) : Host.Outcome State Fault Refusal := run (atPort port (moveApply port)) s

/-- TRUNK_TRAINING_START (R172). -/
def execTrunkTrainingStart (port : Nat) (s : State) : Host.Outcome State Fault Refusal :=
  run (atPort port (trainingStart port)) s

/-- TRUNK_TRAIN (R173). -/
def execTrunkTrain (port : Nat) (message : List Byte) (arrival : Int) (snr : Nat) (own : List (List Int × Int)) (s : State) :
    Host.Outcome State Fault Refusal := run (atPort port (trunkTrain port message arrival snr own)) s

/-- PHASE_E_TIMEOUT (R175). -/
def execPhaseETimeout (port : Nat) (s : State) : Host.Outcome State Fault Refusal :=
  run (atPort port (phaseETimeout port)) s

/-- TRUNK_TRAIN_END (R165). -/
def execTrunkTrainEnd (port good : Nat) (s : State) : Host.Outcome State Fault Refusal :=
  run (atPort port (trunkTrainEnd port good)) s

/-- TRUNK_TIME (R181). -/
def execTrunkTime (port : Nat) (message : List Byte) (arrival : Int) (crcOk : Bool) (s : State) :
    Host.Outcome State Fault Refusal := run (atPort port (trunkTime port message arrival crcOk)) s

/-- TRUNK_ACK (R168). -/
def execTrunkAck (port : Nat) (message : List Byte) (s : State) : Host.Outcome State Fault Refusal :=
  run (atPort port (trunkAck port message)) s

/-- TRUNK_MODE (R179). -/
def execTrunkMode (port : Nat) (message : List Byte) (s : State) : Host.Outcome State Fault Refusal :=
  run (atPort port (trunkMode port message)) s

/-- TRUNK_MODE_APPLY (R179). -/
def execTrunkModeApply (port : Nat) (s : State) : Host.Outcome State Fault Refusal :=
  run (atPort port (trunkModeApply port)) s

/-- TRUNK_DOWN (R178). -/
def execTrunkDown (port : Nat) (message : List Byte) (s : State) : Host.Outcome State Fault Refusal :=
  run (atPort port (trunkDown port message)) s

/-- TRUNK_LOSS (R178). -/
def execTrunkLoss (port : Nat) (s : State) : Host.Outcome State Fault Refusal := run (atPort port (trunkLoss port)) s

/-- TRUNK_LEVEL_DOWN (R179). -/
def execTrunkLevelDown (port : Nat) (s : State) : Host.Outcome State Fault Refusal :=
  run (atPort port (trunkLevelDown port)) s

end Sys2Proof.Machine
end

