-- ==== Sys2Proof/Machine/Power.lean ====
section
/-! DEFINITION. Power (R38, R50, R51, R90, R91, R422–R436, R444): steep and Dormant, the cask, the sleep ledger, PMBus
requests, wakes and put-downs, and the core voltage. The PMBus controller lies in the always-on domain. -/

namespace Sys2Proof.Machine

/-! ## Rails and requests -/

/-- The rail of a cluster's VDD_AFE_k (R373). -/
def afeRail (k : Nat) : Nat := 4 + k
/-- The rail of a cluster's VDD_LINE_k (R373). -/
def lineRail (k : Nat) : Nat := 13 + k
/-- The cluster of a switched rail (R373). -/
def clusterOfRail (n : Nat) : Option Nat :=
  if 13 ≤ n ∧ n ≤ 21 then some (n - 13) else if 4 ≤ n ∧ n ≤ 12 then some (n - 4) else none

/-- The sensor of the die that a rail powers: VDD_CORE and each VDD_LINE_k (R374, R437). -/
def dieOfRail (n : Nat) : Option Nat := if n = 0 then some 0 else if 13 ≤ n ∧ n ≤ 21 then some (n - 12) else none

/-- Changes the power state. -/
def State.modPower (s : State) (f : PowerSt → PowerSt) : State := { s with power := f s.power }

/-- RAIL_ON of a rail: rails 0–3 read 1 (R373). -/
def State.railOn (s : State) (n : Nat) : Bool := Tab.get s.power.on n false

/-- OPERATION, VOUT_COMMAND, STATUS_WORD and READ_VOUT (R431). -/
def cmdOperation : Nat := 0x01
/-- VOUT_COMMAND (R431). -/
def cmdVout : Nat := 0x21
/-- STATUS_WORD (R431). -/
def cmdStatus : Nat := 0x79
/-- READ_VOUT (R431). -/
def cmdReadVout : Nat := 0x8B

/-- A voltage of so many mV as VOUT_COMMAND codes it (R432). -/
def voutWord (mV : Nat) : Nat := (roundDiv ((mV * 4096 : Nat) : Int) 1000).toNat
/-- The mV of a coded voltage (R432). -/
def voutMilli (w : Nat) : Nat := (roundDiv ((w * 1000 : Nat) : Int) 4096).toNat

/-- Whether a request is on its way: its time has come (R429, R434). -/
def State.pmBegun (s : State) (r : PmReq) : Bool := decide (r.notBefore ≤ s.time.tick)

/-- The request at the head of the queue comes to the bus, with the address and page that the rail's objects have then
(R373, R434). -/
def latchHead (s : State) : State :=
  s.modPower (fun x => { x with
    queue := match x.queue with
      | [] => []
      | h :: rest =>
        (if h.addr.isNone && s.pmBegun h then
          { h with addr := some (s.regN (Code.railAddr + 256 * h.rail) 0, s.regN (Code.railPage + 256 * h.rail) 0) }
         else h) :: rest })

/-- Puts a request among those that wait: by priority, behind its equals, never before the one in progress (R434). -/
def queuePm (r : PmReq) (s : State) : State :=
  latchHead (s.modPower (fun x => { x with
    queue := match x.queue with
      | [] => [r]
      | h :: rest =>
        if s.pmBegun h then h :: insertBy (fun a b => decide (a.prio ≤ b.prio)) r rest
        else insertBy (fun a b => decide (a.prio ≤ b.prio)) r (h :: rest) }))

/-- Takes waiting requests out of the queue. The one in progress is never interrupted: nothing waits for it any more
(R434, R444). -/
def dropRequests (p : PmReq → Bool) (s : State) : State :=
  latchHead (s.modPower (fun x => { x with
    queue := match x.queue with
      | [] => []
      | h :: rest =>
        if s.pmBegun h then (if p h then { h with wakeOf := none } else h) :: rest.filter (fun r => !p r)
        else (h :: rest).filter (fun r => !p r) }))

/-- A new request. -/
def pmReq (rail cmd data prio : Nat) (wakeOf : Option Nat) : PmReq :=
  { rail := rail, cmd := cmd, data := data, prio := prio, tries := 0, wakeOf := wakeOf, busy := false, waiting := false }

/-- Requests a rail on: OPERATION 80h (R429, R431). -/
def pmOn (rail prio : Nat) (wakeOf : Option Nat) (s : State) : State := queuePm (pmReq rail cmdOperation 0x80 prio wakeOf) s
/-- Requests a rail off: OPERATION 00h (R426, R430, R431). -/
def pmOff (rail prio : Nat) (s : State) : State := queuePm (pmReq rail cmdOperation 0 prio none) s
/-- Requests a set point of VDD_CORE, rail 0 (R434, R435). -/
def pmVcore (mV : Nat) (s : State) : State :=
  queuePm (pmReq 0 cmdVout (voutWord mV) 3 none) (s.modPower (fun x => { x with vcoreAsked := some mV }))
/-- Whether a rail is on, or comes on with the request in progress (R434). -/
def State.railComing (s : State) (n : Nat) : Bool :=
  s.railOn n ||
    (match s.power.queue with
     | r :: _ => r.rail == n && r.cmd == cmdOperation && r.data == 0x80
     | [] => false)
/-- Requests a rail off when it is on or comes on. -/
def pmOffIfOn (rail prio : Nat) (s : State) : State := if s.railComing rail then pmOff rail prio s else s

/-- A transaction with its packet error code: CRC-8 of polynomial 07h over its bytes, address first (R431; PRESUMED from
PMBus, notes/assumptions/19). -/
def withPec (bs : List Byte) : List Byte := bs ++ [byteOf (crc8 (bytesBits bs)).toNat]

/-- The bytes that the device drives for a command: 7-bit address and direction, command, and for a write its data, low byte
first, with the code; for a read the repeated address (R431; the byte order is PRESUMED from PMBus, notes/assumptions/19). -/
def pmCommand (addr cmd data : Nat) : List Byte :=
  if cmd = cmdStatus ∨ cmd = cmdReadVout then [byteOf (2 * addr), byteOf cmd, byteOf (2 * addr + 1)]
  else if cmd = cmdVout then withPec ([byteOf (2 * addr), byteOf cmd] ++ leBytes 2 data)
  else withPec [byteOf (2 * addr), byteOf cmd, byteOf data]

/-- Whether a command is a write (R431). -/
def pmWrites (cmd : Nat) : Bool := cmd == cmdOperation || cmd == cmdVout

/-- What a request puts on the bus, with the address and page latched for it: PAGE, then its command, and for a write the
STATUS_WORD read behind PAGE again; then that read alone, every 50 µs while BUSY is awaited (R373, R431, R433). -/
def State.pmTransactions (s : State) (r : PmReq) : List (List Byte) :=
  let a := r.addr.getD (s.regN (Code.railAddr + 256 * r.rail) 0, s.regN (Code.railPage + 256 * r.rail) 0)
  let page := pmCommand a.1 0 a.2
  let status := pmCommand a.1 cmdStatus 0
  if r.busy then [page, status]
  else [page, pmCommand a.1 r.cmd r.data] ++ (if pmWrites r.cmd then [page, status] else [])

/-- What the PMBus carries: the request in progress, unless its repeat or its time waits (R433, R434). -/
def State.pmbusOut (s : State) : List (List Byte) :=
  match s.power.queue with
  | r :: _ => if r.waiting || !s.pmBegun r then [] else s.pmTransactions r
  | [] => []

/-! ## The state of a port and of a cluster -/

/-- PORT_STATE 3000.02 (R369). -/
def State.portStateNow (s : State) (p : Nat) : Nat :=
  let c := (s.cluster (clusterOf p)).state
  let x := s.port p
  if c = 5 then 6
  else if c = 4 then 5
  else if c = 2 ∨ c = 3 then 4
  else if x.mode = 0 then 0
  else if x.stopped then 7
  else if x.mode = 2 ∧ x.trunk.state ≠ 3 then 3
  else if x.steep then 2
  else 1

/-- Stops one port with its cluster: nothing more is sent or received, a traverse run is abandoned, DC bias is removed
(R38, R224, R426, R441). -/
def stopPort (p : Nat) (s : State) : State :=
  let s1 := abandonRun p s
  let s2 := s1.modPort p (fun x => { x with
    started := false, steep := false, onLine := [], beaconLeft := 0, beaconCut := false, driverOff := true,
    rx := { x.rx with state := .off, span := .off, loaded := none, useStart := false, recovery := false, returned := false,
                      preamble := false, energySeen := false, header := none, noRoom := false, eqReset := false, frames := 0 } })
  s2.modTrav p (fun x => { x with plus := none })

/-- Stops every port of a cluster. -/
def stopCluster (k : Nat) (s : State) : State :=
  forAll (portsOf k) stopPort
    (s.modCluster k (fun c => { c with ready := false, gated := false, linkOn := false, dwell := 0, dwellFresh := false, dwellLen := 0 }))

/-- The traffic of a port that its cluster's loss or a lack of engines stops goes to its twin, as reason 1 (R38, R182,
R215, R388). A trunk's training or data phase ends with it (DEDUCED, notes/assumptions/18). -/
def portLost (p : Nat) (s : State) : State :=
  if s.isTrunk p then
    let was := (s.port p).trunk.state
    let n := (s.port p).trunk.awaiting
    let s1 := (s.bumpBy Code.trunkFramesDropped p n)
    let s2 := (trunkIdle p s1).modTrunk p (fun x => { x with previous := [], current := [], again := [], marks := [] })
    let s3 := if was = 3 then sourceLost p s2 else s2
    lossMove p 1 s3
  else failover p 1 none (survivorLost p s)

/-- The loss of a cluster for its ports and their twins (R38, R39, R215, R441). -/
def clusterGone (k : Nat) (s : State) : State := forAll (portsOf k) portLost (stopCluster k s)

/-! ## Cask and sleep ledger -/

/-- Writes a cask byte to both copies (R50). -/
def caskWrite (i : Nat) (b : Byte) (s : State) : State :=
  { s with aon := { s.aon with caskA := Tab.store {} s.aon.caskA i { val := b, ok := true }
                               caskB := Tab.store {} s.aon.caskB i { val := b, ok := true } } }

/-- Writes bytes to the cask from an offset on (R50). -/
def caskWriteAll (i : Nat) (bs : List Byte) (s : State) : State :=
  match bs with
  | [] => s
  | b :: rest => caskWriteAll (i + 1) rest (caskWrite i b s)

/-- The parity of bytes in one cask copy turns out bad. -/
def spoil (base : Nat) (bad : List Nat) (t : Tab CaskByte) : Tab CaskByte :=
  bad.foldl (fun t i => if i < 1024 then Tab.store {} t (base + i) { Tab.get t (base + i) {} with ok := false } else t) t

/-- Reads a cask byte: copy A, or copy B, which is then rewritten to A; where both fail, the cask error and no byte
(R50, R403 source 5). R376 names no access for a wake's restore: the management controller reads (DESIGN CHOICE,
notes/assumptions/19). -/
def caskRead (i : Nat) (s : State) : Option Byte × State :=
  let a := Tab.get s.aon.caskA i {}
  let b := Tab.get s.aon.caskB i {}
  if a.ok then (some a.val, s)
  else if b.ok then (some b.val, { s with aon := { s.aon with caskA := Tab.store {} s.aon.caskA i b } })
  else (none, notice { source := 5, key := [i], detail := [(2, i)], access := accRead, master := masterMc,
                       address := busAddress (memCode .cask) i } s)

/-- Reads `n` cask bytes; none where a byte fails in both copies (R50, R51). -/
def caskReadAll (n i : Nat) (s : State) : Option (List Byte) × State :=
  match n with
  | 0 => (some [], s)
  | m + 1 =>
    let r := caskRead i s
    let t := caskReadAll m (i + 1) r.2
    (match r.1, t.1 with
     | some b, some bs => some (b :: bs)
     | _, _ => none, t.2)

/-- The save set of a cluster (R427). `cal` are bytes 655:0, the calibration that the line die has learned. -/
def State.saveSet (s : State) (k : Nat) (cal : List Byte) : List Byte :=
  let c := s.cluster k
  let ports := portsOf k
  let head := (cal ++ List.replicate 656 0).take 656
  let halves := ports.map (fun p => byteOf (s.port p).trav.halves)
  let engines := (span (18 * k) 18).map (fun e => byteOf (s.engine e).state)
  let readings := ports.flatMap (fun p =>
    let x := (s.port p).trav
    leBytes 4 x.ins ++ leBytes 4 x.loopRes ++ leBytes 2 (twos 16 x.galvanic) ++ [0, 0])
  let body := head ++ halves ++ engines ++ List.replicate 14 0 ++ [byteOf (if c.negative then 1 else 0), byteOf c.dwell, 0, 0] ++
    readings ++ ports.map (fun p => byteOf (s.portStateNow p)) ++ List.replicate 104 0
  body ++ leBytes 4 (driveCrc body)

/-- The newest sleep ledger entries of a cluster, newest first (R91). -/
def State.ledger (s : State) (k : Nat) : List Ledger := Tab.get s.aon.ledgers k []

/-- Writes a cluster's sleep ledger, which keeps 16 entries (R91). -/
def setLedger (k : Nat) (ls : List Ledger) (s : State) : State :=
  { s with aon := { s.aon with ledgers := Tab.put s.aon.ledgers k (ls.take 16) } }

/-- Opens a ledger entry: the Dormant period begins now (R91, R426, R430). -/
def openLedger (k : Nat) (s : State) : State :=
  setLedger k ({ entry := s.time.time64, alarm := Tab.get s.aon.alarms k 0, exit := 0, gradeIn := s.time.grade, gradeOut := 0,
                 flags := 0, opened := true } :: s.ledger k) s

/-- Changes the open ledger entry of a cluster. -/
def modLedger (k : Nat) (f : Ledger → Ledger) (s : State) : State :=
  match s.ledger k with
  | l :: ls => if l.opened then setLedger k (f l :: ls) s else s
  | [] => s

/-- A ledger entry as 32 bytes (R91). -/
def ledgerBytes (l : Ledger) : List Byte :=
  leBytes 8 l.entry ++ leBytes 8 l.alarm ++ leBytes 8 l.exit ++ [byteOf l.gradeIn, byteOf l.gradeOut, byteOf l.flags] ++
    List.replicate 5 0

/-! ## Steep -/

/-- What a port has to do in the cycle in progress, as spans of ticks from the cycle's start: bursts, a beacon, slots, the
contention window while it is to be received, and the traverse window. A trunk port that trains or carries data is at work up to its
traverse window (R78, R80, R422; for the trunk DEDUCED, notes/assumptions/18). -/
def State.activity (s : State) (p : Nat) : List (Nat × Nat) :=
  let x := s.port p
  let l := s.cycleTicks
  let la := x.latch
  if s.inBeacon p then
    if x.beaconCut then []
    else x.onLine.map (fun b =>
      (0, b.start + b.beaconSymbols.length * beaconSymbolTicks - (beaconCycles s.time.n - x.beaconLeft) * l))
  else
    x.onLine.map (fun b => (b.start, b.start + burstTicks b.payload.length b.mode)) ++
    (if s.isBranch p then
      (x.map.slots.filter (fun sl => decide (sl.cycle = s.cycleNow % x.map.period))).map (fun sl => (sl.start, sl.start + sl.len)) ++
      (if s.rollOpen p || (s.soundingNow p).isSome then [(l - la.t - la.c, l - la.t)] else [])
     else if s.isTrunk p && decide (1 ≤ x.trunk.state) && decide (x.trunk.state ≤ 3) then [(0, l - la.t)] else []) ++
    (if la.t = 0 then [] else [(l - la.t, l)])

/-- The idle span of a port that holds the present tick: its first tick, and the tick of the activity that ends it, or the
cycle's end (R422). -/
def State.idleSpan (s : State) (p : Nat) : Option (Nat × Nat) :=
  let pos := s.cyclePos
  let act := s.activity p
  if act.any (fun a => decide (a.1 ≤ pos) && decide (pos < a.2)) then none
  else some (act.foldl (fun m a => if a.2 ≤ pos then max m a.2 else m) 0,
             act.foldl (fun m a => if pos < a.1 then min m a.1 else m) s.cycleTicks)

/-- Ticks to the next activity of a port; 0 while it is active (R422, R424). -/
def State.idleLeft (s : State) (p : Nat) : Nat :=
  match s.idleSpan p with
  | some (_, b) => b - s.cyclePos
  | none => 0

/-- A port leaves steep; its cluster, which then is not Steep either, has its engine clocks again (R422, R424). -/
def leaveSteep (p : Nat) (s : State) : State :=
  let t := s.modPort p (fun x => { x with steep := false })
  if (s.cluster (clusterOf p)).state = 1 then
    t.modCluster (clusterOf p) (fun c => { c with state := 0, gated := false })
  else t

/-- PORT_STEEP_ENTRY (R422): in an idle span of 200 ticks or more, whose last 100 ticks are not reached. -/
def portSteep (p : Nat) (s : State) : State :=
  if (s.port p).started ∧ (s.port p).mode ≠ 0 ∧ (s.port p).stopped = false ∧ (s.cluster (clusterOf p)).state ≤ 1 ∧
      s.time.running = true then
    match s.idleSpan p with
    | some (a, b) => if a + 200 ≤ b ∧ s.cyclePos + 100 < b then s.modPort p (fun x => { x with steep := true }) else s
    | none => s
  else s

/-- PORT_STEEP_EXIT (R422): 100 ticks before the span ends. A port that has not started its cycles stays steep up to the
datum (R429). -/
def portUnsteep (p : Nat) (s : State) : State :=
  if (s.port p).steep ∧ (s.port p).started ∧ s.idleLeft p ≤ 100 then leaveSteep p s else s

/-- CLUSTER_STEEP_ENTRY (R424): all 16 ports are steep or off, and no port's next activity lies within 400 ticks. -/
def clusterSteep (k : Nat) (s : State) : State :=
  if (s.cluster k).state = 0 ∧ (portsOf k).all (fun p => decide ((s.port p).mode = 0) ||
      ((s.port p).steep && decide (400 < s.idleLeft p))) then
    s.modCluster k (fun c => { c with state := 1, gated := true })
  else s

/-- CLUSTER_STEEP_EXIT (R424): 200 ticks before the first port's activity. A cluster whose ports are all off stays Steep. -/
def clusterUnsteep (k : Nat) (s : State) : State :=
  if (s.cluster k).state = 1 ∧ (portsOf k).any (fun p => decide ((s.port p).mode ≠ 0) && decide (s.idleLeft p ≤ 200)) then
    s.modCluster k (fun c => { c with state := 0, gated := false })
  else s

/-- The line driver's output stage is on (R38, R423). -/
def State.stageOn (s : State) (p : Nat) : Bool := !(s.port p).driverOff && !(s.port p).steep

/-- A receive converter half runs: while the port is steep only in the energy-watch ticks, which lie in idle spans of the
upstream region (R130, R423). -/
def State.converterOn (s : State) (p : Nat) : Bool :=
  decide ((s.port p).trav.halves ≠ 0) && (!(s.port p).steep || (s.inUpRegion p && (s.idleSpan p).isSome))

/-- The FFE, DFE and ECH slices of the port's engine are clocked, and its FRM slice runs more than its tick counter (R423). -/
def State.slicesOn (s : State) (p : Nat) : Bool := !(s.port p).steep

/-- The clock of an engine is gated: in service in a Steep cluster; spares and engines under test never are (R424). -/
def State.engineGated (s : State) (e : Nat) : Bool := (s.cluster (e / 18)).gated && decide ((s.engine e).state = 0)

/-! ## Wake -/

/-- Starts a wake of a Dormant cluster, or the restart of one that heat has shut down: step 1 (R428, R429, R441). A wake
of a cluster whose entry still runs its requests follows at once after them (R444). -/
def startWake (k : Nat) (intended : Option Nat) (s : State) : State :=
  let c := s.cluster k
  if (c.entering ∨ c.closing) ∧ c.state ≠ 5 then s.modCluster k (fun x => { x with wakeAfter := true, intended := intended })
  else if c.state = 2 ∨ c.heatRestart then
    pmOn (lineRail k) 2 (some k) (s.modCluster k (fun x => { x with
      state := 3, step := 1, tries := 0, acked := false, wakeAfter := false, intended := intended, fromNvm := false }))
  else s

/-- The off requests of a cluster that are still to be made. -/
def State.offPending (s : State) (k : Nat) : Bool :=
  s.power.queue.any (fun r => r.cmd == cmdOperation && r.data == 0 && (r.rail == afeRail k || r.rail == lineRail k))

/-- What follows the last off request of a cluster: a put-down opens its new ledger entry, an entry to Dormant is complete,
and a wake that came meanwhile starts (R426, R430, R444). -/
def settleOff (k : Nat) (s : State) : State :=
  if s.offPending k then s
  else
    let c := s.cluster k
    let s1 := if c.reopen then openLedger k s else s
    let s2 := s1.modCluster k (fun x => { x with reopen := false, closing := false })
    if c.wakeAfter ∧ c.entering = false ∧ c.state = 2 then startWake k c.intended s2 else s2

/-- The put-down of a failed wake: rails off in reverse order, Dormant again, ledger, wake-failed (R430, R441, R403
source 8). `rail` is FFh for a PLL failure. -/
def putDown (k step rail : Nat) (s : State) : State :=
  let heat := (s.cluster k).heatRestart
  let s1 := dropRequests (fun r => r.wakeOf == some k) s
  let s2 := pmOffIfOn (lineRail k) 1 (pmOffIfOn (afeRail k) 1 s1)
  let s3 := (s2.modCluster k (fun x => { x with
    state := if heat then 5 else 2, step := 0, linkOn := false, tries := 0, acked := false, intended := none, heatRestart := false,
    heatStuck := heat, reopen := !heat })).bump Code.wakeFails k
  let s4 := modLedger k (fun l => { l with exit := 0, flags := l.flags ||| 2, opened := false }) s3
  settleOff k (fault 8 [k] [(1, k), (1, step), (1, rail)] s4)

/-- The rail that a wake step asks for: VDD_LINE_k in step 1, VDD_AFE_k in step 2 (R429). -/
def wakeRail (k step : Nat) : Nat := if step = 1 then lineRail k else afeRail k

/-- PMBus-failed (R433, R403 source 26): causes 1 no acknowledge, 2 PEC, 3 busy. -/
def railFailed (rail cmd cause : Nat) (s : State) : State :=
  fault 26 [rail] [(1, rail), (1, cmd), (1, cause)] (s.bump (Code.railFails + 256 * rail) 0)

/-- A rail of a wake that fails its check after its delay is handled as a request that is not acknowledged: tried again
100 µs later, at most three tries in all (R429, R430). -/
def wakeCheckFailed (k : Nat) (s : State) : State :=
  let c := s.cluster k
  let rail := wakeRail k c.step
  if c.tries + 1 < 3 then
    queuePm { pmReq rail cmdOperation 0x80 2 (some k) with tries := c.tries + 1, waiting := true }
      (s.modCluster k (fun x => { x with tries := x.tries + 1, acked := false }))
  else putDown k (c.step + 1) rail (railFailed rail cmdOperation 1 s)

/-- Whether a STATUS_WORD shows a rail good: OFF [6] and POWER_GOOD# [11] clear (R429). -/
def railGood (w : Nat) : Bool := !w.testBit 6 && !w.testBit 11

/-- Takes a STATUS_WORD of a rail: RAIL_STATUS, and the rail-fault condition (R434, R403 source 27). -/
def takeStatus (rail w : Nat) (s : State) : State :=
  let bad := fun (x : Nat) => x.testBit 15 || x.testBit 14 || x.testBit 13 || x.testBit 2
  let old := Tab.get s.power.status rail 0
  let s1 := s.modPower (fun x => { x with status := Tab.put x.status rail w })
  if bad w then (if bad old then s1 else fault 27 [rail] [(1, rail), (2, w)] s1)
  else if bad old then endCondition 27 [rail] s1 else s1

/-- Whether an object belongs to a cluster: its own, or its ports' or their drops'; CLUSTER_TARGET is left out (R51,
R428). -/
def ofCluster (k key : Nat) : Bool :=
  let code := keyCode key
  let inst := keyInst key
  match findObj code with
  | some o =>
    o.acc == .rwp && decide (code ≠ Code.clusterTarget) &&
      (match o.scope with
       | .cluster => decide (inst = k)
       | .port => decide (clusterOf inst = k)
       | .drop => decide (clusterOf (inst / 64) = k)
       | _ => false)
  | none => false

/-- The working values of a cluster as the committed set has them (R51). -/
def committedIn (k : Nat) (s : State) : State :=
  let cr := (s.currentSet.map (fun c => c.regs)).getD []
  let kept := s.regs.filter (fun e => !ofCluster k e.1)
  let cd := (s.currentSet.map (fun c => c.doms)).getD []
  let keptDoms := s.doms.filter (fun e => !ofCluster k e.1)
  { s with regs := (cr.filter (fun e => ofCluster k e.1)).foldl (fun t e => Tab.put t e.1 e.2) kept
           doms := (cd.filter (fun e => ofCluster k e.1)).foldl (fun t e => Tab.put t e.1 e.2) keptDoms }

/-- Loads a cluster's committed configuration in place of its save set, its twin settings among it (R51, R371). -/
def loadCommitted (k : Nat) (s : State) : State := withTwinChanges (committedIn k) s

/-- Step 4 of a wake: the save set is checked and restored; a set that fails is replaced by the committed configuration
(R51, R427, R429). At a restart after heat a set that is not valid is left unrestored (R441). -/
def restoreCask (k : Nat) (badA badB : List Nat) (s : State) : State :=
  let r := caskReadAll 1024 (1024 * k) { s with aon := { s.aon with
    caskA := spoil (1024 * k) badA s.aon.caskA, caskB := spoil (1024 * k) badB s.aon.caskB } }
  let bytes := r.1.getD []
  let good := r.1.isSome && (leVal (bytes.drop 1020) == driveCrc (bytes.take 1020))
  if good then
    let s1 := r.2.modCluster k (fun c => { c with calibration := bytes.take 656 })
    forAll (span 0 16) (fun i t => t.modTrav (16 * k + i) (fun x => { x with
      halves := ((bytes[656 + i]?).getD 0).toNat % 4
      ins := leVal ((bytes.drop (708 + 12 * i)).take 4)
      loopRes := leVal ((bytes.drop (712 + 12 * i)).take 4)
      galvanic := untwos 16 (leVal ((bytes.drop (716 + 12 * i)).take 2)) })) s1
  else if (s.cluster k).heatRestart then r.2
  else loadCommitted k (r.2.modCluster k (fun c => { c with fromNvm := true }))

/-- Step 6 of a wake: the wake counts and the cluster waits for the datum (R90, R429). What the step does to the ports follows
it (`wakeStepPorts`). -/
def wakeEnds (k : Nat) (s : State) : State :=
  (s.modCluster k (fun c => { c with
    state := 0, step := 0, acked := false, ready := true, heatRestart := false })).bump Code.wakes k

/-- WAKE_STEP (R51, R429, R430): the delay after the step in progress has ended. -/
def wakeStep (k : Nat) (m : WakeMeasure) (s : State) : State :=
  let c := s.cluster k
  if c.state ≠ 3 then s
  else if c.step = 1 ∨ c.step = 2 then
    if c.acked then
      let s1 := takeStatus (wakeRail k c.step) m.statusWord s
      if railGood m.statusWord then
        if c.step = 1 then
          pmOn (afeRail k) 2 (some k) (s1.modCluster k (fun x => { x with step := 2, tries := 0, acked := false }))
        else s1.modCluster k (fun x => { x with step := 3, tries := 0, acked := false })
      else wakeCheckFailed k s1
    else s
  else if c.step = 3 then
    if m.pllLocked then
      restoreCask k m.badA m.badB (s.modCluster k (fun x => { x with step := 4, tries := 0, linkOn := true }))
    else if c.tries = 0 then s.modCluster k (fun x => { x with tries := 1 })
    else putDown k 3 0xFF s
  else if c.step = 4 then s.modCluster k (fun x => { x with step := 5 })
  else if c.step = 5 then wakeEnds k s
  else s

/-- WAKE_ALARM_REACHED (R428, R444): the alarm and CLUSTER_TARGET read 0 from then on and the wake starts, at once after an
entry that runs; a cluster that is not Dormant, one whose entry has not begun included, only loses its alarm. -/
def wakeAlarmReached (k : Nat) (s : State) : State :=
  let a := Tab.get s.aon.alarms k 0
  if a = 0 ∨ s.aon.rtc < a then s
  else
    let s1 := { s with aon := { s.aon with alarms := Tab.del s.aon.alarms k } }
    let c := s.cluster k
    if c.state = 2 then
      startWake k (some ((a + 60000 + (secondTicks - 1)) / secondTicks * secondTicks))
        (modLedger k (fun l => { l with alarm := a }) (s1.setReg Code.clusterTarget k 0))
    else s1

/-! ## Entry to Dormant -/

/-- Whether the boundary at the end of the present cycle lies outside the beacon windows of a cluster's ports (R384,
R426). -/
def State.outsideBeacons (s : State) (k : Nat) : Bool := (portsOf k).all (fun p => decide ((s.port p).beaconLeft ≤ 1))

/-- DORMANT_ENTRY (R91, R426, R427): at the first suitable boundary after the accepted write the cluster stops, its save set
goes to the cask, and its rails are requested off. `cal` is the calibration that its line die has learned. A cluster that heat has
shut down enters as well, unless it stays down; its line die has no power, and the save set stays the one of the last entry
(R441; DEDUCED, notes/assumptions/18). -/
def dormantEntry (k : Nat) (cal : List Byte) (s : State) : State :=
  let c := s.cluster k
  if c.entering ∧ c.state ≠ 2 ∧ c.state ≠ 3 ∧ c.heatStuck = false ∧ s.outsideBeacons k then
    let s0 := stopCluster k s
    let s1 := if c.state = 5 then s0 else caskWriteAll (1024 * k) (s.saveSet k cal) s0
    let s2 := (openLedger k s1).bump Code.dormantEntries k
    let s3 := s2.modCluster k (fun x => { x with state := 2, entering := false, closing := true, step := 0, heatRestart := false })
    settleOff k (pmOffIfOn (lineRail k) 2 (pmOffIfOn (afeRail k) 2 s3))
  else s

/-! ## PMBus -/

/-- The start-up's rails (R398, R449): behind the last cluster of a group the line rails of the next group. -/
def nextGroup (k : Nat) (s : State) : State :=
  if k % 3 = 2 then forAll ((span (k + 1) 3).filter (fun j => decide (j < 9))) (fun j t => pmOn (lineRail j) 4 none t) s else s

/-- What follows a start-up's rail that is on and has passed its check, or has failed: VDD_AFE_k after VDD_LINE_k, as in steps 1 and
2 of R429, and the next group after a cluster's last rail. A cluster that heat has shut down meanwhile gets no further rail
(R398, R429, R441, R449). -/
def startRail (rail : Nat) (ok : Bool) (s : State) : State :=
  if s.heat.coreDown then s
  else
    match clusterOfRail rail with
    | none => s
    | some k => if 13 ≤ rail ∧ ok ∧ (s.cluster k).state ≠ 5 then pmOn (afeRail k) 4 none s else nextGroup k s

/-- Whether a request is one of the start-up's rails: on, at the priority that only the start-up uses for it, or the check of one
(R449). -/
def PmReq.starts (r : PmReq) : Bool := (r.cmd == cmdOperation && r.data == 0x80 && r.prio == 4) || r.check

/-- The delay after a rail request: 2 ms after VDD_LINE_k, 0.5 ms after VDD_AFE_k (R429). -/
def railDelay (rail : Nat) : Nat := if 13 ≤ rail then 2 * milliTicks else 5000

/-- Requests the check of a start-up's rail, which reads its STATUS_WORD after the rail's delay (R429, R449). -/
def pmCheck (rail tries : Nat) (s : State) : State :=
  queuePm { pmReq rail cmdStatus tries 4 none with check := true, notBefore := s.time.tick + railDelay rail } s

/-- The check of a start-up's rail: one that fails counts as a request that is not acknowledged, and the rail is requested again,
three times in all (R429, R430, R433, R449). -/
def startChecked (r : PmReq) (w : Nat) (s : State) : State :=
  if (match clusterOfRail r.rail with
      | some k => decide ((s.cluster k).state = 5)
      | none => false) = true then startRail r.rail false s
  else if railGood w then startRail r.rail true s
  else if r.data + 1 < 3 then
    queuePm { pmReq r.rail cmdOperation 0x80 4 none with tries := r.data + 1, waiting := true } s
  else startRail r.rail false (railFailed r.rail cmdOperation 1 s)

/-- What a done request does (R429, R433–R436, R437): a rail's state, its set point, its readings. -/
def pmDone (r : PmReq) (word : Nat) (s : State) : State :=
  if r.cmd = cmdOperation then
    let on := decide (r.data = 0x80)
    let s1 := s.modPower (fun x => { x with on := Tab.put x.on r.rail on })
    let s2 :=
      (match dieOfRail r.rail with
       | some n => s1.setSensor n { s1.sensor n with
           poweredAt := if on then some (((s1.sensor n).poweredAt).getD s.time.tick) else none }
       | none => s1)
    if on then
      (match r.wakeOf with
       | some k => s2.modCluster k (fun c => { c with acked := true, tries := r.tries })
       | none => if r.starts && !s.heat.coreDown then pmCheck r.rail r.tries s2 else s2)
    else
      (match clusterOfRail r.rail with
       | some k => settleOff k s2
       | none => s2)
  else if r.cmd = cmdVout then
    let mV := voutMilli r.data
    if r.rail = 0 then
      let failed := s.power.raiseFailed && !decide (s.power.vcore < mV)
      let lifting := s.power.lifting && decide (mV ≠ s.power.vcoreHeld)
      s.modPower (fun x => { x with
        vset := Tab.put x.vset 0 mV, vcore := mV, raiseFailed := failed, lifting := lifting,
        slow := s.heat.throttled || failed || lifting })
    else s.modPower (fun x => { x with vset := Tab.put x.vset r.rail mV })
  else if r.cmd = cmdStatus then
    let t := takeStatus r.rail word s
    if r.check then startChecked r word t else t
  else s.modPower (fun x => { x with vread := Tab.put x.vread r.rail (voutMilli word) })

/-- What a request that has failed for good does (R426, R430, R433, R436). -/
def pmLost (r : PmReq) (cause : Nat) (s : State) : State :=
  let s1 := railFailed r.rail r.cmd cause s
  match r.wakeOf with
  | some k => putDown k (s.cluster k).step r.rail s1
  | none =>
    if r.starts then startRail r.rail false s1
    else if r.cmd = cmdOperation then
      (match clusterOfRail r.rail with
       | some k => settleOff k s1
       | none => s1)
    else if r.cmd = cmdVout ∧ r.rail = 0 then
      if s.power.vcore < voutMilli r.data then s1.modPower (fun x => { x with slow := true, raiseFailed := true, lifting := false })
      else s1
    else s1

/-- The counter and the cause of a failed transfer (R403 source 26, R433). -/
def pmCause (res : PmbusResult) : Nat × Nat :=
  match res with
  | .badPec => (Code.pmbusPecErrors, 2)
  | .busyTimeout => (Code.pmbusBusyTimeouts, 3)
  | .nack => (Code.pmbusNacks, 1)
  | .ack _ => (Code.pmbusNacks, 1)

/-- PMBUS_REQUEST_COMPLETE (R430, R433): the request in progress ends acknowledged, or fails and is counted. A write is
acknowledged only once a STATUS_WORD has shown BUSY clear: until then it goes on. -/
def pmbusComplete (res : PmbusResult) (s : State) : State :=
  match s.power.queue with
  | [] => s
  | r :: rest =>
    if r.waiting ∨ s.pmBegun r = false then s
    else
      let popped := latchHead (s.modPower (fun x => { x with queue := rest }))
      match res with
      | .ack w => if pmWrites r.cmd && !r.clear then s else pmDone r w popped
      | _ =>
        let c := pmCause res
        if r.tries + 1 < 3 then
          (s.modPower (fun x => { x with
            queue := { r with tries := r.tries + 1, waiting := true, busy := false, clear := false } :: rest })).bump c.1 0
        else pmLost r c.2 (popped.bump c.1 0)

/-- PMBUS_BUSY_POLL (R433, R434): STATUS_WORD is read after a write; BUSY [7] set has it read again. -/
def pmbusBusyPoll (w : Nat) (s : State) : State :=
  match s.power.queue with
  | [] => s
  | r :: rest =>
    if r.waiting ∨ s.pmBegun r = false ∨ pmWrites r.cmd = false then s
    else takeStatus r.rail w (s.modPower (fun x => { x with
      queue := { r with busy := w.testBit 7, clear := !w.testBit 7 } :: rest }))

/-- PMBUS_RETRY (R433): 100 µs after a failed try the request is sent again. -/
def pmbusRetry (s : State) : State :=
  match s.power.queue with
  | [] => s
  | r :: rest =>
    if r.waiting then
      (s.modPower (fun x => { x with queue := { r with waiting := false } :: rest })).bump Code.pmbusRetries 0
    else s

/-- PMBUS_POLLING (R434): STATUS_WORD and READ_VOUT of every rail that is on. -/
def pmbusPolling (s : State) : State :=
  forAll ((List.range 22).filter s.railOn) (fun n t =>
    queuePm (pmReq n cmdReadVout 0 4 none) (queuePm (pmReq n cmdStatus 0 4 none) t)) s

/-! ## Core voltage -/

/-- The set point that the settings ask for, the last one being `last`: adaptive within its bounds once start-up has completed,
else VCORE_NOM (R435). -/
def State.vcoreWanted (s : State) (last : Nat) : Nat :=
  if s.regB Code.avsEnable 0 ∧ s.power.started then
    (clamp (s.reg Code.vcoreMin 0) (s.reg Code.vcoreMax 0) (last : Int)).toNat
  else s.regN Code.vcoreNom 0

/-- Whether 10 ms have passed since the last VOUT_COMMAND of the adaptive control (R435). -/
def State.avsFree (s : State) : Bool :=
  match s.power.avsAt with
  | none => true
  | some t => s.elapsed t (10 * milliTicks)

/-- Whether a set point of VDD_CORE is still to be acknowledged (R434, R435). -/
def State.vcoreOnItsWay (s : State) : Bool := s.power.queue.any (fun r => r.rail == 0 && r.cmd == cmdVout)

/-- Takes a written setting of R435 into force, judged against the set point last requested. While the adaptive control is in
force its pace holds: within 10 ms of its last VOUT_COMMAND nothing is sent, and its next adjustment brings the set point within
the bounds. -/
def vcoreSettings (s : State) : State :=
  let last := if s.vcoreOnItsWay then s.power.vcoreAsked.getD s.power.vcore else s.power.vcore
  let adaptive := s.regB Code.avsEnable 0 && s.power.started
  if s.vcoreWanted last = last then s
  else if adaptive then
    (if s.avsFree then pmVcore (s.vcoreWanted last) (s.modPower (fun x => { x with avsAt := some s.time.tick })) else s)
  else pmVcore (s.vcoreWanted last) s

/-- AVS_ADJUST (R435): a monitor below the margin raises the set point by 10 mV; twice the margin for 1 s lowers it. -/
def avsAdjust (short ample : Bool) (s : State) : State :=
  let want := clamp (s.reg Code.vcoreMin 0) (s.reg Code.vcoreMax 0)
    (if short then (s.power.vcore : Int) + 10 else if ample then (s.power.vcore : Int) - 10 else (s.power.vcore : Int))
  if s.regB Code.avsEnable 0 ∧ s.power.started ∧ s.avsFree = true ∧ want ≠ (s.power.vcore : Int) then
    pmVcore want.toNat (s.modPower (fun x => { x with avsAt := some s.time.tick }))
  else s

/-! ## Running on the always-on domain -/

/-- Runs what the PMBus controller and the comparators of the always-on domain do: nothing in Fatal, where no request is
sent (R416); while the core is shut down by heat no fault is collected (R442). -/
def runAon (f : State → State) (s : State) : Host.Outcome State Fault Refusal :=
  if s.faults.fatal then .next s
  else if s.heat.coreDown then .next (let t := f s
    { t with faults := { t.faults with due := [] } })
  else .next (collect (f s))

/-! ## Commands -/

/-- PORT_STEEP_ENTRY. -/
def execPortSteepEntry (port : Nat) (s : State) : Host.Outcome State Fault Refusal := run (atPort port (portSteep port)) s
/-- PORT_STEEP_EXIT. -/
def execPortSteepExit (port : Nat) (s : State) : Host.Outcome State Fault Refusal := run (atPort port (portUnsteep port)) s
/-- CLUSTER_STEEP_ENTRY. -/
def execClusterSteepEntry (cluster : Nat) (s : State) : Host.Outcome State Fault Refusal :=
  run (atCluster cluster (clusterSteep cluster)) s
/-- CLUSTER_STEEP_EXIT. -/
def execClusterSteepExit (cluster : Nat) (s : State) : Host.Outcome State Fault Refusal :=
  run (atCluster cluster (clusterUnsteep cluster)) s
/-- WAKE_ALARM_REACHED. -/
def execWakeAlarmReached (cluster : Nat) (s : State) : Host.Outcome State Fault Refusal :=
  run (atCluster cluster (wakeAlarmReached cluster)) s
/-- DORMANT_ENTRY. -/
def execDormantEntry (cluster : Nat) (calibration : List Byte) (s : State) : Host.Outcome State Fault Refusal :=
  run (atCluster cluster (dormantEntry cluster calibration)) s
/-- PMBUS_BUSY_POLL. -/
def execPmbusBusyPoll (statusWord : Nat) (s : State) : Host.Outcome State Fault Refusal := runAon (pmbusBusyPoll statusWord) s
/-- PMBUS_RETRY. -/
def execPmbusRetry (s : State) : Host.Outcome State Fault Refusal := runAon pmbusRetry s
/-- PMBUS_POLLING. -/
def execPmbusPolling (s : State) : Host.Outcome State Fault Refusal := runAon pmbusPolling s
/-- AVS_ADJUST. -/
def execAvsAdjust (short ample : Bool) (s : State) : Host.Outcome State Fault Refusal := run (avsAdjust short ample) s

end Sys2Proof.Machine
end

