-- ==== Sys2Proof/Machine/Heat.lean ====
section
/-! DEFINITION. Heat (R437–R443): the samples of the ten diodes, broken sensors, warning, throttle, the shutdown of a line
die and of the core die. Temperatures are in 1/16 °C. -/

namespace Sys2Proof.Machine

/-- A temperature of so many °C. -/
def degC (n : Int) : Int := 16 * n

/-- Samples in 10 s (R439, R441). -/
def tenSeconds : Nat := 10000

/-- Package neighbours of a sensor (R437). -/
def neighbours (n : Nat) : List Nat :=
  if n = 0 then span 1 9 else [0, (n - 1 + 8) % 9 + 1, (n - 1 + 1) % 9 + 1]

/-- Whether a sensor is valid: not broken, and its die powered for at least 10 s (R437). -/
def State.sensorValid (s : State) (n : Nat) : Bool :=
  !(s.sensor n).broken &&
    (match (s.sensor n).poweredAt with
     | some t => s.elapsed t (10 * secondTicks)
     | none => false)

/-- The greatest of some temperatures. -/
def hottest (ts : List Int) : Option Int :=
  match ts with
  | [] => none
  | t :: rest => some (rest.foldl max t)

/-- All sensors (R374). -/
def allSensors : List Nat := List.range 10

/-- TJ_GOVERN of a sensor, from the readings just taken (R438, R439). -/
def State.govern (s : State) (n : Nat) : Int :=
  let read := fun (k : Nat) => (s.sensor k).tj
  let valid := allSensors.filter s.sensorValid
  if valid.isEmpty ∧ allSensors.any (fun k => (s.sensor k).broken) then degC 115
  else if (s.sensor n).broken then
    match hottest (((neighbours n).filter s.sensorValid).map read), hottest (valid.map read) with
    | some t, _ => t + degC 10
    | none, some t => t + degC 10
    | none, none => degC 115
  else read n

/-- Takes a reading (R374). -/
def takeReading (n : Nat) (t : Int) (s : State) : State :=
  let x := s.sensor n
  s.setSensor n { x with tj := t, peak := if x.sampled then max x.peak t else t, sampled := true }

/-- Takes the ten readings in order (R374). -/
def takeReadings (n : Nat) (ts : List Int) (s : State) : State :=
  match ts with
  | [] => s
  | t :: rest => takeReadings (n + 1) rest (takeReading n t s)

/-- Checks one sensor against the mean of its valid neighbours; `v` is the state in which validity is judged (R437, R438,
R403 source 32). -/
def checkSensor (v : State) (n : Nat) (s : State) : State :=
  let x := s.sensor n
  let ns := ((neighbours n).filter v.sensorValid).map (fun k => (v.sensor k).tj)
  let sum := sumInt ns
  let mean := if ns.isEmpty then x.mean else roundDiv sum ns.length
  if v.sensorValid n ∧ ns ≠ [] then
    let off := if degC 15 * (ns.length : Int) < ((x.tj * (ns.length : Int) - sum).natAbs : Int) then x.off + 1 else 0
    if 100 ≤ off then
      fault 32 [n] [(1, n), (2, twos 16 x.tj), (2, twos 16 mean)]
        ((s.setSensor n { x with mean := mean, off := 0, broken := true }).bump Code.sensorsBroken 0)
    else s.setSensor n { x with mean := mean, off := off }
  else s.setSensor n { x with mean := mean, off := 0 }

/-- Thermal-warning of one die (R439, R403 source 28): it ends after 10 s below TJ_WARN − 5 °C. -/
def warnDie (n : Nat) (s : State) : State :=
  let x := s.sensor n
  let warn := degC (s.reg Code.tjWarn 0)
  match x.warned with
  | none =>
    if warn ≤ x.govern then
      fault 28 [n] [(1, n), (2, twos 16 x.govern)]
        ((s.setSensor n { x with warned := some 0 }).bump Code.warnEvents 0)
    else s
  | some c =>
    if x.govern < warn - degC 5 then
      if tenSeconds ≤ c + 1 then endCondition 28 [n] (s.setSensor n { x with warned := none })
      else s.setSensor n { x with warned := some (c + 1) }
    else s.setSensor n { x with warned := some 0 }

/-- The throttle of R439 and R440, entered by the die of sensor `n`. -/
def enterThrottle (n : Nat) (s : State) : State :=
  let s1 := { s with heat := { s.heat with throttled := true, cool := 0 } }
  let s2 := s1.modPower (fun x => { x with slow := true, lifting := false, vcoreHeld := x.vcore })
  fault 29 [] [(1, n), (2, twos 16 (s.sensor n).govern)] (s2.bump Code.throttleEvents 0)

/-- The device-wide throttle after a sample (R439). -/
def throttleSample (s : State) : State :=
  let s1 := forAll allSensors (fun n t =>
    t.setSensor n { t.sensor n with hot := if degC 115 ≤ (t.sensor n).govern then (t.sensor n).hot + 1 else 0 }) s
  let cool := allSensors.all (fun n => decide ((s.sensor n).govern < degC 110))
  let s2 := { s1 with heat := { s1.heat with cool := if cool then s1.heat.cool + 1 else 0 } }
  match allSensors.find? (fun n => decide (2 ≤ (s2.sensor n).hot)) with
  | some n => if s2.heat.throttled then s2 else enterThrottle n s2
  | none => s2

/-- Whether a request brings one of a cluster's rails on, or checks one that the start-up brings on (R429, R449). -/
def bringsUp (k : Nat) (r : PmReq) : Bool :=
  clusterOfRail r.rail == some k && ((r.cmd == cmdOperation && r.data == 0x80) || r.check)

/-- Takes out of the queue what would bring a cluster up. Where that includes a rail of the start-up, its next group follows
(R398, R434, R441, R444, R449). -/
def dropWake (k : Nat) (s : State) : State :=
  let t := dropRequests (bringsUp k) s
  let gone := s.power.queue.any (fun r => bringsUp k r && r.starts) && !t.power.queue.any (fun r => bringsUp k r && r.starts)
  if gone then nextGroup k t else t

/-- The shutdown of a line die (R441): its cluster is lost to its ports, its rails go off, a wake under way is abandoned
(R444). -/
def lineDieShutdown (k : Nat) (s : State) : State :=
  let g := (s.sensor (k + 1)).govern
  let waking := decide ((s.cluster k).state = 3)
  let s1 := clusterGone k (dropWake k s)
  let s2 := (s1.modCluster k (fun c => { c with
    state := 5, step := 0, tries := 0, acked := false, intended := none, heatRestart := false, wakeAfter := false,
    reopen := false })).bump
    Code.lineDieShutdowns 0
  let s3 := if waking then modLedger k (fun l => { l with exit := 0, flags := l.flags ||| 2, opened := false }) s2 else s2
  fault 30 [k] [(1, k), (2, twos 16 g)] (pmOffIfOn (lineRail k) 1 (pmOffIfOn (afeRail k) 1 s3))

/-- Requests VDD_CORE off at a core-die shutdown, unless a page program keeps it up (R442, R443). -/
def coreOff (s : State) : State :=
  match s.heat.keepCore with
  | some _ => s
  | none => pmOff 0 1 s

/-- The input state and the quality at a loss of core power (R74). -/
def noteLoss (s : State) : State :=
  { s with aon := { s.aon with keptTime := true, inputsAtLoss := (s.time.ref10m, s.time.pps),
                               qualityAtLoss := (s.time.grade, s.boundNow, s.time.tick) } }

/-- The shutdown of the core die (R442, R443, R286): every line, link and clock stops, sequences of clusters are
abandoned, held raises are dropped, and the rails go off; VDD_CORE stays up while a page program runs. -/
def coreShutdown (s : State) : State :=
  let s1 := forAll allPorts (fun p t => t.modPort p (fun x => { x with driverOff := true, onLine := [] })) (noteLoss s)
  let s2 := { s1 with
    clusters := s1.clusters.map (fun e => (e.1, { e.2 with linkOn := false }))
    oxl := { s1.oxl with a := s1.oxl.a.stopped, b := s1.oxl.b.stopped }
    faults := { s1.faults with held := [], started := false, inject := [], injectNext := [], due := [], ackedNow := [] }
    aon := { s1.aon with coreShutdowns := min (s1.aon.coreShutdowns + 1) (2 ^ 32 - 1), shutdownTemp := (s.sensor 0).govern }
    heat := { s1.heat with coreDown := true, owed31 := true, cold := 0, restarting := false,
                           keepCore := if s1.nvm.op.isSome ∧ s1.nvm.op ≠ some .erase then some s1.time.tick else none } }
  let s3 := dropRequests (fun _ => true) (abandonArchive s2)
  let s4 := forAll (List.range 9) (fun k t => pmOffIfOn (lineRail k) 1 t) s3
  let s5 := forAll (List.range 9) (fun k t => pmOffIfOn (afeRail k) 1 t) s4
  coreOff (pmOff 1 1 s5)

/-- The end of the supply that a page program has kept up: the program ended, or 4 ms have passed (R443). -/
def releaseCore (s : State) : State :=
  match s.heat.keepCore with
  | some _ => coreOff { s with heat := { s.heat with keepCore := none } }
  | none => s

/-- Consecutive samples with every sensor that is not broken at or below TJ_RESTART (R441, R442). -/
def coldSample (s : State) : State :=
  let ok := allSensors.filter (fun n => !(s.sensor n).broken)
  let cold := !ok.isEmpty && ok.all (fun n => decide ((s.sensor n).tj ≤ degC 95))
  { s with heat := { s.heat with cold := if cold then s.heat.cold + 1 else 0 } }

/-- Line-die shutdowns of a sample: of every line die that is not shut down already, a Dormant cluster's included (R439). -/
def lineDies (s : State) : State :=
  forAll (List.range 9) (fun k t =>
    if degC 125 ≤ (t.sensor (k + 1)).govern ∧ (t.cluster k).state ≠ 5 then lineDieShutdown k t else t) s

/-- The ten readings of a sample and the temperatures that govern the dies (R374, R438, R439). -/
def sampled (ts : List Int) (s : State) : State :=
  let s1 := takeReadings 0 (ts.take 10) s
  forAll allSensors (fun n t => t.setSensor n { t.sensor n with govern := s1.govern n }) s1

/-- THERMAL_SAMPLE (R416, R437–R443). In Fatal the comparators run on, but no fault is collected, the clock stands still and no
request is sent: the sample leaves its readings (DEDUCED, notes/assumptions/18). -/
def thermalSample (ts : List Int) (s : State) : State :=
  let s2 := sampled ts s
  if s.faults.fatal then coldSample s2
  else if s.heat.coreDown then
    let s3 := coldSample s2
    (match s.heat.keepCore with
     | some t0 => if s.elapsed t0 (4 * milliTicks) then releaseCore s3 else s3
     | none => s3)
  else
    let s3 := forAll allSensors (fun n t => checkSensor s2 n t) s2
    let s4 := coldSample (throttleSample (forAll allSensors warnDie s3))
    let s5 := lineDies s4
    if degC 125 ≤ (s5.sensor 0).govern then coreShutdown s5 else s5

/-- THERMAL_STATE 7110.05: the highest action in force (R375, R439). -/
def State.thermalState (s : State) : Nat :=
  if s.heat.coreDown ∨ (List.range 9).any (fun k => (s.cluster k).state == 5) then 3
  else if s.heat.throttled then 2
  else if allSensors.any (fun n => (s.sensor n).warned.isSome) then 1
  else 0

/-- THROTTLE_LIFT (R436, R439, R440): every die below 110 °C for 10 s; the set point of before the throttle is commanded
first, and the clock follows its acknowledgement; deferred levellings start. -/
def throttleLift (s : State) : State :=
  if s.heat.throttled ∧ tenSeconds ≤ s.heat.cool then
    let s1 := { s with heat := { s.heat with throttled := false, cool := 0 } }
    startDeferred (endConditions 29 (pmVcore s.power.vcoreHeld (s1.modPower (fun x => { x with lifting := true }))))
  else s

/-- The restart of the clusters that heat has shut down (R441). -/
def restartClusters (s : State) : State :=
  forAll (List.range 9) (fun k t =>
    if (t.cluster k).state = 5 ∧ (t.cluster k).heatStuck = false ∧ (t.cluster k).heatRestart = false then
      startWake k none (t.modCluster k (fun c => { c with heatRestart := true }))
    else t) s

/-- THERMAL_SAMPLE. -/
def execThermalSample (temps : List Int) (s : State) : Host.Outcome State Fault Refusal :=
  if s.faults.fatal then .next (thermalSample temps s) else runAon (thermalSample temps) s
/-- THROTTLE_LIFT. -/
def execThrottleLift (s : State) : Host.Outcome State Fault Refusal := run throttleLift s

end Sys2Proof.Machine
end

