-- ==== Sys2Proof/Machine/Engines.lean ====
section
/-! DEFINITION. Engines and spares (R40–R44, R380–R388, R394, R395, R402, R460): golden signatures, migration, rotation,
engine tests, failing engines, ports that stop for lack of an engine, and the migrations of a hitless update. -/

namespace Sys2Proof.Machine

/-! ## Golden values -/

/-- The entries of GOLDEN_MISR: test, step, golden value (R394). -/
def goldenEntries (fuel : Nat) (bs : List Byte) : List (Nat × Nat × Nat) :=
  match fuel with
  | 0 => []
  | f + 1 =>
    if bs.length < 16 then []
    else (leVal (bs.take 2), ((bs[2]?).getD 0).toNat, leVal ((bs.drop 8).take 8)) :: goldenEntries f (bs.drop 16)

/-- One response word into the signature register: polynomial x^64 + x^4 + x^3 + x + 1 (R394). -/
def misrStep (misr w : BitVec 64) : BitVec 64 := (misr <<< 1) ^^^ (if misr.msb then 0x1b#64 else 0#64) ^^^ w

/-- The signature of response words, from an initial value of 0 (R394). -/
def signatureOf (words : List (BitVec 64)) : Nat := (words.foldl misrStep 0).toNat

/-- The golden value of a test on a die: the entry of its id and die step, or of any step (R394). Die 0 is C, die k + 1 is
Lk. -/
def State.golden (s : State) (test die : Nat) : Option Nat :=
  let bs := s.dom Code.goldenMisr 0
  ((goldenEntries (bs.length / 16) bs).find? (fun e =>
    decide (e.1 = test) && (decide (e.2.1 = 0xFF) || decide (e.2.1 = (Config.dieStep die).toNat)))).map (fun e => e.2.2)

/-- The test ids of an engine test (R394). -/
def engineTests : List Nat := [1, 2, 3, 4, 5]

/-- Whether every engine test has its golden value (R395). -/
def State.enginesTestable (s : State) : Bool := engineTests.all (fun t => (s.golden t 0).isSome)

/-- Golden-value-missing for the ids of a list that have no entry (R395, R403 source 17). -/
def goldenMissing (tests : List Nat) (s : State) : State :=
  forAll (tests.filter (fun t => (s.golden t 0).isNone && !s.test.missing.contains t)) (fun t u =>
    fault 17 [t] [(2, t), (1, (Config.dieStep 0).toNat)]
      { u with test := { u.test with missing := addTo t u.test.missing } }) s

/-! ## Spares -/

/-- The engines of a cluster (R41). -/
def enginesOf (k : Nat) : List Nat := span (18 * k) 18

/-- FAILED_ENGINES 2210.03 of a cluster, as engine numbers (R368, R381). -/
def State.failedOf (s : State) (k : Nat) : List Nat := (enginesOf k).filter (fun e => decide ((s.engine e).state = 4))

/-- SPARES_LEFT 2210.02 (R368, R381). -/
def State.sparesLeft (s : State) (k : Nat) : Nat := 2 - (s.failedOf k).length

/-- Whether an engine is a ready spare (R380). -/
def State.readySpare (s : State) (e : Nat) : Bool := decide ((s.engine e).state = 1) && (s.engine e).passed

/-- Of some engines the one in its state longest, ties to the lower number (R385). -/
def State.longest (s : State) (es : List Nat) : Option Nat :=
  es.foldl (fun b e => match b with
    | none => some e
    | some x => if (s.engine e).since < (s.engine x).since then some e else some x) none

/-- The ready spare of a cluster that has been spare longest (R385). -/
def State.spareFor (s : State) (k : Nat) : Option Nat := s.longest ((enginesOf k).filter s.readySpare)

/-- The port that an engine serves. -/
def State.portServed (s : State) (e : Nat) : Option Nat :=
  (portsOf (e / 18)).find? (fun p => decide (s.engineFor p = e) && !(s.port p).stopped)

/-- Arranges the migration of a port's engine to another at a boundary: the new engine is loaded (R382). -/
def planMigration (x y : Nat) (rotating : Bool) (s : State) : State :=
  (s.modEngine x (fun e => { e with target := some y, rotating := rotating })).modEngine y
    (fun e => { e with state := 3, since := s.time.tick, second := false })

/-- Takes back a rotation that has been arranged and not made (R402). -/
def cancelRotation (x : Nat) (s : State) : State :=
  match (s.engine x).target with
  | some y =>
    if (s.engine x).rotating then
      (s.modEngine x (fun e => { e with target := none, rotating := false })).modEngine y (fun e => { e with state := 1 })
    else s
  | none => s

/-! ## Records of failed engines -/

/-- Records an engine as failed (R381, R403 sources 11 and 12, R453). -/
def recordFailed (e test : Nat) (s : State) : State :=
  let k := e / 18
  let before := s.sparesLeft k
  let s1 := s.modEngine e (fun x => { x with state := 4, since := s.time.tick, second := false, passed := false,
                                             failing := false, target := none, rotating := false })
  let s2 := fault 11 [e] [(1, e), (1, k), (2, test)] (logRepair 1 e 0 s1)
  if before = 2 ∧ s1.sparesLeft k = 1 then
    fault 12 [k] [(1, k), (1, 1)] (s2.modCluster k (fun c => { c with rotationStopped := true }))
  else s2

/-- Removes the record of an engine that has passed in RETURN (R381, R400). -/
def unrecord (e : Nat) (s : State) : State :=
  let k := e / 18
  let s1 := logRepair 3 e 0 (s.modEngine e (fun x => { x with
    state := 1, since := s.time.tick, passed := true, tested := s.time.time64 / secondTicks % 2 ^ 32 }))
  if s1.sparesLeft k = 2 then
    endCondition 12 [k] (s1.modCluster k (fun c => { c with rotationStopped := false }))
  else s1

/-! ## Engine tests -/

/-- Tests of an engine test whose signature is unequal to its golden value (R386, R394); a test that leaves no response
fails. -/
def State.mismatches (s : State) (rs : List Response) : List Nat :=
  engineTests.filter (fun t => match s.golden t 0 with
    | none => false
    | some g => match rs.find? (fun x => x.test == t) with
      | some x => decide (signatureOf x.words ≠ g)
      | none => true)

/-- Puts a spare that still has other microcode under test, with the microcode being installed, while the other spare of
its cluster stays ready (R380, R460). -/
def loadNext (k : Nat) (s : State) : State :=
  let spares := (enginesOf k).filter s.readySpare
  if s.fw.switching ∧ 2 ≤ spares.length then
    match spares.find? (fun e => !s.fw.newCode.contains e) with
    | some e => s.modEngine e (fun x => { x with state := 2, since := s.time.tick, second := false })
    | none => s
  else s

/-- ENGINE_TEST_COMPLETE (R381, R386). A test without a golden value is not run: an engine whose other tests pass has then
neither passed nor failed its engine test, and stays under test (R395; notes/assumptions/19). -/
def engineTestComplete (e : Nat) (rs : List Response) (s : State) : State :=
  if (s.engine e).state ≠ 2 then s
  else
    let bad := s.mismatches rs
    if bad.isEmpty && !s.enginesTestable then s
    else if bad.isEmpty then
      let s1 := (s.modEngine e (fun x => { x with
        state := 1, since := s.time.tick, second := false, passed := true,
        tested := s.time.time64 / secondTicks % 2 ^ 32 })).bump Code.enginePasses 0
      let s2 := if s.fw.switching then { s1 with fw := { s1.fw with newCode := addTo e s1.fw.newCode } } else s1
      loadNext (e / 18) (clearBad 4 (tapWord e 0) tapWords s2)
    else
      let s1 := (s.bump Code.engineFails 0).bumpBy Code.misrMismatches 0 bad.length
      if (s.engine e).second then recordFailed e (bad.headD 0) s1
      else s1.modEngine e (fun x => { x with second := true, passed := false })

/-! ## Migration -/

/-- Whether a port's boundary at the end of the present cycle lies inside its beacon window (R384). -/
def State.beaconBoundary (s : State) (p : Nat) : Bool := decide (2 ≤ (s.port p).beaconLeft)

/-- A spare for a failing engine's port at the next boundary: the ready one, or, where another engine of the cluster fails
in the same cycle, the one under test, in its first run or its second, whose test is aborted (R387, R402). -/
def State.rescue (s : State) (k e : Nat) : Option Nat :=
  match s.spareFor k with
  | some y => some y
  | none =>
    if (enginesOf k).any (fun x => decide (x ≠ e) && (s.engine x).failing && (s.engine x).target.isSome) then
      (enginesOf k).find? (fun x => decide ((s.engine x).state = 2))
    else none

/-- Arranges the failure migration of an engine that serves a port (R387, R402). -/
def planRescue (e : Nat) (s : State) : State :=
  if (s.engine e).target.isSome then s
  else
    match s.rescue (e / 18) e with
    | some y => planMigration e y false s
    | none => s

/-- The copy of a port's tap store from engine X to engine Y, word by word (R382, R387). What a store holds belongs to the port
it serves: words 0–95 are the 384 echo-canceller taps, four to a word (DESIGN CHOICE, notes/assumptions/19), and stand in
`TrunkSt.ech`. A word that meets a double-bit error raises SRAM-uncorrectable with X as master, brings no data, and is 0 in
Y, so its taps are 0; words that X's store has had marked bad fail again. Every word of Y is written. -/
def copyTaps (p x y : Nat) (badWords : List Nat) (s : State) : State :=
  let bad := (List.range tapWords).filter (fun w => badWords.contains w || s.isBad 4 (tapWord x w))
  let s1 := forAll (bad.filter (fun w => !s.isBad 4 (tapWord x w))) (fun w t =>
    sramUncorrectable 4 (tapWord x w) accRead (masterEngine x) t) s
  let s2 := s1.modTrunk p (fun t => { t with ech := t.ech.mapIdx (fun i c => if bad.contains (i / 4) then 0 else c) })
  clearBad 4 (tapWord y 0) tapWords (s2.modEngine y (fun e => { e with zeroed := bad }))

/-- MIGRATION (R382–R387, R402): at the end of the cycle the port moves to the engine arranged for it. Only a failure
migration takes place inside a beacon window, whose beacon is then cut off. A CRC-32 that differs makes the copy run once
more. On a trunk port the new engine loads drop context 1. -/
def migration (p : Nat) (crcEqual : Bool) (badWords : List Nat) (s : State) : State :=
  let x := s.engineFor p
  match (s.engine x).target with
  | none => s
  | some y =>
    let failed := (s.engine x).failing
    if (s.beaconBoundary p && !failed) || (s.port p).stopped then s
    else
      let s1 := s.modPort p (fun z => { z with
        movedTo := if y = engineOf p then none else some y
        beaconCut := z.beaconCut || s.beaconBoundary p })
      let c1 := copyTaps p x y badWords s1
      let c2 := if crcEqual then c1 else copyTaps p x y badWords c1
      let s2 := (c2.modEngine x (fun e => { e with
        state := 2, since := s.time.tick, second := false, failing := false, target := none, rotating := false,
        zeroed := [] })).modEngine y (fun e => { e with state := 0, since := s.time.tick })
      let s3 := (if s2.trunkOn p then trunkLoad p [] s2 else s2).bump Code.migrations p
      let s4 := if (s.engine x).rotating then s3.bump Code.rotations 0 else s3
      let s5 := if failed then s4.modCluster (clusterOf p) (fun c => { c with failMoved := true }) else s4
      if (s5.engine y).failing then planRescue y s5 else s5

/-! ## Rotation -/

/-- The cluster that is due for rotation in a second (R385). -/
def State.rotationDue (s : State) (second : Nat) : Option Nat :=
  let i := s.regN Code.rotationInterval 0
  (List.range 9).find? (fun k => decide (second % i = k * i / 9))

/-- ROTATION_NEXT 7C00.04: the cluster of the next due second after the present one (R377, R385). -/
def State.rotationNext (s : State) : Nat :=
  let now := s.time.time64 / secondTicks
  let i := s.regN Code.rotationInterval 0
  let r := now % i
  ((List.range 9).find? (fun k => decide (r < k * i / 9))).getD 0

/-- Whether a rotation of a cluster may start (R47, R380, R385, R395, R399, R460). -/
def State.canRotate (s : State) (k : Nat) : Bool :=
  s.regB Code.rotationEnable 0 && !s.mgmt.mcReset && !s.fw.switching && s.enginesTestable && decide (s.test.fullState ≠ 1) &&
    decide (s.sparesLeft k = 2) && !(s.cluster k).rotationStopped && decide ((s.cluster k).state ≤ 1) &&
    !(s.cluster k).failMoved && !(enginesOf k).any (fun e => (s.engine e).failing)

/-- Rotation at a datum (R385): the engine that has served longest is released at the end of the cycle that begins now,
but for one whose port lies in a beacon window there. -/
def rotate (k second : Nat) (s : State) : State :=
  if s.canRotate k then
    let inBeacon := fun (p : Nat) => decide (s.regN Code.portMode p = 1) && s.beaconSecond p second &&
      decide (2 ≤ beaconCycles s.time.n)
    let es := (portsOf k).filterMap (fun p =>
      if inBeacon p || (s.port p).stopped || (s.engine (s.engineFor p)).target.isSome then none else some (s.engineFor p))
    match s.longest (sortBy (fun a b => decide (a ≤ b)) es), s.spareFor k with
    | some x, some y => planMigration x y true s
    | _, _ => s
  else s

/-- ROTATION_DUE at a datum (R385). -/
def rotationDatum (second : Nat) (s : State) : State :=
  match s.rotationDue second with
  | some k => rotate k second s
  | none => s

/-! ## Failing engines -/

/-- ENGINE_FAILING (R48, R387, R402): a double-bit error of its tap store, or a command not acknowledged. A rotation due in
the same cycle is skipped, but for one whose new engine is the failing one: that migration is finished, and R387 then applies
to the new engine. -/
def engineFailing (e : Nat) (f : EngineFault) (s : State) : State :=
  let st := (s.engine e).state
  if st ≠ 0 ∧ st ≠ 3 then s
  else
    let p := (s.portServed e).getD ((portsOf (e / 18)).find? (fun q => (s.engine (s.engineFor q)).target = some e) |>.getD 0)
    let s1 := match f with
      | .tapStore w => sramUncorrectable 4 (tapWord e w) accRead (masterEngine e) s
      | .hang => fault 10 [e] [(1, e), (1, p)] s
    let s2 := s1.modEngine e (fun x => { x with failing := true })
    let s3 := forAll (enginesOf (e / 18)) (fun x t =>
      if x = e ∨ (t.engine x).target = some e then t else cancelRotation x t) s2
    if st = 0 then planRescue e (s3.modEngine e (fun x => { x with rotating := false })) else s3

/-- Stops a port that has no engine, or no converter half, left (R388, R397, R403 source 9). -/
def stopForEngine (p : Nat) (s : State) : State :=
  let e := s.engineFor p
  let s1 := (leaveSteep p s).modPort p (fun x => { x with
    stopped := true, onLine := [], beaconCut := x.beaconCut || decide (x.beaconLeft ≠ 0),
    rx := { x.rx with state := .off, span := .off, header := none } })
  portLost p (fault 9 [p] [(1, p), (1, e)] s1)

/-- ENGINE_EXHAUSTED (R388): with no ready spare the port stops at the next boundary, and its engine is tested. -/
def engineExhausted (p : Nat) (s : State) : State :=
  let e := s.engineFor p
  if (s.engine e).failing ∧ (s.engine e).target = none ∧ (s.port p).stopped = false then
    stopForEngine p (s.modEngine e (fun x => { x with state := 2, since := s.time.tick, second := false, failing := false }))
  else s

/-- A stopped port resumes at a cycle boundary with a ready spare of its cluster (R388). A port without a converter half
stays stopped until a start-up check (R397). -/
def resumePort (p : Nat) (s : State) : State :=
  if (s.port p).stopped ∧ (s.port p).trav.halves ≠ 0 then
    match s.spareFor (clusterOf p) with
    | some y =>
      endCondition 9 [p]
        (((s.modPort p (fun x => { x with stopped := false, movedTo := if y = engineOf p then none else some y })).modEngine
          y (fun e => { e with state := 0, since := s.time.tick })).bump Code.migrations p)
    | none => s
  else s

/-- A port that is off loses its engine, which has been recorded failed: a ready spare takes its place; without one the port has
none when it is turned on (R381, R388, R400). -/
def replaceEngine (p : Nat) (s : State) : State :=
  match s.spareFor (clusterOf p) with
  | some y =>
    (s.modPort p (fun x => { x with movedTo := if y = engineOf p then none else some y })).modEngine y
      (fun e => { e with state := 0, since := s.time.tick })
  | none => s.modPort p (fun x => { x with stopped := true })

/-- The engine of a port that has been turned off is free for a stopped port of its cluster once it passes its test
(R388). -/
def freeEngine (p : Nat) (s : State) : State :=
  let k := clusterOf p
  let needs := (portsOf k).any (fun q => (s.port q).stopped && decide (s.regN Code.portMode q ≠ 0))
  if needs ∧ (s.port p).stopped = false ∧ (s.spareFor k).isNone then
    (s.modPort p (fun x => { x with stopped := true })).modEngine (s.engineFor p) (fun e => { e with state := 2, since := s.time.tick, second := false })
  else s

/-! ## Engine assignment after a reset -/

/-- The engines that the repair log, with the entries on their way to it, records as failed: the last entry of an engine decides (R41, R453). -/
def State.loggedFailed (s : State) : List Nat :=
  ((s.nvm.log ++ s.nvm.toLog).filter (fun r => r.good)).foldl (fun fs r => if r.kind = 1 then addTo r.unit fs else if r.kind = 3 then dropFrom r.unit fs else fs) []

/-- Assigns the engines of a cluster after a reset (R41): failed ones are left out and the next ones in ascending order
take their places. A port for which none is left stops under R388. -/
def assignEngines (k : Nat) (s : State) : State :=
  let failed := s.loggedFailed
  let left := (enginesOf k).filter (fun e => !failed.contains e)
  let s1 := forAll (enginesOf k) (fun e t =>
    let place := left.findIdx (fun x => decide (x = e))
    t.modEngine e (fun x => { x with
      state := if failed.contains e then 4 else if place < 16 then 0 else 1, passed := !failed.contains e,
      since := s.time.tick })) s
  let s2 := forAll (span 0 16) (fun i t =>
    let p := 16 * k + i
    match left[i]? with
    | some e => t.modPort p (fun x => { x with movedTo := if e = engineOf p then none else some e, stopped := false })
    | none =>
      if (t.port p).stopped then t
      else fault 9 [p] [(1, p), (1, engineOf p)] (t.modPort p (fun x => { x with stopped := true }))) s1
  if s2.sparesLeft k < 2 ∧ (s2.cluster k).rotationStopped = false then
    fault 12 [k] [(1, k), (1, s2.sparesLeft k)] (s2.modCluster k (fun c => { c with rotationStopped := true }))
  else s2

/-! ## Hitless update -/

/-- Whether every port of a cluster runs the microcode being installed, or the update of the cluster has stopped at one
spare (R460). -/
def State.clusterUpdated (s : State) (k : Nat) : Bool :=
  decide (s.sparesLeft k < 2) || (portsOf k).all (fun p => (s.port p).stopped || s.fw.newCode.contains (s.engineFor p))

/-- FW_UPDATE_MIGRATION (R384, R460): at the paced boundary a port moves to a ready spare with the new microcode, once the
engine released before has passed its test. -/
def fwUpdateMigration (k : Nat) (s : State) : State :=
  let at_ := Tab.get s.fw.paced k 0
  let busy := (enginesOf k).any (fun e => decide ((s.engine e).state = 2) || decide ((s.engine e).state = 3))
  if s.fw.switching ∧ (s.cluster k).state ≤ 1 ∧ at_ ≤ s.time.tick ∧ busy = false ∧ s.sparesLeft k = 2 then
    let p := (portsOf k).find? (fun q => !s.fw.newCode.contains (s.engineFor q) && !s.beaconBoundary q && !(s.port q).stopped &&
      !(s.engine (s.engineFor q)).failing)
    let y := s.longest ((enginesOf k).filter (fun e => s.readySpare e && s.fw.newCode.contains e))
    match p, y with
    | some q, some e =>
      let s1 := planMigration (s.engineFor q) e false s
      { s1 with fw := { s1.fw with paced := Tab.put s1.fw.paced k (s.time.tick + 250 * milliTicks) } }
    | _, _ => s
  else s

/-! ## Commands -/

/-- MIGRATION. -/
def execMigration (port : Nat) (crcEqual : Bool) (badWords : List Nat) (s : State) : Host.Outcome State Fault Refusal :=
  run (atPort port (migration port crcEqual badWords)) s
/-- ENGINE_TEST_COMPLETE. -/
def execEngineTestComplete (engine : Nat) (responses : List Response) (s : State) : Host.Outcome State Fault Refusal :=
  run (if engine < 162 then engineTestComplete engine responses else id) s
/-- ENGINE_FAILING. -/
def execEngineFailing (engine : Nat) (fault : EngineFault) (s : State) : Host.Outcome State Fault Refusal :=
  run (if engine < 162 then engineFailing engine fault else id) s
/-- ENGINE_EXHAUSTED. -/
def execEngineExhausted (port : Nat) (s : State) : Host.Outcome State Fault Refusal := run (atPort port (engineExhausted port)) s
/-- FW_UPDATE_MIGRATION. -/
def execFwUpdateMigration (cluster : Nat) (s : State) : Host.Outcome State Fault Refusal :=
  run (atCluster cluster (fwUpdateMigration cluster)) s

end Sys2Proof.Machine
end

