-- ==== Sys2Proof/Machine/SelfTest.lean ====
section
/-! DEFINITION. Self-tests and losses (R38, R43, R48, R49, R389–R401, R403): slice tests, the patrol scrubber, converter
calibration, lost clusters, line shorts, the full array self-test and the start-up check. -/

namespace Sys2Proof.Machine

/-! ## Slice tests -/

/-- Slices of a memory with a tester (R389). -/
def sliceCount (m : Mem) : Nat :=
  match m with
  | .cells => 4096
  | .buffers => 2304
  | .contexts => 576
  | _ => 0

/-- The test id of a memory's slices (R394). -/
def sliceTest (m : Mem) : Nat :=
  match m with
  | .cells => 0x10
  | .buffers => 0x11
  | .contexts => 0x12
  | _ => 0x13

/-- The tester of a memory (R389). -/
def State.tester (s : State) (m : Mem) : TesterSt :=
  match m with
  | .cells => s.test.cells
  | .buffers => s.test.buffers
  | .contexts => s.test.contexts
  | _ => {}

/-- Changes the tester of a memory. -/
def State.modTester (s : State) (m : Mem) (f : TesterSt → TesterSt) : State :=
  match m with
  | .cells => { s with test := { s.test with cells := f s.test.cells } }
  | .buffers => { s with test := { s.test with buffers := f s.test.buffers } }
  | .contexts => { s with test := { s.test with contexts := f s.test.contexts } }
  | _ => s

/-- Whether a load or a write-back of a drop's context falls due within the next 25 µs under the slot map: from the load, 10
ticks before the slot, to the slot's end, in this cycle or the next. A trunk port reads and writes context 1 from before
each cycle up to its traverse window (R141, R143, R165, R390). -/
def State.ctxDue (s : State) (p d : Nat) : Bool :=
  let pos := s.cyclePos
  let l := s.cycleTicks
  if s.time.running = false ∨ (s.port p).started = false then false
  else if s.isTrunk p then s.trunkOn p && decide (d = 1) && (decide (pos + (s.port p).latch.t < l) || decide (l ≤ pos + 250))
  else
    (s.port p).map.slots.any (fun sl => sl.drop == d &&
      ((decide (sl.cycle = s.cycleNow % (s.port p).map.period) && decide (sl.start ≤ pos + 260) &&
          decide (pos ≤ sl.start + sl.len)) ||
       (decide (sl.cycle = s.numberOf (s.time.cycles + 1) % (s.port p).map.period) && decide (l + sl.start ≤ pos + 260))))

/-- Whether the next slice of a memory lies in its idle window, as far as the slot map tells: for a drop-context slice, whose 8
contexts follow one another, none of them is due (R139, R390). -/
def State.sliceIdle (s : State) (m : Mem) : Bool :=
  match m with
  | .contexts => (span (8 * (s.tester m).slice) 8).all (fun c => !s.ctxDue (c / 32) (c % 32 + 1))
  | _ => true

/-- SLICE_TEST_START (R389–R391, R395, R399): the next slice of a memory is saved and its test begins. -/
def sliceTestStart (m : Mem) (s : State) : State :=
  let x := s.tester m
  let rested := match x.abortAt with
    | none => true
    | some t => s.elapsed t milliTicks
  if sliceCount m ≠ 0 ∧ s.regB Code.sliceTestEnable 0 ∧ s.test.fullState ≠ 1 ∧ x.running = false ∧ rested = true ∧
      (s.golden (sliceTest m) 0).isSome ∧ s.sliceIdle m = true then
    s.modTester m (fun y => { y with running := true })
  else s

/-- SLICE_TEST_ABORT (R391, R392): the slice is restored and tried again later; 16 aborts in a row are reported. -/
def sliceTestAbort (m : Mem) (s : State) : State :=
  let x := s.tester m
  if x.running then
    let s1 := (s.modTester m (fun y => { y with
      running := false, abortAt := some s.time.tick, aborts := if x.aborts + 1 < 16 then x.aborts + 1 else 0 })).bump
        Code.sliceAborts 0
    if x.aborts + 1 < 16 then s1
    else fault 16 [memCode m, x.slice] [(1, memCode m), (2, x.slice)] (s1.bump Code.slicesStarved 0)
  else s

/-- The unit of a slice in a repair log entry: memory code in the lowest byte, slice above it (R453; DESIGN CHOICE,
notes/assumptions/17). -/
def sliceUnit (code slice : Nat) : Nat := code + 256 * slice

/-- What a double-bit error in a word of a shared memory makes the management controller do besides the fault (R219, R259,
R402). -/
def wordFailed (m : Mem) (word : Nat) (s : State) : State :=
  match m with
  | .contexts => ctxWordFailed word s
  | .buffers => bufferWordFailed word s
  | _ => s

/-- Moves a slice that has failed to a free spare slice; without one it stays in service (R393, R403 sources 14, 15). A spare
that it has used before is bad. Words
that the copy cannot correct stay marked bad; the requesting master is the management controller, which copies (R376 has no
code for a tester: DESIGN CHOICE, notes/assumptions/19). -/
def repairSlice (m : Mem) (slice : Nat) (badWords : List Nat) (s : State) : State :=
  let code := memCode m
  let x := s.tester m
  match (List.range 16).find? (fun n => !x.remap.any (fun r => r.2 == n) && !x.badSpares.contains n) with
  | some n =>
    let s1 := s.modTester m (fun y => { y with
      remap := y.remap.filter (fun r => r.1 != slice) ++ [(slice, n)]
      badSpares := ((y.remap.filter (fun r => r.1 == slice)).map (fun r => r.2)).foldl (fun t q => addTo q t) y.badSpares
      failedOnce := dropFrom slice y.failedOnce })
    let s2 := forAll (badWords.filter (fun w => !s.isBad code w)) (fun w t => wordFailed m w (sramUncorrectable code w accRead masterMc t)) s1
    fault 14 [code, slice] [(1, code), (2, slice), (2, n)] (logRepair 2 (sliceUnit code slice) n s2)
  | none => fault 15 [code] [(1, code)] s

/-- A spare slice that fails the full test is used no more; a slice that it stands in for moves to another (R393, R400). -/
def spareFails (m : Mem) (n : Nat) (s : State) : State :=
  let users := ((s.tester m).remap.filter (fun r => r.2 == n)).map (fun r => r.1)
  forAll users (fun v t => repairSlice m v [] t) (s.modTester m (fun y => { y with badSpares := addTo n y.badSpares }))

/-- A slice, or behind the last one a spare slice, that fails the full test (R393, R400). -/
def sliceFails (m : Mem) (unit : Nat) (s : State) : State :=
  if unit < sliceCount m then repairSlice m unit [] s else spareFails m (unit - sliceCount m) s

/-- SLICE_TEST_COMPLETE (R392, R393). -/
def sliceTestComplete (m : Mem) (words : List (BitVec 64)) (badWords : List Nat) (s : State) : State :=
  let x := s.tester m
  if x.running then
    let s1 := (s.modTester m (fun y => { y with
      running := false, aborts := 0, slice := (x.slice + 1) % sliceCount m })).bump Code.sliceTests 0
    if s.golden (sliceTest m) 0 = some (signatureOf words) then
      s1.modTester m (fun y => { y with failedOnce := dropFrom x.slice y.failedOnce })
    else
      let s2 := s1.bump Code.misrMismatches 0
      if x.failedOnce.contains x.slice then repairSlice m x.slice badWords s2
      else s2.modTester m (fun y => { y with failedOnce := addTo x.slice y.failedOnce })
  else s

/-- Slices of a memory as the repair log remaps them: the last entry of a slice holds, and the spares of its earlier ones are
bad (R41, R393, R453). -/
def loadRemaps (m : Mem) (s : State) : State :=
  let code := memCode m
  let maps := (s.nvm.log.filter (fun r => r.good && r.kind == 2 && r.unit % 256 == code)).map (fun r => (r.unit / 256, r.spare))
  let now := maps.foldl (fun t r => t.filter (fun q => q.1 != r.1) ++ [r]) []
  s.modTester m (fun y => { y with
    remap := now, badSpares := ((maps.filter (fun r => !now.contains r)).map (fun r => r.2)).eraseDups })

/-! ## Scrubber -/

/-- PATROL_SCRUB (R48, R49, R219, R259, R390): a word of one of the four shared memories is read; the slice under test is
skipped. R376 has no code for the scrubber: the requesting master is the management controller (DESIGN CHOICE,
notes/assumptions/19). -/
def patrolScrub (m : Mem) (word : Nat) (e : Ecc) (s : State) : State :=
  let scrubbed := match m with
    | .cells => true
    | .trace => true
    | .contexts => true
    | .buffers => true
    | _ => false
  let x := s.tester m
  if scrubbed = false ∨ (x.running ∧ word / 512 = x.slice) then s
  else
    match e with
    | .good => s
    | .single => sramCorrected (memCode m) s
    | .double =>
      let t := sramUncorrectable (memCode m) word accRead masterMc s
      match m with
      | .cells => rebuildCell (word / 2) t
      | _ => wordFailed m word t

/-! ## Converter halves -/

/-- Disconnects a failed converter half (R43, R224, R396, R397, R403 source 13). A port that has lost both stops at the next
cycle boundary (R388; `openPort`). -/
def loseHalf (p h : Nat) (s : State) : State :=
  let b := (s.port p).trav.halves
  if b.testBit h then
    let left := b - 2 ^ h
    let s1 := (abandonRun p (s.modTrav p (fun x => { x with halves := left }))).bump Code.halfLosses p
    fault 13 [p, h] [(1, p), (1, h)] s1
  else s

/-- Whether a converter half has failed (R396). -/
def halfBad (f : HalfFinding) : Bool :=
  decide (1000 < f.gain.natAbs) || decide (200 < f.offset.natAbs) || decide (250 < f.skew.natAbs) ||
    (decide (1024 ≤ f.unchanged) && decide (16 < f.otherSpan))

/-- CONVERTER_CALIBRATION (R396, R397). -/
def converterCalibration (k : Nat) (fs : List CalFinding) (s : State) : State :=
  if (s.cluster k).state ≤ 1 then
    forAll (fs.filter (fun f => decide (clusterOf f.port = k))) (fun f t =>
      let t1 := if halfBad f.half0 then loseHalf f.port 0 t else t
      if halfBad f.half1 then loseHalf f.port 1 t1 else t1) s
  else s

/-! ## Lost clusters -/

/-- Declares a cluster lost (R38, R39, R403 source 7): causes 1 link, 2 PLL, 3 start-up check. A wake under way ends with
it. -/
def clusterLost (k cause : Nat) (s : State) : State :=
  let s0 := if (s.cluster k).state = 3 then
      modLedger k (fun l => { l with exit := 0, flags := l.flags ||| 2, opened := false }) s else s
  let s1 := (clusterGone k s0).modCluster k (fun c => { c with state := 4, step := 0, acked := false, heatRestart := false })
  fault 7 [k] [(1, k), (1, cause)] s1

/-- Whether a cluster's link and PLL run: from its start-up check or step 4 of a wake to the next stop (R38, R398, R429,
R446). -/
def State.linkRuns (s : State) (k : Nat) : Bool := (s.cluster k).linkOn

/-- CLUSTER_LINK_LOSS (R38): 4 frames in a row in error or missing. -/
def clusterLinkLoss (k : Nat) (s : State) : State :=
  if s.linkRuns k then clusterLost k 1 ((s.bump Code.clinkLosses k).bumpBy Code.clinkFrameErrors k 4) else s

/-- CLUSTER_PLL_UNLOCK (R403 source 7). -/
def clusterPllUnlock (k : Nat) (s : State) : State := if s.linkRuns k then clusterLost k 2 s else s

/-- CLUSTER_RAIL_FALL (R39, R437, R469): a fall of VDD_AFE_k, or with `line` of VDD_LINE_k, that neither Dormant, a put-down nor
heat causes: the cluster is lost, cause 1. With VDD_LINE_k the line die has no power. -/
def clusterRailFall (k : Nat) (line : Bool) (s : State) : State :=
  if s.linkRuns k then
    clusterLost k 1 (if line then s.setSensor (k + 1) { s.sensor (k + 1) with poweredAt := none } else s)
  else s

/-- LINE_SHORT (R403 source 25). -/
def lineShort (p : Nat) (s : State) : State :=
  let s1 := s.modPort p (fun x => { x with shorted := true, shortClear := 0 })
  if (s.port p).shorted then s1 else fault 25 [p] [(1, p)] s1

/-! ## Full array self-test -/

/-- A write of 1 to FULL_TEST that is accepted (R399): running slice tests are aborted. -/
def fullTestStart (s : State) : State :=
  let stop := fun (x : TesterSt) => { x with running := false }
  { s with test := { s.test with fullState := 1, fullAt := s.time.time64, cells := stop s.test.cells,
                                 buffers := stop s.test.buffers, contexts := stop s.test.contexts } }

/-- A bit field of `n` bytes. -/
def bitField (n : Nat) (bits : List Nat) : List Byte := leBytes n (bits.foldl (fun m b => m ||| 2 ^ b) 0)

/-- The failing unit of a finding, without repeats of one engine (R401). -/
def failUnit (f : UnitTest) : Nat × Nat := (if f.test ≤ 5 then 1 else f.test, f.unit)

/-- The unit field of the result record: port for a converter half (R401). -/
def recordUnit (f : UnitTest) : Nat := if f.test = 0x20 then f.unit / 2 else f.unit

/-- Units of the findings of one test. -/
def unitsOf (fs : List UnitTest) (t : Nat) : List Nat := (fs.filter (fun f => f.test == t)).map (fun f => f.unit)

/-- The die that a unit of a test lies on: die C for ids below 0020h, the line die tested otherwise (R394). -/
def dieOfUnit (x : UnitTest) : Nat :=
  if x.test < 0x20 then 0
  else if x.test = 0x20 then clusterOf (x.unit / 2) + 1
  else if x.test ≤ 0x22 then clusterOf x.unit + 1
  else x.unit + 1

/-- Whether a unit fails a test: its signature is unequal to the golden value; a test without one is not run (R394, R395). -/
def State.unitFails (s : State) (x : UnitTest) : Bool :=
  match s.golden x.test (dieOfUnit x) with
  | some g => decide (signatureOf x.words ≠ g)
  | none => false

/-- Engines with responses that pass their engine test (R386): none while a golden value of it is missing, since the test is then
not run whole (R395). -/
def State.enginesPassed (s : State) (rs : List UnitTest) : List Nat :=
  let es := ((rs.filter (fun x => decide (1 ≤ x.test) && decide (x.test ≤ 5) && decide (x.unit < 162))).map (fun x => x.unit)).eraseDups
  if s.enginesTestable then
    es.filter (fun e => !rs.any (fun x => decide (x.test ≤ 5) && decide (x.unit = e) && s.unitFails x))
  else []

/-- FULL_TEST_RESULT 7C20.03 (R401). -/
def fullResultBytes (started ended : Nat) (fs : List UnitTest) : List Byte :=
  let engines := (fs.filter (fun f => decide (f.test ≤ 5))).map (fun f => f.unit)
  let units := (fs.map failUnit).eraseDups.length
  let first : List Byte := fs.flatMap (fun f => leBytes 2 f.test ++ leBytes 2 (recordUnit f) ++ List.replicate 4 (0 : Byte) ++ leBytes 8 (signatureOf f.words))
  leBytes 8 started ++ leBytes 8 ended ++ [byteOf (if units = 0 then 1 else 2), (0 : Byte)] ++ leBytes 2 (min units 65535) ++
    bitField 24 engines ++ bitField 36 (unitsOf fs 0x20) ++ bitField 18 (unitsOf fs 0x21) ++ bitField 18 (unitsOf fs 0x22) ++
    bitField 2 (unitsOf fs 0x23 ++ unitsOf fs 0x24) ++ leBytes 4 (unitsOf fs 0x10).length ++ leBytes 4 (unitsOf fs 0x11).length ++
    leBytes 4 (unitsOf fs 0x12).length ++ leBytes 4 (unitsOf fs 0x13).length ++ bitField 2 (unitsOf fs 0x14) ++ List.replicate 8 (0 : Byte) ++
    (first ++ List.replicate 112 (0 : Byte)).take 112

/-- An engine that fails the full test is recorded; the port it served, which is off, takes a spare (R381, R400). -/
def fullEngineFails (e test : Nat) (s : State) : State :=
  if 162 ≤ e ∨ (s.engine e).state = 4 then s
  else
    let t := recordFailed e test s
    match s.portServed e with
    | some p => replaceEngine p t
    | none => t

/-- How a failing unit of the full test is handled: as R381, R396 and R393 have it, at the first failure (R400). The trace
accumulation memory has no spare slice (R389): a failing slice of it stays in service, as R393 has it. -/
def fullFail (f : UnitTest) (s : State) : State :=
  if 1 ≤ f.test ∧ f.test ≤ 5 then fullEngineFails f.unit f.test s
  else if f.test = 0x10 then sliceFails .cells f.unit s
  else if f.test = 0x11 then sliceFails .buffers f.unit s
  else if f.test = 0x12 then sliceFails .contexts f.unit s
  else if f.test = 0x13 then fault 15 [1] [(1, 1)] s
  else if f.test = 0x20 then (if f.unit < 288 then loseHalf (f.unit / 2) (f.unit % 2) s else s)
  else s

/-- FULL_TEST_COMPLETE (R381, R386, R393, R394, R396, R400, R401): every unit's signature is compared. In RETURN a recorded
engine that passes loses its record. -/
def fullTestComplete (rs : List UnitTest) (s : State) : State :=
  if s.test.fullState ≠ 1 then s
  else
    let fs := rs.filter s.unitFails
    let passed := s.enginesPassed rs
    let s1 := { s with test := { s.test with
      fullState := if fs.isEmpty then 2 else 3, fullResult := fullResultBytes s.test.fullAt s.time.time64 fs } }
    let bad := ((fs.filter (fun f => decide (f.test ≤ 5))).map (fun f => f.unit)).eraseDups
    let s2 := ((s1.bumpBy Code.enginePasses 0 passed.length).bumpBy Code.engineFails 0 bad.length).bumpBy Code.misrMismatches 0
      fs.length
    let s3 := forAll passed (fun e t =>
      if (t.engine e).state = 4 then (if t.lc = 3 then unrecord e t else t)
      else t.modEngine e (fun x => { x with passed := true, tested := t.time.time64 / secondTicks % 2 ^ 32 })) s2
    forAll fs fullFail s3

/-! ## Start-up check -/

/-- Test ids that an engine fails among some responses. -/
def State.engineBad (s : State) (rs : List UnitTest) (e : Nat) : List Nat :=
  (rs.filter (fun x => decide (1 ≤ x.test) && decide (x.test ≤ 5) && decide (x.unit = e) && s.unitFails x)).map (fun x => x.test)

/-- An engine that passes its test: it counts and is stamped (R386). -/
def enginePasses (e : Nat) (s : State) : State :=
  (s.modEngine e (fun x => { x with passed := true, tested := s.time.time64 / secondTicks % 2 ^ 32 })).bump Code.enginePasses 0

/-- An engine that fails one run of its test: the failure and its unequal signatures count (R386). -/
def engineFailsOnce (bad : List Nat) (s : State) : State :=
  (s.bump Code.engineFails 0).bumpBy Code.misrMismatches 0 bad.length

/-- The engine test of one engine at start-up, with a second run after a failure (R381, R386, R398). An engine recorded before is
tested too, and stays recorded. -/
def engineCheck (c : ClusterCheck) (e : Nat) (s : State) : State :=
  if !(c.runs.any (fun x => decide (x.test ≤ 5) && decide (x.unit = e))) then s
  else
    let bad := s.engineBad c.runs e
    if bad.isEmpty then enginePasses e s
    else
      let bad2 := s.engineBad c.again e
      if bad2.isEmpty then enginePasses e (engineFailsOnce bad s)
      else
        let t := engineFailsOnce bad2 (engineFailsOnce bad s)
        if (s.engine e).state = 4 then t else recordFailed e (bad2.headD 0) t

/-- What the start-up check of one cluster finds (R41, R394, R397, R398): halves, engines, PLL and link. A cluster that passes
comes into service at the first datum. -/
def clusterCheck (c : ClusterCheck) (s : State) : State :=
  let k := c.cluster
  let fails := c.runs.filter s.unitFails
  let s1 := forAll (portsOf k) (fun p t =>
    let bad := fun (h : Nat) => fails.any (fun x => x.test == 0x20 && x.unit == 2 * p + h)
    t.modTrav p (fun x => { x with halves := (if bad 0 then 0 else 1) + (if bad 1 then 0 else 2) })) s
  let s2 := if s1.enginesTestable then forAll (enginesOf k) (engineCheck c) s1 else s1
  let s3 := assignEngines k s2
  if fails.any (fun x => (x.test == 0x23 || x.test == 0x24) && x.unit == k) then clusterLost k 3 s3
  else s3.modCluster k (fun x => { x with state := 0, ready := true, linkOn := true })

/-- Whether a request of the start-up for a rail of a cluster is still to end (R449). -/
def State.railsPending (s : State) (k : Nat) : Bool :=
  s.power.queue.any (fun r => r.starts && clusterOfRail r.rail == some k)

/-- The start-up check of one cluster ends, once its rails have been requested and have ended; with the last cluster's the wait for
timing inputs begins (R73, R398, R449). A cluster that heat has shut down meanwhile is not checked. -/
def clusterChecked (c : ClusterCheck) (s : State) : State :=
  let k := c.cluster
  if 9 ≤ k ∨ s.railsPending k = true ∨ s.power.checked.contains k = true then s
  else
    let s1 := if (s.cluster k).state = 5 then s else clusterCheck c s
    let done := addTo k s1.power.checked
    let s2 := s1.modPower (fun x => { x with checked := done })
    if done.length = 9 then { s2 with time := { s2.time with starting := true, waitFrom := s2.time.tick } } else s2

/-- STARTUP_CHECK (R397, R398, R449): after STARTUP, before start-up has completed. -/
def startupCheck (cs : List ClusterCheck) (s : State) : State :=
  if s.power.started ∨ s.faults.started = false then s else forAll cs clusterChecked s

/-! ## Commands -/

/-- SLICE_TEST_START. -/
def execSliceTestStart (mem : Mem) (s : State) : Host.Outcome State Fault Refusal := run (sliceTestStart mem) s
/-- SLICE_TEST_ABORT. -/
def execSliceTestAbort (mem : Mem) (s : State) : Host.Outcome State Fault Refusal := run (sliceTestAbort mem) s
/-- SLICE_TEST_COMPLETE. -/
def execSliceTestComplete (mem : Mem) (words : List (BitVec 64)) (badWords : List Nat) (s : State) :
    Host.Outcome State Fault Refusal := run (sliceTestComplete mem words badWords) s
/-- CONVERTER_CALIBRATION. -/
def execConverterCalibration (cluster : Nat) (findings : List CalFinding) (s : State) : Host.Outcome State Fault Refusal :=
  run (atCluster cluster (converterCalibration cluster findings)) s
/-- PATROL_SCRUB. -/
def execPatrolScrub (mem : Mem) (address : Nat) (ecc : Ecc) (s : State) : Host.Outcome State Fault Refusal :=
  run (patrolScrub mem address ecc) s
/-- CLUSTER_LINK_LOSS. -/
def execClusterLinkLoss (cluster : Nat) (s : State) : Host.Outcome State Fault Refusal :=
  run (atCluster cluster (clusterLinkLoss cluster)) s
/-- CLUSTER_PLL_UNLOCK. -/
def execClusterPllUnlock (cluster : Nat) (s : State) : Host.Outcome State Fault Refusal :=
  run (atCluster cluster (clusterPllUnlock cluster)) s
/-- CLUSTER_RAIL_FALL. -/
def execClusterRailFall (cluster : Nat) (line : Bool) (s : State) : Host.Outcome State Fault Refusal :=
  run (atCluster cluster (clusterRailFall cluster line)) s
/-- LINE_SHORT. -/
def execLineShort (port : Nat) (s : State) : Host.Outcome State Fault Refusal := run (atPort port (lineShort port)) s
/-- CORE_PLL_UNLOCK (R403 source 1, R416). -/
def execCorePllUnlock (s : State) : Host.Outcome State Fault Refusal := run (fault 1 [] []) s
/-- FULL_TEST_COMPLETE. -/
def execFullTestComplete (results : List UnitTest) (s : State) : Host.Outcome State Fault Refusal :=
  run (fullTestComplete results) s
/-- STARTUP_CHECK. -/
def execStartupCheck (checks : List ClusterCheck) (s : State) : Host.Outcome State Fault Refusal :=
  run (startupCheck checks) s

end Sys2Proof.Machine
end

