-- ==== Sys2Proof/Machine/Firmware.lean ====
section
/-! DEFINITION. Firmware (R366, R367, R455–R461): banks, loading, the image check, the choice at boot, bars, and the
hitless update. -/

namespace Sys2Proof.Machine

/-- Changes the firmware state. -/
def State.modFw (s : State) (f : FwSt → FwSt) : State := { s with fw := f s.fw }

/-- A bank's entry of the boot record (R458). -/
def State.bankRecord (s : State) (b : Nat) : BankRecord := if b = 0 then s.aon.bank0 else s.aon.bank1
/-- Writes a bank's entry of the boot record. -/
def State.setRecord (s : State) (b : Nat) (x : BankRecord) : State :=
  { s with aon := if b = 0 then { s.aon with bank0 := x } else { s.aon with bank1 := x } }

/-! ## Images -/

/-- A little-endian field of an image (R455). -/
def imageField (bs : List Byte) (at_ n : Nat) : Nat := leVal ((bs.drop at_).take n)

/-- Whether the signature of an image verifies over the digest of header bytes 191:0 (R455). -/
def signed (bs : List Byte) : Bool :=
  Config.signatureGood (Config.sha256 (bs.take 192)) ((bs.drop 192).take 32) ((bs.drop 224).take 32)

/-- Whether an image of a stated length is valid (R455, R456). -/
def imageGood (bs : List Byte) (length : Nat) : Bool :=
  decide (256 ≤ bs.length) && decide (imageField bs 0 4 = 0x55424657) && decide (imageField bs 4 1 = 1) &&
    decide (256 + imageField bs 16 4 = length) && signed bs &&
    decide ((bs.drop 40).take 32 = Config.sha256 (bs.drop 256)) &&
    decide (imageField bs 20 1 ≤ (Config.dieStep 0).toNat / 16)

/-- Whether an image allows a hitless switch: flags[0] (R455, R459). -/
def imageHitless (bs : List Byte) : Bool := (imageField bs 5 1).testBit 0

/-! ## Erase and load -/

/-- An accepted write of FW_BANK_ERASE (R367, R458): the erase starts and ends any bar of the bank. -/
def eraseBank (b : Nat) (s : State) : State :=
  ((s.setRecord b {}).setBank b { state := 4 }).modFw (fun x => { x with update := 1 })

/-- FW_ERASE_COMPLETE (R367, R403 source 6). -/
def fwEraseComplete (verified : Bool) (s : State) : State :=
  let b := s.inactive
  if (s.bank b).state = 4 then
    if verified then (s.setBank b {}).modFw (fun x => { x with update := 0 })
    else updateFailed (nvmError 2 (bankPage b) (s.setBank b { state := 3 }))
  else s

/-- An accepted DOMAIN_WRITE_INIT of FW_IMAGE (R367). -/
def loadBegin (length : Nat) (s : State) : State :=
  (s.setBank s.inactive { state := 5 }).modFw (fun x => { x with update := 2, length := length, complete := false, held := [] })

/-- A segment of FW_IMAGE, of which two may wait for their pages (R367). -/
def loadSegment (bs : List Byte) (last : Bool) (s : State) : State :=
  s.modFw (fun x => { x with held := x.held ++ [bs], complete := x.complete || last })

/-- The early end of a load: the bank is left partial (R367). -/
def loadEnds (s : State) : State :=
  if s.fw.update = 2 ∧ s.fw.complete = false then updateFailed (s.modBank s.inactive (fun x => { x with state := 3 })) else s

/-- FW_IMAGE_CHECK (R367, R456): after the last page, the bank is set to valid or to signature failed. -/
def fwImageCheck (s : State) : State :=
  let b := s.inactive
  let img := (s.bank b).image
  if s.fw.update = 3 ∧ s.fw.complete ∧ s.fw.held = [] then
    if imageGood img s.fw.length then
      (s.setBank b { state := 1, version := imageField img 8 4, seq := imageField img 12 4, image := img }).modFw
        (fun x => { x with update := 0, complete := false })
    else updateFailed (s.setBank b { state := 2, image := img })
  else s

/-! ## Boot choice -/

/-- Of two banks the one to start: higher seq, bank 0 at equal seq (R457). -/
def State.newerBank (s : State) : Nat := if s.fw.bank0.seq < s.fw.bank1.seq then 1 else 0

/-- The bank that R457 starts: the valid one with the higher seq that is not barred; a barred one only where no other is
valid; of two valid banks that are both barred the one with the higher seq (DEDUCED, notes/assumptions/17). -/
def State.bootChoice (s : State) : Option Nat :=
  let v0 := decide (s.fw.bank0.state = 1)
  let v1 := decide (s.fw.bank1.state = 1)
  if v0 && v1 then
    (if s.aon.bank0.barred && !s.aon.bank1.barred then some 1
     else if s.aon.bank1.barred && !s.aon.bank0.barred then some 0
     else some s.newerBank)
  else if v0 then some 0 else if v1 then some 1 else none

/-- Starts the chosen bank (R366, R457). -/
def startBank (s : State) : State :=
  match s.bootChoice with
  | some b => s.modFw (fun x => { x with active := b, boot := b, booted := true })
  | none => s

/-! ## Hitless update -/

/-- The engines of a cluster that wakes or restarts load the microcode in force, or the one being installed (R460). -/
def loadsCode (k : Nat) (s : State) : State :=
  s.modFw (fun x => { x with newCode := (enginesOf k).foldl (fun es e => addTo e es) x.newCode })

/-- Clusters in service (R459, R460). -/
def State.servedClusters (s : State) : List Nat := (List.range 9).filter (fun k => decide ((s.cluster k).state ≤ 1))

/-- Begins the moves of every cluster in service to a microcode, that of the engines named being so already (R460). -/
def beginMoves (have_ : List Nat) (back : Bool) (s : State) : State :=
  let s1 := s.modFw (fun x => { x with
    switching := true, goingBack := back, newCode := have_,
    paced := (List.range 9).map (fun k => (k, s.time.tick + 500 * milliTicks)) })
  forAll s1.servedClusters loadNext s1

/-- Whether FW_SWITCH is accepted (R367, R459). -/
def State.canSwitch (s : State) : Bool :=
  let b := s.bank s.inactive
  decide (b.state = 1) && decide ((s.bank s.fw.active).seq < b.seq) && imageHitless b.image &&
    s.servedClusters.all (fun k => decide (s.sparesLeft k = 2)) && !s.commitRuns && decide (s.test.fullState ≠ 1) &&
    !s.fw.switching &&
    (List.range 9).all (fun k => decide ((s.cluster k).state ≠ 3) && !(s.cluster k).entering && !(s.cluster k).closing)

/-- An accepted FW_SWITCH (R460). -/
def fwSwitch (s : State) : State := beginMoves [] false (s.modFw (fun x => { x with update := 4 }))

/-- The old firmware moves the ports back to its own microcode (R460, R461). -/
def moveBack (s : State) : State :=
  beginMoves ((List.range 162).filter (fun e => !s.fw.newCode.contains e)) true s

/-- Place of a reset's cause in the order of R445: power-on, RESET_N, RESET_CMD 2, watchdog, RESET_CMD 1. -/
def causeRank (cause : Nat) : Nat :=
  if cause = 1 then 0 else if cause = 2 then 1 else if cause = 5 then 2 else if cause = 3 then 3 else 4

/-- Whether a reset falls together with the last one (R445). -/
def State.resetTogether (s : State) : Bool := s.time.resetAt == some s.time.tick

/-- RESET_CAUSE of a reset: of several that act at once, the one that comes first in the order (R445). -/
def State.firstCause (s : State) (cause : Nat) : Nat :=
  if s.resetTogether && decide (causeRank s.resetCause < causeRank cause) then s.resetCause else cause

/-- The always-on domain with RESETS counted: several resets at once are one (R445). -/
def State.resetCounted (s : State) : AonSt :=
  if s.resetTogether then s.aon else { s.aon with resets := min (s.aon.resets + 1) (2 ^ 32 - 1) }

/-- A reset of the management controller begins (R445, R448). -/
def controllerResets (cause : Nat) (s : State) : State :=
  { s with resetCause := s.firstCause cause
           mgmt := { s.mgmt with mcReset := true }
           time := { s.time with resetAt := some s.time.tick }
           aon := s.resetCounted }

/-- FW_UPDATE_SWITCHED (R448, R458, R460): when every cluster in service is done, the controller resets onto the new bank
and its trial begins; a move back ends without a reset. RESET_CAUSE stays, which names no such source (DEDUCED,
notes/assumptions/18). -/
def fwUpdateSwitched (s : State) : State :=
  let idle := s.servedClusters.all (fun k => s.clusterUpdated k &&
    !(enginesOf k).any (fun e => decide ((s.engine e).state = 2) || decide ((s.engine e).state = 3)))
  if s.fw.switching ∧ idle then
    if s.fw.goingBack then s.modFw (fun x => { x with switching := false, goingBack := false })
    else
      let b := s.inactive
      let s1 := s.modFw (fun x => { x with switching := false, active := b, boot := b, update := 5 })
      controllerResets s.resetCause (s1.setRecord b { s1.bankRecord b with trialFrom := some s.time.tick })
  else s

/-- FW_TRIAL_END (R458): 600 s after the switch. -/
def fwTrialEnd (s : State) : State :=
  let b := s.fw.active
  match (s.bankRecord b).trialFrom with
  | some t => if s.elapsed t (600 * secondTicks) then s.setRecord b { s.bankRecord b with trialFrom := none } else s
  | none => s

/-! ## Watchdog -/

/-- Notes a watchdog reset in the boot record and bars the bank where R458 says so; gives whether it is barred now, and
whether its trial ended so. -/
def barBank (s : State) : State × Bool × Bool :=
  let b := s.fw.active
  let r := s.bankRecord b
  let within := (s.time.tick :: r.watchdogs).filter (fun t => decide (s.time.tick ≤ t + 600 * secondTicks))
  let trial := match r.trialFrom with
    | some t => decide (s.time.tick ≤ t + 600 * secondTicks)
    | none => false
  let bar := trial || decide (3 ≤ within.length)
  (s.setRecord b { barred := r.barred || bar, trialFrom := none, watchdogs := within }, bar, trial)

/-- WATCHDOG_EXPIRY (R403 source 3, R445, R448, R458, R460, R461): the controller resets; its bank may be barred and the
other one started, and the ports move back to the microcode of the firmware that runs. It acts beside a write of RESET_CMD 1 of
the same moment. -/
def watchdogExpiry (s : State) : State :=
  if s.mgmt.mcReset && !(s.resetTogether && s.resetCause == 4) then s
  else
    let s1 := fault 3 [] [(1, s.fw.active)] (controllerResets 3 s)
    let s2 := s1.bump Code.watchdogResets 0
    if s.fw.switching ∧ s.fw.goingBack = false then moveBack (updateFailed (barBank s2).1)
    else
      let r := barBank s2
      let s3 := if r.2.2 then updateFailed r.1 else r.1
      let s4 := if r.2.1 then startBank s3 else s3
      if s4.fw.active ≠ s.fw.active then moveBack s4 else s4

/-! ## Commands -/

/-- FW_ERASE_COMPLETE. -/
def execFwEraseComplete (verified : Bool) (s : State) : Host.Outcome State Fault Refusal := run (fwEraseComplete verified) s
/-- FW_PAGE_PROGRAM. -/
def execFwPageProgram (senseMicroVolt : Nat) (s : State) : Host.Outcome State Fault Refusal :=
  run (fwPageStart senseMicroVolt) s
/-- FW_IMAGE_CHECK. -/
def execFwImageCheck (s : State) : Host.Outcome State Fault Refusal := run fwImageCheck s
/-- FW_UPDATE_SWITCHED. -/
def execFwUpdateSwitched (s : State) : Host.Outcome State Fault Refusal := run fwUpdateSwitched s
/-- FW_TRIAL_END. -/
def execFwTrialEnd (s : State) : Host.Outcome State Fault Refusal := run fwTrialEnd s
/-- WATCHDOG_EXPIRY. -/
def execWatchdogExpiry (s : State) : Host.Outcome State Fault Refusal := run watchdogExpiry s

end Sys2Proof.Machine
end

