-- ==== Sys2Proof/Machine/Lane.lean ====
section
/-! DEFINITION. What a data lane of a host link carries: sync headers, scrambling, Gray pairs, precoding and PAM4 levels, for
the transmitter and for the receiver (R298–R302, R325). -/

namespace Sys2Proof.Machine

/-! ## Scrambling (R301) -/

/-- Shifts a scrambled bit in as the newest of the last 58. -/
def shiftIn (s : BitVec 58) (b : Bool) : BitVec 58 := (s <<< 1) ||| (if b then 1#58 else 0#58)

/-- One payload bit through the scrambler x^58 + x^39 + 1 (R301). -/
def scrambleBit (s : BitVec 58) (d : Bool) : Bool × BitVec 58 :=
  let out := Bool.xor d (Bool.xor (s.getLsbD 38) (s.getLsbD 57))
  (out, shiftIn s out)

/-- One received bit through the descrambler (R301). -/
def descrambleBit (s : BitVec 58) (i : Bool) : Bool × BitVec 58 :=
  (Bool.xor i (Bool.xor (s.getLsbD 38) (s.getLsbD 57)), shiftIn s i)

/-- Bits through the scrambler, or through the descrambler. -/
def runBits (f : BitVec 58 → Bool → Bool × BitVec 58) (s : BitVec 58) (bits : List Bool) : List Bool × BitVec 58 :=
  match bits with
  | [] => ([], s)
  | b :: rest =>
    let x := f s b
    let t := runBits f x.2 rest
    (x.1 :: t.1, t.2)

/-! ## Symbols (R298, R299) -/

/-- The Gray value of a bit pair, first bit first: 00b is 0, 01b is 1, 11b is 2, 10b is 3 (R298). -/
def grayPair (a b : Bool) : Nat := if a then (if b then 2 else 3) else (if b then 1 else 0)

/-- The bit pair of a Gray value (R298). -/
def pairOf (g : Nat) : List Bool := [decide (2 ≤ g), decide (g = 1 ∨ g = 2)]

/-- The Gray values of a stream of bits, two bits each (R298). -/
def grayPairs : List Bool → List Nat
  | a :: b :: rest => grayPair a b :: grayPairs rest
  | _ => []

/-- The values that a lane sends for Gray values, from the last value sent: p = (g − p_prev) and 3 where it precodes (R299). -/
def precode (on : Bool) (prev : Nat) (gs : List Nat) : List Nat × Nat :=
  match gs with
  | [] => ([], prev)
  | g :: rest =>
    let p := if on then (g + 4 - prev % 4) % 4 else g
    let t := precode on p rest
    (p :: t.1, t.2)

/-- The Gray values that a receiver recovers from decided values: g = (p + p_prev) and 3 where it decodes (R299). -/
def unprecode (on : Bool) (prev : Nat) (ps : List Nat) : List Nat × Nat :=
  match ps with
  | [] => ([], prev)
  | p :: rest =>
    let t := unprecode on p rest
    ((if on then (p + prev) % 4 else p) :: t.1, t.2)

/-- The PAM4 level of a value: 2p − 3, negated with the invert setting (R298, R299). -/
def pam4Level (invert : Bool) (p : Nat) : Int := if invert then 3 - 2 * (p : Int) else 2 * (p : Int) - 3

/-- The value that a received level stands for (R298). -/
def pam4Value (invert : Bool) (level : Int) : Nat := (((if invert then -level else level) + 3) / 2).toNat % 4

/-! ## Blocks (R300–R302) -/

/-- The 66 bits of a block: sync header 01b for data and 10b for control, and the payload, scrambled unless it is an ALIGN
block (R300, R301). -/
def blockBits (s : BitVec 58) (k : BlockKind) (b : BitVec 64) : List Bool × BitVec 58 :=
  let payload := natBits 64 b.toNat
  match k with
  | .data => let t := runBits scrambleBit s payload; ([false, true] ++ t.1, t.2)
  | .control => let t := runBits scrambleBit s payload; ([true, false] ++ t.1, t.2)
  | .align => ([true, false] ++ payload, s)

/-- A block as a lane sends it, with the lane's TX_PRECODE and TX_INVERT: 33 levels (R298–R301). -/
def sendOnLane (tx : Bool × Bool) (c : LaneCoder) (k : BlockKind) (b : BitVec 64) : List Int × LaneCoder :=
  let x := blockBits c.scrambler k b
  let y := precode tx.1 c.prev (grayPairs x.1)
  (y.1.map (pam4Level tx.2), { scrambler := x.2, prev := y.2 })

/-- A block as a lane receives it, with RX_PRECODE and RX_INVERT: its sync header and its payload, descrambled unless the
block stands at an ALIGN position (R298–R301). -/
def receiveOnLane (rx : Bool × Bool) (c : LaneCoder) (align : Bool) (levels : List Int) : (Nat × BitVec 64) × LaneCoder :=
  let y := unprecode rx.1 c.prev (levels.map (pam4Value rx.2))
  let bits := y.1.flatMap pairOf
  let payload := bits.drop 2
  let x := if align then (payload, c.scrambler) else runBits descrambleBit c.scrambler payload
  ((bitsNat (bits.take 2), BitVec.ofNat 64 (bitsNat x.1)), { scrambler := x.2, prev := y.2 })

/-- What the two data lanes of a link have sent in one go. -/
structure LanePair where
  /-- Levels of lane 0. R298. -/
  out0 : List Int
  /-- Levels of lane 1. R298. -/
  out1 : List Int
  /-- Coder of lane 0. R299. -/
  coder0 : LaneCoder
  /-- Coder of lane 1. R299. -/
  coder1 : LaneCoder
  /-- Lane of the next numbered block. R302. -/
  next : Nat

/-- One block through a lane of the pair. -/
def LanePair.put (x : LanePair) (tx0 tx1 : Bool × Bool) (lane : Nat) (k : BlockKind) (b : BitVec 64) : LanePair :=
  if lane = 0 then
    let y := sendOnLane tx0 x.coder0 k b
    { x with out0 := x.out0 ++ y.1, coder0 := y.2 }
  else
    let y := sendOnLane tx1 x.coder1 k b
    { x with out1 := x.out1 ++ y.1, coder1 := y.2 }

/-- Blocks through the pair: numbered blocks take the lanes in turn, ALIGN blocks stand outside the numbering, the one of lane
0 first (R302). -/
def LanePair.send (tx0 tx1 : Bool × Bool) (x : LanePair) (bs : List (BlockKind × BitVec 64)) : LanePair :=
  match bs with
  | [] => x
  | (.align, b) :: rest =>
    LanePair.send tx0 tx1 (x.put tx0 tx1 (if b.toNat / 2 ^ 48 % 4 < 2 then 0 else 1) .align b) rest
  | (k, b) :: rest => LanePair.send tx0 tx1 { x.put tx0 tx1 x.next k b with next := 1 - x.next } rest

/-- Puts blocks on the lanes of a link, in place of the last group or behind it, under the lanes' transmit settings in force
(R298–R302, R307). IDLE blocks between groups are left out (notes/assumptions/17). -/
def sendBlocks (l : Link) (behind : Bool) (bs : List (BlockKind × BitVec 64)) (s : State) : State :=
  s.modLink l (fun x =>
    let set := fun (n : Nat) => (atOr x.laneSet n (false, false, false, false)).2.2
    let y := LanePair.send (set 0) (set 1)
      { out0 := if behind then x.laneOut0 else [], out1 := if behind then x.laneOut1 else [],
        coder0 := x.coder0, coder1 := x.coder1, next := x.nextLane } bs
    { x with sentBlocks := (if behind then x.sentBlocks else []) ++ bs.map (fun b => b.2),
             laneOut0 := y.out0, laneOut1 := y.out1, coder0 := y.coder0, coder1 := y.coder1, nextLane := y.next })

/-! ## The lane test (R325) -/

/-- The bit that the sequence expects after the bits before it, newest first: x^13 + x^12 + x^2 + x + 1, or x^31 + x^28 + 1
(R325). -/
def prbsNext (code : Nat) (bits : List Bool) : Bool :=
  let b := fun (i : Nat) => atOr bits (i - 1) false
  if code = 1 then Bool.xor (Bool.xor (b 13) (b 12)) (Bool.xor (b 2) (b 1)) else Bool.xor (b 31) (b 28)

/-- `n` bits of the generator's sequence after the bits before them, newest first (R325). -/
def prbsSequence (code : Nat) : Nat → List Bool → List Bool
  | 0, _ => []
  | n + 1, bits => prbsNext code bits :: prbsSequence code n ((prbsNext code bits :: bits).take 31)

/-- The bits that a PRBS generator starts behind: where its sequence stands is left open, and only the state of zeros, from which
no sequence starts, is not among them (R325; notes/assumptions/17). -/
def prbsStart (code : Nat) (s : State) : List Bool × State :=
  let bits := (List.range 31).map (fun i => decide (Config.freeValue (s.free + i) % 2 = 1))
  (if (bits.take (if code = 1 then 13 else 31)).any id then bits else true :: bits.drop 1, { s with free := s.free + 31 })

/-- 33 symbols of a lane under test, through its precoding and invert settings (R298, R325): the levels, the coder and the
generator after them. -/
def prbsOnLane (code : Nat) (tx : Bool × Bool) (c : LaneCoder) (gen : List Bool) : List Int × LaneCoder × List Bool :=
  let bits := prbsSequence code 66 gen
  let y := precode tx.1 c.prev (grayPairs bits)
  (y.1.map (pam4Level tx.2), { c with prev := y.2 }, (bits.reverse ++ gen).take 31)

/-- The IDLE block (R303). -/
def idleBlock : BitVec 64 := BitVec.ofNat 64 (0x1E * 2 ^ 56)

/-- What the lanes carry while a lane is under test: the sequence on each lane whose generator is on, an IDLE block on the other
one (R325). -/
def prbsTransmit (l : Link) (s : State) : State :=
  s.modLink l (fun x =>
    let set := fun (n : Nat) => (atOr x.laneSet n (false, false, false, false)).2.2
    let lane := fun (n : Nat) (c : LaneCoder) (gen : List Bool) =>
      let code := s.regN (laneCode l n Code.prbsGen) 0
      if code = 0 then let y := sendOnLane (set n) c .control idleBlock; (y.1, y.2, gen)
      else prbsOnLane code (set n) c gen
    let y0 := lane 0 x.coder0 x.prbs0
    let y1 := lane 1 x.coder1 x.prbs1
    { x with sentBlocks := [], laneOut0 := y0.1, laneOut1 := y1.1, coder0 := y0.2.1, coder1 := y1.2.1,
             prbs0 := y0.2.2, prbs1 := y1.2.2 })

/-! ## Pre-emphasis and swing (R294, R297) -/

/-- The taps c−1, c0 and c+1 of a lane in 1/40, from TX_PRE and TX_POST; the clock lane has none but c0 (R297). -/
def State.laneTaps (s : State) (l : Link) (lane : Nat) : Int × Int × Int :=
  if 2 ≤ lane then (0, 40, 0)
  else
    let pre : Int := s.regN (laneCode l lane Code.txPre) 0
    let post : Int := s.regN (laneCode l lane Code.txPost) 0
    (-pre, 40 - pre - post, -post)

/-- Levels through the three taps: each symbol with the one after it (c−1) and the one before it (c+1). `before` is the level
before the first; after the last one its level is held (R297; notes/assumptions/17). -/
def emphasise (taps : Int × Int × Int) (before : Int) (levels : List Int) : List Int :=
  match levels with
  | [] => []
  | x :: rest => (taps.1 * rest.headD x + taps.2.1 * x + taps.2.2 * before) :: emphasise taps x rest

/-- The differential voltage of a data lane for the last levels it sent, in 1/240 mV: a step from −3 to +3 with all taps is the
swing of 500 mVpp + 100 mVpp × TX_SWING (R294, R297). The line before the first of them is taken at its level. -/
def State.laneVolts (s : State) (l : Link) (lane : Nat) : List Int :=
  let levels := if lane = 0 then (s.link l).laneOut0 else (s.link l).laneOut1
  let swing : Int := 500 + 100 * s.regN (laneCode l lane Code.txSwing) 0
  (emphasise (s.laneTaps l lane) (levels.headD 0) levels).map (fun x => x * swing)

end Sys2Proof.Machine
end

