-- ==== Sys2Proof/Machine/OxlLink.lean ====
section
/-! DEFINITION. The host links: blocks, bring-up and loss, ALIGN and FLOW, Quiet, sending, failover and return of traffic,
link modes and the lane test (R300–R326). -/

namespace Sys2Proof.Machine

/-! ## Blocks -/

/-- The 64 payload bits of a block, byte 0 first (R300). -/
def blockOf (bs : List Byte) : BitVec 64 := BitVec.ofNat 64 (beVal ((bs ++ List.replicate 8 0).take 8))

/-- Byte `i` of a block. -/
def blockByte (b : BitVec 64) (i : Nat) : Nat := (b.toNat / 256 ^ (7 - i)) % 256

/-- The START block of a frame (R308). -/
def startBlock (f : OutFrame) : BitVec 64 :=
  let h := [byteOf (f.cls % 4 * 64 + f.epoch % 64), byteOf f.port, byteOf (f.drop % 64 * 4)] ++ beBytes 2 f.body.length ++
    [if f.copy then 1#8 else 0#8]
  blockOf ([0x78#8] ++ h ++ [(crc8 (bytesBits h)).toNat |> byteOf])

/-- The END block of a frame: CRC-32 over START bytes 1 to 6 and the body (R303, R308). -/
def endBlock (f : OutFrame) : BitVec 64 :=
  let h := [byteOf (f.cls % 4 * 64 + f.epoch % 64), byteOf f.port, byteOf (f.drop % 64 * 4)] ++ beBytes 2 f.body.length ++
    [if f.copy then 1#8 else 0#8]
  blockOf ([0xE1#8] ++ beBytes 4 (crc32 (bytesBits (h ++ f.body))).toNat)

/-- The data blocks of a body, the last one padded with zeros (R308). -/
def bodyBlocks (fuel : Nat) (bs : List Byte) : List (BitVec 64) :=
  match fuel with
  | 0 => []
  | n + 1 => if bs.isEmpty then [] else blockOf (bs.take 8) :: bodyBlocks n (bs.drop 8)

/-- The blocks of a frame: START, data, END (R308). -/
def frameBlocks (f : OutFrame) : List (BitVec 64) :=
  startBlock f :: bodyBlocks f.body.length f.body ++ [endBlock f]

/-- The blocks of a frame with their kinds: START and END are control blocks (R300, R303). -/
def framePieces (f : OutFrame) : List (BlockKind × BitVec 64) :=
  [(.control, startBlock f)] ++ (bodyBlocks f.body.length f.body).map (fun b => (.data, b)) ++ [(.control, endBlock f)]

/-- Ticks that a frame takes on the two lanes: 3.2 ns for each pair of blocks (R300, R302). -/
def frameTicks (f : OutFrame) : Nat := ceilDiv ((ceilDiv f.body.length 8 + 2) * 16) 1000

/-- The ALIGN block of a lane (R304). -/
def State.alignBlock (s : State) (l : Link) (lane count : Nat) : BitVec 64 :=
  let x := s.link l
  let up := x.state == 5 || x.state == 6
  let pre := (atOr x.laneSet lane (false, false, false, false)).2.2.1
  blockOf ([0x4B#8, byteOf (linkNo l + 2 * lane + (if up then 4 else 0) + (if pre then 8 else 0))] ++ beBytes 2 count ++
    beBytes 4 Config.serial)

/-- The FLOW block of a group of 48 ports: byte 2 bit 7 stands for its first port (R311). -/
def State.flowBlock (s : State) (g : Nat) : BitVec 64 :=
  blockOf ([0x2D#8, byteOf g] ++ beBytes 6 ((span (48 * g) 48).foldl
    (fun n p => 2 * n + (if (s.port p).flowStop then 1 else 0)) 0))

/-! ## FLOW from the device -/

/-- Sets or clears a port's FLOW bit when the free space of its transmit half crosses 8 KiB or 16 KiB; a change is to be
sent on both links (R311). -/
def flowCheck (p : Nat) (s : State) : State :=
  let free := s.txFree p
  let stop := if free < 8192 then true else if 16384 ≤ free then false else (s.port p).flowStop
  if stop = (s.port p).flowStop then s
  else
    let s1 := s.modPort p (fun x => { x with flowStop := stop })
    forAll [Link.a, Link.b] (fun l t => t.modLink l (fun x => { x with flowGroups := addTo (p / 48) x.flowGroups })) s1

/-! ## Traffic of a link -/

/-- Whether a lane of a link has its PRBS generator on (R325). -/
def State.prbsSends (s : State) (l : Link) : Bool :=
  s.regN (laneCode l 0 Code.prbsGen) 0 != 0 || s.regN (laneCode l 1 Code.prbsGen) 0 != 0

/-- Whether a lane of a link has its PRBS checker on (R325). -/
def State.prbsChecks (s : State) (l : Link) : Bool :=
  s.regN (laneCode l 0 Code.prbsCheck) 0 != 0 || s.regN (laneCode l 1 Code.prbsCheck) 0 != 0

/-- Whether a link is in use (R307, R327). -/
def State.linkOn (s : State) (l : Link) : Bool := s.regB (linkCode l Code.linkEnable) 0

/-- Whether a link's receive side is up, Quiet included (R305, R313). -/
def State.rxUp (s : State) (l : Link) : Bool := (s.link l).state == 5 || (s.link l).state == 6

/-- Whether a link is lost for traffic (R321). -/
def State.lostForTraffic (s : State) (l : Link) : Bool :=
  !s.rxUp l || decide (2 ≤ (s.link l).farDown) || s.prbsSends l || s.prbsChecks l || !s.linkOn l

/-- The fault source of a link's loss (R403). -/
def linkSource (l : Link) : Nat := 18 + linkNo l

/-- Whether a link is available: up, with no PRBS test on and LINK_ENABLE set (R321). One whose far end reports rx_up 0 is still
available, though it is lost for traffic. -/
def State.isAvailable (s : State) (l : Link) : Bool :=
  s.rxUp l && !s.prbsSends l && !s.prbsChecks l && s.linkOn l

/-- The link that carries a path; none for the SPI (R329). -/
def linkOfPath (q : Path) : Option Link :=
  match q with
  | .spi => none
  | .oxlA => some .a
  | .oxlB => some .b

/-- The management requests of a link that still wait lose their responses, as those that wait for the link do (R324). -/
def silence (l : Link) (s : State) : State :=
  { s.modLink l (fun x => { x with mgmt := [] }) with
    mgmt := { s.mgmt with waiting := s.mgmt.waiting.map (fun e =>
      if linkOfPath e.1 = some l then (e.1, { e.2 with silent := true }) else e) } }

/-- The frame that a loss has cut off: its START went out and its END did not (R322). -/
def LinkSt.cutFrame (x : LinkSt) : Option OutFrame :=
  x.inProgress.filter (fun f => decide (x.progressAt ≤ x.lostAt) && decide (x.lostAt < x.progressAt + frameTicks f))

/-- The frame in progress once other blocks follow it: gone, but for one of a lost link whose move is due (R322). -/
def LinkSt.afterFrame (x : LinkSt) : Option OutFrame := if x.moveDue then x.inProgress else none

/-- The status messages of a lost link that join the queue of the other link: those that it alone held, and those that the mode
gives to one link (R320, R322). -/
def State.statusMoves (s : State) (f : OutFrame) : Bool :=
  f.alone || match s.linkMode with
    | 0 => decide (f.port ≠ 0xFF)
    | 1 => false
    | _ => decide (f.body.head? ≠ some 8#8)

/-- Moves the frames of a lost link to the queues of the other link, in their order: a frame cut off first, again in full; data and
status behind what waits there. Open bulk requests end without a response; the host's FLOW stop carries over (R322, R324). -/
def joinQueues (lost other : Link) (s : State) : State :=
  let x := s.link lost
  let cut := if s.linkMode = 1 then [] else
    (x.cutFrame.toList.filter (fun f => decide (f.cls ≤ 1))).map (fun f => { f with copy := true })
  let s1 := s.modLink lost (fun y => { y with
    status := [], mgmt := [], data := [], bulk := [], bulkOpen := [], inProgress := none, moveDue := false,
    stopData := false, stopBulk := false })
  let s2 := s1.modLink other (fun y => { y with
    status := cut.filter (fun f => f.cls == 1) ++ y.status,
    data := cut.filter (fun f => f.cls == 0) ++ y.data ++ (if s.linkMode = 1 then [] else x.data),
    stopData := y.stopData || x.stopData, stopBulk := y.stopBulk || x.stopBulk })
  let s3 := forAll (x.status.filter s.statusMoves) (fun f t => pushStatus f other t) s2
  s3.bumpBy (linkCode other Code.copiesSent) 0 cut.length

/-- Reassigns a lost link's traffic to the other link (R322). -/
def reassign (lost : Link) (s : State) : State :=
  let o := s.oxl
  let toB := decide (lost = .a)
  match s.linkMode with
  | 0 => { s with oxl := { o with lowOnB := if s.splitLink 0 = lost then toB else o.lowOnB,
                                  highOnA := if s.splitLink 143 = lost then !toB else o.highOnA } }
  | 1 => s
  | _ => { s with oxl := { o with activeB := if s.activeLink = lost then toB else o.activeB } }

/-- The move of a lost link's traffic to the other link, where that link is available and not lost itself. Its waiting frames and open
bulk requests end with it also where no traffic is assigned to it; the count and the link events are for a move of traffic (R322,
R324; DEDUCED, notes/assumptions/17). -/
def moveLink (lost : Link) (s : State) : State :=
  let other := otherLink lost
  if (s.link lost).fit || !(s.link other).fit then s
  else if !s.assigned lost then joinQueues lost other s
  else
    let s1 := reassign lost (joinQueues lost other s)
    let s2 := s1.bump Code.linkFailovers 0
    linkEventStatus [other] other 3 (linkEventStatus [other] lost 1 s2)

/-- Takes up whether a link is lost for traffic. A loss for a reason other than a PRBS test or LINK_ENABLE raises source 18 or 19,
with LINK_STATE before the loss; any loss discards the management responses that wait, or that requests still waiting will bring; with both
links lost source 20 is raised while one is enabled. A link that is lost no more ends those conditions; it takes all traffic at once where the other link is lost, and starts its RETURN_HOLD
otherwise (R321–R324, R403). -/
def refreshLink (l : Link) (stateBefore : Nat) (s : State) : State :=
  let was := (s.link l).fit
  let now := !s.lostForTraffic l
  if was = now then s
  else if now then
    let s1 := s.modLink l (fun x => { x with fit := true, moveDue := false, holdFrom := some s.time.tick })
    let s2 := endConditions 20 (endConditions (linkSource l) s1)
    if (s2.link (otherLink l)).fit then s2 else moveLink (otherLink l) s2
  else
    let s1 := silence l (s.modLink l (fun x => { x with fit := false, moveDue := true, holdFrom := none, lostAt := s.time.tick }))
    let quietCause := s.prbsSends l || s.prbsChecks l || !s.linkOn l
    let s2 := if quietCause then s1 else fault (linkSource l) [] [(1, stateBefore)] s1
    if !(s2.link (otherLink l)).fit && (s2.linkOn .a || s2.linkOn .b) then fault 20 [] [] s2 else s2

/-! ## Receive side -/

/-- The receive settings of the lanes taken up at a bring-up, and the transmit settings at a start of the transmitter
(R307). -/
def State.laneNow (s : State) (l : Link) (lane : Nat) : Bool × Bool × Bool × Bool :=
  (s.regB (laneCode l lane Code.rxPrecode) 0, s.regB (laneCode l lane Code.rxInvert) 0,
   s.regB (laneCode l lane Code.txPrecode) 0, s.regB (laneCode l lane Code.txInvert) 0)

/-- Takes up the receive settings of both data lanes. -/
def takeRxSettings (l : Link) (s : State) : State :=
  s.modLink l (fun x => { x with laneSet := [0, 1].map (fun n =>
    let old := atOr x.laneSet n (false, false, false, false)
    let now := s.laneNow l n
    (now.1, now.2.1, old.2.2.1, old.2.2.2)) })

/-- Returns the receive side to clock search, or to disabled, or to the PRBS test (R305, R307, R325). Precoding starts anew with the
bring-up (R299). -/
def rxRestart (l : Link) (s : State) : State :=
  takeRxSettings l (s.modLink l (fun x => { x with
    state := if !s.linkOn l then 0 else if s.prbsChecks l then 7 else 1,
    alignIn := none, alignGood := 0, alignBad := 0, rxQuiet := false, rxExiting := false, farDown := 0,
    rx0 := { x.rx0 with prev := 0 }, rx1 := { x.rx1 with prev := 0 }, rxBlocks := 0, sync0 := [], sync1 := [],
    rxFrame := none, rxSkip := false }))

/-- The receive side of an up link is lost (R307). -/
def rxLost (l : Link) (s : State) : State :=
  if s.rxUp l then refreshLink l (s.link l).state ((rxRestart l s).bump (linkCode l Code.linkLosses) 0) else s

/-- LINK_CLOCK_DETECTED (R305). -/
def linkClock (l : Link) (ppm : Int) (s : State) : State :=
  if (s.link l).state = 1 ∧ ppm.natAbs ≤ 300 then s.modLink l (fun x => { x with state := 2 }) else s

/-- LINK_ADAPT_SETTLED (R305, R327). -/
def linkAdapt (l : Link) (e0 e1 : Nat) (s : State) : State :=
  if (s.link l).state = 2 then s.modLink l (fun x => { x with state := 3, eye0 := e0, eye1 := e1 }) else s

/-- LINK_BLOCK_LOCK (R305). -/
def linkLock (l : Link) (s : State) : State :=
  if (s.link l).state = 3 then
    s.modLink l (fun x => { x with state := 4, alignIn := none, alignGood := 0, laneMap := 0 })
  else s

/-- The fields of an ALIGN block (R304): link bit, lane bit, rx_up, count, sender. -/
def alignFields (b : BitVec 64) : Option (Nat × Nat × Bool × Nat × Nat) :=
  if blockByte b 0 = 0x4B then
    let f := blockByte b 1
    some (f % 2, f / 2 % 2, f.testBit 2, blockByte b 2 * 256 + blockByte b 3, b.toNat % 2 ^ 32)
  else none

/-- The lane bit that physical lane 0 must carry under a lane map (R306). -/
def laneBit0 (map : Nat) : Nat := map % 2

/-- An ALIGN pair whose link bit names the other link: state 4 stays, the mismatch is counted and reported (R306, R316, R327, R403
source 21). -/
def wiringMismatch (l : Link) (farUp : Bool) (farId : Nat) (s : State) : State :=
  let s1 := (s.modLink l (fun x => { x with laneMap := x.laneMap ||| 2, alignIn := none, alignGood := 0, farUp := farUp,
                                            farId := farId })).bump (linkCode l Code.wiringErrors) 0
  linkEventStatus s1.bothLinks l 5 (fault 21 [linkNo l] [(1, linkNo l)] s1)

/-- LINK_DESKEW (R305, R306, R316, R403 source 21). -/
def linkDeskew (l : Link) (b0 b1 : BitVec 64) (s : State) : State :=
  match alignFields b0, alignFields b1 with
  | some f0, some f1 =>
    if (s.link l).state = 4 ∧ f0.2.2.2.1 = f1.2.2.2.1 then
      if f0.1 ≠ linkNo l ∨ f1.1 ≠ linkNo l then
        wiringMismatch l f0.2.2.1 f0.2.2.2.2 s
      else if f0.2.1 = f1.2.1 then s
      else
        s.modLink l (fun x => { x with laneMap := f0.2.1, alignIn := some f0.2.2.2.1, alignGood := 0,
                                       farUp := f0.2.2.1, farId := f0.2.2.2.2 })
    else s
  | _, _ => s

/-- LINK_UP (R305, R316, R324). -/
def linkUp (l : Link) (s : State) : State :=
  if (s.link l).state = 4 ∧ 4 ≤ (s.link l).alignGood then
    let s1 := (s.modLink l (fun x => { x with state := 5, alignBad := 0 })).bump (linkCode l Code.linkUps) 0
    let s2 := refreshLink l 5 s1
    linkEventStatus s2.bothLinks l 2 s2
  else s

/-- LINK_STEP_TIMEOUT (R305): a step of bring-up has passed its limit. A receiver that has seen the other link's bit stays
where it is (R306), and the last step has no limit. -/
def linkTimeout (l : Link) (s : State) : State :=
  let x := s.link l
  if x.state = 2 ∨ x.state = 3 ∨ (x.state = 4 ∧ x.alignIn = none ∧ x.laneMap < 2) then rxRestart l s else s

/-- LINK_LOSS (R307). An idle clock is no loss in Quiet. -/
def linkLoss (l : Link) (cause : LossCause) (s : State) : State :=
  match cause with
  | .clockIdle => if (s.link l).state = 5 then rxLost l s else s
  | .syncHeaders n =>
    if s.rxUp l then
      let s1 := s.bumpBy (linkCode l Code.syncErrors) 0 n
      if 16 ≤ n then rxLost l s1 else s1
    else s
  | .alignMissing => rxLost l s
  | .alignCount => if 2 ≤ (s.link l).alignBad then rxLost l s else s

/-- A write of 1 to RETRAIN 6000.08 (R307). -/
def oxlRetrain (l : Link) (s : State) : State :=
  if s.rxUp l then rxLost l s else if s.linkOn l then rxRestart l s else s

/-- ALIGN (R304, R305, R307, R313, R314, R321): a pair of ALIGN blocks comes in. -/
def alignIn (l : Link) (b0 b1 : BitVec 64) (s : State) : State :=
  match alignFields b0, alignFields b1 with
  | some f0, some f1 =>
    let x := s.link l
    let lane := laneBit0 x.laneMap
    let bits := decide (f0.1 = linkNo l) && decide (f1.1 = linkNo l) && decide (f0.2.1 = lane) &&
      decide (f1.2.1 = 1 - lane) && decide (f0.2.2.2.1 = f1.2.2.2.1)
    let good := bits && decide (x.alignIn.map (fun c => (c + 1) % 65536) = some f0.2.2.2.1)
    let s1 := fun (st : Nat) => s.modLink l (fun y => { y with
      state := st, alignIn := some f0.2.2.2.1, farUp := f0.2.2.1, farId := f0.2.2.2.2,
      farDown := if f0.2.2.1 then 0 else y.farDown + 1, rxQuiet := false, rxExiting := false,
      alignGood := if good then y.alignGood + 1 else 0, alignBad := if good then 0 else y.alignBad + 1 })
    if x.state = 4 ∧ x.alignIn.isSome = true then
      (if f0.1 = linkNo l ∧ f1.1 = linkNo l then s1 4 else wiringMismatch l f0.2.2.1 f0.2.2.2.2 s)
    else if x.state = 5 then refreshLink l 5 (s1 5)
    else if x.state = 6 ∧ good = true then refreshLink l 6 (s1 5)
    else s
  | _, _ => s

/-! ## Transmit side -/

/-- A write of LINK_ENABLE (R307, R321): the transmitter starts and bring-up begins, or every lane goes to electrical
idle. The first link that is enabled with both links lost makes the host unreachable (R403 source 20). -/
def linkEnable (l : Link) (s : State) : State :=
  let st := (s.link l).state
  if s.linkOn l then
    if st = 0 then
      let s1 := (rxRestart l s).modLink l (fun x => { x with
        tx := if s.prbsSends l then 3 else 1, idleFrom := s.time.tick, alignAt := none,
        laneSet := [s.laneNow l 0, s.laneNow l 1],
        coder0 := { x.coder0 with prev := 0 }, coder1 := { x.coder1 with prev := 0 }, nextLane := 0 })
      if (s.link (otherLink l)).state = 0 then fault 20 [] [] s1 else s1
    else s
  else
    refreshLink l st ((rxRestart l s).modLink l (fun x => { x with tx := 0, sentBlocks := [], laneOut0 := [], laneOut1 := [] }))

/-- The first check of source 18 or 19 after start-up: raised afresh where a device-scope reset found its condition held and the link
is still lost (R418). -/
def recheckLink (l : Link) (s : State) : State :=
  if s.faults.recheck.contains (linkSource l) then
    let t := { s with faults := { s.faults with recheck := dropFrom (linkSource l) s.faults.recheck } }
    if s.linkOn l && !(s.link l).fit then fault (linkSource l) [] [(1, (s.link l).state)] t else t
  else s

/-- Whether a frame or a FLOW block waits on a link (R313). -/
def LinkSt.waits (x : LinkSt) : Bool :=
  !x.status.isEmpty || !x.mgmt.isEmpty || !x.data.isEmpty || !x.bulk.isEmpty || !x.flowGroups.isEmpty

/-- The next data frame in turn by port, after the port served last (R312). -/
def LinkSt.nextData (x : LinkSt) : Option OutFrame :=
  (List.range 144).findSome? (fun i => x.data.find? (fun f => f.port == (x.lastPort + 1 + i) % 144))

/-- Takes the next frame from the first non-empty queue in the order status, management, data, bulk (R311, R312). -/
def LinkSt.takeFrame (x : LinkSt) : Option (OutFrame × LinkSt) :=
  match x.status with
  | f :: rest => some (f, { x with status := rest })
  | [] =>
    match x.mgmt with
    | f :: rest => some (f, { x with mgmt := rest })
    | [] =>
      match (if x.stopData then none else x.nextData) with
      | some f => some (f, { x with data := x.data.erase f, lastPort := f.port })
      | none =>
        match (if x.stopBulk then [] else x.bulk) with
        | f :: rest => some (f, { x with bulk := rest })
        | [] => none

/-- Pairs of IDLE blocks. -/
def idlePairs (n : Nat) : List (BlockKind × BitVec 64) := List.replicate (2 * n) (.control, idleBlock)

/-- FRAME_TRANSMIT (R302, R308, R311, R312, R325): the changed FLOW groups, then the next frame; without either, an IDLE pair. Frames
for the host wait while the link is lost for traffic (R324). With a lane under test the lanes carry the sequence. -/
def frameTransmit (l : Link) (s : State) : State :=
  let x := s.link l
  if x.tx = 3 then prbsTransmit l s
  else if x.tx ≠ 1 then s
  else
    let flow := x.flowGroups.map (fun g => (BlockKind.control, s.flowBlock g))
    let s1 := (sendBlocks l false flow s).modLink l (fun y => { y with
      flowGroups := [], inProgress := y.afterFrame,
      idleFrom := if x.flowGroups.isEmpty then y.idleFrom else s.time.tick })
    match (if x.fit then (s1.link l).takeFrame else none) with
    | none => if flow.isEmpty then sendBlocks l false (idlePairs 1) s1 else s1
    | some (f, y) =>
      (sendBlocks l true (framePieces f) (s1.setLink l { y with
        inProgress := some f, progressAt := s.time.tick, idleFrom := s.time.tick })).bump (linkCode l Code.framesOut) 0

/-- Sends blocks and then an ALIGN pair with the next count, both of its blocks at one time: a pair of numbered blocks that is half
out is filled up with IDLE first (R302, R304). The schedule of ALIGN pairs goes on from it (R314). -/
def sendAlign (l : Link) (before : List (BlockKind × BitVec 64)) (s : State) : State :=
  let c := ((s.link l).alignOut + 1) % 65536
  let fill := if (s.link l).nextLane = 1 then [(BlockKind.control, idleBlock)] else []
  (sendBlocks l false (fill ++ before ++ [(.align, s.alignBlock l 0 c), (.align, s.alignBlock l 1 c)]) s).modLink l
    (fun x => { x with alignOut := c, alignAt := some s.time.tick })

/-- The three FLOW groups, which follow every ALIGN pair (R311). A group that waited has waited until now (R313). -/
def sendFlow (l : Link) (s : State) : State :=
  (sendBlocks l true ([0, 1, 2].map (fun g => (.control, s.flowBlock g))) s).modLink l (fun x => { x with
    flowGroups := [], idleFrom := if x.flowGroups.isEmpty then x.idleFrom else s.time.tick })

/-- Whether the schedule asks for an ALIGN pair: 16,384 blocks per lane after the last one, 52.4 µs (R302). -/
def State.alignDue (s : State) (l : Link) : Bool :=
  match (s.link l).alignAt with
  | none => true
  | some t => s.elapsed t 524

/-- ALIGN_TRANSMIT (R302, R304, R311): an ALIGN pair when it is due, then all three FLOW groups. -/
def alignTransmit (l : Link) (s : State) : State :=
  if (s.link l).tx = 1 ∧ s.alignDue l = true then sendFlow l (sendAlign l [] s) else s

/-- FLOW from the host (R311). -/
def flowIn (l : Link) (b : BitVec 64) (s : State) : State :=
  if (s.link l).state = 5 ∧ blockByte b 0 = 0x2D ∧ blockByte b 1 = 0xFF then
    s.modLink l (fun x => { x with stopData := (blockByte b 2).testBit 0, stopBulk := (blockByte b 2).testBit 1 })
  else s

/-! ## Quiet -/

/-- The QUIET block (R303). -/
def quietBlock : BitVec 64 := blockOf [0x55#8]

/-- Puts the transmit direction into Quiet, behind the blocks just sent or in their place: 4 QUIET blocks on both lanes, then
electrical idle (R313). -/
def enterQuiet (l : Link) (behind : Bool) (s : State) : State :=
  ((sendBlocks l behind (List.replicate 8 (.control, quietBlock)) s).modLink l (fun x => { x with
    tx := 2, inProgress := x.afterFrame })).bump (linkCode l Code.quietEntriesTx) 0

/-- The exit sequence of R314: IDLE blocks from 500 ns to 1,000 ns, the ALIGN pair, and its FLOW groups (R311). -/
def leaveQuiet (l : Link) (s : State) : State :=
  (sendFlow l (sendAlign l (idlePairs 156) s)).modLink l (fun x => { x with tx := 1, idleFrom := s.time.tick })

/-- QUIET_ENTRY (R313). -/
def quietEntry (l : Link) (s : State) : State :=
  let x := s.link l
  let idle := s.regN (linkCode l Code.quietIdle) 0
  if x.tx = 1 ∧ s.rxUp l = true ∧ idle ≠ 0 ∧ x.waits = false ∧ s.elapsed x.idleFrom (idle * microTicks) then enterQuiet l false s
  else s

/-- QUIET_RX_ENTRY (R313). -/
def quietRxEntry (l : Link) (s : State) : State :=
  if (s.link l).state = 5 then
    (s.modLink l (fun x => { x with state := 6, rxQuiet := true, rxExiting := false })).bump
      (linkCode l Code.quietEntriesRx) 0
  else s

/-- QUIET_EXIT (R314): the exit sequence, with its ALIGN pair. -/
def quietExit (l : Link) (s : State) : State :=
  if (s.link l).tx = 2 ∧ (s.link l).waits = true then
    leaveQuiet l s
  else s

/-- QUIET_PERIODIC_EXIT (R315): the exit, IDLE blocks for 2 µs, and Quiet again where nothing is queued. -/
def quietPeriodicExit (l : Link) (s : State) : State :=
  if (s.link l).tx = 2 then
    let s1 := sendBlocks l true (idlePairs 625) (leaveQuiet l s)
    if (s.link l).waits then s1 else enterQuiet l true s1
  else s

/-- QUIET_ACTIVITY_TIMEOUT (R315). -/
def quietActivityTimeout (l : Link) (s : State) : State :=
  if (s.link l).state = 6 ∧ (s.link l).rxExiting = false then rxLost l s else s

/-- QUIET_RX_EXIT (R314). -/
def quietRxExit (l : Link) (s : State) : State :=
  if (s.link l).state = 6 then s.modLink l (fun x => { x with rxExiting := true }) else s

/-- QUIET_EXIT_ALIGN_TIMEOUT (R314). -/
def quietAlignTimeout (l : Link) (s : State) : State :=
  if (s.link l).state = 6 ∧ (s.link l).rxExiting = true then rxLost l s else s

/-! ## Moves and returns of traffic -/

/-- LINK_TRAFFIC_MOVE (R322). -/
def linkTrafficMove (l : Link) (hostCut : Bool) (s : State) : State :=
  if (s.link l).fit then s
  else
    let s1 := if hostCut then s.bump (linkCode l Code.partialFrames) 0 else s
    moveLink l s1

/-- A link on which nothing waits any more, and where something did, has waited until now (R313). -/
def restartIdle (l : Link) (waited : Bool) (s : State) : State :=
  if waited && !(s.link l).waits then s.modLink l (fun x => { x with idleFrom := s.time.tick }) else s

/-- Carries the host's FLOW stop of one link over to the other (R324). -/
def carryStop (src dst : Link) (s : State) : State :=
  s.modLink dst (fun y => { y with stopData := y.stopData || (s.link src).stopData,
                                   stopBulk := y.stopBulk || (s.link src).stopBulk })

/-- Gives frames back to a link: those of its ports that wait on the other link, in their order; the host's FLOW stop carries over
(R323, R324). -/
def takeBack (l : Link) (mine : OutFrame → Bool) (s : State) : State :=
  let o := otherLink l
  let x := s.link o
  let s1 := s.modLink o (fun y => { y with data := y.data.filter (fun f => !mine f),
                                           status := y.status.filter (fun f => !mine f) })
  let s2 := s1.modLink l (fun y => { y with data := y.data ++ x.data.filter mine })
  restartIdle o x.waits (carryStop o l (forAll (x.status.filter mine) (fun f t => pushStatus f l t) s2))

/-- RETURN_HOLD_EXPIRY (R323). -/
def returnHoldExpiry (l : Link) (s : State) : State :=
  let hold := s.regN Code.returnHold 0
  let x := s.link l
  let ready := x.fit && decide (hold ≠ 0) && (match x.holdFrom with
    | some t => s.elapsed t (hold * secondTicks)
    | none => false)
  if !ready then s
  else
    let done := s.modLink l (fun y => { y with holdFrom := none })
    let low := decide (l = .a)
    if s.linkMode = 0 ∧ s.splitLink (if low then 0 else 143) ≠ l then
      let s1 := takeBack l (fun f => decide (f.port ≠ 0xFF) && (decide (f.port < 72) == low)) done
      let s2 := { s1 with oxl := { s1.oxl with lowOnB := if low then false else s1.oxl.lowOnB,
                                               highOnA := if low then s1.oxl.highOnA else false } }
      linkEventStatus s2.bothLinks l 4 (s2.bump Code.linkReturns 0)
    else if s.linkMode = 2 ∧ s.activeLink ≠ l ∧ s.regN Code.preferred 0 = linkNo l then
      let s1 := takeBack l (fun f => !decide (f.cls = 1 ∧ f.body.head? = some 8#8)) done
      let s2 := { s1 with oxl := { s1.oxl with activeB := !low } }
      linkEventStatus s2.bothLinks l 4 (s2.bump Code.linkReturns 0)
    else done

/-- The frames that wait for the host on either link, once each: in mirrored mode both queues hold the same (R320). -/
def State.allWaiting (s : State) (mode : Nat) (q : LinkSt → List OutFrame) : List OutFrame :=
  let a := q s.oxl.a
  let b := q s.oxl.b
  if mode = 1 then (if b.length ≤ a.length then a else b) else a ++ b.filter (fun f => !a.contains f)

/-- The link that becomes active in active/standby mode: PREFERRED, or the other link where PREFERRED is lost for traffic and that one
is not (R320, R324). -/
def State.activeChoice (s : State) : Bool :=
  let pref := decide (s.regN Code.preferred 0 = 1)
  let l := if pref then Link.b else Link.a
  if !(s.link l).fit && (s.link (otherLink l)).fit then !pref else pref

/-- Moves all waiting frames to the links that the mode in force gives them, and reports each link that now carries traffic
and did not before; to such a link the host's FLOW stop carries over (R320, R324). `before` is the state whose assignment held. -/
def redistribute (before s : State) : State :=
  let data := before.allWaiting before.linkMode (fun x => x.data)
  let status := before.allWaiting before.linkMode (fun x => x.status)
  let clear := fun (x : LinkSt) => { x with data := [], status := [], moveDue := false }
  let s1 := { s with oxl := { s.oxl with a := clear s.oxl.a, b := clear s.oxl.b } }
  let s2 := forAll data (fun f t => forAll (t.linksOfPort f.port) (pushData f) t) s1
  let s3 := forAll status (fun f t =>
    forAll (if f.body.head? = some 8#8 then t.bothLinks
            else if f.port = 0xFF then t.deviceLinks else t.linksOfPort f.port) (pushStatus f) t) s2
  let s4 := forAll [Link.a, Link.b] (fun l t => restartIdle l (s.link l).waits t) s3
  let gained := [Link.a, Link.b].filter (fun l => s4.carries l && !before.carries l)
  forAll gained (fun l t => linkEventStatus t.bothLinks l 3 (carryStop (otherLink l) l t)) s4

/-- A write of LINK_MODE (R320, R324). -/
def linkModeWritten (before s : State) : State :=
  let a := s.oxl.a.fit
  let b := s.oxl.b.fit
  redistribute before { s with oxl := { s.oxl with lowOnB := !a && b, highOnA := a && !b, activeB := s.activeChoice } }

/-- A write of PREFERRED (R320, R324). -/
def preferredWritten (before s : State) : State :=
  if s.linkMode = 2 then redistribute before { s with oxl := { s.oxl with activeB := s.activeChoice } } else s

/-- A write of 1 to FORCE_SWITCH, which is accepted only while the other link is available (R322, R324). -/
def forceSwitch (s : State) : State :=
  if s.linkMode = 2 ∧ s.isAvailable (otherLink s.activeLink) = true then
    (redistribute s { s with oxl := { s.oxl with activeB := !s.oxl.activeB } }).bump Code.linkFailovers 0
  else s

/-! ## Lane test -/

/-- One received bit through a checker: the checker, whether the bit was compared, and whether it was wrong (R325). -/
def prbsBit (code : Nat) (c : Checker) (bit : Bool) : Checker × Bool × Bool :=
  let need := if code = 1 then 13 else 31
  let bits := (bit :: c.bits).take 31
  if c.bits.length < need then ({ c with bits := bits }, false, false)
  else
    let wrong := decide (prbsNext code c.bits ≠ bit)
    if c.locked then
      let w := (wrong :: c.window).take 256
      if 64 ≤ (w.filter id).length then ({ bits := bits, good := 0, window := [], locked := false }, true, wrong)
      else ({ c with bits := bits, window := w }, true, wrong)
    else
      let g := if wrong then 0 else c.good + 1
      if 256 ≤ g then ({ bits := bits, good := 0, window := [], locked := true }, false, false)
      else ({ c with bits := bits, good := g }, false, false)

/-- Received bits through a checker, with the bits compared and the errors counted (R325). -/
def prbsRun (code : Nat) (c : Checker) (bits : List Bool) : Checker × Nat × Nat :=
  bits.foldl (fun r b =>
    let x := prbsBit code r.1 b
    (x.1, r.2.1 + (if x.2.1 then 1 else 0), r.2.2 + (if x.2.2 then 1 else 0))) (c, 0, 0)

/-- The checker of a lane. -/
def LinkSt.checker (x : LinkSt) (lane : Nat) : Checker := if lane = 0 then x.check0 else x.check1

/-- Puts the checker of a lane. -/
def LinkSt.setChecker (x : LinkSt) (lane : Nat) (c : Checker) : LinkSt :=
  if lane = 0 then { x with check0 := c } else { x with check1 := c }

/-- Adds to a 48-bit count (R325). -/
def addPrbs (code n : Nat) (s : State) : State :=
  if n = 0 then s else s.setReg code 0 (min ((s.regN code 0 + n : Nat) : Int) (2 ^ 48 - 1))

/-- PRBS_LOCK (R325): bits come in on a lane under test. -/
def prbsIn (l : Link) (lane : Nat) (bits : List Bool) (s : State) : State :=
  let code := s.regN (laneCode l lane Code.prbsCheck) 0
  if code = 0 ∨ 1 < lane ∨ s.linkOn l = false then s
  else
    let r := prbsRun code ((s.link l).checker lane) bits
    let s1 := s.modLink l (fun x => x.setChecker lane r.1)
    addPrbs (laneCode l lane Code.prbsErrors) r.2.2 (addPrbs (laneCode l lane Code.prbsBits) r.2.1 s1)

/-- A write of PRBS_GEN of a lane (R321, R325, R327): its generator starts anew. -/
def prbsGenWritten (l : Link) (lane : Nat) (s : State) : State :=
  let st := (s.link l).state
  let code := s.regN (laneCode l lane Code.prbsGen) 0
  let g := if code = 0 then ([], s) else prbsStart code s
  let s1 := g.2.modLink l (fun x => { x with
    tx := if !s.linkOn l then 0 else if s.prbsSends l then 3 else if x.tx = 3 then 1 else x.tx,
    prbs0 := if lane = 0 then g.1 else x.prbs0, prbs1 := if lane = 0 then x.prbs1 else g.1 })
  refreshLink l st s1

/-- A write of PRBS_CHECK (R321, R325, R327): the receive side leaves bring-up while a checker is on, and starts bring-up
again when the last one is turned off. -/
def prbsCheckWritten (l : Link) (lane : Nat) (s : State) : State :=
  let st := (s.link l).state
  let s1 := s.modLink l (fun x => x.setChecker lane {})
  if s.prbsChecks l then (if st = 7 then s1 else refreshLink l st (rxRestart l s1))
  else if st = 7 then refreshLink l st (rxRestart l s1)
  else s1

/-- A write of 1 to PRBS_CLEAR (R325). -/
def prbsClearWritten (l : Link) (lane : Nat) (s : State) : State :=
  (s.setReg (laneCode l lane Code.prbsBits) 0 0).setReg (laneCode l lane Code.prbsErrors) 0 0

/-! ## The commands -/

/-- LINK_CLOCK_DETECTED (R305). -/
def execLinkClockDetected (link : Link) (ppm : Int) (s : State) : Host.Outcome State Fault Refusal :=
  run (linkClock link ppm) s

/-- LINK_ADAPT_SETTLED (R305). -/
def execLinkAdaptSettled (link : Link) (eye0 eye1 : Nat) (s : State) : Host.Outcome State Fault Refusal :=
  run (linkAdapt link eye0 eye1) s

/-- LINK_BLOCK_LOCK (R305). -/
def execLinkBlockLock (link : Link) (s : State) : Host.Outcome State Fault Refusal := run (linkLock link) s

/-- LINK_DESKEW (R306). -/
def execLinkDeskew (link : Link) (block0 block1 : BitVec 64) (s : State) : Host.Outcome State Fault Refusal :=
  run (linkDeskew link block0 block1) s

/-- LINK_UP (R305). -/
def execLinkUp (link : Link) (s : State) : Host.Outcome State Fault Refusal := run (linkUp link) s

/-- LINK_STEP_TIMEOUT (R305). -/
def execLinkStepTimeout (link : Link) (s : State) : Host.Outcome State Fault Refusal := run (linkTimeout link) s

/-- LINK_LOSS (R307). -/
def execLinkLoss (link : Link) (cause : LossCause) (s : State) : Host.Outcome State Fault Refusal :=
  run (linkLoss link cause) s

/-- ALIGN (R304). -/
def execAlign (link : Link) (block0 block1 : BitVec 64) (s : State) : Host.Outcome State Fault Refusal :=
  run (alignIn link block0 block1) s

/-- ALIGN_TRANSMIT (R302). -/
def execAlignTransmit (link : Link) (s : State) : Host.Outcome State Fault Refusal := run (alignTransmit link) s

/-- FLOW (R311). -/
def execFlow (link : Link) (block : BitVec 64) (s : State) : Host.Outcome State Fault Refusal := run (flowIn link block) s

/-- FRAME_TRANSMIT (R312). -/
def execFrameTransmit (link : Link) (s : State) : Host.Outcome State Fault Refusal := run (frameTransmit link) s

/-- QUIET_ENTRY (R313). -/
def execQuietEntry (link : Link) (s : State) : Host.Outcome State Fault Refusal := run (quietEntry link) s

/-- QUIET_RX_ENTRY (R313). -/
def execQuietRxEntry (link : Link) (s : State) : Host.Outcome State Fault Refusal := run (quietRxEntry link) s

/-- QUIET_EXIT (R314). -/
def execQuietExit (link : Link) (s : State) : Host.Outcome State Fault Refusal := run (quietExit link) s

/-- QUIET_PERIODIC_EXIT (R315). -/
def execQuietPeriodicExit (link : Link) (s : State) : Host.Outcome State Fault Refusal := run (quietPeriodicExit link) s

/-- QUIET_ACTIVITY_TIMEOUT (R315). -/
def execQuietActivityTimeout (link : Link) (s : State) : Host.Outcome State Fault Refusal :=
  run (quietActivityTimeout link) s

/-- QUIET_RX_EXIT (R314). -/
def execQuietRxExit (link : Link) (s : State) : Host.Outcome State Fault Refusal := run (quietRxExit link) s

/-- QUIET_EXIT_ALIGN_TIMEOUT (R314). -/
def execQuietExitAlignTimeout (link : Link) (s : State) : Host.Outcome State Fault Refusal :=
  run (quietAlignTimeout link) s

/-- LINK_TRAFFIC_MOVE (R322). -/
def execLinkTrafficMove (link : Link) (hostCut : Bool) (s : State) : Host.Outcome State Fault Refusal :=
  run (linkTrafficMove link hostCut) s

/-- RETURN_HOLD_EXPIRY (R323). -/
def execReturnHoldExpiry (link : Link) (s : State) : Host.Outcome State Fault Refusal := run (returnHoldExpiry link) s

/-- PRBS_LOCK (R325). -/
def execPrbsLock (link : Link) (lane : Nat) (bits : List Bool) (s : State) : Host.Outcome State Fault Refusal :=
  run (prbsIn link lane bits) s

end Sys2Proof.Machine
end

