-- ==== Sys2Proof/Machine/HostFrames.lean ====
section
/-! DEFINITION. Frames from the host, bulk reads and the completions of the archive drive (R88, R202, R210, R269, R270,
R286, R310, R318–R320). -/

namespace Sys2Proof.Machine

/-! ## Which link the host's data and bulk frames come on -/

/-- Whether a link accepts data and bulk frames from the host: either link in split mode, the PREFERRED link or the other
one if that is lost in mirrored mode, the active link in active/standby mode (R320). -/
def State.accepts (s : State) (l : Link) : Bool :=
  if s.linkMode = 0 then true
  else if s.linkMode = 1 then
    let pref := if s.regN Code.preferred 0 = 1 then Link.b else Link.a
    let lost := !(s.link pref).fit && (s.link (otherLink pref)).fit
    if lost then otherLink pref == l else pref == l
  else s.activeLink == l

/-- Discards a host frame as unroutable, or as one on a link that carries no traffic of its class (R310, R320). -/
def discardHost (l : Link) (p d cause length : Nat) (s : State) : State :=
  discardStatus p d cause length (s.bump (linkCode l Code.unroutable) 0)

/-! ## Data frames -/

/-- Puts a routed host frame in the queue of its drop, where the transmit half has room; it takes words of that half (R48, R87,
R311). -/
def queueHost (l : Link) (p d epoch : Nat) (body : List Byte) (s : State) : State :=
  if s.txFree p < body.length then s.bump (linkCode l Code.txOverflows) 0
  else flowCheck p (bufferWritten p (s.modCtx p d (fun x => { x with queue := x.queue ++ [(epoch, 1, body)] })))

/-- A host frame with a stale epoch (R202). -/
def staleHostFrame (p d frameEpoch : Nat) (s : State) : State :=
  staleStatus p d 1 frameEpoch (s.ctx p d).epoch
    ((s.bump Code.staleHost (dropKey p d)).bump Code.staleEpoch p)

/-- A host frame for a drop id without an admitted drop (R202). -/
def noDropFrame (p d frameEpoch : Nat) (s : State) : State :=
  staleStatus p d 4 frameEpoch (s.ctx p d).epoch (s.bump Code.noDrop p)

/-- Bytes 1 to 7 of a START block. -/
def startBytes (f : HostFrame) : List Byte := (beBytes 8 f.start.toNat).drop 1
/-- Class of a frame (R308). -/
def hostClass (f : HostFrame) : Nat := blockByte f.start 1 / 64
/-- Role epoch of a frame (R308). -/
def hostEpoch (f : HostFrame) : Nat := blockByte f.start 1 % 64
/-- Port of a frame's tag (R308). -/
def hostPort (f : HostFrame) : Nat := blockByte f.start 2
/-- Drop id of a frame's tag (R308). -/
def hostDrop (f : HostFrame) : Nat := blockByte f.start 3 / 4
/-- Body bytes of a frame (R308). -/
def hostLength (f : HostFrame) : Nat := blockByte f.start 4 * 256 + blockByte f.start 5
/-- The body of a frame, without the padding of its last block (R308). -/
def hostBody (f : HostFrame) : List Byte := (f.data.flatMap (fun b => beBytes 8 b.toNat)).take (hostLength f)

/-- Whether the hcrc of START is good (R308, R310 rule 1). -/
def startGood (f : HostFrame) : Bool :=
  decide (blockByte f.start 7 = (crc8 (bytesBits ((startBytes f).take 6))).toNat)

/-- Whether END follows the right number of data blocks with the right CRC-32 (R303, R308, R310 rules 2 and 3). -/
def endGood (f : HostFrame) : Bool :=
  match f.stop with
  | none => false
  | some e =>
    decide (f.data.length = ceilDiv (hostLength f) 8) && decide (blockByte e 0 = 0xE1) &&
      decide (e.toNat / 2 ^ 24 % 2 ^ 32 = (crc32 (bytesBits ((startBytes f).take 6 ++ hostBody f))).toNat)

/-- Whether a frame is one that the host may not send: class 1, or a length outside its class's range (R309, R310 rule 4). -/
def badClass (f : HostFrame) : Bool :=
  match hostClass f with
  | 0 => decide (hostLength f < 64) || decide (1522 < hostLength f)
  | 1 => true
  | 2 => decide (hostLength f < 4) || decide (1040 < hostLength f)
  | _ => decide (hostLength f ≠ 32)

/-- Routes a data frame for a branch port: by the drop's state and epoch (R202, R210), then by its size (R88). R202 names no outcome
for a frame of the right epoch to a drop in state standby: it is discarded like one for an unknown drop (DESIGN CHOICE,
notes/assumptions/12). -/
def routeBranch (l : Link) (f : HostFrame) (s : State) : State :=
  let p := (hostPort f)
  let d := (hostDrop f)
  let x := s.ctx p d
  if x.state = 0 ∨ x.state = 1 then noDropFrame p d (hostEpoch f) s
  else if (hostEpoch f) ≠ x.epoch then staleHostFrame p d (hostEpoch f) s
  else if x.state = 4 then
    staleStatus p d 5 (hostEpoch f) x.epoch (s.bump Code.asleepDiscards (dropKey p d))
  else if x.state = 3 then noDropFrame p d (hostEpoch f) s
  else if s.dsMax p d < (hostBody f).length then
    discardStatus p d 1 (hostBody f).length (s.bump Code.oversizeDiscards p)
  else queueHost l p d (hostEpoch f) (hostBody f) s

/-- Routes a data frame for a trunk port: drop 1, on the port that carries its traffic (R162, R182, R202). -/
def routeTrunk (l : Link) (f : HostFrame) (s : State) : State :=
  if (hostDrop f) ≠ 1 then noDropFrame (hostPort f) (hostDrop f) (hostEpoch f) s
  else if (hostEpoch f) ≠ (s.ctx (hostPort f) 1).epoch then staleHostFrame (hostPort f) 1 (hostEpoch f) s
  else queueHost l (s.trunkPath (hostPort f)) 1 (hostEpoch f) (hostBody f) s

/-- A good data frame: the port of its tag, its drop and the link's traffic are checked in that order, and it is routed (R310 rules 4
and 5, R320). -/
def routeFrame (l : Link) (f : HostFrame) (s : State) : State :=
  let n := hostLength f
  let p := hostPort f
  let d := hostDrop f
  if 144 ≤ p ∨ (s.port p).mode = 0 ∨ d = 0 ∨ 32 < d then discardHost l p d 2 n s
  else if !s.accepts l then discardHost l p d 3 n s
  else if s.isTrunk p then routeTrunk l f s
  else routeBranch l f s

/-! ## Bulk reads -/

/-- A bulk response (R318). -/
def bulkResponse (op status reqId target index total : Nat) (data : List Byte) : OutFrame :=
  { cls := 3, epoch := 0, port := 0xFF, drop := 0, copy := false,
    body := [byteOf (op + 0x80), byteOf status] ++ beBytes 2 reqId ++ beBytes 8 target ++ beBytes 4 index ++
      beBytes 4 total ++ List.replicate 12 0 ++ data }

/-- Queues a bulk response on the link of its request (R319). -/
def answerBulk (l : Link) (f : OutFrame) (s : State) : State := s.modLink l (fun x => { x with bulk := x.bulk ++ [f] })

/-- Ends an open request with one response (R319). -/
def endBulk (l : Link) (b : Bulk) (status : Nat) (s : State) : State :=
  answerBulk l (bulkResponse b.op status b.reqId b.target 0 b.total [])
    (s.modLink l (fun x => { x with bulkOpen := x.bulkOpen.erase b }))

/-- The record that an open read of op 01h reads, while it is on the drive (R319). -/
def State.bulkRecord (s : State) (target : Nat) : Option Rec := s.arch.records.find? (fun r => r.seq == target)

/-- The drive block of a request's block number `i`; none once its record is gone (R318, R319). -/
def State.bulkBlock (s : State) (b : Bulk) (i : Nat) : Option Nat :=
  if b.op = 1 then (s.bulkRecord b.target).map (fun r => r.block + i) else some (b.target + i)

/-- Reads the next block of an open request, or ends it: status 7 when all blocks are out, 2 when the record has been
overwritten (R319). -/
def bulkStep (l : Link) (b : Bulk) (s : State) : State :=
  match b.left with
  | [] => endBulk l b 7 s
  | i :: _ =>
    match s.bulkBlock b i with
    | none => endBulk l b 2 (s.bump Code.readErrors 0)
    | some blk => issue s.readPair (.bulkRead l b.tag blk) s

/-- Opens a bulk request, with the next number (R319). -/
def openBulk (l : Link) (b : Bulk) (s : State) : State :=
  let b' := { b with tag := s.oxl.bulkTag }
  let t := s.modLink l (fun x => { x with bulkOpen := x.bulkOpen ++ [b'] })
  bulkStep l b' { t with oxl := { t.oxl with bulkTag := t.oxl.bulkTag + 1 } }

/-- A bulk request that fails at once (R319). -/
def refuseBulk (l : Link) (op status reqId target : Nat) (s : State) : State :=
  answerBulk l (bulkResponse op status reqId target 0 0 []) s

/-- A bulk read that is refused because there is nothing to read (R290, R319). -/
def refuseRead (l : Link) (op status reqId target : Nat) (s : State) : State :=
  refuseBulk l op status reqId target (s.bump Code.readErrors 0)

/-- What every bulk request meets first: the link must be up and carry bulk traffic, and hold fewer than 4 open requests
(R319, R320). -/
def bulkRequest (l : Link) (op reqId target : Nat) (f : State → State) (s : State) : State :=
  if (s.link l).state ≠ 5 then s
  else
    let s1 := s.bump (linkCode l Code.framesIn) 0
    if !s.accepts l then discardHost l 0xFF 0 3 32 s1
    else if op ≠ 3 ∧ 4 ≤ (s.link l).bulkOpen.length then
      refuseBulk l op 4 reqId target (s1.bump (linkCode l Code.bulkBusy) 0)
    else f s1

/-- READ_RECORD (R288, R319). A request of a record that cannot be read counts in READ_ERRORS (R288, R290). -/
def readRecord (l : Link) (reqId target first count : Nat) (s : State) : State :=
  bulkRequest l 1 reqId target (fun t =>
    if !t.archReadable then refuseRead l 1 3 reqId target t
    else
      match t.bulkRecord target with
      | none => refuseRead l 1 1 reqId target t
      | some r =>
        let n := if count = 0 then r.blocks - first else count
        if r.blocks ≤ first ∨ r.blocks < first + n then refuseBulk l 1 6 reqId target t
        else openBulk l { op := 1, reqId := reqId, target := target, first := first, total := n, left := span first n } t) s

/-- End of the layout of the label in force (R271, R319). -/
def State.layoutEnd (s : State) : Nat := (s.arch.label.map (fun l => l.longStart + l.longLen)).getD 0

/-- READ_DRIVE_BLOCKS (R319). -/
def readDriveBlocks (l : Link) (reqId block first count : Nat) (s : State) : State :=
  bulkRequest l 2 reqId block (fun t =>
    if !t.archReadable then refuseRead l 2 3 reqId block t
    else if first ≠ 0 ∨ count = 0 ∨ 1024 < count ∨ t.layoutEnd < block + count then refuseBulk l 2 6 reqId block t
    else openBulk l { op := 2, reqId := reqId, target := block, first := 0, total := count, left := span 0 count } t) s

/-- CANCEL (R319). -/
def cancelBulk (l : Link) (reqId : Nat) (s : State) : State :=
  bulkRequest l 3 reqId 0 (fun t =>
    match (t.link l).bulkOpen.find? (fun b => b.reqId == reqId) with
    | some b => endBulk l b 5 t
    | none => refuseBulk l 3 1 reqId 0 t) s

/-- A bulk request of another op than those of R318 (R319). -/
def badBulk (l : Link) (op reqId target : Nat) (s : State) : State :=
  bulkRequest l op reqId target (refuseBulk l op 6 reqId target) s

/-- The bulk request that the 32 bytes of a frame's body carry (R318). -/
def bulkFrame (l : Link) (body : List Byte) (s : State) : State :=
  let f := fun (at_ n : Nat) => beVal ((body.drop at_).take n)
  match f 0 1 with
  | 1 => readRecord l (f 2 2) (f 4 8) (f 12 4) (f 16 4) s
  | 2 => readDriveBlocks l (f 2 2) (f 4 8) (f 12 4) (f 16 4) s
  | 3 => cancelBulk l (f 2 2) s
  | op => badBulk l op (f 2 2) (f 4 8) s

/-- The open request that a read in flight belongs to, by its number. -/
def State.bulkOf (s : State) (l : Link) (tag : Nat) : Option Bulk :=
  (s.link l).bulkOpen.find? (fun b => b.tag == tag)

/-- A block of an open request has been read: one response, then the next block (R319). -/
def bulkGot (l : Link) (tag blk : Nat) (s : State) : State :=
  match s.bulkOf l tag with
  | none => s
  | some b =>
    match b.left with
    | [] => s
    | i :: rest =>
      if s.bulkBlock b i ≠ some blk then endBulk l b 2 (s.bump Code.readErrors 0)
      else
        let b' := { b with left := rest }
        let s1 := answerBulk l (bulkResponse b.op 0 b.reqId b.target i b.total (s.driveBlock blk)) s
        bulkStep l b' (s1.modLink l (fun x => { x with
          bulkOpen := x.bulkOpen.map (fun y => if y = b then b' else y) }))

/-- A read of an open request has failed: it ends with status 3. -/
def bulkFailed (l : Link) (tag : Nat) (s : State) : State :=
  match s.bulkOf l tag with
  | none => s
  | some b => endBulk l b 3 s

/-! ## Completions of the drive -/

/-- The effect of a good command (R269). -/
def commandDone (j : NvmeJob) (s : State) : State :=
  match j with
  | .bulkRead l tag blk => bulkGot l tag blk s
  | _ => jobDone j s

/-- The effect of a command that ended with an error or was aborted: a write is issued again, a read fails (R270,
notes/assumptions/16). -/
def commandFailed (c : NvmeCmd) (s : State) : State :=
  match c.job with
  | .bulkRead l tag _ => bulkFailed l tag s
  | j => issue c.pair j s

/-- NVME_COMPLETION (R269, R290). -/
def nvmeCompletion (pair cid : Nat) (st : NvmeStatus) (s : State) : State :=
  match s.cmdAt pair cid with
  | none => s
  | some c =>
    match st with
    | .ok => commandDone c.job (retire c s)
    | .error => commandFailed c (retire c (issueAdmin [.errorLog] (s.bump Code.cmdErrors 0)))

/-- Ends every open bulk request, because no drive can be read any more (R319). -/
def endAllBulk (s : State) : State :=
  forAll [Link.a, Link.b] (fun l t => forAll (t.link l).bulkOpen (fun b u => endBulk l b 3 u) t) s

/-- Ends the open bulk requests where the archive has stopped being readable. -/
def settleBulk (s : State) : State := if s.archReadable then s else endAllBulk s

/-- Resets the controller; the reads in flight fail (R270). -/
def resetController (fatal : Bool) (s : State) : State :=
  let reads := (s.arch.inFlight.map (fun x => x.job) ++ s.arch.toIssue.map (fun x => x.2)).filter jobReads
  settleBulk (forAll reads (fun j t => match j with
    | .bulkRead l tag _ => bulkFailed l tag t
    | _ => t) (controllerReset fatal s))

/-- CMD_TIMEOUT in ticks (R270, R290). -/
def State.cmdTimeoutTicks (s : State) : Nat := s.regN Code.cmdTimeout 0 * 10000

/-- A command that is aborted: its Abort has completed, or is under way since this tick (R270). -/
def abortCommand (c : NvmeCmd) (abortDone : Bool) (s : State) : State :=
  if abortDone then commandFailed c (retire c s)
  else s.modArch (fun a => { a with
    inFlight := a.inFlight.map (fun x => if x = c then { x with aborted := some (c.aborted.getD s.time.tick) } else x) })

/-- CMD_TIMEOUT_EXPIRY (R270): a command not completed within CMD_TIMEOUT is counted and aborted; where the Abort does not
complete within CMD_TIMEOUT, or the controller is in fatal status, the controller is reset. -/
def cmdTimeout (pair cid : Nat) (abortDone fatal : Bool) (s : State) : State :=
  match s.cmdAt pair cid with
  | none => if fatal && s.arch.driveOk then resetController true s else s
  | some c =>
    if fatal then resetController true s
    else
      match c.aborted with
      | some t =>
        if !abortDone && s.elapsed t s.cmdTimeoutTicks then resetController false s else abortCommand c abortDone s
      | none =>
        if s.elapsed c.issued s.cmdTimeoutTicks then
          abortCommand c abortDone (issueAdmin [.abort pair cid] (s.bump Code.cmdTimeouts 0))
        else s

/-- DRIVE_LINK_LOST (R286, R319). -/
def driveLost (s : State) : State := settleBulk (driveLinkLost s)

/-! ## The commands -/

/-- READ_RECORD (R319). -/
def execReadRecord (link : Link) (reqId recSeq first count : Nat) (s : State) : Host.Outcome State Fault Refusal :=
  run (readRecord link reqId recSeq first count) s

/-- READ_DRIVE_BLOCKS (R319). -/
def execReadDriveBlocks (link : Link) (reqId block first count : Nat) (s : State) : Host.Outcome State Fault Refusal :=
  run (readDriveBlocks link reqId block first count) s

/-- CANCEL (R319). -/
def execCancel (link : Link) (reqId : Nat) (s : State) : Host.Outcome State Fault Refusal := run (cancelBulk link reqId) s

/-- NVME_COMPLETION (R269). -/
def execNvmeCompletion (pair cid : Nat) (status : NvmeStatus) (s : State) : Host.Outcome State Fault Refusal :=
  run (nvmeCompletion pair cid status) s

/-- CMD_TIMEOUT_EXPIRY (R270). -/
def execCmdTimeoutExpiry (pair cid : Nat) (abortDone fatal : Bool) (s : State) : Host.Outcome State Fault Refusal :=
  run (cmdTimeout pair cid abortDone fatal) s

/-- DRIVE_LINK_LOST (R286). -/
def execDriveLinkLost (s : State) : Host.Outcome State Fault Refusal := run driveLost s

end Sys2Proof.Machine
end

