-- ==== Sys2Proof/Machine/Reset.lean ====
section
/-! DEFINITION. Resets, boot and start-up (R41, R54, R73, R74, R345, R397, R415, R417, R418, R442, R444–R449, R452, R453,
R457, R469, R474). -/

namespace Sys2Proof.Machine

/-- A firmware bank after a device-scope reset: a load or an erase that ran leaves it partial (R367, R461). -/
def bankAfter (b : Bank) : Bank :=
  if b.state = 4 ∨ b.state = 5 then { b with state := 3 } else b

/-- Whether a domain's content outlasts a device-scope reset outside the committed set: TRIM and GOLDEN_MISR (R379,
R394). -/
def isRwf (code : Nat) : Bool :=
  match findObj code with
  | some o => o.acc == .rwf
  | none => false

/-- A device-scope reset (R345, R418, R445, R446): everything of the core die starts anew; the always-on domain, the
configuration NVM, firmware banks, life-cycle state and the settings that the regulators hold are kept. The erase of a slot goes on
after it (R452). -/
def deviceReset (cause : Nat) (s : State) : State :=
  { State.reset with
    pending := s.pending
    free := s.free
    doms := s.doms.filter (fun e => isRwf (keyCode e.1))
    resetCause := s.firstCause cause
    time := { tick := s.time.tick, resetAt := some s.time.tick, waitFrom := s.time.tick, boundAt := s.time.tick }
    aon := s.resetCounted
    nvm := { slotA := s.nvm.slotA, slotB := s.nvm.slotB, log := s.nvm.log, erasure := s.nvm.erasure
             left := match s.nvm.writing, s.nvm.erasing with
               | some c, _ => some (c, s.nvm.pages)
               | none, _ => s.nvm.left
             erasing := s.nvm.erasing, op := s.nvm.erasing.map (fun _ => .erase) }
    fw := { bank0 := bankAfter s.fw.bank0, bank1 := bankAfter s.fw.bank1, active := s.fw.active, boot := s.fw.boot }
    power := { on := s.power.on, vset := s.power.vset, vcore := s.power.vcore }
    heat := { sensors := s.heat.sensors.map (fun e => (e.1, { poweredAt := e.2.poweredAt })), owed31 := s.heat.owed31 }
    faults := { recheck := [18, 19, 22].filter (fun n =>
      s.faults.recheck.contains n || s.faults.held.any (fun r => r.source == n && r.present && !r.injected)) }
    lc := s.lc }

/-- POWER_ON_RESET (R417, R437, R445, R469): a rail of the core die falls and rises again; it also leaves Fatal. The core die has
been powered anew. During a shutdown by heat the restart of R442 stands. -/
def powerOnReset (s : State) : State :=
  if s.heat.coreDown then s else (deviceReset 1 (noteLoss s)).setSensor 0 { poweredAt := some s.time.tick }

/-- VDD_AON_FALL (R54, R74, R458, R469): the whole device with its always-on domain. -/
def vddAonFall (s : State) : State :=
  { deviceReset 1 s with
    aon := { resets := 1 }
    power := {}
    heat := { sensors := [(0, { poweredAt := some s.time.tick })] } }

/-- RESET_N (R417, R445, R474): no effect in Fatal. -/
def resetN (s : State) : State := if s.coreStopped then s else deviceReset 2 (noteLoss s)

/-- THERMAL_RESTART (R441, R442): a shut-down cluster wakes; of a shut-down core die VDD_CORE and then VDD_SRAM are requested
on. -/
def thermalRestart (s : State) : State :=
  if s.heat.cold < tenSeconds then s
  else if s.heat.coreDown then
    if s.heat.restarting then s
    else pmOn 1 1 none (pmOn 0 1 none { s with heat := { s.heat with restarting := true } })
  else restartClusters s

/-- What follows the requests of a restart from a shutdown of the core die: with both rails on the device starts as after a
power-on reset; where a request has failed for good the next THERMAL_RESTART tries again (R442). -/
def restartSettles (s : State) : State :=
  if s.heat.restarting = false ∨ s.power.queue.any (fun r => r.rail == 0 || r.rail == 1) = true then s
  else if s.railOn 0 && s.railOn 1 then deviceReset 1 s
  else { s with heat := { s.heat with restarting := false } }

/-- BOOT (R449, R457, R403 sources 2 and 38): the boot ROM checks both banks and starts one; without a valid bank the device
stops, except in BLANK. What the check of a bank found at the end of its load holds for the same bytes; every engine loads the
microcode of the bank (R456, R461). -/
def boot (s : State) : State :=
  if s.mgmt.mcReset ∧ s.faults.started = false then
    let bad := fun (b : Nat) (t : State) => if (t.bank b).state = 2 then fault 38 [b] [(1, b), (1, 2)] t else t
    let s1 := bad 1 (bad 0 s)
    match s.bootChoice with
    | some _ => (startBank s1).modFw (fun x => { x with newCode := List.range 162 })
    | none => if s.lc = 0 then s1 else fault 2 [] [(1, s.fw.bank0.state), (1, s.fw.bank1.state)] s1
  else s

/-- Lays out a port's ranges at start-up with what the persistence area names (R247, R263, R449). -/
def startCells (p : Nat) (s : State) : State :=
  let s1 := setRange p true (s.rangeWritten p true) (setRange p false (s.rangeWritten p false) s)
  layoutRange p true false (s1.startValid p) 0 (layoutRange p false false (s1.startValid p) 0 s1)

/-- Whether a page that fails its read lies in the part of a slot that its set takes (R451, R452). -/
def slotUnread (b : Bool) (c : CommitSet) (bad : List Nat) : Bool :=
  bad.any (fun n => decide (slotPage b ≤ n) && decide (n < slotPage b + setPages c.doms))

/-- The check of both slots and of the repair log at start-up, `bad` being the pages whose read fails its verify: a slot that holds
one fails its marker or CRC-32, an entry of the log in one its CRC-16, and NVM-error is raised for each (R403 source 6, R452,
R453). A complete set and a whole entry in sound pages pass (`slotGood`, `repairGood`). -/
def readNvm (bad : List Nat) (s : State) : State :=
  let keep := fun (b : Bool) (x : Option CommitSet) => x.filter (fun c => !slotUnread b c bad)
  let read := fun (n : Nat) =>
    (s.nvm.slotA.any (fun c => slotUnread false c [n])) || (s.nvm.slotB.any (fun c => slotUnread true c [n])) ||
      (List.range s.nvm.log.length).any (fun i => logPage i == n)
  let s1 := forAll (bad.filter read) (nvmError 3) s
  { s1 with nvm := { s1.nvm with
      slotA := keep false s1.nvm.slotA, slotB := keep true s1.nvm.slotB
      log := s1.nvm.log.mapIdx (fun i r => { r with good := !bad.contains (logPage i) }) } }

/-- The working RWP values as the committed set has them (R345, R449). -/
def loadSet (s : State) : State :=
  match s.currentSet with
  | none => s
  | some c =>
    { s with regs := c.regs, doms := c.doms.foldl (fun t e => Tab.put t e.1 e.2) s.doms
             nvm := { s.nvm with commitTime := c.time } }

/-- The quality that the time base starts with: the time unpowered counts as holdover in the input state of the loss
(R74); with both inputs qualified at the loss the rate is open (Config.unpoweredRate, notes/assumptions/10). -/
def startQuality (s : State) : State :=
  let i := s.aon.inputsAtLoss
  let q := s.aon.qualityAtLoss
  let rate := if i.1 && i.2 then Config.unpoweredRate else boundRate i.1 i.2 s.aon.learned
  let b := q.2.1 + (s.time.tick - q.2.2) * rate / secondTicks
  let s1 := { s with time := { s.time with bound := b, boundAt := s.time.tick, n := s.regN Code.cycleLen 0 } }
  { s1 with time := { s1.time with grade := s1.gradeNow } }

/-- Missing golden values at start-up: the engine tests and the slice tests (R395). -/
def goldenCheck (s : State) : State :=
  let ids := engineTests ++ [0x10, 0x11, 0x12]
  goldenMissing ids (forAll (ids.filter (fun t => (s.golden t 0).isSome)) (fun t u =>
    endCondition 17 [t] { u with test := { u.test with missing := dropFrom t u.test.missing } }) s)

/-- STARTUP up to its waiting requests (R41, R345, R403 source 31, R415, R435, R449): after BOOT the committed set and the repair log
are read and loaded, the collector starts, and host links, archive and rails start. `bad` are the pages of the NVM whose read
fails. -/
def startupCore (bad : List Nat) (s : State) : State :=
  if s.mgmt.mcReset ∧ s.faults.started = false ∧ s.fw.booted then
    let s1 := forAll allPorts latchPort (startQuality (withTwinChanges loadSet (readNvm bad s)))
    let s2 := { s1 with mgmt := { s1.mgmt with mcReset := false }, faults := { s1.faults with started := true } }
    let s3 := forAll (List.range 9) assignEngines (loadRemaps .contexts (loadRemaps .buffers (loadRemaps .cells s2)))
    let s4 := if s3.heat.owed31 then
        fault 31 [] [(2, twos 16 s3.aon.shutdownTemp)] { s3 with heat := { s3.heat with owed31 := false } } else s3
    let s5 := recheckLink .b (recheckLink .a (linkEnable .b (linkEnable .a (goldenCheck s4))))
    let s6 := if s5.regB Code.archEnable 0 then s5 else setArch 0 0 s5
    let s7 := forAll allPorts startCells { s6 with cells := { s6.cells with stampDue := true } }
    let s8 := pmVcore (s7.regN Code.vcoreNom 0) s7
    forAll (span 0 3) (fun k t => pmOn (lineRail k) 4 none t) s8
  else s

/-! ## Commands -/

/-- POWER_ON_RESET. -/
def execPowerOnReset (s : State) : Host.Outcome State Fault Refusal := runAlways powerOnReset s
/-- VDD_AON_FALL. -/
def execVddAonFall (s : State) : Host.Outcome State Fault Refusal := runAlways vddAonFall s
/-- RESET_N. -/
def execResetN (s : State) : Host.Outcome State Fault Refusal := run resetN s
/-- THERMAL_RESTART. -/
def execThermalRestart (s : State) : Host.Outcome State Fault Refusal := runAon thermalRestart s
/-- BOOT. -/
def execBoot (s : State) : Host.Outcome State Fault Refusal := run boot s

/-- PMBUS_REQUEST_COMPLETE (R433, R442). -/
def execPmbusRequestComplete (result : PmbusResult) (s : State) : Host.Outcome State Fault Refusal :=
  runAon (fun t => restartSettles (pmbusComplete result t)) s

/-- The end of a page program that a shutdown by heat has found: a repair entry is appended, and VDD_CORE may go off (R443). -/
def keptProgramEnds (verified : Bool) (s : State) : State :=
  releaseCore (match s.nvm.op with
    | some (.repair e) => if verified ∧ s.heat.keepCore.isSome then repairLogged e s
                          else { s with nvm := { s.nvm with op := none } }
    | _ => { s with nvm := { s.nvm with op := none } })

/-- The end of the program of a set's marker that a shutdown by heat has found: the set is complete, and VDD_CORE may go off
(R443). -/
def keptMarkerEnds (nvmOk : Bool) (s : State) : State :=
  match s.nvm.writing with
  | none => s
  | some c =>
    if s.markerRuns c ∧ s.heat.keepCore.isSome then
      releaseCore (if nvmOk then setCurrent c s else { s with nvm := { s.nvm with op := none } })
    else s

/-- NVM_PAGE_PROGRAM_COMPLETE (R443, R454). -/
def execNvmPageProgramComplete (verified : Bool) (s : State) : Host.Outcome State Fault Refusal :=
  if s.heat.coreDown then runAon (keptProgramEnds verified) s else run (pageProgramComplete verified) s

/-- COMMIT_SET_CURRENT (R346, R443, R452). -/
def execCommitSetCurrent (nvmOk : Bool) (s : State) : Host.Outcome State Fault Refusal :=
  if s.heat.coreDown then runAon (keptMarkerEnds nvmOk) s else run (commitSetCurrent nvmOk) s

end Sys2Proof.Machine
end

