-- ==== Sys2Proof/Machine/Operands.lean ====
section
/-! DEFINITION. Every form of operand that a request carries: the value field and its types (R333), the ranges and sets of
values (R335 check 7, R359), addresses, selections and abort codes (R330, R340, R341, R359). -/

namespace Sys2Proof.Machine

/-! ## Types and rights -/

/-- Type code (R333). -/
def tyCode (t : Ty) : Nat :=
  match t with
  | .bool => 1
  | .u8 => 2
  | .u16 => 3
  | .u32 => 4
  | .u64 => 5
  | .i8 => 6
  | .i16 => 7
  | .i32 => 8
  | .q16 => 9
  | .time64 => 10
  | .domain => 11
  | .str => 12

/-- Access code (R336). -/
def accCode (a : Acc) : Nat :=
  match a with
  | .ro => 1
  | .rw => 2
  | .wo => 3
  | .rwp => 4
  | .rw1c => 5
  | .rwf => 6

/-- Whether an object is reached by domain ops (R333). -/
def isDomain (t : Ty) : Bool :=
  match t with
  | .domain => true
  | .str => true
  | _ => false

/-- Whether a scalar type is signed (R333). -/
def isSigned (t : Ty) : Bool :=
  match t with
  | .i8 => true
  | .i16 => true
  | .i32 => true
  | .q16 => true
  | _ => false

/-- The least value of a scalar type (R333). -/
def tyLow (t : Ty) : Int := if isSigned t then -(2 ^ (8 * tyBytes t - 1)) else 0

/-- The greatest value of a scalar type (R333). -/
def tyHigh (t : Ty) : Int :=
  match t with
  | .bool => 1
  | _ => if isSigned t then 2 ^ (8 * tyBytes t - 1) - 1 else 2 ^ (8 * tyBytes t) - 1

/-- The value that the 8-byte value field of a write holds, or none where it does not represent a value of the type
(R333). -/
def decodeValue (t : Ty) (field : Nat) : Option Int :=
  let v : Int := if isSigned t then untwos 64 (field % 2 ^ 64) else ((field % 2 ^ 64 : Nat) : Int)
  if tyLow t ≤ v ∧ v ≤ tyHigh t then some v else none

/-- The value field of a value: signed types sign-extended, unsigned types zero-extended (R333). -/
def encodeValue (v : Int) : Nat := twos 64 v

/-- A free value as a value of a type. -/
def tyWrap (t : Ty) (v : Int) : Int :=
  match t with
  | .bool => v % 2
  | _ => if isSigned t then untwos (8 * tyBytes t) (twos (8 * tyBytes t) v) else ((twos (8 * tyBytes t) v : Nat) : Int)

/-- Size of a scalar, or greatest length of a DOMAIN or STR, in bytes (R332 DESCRIBE). -/
def Obj.size (o : Obj) : Nat := if isDomain o.ty then o.hi.toNat else tyBytes o.ty

/-- Whether an object is a window object (R340, R341). -/
def Obj.window (o : Obj) : Bool :=
  match o.scope with
  | .device => false
  | .path => false
  | _ => true

/-- The flags of a DESCRIBE response: persistent, window object, kept per path (R332). -/
def Obj.describeFlags (o : Obj) : Nat :=
  (if o.acc = .rwp then 1 else 0) + (if o.window then 2 else 0) + (if o.scope = .path then 4 else 0)

/-! ## Abort codes -/

namespace Abort

/-- op unknown (R359). -/
abbrev op : Nat := 0x05010001
/-- message length wrong for the op (R359). -/
abbrev length : Nat := 0x05010002
/-- request queue full, or two firmware segments held (R350, R359, R367). -/
abbrev busy : Nat := 0x05010003
/-- no domain transfer open on this path, or another address (R359). -/
abbrev noTransfer : Nat := 0x05020001
/-- segment offset out of order or beyond the length (R359). -/
abbrev segment : Nat := 0x05020002
/-- transfer for this address ended (R344, R359). -/
abbrev ended : Nat := 0x05020003
/-- index does not exist (R359). -/
abbrev index : Nat := 0x06010001
/-- subindex does not exist (R359). -/
abbrev sub : Nat := 0x06010002
/-- operation not allowed by the access right (R359). -/
abbrev right : Nat := 0x06010003
/-- scalar op on a DOMAIN or STR object, or domain op on a scalar (R359). -/
abbrev kind : Nat := 0x06010004
/-- value field does not fit the type (R359). -/
abbrev ty : Nat := 0x06010005
/-- value outside the object's range (R359). -/
abbrev range : Nat := 0x06010006
/-- value refused in the present settings or state (R359). -/
abbrev state : Nat := 0x06010007
/-- RWF object written outside FACTORY_TEST and RETURN (R359). -/
abbrev factory : Nat := 0x06010008
/-- object not available in the life-cycle state (R359). -/
abbrev lifeCycle : Nat := 0x06010009
/-- selector value out of range (R359). -/
abbrev selector : Nat := 0x0601000A
/-- selected instance not available (R359). -/
abbrev instance_ : Nat := 0x0601000B
/-- domain length beyond the object's maximum (R359). -/
abbrev domainLong : Nat := 0x06020001
/-- domain length breaks the object's length rule (R359). -/
abbrev domainRule : Nat := 0x06020002
/-- domain content invalid (R359). -/
abbrev content : Nat := 0x06020003
/-- archive drive not readable (R359). -/
abbrev drive : Nat := 0x06030001
/-- internal error (R359). -/
abbrev internal : Nat := 0x08000000

end Abort

/-! ## Ranges -/

/-- Whether an object is a selector of R340, whose range has an abort code of its own. -/
def isSelector (code : Nat) : Bool :=
  code == Code.selPort || code == Code.selDrop || code == Code.selCell || code == Code.selCluster || code == Code.selTrace

/-- Whether a number is a power of two. -/
def isPow2 (n : Nat) : Bool := decide (n = 2 ^ n.log2)

/-- Sets of values that are no plain range, by object; an object that is not named has none (R64, R79, R93, R244, R247,
R256, R340, R368, R419). -/
def inSet (code : Nat) (v : Int) : Bool :=
  if code = Code.cycleLen then v = 1 || v = 2 || v = 4 || v = 5 || v = 8 || v = 10
  else if code = Code.epochSet then v % 10000000 = 0
  else if code = Code.timeSource then v ≤ 143 || v = 255
  else if code = Code.contWindow then v = 0 || 2000 ≤ v
  else if code = Code.travWindow then v = 0 || 500 ≤ v
  else if code = Code.travCycles then isPow2 v.toNat
  else if code = Code.cellAllocA ∨ code = Code.cellAllocB then decide ((rangeOfWord v.toNat).count ≤ 16384)
  else if code = Code.cellState then v = 0 || v = 4
  else if code = Code.clusterTarget then v = 0 || v = 2
  else if code = Code.faultInject then 1 ≤ v && v ≤ 39
  else if code = Code.selTrace then v ≤ 2 || 16 ≤ v
  else true

/-- Whether a value lies in an object's stated range or set (R335 check 7, R359). A counter takes 0 and 1 (R336). -/
def Obj.accepts (o : Obj) (code : Nat) (v : Int) : Bool :=
  decide (o.lo ≤ v) && decide (v ≤ o.hi) && inSet code v

/-- The length rule of a DOMAIN (R343): whole entries of DROP_TABLE, and a FW_IMAGE of at least 256 bytes in whole pages
(R220, R366). -/
def lengthRule (code n : Nat) : Bool :=
  if code = Code.dropTable then decide (n % 8 = 0)
  else if code = Code.fwImage then decide (256 ≤ n) && decide (n % 256 = 0)
  else true

/-! ## UTF-8 -/

/-- Whether a byte continues a UTF-8 sequence. -/
def utf8Tail (b : Byte) : Bool := decide (0x80 ≤ b.toNat) && decide (b.toNat ≤ 0xBF)

/-- Bounds of the second byte of a UTF-8 sequence by its first. -/
def utf8Second (a b : Byte) : Bool :=
  if a = 0xE0 then decide (0xA0 ≤ b.toNat) && decide (b.toNat ≤ 0xBF)
  else if a = 0xED then decide (0x80 ≤ b.toNat) && decide (b.toNat ≤ 0x9F)
  else if a = 0xF0 then decide (0x90 ≤ b.toNat) && decide (b.toNat ≤ 0xBF)
  else if a = 0xF4 then decide (0x80 ≤ b.toNat) && decide (b.toNat ≤ 0x8F)
  else utf8Tail b

/-- Whether bytes are UTF-8, as a STR requires (R333). -/
def isUtf8 (fuel : Nat) (bs : List Byte) : Bool :=
  match fuel with
  | 0 => bs.isEmpty
  | f + 1 =>
    match bs with
    | [] => true
    | a :: rest =>
      if a.toNat < 0x80 then isUtf8 f rest
      else if 0xC2 ≤ a.toNat ∧ a.toNat ≤ 0xDF then
        match rest with
        | b :: r => utf8Tail b && isUtf8 f r
        | [] => false
      else if 0xE0 ≤ a.toNat ∧ a.toNat ≤ 0xEF then
        match rest with
        | b :: c :: r => utf8Second a b && utf8Tail c && isUtf8 f r
        | _ => false
      else if 0xF0 ≤ a.toNat ∧ a.toNat ≤ 0xF4 then
        match rest with
        | b :: c :: d :: r => utf8Second a b && utf8Tail c && utf8Tail d && isUtf8 f r
        | _ => false
      else false

/-- Whether a DOMAIN or STR takes a content (R333, R359). -/
def contentOk (o : Obj) (bs : List Byte) : Bool :=
  match o.ty with
  | .str => isUtf8 bs.length bs
  | _ => true

/-! ## Addresses and requests -/

/-- An object's number from its index and subindex, of which the low 16 and 8 bits travel (R330). -/
def addressCode (index sub : Nat) : Nat := index % 65536 * 256 + sub % 256

/-- The address bytes 7:4 of a message (R330). -/
def addressBytes (index sub last : Nat) : List Byte := beBytes 2 index ++ [byteOf sub, byteOf last]

/-- Whether an index can be reached in a life-cycle state (R339). -/
def indexAvailable (lc index : Nat) : Bool :=
  decide (lc ≠ 0) || (decide (0x1000 ≤ index) && decide (index ≤ 0x1FFF)) || decide (0xF000 ≤ index)

/-- The length in bytes that an op's request must have; none for an op that is not known (R331). -/
def opLength (op count : Nat) : Option Nat :=
  match op with
  | 0 => some 4
  | 1 => some 8
  | 2 => some 16
  | 3 => some 8
  | 4 => some 12
  | 5 => some 16
  | 6 => some (16 + count)
  | 7 => some 8
  | 8 => some 8
  | _ => none

/-- The request that a management message carries (R330, R331). -/
def parseRequest (m : List Byte) : MgmtReq :=
  let f := fun (at_ n : Nat) => beVal ((m.drop at_).take n)
  let op := f 0 1
  let count := f 12 2
  { op := op, tid := f 1 1, index := f 4 2, sub := f 6 1, value := f 8 8, arg := f 8 4, count := count,
    data := m.drop 16, last := f 7 1, lengthOk := decide (opLength op count = some m.length) }

end Sys2Proof.Machine
end

