-- ==== Sys2Proof/Machine/Values.lean ====
section
/-! DEFINITION. What a read of each object gives (R93, R128, R159, R160, R183, R220, R221, R244, R245, R265, R266, R290–R292,
R327, R328, R340, R360–R379). A value that no rule states is open: the reader draws a free value for it. Objects that no
list names show their working value or counter. -/

namespace Sys2Proof.Machine

/-- A value for reading: an object and what it reads, none where no rule states it. -/
abbrev Shown := List (Nat × Option Int)

/-- A natural value. -/
def showN (code n : Nat) : Nat × Option Int := (code, some (n : Int))
/-- An integer value. -/
def showI (code : Nat) (n : Int) : Nat × Option Int := (code, some n)
/-- A Boolean value. -/
def showB (code : Nat) (b : Bool) : Nat × Option Int := (code, some (if b then 1 else 0))

/-- Time and grid (R93). -/
def State.shownTime (s : State) : Shown :=
  [showN Code.time64Now s.time.time64, showB Code.epochPending (s.time.epoch.isSome && !s.time.adopting),
   showN Code.cycleNow s.cycleNow, showN Code.tqGrade s.time.grade, showN Code.tqBound (min s.boundNow (2 ^ 32 - 1)),
   showN Code.refStatus s.refStatus, showI Code.ppsResidual s.time.residual, showI Code.xoOffset s.aon.xoOffset,
   showN Code.learnTime s.learnTime, showI Code.slewRemain s.time.slew, showN Code.trunkHops s.time.hops]

/-- Device-wide objects (R266, R290, R292, R328, R360, R362, R364, R366, R372, R375–R377). -/
def State.shownDevice (s : State) : Shown :=
  [showN Code.alarmSeq s.cells.seq, showN Code.epochPage s.time.page, showN Code.cellsFree s.cellsFree,
   showN Code.archState s.arch.state, showN Code.archReason s.arch.reason, showN Code.linkStatus s.arch.link,
   showN Code.fineOldest (s.oldestTime 0),
   showN Code.longOldest (s.oldestTime 1),
   showN Code.permFree s.permFree, showN Code.nextRecSeq s.arch.nextSeq,
   showN Code.commitSeq ((s.arch.journal.map (fun j => j.seq)).getD 0), showN Code.lastCommit s.arch.lastCommit,
   showN Code.snapTime s.arch.snapTime, showN Code.inFlight s.arch.inFlight.length, showI Code.driveTemp s.arch.temp,
   showN Code.driveWear s.arch.wear, showN Code.driveWarn s.arch.warn,
   showN Code.holdupV s.hold.volt, showN Code.holdupE s.hold.energy,
   showN Code.trafficLinks s.trafficLinks, showN Code.statusSeq s.oxl.seq,
   showN Code.commitState s.nvm.commitState, showN Code.commitPending s.commitPending,
   showN Code.commitTime s.nvm.commitTime,
   showN Code.vendorId 0x00004457, showN Code.productId 0x00009144, showN Code.serial Config.serial,
   showN Code.pkgStep Config.pkgStep.toNat, showI Code.tjMin (if Config.industrial then -40 else 0),
   showI Code.tjMax (if Config.industrial then 110 else 105),
   showN Code.resetCause s.resetCause, showN Code.resets s.aon.resets, showN Code.lcState s.lc,
   showN Code.fwActive s.fw.active, showN Code.fwBootBank s.fw.boot, showN Code.fwUpdateState s.fw.update,
   showN Code.bank0State s.fw.bank0.state, showN Code.bank1State s.fw.bank1.state,
   showN Code.bank0Version (if s.fw.bank0.state = 1 then s.fw.bank0.version else 0),
   showN Code.bank1Version (if s.fw.bank1.state = 1 then s.fw.bank1.version else 0),
   showN Code.bank0Seq s.fw.bank0.seq, showN Code.bank1Seq s.fw.bank1.seq,
   showN Code.vcoreNow s.power.vcore, showN Code.thermalState s.thermalState,
   showN Code.coreShutdowns s.aon.coreShutdowns,
   showN Code.faultPending (s.classMask (fun _ => true)), showN Code.faultUnacked (s.classMask (fun r => !r.acked)),
   showN Code.faultSourcesActive s.sourcesActive, showN Code.rotationNext s.rotationNext,
   showN Code.fullTestState s.test.fullState]

/-- The first-error capture (R376, R408, R409). -/
def State.shownCapture (s : State) : Shown :=
  match s.aon.capture with
  | none => []
  | some c =>
    [showN Code.fecValid 1, showN Code.fecSource (c.fault.source + (if c.injected then 128 else 0)),
     showN Code.fecClass c.fault.cls, showN Code.fecAddress c.fault.address, showN Code.fecMaster c.fault.master,
     showN Code.fecAccess c.fault.access, showN Code.fecTime c.fault.time, showN Code.fecCoincident c.coincident,
     showN Code.fecInjected c.coInjected]

/-- A host link and its lanes (R327). -/
def State.shownLink (s : State) (l : Link) : Shown :=
  let x := s.link l
  [showN (linkCode l Code.linkState) x.state, showN (linkCode l Code.txState) x.tx,
   showB (linkCode l Code.farRxUp) x.farUp, showN (linkCode l Code.laneMap) x.laneMap,
   showN (linkCode l Code.farId) x.farId, showN (laneCode l 0 Code.eyeHeight) x.eye0,
   showN (laneCode l 1 Code.eyeHeight) x.eye1, showB (laneCode l 0 Code.prbsLocked) x.check0.locked,
   showB (laneCode l 1 Code.prbsLocked) x.check1.locked]

/-- A rail (R373). -/
def State.shownRail (s : State) (n : Nat) : Shown :=
  [showN (Code.railVset + 256 * n) (Tab.get s.power.vset n 0), showN (Code.railVread + 256 * n) (Tab.get s.power.vread n 0),
   showN (Code.railStatus + 256 * n) (Tab.get s.power.status n 0), showB (Code.railOn + 256 * n) (s.railOn n)]

/-- A temperature sensor (R374). -/
def State.shownSensor (s : State) (n : Nat) : Shown :=
  let x := s.sensor n
  [showI (Code.tj + 256 * n) x.tj, showI (Code.tjPeak + 256 * n) x.peak, showI (Code.neighbourMean + 256 * n) x.mean,
   showB (Code.sensorState + 256 * n) x.broken, showI (Code.tjGovern + 256 * n) x.govern]

/-- A cluster (R93, R245, R368). -/
def State.shownCluster (s : State) (k : Nat) : Shown :=
  [showN Code.clusterState (s.cluster k).state, showN Code.ledgerValid (s.ledger k).length,
   showB Code.insPolarity (s.cluster k).negative, showN Code.sparesLeft (s.sparesLeft k),
   showN Code.failedEngines ((s.failedOf k).foldl (fun m e => m ||| 2 ^ (e % 18)) 0),
   showN Code.wakeAlarm (Tab.get s.aon.alarms k 0)]

/-- A port (R93, R159, R183, R220, R244, R265, R369). -/
def State.shownPort (s : State) (p : Nat) : Shown :=
  let x := s.port p
  [showN Code.mapPeriod x.map.period, showN Code.upRegion (s.upRegion p), showN Code.baseMode baseMode,
   showI Code.noiseFloor (roundDiv x.rx.noiseFloor 65536), showN Code.trunkState x.trunk.state, showN Code.trunkModeNow x.trunk.mode,
   showN Code.oneWayDelay x.trunk.delay, showI Code.partnerOffset x.trunk.offset,
   showN Code.echoRejection x.trunk.echo, showN Code.partnerSnr x.trunk.farSnr,
   showN Code.dropTableCount ((s.dom Code.dropTable p).length / 8), showN Code.reserved3062 0,
   showN Code.twinState x.twinState, showN Code.travState (s.travStateNow p),
   showN Code.effStep (s.effStep p), showN Code.travPoints (s.nValid p),
   showN Code.insRes x.trav.ins, showI Code.galvanic x.trav.galvanic, showN Code.loopRes x.trav.loopRes,
   showN Code.dcTime x.trav.dcTime, showN Code.benchState (s.benchStateNow p), showN Code.benchTime (s.benchTimeNow p),
   showN Code.cellsQuiet (s.cellsIn p 0), showN Code.cellsWatch (s.cellsIn p 1), showN Code.cellsAlarm (s.cellsIn p 2),
   showN Code.cellsConfirmed (s.cellsIn p 3), showN Code.cellsMasked (s.cellsIn p 4),
   showN Code.portState (s.portStateNow p), showN Code.portCluster (clusterOf p), showN Code.engine (s.engineFor p),
   showN Code.converter x.trav.halves]

/-- A drop on a port (R93, R160, R221). Without a slot its start and length are stated nowhere. -/
def State.shownDrop (s : State) (p d : Nat) : Shown :=
  let x := s.ctx p d
  let sl := (s.port p).map.slotOf d
  [showN Code.mapCycle ((sl.map (fun y => y.cycle)).getD 0), (Code.slotStart, sl.map (fun y => (y.start : Int))),
   (Code.slotLen, sl.map (fun y => (y.len : Int))), showN Code.upMaxPayload (s.upMax p d),
   showN Code.dsMaxPayload (s.dsMax p d), showN Code.snr x.snr, showI Code.margin x.marginNow,
   showI Code.rxAmpl x.rxAmpl, showI Code.freqOffset x.freqOffset, showI Code.arrivalOffset x.arrival,
   showN Code.lastRx x.lastRx, showN Code.ctxFlags x.ctxFlags, showN Code.identity x.identity,
   showN Code.dropState x.state, showN Code.epoch x.epoch, showN Code.mode x.mode, showN Code.maxBaud x.maxBaud,
   showN Code.dropTxAtten x.txAtten, showI Code.advance x.advance, showN Code.caps x.caps,
   showN Code.lastLevel x.lastLevel, showN Code.standbyMode x.standbyMode, showI Code.dsAmpl x.dsAmpl]

/-- A watch cell (R266). The chainage of a cell of no port is stated nowhere. -/
def State.shownCell (s : State) (i : Nat) : Shown :=
  let c := s.cell i
  [showN Code.cellOwner ((((s.cellOwner i)).map (fun o => o.1)).getD 255), showN Code.cellStart c.start,
   showN Code.cellWidth (c.width + 1), showI Code.cellBench c.bench, showI Code.cellDrift c.drift,
   showI Code.cellResidue c.residue, showN Code.cellVar c.var, showN Code.cellThresh c.thresh,
   showN Code.cellState c.state, showN Code.cellHyst c.hyst, showN Code.cellKind c.kind, showN Code.cellCount c.count,
   showN Code.cellTime c.time, showN Code.cellPage c.page,
   (Code.cellChainage, (s.cellOwner i).map (fun o => (s.pointDm o.1 (s.port o.1).trav.step c.start : Int)))]

/-- The trace that a path has selected (R244, R291). -/
def State.shownTrace (s : State) (q : Path) : Shown :=
  match s.traceSel (s.path q).selPort (s.path q).selTrace with
  | none => []
  | some t =>
    [showN Code.traceTime t.time, showN Code.traceStep t.step, showN Code.tracePoints t.nValid,
     showN Code.traceFlags t.flags, showN Code.traceIns t.ins, showN Code.traceLoop t.loopRes,
     showN Code.traceRecSeq t.recSeq, showN Code.traceTier t.tier]

/-- The objects that a path has for itself (R289, R290, R340). -/
def State.shownPath (s : State) (q : Path) : Shown :=
  let x := s.path q
  [showN Code.selPort x.selPort, showN Code.selDrop x.selDrop, showN Code.selCell x.selCell,
   showN Code.selCluster x.selCluster, showN Code.selTrace x.selTrace, showN Code.autoStep x.autoStep,
   showN Code.pathId (pathNo q), showN Code.findPort x.findPort, showN Code.findTime x.findTime,
   showN Code.findKind x.findKind, showN Code.findState x.findState, showN Code.findResult x.findResult]

/-- The values that the hardware shows for an object of some scope and instance. -/
def State.shown (s : State) (q : Path) (sc : Scope) (code inst : Nat) : Shown :=
  match sc with
  | .device =>
    match railOf code with
    | some n => s.shownRail n
    | none =>
      if 0x710000 ≤ code ∧ code < 0x710A00 then s.shownSensor (code / 256 - 0x7100)
      else if 0x600000 ≤ code ∧ code < 0x610000 then s.shownLink .a
      else if 0x610000 ≤ code ∧ code < 0x620000 then s.shownLink .b
      else if 0x210000 ≤ code ∧ code < 0x220000 then s.shownTime
      else if 0x780100 ≤ code ∧ code < 0x780200 then s.shownCapture
      else s.shownDevice
  | .cluster => s.shownCluster inst
  | .port => s.shownPort inst
  | .drop => s.shownDrop (inst / 64) (inst % 64)
  | .cell => s.shownCell inst
  | .trace => s.shownTrace q
  | .path => s.shownPath q

/-- The value of a scalar object's instance; none where no rule states it (R338). -/
def State.valueOf (s : State) (q : Path) (o : Obj) (code inst : Nat) : Option Int :=
  match (s.shown q o.scope code inst).find? (fun e => e.1 == code) with
  | some e => e.2
  | none => some (s.reg code inst)

/-! ## DOMAIN and STR contents -/

/-- A list of 16-bit integers (R334). -/
def le16s (xs : List Int) : List Byte := xs.flatMap (fun x => leBytes 2 (twos 16 x))

/-- Bytes filled up with zeros. -/
def padTo (n : Nat) (bs : List Byte) : List Byte := bs ++ List.replicate (n - bs.length) 0

/-- ORDER_CODE 1000.03: "UB9144-FCI" or "UB9144-FCB" (R362). -/
def orderCodeBytes : List Byte :=
  [0x55#8, 0x42#8, 0x39#8, 0x31#8, 0x34#8, 0x34#8, 0x2D#8, 0x46#8, 0x43#8, if Config.industrial then 0x49#8 else 0x42#8]

/-- The record on the drive that a path's trace selection names (R291). -/
def State.selectedRecord (s : State) (q : Path) : Option Rec :=
  match s.traceSel (s.path q).selPort (s.path q).selTrace with
  | none => none
  | some t => if t.recSeq = 0 then none else s.arch.records.find? (fun r => r.seq == t.recSeq)

/-- Clears the reserved bytes of a table: of each `n`-byte entry those for which `res` holds (R5). -/
def clearReserved (n : Nat) (res : Nat → Bool) (bs : List Byte) : List Byte :=
  bs.zipIdx.map (fun e => if res (e.2 % n) then 0 else e.1)

/-- The content of a DOMAIN or STR object's instance (R5, R334). -/
def State.contentOf (s : State) (q : Path) (code inst : Nat) : List Byte :=
  if code = Code.sleepLedger then padTo 512 ((s.ledger inst).flatMap ledgerBytes)
  else if code = Code.ffeTaps then le16s (s.ctx (inst / 64) (inst % 64)).ffe
  else if code = Code.dfeTaps then le16s (s.ctx (inst / 64) (inst % 64)).dfe
  else if code = Code.soundSnr then (s.ctx (inst / 64) (inst % 64)).soundSnr.flatMap (leBytes 2)
  else if code = Code.trace then
    ((s.traceSel (s.path q).selPort (s.path q).selTrace).map (fun t => rawPoints t.points)).getD []
  else if code = Code.traceRecord then ((s.selectedRecord q).map (fun r => (span r.block r.blocks).flatMap s.driveBlock)).getD []
  else if code = Code.cellRaw then cellBytes (s.cell inst)
  else if code = Code.alarmLog then s.alarmLogBytes
  else if code = Code.epochLog then padTo 64 (s.time.epochLog.flatMap (fun e => leBytes 8 e.1 ++ leBytes 8 e.2))
  else if code = Code.orderCode then orderCodeBytes
  else if code = Code.dieSteps then (List.range 10).map Config.dieStep
  else if code = Code.engineMap then (portsOf inst).map (fun p => byteOf (s.engineFor p))
  else if code = Code.fecDetail then ((s.aon.capture.map (fun c => detailBytes false c.fault.detail)).getD [])
  else if code = Code.faultTable then s.faultTable
  else if code = Code.faultLog then s.faultLogBytes
  else if code = Code.engineStates then (List.range 162).map (fun e => byteOf (s.engine e).state)
  else if code = Code.engineTested then (List.range 162).flatMap (fun e => leBytes 4 (s.engine e).tested)
  else if code = Code.fullTestResult then s.test.fullResult
  else if code = Code.dropTable then clearReserved 8 (fun i => i == 7) (s.dom code inst)
  else if code = Code.goldenMisr then clearReserved 16 (fun i => decide (3 ≤ i) && decide (i ≤ 7)) (s.dom code inst)
  else s.dom code inst

end Sys2Proof.Machine
end

