-- ==== Sys2Proof/Machine/Writes.lean ====
section
/-! DEFINITION. Host writes: which values are refused (R335 checks 7 and 8, R359) and what an accepted write does. Settings
are checked against a state that already holds the new values, so that one write and the joint writes of DEFAULTS and
REVERT (R349) share the checks. -/

namespace Sys2Proof.Machine

/-! ## Lanes and links -/

/-- The link of a link object (R327). -/
def linkOfCode (code : Nat) : Link := if code / 2 ^ 16 = 0x61 then .b else .a

/-- The lane of a lane object (R327). -/
def laneOfCode (code : Nat) : Nat := code / 256 % 16

/-! ## Refusals by other settings and by state -/

/-- PORT_MODE of a port as the checks see it: written or in force; for a joint write only as written, since every port-mode
change is then taken as made (R349; DEDUCED, notes/assumptions/21). -/
def State.modesOf (s : State) (joint : Bool) (p : Nat) : List Nat :=
  if joint then [s.regN Code.portMode p] else [s.regN Code.portMode p, (s.port p).mode]

/-- Whether the windows of a port leave their guard: D + C + T at most L − 20 (R79). -/
def State.windowsFit (s : State) (p : Nat) : Bool :=
  decide (s.winD p + s.winC p + s.winT p + 20 ≤ s.cycleTicks)

/-- Whether a traverse window and step code leave enough points, or the traverse is off (R79, R227). -/
def State.pointsOk (s : State) (p : Nat) : Bool :=
  !s.regB Code.travEnable p || decide (s.winT p = 0) ||
    decide (1024 ≤ nValidOf (s.winT p) (s.regN Code.travStep p) (effCode (s.oneHalf p) (s.regN Code.travStep p)))

/-- Whether a twin assignment of a port breaks R20: the partner lies in the same cluster or in another mode, or one of both
is off, each as written and as in force; twinned trunk ports have one TRUNK_ROLE (R182). -/
def State.twinBad (s : State) (joint : Bool) (p : Nat) : Bool :=
  let q := s.regN Code.twinPartner p
  let modes := s.modesOf joint p ++ s.modesOf joint q
  decide (clusterOf p = clusterOf q) || modes.contains 0 || modes.any (fun m => m != modes.headD 0) ||
    (modes.contains 2 && decide (s.regN Code.trunkRole p ≠ s.regN Code.trunkRole q))

/-- Whether a hitless update is in progress (R399, R425, R459). -/
def State.updateRuns (s : State) : Bool := s.fw.switching

/-- Whether CLUSTER_TARGET 2 is refused (R425). -/
def State.dormantBad (s : State) (joint : Bool) (now : State) (k : Nat) : Bool :=
  (portsOf k).any (fun p => (s.modesOf joint p).contains 2 ||
    allDrops.any (fun d => (now.ctx p d).state == 1 || (now.ctx p d).state == 2)) ||
  now.commitRuns || now.updateRuns || decide (now.test.fullState = 1) || decide ((now.cluster k).state = 3)

/-- Whether a value of a setting is refused for a range that depends on the cycle length, or that only a whole word of it
shows (R79, R247): 06010006h. `t` holds the settings with the value in them. -/
def State.settingOutside (t : State) (rc inst : Nat) : Bool :=
  if rc = Code.dsWindow then decide (t.cycleTicks < t.winD inst)
  else if rc = Code.travWindow then decide (t.cycleTicks < 2 * t.winT inst)
  else if rc = Code.cellAllocA ∨ rc = Code.cellAllocB then
    let r := t.rangeWritten inst (decide (rc = Code.cellAllocB))
    decide (2 ^ 20 < r.base + r.count)
  else false

/-- Whether the value of a setting is refused in the present settings or state: 06010007h. `now` is the present state, `t`
the same with the settings as written. A CYCLE_LEN write after which written windows no longer leave their guard is accepted,
and the change of port mode refused instead: R79's "any write" is read as a write of a window (DESIGN CHOICE,
notes/assumptions/21) (R20, R64, R74, R79, R85, R93, R185, R212, R220, R227, R244, R247, R297, R326, R370,
R372, R425). -/
def State.settingRefused (now t : State) (joint : Bool) (code rc inst : Nat) : Bool :=
  if rc = Code.cycleLen then allPorts.any (fun p => (t.modesOf joint p).any (fun m => m != 0))
  else if rc = Code.dsWindow ∨ rc = Code.contWindow ∨ rc = Code.travWindow then
    !t.windowsFit inst ||
      (decide (rc ≠ Code.travWindow) && (if joint then t else now).regB Code.rollCall inst &&
        (t.modesOf joint inst).contains 1 && !t.rollWindowsOk inst) ||
      (decide (rc = Code.travWindow) && !t.pointsOk inst)
  else if rc = Code.travStep then !t.pointsOk inst
  else if rc = Code.beaconInterval ∨ rc = Code.beaconOffset then
    decide (t.regN Code.beaconInterval inst ≤ t.regN Code.beaconOffset inst)
  else if rc = Code.travInterval ∨ rc = Code.travOffset then
    decide (t.regN Code.travInterval inst ≠ 0) && decide (t.regN Code.travInterval inst ≤ t.regN Code.travOffset inst)
  else if rc = Code.levelMargin ∨ rc = Code.levelRedo then
    decide (t.regN Code.levelMargin inst ≤ t.regN Code.levelRedo inst)
  else if rc = Code.rollCall then t.regB Code.rollCall inst && !t.rollWindowsOk inst
  else if rc = Code.dropLost then
    decide (2048 < t.regN Code.dropLost inst *
      max (now.port inst).map.period (((now.port inst).pending.map (fun q => q.map.period)).getD 1))
  else if rc = Code.portMode then
    let v := t.regN Code.portMode inst
    (v == 1 && (now.modesOf false inst).contains 2) || (v == 2 && (now.modesOf false inst).contains 1) ||
      t.regB Code.twinEnable inst || (v != 0 && !t.windowsFit inst)
  else if rc = Code.twinEnable then t.regB Code.twinEnable inst && t.twinBad joint inst
  else if rc = Code.twinPartner then t.twinBad joint inst
  else if rc = Code.cellAllocA ∨ rc = Code.cellAllocB then
    let b := decide (rc = Code.cellAllocB)
    t.rangeClash inst b (t.rangeWritten inst b)
  else if rc = Code.txPre ∨ rc = Code.txPost then
    let base := code / 256 * 256
    decide (16 < t.regN (base + 2) 0 + t.regN (base + 3) 0)
  else if rc = Code.vcoreMin ∨ rc = Code.vcoreMax then decide (t.regN Code.vcoreMax 0 < t.regN Code.vcoreMin 0)
  else if rc = Code.clusterTarget then decide (t.regN Code.clusterTarget inst = 2) && t.dormantBad joint now inst
  else if rc = Code.prbsGen ∨ rc = Code.prbsCheck then
    decide (t.regN code 0 ≠ 0) && !now.isAvailable (otherLink (linkOfCode code)) && decide (now.lc ≠ 1)
  else if rc = Code.grant then
    let p := inst / 64
    (t.allTaken p).wantsSlot p (inst % 64) && !t.plansFit p
  else false

/-- Whether a command object refuses a value in the present settings or state: 06010007h (R62, R65, R172, R221, R232, R241,
R249, R273, R283, R324, R367, R378, R379, R399, R419, R425, R428, R459). -/
def State.commandRefused (s : State) (code inst : Nat) (v : Int) : Bool :=
  let one := decide (v = 1)
  let p := inst / 64
  let st := (s.ctx p (inst % 64)).state
  if code = Code.realign then one && !s.time.realignPending
  else if code = Code.trunkRetrain then one && !s.trunkHead inst
  else if code = Code.relevel then one && st != 2
  else if code = Code.release then one && st != 2 && st != 4
  else if code = Code.sleep then one && st != 2
  else if code = Code.wake then
    let c := s.cluster (clusterOf p)
    one && (st != 4 || c.state == 2 || c.entering || c.closing)
  else if code = Code.benchCapture then one && !s.captureFree inst
  else if code = Code.leadInCal ∨ code = Code.vfCal then one && !s.travFree inst
  else if code = Code.cellStart then decide (16383 < v.toNat + (s.cell inst).width)
  else if code = Code.cellWidth then decide (16384 < (s.cell inst).start + v.toNat)
  else if code = Code.archFormat then one && decide (s.arch.state = 3)
  else if rowCode code = Code.forceSwitch then
    one && !(decide (s.linkMode = 2) && s.isAvailable (otherLink s.activeLink))
  else if code = Code.fwBankErase then
    decide (v.toNat = s.fw.active) || decide (s.fw.update = 2) || decide (s.fw.update = 3) || s.updateRuns
  else if code = Code.fwSwitch then one && !s.canSwitch
  else if code = Code.wakeAlarm then decide (v ≠ 0) && decide (v.toNat < s.time.time64 + 60000)
  else if code = Code.fullTest then
    one && (decide (s.test.fullState = 1) || allPorts.any (fun q => (s.modesOf false q).any (fun m => m != 0)) ||
      (List.range 9).any (fun k => (s.cluster k).state == 2) || s.updateRuns || s.commitRuns)
  else if code = Code.faultInject then decide (s.lc ≠ 1) || decide (defaultClass v.toNat = 4)
  else false

/-! ## What an accepted setting does -/

/-- An accepted CLUSTER_TARGET (R425, R426, R428): 2 lets the cluster enter Dormant, 0 wakes it. -/
def clusterTarget (k : Nat) (v : Int) (s : State) : State :=
  let c := s.cluster k
  if v = 2 then
    if c.state ≤ 1 ∨ c.state = 4 ∨ (c.state = 5 ∧ c.heatStuck = false) then s.modCluster k (fun x => { x with entering := true, wakeAfter := false })
    else s.modCluster k (fun x => { x with wakeAfter := false })
  else startWake k none s

/-- Puts the value of a setting in place, as `change` does, and lets it take effect (R349): most settings are read or
latched where they apply, the others act here (R62, R69, R71, R75, R180, R185, R224, R247, R273, R307, R320, R325, R371, R425,
R435, R484). -/
def takeSetting (code rc inst : Nat) (v : Int) (change : State → State) (s : State) : State :=
  let l := linkOfCode code
  let t := change s
  if rc = Code.twinEnable ∨ rc = Code.twinPartner then withTwinChange inst change s
  else if rc = Code.timeSource then (if s.reg Code.timeSource 0 = v then t else sourceChanged t)
  else if rc = Code.realignPolicy then if v = 1 ∧ s.time.realignPending = true then beginRealign t else t
  else if rc = Code.rollCall then if v = 1 then rollOpened inst t else t
  else if rc = Code.travEnable then if v = 0 then travDisabled inst t else t
  else if rc = Code.cellAllocA then rangeAccepted inst false t
  else if rc = Code.cellAllocB then rangeAccepted inst true t
  else if rc = Code.archEnable then settleBulk (archEnable (decide (v = 1)) t)
  else if rc = Code.linkEnable then linkEnable l t
  else if rc = Code.linkMode then linkModeWritten s t
  else if rc = Code.preferred then preferredWritten s t
  else if rc = Code.prbsGen then prbsGenWritten l (laneOfCode code) t
  else if rc = Code.prbsCheck then prbsCheckWritten l (laneOfCode code) t
  else if rc = Code.avsEnable ∨ rc = Code.vcoreNom ∨ rc = Code.vcoreMin ∨ rc = Code.vcoreMax then vcoreSettings t
  else if rc = Code.clusterTarget then clusterTarget inst v t
  else if rc = Code.portMode then (if v = 2 then t else trunkLeaves inst t)
  else if rc = Code.grant then planGrant (inst / 64) (inst % 64) (s.regN Code.grant inst) t
  else t

/-! ## DEFAULTS and REVERT -/

/-- Takes away the working value of an instance, which then follows its default. -/
def clearReg (code inst : Nat) (s : State) : State := { s with regs := s.regs.filter (fun e => e.1 != objKey code inst) }

/-- The RWP values that a joint write brings, by table key: a value, or none for the default (R349). -/
def State.jointKeys (s : State) (target : Tab Int) : List (Nat × Option Int) :=
  (s.rwpRegs.map (fun e => e.1) ++ (target.map (fun e => e.1)).filter (fun k => (Tab.find s.rwpRegs k).isNone)).map
    (fun k => (k, Tab.find target k))

/-- The settings that a joint write forms once all its values are applied, at the cycle length among them (R349). -/
def State.jointForm (s : State) (target : Tab Int) (doms : Tab (List Byte)) : State :=
  let regs := (s.regs.filter (fun e => !isRwp (keyCode e.1)))
  let ds := s.doms.filter (fun e => !isRwp (keyCode e.1))
  let t := { s with regs := target.foldl (fun (r : Tab Int) (e : Nat × Int) => Tab.put r e.1 e.2) regs
                    doms := doms.foldl (fun (r : Tab (List Byte)) (e : Nat × List Byte) => Tab.put r e.1 e.2) ds }
  { t with time := { t.time with n := t.regN Code.cycleLen 0 } }

/-- One value of a joint write: kept where the check against the formed settings refuses it, else applied (R349). -/
def jointValue (form : State) (now : State) (e : Nat × Option Int) (s : State) : State :=
  let code := keyCode e.1
  let inst := keyInst e.1
  let rc := rowCode code
  let change := fun (t : State) =>
    match e.2 with
    | some v => t.setReg code inst v
    | none => clearReg code inst t
  let v := (change s).reg code inst
  if v = s.reg code inst then change s
  else if form.settingOutside rc inst || now.settingRefused form true code rc inst then s
  else takeSetting code rc inst v change s

/-- Brings working RWP values to those of a set, checked together (R349). -/
def jointWrite (target : Tab Int) (doms : Tab (List Byte)) (s : State) : State :=
  let form := s.jointForm target doms
  let s1 := forAll (s.jointKeys target) (jointValue form s) s
  { s1 with doms := doms.foldl (fun (r : Tab (List Byte)) (e : Nat × List Byte) => Tab.put r e.1 e.2) (s1.doms.filter (fun e => !isRwp (keyCode e.1))) }

/-- A write of 1 to DEFAULTS (R349). -/
def defaultsWrite (s : State) : State := jointWrite [] [] s

/-- A write of 1 to REVERT (R349). -/
def revertWrite (s : State) : State :=
  match s.currentSet with
  | some c => jointWrite c.regs c.doms s
  | none => jointWrite [] [] s

/-! ## Life cycle -/

/-- Whether an LC_REQUEST is accepted (R365). -/
def State.lcAccepts (s : State) (v : Nat) : Bool :=
  decide (v / 2 ^ 56 % 256 = s.lc + 1) && decide (s.lc < 3) && decide (v % 2 ^ 32 = Config.lcCode (s.lc + 1) % 2 ^ 32) &&
    decide (s.nvm.lcRefused < 3)

/-- Ends a path's open transfer other than by DOMAIN_END: its address is remembered, and a load of firmware ends early
(R344, R367). -/
def endTransfer (q : Path) (s : State) : State :=
  match (s.path q).xfer with
  | none => s
  | some x =>
    let s1 := s.modPath q (fun y => { y with xfer := none, ended := some (x.index, x.sub) })
    if x.code = Code.fwImage ∧ x.write = true then loadEnds s1 else s1

/-- An accepted LC_REQUEST (R344, R365, R450): the state moves forward, every open transfer ends, and the erasure of DEPLOYED
and RETURN is due. -/
def lcAdvance (s : State) : State :=
  let t := endTransfer .oxlB (endTransfer .oxlA (endTransfer .spi s))
  { t with lc := t.lc + 1, nvm := { t.nvm with erasure := t.nvm.erasure || decide (1 ≤ t.lc) } }

/-- A refused LC_REQUEST (R365). -/
def lcRefuse (s : State) : State :=
  ({ s with nvm := { s.nvm with lcRefused := s.nvm.lcRefused + 1 } }).bump Code.lcRefusals 0

/-- Brings one RWP value to its default, whatever checks a write of it would meet; it takes effect as such a write would
(R450). -/
def forceDefault (e : Nat × Option Int) (s : State) : State :=
  let code := keyCode e.1
  let inst := keyInst e.1
  let v := (clearReg code inst s).reg code inst
  if v = s.reg code inst then clearReg code inst s
  else takeSetting code (rowCode code) inst v (clearReg code inst) s

/-- Every RWP value returns to its default (R450). -/
def forceDefaults (s : State) : State :=
  let s1 := forAll (s.jointKeys []) forceDefault s
  { s1 with doms := s1.doms.filter (fun e => !isRwp (keyCode e.1)) }

/-- LC_ENTRY_ERASURE (R450): both persistence slots are erased and every RWP value returns to its default, after a commit
that runs and before any further one. An erase of one of them that runs ends with it. -/
def lcErasure (s : State) : State :=
  if s.nvm.erasure ∧ s.nvm.writing = none then
    let s1 := { s with nvm := { s.nvm with
      slotA := none, slotB := none, left := none, erasing := none
      op := if s.nvm.op = some .erase then none else s.nvm.op, erasure := false, commitTime := 0 } }
    let s2 := forceDefaults s1
    if s2.nvm.further then startCommit s2 else nvmStart s2
  else s

/-! ## What an accepted command object does -/

/-- A write to a path's own object (R289, R290, R340). -/
def writePath (q : Path) (code n : Nat) (s : State) : State :=
  s.modPath q (fun x =>
    if code = Code.selPort then { x with selPort := n }
    else if code = Code.selDrop then { x with selDrop := n }
    else if code = Code.selCell then { x with selCell := n }
    else if code = Code.selCluster then { x with selCluster := n }
    else if code = Code.selTrace then { x with selTrace := n }
    else if code = Code.autoStep then { x with autoStep := n }
    else if code = Code.findPort then { x with findPort := n }
    else if code = Code.findTime then { x with findTime := n }
    else if code = Code.findKind then { x with findKind := n }
    else if code = Code.findGo ∧ n = 1 then { x with findState := 1 }
    else x)

/-- A write to a cell: a word marked bad is found first, and the cell rebuilt (R48, R249, R256, R259). -/
def writeCell (i code n master : Nat) (s : State) : State :=
  match s.cellOwner i with
  | none => s
  | some (p, b) =>
    let t := if s.cellBad i then cellReadError i master s else s
    if code = Code.cellStart then writeCellBand i p b n (t.cell i).width t
    else if code = Code.cellWidth then writeCellBand i p b (t.cell i).start (n - 1) t
    else if code = Code.cellState then writeCellState i p n t
    else if code = Code.cellThresh then writeCellField i (fun c => { c with thresh := n }) t
    else if code = Code.cellHyst then writeCellField i (fun c => { c with hyst := n }) t
    else t

/-- A write to the twin commands of a port (R182, R215, R216): on trunk ports the written port is the survivor of
TWIN_FAILOVER. -/
def twinCommand (p : Nat) (back : Bool) (s : State) : State :=
  if s.isTrunk p then
    if back then trunkReturn p s
    else
      match s.twinOf p with
      | some q => moveTraffic q p 3 s
      | none => s
  else if back then twinReturnDrops p s
  else failover p 3 none s

/-- Formats the drive on a host's command: a drive that met the checks of R267 must be there (R267, R273). -/
def archFormatWrite (s : State) : State := if s.arch.driveOk then settleBulk (beginFormat s) else s

/-- Adopts a foreign drive on a host's command (R273). -/
def archAdoptWrite (s : State) : State := if s.arch.state = 4 then settleBulk (adoptDrive s) else s

/-- The effect of a value that is not 0 on a command object of a port or drop. -/
def portCommand (code inst : Nat) (v : Int) (s : State) : State :=
  let p := inst / 64
  let d := inst % 64
  if code = Code.eqReset then eqResetDrop p d s
  else if code = Code.relevel then (if s.levelling p d then s else startLevelling p d s)
  else if code = Code.release then releaseDrop p d s
  else if code = Code.sleep then sleepDrop p d s
  else if code = Code.wake then wakeDrop p d s
  else if code = Code.trunkRetrain then retrainPort inst s
  else if code = Code.twinFailover then twinCommand inst false s
  else if code = Code.twinReturn then twinCommand inst true s
  else if code = Code.benchCapture then startCapture inst s
  else if code = Code.leadInCal then startCal inst .leadIn s
  else if code = Code.vfCal then startCal inst .vf s
  else if code = Code.cellLayout then cellLayoutWrite inst v.toNat s
  else s

/-- The effect of a value that is not 0 on a command object of the device, but for RESET_CMD and LC_REQUEST. -/
def deviceCommand (code rc : Nat) (v : Int) (s : State) : State :=
  if code = Code.commit then commitWrite s
  else if code = Code.defaults then defaultsWrite s
  else if code = Code.revert then revertWrite s
  else if code = Code.epochSet then epochSet v.toNat s
  else if code = Code.realign then beginRealign s
  else if code = Code.archFormat then archFormatWrite s
  else if code = Code.archAdopt then archAdoptWrite s
  else if rc = Code.linkRetrain then oxlRetrain (linkOfCode code) s
  else if rc = Code.prbsClear then prbsClearWritten (linkOfCode code) (laneOfCode code) s
  else if code = Code.forceSwitch then forceSwitch s
  else if code = Code.fwSwitch then fwSwitch s
  else if code = Code.faultAck then faultAck v.toNat s
  else if code = Code.faultClear then faultClear v.toNat s
  else if code = Code.fecRearm then fecRearm s
  else s

/-- The accepted write of a value to an object's instance (R336). -/
def hostWrite (q : Path) (o : Obj) (code inst : Nat) (v : Int) (master : Nat) (s : State) : State :=
  let n := v.toNat
  match o.acc with
  | .ro => s
  | .rw1c => if v = 1 then s.setReg code inst 0 else s
  | .wo =>
    if code = Code.epochSet then epochSet n s
    else if code = Code.fwBankErase then eraseBank n s
    else if v = 0 then s
    else
      match o.scope with
      | .path => if code = Code.findGo then startFind q (writePath q code n s) else writePath q code n s
      | .port => portCommand code inst v s
      | .drop => portCommand code inst v s
      | _ => deviceCommand code o.code v s
  | .rwf =>
    let t := s.setReg code inst v
    if code = Code.fullTest then (if v = 1 then fullTestStart t else t)
    else if code = Code.faultInject then { t with faults := { t.faults with injectNext := t.faults.injectNext ++ [(n, master)] } }
    else t
  | .rw =>
    match o.scope with
    | .path => writePath q code n s
    | .cell => writeCell inst code n master s
    | _ =>
      if code = Code.maxBaud then s.modCtx (inst / 64) (inst % 64) (fun x => { x with maxBaud := n })
      else if code = Code.wakeAlarm then
        { s with aon := { s.aon with alarms := if n = 0 then Tab.del s.aon.alarms inst else Tab.put s.aon.alarms inst n } }
      else takeSetting code o.code inst v (fun t => t.setReg code inst v) s
  | .rwp => takeSetting code o.code inst v (fun t => t.setReg code inst v) s

/-- Which abort code an object's value gets from checks 7 and 8, if any (R335, R359). -/
def State.writeRefusal (s : State) (o : Obj) (code inst : Nat) (v : Int) : Option Nat :=
  if !o.accepts code v then some (if isSelector code then Abort.selector else Abort.range)
  else if o.acc = .rw1c then none
  else
    let t := s.setReg code inst v
    if code = Code.findGo ∧ v = 1 ∧ s.archReadable = false then some Abort.drive
    else if (o.acc = .rwp ∨ o.acc = .rw) ∧ t.settingOutside o.code inst = true then some Abort.range
    else if (o.acc = .rwp ∨ o.acc = .rw) ∧ s.settingRefused t false code o.code inst = true then some Abort.state
    else if s.commandRefused code inst v then some Abort.state
    else none

end Sys2Proof.Machine
end

