-- ==== Sys2Proof/Machine/Access.lean ====
section
/-! DEFINITION. Host access: management requests on the three paths (R329–R352), the management SPI (R353–R356), and the
commands that are host writes with a row of their own. Every request comes to `request`, whichever path and op it has. -/

namespace Sys2Proof.Machine

/-- What an executed request answers: the bytes after its head, or an abort code (R332). -/
abbrev Reply := Except Nat (List Byte)

/-- The master code of a path (R376 FEC_MASTER). -/
def masterOf (q : Path) : Nat :=
  match q with
  | .oxlA => 1
  | .oxlB => 2
  | .spi => 3

/-- The counter of aborts of a path (R360). -/
def abortCode (q : Path) : Nat :=
  match q with
  | .spi => Code.abortsSpi
  | .oxlA => Code.abortsA
  | .oxlB => Code.abortsB

/-! ## Checks 1 to 6 of R335 -/

/-- Whether an op reads (R331). -/
def opReads (op : Nat) : Bool := op == 1 || op == 3 || op == 5
/-- Whether an op writes (R331). -/
def opWrites (op : Nat) : Bool := op == 2 || op == 4 || op == 6
/-- Whether an op is a scalar op (R331). -/
def opScalar (op : Nat) : Bool := op == 1 || op == 2
/-- Whether an op is a domain op (R331). -/
def opDomain (op : Nat) : Bool := op == 3 || op == 4 || op == 5 || op == 6 || op == 8

/-- Checks 1 to 5 of R335 on a request: the object, or the abort code of the first check that fails. -/
def State.checkObject (s : State) (r : MgmtReq) : Except Nat Obj :=
  match findObj (addressCode r.index r.sub) with
  | none => .error (if indexExists r.index then Abort.sub else Abort.index)
  | some o =>
    if !indexAvailable s.lc r.index then .error Abort.lifeCycle
    else if (opReads r.op && o.acc == .wo) || (opWrites r.op && o.acc == .ro) then .error Abort.right
    else if opWrites r.op && o.acc == .rwf && s.lc != 1 && s.lc != 3 then .error Abort.factory
    else if (opDomain r.op && !isDomain o.ty) || (opScalar r.op && isDomain o.ty) then .error Abort.kind
    else .ok o

/-- Whether a read of the drive times out: a command of it has gone unanswered for CMD_TIMEOUT, or is being aborted (R270, R359;
DEDUCED, notes/assumptions/16). -/
def State.driveStalled (s : State) : Bool :=
  s.arch.inFlight.any (fun c => c.aborted.isSome || s.elapsed c.issued s.cmdTimeoutTicks)

/-- Check 6 of R335: whether the selection names nothing usable (R249, R288, R341). -/
def State.selectionBad (s : State) (q : Path) (o : Obj) (writes : Bool) : Option Nat :=
  let x := s.path q
  match o.scope with
  | .trace =>
    if 16 ≤ x.selTrace ∧ (s.archReadable = false ∨ s.driveStalled = true) then some Abort.drive
    else if s.traceSel x.selPort x.selTrace = none then some Abort.instance_
    else if o.code = Code.traceRecord ∧ s.selectedRecord q = none then some Abort.instance_
    else if o.code = Code.traceRecord ∧ (s.archReadable = false ∨ s.driveStalled = true) then some Abort.drive
    else none
  | .cell => if writes ∧ s.cellOwner x.selCell = none then some Abort.instance_ else none
  | _ => none

/-- A selection that is refused; a read of an archived record counts in READ_ERRORS (R288, R290, R291). -/
def selectionRefused (q : Path) (o : Obj) (a : Nat) (s : State) : Reply × State :=
  (.error a, if o.scope = .trace ∧ (16 ≤ (s.path q).selTrace ∨ o.code = Code.traceRecord) then s.bump Code.readErrors 0 else s)

/-! ## Memory errors met by a read -/

/-- The words of a drop context that a drop object is read from: first word and number (R139, R218). -/
def ctxSpan (code : Nat) : Nat × Nat :=
  if code = Code.ffeTaps then (0, 12)
  else if code = Code.dfeTaps then (12, 8)
  else if code = Code.freqOffset then (20, 1)
  else if code = Code.snr ∨ code = Code.margin ∨ code = Code.rxAmpl ∨ code = Code.arrivalOffset then (21, 1)
  else if code = Code.lastRx then (22, 1)
  else if code = Code.ctxFlags then (23, 1)
  else if code / 256 = 0x4031 then (24 + (code % 256 - 1) / 2, 1)
  else if code = Code.identity ∨ code = Code.epoch then (32, 1)
  else if code = Code.dropState ∨ code = Code.mode ∨ code = Code.maxBaud ∨ code = Code.caps ∨
      code = Code.dropTxAtten then (33, 1)
  else if code = Code.advance then (34, 1)
  else if code = Code.standbyMode then (35, 1)
  else if code = Code.lastLevel then (36, 2)
  else if code = Code.soundSnr then (37, 3)
  else if code = Code.dsAmpl then (39, 1)
  else if code / 256 = 0x4041 then (40 + (code % 256 - 1) / 2, 1)
  else (0, 0)

/-- The word of a drop object that is marked bad, if any (R48). -/
def State.badContextWord (s : State) (code inst : Nat) : Option Nat :=
  let w := ctxSpan code
  (span (ctxWord (inst / 64) (inst % 64) + w.1) w.2).find? (fun i => s.isBad 2 i)

/-- A read that meets a word marked bad: no data, and the fault with the requesting master (R48, R259). -/
def readError (q : Path) (o : Obj) (code inst : Nat) (s : State) : Option State :=
  match o.scope with
  | .cell => if code ≠ Code.cellOwner ∧ s.cellBad inst = true then some (cellReadError inst (masterOf q) s) else none
  | .drop => (s.badContextWord code inst).map (fun w => sramUncorrectable 2 w accRead (masterOf q) s)
  | _ => none

/-! ## Scalar requests -/

/-- READ (R332, R338). -/
def readScalar (q : Path) (r : MgmtReq) (o : Obj) (code inst : Nat) (s : State) : Reply × State :=
  match s.selectionBad q o false with
  | some a => selectionRefused q o a s
  | none =>
    match readError q o code inst s with
    | some t => (.error Abort.internal, t)
    | none =>
      let bytes := fun (v : Int) => addressBytes r.index r.sub (tyCode o.ty) ++ beBytes 8 (encodeValue v)
      match s.valueOf q o code inst with
      | some v => (.ok (bytes v), s)
      | none =>
        let d := s.draw
        (.ok (bytes (tyWrap o.ty d.1)), d.2)

/-- WRITE (R332, R333, R335): an LC_REQUEST is judged by R365. -/
def writeScalar (q : Path) (r : MgmtReq) (o : Obj) (code inst : Nat) (s : State) : Reply × State :=
  match s.selectionBad q o true with
  | some a => selectionRefused q o a s
  | none =>
    match decodeValue o.ty r.value with
    | none => (.error Abort.ty, s)
    | some v =>
      match s.writeRefusal o code inst v with
      | some a => (.error a, s)
      | none =>
        if code = Code.lcRequest then
          (if s.lcAccepts v.toNat then (.ok (addressBytes r.index r.sub 0), lcAdvance s)
           else (.error Abort.state, lcRefuse s))
        else (.ok (addressBytes r.index r.sub 0), hostWrite q o code inst v (masterOf q) s)

/-- DESCRIBE (R332). -/
def describe (r : MgmtReq) (o : Obj) : Reply :=
  .ok (addressBytes r.index r.sub 0 ++
    [byteOf (tyCode o.ty), byteOf (accCode o.acc), byteOf o.describeFlags, 0] ++ beBytes 4 o.size)

/-! ## Domain transfers -/

/-- Ends a path's open transfer without remembering an address (R344). -/
def closeTransfer (q : Path) (s : State) : State :=
  (endTransfer q s).modPath q (fun y => { y with ended := none })

/-- A new DOMAIN_READ_INIT or DOMAIN_WRITE_INIT on a path: a transfer that is open ends and its address is remembered, one that
ended before is forgotten (R344). -/
def replaceTransfer (q : Path) (x : Option Xfer) (s : State) : State :=
  let ended := (s.path q).xfer.map (fun o => (o.index, o.sub))
  (endTransfer q s).modPath q (fun y => { y with xfer := x, ended := ended })

/-- AUTO_STEP after a done DOMAIN_READ_INIT (R340). -/
def autoStep (q : Path) (code : Nat) (s : State) : State :=
  if code = Code.cellRaw ∧ (s.path q).autoStep = 1 then
    s.modPath q (fun y => { y with selCell := (y.selCell + 1) % 2 ^ 20 })
  else s

/-- DOMAIN_READ_INIT (R342). -/
def domainRead (q : Path) (r : MgmtReq) (o : Obj) (code inst : Nat) (s : State) : Reply × State :=
  match s.selectionBad q o false with
  | some a => selectionRefused q o a s
  | none =>
    match readError q o code inst s with
    | some t => (.error Abort.internal, t)
    | none =>
      let bs := s.contentOf q code inst
      let x : Xfer := { code := code, index := r.index % 65536, sub := r.sub % 256, inst := inst, write := false,
                        length := bs.length, data := bs, lastSeg := s.time.tick }
      (.ok (addressBytes r.index r.sub 0 ++ beBytes 4 bs.length ++ beBytes 4 o.size),
        autoStep q code (replaceTransfer q (some x) s))

/-- Gives a DOMAIN or STR object its new content whole (R343, R395). -/
def storeDomain (code inst : Nat) (bs : List Byte) (s : State) : State :=
  let t := s.setDom code inst bs
  if code = Code.goldenMisr then goldenCheck t else t

/-- DOMAIN_WRITE_INIT (R343, R367). -/
def domainWrite (q : Path) (r : MgmtReq) (o : Obj) (code inst : Nat) (s : State) : Reply × State :=
  let done := addressBytes r.index r.sub 0 ++ beBytes 4 o.size
  if o.size < r.arg then (.error Abort.domainLong, s)
  else if !lengthRule code r.arg then (.error Abort.domainRule, s)
  else if code = Code.fwImage ∧ (s.bank s.inactive).state ≠ 0 then (.error Abort.state, s)
  else if r.arg = 0 then (.ok done, storeDomain code inst [] (replaceTransfer q none s))
  else
    let x : Xfer := { code := code, index := r.index % 65536, sub := r.sub % 256, inst := inst, write := true,
                      length := r.arg, data := [], lastSeg := s.time.tick }
    let t := replaceTransfer q (some x) s
    (.ok done, if code = Code.fwImage then loadBegin r.arg t else t)

/-- The open transfer that a segment is for, or its abort code: the count (check 7), then the transfer (check 8)
(R331, R344). -/
def State.segmentOf (s : State) (q : Path) (r : MgmtReq) : Except Nat Xfer :=
  let y := s.path q
  let none_ := if y.ended = some (r.index % 65536, r.sub % 256) then Abort.ended else Abort.noTransfer
  if r.count = 0 ∨ 1024 < r.count then .error Abort.range
  else
    match y.xfer with
    | some x => if x.index = r.index % 65536 ∧ x.sub = r.sub % 256 ∧ x.write = opWrites r.op then .ok x else .error none_
    | none => .error none_

/-- The first bytes of a segment's response (R332). -/
def segmentHead (r : MgmtReq) (count : Nat) : List Byte :=
  addressBytes r.index r.sub 0 ++ beBytes 4 r.arg ++ beBytes 2 count ++ [0, 0]

/-- SEGMENT_READ (R342). -/
def segmentRead (q : Path) (r : MgmtReq) (s : State) : Reply × State :=
  match s.segmentOf q r with
  | .error a => (.error a, s)
  | .ok x =>
    if x.length ≤ r.arg then (.error Abort.segment, s)
    else
      let bs := (x.data.drop r.arg).take r.count
      (.ok (segmentHead r bs.length ++ bs), s.modPath q (fun y => { y with xfer := some { x with lastSeg := s.time.tick } }))

/-- SEGMENT_WRITE (R343, R367): a content that is not valid leaves the transfer as it was. -/
def segmentWrite (q : Path) (r : MgmtReq) (o : Obj) (s : State) : Reply × State :=
  match s.segmentOf q r with
  | .error a => (.error a, s)
  | .ok x =>
    let bs := x.data ++ r.data
    let last := decide (bs.length = x.length)
    let t := s.modPath q (fun y => { y with xfer := some { x with data := bs, lastSeg := s.time.tick } })
    if x.code = Code.fwImage ∧ 2 ≤ s.fw.held.length then (.error Abort.busy, s)
    else if r.arg ≠ x.data.length ∨ x.length < bs.length then (.error Abort.segment, endTransfer q s)
    else if x.code = Code.fwImage then
      (.ok (segmentHead r r.count), if last then endTransfer q (loadSegment r.data true t) else loadSegment r.data false t)
    else if last then
      (if contentOk o bs then (.ok (segmentHead r r.count), storeDomain x.code x.inst bs (endTransfer q t))
       else (.error Abort.content, s))
    else (.ok (segmentHead r r.count), t)

/-- DOMAIN_TRANSFER_TIMEOUT (R344): 10 s without a segment. -/
def transferTimeout (q : Path) (s : State) : State :=
  match (s.path q).xfer with
  | some x => if s.elapsed x.lastSeg (10 * secondTicks) then endTransfer q s else s
  | none => s

/-! ## Requests -/

/-- Executes a request (R331, R335). -/
def execute (q : Path) (r : MgmtReq) (s : State) : Reply × State :=
  if 8 < r.op then (.error Abort.op, s)
  else if !r.lengthOk then (.error Abort.length, s)
  else if r.op = 0 then (.ok [], s)
  else
    match s.checkObject r with
    | .error a => (.error a, s)
    | .ok o =>
      let code := addressCode r.index r.sub
      let inst := s.instOf q o.scope
      if r.op = 1 then readScalar q r o code inst s
      else if r.op = 2 then writeScalar q r o code inst s
      else if r.op = 3 then domainRead q r o code inst s
      else if r.op = 4 then domainWrite q r o code inst s
      else if r.op = 5 then segmentRead q r s
      else if r.op = 6 then segmentWrite q r o s
      else if r.op = 7 then (describe r o, s)
      else (.ok (addressBytes r.index r.sub 0), closeTransfer q s)

/-- The response message (R330, R332). -/
def responseBytes (r : MgmtReq) (y : Reply) : List Byte :=
  match y with
  | .ok tail => [byteOf (r.op % 128 + 128), byteOf r.tid, 0, 0] ++ tail
  | .error a => [byteOf (r.op % 128 + 128), byteOf r.tid, 1, 0] ++ addressBytes r.index r.sub r.last ++ beBytes 4 a

/-- Counts an abort (R360). -/
def countAbort (q : Path) (y : Reply) (s : State) : State :=
  match y with
  | .ok _ => s
  | .error _ => s.bump (abortCode q) 0

/-- Hands the response to its path: held for FETCH, or queued on the link of the request; the response of a request whose link has
been lost since is discarded (R324, R350, R355, R356, R358). -/
def answer (q : Path) (r : MgmtReq) (y : Reply) (s : State) : State :=
  let t := countAbort q y s
  match linkOfPath q with
  | none =>
    { t with spi := { t.spi with held := if t.spi.abandoned then none else some (responseBytes r y), busy := false,
                                 abandoned := false } }
  | some l =>
    if r.silent then t
    else t.modLink l (fun x => { x with mgmt := x.mgmt ++
      [{ cls := 2, epoch := 0, port := 0xFF, drop := 0, copy := false, body := responseBytes r y }] })

/-- The reset of the device by RESET_CMD 2, with the response that went out before it (R363, R445). -/
def commandedReset (q : Path) (bytes : List Byte) (s : State) : State :=
  let t := deviceReset 5 (noteLoss s)
  { t with mgmt := { t.mgmt with sentLast := some (q, bytes) } }

/-- The reset that a done write of RESET_CMD starts once its response is sent (R363, R445). -/
def resetCommand (q : Path) (r : MgmtReq) (y : Reply) (s : State) : State :=
  match y with
  | .error _ => s
  | .ok _ =>
    if r.op = 2 ∧ addressCode r.index r.sub = Code.resetCmd then
      (if r.value = 1 then controllerResets 4 s else commandedReset q (responseBytes r y) s)
    else s

/-- Whether the link of a path is lost for traffic in one state and was not in the one before. -/
def linkGone (q : Path) (before s : State) : Bool :=
  match linkOfPath q with
  | none => false
  | some l => (before.link l).fit && !(s.link l).fit

/-- Executes a request and answers it; the response of a request that takes its own link out of traffic is discarded (R324). -/
def serve (q : Path) (r : MgmtReq) (s : State) : State :=
  let x := execute q r s
  resetCommand q r x.1 (answer q { r with silent := r.silent || linkGone q s x.2 } x.1 x.2)

/-- Whether the boot ROM itself serves a path: the SPI in BLANK without a valid bank (R450, R457). -/
def State.romServes (s : State) (q : Path) : Bool :=
  decide (q = .spi) && decide (s.lc = 0) && !s.faults.started && s.bootChoice.isNone

/-- Serves a request at once, or keeps it until the management controller runs (R363, R448). -/
def admitRequest (q : Path) (r : MgmtReq) (s : State) : State :=
  if s.mgmt.mcReset && !s.romServes q then { s with mgmt := { s.mgmt with waiting := s.mgmt.waiting ++ [(q, r)] } }
  else serve q r s

/-- Counts a rejected SEND or command of the SPI (R353, R355). -/
def spiReject (s : State) : State := ({ s with spi := { s.spi with rej := true } }).bump Code.spiRejects 0

/-- Whether a request that is served now resets the device (R363). -/
def requestResets (q : Path) (r : MgmtReq) (s : State) : Bool :=
  (!s.mgmt.mcReset || s.romServes q) && r.op == 2 && addressCode r.index r.sub == Code.resetCmd && r.value == 2 &&
    (execute q r s).1.isOk

/-- A request that arrives whole: an accepted SEND on the SPI, which holds one request at a time; the body of a frame on a
link, whose path holds at most 16 (R350, R355, R358). Its frame counts in FRAMES_IN behind what it does, as of the same core cycle (R6):
after its own clear of that counter, and not over a reset that it starts. -/
def request (q : Path) (r : MgmtReq) (s : State) : State :=
  match linkOfPath q with
  | none =>
    if s.spi.busy then spiReject s
    else admitRequest q r { s with spi := { s.spi with held := none, rej := false, busy := true, abandoned := false } }
  | some l =>
    let t := if 16 ≤ (s.mgmt.waiting.filter (fun e => decide (e.1 = q))).length then answer q r (.error Abort.busy) s
      else admitRequest q r s
    if requestResets q r s then t else t.bump (linkCode l Code.framesIn) 0

/-- Answers the requests that waited, in their order; a device reset among them ends the rest (R363, R448). -/
def serveAll (rs : List (Path × MgmtReq)) (s : State) : State :=
  match rs with
  | [] => s
  | e :: rest => if s.faults.started then serveAll rest (admitRequest e.1 e.2 s) else s

/-- The management controller runs, and answers what has waited. -/
def serveWaiting (s : State) : State :=
  serveAll s.mgmt.waiting { s with mgmt := { s.mgmt with waiting := [] } }

/-- MC_RESET_END (R448). -/
def mcResetEnd (s : State) : State :=
  if s.mgmt.mcReset ∧ s.faults.started = true then serveWaiting { s with mgmt := { s.mgmt with mcReset := false } } else s

/-- STARTUP with the requests that arrived before the firmware ran (R449). -/
def startup (bad : List Nat) (s : State) : State :=
  if s.mgmt.mcReset ∧ s.faults.started = false ∧ s.fw.booted then serveWaiting (startupCore bad s) else s

/-- A WRITE request to an object of the dictionary. -/
def writeRequest (q : Path) (tid code value : Nat) (s : State) : State :=
  request q { op := 2, tid := tid, index := code / 256, sub := code % 256, value := value } s

/-! ## The management SPI -/

/-- The bytes on MSPI_DO of a transaction: the status byte, then what follows it (R353). -/
def spiOut (status : Byte) (bs : List Byte) (s : State) : State := { s with spi := { s.spi with miso := status :: bs } }

/-- STATUS (R353). -/
def spiStatusCmd (clocked : Nat) (s : State) : State := spiOut s.spiStatus (List.replicate clocked s.spiStatus) s

/-- FETCH: the held response with its length and CRC-16, an empty one where none is held (R353, R356). -/
def spiFetch (clocked : Nat) (s : State) : State :=
  let body := s.spi.held.getD []
  let framed := beBytes 2 body.length ++ body
  let out := framed ++ beBytes 2 (spiCrc framed).toNat
  spiOut s.spiStatus ((out ++ List.replicate clocked 0).take clocked) s

/-- The message of a SEND, where the transaction is accepted (R355). -/
def sendMessage (bytes : List Byte) : Option (List Byte) :=
  let n := beVal (bytes.take 2)
  let m := (bytes.drop 2).take n
  if 4 ≤ n ∧ n ≤ 1040 ∧ bytes.length = n + 4 ∧ beVal (bytes.drop (n + 2)) = (spiCrc (bytes.take 2 ++ m)).toNat then some m
  else none

/-- SEND, with the bytes after the command byte (R355). -/
def spiSend (bytes : List Byte) (s : State) : State :=
  let t := spiOut s.spiStatus (List.replicate bytes.length 0) s
  match sendMessage bytes with
  | some m => request .spi (parseRequest m) t
  | none => spiReject t

/-- ABANDON (R356): it ends the path's open transfer; an address that R344 remembers of one before it stays. -/
def spiAbandon (clocked : Nat) (s : State) : State :=
  let t := (endTransfer .spi s).modPath .spi (fun y => { y with ended := (s.path .spi).ended })
  spiOut s.spiStatus (List.replicate clocked 0) { t with spi := { t.spi with held := none, rej := false, abandoned := t.spi.busy } }

/-- Any other command (R353). -/
def spiUnknown (clocked : Nat) (s : State) : State := spiReject (spiOut s.spiStatus (List.replicate clocked 0) s)

/-- A transaction of the management SPI: the bytes on MSPI_DI, of which the first is the command (R353). -/
def spiTransaction (bytes : List Byte) (s : State) : State :=
  match bytes with
  | [] => s
  | c :: rest =>
    if c = 0x00#8 ∨ c = 0xFF#8 then spiStatusCmd rest.length s
    else if c = 0x01#8 then spiSend rest s
    else if c = 0x02#8 then spiFetch rest.length s
    else if c = 0x03#8 then spiAbandon rest.length s
    else spiUnknown rest.length s

/-! ## Frames and blocks from the host -/

/-- The path of a link. -/
def pathOfLink (l : Link) : Path :=
  match l with
  | .a => .oxlA
  | .b => .oxlB

/-- A frame from the host on an up link: the first rule of R310 that applies disposes of it. A good frame of class 2 or 3 is the
request that its body carries (R309, R330, R318). -/
def hostFrame (l : Link) (f : HostFrame) (s : State) : State :=
  if (s.link l).state ≠ 5 then s
  else if !startGood f then s.bump (linkCode l Code.startErrors) 0
  else if !endGood f then s.bump (linkCode l Code.frameErrors) 0
  else if badClass f then
    discardHost l (hostPort f) (hostDrop f) 2 (hostLength f) (s.bump (linkCode l Code.framesIn) 0)
  else if hostClass f = 2 then request (pathOfLink l) (parseRequest (hostBody f)) s
  else if hostClass f = 3 then bulkFrame l (hostBody f) s
  else routeFrame l f (s.bump (linkCode l Code.framesIn) 0)

/-- A START block comes in: a frame in progress ends as a frame error; a START whose hcrc fails is a start error, and blocks up to
the next START are dropped (R310 rules 1 and 2). -/
def startIn (l : Link) (b : BitVec 64) (s : State) : State :=
  let f : HostFrame := { start := b, data := [], stop := none }
  let s1 := match (s.link l).rxFrame with
    | some g => hostFrame l g s
    | none => s
  if startGood f then s1.modLink l (fun x => { x with rxFrame := some f, rxSkip := false })
  else hostFrame l f (s1.modLink l (fun x => { x with rxFrame := none, rxSkip := true }))

/-- A block of the merged stream comes in on an up link, with its sync header as a number of two bits (R300, R302, R303, R310). -/
def blockIn (l : Link) (sync : Nat) (b : BitVec 64) (s : State) : State :=
  let x := s.link l
  if x.state ≠ 5 then s
  else if sync = 1 then
    match x.rxFrame with
    | some f => s.modLink l (fun y => { y with rxFrame := some { f with data := f.data ++ [b] } })
    | none => if x.rxSkip then s else s.bump (linkCode l Code.blockErrors) 0
  else if sync ≠ 2 then s.bump (linkCode l Code.syncErrors) 0
  else
    match blockByte b 0 with
    | 0x1E => s
    | 0x4B => s
    | 0x78 => startIn l b s
    | 0xE1 =>
      (match x.rxFrame with
       | some f => hostFrame l { f with stop := some b } (s.modLink l (fun y => { y with rxFrame := none }))
       | none => s)
    | 0x2D => flowIn l b s
    | 0x55 => s.modLink l (fun y => { y with rxQuiet := true })
    | _ => s.bump (linkCode l Code.blockErrors) 0

/-- Notes the two sync headers of a pair of blocks; 16 invalid ones among the last 64 of a lane lose the receive side (R307). -/
def syncSeen (l : Link) (h0 h1 : Nat) (s : State) : State :=
  let bad := fun (h : Nat) => decide (h ≠ 1 ∧ h ≠ 2)
  let t := s.modLink l (fun x => { x with sync0 := (bad h0 :: x.sync0).take 64, sync1 := (bad h1 :: x.sync1).take 64 })
  let many := fun (w : List Bool) => decide (16 ≤ (w.filter id).length)
  if many (t.link l).sync0 || many (t.link l).sync1 then rxLost l t else t

/-- An ALIGN pair is missing at its position: two in a row lose the receive side (R307). -/
def alignMissed (l : Link) (s : State) : State :=
  let t := s.modLink l (fun x => { x with alignBad := x.alignBad + 1, alignGood := 0,
                                          alignIn := x.alignIn.map (fun c => (c + 1) % 65536) })
  if 2 ≤ (t.link l).alignBad then rxLost l t else t

/-- One block from each data lane, as levels, on a receive side in deskew, up or Quiet: an ALIGN pair, which is neither descrambled
nor counted; where one is due and missing its position passes; else two numbered blocks, data lane 0 first or, with the lanes found
swapped, data lane 1 (R298–R302, R306, R307). -/
def pairIn (l : Link) (lane0 lane1 : List Int) (s : State) : State :=
  let x := s.link l
  let rx := fun (n : Nat) => let v := atOr x.laneSet n (false, false, false, false); (v.1, v.2.1)
  let a0 := receiveOnLane (rx 0) x.rx0 true lane0
  let a1 := receiveOnLane (rx 1) x.rx1 true lane1
  let isAlign := fun (a : (Nat × BitVec 64) × LaneCoder) => a.1.1 == 2 && blockByte a.1.2 0 == 0x4B
  if x.state ≠ 4 ∧ x.state ≠ 5 ∧ x.state ≠ 6 then s
  else if isAlign a0 && isAlign a1 && (x.state != 5 || 16384 ≤ x.rxBlocks || x.alignBad != 0) then
    let t := s.modLink l (fun y => { y with rx0 := a0.2, rx1 := a1.2, rxBlocks := 0 })
    if x.state = 4 ∧ x.alignIn = none then linkDeskew l a0.1.2 a1.1.2 t else alignIn l a0.1.2 a1.1.2 t
  else
    let missed := if 16384 ≤ x.rxBlocks ∧ x.state = 5 then alignMissed l s else s
    let b0 := receiveOnLane (rx 0) x.rx0 false lane0
    let b1 := receiveOnLane (rx 1) x.rx1 false lane1
    let t := syncSeen l b0.1.1 b1.1.1 (missed.modLink l (fun y => { y with
      rx0 := b0.2, rx1 := b1.2, rxBlocks := if 16384 ≤ y.rxBlocks then 1 else y.rxBlocks + 1 }))
    let first := if x.laneMap % 2 = 1 then b1.1 else b0.1
    let second := if x.laneMap % 2 = 1 then b0.1 else b1.1
    blockIn l second.1 second.2 (blockIn l first.1 first.2 t)

/-- Levels of the two data lanes, 33 to a block, as they come in from the host (R300, R302). -/
def levelsIn (fuel : Nat) (l : Link) (lane0 lane1 : List Int) (s : State) : State :=
  match fuel with
  | 0 => s
  | n + 1 =>
    if lane0.length < 33 ∨ lane1.length < 33 then s
    else levelsIn n l (lane0.drop 33) (lane1.drop 33) (pairIn l (lane0.take 33) (lane1.take 33) s)

/-- FRAME_ERROR (R303, R310). -/
def frameError (l : Link) (e : FrameFault) (s : State) : State :=
  match e with
  | .badBlock => if (s.link l).state ≠ 5 then s else s.bump (linkCode l Code.blockErrors) 0
  | .badSync => if (s.link l).state ≠ 5 then s else s.bump (linkCode l Code.syncErrors) 0
  | .frame f => hostFrame l f s
  | .received lane0 lane1 => levelsIn (lane0.length / 33) l lane0 lane1 s

end Sys2Proof.Machine
end

