-- ==== Sys2Proof/Machine/Commands.lean ====
section
/-! DEFINITION. The commands of host access: the management requests and SPI transactions, and the host writes that have
a row of their own. Each of the latter is the WRITE request to its object, so that every check of R335 applies to it. -/

namespace Sys2Proof.Machine

/-! ## Requests -/

/-- NOP (R331). -/
def execNop (path : Path) (tid : Nat) (s : State) : Host.Outcome State Fault Refusal :=
  run (request path { op := 0, tid := tid }) s
/-- READ (R331). -/
def execRead (path : Path) (tid index sub : Nat) (s : State) : Host.Outcome State Fault Refusal :=
  run (request path { op := 1, tid := tid, index := index, sub := sub }) s
/-- WRITE (R331). -/
def execWrite (path : Path) (tid index sub value : Nat) (s : State) : Host.Outcome State Fault Refusal :=
  run (request path { op := 2, tid := tid, index := index, sub := sub, value := value }) s
/-- DOMAIN_READ_INIT (R342). -/
def execDomainReadInit (path : Path) (tid index sub : Nat) (s : State) : Host.Outcome State Fault Refusal :=
  run (request path { op := 3, tid := tid, index := index, sub := sub }) s
/-- DOMAIN_WRITE_INIT (R343). -/
def execDomainWriteInit (path : Path) (tid index sub length : Nat) (s : State) : Host.Outcome State Fault Refusal :=
  run (request path { op := 4, tid := tid, index := index, sub := sub, arg := length }) s
/-- SEGMENT_READ (R342). -/
def execSegmentRead (path : Path) (tid index sub offset count : Nat) (s : State) : Host.Outcome State Fault Refusal :=
  run (request path { op := 5, tid := tid, index := index, sub := sub, arg := offset, count := count }) s
/-- SEGMENT_WRITE (R343): the length is right only for as many data bytes as the count says (R331). -/
def execSegmentWrite (path : Path) (tid index sub offset count : Nat) (data : List Byte) (s : State) :
    Host.Outcome State Fault Refusal :=
  run (request path { op := 6, tid := tid, index := index, sub := sub, arg := offset, count := count, data := data,
                      lengthOk := decide (data.length = count) }) s
/-- DESCRIBE (R332). -/
def execDescribe (path : Path) (tid index sub : Nat) (s : State) : Host.Outcome State Fault Refusal :=
  run (request path { op := 7, tid := tid, index := index, sub := sub }) s
/-- DOMAIN_END (R344). -/
def execDomainEnd (path : Path) (tid index sub : Nat) (s : State) : Host.Outcome State Fault Refusal :=
  run (request path { op := 8, tid := tid, index := index, sub := sub }) s
/-- OP_UNKNOWN (R331): an op that the row is not for is that op's request. -/
def execOpUnknown (path : Path) (tid op index sub : Nat) (s : State) : Host.Outcome State Fault Refusal :=
  run (request path { op := op, tid := tid, index := index, sub := sub, lengthOk := decide (8 < op) }) s
/-- DOMAIN_TRANSFER_TIMEOUT (R344). -/
def execDomainTransferTimeout (path : Path) (s : State) : Host.Outcome State Fault Refusal := run (transferTimeout path) s

/-! ## The SPI -/

/-- SPI_STATUS (R353): command 00h, and FFh alike. -/
def execSpiStatus (clocked : Nat) (s : State) : Host.Outcome State Fault Refusal :=
  run (spiTransaction (0x00#8 :: List.replicate clocked 0)) s
/-- SPI_SEND (R355). -/
def execSpiSend (bytes : List Byte) (s : State) : Host.Outcome State Fault Refusal := run (spiTransaction (0x01#8 :: bytes)) s
/-- SPI_FETCH (R356). -/
def execSpiFetch (clocked : Nat) (s : State) : Host.Outcome State Fault Refusal :=
  run (spiTransaction (0x02#8 :: List.replicate clocked 0)) s
/-- SPI_ABANDON (R356). -/
def execSpiAbandon (clocked : Nat) (s : State) : Host.Outcome State Fault Refusal :=
  run (spiTransaction (0x03#8 :: List.replicate clocked 0)) s
/-- SPI_UNKNOWN_COMMAND (R353): the transaction of a command byte, whichever it is. -/
def execSpiUnknownCommand (command : Byte) (clocked : Nat) (s : State) : Host.Outcome State Fault Refusal :=
  run (spiTransaction (command :: List.replicate clocked 0)) s

/-! ## Frames from the host -/

/-- HOST_DATA_FRAME (R310). -/
def execHostDataFrame (link : Link) (frame : HostFrame) (s : State) : Host.Outcome State Fault Refusal :=
  run (hostFrame link frame) s
/-- FRAME_ERROR (R303, R310). -/
def execFrameError (link : Link) (fault : FrameFault) (s : State) : Host.Outcome State Fault Refusal :=
  run (frameError link fault) s

/-! ## Host writes -/

/-- CLEAR_COUNTER (R336). -/
def execClearCounter (path : Path) (tid index sub value : Nat) (s : State) : Host.Outcome State Fault Refusal :=
  run (request path { op := 2, tid := tid, index := index, sub := sub, value := value }) s
/-- COMMIT (R346). -/
def execCommit (path : Path) (tid value : Nat) (s : State) : Host.Outcome State Fault Refusal :=
  run (writeRequest path tid Code.commit value) s
/-- DEFAULTS (R349). -/
def execDefaults (path : Path) (tid value : Nat) (s : State) : Host.Outcome State Fault Refusal :=
  run (writeRequest path tid Code.defaults value) s
/-- REVERT (R349). -/
def execRevert (path : Path) (tid value : Nat) (s : State) : Host.Outcome State Fault Refusal :=
  run (writeRequest path tid Code.revert value) s
/-- EPOCH_SET (R62). -/
def execEpochSet (path : Path) (tid value : Nat) (s : State) : Host.Outcome State Fault Refusal :=
  run (writeRequest path tid Code.epochSet value) s
/-- REALIGN (R71). -/
def execRealign (path : Path) (tid value : Nat) (s : State) : Host.Outcome State Fault Refusal :=
  run (writeRequest path tid Code.realign value) s
/-- CYCLE_LEN (R64). -/
def execCycleLen (path : Path) (tid value : Nat) (s : State) : Host.Outcome State Fault Refusal :=
  run (writeRequest path tid Code.cycleLen value) s
/-- DS_WINDOW (R79). -/
def execDsWindow (path : Path) (tid value : Nat) (s : State) : Host.Outcome State Fault Refusal :=
  run (writeRequest path tid Code.dsWindow value) s
/-- CONT_WINDOW (R79). -/
def execContWindow (path : Path) (tid value : Nat) (s : State) : Host.Outcome State Fault Refusal :=
  run (writeRequest path tid Code.contWindow value) s
/-- TRAV_WINDOW (R79). -/
def execTravWindow (path : Path) (tid value : Nat) (s : State) : Host.Outcome State Fault Refusal :=
  run (writeRequest path tid Code.travWindow value) s
/-- GRANT (R85). -/
def execGrant (path : Path) (tid value : Nat) (s : State) : Host.Outcome State Fault Refusal :=
  run (writeRequest path tid Code.grant value) s
/-- EQ_RESET (R145). -/
def execEqReset (path : Path) (tid value : Nat) (s : State) : Host.Outcome State Fault Refusal :=
  run (writeRequest path tid Code.eqReset value) s
/-- ROLL_CALL (R185). -/
def execRollCall (path : Path) (tid value : Nat) (s : State) : Host.Outcome State Fault Refusal :=
  run (writeRequest path tid Code.rollCall value) s
/-- RELEVEL (R204). -/
def execRelevel (path : Path) (tid value : Nat) (s : State) : Host.Outcome State Fault Refusal :=
  run (writeRequest path tid Code.relevel value) s
/-- SLEEP (R210). -/
def execSleep (path : Path) (tid value : Nat) (s : State) : Host.Outcome State Fault Refusal :=
  run (writeRequest path tid Code.sleep value) s
/-- WAKE (R211). -/
def execWake (path : Path) (tid value : Nat) (s : State) : Host.Outcome State Fault Refusal :=
  run (writeRequest path tid Code.wake value) s
/-- RELEASE (R212). -/
def execRelease (path : Path) (tid value : Nat) (s : State) : Host.Outcome State Fault Refusal :=
  run (writeRequest path tid Code.release value) s
/-- TWIN_FAILOVER (R215). -/
def execTwinFailover (path : Path) (tid value : Nat) (s : State) : Host.Outcome State Fault Refusal :=
  run (writeRequest path tid Code.twinFailover value) s
/-- TWIN_RETURN (R216). -/
def execTwinReturn (path : Path) (tid value : Nat) (s : State) : Host.Outcome State Fault Refusal :=
  run (writeRequest path tid Code.twinReturn value) s
/-- TWIN_ENABLE (R371). -/
def execTwinEnable (path : Path) (tid value : Nat) (s : State) : Host.Outcome State Fault Refusal :=
  run (writeRequest path tid Code.twinEnable value) s
/-- TWIN_PARTNER (R20). -/
def execTwinPartner (path : Path) (tid value : Nat) (s : State) : Host.Outcome State Fault Refusal :=
  run (writeRequest path tid Code.twinPartner value) s
/-- PORT_MODE (R370). -/
def execPortMode (path : Path) (tid value : Nat) (s : State) : Host.Outcome State Fault Refusal :=
  run (writeRequest path tid Code.portMode value) s
/-- RETRAIN (R172). -/
def execRetrain (path : Path) (tid value : Nat) (s : State) : Host.Outcome State Fault Refusal :=
  run (writeRequest path tid Code.trunkRetrain value) s
/-- BENCH_CAPTURE (R241). -/
def execBenchCapture (path : Path) (tid value : Nat) (s : State) : Host.Outcome State Fault Refusal :=
  run (writeRequest path tid Code.benchCapture value) s
/-- LEAD_IN_CAL (R232). -/
def execLeadInCal (path : Path) (tid value : Nat) (s : State) : Host.Outcome State Fault Refusal :=
  run (writeRequest path tid Code.leadInCal value) s
/-- VF_CAL (R233). -/
def execVfCal (path : Path) (tid value : Nat) (s : State) : Host.Outcome State Fault Refusal :=
  run (writeRequest path tid Code.vfCal value) s
/-- CELL_ALLOC_A (R247). -/
def execCellAllocA (path : Path) (tid value : Nat) (s : State) : Host.Outcome State Fault Refusal :=
  run (writeRequest path tid Code.cellAllocA value) s
/-- CELL_ALLOC_B (R247). -/
def execCellAllocB (path : Path) (tid value : Nat) (s : State) : Host.Outcome State Fault Refusal :=
  run (writeRequest path tid Code.cellAllocB value) s
/-- CELL_LAYOUT (R248). -/
def execCellLayout (path : Path) (tid value : Nat) (s : State) : Host.Outcome State Fault Refusal :=
  run (writeRequest path tid Code.cellLayout value) s
/-- CELL_START (R256). -/
def execCellStart (path : Path) (tid value : Nat) (s : State) : Host.Outcome State Fault Refusal :=
  run (writeRequest path tid Code.cellStart value) s
/-- CELL_WIDTH (R256). -/
def execCellWidth (path : Path) (tid value : Nat) (s : State) : Host.Outcome State Fault Refusal :=
  run (writeRequest path tid Code.cellWidth value) s
/-- CELL_STATE (R256). -/
def execCellState (path : Path) (tid value : Nat) (s : State) : Host.Outcome State Fault Refusal :=
  run (writeRequest path tid Code.cellState value) s
/-- ARCH_FORMAT (R273). -/
def execArchFormat (path : Path) (tid value : Nat) (s : State) : Host.Outcome State Fault Refusal :=
  run (writeRequest path tid Code.archFormat value) s
/-- ARCH_ADOPT (R273). -/
def execArchAdopt (path : Path) (tid value : Nat) (s : State) : Host.Outcome State Fault Refusal :=
  run (writeRequest path tid Code.archAdopt value) s
/-- SEL_TRACE (R288). -/
def execSelTrace (path : Path) (tid value : Nat) (s : State) : Host.Outcome State Fault Refusal :=
  run (writeRequest path tid Code.selTrace value) s
/-- FIND_GO (R289). -/
def execFindGo (path : Path) (tid value : Nat) (s : State) : Host.Outcome State Fault Refusal :=
  run (writeRequest path tid Code.findGo value) s
/-- LINK_MODE (R324). -/
def execLinkMode (path : Path) (tid value : Nat) (s : State) : Host.Outcome State Fault Refusal :=
  run (writeRequest path tid Code.linkMode value) s
/-- PREFERRED (R324). -/
def execPreferred (path : Path) (tid value : Nat) (s : State) : Host.Outcome State Fault Refusal :=
  run (writeRequest path tid Code.preferred value) s
/-- FORCE_SWITCH (R324). -/
def execForceSwitch (path : Path) (tid value : Nat) (s : State) : Host.Outcome State Fault Refusal :=
  run (writeRequest path tid Code.forceSwitch value) s
/-- LC_REQUEST (R365). -/
def execLcRequest (path : Path) (tid value : Nat) (s : State) : Host.Outcome State Fault Refusal :=
  run (writeRequest path tid Code.lcRequest value) s
/-- FW_BANK_ERASE (R367). -/
def execFwBankErase (path : Path) (tid value : Nat) (s : State) : Host.Outcome State Fault Refusal :=
  run (writeRequest path tid Code.fwBankErase value) s
/-- FW_SWITCH (R459). -/
def execFwSwitch (path : Path) (tid value : Nat) (s : State) : Host.Outcome State Fault Refusal :=
  run (writeRequest path tid Code.fwSwitch value) s
/-- WAKE_ALARM (R428). -/
def execWakeAlarm (path : Path) (tid value : Nat) (s : State) : Host.Outcome State Fault Refusal :=
  run (writeRequest path tid Code.wakeAlarm value) s
/-- FULL_TEST (R399). -/
def execFullTest (path : Path) (tid value : Nat) (s : State) : Host.Outcome State Fault Refusal :=
  run (writeRequest path tid Code.fullTest value) s
/-- FAULT_ACK (R412). -/
def execFaultAck (path : Path) (tid value : Nat) (s : State) : Host.Outcome State Fault Refusal :=
  run (writeRequest path tid Code.faultAck value) s
/-- FAULT_CLEAR (R413). -/
def execFaultClear (path : Path) (tid value : Nat) (s : State) : Host.Outcome State Fault Refusal :=
  run (writeRequest path tid Code.faultClear value) s
/-- FEC_REARM (R408). -/
def execFecRearm (path : Path) (tid value : Nat) (s : State) : Host.Outcome State Fault Refusal :=
  run (writeRequest path tid Code.fecRearm value) s
/-- FAULT_INJECT (R419). -/
def execFaultInject (path : Path) (tid value : Nat) (s : State) : Host.Outcome State Fault Refusal :=
  run (writeRequest path tid Code.faultInject value) s
/-- OXL_RETRAIN (R307). -/
def execOxlRetrain (path : Path) (tid : Nat) (link : Link) (value : Nat) (s : State) : Host.Outcome State Fault Refusal :=
  run (writeRequest path tid (linkCode link Code.linkRetrain) value) s
/-- LINK_ENABLE (R307). -/
def execLinkEnable (path : Path) (tid : Nat) (link : Link) (value : Nat) (s : State) : Host.Outcome State Fault Refusal :=
  run (writeRequest path tid (linkCode link Code.linkEnable) value) s
/-- PRBS_GEN (R326). A link has lanes 0 and 1 (notes/assumptions/2). -/
def execPrbsGen (path : Path) (tid : Nat) (link : Link) (lane value : Nat) (s : State) : Host.Outcome State Fault Refusal :=
  run (fun t => if lane < 2 then writeRequest path tid (laneCode link lane Code.prbsGen) value t else t) s
/-- PRBS_CHECK (R326). A link has lanes 0 and 1 (notes/assumptions/2). -/
def execPrbsCheck (path : Path) (tid : Nat) (link : Link) (lane value : Nat) (s : State) : Host.Outcome State Fault Refusal :=
  run (fun t => if lane < 2 then writeRequest path tid (laneCode link lane Code.prbsCheck) value t else t) s
/-- PRBS_CLEAR (R325). A link has lanes 0 and 1 (notes/assumptions/2). -/
def execPrbsClear (path : Path) (tid : Nat) (link : Link) (lane value : Nat) (s : State) : Host.Outcome State Fault Refusal :=
  run (fun t => if lane < 2 then writeRequest path tid (laneCode link lane Code.prbsClear) value t else t) s
/-- RESET_CMD_CONTROLLER (R363). -/
def execResetCmdController (path : Path) (tid : Nat) (s : State) : Host.Outcome State Fault Refusal :=
  run (writeRequest path tid Code.resetCmd 1) s
/-- RESET_CMD_DEVICE (R445). -/
def execResetCmdDevice (path : Path) (tid : Nat) (s : State) : Host.Outcome State Fault Refusal :=
  run (writeRequest path tid Code.resetCmd 2) s
/-- CLUSTER_TARGET_DORMANT (R425). -/
def execClusterTargetDormant (path : Path) (tid : Nat) (s : State) : Host.Outcome State Fault Refusal :=
  run (writeRequest path tid Code.clusterTarget 2) s
/-- CLUSTER_TARGET_WAKE (R428). -/
def execClusterTargetWake (path : Path) (tid : Nat) (s : State) : Host.Outcome State Fault Refusal :=
  run (writeRequest path tid Code.clusterTarget 0) s

/-! ## Life cycle, start-up and the management controller -/

/-- LC_ENTRY_ERASURE (R450). -/
def execLcEntryErasure (s : State) : Host.Outcome State Fault Refusal := run lcErasure s
/-- MC_RESET_END (R448). -/
def execMcResetEnd (s : State) : Host.Outcome State Fault Refusal := run mcResetEnd s
/-- STARTUP (R449). -/
def execStartup (badPages : List Nat) (s : State) : Host.Outcome State Fault Refusal := run (startup badPages) s

end Sys2Proof.Machine
end

