-- ==== Sys2Proof/Machine/Cycle.lean ====
section
/-! DEFINITION. The datum and the cycle (R54, R59, R63, R64, R70, R78–R82, R87, R90–R92, R100–R106, R122–R126, R128, R129,
R185–R187, R194, R197–R200, R205, R214, R370, R447, R449, R485). DATUM is the event of a whole second and comes before the
CYCLE_START of the cycle that begins there (notes/assumptions/1). -/

namespace Sys2Proof.Machine

/-! ## Beacons -/

/-- Whether roll call is open in the cycle that begins at a datum: a port that enters branch mode there opens with the windows
that R185 asks for, unless R447 holds it (R126, R370). -/
def State.rollOpenAt (s : State) (p : Nat) : Bool :=
  if s.isBranch p then s.rollOpen p
  else s.regB Code.rollCall p && (s.port p).begun && !(s.port p).rollHeld && s.rollWindowsOk p

/-- The payload of a standard beacon (R126). -/
def State.beaconBytes (s : State) (p d : Nat) : List Byte :=
  let wake := (s.port p).wakeBits.foldl (fun m n => m ||| 2 ^ (n - 1)) 0
  beBytes 8 d ++ beBytes 4 wake ++
    [byteOf (s.time.n % 16 + s.time.grade * 16 + (if s.rollOpenAt p then 64 else 0) + (if s.time.epoch.isSome then 128 else 0)),
     byteOf s.time.hops, byteOf p, byteOf (s.regN Code.beaconInterval p - 1)]

/-- The cycles from the start of a beacon to the first cycle that starts at least 20 ms after its window (R81, R211). -/
def wakeGap (n : Nat) : Nat := beaconCycles n + (20 + n - 1) / n

/-- The beacon of a port at a datum: its burst, its window, and the wakes that it begins (R81, R122–R126, R211). `k` is the
count of the cycle that begins there. -/
def beaconDatum (d k p : Nat) (s : State) : State :=
  let x := s.port p
  if x.started ∧ x.stopped = false ∧ s.regN Code.portMode p = 1 ∧ s.beaconSecond p (d / secondTicks) = true then
    let b : Burst := { mode := 0x100, typ := 1, drop := 63, epoch := 0, seq := 0, ack := 0, flags := 0,
                       payload := s.beaconBytes p d, start := 20, cycle := s.numberOf k, seed := 63,
                       atten := s.regN Code.beaconAtten p }
    let s1 := forAll x.wakeBits (fun n t => t.modCtx p n (fun c => { c with wakeFrom := some (k + wakeGap t.time.n) })) s
    (leaveSteep p s1).modPort p (fun y => { y with onLine := [b], beaconLeft := beaconCycles s.time.n, beaconCut := false,
                                                   wakeBits := [] })
  else s

/-! ## The datum -/

/-- A cluster that waits for it comes into service at a datum: its ports start, and the sleep ledger is closed (R90, R91,
R236, R403 sources 7 and 30). -/
def clusterDatum (d k : Nat) (s : State) : State :=
  let c := s.cluster k
  if c.ready then
    let late := match c.intended with
      | some i => decide (i < d)
      | none => false
    let s1 := s.modCluster k (fun x => { x with
      ready := false, intended := none, fromNvm := false, dwell := 0, dwellFresh := false, dwellLen := 0, negative := false })
    let s2 := forAll (portsOf k) (fun p t => t.modPort p (fun x => { x with started := true, driverOff := false, steep := false })) s1
    let s3 := modLedger k (fun l => { l with
      exit := d, gradeOut := s.time.grade, opened := false,
      flags := l.flags ||| (if c.fromNvm then 1 else 0) ||| (if late then 4 else 0) }) s2
    endCondition 30 [k] (endCondition 7 [k] s3)
  else s

/-- The cells laid out at start-up without a drive take the first datum's second and page (R263). -/
def stampCells (second : Nat) (s : State) : State :=
  let n := second % 2 ^ 32
  let one := fun (p : Nat) (b : Bool) (t : State) =>
    remake false p b { t.layoutOf p b with time := n, page := t.time.page }
      (fun _ c => { c with time := n, page := s.time.page }) t
  if s.cells.stampDue then
    forAll allPorts (fun p t => if (t.port p).trav.restored then t else one p true (one p false t))
      { s with cells := { s.cells with stampDue := false } }
  else s

/-- The committed CLUSTER_TARGET of a cluster: what the current set holds, else the default (R345, R449). -/
def State.committedTarget (s : State) (k : Nat) : Int :=
  (s.currentSet.bind (fun c => Tab.find c.regs (objKey Code.clusterTarget k))).getD (plainDefault Code.clusterTarget k s.time.n)

/-- What the first datum after a device-scope reset adds: start-up has completed, and the clusters whose committed target is Dormant
enter, those lost to a failed check included (R426, R449). -/
def firstDatumWork (second : Nat) (s : State) : State :=
  if s.power.started then s
  else
    let s1 := stampCells second { s with power := { s.power with started := true } }
    forAll (List.range 9) (fun k t =>
      if t.committedTarget k = 2 ∧ ((t.cluster k).state ≤ 1 ∨ (t.cluster k).state = 4) then
        t.modCluster k (fun c => { c with entering := true })
      else t) s1

/-- The datum that comes next: the first whole second that has not been handled, or the one just passed where the next cycle to
begin starts at it, as at a grid whose datum lies before the edge that sets it (R59). -/
def State.nextDatum (s : State) : Nat :=
  let e := s.time.time64 / secondTicks * secondTicks
  let d := (s.time.time64 + (secondTicks - 1)) / secondTicks * secondTicks
  if s.time.nextCycle = e ∧ s.time.lastDatum ≠ some e then e
  else if s.time.lastDatum = some d then d + secondTicks else d

/-- DATUM (R54, R58, R59, R64, R81, R90, R222, R236, R385, R449); `xo` is the offset of XO_25M that learning has reached. -/
def datum (xo : Int) (s : State) : State :=
  if s.time.running = false then s
  else
    let d := s.nextDatum
    let second := d / secondTicks
    let s1 := skipTo d (advanceTo d s)
    let begun := decide (d < s1.time.nextCycle)
    let n := s1.regN Code.cycleLen 0
    let s2 := { s1 with
      time := { s1.time with lastDatum := some d, n := n, nextCycle := if begun then d + n * milliTicks else d }
      aon := { s1.aon with rtc := s1.time.time64 } }
    let s3 := forAll (List.range 9) (clusterDatum d) s2
    let s4 := firstDatumWork second s3
    let s5 := forAll allPorts (beaconDatum d (if begun then s4.time.cycles else s4.time.cycles + 1)) s4
    let s6 := forAll allPorts (fun p t => travDatum p second t) s5
    let s7 := forAll (List.range 9) (fun k t => if (t.cluster k).state ≤ 1 then dwellDatum k t else t) s6
    rotationDatum second (learnOffset xo s7)

/-! ## The end of a cycle on a port -/

/-- Ends a cycle for a drop: an acknowledgement point that brought no good burst repeats the last ack, and at the end of a
map period the drop's counts go on (R198, R209, R211, R212, R215). -/
def closeDrop (p : Nat) (periodEnds : Bool) (d : Nat) (s : State) : State :=
  let s1 := if (s.ctx p d).pointDone then s else missedPoint p d s
  if periodEnds then
    s1.modCtx p d (fun y => { y with
      silent := if y.slotHeld && !y.goodSeen then y.silent + 1 else y.silent
      emptyPeriods := if !y.slotHeld then y.emptyPeriods else if y.preambleSeen then 0 else y.emptyPeriods + 1
      revertLeft := y.revertLeft.map (fun n => n - 1)
      wakeLeft := y.wakeLeft.map (fun n => n - 1)
      slotHeld := false, goodSeen := false, preambleSeen := false })
  else s1

/-- The active drops of a port. -/
def State.activeDrops (s : State) (p : Nat) : List Nat := allDrops.filter (fun d => (s.ctx p d).state == 2)

/-- Ends a cycle on a branch port (R198, R212, R215). -/
def closePort (p : Nat) (s : State) : State :=
  if s.isBranch p && (s.port p).started then
    let ends := decide (s.numberOf (s.time.cycles + 1) % (s.port p).map.period = 0)
    let ds := s.activeDrops p
    let held := ds.filter (fun d => (s.ctx p d).slotHeld)
    let silent := held.all (fun d => !(s.ctx p d).preambleSeen)
    let s1 := if ends && !held.isEmpty then
        s.modPort p (fun x => { x with twinSilent := if silent then x.twinSilent + 1 else 0 }) else s
    forAll ds (closeDrop p ends) s1
  else s

/-! ## Port modes -/

/-- The end of a branch port: every context that is not free becomes free with its epoch raised, queued frames are purged,
and the host is told of each drop with reason 1 (R201, R202, R224, R370). -/
def endBranch (p : Nat) (s : State) : State :=
  let s1 := forAll (allDrops.filter (fun d => (s.ctx p d).state != 0)) (fun d t =>
    let e := ((t.ctx p d).epoch + 1) % 64
    releaseStatus p d e 1 (freeCtx p d e (purgeQueue p d e t))) s
  s1.modPort p (fun x => { x with
    map := {}, pending := none, waiting := [], levels := [], msgs := [], answers := [], move := none, wakeBits := [],
    beaconLeft := 0, beaconCut := false, twinSilent := 0, rx := { noiseFloor := x.rx.noiseFloor } })

/-- Takes a port out of the mode in force (R180, R224, R370, R388). -/
def leaveMode (p : Nat) (s : State) : State :=
  let s1 := if s.isBranch p then endBranch p s else s.modPort p (fun x => { x with trunk := {}, move := none, carries := none })
  let s2 := (abandonRun p s1).modPort p (fun x => { x with mode := 0, onLine := [], steep := false })
  freeEngine p (calStops p s2)

/-- Brings a port into branch or trunk mode. A branch port whose windows break a limit of R185 enters with roll call closed;
in its first cycles since a device-scope reset it is held under R447. A port that is left without an engine stays stopped
(R388). A trunk port waits RETRAIN_HOLDOFF with TRUNK_STATE 0, which R183 leaves open here, where it reads 4 in the same wait after a loss
(DESIGN CHOICE, notes/assumptions/16). -/
def enterMode (p m : Nat) (s : State) : State :=
  let s1 := (leaveSteep p s).modPort p (fun x => { x with mode := m, driverOff := x.driverOff && !x.started })
  let s2 :=
    if m = 1 then
      let t := rollOpened p (if s1.rollWindowsOk p then s1 else s1.setReg Code.rollCall p 0)
      if (t.port p).begun then t
      else t.modPort p (fun x => { x with begun := true, rollHeld := true, hold := 2064 })
    else s1.modPort p (fun x => { x with trunk := { holdoff := s1.holdoffTick p } })
  let s3 := resumePort p s2
  if (s2.port p).stopped ∧ (s3.port p).stopped then fault 9 [p] [(1, p), (1, s3.engineFor p)] s3 else s3

/-- The mode that PORT_MODE has takes effect on a port (R370). -/
def takeMode (p : Nat) (s : State) : State :=
  let m := s.regN Code.portMode p
  if m = (s.port p).mode then s
  else
    let s1 := if (s.port p).mode = 0 then s else leaveMode p s
    if m = 0 then s1 else enterMode p m s1

/-- PORT_MODE takes effect at the start of a cycle, but on a port of a Dormant cluster at the wake (R370). -/
def applyMode (p : Nat) (s : State) : State :=
  let k := (s.cluster (clusterOf p)).state
  if k = 2 ∨ k = 3 then s else takeMode p s

/-- Step 6 of a wake on one port: the PORT_MODE written while it was Dormant is in force, and a port in branch mode waits steep (R370,
R429). -/
def wakePort (p : Nat) (s : State) : State :=
  let t := takeMode p s
  if t.isBranch p then t.modPort p (fun x => { x with steep := true }) else t

/-- WAKE_STEP with what step 6 does to the ports of the cluster, whose engines have loaded their microcode (R429, R460). -/
def wakeStepPorts (k : Nat) (m : WakeMeasure) (s : State) : State :=
  let t := wakeStep k m s
  if (s.cluster k).state = 3 ∧ (t.cluster k).state = 0 then loadsCode k (forAll (portsOf k) wakePort t) else t

/-! ## The downstream window -/

/-- The first free tick behind the bursts on a line, guards included (R78). -/
def linePos (bs : List Burst) : Nat := bs.foldl (fun n b => max n (b.start + slotTicks b.payload.length b.mode)) 0

/-- The tick by which a burst to a drop must end in the present cycle (R87, R194). -/
def State.txLimit (s : State) (p d : Nat) : Nat :=
  let x := s.port p
  if x.map.hasSlot d s.cycleNow then x.latch.d - advanceTicks (s.ctx p d).advance - 20 else x.latch.d - 20

/-- Puts a burst behind those on the line if it ends by a tick; it is whitened for the cycle and its drop field, and sent at the
amplitude latched (R97, R118). -/
def placeBurst (p limit : Nat) (b : Burst) (s : State) : Option State :=
  let pos := linePos (s.port p).onLine
  if pos + burstTicks b.payload.length b.mode ≤ limit then
    some (s.modPort p (fun x => { x with
      onLine := x.onLine ++ [{ b with start := pos, cycle := s.cycleNow, seed := b.drop, atten := x.latch.txAtten }] }))
  else none

/-- The mode of a burst to a drop: the mode in force, or the standby mode of a drop that is on its way onto the port (R96,
R216). -/
def State.txMode (s : State) (p d : Nat) : Nat :=
  if (s.ctx p d).state = 3 then (s.ctx p d).standbyMode else (s.ctx p d).mode

/-- Whether a message has gone out in the present window. -/
def State.msgSent (s : State) (p : Nat) (m : OutMsg) : Bool :=
  match m.seqs.getLast? with
  | some q => (s.ctx p m.drop).sent.any (fun f => f.seq == q && f.cycle == s.time.cycles)
  | none => false

/-- Whether the sender holds further frames for a drop besides the ones named: the first `n` of its queue, a message, and a
retransmission's number; the flag MORE (R104). A message that has gone out in the window is not held. -/
def State.moreFlag (s : State) (p d n : Nat) (m : Option OutMsg) (seq : Option Nat) : Nat :=
  let x := s.ctx p d
  if n < x.queue.length ∨ x.sent.any (fun f => f.due && some f.seq != seq) = true ∨
      (s.port p).msgs.any (fun o => o.drop == d && decide (o.fromCycle ≤ s.time.cycles) && !s.msgSent p o &&
        some o != m) = true then 2 else 0

/-- The messages of a port in the order of sending: those that have not gone out yet first. -/
def State.msgOrder (s : State) (p : Nat) : List OutMsg :=
  (s.port p).msgs.filter (fun m => m.seqs.isEmpty) ++ (s.port p).msgs.filter (fun m => !m.seqs.isEmpty)

/-- The role epoch in the header of a burst to a drop: TWIN_MOVE carries the one before its own (R201, R216). -/
def State.headerEpoch (s : State) (p d : Nat) (payload : List Byte) : Nat :=
  if payload.head? = some 12#8 then ((atOr payload 2 0).toNat + 63) % 64 else (s.ctx p d).epoch

/-- Sends a burst to a drop; with `acks` it carries the ack of the present point, composed for the first such burst (R104,
R198, R199, R200). -/
def sendToDrop (p d typ seq flags : Nat) (acks : Bool) (payload : List Byte) (s : State) : Option State :=
  let s0 := if acks && (s.ctx p d).ackOwed then composeAck p d s else s
  let x := s0.ctx p d
  let b : Burst := { mode := s0.txMode p d, typ := typ, drop := d, epoch := s0.headerEpoch p d payload, seq := seq,
                     ack := if acks then x.ackOut else 0, flags := flags + (if acks then 8 else 0), payload := payload,
                     start := 0 }
  (placeBurst p (s0.txLimit p d) b s0).map (fun t => t.modCtx p d (fun y => { y with sinceTx := 0 }))

/-- Sends a new sequenced frame to a drop, at most 128 of which await acknowledgement (R197, R200). -/
def sendSequenced (p d typ flags : Nat) (acks repeated : Bool) (payload : List Byte) (s : State) : Option State :=
  let x := s.ctx p d
  if 128 ≤ x.sent.length then none
  else
    (sendToDrop p d typ x.txSeq flags acks payload s).map (fun t => t.modCtx p d (fun y => { y with
      txSeq := (y.txSeq + 1) % 256
      sent := y.sent ++ [{ seq := x.txSeq, typ := typ, payload := payload, rtx := false, due := false,
                           cycle := s.time.cycles, repeated := repeated }] }))

/-- ADMIT, the first burst of the window (R186). -/
def sendAdmit (p : Nat) (s : State) : State :=
  match s.admitBytes p with
  | none => s
  | some bs =>
    ((placeBurst p ((s.port p).latch.d - 20)
      { mode := baseMode, typ := 2, drop := 63, epoch := 0, seq := 0, ack := 0, flags := 0, payload := bs, start := 0 } s).map
      (admitTaken p)).getD s

/-- The mode and payload length of the downstream SOUND burst of the present cycle, if it holds a sounding of a drop (R205,
R206, R214). -/
def State.soundingOf (s : State) (p d : Nat) : Option (Nat × Nat) :=
  match (s.port p).levels.find? (fun r => r.drop == d && r.cycle == some s.time.cycles) with
  | some r => some (r.mode, r.length)
  | none => (s.ctx p d).standbyAt.bind (fun a => (s.soundPayload p a.2).map (fun n => (a.2, n)))

/-- The downstream SOUND burst of a sounding cycle (R111, R205). It carries no ack also where its drop is owed one, which another
burst of the window carries (DESIGN CHOICE, notes/assumptions/23). -/
def sendSound (p : Nat) (s : State) : State :=
  match s.soundingNow p with
  | none => s
  | some d =>
    match s.soundingOf p d with
    | none => s
    | some (mode, n) =>
      ((placeBurst p (s.txLimit p d)
        { mode := mode, typ := 3, drop := d, epoch := (s.ctx p d).epoch, seq := 0, ack := 0,
          flags := s.moreFlag p d 0 none none, payload := List.replicate n 0, start := 0 } s).map (fun t =>
          t.modCtx p d (fun y => { y with sinceTx := 0 }))).getD s

/-- The retransmissions due to a drop, first in their window (R200). -/
def sendAgain (p : Nat) (acked : List Nat) (d : Nat) (s : State) : State :=
  forAll ((s.ctx p d).sent.filter (fun f => f.due)) (fun f t =>
    match sendToDrop p d f.typ f.seq (4 + t.moreFlag p d 0 none (some f.seq)) (acked.contains d) f.payload t with
    | none => t
    | some u => (u.modCtx p d (fun y => { y with
        sent := y.sent.map (fun g => if g.seq = f.seq then { g with due := false, cycle := t.time.cycles } else g) })).bump
          Code.dropRetransmissions (dropKey p d)) s

/-- Whether a message is repeated in every window: one that names a cycle, and TWIN_MOVE (R485). -/
def OutMsg.repeats (m : OutMsg) : Bool := m.untilCycle.isSome || m.bytes.head? == some 12#8

/-- Sends a message of the list in its window: a repeated one stays in the list with the number of its frame, another one
leaves it (R485). -/
def sendMsg (p : Nat) (acked : List Nat) (m : OutMsg) (s : State) : State :=
  if s.time.cycles < m.fromCycle then s
  else
    let seq := (s.ctx p m.drop).txSeq
    match sendSequenced p m.drop 2 (s.moreFlag p m.drop 0 (some m) none) (acked.contains m.drop) m.repeats m.bytes s with
    | none => s
    | some t => t.modPort p (fun x => { x with
        msgs := if m.repeats then x.msgs.map (fun o => if o = m then { o with seqs := o.seqs ++ [seq] } else o)
                else x.msgs.erase m })

/-- Sends the next queued frame of an active drop, if it fits (R87). -/
def sendQueued (p : Nat) (acked : List Nat) (d : Nat) (s : State) : Option State :=
  let x := s.ctx p d
  match x.queue with
  | [] => none
  | f :: rest =>
    if x.state ≠ 2 then none
    else
      (sendSequenced p d f.2.1 (s.moreFlag p d 1 none none) (acked.contains d) false f.2.2 s).map (fun t =>
        t.modCtx p d (fun y => { y with queue := rest }))

/-- The burst with ACKV that a drop is owed and no retransmission carries: the first message to it, else its next
queued frame, whichever fits, else an ACK burst; a keepalive, in a cycle of its slot, is an ACK burst with the next
expected number (R198, R199, R200). -/
def sendAck (p : Nat) (acked : List Nat) (d : Nat) (s : State) : State :=
  if acked.contains d ∧ (s.ctx p d).ackOwed = true then
    let t := match (s.msgOrder p).find? (fun m => m.drop == d && decide (m.fromCycle ≤ s.time.cycles)) with
      | some m => sendMsg p acked m s
      | none => s
    if (t.ctx p d).ackOwed then
      match sendQueued p acked d t with
      | some u => u
      | none => (sendToDrop p d 0 0 (t.moreFlag p d 0 none none) true [] t).getD t
    else t
  else if (s.ctx p d).keepOwed ∧ (s.port p).map.hasSlot d s.cycleNow = true then
    ((sendToDrop p d 0 0 (s.moreFlag p d 0 none none) true [] (s.modCtx p d (fun y => { y with ackOut := y.rxNext }))).map
      (fun t => t.modCtx p d (fun y => { y with keepOwed := false }))).getD s
  else s

/-- One turn of the filling: each drop's next frame where it fits; the first drop served (R87). -/
def fillTurn (p : Nat) (acked ds : List Nat) (s : State) : State × Option Nat :=
  match ds with
  | [] => (s, none)
  | d :: rest =>
    match sendQueued p acked d s with
    | none => fillTurn p acked rest s
    | some t => ((fillTurn p acked rest t).1, some d)

/-- Turns until none places a frame; `first` is the drop served first in the cycle (R87). -/
def fillWindow (fuel p : Nat) (acked ds : List Nat) (first : Option Nat) (s : State) : State × Option Nat :=
  match fuel with
  | 0 => (s, first)
  | f + 1 =>
    let r := fillTurn p acked ds s
    match r.2 with
    | none => (r.1, first)
    | some d => fillWindow f p acked ds (if first.isSome then first else some d) r.1

/-- The frames queued for the drops of a port. -/
def State.queued (s : State) (p : Nat) : Nat := allDrops.foldl (fun n d => n + (s.ctx p d).queue.length) 0

/-- The filling of R87: the drops in turn, from the drop after the one served first in the cycle before. -/
def fillDown (p : Nat) (acked : List Nat) (s : State) : State :=
  let from_ := (s.port p).turn
  let r := fillWindow (s.queued p) p acked (allDrops.drop from_ ++ allDrops.take from_) none s
  match r.2 with
  | some d => r.1.modPort p (fun x => { x with turn := d })
  | none => r.1

/-- Fills the downstream window of a port (R87, R186, R198–R200, R205, R485). -/
def downstream (p : Nat) (s : State) : State :=
  let acked := (s.activeDrops p).filter (fun d => (s.ctx p d).ackOwed)
  let s1 := sendSound p (sendAdmit p s)
  let s2 := forAll (s1.activeDrops p) (sendAgain p acked) s1
  let s3 := forAll (s2.activeDrops p) (sendAck p acked) s2
  let s4 := forAll ((s3.msgOrder p).filter (fun m => !s3.msgSent p m)) (sendMsg p acked) s3
  fillDown p acked s4

/-! ## Standby checks -/

/-- The sounding cycle of a standby check: a free one of the standby port in which the drop has no home slot, unless the home
map period is 1 (R205, R206, R214). -/
def State.standbyCycle (s : State) (home q d : Nat) : Nat :=
  let sent := firstCycle (fun k => !s.beaconAt home k) 64 (s.time.cycles + 1)
  firstCycle (fun k => s.soundingFree q k &&
      (decide ((s.port home).map.period = 1) || !(s.port home).map.hasSlot d (s.numberOf k))) 4096
    (sent + 2 * max (s.port home).map.period (s.port q).map.period + 1)

/-- Announces a standby check that is due, once in a LEVEL_INTERVAL: at the baud of the home mode, or at a slower one after a
check without margin; one that brought no result ends (R214). -/
def standbyDue (q d : Nat) (s : State) : State :=
  let x := s.ctx q d
  match s.twinOf q with
  | none => s
  | some p =>
    if x.state ≠ 3 ∨ (s.ctx p d).state ≠ 2 then s
    else
      match x.standbyAt with
      | some (k, _) => if k + 1 < s.time.cycles then s.modCtx q d (fun y => { y with standbyAt := none, standbyTick := s.time.tick })
                       else s
      | none =>
        if s.elapsed x.standbyTick (s.regN Code.levelInterval q * secondTicks) then
          let mode := modeOf (min 6 (modeBaud (s.ctx p d).mode + x.standbyDown)) (s.levelCap q d)
          match s.soundPayload q mode with
          | none => s.modCtx q d (fun y => { y with standbyTick := s.time.tick, standbyDown := min 6 (y.standbyDown + 1) })
          | some n =>
            let k := s.standbyCycle p q d
            queueOnce p d (soundRequestBytes mode (s.ctx p d).txAtten (s.numberOf k) n 1 (s.winC q) (s.winT q))
              (s.modCtx q d (fun y => { y with standbyAt := some (k, mode) }))
        else s

/-! ## The start of a cycle on a port -/

/-- What a drop's context takes from the start of a cycle outside beacon windows: a corrected advance, its slot, and the
cycles since the last burst to it (R195, R198, R199, R209, R214). A slot of a drop back at its previous mode that no burst
fits, and one omitted for a standby check, do not count toward loss. -/
def openDrop (p d : Nat) (s : State) : State :=
  let inSlot := (s.port p).map.hasSlot d s.cycleNow
  let omitted := s.slotOmitted p d
  let len := (((s.port p).map.slotOf d).map (fun sl => sl.len)).getD 0
  s.modCtx p d (fun y =>
    let y1 := match y.advanceNext with
      | some (k, a) => if k ≤ s.time.cycles then { y with advance := a, arrivals := [], advanceNext := none } else y
      | none => y
    { y1 with sinceTx := y1.sinceTx + 1
              pointDone := y1.pointDone && (!inSlot || omitted)
              slotHeld := y1.slotHeld || (inSlot && !omitted && !(y1.reverted && decide (len < slotTicks 0 y1.mode))) })

/-- The receiver of a branch port at the start of a cycle: off in a beacon window, else idle until a slot's context is
loaded (R82, R129). -/
def resetRx (p : Nat) (idle : Bool) (s : State) : State :=
  s.modRx p (fun x => { x with
    state := if idle then .idle else .off, span := if idle then .idle else .off, loaded := none, useStart := false,
    returned := false, preamble := false, energySeen := false, header := none, noRoom := false, ending := none,
    eqReset := false, agcFrozen := false })

/-- Whether the cycle in progress is the first of a beacon window of a port. -/
def State.beaconFirst (s : State) (p : Nat) : Bool :=
  decide (s.cycleStartOf s.time.cycles % secondTicks = 0) && decide ((s.port p).beaconLeft = beaconCycles s.time.n)

/-- The cycle of a branch port: one of its beacon window, or its windows (R78, R82, R201, R205, R447, R485). -/
def branchCycle (p : Nat) (s : State) : State :=
  let left := if s.beaconFirst p then (s.port p).beaconLeft else (s.port p).beaconLeft - 1
  let s0 := forAll (allDrops.filter (fun d => (s.ctx p d).state == 1)) (epochHolds p) s
  let s1 := s0.modPort p (fun x => { x with
    beaconLeft := left
    onLine := if left = 0 ∨ x.beaconCut = true then [] else x.onLine
    beaconCut := x.beaconCut && decide (left ≠ 0)
    msgs := x.msgs.filter (fun m => match m.untilCycle with
      | some k => decide (s.time.cycles < k)
      | none => true) })
  if left ≠ 0 then resetRx p false s1
  else
    let s2 := resetRx p true (s1.modPort p (fun x => { x with hold := x.hold - 1 }))
    let s3 := forAll (s2.activeDrops p) (openDrop p) s2
    let s4 := serveRuns 33 p (forAll (allDrops.filter (fun d => (s3.ctx p d).state == 3)) (standbyDue p) s3)
    if (s4.port p).hold ≠ 0 ∨ (s4.port p).rollHeld = true then s4 else downstream p s4

/-- The bursts, trains and probes that count toward the end of line-short (R403 source 25): a beacon counts once, in the first
cycle of its window. -/
def countShort (p : Nat) (s : State) : State :=
  if (s.port p).shorted then
    let x := s.port p
    if 1000 ≤ x.shortClear then endCondition 25 [p] (s.modPort p (fun y => { y with shorted := false, shortClear := 0 }))
    else
      let trains := if x.mode = 2 ∨ s.inBeacon p = true then
          (if s.inBeacon p && !s.beaconFirst p then 0 else min 1 x.onLine.length) else x.onLine.length
      s.modPort p (fun y => { y with shortClear := y.shortClear + trains + (if s.contributing p then 1 else 0) })
  else s

/-- A port that has lost both converter halves stops at a cycle boundary (R388, R397). -/
def stopHalfless (p : Nat) (s : State) : State :=
  if (s.port p).trav.halves = 0 ∧ (s.port p).stopped = false then stopForEngine p s else s

/-- A stopped port whose beacon window goes on without it (R388). -/
def passBeacon (p : Nat) (s : State) : State :=
  if s.beaconFirst p then s
  else s.modPort p (fun x => { x with beaconLeft := x.beaconLeft - 1, beaconCut := x.beaconCut && decide (1 < x.beaconLeft) })

/-- The samples of a port's own train of the cycle that ends. -/
def ownOf (es : List Echo) (p : Nat) : List (List Int × Int) := ((es.find? (fun e => e.port == p)).map (fun e => e.own)).getD []

/-- The start of a cycle on a port (R78, R80, R128, R370, R388). A port that resumes inside a beacon window stays silent until its
end. -/
def openPort (es : List Echo) (p : Nat) (s : State) : State :=
  let s0 := if (s.port p).steep && (s.port p).started then leaveSteep p s else s
  let s1 := latchPort p (applyMode p (endFullRun p s0))
  if (s1.port p).started = false ∨ (s1.port p).mode = 0 then (if (s1.port p).flowStop then flowCheck p s1 else s1)
  else
    let s2 := stopHalfless p (resumePort p s1)
    if (s2.port p).stopped then flowCheck p (passBeacon p s2)
    else
      let s3 := if s2.isTrunk p then trunkCycle p (ownTrain p (ownOf es p) s2) else branchCycle p s2
      flowCheck p (countShort p (dcSpan p es (traverseCycle p es s3)))

/-! ## The cycle -/

/-- A realignment begins: after the cycle in progress every port stops, until the new grid starts (R71, R224). -/
def stopForRealign (s : State) : State :=
  forAll allPorts (fun p t =>
    (abandonRun p (endFullRun p t)).modPort p (fun x => { x with
      onLine := [], beaconLeft := 0, beaconCut := false, rx := { x.rx with state := .off, span := .off, loaded := none, header := none } }))
    { s with time := { s.time with running := false } }

/-- The slew after a cycle in which it has taken its tick (R70). -/
def stepSlew (x : TimeSt) : TimeSt :=
  let v := if 0 < x.slew then x.slew - 1 else if x.slew < 0 then x.slew + 1 else 0
  { x with slew := v, quietSlew := x.quietSlew && decide (v ≠ 0), held := false }

/-- CYCLE_START (R63): the next cycle of the grid begins. -/
def cycleStart (es : List Echo) (s : State) : State :=
  if s.time.running = false then s
  else if s.time.realigning then stopForRealign s
  else
    let s0 := forAll allPorts closePort s
    let t := max s0.time.nextCycle (s0.time.time64 / s0.cycleTicks * s0.cycleTicks)
    let s1 := skipTo t (advanceTo t s0)
    let s2 := { s1 with time := { stepSteer (stepSlew s1.time) with cycles := s1.time.cycles + 1, nextCycle := t + s1.cycleTicks } }
    let s3 := forAll allPorts (openPort es) s2
    forAll (List.range 9) (fun k u => if (u.cluster k).failMoved then u.modCluster k (fun c => { c with failMoved := false }) else u) s3

/-! ## Epochs -/

/-- The admitted drops of a port: active and asleep ones (R184). -/
def State.admittedDrops (s : State) (p : Nat) : List Nat :=
  allDrops.filter (fun d => (s.ctx p d).state == 2 || (s.ctx p d).state == 4)

/-- TIME_ANNOUNCE (R62, R114): in the second before a new epoch applies, once to each admitted drop. -/
def timeAnnounce (s : State) : State :=
  match s.time.epoch with
  | none => s
  | some (v, at_) =>
    if s.time.announced = false ∧ at_ ≤ s.time.time64 + secondTicks ∧ s.time.time64 < at_ then
      forAll (allPorts.filter (fun p => s.isBranch p)) (fun p t =>
        forAll (t.admittedDrops p) (fun d u => queueOnce p d (u.announceBytes v at_) u) t)
        { s with time := { s.time with announced := true } }
    else s

/-- EPOCH_APPLY with the lines: a partner side keeps the head-end side's numbering as a difference from its own one, which changes; an
announcement of the epoch that has not gone out goes out no more (R62, R114, R174). -/
def epochApplies (s : State) : State :=
  match (if s.time.running then s.time.epoch else none) with
  | none => s
  | some (v, at_) =>
    let shift : Int := ((at_ / s.cycleTicks : Nat) : Int) - ((v / s.cycleTicks : Nat) : Int)
    let t := epochApply s
    forAll allPorts (fun p u =>
      if u.isTrunk p && !u.trunkHead p then
        u.modTrunk p (fun x => { x with numbering := untwos 32 (twos 32 (x.numbering + shift)) })
      else if u.isBranch p then
        u.modPort p (fun x => { x with msgs := x.msgs.filter (fun m => !decide (m.bytes.head? = some 9#8)) })
      else u) t

/-! ## Injected faults -/

/-- INJECTED_RAISE (R419): the injected raise of a write falls in its own core cycle, where no real occurrence has taken it
along before (R420; the collector's work). -/
def injectedRaise (s : State) : State :=
  forAll s.injections (fun o t => notice o t) s

/-! ## The commands -/

/-- REF_10M_QUALIFIED (R57). -/
def execRef10mQualified (s : State) : Host.Outcome State Fault Refusal := run ref10mQualified s
/-- REF_10M_DISQUALIFIED (R57). -/
def execRef10mDisqualified (s : State) : Host.Outcome State Fault Refusal := run ref10mDisqualified s
/-- REF_1PPS_EDGE (R57, R60). -/
def execRef1ppsEdge (sinceLast : Nat) (offsetNs : Int) (s : State) : Host.Outcome State Fault Refusal :=
  run (ppsEdge sinceLast offsetNs) s
/-- REF_1PPS_EDGE_ABSENT (R57). -/
def execRef1ppsEdgeAbsent (s : State) : Host.Outcome State Fault Refusal := run edgeAbsent s
/-- LEARNING_COMPLETE (R58). -/
def execLearningComplete (xoOffset : Int) (s : State) : Host.Outcome State Fault Refusal := run (learningComplete xoOffset) s
/-- TQ_GRADE_CHANGE (R67). -/
def execTqGradeChange (s : State) : Host.Outcome State Fault Refusal := run gradeChange s
/-- DATUM (R59). -/
def execDatum (xoOffset : Int) (s : State) : Host.Outcome State Fault Refusal := run (datum xoOffset) s
/-- CYCLE_START (R63). -/
def execCycleStart (echoes : List Echo) (s : State) : Host.Outcome State Fault Refusal := run (cycleStart echoes) s
/-- EPOCH_APPLY (R62). -/
def execEpochApply (s : State) : Host.Outcome State Fault Refusal := run epochApplies s
/-- TIME_ANNOUNCE (R114). -/
def execTimeAnnounce (s : State) : Host.Outcome State Fault Refusal := run timeAnnounce s
/-- REALIGN_GRID_START (R71). -/
def execRealignGridStart (oldTime : Nat) (offsetNs : Int) (s : State) : Host.Outcome State Fault Refusal :=
  run (realignGridStart oldTime offsetNs) s
/-- START_TIMEOUT (R73). -/
def execStartTimeout (s : State) : Host.Outcome State Fault Refusal := run startTimeout s
/-- WAKE_STEP (R429). -/
def execWakeStep (cluster : Nat) (measure : WakeMeasure) (s : State) : Host.Outcome State Fault Refusal :=
  run (atCluster cluster (wakeStepPorts cluster measure)) s
/-- INJECTED_RAISE (R419). -/
def execInjectedRaise (s : State) : Host.Outcome State Fault Refusal := run injectedRaise s

end Sys2Proof.Machine
end

