-- ==== Sys2Proof/Machine/Dispatch.lean ====
section
/-! DEFINITION. The dispatch: one arm for each constructor of `Instr`, in the order of the table. -/

namespace Sys2Proof.Machine

/-- What a command does to everything but the queue. -/
def exec (i : Instr) (s : State) : Host.Outcome State Fault Refusal :=
  match i with
  | .nop path tid => Sys2Proof.Machine.execNop path tid s
  | .read path tid index sub => Sys2Proof.Machine.execRead path tid index sub s
  | .write path tid index sub value => Sys2Proof.Machine.execWrite path tid index sub value s
  | .domainReadInit path tid index sub => Sys2Proof.Machine.execDomainReadInit path tid index sub s
  | .domainWriteInit path tid index sub length => Sys2Proof.Machine.execDomainWriteInit path tid index sub length s
  | .segmentRead path tid index sub offset count => Sys2Proof.Machine.execSegmentRead path tid index sub offset count s
  | .segmentWrite path tid index sub offset count data => Sys2Proof.Machine.execSegmentWrite path tid index sub offset count data s
  | .describe path tid index sub => Sys2Proof.Machine.execDescribe path tid index sub s
  | .domainEnd path tid index sub => Sys2Proof.Machine.execDomainEnd path tid index sub s
  | .domainTransferTimeout path => Sys2Proof.Machine.execDomainTransferTimeout path s
  | .spiStatus clocked => Sys2Proof.Machine.execSpiStatus clocked s
  | .spiSend bytes => Sys2Proof.Machine.execSpiSend bytes s
  | .spiFetch clocked => Sys2Proof.Machine.execSpiFetch clocked s
  | .spiAbandon clocked => Sys2Proof.Machine.execSpiAbandon clocked s
  | .spiUnknownCommand command clocked => Sys2Proof.Machine.execSpiUnknownCommand command clocked s
  | .clearCounter path tid index sub value => Sys2Proof.Machine.execClearCounter path tid index sub value s
  | .commit path tid value => Sys2Proof.Machine.execCommit path tid value s
  | .commitSetCurrent nvmOk => Sys2Proof.Machine.execCommitSetCurrent nvmOk s
  | .defaults path tid value => Sys2Proof.Machine.execDefaults path tid value s
  | .revert path tid value => Sys2Proof.Machine.execRevert path tid value s
  | .ref10mQualified => Sys2Proof.Machine.execRef10mQualified s
  | .ref10mDisqualified => Sys2Proof.Machine.execRef10mDisqualified s
  | .ref1ppsEdge sinceLast offsetNs => Sys2Proof.Machine.execRef1ppsEdge sinceLast offsetNs s
  | .ref1ppsEdgeAbsent => Sys2Proof.Machine.execRef1ppsEdgeAbsent s
  | .learningComplete xoOffset => Sys2Proof.Machine.execLearningComplete xoOffset s
  | .tqGradeChange => Sys2Proof.Machine.execTqGradeChange s
  | .datum xoOffset => Sys2Proof.Machine.execDatum xoOffset s
  | .cycleStart echoes => Sys2Proof.Machine.execCycleStart echoes s
  | .epochSet path tid value => Sys2Proof.Machine.execEpochSet path tid value s
  | .epochApply => Sys2Proof.Machine.execEpochApply s
  | .timeAnnounce => Sys2Proof.Machine.execTimeAnnounce s
  | .realign path tid value => Sys2Proof.Machine.execRealign path tid value s
  | .realignGridStart oldTime offsetNs => Sys2Proof.Machine.execRealignGridStart oldTime offsetNs s
  | .startTimeout => Sys2Proof.Machine.execStartTimeout s
  | .cycleLen path tid value => Sys2Proof.Machine.execCycleLen path tid value s
  | .dsWindow path tid value => Sys2Proof.Machine.execDsWindow path tid value s
  | .contWindow path tid value => Sys2Proof.Machine.execContWindow path tid value s
  | .travWindow path tid value => Sys2Proof.Machine.execTravWindow path tid value s
  | .grant path tid value => Sys2Proof.Machine.execGrant path tid value s
  | .slotMapApply port => Sys2Proof.Machine.execSlotMapApply port s
  | .contextLoad port drop errors => Sys2Proof.Machine.execContextLoad port drop errors s
  | .energyDetect port symbol0 symbol1 => Sys2Proof.Machine.execEnergyDetect port symbol0 symbol1 s
  | .preambleDetect port decisions agcConverged => Sys2Proof.Machine.execPreambleDetect port decisions agcConverged s
  | .noiseEvent port => Sys2Proof.Machine.execNoiseEvent port s
  | .syncDetect port window symbols => Sys2Proof.Machine.execSyncDetect port window symbols s
  | .falseDetection port => Sys2Proof.Machine.execFalseDetection port s
  | .headerCheck port header => Sys2Proof.Machine.execHeaderCheck port header s
  | .collisionAbort port symbols => Sys2Proof.Machine.execCollisionAbort port symbols s
  | .recoveryPeriodEnd port symbol0 symbol1 => Sys2Proof.Machine.execRecoveryPeriodEnd port symbol0 symbol1 s
  | .overrun port => Sys2Proof.Machine.execOverrun port s
  | .burstEnd port levels measure => Sys2Proof.Machine.execBurstEnd port levels measure s
  | .emptySlot port => Sys2Proof.Machine.execEmptySlot port s
  | .outOfSlot port period0 period1 => Sys2Proof.Machine.execOutOfSlot port period0 period1 s
  | .eqReset path tid value => Sys2Proof.Machine.execEqReset path tid value s
  | .keptEqualiserExpiry port identity => Sys2Proof.Machine.execKeptEqualiserExpiry port identity s
  | .rollCall path tid value => Sys2Proof.Machine.execRollCall path tid value s
  | .rollCloseAfterExpiry port => Sys2Proof.Machine.execRollCloseAfterExpiry port s
  | .rollAnswer port message arrival rxAmpl => Sys2Proof.Machine.execRollAnswer port message arrival rxAmpl s
  | .admission port => Sys2Proof.Machine.execAdmission port s
  | .admitConfirm port drop message => Sys2Proof.Machine.execAdmitConfirm port drop message s
  | .admitConfirmMissed port drop => Sys2Proof.Machine.execAdmitConfirmMissed port drop s
  | .keepaliveAck port drop => Sys2Proof.Machine.execKeepaliveAck port drop s
  | .levelIntervalExpiry port drop => Sys2Proof.Machine.execLevelIntervalExpiry port drop s
  | .relevel path tid value => Sys2Proof.Machine.execRelevel path tid value s
  | .soundReport port drop message => Sys2Proof.Machine.execSoundReport port drop message s
  | .soundMiss port drop => Sys2Proof.Machine.execSoundMiss port drop s
  | .modeConfirm port drop message => Sys2Proof.Machine.execModeConfirm port drop message s
  | .modeApply port drop => Sys2Proof.Machine.execModeApply port drop s
  | .modeRevert port drop => Sys2Proof.Machine.execModeRevert port drop s
  | .sleep path tid value => Sys2Proof.Machine.execSleep path tid value s
  | .deepSleepFromCycle port drop => Sys2Proof.Machine.execDeepSleepFromCycle port drop s
  | .wake path tid value => Sys2Proof.Machine.execWake path tid value s
  | .wakeSlotMapStart port drop => Sys2Proof.Machine.execWakeSlotMapStart port drop s
  | .wakeMiss port drop => Sys2Proof.Machine.execWakeMiss port drop s
  | .release path tid value => Sys2Proof.Machine.execRelease path tid value s
  | .releaseFromCycle port drop => Sys2Proof.Machine.execReleaseFromCycle port drop s
  | .dropLost port drop => Sys2Proof.Machine.execDropLost port drop s
  | .standbyCheck port drop => Sys2Proof.Machine.execStandbyCheck port drop s
  | .twinLossPeriodsExpiry port => Sys2Proof.Machine.execTwinLossPeriodsExpiry port s
  | .twinFailover path tid value => Sys2Proof.Machine.execTwinFailover path tid value s
  | .dropMovePeriodsExpiry port drop => Sys2Proof.Machine.execDropMovePeriodsExpiry port drop s
  | .twinMoveApply port => Sys2Proof.Machine.execTwinMoveApply port s
  | .twinReturn path tid value => Sys2Proof.Machine.execTwinReturn path tid value s
  | .twinEnable path tid value => Sys2Proof.Machine.execTwinEnable path tid value s
  | .twinPartner path tid value => Sys2Proof.Machine.execTwinPartner path tid value s
  | .portMode path tid value => Sys2Proof.Machine.execPortMode path tid value s
  | .hostDataFrame link frame => Sys2Proof.Machine.execHostDataFrame link frame s
  | .rollCallHoldEnd port => Sys2Proof.Machine.execRollCallHoldEnd port s
  | .trunkTrainingStart port => Sys2Proof.Machine.execTrunkTrainingStart port s
  | .retrain path tid value => Sys2Proof.Machine.execRetrain path tid value s
  | .trunkTrain port message arrival snr own => Sys2Proof.Machine.execTrunkTrain port message arrival snr own s
  | .phaseETimeout port => Sys2Proof.Machine.execPhaseETimeout port s
  | .trunkTrainEnd port good => Sys2Proof.Machine.execTrunkTrainEnd port good s
  | .trunkTime port message arrival crcOk => Sys2Proof.Machine.execTrunkTime port message arrival crcOk s
  | .trunkAck port message => Sys2Proof.Machine.execTrunkAck port message s
  | .trunkMode port message => Sys2Proof.Machine.execTrunkMode port message s
  | .trunkModeApply port => Sys2Proof.Machine.execTrunkModeApply port s
  | .trunkDown port message => Sys2Proof.Machine.execTrunkDown port message s
  | .trunkLoss port => Sys2Proof.Machine.execTrunkLoss port s
  | .trunkLevelDown port => Sys2Proof.Machine.execTrunkLevelDown port s
  | .traceComplete port => Sys2Proof.Machine.execTraceComplete port s
  | .benchCapture path tid value => Sys2Proof.Machine.execBenchCapture path tid value s
  | .leadInCal path tid value => Sys2Proof.Machine.execLeadInCal path tid value s
  | .vfCal path tid value => Sys2Proof.Machine.execVfCal path tid value s
  | .insDwellEnd cluster => Sys2Proof.Machine.execInsDwellEnd cluster s
  | .cellAllocA path tid value => Sys2Proof.Machine.execCellAllocA path tid value s
  | .cellAllocB path tid value => Sys2Proof.Machine.execCellAllocB path tid value s
  | .cellLayout path tid value => Sys2Proof.Machine.execCellLayout path tid value s
  | .cellStart path tid value => Sys2Proof.Machine.execCellStart path tid value s
  | .cellWidth path tid value => Sys2Proof.Machine.execCellWidth path tid value s
  | .cellState path tid value => Sys2Proof.Machine.execCellState path tid value s
  | .snapshot => Sys2Proof.Machine.execSnapshot s
  | .archiveBringUp drive => Sys2Proof.Machine.execArchiveBringUp drive s
  | .archFormat path tid value => Sys2Proof.Machine.execArchFormat path tid value s
  | .archAdopt path tid value => Sys2Proof.Machine.execArchAdopt path tid value s
  | .nvmeCompletion pair cid status => Sys2Proof.Machine.execNvmeCompletion pair cid status s
  | .cmdTimeoutExpiry pair cid abortDone fatal => Sys2Proof.Machine.execCmdTimeoutExpiry pair cid abortDone fatal s
  | .archiveCommit senseMicroVolt => Sys2Proof.Machine.execArchiveCommit senseMicroVolt s
  | .holdupRetry commitStore senseMicroVolt => Sys2Proof.Machine.execHoldupRetry commitStore senseMicroVolt s
  | .driveLinkLost => Sys2Proof.Machine.execDriveLinkLost s
  | .smartPoll temp wear warn => Sys2Proof.Machine.execSmartPoll temp wear warn s
  | .selTrace path tid value => Sys2Proof.Machine.execSelTrace path tid value s
  | .findGo path tid value => Sys2Proof.Machine.execFindGo path tid value s
  | .findComplete path => Sys2Proof.Machine.execFindComplete path s
  | .linkClockDetected link ppm => Sys2Proof.Machine.execLinkClockDetected link ppm s
  | .linkAdaptSettled link eye0 eye1 => Sys2Proof.Machine.execLinkAdaptSettled link eye0 eye1 s
  | .linkBlockLock link => Sys2Proof.Machine.execLinkBlockLock link s
  | .linkDeskew link block0 block1 => Sys2Proof.Machine.execLinkDeskew link block0 block1 s
  | .linkUp link => Sys2Proof.Machine.execLinkUp link s
  | .linkStepTimeout link => Sys2Proof.Machine.execLinkStepTimeout link s
  | .linkLoss link cause => Sys2Proof.Machine.execLinkLoss link cause s
  | .oxlRetrain path tid link value => Sys2Proof.Machine.execOxlRetrain path tid link value s
  | .linkEnable path tid link value => Sys2Proof.Machine.execLinkEnable path tid link value s
  | .align link block0 block1 => Sys2Proof.Machine.execAlign link block0 block1 s
  | .alignTransmit link => Sys2Proof.Machine.execAlignTransmit link s
  | .flow link block => Sys2Proof.Machine.execFlow link block s
  | .frameTransmit link => Sys2Proof.Machine.execFrameTransmit link s
  | .quietEntry link => Sys2Proof.Machine.execQuietEntry link s
  | .quietRxEntry link => Sys2Proof.Machine.execQuietRxEntry link s
  | .quietExit link => Sys2Proof.Machine.execQuietExit link s
  | .quietPeriodicExit link => Sys2Proof.Machine.execQuietPeriodicExit link s
  | .quietActivityTimeout link => Sys2Proof.Machine.execQuietActivityTimeout link s
  | .linkTrafficMove link hostCut => Sys2Proof.Machine.execLinkTrafficMove link hostCut s
  | .returnHoldExpiry link => Sys2Proof.Machine.execReturnHoldExpiry link s
  | .linkMode path tid value => Sys2Proof.Machine.execLinkMode path tid value s
  | .preferred path tid value => Sys2Proof.Machine.execPreferred path tid value s
  | .forceSwitch path tid value => Sys2Proof.Machine.execForceSwitch path tid value s
  | .prbsGen path tid link lane value => Sys2Proof.Machine.execPrbsGen path tid link lane value s
  | .prbsCheck path tid link lane value => Sys2Proof.Machine.execPrbsCheck path tid link lane value s
  | .prbsLock link lane bits => Sys2Proof.Machine.execPrbsLock link lane bits s
  | .prbsClear path tid link lane value => Sys2Proof.Machine.execPrbsClear path tid link lane value s
  | .readRecord link reqId recSeq first count => Sys2Proof.Machine.execReadRecord link reqId recSeq first count s
  | .readDriveBlocks link reqId block first count => Sys2Proof.Machine.execReadDriveBlocks link reqId block first count s
  | .cancel link reqId => Sys2Proof.Machine.execCancel link reqId s
  | .resetCmdController path tid => Sys2Proof.Machine.execResetCmdController path tid s
  | .resetCmdDevice path tid => Sys2Proof.Machine.execResetCmdDevice path tid s
  | .lcRequest path tid value => Sys2Proof.Machine.execLcRequest path tid value s
  | .lcEntryErasure => Sys2Proof.Machine.execLcEntryErasure s
  | .fwBankErase path tid value => Sys2Proof.Machine.execFwBankErase path tid value s
  | .fwEraseComplete verified => Sys2Proof.Machine.execFwEraseComplete verified s
  | .fwPageProgram senseMicroVolt => Sys2Proof.Machine.execFwPageProgram senseMicroVolt s
  | .fwImageCheck => Sys2Proof.Machine.execFwImageCheck s
  | .fwSwitch path tid value => Sys2Proof.Machine.execFwSwitch path tid value s
  | .fwUpdateMigration cluster => Sys2Proof.Machine.execFwUpdateMigration cluster s
  | .fwUpdateSwitched => Sys2Proof.Machine.execFwUpdateSwitched s
  | .fwTrialEnd => Sys2Proof.Machine.execFwTrialEnd s
  | .clusterTargetDormant path tid => Sys2Proof.Machine.execClusterTargetDormant path tid s
  | .clusterTargetWake path tid => Sys2Proof.Machine.execClusterTargetWake path tid s
  | .wakeAlarm path tid value => Sys2Proof.Machine.execWakeAlarm path tid value s
  | .wakeAlarmReached cluster => Sys2Proof.Machine.execWakeAlarmReached cluster s
  | .dormantEntry cluster calibration => Sys2Proof.Machine.execDormantEntry cluster calibration s
  | .wakeStep cluster measure => Sys2Proof.Machine.execWakeStep cluster measure s
  | .portSteepEntry port => Sys2Proof.Machine.execPortSteepEntry port s
  | .portSteepExit port => Sys2Proof.Machine.execPortSteepExit port s
  | .clusterSteepEntry cluster => Sys2Proof.Machine.execClusterSteepEntry cluster s
  | .clusterSteepExit cluster => Sys2Proof.Machine.execClusterSteepExit cluster s
  | .pmbusRequestComplete result => Sys2Proof.Machine.execPmbusRequestComplete result s
  | .pmbusBusyPoll statusWord => Sys2Proof.Machine.execPmbusBusyPoll statusWord s
  | .pmbusRetry => Sys2Proof.Machine.execPmbusRetry s
  | .pmbusPolling => Sys2Proof.Machine.execPmbusPolling s
  | .avsAdjust short ample => Sys2Proof.Machine.execAvsAdjust short ample s
  | .thermalSample temps => Sys2Proof.Machine.execThermalSample temps s
  | .throttleLift => Sys2Proof.Machine.execThrottleLift s
  | .thermalRestart => Sys2Proof.Machine.execThermalRestart s
  | .migration port crcEqual badWords => Sys2Proof.Machine.execMigration port crcEqual badWords s
  | .engineTestComplete engine responses => Sys2Proof.Machine.execEngineTestComplete engine responses s
  | .engineFailing engine fault => Sys2Proof.Machine.execEngineFailing engine fault s
  | .engineExhausted port => Sys2Proof.Machine.execEngineExhausted port s
  | .sliceTestStart mem => Sys2Proof.Machine.execSliceTestStart mem s
  | .sliceTestAbort mem => Sys2Proof.Machine.execSliceTestAbort mem s
  | .sliceTestComplete mem words badWords => Sys2Proof.Machine.execSliceTestComplete mem words badWords s
  | .converterCalibration cluster findings => Sys2Proof.Machine.execConverterCalibration cluster findings s
  | .patrolScrub mem address ecc => Sys2Proof.Machine.execPatrolScrub mem address ecc s
  | .clusterLinkLoss cluster => Sys2Proof.Machine.execClusterLinkLoss cluster s
  | .fullTest path tid value => Sys2Proof.Machine.execFullTest path tid value s
  | .fullTestComplete results => Sys2Proof.Machine.execFullTestComplete results s
  | .startupCheck checks => Sys2Proof.Machine.execStartupCheck checks s
  | .faultAck path tid value => Sys2Proof.Machine.execFaultAck path tid value s
  | .faultClear path tid value => Sys2Proof.Machine.execFaultClear path tid value s
  | .fecRearm path tid value => Sys2Proof.Machine.execFecRearm path tid value s
  | .faultInject path tid value => Sys2Proof.Machine.execFaultInject path tid value s
  | .injectedRaise => Sys2Proof.Machine.execInjectedRaise s
  | .powerOnReset => Sys2Proof.Machine.execPowerOnReset s
  | .vddAonFall => Sys2Proof.Machine.execVddAonFall s
  | .clusterRailFall cluster line => Sys2Proof.Machine.execClusterRailFall cluster line s
  | .resetN => Sys2Proof.Machine.execResetN s
  | .watchdogExpiry => Sys2Proof.Machine.execWatchdogExpiry s
  | .mcResetEnd => Sys2Proof.Machine.execMcResetEnd s
  | .boot => Sys2Proof.Machine.execBoot s
  | .startup badPages => Sys2Proof.Machine.execStartup badPages s
  | .nvmPageProgramComplete verified => Sys2Proof.Machine.execNvmPageProgramComplete verified s
  | .lineShort port => Sys2Proof.Machine.execLineShort port s
  | .corePllUnlock => Sys2Proof.Machine.execCorePllUnlock s
  | .clusterPllUnlock cluster => Sys2Proof.Machine.execClusterPllUnlock cluster s
  | .quietRxExit link => Sys2Proof.Machine.execQuietRxExit link s
  | .quietExitAlignTimeout link => Sys2Proof.Machine.execQuietExitAlignTimeout link s
  | .opUnknown path tid op index sub => Sys2Proof.Machine.execOpUnknown path tid op index sub s
  | .frameError link fault => Sys2Proof.Machine.execFrameError link fault s

end Sys2Proof.Machine
end

