-- ==== Sys2Proof/Safety.lean ====
section
/-! DEFINITION. The words that statements about the block use: a step that completes, a core that runs, a path that serves
requests, a write that passes every check, and the response that a path then holds. -/

namespace Sys2Proof

open Machine

/-- A step keeps a property of states. -/
def StepKeeps (p : State → Prop) : Prop := ∀ s t, p s → step s = .next t → p t

/-- The core runs, neither in Fatal nor shut down by heat, and no occurrence, acknowledgement or write of FAULT_INJECT of an
earlier core cycle is left (R404, R414, R416, R419, R442). -/
abbrev Machine.State.Ready (s : State) : Prop :=
  s.coreStopped = false ∧ s.faults.due = [] ∧ s.faults.injectNext = [] ∧ s.faults.ackedNow = []

/-- The commands that may carry a WRITE of any object: the generic writes, a SEND, what comes in on a host link, and the two that
answer requests which have waited (R309, R331, R355, R363). -/
def carriesAnyWrite (i : Instr) : Bool :=
  match i with
  | .write _ _ _ _ _ => true
  | .clearCounter _ _ _ _ _ => true
  | .spiSend _ => true
  | .mcResetEnd => true
  | .startup _ => true
  | .hostDataFrame _ _ => true
  | .frameError _ _ => true
  | _ => false

/-- The commands that start the core die anew: the resets, and the request by which the rails of a shut-down core die come back
(R442, R445). -/
def resetsDevice (i : Instr) : Bool :=
  match i with
  | .powerOnReset => true
  | .vddAonFall => true
  | .resetN => true
  | .pmbusRequestComplete _ => true
  | .resetCmdDevice _ _ => true
  | _ => false

/-- The events that carry TIME64 on, start a grid or renumber it (R61–R63, R71, R73). -/
def carriesTime (i : Instr) : Bool :=
  match i with
  | .ref1ppsEdge _ _ => true
  | .startTimeout => true
  | .epochApply => true
  | .realignGridStart _ _ => true
  | .datum _ => true
  | .cycleStart _ => true
  | _ => false

/-- A path serves a request at once: the management controller runs, no earlier request waits, and the SPI has none
executing (R350, R354, R355, R363). -/
abbrev Machine.State.Serves (s : State) (q : Path) : Prop :=
  s.Ready ∧ s.mgmt.mcReset = false ∧ s.mgmt.waiting = [] ∧ (q = .spi → s.spi.busy = false)

/-- The state in which a request that has arrived on a path executes: an accepted SEND has emptied the SPI's held response; a
link counts its frame behind it (R6, R310, R355). -/
def Machine.State.arrived (s : State) (q : Path) : State :=
  match linkOfPath q with
  | none => { s with spi := { s.spi with held := none, rej := false, busy := true, abandoned := false } }
  | some _ => s

/-- What a request leaves behind it on its path: on a link its frame counts in FRAMES_IN behind what it did, as of the same core
cycle (R6, R310). -/
def Machine.State.counted (s : State) (q : Path) : State :=
  match linkOfPath q with
  | none => s
  | some l => s.bump (linkCode l Code.framesIn) 0

/-- The WRITE request of a value to an object (R331). -/
def writeReq (tid code value : Nat) : MgmtReq :=
  { op := 2, tid := tid, index := code / 256, sub := code % 256, value := value }

/-- A WRITE passes every check of R335: the object exists, can be reached and written, its selection is usable, the value
field holds a value `v` of its type, and neither range nor settings nor state refuse it. -/
abbrev Machine.State.Accepts (s : State) (q : Path) (code value : Nat) (o : Obj) (v : Int) : Prop :=
  s.Serves q ∧ s.checkObject (writeReq 0 code value) = .ok o ∧ addressCode (code / 256) (code % 256) = code ∧
    (s.arrived q).selectionBad q o true = none ∧ decodeValue o.ty value = some v ∧
    (s.arrived q).writeRefusal o code (s.instOf q o.scope) v = none

/-- A response stands at the end of a path: held for FETCH on the SPI, last in the management queue of a link (R350,
R356, R358). -/
abbrev Machine.State.Holds (t : State) (q : Path) (bytes : List Byte) : Prop :=
  if q = .spi then t.spi.held = some bytes ∧ t.spi.busy = false
  else (t.link (if q = .oxlA then .a else .b)).mgmt.getLast? =
    some { cls := 2, epoch := 0, port := 0xFF, drop := 0, copy := false, body := bytes }

/-- The response to a WRITE that is done (R332). -/
def writeDone (tid code : Nat) : List Byte :=
  [0x82#8, byteOf tid, 0, 0] ++ addressBytes (code / 256) (code % 256) 0

/-- The 12 bytes that answer an aborted request: the head with byte 2 set, the address as received, the abort code (R332). -/
def abortBytes (op tid index sub code : Nat) : List Byte :=
  [byteOf (op % 128 + 128), byteOf tid, 1, 0] ++ addressBytes index sub 0 ++ beBytes 4 code

/-- A request is answered: nothing but the path's response and its counters of frames and aborts changes (R335). -/
def Machine.State.OnlyAnswered (t s : State) : Prop :=
  { t with spi := s.spi, oxl := s.oxl, regs := s.regs } = s ∧ t.spi.miso = s.spi.miso ∧
    { t.oxl with a := s.oxl.a, b := s.oxl.b } = s.oxl ∧
    (∀ l : Link, { t.link l with mgmt := (s.link l).mgmt } = s.link l) ∧
    (∀ code inst : Nat, inst < 2 ^ 24 → code ≠ Code.framesIn → code ≠ linkCode .b Code.framesIn →
      code ≠ Code.abortsSpi → code ≠ Code.abortsA → code ≠ Code.abortsB →
      t.regWritten code inst = s.regWritten code inst)

/-- A queue of PMBus requests whose head comes to the bus where its time has come: it takes the address and page that the rail's
objects have then (R373, R434). -/
def Machine.State.onBus (s : State) (rs : List PmReq) : List PmReq :=
  match rs with
  | [] => []
  | h :: rest =>
    (if h.addr.isNone && s.pmBegun h then
      { h with addr := some (s.regN (Code.railAddr + 256 * h.rail) 0, s.regN (Code.railPage + 256 * h.rail) 0) }
    else h) :: rest

/-- Two clusters are the same but for whether the link runs, which a Fatal stop ends (R416). -/
def sameButLink (x y : ClusterSt) : Prop := { x with linkOn := y.linkOn } = y

/-- The settings whose write acts at once on more than the value itself; every other setting is read or latched where it
applies (R62, R69, R75, R180, R185, R220, R247, R273, R307, R320, R371, R425, R484). -/
def actsAtOnce (rc : Nat) : Bool :=
  [Code.twinEnable, Code.twinPartner, Code.timeSource, Code.realignPolicy, Code.rollCall, Code.travEnable, Code.cellAllocA,
    Code.cellAllocB, Code.archEnable, Code.linkEnable, Code.linkMode, Code.preferred, Code.prbsGen, Code.prbsCheck,
    Code.avsEnable, Code.vcoreNom, Code.vcoreMin, Code.vcoreMax, Code.clusterTarget, Code.portMode, Code.grant].contains rc

/-- The host writes that have a row of their own, and the generic ones: path, tid, object and value. LC_REQUEST and RESET_CMD
are no such writes: their effects go beyond a write's. -/
def hostWriteOf (i : Instr) : Option (Path × Nat × Nat × Nat) :=
  match i with
  | .commit q t v => some (q, t, Code.commit, v)
  | .defaults q t v => some (q, t, Code.defaults, v)
  | .revert q t v => some (q, t, Code.revert, v)
  | .epochSet q t v => some (q, t, Code.epochSet, v)
  | .realign q t v => some (q, t, Code.realign, v)
  | .cycleLen q t v => some (q, t, Code.cycleLen, v)
  | .dsWindow q t v => some (q, t, Code.dsWindow, v)
  | .contWindow q t v => some (q, t, Code.contWindow, v)
  | .travWindow q t v => some (q, t, Code.travWindow, v)
  | .grant q t v => some (q, t, Code.grant, v)
  | .eqReset q t v => some (q, t, Code.eqReset, v)
  | .rollCall q t v => some (q, t, Code.rollCall, v)
  | .relevel q t v => some (q, t, Code.relevel, v)
  | .sleep q t v => some (q, t, Code.sleep, v)
  | .wake q t v => some (q, t, Code.wake, v)
  | .release q t v => some (q, t, Code.release, v)
  | .twinFailover q t v => some (q, t, Code.twinFailover, v)
  | .twinReturn q t v => some (q, t, Code.twinReturn, v)
  | .twinEnable q t v => some (q, t, Code.twinEnable, v)
  | .twinPartner q t v => some (q, t, Code.twinPartner, v)
  | .portMode q t v => some (q, t, Code.portMode, v)
  | .retrain q t v => some (q, t, Code.trunkRetrain, v)
  | .benchCapture q t v => some (q, t, Code.benchCapture, v)
  | .leadInCal q t v => some (q, t, Code.leadInCal, v)
  | .vfCal q t v => some (q, t, Code.vfCal, v)
  | .cellAllocA q t v => some (q, t, Code.cellAllocA, v)
  | .cellAllocB q t v => some (q, t, Code.cellAllocB, v)
  | .cellLayout q t v => some (q, t, Code.cellLayout, v)
  | .cellStart q t v => some (q, t, Code.cellStart, v)
  | .cellWidth q t v => some (q, t, Code.cellWidth, v)
  | .cellState q t v => some (q, t, Code.cellState, v)
  | .archFormat q t v => some (q, t, Code.archFormat, v)
  | .archAdopt q t v => some (q, t, Code.archAdopt, v)
  | .selTrace q t v => some (q, t, Code.selTrace, v)
  | .findGo q t v => some (q, t, Code.findGo, v)
  | .linkMode q t v => some (q, t, Code.linkMode, v)
  | .preferred q t v => some (q, t, Code.preferred, v)
  | .forceSwitch q t v => some (q, t, Code.forceSwitch, v)
  | .fwBankErase q t v => some (q, t, Code.fwBankErase, v)
  | .fwSwitch q t v => some (q, t, Code.fwSwitch, v)
  | .wakeAlarm q t v => some (q, t, Code.wakeAlarm, v)
  | .fullTest q t v => some (q, t, Code.fullTest, v)
  | .faultAck q t v => some (q, t, Code.faultAck, v)
  | .faultClear q t v => some (q, t, Code.faultClear, v)
  | .fecRearm q t v => some (q, t, Code.fecRearm, v)
  | .faultInject q t v => some (q, t, Code.faultInject, v)
  | .oxlRetrain q t l v => some (q, t, linkCode l Code.linkRetrain, v)
  | .linkEnable q t l v => some (q, t, linkCode l Code.linkEnable, v)
  | .prbsGen q t l n v => if n < 2 then some (q, t, laneCode l n Code.prbsGen, v) else none
  | .prbsCheck q t l n v => if n < 2 then some (q, t, laneCode l n Code.prbsCheck, v) else none
  | .prbsClear q t l n v => if n < 2 then some (q, t, laneCode l n Code.prbsClear, v) else none
  | .clusterTargetDormant q t => some (q, t, Code.clusterTarget, 2)
  | .clusterTargetWake q t => some (q, t, Code.clusterTarget, 0)
  | .write q t x u v =>
    if addressCode x u = Code.lcRequest ∨ addressCode x u = Code.resetCmd ∨ 65536 ≤ x ∨ 256 ≤ u then none
    else some (q, t, addressCode x u, v)
  | .clearCounter q t x u v =>
    if addressCode x u = Code.lcRequest ∨ addressCode x u = Code.resetCmd ∨ 65536 ≤ x ∨ 256 ≤ u then none
    else some (q, t, addressCode x u, v)
  | _ => none

end Sys2Proof
end

