-- ==== Sys2Proof/Certificates/Slice0/Obligations.lean ====
section
/-! DEFINITION. The statements about the UB9144 that are to be proved: the machine as a whole, host access, and the families
of commands, each with the state that a command leaves and what it leaves alone. -/

open Sys2Proof Sys2Proof.Machine

/-! ## The machine -/

/-- A step takes the command at the front of the queue and runs it on the state with the queue's rest
(notes/assumptions/1). -/
def Obligations.StepRunsFrontCommand : Prop :=
  ∀ (c : Instr) (rest : List Instr) (s : State), s.pending = c :: rest → step s = exec c { s with pending := rest }

/-- On an empty queue one tick of 100 ns passes (the model's choice, notes/assumptions/1): the real-time clock counts it, and
TIME64 advances by one where the grid runs or is being realigned and no slew is under way; before the grid starts, and while
the core stands still, TIME64 stays (the model's reading, notes/assumptions/10); nothing else changes.
Ticks of a cycle that a slew lengthens or shortens: its last tick is held once, or its last two are taken as one; every
other tick advances TIME64 by one (R70). -/
def Obligations.EmptyQueueLetsOneTickPass : Prop :=
  (∀ s : State, s.pending = [] →
    (s.coreStopped = false → s.time.running = true ∨ s.time.realigning = true → s.time.slew = 0 → step s = .next { s with
      aon := { s.aon with rtc := s.aon.rtc + 1 }
      time := { s.time with tick := s.time.tick + 1, time64 := s.time.time64 + 1 } }) ∧
    (s.coreStopped = true ∨ (s.time.running = false ∧ s.time.realigning = false) → step s = .next { s with
      aon := { s.aon with rtc := s.aon.rtc + 1 }
      time := { s.time with tick := s.time.tick + 1 } })) ∧
  (∀ s : State, s.pending = [] → s.coreStopped = false → s.time.running = true ∨ s.time.realigning = true →
    ∃ t : State, step s = .next t ∧ t.time.tick = s.time.tick + 1 ∧ t.aon.rtc = s.aon.rtc + 1 ∧
      (0 < s.time.slew → s.time.held = false → s.time.time64 + 1 = s.time.nextCycle →
        t.time.time64 = s.time.time64 ∧ t.time.held = true) ∧
      (s.time.slew < 0 → s.time.time64 + 2 = s.time.nextCycle → t.time.time64 = s.time.nextCycle) ∧
      (0 < s.time.slew → (s.time.held = true ∨ s.time.time64 + 1 ≠ s.time.nextCycle) →
        t.time.time64 = s.time.time64 + 1) ∧
      (s.time.slew < 0 → s.time.time64 + 2 ≠ s.time.nextCycle → t.time.time64 = s.time.time64 + 1) ∧
      t.regs = s.regs ∧ t.ports = s.ports ∧ t.ctxs = s.ctxs ∧ t.oxl = s.oxl ∧ t.arch = s.arch ∧ t.faults = s.faults)

/-- No command of the table stops the model: every one answers a next state, in every state, and no command changes the
queue of the commands that wait. -/
def Obligations.EveryCommandAnswersAndKeepsTheQueue : Prop :=
  ∀ (i : Instr) (s : State), ∃ t : State, exec i s = .next t ∧ t.pending = s.pending

/-- No step takes the life cycle back, and none takes it beyond RETURN (R365). -/
def Obligations.LifeCycleOnlyMovesForward : Prop :=
  ∀ s t : State, step s = .next t → s.lc ≤ t.lc ∧ (s.lc ≤ 3 → t.lc ≤ 3)

/-- The occurrences of one core cycle are collected in it: a step that starts with none left ends with none left, so that no
raise waits for a later core cycle (R404; a command is one core cycle, the model's reading, notes/assumptions/8). -/
def Obligations.EveryStepCollectsItsOccurrences : Prop :=
  StepKeeps (fun s => s.faults.due = [])

/-- What the invariants ask holds after reset, and the block is idle: no value is written, so that every setting reads its
default; no transfer is open and nothing is held or executing on the SPI; every port is off, no drop has a context, both links
are down, the grid stands, and the reset is a power-on reset (R61, R335, R340, R344, R347, R350, R445; the model's own choices
beside these are notes/assumptions/4 and 9). -/
def Obligations.ResetMeetsTheInvariants : Prop :=
  State.reset.lc ≤ 3 ∧ State.reset.faults.due = [] ∧ State.reset.faults.held.length ≤ 256 ∧
    State.reset.aon.faultLog.length ≤ 64 ∧ State.reset.coreStopped = false ∧ State.reset.pending = [] ∧
    (∀ code inst : Nat, State.reset.regWritten code inst = none) ∧ State.reset.resetCause = 1 ∧
    (∀ q : Path, (State.reset.path q).xfer = none ∧ (State.reset.path q).selPort = 0 ∧ (State.reset.path q).selDrop = 1) ∧
    State.reset.spi.held = none ∧ State.reset.spi.busy = false ∧ State.reset.time.running = false ∧
    (∀ p d : Nat, (State.reset.port p).mode = 0 ∧ (State.reset.port p).started = false ∧ (State.reset.ctx p d).state = 0) ∧
    (∀ l : Link, (State.reset.link l).state = 0 ∧ (State.reset.link l).tx = 0 ∧ (State.reset.link l).fit = false)

/-- In Fatal nothing runs but a power-on reset and the fall of the always-on supply, RESET_N, the watchdog and RESET_CMD among
what does not: every other command leaves the state as it is, but that a thermal sample leaves its readings with the comparators,
which run on (R416, R417). -/
def Obligations.FatalIsLeftByPowerAlone : Prop :=
  (∀ (i : Instr) (s : State), s.faults.fatal = true → i ≠ .powerOnReset → i ≠ .vddAonFall →
    (∀ ts : List Int, i ≠ .thermalSample ts) → exec i s = .next s) ∧
  (∀ (ts : List Int) (s : State), s.faults.fatal = true → ts.length = 10 →
    ∃ h : HeatSt, exec (.thermalSample ts) s = .next { s with heat := h } ∧
      ∀ n : Nat, n < 10 → (({ s with heat := h } : State).sensor n).tj = ts.getD n 0)

/-- TIME64 is carried on, started or renumbered by the events of the time base alone, apart from resets: no other command
changes it (R61). Between two commands the ticks of Obligations.EmptyQueueLetsOneTickPass carry it on. -/
def Obligations.TimeMovesOnlyByItsEvents : Prop :=
  ∀ (i : Instr) (s t : State), carriesTime i = false → resetsDevice i = false → carriesAnyWrite i = false →
    exec i s = .next t → t.time.time64 = s.time.time64

/-- The committed set changes only when a commit's set becomes current, at the erasure of R450, and where a slot fails its check
at start-up: whatever else happens, resets, failed commits and the erases of the other slot included, it stands (R346, R445,
R452). Each slot changes at these alone, but for the other slot's erase for a commit that starts. -/
def Obligations.CommittedSetsStand : Prop :=
  ∀ (i : Instr) (s t : State), (∀ ok : Bool, i ≠ .commitSetCurrent ok) → i ≠ .lcEntryErasure →
    (∀ bad : List Nat, i ≠ .startup bad) → exec i s = .next t → t.currentSet = s.currentSet ∧
    (carriesAnyWrite i = false → (∀ (q : Path) (tid v : Nat), i ≠ .commit q tid v) → (∀ ok : Bool, i ≠ .nvmPageProgramComplete ok) →
      t.nvm.slotA = s.nvm.slotA ∧ t.nvm.slotB = s.nvm.slotB)

/-- RESET_CAUSE changes at resets alone (R445): the resets of the device, the watchdog, RESET_CMD, and what may carry a write
of it. -/
def Obligations.ResetCauseNamesTheLastReset : Prop :=
  ∀ (i : Instr) (s t : State), resetsDevice i = false → carriesAnyWrite i = false → i ≠ .watchdogExpiry →
    (∀ (q : Path) (tid : Nat), i ≠ .resetCmdController q tid) →
    exec i s = .next t → t.resetCause = s.resetCause

/-! ## Host access -/

/-- A READ that passes every check is answered at once with the present value of the instance that the path has selected, its
type code in byte 7 and its value field extended from its type; nothing else changes (R332, R338, R341).
A READ whose object's value no rule states is answered with a free value of its type; it draws one free value. -/
def Obligations.ReadsAreAnswered : Prop :=
  (∀ (q : Path) (tid index sub : Nat) (s : State) (o : Obj) (v : Int), s.Serves q →
    s.checkObject { op := 1, tid := tid, index := index, sub := sub } = .ok o →
    (s.arrived q).selectionBad q o false = none →
    readError q o (addressCode index sub) (s.instOf q o.scope) (s.arrived q) = none →
    (s.arrived q).valueOf q o (addressCode index sub) (s.instOf q o.scope) = some v →
    ∃ t : State, exec (.read q tid index sub) s = .next t ∧ t.OnlyAnswered s ∧
      t.Holds q ([0x81#8, byteOf tid, 0, 0] ++ addressBytes index sub (tyCode o.ty) ++ beBytes 8 (encodeValue v))) ∧
  (∀ (q : Path) (tid index sub : Nat) (s : State) (o : Obj), s.Serves q →
    s.checkObject { op := 1, tid := tid, index := index, sub := sub } = .ok o →
    (s.arrived q).selectionBad q o false = none →
    readError q o (addressCode index sub) (s.instOf q o.scope) (s.arrived q) = none →
    (s.arrived q).valueOf q o (addressCode index sub) (s.instOf q o.scope) = none →
    ∃ t : State, exec (.read q tid index sub) s = .next t ∧ t.OnlyAnswered { s with free := s.free + 1 } ∧
      t.Holds q ([0x81#8, byteOf tid, 0, 0] ++ addressBytes index sub (tyCode o.ty) ++
        beBytes 8 (encodeValue (tyWrap o.ty (Config.freeValue s.free)))))

/-- NOP and DESCRIBE are answered as R332 says; an op above 08h is aborted with 05010001h; nothing else changes. -/
def Obligations.PlainRequestsAreAnswered : Prop :=
  (∀ (q : Path) (tid : Nat) (s : State), s.Serves q →
    ∃ t : State, exec (.nop q tid) s = .next t ∧ t.OnlyAnswered s ∧ t.Holds q [0x80#8, byteOf tid, 0, 0]) ∧
  (∀ (q : Path) (tid index sub : Nat) (s : State) (o : Obj), s.Serves q →
    s.checkObject { op := 7, tid := tid, index := index, sub := sub } = .ok o →
    ∃ t : State, exec (.describe q tid index sub) s = .next t ∧ t.OnlyAnswered s ∧
      t.Holds q ([0x87#8, byteOf tid, 0, 0] ++ addressBytes index sub 0 ++
        [byteOf (tyCode o.ty), byteOf (accCode o.acc), byteOf o.describeFlags, 0] ++ beBytes 4 o.size)) ∧
  (∀ (q : Path) (tid op index sub : Nat) (s : State), s.Serves q → 8 < op →
    ∃ t : State, exec (.opUnknown q tid op index sub) s = .next t ∧ t.OnlyAnswered s ∧
      t.Holds q (abortBytes op tid index sub 0x05010001) ∧
      t.reg (abortCode q) 0 = min (((s.regN (abortCode q) 0 + 1 : Nat)) : Int) (2 ^ 32 - 1))

/-- The checks of a WRITE come in the order of R335, and an aborted request changes nothing: an object that does not exist
(06010001h, 06010002h), one out of reach in BLANK (06010009h), a read-only object (06010003h), a DOMAIN or STR object
(06010004h), a value field that holds no value of the type (06010005h), and a value that range, settings or state refuse. -/
def Obligations.RefusedWritesChangeNothing : Prop :=
  ∀ (q : Path) (tid index sub value : Nat) (s : State), s.Serves q →
    let code := addressCode index sub
    let aborts := fun (a : Nat) =>
      ∃ t : State, exec (.write q tid index sub value) s = .next t ∧ t.OnlyAnswered s ∧
        t.Holds q (abortBytes 2 tid index sub a)
    (findObj code = none → aborts (if indexExists index then 0x06010002 else 0x06010001)) ∧
    (∀ o : Obj, findObj code = some o →
      (indexAvailable s.lc index = false → aborts 0x06010009) ∧
      (indexAvailable s.lc index = true →
        (o.acc = .ro → aborts 0x06010003) ∧
        (o.acc = .rwf → s.lc ≠ 1 → s.lc ≠ 3 → aborts 0x06010008) ∧
        (o.acc ≠ .ro → (o.acc = .rwf → s.lc = 1 ∨ s.lc = 3) →
          (isDomain o.ty = true → aborts 0x06010004) ∧
          (isDomain o.ty = false → (s.arrived q).selectionBad q o true = none →
            (decodeValue o.ty value = none → aborts 0x06010005) ∧
            (∀ (v : Int) (a : Nat), decodeValue o.ty value = some v →
              (s.arrived q).writeRefusal o code (s.instOf q o.scope) v = some a → aborts a)))))

/-- A host write that passes every check runs: it is answered as done, after the effect that the access right and the object
give it, and on a link its frame counts; only where the write takes its own link out of traffic is the answer discarded (R310,
R324, R332, R335, R336). This covers every host write of the table but LC_REQUEST and RESET_CMD. -/
def Obligations.AcceptedWritesRun : Prop :=
  ∀ (i : Instr) (s : State) (q : Path) (tid code value : Nat) (o : Obj) (v : Int),
    hostWriteOf i = some (q, tid, code, value) → s.Accepts q code value o v →
    let done := hostWrite q o code (s.instOf q o.scope) v (masterOf q) (s.arrived q)
    exec i s = .next (collect ((answer q { writeReq tid code value with silent := linkGone q (s.arrived q) done }
      (.ok (addressBytes (code / 256) (code % 256) 0)) done).counted q))

/-- While the management controller is in reset, requests wait in order, and are not answered (R363, R448). -/
def Obligations.RequestsWaitForTheController : Prop :=
  ∀ (q : Path) (tid index sub : Nat) (s : State), s.Ready → s.mgmt.mcReset = true → s.faults.started = true →
    (q = .spi → s.spi.busy = false) → s.mgmt.waiting.length < 16 →
    exec (.read q tid index sub) s = .next (State.counted { s.arrived q with mgmt := { s.mgmt with
      waiting := s.mgmt.waiting ++ [(q, { op := 1, tid := tid, index := index, sub := sub })] } } q)

/-- DOMAIN_READ_INIT takes a copy of the selected instance's present content and answers its length; SEGMENT_READ returns
count bytes of the copy from offset, or fewer where it ends first, whatever the object holds by then (R332, R342). -/
def Obligations.DomainReadsComeFromOneCopy : Prop :=
  (∀ (q : Path) (tid index sub : Nat) (s : State) (o : Obj), s.Serves q → (s.path q).xfer = none →
    s.checkObject { op := 3, tid := tid, index := index, sub := sub } = .ok o →
    (s.arrived q).selectionBad q o false = none →
    readError q o (addressCode index sub) (s.instOf q o.scope) (s.arrived q) = none →
    let bytes := (s.arrived q).contentOf q (addressCode index sub) (s.instOf q o.scope)
    ∃ t : State, exec (.domainReadInit q tid index sub) s = .next t ∧
      t.Holds q ([0x83#8, byteOf tid, 0, 0] ++ addressBytes index sub 0 ++ beBytes 4 bytes.length ++ beBytes 4 o.size) ∧
      (t.path q).xfer = some
        { code := addressCode index sub, index := index % 65536, sub := sub % 256, inst := s.instOf q o.scope,
          write := false, length := bytes.length, data := bytes, lastSeg := s.time.tick } ∧
      (t.path q).selCell = (if addressCode index sub = Code.cellRaw ∧ (s.path q).autoStep = 1
        then ((s.path q).selCell + 1) % 1048576 else (s.path q).selCell) ∧
      (∀ q' : Path, q' ≠ q → t.path q' = s.path q') ∧ t.doms = s.doms ∧ t.ctxs = s.ctxs ∧ t.cells = s.cells) ∧
  (∀ (q : Path) (tid index sub offset count : Nat) (s : State) (o : Obj) (x : Xfer), s.Serves q →
    s.checkObject { op := 5, tid := tid, index := index, sub := sub, arg := offset, count := count } = .ok o →
    (s.path q).xfer = some x → x.index = index % 65536 → x.sub = sub % 256 → x.write = false →
    1 ≤ count → count ≤ 1024 → offset < x.length →
    let bytes := (x.data.drop offset).take count
    ∃ t : State, exec (.segmentRead q tid index sub offset count) s = .next t ∧
      t.Holds q ([0x85#8, byteOf tid, 0, 0] ++ addressBytes index sub 0 ++ beBytes 4 offset ++ beBytes 2 bytes.length ++
        [0, 0] ++ bytes) ∧
      (t.path q).xfer = some { x with lastSeg := s.time.tick } ∧
      (∀ q' : Path, q' ≠ q → t.path q' = s.path q') ∧ t.doms = s.doms ∧ t.ctxs = s.ctxs ∧ t.cells = s.cells)

/-- A domain write: the init opens the transfer, or writes empty content at length 0; a segment in order adds its bytes; the
segment that completes the length gives the object its content whole; a segment out of order or past the length is aborted
with 05020002h and ends the transfer, and the object keeps its content (R343). FW_IMAGE has a statement of its own. -/
def Obligations.DomainWritesTakeEffectWhole : Prop :=
  (∀ (q : Path) (tid index sub length : Nat) (s : State) (o : Obj), s.Serves q →
    s.checkObject { op := 4, tid := tid, index := index, sub := sub, arg := length } = .ok o →
    (s.path q).xfer = none → length ≤ o.size → lengthRule (addressCode index sub) length = true →
    addressCode index sub ≠ Code.fwImage → addressCode index sub ≠ Code.goldenMisr →
    ∃ t : State, exec (.domainWriteInit q tid index sub length) s = .next t ∧
      t.Holds q ([0x84#8, byteOf tid, 0, 0] ++ addressBytes index sub 0 ++ beBytes 4 o.size) ∧
      (0 < length → t.doms = s.doms ∧ (t.path q).xfer = some
        { code := addressCode index sub, index := index % 65536, sub := sub % 256, inst := s.instOf q o.scope,
          write := true, length := length, data := [], lastSeg := s.time.tick }) ∧
      (length = 0 → (t.path q).xfer = none ∧
        t.doms = (s.setDom (addressCode index sub) (s.instOf q o.scope) []).doms)) ∧
  (∀ (q : Path) (tid index sub offset count : Nat) (data : List Byte) (s : State) (o : Obj) (x : Xfer), s.Serves q →
    s.checkObject { op := 6, tid := tid, index := index, sub := sub, arg := offset, count := count, data := data } = .ok o →
    (s.path q).xfer = some x → x.index = index % 65536 → x.sub = sub % 256 → x.write = true →
    x.code ≠ Code.fwImage → x.code ≠ Code.goldenMisr →
    1 ≤ count → count ≤ 1024 → data.length = count →
    ∃ t : State, exec (.segmentWrite q tid index sub offset count data) s = .next t ∧
      (offset = x.data.length → offset + count < x.length → t.doms = s.doms ∧
        (t.path q).xfer = some { x with data := x.data ++ data, lastSeg := s.time.tick }) ∧
      (offset = x.data.length → offset + count = x.length → contentOk o (x.data ++ data) = true →
        t.doms = (s.setDom x.code x.inst (x.data ++ data)).doms ∧ (t.path q).xfer = none ∧
        t.Holds q ([0x86#8, byteOf tid, 0, 0] ++ addressBytes index sub 0 ++ beBytes 4 offset ++ beBytes 2 count ++
          [0, 0])) ∧
      (offset ≠ x.data.length ∨ x.length < offset + count → t.doms = s.doms ∧ (t.path q).xfer = none ∧
        (t.path q).ended = some (x.index, x.sub) ∧ t.Holds q (abortBytes 6 tid index sub 0x05020002)))

/-- DOMAIN_END ends a transfer and leaves no address behind; 10 s without a segment end it too, after which a segment for its
address is aborted with 05020003h (R344). -/
def Obligations.TransfersEnd : Prop :=
  (∀ (q : Path) (tid index sub : Nat) (s : State) (o : Obj), s.Serves q →
    s.checkObject { op := 8, tid := tid, index := index, sub := sub } = .ok o →
    ∃ t : State, exec (.domainEnd q tid index sub) s = .next t ∧ (t.path q).xfer = none ∧ (t.path q).ended = none ∧
      t.doms = s.doms ∧ (∀ q' : Path, q' ≠ q → t.path q' = s.path q')) ∧
  (∀ (q : Path) (s : State) (x : Xfer), s.Ready → (s.path q).xfer = some x →
    x.lastSeg + 100000000 ≤ s.time.tick →
    ∃ t : State, exec (.domainTransferTimeout q) s = .next t ∧ (t.path q).xfer = none ∧
      (t.path q).ended = some (x.index, x.sub) ∧ t.doms = s.doms ∧ (∀ q' : Path, q' ≠ q → t.path q' = s.path q')) ∧
  (∀ (q : Path) (tid index sub offset count : Nat) (s : State) (o : Obj), s.Serves q →
    s.checkObject { op := 5, tid := tid, index := index, sub := sub, arg := offset, count := count } = .ok o →
    (s.path q).xfer = none → 1 ≤ count → count ≤ 1024 →
    ∃ t : State, exec (.segmentRead q tid index sub offset count) s = .next t ∧ t.OnlyAnswered s ∧
      t.Holds q (abortBytes 5 tid index sub
        (if (s.path q).ended = some (index % 65536, sub % 256) then 0x05020003 else 0x05020001)))

/-- The SPI transactions: STATUS repeats the status byte; FETCH brings the held response with its length and CRC-16 and keeps
it; ABANDON discards the response, clears REJ and ends the path's transfer; any other command byte sets REJ and counts
(R353, R354, R356). -/
def Obligations.SpiTransactions : Prop :=
  (∀ (n : Nat) (s : State), s.Ready → exec (.spiStatus n) s = .next
    { s with spi := { s.spi with miso := s.spiStatus :: List.replicate n s.spiStatus } }) ∧
  (∀ (n : Nat) (s : State), s.Ready →
    let held := s.spi.held.getD []
    let framed := beBytes 2 held.length ++ held
    exec (.spiFetch n) s = .next { s with spi := { s.spi with
      miso := s.spiStatus :: (framed ++ beBytes 2 (spiCrc framed).toNat ++ List.replicate n 0).take n } }) ∧
  (∀ (n : Nat) (s : State), s.Ready → (s.path .spi).xfer = none →
    exec (.spiAbandon n) s = .next { s with
      spi := { s.spi with miso := s.spiStatus :: List.replicate n 0, held := none, rej := false, abandoned := s.spi.busy } }) ∧
  (∀ (n : Nat) (s : State) (x : Xfer), s.Ready → (s.path .spi).xfer = some x → x.code ≠ Code.fwImage →
    exec (.spiAbandon n) s = .next { s with
      spi := { s.spi with miso := s.spiStatus :: List.replicate n 0, held := none, rej := false, abandoned := s.spi.busy }
      mgmt := { s.mgmt with spi := { s.mgmt.spi with xfer := none } } }) ∧
  (∀ (b : Byte) (n : Nat) (s : State), s.Ready → 3 < b.toNat → b ≠ 0xFF#8 →
    exec (.spiUnknownCommand b n) s = .next (({ s with spi := { s.spi with
      miso := s.spiStatus :: List.replicate n 0, rej := true } }).bump Code.spiRejects 0)) ∧
  (∀ (b : Byte) (n : Nat) (s : State), s.Ready → b.toNat ≤ 3 ∨ b = 0xFF#8 →
    exec (.spiUnknownCommand b n) s = exec (if b = 0x01#8 then .spiSend (List.replicate n 0)
      else if b = 0x02#8 then .spiFetch n else if b = 0x03#8 then .spiAbandon n else .spiStatus n) s)

/-- A SEND whose transaction R355 accepts runs the message that it carries: a NOP, a READ or a WRITE does what the command of
that name does on the SPI path. One that it does not accept sets REJ, counts in SPI_REJECTS and executes nothing.
A SEND is accepted exactly for a message of 4 to 1,040 bytes whose length field, byte count and CRC-16 are right; on an SPI
that serves, the accepted message executes at once (R355). -/
def Obligations.SpiSendRunsItsMessage : Prop :=
  (∀ (bytes m : List Byte) (s : State), s.Serves .spi → sendMessage bytes = some m →
    let s' := { s with spi := { s.spi with miso := s.spiStatus :: List.replicate bytes.length 0 } }
    exec (.spiSend bytes) s = .next (collect (serve .spi (parseRequest m) (s'.arrived .spi)))) ∧
  (∀ (bytes : List Byte) (tid : Nat) (s : State), s.Serves .spi → tid < 256 →
    sendMessage bytes = some [0x00#8, byteOf tid, 0, 0] →
    ∃ t : State, exec (.spiSend bytes) s = .next t ∧ t.Holds .spi [0x80#8, byteOf tid, 0, 0] ∧ { t with spi := s.spi } = s ∧
      t.spi.miso = s.spiStatus :: List.replicate bytes.length 0) ∧
  ((∀ (bytes : List Byte) (tid : Nat) (s : State), s.coreStopped = false → tid < 256 →
    let s' := { s with spi := { s.spi with miso := s.spiStatus :: List.replicate bytes.length 0 } }
    (sendMessage bytes = some [0x00#8, byteOf tid, 0, 0] → exec (.spiSend bytes) s = exec (.nop .spi tid) s') ∧
    (∀ index sub : Nat, index < 65536 → sub < 256 →
      (sendMessage bytes = some ([0x01#8, byteOf tid, 0, 0] ++ addressBytes index sub 0) →
        exec (.spiSend bytes) s = exec (.read .spi tid index sub) s') ∧
      (∀ value : Nat, value < 2 ^ 64 →
        sendMessage bytes = some ([0x02#8, byteOf tid, 0, 0] ++ addressBytes index sub 0 ++ beBytes 8 value) →
        exec (.spiSend bytes) s = exec (.write .spi tid index sub value) s'))) ∧
  (∀ (bytes : List Byte) (s : State), s.Ready → sendMessage bytes = none ∨ s.spi.busy = true →
    exec (.spiSend bytes) s = .next (({ s with spi := { s.spi with
      miso := s.spiStatus :: List.replicate bytes.length 0, rej := true } }).bump Code.spiRejects 0))) ∧
  (∀ (bytes m : List Byte), sendMessage bytes = some m ↔
    4 ≤ m.length ∧ m.length ≤ 1040 ∧
      bytes = beBytes 2 m.length ++ m ++ beBytes 2 (spiCrc (beBytes 2 m.length ++ m)).toNat)

/-- LC_REQUEST is accepted only for the next state, with the right code and with fewer than 3 refusals since the reset; then
the state moves forward by one and every open transfer ends. Any other request is aborted with 06010007h and counted, and
the state stays (R365, R344). -/
def Obligations.LifeCycleRequests : Prop :=
  ∀ (q : Path) (tid value : Nat) (s : State), s.Serves q → value < 2 ^ 64 →
    ∃ t : State, exec (.lcRequest q tid value) s = .next t ∧
      (value / 2 ^ 56 = s.lc + 1 ∧ s.lc < 3 ∧ value % 2 ^ 32 = Config.lcCode (s.lc + 1) % 2 ^ 32 ∧ s.nvm.lcRefused < 3 →
        t.lc = s.lc + 1 ∧ (∀ q' : Path, (t.path q').xfer = none) ∧ t.Holds q (writeDone tid Code.lcRequest) ∧
        t.nvm.lcRefused = s.nvm.lcRefused ∧ (1 ≤ s.lc → t.nvm.erasure = true)) ∧
      (¬ (value / 2 ^ 56 = s.lc + 1 ∧ s.lc < 3 ∧ value % 2 ^ 32 = Config.lcCode (s.lc + 1) % 2 ^ 32 ∧
          s.nvm.lcRefused < 3) →
        t.lc = s.lc ∧ (∀ q' : Path, t.path q' = s.path q') ∧ t.nvm = { s.nvm with lcRefused := s.nvm.lcRefused + 1 } ∧
        t.reg Code.lcRefusals 0 = min (((s.regN Code.lcRefusals 0 + 1 : Nat)) : Int) (2 ^ 32 - 1) ∧
        t.Holds q (abortBytes 2 tid (Code.lcRequest / 256) (Code.lcRequest % 256) 0x06010007))

/-- A setting that is read or latched where it applies takes its value by the write, and nothing else changes; CYCLE_LEN and
the windows of a port are such settings. An event counter is cleared by a write of 1 and kept by a write of 0; FRAMES_IN of the
link that carries the write then counts its frame, an event of the same core cycle (R6, R64, R79, R336). -/
def Obligations.SettingsAndCountersAreWritten : Prop :=
  (∀ (i : Instr) (s : State) (q : Path) (tid code value : Nat) (o : Obj) (v : Int),
    hostWriteOf i = some (q, tid, code, value) → s.Accepts q code value o v → o.acc = .rwp → actsAtOnce o.code = false →
    ∃ t : State, exec i s = .next t ∧ t.Holds q (writeDone tid code) ∧
      t.OnlyAnswered (s.setReg code (s.instOf q o.scope) v)) ∧
  (∀ (q : Path) (tid index sub value : Nat) (s : State) (o : Obj) (v : Int), index < 65536 → sub < 256 →
    s.Accepts q (addressCode index sub) value o v → o.acc = .rw1c →
    ∃ t : State, exec (.clearCounter q tid index sub value) s = .next t ∧
      t.Holds q (writeDone tid (addressCode index sub)) ∧
      t.OnlyAnswered (if v = 1 then s.setReg (addressCode index sub) (s.instOf q o.scope) 0 else s) ∧
      (v = 1 → t.reg (addressCode index sub) (s.instOf q o.scope) =
        (if (linkOfPath q).map (fun l => linkCode l Code.framesIn) = some (addressCode index sub) then 1 else 0)))

/-- A path's selectors and search objects belong to that path alone: a write sets that one object of the path it came by, and
a write of 1 to FIND_GO makes FIND_STATE read 1 and has a read of the drive outstanding or waiting for an identifier (R269,
R289, R290, R340). -/
def Obligations.PathObjectsArePrivate : Prop :=
  ∀ (i : Instr) (s : State) (q : Path) (tid code value : Nat) (o : Obj) (v : Int),
    hostWriteOf i = some (q, tid, code, value) → s.Accepts q code value o v →
    let x := s.path q
    let sets := fun (y : PathSt) => ∃ t : State, exec i s = .next t ∧ t.Holds q (writeDone tid code) ∧
      t.OnlyAnswered (s.setPath q y)
    (code = Code.selPort → sets { x with selPort := v.toNat }) ∧
    (code = Code.selDrop → sets { x with selDrop := v.toNat }) ∧
    (code = Code.selCell → sets { x with selCell := v.toNat }) ∧
    (code = Code.selCluster → sets { x with selCluster := v.toNat }) ∧
    (code = Code.selTrace → sets { x with selTrace := v.toNat }) ∧
    (code = Code.autoStep → sets { x with autoStep := v.toNat }) ∧
    (code = Code.findPort → sets { x with findPort := v.toNat }) ∧
    (code = Code.findTime → sets { x with findTime := v.toNat }) ∧
    (code = Code.findKind → sets { x with findKind := v.toNat }) ∧
    (code = Code.findGo → v = 1 → ∃ t : State, exec i s = .next t ∧ t.Holds q (writeDone tid code) ∧
      t.path q = { x with findState := 1 } ∧ (∀ q' : Path, q' ≠ q → t.path q' = s.path q') ∧
      (t.arch.inFlight.any (fun y => findsFor q y.job) = true ∨ t.arch.toIssue.any (fun y => findsFor q y.2) = true) ∧
      { t.arch with inFlight := s.arch.inFlight, toIssue := s.arch.toIssue } = s.arch ∧
      t.OnlyAnswered { s.setPath q { x with findState := 1 } with arch := t.arch })

/-- COMMIT takes the working persistent values as they stand into a new set, numbered above the current one; where its slot is not
erased, the erase comes first and the values wait to be taken; a further COMMIT while a commit or an erase runs is set and takes
nothing yet; a set that does not fit ends with COMMIT_STATE 3. The marker's program, which begins once every page of the set is
programmed and its hold-up check has passed, makes the new set current, and the erase of the other slot begins; a failed one
leaves the sets that were there, and what it had programmed in its slot, and raises NVM-error. The erasure on entry to DEPLOYED
or RETURN leaves no set (R346, R348, R450, R452). -/
def Obligations.CommitTakesTheSettings : Prop :=
  (∀ (q : Path) (tid value : Nat) (s : State) (o : Obj), s.Accepts q Code.commit value o 1 →
    (s.nvm.writing.isSome = true ∨ s.nvm.erasure = true ∨ s.nvm.erasing.isSome = true →
      ∃ t : State, exec (.commit q tid value) s = .next t ∧ t.Holds q (writeDone tid Code.commit) ∧
        t.OnlyAnswered { s with nvm := { s.nvm with further := true, commitState := 1 } }) ∧
    (s.nvm.writing = none → s.nvm.erasure = false → s.nvm.erasing = none → s.slotDirty = false →
      setBytes s.rwpDoms ≤ 1015552 →
      ∃ t : State, exec (.commit q tid value) s = .next t ∧
        t.nvm.writing = some { seq := ((s.currentSet.map (fun x => x.seq)).getD 0 + 1) % 2 ^ 32, time := s.time.time64,
                               regs := s.rwpRegs, doms := s.rwpDoms } ∧
        t.nvm.commitState = 1 ∧ t.nvm.pages = 0 ∧ t.nvm.further = false ∧ t.nvm.slotA = s.nvm.slotA ∧
        t.nvm.slotB = s.nvm.slotB ∧ t.nvm.log = s.nvm.log ∧ t.nvm.toLog = s.nvm.toLog ∧ t.doms = s.doms ∧
        t.ctxs = s.ctxs ∧ t.cells = s.cells) ∧
    (s.nvm.writing = none → s.nvm.erasure = false → s.nvm.erasing = none → s.slotDirty = true →
      setBytes s.rwpDoms ≤ 1015552 →
      ∃ t : State, exec (.commit q tid value) s = .next t ∧ t.nvm.writing = none ∧ t.nvm.further = true ∧
        t.nvm.commitState = 1 ∧ t.nvm.erasing = some (s.freeSlotB, 0) ∧ t.nvm.left = none ∧
        t.nvm.slotA = (if s.freeSlotB = true then s.nvm.slotA else none) ∧
        t.nvm.slotB = (if s.freeSlotB = true then none else s.nvm.slotB) ∧ t.currentSet = s.currentSet) ∧
    (s.nvm.writing = none → s.nvm.erasure = false → s.nvm.erasing = none → 1015552 < setBytes s.rwpDoms →
      ∃ t : State, exec (.commit q tid value) s = .next t ∧ t.nvm = { s.nvm with commitState := 3, further := false } ∧
        t.reg Code.commitFails 0 = min (((s.regN Code.commitFails 0 + 1 : Nat)) : Int) (2 ^ 32 - 1))) ∧
  (∀ (s : State) (c : CommitSet), s.Ready → s.nvm.writing = some c → s.nvm.op = some .commit →
    s.nvm.pages = setPages c.doms → (∀ a : CommitSet, s.currentSet = some a → a.seq < c.seq) →
    (∃ t : State, exec (.commitSetCurrent true) s = .next t ∧
      (s.freeSlotB = true → t.nvm.slotA = none ∧ t.nvm.slotB = some c) ∧
      (s.freeSlotB = false → t.nvm.slotA = some c ∧ t.nvm.slotB = none) ∧ t.nvm.commitTime = s.time.time64 ∧
      t.currentSet = some c ∧ t.nvm.erasing = some (!s.freeSlotB, 0) ∧ t.nvm.writing = none ∧ t.nvm.left = none ∧
      t.nvm.further = s.nvm.further ∧ t.nvm.commitState = (if s.nvm.further = true then 1 else 2) ∧
      t.reg Code.nvmCommits 0 = min (((s.regN Code.nvmCommits 0 + 1 : Nat)) : Int) (2 ^ 32 - 1) ∧
      t.doms = s.doms ∧ t.ports = s.ports ∧ t.ctxs = s.ctxs ∧ t.cells = s.cells) ∧
    (∃ t : State, exec (.commitSetCurrent false) s = .next t ∧ t.nvm.slotA = s.nvm.slotA ∧ t.nvm.slotB = s.nvm.slotB ∧
      (s.nvm.further = false → t.nvm.writing = none ∧ t.nvm.commitState = 3 ∧ t.nvm.left = some (c, s.nvm.pages)) ∧
      t.faultCount 6 = min (s.faultCount 6 + 1) (2 ^ 32 - 1) ∧ t.doms = s.doms ∧ t.ctxs = s.ctxs)) ∧
  (∀ s : State, s.Ready → s.nvm.erasure = true → s.nvm.writing = none →
    ∃ t : State, exec .lcEntryErasure s = .next t ∧ t.nvm.slotA = none ∧ t.nvm.slotB = none ∧ t.currentSet = none ∧
      (s.rwpRegs = [] → t.nvm.erasure = false ∧ t.nvm.commitTime = 0))

/-- DEFAULTS and REVERT bring each persistent setting to its default, or to its committed value, unless the check of the
settings that they form refuses it; then it keeps its working value. The committed sets stay. Stated where the settings that
have been written, and those of the set, are ones that are read or latched where they apply (R349). -/
def Obligations.DefaultsAndRevertFormOneSetting : Prop :=
  ∀ (q : Path) (tid value : Nat) (s : State) (o : Obj) (c : CommitSet),
    (∀ e ∈ s.rwpRegs ++ c.regs, actsAtOnce (rowCode (keyCode e.1)) = false) →
    let reaches := fun (t : State) (regs : Tab Int) (doms : Tab (List Byte)) =>
      (∀ code inst : Nat, inst < 2 ^ 24 → isRwp code = true →
        let want := Tab.find regs (objKey code inst)
        let form := (s.arrived q).jointForm regs doms
        t.regWritten code inst =
          (if want.getD (plainDefault code inst s.time.n) ≠ s.reg code inst ∧
              (form.settingOutside (rowCode code) inst ||
                (s.arrived q).settingRefused form true code (rowCode code) inst) = true
            then s.regWritten code inst else want)) ∧
      t.doms = doms.foldl (fun ds e => Tab.put ds e.1 e.2) (s.doms.filter (fun e => !isRwp (keyCode e.1))) ∧
      t.nvm = s.nvm ∧ t.ports = s.ports ∧ t.ctxs = s.ctxs ∧ t.cells = s.cells ∧ t.time = s.time
    (s.Accepts q Code.defaults value o 1 →
      ∃ t : State, exec (.defaults q tid value) s = .next t ∧ t.Holds q (writeDone tid Code.defaults) ∧ reaches t [] []) ∧
    (s.Accepts q Code.revert value o 1 → s.currentSet = some c →
      ∃ t : State, exec (.revert q tid value) s = .next t ∧ t.Holds q (writeDone tid Code.revert) ∧
        reaches t c.regs c.doms)

/-- Loading firmware: FW_BANK_ERASE erases the inactive bank and ends its bar; the verified end of the erase leaves it erased;
DOMAIN_WRITE_INIT opens a load; each page of a held segment has its own check: one that passes lets the page be programmed, and
its verified end puts the page's bytes in the bank; one that is refused counts and leaves them waiting; a failed program leaves
the bank partial and ends the load; the last page is followed by the image check, which sets the bank to valid with its version and sequence number, or to signature failed. The active bank is
never touched (R284, R366, R367, R454, R458). -/
def Obligations.FirmwareIsLoadedIntoTheInactiveBank : Prop :=
  (∀ (q : Path) (tid value : Nat) (s : State) (o : Obj) (v : Int), s.Accepts q Code.fwBankErase value o v →
    ∃ t : State, exec (.fwBankErase q tid value) s = .next t ∧ t.Holds q (writeDone tid Code.fwBankErase) ∧
      t.OnlyAnswered { s with
        aon := if v = 0 then { s.aon with bank0 := {} } else { s.aon with bank1 := {} }
        fw := if v = 0 then { s.fw with bank0 := { state := 4 }, update := 1 }
          else { s.fw with bank1 := { state := 4 }, update := 1 } }) ∧
  (∀ s : State, s.Ready → (s.bank s.inactive).state = 4 →
    exec (.fwEraseComplete true) s = .next { s with fw :=
      if s.fw.active = 0 then { s.fw with bank1 := {}, update := 0 } else { s.fw with bank0 := {}, update := 0 } } ∧
    (∃ t : State, exec (.fwEraseComplete false) s = .next t ∧ (t.bank s.inactive).state = 3 ∧
      t.bank s.fw.active = s.bank s.fw.active ∧ t.fw.update = 6 ∧
      t.fw.active = s.fw.active ∧ t.faultCount 6 = min (s.faultCount 6 + 1) (2 ^ 32 - 1) ∧
      t.faultCount 39 = min (s.faultCount 39 + 1) (2 ^ 32 - 1))) ∧
  (∀ (q : Path) (tid length : Nat) (s : State) (o : Obj), s.Serves q →
    s.checkObject { op := 4, tid := tid, index := 0x1020, sub := 4, arg := length } = .ok o →
    (s.path q).xfer = none → 0 < length → length ≤ o.size → length % 256 = 0 → (s.bank s.inactive).state = 0 →
    ∃ t : State, exec (.domainWriteInit q tid 0x1020 4 length) s = .next t ∧ (t.bank s.inactive).state = 5 ∧
      t.fw.update = 2 ∧ t.fw.length = length ∧ t.fw.held = [] ∧ t.fw.active = s.fw.active ∧
      ((t.path q).xfer.map (fun x => x.length)) = some length) ∧
  (∀ (microVolt : Nat) (s : State), s.Ready → s.nvm.op = none → s.nvm.toLog = [] → s.nvm.writing = none →
    s.nvm.erasing = none → s.fw.held ≠ [] →
    0 < s.regN Code.holdupCap 0 → s.hold.low = false → s.hold.nvmFrom = none →
    let enough := s.regN Code.holdupNvmReq 0 * (2 * 10 ^ 15 * 65536 * 65536) ≤
      s.regN Code.holdupCap 0 * (microVolt * s.regN Code.holdupDiv 0) ^ 2
    ∃ t : State, exec (.fwPageProgram microVolt) s = .next t ∧ t.fw = s.fw ∧ t.faults = s.faults ∧
      (enough → t.nvm = { s.nvm with op := some .fwPage } ∧ t.hold.nvmFrom = none ∧ t.regs = s.regs) ∧
      (¬ enough → t.nvm = s.nvm ∧ t.hold.nvmFrom = some s.time.tick ∧
        t.regs = (s.bump Code.nvmRefusals 0).regs)) ∧
  (∀ (microVolt : Nat) (s : State) (t0 : Nat), s.Ready → s.nvm.op = none → s.nvm.toLog = [] → s.nvm.writing = none →
    s.nvm.erasing = none → s.fw.held ≠ [] → 0 < s.regN Code.holdupCap 0 → s.hold.low = false → s.hold.nvmFrom = some t0 →
    s.regN Code.holdupNvmReq 0 * (2 * 10 ^ 15 * 65536 * 65536) ≤
      s.regN Code.holdupCap 0 * (microVolt * s.regN Code.holdupDiv 0) ^ 2 →
    ∃ t : State, exec (.holdupRetry false microVolt) s = .next t ∧ t.nvm = { s.nvm with op := some .fwPage } ∧
      t.hold.nvmFrom = none ∧ t.fw = s.fw ∧ t.regs = s.regs) ∧
  (∀ (s : State) (seg : List Byte) (rest : List (List Byte)), s.Ready → s.nvm.op = some .fwPage → s.fw.held = seg :: rest →
    s.nvm.toLog = [] → s.nvm.writing = none → s.nvm.erasing = none →
    let room := 256 - (s.bank s.inactive).image.length % 256
    let left := if seg.drop room = [] then rest else seg.drop room :: rest
    (∃ t : State, exec (.nvmPageProgramComplete true) s = .next t ∧ t.nvm = { s.nvm with op := none } ∧
      t.bank s.inactive = { s.bank s.inactive with image := (s.bank s.inactive).image ++ seg.take room } ∧ t.fw.held = left ∧
      t.fw.update = (if left = [] ∧ s.fw.complete = true then 3 else s.fw.update) ∧ t.regs = s.regs) ∧
    (∃ t : State, exec (.nvmPageProgramComplete false) s = .next t ∧ t.nvm = { s.nvm with op := none } ∧
      t.bank s.inactive = { s.bank s.inactive with state := 3 } ∧ t.fw.held = [] ∧ t.fw.update = 6 ∧
      (∀ (q : Path) (x : Xfer), (s.path q).xfer = some x → x.code = Code.fwImage → (t.path q).xfer = none) ∧
      t.faultCount 6 = min (s.faultCount 6 + 1) (2 ^ 32 - 1) ∧ t.faultCount 39 = min (s.faultCount 39 + 1) (2 ^ 32 - 1))) ∧
  (∀ s : State, s.Ready → s.fw.update = 3 → s.fw.complete = true → s.fw.held = [] →
    let img := (s.bank s.inactive).image
    ∃ t : State, exec .fwImageCheck s = .next t ∧ t.fw.active = s.fw.active ∧ t.bank s.fw.active = s.bank s.fw.active ∧
      t.nvm = s.nvm ∧ t.aon.bank0 = s.aon.bank0 ∧ t.aon.bank1 = s.aon.bank1 ∧
      (imageGood img s.fw.length = true →
        t.bank s.inactive =
          { state := 1, version := imageField img 8 4, seq := imageField img 12 4, image := img } ∧ t.fw.update = 0 ∧
        t.regs = s.regs) ∧
      (imageGood img s.fw.length = false → t.bank s.inactive = { state := 2, image := img } ∧ t.fw.update = 6 ∧
        t.faultCount 39 = min (s.faultCount 39 + 1) (2 ^ 32 - 1)))

/-- A hitless update: FW_SWITCH starts it, with no engine on the new microcode and the first migration due 500 ms later; a
migration of the update sends the first port that still has old microcode to a spare that has the new, at most one each
250 ms; when every cluster in service is done the controller resets onto the new bank; 600 s later its trial ends. A watchdog
reset in that trial bars the bank, sets FW_UPDATE_STATE to 6 and starts the other bank (R367, R445, R448, R458, R460). -/
def Obligations.UpdatesSwitchAndWatchdogsBar : Prop :=
  (∀ (q : Path) (tid value : Nat) (s : State) (o : Obj), s.Accepts q Code.fwSwitch value o 1 →
    ∃ t : State, exec (.fwSwitch q tid value) s = .next t ∧ t.Holds q (writeDone tid Code.fwSwitch) ∧ t.fw.update = 4 ∧
      t.fw.switching = true ∧ t.fw.goingBack = false ∧ t.fw.newCode = [] ∧ t.fw.active = s.fw.active ∧
      (∀ k : Nat, k < 9 → Tab.find t.fw.paced k = some (s.time.tick + 5000000)) ∧ t.ports = s.ports ∧ t.nvm = s.nvm) ∧
  (∀ (k p y : Nat) (s : State), s.Ready → k < 9 → s.fw.switching = true → (s.cluster k).state ≤ 1 →
    Tab.get s.fw.paced k 0 ≤ s.time.tick → (∀ e ∈ enginesOf k, (s.engine e).state ≠ 2 ∧ (s.engine e).state ≠ 3) →
    s.sparesLeft k = 2 →
    (portsOf k).find? (fun j => !s.fw.newCode.contains (s.engineFor j) && !s.beaconBoundary j && !(s.port j).stopped &&
      !(s.engine (s.engineFor j)).failing) = some p →
    s.longest ((enginesOf k).filter (fun e => s.readySpare e && s.fw.newCode.contains e)) = some y →
    ∃ t : State, exec (.fwUpdateMigration k) s = .next t ∧ (t.engine (s.engineFor p)).target = some y ∧
      (t.engine y).state = 3 ∧ Tab.get t.fw.paced k 0 = s.time.tick + 2500000 ∧ t.ports = s.ports ∧ t.regs = s.regs ∧
      (∀ e : Nat, e ≠ s.engineFor p → e ≠ y → t.engine e = s.engine e)) ∧
  (∀ s : State, s.Ready → s.fw.switching = true → s.fw.goingBack = false → s.fw.active ≤ 1 →
    (∀ k ∈ s.servedClusters, s.clusterUpdated k = true ∧
      ∀ e ∈ enginesOf k, (s.engine e).state ≠ 2 ∧ (s.engine e).state ≠ 3) →
    ∃ t : State, exec .fwUpdateSwitched s = .next t ∧ t.fw.active = 1 - s.fw.active ∧ t.fw.boot = 1 - s.fw.active ∧
      t.fw.update = 5 ∧ t.fw.switching = false ∧ t.mgmt = { s.mgmt with mcReset := true } ∧ t.resetCause = s.resetCause ∧
      (t.bankRecord (1 - s.fw.active)).trialFrom = some s.time.tick ∧
      t.aon.resets = (if s.resetTogether = true then s.aon.resets else min (s.aon.resets + 1) (2 ^ 32 - 1)) ∧
      t.ports = s.ports ∧ t.ctxs = s.ctxs ∧ t.regs = s.regs) ∧
  (∀ (s : State) (t0 : Nat), s.Ready → (s.bankRecord s.fw.active).trialFrom = some t0 → t0 + 6000000000 ≤ s.time.tick →
    ∃ t : State, exec .fwTrialEnd s = .next t ∧ { t with aon := s.aon } = s ∧
      t.bankRecord s.fw.active = { s.bankRecord s.fw.active with trialFrom := none }) ∧
  (∀ s : State, s.Ready → s.mgmt.mcReset = false → s.resetTogether = false → s.fw.switching = false → s.fw.active ≤ 1 →
    let r := s.bankRecord s.fw.active
    ∃ t : State, exec .watchdogExpiry s = .next t ∧ t.mgmt = { s.mgmt with mcReset := true } ∧ t.resetCause = 3 ∧
      t.aon.resets = min (s.aon.resets + 1) (2 ^ 32 - 1) ∧ t.faultCount 3 = min (s.faultCount 3 + 1) (2 ^ 32 - 1) ∧
      t.nvm = s.nvm ∧ t.ctxs = s.ctxs ∧
      (r.trialFrom = none → r.watchdogs = [] → t.fw = s.fw ∧
        t.bankRecord s.fw.active = { r with watchdogs := [s.time.tick] }) ∧
      (∀ t0 : Nat, r.trialFrom = some t0 → s.time.tick ≤ t0 + 6000000000 →
        (t.bankRecord s.fw.active).barred = true ∧ t.fw.update = 6 ∧
        t.faultCount 39 = min (s.faultCount 39 + 1) (2 ^ 32 - 1) ∧
        ((s.bank (1 - s.fw.active)).state = 1 → (s.bankRecord (1 - s.fw.active)).barred = false →
          t.fw.active = 1 - s.fw.active)))

/-- Engines: a migration gives the port the engine arranged for it, copies the tap store word by word and sends the engine
before to its test, outside a beacon window or for a failing engine; a word that the copy cannot correct is 0 in the new store
and stays marked in the old one; an engine whose tests lack a golden value neither passes nor fails by the others; a test that passes makes the engine a ready spare, one that fails twice records it as failed;
an engine that fails while a spare is ready gets that spare; with none its port stops (R382–R388, R394, R402, R403). -/
def Obligations.EnginesMigrateAndAreTested : Prop :=
  (∀ (p y : Nat) (crc : Bool) (bad : List Nat) (s : State), s.Ready → p < 144 →
    (s.engine (s.engineFor p)).target = some y → y ≠ s.engineFor p → (s.port p).stopped = false →
    (s.engine y).failing = false →
    (s.beaconBoundary p = true → (s.engine (s.engineFor p)).failing = false →
      exec (.migration p crc bad) s = .next s) ∧
    (s.beaconBoundary p = false ∨ (s.engine (s.engineFor p)).failing = true →
      let x := s.engineFor p
      let lost := (List.range 384).filter (fun w => bad.contains w || s.isBad 4 (tapWord x w))
      ∃ t : State, exec (.migration p crc bad) s = .next t ∧ t.engineFor p = y ∧
        t.engine y = { s.engine y with state := 0, since := s.time.tick, zeroed := lost } ∧
        (t.port p).trunk.ech = (s.port p).trunk.ech.mapIdx (fun i c => if lost.contains (i / 4) then 0 else c) ∧
        (∀ w : Nat, w < 384 → t.isBad 4 (tapWord y w) = false ∧ t.isBad 4 (tapWord x w) = lost.contains w) ∧
        (t.engine x).state = 2 ∧ (t.engine x).target = none ∧
        t.reg Code.migrations p = min (((s.regN Code.migrations p + 1 : Nat)) : Int) (2 ^ 32 - 1) ∧
        (∀ e : Nat, e ≠ y → e ≠ x → t.engine e = s.engine e) ∧ t.cells = s.cells ∧
        (s.trunkOn p = false → t.ctxs = s.ctxs ∧
          ((∀ w ∈ bad, w < 384 → s.isBad 4 (tapWord x w) = true) → t.faults = s.faults ∧
            ∀ j : Nat, j ≠ p → t.port j = s.port j)))) ∧
  (∀ (e : Nat) (sigs : List Response) (s : State), s.Ready → e < 162 → (s.engine e).state = 2 → s.fw.switching = false →
    let now := s.time.time64 / 10000000 % 2 ^ 32
    (s.mismatches sigs = [] → s.enginesTestable = false → exec (.engineTestComplete e sigs) s = .next s) ∧
    (s.mismatches sigs = [] → s.enginesTestable = true → ∃ t : State, exec (.engineTestComplete e sigs) s = .next t ∧
      t.engine e = { s.engine e with state := 1, since := s.time.tick, second := false, passed := true, tested := now } ∧
      t.reg Code.enginePasses 0 = min (((s.regN Code.enginePasses 0 + 1 : Nat)) : Int) (2 ^ 32 - 1) ∧
      (∀ j : Nat, j ≠ e → t.engine j = s.engine j) ∧ t.ports = s.ports ∧ t.ctxs = s.ctxs ∧ t.nvm = s.nvm) ∧
    (s.mismatches sigs ≠ [] → (s.engine e).second = false →
      ∃ t : State, exec (.engineTestComplete e sigs) s = .next t ∧
        t.engine e = { s.engine e with second := true, passed := false } ∧
        t.reg Code.engineFails 0 = min (((s.regN Code.engineFails 0 + 1 : Nat)) : Int) (2 ^ 32 - 1) ∧
        (∀ j : Nat, j ≠ e → t.engine j = s.engine j) ∧ t.ports = s.ports ∧ t.ctxs = s.ctxs ∧ t.nvm = s.nvm) ∧
    (s.mismatches sigs ≠ [] → (s.engine e).second = true →
      ∃ t : State, exec (.engineTestComplete e sigs) s = .next t ∧ (t.engine e).state = 4 ∧
        t.nvm.toLog = s.nvm.toLog ++ [{ kind := 1, unit := e, spare := 0, time := s.time.time64 }] ∧
        t.faultCount 11 = min (s.faultCount 11 + 1) (2 ^ 32 - 1) ∧
        (∀ j : Nat, j ≠ e → t.engine j = s.engine j) ∧ t.ctxs = s.ctxs)) ∧
  (∀ (e y : Nat) (f : EngineFault) (s : State), s.Ready → e < 162 → (s.engine e).state = 0 →
    (∀ x ∈ enginesOf (e / 18), (s.engine x).target = none) → s.spareFor (e / 18) = some y →
    ∃ t : State, exec (.engineFailing e f) s = .next t ∧ (t.engine e).failing = true ∧ (t.engine e).target = some y ∧
      (t.engine e).rotating = false ∧ (t.engine y).state = 3 ∧ y ≠ e ∧ (∀ j : Nat, j ≠ e → j ≠ y → t.engine j = s.engine j) ∧
      (∀ a : Nat, f = .tapStore a → t.isBad 4 (tapWord e a) = true ∧ t.faultCount 4 = min (s.faultCount 4 + 1) (2 ^ 32 - 1)) ∧
      (f = .hang → t.test = s.test ∧ t.faultCount 10 = min (s.faultCount 10 + 1) (2 ^ 32 - 1)) ∧ t.ctxs = s.ctxs) ∧
  (∀ (p : Nat) (s : State), s.Ready → p < 144 → (s.engine (s.engineFor p)).failing = true →
    (s.engine (s.engineFor p)).target = none → (s.port p).stopped = false →
    ∃ t : State, exec (.engineExhausted p) s = .next t ∧ (t.port p).stopped = true ∧ (t.port p).onLine = [] ∧
      (t.engine (s.engineFor p)).state = 2 ∧ (t.engine (s.engineFor p)).failing = false ∧
      t.faultCount 9 = min (s.faultCount 9 + 1) (2 ^ 32 - 1) ∧
      (∀ j : Nat, j ≠ s.engineFor p → t.engine j = s.engine j))

/-- Memory tests: the tester of a memory takes its next slice where it may, which a drop-context slice does only where none of its
contexts is due; it puts it back on an abort, and on the signature
passes on to the next slice or, at the second failure, moves the slice to a spare; the scrubber counts a corrected word and
marks an uncorrectable one bad; a cell is rebuilt at once, and so is a drop context but for its taps and loop state (R48, R49,
R219, R259, R389–R393). -/
def Obligations.SlicesAreTestedAndScrubbed : Prop :=
  (∀ (m : Mem) (s : State), s.Ready → m = .cells ∨ m = .buffers ∨ m = .contexts →
    let x := s.tester m
    (s.regB Code.sliceTestEnable 0 = true → s.test.fullState ≠ 1 → x.running = false → x.abortAt = none →
      (s.golden (sliceTest m) 0).isSome = true → s.sliceIdle m = true →
      ∃ t : State, exec (.sliceTestStart m) s = .next t ∧ t.tester m = { x with running := true } ∧
        { t with test := s.test } = s ∧ t.test.badWords = s.test.badWords) ∧
    (s.sliceIdle m = false → exec (.sliceTestStart m) s = .next s) ∧
    (x.running = true → x.aborts < 15 →
      ∃ t : State, exec (.sliceTestAbort m) s = .next t ∧
        t.tester m = { x with running := false, abortAt := some s.time.tick, aborts := x.aborts + 1 } ∧
        t.reg Code.sliceAborts 0 = min (((s.regN Code.sliceAborts 0 + 1 : Nat)) : Int) (2 ^ 32 - 1) ∧
        t.nvm = s.nvm ∧ t.faults = s.faults) ∧
    (x.running = true → 15 ≤ x.aborts →
      ∃ t : State, exec (.sliceTestAbort m) s = .next t ∧
        t.tester m = { x with running := false, abortAt := some s.time.tick, aborts := 0 } ∧
        t.faultCount 16 = min (s.faultCount 16 + 1) (2 ^ 32 - 1)) ∧
    (∀ (words : List (BitVec 64)) (bad : List Nat), x.running = true →
      let sig := signatureOf words
      (s.golden (sliceTest m) 0 = some sig →
        ∃ t : State, exec (.sliceTestComplete m words bad) s = .next t ∧
          t.tester m = { x with running := false, aborts := 0, slice := (x.slice + 1) % sliceCount m,
                                failedOnce := dropFrom x.slice x.failedOnce } ∧
          t.reg Code.sliceTests 0 = min (((s.regN Code.sliceTests 0 + 1 : Nat)) : Int) (2 ^ 32 - 1) ∧ t.nvm = s.nvm) ∧
      (s.golden (sliceTest m) 0 ≠ some sig → x.slice ∉ x.failedOnce →
        ∃ t : State, exec (.sliceTestComplete m words bad) s = .next t ∧
          t.tester m = { x with running := false, aborts := 0, slice := (x.slice + 1) % sliceCount m,
                                failedOnce := addTo x.slice x.failedOnce } ∧
          t.reg Code.misrMismatches 0 = min (((s.regN Code.misrMismatches 0 + 1 : Nat)) : Int) (2 ^ 32 - 1) ∧
          t.nvm = s.nvm) ∧
      (s.golden (sliceTest m) 0 ≠ some sig → x.slice ∈ x.failedOnce → (∀ r ∈ x.remap, r.2 ≠ 0) → 0 ∉ x.badSpares →
        ∃ t : State, exec (.sliceTestComplete m words bad) s = .next t ∧
          (t.tester m).remap = x.remap.filter (fun r => r.1 != x.slice) ++ [(x.slice, 0)] ∧
          t.nvm.toLog = s.nvm.toLog ++ [{ kind := 2, unit := memCode m + 256 * x.slice, spare := 0, time := s.time.time64 }] ∧
          (m = .cells → ∀ w ∈ bad, t.isBad 0 w = true) ∧ t.faultCount 14 = min (s.faultCount 14 + 1) (2 ^ 32 - 1)))) ∧
  (∀ (m : Mem) (w : Nat) (s : State), s.Ready → m = .cells ∨ m = .trace ∨ m = .contexts ∨ m = .buffers →
    ¬ ((s.tester m).running = true ∧ w / 512 = (s.tester m).slice) →
    exec (.patrolScrub m w .good) s = .next s ∧
    exec (.patrolScrub m w .single) s = .next { s with test := { s.test with
      corrected := Tab.put s.test.corrected (memCode m)
        (min (Tab.get s.test.corrected (memCode m) 0 + 1) (2 ^ 32 - 1)) } } ∧
    (∃ t : State, exec (.patrolScrub m w .double) s = .next t ∧ t.faultCount 4 = min (s.faultCount 4 + 1) (2 ^ 32 - 1) ∧
      (m = .trace → t.isBad 1 w = true ∧ t.cells = s.cells ∧ t.ctxs = s.ctxs) ∧
      (m = .contexts → t.cells = s.cells ∧ (w % 64 < 24 → t.isBad 2 w = true ∧ t.ctxs = s.ctxs) ∧
        (24 ≤ w % 64 → (s.ctx (w / 2048) (w / 64 % 32 + 1)).state ≠ 0 → t.isBad 2 w = false ∧
          (∀ c : Nat, ctxCounters (w % 64) = some c → w / 2048 < 144 →
            t.reg c (dropKey (w / 2048) (w / 64 % 32 + 1)) = 0 ∧
            t.reg (c + 1) (dropKey (w / 2048) (w / 64 % 32 + 1)) = 0))) ∧
      (m = .buffers → t.isBad 3 w = true ∧ t.cells = s.cells) ∧
      (m = .cells → t.isBad 0 w = false ∧ t.ctxs = s.ctxs ∧ ∀ (p : Nat) (b : Bool), s.cellOwner (w / 2) = some (p, b) → p < 144 →
        t.reg Code.cellRebuilds p = min (((s.regN Code.cellRebuilds p + 1 : Nat)) : Int) (2 ^ 32 - 1))))

/-- The full test, the calibrations of the converters and the check of the clusters: FULL_TEST starts and aborts the slice
tests that run, and its end sets its state and result; a calibration disconnects a half that fails; a start-up check brings a
cluster that passes into readiness; a cluster whose link fails is lost (R38, R396–R401, R403). -/
def Obligations.TestsOfTheWholeDevice : Prop :=
  (∀ (q : Path) (tid value : Nat) (s : State) (o : Obj), s.Accepts q Code.fullTest value o 1 →
    ∃ t : State, exec (.fullTest q tid value) s = .next t ∧ t.Holds q (writeDone tid Code.fullTest) ∧
      t.test.fullState = 1 ∧ t.test.fullAt = s.time.time64 ∧ t.test.cells = { s.test.cells with running := false } ∧
      t.test.buffers = { s.test.buffers with running := false } ∧
      t.test.contexts = { s.test.contexts with running := false } ∧ t.engines = s.engines ∧ t.ports = s.ports ∧
      t.ctxs = s.ctxs ∧ t.cells = s.cells ∧ t.nvm = s.nvm) ∧
  (∀ (rs : List UnitTest) (s : State), s.Ready → s.test.fullState = 1 → (∀ x ∈ rs, s.unitFails x = false) →
    ∃ t : State, exec (.fullTestComplete rs) s = .next t ∧ t.test.fullState = 2 ∧
      t.test.fullResult = fullResultBytes s.test.fullAt s.time.time64 [] ∧
      t.ctxs = s.ctxs ∧ t.cells = s.cells ∧ t.faultCount 11 = s.faultCount 11) ∧
  (∀ (e test : Nat) (words : List (BitVec 64)) (s : State), s.Ready → s.test.fullState = 1 → e < 162 → 1 ≤ test → test ≤ 5 →
    (s.engine e).state ≠ 4 → (∃ g : Nat, s.golden test 0 = some g ∧ g ≠ signatureOf words) →
    ∃ t : State, exec (.fullTestComplete [{ test := test, unit := e, words := words }]) s = .next t ∧
      t.test.fullState = 3 ∧ (t.engine e).state = 4 ∧ t.faultCount 11 = min (s.faultCount 11 + 1) (2 ^ 32 - 1)) ∧
  (∀ (k p : Nat) (f g : HalfFinding) (s : State), s.Ready → k < 9 → clusterOf p = k → (s.cluster k).state ≤ 1 →
    (s.port p).trav.halves = 3 →
    1000 < f.gain.natAbs ∨ 200 < f.offset.natAbs ∨ 250 < f.skew.natAbs ∨ (1024 ≤ f.unchanged ∧ 16 < f.otherSpan) →
    ¬ (1000 < g.gain.natAbs ∨ 200 < g.offset.natAbs ∨ 250 < g.skew.natAbs ∨ (1024 ≤ g.unchanged ∧ 16 < g.otherSpan)) →
    ∃ t : State, exec (.converterCalibration k [{ port := p, half0 := f, half1 := g }]) s = .next t ∧
      (t.port p).trav.halves = 2 ∧ t.faultCount 13 = min (s.faultCount 13 + 1) (2 ^ 32 - 1) ∧ t.engines = s.engines) ∧
  (∀ (k : Nat) (rs again : List UnitTest) (s : State), s.Ready → k < 9 → s.power.started = false → s.faults.started = true →
    (s.cluster k).state ≠ 5 → s.railsPending k = false → k ∉ s.power.checked → s.nvm.log = [] →
    s.nvm.toLog = [] → (∀ x ∈ rs, s.unitFails x = false) →
    ∃ t : State, exec (.startupCheck [{ cluster := k, runs := rs, again := again }]) s = .next t ∧
      (t.cluster k).state = 0 ∧ (t.cluster k).ready = true ∧ (t.cluster k).linkOn = true ∧
      t.power.checked = addTo k s.power.checked ∧ (s.power.checked.length = 8 → t.time.starting = true) ∧ (∀ p : Nat, clusterOf p = k → (t.port p).trav.halves = 3) ∧
      (∀ e ∈ enginesOf k, (t.engine e).state = if e % 18 < 16 then 0 else 1) ∧
      (∀ j : Nat, j ≠ k → t.cluster j = s.cluster j)) ∧
  (∀ (k : Nat) (s : State), s.Ready → k < 9 → (s.cluster k).linkOn = true →
    ∃ t : State, exec (.clusterLinkLoss k) s = .next t ∧ (t.cluster k).state = 4 ∧
      t.reg Code.clinkLosses k = min (((s.regN Code.clinkLosses k + 1 : Nat)) : Int) (2 ^ 32 - 1) ∧
      t.faultCount 7 = min (s.faultCount 7 + 1) (2 ^ 32 - 1) ∧
      (∀ j : Nat, j ≠ k → sameButLink (t.cluster j) (s.cluster j)))

/-- A write of FULL_TEST 1 while FULL_TEST_STATE reads 1 is refused with 06010007h, in the life-cycle states in which FULL_TEST
can be written at all (R339); nothing else changes (R378). -/
def Obligations.FullTestIsNotRestarted : Prop :=
  ∀ (q : Path) (tid : Nat) (s : State), s.Serves q → s.lc = 1 ∨ s.lc = 3 → s.test.fullState = 1 →
    ∃ t : State, exec (.fullTest q tid 1) s = .next t ∧ t.OnlyAnswered s ∧ t.test.fullState = 1 ∧
      t.Holds q (abortBytes 2 tid (Code.fullTest / 256) (Code.fullTest % 256) 0x06010007)

/-- Held raises: FAULT_ACK acknowledges those of the classes of its mask, FAULT_CLEAR ends acknowledged ones that are no longer
present, each with a record in FAULT_LOG, newest first; FEC_REARM frees the capture; FAULT_INJECT brings one raise of its
default class, which no count of FAULT_TABLE shows; a raise of 4, 5 or 6 carries the write as its access (R376, R408, R410, R412,
R413, R419; what an injected raise carries is the model's reading, notes/assumptions/8). -/
def Obligations.HeldRaisesAreAcknowledgedAndCleared : Prop :=
  (∀ (q : Path) (tid value : Nat) (s : State) (o : Obj) (v : Int), s.Accepts q Code.faultAck value o v → v ≠ 0 →
    let hit := fun (r : Raise) => v.toNat.testBit (r.cls - 1) && !r.acked
    ∃ t : State, exec (.faultAck q tid value) s = .next t ∧
      t.faults = { s.faults with held := s.faults.held.map (fun r => if hit r then { r with acked := true } else r) } ∧
      { t.aon with faultLog := s.aon.faultLog } = s.aon ∧
      t.aon.faultLog.take 64 =
        (((s.faults.held.filter hit).map (fun r => raiseRecord 2 r s)).reverse ++ s.aon.faultLog).take 64 ∧
      t.ports = s.ports ∧ t.ctxs = s.ctxs ∧ t.nvm = s.nvm) ∧
  (∀ (q : Path) (tid value : Nat) (s : State) (o : Obj) (v : Int), s.Accepts q Code.faultClear value o v → v ≠ 0 →
    let hit := fun (r : Raise) => v.toNat.testBit (r.cls - 1) && r.acked
    ∃ t : State, exec (.faultClear q tid value) s = .next t ∧
      t.faults = { s.faults with held := s.faults.held.filter (fun r => !(hit r && !r.present)) } ∧
      { t.aon with faultLog := s.aon.faultLog } = s.aon ∧
      t.aon.faultLog.take 64 =
        (((s.faults.held.filter hit).map (fun r => raiseRecord 3 r s)).reverse ++ s.aon.faultLog).take 64 ∧
      t.ports = s.ports ∧ t.ctxs = s.ctxs ∧ t.nvm = s.nvm) ∧
  (∀ (q : Path) (tid value : Nat) (s : State) (o : Obj), s.Accepts q Code.fecRearm value o 1 →
    ∃ t : State, exec (.fecRearm q tid value) s = .next t ∧ t.Holds q (writeDone tid Code.fecRearm) ∧
      t.OnlyAnswered { s with aon := { s.aon with capture := none } }) ∧
  (∀ (q : Path) (tid value : Nat) (s : State) (o : Obj) (v : Int), s.Accepts q Code.faultInject value o v →
    ∃ t : State, exec (.faultInject q tid value) s = .next t ∧ t.Holds q (writeDone tid Code.faultInject) ∧
      t.faults = { s.faults with inject := s.faults.inject ++ [(v.toNat, masterOf q)] } ∧ t.aon = s.aon ∧ t.ports = s.ports ∧ t.ctxs = s.ctxs) ∧
  (∀ (src m : Nat) (s : State), s.Ready → s.faults.inject = [(src, m)] → defaultClass src < 4 → s.faults.held.length < 256 →
    ∃ t : State, exec .injectedRaise s = .next t ∧
      t.faults = { s.faults with inject := [], held := s.faults.held ++ [
        { source := src, key := [], cls := defaultClass src, acked := false, present := false, injected := true,
          captured := s.aon.capture.isNone, time := s.time.time64, detail := [],
          access := if src = 4 ∨ src = 5 ∨ src = 6 then 2 else 0,
          master := if src = 4 ∨ src = 5 ∨ src = 6 then m else 0,
          address := if src = 4 ∨ src = 5 ∨ src = 6 then Code.faultInject else 0 }] } ∧
      t.aon.faultCounts = s.aon.faultCounts ∧
      t.reg Code.injections 0 = min (((s.regN Code.injections 0 + 1 : Nat)) : Int) (2 ^ 32 - 1) ∧
      t.ports = s.ports ∧ t.ctxs = s.ctxs ∧ t.nvm = s.nvm ∧ t.engines = s.engines)

/-- A device-scope reset starts the core die anew: no setting, context, line, cell, link or raise of before is left, and the
management controller is in reset; what is held of a condition of sources 18, 19 and 22 is to be checked again; the response to the
RESET_CMD 2 that resets is sent; VDD_CORE and VDD_SRAM of a core die that heat has shut down are requested on in that order, and
with both on it starts as after a power-on reset; life-cycle state, committed sets, repair log, fault records and their counts stay, but for a
fall of VDD_AON, which takes the always-on domain with it (R345, R417, R418, R442, R445, R446). -/
def Obligations.DeviceResetsStartAnew : Prop :=
  let anew := fun (cause : Nat) (s t : State) =>
    t.regs = [] ∧ t.ports = [] ∧ t.ctxs = [] ∧ t.cells = {} ∧ t.engines = [] ∧ t.clusters = [] ∧ t.oxl = {} ∧ t.spi = {} ∧
      { t.mgmt with sentLast := none } = {} ∧ { t.faults with recheck := [] } = {} ∧
      t.faults.recheck = [18, 19, 22].filter (fun n => s.faults.recheck.contains n ||
        s.faults.held.any (fun r => r.source == n && r.present && !r.injected)) ∧ t.arch = {} ∧ t.time.time64 = 0 ∧ t.time.running = false ∧ t.time.tick = s.time.tick ∧
      t.resetCause = cause ∧ t.lc = s.lc ∧ t.currentSet = s.currentSet ∧ t.nvm.log = s.nvm.log
  let keeps := fun (s t : State) =>
    t.aon.faultLog = s.aon.faultLog ∧ t.aon.faultCounts = s.aon.faultCounts ∧ t.aon.capture = s.aon.capture ∧
      t.aon.caskA = s.aon.caskA ∧ t.aon.ledgers = s.aon.ledgers ∧ t.aon.rtc = s.aon.rtc ∧
      t.aon.resets = (if s.resetTogether = true then s.aon.resets else min (s.aon.resets + 1) (2 ^ 32 - 1))
  (∀ s : State, s.heat.coreDown = false →
    ∃ t : State, exec .powerOnReset s = .next t ∧ anew 1 s t ∧ keeps s t) ∧
  (∀ s : State, ∃ t : State, exec .vddAonFall s = .next t ∧ anew 1 s t ∧ t.aon = { resets := 1 } ∧ t.power = {}) ∧
  (∀ s : State, s.Ready → ∃ t : State, exec .resetN s = .next t ∧ anew (s.firstCause 2) s t ∧ keeps s t ∧
    (s.resetTogether = false → t.resetCause = 2)) ∧
  (∀ (q : Path) (tid : Nat) (s : State) (o : Obj), s.Accepts q Code.resetCmd 2 o 2 →
    ∃ t : State, exec (.resetCmdDevice q tid) s = .next t ∧ anew (s.firstCause 5) s t ∧ keeps s t ∧
      t.mgmt.sentLast = some (q, writeDone tid Code.resetCmd) ∧ (s.resetTogether = false → t.resetCause = 5)) ∧
  (∀ s : State, s.faults.fatal = false → s.heat.coreDown = true → 10000 ≤ s.heat.cold → s.heat.restarting = false →
    s.power.queue = [] → s.faults.due = [] →
    exec .thermalRestart s = .next { s with
      heat := { s.heat with restarting := true }
      power := { s.power with queue := s.onBus [pmReq 0 0x01 0x80 1 none, pmReq 1 0x01 0x80 1 none] } }) ∧
  (∀ (r : PmReq) (w : Nat) (s : State), s.faults.fatal = false → s.heat.coreDown = true → s.heat.restarting = true →
    s.power.queue = [r] → r.rail = 1 → r.cmd = 0x01 → r.data = 0x80 → r.waiting = false → r.clear = true →
    r.notBefore ≤ s.time.tick → s.railOn 0 = true →
    ∃ t : State, exec (.pmbusRequestComplete (.ack w)) s = .next t ∧ anew 1 s t ∧ keeps s t ∧ t.heat.coreDown = false ∧
      t.railOn 0 = true ∧ t.railOn 1 = true)

/-- Start-up: BOOT starts the valid bank with the higher sequence number, and stops the device in Fatal where none is valid
outside BLANK; STARTUP, once BOOT has started a bank, brings the firmware, the collector and
the committed settings, and requests the line rails of the first three clusters; a reset of the controller leaves all
else running, and its end lets it serve again (R345, R346, R403, R416, R445, R448, R449, R457). -/
def Obligations.StartupLoadsTheSet : Prop :=
  (∀ s : State, s.Ready → s.mgmt.mcReset = true → s.faults.started = false → s.fw.bank0.state = 1 → s.fw.bank1.state = 1 →
    s.aon.bank0.barred = false → s.aon.bank1.barred = false →
    let b := if s.fw.bank0.seq < s.fw.bank1.seq then 1 else 0
    exec .boot s = .next { s with fw := { s.fw with active := b, boot := b, booted := true, newCode := List.range 162 } }) ∧
  (∀ s : State, s.Ready → s.mgmt.mcReset = true → s.faults.started = false → s.fw.bank0.state ≠ 1 → s.fw.bank1.state ≠ 1 →
    s.lc ≠ 0 → (∀ r ∈ s.faults.held, r.source ≠ 2) →
    ∃ t : State, exec .boot s = .next t ∧ t.faults.fatal = true ∧
      t.faultCount 2 = min (s.faultCount 2 + 1) (2 ^ 32 - 1) ∧ t.nvm = s.nvm ∧ t.lc = s.lc) ∧
  (∀ (s : State) (c : CommitSet), s.Ready → s.mgmt.mcReset = true → s.faults.started = false → s.fw.booted = true →
    s.mgmt.waiting = [] → s.currentSet = some c →
    ∃ t : State, exec (.startup []) s = .next t ∧ t.mgmt.mcReset = false ∧ t.faults.started = true ∧
      t.nvm.commitTime = c.time ∧ t.currentSet = some c ∧
      (∀ k : Nat, k < 3 → ∃ r ∈ t.power.queue, r.rail = 13 + k ∧ r.cmd = 0x01 ∧ r.data = 0x80) ∧
      (∀ code inst : Nat, inst < 2 ^ 24 → isRwp code = true → t.regWritten code inst = Tab.find c.regs (objKey code inst))) ∧
  (∀ (q : Path) (tid : Nat) (s : State) (o : Obj), s.Accepts q Code.resetCmd 1 o 1 → s.resetTogether = false →
    ∃ t : State, exec (.resetCmdController q tid) s = .next t ∧ t.Holds q (writeDone tid Code.resetCmd) ∧
      t.OnlyAnswered { s with
        mgmt := { s.mgmt with mcReset := true }
        time := { s.time with resetAt := some s.time.tick }
        aon := { s.aon with resets := min (s.aon.resets + 1) (2 ^ 32 - 1) }
        resetCause := 4 }) ∧
  (∀ s : State, s.Ready → s.mgmt.mcReset = true → s.faults.started = true →
    (s.mgmt.waiting = [] → exec .mcResetEnd s = .next { s with mgmt := { s.mgmt with mcReset := false } }) ∧
    (∀ tid : Nat, s.mgmt.waiting = [(.oxlA, { op := 0, tid := tid })] →
      ∃ t : State, exec .mcResetEnd s = .next t ∧ t.mgmt = { s.mgmt with mcReset := false, waiting := [] } ∧
        t.Holds .oxlA [0x80#8, byteOf tid, 0, 0]))

/-- Losses: an unlocked core PLL stops the device in Fatal, with every line driver off and both links idle; an unlocked PLL or a
fallen rail of a cluster loses that cluster alone; a short on a line raises its condition, once while it lasts (R38, R39, R403, R416). -/
def Obligations.LossesAreContained : Prop :=
  (∀ s : State, s.Ready → (∀ r ∈ s.faults.held, r.source ≠ 1) →
    ∃ t : State, exec .corePllUnlock s = .next t ∧ t.faults.fatal = true ∧
      t.faultCount 1 = min (s.faultCount 1 + 1) (2 ^ 32 - 1) ∧
      (∀ p : Nat, p < 144 → (t.port p).driverOff = true ∧ (t.port p).onLine = []) ∧
      (∀ l : Link, (t.link l).tx = 0 ∧ (t.link l).inProgress = none) ∧ t.ctxs = s.ctxs ∧ t.nvm = s.nvm ∧
      t.cells = s.cells) ∧
  (∀ (i : Instr) (k : Nat) (s : State), i = .clusterPllUnlock k ∨ i = .clusterRailFall k false ∨ i = .clusterRailFall k true →
    s.Ready → k < 9 → (s.cluster k).linkOn = true →
    ∃ t : State, exec i s = .next t ∧ (t.cluster k).state = 4 ∧ (t.cluster k).ready = false ∧
      t.faultCount 7 = min (s.faultCount 7 + 1) (2 ^ 32 - 1) ∧ (i = .clusterRailFall k true → (t.sensor (k + 1)).poweredAt = none) ∧
      (∀ j : Nat, j ≠ k → sameButLink (t.cluster j) (s.cluster j)) ∧
      (∀ p : Nat, clusterOf p = k → (t.port p).started = false ∧ (t.port p).onLine = [])) ∧
  (∀ (p : Nat) (s : State), s.Ready → p < 144 → (s.port p).shorted = false →
    ∃ t : State, exec (.lineShort p) s = .next t ∧ (t.port p).shorted = true ∧ (t.port p).shortClear = 0 ∧
      t.faultCount 25 = min (s.faultCount 25 + 1) (2 ^ 32 - 1) ∧ t.ctxs = s.ctxs ∧
      (∀ k : Nat, sameButLink (t.cluster k) (s.cluster k))) ∧
  (∀ (p : Nat) (s : State), s.Ready → p < 144 → (s.port p).shorted = true →
    exec (.lineShort p) s = .next (s.modPort p (fun x => { x with shorted := true, shortClear := 0 })))

/-- Dormant: CLUSTER_TARGET 2 lets a cluster enter, WAKE_ALARM sets its alarm; DORMANT_ENTRY stops the cluster, writes its save
set to both cask copies, opens a ledger entry and requests its rails off; an alarm that is reached wakes the cluster and then
reads 0, as CLUSTER_TARGET 0 does at once; of a cluster that is not Dormant it only goes (R50, R91, R425–R428, R431, R444).
The steps of a wake: a rail that is acknowledged and good passes to the next one; a locked PLL lets the save set be
restored; the end of step 5 brings the cluster into service, each port in the mode that PORT_MODE has
(R370), its branch ports steep; a second PLL failure puts it down
(R90, R429, R430). -/
def Obligations.ClustersEnterDormantAndWake : Prop :=
  ((∀ (q : Path) (tid : Nat) (s : State) (o : Obj), s.Accepts q Code.clusterTarget 2 o 2 → (s.path q).selCluster < 9 →
    let k := (s.path q).selCluster
    ∃ t : State, exec (.clusterTargetDormant q tid) s = .next t ∧ t.Holds q (writeDone tid Code.clusterTarget) ∧
      t.reg Code.clusterTarget k = 2 ∧ (t.cluster k).wakeAfter = false ∧
      ((s.cluster k).state ≤ 1 ∨ (s.cluster k).state = 4 ∨ ((s.cluster k).state = 5 ∧ (s.cluster k).heatStuck = false) →
        (t.cluster k).entering = true) ∧ (t.cluster k).state = (s.cluster k).state ∧
      (∀ j : Nat, j ≠ k → t.cluster j = s.cluster j) ∧ t.ports = s.ports ∧ t.ctxs = s.ctxs ∧ t.power = s.power) ∧
  (∀ (q : Path) (tid : Nat) (s : State) (o : Obj), s.Accepts q Code.clusterTarget 0 o 0 → (s.path q).selCluster < 9 →
    let k := (s.path q).selCluster
    (s.cluster k).state = 2 → (s.cluster k).closing = false → (s.cluster k).entering = false →
    ∃ t : State, exec (.clusterTargetWake q tid) s = .next t ∧ t.Holds q (writeDone tid Code.clusterTarget) ∧
      t.reg Code.clusterTarget k = 0 ∧ (t.cluster k).state = 3 ∧ (t.cluster k).step = 1 ∧
      (s.power.queue = [] → t.power.queue = s.onBus [pmReq (13 + k) 0x01 0x80 2 (some k)]) ∧
      (∀ j : Nat, j ≠ k → t.cluster j = s.cluster j) ∧ t.ports = s.ports ∧ t.ctxs = s.ctxs) ∧
  (∀ (q : Path) (tid value : Nat) (s : State) (o : Obj) (v : Int), s.Accepts q Code.wakeAlarm value o v →
    (s.path q).selCluster < 9 →
    ∃ t : State, exec (.wakeAlarm q tid value) s = .next t ∧ t.Holds q (writeDone tid Code.wakeAlarm) ∧
      (v ≠ 0 → Tab.get t.aon.alarms (s.path q).selCluster 0 = v.toNat) ∧
      t.clusters = s.clusters ∧ { t.aon with alarms := s.aon.alarms } = s.aon ∧ t.ports = s.ports ∧ t.power = s.power) ∧
  (∀ (k : Nat) (cal : List Byte) (s : State), s.Ready → k < 9 → (s.cluster k).entering = true → (s.cluster k).state ≤ 1 →
    s.outsideBeacons k = true → s.railOn (4 + k) = true → s.railOn (13 + k) = true → s.power.queue = [] →
    ∃ t : State, exec (.dormantEntry k cal) s = .next t ∧ (t.cluster k).state = 2 ∧ (t.cluster k).entering = false ∧
      (t.cluster k).closing = true ∧
      t.power.queue = s.onBus [pmReq (4 + k) 0x01 0 2 none, pmReq (13 + k) 0x01 0 2 none] ∧
      (∀ i : Nat, i < 1024 → Tab.get t.aon.caskA (1024 * k + i) {} =
          { val := ((s.saveSet k cal)[i]?).getD 0, ok := true } ∧
        Tab.get t.aon.caskB (1024 * k + i) {} = Tab.get t.aon.caskA (1024 * k + i) {}) ∧
      (t.ledger k).head? = some { entry := s.time.time64, alarm := Tab.get s.aon.alarms k 0, exit := 0,
                                  gradeIn := s.time.grade, gradeOut := 0, flags := 0, opened := true } ∧
      t.reg Code.dormantEntries k = min (((s.regN Code.dormantEntries k + 1 : Nat)) : Int) (2 ^ 32 - 1) ∧
      (∀ p : Nat, clusterOf p = k → (t.port p).started = false ∧ (t.port p).onLine = [] ∧ (t.port p).driverOff = true) ∧
      (∀ p : Nat, clusterOf p ≠ k → t.port p = s.port p) ∧ (∀ j : Nat, j ≠ k → t.cluster j = s.cluster j) ∧
      t.ctxs = s.ctxs ∧ t.cells = s.cells ∧ t.nvm = s.nvm) ∧
  (∀ (k a : Nat) (s : State), s.Ready → k < 9 → Tab.get s.aon.alarms k 0 = a → 0 < a → a ≤ s.aon.rtc →
    (s.cluster k).state = 2 → (s.cluster k).entering = false → (s.cluster k).closing = false →
    ∃ t : State, exec (.wakeAlarmReached k) s = .next t ∧ Tab.get t.aon.alarms k 0 = 0 ∧ t.reg Code.clusterTarget k = 0 ∧
      (t.cluster k).state = 3 ∧ (t.cluster k).step = 1 ∧
      (t.cluster k).intended = some ((a + 60000 + 9999999) / 10000000 * 10000000) ∧
      (∀ j : Nat, j ≠ k → t.cluster j = s.cluster j) ∧ t.ports = s.ports ∧ t.ctxs = s.ctxs) ∧
  (∀ (k a : Nat) (s : State), s.Ready → k < 9 → Tab.get s.aon.alarms k 0 = a → 0 < a → a ≤ s.aon.rtc →
    (s.cluster k).state ≠ 2 →
    exec (.wakeAlarmReached k) s = .next { s with aon := { s.aon with alarms := Tab.del s.aon.alarms k } })) ∧
  ((∀ (k : Nat) (m : WakeMeasure) (s : State), s.Ready → k < 9 → (s.cluster k).state = 3 → (s.cluster k).step = 1 →
    (s.cluster k).acked = true → m.statusWord = 0 →
    ∃ t : State, exec (.wakeStep k m) s = .next t ∧
      t.cluster k = { s.cluster k with step := 2, tries := 0, acked := false } ∧
      (s.power.queue = [] → t.power.queue = s.onBus [pmReq (4 + k) 0x01 0x80 2 (some k)]) ∧ t.ports = s.ports ∧
      t.regs = s.regs ∧ (∀ j : Nat, j ≠ k → t.cluster j = s.cluster j)) ∧
  (∀ (k : Nat) (m : WakeMeasure) (s : State), s.Ready → k < 9 → (s.cluster k).state = 3 → (s.cluster k).step = 2 →
    (s.cluster k).acked = true → m.statusWord = 0 →
    ∃ t : State, exec (.wakeStep k m) s = .next t ∧
      t.cluster k = { s.cluster k with step := 3, tries := 0, acked := false } ∧ t.power.queue = s.power.queue ∧
      t.ports = s.ports ∧ t.regs = s.regs) ∧
  (∀ (k : Nat) (m : WakeMeasure) (s : State), s.Ready → k < 9 → (s.cluster k).state = 3 → (s.cluster k).step = 3 →
    (m.pllLocked = true → ∃ t : State, exec (.wakeStep k m) s = .next t ∧ (t.cluster k).state = 3 ∧
      (t.cluster k).step = 4 ∧
      ((s.cluster k).heatRestart = true ∨ ((∀ p : Nat, s.twinOf p = none) ∧ ∀ p : Nat, (committedIn k s).twinOf p = none) →
        t.ctxs = s.ctxs)) ∧
    (m.pllLocked = false → (s.cluster k).tries = 0 →
      exec (.wakeStep k m) s = .next (s.modCluster k (fun x => { x with tries := 1 }))) ∧
    (m.pllLocked = false → (s.cluster k).tries ≠ 0 → (s.cluster k).heatRestart = false →
      (s.cluster k).wakeAfter = false →
      ∃ t : State, exec (.wakeStep k m) s = .next t ∧ (t.cluster k).state = 2 ∧ (t.cluster k).step = 0 ∧
        t.faultCount 8 = min (s.faultCount 8 + 1) (2 ^ 32 - 1) ∧
        t.reg Code.wakeFails k = min (((s.regN Code.wakeFails k + 1 : Nat)) : Int) (2 ^ 32 - 1))) ∧
  (∀ (k : Nat) (m : WakeMeasure) (s : State), s.Ready → k < 9 → (s.cluster k).state = 3 → (s.cluster k).step = 4 →
    exec (.wakeStep k m) s = .next (s.modCluster k (fun x => { x with step := 5 }))) ∧
  (∀ (k : Nat) (m : WakeMeasure) (s : State), s.Ready → k < 9 → (s.cluster k).state = 3 → (s.cluster k).step = 5 →
    ∃ t : State, exec (.wakeStep k m) s = .next t ∧ (t.cluster k).state = 0 ∧ (t.cluster k).ready = true ∧
      t.reg Code.wakes k = min (((s.regN Code.wakes k + 1 : Nat)) : Int) (2 ^ 32 - 1) ∧
      (∀ p : Nat, clusterOf p = k → (t.port p).mode = s.regN Code.portMode p) ∧
      ((∀ p : Nat, clusterOf p = k → s.regN Code.portMode p = (s.port p).mode) →
        (∀ p : Nat, clusterOf p = k →
          t.port p = { s.port p with steep := decide ((s.port p).mode = 1) || (s.port p).steep }) ∧
        (∀ p : Nat, clusterOf p ≠ k → t.port p = s.port p) ∧ t.ctxs = s.ctxs ∧ t.power = s.power)))

/-- Steep, and the rails: an entry needs a started port that is on, at the beginning of an idle span of 200 ticks or more, and for a
cluster all its ports steep or off with no activity within 400 ticks; the exit comes 100, for a cluster 200 ticks before the next
activity; a request that is acknowledged, a write once a STATUS_WORD has shown BUSY clear, has its effect and leaves the queue (a
start-up's line rail is followed by its check, and that by the same cluster's VDD_AFE), one that is not is tried three times before
PMBus-failed; a busy regulator
is noted; polling asks every rail that is on; a monitor below its margin asks for 10 mV more within the bounds (R422, R424,
R431–R436). -/
def Obligations.SteepAndRails : Prop :=
  (∀ (p : Nat) (s : State), s.Ready → p < 144 → (s.port p).started = true → (s.port p).mode ≠ 0 → (s.port p).stopped = false →
    (s.cluster (clusterOf p)).state ≤ 1 → s.time.running = true →
    (∀ a b : Nat, s.idleSpan p = some (a, b) → a + 200 ≤ b → s.cyclePos + 100 < b →
      exec (.portSteepEntry p) s = .next (s.modPort p (fun x => { x with steep := true }))) ∧
    (∀ a b : Nat, s.idleSpan p = some (a, b) → b < a + 200 ∨ b ≤ s.cyclePos + 100 → exec (.portSteepEntry p) s = .next s) ∧
    (s.idleSpan p = none → exec (.portSteepEntry p) s = .next s)) ∧
  (∀ (p : Nat) (s : State), s.Ready → p < 144 → (s.port p).steep = true → (s.port p).started = true →
    (s.idleLeft p ≤ 100 → ∃ t : State, exec (.portSteepExit p) s = .next t ∧
      t.port p = { s.port p with steep := false } ∧ (∀ j : Nat, j ≠ p → t.port j = s.port j) ∧
      t.cluster (clusterOf p) = (if (s.cluster (clusterOf p)).state = 1
        then { s.cluster (clusterOf p) with state := 0, gated := false } else s.cluster (clusterOf p)) ∧
      { t with ports := s.ports, clusters := s.clusters } = s) ∧
    (100 < s.idleLeft p → exec (.portSteepExit p) s = .next s)) ∧
  (∀ (k : Nat) (s : State), s.Ready → k < 9 → (s.cluster k).state = 0 →
    (∀ p ∈ portsOf k, (s.port p).mode = 0 ∨ ((s.port p).steep = true ∧ 400 < s.idleLeft p)) →
    exec (.clusterSteepEntry k) s = .next (s.modCluster k (fun c => { c with state := 1, gated := true }))) ∧
  (∀ (k : Nat) (s : State), s.Ready → k < 9 → (s.cluster k).state = 1 →
    (∀ p ∈ portsOf k, (s.port p).mode ≠ 0 → s.idleLeft p ≤ 200 →
      exec (.clusterSteepExit k) s = .next (s.modCluster k (fun c => { c with state := 0, gated := false }))) ∧
    ((∀ p ∈ portsOf k, (s.port p).mode = 0 ∨ 200 < s.idleLeft p) → exec (.clusterSteepExit k) s = .next s)) ∧
  (∀ (r : PmReq) (rest : List PmReq) (s : State), s.Ready → s.power.queue = r :: rest → r.waiting = false →
    r.notBefore ≤ s.time.tick → s.heat.restarting = false →
    (∀ w k : Nat, { r with addr := none } = { pmReq (13 + k) 0x01 0x80 4 none with clear := true } → rest = [] → k < 9 →
      ∃ t : State, exec (.pmbusRequestComplete (.ack w)) s = .next t ∧ t.railOn (13 + k) = true ∧
        t.power.queue = [{ pmReq (13 + k) 0x79 0 4 none with check := true, notBefore := s.time.tick + 20000 }] ∧
        t.regs = s.regs ∧ t.faults = s.faults ∧ t.ports = s.ports) ∧
    (∀ k : Nat, r.rail = 13 + k → r.cmd = 0x79 → r.check = true → r.wakeOf = none → rest = [] → k < 9 →
      (s.cluster k).state ≠ 5 → Tab.get s.power.status (13 + k) 0 = 0 →
      ∃ t : State, exec (.pmbusRequestComplete (.ack 0)) s = .next t ∧
        t.power.queue = s.onBus [pmReq (4 + k) 0x01 0x80 4 none] ∧ t.regs = s.regs ∧ t.faults = s.faults ∧ t.ports = s.ports) ∧
    (∀ w : Nat, r.cmd = 0x01 → r.clear = false → exec (.pmbusRequestComplete (.ack w)) s = .next s) ∧
    (∀ w : Nat, r.cmd = 0x01 → r.data = 0x80 → r.prio ≠ 4 → r.check = false → r.clear = true → ∃ t : State, exec (.pmbusRequestComplete (.ack w)) s = .next t ∧
      t.power = { s.power with queue := s.onBus rest, on := Tab.put s.power.on r.rail true } ∧
      (∀ k : Nat, r.wakeOf = some k → t.cluster k = { s.cluster k with acked := true, tries := r.tries }) ∧
      t.regs = s.regs ∧ t.faults = s.faults ∧ t.ports = s.ports) ∧
    (∀ (res : PmbusResult), res = .badPec ∨ res = .busyTimeout ∨ res = .nack → r.tries < 2 →
      ∃ t : State, exec (.pmbusRequestComplete res) s = .next t ∧
        t.power = { s.power with queue := { r with tries := r.tries + 1, waiting := true, busy := false, clear := false } :: rest } ∧
        t.clusters = s.clusters ∧ t.faults = s.faults ∧ t.ports = s.ports) ∧
    (r.tries = 2 → r.wakeOf = none → r.cmd = 0x79 → r.check = false → r.rail < 22 → ∃ t : State, exec (.pmbusRequestComplete .nack) s = .next t ∧
      t.power = { s.power with queue := s.onBus rest } ∧ t.faultCount 26 = min (s.faultCount 26 + 1) (2 ^ 32 - 1) ∧
      (∀ k : Nat, sameButLink (t.cluster k) (s.cluster k)) ∧
      t.reg Code.pmbusNacks 0 = min (((s.regN Code.pmbusNacks 0 + 1 : Nat)) : Int) (2 ^ 32 - 1))) ∧
  (∀ (r : PmReq) (rest : List PmReq) (w : Nat) (s : State), s.Ready → s.power.queue = r :: rest → r.waiting = false →
    r.notBefore ≤ s.time.tick → r.cmd = 0x01 → w = 0x0080 ∨ w = 0 → Tab.get s.power.status r.rail 0 = 0 →
    exec (.pmbusBusyPoll w) s = .next { s with power := { s.power with
      queue := { r with busy := decide (w = 0x0080), clear := decide (w = 0) } :: rest,
      status := Tab.put s.power.status r.rail w } }) ∧
  (∀ (r : PmReq) (rest : List PmReq) (s : State), s.Ready → s.power.queue = r :: rest → r.waiting = true →
    exec .pmbusRetry s = .next (({ s with power := { s.power with queue := { r with waiting := false } :: rest } }).bump
      Code.pmbusRetries 0)) ∧
  (∀ s : State, s.Ready → s.power.queue = [] →
    ∃ t : State, exec .pmbusPolling s = .next t ∧ { t with power := s.power } = s ∧
      (∀ r : PmReq, r ∈ t.power.queue.map (fun x => { x with addr := none }) ↔ ∃ n : Nat, n < 22 ∧ s.railOn n = true ∧
        (r = pmReq n 0x79 0 4 none ∨ r = pmReq n 0x8B 0 4 none))) ∧
  (∀ (ample : Bool) (s : State), s.Ready → s.regB Code.avsEnable 0 = true → s.power.started = true → s.power.avsAt = none →
    s.reg Code.vcoreMin 0 ≤ (s.power.vcore : Int) + 10 → (s.power.vcore : Int) + 10 ≤ s.reg Code.vcoreMax 0 →
    s.power.queue = [] →
    exec (.avsAdjust true ample) s = .next { s with power := { s.power with
      avsAt := some s.time.tick
      vcoreAsked := some (s.power.vcore + 10)
      queue := s.onBus [pmReq 0 0x21 (voutWord (s.power.vcore + 10)) 3 none] } })

/-- Heat: a sample completes in every state and gives each sensor its reading and its peak; a lift completes wherever the core
runs, and is one where the device is throttled and every die has been below 110 °C for ten seconds; two samples in a row with a governing temperature of 115 °C
throttle the device, which ten seconds below 110 °C lift; 125 °C shuts a line die, or the core die, down (R374, R438–R442).
Two samples in a row rest on notes/assumptions/19. -/
def Obligations.HeatIsGoverned : Prop :=
  (∀ (ts : List Int) (s : State), ts.length = 10 → ∃ t : State, exec (.thermalSample ts) s = .next t ∧
    ∀ n : Nat, n < 10 → (t.sensor n).tj = ts.getD n 0 ∧ (t.sensor n).sampled = true ∧
      (t.sensor n).peak = if (s.sensor n).sampled then max (s.sensor n).peak (ts.getD n 0) else ts.getD n 0) ∧
  (∀ s : State, s.Ready → ∃ t : State, exec .throttleLift s = .next t ∧
    (s.heat.throttled = true → 10000 ≤ s.heat.cool → t.heat.throttled = false ∧ t.power.lifting = true) ∧
    (s.heat.throttled = false ∨ s.heat.cool < 10000 → t = s)) ∧
  (∀ (ts : List Int) (s : State), s.Ready → ts.length = 10 → s.heat.throttled = false →
    (∀ n : Nat, n < 10 → (s.sensor n).broken = false ∧ (s.sensor n).hot = 0 ∧ (s.sensor n).warned = none) →
    (∀ x ∈ ts, x < 16 * s.reg Code.tjWarn 0 ∧ x < 16 * 110) →
    (∀ n : Nat, n < 10 → s.sensorValid n = false) →
    ∃ t : State, exec (.thermalSample ts) s = .next t ∧
      (∀ n : Nat, n < 10 → (t.sensor n).tj = ts.getD n 0 ∧ (t.sensor n).govern = ts.getD n 0 ∧
        (t.sensor n).peak = if (s.sensor n).sampled then max (s.sensor n).peak (ts.getD n 0) else ts.getD n 0) ∧
      t.heat.throttled = false ∧ t.heat.coreDown = false ∧ t.clusters = s.clusters ∧ t.ports = s.ports ∧ t.power = s.power ∧
      t.faults = s.faults ∧ t.regs = s.regs) ∧
  (∀ (t0 : Int) (s : State), s.Ready → 16 * 125 ≤ t0 → (∀ n : Nat, n < 10 → s.sensorValid n = false) →
    (∀ n : Nat, n < 10 → (s.sensor n).broken = false) →
    ∃ t : State, exec (.thermalSample (t0 :: List.replicate 9 0)) s = .next t ∧ t.heat.coreDown = true ∧
      t.aon.coreShutdowns = min (s.aon.coreShutdowns + 1) (2 ^ 32 - 1) ∧
      (∀ p : Nat, p < 144 → (t.port p).driverOff = true ∧ (t.port p).onLine = []) ∧ (∀ l : Link, (t.link l).tx = 0)) ∧
  (∀ (k : Nat) (x : Int) (s : State), s.Ready → k < 9 → 16 * 125 ≤ x → (s.cluster k).state ≤ 1 →
    (∀ n : Nat, n < 10 → s.sensorValid n = false) → (∀ n : Nat, n < 10 → (s.sensor n).broken = false) →
    ∃ t : State, exec (.thermalSample ((List.replicate 10 (0 : Int)).set (k + 1) x)) s = .next t ∧
      (t.cluster k).state = 5 ∧ t.faultCount 30 = min (s.faultCount 30 + 1) (2 ^ 32 - 1) ∧
      t.reg Code.lineDieShutdowns 0 = min (((s.regN Code.lineDieShutdowns 0 + 1 : Nat)) : Int) (2 ^ 32 - 1) ∧
      t.heat.coreDown = false ∧ (∀ j : Nat, j < 9 → j ≠ k → sameButLink (t.cluster j) (s.cluster j))) ∧
  (∀ s : State, s.Ready → s.heat.throttled = true → 10000 ≤ s.heat.cool →
    ∃ t : State, exec .throttleLift s = .next t ∧ t.heat = { s.heat with throttled := false, cool := 0 } ∧
      t.power.lifting = true ∧ (s.power.queue = [] → t.power.queue = s.onBus [pmReq 0 0x21 (voutWord s.power.vcoreHeld) 3 none]) ∧
      t.power.slow = s.power.slow ∧ t.clusters = s.clusters) ∧
  (∀ (k : Nat) (s : State), s.Ready → k < 9 → s.heat.coreDown = false → 10000 ≤ s.heat.cold → (s.cluster k).state = 5 →
    (s.cluster k).heatStuck = false → (s.cluster k).heatRestart = false → (s.cluster k).entering = false →
    (s.cluster k).closing = false →
    ∃ t : State, exec .thermalRestart s = .next t ∧ (t.cluster k).state = 3 ∧ (t.cluster k).step = 1 ∧
      (t.cluster k).heatRestart = true ∧ t.ports = s.ports ∧ t.regs = s.regs)

/-! ## Plant time -/

/-- The qualification of REF_10M is taken up, and its loss and that of REF_1PPS raise time-reference-loss; with a trunk as the
time source the inputs are ignored (R57, R72, R75). TIME64 and the drop contexts stay.
Candidate edges are counted, and outliers too: the first edge of an unqualified REF_1PPS is a candidate; one within ±10
ticks of a second after the candidate before counts on; one that is not restarts the count and counts as an outlier; and an
edge of a qualified REF_1PPS outside its window is an outlier and nothing else (R57, R60). -/
def Obligations.TimingInputsQualifyAndFail : Prop :=
  ((∀ s : State, s.Ready → s.trunkSource.isSome = true →
    exec .ref10mQualified s = .next s ∧ exec .ref10mDisqualified s = .next s ∧ exec .ref1ppsEdgeAbsent s = .next s) ∧
  (∀ s : State, s.Ready → s.trunkSource = none → s.time.ref10m = false →
    ∃ t : State, exec .ref10mQualified s = .next t ∧ t.time.ref10m = true ∧ t.time.qualifiedAt = s.time.tick ∧
      t.time.pps = s.time.pps ∧ t.time.time64 = s.time.time64 ∧ t.ports = s.ports ∧ t.ctxs = s.ctxs ∧ t.doms = s.doms) ∧
  (∀ s : State, s.Ready → s.trunkSource = none → s.time.ref10m = true →
    ∃ t : State, exec .ref10mDisqualified s = .next t ∧ t.time.ref10m = false ∧ t.time.pps = s.time.pps ∧
      t.faultCount 22 = min (s.faultCount 22 + 1) (2 ^ 32 - 1) ∧ t.time.time64 = s.time.time64 ∧ t.ctxs = s.ctxs) ∧
  (∀ s : State, s.Ready → s.trunkSource = none → s.time.pps = true →
    ∃ t : State, exec .ref1ppsEdgeAbsent s = .next t ∧ t.time.pps = false ∧ t.time.candidates = 0 ∧
      t.time.ref10m = s.time.ref10m ∧ t.faultCount 22 = min (s.faultCount 22 + 1) (2 ^ 32 - 1) ∧
      t.time.time64 = s.time.time64 ∧ t.ctxs = s.ctxs)) ∧
  (∀ (since : Nat) (ns : Int) (s : State), s.Ready → s.trunkSource = none →
    let near := 9999990 ≤ since ∧ since ≤ 10000010
    (s.time.pps = true → ¬ near → exec (.ref1ppsEdge since ns) s = .next (s.bump Code.ppsOutliers 0)) ∧
    (s.time.pps = false → s.time.candidates = 0 →
      exec (.ref1ppsEdge since ns) s = .next { s with time := { s.time with candidates := 1 } }) ∧
    (s.time.pps = false → s.time.candidates = 1 → near →
      exec (.ref1ppsEdge since ns) s = .next { s with time := { s.time with candidates := 2 } }) ∧
    (s.time.pps = false → 1 ≤ s.time.candidates → ¬ near →
      exec (.ref1ppsEdge since ns) s =
        .next { s.bump Code.ppsOutliers 0 with time := { s.time with candidates := 1 } }))

/-- The third candidate qualifies REF_1PPS, and its compensated offset from the datum is acted on: within ±1,000 ns it is left;
within ±1,000,000 ns the device slews by the nearest ticks and counts the slew; beyond that it sets realign pending and slews
not at all, and with REALIGN_POLICY 1 the realignment begins; its residual is what lies beyond the nearest tick boundary (R57,
R59, R69, R71; the nearest ticks of a slew rest on notes/assumptions/10).
Learning against REF_10M, or the tick of a trunk source, is complete after 60 s of it, and not before (R58, R75); a crossed limit
of the error bound sets the grade that R66 gives at that bound and is reported, and holdover from grade 0 starts its bound at 0
and counts (R66, R67, R72, R316). -/
def Obligations.ReferencesSteerTheTimeBase : Prop :=
  (∀ (since : Nat) (edge : Int) (s : State), s.Ready → s.trunkSource = none → s.time.pps = false → s.time.candidates = 2 →
    s.time.running = true → 9999990 ≤ since → since ≤ 10000010 →
    let off := edge - s.reg Code.ppsDelayComp 0
    ∃ t : State, exec (.ref1ppsEdge since edge) s = .next t ∧ t.time.pps = true ∧ t.time.candidates = 0 ∧
      t.time.residual = round5 (off - 100 * roundDiv off 100) ∧
      t.time.time64 = s.time.time64 ∧ t.ctxs = s.ctxs ∧ t.ports = s.ports ∧
      (off.natAbs ≤ 1000 → t.time.slew = 0 ∧ t.time.realignPending = false ∧ t.aon.acquired = true) ∧
      (1000 < off.natAbs → off.natAbs ≤ 1000000 →
        t.time.slew = roundDiv off 100 ∧ t.time.realignPending = false ∧ t.aon.acquired = true ∧
        t.reg Code.slewEvents 0 = min (((s.regN Code.slewEvents 0 + 1 : Nat)) : Int) (2 ^ 32 - 1)) ∧
      (1000000 < off.natAbs → t.time.slew = 0 ∧ t.time.realignPending = true ∧
        (t.time.realigning = true ↔ s.time.realigning = true ∨ s.regN Code.realignPolicy 0 = 1))) ∧
  ((∀ (xo : Int) (s : State), s.Ready → (s.trunkSource = none → s.time.ref10m = true) →
    (s.trunkSource.isSome = true → s.time.trunkTick = true) → s.time.qualifiedAt + 600000000 ≤ s.time.tick →
    ∃ t : State, exec (.learningComplete xo) s = .next t ∧ t.aon = { s.aon with learned := true, xoOffset := xo } ∧
      t.time.boundAt = s.time.tick ∧ { t with aon := s.aon, time := s.time } = s) ∧
  (∀ (xo : Int) (s : State), s.Ready → (s.trunkSource = none ∧ s.time.ref10m = false) ∨
    (s.trunkSource.isSome = true ∧ s.time.trunkTick = false) ∨ s.time.tick < s.time.qualifiedAt + 600000000 →
    exec (.learningComplete xo) s = .next s) ∧
  (∀ s : State, s.Ready → s.time.grade ≠ 0 → s.gradeNow ≠ 0 → s.gradeNow ≠ s.time.grade →
    exec .tqGradeChange s = .next (deviceStatus 9 ([byteOf s.time.grade, byteOf s.gradeNow, 0, 0] ++ beBytes 4 s.boundNow)
      { s with time := { s.time with grade := s.gradeNow } })) ∧
  (∀ s : State, s.Ready → s.time.grade = 0 → s.gradeNow ≠ 0 → s.time.realignPending = false →
    ∃ t : State, exec .tqGradeChange s = .next t ∧ t.time.grade ≠ 0 ∧ t.time.bound = 0 ∧ t.time.boundAt = s.time.tick ∧
      t.reg Code.holdoverEntries 0 = min (((s.regN Code.holdoverEntries 0 + 1 : Nat)) : Int) (2 ^ 32 - 1) ∧
      t.time.time64 = s.time.time64 ∧ t.ports = s.ports ∧ t.ctxs = s.ctxs) ∧
  (∀ s : State, s.Ready → s.gradeNow = s.time.grade → exec .tqGradeChange s = .next s) ∧
  (∀ s : State, s.aon.acquired = true → s.aon.epochWritten = true → s.time.unsync = false → s.trunkSource = none →
    s.time.grade ≠ 0 → s.time.realignPending = false → s.time.slew = 0 → s.time.ref10m = false → s.time.pps = false →
    s.aon.learned = true → s.time.bound = 0 →
    let ticks := s.time.tick - s.time.boundAt
    (ticks ≤ 100000000 → s.gradeNow = 1) ∧
    (100010000 ≤ ticks → ticks ≤ 10000000000 → s.gradeNow = 2) ∧
    (10000010000 ≤ ticks → s.gradeNow = 3)))

/-- At start-up the grid starts at the next accepted edge of a REF_1PPS that has qualified in time; without one it starts at the
end of START_TIMEOUT, in grade 3. TIME64 of the first datum is the real-time clock rounded to the nearest second where the
always-on domain kept time, and 0 otherwise; the datum lies at the tick boundary nearest to the compensated edge (R59, R73; how a
datum before the edge's tick counts on is the model's reading, notes/assumptions/10).
REALIGN, with realign pending, begins a realignment; at the next accepted edge the new grid starts at the old grid's TIME64
rounded to the nearest second, half up, and the realignment is counted (R71). -/
def Obligations.TheGridStartsAndIsRealigned : Prop :=
  ((∀ (since : Nat) (ns : Int) (s : State), s.Ready → s.trunkSource = none → s.time.pps = true → s.time.starting = true →
    9999990 ≤ since → since ≤ 10000010 →
    let first := if s.aon.keptTime then (s.aon.rtc + 5000000) / 10000000 * 10000000 else 0
    let late := -(roundDiv (ns % 100 - s.reg Code.ppsDelayComp 0) 100)
    ∃ t : State, exec (.ref1ppsEdge since ns) s = .next t ∧ t.time.running = true ∧ t.time.starting = false ∧
      t.time.time64 = first + late.toNat ∧ t.time.tick = s.time.tick + (-late).toNat ∧
      t.time.nextCycle = first ∧ t.aon.acquired = true ∧ t.ctxs = s.ctxs) ∧
  (∀ s : State, s.Ready → s.time.starting = true → s.time.pps = false →
    s.time.waitFrom + s.regN Code.startTimeout 0 * 10000000 ≤ s.time.tick →
    ∃ t : State, exec .startTimeout s = .next t ∧ t.time.running = true ∧ t.time.starting = false ∧
      t.time.time64 = (if s.aon.keptTime then (s.aon.rtc + 5000000) / 10000000 * 10000000 else 0) ∧
      t.time.grade = 3 ∧ t.ctxs = s.ctxs) ∧
  (∀ s : State, s.Ready → s.time.tick < s.time.waitFrom + s.regN Code.startTimeout 0 * 10000000 →
    exec .startTimeout s = .next s)) ∧
  ((∀ (q : Path) (tid value : Nat) (s : State) (o : Obj), s.Accepts q Code.realign value o 1 →
    s.time.realignPending = true ∧ ∃ t : State, exec (.realign q tid value) s = .next t ∧ t.time.realigning = true ∧
      t.time.time64 = s.time.time64 ∧ t.time.running = s.time.running ∧ t.ports = s.ports ∧ t.ctxs = s.ctxs ∧
      t.Holds q (writeDone tid Code.realign)) ∧
  (∀ (old : Nat) (edge : Int) (s : State), s.Ready → s.time.realigning = true → s.time.running = false →
    let first := (old + 5000000) / 10000000 * 10000000
    let late := -(roundDiv (edge % 100 - s.reg Code.ppsDelayComp 0) 100)
    ∃ t : State, exec (.realignGridStart old edge) s = .next t ∧ t.time.time64 = first + late.toNat ∧
      t.time.nextCycle = first ∧ t.time.running = true ∧ t.time.realigning = false ∧
      t.time.realignPending = false ∧ t.ctxs = s.ctxs ∧
      t.reg Code.realignEvents 0 = min (((s.regN Code.realignEvents 0 + 1 : Nat)) : Int) (2 ^ 32 - 1)) ∧
  (∀ (old : Nat) (edge : Int) (s : State), s.Ready → s.time.realigning = false →
    exec (.realignGridStart old edge) s = .next s))

/-- A write of EPOCH_SET goes to the first datum at least 2 s ahead and replaces a pending one; TIME64 and the grid stay as they
are (R62). A value that is no whole multiple of 10,000,000 is refused.
At its datum the pending epoch takes effect: the datum gets the value written, and the cycles run on unchanged (R62, R92).
In the second before, TIME_ANNOUNCE is marked sent (R114). -/
def Obligations.EpochsApplyAtTheirDatum : Prop :=
  ((∀ (q : Path) (tid value : Nat) (s : State) (o : Obj) (v : Int), s.Accepts q Code.epochSet value o v →
    ∃ (t : State) (d : Nat), exec (.epochSet q tid value) s = .next t ∧ t.time.epoch = some (v.toNat, d) ∧
      d % 10000000 = 0 ∧ s.time.time64 + 20000000 ≤ d ∧ d < s.time.time64 + 30000000 ∧
      t.time.time64 = s.time.time64 ∧ t.time.nextCycle = s.time.nextCycle ∧ t.aon.epochWritten = true ∧
      t.Holds q (writeDone tid Code.epochSet)) ∧
  (∀ (q : Path) (tid value : Nat) (s : State), s.Serves q → value < 2 ^ 64 → value % 10000000 ≠ 0 → s.lc ≠ 0 →
    ∃ t : State, exec (.epochSet q tid value) s = .next t ∧ t.OnlyAnswered s ∧
      t.Holds q (abortBytes 2 tid (Code.epochSet / 256) (Code.epochSet % 256) 0x06010006))) ∧
  ((∀ (s : State) (v d : Nat), s.Ready → s.time.running = true → s.time.epoch = some (v, d) → s.time.time64 ≤ d →
    s.time.nextCycle = d →
    ∃ t : State, exec .epochApply s = .next t ∧ t.time.time64 = v ∧ t.time.nextCycle = v ∧
      t.time.cycles = s.time.cycles ∧ t.time.epoch = none ∧ t.time.page = (s.time.page + 1) % 4 ∧
      t.time.epochLog = ((d, v) :: s.time.epochLog).take 4 ∧ t.aon.epochWritten = true ∧ t.ctxs = s.ctxs) ∧
  (∀ s : State, s.Ready → s.time.epoch = none → exec .epochApply s = .next s ∧ exec .timeAnnounce s = .next s) ∧
  (∀ (s : State) (v d : Nat), s.Ready → s.time.epoch = some (v, d) → s.time.announced = false →
    d ≤ s.time.time64 + 10000000 → s.time.time64 < d →
    ∃ t : State, exec .timeAnnounce s = .next t ∧ t.time = { s.time with announced := true } ∧ t.aon = s.aon ∧
      t.doms = s.doms ∧ (∀ p d' : Nat, p < 144 → d' < 64 → s.isBranch p = false → t.port p = s.port p ∧ t.ctx p d' = s.ctx p d')))

/-- Every datum of the grid is a whole multiple of 10,000,000 in TIME64, which never steps backward; at it the real-time clock
is loaded with TIME64, CYCLE_LEN comes into force and the learning of XO_25M goes on (R54, R58, R61, R64). A grid that does not run has no datum.
The datum of a grid that starts after it lies (notes/assumptions/10) comes with the edge that sets it.
CYCLE_START starts the next cycle of the grid: TIME64 comes to its start, the cycle after it lies one cycle length on, and
a slew goes on by one tick (R63, R70). With a realignment begun, the ports stop instead (R71). -/
def Obligations.TheGridTurns : Prop :=
  ((∀ (xo : Int) (s : State), s.Ready → s.time.running = true →
    ∃ (t : State) (d : Nat), exec (.datum xo) s = .next t ∧ d % 10000000 = 0 ∧ s.time.time64 ≤ t.time.time64 ∧
      t.time.lastDatum = some d ∧ s.time.lastDatum ≠ some d ∧ d ≤ t.time.time64 ∧ t.aon.rtc = t.time.time64 ∧
      (s.time.nextCycle ≠ s.time.time64 / 10000000 * 10000000 ∨ s.time.lastDatum = some (s.time.time64 / 10000000 * 10000000) →
        t.time.time64 = d) ∧
      t.time.n = s.regN Code.cycleLen 0 ∧ t.time.slew = s.time.slew ∧ (s.learning = true → t.aon.xoOffset = xo) ∧
      (s.learning = false → t.aon.xoOffset = s.aon.xoOffset)) ∧
  (∀ (xo : Int) (s : State), s.Ready → s.time.running = false → exec (.datum xo) s = .next s ∧
    ∀ es : List Echo, exec (.cycleStart es) s = .next s)) ∧
  ((∀ (es : List Echo) (s : State), s.Ready → s.time.running = true → s.time.realigning = false →
    s.time.time64 ≤ s.time.nextCycle → s.time.nextCycle % s.cycleTicks = 0 → 1 ≤ s.time.n →
    ∃ t : State, exec (.cycleStart es) s = .next t ∧ t.time.time64 = s.time.nextCycle ∧
      t.time.cycles = s.time.cycles + 1 ∧ t.time.nextCycle = s.time.nextCycle + s.time.n * 10000 ∧
      t.time.n = s.time.n ∧ t.time.held = false ∧
      (s.trunkSource = none →
        t.time.slew = (if 0 < s.time.slew then s.time.slew - 1 else if s.time.slew < 0 then s.time.slew + 1 else 0))) ∧
  (∀ (es : List Echo) (s : State), s.Ready → s.time.running = true → s.time.realigning = true →
    ∃ t : State, exec (.cycleStart es) s = .next t ∧ t.time = { s.time with running := false } ∧
      (∀ p : Nat, p < 144 → (t.port p).onLine = [] ∧ (t.port p).rx.state = .off) ∧ t.ctxs = s.ctxs))

/-- Slot maps: a write of GRANT plans a new map, announced for a cycle at least 2P + 1 ahead whose number is a multiple of the map
period, while the map in force stays; at that cycle, and no earlier, the pending map takes effect (R84, R86, R484). -/
def Obligations.SlotMapsTakeEffectAtTheirCycle : Prop :=
  (∀ (q : Path) (tid value p d : Nat) (s : State) (o : Obj) (v : Int) (m : SlotMap), s.Accepts q Code.grant value o v →
    (s.path q).selPort = p → (s.path q).selDrop = d → p < 144 → 1 ≤ d → d ≤ 32 →
    (s.port p).move = none → (s.port p).pending = none → ((s.port p).map.slotOf d).isSome = true →
    (s.setReg Code.grant (dropKey p d) v).planMap p = some m →
    ∃ t : State, exec (.grant q tid value) s = .next t ∧ t.Holds q (writeDone tid Code.grant) ∧
      t.reg Code.grant (dropKey p d) = v ∧
      (t.port p).pending = some (PendingMap.mk m (s.alignedFrom
        (s.time.cycles + 2 * max (s.port p).map.period m.period + 1) (max (s.port p).map.period m.period))) ∧
      (t.port p).map = (s.port p).map ∧ (∀ j : Nat, j ≠ p → t.port j = s.port j) ∧ t.ctxs = s.ctxs ∧ t.time = s.time) ∧
  (∀ (p : Nat) (a : PendingMap) (s : State), s.Ready → p < 144 → (s.port p).pending = some a → (s.port p).waiting = [] →
    (s.port p).move = none → (∀ d : Nat, d < 64 → (s.ctx p d).wakeApply = none) →
    (a.apply ≤ s.time.cycles + 1 →
      ∃ t : State, exec (.slotMapApply p) s = .next t ∧ t.port p = { s.port p with map := a.map, pending := none } ∧
        (∀ d ∈ allDrops, t.ctx p d = { s.ctx p d with reverted := false }) ∧ (∀ j : Nat, j ≠ p → t.port j = s.port j) ∧
        t.regs = s.regs ∧ t.time = s.time ∧ t.cells = s.cells) ∧
    (s.time.cycles + 1 < a.apply → exec (.slotMapApply p) s = .next s))

/-- The receiver of a port that listens: a context load arms it with the drop's equaliser, or from the start values where a word of
the equaliser fields fails; two symbols over the threshold begin an acquisition, and others track the noise floor; then preamble,
noise, false detection, sync word and the ends of spans take it on and count (R48, R102, R103, R129–R136, R140, R141, R144–R146,
R151, R155). -/
def Obligations.ReceiversAcquire : Prop :=
  (∀ (p d : Nat) (s : State), s.Ready → p < 144 → 1 ≤ d → d ≤ 32 → s.listening p = true →
    (s.port p).map.hasSlot d s.cycleNow = true → inReception (s.port p).rx.state = false →
    (∀ w : Nat, w < 64 → s.isBad 2 (ctxWord p d + w) = false) →
    let written := (s.ctx p d).ctxFlags.testBit 0
    (∃ t : State, exec (.contextLoad p d []) s = .next t ∧ (t.port p).rx.span = .slot d ∧ (t.port p).rx.state = .armed ∧
      (t.port p).rx.useStart = (!written || (s.ctx p d).ctxFlags.testBit 2) ∧ (t.port p).rx.mode = (s.ctx p d).mode ∧
      (t.ctx p d).ctxFlags = (if written then 1 else 0) ∧ (t.ctx p d).ffe = (s.ctx p d).ffe ∧ t.regs = s.regs ∧
      (∀ j e : Nat, e < 64 → (j, e) ≠ (p, d) → d < 64 → t.ctx j e = s.ctx j e) ∧ (∀ j : Nat, j ≠ p → t.port j = s.port j)) ∧
    (∀ w : Nat, w < 24 → ∃ t : State, exec (.contextLoad p d [(w, .double)]) s = .next t ∧ (t.port p).rx.span = .slot d ∧
      (t.port p).rx.useStart = true ∧ (t.ctx p d).ctxFlags = (if written then 1 else 0) + 2 ∧
      t.isBad 2 ((32 * p + (d - 1)) * 64 + w) = true ∧
      t.reg Code.ctxEccStarts p = min (((s.regN Code.ctxEccStarts p + 1 : Nat)) : Int) (2 ^ 32 - 1) ∧
      t.faultCount 4 = min (s.faultCount 4 + 1) (2 ^ 32 - 1)) ∧
    (∀ w : Nat, w < 64 → ∃ t : State, exec (.contextLoad p d [(w, .single)]) s = .next t ∧ (t.port p).rx.span = .slot d ∧
      Tab.get t.test.corrected 2 0 = min (Tab.get s.test.corrected 2 0 + 1) (2 ^ 32 - 1) ∧
      (t.port p).rx.useStart = (!written || (s.ctx p d).ctxFlags.testBit 2) ∧ t.regs = s.regs ∧ t.faults = s.faults)) ∧
  (∀ (p d : Nat) (v0 v1 : List Int) (e0 e1 : Int) (s : State), s.Ready → p < 144 → s.listening p = true →
    (s.port p).rx.span = .slot d → (s.port p).rx.state = .armed → s.slotOver p d = false →
    s.cyclePos + (s.port p).latch.t + (s.port p).latch.c < s.cycleTicks →
    energyOf v0 = some e0 → energyOf v1 = some e1 →
    let loud := fun (e : Int) => (s.port p).rx.noiseFloor + 524288 * ((s.port p).latch.detThresh : Int) ≤ 65536 * e
    (loud e0 → loud e1 → ∃ t : State, exec (.energyDetect p v0 v1) s = .next t ∧ (t.port p).rx.state = .acquire ∧
      (t.port p).rx.reference = energyValue (energyOf (v0 ++ v1)) ∧ (t.port p).rx.noiseFloor = (s.port p).rx.noiseFloor ∧
      t.regs = (if (s.port p).rx.recovery then s.regs else (s.bump Code.energyDetects p).regs) ∧ t.ctxs = s.ctxs ∧
      (∀ j : Nat, j ≠ p → t.port j = s.port j)) ∧
    (¬ (loud e0 ∧ loud e1) → ∃ t : State, exec (.energyDetect p v0 v1) s = .next t ∧ t.regs = s.regs ∧ t.ctxs = s.ctxs ∧
      (t.port p).rx = { (s.port p).rx with
        noiseFloor := trackFloor (trackFloor (s.port p).rx.noiseFloor (some e0)) (some e1)
        recovery := (t.port p).rx.recovery } ∧
      ((t.port p).rx.recovery = true ↔ (s.port p).rx.recovery = true ∧ (loud e0 ∨ loud e1)) ∧
      (∀ j : Nat, j ≠ p → t.port j = s.port j))) ∧
  (∀ (p d : Nat) (s : State), s.Ready → p < 144 → s.listening p = true → (s.port p).rx.span = .slot d →
    ((s.port p).rx.state = .acquire →
      (∀ w : BitVec 16, preambleMatch w = true →
        ∃ t : State, exec (.preambleDetect p w true) s = .next t ∧ (t.port p).rx.state = .search ∧
          (t.port p).rx.preamble = true ∧ t.ctx p d = { s.ctx p d with preambleSeen := true } ∧ t.regs = s.regs) ∧
      (∀ (w : BitVec 16) (agc : Bool), agc = false ∨ preambleMatch w = false →
        exec (.preambleDetect p w agc) s = .next s) ∧
      ((s.port p).rx.loaded = none → (s.port p).rx.recovery = false →
        ∃ t : State, exec (.noiseEvent p) s = .next t ∧ (t.port p).rx.state = .armed ∧ (t.port p).rx.span = .slot d ∧
          t.reg Code.portNoiseEvents p = min (((s.regN Code.portNoiseEvents p + 1 : Nat)) : Int) (2 ^ 32 - 1) ∧
          t.ctxs = s.ctxs)) ∧
    ((s.port p).rx.state = .search →
      ((s.port p).rx.loaded = none → (s.port p).rx.recovery = false → (s.port p).rx.returned = false →
        ∃ t : State, exec (.falseDetection p) s = .next t ∧ (t.port p).rx.state = .armed ∧
          t.reg Code.portFalseDetects p = min (((s.regN Code.portFalseDetects p + 1 : Nat)) : Int) (2 ^ 32 - 1) ∧
          t.ctxs = s.ctxs) ∧
      (∀ (w : BitVec 32) (vs : List (List Int)),
        (syncErrors w ≤ (s.port p).latch.syncTol → exec (.syncDetect p w vs) s = .next (s.modRx p (fun y =>
          { y with state := .header, agcFrozen := true, reference := energyValue (energyOf vs.flatten), returned := false }))) ∧
        ((s.port p).latch.syncTol < syncErrors w → exec (.syncDetect p w vs) s = .next s))) ∧
    ((s.port p).rx.preamble = false → (s.port p).rx.ending = none → inReception (s.port p).rx.state = false →
      s.slotOmitted p d = false →
      ∃ t : State, exec (.emptySlot p) s = .next t ∧ (t.port p).rx.state = .idle ∧ (t.port p).rx.span = .idle ∧
        t.reg Code.portEmptySlots p = min (((s.regN Code.portEmptySlots p + 1 : Nat)) : Int) (2 ^ 32 - 1) ∧
        t.ctxs = s.ctxs) ∧
    (∀ e : Nat, (s.port p).rx.ending = some e → e < 64 → s.slotOmitted p e = false →
      ∃ t : State, exec (.emptySlot p) s = .next t ∧ (t.port p).rx.ending = none ∧ (t.port p).rx.span = .slot d ∧
        t.reg Code.portEmptySlots p = min (((s.regN Code.portEmptySlots p + 1 : Nat)) : Int) (2 ^ 32 - 1) ∧
        t.reg Code.dropEmptySlots (dropKey p e) =
          min (((s.regN Code.dropEmptySlots (dropKey p e) + 1 : Nat)) : Int) (2 ^ 32 - 1) ∧
        t.ctxs = s.ctxs)) ∧
  (∀ (p : Nat) (v0 v1 : List Int) (s : State), s.Ready → p < 144 → s.listening p = true →
    (overThreshold (s.port p) (energyOf v0) = false → overThreshold (s.port p) (energyOf v1) = false →
      exec (.recoveryPeriodEnd p v0 v1) s = .next (s.modRx p (fun y => { y with recovery := false }))) ∧
    (overThreshold (s.port p) (energyOf v0) = true ∨ overThreshold (s.port p) (energyOf v1) = true →
      exec (.recoveryPeriodEnd p v0 v1) s = .next s)) ∧
  (∀ (p : Nat) (v0 v1 : List Int) (s : State), s.Ready → p < 144 → s.listening p = true → (s.port p).rx.span = .idle →
    (s.port p).rx.state = .idle → s.inUpRegion p = true →
    let both := overThreshold (s.port p) (energyOf v0) = true ∧ overThreshold (s.port p) (energyOf v1) = true
    (both → (s.port p).rx.energySeen = false → exec (.outOfSlot p v0 v1) s = .next
      ((s.modRx p (fun y => { y with energySeen := true })).bump Code.outOfSlot p)) ∧
    (¬ both ∨ (s.port p).rx.energySeen = true → exec (.outOfSlot p v0 v1) s = .next s)) ∧
  (∀ (p id : Nat) (s : State), s.Ready → p < 144 →
    exec (.keptEqualiserExpiry p id) s = .next (s.modRx p (fun x => { x with
      kept := x.kept.filter (fun k => !(decide (k.identity = id) && decide (k.cycle + 16 ≤ s.time.cycles))) }))) ∧
  (∀ (q : Path) (tid value : Nat) (s : State) (o : Obj), s.Accepts q Code.eqReset value o 1 →
    (s.path q).selDrop < 64 → inReception (s.port (s.path q).selPort).rx.state = false →
    let p := (s.path q).selPort
    let d := (s.path q).selDrop
    ∃ t : State, exec (.eqReset q tid value) s = .next t ∧ t.Holds q (writeDone tid Code.eqReset) ∧
      t.ctx p d = { s.ctx p d with ctxFlags := (s.ctx p d).ctxFlags ||| 4 } ∧ t.ports = s.ports ∧
      (∀ j e : Nat, e < 64 → (j, e) ≠ (p, d) → t.ctx j e = s.ctx j e))

/-- Bursts: a header whose check fails counts and sends the receiver back to search, as does one with a length above 2,000, and
another drop's in a slot, which counts as a trespass; eight symbols 9 dB over the reference abort the reception; the next slot ends
one that overruns; a burst whose CRC-32 is wrong counts; a good MAC frame in a slot counts, leaves the equaliser that its
adaptation has reached to the drop, and goes to the host (R107, R116, R117, R119, R138, R142, R143, R147, R148, R150–R152, R155,
R200, R309). On the line a burst's symbols number what R84 counts, a beacon's 296, and the levels of a body spell its bytes
(R97, R100, R119, R123). -/
def Obligations.BurstsAreJudged : Prop :=
  (∀ (mode : Nat) (bytes : List Byte), levelBytes mode bytes.length (bodyLevels mode bytes) = bytes) ∧
  (∀ b : Burst, b.symbols.length = burstSymbols b.payload.length b.mode) ∧
  (∀ b : Burst, b.payload.length = 16 → b.beaconSymbols.length = 296) ∧
  (∀ (p d : Nat) (bits : BitVec 64) (s : State), s.Ready → p < 144 → s.listening p = true → (s.port p).rx.span = .slot d →
    (s.port p).rx.state = .header →
    let h := unpackHeader bits
    (hcrc bits ≠ bits.setWidth 16 → ∃ t : State, exec (.headerCheck p bits) s = .next t ∧ (t.port p).rx.state = .search ∧
      (t.port p).rx.recovery = true ∧
      t.reg Code.portHeaderErrors p = min (((s.regN Code.portHeaderErrors p + 1 : Nat)) : Int) (2 ^ 32 - 1) ∧
      t.ctxs = s.ctxs) ∧
    (hcrc bits = bits.setWidth 16 → 2000 < h.length → ∃ t : State, exec (.headerCheck p bits) s = .next t ∧
      (t.port p).rx.state = .search ∧ (t.port p).rx.recovery = true ∧
      t.reg Code.portLenovr p = min (((s.regN Code.portLenovr p + 1 : Nat)) : Int) (2 ^ 32 - 1) ∧ t.ctxs = s.ctxs) ∧
    (hcrc bits = bits.setWidth 16 → h.length ≤ 2000 → ¬ (33 ≤ h.drop ∧ h.drop ≤ 62) →
      (h.drop = d → exec (.headerCheck p bits) s = .next (s.modRx p (fun y =>
        { y with state := .payload, header := some h, noRoom := decide (32768 < s.rxUsed p + h.length) }))) ∧
      (h.drop ≠ d → ∃ t : State, exec (.headerCheck p bits) s = .next t ∧ (t.port p).rx.state = .search ∧
        t.reg Code.slotTrespass p = min (((s.regN Code.slotTrespass p + 1 : Nat)) : Int) (2 ^ 32 - 1) ∧
        t.faultCount 24 = min (s.faultCount 24 + 1) (2 ^ 32 - 1) ∧ t.ctxs = s.ctxs))) ∧
  (∀ (p d : Nat) (vs : List (List Int)) (s : State), s.Ready → p < 144 → s.listening p = true → (s.port p).rx.span = .slot d →
    inReception (s.port p).rx.state = true →
    (vs.length = 8 → (∀ v ∈ vs, ∃ e : Int, energyOf v = some e ∧ (s.port p).rx.reference + 144 ≤ e) →
      ∃ t : State, exec (.collisionAbort p vs) s = .next t ∧ (t.port p).rx.state = .acquire ∧
        (t.port p).rx.recovery = true ∧ (t.port p).rx.header = none ∧
        (t.port p).rx.reference = energyValue (energyOf vs.flatten) ∧
        t.reg Code.collisionAborts p = min (((s.regN Code.collisionAborts p + 1 : Nat)) : Int) (2 ^ 32 - 1) ∧
        t.ctxs = s.ctxs) ∧
    (∀ d' : Nat, (s.port p).rx.loaded = some d' →
      ∃ t : State, exec (.overrun p) s = .next t ∧ (t.port p).rx.span = .slot d' ∧ (t.port p).rx.state = .armed ∧
        (t.port p).rx.header = none ∧
        t.reg Code.portOverruns p = min (((s.regN Code.portOverruns p + 1 : Nat)) : Int) (2 ^ 32 - 1) ∧ t.ctxs = s.ctxs)) ∧
  (∀ (p d : Nat) (h : RxHeader) (levels : List Nat) (m : RxMeasure) (s : State), s.Ready → p < 144 → s.listening p = true →
    1 ≤ d → d ≤ 32 → (s.port p).rx.span = .slot d → (s.port p).rx.state = .tail → (s.port p).rx.header = some h →
    (s.port p).rx.loaded = none →
    let seed := whitenSeed s.cycleNow h.drop true
    let clear := whiten seed (levelBytes (s.port p).rx.mode (h.length + 4) levels)
    let payload := clear.take h.length
    let good := clear.drop h.length = beBytes 4 (lineCrc h.bits payload).toNat
    let taps := s.startTaps p (some d)
    let eq := eqFields (s.port p).latch.muAcq (s.port p).latch.muTrk (s.port p).rx.mode taps.1 taps.2 levels m
    (¬ good → ∃ t : State, exec (.burstEnd p levels m) s = .next t ∧
      t.reg Code.portCrcErrors p = min (((s.regN Code.portCrcErrors p + 1 : Nat)) : Int) (2 ^ 32 - 1) ∧
      t.ctxs = s.ctxs ∧ t.oxl = s.oxl) ∧
    (good → h.typ = 1 → 64 ≤ payload.length → payload.length ≤ 1522 → payload.length ≤ s.upMax p d →
      h.epoch = (s.ctx p d).epoch → (s.port p).rx.noRoom = false → (s.port p).rx.eqReset = false →
      h.seq = (s.ctx p d).rxNext → (s.ctx p d).marked = [] → h.seq < 256 →
      ∃ t : State, exec (.burstEnd p levels m) s = .next t ∧ (t.ctx p d).rxNext = (h.seq + 1) % 256 ∧
        (t.ctx p d).ffe = eq.ffe ∧ (t.ctx p d).dfe = eq.dfe ∧ (t.ctx p d).agcGain = m.agcGain ∧
        (t.ctx p d).lastRx = s.time.time64 ∧ (t.ctx p d).silent = 0 ∧ (t.ctx p d).ackOwed = true ∧
        t.reg Code.portBurstsOk p = min (((s.regN Code.portBurstsOk p + 1 : Nat)) : Int) (2 ^ 32 - 1) ∧
        (∀ l : Link, l ∈ s.linksOfPort p → (t.link l).data = (s.link l).data ++
          [{ cls := 0, epoch := h.epoch, port := p, drop := d, copy := false, body := payload }]) ∧
        (∀ j e : Nat, e < 64 → (j, e) ≠ (p, d) → t.ctx j e = s.ctx j e)))

/-- Roll call: ROLL_CALL opens it and its expiry closes it; an answer waits for its decision; the decision admits an identity into
the lowest free drop, a role epoch one higher to hold from its first cycle, at least 8 cycles after the answer, or refuses it
where none is free; a confirmation makes the drop active and levels it; a first slot that fails is repeated once, and a second
failure frees the context (R185, R190–R193, R199, R204, R447). -/
def Obligations.RollCallAdmitsDrops : Prop :=
  (∀ (q : Path) (tid value : Nat) (s : State) (o : Obj), s.Accepts q Code.rollCall value o 1 →
    let p := (s.path q).selPort
    ∃ t : State, exec (.rollCall q tid value) s = .next t ∧ t.Holds q (writeDone tid Code.rollCall) ∧
      t.reg Code.rollCall p = 1 ∧ t.port p = { s.port p with lastAnswer := s.time.tick } ∧
      (∀ j : Nat, j ≠ p → t.port j = s.port j) ∧ t.ctxs = s.ctxs) ∧
  (∀ (p : Nat) (m : List Byte) (arrival ampl : Int) (s : State), s.Ready → p < 144 → s.listening p = true → m.length = 16 →
    m[0]? = some 1#8 →
    ∃ t : State, exec (.rollAnswer p m arrival ampl) s = .next t ∧ { t with ports := s.ports } = s ∧
      (t.port p).lastAnswer = s.time.tick ∧
      ((t.port p).answers.map (fun a => (a.identity, a.arrival, a.rxAmpl, a.cycle))) =
        (s.port p).answers.map (fun a => (a.identity, a.arrival, a.rxAmpl, a.cycle)) ++
          [(beVal ((m.drop 2).take 6), arrival, ampl, s.time.cycles)] ∧
      (∀ j : Nat, j ≠ p → t.port j = s.port j)) ∧
  (∀ (p : Nat) (s : State), s.Ready → p < 144 → 0 < s.regN Code.rollCloseAfter p → s.rollOpen p = true →
    (s.port p).lastAnswer + s.regN Code.rollCloseAfter p * 10000000 ≤ s.time.tick →
    exec (.rollCloseAfterExpiry p) s = .next (s.setReg Code.rollCall p 0)) ∧
  (∀ (p : Nat) (s : State), s.Ready → p < 144 → (s.port p).rollHeld = true → (s.port p).hold = 0 →
    exec (.rollCallHoldEnd p) s =
      .next (s.modPort p (fun x => { x with rollHeld := false, lastAnswer := s.time.tick }))) ∧
  (∀ (p : Nat) (a : Answer) (rest : List Answer) (s : State), s.Ready → p < 144 → (s.port p).answers = a :: rest →
    (s.cluster (clusterOf p)).entering = false → (s.cluster (clusterOf p)).state ≠ 2 → (s.cluster (clusterOf p)).state ≠ 3 →
    s.twinOf p = none → s.regN Code.rollPolicy p ≠ 1 →
    s.holder p a.identity [1, 2, 4] = none →
    (s.freeDrop p = none → exec (.admission p) s =
      .next ((s.modPort p (fun x => { x with answers := rest })).bump Code.admitRefused p)) ∧
    (∀ (d : Nat) (m : SlotMap), s.freeDrop p = some d → (s.port p).move = none → (s.port p).pending = none → (s.port p).waiting = [] →
      (enterAdmitting p d (((s.ctx p d).epoch + 1) % 64) a s).planMap p = some m →
      ∃ (t : State) (k : Nat), exec (.admission p) s = .next t ∧ (t.ctx p d).state = 1 ∧
        (t.ctx p d).identity = a.identity ∧ (t.ctx p d).caps = a.caps ∧ (t.ctx p d).advance = a.arrival ∧
        (t.ctx p d).epoch = (s.ctx p d).epoch ∧ (t.ctx p d).epochNext = some (((s.ctx p d).epoch + 1) % 64) ∧
        (t.ctx p d).admitting = some (k, false) ∧ a.cycle + 8 ≤ k ∧
        (t.port p).pending = some (PendingMap.mk m k) ∧ (t.port p).answers = rest ∧ (t.port p).map = (s.port p).map ∧
        t.reg Code.admissions p = min (((s.regN Code.admissions p + 1 : Nat)) : Int) (2 ^ 32 - 1) ∧
        (∀ j e : Nat, e < 64 → (j, e) ≠ (p, d) → t.ctx j e = s.ctx j e))) ∧
  (∀ (p d first : Nat) (again : Bool) (m : List Byte) (s : State), s.Ready → p < 144 → 1 ≤ d → d ≤ 32 →
    (s.ctx p d).admitting = some (first, again) → (s.ctx p d).state = 1 → first ≤ s.time.cycles → m.length = 16 →
    m[0]? = some 3#8 → beVal ((m.drop 2).take 6) = (s.ctx p d).identity →
    ∃ t : State, exec (.admitConfirm p d m) s = .next t ∧ (t.ctx p d).state = 2 ∧ (t.ctx p d).admitting = none ∧
      (t.ctx p d).epoch = (s.ctx p d).epoch ∧ (t.ctx p d).levelTick = s.time.tick ∧
      (s.levelling p d = false →
        t.reg Code.levelRuns p = min (((s.regN Code.levelRuns p + 1 : Nat)) : Int) (2 ^ 32 - 1)) ∧
      ((∀ r : LevelRun, (s.port p).levels.head? = some r → r.held = false) →
        ∀ j e : Nat, e < 64 → (j, e) ≠ (p, d) → t.ctx j e = s.ctx j e)) ∧
  (∀ (p d first : Nat) (s : State), s.Ready → p < 144 → 1 ≤ d → d ≤ 32 → (s.ctx p d).state = 1 → first ≤ s.time.cycles →
    ((s.ctx p d).admitting = some (first, false) →
      ∃ (t : State) (k : Nat), exec (.admitConfirmMissed p d) s = .next t ∧ (t.ctx p d).admitting = some (k, true) ∧
        s.time.cycles + 8 ≤ k ∧ (t.ctx p d).state = 1 ∧ (t.ctx p d).identity = (s.ctx p d).identity ∧
        (t.ctx p d).txSeq = 0 ∧ (t.ctx p d).rxNext = 0 ∧ t.ports = s.ports ∧ t.regs = s.regs) ∧
    ((s.ctx p d).admitting = some (first, true) → s.twinOf p = none →
      ∃ t : State, exec (.admitConfirmMissed p d) s = .next t ∧
        t.ctx p d = { epoch := (s.ctx p d).epoch } ∧
        t.reg Code.admitFails p = min (((s.regN Code.admitFails p + 1 : Nat)) : Int) (2 ^ 32 - 1))) ∧
  (∀ (p d : Nat) (s : State), s.Ready → p < 144 → 1 ≤ d → d ≤ 32 → (s.ctx p d).state = 2 → 128 ≤ (s.ctx p d).sinceTx →
    exec (.keepaliveAck p d) s = .next (s.modCtx p d (fun x => { x with keepOwed := true })))

/-- Levelling: RELEVEL and the interval start a run, which a throttle defers; its first sounding is requested at the fastest
permitted baud, or waits for the levellings that started before it on the port; a report gives the baud its SNR, the lower of both ways; a miss repeats the sounding once and then counts; a
confirmed change takes effect at its cycle, one that brings no good burst is reverted (R204–R209, R440). -/
def Obligations.LevellingSoundsAndSwitches : Prop :=
  (∀ (q : Path) (tid value p d n : Nat) (s : State) (o : Obj), s.Accepts q Code.relevel value o 1 →
    (s.path q).selPort = p → (s.path q).selDrop = d → d < 64 → s.levelling p d = false →
    let b := (s.ctx p d).maxBaud
    let mode := modeOf b (s.levelCap p d)
    b ≤ 6 → s.soundPayload p mode = some n → (∀ r : LevelRun, (s.port p).levels.head? = some r → r.held = false) →
    ∃ t : State, exec (.relevel q tid value) s = .next t ∧ t.Holds q (writeDone tid Code.relevel) ∧
      t.reg Code.levelRuns p = min (((s.regN Code.levelRuns p + 1 : Nat)) : Int) (2 ^ 32 - 1) ∧
      (t.port p).levels = (s.port p).levels ++ [
        { drop := d, atten := attenFor (s.ctx p d).txAtten (s.ctx p d).rxAmpl (s.reg Code.upTarget p), baud := b,
          mode := if (s.port p).levels.isEmpty then mode else baseMode, length := if (s.port p).levels.isEmpty then n else 0,
          cycle := if (s.port p).levels.isEmpty then some (s.soundingCycle p) else none, misses := 0, upSnr := none,
          results := [], held := !(s.port p).levels.isEmpty }] ∧
      (t.ctx p d).soundSnr = List.replicate 7 0 ∧ (t.ctx p d).mode = (s.ctx p d).mode ∧
      (∀ j : Nat, j ≠ p → t.port j = s.port j) ∧ (∀ j e : Nat, e < 64 → (j, e) ≠ (p, d) → t.ctx j e = s.ctx j e)) ∧
  (∀ (p d : Nat) (s : State), s.Ready → p < 144 → 1 ≤ d → d ≤ 32 → (s.ctx p d).state = 2 →
    (s.ctx p d).levelTick + s.regN Code.levelInterval p * 10000000 ≤ s.time.tick →
    (s.heat.throttled = true →
      exec (.levelIntervalExpiry p d) s = .next (s.modCtx p d (fun x => { x with levelDeferred := true }))) ∧
    (s.heat.throttled = false → s.levelling p d = false →
      ∃ t : State, exec (.levelIntervalExpiry p d) s = .next t ∧
        t.reg Code.levelRuns p = min (((s.regN Code.levelRuns p + 1 : Nat)) : Int) (2 ^ 32 - 1) ∧
        (t.ctx p d).soundSnr = List.replicate 7 0 ∧ (t.ctx p d).mode = (s.ctx p d).mode)) ∧
  (∀ (p d k up : Nat) (r : LevelRun) (m : List Byte) (s : State), s.Ready → p < 144 → 1 ≤ d → d ≤ 32 →
    s.runOf p d = some r → r.cycle = some k → k ≤ s.time.cycles → r.upSnr = some up → m.length = 16 → m[0]? = some 5#8 →
    m[2]?.bind (fun b => modeField b.toNat) = some r.mode → beVal ((m.drop 4).take 4) = s.numberOf k →
    ∃ t : State, exec (.soundReport p d m) s = .next t ∧
      (t.ctx p d).soundSnr = setAt (s.ctx p d).soundSnr r.baud (min (min up (beVal ((m.drop 8).take 2))) 65535) ∧
      (t.ctx p d).mode = (s.ctx p d).mode ∧ (t.ctx p d).state = (s.ctx p d).state ∧
      ((s.port p).levels = [r] → ∀ j e : Nat, e < 64 → (j, e) ≠ (p, d) → t.ctx j e = s.ctx j e)) ∧
  (∀ (p d k : Nat) (r : LevelRun) (s : State), s.Ready → p < 144 → 1 ≤ d → d ≤ 32 → s.runOf p d = some r →
    r.cycle = some k → r.upSnr = none → k < s.time.cycles →
    (r.misses = 0 → ∃ (t : State) (k' : Nat) (mode : Nat), exec (.soundMiss p d) s = .next t ∧
      t.runOf p d = some { r with misses := 1, cycle := some k', mode := mode } ∧ t.regs = s.regs ∧ t.ctxs = s.ctxs) ∧
    (r.misses ≠ 0 → ∃ t : State, exec (.soundMiss p d) s = .next t ∧
      t.reg Code.soundMisses p = min (((s.regN Code.soundMisses p + 1 : Nat)) : Int) (2 ^ 32 - 1) ∧
      (t.ctx p d).soundSnr = setAt (s.ctx p d).soundSnr r.baud 0)) ∧
  (∀ (p d : Nat) (s : State), s.Ready → p < 144 → 1 ≤ d → d ≤ 32 → (s.ctx p d).roleFlags.testBit 1 = true →
    s.time.cycles + 2 ≤ (s.ctx p d).modeApply → modeField (s.ctx p d).nextMode = some (s.ctx p d).nextMode →
    (s.ctx p d).nextAtten < 256 →
    exec (.modeConfirm p d ([7, 0, byteOf (s.ctx p d).nextMode, byteOf (s.ctx p d).nextAtten] ++
      beBytes 4 (s.numberOf (s.ctx p d).modeApply))) s = .next (s.modCtx p d (fun x => { x with confirmed := true }))) ∧
  (∀ (p d : Nat) (s : State), s.Ready → p < 144 → 1 ≤ d → d ≤ 32 → (s.ctx p d).roleFlags.testBit 1 = true →
    (s.ctx p d).confirmed = true →
    ((s.ctx p d).modeApply ≤ s.time.cycles + 1 →
      ∃ t : State, exec (.modeApply p d) s = .next t ∧
        t.ctx p d = { s.ctx p d with
          roleFlags := (s.ctx p d).roleFlags &&& 253, prevMode := (s.ctx p d).mode, mode := (s.ctx p d).nextMode,
          txAtten := (s.ctx p d).nextAtten, revertLeft := some 8, reverted := false, confirmed := false } ∧
        t.reg Code.modeChanges p = min (((s.regN Code.modeChanges p + 1 : Nat)) : Int) (2 ^ 32 - 1) ∧ t.ports = s.ports ∧
        (∀ j e : Nat, e < 64 → (j, e) ≠ (p, d) → t.ctx j e = s.ctx j e)) ∧
    (s.time.cycles + 1 < (s.ctx p d).modeApply → exec (.modeApply p d) s = .next s)) ∧
  (∀ (p d : Nat) (s : State), s.Ready → p < 144 → 1 ≤ d → d ≤ 32 → (s.ctx p d).state = 2 →
    (s.ctx p d).revertLeft = some 0 →
    ∃ t : State, exec (.modeRevert p d) s = .next t ∧ (t.ctx p d).mode = (s.ctx p d).prevMode ∧
      (t.ctx p d).revertLeft = none ∧ (t.ctx p d).state = 2 ∧
      t.reg Code.modeReverts (dropKey p d) =
        min (((s.regN Code.modeReverts (dropKey p d) + 1 : Nat)) : Int) (2 ^ 32 - 1) ∧
      ((∀ r : LevelRun, (s.port p).levels.head? = some r → r.held = false) →
        ∀ j e : Nat, e < 64 → (j, e) ≠ (p, d) → t.ctx j e = s.ctx j e))

/-- Sleep, wake, release and loss: SLEEP and RELEASE name the cycle from which the drop is asleep or gone and plan the map without
it; a released context is free with its epoch raised; WAKE sets the drop's wake bit, and the wake that is missed three times
ends in a release with reason 3; a lost drop is released with reason 2 (R126, R201, R202, R210–R212, R217). -/
def Obligations.DropsSleepWakeAndLeave : Prop :=
  (∀ (q : Path) (tid value p d : Nat) (s : State) (o : Obj) (m : SlotMap), (s.path q).selPort = p → (s.path q).selDrop = d →
    d < 64 → (s.ctx p d).state = 2 → (s.ctx p d).sleeping = none → (s.ctx p d).releasing = none → (s.port p).move = none →
    (s.port p).pending = none → (s.port p).waiting = [] →
    (s.Accepts q Code.sleep value o 1 → (s.modCtx p d (fun y => { y with sleeping := some 0 })).planMap p = some m →
      ∃ (t : State) (k : Nat), exec (.sleep q tid value) s = .next t ∧ t.Holds q (writeDone tid Code.sleep) ∧
        t.ctx p d = { s.ctx p d with sleeping := some k } ∧ s.time.cycles + s.regN Code.modeLead p ≤ k ∧
        (t.port p).pending = some (PendingMap.mk m k) ∧ (t.port p).map = (s.port p).map ∧
        (∀ j : Nat, j ≠ p → t.port j = s.port j)) ∧
    (s.Accepts q Code.release value o 1 → (s.modCtx p d (fun y => { y with releasing := some (0, 1) })).planMap p = some m →
      ∃ (t : State) (k : Nat), exec (.release q tid value) s = .next t ∧ t.Holds q (writeDone tid Code.release) ∧
        t.ctx p d = { s.ctx p d with releasing := some (k, 1) } ∧
        s.time.cycles + 2 * max (s.port p).map.period m.period + 1 ≤ k ∧
        (t.port p).pending = some (PendingMap.mk m k) ∧ (t.port p).map = (s.port p).map ∧
        (∀ j : Nat, j ≠ p → t.port j = s.port j))) ∧
  (∀ (p d k : Nat) (s : State), s.Ready → p < 144 → 1 ≤ d → d ≤ 32 → (s.ctx p d).sleeping = some k →
    (k ≤ s.time.cycles + 1 →
      ∃ t : State, exec (.deepSleepFromCycle p d) s = .next t ∧ (t.ctx p d).state = 4 ∧ (t.ctx p d).sleeping = none ∧
        (t.ctx p d).sent = [] ∧ (t.ctx p d).epoch = (s.ctx p d).epoch ∧ (t.ctx p d).identity = (s.ctx p d).identity ∧
        (∀ w ∈ (t.port p).msgs, w.drop ≠ d) ∧ t.regs = s.regs ∧ (∀ j : Nat, j ≠ p → t.port j = s.port j) ∧
        (∀ j e : Nat, e < 64 → (j, e) ≠ (p, d) → t.ctx j e = s.ctx j e)) ∧
    (s.time.cycles + 1 < k → exec (.deepSleepFromCycle p d) s = .next s)) ∧
  (∀ (q : Path) (tid value p d : Nat) (s : State) (o : Obj), s.Accepts q Code.wake value o 1 → (s.path q).selPort = p →
    (s.path q).selDrop = d → d < 64 → (s.ctx p d).waking = none →
    ∃ t : State, exec (.wake q tid value) s = .next t ∧ t.Holds q (writeDone tid Code.wake) ∧
      (t.ctx p d).waking = some 0 ∧ (t.ctx p d).state = 4 ∧ (t.port p).wakeBits = addTo d (s.port p).wakeBits ∧
      (∀ j : Nat, j ≠ p → t.port j = s.port j) ∧ (∀ j e : Nat, e < 64 → (j, e) ≠ (p, d) → t.ctx j e = s.ctx j e)) ∧
  (∀ (p d k : Nat) (m : SlotMap) (s : State), s.Ready → p < 144 → 1 ≤ d → d ≤ 32 → (s.ctx p d).wakeFrom = some k →
    k ≤ s.time.cycles + 1 → (s.ctx p d).state = 4 → (s.ctx p d).waking = some 0 → s.planMap p = some m →
    (s.port p).move = none → (s.port p).pending = none →
    ∃ (t : State) (a : Nat), exec (.wakeSlotMapStart p d) s = .next t ∧
      t.ctx p d = { s.ctx p d with wakeFrom := none, wakeApply := some a } ∧
      max k (s.time.cycles + 1) + s.regN Code.modeLead p ≤ a ∧ (t.port p).pending = some (PendingMap.mk m a) ∧
      (∀ j : Nat, j ≠ p → t.port j = s.port j)) ∧
  (∀ (p d n : Nat) (s : State), s.Ready → p < 144 → 1 ≤ d → d ≤ 32 → (s.ctx p d).waking = some n → (s.ctx p d).state = 2 →
    (s.ctx p d).wakeLeft = some 0 →
    (n < 2 → ∃ t : State, exec (.wakeMiss p d) s = .next t ∧ (t.ctx p d).waking = some (n + 1) ∧
      (t.port p).wakeBits = addTo d (s.port p).wakeBits ∧ t.regs = s.regs) ∧
    (2 ≤ n → (s.ctx p d).releasing = none → (s.port p).move = none → (s.port p).pending = none →
      (∀ m : SlotMap, (s.modCtx p d (fun y => { y with releasing := some (0, 3) })).planMap p = some m →
        ∃ (t : State) (k : Nat), exec (.wakeMiss p d) s = .next t ∧ (t.ctx p d).waking = none ∧
          (t.ctx p d).releasing = some (k, 3) ∧ (t.port p).pending = some (PendingMap.mk m k)))) ∧
  (∀ (p d k reason : Nat) (s : State), s.Ready → p < 144 → 1 ≤ d → d ≤ 32 → (s.ctx p d).releasing = some (k, reason) →
    s.twinOf p = none →
    (k ≤ s.time.cycles + 1 →
      ∃ t : State, exec (.releaseFromCycle p d) s = .next t ∧ t.ctx p d = { epoch := ((s.ctx p d).epoch + 1) % 64 } ∧
        t.reg Code.releases p = min (((s.regN Code.releases p + 1 : Nat)) : Int) (2 ^ 32 - 1) ∧
        (∀ j : Nat, j ≠ p → t.port j = s.port j) ∧ (∀ j e : Nat, e < 64 → (j, e) ≠ (p, d) → t.ctx j e = s.ctx j e)) ∧
    (s.time.cycles + 1 < k → exec (.releaseFromCycle p d) s = .next s)) ∧
  (∀ (p d : Nat) (m : SlotMap) (s : State), s.Ready → p < 144 → 1 ≤ d → d ≤ 32 → (s.ctx p d).state = 2 →
    s.regN Code.dropLost p ≤ (s.ctx p d).silent → (s.ctx p d).revertLeft = none → s.twinOf p = none →
    (s.ctx p d).releasing = none → (s.port p).waiting = [] → (s.port p).move = none → (s.port p).pending = none →
    (s.modCtx p d (fun y => { y with releasing := some (0, 2) })).planMap p = some m →
    ∃ (t : State) (k : Nat), exec (.dropLost p d) s = .next t ∧ t.ctx p d = { s.ctx p d with releasing := some (k, 2) } ∧
      (t.port p).pending = some (PendingMap.mk m k))

/-- Twins: TWIN_ENABLE and TWIN_PARTNER form a pair; a failover carries the movable drops to the twin at least 2 cycles ahead,
whatever begins it, with its reason; at that cycle each drop is active there with its epoch raised and its standby mode, and
standby on the port it left; TWIN_RETURN brings drops home; a standby check sets the standby mode (R207, R213–R217, R220, R371). -/
def Obligations.TwinsCarryEachOthersDrops : Prop :=
  (∀ (q : Path) (tid value p r : Nat) (s : State) (o : Obj), s.Accepts q Code.twinEnable value o 1 →
    (s.path q).selPort = p → p ≠ r → s.twinOf p = none → (s.setReg Code.twinEnable p 1).twinOf p = some r →
    ∃ t : State, exec (.twinEnable q tid value) s = .next t ∧ t.Holds q (writeDone tid Code.twinEnable) ∧
      t.reg Code.twinEnable p = 1 ∧ (t.port p).twinState = 1 ∧ (t.port r).twinState = 1 ∧
      (∀ j : Nat, j ≠ p → j ≠ r → t.port j = s.port j)) ∧
  (∀ (q : Path) (tid value p r : Nat) (s : State) (o : Obj) (v : Int), s.Accepts q Code.twinPartner value o v →
    (s.path q).selPort = p → p ≠ r → s.twinOf p = none → (s.setReg Code.twinPartner p v).twinOf p = some r →
    ∃ t : State, exec (.twinPartner q tid value) s = .next t ∧ t.Holds q (writeDone tid Code.twinPartner) ∧
      t.reg Code.twinPartner p = v ∧ (t.port p).twinState = 1 ∧ (t.port r).twinState = 1) ∧
  (∀ (p r k : Nat) (m : SlotMap) (drops : List Nat) (s : State), s.Ready → p < 144 → p ≠ r → s.twinOf p = some r →
    s.canTake r = true → (s.port r).move = none → (s.port p).move = none → s.isTrunk p = false →
    (∀ d : Nat, d < 64 → (s.ctx p d).state ≠ 1 ∧ (s.ctx r d).state ≠ 1) → s.movable p r = drops → drops ≠ [] →
    s.movePlan r p (s.time.cycles + 2) (drops.filter (fun d => (s.ctx p d).state == 2)) = some (m, k) →
    let moves := fun (t : State) (reason : Nat) =>
      (s.time.cycles + 2 ≤ k ∧ ((s.port r).pending = none →
        s.failoverMap r p (s.port r).map (drops.filter (fun d => (s.ctx p d).state == 2)) = some m) ∧ (t.port r).move = some
        { trigger := s.time.cycles, apply := k, source := p, reason := reason, drops := drops, map := m, trunk := false } ∧
        ∀ d ∈ drops, (t.ctx p d).moving = some k) ∧
      (t.port r).map = (s.port r).map ∧ (∀ j : Nat, j ≠ r → t.port j = s.port j) ∧ t.time = s.time
    (∀ (q : Path) (tid value : Nat) (o : Obj), s.Accepts q Code.twinFailover value o 1 → (s.path q).selPort = p →
      ∃ t : State, exec (.twinFailover q tid value) s = .next t ∧ moves t 3) ∧
    (s.isBranch p = true → s.regN Code.twinLossPeriods p ≤ (s.port p).twinSilent →
      ∃ t : State, exec (.twinLossPeriodsExpiry p) s = .next t ∧ moves t 2) ∧
    (∀ d : Nat, drops = [d] → s.moveDue p d = true → d ≤ 32 → 1 ≤ d →
      ∃ t : State, exec (.dropMovePeriodsExpiry p d) s = .next t ∧ moves t 4)) ∧
  (∀ (q : Path) (tid value p r : Nat) (m : SlotMap) (drops : List Nat) (s : State) (o : Obj),
    s.Accepts q Code.twinReturn value o 1 → (s.path q).selPort = p → p ≠ r → s.isTrunk p = false → s.twinOf p = some r →
    s.canTake p = true → (s.port p).move = none → (s.port p).pending = none →
    allDrops.filter (fun d => (s.ctx p d).state == 3 && (s.ctx p d).homeHere &&
      ((s.ctx r d).state == 2 || (s.ctx r d).state == 4)) = drops → drops ≠ [] →
    s.failoverMap p r (s.port p).map (drops.filter (fun d => (s.ctx r d).state == 2)) = some m →
    ∃ (t : State) (k : Nat), exec (.twinReturn q tid value) s = .next t ∧ s.time.cycles + s.regN Code.modeLead p ≤ k ∧
      (t.port p).move = some
        { trigger := s.time.cycles, apply := k, source := r, reason := 5, drops := drops, map := m, trunk := false } ∧
      (∀ j : Nat, j ≠ p → t.port j = s.port j)) ∧
  (∀ (r d : Nat) (v : Move) (s : State), s.Ready → r < 144 → (s.port r).move = some v → v.trunk = false →
    v.apply ≤ s.time.cycles + 1 → v.drops = [d] → d < 64 → v.source ≠ r → (s.ctx v.source d).state = 2 → v.reason ≠ 5 →
    (s.port r).waiting = [] → s.canTake r = true →
    ∃ t : State, exec (.twinMoveApply r) s = .next t ∧ (t.port r).map = v.map ∧
      (t.ctx r d).state = 2 ∧ (t.ctx r d).mode = (s.ctx r d).standbyMode ∧
      (t.ctx r d).epoch = ((s.ctx v.source d).epoch + 1) % 64 ∧ (t.ctx r d).identity = (s.ctx v.source d).identity ∧
      (t.ctx r d).txSeq = 0 ∧ (t.ctx r d).rxNext = 0 ∧ (t.ctx v.source d).state = 3 ∧
      (t.ctx v.source d).epoch = ((s.ctx v.source d).epoch + 1) % 64 ∧
      t.reg Code.twinFailovers r = min (((s.regN Code.twinFailovers r + 1 : Nat)) : Int) (2 ^ 32 - 1)) ∧
  (∀ (r d k mode snr p : Nat) (arrival : Int) (s : State), s.Ready → r < 144 → 1 ≤ d → d ≤ 32 → s.twinOf r = some p →
    (s.ctx r d).standbyAt = some (k, mode) → (s.ctx r d).standbyHeard = some (snr, arrival) → (s.ctx r d).state = 3 →
    k ≤ s.time.cycles →
    ∃ t : State, exec (.standbyCheck r d) s = .next t ∧ (t.ctx r d).standbyAt = none ∧ (t.ctx r d).standbyHeard = none ∧
      (t.ctx r d).standbyAdvance = arrival ∧ (t.ctx r d).standbyTick = s.time.tick ∧
      (bestLevel (s.levelCap r d) (s.regN Code.levelMargin r) snr = none → (t.ctx r d).standbyMode = 0x60) ∧
      (∀ l : Nat, bestLevel (s.levelCap r d) (s.regN Code.levelMargin r) snr = some l →
        modeBaud mode ≠ modeBaud (s.ctx p d).mode → (t.ctx r d).standbyMode = modeOf (modeBaud mode) l) ∧
      (∀ l : Nat, bestLevel (s.levelCap r d) (s.regN Code.levelMargin r) snr = some l →
        modeBaud mode = modeBaud (s.ctx p d).mode →
        (t.ctx r d).standbyMode = modeOf (modeBaud mode) (min l ((s.ctx p d).mode % 16))) ∧
      { t with ctxs := s.ctxs } = s ∧ (∀ j e : Nat, e < 64 → (j, e) ≠ (r, d) → t.ctx j e = s.ctx j e))

/-- Trunks: PORT_MODE takes a port out of trunk at once, its line last saying so; RETRAIN waits or takes the data phase down;
a training starts at a datum in an even cycle, resets the mode and is answered in the next cycle; the ends learn arrival, delay
and numbering from it; phase E and the trains are watched (R165, R170–R180). -/
def Obligations.TrunksAreTrained : Prop :=
  (∀ (q : Path) (tid value : Nat) (s : State) (o : Obj) (v : Int), s.Accepts q Code.portMode value o v →
    let p := (s.path q).selPort
    ∃ t : State, exec (.portMode q tid value) s = .next t ∧ t.Holds q (writeDone tid Code.portMode) ∧
      t.reg Code.portMode p = v ∧ (t.port p).mode = (s.port p).mode ∧
      (v = 2 ∨ s.trunkOn p = false → t.ports = s.ports) ∧
      (v ≠ 2 → s.trunkOn p = true → (t.port p).trunk.state = if s.trunkHead p then 4 else 0) ∧
      ((s.port p).trunk.state ≠ 3 ∨ s.isTimeSource p = false →
        (∀ j : Nat, j ≠ p → t.port j = s.port j) ∧
        (v ≠ 2 → s.trunkOn p = true →
          let fs := (s.port p).onLine
          let start := (fs.head?.map (·.start)).getD 0
          let stop := if fs.isEmpty then s.stopTick p else (s.port p).trunk.stop
          let fits := fun (n : Nat) => framesLength (s.trainMode p) (fs.take n) + frameSymbols 4 (s.trainMode p) ≤
            trainRoom (stop - start - 1) (s.trainMode p)
          (∀ n : Nat, s.framesBegun p (s.trainMode p) ≤ n → n ≤ fs.length → fits n →
            (∀ k : Nat, n < k → k ≤ fs.length → ¬ fits k) →
            (t.port p).onLine = fs.take n ++
              [{ s.trunkBurst p (s.trainMode p) 2 0 (if s.trunkHolds p then 2 else 0) [0x34, 0, 3, 0] with
                  seed := n % 64, start := start }]) ∧
          ((∀ n : Nat, s.framesBegun p (s.trainMode p) ≤ n → n ≤ fs.length → ¬ fits n) → (t.port p).onLine = fs))) ∧
      t.ctxs = s.ctxs) ∧
  (∀ (q : Path) (tid value : Nat) (s : State) (o : Obj), s.Accepts q Code.trunkRetrain value o 1 →
    let p := (s.path q).selPort
    ∃ t : State, exec (.retrain q tid value) s = .next t ∧ t.Holds q (writeDone tid Code.trunkRetrain) ∧
      (t.port p).trunk.retrain = true ∧ ((s.port p).trunk.state ≠ 3 → (t.port p).trunk.state = (s.port p).trunk.state) ∧
      ((s.port p).trunk.state = 3 → (t.port p).trunk.state = 4 ∧ (t.port p).trunk.down = some 1 ∧
        (t.port p).trunk.awaiting = 0 ∧ (0 < (s.port p).trunk.awaiting → t.reg Code.trunkFramesDropped p =
          min (((s.regN Code.trunkFramesDropped p + (s.port p).trunk.awaiting : Nat)) : Int) (2 ^ 32 - 1))) ∧
      (∀ j : Nat, j ≠ p → t.port j = s.port j) ∧ t.ctxs = s.ctxs) ∧
  (∀ (p : Nat) (s : State), s.Ready → p < 144 → s.trunkOn p = true → s.trunkHead p = true →
    (s.port p).trunk.state = 0 ∨ (s.port p).trunk.state = 4 → s.markerCycle = true → s.cycleNow % 2 = 0 →
    ((s.port p).trunk.silence ≠ 0 → exec (.trunkTrainingStart p) s = .next s) ∧
    ((s.port p).trunk.silence = 0 → (s.port p).trunk.holdoff ≤ s.time.tick →
      ∃ t : State, exec (.trunkTrainingStart p) s = .next t ∧ (t.port p).trunk.state = 1 ∧
        (t.port p).trunk.mode = modeOf (s.regN Code.trunkBaud p) 0 ∧ (t.port p).trunk.start = s.time.cycles ∧
        (t.port p).trunk.retrain = false ∧
        (frameSymbols 24 (modeOf (s.regN Code.trunkBaud p) 0) ≤ trainRoom (s.trainStop p) (modeOf (s.regN Code.trunkBaud p) 0) →
          (t.port p).onLine.head?.map (fun b => b.payload) = some (trunkTrainBytes 1 (modeOf (s.regN Code.trunkBaud p) 0) 127
          (s.headCycle p) s.time.n false none 0 0)) ∧
        t.reg Code.trainings p = min (((s.regN Code.trainings p + 1 : Nat)) : Int) (2 ^ 32 - 1) ∧
        (∀ j : Nat, j ≠ p → t.port j = s.port j) ∧ t.ctxs = s.ctxs)) ∧
  (∀ (p : Nat) (bytes : List Byte) (m : TrainMsg) (arrival : Int) (snr : Nat) (own : List (List Int × Int)) (s : State),
    s.Ready → p < 144 → s.trunkOn p = true → readTrain bytes = some m →
    (s.trunkHead p = false → m.phase = 1 → (s.port p).trunk.state = 0 → m.arrival = none →
      ∃ t : State, exec (.trunkTrain p bytes arrival snr own) s = .next t ∧ (t.port p).trunk.state = 1 ∧
        (t.port p).trunk.numbering = untwos 32 (m.cycle + 2 ^ 32 - s.cycleNow) ∧
        (t.port p).trunk.arrival = some arrival ∧
        (t.port p).trunk.reply = (if arrival < 0 then none else some (m.left - 1)) ∧
        t.reg Code.trainings p = min (((s.regN Code.trainings p + 1 : Nat)) : Int) (2 ^ 32 - 1) ∧
        (∀ j : Nat, j ≠ p → t.port j = s.port j) ∧ t.ctxs = s.ctxs) ∧
    (∀ a : Int, s.trunkHead p = false → m.phase = 1 → (s.port p).trunk.state = 1 → m.arrival = some a → a / 2 ≤ 204800 →
      s.isTimeSource p = false → s.cycleNow = m.cycle → (a / 2 - arrival).natAbs ≤ 2560 →
      ∃ t : State, exec (.trunkTrain p bytes arrival snr own) s = .next t ∧ (t.port p).trunk.state = 1 ∧
        (t.port p).trunk.delay = (a / 2).toNat ∧ (t.port p).trunk.offset = a / 2 - arrival ∧
        (t.port p).trunk.flagged = true ∧
        (t.port p).trunk.reply = (if arrival < 0 then none else some (m.left - 1)) ∧
        (m.left = 1 → (t.port p).trunk.phaseQ = some (s.time.cycles + 2)) ∧ t.regs = s.regs ∧ t.ctxs = s.ctxs ∧
        (∀ j : Nat, j ≠ p → t.port j = s.port j)) ∧
    (s.trunkHead p = true → m.phase = 1 → (s.port p).trunk.state = 1 →
      (s.time.cycles - (s.port p).trunk.start) % 2 = 1 →
      (own = [] → exec (.trunkTrain p bytes arrival snr own) s = .next (s.modTrunk p (fun x => { x with
        arrival := some arrival, delay := (arrival / 2).toNat, flagged := x.flagged || m.flag }))) ∧
      (own ≠ [] →
        let r := echRun (s.regN Code.echMuTrn p) true (s.port p).trunk.ech own
        exec (.trunkTrain p bytes arrival snr own) s = .next ((s.modTrunk p (fun x => { x with
          ech := r.1, echoNow := some (echoRejection r.2.1 r.2.2) })).modTrunk p (fun x => { x with
          arrival := some arrival, delay := (arrival / 2).toNat, flagged := x.flagged || m.flag })))) ∧
    (s.trunkHead p = true → m.phase = 1 → (s.port p).trunk.state = 1 →
      (s.time.cycles - (s.port p).trunk.start) % 2 = 0 →
      ∃ t : State, exec (.trunkTrain p bytes arrival snr own) s = .next t ∧ (t.port p).trunk.state = 4 ∧
        t.reg Code.trainFails p = min (((s.regN Code.trainFails p + 1 : Nat)) : Int) (2 ^ 32 - 1)) ∧
    (m.phase = 2 → (s.port p).trunk.state = 2 → exec (.trunkTrain p bytes arrival snr own) s =
      .next (s.modTrunk p (fun x => { x with arrival := some arrival, ownSnr := snr, farSnr := m.snr }))) ∧
    (s.trunkHead p = false → m.phase = 3 → (s.port p).trunk.state = 2 →
      (∀ mode : Nat, modeField m.mode = some mode → s.headFuture p m.dataCycle = true →
        ∃ t : State, exec (.trunkTrain p bytes arrival snr own) s = .next t ∧
          (t.port p).trunk = { (s.port p).trunk with
            arrival := some arrival, ownSnr := snr, farSnr := m.snr, chosen := mode
            dataCycle := some (s.countOfHead p m.dataCycle) } ∧ { t with ports := s.ports } = s ∧
          (∀ j : Nat, j ≠ p → t.port j = s.port j)) ∧
      (modeField m.mode = none ∨ s.headFuture p m.dataCycle = false →
        exec (.trunkTrain p bytes arrival snr own) s = .next (s.modTrunk p (fun x => { x with
          arrival := some arrival, ownSnr := snr, farSnr := m.snr }))))) ∧
  (∀ (p : Nat) (s : State), s.Ready → p < 144 → s.trunkOn p = true → s.trunkHead p = true → (s.port p).trunk.state = 1 →
    (s.port p).trunk.flagged = false →
    (s.elapsed (s.port p).trunk.startTick 600000000 = false → exec (.phaseETimeout p) s = .next s) ∧
    (s.elapsed (s.port p).trunk.startTick 600000000 = true →
      ∃ t : State, exec (.phaseETimeout p) s = .next t ∧ (t.port p).trunk.state = 4 ∧ (t.port p).trunk.down = some 4 ∧
        (t.port p).trunk.holdoff = s.time.tick + s.regN Code.retrainHoldoff p * 10000000 ∧
        t.reg Code.trainFails p = min (((s.regN Code.trainFails p + 1 : Nat)) : Int) (2 ^ 32 - 1) ∧
        (∀ j : Nat, j ≠ p → t.port j = s.port j) ∧ t.ctxs = s.ctxs)) ∧
  (∀ (p count : Nat) (s : State), s.Ready → p < 144 → s.trunkOn p = true → s.trunkHead p = true →
    let good := count + (s.port p).trunk.goodFrames
    ∃ t : State, exec (.trunkTrainEnd p count) s = .next t ∧ (t.port p).rx.state = .off ∧
      ((s.port p).trunk.state ≠ 3 → (t.port p).trunk = { (s.port p).trunk with goodFrames := 0 }) ∧
      ((s.port p).trunk.state = 3 → (t.port p).trunk = { (s.port p).trunk with
        goodFrames := 0
        missed := if good = 0 then (s.port p).trunk.missed + 1 else 0
        barren := if good = 0 then (s.port p).trunk.barren + 1 else 0 }) ∧
      (good = 0 → t.reg Code.trainsMissed p = min (((s.regN Code.trainsMissed p + 1 : Nat)) : Int) (2 ^ 32 - 1)) ∧
      (good ≠ 0 → t.reg Code.trainsOk p = min (((s.regN Code.trainsOk p + 1 : Nat)) : Int) (2 ^ 32 - 1)) ∧
      (∀ j : Nat, j ≠ p → t.port j = s.port j) ∧ t.ctxs = s.ctxs)

/-- The data phase of a trunk: markers carry arrivals, and on a partner side the mean delay and offset and the time; an
acknowledgement releases what it marks, lets the rest go again once and then drops it; a mode change is announced and applied;
the loss of a trunk discards what awaits acknowledgement (R168, R174, R178, R179, R181). -/
def Obligations.TrunksCarryData : Prop :=
  (∀ (p : Nat) (m : List Byte) (arrival : Int) (s : State), s.Ready → p < 144 → s.trunkOn p = true →
    (s.port p).trunk.state = 3 → m.length = 40 →
    (s.trunkHead p = true → exec (.trunkTime p m arrival true) s = .next (s.modTrunk p (fun x => { x with
      farSnr := beVal ((m.drop 24).take 2) }))) ∧
    (s.trunkHead p = true → exec (.trunkTime p m arrival false) s = .next s) ∧
    (s.trunkHead p = false → exec (.trunkTime p m arrival false) s =
      .next ((s.bump Code.markersMissed p).modTrunk p (fun x => { x with markerSeen := true }))) ∧
    (∀ a : Int, s.trunkHead p = false → arrivalOf ((m.drop 20).take 4) = some a →
      let ms := ((a, arrival) :: (s.port p).trunk.markers).take 16
      ∃ t : State, exec (.trunkTime p m arrival true) s = .next t ∧ (t.port p).trunk.markers = ms ∧
        (t.port p).trunk.delay =
          (roundDiv (sumInt (ms.map (·.1)) + sumInt (ms.map (·.2))) (2 * ms.length)).toNat ∧
        (t.port p).trunk.offset = roundDiv (sumInt (ms.map (·.1)) - sumInt (ms.map (·.2))) (2 * ms.length) ∧
        (t.port p).trunk.farSnr = beVal ((m.drop 24).take 2) ∧
        (s.isTimeSource p = true → t.time.hops = min 255 ((m[4]?.getD 0).toNat + 1) ∧
          t.time.trunkGrade = (m[3]?.getD 0).toNat % 4) ∧
        (s.isTimeSource p = false → t.time = s.time) ∧ t.time.time64 = s.time.time64 ∧
        (∀ j : Nat, j ≠ p → t.port j = s.port j) ∧ t.ctxs = s.ctxs)) ∧
  (∀ (p : Nat) (m : List Byte) (s : State), s.Ready → p < 144 → s.trunkOn p = true → (s.port p).trunk.state = 3 →
    m.length = 36 →
    let lost := (s.port p).trunk.previous.filter (fun f => !(beVal (m.drop 4)).testBit f.seq)
    ∃ t : State, exec (.trunkAck p m) s = .next t ∧
      (t.port p).trunk = { (s.port p).trunk with
        previous := [], again := (s.port p).trunk.again ++ lost.filter (fun f => !f.rtx) } ∧
      (lost.filter (fun f => f.rtx) ≠ [] → t.reg Code.trunkFramesDropped p =
        min (((s.regN Code.trunkFramesDropped p + (lost.filter (fun f => f.rtx)).length : Nat)) : Int) (2 ^ 32 - 1)) ∧
      (∀ j : Nat, j ≠ p → t.port j = s.port j) ∧ t.ctxs = s.ctxs) ∧
  (∀ (p : Nat) (m : List Byte) (s : State), s.Ready → p < 144 → s.trunkOn p = true → s.trunkHead p = false →
    (s.port p).trunk.state = 3 → m.length = 8 →
    (∀ mode : Nat, modeField (m[2]?.getD 0).toNat = some mode → s.headFuture p (beVal (m.drop 4)) = true →
      exec (.trunkMode p m) s = .next (s.modTrunk p (fun x => { x with
        change := some (mode, s.countOfHead p (beVal (m.drop 4))) }))) ∧
    (modeField (m[2]?.getD 0).toNat = none ∨ s.headFuture p (beVal (m.drop 4)) = false →
      exec (.trunkMode p m) s = .next s)) ∧
  (∀ (p mode k : Nat) (s : State), s.Ready → p < 144 → s.isTrunk p = true → (s.port p).trunk.change = some (mode, k) →
    (s.time.cycles + 1 < k → exec (.trunkModeApply p) s = .next s) ∧
    (k ≤ s.time.cycles + 1 → ∃ t : State, exec (.trunkModeApply p) s = .next t ∧
      (t.port p).trunk = { (s.port p).trunk with
        mode := mode, change := none, low := 0
        applied := some (k, (s.port p).trunk.mode, s.regN Code.levelDowns p) } ∧
      t.reg Code.levelDowns p = min (((s.regN Code.levelDowns p + 1 : Nat)) : Int) (2 ^ 32 - 1) ∧
      (∀ j : Nat, j ≠ p → t.port j = s.port j) ∧ t.ctxs = s.ctxs)) ∧
  (∀ (i : Instr) (p : Nat) (m : List Byte) (s : State), s.Ready → p < 144 → s.trunkOn p = true →
    (s.port p).trunk.state = 3 →
    (i = .trunkDown p m ∧ m.length = 4) ∨ (i = .trunkLoss p ∧
      (s.regN Code.lossCycles p ≤ (s.port p).trunk.missed ∨ 32 ≤ (s.port p).trunk.barren)) →
    ∃ t : State, exec i s = .next t ∧ (t.port p).trunk.state = (if s.trunkHead p then 4 else 0) ∧
      (t.port p).trunk.down = some 2 ∧ (t.port p).trunk.silence = 18 ∧ (t.port p).trunk.awaiting = 0 ∧
      (∀ mode downs : Nat, (s.port p).trunk.applied = some (s.time.cycles, mode, downs) →
        (t.port p).trunk.mode = mode ∧ t.reg Code.levelDowns p = (min (s.regN Code.levelDowns p) downs : Nat)) ∧
      t.reg Code.trunkLosses p = min (((s.regN Code.trunkLosses p + 1 : Nat)) : Int) (2 ^ 32 - 1) ∧
      (0 < (s.port p).trunk.awaiting → t.reg Code.trunkFramesDropped p =
        min (((s.regN Code.trunkFramesDropped p + (s.port p).trunk.awaiting : Nat)) : Int) (2 ^ 32 - 1)) ∧
      t.faultCount 23 = min (s.faultCount 23 + 1) (2 ^ 32 - 1) ∧ t.ctxs = s.ctxs) ∧
  (∀ (p : Nat) (s : State), s.Ready → p < 144 → s.trunkOn p = true → s.trunkHead p = true → (s.port p).trunk.state = 3 →
    16 ≤ (s.port p).trunk.low → (s.port p).trunk.change = none → 0 < (s.port p).trunk.mode % 16 →
    exec (.trunkLevelDown p) s = .next (s.modTrunk p (fun x => { x with
      change := some (x.mode - 1, s.time.cycles + 8) })))

/-- Frames from the host and to it: a data frame for an active drop, of the drop's epoch, within its largest payload and with
room, joins the drop's queue; any other is counted and discarded, the queues unchanged; a frame error is counted; FLOW stops
what it stops; a frame for a trunk joins the port that carries its traffic, and one of class 2 or 3 is the request in its body; a
transmitter sends the changed FLOW groups and the next frame, status before management before data before bulk, and IDLE without
either (R88, R202, R210, R303, R308–R312, R318–R320, R325). -/
def Obligations.HostFramesReachTheirDrops : Prop :=
  (∀ (l : Link) (f : HostFrame) (s : State), s.Ready → (s.link l).state = 5 → startGood f = true → endGood f = true →
    badClass f = false → hostClass f = 0 → hostPort f < 144 → (s.port (hostPort f)).mode = 1 → 1 ≤ hostDrop f →
    hostDrop f ≤ 32 →
    let p := hostPort f
    let d := hostDrop f
    ∃ t : State, exec (.hostDataFrame l f) s = .next t ∧
      t.reg (linkCode l Code.framesIn) 0 = min (((s.regN (linkCode l Code.framesIn) 0 + 1 : Nat)) : Int) (2 ^ 32 - 1) ∧
      (∀ j e : Nat, e < 64 → (j, e) ≠ (p, d) → t.ctx j e = s.ctx j e) ∧ (∀ j : Nat, j ≠ p → t.port j = s.port j) ∧
      (s.accepts l = true → 2 ≤ (s.ctx p d).state → (s.ctx p d).state ≠ 3 → (s.ctx p d).state ≠ 4 →
        hostEpoch f = (s.ctx p d).epoch → (hostBody f).length ≤ s.dsMax p d → (hostBody f).length ≤ s.txFree p →
        t.ctx p d = { s.ctx p d with queue := (s.ctx p d).queue ++ [(hostEpoch f, 1, hostBody f)] }) ∧
      (s.accepts l = false → t.ctxs = s.ctxs ∧ t.reg (linkCode l Code.unroutable) 0 =
        min (((s.regN (linkCode l Code.unroutable) 0 + 1 : Nat)) : Int) (2 ^ 32 - 1)) ∧
      (s.accepts l = true → (s.ctx p d).state ≤ 1 → t.ctxs = s.ctxs ∧ t.ports = s.ports ∧ t.reg Code.noDrop p =
        min (((s.regN Code.noDrop p + 1 : Nat)) : Int) (2 ^ 32 - 1)) ∧
      (s.accepts l = true → 2 ≤ (s.ctx p d).state → hostEpoch f ≠ (s.ctx p d).epoch →
        t.ctxs = s.ctxs ∧ t.ports = s.ports ∧
        t.reg Code.staleHost (dropKey p d) =
          min (((s.regN Code.staleHost (dropKey p d) + 1 : Nat)) : Int) (2 ^ 32 - 1) ∧
        t.reg Code.staleEpoch p = min (((s.regN Code.staleEpoch p + 1 : Nat)) : Int) (2 ^ 32 - 1)) ∧
      (s.accepts l = true → (s.ctx p d).state = 4 → hostEpoch f = (s.ctx p d).epoch →
        t.ctxs = s.ctxs ∧ t.ports = s.ports ∧ t.reg Code.asleepDiscards (dropKey p d) =
          min (((s.regN Code.asleepDiscards (dropKey p d) + 1 : Nat)) : Int) (2 ^ 32 - 1)) ∧
      (s.accepts l = true → (s.ctx p d).state = 2 → hostEpoch f = (s.ctx p d).epoch →
        s.dsMax p d < (hostBody f).length →
        t.ctxs = s.ctxs ∧ t.ports = s.ports ∧ t.reg Code.oversizeDiscards p =
          min (((s.regN Code.oversizeDiscards p + 1 : Nat)) : Int) (2 ^ 32 - 1)) ∧
      (s.accepts l = true → (s.ctx p d).state = 2 → hostEpoch f = (s.ctx p d).epoch →
        (hostBody f).length ≤ s.dsMax p d → s.txFree p < (hostBody f).length →
        t.ctxs = s.ctxs ∧ t.ports = s.ports ∧ t.reg (linkCode l Code.txOverflows) 0 =
          min (((s.regN (linkCode l Code.txOverflows) 0 + 1 : Nat)) : Int) (2 ^ 32 - 1))) ∧
  (∀ (l : Link) (f : HostFrame) (s : State), s.Ready → (s.link l).state = 5 → startGood f = true → endGood f = true →
    badClass f = false → hostClass f = 0 → hostPort f < 144 → (s.port (hostPort f)).mode = 2 → hostDrop f = 1 →
    s.accepts l = true → hostEpoch f = (s.ctx (hostPort f) 1).epoch →
    (hostBody f).length ≤ s.txFree (s.trunkPath (hostPort f)) →
    ∃ t : State, exec (.hostDataFrame l f) s = .next t ∧
      t.ctx (s.trunkPath (hostPort f)) 1 = { s.ctx (s.trunkPath (hostPort f)) 1 with
        queue := (s.ctx (s.trunkPath (hostPort f)) 1).queue ++ [(hostEpoch f, 1, hostBody f)] }) ∧
  (∀ (l : Link) (f : HostFrame) (s : State), s.Ready → (s.link l).state = 5 →
    exec (.frameError l (.frame f)) s = exec (.hostDataFrame l f) s ∧
    (startGood f = false → ∃ t : State, exec (.frameError l (.frame f)) s = .next t ∧ { t with regs := s.regs } = s ∧
      t.reg (linkCode l Code.startErrors) 0 =
        min (((s.regN (linkCode l Code.startErrors) 0 + 1 : Nat)) : Int) (2 ^ 32 - 1)) ∧
    (startGood f = true → endGood f = false → ∃ t : State, exec (.frameError l (.frame f)) s = .next t ∧
      { t with regs := s.regs } = s ∧ t.reg (linkCode l Code.frameErrors) 0 =
        min (((s.regN (linkCode l Code.frameErrors) 0 + 1 : Nat)) : Int) (2 ^ 32 - 1)) ∧
    (startGood f = true → endGood f = true → badClass f = true →
      ∃ t : State, exec (.frameError l (.frame f)) s = .next t ∧ t.ctxs = s.ctxs ∧ t.ports = s.ports ∧
        t.reg (linkCode l Code.unroutable) 0 =
          min (((s.regN (linkCode l Code.unroutable) 0 + 1 : Nat)) : Int) (2 ^ 32 - 1) ∧
        t.reg (linkCode l Code.framesIn) 0 = min (((s.regN (linkCode l Code.framesIn) 0 + 1 : Nat)) : Int) (2 ^ 32 - 1))) ∧
  (∀ (l : Link) (s : State), s.Ready → (s.link l).state = 5 →
    (∃ t : State, exec (.frameError l .badBlock) s = .next t ∧ { t with regs := s.regs } = s ∧
      t.reg (linkCode l Code.blockErrors) 0 =
        min (((s.regN (linkCode l Code.blockErrors) 0 + 1 : Nat)) : Int) (2 ^ 32 - 1)) ∧
    (∃ t : State, exec (.frameError l .badSync) s = .next t ∧ { t with regs := s.regs } = s ∧
      t.reg (linkCode l Code.syncErrors) 0 =
        min (((s.regN (linkCode l Code.syncErrors) 0 + 1 : Nat)) : Int) (2 ^ 32 - 1))) ∧
  (∀ (l : Link) (f : HostFrame) (s : State), s.Ready → (s.link l).state = 5 → startGood f = true → endGood f = true →
    badClass f = false →
    (∀ t h i u : Byte, hostClass f = 2 → hostBody f = [1, t, 0, 0, h, i, u, 0] → exec (.hostDataFrame l f) s =
      exec (.read (pathOfLink l) t.toNat (h.toNat * 256 + i.toNat) u.toNat) s) ∧
    (hostClass f = 3 → (hostBody f)[0]? = some 1#8 → exec (.hostDataFrame l f) s =
      exec (.readRecord l (beVal (((hostBody f).drop 2).take 2)) (beVal (((hostBody f).drop 4).take 8))
        (beVal (((hostBody f).drop 12).take 4)) (beVal (((hostBody f).drop 16).take 4))) s) ∧
    (hostClass f = 3 → (hostBody f)[0]? = some 3#8 → exec (.hostDataFrame l f) s =
      exec (.cancel l (beVal (((hostBody f).drop 2).take 2))) s)) ∧
  (∀ (l : Link) (s : State), s.Ready → (s.link l).tx = 3 →
    ∃ t : State, exec (.frameTransmit l) s = .next t ∧ (t.link l).sentBlocks = [] ∧ { t with oxl := s.oxl } = s ∧
      t.link (otherLink l) = s.link (otherLink l)) ∧
  (∀ (l : Link) (b : BitVec 64) (s : State), s.Ready → (s.link l).state = 5 → blockByte b 0 = 0x2D → blockByte b 1 = 0xFF →
    exec (.flow l b) s = .next (s.modLink l (fun x => { x with
      stopData := (blockByte b 2).testBit 0, stopBulk := (blockByte b 2).testBit 1 }))) ∧
  (∀ (l : Link) (s : State), s.Ready → (s.link l).tx = 1 →
    ((s.link l).fit = false ∨ (s.link l).takeFrame = none →
      ∃ t : State, exec (.frameTransmit l) s = .next t ∧ t.regs = s.regs ∧ (t.link l).flowGroups = [] ∧
        (t.link l).inProgress = (if (s.link l).moveDue then (s.link l).inProgress else none) ∧
        (t.link l).sentBlocks = (if (s.link l).flowGroups = [] then [blockOf [0x1E], blockOf [0x1E]]
          else (s.link l).flowGroups.map s.flowBlock) ∧
        (t.link l).status = (s.link l).status ∧ t.link (otherLink l) = s.link (otherLink l)) ∧
    (∀ (f : OutFrame) (y : LinkSt), (s.link l).fit = true → (s.link l).takeFrame = some (f, y) →
      ∃ t : State, exec (.frameTransmit l) s = .next t ∧ (t.link l).inProgress = some f ∧
        (t.link l).sentBlocks = (s.link l).flowGroups.map s.flowBlock ++ frameBlocks f ∧ (t.link l).flowGroups = [] ∧
        t.reg (linkCode l Code.framesOut) 0 = min (((s.regN (linkCode l Code.framesOut) 0 + 1 : Nat)) : Int) (2 ^ 32 - 1) ∧
        (∀ r : List OutFrame, (s.link l).status = f :: r → (t.link l).status = r) ∧
        ((s.link l).status ≠ [] → (s.link l).status.head? = some f ∧ (t.link l).mgmt = (s.link l).mgmt) ∧
        ((s.link l).status = [] → (s.link l).mgmt ≠ [] → (s.link l).mgmt.head? = some f ∧ (t.link l).data = (s.link l).data) ∧
        ((s.link l).status = [] → (s.link l).mgmt = [] → (s.link l).stopData = false →
          (∃ x ∈ (s.link l).data, x.port < 144) →
          f ∈ (s.link l).data ∧ (t.link l).bulk = (s.link l).bulk) ∧
        t.link (otherLink l) = s.link (otherLink l) ∧ t.ports = s.ports ∧ t.ctxs = s.ctxs))

/-- Bulk reads: a request for a record or for drive blocks is opened, its first block read, or it is answered with the status of
its failure; each block read is answered and the next one read, status 7 ending the request; CANCEL ends an open request with
status 5 (R288, R318–R320). -/
def Obligations.BulkReadsAreAnswered : Prop :=
  (∀ (l : Link) (reqId target first count : Nat) (s : State), s.Ready → (s.link l).state = 5 → s.accepts l = true →
    (4 ≤ (s.link l).bulkOpen.length → ∃ t : State, exec (.readRecord l reqId target first count) s = .next t ∧
      (t.link l).bulk = (s.link l).bulk ++ [bulkResponse 1 4 reqId target 0 0 []] ∧
      (t.link l).bulkOpen = (s.link l).bulkOpen ∧ t.arch = s.arch ∧ t.reg (linkCode l Code.bulkBusy) 0 =
        min (((s.regN (linkCode l Code.bulkBusy) 0 + 1 : Nat)) : Int) (2 ^ 32 - 1)) ∧
    ((s.link l).bulkOpen.length < 4 → s.archReadable = false →
      ∃ t : State, exec (.readRecord l reqId target first count) s = .next t ∧
        (t.link l).bulk = (s.link l).bulk ++ [bulkResponse 1 3 reqId target 0 0 []] ∧ t.arch = s.arch) ∧
    ((s.link l).bulkOpen.length < 4 → s.archReadable = true → s.bulkRecord target = none →
      ∃ t : State, exec (.readRecord l reqId target first count) s = .next t ∧
        (t.link l).bulk = (s.link l).bulk ++ [bulkResponse 1 1 reqId target 0 0 []] ∧ t.arch = s.arch) ∧
    (∀ r : Rec, (s.link l).bulkOpen.length < 4 → s.archReadable = true → s.bulkRecord target = some r →
      (r.blocks ≤ first ∨ r.blocks < first + count → ∃ t : State, exec (.readRecord l reqId target first count) s = .next t ∧
        (t.link l).bulk = (s.link l).bulk ++ [bulkResponse 1 6 reqId target 0 0 []] ∧ t.arch = s.arch) ∧
      (∀ c : Nat, first < r.blocks → first + count ≤ r.blocks → s.freeCid s.readPair = some c →
        ∃ t : State, exec (.readRecord l reqId target first count) s = .next t ∧ (t.link l).bulk = (s.link l).bulk ∧
          (t.link l).bulkOpen.map (fun b => (b.reqId, b.target, b.left)) =
            (s.link l).bulkOpen.map (fun b => (b.reqId, b.target, b.left)) ++
              [(reqId, target, List.range' first (if count = 0 then r.blocks - first else count))] ∧
          t.arch = { s.arch with
            inFlight := s.arch.inFlight ++
              [{ pair := s.readPair, cid := c, job := .bulkRead l s.oxl.bulkTag (r.block + first), issued := s.time.tick }] } ∧
          t.link (otherLink l) = s.link (otherLink l) ∧ t.ports = s.ports ∧ t.ctxs = s.ctxs))) ∧
  (∀ (l : Link) (reqId block first count : Nat) (s : State), s.Ready → (s.link l).state = 5 → s.accepts l = true →
    (s.link l).bulkOpen.length < 4 → s.archReadable = true →
    (first ≠ 0 ∨ count = 0 ∨ 1024 < count ∨ s.layoutEnd < block + count →
      ∃ t : State, exec (.readDriveBlocks l reqId block first count) s = .next t ∧
        (t.link l).bulk = (s.link l).bulk ++ [bulkResponse 2 6 reqId block 0 0 []] ∧ t.arch = s.arch) ∧
    (∀ c : Nat, first = 0 → 0 < count → count ≤ 1024 → block + count ≤ s.layoutEnd → s.freeCid s.readPair = some c →
      ∃ t : State, exec (.readDriveBlocks l reqId block first count) s = .next t ∧ (t.link l).bulk = (s.link l).bulk ∧
        t.arch = { s.arch with
          inFlight := s.arch.inFlight ++
            [{ pair := s.readPair, cid := c, job := .bulkRead l s.oxl.bulkTag block, issued := s.time.tick }] } ∧
        (t.link l).bulkOpen.length = (s.link l).bulkOpen.length + 1 ∧ t.ports = s.ports ∧ t.ctxs = s.ctxs)) ∧
  (∀ (l : Link) (reqId : Nat) (s : State), s.Ready → (s.link l).state = 5 → s.accepts l = true →
    ((∀ b ∈ (s.link l).bulkOpen, b.reqId ≠ reqId) → ∃ t : State, exec (.cancel l reqId) s = .next t ∧
      (t.link l).bulk = (s.link l).bulk ++ [bulkResponse 3 1 reqId 0 0 0 []] ∧
      (t.link l).bulkOpen = (s.link l).bulkOpen ∧ t.arch = s.arch) ∧
    (∀ (b : Bulk) (rest : List Bulk), (s.link l).bulkOpen = b :: rest → b.reqId = reqId →
      ∃ t : State, exec (.cancel l reqId) s = .next t ∧
        (t.link l).bulk = (s.link l).bulk ++ [bulkResponse b.op 5 reqId b.target 0 b.total []] ∧
        (t.link l).bulkOpen = rest ∧ t.arch = s.arch)) ∧
  (∀ (l : Link) (pair cid tag blk i : Nat) (left : List Nat) (c : NvmeCmd) (b : Bulk) (s : State), s.Ready →
    s.cmdAt pair cid = some c → c.job = .bulkRead l tag blk → s.bulkOf l tag = some b →
    b.left = i :: left → s.bulkBlock b i = some blk →
    ∃ t : State, exec (.nvmeCompletion pair cid .ok) s = .next t ∧ t.ports = s.ports ∧ t.ctxs = s.ctxs ∧
      (left ≠ [] → (t.link l).bulk = (s.link l).bulk ++
        [bulkResponse b.op 0 b.reqId b.target i b.total (s.driveBlock blk)]) ∧
      (left = [] → (t.link l).bulk = (s.link l).bulk ++
        [bulkResponse b.op 0 b.reqId b.target i b.total (s.driveBlock blk),
         bulkResponse b.op 7 b.reqId b.target 0 b.total []])) ∧
  (∀ (l : Link) (pair cid tag blk : Nat) (c : NvmeCmd) (b : Bulk) (s : State), s.Ready →
    s.cmdAt pair cid = some c → c.job = .bulkRead l tag blk → s.bulkOf l tag = some b →
    ∃ t : State, exec (.nvmeCompletion pair cid .error) s = .next t ∧
      (t.link l).bulk = (s.link l).bulk ++ [bulkResponse b.op 3 b.reqId b.target 0 b.total []] ∧
      t.reg Code.cmdErrors 0 = min (((s.regN Code.cmdErrors 0 + 1 : Nat)) : Int) (2 ^ 32 - 1))

/-- The archive: a drive that comes up is put in service, found foreign, unformatted or unfit; a record whose write completes
stands on the drive, a failed write is issued again; a commit waits for the hold-up check, goes to journal A and then B, and then
counts; a command that times out is aborted, or the controller reset, the third time in ten minutes failing the archive; a lost
link ends everything in flight; a search finds the newest record (R269, R270, R273, R280, R281, R284, R286, R289, R290). -/
def Obligations.TheArchiveCommitsItsRecords : Prop :=
  (∀ (d : DriveInfo) (s : State), s.Ready → s.arch.state = 1 →
    let found := d.content.foldl (fun x e => Tab.put x e.1 e.2) []
    (d.linkGen = 0 ∨ d.linkWidth = 0 → ∃ t : State, exec (.archiveBringUp d) s = .next t ∧ t.arch.state = 6 ∧
      t.arch.reason = 1 ∧ t.faultCount 35 = min (s.faultCount 35 + 1) (2 ^ 32 - 1) ∧ t.ctxs = s.ctxs) ∧
    (d.linkGen ≠ 0 → d.linkWidth ≠ 0 →
    (driveMeets d = false → ∃ t : State, exec (.archiveBringUp d) s = .next t ∧ t.arch.state = 6 ∧ t.arch.reason = 2 ∧
      t.faultCount 35 = min (s.faultCount 35 + 1) (2 ^ 32 - 1) ∧ t.ctxs = s.ctxs) ∧
    (driveMeets d = true → firstLabel found = none → s.regB Code.autoFormat 0 = false →
      ∃ t : State, exec (.archiveBringUp d) s = .next t ∧ t.arch.state = 5 ∧ t.arch.records = [] ∧ t.ctxs = s.ctxs) ∧
    (∀ x : Label, driveMeets d = true → firstLabel found = some x →
      (x.deviceId ≠ Config.serial → ∃ t : State, exec (.archiveBringUp d) s = .next t ∧ t.arch.state = 4 ∧
        t.arch.label = some x ∧ t.arch.records = ((newestJournal found).map (fun j => committedRecords found x j.2)).getD [] ++
          snapshotsOn found ∧ t.ctxs = s.ctxs) ∧
      (x.deviceId = Config.serial → newestJournal found = none → ∃ t : State, exec (.archiveBringUp d) s = .next t ∧
        t.arch.state = 6 ∧ t.arch.reason = 5 ∧ t.faultCount 35 = min (s.faultCount 35 + 1) (2 ^ 32 - 1)) ∧
      (∀ (slot : Nat) (j : Journal), x.deviceId = Config.serial → newestJournal found = some (slot, j) →
        let fine := scanArea found x.fineStart x.fineLen j.nextRec true (found.length + 2) j.fineHead 0
        let long := scanArea found x.longStart x.longLen j.nextRec true (found.length + 2) j.longHead 0
        let perm := scanArea found x.permStart x.permLen j.nextRec false (found.length + 2) j.permHead 0
        ∃ t : State, exec (.archiveBringUp d) s = .next t ∧ t.arch.state = 2 ∧ t.arch.recovering = true ∧
          t.arch.fineTail = j.fineTail ∧ t.arch.fineHead = afterLast fine.1 j.fineHead ∧
          t.arch.longHead = afterLast long.1 j.longHead ∧ t.arch.permHead = afterLast perm.1 j.permHead ∧
          t.arch.journalAt = (slot + 1) % 16384 ∧ t.arch.lastCommit = j.time ∧ t.arch.commitDue = true ∧
          (∀ r ∈ fine.1 ++ long.1 ++ perm.1, r ∈ t.arch.records) ∧
          t.reg Code.recordsRecovered 0 = min (((s.regN Code.recordsRecovered 0 +
            (fine.1.length + long.1.length + perm.1.length) : Nat)) : Int) (2 ^ 32 - 1) ∧ t.ctxs = s.ctxs)))) ∧
  (∀ (q : Path) (tid value : Nat) (s : State) (o : Obj), s.Accepts q Code.archFormat value o 1 → s.arch.driveOk = true →
    ∃ t : State, exec (.archFormat q tid value) s = .next t ∧ t.Holds q (writeDone tid Code.archFormat) ∧
      t.arch.state = (if s.arch.state = 0 then 0 else 2) ∧ t.arch.nextSeq = 16 ∧ t.arch.records = [] ∧
      t.arch.journal = none ∧ t.arch.formatting = some (s.makeLabel s.arch.blocks) ∧ t.arch.zeroLeft = 1024 ∧
      t.arch.inFlight.map (fun c => c.job) = zeroPieces.map (fun b => .zeroJournal b) ∧
      t.ctxs = s.ctxs ∧ t.cells = s.cells) ∧
  (∀ (q : Path) (tid value : Nat) (s : State) (o : Obj) (x : Label) (j : Journal), s.Accepts q Code.archAdopt value o 1 →
    s.arch.state = 4 → s.arch.label = some x → s.arch.inFlight = [] →
    (s.arch.journal = some j →
      ∃ t : State, exec (.archAdopt q tid value) s = .next t ∧ t.Holds q (writeDone tid Code.archAdopt) ∧ t.arch.state = 2 ∧
        t.arch.nextSeq = max j.nextRec (maxSeq s.arch.records + 1) ∧ t.arch.records = s.arch.records ∧
        t.arch.inFlight = [{ pair := 0, cid := 0, job := .labelB { x with deviceId := Config.serial }, issued := s.time.tick }] ∧ t.ctxs = s.ctxs ∧ t.ports = s.ports) ∧
    (s.arch.journal = none →
      ∃ t : State, exec (.archAdopt q tid value) s = .next t ∧ t.arch.state = 6 ∧ t.arch.reason = 5)) ∧
  (∀ (pair cid : Nat) (c : NvmeCmd) (r : Rec) (s : State), s.Ready → s.cmdAt pair cid = some c → c.job = .record r →
    (∃ t : State, exec (.nvmeCompletion pair cid .ok) s = .next t ∧ t.arch.records = s.arch.records ++ [r] ∧
      t.arch.commitFrom = some (s.arch.commitFrom.getD s.time.tick) ∧ (r.tier = 2 → t.arch.commitDue = true) ∧
      t.reg Code.recordsWritten 0 = min (((s.regN Code.recordsWritten 0 + 1 : Nat)) : Int) (2 ^ 32 - 1) ∧
      t.ctxs = s.ctxs ∧ t.cells = s.cells) ∧
    (s.arch.inFlight = [c] → s.arch.toIssue = [] →
      ∃ t : State, exec (.nvmeCompletion pair cid .error) s = .next t ∧
        t.arch = { s.arch with
          inFlight := [{ pair := pair, cid := 0, job := .record r, issued := s.time.tick }], admin := [.errorLog] } ∧
        t.reg Code.cmdErrors 0 = min (((s.regN Code.cmdErrors 0 + 1 : Nat)) : Int) (2 ^ 32 - 1))) ∧
  (∀ (c : NvmeCmd) (j : Journal) (s : State), s.Ready → s.arch.toIssue = [] → s.arch.inFlight = [c] → c.pair = 0 →
    (c.job = .journalA j →
      exec (.nvmeCompletion 0 c.cid .ok) s = .next { s with arch := { s.arch with
        inFlight := [{ pair := 0, cid := 0, job := .journalB j, issued := s.time.tick }], committing := 2
        content := Tab.put s.arch.content (1024 + s.arch.journalAt) (journalBytes j) } }) ∧
    (c.job = .journalB j → s.arch.formatting = none → s.arch.recovering = false → s.arch.blocked = [] →
      ∃ t : State, exec (.nvmeCompletion 0 c.cid .ok) s = .next t ∧ t.arch.committing = 0 ∧ t.arch.journal = some j ∧
        t.arch.lastCommit = j.time ∧ t.arch.inFlight = [] ∧ t.arch.fineTail = j.fineTail ∧ t.arch.longTail = j.longTail ∧
        t.arch.journalAt = (s.arch.journalAt + 1) % 16384 ∧
        t.arch.content = Tab.put s.arch.content (17408 + s.arch.journalAt) (journalBytes j) ∧
        (s.arch.commitFine = none → s.arch.commitLong = none → t.arch.records = s.arch.records) ∧
        t.reg Code.archCommits 0 = min (((s.regN Code.archCommits 0 + 1 : Nat)) : Int) (2 ^ 32 - 1) ∧ t.ports = s.ports) ∧
    (c.job = .journalB j → s.arch.formatting = none → s.arch.recovering = true →
      ∃ t : State, exec (.nvmeCompletion 0 c.cid .ok) s = .next t ∧ t.arch.state = 3 ∧ t.arch.journal = some j) ∧
    (∀ x : Label, c.job = .journalB j → s.arch.formatting = some x →
      ∃ t : State, exec (.nvmeCompletion 0 c.cid .ok) s = .next t ∧ t.arch.journal = some j ∧
        t.arch.inFlight = [{ pair := 0, cid := 0, job := .labelB x, issued := s.time.tick }])) ∧
  (∀ (volt cid : Nat) (s : State), s.Ready → s.arch.state = 3 → s.arch.committing = 0 → s.arch.commitDue = true →
    s.regN Code.holdupCap 0 ≠ 0 → s.freeCid 0 = some cid →
    (s.regN Code.holdupArchReq 0 * (2 * 10 ^ 15 * 65536 ^ 2) ≤
        s.regN Code.holdupCap 0 * (volt * s.regN Code.holdupDiv 0) ^ 2 →
      ∃ (t : State) (j : Journal), exec (.archiveCommit volt) s = .next t ∧ t.arch.committing = 1 ∧
        t.arch.commitDue = false ∧ t.arch.inFlight = s.arch.inFlight ++
          [{ pair := 0, cid := cid, job := .journalA j, issued := s.time.tick }] ∧
        j.seq = (s.arch.journal.map (fun x => x.seq)).getD 0 + 1 ∧ j.time = s.time.time64 ∧
        t.hold.volt = volt * s.regN Code.holdupDiv 0 / 65536000 ∧ t.ports = s.ports) ∧
    (s.regN Code.holdupCap 0 * (volt * s.regN Code.holdupDiv 0) ^ 2 <
        s.regN Code.holdupArchReq 0 * (2 * 10 ^ 15 * 65536 ^ 2) →
      ∃ t : State, exec (.archiveCommit volt) s = .next t ∧ t.arch = s.arch ∧
        t.reg Code.archRefusals 0 = min (((s.regN Code.archRefusals 0 + 1 : Nat)) : Int) (2 ^ 32 - 1) ∧
        t.hold.archFrom = some (s.hold.archFrom.getD s.time.tick))) ∧
  (∀ (done fatal : Bool) (c : NvmeCmd) (r : Rec) (s : State), s.Ready → s.arch.inFlight = [c] → c.job = .record r →
    s.arch.toIssue = [] →
    let again : NvmeCmd := { pair := c.pair, cid := 0, job := .record r, issued := s.time.tick }
    let recent := (s.arch.resets.filter (fun x => decide (s.time.tick < x + 6000000000))).length
    (fatal = false → c.aborted = none → s.elapsed c.issued s.cmdTimeoutTicks = false →
      exec (.cmdTimeoutExpiry c.pair c.cid done fatal) s = .next s) ∧
    (fatal = false → c.aborted = none → s.elapsed c.issued s.cmdTimeoutTicks = true →
      ∃ t : State, exec (.cmdTimeoutExpiry c.pair c.cid done fatal) s = .next t ∧
        t.reg Code.cmdTimeouts 0 = min (((s.regN Code.cmdTimeouts 0 + 1 : Nat)) : Int) (2 ^ 32 - 1) ∧
        t.arch = { s.arch with
          admin := [.abort c.pair c.cid], inFlight := [if done then again else { c with aborted := some s.time.tick }] }) ∧
    (fatal = true ∨ (∃ n : Nat, c.aborted = some n ∧ s.elapsed n s.cmdTimeoutTicks = true ∧ done = false) →
      ∃ t : State, exec (.cmdTimeoutExpiry c.pair c.cid done fatal) s = .next t ∧
        t.reg Code.ctrlResets 0 = min (((s.regN Code.ctrlResets 0 + 1 : Nat)) : Int) (2 ^ 32 - 1) ∧
        (recent < 2 → t.arch.state = s.arch.state ∧ t.arch.inFlight = [again]) ∧
        (2 ≤ recent → t.arch.state = 6 ∧ t.arch.reason = (if fatal = true then 4 else 3) ∧ t.arch.inFlight = []))) ∧
  (∀ (pair cid : Nat) (done : Bool) (s : State), s.Ready → s.cmdAt pair cid = none →
    exec (.cmdTimeoutExpiry pair cid done false) s = .next s ∧
    (s.arch.driveOk = true → ∃ t : State, exec (.cmdTimeoutExpiry pair cid done true) s = .next t ∧
      t.reg Code.ctrlResets 0 = min (((s.regN Code.ctrlResets 0 + 1 : Nat)) : Int) (2 ^ 32 - 1) ∧
      t.arch.resets = (s.time.tick :: s.arch.resets).filter (fun x => decide (s.time.tick < x + 6000000000)))) ∧
  (∀ s : State, s.Ready → ∃ t : State, exec .driveLinkLost s = .next t ∧ t.arch.link = 0 ∧ t.arch.inFlight = [] ∧
    t.arch.blocked = [] ∧ t.arch.state = (if s.arch.state = 0 then 0 else 1) ∧ t.arch.records = s.arch.records ∧
    t.ctxs = s.ctxs ∧ t.cells = s.cells) ∧
  (∀ (temp : Int) (wear warn : Nat) (s : State), s.Ready → ∃ t : State, exec (.smartPoll temp wear warn) s = .next t ∧
    t.arch = { s.arch with temp := temp, wear := wear, warn := warn, admin := [.smartLog] } ∧ t.ctxs = s.ctxs ∧
    (warn ≠ 0 → s.arch.warn = 0 → t.faultCount 37 = min (s.faultCount 37 + 1) (2 ^ 32 - 1))) ∧
  (∀ (q : Path) (s : State), s.Ready → (s.path q).findState = 1 →
    (s.archReadable = false → exec (.findComplete q) s = .next (s.modPath q (fun x => { x with findState := 4 }))) ∧
    let u := { s with arch := { s.arch with
      inFlight := s.arch.inFlight.filter (fun c => !findsFor q c.job)
      toIssue := s.arch.toIssue.filter (fun x => !findsFor q x.2) } }
    (s.archReadable = true → s.findRecord (s.path q) = none →
      exec (.findComplete q) s = .next (u.modPath q (fun x => { x with findState := 3 }))) ∧
    (∀ r : Rec, s.archReadable = true → s.findRecord (s.path q) = some r →
      exec (.findComplete q) s = .next (u.modPath q (fun x => { x with findState := 2, findResult := r.seq }))))

/-- A host link comes up step by step: a clock within ±300 ppm, adaptation, block lock, deskew with both lane bits and its own
link bit, and four good ALIGN pairs, each step but the last with a limit; an ALIGN pair goes out with the next count and the FLOW
groups; a loss or a RETRAIN sends the receiver back to clock search and counts; LINK_ENABLE starts it or puts it in electrical
idle (R302, R304–R307, R311, R321). -/
def Obligations.HostLinksComeUpAndAreLost : Prop :=
  (∀ (l : Link) (ppm : Int) (s : State), s.Ready → (s.link l).state = 1 →
    (ppm.natAbs ≤ 300 → exec (.linkClockDetected l ppm) s = .next (s.modLink l (fun x => { x with state := 2 }))) ∧
    (300 < ppm.natAbs → exec (.linkClockDetected l ppm) s = .next s)) ∧
  (∀ (l : Link) (e0 e1 : Nat) (s : State), s.Ready → (s.link l).state = 2 →
    exec (.linkAdaptSettled l e0 e1) s = .next (s.modLink l (fun x => { x with state := 3, eye0 := e0, eye1 := e1 }))) ∧
  (∀ (l : Link) (s : State), s.Ready → (s.link l).state = 3 →
    exec (.linkBlockLock l) s =
      .next (s.modLink l (fun x => { x with state := 4, alignIn := none, alignGood := 0, laneMap := 0 }))) ∧
  (∀ (l : Link) (b0 b1 : BitVec 64) (link0 lane0 link1 lane1 n id id1 : Nat) (up up1 : Bool) (s : State), s.Ready →
    (s.link l).state = 4 → alignFields b0 = some (link0, lane0, up, n, id) →
    alignFields b1 = some (link1, lane1, up1, n, id1) →
    (link0 = linkNo l → link1 = linkNo l → lane0 ≠ lane1 → exec (.linkDeskew l b0 b1) s = .next (s.modLink l (fun x =>
      { x with laneMap := lane0, alignIn := some n, alignGood := 0, farUp := up, farId := id }))) ∧
    (link0 ≠ linkNo l → ∃ t : State, exec (.linkDeskew l b0 b1) s = .next t ∧ (t.link l).state = 4 ∧
      (t.link l).farUp = up ∧ (t.link l).farId = id ∧ (t.link l).laneMap = (s.link l).laneMap ||| 2 ∧ t.faultCount 21 = min (s.faultCount 21 + 1) (2 ^ 32 - 1) ∧
      t.reg (linkCode l Code.wiringErrors) 0 =
        min (((s.regN (linkCode l Code.wiringErrors) 0 + 1 : Nat)) : Int) (2 ^ 32 - 1) ∧ t.ctxs = s.ctxs)) ∧
  (∀ (l : Link) (s : State), s.Ready → (s.link l).state = 4 →
    ((s.link l).alignGood < 4 → exec (.linkUp l) s = .next s) ∧
    (4 ≤ (s.link l).alignGood → ∃ t : State, exec (.linkUp l) s = .next t ∧ (t.link l).state = 5 ∧
      t.reg (linkCode l Code.linkUps) 0 = min (((s.regN (linkCode l Code.linkUps) 0 + 1 : Nat)) : Int) (2 ^ 32 - 1) ∧
      (s.linkOn l = true → s.prbsSends l = false → s.prbsChecks l = false → (s.link l).farDown < 2 →
        (t.link l).fit = true) ∧ t.ports = s.ports ∧ t.ctxs = s.ctxs)) ∧
  (∀ (l : Link) (s : State), s.Ready → s.linkOn l = true → s.prbsChecks l = false →
    ((s.link l).state = 2 ∨ (s.link l).state = 3 ∨
        ((s.link l).state = 4 ∧ (s.link l).alignIn = none ∧ (s.link l).laneMap < 2) →
      ∃ t : State, exec (.linkStepTimeout l) s = .next t ∧ (t.link l).state = 1 ∧ t.regs = s.regs ∧
        t.link (otherLink l) = s.link (otherLink l) ∧ t.ports = s.ports) ∧
    ((s.link l).state = 0 ∨ (s.link l).state = 1 ∨ (s.link l).state = 5 ∨ (s.link l).state = 6 →
      exec (.linkStepTimeout l) s = .next s)) ∧
  (∀ (l : Link) (b0 b1 : BitVec 64) (lane0 n id id1 : Nat) (up1 : Bool) (s : State), s.Ready → (s.link l).state = 4 →
    lane0 = (s.link l).laneMap % 2 → (s.link l).alignIn = some ((n + 65535) % 65536) → n < 65536 →
    alignFields b0 = some (linkNo l, lane0, true, n, id) → alignFields b1 = some (linkNo l, 1 - lane0, up1, n, id1) →
    exec (.align l b0 b1) s = .next (s.modLink l (fun x => { x with
      alignIn := some n, farUp := true, farId := id, farDown := 0, rxQuiet := false, rxExiting := false
      alignGood := x.alignGood + 1, alignBad := 0 }))) ∧
  (∀ (l : Link) (s : State), s.Ready → (s.link l).tx = 1 → s.alignDue l = false →
    exec (.alignTransmit l) s = .next s) ∧
  (∀ (l : Link) (s : State), s.Ready → (s.link l).tx = 1 → s.alignDue l = true →
    let c := ((s.link l).alignOut + 1) % 65536
    ∃ t : State, exec (.alignTransmit l) s = .next t ∧ t.regs = s.regs ∧ t.ports = s.ports ∧
      t.link (otherLink l) = s.link (otherLink l) ∧
      { t.link l with
        laneOut0 := (s.link l).laneOut0, laneOut1 := (s.link l).laneOut1, coder0 := (s.link l).coder0
        coder1 := (s.link l).coder1, nextLane := (s.link l).nextLane } =
        { s.link l with
          alignOut := c, flowGroups := [], alignAt := some s.time.tick
          idleFrom := if (s.link l).flowGroups = [] then (s.link l).idleFrom else s.time.tick
          sentBlocks := (if (s.link l).nextLane = 1 then [0x1E00000000000000#64] else []) ++
            [s.alignBlock l 0 c, s.alignBlock l 1 c, s.flowBlock 0, s.flowBlock 1, s.flowBlock 2] }) ∧
  (∀ (i : Instr) (l : Link) (c : LossCause) (s : State), s.Ready → s.rxUp l = true → s.linkOn l = true →
    s.prbsSends l = false → s.prbsChecks l = false →
    (i = .linkLoss l c ∧ (c = .clockIdle → (s.link l).state = 5) ∧ (∀ n : Nat, c = .syncHeaders n → 16 ≤ n) ∧
      (c = .alignCount → 2 ≤ (s.link l).alignBad)) ∨
      (∃ (q : Path) (tid value : Nat) (o : Obj), i = .oxlRetrain q tid l value ∧
        s.Accepts q (linkCode l Code.linkRetrain) value o 1) →
    ∃ t : State, exec i s = .next t ∧ (t.link l).state = 1 ∧ (t.link l).fit = false ∧
      t.reg (linkCode l Code.linkLosses) 0 =
        min (((s.regN (linkCode l Code.linkLosses) 0 + 1 : Nat)) : Int) (2 ^ 32 - 1) ∧
      ((s.link l).fit = true → (t.link l).moveDue = true ∧
        t.faultCount (18 + linkNo l) = min (s.faultCount (18 + linkNo l) + 1) (2 ^ 32 - 1)) ∧
      t.ports = s.ports ∧ t.ctxs = s.ctxs) ∧
  (∀ (l : Link) (s : State), s.Ready → (s.link l).state = 6 → exec (.linkLoss l .clockIdle) s = .next s) ∧
  (∀ (q : Path) (tid value : Nat) (l : Link) (s : State) (o : Obj) (v : Int),
    s.Accepts q (linkCode l Code.linkEnable) value o v →
    ∃ t : State, exec (.linkEnable q tid l value) s = .next t ∧ t.reg (linkCode l Code.linkEnable) 0 = v ∧
      (v = 0 → (t.link l).state = 0 ∧ (t.link l).tx = 0 ∧ ((s.link l).fit = true → (t.link l).fit = false)) ∧
      (v = 1 → (s.link l).state = 0 → s.prbsSends l = false → s.prbsChecks l = false →
        (t.link l).state = 1 ∧ (t.link l).tx = 1) ∧
      t.ports = s.ports ∧ t.ctxs = s.ctxs)

/-- Traffic and the host links: the mode and PREFERRED settle which link carries what; the traffic of a lost link moves once to
the other one, its cut frame sent again as a copy ahead of its queue; FORCE_SWITCH makes the other link active; the preferred
link takes its traffic back after RETURN_HOLD (R320, R322–R324). -/
def Obligations.TrafficMovesBetweenTheLinks : Prop :=
  (∀ (q : Path) (tid value : Nat) (s : State) (o : Obj) (v : Int), s.Accepts q Code.linkMode value o v →
    ∃ t : State, exec (.linkMode q tid value) s = .next t ∧ t.reg Code.linkMode 0 = v ∧
      t.oxl.lowOnB = (!s.oxl.a.fit && s.oxl.b.fit) ∧
      t.oxl.highOnA = (s.oxl.a.fit && !s.oxl.b.fit) ∧
      (s.oxl.a.fit = s.oxl.b.fit → t.oxl.activeB = decide (s.regN Code.preferred 0 = 1)) ∧
      (s.oxl.a.fit = true → s.oxl.b.fit = false → t.oxl.activeB = false) ∧
      (s.oxl.a.fit = false → s.oxl.b.fit = true → t.oxl.activeB = true) ∧
      t.reg Code.linkFailovers 0 = s.reg Code.linkFailovers 0 ∧ t.ports = s.ports ∧ t.ctxs = s.ctxs) ∧
  (∀ (q : Path) (tid value : Nat) (s : State) (o : Obj) (v : Int), s.Accepts q Code.preferred value o v →
    ∃ t : State, exec (.preferred q tid value) s = .next t ∧ t.reg Code.preferred 0 = v ∧
      (s.linkMode ≠ 2 → t.oxl.activeB = s.oxl.activeB ∧ t.oxl.a.data = s.oxl.a.data ∧ t.oxl.b.data = s.oxl.b.data) ∧
      (s.linkMode = 2 → s.oxl.a.fit = s.oxl.b.fit → t.oxl.activeB = decide (v = 1)) ∧
      t.oxl.lowOnB = s.oxl.lowOnB ∧ t.oxl.highOnA = s.oxl.highOnA ∧ t.ports = s.ports ∧ t.ctxs = s.ctxs) ∧
  (∀ (q : Path) (tid value : Nat) (s : State) (o : Obj), s.Accepts q Code.forceSwitch value o 1 →
    ∃ t : State, exec (.forceSwitch q tid value) s = .next t ∧ t.oxl.activeB = (!s.oxl.activeB) ∧
      t.reg Code.linkFailovers 0 = min (((s.regN Code.linkFailovers 0 + 1 : Nat)) : Int) (2 ^ 32 - 1) ∧
      t.ports = s.ports ∧ t.ctxs = s.ctxs) ∧
  (∀ (l : Link) (cut : Bool) (s : State), s.Ready →
    ((s.link l).fit = true → exec (.linkTrafficMove l cut) s = .next s) ∧
    ((s.link l).fit = false → (s.link (otherLink l)).fit = false → cut = false →
      exec (.linkTrafficMove l cut) s = .next s) ∧
    ((s.link l).fit = false → (s.link (otherLink l)).fit = true → s.assigned l = true → s.linkMode ≠ 1 →
      ∃ t : State, exec (.linkTrafficMove l cut) s = .next t ∧
        t.reg Code.linkFailovers 0 = min (((s.regN Code.linkFailovers 0 + 1 : Nat)) : Int) (2 ^ 32 - 1) ∧
        (cut = true → t.reg (linkCode l Code.partialFrames) 0 =
          min (((s.regN (linkCode l Code.partialFrames) 0 + 1 : Nat)) : Int) (2 ^ 32 - 1)) ∧
        (t.link l).data = [] ∧ (t.link l).bulkOpen = [] ∧ (t.link l).inProgress = none ∧ (t.link l).moveDue = false ∧
        t.assigned l = false ∧ t.assigned (otherLink l) = true ∧
        ((s.link l).inProgress = none →
          (t.link (otherLink l)).data = (s.link (otherLink l)).data ++ (s.link l).data) ∧
        (∀ f : OutFrame, (s.link l).inProgress = some f → f.cls = 0 →
          (s.link l).progressAt ≤ (s.link l).lostAt → (s.link l).lostAt < (s.link l).progressAt + frameTicks f →
          (t.link (otherLink l)).data =
            { f with copy := true } :: (s.link (otherLink l)).data ++ (s.link l).data) ∧
        (t.link (otherLink l)).stopData = ((s.link (otherLink l)).stopData || (s.link l).stopData) ∧
        t.ports = s.ports ∧ t.ctxs = s.ctxs)) ∧
  (∀ (l : Link) (from_ : Nat) (s : State), s.Ready → (s.link l).fit = true → (s.link l).holdFrom = some from_ →
    (s.regN Code.returnHold 0 = 0 ∨ s.time.tick < from_ + s.regN Code.returnHold 0 * 10000000 →
      exec (.returnHoldExpiry l) s = .next s) ∧
    (s.regN Code.returnHold 0 ≠ 0 → from_ + s.regN Code.returnHold 0 * 10000000 ≤ s.time.tick → s.linkMode = 2 →
      s.activeLink ≠ l → s.regN Code.preferred 0 = linkNo l →
      ∃ t : State, exec (.returnHoldExpiry l) s = .next t ∧ t.activeLink = l ∧ (t.link l).holdFrom = none ∧
        (t.link l).data = (s.link l).data ++ (s.link (otherLink l)).data.filter
          (fun f => !decide (f.cls = 1 ∧ f.body.head? = some 8#8)) ∧
        t.reg Code.linkReturns 0 = min (((s.regN Code.linkReturns 0 + 1 : Nat)) : Int) (2 ^ 32 - 1) ∧
        t.ports = s.ports ∧ t.ctxs = s.ctxs))

/-- Quiet and the lane test: an idle direction whose far end is up enters Quiet with eight QUIET blocks and leaves it with an
ALIGN pair when a frame waits, and now and then without one; the receive side follows, its waits watched; a generator or checker
takes the link out of use; a checker locks and counts, and PRBS_CLEAR zeroes its counts; a block that a lane sends is read back,
with its sync header, by a lane that stands at the same point with the same settings (R298–R301, R313–R315, R321, R325). -/
def Obligations.QuietAndTheLaneTest : Prop :=
  (∀ (l : Link) (s : State), s.Ready → (s.link l).tx = 1 → s.rxUp l = true → (s.link l).waits = false →
    (s.regN (linkCode l Code.quietIdle) 0 = 0 → exec (.quietEntry l) s = .next s) ∧
    (s.regN (linkCode l Code.quietIdle) 0 ≠ 0 →
      (s.link l).idleFrom + s.regN (linkCode l Code.quietIdle) 0 * 10 ≤ s.time.tick →
      ∃ t : State, exec (.quietEntry l) s = .next t ∧ (t.link l).tx = 2 ∧
        (t.link l).sentBlocks = List.replicate 8 0x5500000000000000#64 ∧
        t.reg (linkCode l Code.quietEntriesTx) 0 =
          min (((s.regN (linkCode l Code.quietEntriesTx) 0 + 1 : Nat)) : Int) (2 ^ 32 - 1) ∧
        t.link (otherLink l) = s.link (otherLink l) ∧ t.ports = s.ports ∧ t.ctxs = s.ctxs)) ∧
  (∀ (l : Link) (s : State), s.Ready → (s.link l).state = 5 →
    ∃ t : State, exec (.quietRxEntry l) s = .next t ∧ (t.link l).state = 6 ∧ (t.link l).rxQuiet = true ∧
      (t.link l).fit = (s.link l).fit ∧ t.reg (linkCode l Code.quietEntriesRx) 0 =
        min (((s.regN (linkCode l Code.quietEntriesRx) 0 + 1 : Nat)) : Int) (2 ^ 32 - 1) ∧
      t.link (otherLink l) = s.link (otherLink l) ∧ t.ports = s.ports ∧ t.ctxs = s.ctxs) ∧
  (∀ (l : Link) (s : State), s.Ready → (s.link l).tx = 2 →
    let c := ((s.link l).alignOut + 1) % 65536
    let idle := fun (n : Nat) => List.replicate n 0x1E00000000000000#64
    let blocks := idle (if (s.link l).nextLane = 1 then 313 else 312) ++
      [s.alignBlock l 0 c, s.alignBlock l 1 c, s.flowBlock 0, s.flowBlock 1, s.flowBlock 2]
    ((s.link l).waits = false → exec (.quietExit l) s = .next s) ∧
    ((s.link l).waits = true → ∃ t : State, exec (.quietExit l) s = .next t ∧ t.regs = s.regs ∧ t.ports = s.ports ∧
      t.link (otherLink l) = s.link (otherLink l) ∧
      { t.link l with
        laneOut0 := (s.link l).laneOut0, laneOut1 := (s.link l).laneOut1, coder0 := (s.link l).coder0
        coder1 := (s.link l).coder1, nextLane := (s.link l).nextLane } =
        { s.link l with
          tx := 1, alignOut := c, flowGroups := [], alignAt := some s.time.tick, sentBlocks := blocks
          idleFrom := s.time.tick }) ∧
    ((s.link l).waits = true → ∃ t : State, exec (.quietPeriodicExit l) s = .next t ∧ (t.link l).tx = 1 ∧
      (t.link l).alignOut = c ∧ (t.link l).sentBlocks = blocks ++ idle 1250 ∧ t.regs = s.regs ∧ t.ports = s.ports) ∧
    ((s.link l).waits = false → ∃ t : State, exec (.quietPeriodicExit l) s = .next t ∧ (t.link l).tx = 2 ∧
      (t.link l).alignOut = c ∧ (t.link l).sentBlocks =
        blocks ++ idle 1250 ++ List.replicate 8 0x5500000000000000#64 ∧
      t.reg (linkCode l Code.quietEntriesTx) 0 =
        min (((s.regN (linkCode l Code.quietEntriesTx) 0 + 1 : Nat)) : Int) (2 ^ 32 - 1) ∧ t.ports = s.ports)) ∧
  (∀ (l : Link) (s : State), s.Ready → (s.link l).state = 6 →
    exec (.quietRxExit l) s = .next (s.modLink l (fun x => { x with rxExiting := true }))) ∧
  (∀ (i : Instr) (l : Link) (s : State), s.Ready → (s.link l).state = 6 → s.linkOn l = true → s.prbsChecks l = false →
    (i = .quietActivityTimeout l ∧ (s.link l).rxExiting = false) ∨
      (i = .quietExitAlignTimeout l ∧ (s.link l).rxExiting = true) →
    ∃ t : State, exec i s = .next t ∧ (t.link l).state = 1 ∧ (t.link l).fit = false ∧
      t.reg (linkCode l Code.linkLosses) 0 =
        min (((s.regN (linkCode l Code.linkLosses) 0 + 1 : Nat)) : Int) (2 ^ 32 - 1) ∧ t.ports = s.ports ∧
      t.ctxs = s.ctxs) ∧
  (∀ (q : Path) (tid value n : Nat) (l : Link) (s : State) (o : Obj) (v : Int), n < 2 →
    s.Accepts q (laneCode l n Code.prbsGen) value o v →
    ∃ t : State, exec (.prbsGen q tid l n value) s = .next t ∧ t.reg (laneCode l n Code.prbsGen) 0 = v ∧
      (v ≠ 0 → s.linkOn l = true → (t.link l).tx = 3 ∧ (t.link l).inProgress = (s.link l).inProgress) ∧
      (v ≠ 0 → (s.link l).fit = true → (t.link l).fit = false) ∧ t.ports = s.ports ∧ t.ctxs = s.ctxs) ∧
  (∀ (q : Path) (tid value n : Nat) (l : Link) (s : State) (o : Obj) (v : Int), n < 2 →
    s.Accepts q (laneCode l n Code.prbsCheck) value o v →
    ∃ t : State, exec (.prbsCheck q tid l n value) s = .next t ∧ t.reg (laneCode l n Code.prbsCheck) 0 = v ∧
      (t.link l).checker n = {} ∧ (v ≠ 0 → s.linkOn l = true → (t.link l).state = 7) ∧
      (v ≠ 0 → (s.link l).state ≠ 7 → (s.link l).fit = true → (t.link l).fit = false) ∧
      t.ports = s.ports ∧ t.ctxs = s.ctxs) ∧
  (∀ (q : Path) (tid value n : Nat) (l : Link) (s : State) (o : Obj), n < 2 →
    s.Accepts q (laneCode l n Code.prbsClear) value o 1 →
    ∃ t : State, exec (.prbsClear q tid l n value) s = .next t ∧ t.reg (laneCode l n Code.prbsBits) 0 = 0 ∧
      t.reg (laneCode l n Code.prbsErrors) 0 = 0 ∧ 
      { t.link l with mgmt := (s.link l).mgmt } = s.link l ∧ t.ports = s.ports) ∧
  (∀ (l : Link) (n : Nat) (bits : List Bool) (s : State), s.Ready → n < 2 → s.linkOn l = true →
    s.regN (laneCode l n Code.prbsCheck) 0 ≠ 0 →
    let r := prbsRun (s.regN (laneCode l n Code.prbsCheck) 0) ((s.link l).checker n) bits
    ∃ t : State, exec (.prbsLock l n bits) s = .next t ∧ (t.link l).checker n = r.1 ∧
      (0 < r.2.1 → t.reg (laneCode l n Code.prbsBits) 0 =
        min (((s.regN (laneCode l n Code.prbsBits) 0 + r.2.1 : Nat)) : Int) (2 ^ 48 - 1)) ∧
      (0 < r.2.2 → t.reg (laneCode l n Code.prbsErrors) 0 =
        min (((s.regN (laneCode l n Code.prbsErrors) 0 + r.2.2 : Nat)) : Int) (2 ^ 48 - 1)) ∧
      t.link (otherLink l) = s.link (otherLink l) ∧ t.ports = s.ports ∧ t.ctxs = s.ctxs) ∧
  (∀ (pre inv : Bool) (c : LaneCoder) (k : BlockKind) (b : BitVec 64), c.prev < 4 →
    let sent := sendOnLane (pre, inv) c k b
    sent.1.length = 33 ∧ receiveOnLane (pre, inv) c (decide (k = .align)) sent.1 = ((if k = .data then 1 else 2, b), sent.2))

/-- Traces and DC readings: a completed run becomes the last trace, its sum divided by the cycles and held in 16 bits, with its
flags, and is counted; a run that is not offered leaves every cell alone; the last run of a capture makes the benchmark; a lead-in
run without a pulse fails; the commands start a capture or a calibration; a dwell pair gives insulation, EMF and loop resistance
(R222, R228–R233, R236–R241). -/
def Obligations.TracesAreScaledAndDcIsMeasured : Prop :=
  (∀ (p : Nat) (r : Run) (rest : List Run) (s : State), s.Ready → p < 144 → (s.port p).trav.ended = r :: rest →
    (∀ w ∈ s.test.badWords, w.1 ≠ 1) →
    ∃ t : State, exec (.traceComplete p) s = .next t ∧
      (t.port p).trav.last.map (fun x => (x.points, x.time, x.step, x.nValid)) =
        some (r.acc.map (fun a => clamp (-32768) 32767 ((a + ((r.cycles / 2 : Nat) : Int)) / ((r.cycles : Nat) : Int))),
          r.lastAt, r.effStep, r.nValid) ∧
      (t.port p).trav.last.map (fun x => x.flags.testBit 0) = some r.clipped ∧
      (∀ u : State, u = s.modTrav p (fun y => { y with step := r.step, termination := r.termination, half := r.oneHalf
                                                       leadIn := if r.kind = .leadIn then y.leadIn else r.leadIn }) →
        (t.port p).trav.last.map (fun x => x.flags.testBit 2) = some (r.clipped || u.benchStateNow p = 0 ||
          u.benchStateNow p = 2 || r.kind == .leadIn || r.kind == .vf)) ∧
      (t.port p).trav.ended = rest ∧
      t.reg Code.travCount p = min (((s.regN Code.travCount p + 1 : Nat)) : Int) (2 ^ 32 - 1) ∧
      (r.clipped = true → t.reg Code.clippedRuns p = min (((s.regN Code.clippedRuns p + 1 : Nat)) : Int) (2 ^ 32 - 1)) ∧
      (r.kind = .normal → r.clipped = true ∨ (s.port p).trav.bench = none → t.cells = s.cells) ∧
      (∀ ts : List (Run × Trace), r.kind = .bench → r.clipped = false → (s.port p).trav.capture = some ts →
        (ts.length + 1 < (s.port p).latch.benchRuns → (t.port p).trav.capture.map List.length = some (ts.length + 1) ∧
          (t.port p).trav.bench.map (fun b => b.time) = (s.port p).trav.bench.map (fun b => b.time)) ∧
        ((s.port p).latch.benchRuns ≤ ts.length + 1 → (t.port p).trav.capture = none ∧
          (t.port p).trav.bench.map (fun b => (b.time, b.step, b.leadIn, b.termination)) =
            some (r.lastAt, r.step, r.leadIn, r.termination) ∧
          (t.port p).trav.previous.map (fun b => b.time) = (s.port p).trav.bench.map (fun b => b.time))) ∧
      (r.kind = .leadIn → (∀ n : Nat, n < 200 → pointOf (r.acc.map (fun a => (a + ((r.cycles / 2 : Nat) : Int)) /
          ((r.cycles : Nat) : Int))) n < 16384) →
        (t.port p).trav.calibration = none ∧ t.reg Code.calResult p = 2 ∧ t.reg Code.leadIn p = s.reg Code.leadIn p ∧
        t.reg Code.calFails p = min (((s.regN Code.calFails p + 1 : Nat)) : Int) (2 ^ 32 - 1)) ∧
      (∀ j : Nat, j ≠ p → t.port j = s.port j) ∧ t.ctxs = s.ctxs) ∧
  (∀ (q : Path) (tid value : Nat) (s : State) (o : Obj), s.Accepts q Code.benchCapture value o 1 →
    let p := (s.path q).selPort
    ∃ t : State, exec (.benchCapture q tid value) s = .next t ∧ t.Holds q (writeDone tid Code.benchCapture) ∧
      (t.port p).trav = { (s.port p).trav with capture := some [], captureOn := false, reserved := 9 } ∧
      (∀ j : Nat, j ≠ p → t.port j = s.port j) ∧ t.ctxs = s.ctxs ∧ t.cells = s.cells ∧ t.arch = s.arch) ∧
  (∀ (i : Instr) (q : Path) (tid value : Nat) (kind : RunKind) (s : State) (o : Obj),
    (i = .leadInCal q tid value ∧ s.Accepts q Code.leadInCal value o 1 ∧ kind = .leadIn) ∨
      (i = .vfCal q tid value ∧ s.Accepts q Code.vfCal value o 1 ∧ kind = .vf) →
    let p := (s.path q).selPort
    ∃ t : State, exec i s = .next t ∧ (t.port p).trav = { (s.port p).trav with calibration := some kind } ∧
      t.reg Code.calResult p = 3 ∧ (∀ j : Nat, j ≠ p → t.port j = s.port j) ∧ t.ctxs = s.ctxs ∧ t.cells = s.cells) ∧
  (∀ (k : Nat) (s : State), s.Ready → k < 9 →
    ((s.cluster k).dwellLen = 0 ∨ (s.cluster k).dwellFresh = true ∨
        (s.cluster k).dwell + s.datumDue < (s.cluster k).dwellLen →
      exec (.insDwellEnd k) s = .next s) ∧
    (0 < (s.cluster k).dwellLen → (s.cluster k).dwellFresh = false →
      (s.cluster k).dwellLen ≤ (s.cluster k).dwell + s.datumDue →
      ∃ t : State, exec (.insDwellEnd k) s = .next t ∧
        t.cluster k = { s.cluster k with
          negative := !(s.cluster k).negative, dwell := 0, dwellFresh := decide (s.datumDue ≠ 0)
          dwellLen := s.regN Code.insDwell k } ∧
        t.regs = s.regs ∧ t.ctxs = s.ctxs ∧ (∀ j : Nat, j ≠ k → t.cluster j = s.cluster j) ∧
        (∀ p : Nat, clusterOf p ≠ k → t.port p = s.port p) ∧
        (∀ p : Nat, p < 144 → clusterOf p = k → (t.port p).trav.dc = {}) ∧
        ((s.cluster k).negative = false → ∀ p : Nat, p < 144 → clusterOf p = k →
          (t.port p).trav.plus = (if s.dcOn p = true ∧ (s.port p).trav.dc.count ≠ 0 then some (s.port p).trav.dc else none) ∧
          (t.port p).trav.ins = (s.port p).trav.ins) ∧
        ((s.cluster k).negative = true → ∀ p : Nat, p < 144 → clusterOf p = k →
          (t.port p).trav.plus = none ∧
          (s.dcOn p = false → (t.port p).trav.ins = (s.port p).trav.ins ∧
            (t.port p).trav.loopRes = (s.port p).trav.loopRes ∧ (t.port p).trav.galvanic = (s.port p).trav.galvanic) ∧
          (s.dcOn p = true → (s.port p).trav.dc.count = 0 ∨ (s.port p).trav.plus = none →
            (t.port p).trav.ins = 0xFFFFFFFE ∧ (t.port p).trav.loopRes = 0xFFFFFFFE ∧
            (t.port p).trav.galvanic = (s.port p).trav.galvanic ∧ (t.port p).trav.dcTime = s.time.time64)) ∧
        ((s.cluster k).negative = true → ∀ (p : Nat) (a : DcSum), p < 144 → clusterOf p = k → s.dcOn p = true →
          let b := (s.port p).trav.dc
          (s.port p).trav.plus = some a → b.count ≠ 0 → b.amps * a.count < a.amps * b.count →
          (s.port p).latch.insEnable = 1 →
          let di := (a.amps * b.count - b.amps * a.count).toNat
          let ohm := (a.volts * b.count - b.volts * a.count) * 1000
          let emf := roundDiv (a.amps * b.volts - a.volts * b.amps) (1000 * di)
          (t.port p).trav.plus = none ∧ (t.port p).trav.dcTime = s.time.time64 ∧
          (t.port p).trav.ins = (if ohm < 1000 * (di : Int) then 0 else if 100000000 * (di : Int) < ohm then 0xFFFFFFFF
            else (roundDiv ohm di).toNat) ∧
          (-5000 ≤ emf → emf ≤ 5000 → (t.port p).trav.galvanic = emf) ∧
          ((s.port p).trav.termination ≠ 1 ∨ a.loopCount + b.loopCount = 0 → (t.port p).trav.loopRes = 0xFFFFFFFE) ∧
          (s.isBranch p = true → (s.port p).trav.termination = 1 → a.loopCount + b.loopCount ≠ 0 →
            a.compliance = true ∨ b.compliance = true → (t.port p).trav.loopRes = 0xFFFFFFFF) ∧
          (s.isBranch p = true → (s.port p).trav.termination = 1 → a.loopCount + b.loopCount ≠ 0 →
            a.compliance = false → b.compliance = false →
            let x := roundDiv (a.loop + b.loop) (10 * (a.loopCount + b.loopCount)) - (s.port p).latch.chokeRes -
              (s.port p).latch.protRes
            0 ≤ x → (t.port p).trav.loopRes = x.toNat))))

/-- Watch cells: a new range waits for a run start; CELL_LAYOUT lays the bands of a range out and resets its cells; writes to a
cell's band reset it and mark its range shaped, writes of its state keep what it has learned; an update counts exceeding and
clear traces, moves the state by the table's rows, learns only while quiet, and leaves confirmed and masked cells alone; a
snapshot takes the next record number (R247–R249, R251–R256, R263, R275). -/
def Obligations.CellsAreLaidOutAndWatched : Prop :=
  (∀ (i : Instr) (q : Path) (tid value : Nat) (inB : Bool) (s : State) (o : Obj) (v : Int),
    (i = .cellAllocA q tid value ∧ inB = false ∧ s.Accepts q Code.cellAllocA value o v) ∨
      (i = .cellAllocB q tid value ∧ inB = true ∧ s.Accepts q Code.cellAllocB value o v) →
    let p := (s.path q).selPort
    ∃ t : State, exec i s = .next t ∧ t.reg (if inB then Code.cellAllocB else Code.cellAllocA) p = v ∧
      (p ∈ (if inB then t.cells.pendingB else t.cells.pendingA)) ∧ t.cells.pool = s.cells.pool ∧
      t.cells.rangeA = s.cells.rangeA ∧ t.cells.rangeB = s.cells.rangeB ∧ t.ports = s.ports ∧ t.ctxs = s.ctxs) ∧
  (∀ (q : Path) (tid value : Nat) (s : State) (o : Obj), s.Accepts q Code.cellLayout value o 1 →
    Tab.wf s.cells.pool = true →
    let p := (s.path q).selPort
    let r := s.rangeOf p false
    (∀ i : Nat, r.base ≤ i → i < r.base + r.count → s.cellOwner i = some (p, false)) →
    ∃ t : State, exec (.cellLayout q tid value) s = .next t ∧ t.Holds q (writeDone tid Code.cellLayout) ∧
      (∀ i : Nat, i < r.count →
        let st := i * s.cfgValid p / r.count
        let c := t.cell (r.base + i)
        c.start = st ∧ c.width = min 64 (max 1 ((i + 1) * s.cfgValid p / r.count - st)) - 1 ∧ c.state = 0 ∧ c.count = 0 ∧
        c.drift = 0 ∧ c.residue = 0 ∧ c.kind = 0 ∧ c.thresh = s.regN Code.defThresh p ∧ c.hyst = s.regN Code.defHyst p ∧
        c.var = s.regN Code.varInit p) ∧ t.ports = s.ports ∧ t.ctxs = s.ctxs) ∧
  (∀ (i : Instr) (q : Path) (tid value p : Nat) (inB : Bool) (s : State) (o : Obj) (v : Int),
    (i = .cellStart q tid value ∧ s.Accepts q Code.cellStart value o v) ∨
      (i = .cellWidth q tid value ∧ s.Accepts q Code.cellWidth value o v) →
    let n := (s.path q).selCell
    s.cellOwner n = some (p, inB) → s.cellBad n = false →
    let c := s.cell n
    ∃ t : State, exec i s = .next t ∧
      (t.cell n).start = (if i = .cellStart q tid value then v.toNat else c.start) ∧
      (t.cell n).width = (if i = .cellStart q tid value then c.width else v.toNat - 1) ∧
      (t.cell n).state = 0 ∧ (t.cell n).count = 0 ∧ (t.cell n).drift = 0 ∧ (t.cell n).residue = 0 ∧ (t.cell n).kind = 0 ∧
      (t.cell n).var = s.regN Code.varInit p ∧ (t.cell n).thresh = c.thresh ∧ (t.cell n).hyst = c.hyst ∧
      (t.cell n).time = s.time.time64 / 10000000 % 2 ^ 32 ∧
      (t.regN Code.layoutHost p).testBit (if inB then 1 else 0) = true ∧ t.cells.snapDue = true ∧
      (c.state ≠ 0 → t.cells.seq = (s.cells.seq + 1) % 65536) ∧ (c.state = 0 → t.cells.seq = s.cells.seq) ∧
      (∀ j : Nat, j ≠ n → t.cell j = s.cell j) ∧ t.ports = s.ports ∧ t.ctxs = s.ctxs) ∧
  (∀ (q : Path) (tid value p : Nat) (inB : Bool) (s : State) (o : Obj) (v : Int), s.Accepts q Code.cellState value o v →
    let n := (s.path q).selCell
    s.cellOwner n = some (p, inB) → s.cellBad n = false →
    let c := s.cell n
    ∃ t : State, exec (.cellState q tid value) s = .next t ∧ t.Holds q (writeDone tid Code.cellState) ∧
      t.cell n = { c with state := v.toNat, count := if v = 0 then 0 else c.count, page := s.time.page
                          time := s.time.time64 / 10000000 % 2 ^ 32 } ∧
      (v.toNat ≠ c.state → t.cells.seq = (s.cells.seq + 1) % 65536) ∧ (v.toNat = c.state → t.cells.seq = s.cells.seq) ∧
      t.cells.snapDue = true ∧ (∀ j : Nat, j ≠ n → t.cell j = s.cell j) ∧ t.ports = s.ports ∧ t.ctxs = s.ctxs) ∧
  (∀ (p : Nat) (inB : Bool) (pts : List Int) (n second i : Nat) (c : Cell) (s : State), s.cellBad i = false →
    s.degraded p = false →
    (c.state = 3 ∨ c.state = 4 → updateCell p inB pts n second i c s = (s, c, [])) ∧
    (c.state ≤ 2 → n ≤ c.start + c.width →
      updateCell p inB pts n second i c s = (s.bump Code.cellsSkipped p, c, [])) ∧
    (c.state ≤ 2 → c.start + c.width < n →
      let u := updateCell p inB pts n second i c s
      let r := roundDiv (sumInt ((List.range (c.width + 1)).map (fun j => pointOf pts (c.start + j)))) (c.width + 1) -
        c.bench - c.drift
      let k := s.regN Code.sigmaK p
      (4 * c.thresh ≤ r.natAbs → k * k * c.var ≤ 256 * r.natAbs * r.natAbs →
        u.2.1.count = min (c.count + 1) 15 ∧ u.2.1.drift = c.drift ∧ u.2.1.residue = c.residue ∧ u.2.1.var = c.var ∧
        (c.state = 0 → c.count + 1 < s.regN Code.alarmCount p → u.2.1.state = 1 ∧ u.2.1.time = second) ∧
        (c.state = 1 → s.regN Code.alarmCount p ≤ min (c.count + 1) 15 → c.count < 14 → u.2.1.state = 2) ∧
        (c.state = 2 → 14 ≤ c.count → s.regN Code.confirmTime p ≤ (second + 2 ^ 32 - c.time) % 2 ^ 32 →
          u.2.1.state = 3) ∧
        u.2.1.kind = (if r < 0 then (if r.natAbs < s.regN Code.stepLevel p then 0 else 2)
          else if r.natAbs < s.regN Code.stepLevel p then 3 else 1)) ∧
      (16 * r.natAbs < 4 * c.thresh * (16 - c.hyst) → r.natAbs < 4 * c.thresh →
        u.2.1.count = c.count - 1 ∧ u.2.1.kind = c.kind ∧
        (c.count = 1 → 0 < s.regN Code.alarmCount p → u.2.1.state = 0) ∧
        (c.state ≠ 0 → 1 < c.count → u.2.1.drift = c.drift)))) ∧
  (∀ s : State, s.Ready →
    let due := s.cells.snapDue = true ∨ s.elapsed s.cells.snapAt (s.regN Code.snapInterval 0 * 10000000) = true
    (¬ due → exec .snapshot s = .next s) ∧
    (due → s.arch.state = 3 → s.arch.snapshot.isSome = true →
      exec .snapshot s = .next { s with cells := { s.cells with snapDue := false, snapAt := s.time.tick } }) ∧
    (due → s.arch.state ≠ 3 → ∃ t : State, exec .snapshot s = .next t ∧ t.arch = s.arch ∧ t.cells.snapDue = false ∧
      t.reg Code.recordsUnwritten 0 = min (((s.regN Code.recordsUnwritten 0 + 1 : Nat)) : Int) (2 ^ 32 - 1)) ∧
    (due → s.arch.state = 3 → s.arch.snapshot = none → (∀ w ∈ s.test.badWords, w.1 ≠ 0) →
      ∃ (t : State) (r : Rec), exec .snapshot s = .next t ∧ t.arch.snapshot = some r ∧ r.kind = 4 ∧
        r.seq = s.arch.nextSeq ∧ r.time = s.time.time64 ∧ t.arch.snapLeft = 128 ∧ t.arch.nextSeq = s.arch.nextSeq + 1 ∧
        t.cells.snapDue = false ∧ t.cells.snapAt = s.time.tick ∧ t.cells.pool = s.cells.pool ∧ t.ports = s.ports ∧
        t.ctxs = s.ctxs))
end

