-- ==== Sys2Proof/Laws/Tables.lean ====
section
/-! SUPPORT. The laws of the sparse tables: a read after a write, and the canonical form that every table operation
keeps. -/

namespace Sys2Proof.Machine

variable {α : Type}

@[simp] theorem Tab.find_nil (k : Nat) : Tab.find ([] : Tab α) k = none := rfl

@[simp] theorem Tab.find_put_self (t : Tab α) (k : Nat) (v : α) : Tab.find (Tab.put t k v) k = some v := by
  induction t with
  | nil => simp [Tab.put, Tab.find]
  | cons e rest ih =>
    obtain ⟨j, w⟩ := e
    simp only [Tab.put]
    split
    · simp [Tab.find]
    · split
      · simp [Tab.find]
      · simp only [Tab.find]
        rw [if_neg (by omega), ih]

theorem Tab.find_put_ne (t : Tab α) {k i : Nat} (v : α) (h : i ≠ k) : Tab.find (Tab.put t k v) i = Tab.find t i := by
  induction t with
  | nil => simp [Tab.put, Tab.find, h.symm]
  | cons e rest ih =>
    obtain ⟨j, w⟩ := e
    simp only [Tab.put]
    split
    · simp [Tab.find, h.symm]
    · split
      · rename_i hk
        subst hk
        simp [Tab.find, h.symm]
      · simp only [Tab.find]
        split
        · rfl
        · exact ih

theorem Tab.find_put (t : Tab α) (k i : Nat) (v : α) :
    Tab.find (Tab.put t k v) i = if i = k then some v else Tab.find t i := by
  split
  · subst_vars; exact Tab.find_put_self ..
  · exact Tab.find_put_ne _ _ ‹_›

@[simp] theorem Tab.get_put_self (t : Tab α) (k : Nat) (v d : α) : Tab.get (Tab.put t k v) k d = v := by
  simp [Tab.get]

theorem Tab.get_put_ne (t : Tab α) {k i : Nat} (v d : α) (h : i ≠ k) : Tab.get (Tab.put t k v) i d = Tab.get t i d := by
  simp [Tab.get, Tab.find_put_ne _ _ h]

/-- A table whose entries are mapped, by a function that leaves the default alone, reads as mapped. -/
theorem Tab.get_map (t : Tab α) (k : Nat) {d : α} (f : α → α) (hd : f d = d) :
    Tab.get (t.map (fun e => (e.1, f e.2))) k d = f (Tab.get t k d) := by
  induction t with
  | nil => simp [Tab.get, hd]
  | cons e rest ih =>
    simp only [List.map_cons, Tab.get, Tab.find] at ih ⊢
    split
    · rfl
    · exact ih

/-- Every key of a table is above a bound. -/
def Tab.above (b : Nat) (t : Tab α) : Prop := ∀ e ∈ t, b < e.1

theorem Tab.wf_cons {j : Nat} {w : α} {rest : Tab α} :
    Tab.wf ((j, w) :: rest) = true ↔ Tab.above j rest ∧ Tab.wf rest = true := by
  induction rest generalizing j w with
  | nil => simp [Tab.wf, Tab.above]
  | cons e rest ih =>
    obtain ⟨k, v⟩ := e
    simp only [Tab.wf, Bool.and_eq_true, decide_eq_true_eq]
    constructor
    · rintro ⟨h, hr⟩
      have := (ih.mp hr).1
      refine ⟨fun e he => ?_, hr⟩
      rcases List.mem_cons.mp he with rfl | he
      · exact h
      · exact Nat.lt_trans h (this e he)
    · rintro ⟨h, hr⟩
      exact ⟨h (k, v) (List.mem_cons_self ..), hr⟩

theorem Tab.above_put {b k : Nat} {v : α} {t : Tab α} (h : Tab.above b t) (hk : b < k) : Tab.above b (Tab.put t k v) := by
  induction t with
  | nil => intro e he; simp [Tab.put] at he; subst he; exact hk
  | cons e rest ih =>
    obtain ⟨j, w⟩ := e
    have hr : Tab.above b rest := fun e he => h e (List.mem_cons_of_mem _ he)
    have hj : b < j := h (j, w) (List.mem_cons_self ..)
    simp only [Tab.put]
    split
    · intro e he
      rcases List.mem_cons.mp he with rfl | he
      · exact hk
      · exact h e he
    · split
      · intro e he
        rcases List.mem_cons.mp he with rfl | he
        · exact hk
        · exact hr e he
      · intro e he
        rcases List.mem_cons.mp he with rfl | he
        · exact hj
        · exact ih hr e he

/-- A write keeps the canonical form. -/
theorem Tab.wf_put {t : Tab α} (k : Nat) (v : α) (h : Tab.wf t = true) : Tab.wf (Tab.put t k v) = true := by
  induction t with
  | nil => rfl
  | cons e rest ih =>
    obtain ⟨j, w⟩ := e
    obtain ⟨ha, hr⟩ := Tab.wf_cons.mp h
    simp only [Tab.put]
    split
    · rename_i hk
      refine Tab.wf_cons.mpr ⟨fun e he => ?_, h⟩
      rcases List.mem_cons.mp he with rfl | he
      · exact hk
      · exact Nat.lt_trans hk (ha e he)
    · split
      · rename_i hk
        subst hk
        exact Tab.wf_cons.mpr ⟨ha, hr⟩
      · exact Tab.wf_cons.mpr ⟨Tab.above_put ha (by omega), ih hr⟩

theorem Tab.mem_del {t : Tab α} {k : Nat} {e : Nat × α} (h : e ∈ Tab.del t k) : e ∈ t := by
  induction t with
  | nil => simp [Tab.del] at h
  | cons f rest ih =>
    obtain ⟨j, w⟩ := f
    simp only [Tab.del] at h
    split at h
    · exact List.mem_cons_of_mem _ (ih h)
    · rcases List.mem_cons.mp h with rfl | h
      · exact List.mem_cons_self ..
      · exact List.mem_cons_of_mem _ (ih h)

/-- Unlisting keeps the canonical form. -/
theorem Tab.wf_del {t : Tab α} (k : Nat) (h : Tab.wf t = true) : Tab.wf (Tab.del t k) = true := by
  induction t with
  | nil => rfl
  | cons e rest ih =>
    obtain ⟨j, w⟩ := e
    obtain ⟨ha, hr⟩ := Tab.wf_cons.mp h
    simp only [Tab.del]
    split
    · exact ih hr
    · exact Tab.wf_cons.mpr ⟨fun e he => ha e (Tab.mem_del he), ih hr⟩

theorem Tab.find_above {t : Tab α} {b k : Nat} (h : Tab.above b t) (hk : k ≤ b) : Tab.find t k = none := by
  induction t with
  | nil => rfl
  | cons e rest ih =>
    obtain ⟨j, w⟩ := e
    have := h (j, w) (List.mem_cons_self ..)
    simp only [Tab.find]
    rw [if_neg (by simp at this; omega)]
    exact ih (fun e he => h e (List.mem_cons_of_mem _ he))

/-- What a table lists after an unlisting. -/
theorem Tab.find_del (t : Tab α) (k i : Nat) :
    Tab.find (Tab.del t k) i = if i = k then none else Tab.find t i := by
  induction t with
  | nil => simp [Tab.del]
  | cons e rest ih =>
    obtain ⟨j, w⟩ := e
    simp only [Tab.del]
    split
    · rename_i hj
      subst hj
      rw [ih]
      split
      · rfl
      · rename_i hi
        simp only [Tab.find]
        rw [if_neg (fun h => hi h.symm)]
    · rename_i hj
      simp only [Tab.find]
      split
      · rename_i hi
        subst hi
        rw [if_neg hj]
      · exact ih

/-- A memory's write is read back (R44). -/
theorem Tab.get_store [DecidableEq α] {d : α} (t : Tab α) (k i : Nat) (v : α) :
    Tab.get (Tab.store d t k v) i d = if i = k then v else Tab.get t i d := by
  unfold Tab.store Tab.get
  split
  · subst_vars
    rw [Tab.find_del]
    split <;> simp_all
  · rw [Tab.find_put]
    split <;> simp

/-- A memory's write keeps its keys rising. -/
theorem Tab.wf_store [DecidableEq α] {d : α} {t : Tab α} (k : Nat) (v : α) (h : Tab.wf t = true) :
    Tab.wf (Tab.store d t k v) = true := by
  unfold Tab.store
  split
  · exact Tab.wf_del k h
  · exact Tab.wf_put k v h

theorem Tab.mem_put {t : Tab α} {k : Nat} {v : α} {e : Nat × α} (h : e ∈ Tab.put t k v) : e = (k, v) ∨ e ∈ t := by
  induction t with
  | nil => simp [Tab.put] at h; exact .inl h
  | cons f rest ih =>
    obtain ⟨j, w⟩ := f
    simp only [Tab.put] at h
    split at h
    · exact List.mem_cons.mp h
    · split at h
      · rcases List.mem_cons.mp h with h | h
        · exact .inl h
        · exact .inr (List.mem_cons_of_mem _ h)
      · rcases List.mem_cons.mp h with h | h
        · exact .inr (h ▸ List.mem_cons_self ..)
        · exact (ih h).imp id (List.mem_cons_of_mem _)

theorem Tab.tidy_iff [DecidableEq α] {d : α} {t : Tab α} :
    Tab.tidy d t = true ↔ Tab.wf t = true ∧ ∀ e ∈ t, e.2 ≠ d := by
  simp [Tab.tidy, List.all_eq_true]

/-- A memory's write keeps the whole canonical form. -/
theorem Tab.tidy_store [DecidableEq α] {d : α} {t : Tab α} (k : Nat) (v : α) (h : Tab.tidy d t = true) :
    Tab.tidy d (Tab.store d t k v) = true := by
  obtain ⟨hw, hd⟩ := Tab.tidy_iff.mp h
  refine Tab.tidy_iff.mpr ⟨Tab.wf_store k v hw, fun e he => ?_⟩
  unfold Tab.store at he
  split at he
  · exact hd e (Tab.mem_del he)
  · rename_i hv
    rcases Tab.mem_put he with rfl | he
    · exact hv
    · exact hd e he

end Sys2Proof.Machine
end

