-- ==== Sys2Proof/Laws/Cells.lean ====
section
/-! SUPPORT. The cell pool: every operation on it keeps its canonical form, and a cell written is the cell read. -/

namespace Sys2Proof.Machine

theorem Tab.above_mono {α : Type} {b c : Nat} {t : Tab α} (h : Tab.above b t) (hc : c ≤ b) : Tab.above c t :=
  fun e he => Nat.lt_of_le_of_lt hc (h e he)

theorem Tab.wf_filter {α : Type} {t : Tab α} (q : Nat × α → Bool) (h : Tab.wf t = true) : Tab.wf (t.filter q) = true := by
  induction t with
  | nil => rfl
  | cons e rest ih =>
    obtain ⟨j, w⟩ := e
    obtain ⟨ha, hr⟩ := Tab.wf_cons.mp h
    rw [List.filter_cons]
    split
    · exact Tab.wf_cons.mpr ⟨fun e he => ha e (List.mem_of_mem_filter he), ih hr⟩
    · exact ih hr

theorem Tab.wf_append {α : Type} {t u : Tab α} (ht : Tab.wf t = true) (hu : Tab.wf u = true)
    (h : ∀ e ∈ t, Tab.above e.1 u) : Tab.wf (t ++ u) = true := by
  induction t with
  | nil => exact hu
  | cons e rest ih =>
    obtain ⟨j, w⟩ := e
    obtain ⟨ha, hr⟩ := Tab.wf_cons.mp ht
    refine Tab.wf_cons.mpr ⟨fun e he => ?_, ih hr (fun e he => h e (List.mem_cons_of_mem _ he))⟩
    rcases List.mem_append.mp he with he | he
    · exact ha e he
    · exact h (j, w) (List.mem_cons_self ..) e he

theorem Tab.wf_map {α β : Type} {t : Tab α} (f : Nat × α → β) (h : Tab.wf t = true) :
    Tab.wf (t.map (fun e => (e.1, f e))) = true := by
  induction t with
  | nil => rfl
  | cons e rest ih =>
    obtain ⟨j, w⟩ := e
    obtain ⟨ha, hr⟩ := Tab.wf_cons.mp h
    refine Tab.wf_cons.mpr ⟨fun e he => ?_, ih hr⟩
    obtain ⟨x, hx, rfl⟩ := List.mem_map.mp he
    exact ha x hx

theorem State.poolTidy_iff (s : State) :
    s.poolTidy = true ↔ Tab.wf s.cells.pool = true ∧ ∀ e ∈ s.cells.pool, e.2 ≠ s.unlisted e.1 := by
  simp [State.poolTidy, List.all_eq_true]

@[simp] theorem clearBad_cells (mem word n : Nat) (s : State) : (clearBad mem word n s).cells = s.cells := rfl

/-- What an unlisted cell reads as depends on the ranges and their layouts alone. -/
theorem unlisted_congr {s t : State} (ha : t.cells.rangeA = s.cells.rangeA) (hb : t.cells.rangeB = s.cells.rangeB)
    (hl : t.cells.layouts = s.cells.layouts) (i : Nat) : t.unlisted i = s.unlisted i := by
  simp only [State.unlisted, State.cellOwner, State.laidCell, State.rangeOf, ha, hb, hl]

@[simp] theorem setCell_unlisted (s : State) (i j : Nat) (c : Cell) : (s.setCell i c).unlisted j = s.unlisted j :=
  unlisted_congr rfl rfl rfl j

/-- A cell written reads as written, and no other cell changes (R250). -/
theorem cell_setCell (s : State) (h : Tab.wf s.cells.pool = true) (i j : Nat) (c : Cell) :
    (s.setCell i c).cell j = if j = i then c else s.cell j := by
  have hf : Tab.find (s.setCell i c).cells.pool j =
      Tab.find (Tab.store (s.unlisted i) s.cells.pool i c) j := rfl
  simp only [State.cell, hf, setCell_unlisted, Tab.store]
  by_cases hc : c = s.unlisted i
  · rw [if_pos hc, Tab.find_del]
    by_cases hj : j = i
    · rw [if_pos hj, if_pos hj, hc, hj]
    · rw [if_neg hj, if_neg hj]
  · rw [if_neg hc, Tab.find_put]
    by_cases hj : j = i
    · rw [if_pos hj, if_pos hj]
    · rw [if_neg hj, if_neg hj]

/-- A cell write keeps the canonical form. -/
theorem setCell_poolTidy (s : State) (i : Nat) (c : Cell) (h : s.poolTidy = true) : (s.setCell i c).poolTidy = true := by
  obtain ⟨hw, hd⟩ := (State.poolTidy_iff s).mp h
  refine (State.poolTidy_iff _).mpr ⟨Tab.wf_store i c hw, fun e he => ?_⟩
  rw [setCell_unlisted]
  change e ∈ Tab.store (s.unlisted i) s.cells.pool i c at he
  unfold Tab.store at he
  split at he
  · exact hd e (Tab.mem_del he)
  · rename_i hc
    rcases Tab.mem_put he with rfl | he
    · exact hc
    · exact hd e he

/-- Tidying brings a pool of rising keys into canonical form. -/
theorem tidyPool_poolTidy (s : State) (h : Tab.wf s.cells.pool = true) : (tidyPool s).poolTidy = true := by
  refine (State.poolTidy_iff _).mpr ⟨Tab.wf_filter _ h, fun e he => ?_⟩
  rw [unlisted_congr (s := s) (t := tidyPool s) rfl rfl rfl]
  have := (List.mem_filter.mp he).2
  simpa using this

/-- Tidying changes no cell. -/
theorem cell_tidyPool (s : State) (h : Tab.wf s.cells.pool = true) (i : Nat) : (tidyPool s).cell i = s.cell i := by
  have key : ∀ t : Tab Cell, Tab.wf t = true →
      (match Tab.find (t.filter (fun e => decide (e.2 ≠ s.unlisted e.1))) i with
        | some c => c
        | none => s.unlisted i) =
      (match Tab.find t i with
        | some c => c
        | none => s.unlisted i) := by
    intro t ht
    induction t with
    | nil => rfl
    | cons e rest ih =>
      obtain ⟨j, w⟩ := e
      obtain ⟨ha, hr⟩ := Tab.wf_cons.mp ht
      by_cases hw : w = s.unlisted j
      · rw [List.filter_cons_of_neg (by simpa using hw), ih hr]
        simp only [Tab.find]
        by_cases hj : j = i
        · rw [if_pos hj, Tab.find_above ha (by omega)]
          exact (hj ▸ hw).symm
        · rw [if_neg hj]
      · rw [List.filter_cons_of_pos (by simpa using hw)]
        simp only [Tab.find]
        by_cases hj : j = i
        · rw [if_pos hj, if_pos hj]
        · rw [if_neg hj, if_neg hj]
          exact ih hr
  exact key s.cells.pool h

/-- A range write of cells in ascending order keeps the canonical form. -/
theorem putCells_poolTidy (r : Range) (cs : Tab Cell) (s : State) (h : Tab.wf s.cells.pool = true)
    (hc : Tab.wf cs = true) (hr : ∀ e ∈ cs, r.has e.1 = true) : (putCells r cs s).poolTidy = true := by
  apply tidyPool_poolTidy
  have hin : ∀ e ∈ cs, r.base ≤ e.1 ∧ e.1 < r.base + r.count := fun e he => by
    have := hr e he
    simp only [Range.has, Bool.and_eq_true, decide_eq_true_eq] at this
    exact this
  refine Tab.wf_append (Tab.wf_append (Tab.wf_filter _ h) hc ?_) (Tab.wf_filter _ h) ?_
  · intro e he f hf
    have := (List.mem_filter.mp he).2
    simp only [decide_eq_true_eq] at this
    have := (hin f hf).1
    omega
  · intro e he f hf
    have hf2 := (List.mem_filter.mp hf).2
    simp only [decide_eq_true_eq] at hf2
    rcases List.mem_append.mp he with he | he
    · have := (List.mem_filter.mp he).2
      simp only [decide_eq_true_eq] at this
      omega
    · have := (hin e he).2
      omega

theorem fillCells_above (d : Nat → Cell) (base n : Nat) (t : Tab Cell) :
    ∀ e ∈ fillCells d base n t, base ≤ e.1 ∧ e.1 < base + n := by
  induction n generalizing base t with
  | zero => intro e he; simp [fillCells] at he
  | succ n ih =>
    intro e he
    unfold fillCells at he
    split at he
    · rcases List.mem_cons.mp he with rfl | he
      · simp
      · have := ih (base + 1) [] e he; omega
    · split at he
      all_goals
        rcases List.mem_cons.mp he with rfl | he
        · simp
        · have := ih (base + 1) _ e he; omega

theorem fillCells_wf (d : Nat → Cell) (base n : Nat) (t : Tab Cell) : Tab.wf (fillCells d base n t) = true := by
  induction n generalizing base t with
  | zero => rfl
  | succ n ih =>
    unfold fillCells
    split
    · exact Tab.wf_cons.mpr ⟨fun e he => by have := fillCells_above d (base + 1) n [] e he; omega, ih _ _⟩
    · split
      all_goals exact Tab.wf_cons.mpr ⟨fun e he => by have := fillCells_above d (base + 1) n _ e he; omega, ih _ _⟩

/-- Remaking a range keeps the canonical form. -/
theorem remake_poolTidy (whole : Bool) (p : Nat) (b : Bool) (l : Layout) (f : Nat → Cell → Cell) (s : State)
    (h : Tab.wf s.cells.pool = true) : (remake whole p b l f s).poolTidy = true := by
  unfold remake
  apply putCells_poolTidy
  · exact h
  · apply Tab.wf_map (f := fun e => f (e.1 - (s.rangeOf p b).base) e.2)
    split
    · exact fillCells_wf ..
    · exact Tab.wf_filter _ h
  · intro e he
    obtain ⟨x, hx, rfl⟩ := List.mem_map.mp he
    dsimp only
    split at hx
    · have := fillCells_above _ _ _ _ x hx
      simp only [Range.has, Bool.and_eq_true, decide_eq_true_eq]
      exact this
    · exact (List.mem_filter.mp hx).2

/-- The pool is in canonical form after reset. -/
theorem reset_poolTidy : State.reset.poolTidy = true := rfl

end Sys2Proof.Machine
end

