-- ==== Sys2Proof/Laws/Clock.lean ====
section
/-! SUPPORT. What leaves the time base and RESET_CAUSE alone: one lemma for each function of the model below the commands that
changes neither (R57–R77, R445). -/

namespace Sys2Proof.Machine

@[simp] theorem ite_time (c : Prop) [Decidable c] (a b : State) :
    (if c then a else b).time = if c then a.time else b.time := by split <;> rfl
@[simp] theorem ite_cause (c : Prop) [Decidable c] (a b : State) :
    (if c then a else b).resetCause = if c then a.resetCause else b.resetCause := by split <;> rfl

theorem getD_time {o : Option State} {s u : State} (h : ∀ t, o = some t → t.time = s.time) (hu : u.time = s.time) :
    (o.getD u).time = s.time := by
  cases o with
  | none => exact hu
  | some t => exact h t rfl
theorem getD_cause {o : Option State} {s u : State} (h : ∀ t, o = some t → t.resetCause = s.resetCause)
    (hu : u.resetCause = s.resetCause) : (o.getD u).resetCause = s.resetCause := by
  cases o with
  | none => exact hu
  | some t => exact h t rfl

/-! ## Tables -/

@[simp] theorem forAll_time (xs : List α) (f : α → State → State) (h : ∀ x t, (f x t).time = t.time) (s : State) : (forAll xs f s).time = s.time := by
  induction xs generalizing s with
  | nil => rfl
  | cons x xs ih => simp only [forAll, List.foldl_cons] at ih ⊢; rw [ih, h]

@[simp] theorem forAll_cause (xs : List α) (f : α → State → State) (h : ∀ x t, (f x t).resetCause = t.resetCause) (s : State) : (forAll xs f s).resetCause = s.resetCause := by
  induction xs generalizing s with
  | nil => rfl
  | cons x xs ih => simp only [forAll, List.foldl_cons] at ih ⊢; rw [ih, h]

@[simp] theorem onlyIf_time (c : Bool) (f : State → State) (s : State) (h : ∀ t, (f t).time = t.time) : (onlyIf c f s).time = s.time := by unfold onlyIf; split <;> simp [h]

@[simp] theorem onlyIf_cause (c : Bool) (f : State → State) (s : State) (h : ∀ t, (f t).resetCause = t.resetCause) : (onlyIf c f s).resetCause = s.resetCause := by unfold onlyIf; split <;> simp [h]

/-! ## Ops -/

@[simp] theorem State.setReg_clock (s : State) (code inst : Nat) (v : Int) :
    (State.setReg s code inst v).time = s.time ∧ (State.setReg s code inst v).resetCause = s.resetCause := by simp [State.setReg]

@[simp] theorem State.setDom_clock (s : State) (code inst : Nat) (v : List Byte) :
    (State.setDom s code inst v).time = s.time ∧ (State.setDom s code inst v).resetCause = s.resetCause := by simp [State.setDom]

@[simp] theorem State.bumpBy_clock (s : State) (code inst n : Nat) :
    (State.bumpBy s code inst n).time = s.time ∧ (State.bumpBy s code inst n).resetCause = s.resetCause := by simp [State.bumpBy]

@[simp] theorem State.bump_clock (s : State) (code inst : Nat) :
    (State.bump s code inst).time = s.time ∧ (State.bump s code inst).resetCause = s.resetCause := by simp [State.bump]

@[simp] theorem State.draw_clock (s : State) :
    (State.draw s).2.time = s.time ∧ (State.draw s).2.resetCause = s.resetCause := by simp [State.draw]

@[simp] theorem State.setPort_clock (s : State) (p : Nat) (x : PortSt) :
    (State.setPort s p x).time = s.time ∧ (State.setPort s p x).resetCause = s.resetCause := by simp [State.setPort]

@[simp] theorem State.modPort_clock (s : State) (p : Nat) (f : PortSt → PortSt) :
    (State.modPort s p f).time = s.time ∧ (State.modPort s p f).resetCause = s.resetCause := by simp [State.modPort]

@[simp] theorem State.modRx_clock (s : State) (p : Nat) (f : RxSt → RxSt) :
    (State.modRx s p f).time = s.time ∧ (State.modRx s p f).resetCause = s.resetCause := by simp [State.modRx]

@[simp] theorem State.modTrunk_clock (s : State) (p : Nat) (f : TrunkSt → TrunkSt) :
    (State.modTrunk s p f).time = s.time ∧ (State.modTrunk s p f).resetCause = s.resetCause := by simp [State.modTrunk]

@[simp] theorem State.modTrav_clock (s : State) (p : Nat) (f : TravSt → TravSt) :
    (State.modTrav s p f).time = s.time ∧ (State.modTrav s p f).resetCause = s.resetCause := by simp [State.modTrav]

@[simp] theorem State.setCtx_clock (s : State) (p d : Nat) (x : Ctx) :
    (State.setCtx s p d x).time = s.time ∧ (State.setCtx s p d x).resetCause = s.resetCause := by simp [State.setCtx]

@[simp] theorem State.modCtx_clock (s : State) (p d : Nat) (f : Ctx → Ctx) :
    (State.modCtx s p d f).time = s.time ∧ (State.modCtx s p d f).resetCause = s.resetCause := by simp [State.modCtx]

@[simp] theorem State.setCluster_clock (s : State) (k : Nat) (x : ClusterSt) :
    (State.setCluster s k x).time = s.time ∧ (State.setCluster s k x).resetCause = s.resetCause := by simp [State.setCluster]

@[simp] theorem State.modCluster_clock (s : State) (k : Nat) (f : ClusterSt → ClusterSt) :
    (State.modCluster s k f).time = s.time ∧ (State.modCluster s k f).resetCause = s.resetCause := by simp [State.modCluster]

@[simp] theorem State.setEngine_clock (s : State) (e : Nat) (x : EngineSt) :
    (State.setEngine s e x).time = s.time ∧ (State.setEngine s e x).resetCause = s.resetCause := by simp [State.setEngine]

@[simp] theorem State.modEngine_clock (s : State) (e : Nat) (f : EngineSt → EngineSt) :
    (State.modEngine s e f).time = s.time ∧ (State.modEngine s e f).resetCause = s.resetCause := by simp [State.modEngine]

@[simp] theorem State.setLink_clock (s : State) (l : Link) (x : LinkSt) :
    (State.setLink s l x).time = s.time ∧ (State.setLink s l x).resetCause = s.resetCause := by unfold State.setLink; (repeat' split) <;> simp

@[simp] theorem State.modLink_clock (s : State) (l : Link) (f : LinkSt → LinkSt) :
    (State.modLink s l f).time = s.time ∧ (State.modLink s l f).resetCause = s.resetCause := by simp [State.modLink]

@[simp] theorem State.setPath_clock (s : State) (q : Path) (x : PathSt) :
    (State.setPath s q x).time = s.time ∧ (State.setPath s q x).resetCause = s.resetCause := by unfold State.setPath; (repeat' split) <;> simp

@[simp] theorem State.modPath_clock (s : State) (q : Path) (f : PathSt → PathSt) :
    (State.modPath s q f).time = s.time ∧ (State.modPath s q f).resetCause = s.resetCause := by simp [State.modPath]

@[simp] theorem State.setSensor_clock (s : State) (n : Nat) (x : SensorSt) :
    (State.setSensor s n x).time = s.time ∧ (State.setSensor s n x).resetCause = s.resetCause := by simp [State.setSensor]

@[simp] theorem atPort_time (p : Nat) (f : State → State) (s : State) (h : ∀ t, (f t).time = t.time) : (atPort p f s).time = s.time := by unfold atPort; split <;> simp [h]

@[simp] theorem atPort_cause (p : Nat) (f : State → State) (s : State) (h : ∀ t, (f t).resetCause = t.resetCause) : (atPort p f s).resetCause = s.resetCause := by unfold atPort; split <;> simp [h]

@[simp] theorem atDrop_time (p d : Nat) (f : State → State) (s : State) (h : ∀ t, (f t).time = t.time) : (atDrop p d f s).time = s.time := by unfold atDrop; split <;> simp [h]

@[simp] theorem atDrop_cause (p d : Nat) (f : State → State) (s : State) (h : ∀ t, (f t).resetCause = t.resetCause) : (atDrop p d f s).resetCause = s.resetCause := by unfold atDrop; split <;> simp [h]

@[simp] theorem atCluster_time (k : Nat) (f : State → State) (s : State) (h : ∀ t, (f t).time = t.time) : (atCluster k f s).time = s.time := by unfold atCluster; split <;> simp [h]

@[simp] theorem atCluster_cause (k : Nat) (f : State → State) (s : State) (h : ∀ t, (f t).resetCause = t.resetCause) : (atCluster k f s).resetCause = s.resetCause := by unfold atCluster; split <;> simp [h]

/-! ## Status -/

@[simp] theorem pushStatus_clock (f : OutFrame) (l : Link) (s : State) :
    (pushStatus f l s).time = s.time ∧ (pushStatus f l s).resetCause = s.resetCause := by simp [pushStatus]

@[simp] theorem sendStatus_clock (links : List Link) (kind port drop epoch : Nat) (body : List Byte) (s : State) :
    (sendStatus links kind port drop epoch body s).time = s.time ∧ (sendStatus links kind port drop epoch body s).resetCause = s.resetCause := by simp [sendStatus]

@[simp] theorem portStatus_clock (kind port drop epoch : Nat) (body : List Byte) (s : State) :
    (portStatus kind port drop epoch body s).time = s.time ∧ (portStatus kind port drop epoch body s).resetCause = s.resetCause := by simp [portStatus]

@[simp] theorem deviceStatus_clock (kind : Nat) (body : List Byte) (s : State) :
    (deviceStatus kind body s).time = s.time ∧ (deviceStatus kind body s).resetCause = s.resetCause := by simp [deviceStatus]

@[simp] theorem admissionStatus_clock (p d epoch mode identity caps : Nat) (s : State) :
    (admissionStatus p d epoch mode identity caps s).time = s.time ∧ (admissionStatus p d epoch mode identity caps s).resetCause = s.resetCause := by simp [admissionStatus]

@[simp] theorem releaseStatus_clock (p d epoch reason : Nat) (s : State) :
    (releaseStatus p d epoch reason s).time = s.time ∧ (releaseStatus p d epoch reason s).resetCause = s.resetCause := by simp [releaseStatus]

@[simp] theorem staleStatus_clock (p d cause frameEpoch epoch : Nat) (s : State) :
    (staleStatus p d cause frameEpoch epoch s).time = s.time ∧ (staleStatus p d cause frameEpoch epoch s).resetCause = s.resetCause := by simp [staleStatus]

@[simp] theorem discardStatus_clock (p d cause length : Nat) (s : State) :
    (discardStatus p d cause length s).time = s.time ∧ (discardStatus p d cause length s).resetCause = s.resetCause := by simp [discardStatus]

@[simp] theorem twinMoveStatus_clock (src dst d oldEpoch newEpoch reason : Nat) (s : State) :
    (twinMoveStatus src dst d oldEpoch newEpoch reason s).time = s.time ∧ (twinMoveStatus src dst d oldEpoch newEpoch reason s).resetCause = s.resetCause := by simp [twinMoveStatus]

@[simp] theorem linkEventStatus_clock (links : List Link) (l : Link) (event : Nat) (s : State) :
    (linkEventStatus links l event s).time = s.time ∧ (linkEventStatus links l event s).resetCause = s.resetCause := by simp [linkEventStatus]

@[simp] theorem trunkStatus_clock (p event : Nat) (s : State) :
    (trunkStatus p event s).time = s.time ∧ (trunkStatus p event s).resetCause = s.resetCause := by simp [trunkStatus]

@[simp] theorem modeStatus_clock (p d old new : Nat) (s : State) :
    (modeStatus p d old new s).time = s.time ∧ (modeStatus p d old new s).resetCause = s.resetCause := by simp [modeStatus]

/-! ## Collector -/

@[simp] theorem notice_clock (o : Occ) (s : State) :
    (notice o s).time = s.time ∧ (notice o s).resetCause = s.resetCause := by simp [notice]

@[simp] theorem fault_clock (source : Nat) (key : List Nat) (detail : List (Nat × Nat)) (s : State) :
    (fault source key detail s).time = s.time ∧ (fault source key detail s).resetCause = s.resetCause := by simp [fault]

@[simp] theorem countOcc_clock (o : Occ) (s : State) :
    (countOcc o s).time = s.time ∧ (countOcc o s).resetCause = s.resetCause := by simp [countOcc]

@[simp] theorem stampOcc_clock (o : Occ) (s : State) :
    (stampOcc o s).time = s.time ∧ (stampOcc o s).resetCause = s.resetCause := by simp [stampOcc]

@[simp] theorem logFault_clock (r : FaultRec) (s : State) :
    (logFault r s).time = s.time ∧ (logFault r s).resetCause = s.resetCause := by simp [logFault]

@[simp] theorem reportFault_clock (r : FaultRec) (s : State) :
    (reportFault r s).time = s.time ∧ (reportFault r s).resetCause = s.resetCause := by simp [reportFault]

@[simp] theorem takeRaise_clock (o : Occ) (fresh : Bool) (s : State) :
    (takeRaise o fresh s).1.time = s.time ∧ (takeRaise o fresh s).1.resetCause = s.resetCause := by
  simp only [takeRaise, logFault_clock]; (repeat' split) <;> simp

@[simp] theorem takeRepeat_clock (o : Occ) (s : State) :
    (takeRepeat o s).time = s.time ∧ (takeRepeat o s).resetCause = s.resetCause := by simp [takeRepeat]

@[simp] theorem takeAll_clock (os : List Occ) (fresh : Bool) (s : State) :
    (takeAll os fresh s).1.time = s.time ∧ (takeAll os fresh s).1.resetCause = s.resetCause := by
  induction os generalizing fresh s with
  | nil => simp [takeAll]
  | cons o rest ih => unfold takeAll; split <;> simp [ih]

@[simp] theorem fatalStop_clock (s : State) :
    (fatalStop s).time = s.time ∧ (fatalStop s).resetCause = s.resetCause := by simp [fatalStop]

@[simp] theorem State.forgetAcks_clock (s : State) :
    (State.forgetAcks s).time = s.time ∧ (State.forgetAcks s).resetCause = s.resetCause := by simp [State.forgetAcks]

@[simp] theorem collect_clock (s : State) :
    (collect s).time = s.time ∧ (collect s).resetCause = s.resetCause := by unfold collect; (repeat' split) <;> simp

@[simp] theorem endCondition_clock (source : Nat) (key : List Nat) (s : State) :
    (endCondition source key s).time = s.time ∧ (endCondition source key s).resetCause = s.resetCause := by simp [endCondition]

@[simp] theorem endConditions_clock (source : Nat) (s : State) :
    (endConditions source s).time = s.time ∧ (endConditions source s).resetCause = s.resetCause := by simp [endConditions]

@[simp] theorem emitRecords_clock (rs : List FaultRec) (s : State) :
    (emitRecords rs s).time = s.time ∧ (emitRecords rs s).resetCause = s.resetCause := by simp [emitRecords]

@[simp] theorem faultAck_clock (mask : Nat) (s : State) :
    (faultAck mask s).time = s.time ∧ (faultAck mask s).resetCause = s.resetCause := by simp [faultAck]

@[simp] theorem faultClear_clock (mask : Nat) (s : State) :
    (faultClear mask s).time = s.time ∧ (faultClear mask s).resetCause = s.resetCause := by simp [faultClear]

@[simp] theorem fecRearm_clock (s : State) :
    (fecRearm s).time = s.time ∧ (fecRearm s).resetCause = s.resetCause := by simp [fecRearm]

/-! ## Memory -/

@[simp] theorem sramCorrected_clock (mem : Nat) (s : State) :
    (sramCorrected mem s).time = s.time ∧ (sramCorrected mem s).resetCause = s.resetCause := by simp [sramCorrected]

@[simp] theorem sramCorrectedBy_clock (mem n : Nat) (s : State) :
    (sramCorrectedBy mem n s).time = s.time ∧ (sramCorrectedBy mem n s).resetCause = s.resetCause := by simp [sramCorrectedBy]

@[simp] theorem markBad_clock (mem word : Nat) (s : State) :
    (markBad mem word s).time = s.time ∧ (markBad mem word s).resetCause = s.resetCause := by simp [markBad]

@[simp] theorem clearBad_clock (mem word n : Nat) (s : State) :
    (clearBad mem word n s).time = s.time ∧ (clearBad mem word n s).resetCause = s.resetCause := by simp [clearBad]

@[simp] theorem sramUncorrectable_clock (mem word access master : Nat) (s : State) :
    (sramUncorrectable mem word access master s).time = s.time ∧ (sramUncorrectable mem word access master s).resetCause = s.resetCause := by simp [sramUncorrectable]

@[simp] theorem rebuildCtx_clock (p d : Nat) (words : List Nat) (s : State) :
    (rebuildCtx p d words s).time = s.time ∧ (rebuildCtx p d words s).resetCause = s.resetCause := by
  unfold rebuildCtx
  split
  · exact ⟨rfl, rfl⟩
  · dsimp only
    refine ⟨?_, ?_⟩
    · rw [forAll_time _ _ (by intro x t; simp)]
      (repeat' split) <;> (try simp) <;> (rw [forAll_time _ _ (by intro x t; split <;> simp)])
    · rw [forAll_cause _ _ (by intro x t; simp)]
      (repeat' split) <;> (try simp) <;> (rw [forAll_cause _ _ (by intro x t; split <;> simp)])

@[simp] theorem ctxWordFailed_clock (word : Nat) (s : State) :
    (ctxWordFailed word s).time = s.time ∧ (ctxWordFailed word s).resetCause = s.resetCause := by simp [ctxWordFailed]

@[simp] theorem readSum_clock (p n master : Nat) (acc : List Int) (s : State) :
    (readSum p n master acc s).2.time = s.time ∧ (readSum p n master acc s).2.resetCause = s.resetCause := by
  have key : ∀ (ws : List Nat) (x : List Int × State) (f : List Int × State → Nat → List Int × State),
      (∀ y w, (f y w).2.time = y.2.time ∧ (f y w).2.resetCause = y.2.resetCause) →
      (ws.foldl f x).2.time = x.2.time ∧ (ws.foldl f x).2.resetCause = x.2.resetCause := by
    intro ws
    induction ws with
    | nil => intro x f _; exact ⟨rfl, rfl⟩
    | cons w ws ih =>
      intro x f h
      exact ⟨((ih _ f h).1).trans (h x w).1, ((ih _ f h).2).trans (h x w).2⟩
  unfold readSum
  exact key _ _ _ (fun y w => by simp)

@[simp] theorem bufferWordFailed_clock (word : Nat) (s : State) :
    (bufferWordFailed word s).time = s.time ∧ (bufferWordFailed word s).resetCause = s.resetCause := by
  unfold bufferWordFailed
  (try dsimp only)
  (repeat' split) <;> simp

@[simp] theorem bufferWritten_clock (p : Nat) (s : State) :
    (bufferWritten p s).time = s.time ∧ (bufferWritten p s).resetCause = s.resetCause := by simp [bufferWritten]

/-! ## Time -/

@[simp] theorem raiseReferenceLoss_clock (trunk : Bool) (s : State) :
    (raiseReferenceLoss trunk s).time = s.time ∧ (raiseReferenceLoss trunk s).resetCause = s.resetCause := by simp [raiseReferenceLoss]

@[simp] theorem recheckReference_clock (s : State) :
    (recheckReference s).time = s.time ∧ (recheckReference s).resetCause = s.resetCause := by simp [recheckReference]

@[simp] theorem learnOffset_clock (xo : Int) (s : State) :
    (learnOffset xo s).time = s.time ∧ (learnOffset xo s).resetCause = s.resetCause := by simp [learnOffset]

/-! ## Slots -/

@[simp] theorem State.allTaken_clock (s : State) (p : Nat) :
    (State.allTaken s p).time = s.time ∧ (State.allTaken s p).resetCause = s.resetCause := by simp [State.allTaken]

@[simp] theorem queueMsg_clock (p : Nat) (m : OutMsg) (s : State) :
    (queueMsg p m s).time = s.time ∧ (queueMsg p m s).resetCause = s.resetCause := by simp [queueMsg]

@[simp] theorem dropMsgs_clock (p d code : Nat) (s : State) :
    (dropMsgs p d code s).time = s.time ∧ (dropMsgs p d code s).resetCause = s.resetCause := by simp [dropMsgs]

@[simp] theorem sendSlotMap_clock (p : Nat) (m : SlotMap) (sl : Slot) (apply fromCycle : Nat) (advance : Int) (s : State) :
    (sendSlotMap p m sl apply fromCycle advance s).time = s.time ∧ (sendSlotMap p m sl apply fromCycle advance s).resetCause = s.resetCause := by simp [sendSlotMap]

@[simp] theorem announceMap_clock (p : Nat) (known new : SlotMap) (apply : Nat) (s : State) :
    (announceMap p known new apply s).time = s.time ∧ (announceMap p known new apply s).resetCause = s.resetCause := by simp [announceMap]

@[simp] theorem installMap_clock (p : Nat) (m : SlotMap) (apply : Nat) (s : State) :
    (installMap p m apply s).time = s.time ∧ (installMap p m apply s).resetCause = s.resetCause := by simp [installMap]

@[simp] theorem waitFor_clock (p d : Nat) (c : Change) (s : State) :
    (waitFor p d c s).time = s.time ∧ (waitFor p d c s).resetCause = s.resetCause := by simp [waitFor]

@[simp] theorem planGrant_clock (p d old : Nat) (s : State) :
    (planGrant p d old s).time = s.time ∧ (planGrant p d old s).resetCause = s.resetCause := by unfold planGrant; (repeat' split) <;> simp

/-! ## Traverse -/

@[simp] theorem latchRun_clock (p : Nat) (s : State) :
    (latchRun p s).time = s.time ∧ (latchRun p s).resetCause = s.resetCause := by simp [latchRun]

@[simp] theorem abandonRun_clock (p : Nat) (s : State) :
    (abandonRun p s).time = s.time ∧ (abandonRun p s).resetCause = s.resetCause := by unfold abandonRun; (repeat' split) <;> simp

@[simp] theorem calFailed_clock (p : Nat) (s : State) :
    (calFailed p s).time = s.time ∧ (calFailed p s).resetCause = s.resetCause := by simp [calFailed]

@[simp] theorem calStops_clock (p : Nat) (s : State) :
    (calStops p s).time = s.time ∧ (calStops p s).resetCause = s.resetCause := by simp [calStops]

@[simp] theorem travDisabled_clock (p : Nat) (s : State) :
    (travDisabled p s).time = s.time ∧ (travDisabled p s).resetCause = s.resetCause := by simp [travDisabled]

@[simp] theorem beginRun_clock (p : Nat) (k : RunKind) (s : State) :
    (beginRun p k s).time = s.time ∧ (beginRun p k s).resetCause = s.resetCause := by simp [beginRun]

@[simp] theorem contribute_clock (p : Nat) (es : List Echo) (s : State) :
    (contribute p es s).time = s.time ∧ (contribute p es s).resetCause = s.resetCause := by unfold contribute; (repeat' split) <;> simp

@[simp] theorem endFullRun_clock (p : Nat) (s : State) :
    (endFullRun p s).time = s.time ∧ (endFullRun p s).resetCause = s.resetCause := by unfold endFullRun; (repeat' split) <;> simp

@[simp] theorem travDatum_clock (p second : Nat) (s : State) :
    (travDatum p second s).time = s.time ∧ (travDatum p second s).resetCause = s.resetCause := by simp [travDatum]

@[simp] theorem leadInResult_clock (p : Nat) (r : Run) (pts : List Int) (s : State) :
    (leadInResult p r pts s).time = s.time ∧ (leadInResult p r pts s).resetCause = s.resetCause := by unfold leadInResult; (repeat' split) <;> simp

@[simp] theorem vfResult_clock (p : Nat) (r : Run) (pts : List Int) (s : State) :
    (vfResult p r pts s).time = s.time ∧ (vfResult p r pts s).resetCause = s.resetCause := by
  unfold vfResult
  (try dsimp only)
  (repeat' split) <;> simp

@[simp] theorem startCal_clock (p : Nat) (k : RunKind) (s : State) :
    (startCal p k s).time = s.time ∧ (startCal p k s).resetCause = s.resetCause := by simp [startCal]

@[simp] theorem dcSpan_clock (p : Nat) (es : List Echo) (s : State) :
    (dcSpan p es s).time = s.time ∧ (dcSpan p es s).resetCause = s.resetCause := by simp [dcSpan]

@[simp] theorem dcIdle_clock (p : Nat) (s : State) :
    (dcIdle p s).time = s.time ∧ (dcIdle p s).resetCause = s.resetCause := by simp [dcIdle]

@[simp] theorem pairEnd_clock (p : Nat) (s : State) :
    (pairEnd p s).time = s.time ∧ (pairEnd p s).resetCause = s.resetCause := by
  unfold pairEnd
  (try dsimp only)
  (repeat' split) <;> simp

@[simp] theorem portDwellEnd_clock (negative : Bool) (p : Nat) (s : State) :
    (portDwellEnd negative p s).time = s.time ∧ (portDwellEnd negative p s).resetCause = s.resetCause := by simp [portDwellEnd]

@[simp] theorem insDwellEnd_clock (k : Nat) (s : State) :
    (insDwellEnd k s).time = s.time ∧ (insDwellEnd k s).resetCause = s.resetCause := by simp [insDwellEnd]

@[simp] theorem dwellDatum_clock (k : Nat) (s : State) :
    (dwellDatum k s).time = s.time ∧ (dwellDatum k s).resetCause = s.resetCause := by simp [dwellDatum]

@[simp] theorem latchPort_clock (p : Nat) (s : State) :
    (latchPort p s).time = s.time ∧ (latchPort p s).resetCause = s.resetCause := by simp [latchPort]

/-! ## Cells -/

@[simp] theorem setRange_clock (p : Nat) (b : Bool) (r : Range) (s : State) :
    (setRange p b r s).time = s.time ∧ (setRange p b r s).resetCause = s.resetCause := by simp [setRange]

@[simp] theorem State.setCell_clock (s : State) (i : Nat) (c : Cell) :
    (State.setCell s i c).time = s.time ∧ (State.setCell s i c).resetCause = s.resetCause := by simp [State.setCell]

@[simp] theorem tidyPool_clock (s : State) :
    (tidyPool s).time = s.time ∧ (tidyPool s).resetCause = s.resetCause := by simp [tidyPool]

@[simp] theorem putCells_clock (r : Range) (cs : Tab Cell) (s : State) :
    (putCells r cs s).time = s.time ∧ (putCells r cs s).resetCause = s.resetCause := by simp [putCells]

@[simp] theorem setLayout_clock (p : Nat) (b : Bool) (l : Layout) (s : State) :
    (setLayout p b l s).time = s.time ∧ (setLayout p b l s).resetCause = s.resetCause := by simp [setLayout]

@[simp] theorem remake_clock (whole : Bool) (p : Nat) (b : Bool) (l : Layout) (f : Nat → Cell → Cell) (s : State) :
    (remake whole p b l f s).time = s.time ∧ (remake whole p b l f s).resetCause = s.resetCause := by simp [remake]

@[simp] theorem leaveCap_clock (i : Nat) (s : State) :
    (leaveCap i s).time = s.time ∧ (leaveCap i s).resetCause = s.resetCause := by simp [leaveCap]

@[simp] theorem leaveCaps_clock (r : Range) (keep : Bool) (s : State) :
    (leaveCaps r keep s).time = s.time ∧ (leaveCaps r keep s).resetCause = s.resetCause := by simp [leaveCaps]

@[simp] theorem setShaped_clock (p : Nat) (b v : Bool) (s : State) :
    (setShaped p b v s).time = s.time ∧ (setShaped p b v s).resetCause = s.resetCause := by simp [setShaped]

@[simp] theorem rebuildCell_clock (i : Nat) (s : State) :
    (rebuildCell i s).time = s.time ∧ (rebuildCell i s).resetCause = s.resetCause := by unfold rebuildCell; (repeat' split) <;> simp

@[simp] theorem cellReadError_clock (i master : Nat) (s : State) :
    (cellReadError i master s).time = s.time ∧ (cellReadError i master s).resetCause = s.resetCause := by simp [cellReadError]

@[simp] theorem mendRange_clock (r : Range) (master : Nat) (s : State) :
    (mendRange r master s).time = s.time ∧ (mendRange r master s).resetCause = s.resetCause := by simp [mendRange]

@[simp] theorem layoutRange_clock (p : Nat) (b keep : Bool) (n second : Nat) (s0 : State) :
    (layoutRange p b keep n second s0).time = s0.time ∧ (layoutRange p b keep n second s0).resetCause = s0.resetCause := by simp [layoutRange]

@[simp] theorem resetRange_clock (p : Nat) (b : Bool) (second : Nat) (s0 : State) :
    (resetRange p b second s0).time = s0.time ∧ (resetRange p b second s0).resetCause = s0.resetCause := by simp [resetRange]

@[simp] theorem takeRange_clock (p : Nat) (b : Bool) (s : State) :
    (takeRange p b s).time = s.time ∧ (takeRange p b s).resetCause = s.resetCause := by simp [takeRange]

@[simp] theorem takeRanges_clock (p : Nat) (s : State) :
    (takeRanges p s).time = s.time ∧ (takeRanges p s).resetCause = s.resetCause := by simp [takeRanges]

@[simp] theorem rangeAccepted_clock (p : Nat) (b : Bool) (s : State) :
    (rangeAccepted p b s).time = s.time ∧ (rangeAccepted p b s).resetCause = s.resetCause := by simp [rangeAccepted]

@[simp] theorem cellLayoutWrite_clock (p v : Nat) (s : State) :
    (cellLayoutWrite p v s).time = s.time ∧ (cellLayoutWrite p v s).resetCause = s.resetCause := by simp [cellLayoutWrite]

@[simp] theorem updateCell_clock (p : Nat) (b : Bool) (pts : List Int) (nValid second i : Nat) (c : Cell) (s : State) :
    (updateCell p b pts nValid second i c s).1.time = s.time ∧ (updateCell p b pts nValid second i c s).1.resetCause = s.resetCause := by
  unfold updateCell
  (try dsimp only)
  (repeat' split) <;> simp

@[simp] theorem updateEach_time (f : Nat → Cell → State → State × Cell × List CellChange) (h : ∀ i c t, (f i c t).1.time = t.time)
    (cs : Tab Cell) (s : State) : (updateEach f cs s).1.time = s.time := by
  induction cs generalizing s with
  | nil => rfl
  | cons e rest ih => simp only [updateEach]; rw [ih, h]

@[simp] theorem updateEach_cause (f : Nat → Cell → State → State × Cell × List CellChange) (h : ∀ i c t, (f i c t).1.resetCause = t.resetCause)
    (cs : Tab Cell) (s : State) : (updateEach f cs s).1.resetCause = s.resetCause := by
  induction cs generalizing s with
  | nil => rfl
  | cons e rest ih => simp only [updateEach]; rw [ih, h]

@[simp] theorem rebench_clock (p : Nat) (s0 : State) :
    (rebench p s0).time = s0.time ∧ (rebench p s0).resetCause = s0.resetCause := by simp [rebench]

@[simp] theorem updateRange_clock (p : Nat) (b : Bool) (pts : List Int) (nValid second : Nat) (s : State) :
    (updateRange p b pts nValid second s).1.time = s.time ∧ (updateRange p b pts nValid second s).1.resetCause = s.resetCause := by simp [updateRange]

@[simp] theorem updateCells_clock (p : Nat) (pts : List Int) (nValid time : Nat) (s : State) :
    (updateCells p pts nValid time s).1.time = s.time ∧ (updateCells p pts nValid time s).1.resetCause = s.resetCause := by unfold updateCells; (repeat' split) <;> simp

@[simp] theorem sendReport_clock (r : Report) (s : State) :
    (sendReport r s).time = s.time ∧ (sendReport r s).resetCause = s.resetCause := by simp [sendReport]

@[simp] theorem reportChanges_clock (p eff nValid time : Nat) (oneHalf : Bool) (pts : List Int) (cs : List CellChange) (s : State) :
    (reportChanges p eff nValid time oneHalf pts cs s).time = s.time ∧ (reportChanges p eff nValid time oneHalf pts cs s).resetCause = s.resetCause := by
  unfold reportChanges
  (try dsimp only)
  (repeat' split) <;> simp

@[simp] theorem cellReport_clock (i p old flags : Nat) (s : State) :
    (cellReport i p old flags s).time = s.time ∧ (cellReport i p old flags s).resetCause = s.resetCause := by simp [cellReport]

@[simp] theorem reloadMended_clock (p n benchTime : Nat) (s : State) :
    (reloadMended p n benchTime s).time = s.time ∧ (reloadMended p n benchTime s).resetCause = s.resetCause := by simp [reloadMended]

@[simp] theorem reloadCells_clock (p n benchTime : Nat) (s : State) :
    (reloadCells p n benchTime s).time = s.time ∧ (reloadCells p n benchTime s).resetCause = s.resetCause := by simp [reloadCells]

@[simp] theorem snapSoon_clock (s : State) :
    (snapSoon s).time = s.time ∧ (snapSoon s).resetCause = s.resetCause := by simp [snapSoon]

@[simp] theorem hostWrote_clock (i p old : Nat) (s : State) :
    (hostWrote i p old s).time = s.time ∧ (hostWrote i p old s).resetCause = s.resetCause := by simp [hostWrote]

@[simp] theorem writeCellState_clock (i p v : Nat) (s : State) :
    (writeCellState i p v s).time = s.time ∧ (writeCellState i p v s).resetCause = s.resetCause := by simp [writeCellState]

@[simp] theorem writeCellBand_clock (i p : Nat) (b : Bool) (start width : Nat) (s : State) :
    (writeCellBand i p b start width s).time = s.time ∧ (writeCellBand i p b start width s).resetCause = s.resetCause := by simp [writeCellBand]

@[simp] theorem writeCellField_clock (i : Nat) (f : Cell → Cell) (s : State) :
    (writeCellField i f s).time = s.time ∧ (writeCellField i f s).resetCause = s.resetCause := by simp [writeCellField]

/-! ## Archive -/

@[simp] theorem State.modArch_clock (s : State) (f : ArchSt → ArchSt) :
    (State.modArch s f).time = s.time ∧ (State.modArch s f).resetCause = s.resetCause := by simp [State.modArch]

@[simp] theorem findsLost_clock (s : State) :
    (findsLost s).time = s.time ∧ (findsLost s).resetCause = s.resetCause := by simp [findsLost]

@[simp] theorem setArch_clock (st reason : Nat) (s : State) :
    (setArch st reason s).time = s.time ∧ (setArch st reason s).resetCause = s.resetCause := by simp [setArch]

@[simp] theorem issueAdmin_clock (cs : List AdminCmd) (s : State) :
    (issueAdmin cs s).time = s.time ∧ (issueAdmin cs s).resetCause = s.resetCause := by simp [issueAdmin]

@[simp] theorem issue_clock (pair : Nat) (job : NvmeJob) (s : State) :
    (issue pair job s).time = s.time ∧ (issue pair job s).resetCause = s.resetCause := by unfold issue; (repeat' split) <;> simp

@[simp] theorem issueNext_clock (pair : Nat) (s : State) :
    (issueNext pair s).time = s.time ∧ (issueNext pair s).resetCause = s.resetCause := by unfold issueNext; (repeat' split) <;> simp

@[simp] theorem startReclaim_clock (tier : Nat) (s : State) :
    (startReclaim tier s).time = s.time ∧ (startReclaim tier s).resetCause = s.resetCause := by simp [startReclaim]

@[simp] theorem writeRecord_clock (r : Rec) (s : State) :
    (writeRecord r s).time = s.time ∧ (writeRecord r s).resetCause = s.resetCause := by
  unfold writeRecord
  (try dsimp only)
  (repeat' split) <;> simp

@[simp] theorem startRoutine_clock (p : Nat) (r : Rec) (s : State) :
    (startRoutine p r s).time = s.time ∧ (startRoutine p r s).resetCause = s.resetCause := by simp [startRoutine]

@[simp] theorem archiveRoutine_clock (p : Nat) (r : Rec) (s : State) :
    (archiveRoutine p r s).time = s.time ∧ (archiveRoutine p r s).resetCause = s.resetCause := by simp [archiveRoutine]

@[simp] theorem archiveBench_clock (p : Nat) (r : Rec) (s : State) :
    (archiveBench p r s).time = s.time ∧ (archiveBench p r s).resetCause = s.resetCause := by simp [archiveBench]

@[simp] theorem archiveAlarm_clock (p : Nat) (r : Rec) (s : State) :
    (archiveAlarm p r s).time = s.time ∧ (archiveAlarm p r s).resetCause = s.resetCause := by simp [archiveAlarm]

@[simp] theorem holdupCheck_clock (commit : Bool) (microVolt : Nat) (s : State) :
    (holdupCheck commit microVolt s).2.time = s.time ∧ (holdupCheck commit microVolt s).2.resetCause = s.resetCause := by
  unfold holdupCheck
  (try dsimp only)
  (repeat' split) <;> simp

@[simp] theorem archiveCommit_clock (microVolt : Nat) (s : State) :
    (archiveCommit microVolt s).time = s.time ∧ (archiveCommit microVolt s).resetCause = s.resetCause := by simp [archiveCommit]

@[simp] theorem recordDone_clock (r : Rec) (s : State) :
    (recordDone r s).time = s.time ∧ (recordDone r s).resetCause = s.resetCause := by
  unfold recordDone
  (try dsimp only)
  (repeat' split) <;> simp

@[simp] theorem restorePort_clock (p : Nat) (s : State) :
    (restorePort p s).time = s.time ∧ (restorePort p s).resetCause = s.resetCause := by
  unfold restorePort
  (try dsimp only)
  (repeat' split) <;> simp

@[simp] theorem reseatPort_clock (p : Nat) (s : State) :
    (reseatPort p s).time = s.time ∧ (reseatPort p s).resetCause = s.resetCause := by simp [reseatPort]

@[simp] theorem enterService_clock (s : State) :
    (enterService s).time = s.time ∧ (enterService s).resetCause = s.resetCause := by simp [enterService]

@[simp] theorem keepBlock_clock (b : Nat) (bs : List Byte) (s : State) :
    (keepBlock b bs s).time = s.time ∧ (keepBlock b bs s).resetCause = s.resetCause := by simp [keepBlock]

@[simp] theorem commitDone_clock (j : Journal) (s : State) :
    (commitDone j s).time = s.time ∧ (commitDone j s).resetCause = s.resetCause := by
  unfold commitDone
  (try dsimp only)
  (repeat' split) <;> simp

@[simp] theorem snapPieceDone_clock (s : State) :
    (snapPieceDone s).time = s.time ∧ (snapPieceDone s).resetCause = s.resetCause := by simp [snapPieceDone]

@[simp] theorem snapDone_clock (s : State) :
    (snapDone s).time = s.time ∧ (snapDone s).resetCause = s.resetCause := by unfold snapDone; (repeat' split) <;> simp

@[simp] theorem zeroDone_clock (first : Nat) (s : State) :
    (zeroDone first s).time = s.time ∧ (zeroDone first s).resetCause = s.resetCause := by simp [zeroDone]

@[simp] theorem labelsDone_clock (l : Label) (s : State) :
    (labelsDone l s).time = s.time ∧ (labelsDone l s).resetCause = s.resetCause := by simp [labelsDone]

@[simp] theorem jobDone_clock (j : NvmeJob) (s : State) :
    (jobDone j s).time = s.time ∧ (jobDone j s).resetCause = s.resetCause := by unfold jobDone; (repeat' split) <;> simp

@[simp] theorem retire_clock (c : NvmeCmd) (s : State) :
    (retire c s).time = s.time ∧ (retire c s).resetCause = s.resetCause := by simp [retire]

@[simp] theorem abandonArchive_clock (s : State) :
    (abandonArchive s).time = s.time ∧ (abandonArchive s).resetCause = s.resetCause := by simp [abandonArchive]

@[simp] theorem driveLinkLost_clock (s : State) :
    (driveLinkLost s).time = s.time ∧ (driveLinkLost s).resetCause = s.resetCause := by simp [driveLinkLost]

@[simp] theorem controllerReset_clock (fatal : Bool) (s : State) :
    (controllerReset fatal s).time = s.time ∧ (controllerReset fatal s).resetCause = s.resetCause := by simp [controllerReset]

@[simp] theorem beginFormat_clock (s : State) :
    (beginFormat s).time = s.time ∧ (beginFormat s).resetCause = s.resetCause := by simp [beginFormat]

@[simp] theorem recoverArchive_clock (l : Label) (slot : Nat) (j : Journal) (s : State) :
    (recoverArchive l slot j s).time = s.time ∧ (recoverArchive l slot j s).resetCause = s.resetCause := by simp [recoverArchive]

@[simp] theorem readForeign_clock (l : Label) (s : State) :
    (readForeign l s).time = s.time ∧ (readForeign l s).resetCause = s.resetCause := by simp [readForeign]

@[simp] theorem archiveBringUp_clock (d : DriveInfo) (s : State) :
    (archiveBringUp d s).time = s.time ∧ (archiveBringUp d s).resetCause = s.resetCause := by
  unfold archiveBringUp
  (try dsimp only)
  (repeat' split) <;> simp

@[simp] theorem adoptDrive_clock (s : State) :
    (adoptDrive s).time = s.time ∧ (adoptDrive s).resetCause = s.resetCause := by unfold adoptDrive; (repeat' split) <;> simp

@[simp] theorem archEnable_clock (on : Bool) (s : State) :
    (archEnable on s).time = s.time ∧ (archEnable on s).resetCause = s.resetCause := by simp [archEnable]

@[simp] theorem mendPool_clock (s : State) :
    (mendPool s).time = s.time ∧ (mendPool s).resetCause = s.resetCause := by simp [mendPool]

@[simp] theorem takeSnapshot_clock (s : State) :
    (takeSnapshot s).time = s.time ∧ (takeSnapshot s).resetCause = s.resetCause := by simp [takeSnapshot]

@[simp] theorem smartPoll_clock (temp : Int) (wear warn : Nat) (s : State) :
    (smartPoll temp wear warn s).time = s.time ∧ (smartPoll temp wear warn s).resetCause = s.resetCause := by simp [smartPoll]

@[simp] theorem startFind_clock (q : Path) (s : State) :
    (startFind q s).time = s.time ∧ (startFind q s).resetCause = s.resetCause := by simp [startFind]

@[simp] theorem findComplete_clock (q : Path) (s : State) :
    (findComplete q s).time = s.time ∧ (findComplete q s).resetCause = s.resetCause := by unfold findComplete; (repeat' split) <;> simp

/-! ## Nvm -/

@[simp] theorem nvmError_clock (op page : Nat) (s : State) :
    (nvmError op page s).time = s.time ∧ (nvmError op page s).resetCause = s.resetCause := by simp [nvmError]

@[simp] theorem pageCheck_clock (s : State) :
    (pageCheck s).2.time = s.time ∧ (pageCheck s).2.resetCause = s.resetCause := by simp [pageCheck]

@[simp] theorem nvmStartWith_time (check : State → Bool × State) (h : ∀ t, (check t).2.time = t.time) (s : State) :
    (nvmStartWith check s).time = s.time := by
  unfold nvmStartWith; dsimp only; (repeat' split) <;> simp [h]

@[simp] theorem nvmStartWith_cause (check : State → Bool × State) (h : ∀ t, (check t).2.resetCause = t.resetCause) (s : State) :
    (nvmStartWith check s).resetCause = s.resetCause := by
  unfold nvmStartWith; dsimp only; (repeat' split) <;> simp [h]

@[simp] theorem nvmStart_clock (s : State) :
    (nvmStart s).time = s.time ∧ (nvmStart s).resetCause = s.resetCause := by simp [nvmStart]

@[simp] theorem logRepair_clock (kind unit spare : Nat) (s : State) :
    (logRepair kind unit spare s).time = s.time ∧ (logRepair kind unit spare s).resetCause = s.resetCause := by simp [logRepair]

@[simp] theorem eraseOther_clock (s : State) :
    (eraseOther s).time = s.time ∧ (eraseOther s).resetCause = s.resetCause := by simp [eraseOther]

@[simp] theorem startCommit_clock (s : State) :
    (startCommit s).time = s.time ∧ (startCommit s).resetCause = s.resetCause := by simp [startCommit]

@[simp] theorem commitWrite_clock (s : State) :
    (commitWrite s).time = s.time ∧ (commitWrite s).resetCause = s.resetCause := by simp [commitWrite]

@[simp] theorem afterCommit_clock (s : State) :
    (afterCommit s).time = s.time ∧ (afterCommit s).resetCause = s.resetCause := by simp [afterCommit]

@[simp] theorem commitFailed_clock (page : Nat) (s : State) :
    (commitFailed page s).time = s.time ∧ (commitFailed page s).resetCause = s.resetCause := by simp [commitFailed]

@[simp] theorem setCurrent_clock (c : CommitSet) (s : State) :
    (setCurrent c s).time = s.time ∧ (setCurrent c s).resetCause = s.resetCause := by simp [setCurrent]

@[simp] theorem commitSetCurrent_clock (nvmOk : Bool) (s : State) :
    (commitSetCurrent nvmOk s).time = s.time ∧ (commitSetCurrent nvmOk s).resetCause = s.resetCause := by unfold commitSetCurrent; (repeat' split) <;> simp

@[simp] theorem repairLogged_clock (e : Repair) (s : State) :
    (repairLogged e s).time = s.time ∧ (repairLogged e s).resetCause = s.resetCause := by simp [repairLogged]

@[simp] theorem State.setBank_clock (s : State) (b : Nat) (x : Bank) :
    (State.setBank s b x).time = s.time ∧ (State.setBank s b x).resetCause = s.resetCause := by simp [State.setBank]

@[simp] theorem State.modBank_clock (s : State) (b : Nat) (f : Bank → Bank) :
    (State.modBank s b f).time = s.time ∧ (State.modBank s b f).resetCause = s.resetCause := by simp [State.modBank]

@[simp] theorem updateFailed_clock (s : State) :
    (updateFailed s).time = s.time ∧ (updateFailed s).resetCause = s.resetCause := by simp [updateFailed]

@[simp] theorem fwPageDone_clock (verified : Bool) (s : State) :
    (fwPageDone verified s).time = s.time ∧ (fwPageDone verified s).resetCause = s.resetCause := by unfold fwPageDone; (repeat' split) <;> simp

@[simp] theorem sectorErased_clock (verified : Bool) (s : State) :
    (sectorErased verified s).time = s.time ∧ (sectorErased verified s).resetCause = s.resetCause := by unfold sectorErased; (repeat' split) <;> simp

@[simp] theorem pageProgramComplete_clock (verified : Bool) (s : State) :
    (pageProgramComplete verified s).time = s.time ∧ (pageProgramComplete verified s).resetCause = s.resetCause := by unfold pageProgramComplete; (repeat' split) <;> simp

@[simp] theorem fwPageStart_clock (microVolt : Nat) (s : State) :
    (fwPageStart microVolt s).time = s.time ∧ (fwPageStart microVolt s).resetCause = s.resetCause := by simp [fwPageStart]

@[simp] theorem nvmRetry_clock (microVolt : Nat) (s : State) :
    (nvmRetry microVolt s).time = s.time ∧ (nvmRetry microVolt s).resetCause = s.resetCause := by simp [nvmRetry]

@[simp] theorem holdupRetry_clock (commitStore : Bool) (microVolt : Nat) (s : State) :
    (holdupRetry commitStore microVolt s).time = s.time ∧ (holdupRetry commitStore microVolt s).resetCause = s.resetCause := by simp [holdupRetry]

/-! ## Complete -/

theorem runToComplete_clock (s : State) (p : Nat) (x : Run × State) (h : s.runToComplete p = some x) :
    x.2.time = s.time ∧ x.2.resetCause = s.resetCause := by
  unfold State.runToComplete at h
  dsimp only at h
  (repeat' split at h) <;> first | (cases h; simp) | cases h

@[simp] theorem offerTrace_clock (p : Nat) (r : Run) (t : Trace) (s : State) :
    (offerTrace p r t s).time = s.time ∧ (offerTrace p r t s).resetCause = s.resetCause := by simp [offerTrace]

@[simp] theorem takeBench_clock (p : Nat) (r : Run) (t : Trace) (ts : List (Run × Trace)) (s : State) :
    (takeBench p r t ts s).time = s.time ∧ (takeBench p r t ts s).resetCause = s.resetCause := by simp [takeBench]

@[simp] theorem countCapture_clock (p : Nat) (r : Run) (t : Trace) (s : State) :
    (countCapture p r t s).time = s.time ∧ (countCapture p r t s).resetCause = s.resetCause := by unfold countCapture; (repeat' split) <;> simp

@[simp] theorem endCapture_clock (p : Nat) (s : State) :
    (endCapture p s).time = s.time ∧ (endCapture p s).resetCause = s.resetCause := by
  unfold endCapture
  (try dsimp only)
  (repeat' split) <;> simp

@[simp] theorem underRun_time (p : Nat) (r : Run) (f : State → State) (h : ∀ t, (f t).time = t.time) (s : State) :
    (underRun p r f s).time = s.time := by simp [underRun, h]

@[simp] theorem underRun_cause (p : Nat) (r : Run) (f : State → State) (h : ∀ t, (f t).resetCause = t.resetCause) (s : State) :
    (underRun p r f s).resetCause = s.resetCause := by simp [underRun, h]

@[simp] theorem completeRun_clock (p : Nat) (r0 : Run) (s0 : State) :
    (completeRun p r0 s0).time = s0.time ∧ (completeRun p r0 s0).resetCause = s0.resetCause := by
  unfold completeRun
  (try dsimp only)
  (repeat' split) <;> simp

@[simp] theorem traceComplete_clock (p : Nat) (s : State) :
    (traceComplete p s).time = s.time ∧ (traceComplete p s).resetCause = s.resetCause := by
  unfold traceComplete
  split
  · exact ⟨rfl, rfl⟩
  · rename_i r0 s0 h
    have h0 : s0.time = s.time ∧ s0.resetCause = s.resetCause := runToComplete_clock _ _ _ h
    simp [h0.1, h0.2]

@[simp] theorem traverseCycle_clock (p : Nat) (es : List Echo) (s : State) :
    (traverseCycle p es s).time = s.time ∧ (traverseCycle p es s).resetCause = s.resetCause := by
  unfold traverseCycle
  (try dsimp only)
  (repeat' split) <;> simp

@[simp] theorem startCapture_clock (p : Nat) (s : State) :
    (startCapture p s).time = s.time ∧ (startCapture p s).resetCause = s.resetCause := by simp [startCapture]

/-! ## Arq -/

@[simp] theorem ackPoint_clock (p d a : Nat) (s : State) :
    (ackPoint p d a s).time = s.time ∧ (ackPoint p d a s).resetCause = s.resetCause := by simp [ackPoint]

@[simp] theorem ackOutside_clock (p d : Nat) (h : RxHeader) (s : State) :
    (ackOutside p d h s).time = s.time ∧ (ackOutside p d h s).resetCause = s.resetCause := by simp [ackOutside]

@[simp] theorem missedPoint_clock (p d : Nat) (s : State) :
    (missedPoint p d s).time = s.time ∧ (missedPoint p d s).resetCause = s.resetCause := by simp [missedPoint]

@[simp] theorem takeSeq_clock (p d seq : Nat) (s : State) :
    (takeSeq p d seq s).1.time = s.time ∧ (takeSeq p d seq s).1.resetCause = s.resetCause := by simp [takeSeq]

@[simp] theorem composeAck_clock (p d : Nat) (s : State) :
    (composeAck p d s).time = s.time ∧ (composeAck p d s).resetCause = s.resetCause := by simp [composeAck]

@[simp] theorem pushData_clock (f : OutFrame) (l : Link) (s : State) :
    (pushData f l s).time = s.time ∧ (pushData f l s).resetCause = s.resetCause := by simp [pushData]

@[simp] theorem frameToHost_clock (p d epoch : Nat) (payload : List Byte) (s : State) :
    (frameToHost p d epoch payload s).time = s.time ∧ (frameToHost p d epoch payload s).resetCause = s.resetCause := by simp [frameToHost]

@[simp] theorem deliverUp_clock (p d : Nat) (payload : List Byte) (s : State) :
    (deliverUp p d payload s).time = s.time ∧ (deliverUp p d payload s).resetCause = s.resetCause := by simp [deliverUp]

@[simp] theorem restartSeq_clock (p d : Nat) (s : State) :
    (restartSeq p d s).time = s.time ∧ (restartSeq p d s).resetCause = s.resetCause := by simp [restartSeq]

@[simp] theorem purgeQueue_clock (p d newEpoch : Nat) (s : State) :
    (purgeQueue p d newEpoch s).time = s.time ∧ (purgeQueue p d newEpoch s).resetCause = s.resetCause := by simp [purgeQueue]

@[simp] theorem queueOnce_clock (p d : Nat) (bytes : List Byte) (s : State) :
    (queueOnce p d bytes s).time = s.time ∧ (queueOnce p d bytes s).resetCause = s.resetCause := by simp [queueOnce]

/-! ## Levelling -/

@[simp] theorem changeMode_clock (p d mode atten : Nat) (s : State) :
    (changeMode p d mode atten s).time = s.time ∧ (changeMode p d mode atten s).resetCause = s.resetCause := by unfold changeMode; (repeat' split) <;> simp

@[simp] theorem putRun_clock (p : Nat) (r : LevelRun) (s : State) :
    (putRun p r s).time = s.time ∧ (putRun p r s).resetCause = s.resetCause := by simp [putRun]

@[simp] theorem endRun_clock (p d : Nat) (s : State) :
    (endRun p d s).time = s.time ∧ (endRun p d s).resetCause = s.resetCause := by simp [endRun]

@[simp] theorem requestSounding_clock (p length : Nat) (r : LevelRun) (s : State) :
    (requestSounding p length r s).time = s.time ∧ (requestSounding p length r s).resetCause = s.resetCause := by simp [requestSounding]

@[simp] theorem decideRun_clock (p : Nat) (r : LevelRun) (s : State) :
    (decideRun p r s).time = s.time ∧ (decideRun p r s).resetCause = s.resetCause := by simp [decideRun]

@[simp] theorem goOn_clock (fuel p b : Nat) (r : LevelRun) (s : State) :
    (goOn fuel p b r s).time = s.time ∧ (goOn fuel p b r s).resetCause = s.resetCause := by
  induction fuel generalizing b r with
  | zero => simp [goOn]
  | succ n ih => simp only [goOn]; (repeat' split) <;> simp [ih]

@[simp] theorem serveRuns_clock (fuel p : Nat) (s : State) :
    (serveRuns fuel p s).time = s.time ∧ (serveRuns fuel p s).resetCause = s.resetCause := by
  induction fuel generalizing s with
  | zero => exact ⟨rfl, rfl⟩
  | succ f ih =>
    unfold serveRuns
    split
    · exact ⟨rfl, rfl⟩
    · split
      · rw [(ih _).1, (ih _).2]; simp
      · exact ⟨rfl, rfl⟩

@[simp] theorem startLevelling_clock (p d : Nat) (s : State) :
    (startLevelling p d s).time = s.time ∧ (startLevelling p d s).resetCause = s.resetCause := by simp [startLevelling]

@[simp] theorem startDeferrable_clock (p d : Nat) (s : State) :
    (startDeferrable p d s).time = s.time ∧ (startDeferrable p d s).resetCause = s.resetCause := by simp [startDeferrable]

@[simp] theorem startDeferred_clock (s : State) :
    (startDeferred s).time = s.time ∧ (startDeferred s).resetCause = s.resetCause := by simp [startDeferred]

@[simp] theorem soundResult_clock (p : Nat) (r : LevelRun) (snr : Nat) (peak : Int) (s : State) :
    (soundResult p r snr peak s).time = s.time ∧ (soundResult p r snr peak s).resetCause = s.resetCause := by simp [soundResult]

@[simp] theorem soundMissed_clock (p : Nat) (r : LevelRun) (s : State) :
    (soundMissed p r s).time = s.time ∧ (soundMissed p r s).resetCause = s.resetCause := by simp [soundMissed]

@[simp] theorem takeUpSound_clock (p d snr : Nat) (arrival : Int) (s : State) :
    (takeUpSound p d snr arrival s).time = s.time ∧ (takeUpSound p d snr arrival s).resetCause = s.resetCause := by unfold takeUpSound; (repeat' split) <;> simp

@[simp] theorem soundReport_clock (p d : Nat) (m : List Byte) (s : State) :
    (soundReport p d m s).time = s.time ∧ (soundReport p d m s).resetCause = s.resetCause := by unfold soundReport; (repeat' split) <;> simp

@[simp] theorem soundMiss_clock (p d : Nat) (s : State) :
    (soundMiss p d s).time = s.time ∧ (soundMiss p d s).resetCause = s.resetCause := by unfold soundMiss; (repeat' split) <;> simp

@[simp] theorem levelIntervalExpiry_clock (p d : Nat) (s : State) :
    (levelIntervalExpiry p d s).time = s.time ∧ (levelIntervalExpiry p d s).resetCause = s.resetCause := by simp [levelIntervalExpiry]

@[simp] theorem modeConfirm_clock (p d : Nat) (m : List Byte) (s : State) :
    (modeConfirm p d m s).time = s.time ∧ (modeConfirm p d m s).resetCause = s.resetCause := by simp [modeConfirm]

@[simp] theorem restorePlan_clock (p : Nat) (s : State) :
    (restorePlan p s).time = s.time ∧ (restorePlan p s).resetCause = s.resetCause := by unfold restorePlan; (repeat' split) <;> simp

@[simp] theorem remap_clock (p d : Nat) (c : Change) (s : State) :
    (remap p d c s).time = s.time ∧ (remap p d c s).resetCause = s.resetCause := by unfold remap; (repeat' split) <;> simp

@[simp] theorem modeApply_clock (p d : Nat) (s : State) :
    (modeApply p d s).time = s.time ∧ (modeApply p d s).resetCause = s.resetCause := by simp [modeApply]

@[simp] theorem modeRevert_clock (p d : Nat) (s : State) :
    (modeRevert p d s).time = s.time ∧ (modeRevert p d s).resetCause = s.resetCause := by simp [modeRevert]

/-! ## Receiver -/

@[simp] theorem leaveSlot_clock (p : Nat) (s : State) :
    (leaveSlot p s).time = s.time ∧ (leaveSlot p s).resetCause = s.resetCause := by simp [leaveSlot]

@[simp] theorem countDrop_clock (p d portCode dropCode : Nat) (s : State) :
    (countDrop p d portCode dropCode s).time = s.time ∧ (countDrop p d portCode dropCode s).resetCause = s.resetCause := by simp [countDrop]

@[simp] theorem readContext_clock (p d : Nat) (errors : List (Nat × Ecc)) (s : State) :
    (readContext p d errors s).1.time = s.time ∧ (readContext p d errors s).1.resetCause = s.resetCause := by simp [readContext]

@[simp] theorem startTiming_clock (p : Nat) (owner : Option Nat) (s : State) :
    (startTiming p owner s).time = s.time ∧ (startTiming p owner s).resetCause = s.resetCause := by unfold startTiming; (repeat' split) <;> simp

@[simp] theorem openContention_clock (p : Nat) (s : State) :
    (openContention p s).time = s.time ∧ (openContention p s).resetCause = s.resetCause := by
  unfold openContention
  split
  · dsimp only
    split <;> simp
  · split <;> simp

@[simp] theorem syncWindow_clock (p : Nat) (s : State) :
    (syncWindow p s).time = s.time ∧ (syncWindow p s).resetCause = s.resetCause := by
  unfold syncWindow
  (try dsimp only)
  (repeat' split) <;> simp

@[simp] theorem activate_clock (p d : Nat) (s : State) :
    (activate p d s).time = s.time ∧ (activate p d s).resetCause = s.resetCause := by simp [activate]

@[simp] theorem settleRx_clock (p : Nat) (next : RxState) (s : State) :
    (settleRx p next s).time = s.time ∧ (settleRx p next s).resetCause = s.resetCause := by
  unfold settleRx
  (try dsimp only)
  (repeat' split) <;> simp

@[simp] theorem countRx_clock (p portCode dropCode : Nat) (s : State) :
    (countRx p portCode dropCode s).time = s.time ∧ (countRx p portCode dropCode s).resetCause = s.resetCause := by unfold countRx; (repeat' split) <;> simp

@[simp] theorem backToSearch_clock (p : Nat) (s : State) :
    (backToSearch p s).time = s.time ∧ (backToSearch p s).resetCause = s.resetCause := by simp [backToSearch]

@[simp] theorem contextLoad_clock (p d : Nat) (errors : List (Nat × Ecc)) (s : State) :
    (contextLoad p d errors s).time = s.time ∧ (contextLoad p d errors s).resetCause = s.resetCause := by unfold contextLoad; (repeat' split) <;> simp

@[simp] theorem endRecovery_clock (p : Nat) (over0 over1 : Bool) (s : State) :
    (endRecovery p over0 over1 s).time = s.time ∧ (endRecovery p over0 over1 s).resetCause = s.resetCause := by simp [endRecovery]

@[simp] theorem energyDetect_clock (p : Nat) (symbol0 symbol1 : List Int) (s0 : State) :
    (energyDetect p symbol0 symbol1 s0).time = s0.time ∧ (energyDetect p symbol0 symbol1 s0).resetCause = s0.resetCause := by simp [energyDetect]

@[simp] theorem preambleDetect_clock (p : Nat) (decisions : BitVec 16) (agcConverged : Bool) (s : State) :
    (preambleDetect p decisions agcConverged s).time = s.time ∧ (preambleDetect p decisions agcConverged s).resetCause = s.resetCause := by unfold preambleDetect; (repeat' split) <;> simp

@[simp] theorem noiseEvent_clock (p : Nat) (s : State) :
    (noiseEvent p s).time = s.time ∧ (noiseEvent p s).resetCause = s.resetCause := by simp [noiseEvent]

@[simp] theorem falseDetection_clock (p : Nat) (s : State) :
    (falseDetection p s).time = s.time ∧ (falseDetection p s).resetCause = s.resetCause := by simp [falseDetection]

@[simp] theorem syncDetect_clock (p : Nat) (w : BitVec 32) (symbols : List (List Int)) (s : State) :
    (syncDetect p w symbols s).time = s.time ∧ (syncDetect p w symbols s).resetCause = s.resetCause := by simp [syncDetect]

@[simp] theorem slotTrespass_clock (p owner field : Nat) (s : State) :
    (slotTrespass p owner field s).time = s.time ∧ (slotTrespass p owner field s).resetCause = s.resetCause := by simp [slotTrespass]

@[simp] theorem acceptHeader_clock (p : Nat) (h : RxHeader) (s : State) :
    (acceptHeader p h s).time = s.time ∧ (acceptHeader p h s).resetCause = s.resetCause := by simp [acceptHeader]

@[simp] theorem headerCheck_clock (p : Nat) (bits : BitVec 64) (s : State) :
    (headerCheck p bits s).time = s.time ∧ (headerCheck p bits s).resetCause = s.resetCause := by unfold headerCheck; (repeat' split) <;> simp

@[simp] theorem collisionAbort_clock (p : Nat) (symbols : List (List Int)) (s : State) :
    (collisionAbort p symbols s).time = s.time ∧ (collisionAbort p symbols s).resetCause = s.resetCause := by simp [collisionAbort]

@[simp] theorem recoveryPeriodEnd_clock (p : Nat) (symbol0 symbol1 : List Int) (s : State) :
    (recoveryPeriodEnd p symbol0 symbol1 s).time = s.time ∧ (recoveryPeriodEnd p symbol0 symbol1 s).resetCause = s.resetCause := by simp [recoveryPeriodEnd]

@[simp] theorem overrun_clock (p : Nat) (s : State) :
    (overrun p s).time = s.time ∧ (overrun p s).resetCause = s.resetCause := by
  unfold overrun
  (try dsimp only)
  (repeat' split) <;> simp

@[simp] theorem keepTaps_clock (p d : Nat) (m : EqFields) (s : State) :
    (keepTaps p d m s).time = s.time ∧ (keepTaps p d m s).resetCause = s.resetCause := by simp [keepTaps]

@[simp] theorem writeBack_clock (p d : Nat) (m : EqFields) (s : State) :
    (writeBack p d m s).time = s.time ∧ (writeBack p d m s).resetCause = s.resetCause := by simp [writeBack]

@[simp] theorem writeBackIf_clock (p d typ : Nat) (m : EqFields) (s : State) :
    (writeBackIf p d typ m s).time = s.time ∧ (writeBackIf p d typ m s).resetCause = s.resetCause := by simp [writeBackIf]

@[simp] theorem noteArrival_clock (p d : Nat) (arrival : Int) (s : State) :
    (noteArrival p d arrival s).time = s.time ∧ (noteArrival p d arrival s).resetCause = s.resetCause := by simp [noteArrival]

@[simp] theorem heldTiming_clock (p : Nat) (m : EqFields) (s : State) :
    (heldTiming p m s).time = s.time ∧ (heldTiming p m s).resetCause = s.resetCause := by simp [heldTiming]

@[simp] theorem rangingTrim_clock (p d : Nat) (s : State) :
    (rangingTrim p d s).time = s.time ∧ (rangingTrim p d s).resetCause = s.resetCause := by
  unfold rangingTrim
  (try dsimp only)
  (repeat' split) <;> simp

@[simp] theorem takeAck_clock (p d : Nat) (h : RxHeader) (s : State) :
    (takeAck p d h s).time = s.time ∧ (takeAck p d h s).resetCause = s.resetCause := by simp [takeAck]

@[simp] theorem heard_clock (p d : Nat) (s : State) :
    (heard p d s).time = s.time ∧ (heard p d s).resetCause = s.resetCause := by simp [heard]

@[simp] theorem goodSlot_clock (p d : Nat) (h : RxHeader) (payload : List Byte) (m : EqFields) (s : State) :
    (goodSlot p d h payload m s).time = s.time ∧ (goodSlot p d h payload m s).resetCause = s.resetCause := by simp [goodSlot]

@[simp] theorem staleBurst_clock (p d : Nat) (h : RxHeader) (s : State) :
    (staleBurst p d h s).time = s.time ∧ (staleBurst p d h s).resetCause = s.resetCause := by simp [staleBurst]

@[simp] theorem endInSlot_clock (p d : Nat) (h : RxHeader) (payload : List Byte) (m : EqFields) (s : State) :
    (endInSlot p d h payload m s).time = s.time ∧ (endInSlot p d h payload m s).resetCause = s.resetCause := by simp [endInSlot]

@[simp] theorem endInSounding_clock (p d : Nat) (h : RxHeader) (payload : List Byte) (m : EqFields) (s : State) :
    (endInSounding p d h payload m s).time = s.time ∧ (endInSounding p d h payload m s).resetCause = s.resetCause := by simp [endInSounding]

@[simp] theorem endInContention_clock (p : Nat) (h : RxHeader) (payload : List Byte) (m : EqFields) (s : State) :
    (endInContention p h payload m s).time = s.time ∧ (endInContention p h payload m s).resetCause = s.resetCause := by simp [endInContention]

@[simp] theorem burstEnd_clock (p : Nat) (levels : List Nat) (m : RxMeasure) (s : State) :
    (burstEnd p levels m s).time = s.time ∧ (burstEnd p levels m s).resetCause = s.resetCause := by
  unfold burstEnd
  (try dsimp only)
  (repeat' split) <;> simp

@[simp] theorem countEmpty_clock (p d : Nat) (s : State) :
    (countEmpty p d s).time = s.time ∧ (countEmpty p d s).resetCause = s.resetCause := by simp [countEmpty]

@[simp] theorem emptySlot_clock (p : Nat) (s : State) :
    (emptySlot p s).time = s.time ∧ (emptySlot p s).resetCause = s.resetCause := by
  unfold emptySlot
  (try dsimp only)
  (repeat' split) <;> simp

@[simp] theorem outOfSlot_clock (p : Nat) (period0 period1 : List Int) (s0 : State) :
    (outOfSlot p period0 period1 s0).time = s0.time ∧ (outOfSlot p period0 period1 s0).resetCause = s0.resetCause := by simp [outOfSlot]

@[simp] theorem eqResetDrop_clock (p d : Nat) (s : State) :
    (eqResetDrop p d s).time = s.time ∧ (eqResetDrop p d s).resetCause = s.resetCause := by simp [eqResetDrop]

@[simp] theorem keptExpiry_clock (p identity : Nat) (s : State) :
    (keptExpiry p identity s).time = s.time ∧ (keptExpiry p identity s).resetCause = s.resetCause := by simp [keptExpiry]

/-! ## Admission -/

@[simp] theorem clearDropCounters_clock (p d : Nat) (s : State) :
    (clearDropCounters p d s).time = s.time ∧ (clearDropCounters p d s).resetCause = s.resetCause := by simp [clearDropCounters]

@[simp] theorem freeCtx_clock (p d epoch : Nat) (s : State) :
    (freeCtx p d epoch s).time = s.time ∧ (freeCtx p d epoch s).resetCause = s.resetCause := by simp [freeCtx]

@[simp] theorem sameEpoch_clock (p d epoch : Nat) (s : State) :
    (sameEpoch p d epoch s).time = s.time ∧ (sameEpoch p d epoch s).resetCause = s.resetCause := by unfold sameEpoch; (repeat' split) <;> simp

@[simp] theorem freeStandby_clock (p d epoch : Nat) (s : State) :
    (freeStandby p d epoch s).time = s.time ∧ (freeStandby p d epoch s).resetCause = s.resetCause := by unfold freeStandby; (repeat' split) <;> simp

@[simp] theorem makeStandby_clock (p d : Nat) (s : State) :
    (makeStandby p d s).time = s.time ∧ (makeStandby p d s).resetCause = s.resetCause := by unfold makeStandby; (repeat' split) <;> simp

@[simp] theorem nameAdmission_clock (p d ans : Nat) (repeated : Bool) (s : State) :
    (nameAdmission p d ans repeated s).time = s.time ∧ (nameAdmission p d ans repeated s).resetCause = s.resetCause := by unfold nameAdmission; (repeat' split) <;> simp

@[simp] theorem adoptKept_clock (p d id : Nat) (s : State) :
    (adoptKept p d id s).time = s.time ∧ (adoptKept p d id s).resetCause = s.resetCause := by unfold adoptKept; (repeat' split) <;> simp

@[simp] theorem enterAdmitting_clock (p d epoch : Nat) (a : Answer) (s : State) :
    (enterAdmitting p d epoch a s).time = s.time ∧ (enterAdmitting p d epoch a s).resetCause = s.resetCause := by simp [enterAdmitting]

@[simp] theorem epochHolds_clock (p d : Nat) (s : State) :
    (epochHolds p d s).time = s.time ∧ (epochHolds p d s).resetCause = s.resetCause := by
  unfold epochHolds
  (try dsimp only)
  (repeat' split) <;> simp

theorem tryAdmit_clock (p d epoch : Nat) (a : Answer) (s t : State) (h : tryAdmit p d epoch a s = some t) :
    t.time = s.time ∧ t.resetCause = s.resetCause := by
  unfold tryAdmit at h
  dsimp only at h
  (repeat' split at h) <;> first | (cases h; simp) | cases h

@[simp] theorem decideAnswer_clock (p : Nat) (a : Answer) (s : State) :
    (decideAnswer p a s).time = s.time ∧ (decideAnswer p a s).resetCause = s.resetCause := by
  unfold decideAnswer
  dsimp only
  (repeat' split) <;> try (simp; done)
  all_goals first
  | (rename_i t h; have := tryAdmit_clock _ _ _ _ _ _ h; simpa using this)
  | exact ⟨getD_time (fun t h => (tryAdmit_clock _ _ _ _ _ _ h).1) (by simp),
      getD_cause (fun t h => (tryAdmit_clock _ _ _ _ _ _ h).2) (by simp)⟩

@[simp] theorem admission_clock (p : Nat) (s : State) :
    (admission p s).time = s.time ∧ (admission p s).resetCause = s.resetCause := by unfold admission; (repeat' split) <;> simp

@[simp] theorem rollAnswer_clock (p : Nat) (m : List Byte) (arrival rxAmpl : Int) (s : State) :
    (rollAnswer p m arrival rxAmpl s).time = s.time ∧ (rollAnswer p m arrival rxAmpl s).resetCause = s.resetCause := by simp [rollAnswer]

@[simp] theorem admitMissed_clock (p d : Nat) (s : State) :
    (admitMissed p d s).time = s.time ∧ (admitMissed p d s).resetCause = s.resetCause := by
  unfold admitMissed
  (try dsimp only)
  (repeat' split) <;> simp

@[simp] theorem announceLate_clock (p d : Nat) (s : State) :
    (announceLate p d s).time = s.time ∧ (announceLate p d s).resetCause = s.resetCause := by unfold announceLate; (repeat' split) <;> simp

@[simp] theorem admitConfirm_clock (p d : Nat) (m : List Byte) (s : State) :
    (admitConfirm p d m s).time = s.time ∧ (admitConfirm p d m s).resetCause = s.resetCause := by
  unfold admitConfirm
  (try dsimp only)
  (repeat' split) <;> simp

@[simp] theorem admitTaken_clock (p : Nat) (s : State) :
    (admitTaken p s).time = s.time ∧ (admitTaken p s).resetCause = s.resetCause := by unfold admitTaken; (repeat' split) <;> simp

@[simp] theorem rollOpened_clock (p : Nat) (s : State) :
    (rollOpened p s).time = s.time ∧ (rollOpened p s).resetCause = s.resetCause := by simp [rollOpened]

@[simp] theorem rollCloseExpiry_clock (p : Nat) (s : State) :
    (rollCloseExpiry p s).time = s.time ∧ (rollCloseExpiry p s).resetCause = s.resetCause := by simp [rollCloseExpiry]

@[simp] theorem rollHoldEnd_clock (p : Nat) (s : State) :
    (rollHoldEnd p s).time = s.time ∧ (rollHoldEnd p s).resetCause = s.resetCause := by simp [rollHoldEnd]

@[simp] theorem keepaliveAck_clock (p d : Nat) (s : State) :
    (keepaliveAck p d s).time = s.time ∧ (keepaliveAck p d s).resetCause = s.resetCause := by simp [keepaliveAck]

/-! ## Twin -/

@[simp] theorem releaseNow_clock (p d reason : Nat) (s : State) :
    (releaseNow p d reason s).time = s.time ∧ (releaseNow p d reason s).resetCause = s.resetCause := by simp [releaseNow]

@[simp] theorem beginRelease_clock (p d reason : Nat) (s : State) :
    (beginRelease p d reason s).time = s.time ∧ (beginRelease p d reason s).resetCause = s.resetCause := by
  unfold beginRelease
  (try dsimp only)
  (repeat' split) <;> simp

@[simp] theorem releaseDrop_clock (p d : Nat) (s : State) :
    (releaseDrop p d s).time = s.time ∧ (releaseDrop p d s).resetCause = s.resetCause := by simp [releaseDrop]

@[simp] theorem releaseFromCycle_clock (p d : Nat) (s : State) :
    (releaseFromCycle p d s).time = s.time ∧ (releaseFromCycle p d s).resetCause = s.resetCause := by unfold releaseFromCycle; (repeat' split) <;> simp

@[simp] theorem sleepDrop_clock (p d : Nat) (s : State) :
    (sleepDrop p d s).time = s.time ∧ (sleepDrop p d s).resetCause = s.resetCause := by
  unfold sleepDrop
  (try dsimp only)
  (repeat' split) <;> simp

@[simp] theorem deepSleepFromCycle_clock (p d : Nat) (s : State) :
    (deepSleepFromCycle p d s).time = s.time ∧ (deepSleepFromCycle p d s).resetCause = s.resetCause := by unfold deepSleepFromCycle; (repeat' split) <;> simp

@[simp] theorem setWakeBit_clock (p d : Nat) (s : State) :
    (setWakeBit p d s).time = s.time ∧ (setWakeBit p d s).resetCause = s.resetCause := by simp [setWakeBit]

@[simp] theorem wakeDrop_clock (p d : Nat) (s : State) :
    (wakeDrop p d s).time = s.time ∧ (wakeDrop p d s).resetCause = s.resetCause := by simp [wakeDrop]

@[simp] theorem tellWaking_clock (p d : Nat) (m : SlotMap) (apply from_ : Nat) (s : State) :
    (tellWaking p d m apply from_ s).time = s.time ∧ (tellWaking p d m apply from_ s).resetCause = s.resetCause := by
  unfold tellWaking
  (try dsimp only)
  (repeat' split) <;> simp

@[simp] theorem wakeSlotMapStart_clock (p d : Nat) (s : State) :
    (wakeSlotMapStart p d s).time = s.time ∧ (wakeSlotMapStart p d s).resetCause = s.resetCause := by
  unfold wakeSlotMapStart
  (try dsimp only)
  (repeat' split) <;> simp

@[simp] theorem wakeMiss_clock (p d : Nat) (s : State) :
    (wakeMiss p d s).time = s.time ∧ (wakeMiss p d s).resetCause = s.resetCause := by
  unfold wakeMiss
  (try dsimp only)
  (repeat' split) <;> simp

@[simp] theorem wakeApplies_clock (p d : Nat) (s : State) :
    (wakeApplies p d s).time = s.time ∧ (wakeApplies p d s).resetCause = s.resetCause := by simp [wakeApplies]

@[simp] theorem abandonAdmissions_clock (p : Nat) (s : State) :
    (abandonAdmissions p s).time = s.time ∧ (abandonAdmissions p s).resetCause = s.resetCause := by simp [abandonAdmissions]

@[simp] theorem sendTwinMove_clock (q p d apply : Nat) (m : SlotMap) (s : State) :
    (sendTwinMove q p d apply m s).time = s.time ∧ (sendTwinMove q p d apply m s).resetCause = s.resetCause := by unfold sendTwinMove; (repeat' split) <;> simp

@[simp] theorem startMove_clock (p q reason apply : Nat) (m : SlotMap) (drops : List Nat) (s : State) :
    (startMove p q reason apply m drops s).time = s.time ∧ (startMove p q reason apply m drops s).resetCause = s.resetCause := by simp [startMove]

@[simp] theorem cancelMove_clock (q : Nat) (s : State) :
    (cancelMove q s).time = s.time ∧ (cancelMove q s).resetCause = s.resetCause := by unfold cancelMove; (repeat' split) <;> simp

@[simp] theorem failover_clock (p reason : Nat) (only : Option Nat) (s : State) :
    (failover p reason only s).time = s.time ∧ (failover p reason only s).resetCause = s.resetCause := by
  unfold failover
  (try dsimp only)
  (repeat' split) <;> simp

@[simp] theorem survivorLost_clock (q : Nat) (s : State) :
    (survivorLost q s).time = s.time ∧ (survivorLost q s).resetCause = s.resetCause := by unfold survivorLost; (repeat' split) <;> simp

@[simp] theorem twinLossExpiry_clock (p : Nat) (s : State) :
    (twinLossExpiry p s).time = s.time ∧ (twinLossExpiry p s).resetCause = s.resetCause := by simp [twinLossExpiry]

@[simp] theorem dropMoveExpiry_clock (p d : Nat) (s : State) :
    (dropMoveExpiry p d s).time = s.time ∧ (dropMoveExpiry p d s).resetCause = s.resetCause := by simp [dropMoveExpiry]

@[simp] theorem dropLost_clock (p d : Nat) (s : State) :
    (dropLost p d s).time = s.time ∧ (dropLost p d s).resetCause = s.resetCause := by simp [dropLost]

@[simp] theorem moveDrop_clock (p q reason d : Nat) (s : State) :
    (moveDrop p q reason d s).time = s.time ∧ (moveDrop p q reason d s).resetCause = s.resetCause := by simp [moveDrop]

@[simp] theorem settleTwinState_clock (p q reason : Nat) (s : State) :
    (settleTwinState p q reason s).time = s.time ∧ (settleTwinState p q reason s).resetCause = s.resetCause := by simp [settleTwinState]

@[simp] theorem takeMap_clock (p : Nat) (m : SlotMap) (s : State) :
    (takeMap p m s).time = s.time ∧ (takeMap p m s).resetCause = s.resetCause := by simp [takeMap]

@[simp] theorem twinReturnDrops_clock (p : Nat) (s : State) :
    (twinReturnDrops p s).time = s.time ∧ (twinReturnDrops p s).resetCause = s.resetCause := by
  unfold twinReturnDrops
  (try dsimp only)
  (repeat' split) <;> simp

@[simp] theorem takeChange_clock (p d : Nat) (c : Change) (s : State) :
    (takeChange p d c s).time = s.time ∧ (takeChange p d c s).resetCause = s.resetCause := by unfold takeChange; (repeat' split) <;> simp

@[simp] theorem takeWaiting_clock (p : Nat) (s : State) :
    (takeWaiting p s).time = s.time ∧ (takeWaiting p s).resetCause = s.resetCause := by
  unfold takeWaiting
  (try dsimp only)
  (repeat' split) <;> (refine ⟨?_, ?_⟩) <;> first
  | (simp; done)
  | (rw [forAll_time _ _ (by intro x t; (repeat' split) <;> simp)]; (repeat' split) <;> simp)
  | (rw [forAll_cause _ _ (by intro x t; (repeat' split) <;> simp)]; (repeat' split) <;> simp)

@[simp] theorem twinMoveApply_clock (q : Nat) (s : State) :
    (twinMoveApply q s).time = s.time ∧ (twinMoveApply q s).resetCause = s.resetCause := by unfold twinMoveApply; (repeat' split) <;> simp

@[simp] theorem standbyCheck_clock (q d : Nat) (s : State) :
    (standbyCheck q d s).time = s.time ∧ (standbyCheck q d s).resetCause = s.resetCause := by
  unfold standbyCheck
  (try dsimp only)
  (repeat' split) <;> simp

@[simp] theorem raiseEpochs_clock (p : Nat) (s : State) :
    (raiseEpochs p s).time = s.time ∧ (raiseEpochs p s).resetCause = s.resetCause := by simp [raiseEpochs]

@[simp] theorem endPair_clock (p q : Nat) (s : State) :
    (endPair p q s).time = s.time ∧ (endPair p q s).resetCause = s.resetCause := by simp [endPair]

@[simp] theorem pairEpoch_clock (p q d : Nat) (s : State) :
    (pairEpoch p q d s).time = s.time ∧ (pairEpoch p q d s).resetCause = s.resetCause := by simp [pairEpoch]

@[simp] theorem formPair_clock (p q : Nat) (s : State) :
    (formPair p q s).time = s.time ∧ (formPair p q s).resetCause = s.resetCause := by simp [formPair]

@[simp] theorem endTwins_clock (p q : Nat) (s : State) :
    (endTwins p q s).time = s.time ∧ (endTwins p q s).resetCause = s.resetCause := by simp [endTwins]

@[simp] theorem withTwinChange_time (p : Nat) (change : State → State) (h : ∀ t, (change t).time = t.time) (s : State) :
    (withTwinChange p change s).time = s.time := by
  unfold withTwinChange; dsimp only; (repeat' split) <;> simp [h]

@[simp] theorem withTwinChange_cause (p : Nat) (change : State → State) (h : ∀ t, (change t).resetCause = t.resetCause) (s : State) :
    (withTwinChange p change s).resetCause = s.resetCause := by
  unfold withTwinChange; dsimp only; (repeat' split) <;> simp [h]

@[simp] theorem withTwinChanges_time (change : State → State) (h : ∀ t, (change t).time = t.time) (s : State) :
    (withTwinChanges change s).time = s.time := by simp [withTwinChanges, h]

@[simp] theorem withTwinChanges_cause (change : State → State) (h : ∀ t, (change t).resetCause = t.resetCause) (s : State) :
    (withTwinChanges change s).resetCause = s.resetCause := by simp [withTwinChanges, h]

@[simp] theorem slotMapApply_clock (p : Nat) (s : State) :
    (slotMapApply p s).time = s.time ∧ (slotMapApply p s).resetCause = s.resetCause := by
  unfold slotMapApply
  dsimp only
  split
  all_goals
    refine ⟨?_, ?_⟩
    · simp only [ite_time, takeWaiting_clock, ite_self]
      rw [forAll_time _ _ (by intro d t; (repeat' split) <;> simp)]
      (try (repeat' split) <;> simp)
    · simp only [ite_cause, takeWaiting_clock, ite_self]
      rw [forAll_cause _ _ (by intro d t; (repeat' split) <;> simp)]
      (try (repeat' split) <;> simp)

/-! ## Trunk -/

@[simp] theorem putTrain_clock (p stop : Nat) (frames : List Burst) (s : State) :
    (putTrain p stop frames s).time = s.time ∧ (putTrain p stop frames s).resetCause = s.resetCause := by simp [putTrain]

@[simp] theorem sendTraining_clock (p stop start : Nat) (message : List Byte) (s : State) :
    (sendTraining p stop start message s).time = s.time ∧ (sendTraining p stop start message s).resetCause = s.resetCause := by simp [sendTraining]

@[simp] theorem appendFrame_clock (p mode : Nat) (payload : List Byte) (s : State) :
    (appendFrame p mode payload s).time = s.time ∧ (appendFrame p mode payload s).resetCause = s.resetCause := by
  unfold appendFrame
  (try dsimp only)
  (repeat' split) <;> simp

@[simp] theorem sendDataTrain_clock (p : Nat) (s : State) :
    (sendDataTrain p s).time = s.time ∧ (sendDataTrain p s).resetCause = s.resetCause := by simp [sendDataTrain]

@[simp] theorem trunkIdle_clock (p : Nat) (s : State) :
    (trunkIdle p s).time = s.time ∧ (trunkIdle p s).resetCause = s.resetCause := by simp [trunkIdle]

@[simp] theorem trainFail_clock (p : Nat) (s : State) :
    (trainFail p s).time = s.time ∧ (trainFail p s).resetCause = s.resetCause := by simp [trainFail]

@[simp] theorem attemptEnds_clock (p : Nat) (s : State) :
    (attemptEnds p s).time = s.time ∧ (attemptEnds p s).resetCause = s.resetCause := by simp [attemptEnds]

@[simp] theorem moveTraffic_clock (src dst reason : Nat) (s : State) :
    (moveTraffic src dst reason s).time = s.time ∧ (moveTraffic src dst reason s).resetCause = s.resetCause := by simp [moveTraffic]

@[simp] theorem lossMove_clock (p reason : Nat) (s : State) :
    (lossMove p reason s).time = s.time ∧ (lossMove p reason s).resetCause = s.resetCause := by unfold lossMove; (repeat' split) <;> simp

@[simp] theorem voidChange_clock (p : Nat) (s : State) :
    (voidChange p s).time = s.time ∧ (voidChange p s).resetCause = s.resetCause := by unfold voidChange; (repeat' split) <;> simp

@[simp] theorem headPhaseE_clock (p : Nat) (s : State) :
    (headPhaseE p s).time = s.time ∧ (headPhaseE p s).resetCause = s.resetCause := by simp [headPhaseE]

@[simp] theorem partnerPhaseE_clock (p : Nat) (s : State) :
    (partnerPhaseE p s).time = s.time ∧ (partnerPhaseE p s).resetCause = s.resetCause := by
  unfold partnerPhaseE
  (try dsimp only)
  (repeat' split) <;> simp

@[simp] theorem phaseQCycle_clock (p q : Nat) (s : State) :
    (phaseQCycle p q s).time = s.time ∧ (phaseQCycle p q s).resetCause = s.resetCause := by unfold phaseQCycle; (repeat' split) <;> simp

@[simp] theorem enterData_clock (p : Nat) (s : State) :
    (enterData p s).time = s.time ∧ (enterData p s).resetCause = s.resetCause := by simp [enterData]

@[simp] theorem countLow_clock (p : Nat) (s : State) :
    (countLow p s).time = s.time ∧ (countLow p s).resetCause = s.resetCause := by simp [countLow]

@[simp] theorem unmarked_clock (p : Nat) (fs : List TrunkFrame) (s : State) :
    (unmarked p fs s).time = s.time ∧ (unmarked p fs s).resetCause = s.resetCause := by simp [unmarked]

@[simp] theorem retrainDown_clock (p : Nat) (s : State) :
    (retrainDown p s).time = s.time ∧ (retrainDown p s).resetCause = s.resetCause := by simp [retrainDown]

@[simp] theorem headNumbering_clock (p : Nat) (s : State) :
    (headNumbering p s).time = s.time ∧ (headNumbering p s).resetCause = s.resetCause := by unfold headNumbering; (repeat' split) <;> simp

@[simp] theorem sendDown_clock (p r : Nat) (s : State) :
    (sendDown p r s).time = s.time ∧ (sendDown p r s).resetCause = s.resetCause := by simp [sendDown]

@[simp] theorem dataCycle_clock (p : Nat) (s : State) :
    (dataCycle p s).time = s.time ∧ (dataCycle p s).resetCause = s.resetCause := by simp [dataCycle]

@[simp] theorem trunkCycle_clock (p : Nat) (s : State) :
    (trunkCycle p s).time = s.time ∧ (trunkCycle p s).resetCause = s.resetCause := by
  unfold trunkCycle
  (try dsimp only)
  (repeat' split) <;> simp

@[simp] theorem openTraining_clock (p : Nat) (s : State) :
    (openTraining p s).time = s.time ∧ (openTraining p s).resetCause = s.resetCause := by simp [openTraining]

@[simp] theorem trainingStart_clock (p : Nat) (s : State) :
    (trainingStart p s).time = s.time ∧ (trainingStart p s).resetCause = s.resetCause := by simp [trainingStart]

@[simp] theorem retrainPort_clock (p : Nat) (s : State) :
    (retrainPort p s).time = s.time ∧ (retrainPort p s).resetCause = s.resetCause := by simp [retrainPort]

@[simp] theorem headTrain_clock (p : Nat) (m : TrainMsg) (arrival : Int) (snr : Nat) (s : State) :
    (headTrain p m arrival snr s).time = s.time ∧ (headTrain p m arrival snr s).resetCause = s.resetCause := by simp [headTrain]

@[simp] theorem ownTrain_clock (p : Nat) (own : List (List Int × Int)) (s : State) :
    (ownTrain p own s).time = s.time ∧ (ownTrain p own s).resetCause = s.resetCause := by simp [ownTrain]

@[simp] theorem phaseETimeout_clock (p : Nat) (s : State) :
    (phaseETimeout p s).time = s.time ∧ (phaseETimeout p s).resetCause = s.resetCause := by simp [phaseETimeout]

@[simp] theorem trunkTrainEnd_clock (p count : Nat) (s : State) :
    (trunkTrainEnd p count s).time = s.time ∧ (trunkTrainEnd p count s).resetCause = s.resetCause := by simp [trunkTrainEnd]

@[simp] theorem trunkAck_clock (p : Nat) (m : List Byte) (s : State) :
    (trunkAck p m s).time = s.time ∧ (trunkAck p m s).resetCause = s.resetCause := by simp [trunkAck]

@[simp] theorem trunkMode_clock (p : Nat) (m : List Byte) (s : State) :
    (trunkMode p m s).time = s.time ∧ (trunkMode p m s).resetCause = s.resetCause := by unfold trunkMode; (repeat' split) <;> simp

@[simp] theorem trunkModeApply_clock (p : Nat) (s : State) :
    (trunkModeApply p s).time = s.time ∧ (trunkModeApply p s).resetCause = s.resetCause := by unfold trunkModeApply; (repeat' split) <;> simp

@[simp] theorem trunkLevelDown_clock (p : Nat) (s : State) :
    (trunkLevelDown p s).time = s.time ∧ (trunkLevelDown p s).resetCause = s.resetCause := by simp [trunkLevelDown]

@[simp] theorem trunkPreamble_clock (p : Nat) (decisions : BitVec 16) (s : State) :
    (trunkPreamble p decisions s).time = s.time ∧ (trunkPreamble p decisions s).resetCause = s.resetCause := by simp [trunkPreamble]

@[simp] theorem trunkSync_clock (p : Nat) (w : BitVec 32) (s : State) :
    (trunkSync p w s).time = s.time ∧ (trunkSync p w s).resetCause = s.resetCause := by simp [trunkSync]

@[simp] theorem trunkHeader_clock (p : Nat) (bits : BitVec 64) (s : State) :
    (trunkHeader p bits s).time = s.time ∧ (trunkHeader p bits s).resetCause = s.resetCause := by simp [trunkHeader]

@[simp] theorem trunkFrame_clock (p : Nat) (h : RxHeader) (payload : List Byte) (m : EqFields) (s : State) :
    (trunkFrame p h payload m s).time = s.time ∧ (trunkFrame p h payload m s).resetCause = s.resetCause := by simp [trunkFrame]

@[simp] theorem trunkFrameEnd_clock (p : Nat) (levels : List Nat) (m : RxMeasure) (s : State) :
    (trunkFrameEnd p levels m s).time = s.time ∧ (trunkFrameEnd p levels m s).resetCause = s.resetCause := by unfold trunkFrameEnd; (repeat' split) <;> simp

@[simp] theorem trunkLoad_clock (p : Nat) (errors : List (Nat × Ecc)) (s : State) :
    (trunkLoad p errors s).time = s.time ∧ (trunkLoad p errors s).resetCause = s.resetCause := by unfold trunkLoad; (repeat' split) <;> simp

@[simp] theorem trunkMoveApply_clock (q : Nat) (v : Move) (s : State) :
    (trunkMoveApply q v s).time = s.time ∧ (trunkMoveApply q v s).resetCause = s.resetCause := by simp [trunkMoveApply]

@[simp] theorem trunkReturn_clock (p : Nat) (s : State) :
    (trunkReturn p s).time = s.time ∧ (trunkReturn p s).resetCause = s.resetCause := by unfold trunkReturn; (repeat' split) <;> simp

@[simp] theorem moveApply_clock (q : Nat) (s : State) :
    (moveApply q s).time = s.time ∧ (moveApply q s).resetCause = s.resetCause := by unfold moveApply; (repeat' split) <;> simp

/-! ## Lane -/

@[simp] theorem sendBlocks_clock (l : Link) (behind : Bool) (bs : List (BlockKind × BitVec 64)) (s : State) :
    (sendBlocks l behind bs s).time = s.time ∧ (sendBlocks l behind bs s).resetCause = s.resetCause := by simp [sendBlocks]

@[simp] theorem prbsStart_clock (code : Nat) (s : State) :
    (prbsStart code s).2.time = s.time ∧ (prbsStart code s).2.resetCause = s.resetCause := by simp [prbsStart]

@[simp] theorem prbsTransmit_clock (l : Link) (s : State) :
    (prbsTransmit l s).time = s.time ∧ (prbsTransmit l s).resetCause = s.resetCause := by simp [prbsTransmit]

/-! ## OxlLink -/

@[simp] theorem flowCheck_clock (p : Nat) (s : State) :
    (flowCheck p s).time = s.time ∧ (flowCheck p s).resetCause = s.resetCause := by simp [flowCheck]

@[simp] theorem silence_clock (l : Link) (s : State) :
    (silence l s).time = s.time ∧ (silence l s).resetCause = s.resetCause := by simp [silence]

@[simp] theorem joinQueues_clock (lost other : Link) (s : State) :
    (joinQueues lost other s).time = s.time ∧ (joinQueues lost other s).resetCause = s.resetCause := by simp [joinQueues]

@[simp] theorem reassign_clock (lost : Link) (s : State) :
    (reassign lost s).time = s.time ∧ (reassign lost s).resetCause = s.resetCause := by unfold reassign; (repeat' split) <;> simp

@[simp] theorem moveLink_clock (lost : Link) (s : State) :
    (moveLink lost s).time = s.time ∧ (moveLink lost s).resetCause = s.resetCause := by simp [moveLink]

@[simp] theorem refreshLink_clock (l : Link) (stateBefore : Nat) (s : State) :
    (refreshLink l stateBefore s).time = s.time ∧ (refreshLink l stateBefore s).resetCause = s.resetCause := by simp [refreshLink]

@[simp] theorem takeRxSettings_clock (l : Link) (s : State) :
    (takeRxSettings l s).time = s.time ∧ (takeRxSettings l s).resetCause = s.resetCause := by simp [takeRxSettings]

@[simp] theorem rxRestart_clock (l : Link) (s : State) :
    (rxRestart l s).time = s.time ∧ (rxRestart l s).resetCause = s.resetCause := by simp [rxRestart]

@[simp] theorem rxLost_clock (l : Link) (s : State) :
    (rxLost l s).time = s.time ∧ (rxLost l s).resetCause = s.resetCause := by simp [rxLost]

@[simp] theorem linkClock_clock (l : Link) (ppm : Int) (s : State) :
    (linkClock l ppm s).time = s.time ∧ (linkClock l ppm s).resetCause = s.resetCause := by simp [linkClock]

@[simp] theorem linkAdapt_clock (l : Link) (e0 e1 : Nat) (s : State) :
    (linkAdapt l e0 e1 s).time = s.time ∧ (linkAdapt l e0 e1 s).resetCause = s.resetCause := by simp [linkAdapt]

@[simp] theorem linkLock_clock (l : Link) (s : State) :
    (linkLock l s).time = s.time ∧ (linkLock l s).resetCause = s.resetCause := by simp [linkLock]

@[simp] theorem wiringMismatch_clock (l : Link) (farUp : Bool) (farId : Nat) (s : State) :
    (wiringMismatch l farUp farId s).time = s.time ∧ (wiringMismatch l farUp farId s).resetCause = s.resetCause := by simp [wiringMismatch]

@[simp] theorem linkDeskew_clock (l : Link) (b0 b1 : BitVec 64) (s : State) :
    (linkDeskew l b0 b1 s).time = s.time ∧ (linkDeskew l b0 b1 s).resetCause = s.resetCause := by unfold linkDeskew; (repeat' split) <;> simp

@[simp] theorem linkUp_clock (l : Link) (s : State) :
    (linkUp l s).time = s.time ∧ (linkUp l s).resetCause = s.resetCause := by simp [linkUp]

@[simp] theorem linkTimeout_clock (l : Link) (s : State) :
    (linkTimeout l s).time = s.time ∧ (linkTimeout l s).resetCause = s.resetCause := by simp [linkTimeout]

@[simp] theorem linkLoss_clock (l : Link) (cause : LossCause) (s : State) :
    (linkLoss l cause s).time = s.time ∧ (linkLoss l cause s).resetCause = s.resetCause := by unfold linkLoss; (repeat' split) <;> simp

@[simp] theorem oxlRetrain_clock (l : Link) (s : State) :
    (oxlRetrain l s).time = s.time ∧ (oxlRetrain l s).resetCause = s.resetCause := by simp [oxlRetrain]

@[simp] theorem alignIn_clock (l : Link) (b0 b1 : BitVec 64) (s : State) :
    (alignIn l b0 b1 s).time = s.time ∧ (alignIn l b0 b1 s).resetCause = s.resetCause := by unfold alignIn; (repeat' split) <;> simp

@[simp] theorem linkEnable_clock (l : Link) (s : State) :
    (linkEnable l s).time = s.time ∧ (linkEnable l s).resetCause = s.resetCause := by simp [linkEnable]

@[simp] theorem recheckLink_clock (l : Link) (s : State) :
    (recheckLink l s).time = s.time ∧ (recheckLink l s).resetCause = s.resetCause := by simp [recheckLink]

@[simp] theorem frameTransmit_clock (l : Link) (s : State) :
    (frameTransmit l s).time = s.time ∧ (frameTransmit l s).resetCause = s.resetCause := by
  unfold frameTransmit
  (try dsimp only)
  (repeat' split) <;> simp

@[simp] theorem sendAlign_clock (l : Link) (before : List (BlockKind × BitVec 64)) (s : State) :
    (sendAlign l before s).time = s.time ∧ (sendAlign l before s).resetCause = s.resetCause := by simp [sendAlign]

@[simp] theorem sendFlow_clock (l : Link) (s : State) :
    (sendFlow l s).time = s.time ∧ (sendFlow l s).resetCause = s.resetCause := by simp [sendFlow]

@[simp] theorem alignTransmit_clock (l : Link) (s : State) :
    (alignTransmit l s).time = s.time ∧ (alignTransmit l s).resetCause = s.resetCause := by simp [alignTransmit]

@[simp] theorem flowIn_clock (l : Link) (b : BitVec 64) (s : State) :
    (flowIn l b s).time = s.time ∧ (flowIn l b s).resetCause = s.resetCause := by simp [flowIn]

@[simp] theorem enterQuiet_clock (l : Link) (behind : Bool) (s : State) :
    (enterQuiet l behind s).time = s.time ∧ (enterQuiet l behind s).resetCause = s.resetCause := by simp [enterQuiet]

@[simp] theorem leaveQuiet_clock (l : Link) (s : State) :
    (leaveQuiet l s).time = s.time ∧ (leaveQuiet l s).resetCause = s.resetCause := by simp [leaveQuiet]

@[simp] theorem quietEntry_clock (l : Link) (s : State) :
    (quietEntry l s).time = s.time ∧ (quietEntry l s).resetCause = s.resetCause := by simp [quietEntry]

@[simp] theorem quietRxEntry_clock (l : Link) (s : State) :
    (quietRxEntry l s).time = s.time ∧ (quietRxEntry l s).resetCause = s.resetCause := by simp [quietRxEntry]

@[simp] theorem quietExit_clock (l : Link) (s : State) :
    (quietExit l s).time = s.time ∧ (quietExit l s).resetCause = s.resetCause := by simp [quietExit]

@[simp] theorem quietPeriodicExit_clock (l : Link) (s : State) :
    (quietPeriodicExit l s).time = s.time ∧ (quietPeriodicExit l s).resetCause = s.resetCause := by simp [quietPeriodicExit]

@[simp] theorem quietActivityTimeout_clock (l : Link) (s : State) :
    (quietActivityTimeout l s).time = s.time ∧ (quietActivityTimeout l s).resetCause = s.resetCause := by simp [quietActivityTimeout]

@[simp] theorem quietRxExit_clock (l : Link) (s : State) :
    (quietRxExit l s).time = s.time ∧ (quietRxExit l s).resetCause = s.resetCause := by simp [quietRxExit]

@[simp] theorem quietAlignTimeout_clock (l : Link) (s : State) :
    (quietAlignTimeout l s).time = s.time ∧ (quietAlignTimeout l s).resetCause = s.resetCause := by simp [quietAlignTimeout]

@[simp] theorem linkTrafficMove_clock (l : Link) (hostCut : Bool) (s : State) :
    (linkTrafficMove l hostCut s).time = s.time ∧ (linkTrafficMove l hostCut s).resetCause = s.resetCause := by simp [linkTrafficMove]

@[simp] theorem restartIdle_clock (l : Link) (waited : Bool) (s : State) :
    (restartIdle l waited s).time = s.time ∧ (restartIdle l waited s).resetCause = s.resetCause := by simp [restartIdle]

@[simp] theorem carryStop_clock (src dst : Link) (s : State) :
    (carryStop src dst s).time = s.time ∧ (carryStop src dst s).resetCause = s.resetCause := by simp [carryStop]

@[simp] theorem takeBack_clock (l : Link) (mine : OutFrame → Bool) (s : State) :
    (takeBack l mine s).time = s.time ∧ (takeBack l mine s).resetCause = s.resetCause := by simp [takeBack]

@[simp] theorem returnHoldExpiry_clock (l : Link) (s : State) :
    (returnHoldExpiry l s).time = s.time ∧ (returnHoldExpiry l s).resetCause = s.resetCause := by simp [returnHoldExpiry]

@[simp] theorem redistribute_clock (before s : State) :
    (redistribute before s).time = s.time ∧ (redistribute before s).resetCause = s.resetCause := by simp [redistribute]

@[simp] theorem linkModeWritten_clock (before s : State) :
    (linkModeWritten before s).time = s.time ∧ (linkModeWritten before s).resetCause = s.resetCause := by simp [linkModeWritten]

@[simp] theorem preferredWritten_clock (before s : State) :
    (preferredWritten before s).time = s.time ∧ (preferredWritten before s).resetCause = s.resetCause := by simp [preferredWritten]

@[simp] theorem forceSwitch_clock (s : State) :
    (forceSwitch s).time = s.time ∧ (forceSwitch s).resetCause = s.resetCause := by simp [forceSwitch]

@[simp] theorem addPrbs_clock (code n : Nat) (s : State) :
    (addPrbs code n s).time = s.time ∧ (addPrbs code n s).resetCause = s.resetCause := by simp [addPrbs]

@[simp] theorem prbsIn_clock (l : Link) (lane : Nat) (bits : List Bool) (s : State) :
    (prbsIn l lane bits s).time = s.time ∧ (prbsIn l lane bits s).resetCause = s.resetCause := by simp [prbsIn]

@[simp] theorem prbsGenWritten_clock (l : Link) (lane : Nat) (s : State) :
    (prbsGenWritten l lane s).time = s.time ∧ (prbsGenWritten l lane s).resetCause = s.resetCause := by
  unfold prbsGenWritten
  (try dsimp only)
  (repeat' split) <;> simp

@[simp] theorem prbsCheckWritten_clock (l : Link) (lane : Nat) (s : State) :
    (prbsCheckWritten l lane s).time = s.time ∧ (prbsCheckWritten l lane s).resetCause = s.resetCause := by simp [prbsCheckWritten]

@[simp] theorem prbsClearWritten_clock (l : Link) (lane : Nat) (s : State) :
    (prbsClearWritten l lane s).time = s.time ∧ (prbsClearWritten l lane s).resetCause = s.resetCause := by simp [prbsClearWritten]

/-! ## Power -/

@[simp] theorem State.modPower_clock (s : State) (f : PowerSt → PowerSt) :
    (State.modPower s f).time = s.time ∧ (State.modPower s f).resetCause = s.resetCause := by simp [State.modPower]

@[simp] theorem latchHead_clock (s : State) :
    (latchHead s).time = s.time ∧ (latchHead s).resetCause = s.resetCause := by simp [latchHead]

@[simp] theorem queuePm_clock (r : PmReq) (s : State) :
    (queuePm r s).time = s.time ∧ (queuePm r s).resetCause = s.resetCause := by simp [queuePm]

@[simp] theorem dropRequests_clock (p : PmReq → Bool) (s : State) :
    (dropRequests p s).time = s.time ∧ (dropRequests p s).resetCause = s.resetCause := by simp [dropRequests]

@[simp] theorem pmOn_clock (rail prio : Nat) (wakeOf : Option Nat) (s : State) :
    (pmOn rail prio wakeOf s).time = s.time ∧ (pmOn rail prio wakeOf s).resetCause = s.resetCause := by simp [pmOn]

@[simp] theorem pmOff_clock (rail prio : Nat) (s : State) :
    (pmOff rail prio s).time = s.time ∧ (pmOff rail prio s).resetCause = s.resetCause := by simp [pmOff]

@[simp] theorem pmVcore_clock (mV : Nat) (s : State) :
    (pmVcore mV s).time = s.time ∧ (pmVcore mV s).resetCause = s.resetCause := by simp [pmVcore]

@[simp] theorem pmOffIfOn_clock (rail prio : Nat) (s : State) :
    (pmOffIfOn rail prio s).time = s.time ∧ (pmOffIfOn rail prio s).resetCause = s.resetCause := by simp [pmOffIfOn]

@[simp] theorem stopPort_clock (p : Nat) (s : State) :
    (stopPort p s).time = s.time ∧ (stopPort p s).resetCause = s.resetCause := by simp [stopPort]

@[simp] theorem stopCluster_clock (k : Nat) (s : State) :
    (stopCluster k s).time = s.time ∧ (stopCluster k s).resetCause = s.resetCause := by simp [stopCluster]

@[simp] theorem caskWrite_clock (i : Nat) (b : Byte) (s : State) :
    (caskWrite i b s).time = s.time ∧ (caskWrite i b s).resetCause = s.resetCause := by simp [caskWrite]

@[simp] theorem caskWriteAll_clock (i : Nat) (bs : List Byte) (s : State) :
    (caskWriteAll i bs s).time = s.time ∧ (caskWriteAll i bs s).resetCause = s.resetCause := by
  induction bs generalizing i s with
  | nil => simp [caskWriteAll]
  | cons b rest ih => simp [caskWriteAll, ih]

@[simp] theorem caskRead_clock (i : Nat) (s : State) :
    (caskRead i s).2.time = s.time ∧ (caskRead i s).2.resetCause = s.resetCause := by
  unfold caskRead
  (try dsimp only)
  (repeat' split) <;> simp

@[simp] theorem caskReadAll_clock (n i : Nat) (s : State) :
    (caskReadAll n i s).2.time = s.time ∧ (caskReadAll n i s).2.resetCause = s.resetCause := by
  induction n generalizing i s with
  | zero => simp [caskReadAll]
  | succ n ih => simp [caskReadAll, ih]

@[simp] theorem setLedger_clock (k : Nat) (ls : List Ledger) (s : State) :
    (setLedger k ls s).time = s.time ∧ (setLedger k ls s).resetCause = s.resetCause := by simp [setLedger]

@[simp] theorem openLedger_clock (k : Nat) (s : State) :
    (openLedger k s).time = s.time ∧ (openLedger k s).resetCause = s.resetCause := by simp [openLedger]

@[simp] theorem modLedger_clock (k : Nat) (f : Ledger → Ledger) (s : State) :
    (modLedger k f s).time = s.time ∧ (modLedger k f s).resetCause = s.resetCause := by unfold modLedger; (repeat' split) <;> simp

@[simp] theorem leaveSteep_clock (p : Nat) (s : State) :
    (leaveSteep p s).time = s.time ∧ (leaveSteep p s).resetCause = s.resetCause := by simp [leaveSteep]

@[simp] theorem portSteep_clock (p : Nat) (s : State) :
    (portSteep p s).time = s.time ∧ (portSteep p s).resetCause = s.resetCause := by unfold portSteep; (repeat' split) <;> simp

@[simp] theorem portUnsteep_clock (p : Nat) (s : State) :
    (portUnsteep p s).time = s.time ∧ (portUnsteep p s).resetCause = s.resetCause := by simp [portUnsteep]

@[simp] theorem clusterSteep_clock (k : Nat) (s : State) :
    (clusterSteep k s).time = s.time ∧ (clusterSteep k s).resetCause = s.resetCause := by simp [clusterSteep]

@[simp] theorem clusterUnsteep_clock (k : Nat) (s : State) :
    (clusterUnsteep k s).time = s.time ∧ (clusterUnsteep k s).resetCause = s.resetCause := by simp [clusterUnsteep]

@[simp] theorem startWake_clock (k : Nat) (intended : Option Nat) (s : State) :
    (startWake k intended s).time = s.time ∧ (startWake k intended s).resetCause = s.resetCause := by simp [startWake]

@[simp] theorem settleOff_clock (k : Nat) (s : State) :
    (settleOff k s).time = s.time ∧ (settleOff k s).resetCause = s.resetCause := by simp [settleOff]

@[simp] theorem putDown_clock (k step rail : Nat) (s : State) :
    (putDown k step rail s).time = s.time ∧ (putDown k step rail s).resetCause = s.resetCause := by simp [putDown]

@[simp] theorem railFailed_clock (rail cmd cause : Nat) (s : State) :
    (railFailed rail cmd cause s).time = s.time ∧ (railFailed rail cmd cause s).resetCause = s.resetCause := by simp [railFailed]

@[simp] theorem wakeCheckFailed_clock (k : Nat) (s : State) :
    (wakeCheckFailed k s).time = s.time ∧ (wakeCheckFailed k s).resetCause = s.resetCause := by simp [wakeCheckFailed]

@[simp] theorem takeStatus_clock (rail w : Nat) (s : State) :
    (takeStatus rail w s).time = s.time ∧ (takeStatus rail w s).resetCause = s.resetCause := by simp [takeStatus]

@[simp] theorem committedIn_clock (k : Nat) (s : State) :
    (committedIn k s).time = s.time ∧ (committedIn k s).resetCause = s.resetCause := by simp [committedIn]

@[simp] theorem loadCommitted_clock (k : Nat) (s : State) :
    (loadCommitted k s).time = s.time ∧ (loadCommitted k s).resetCause = s.resetCause := by simp [loadCommitted]

@[simp] theorem restoreCask_clock (k : Nat) (badA badB : List Nat) (s : State) :
    (restoreCask k badA badB s).time = s.time ∧ (restoreCask k badA badB s).resetCause = s.resetCause := by simp [restoreCask]

@[simp] theorem wakeEnds_clock (k : Nat) (s : State) :
    (wakeEnds k s).time = s.time ∧ (wakeEnds k s).resetCause = s.resetCause := by simp [wakeEnds]

@[simp] theorem wakeStep_clock (k : Nat) (m : WakeMeasure) (s : State) :
    (wakeStep k m s).time = s.time ∧ (wakeStep k m s).resetCause = s.resetCause := by simp [wakeStep]

@[simp] theorem wakeAlarmReached_clock (k : Nat) (s : State) :
    (wakeAlarmReached k s).time = s.time ∧ (wakeAlarmReached k s).resetCause = s.resetCause := by simp [wakeAlarmReached]

@[simp] theorem dormantEntry_clock (k : Nat) (cal : List Byte) (s : State) :
    (dormantEntry k cal s).time = s.time ∧ (dormantEntry k cal s).resetCause = s.resetCause := by simp [dormantEntry]

@[simp] theorem nextGroup_clock (k : Nat) (s : State) :
    (nextGroup k s).time = s.time ∧ (nextGroup k s).resetCause = s.resetCause := by simp [nextGroup]

@[simp] theorem startRail_clock (rail : Nat) (ok : Bool) (s : State) :
    (startRail rail ok s).time = s.time ∧ (startRail rail ok s).resetCause = s.resetCause := by unfold startRail; (repeat' split) <;> simp

@[simp] theorem pmCheck_clock (rail tries : Nat) (s : State) :
    (pmCheck rail tries s).time = s.time ∧ (pmCheck rail tries s).resetCause = s.resetCause := by simp [pmCheck]

@[simp] theorem startChecked_clock (r : PmReq) (w : Nat) (s : State) :
    (startChecked r w s).time = s.time ∧ (startChecked r w s).resetCause = s.resetCause := by simp [startChecked]

@[simp] theorem pmDone_clock (r : PmReq) (word : Nat) (s : State) :
    (pmDone r word s).time = s.time ∧ (pmDone r word s).resetCause = s.resetCause := by unfold pmDone; (repeat' split) <;> simp

@[simp] theorem pmLost_clock (r : PmReq) (cause : Nat) (s : State) :
    (pmLost r cause s).time = s.time ∧ (pmLost r cause s).resetCause = s.resetCause := by unfold pmLost; (repeat' split) <;> simp

@[simp] theorem pmbusComplete_clock (res : PmbusResult) (s : State) :
    (pmbusComplete res s).time = s.time ∧ (pmbusComplete res s).resetCause = s.resetCause := by unfold pmbusComplete; (repeat' split) <;> simp

@[simp] theorem pmbusBusyPoll_clock (w : Nat) (s : State) :
    (pmbusBusyPoll w s).time = s.time ∧ (pmbusBusyPoll w s).resetCause = s.resetCause := by unfold pmbusBusyPoll; (repeat' split) <;> simp

@[simp] theorem pmbusRetry_clock (s : State) :
    (pmbusRetry s).time = s.time ∧ (pmbusRetry s).resetCause = s.resetCause := by unfold pmbusRetry; (repeat' split) <;> simp

@[simp] theorem pmbusPolling_clock (s : State) :
    (pmbusPolling s).time = s.time ∧ (pmbusPolling s).resetCause = s.resetCause := by simp [pmbusPolling]

@[simp] theorem vcoreSettings_clock (s : State) :
    (vcoreSettings s).time = s.time ∧ (vcoreSettings s).resetCause = s.resetCause := by simp [vcoreSettings]

@[simp] theorem avsAdjust_clock (short ample : Bool) (s : State) :
    (avsAdjust short ample s).time = s.time ∧ (avsAdjust short ample s).resetCause = s.resetCause := by simp [avsAdjust]

/-! ## Heat -/

@[simp] theorem takeReading_clock (n : Nat) (t : Int) (s : State) :
    (takeReading n t s).time = s.time ∧ (takeReading n t s).resetCause = s.resetCause := by simp [takeReading]

@[simp] theorem takeReadings_clock (n : Nat) (ts : List Int) (s : State) :
    (takeReadings n ts s).time = s.time ∧ (takeReadings n ts s).resetCause = s.resetCause := by
  induction ts generalizing n s with
  | nil => simp [takeReadings]
  | cons t rest ih => simp [takeReadings, ih]

@[simp] theorem checkSensor_clock (v : State) (n : Nat) (s : State) :
    (checkSensor v n s).time = s.time ∧ (checkSensor v n s).resetCause = s.resetCause := by simp [checkSensor]

@[simp] theorem warnDie_clock (n : Nat) (s : State) :
    (warnDie n s).time = s.time ∧ (warnDie n s).resetCause = s.resetCause := by
  unfold warnDie
  (try dsimp only)
  (repeat' split) <;> simp

@[simp] theorem enterThrottle_clock (n : Nat) (s : State) :
    (enterThrottle n s).time = s.time ∧ (enterThrottle n s).resetCause = s.resetCause := by simp [enterThrottle]

@[simp] theorem throttleSample_clock (s : State) :
    (throttleSample s).time = s.time ∧ (throttleSample s).resetCause = s.resetCause := by
  unfold throttleSample
  (try dsimp only)
  (repeat' split) <;> simp

@[simp] theorem dropWake_clock (k : Nat) (s : State) :
    (dropWake k s).time = s.time ∧ (dropWake k s).resetCause = s.resetCause := by simp [dropWake]

@[simp] theorem coreOff_clock (s : State) :
    (coreOff s).time = s.time ∧ (coreOff s).resetCause = s.resetCause := by unfold coreOff; (repeat' split) <;> simp

@[simp] theorem noteLoss_clock (s : State) :
    (noteLoss s).time = s.time ∧ (noteLoss s).resetCause = s.resetCause := by simp [noteLoss]

@[simp] theorem coreShutdown_clock (s : State) :
    (coreShutdown s).time = s.time ∧ (coreShutdown s).resetCause = s.resetCause := by simp [coreShutdown]

@[simp] theorem releaseCore_clock (s : State) :
    (releaseCore s).time = s.time ∧ (releaseCore s).resetCause = s.resetCause := by unfold releaseCore; (repeat' split) <;> simp

@[simp] theorem coldSample_clock (s : State) :
    (coldSample s).time = s.time ∧ (coldSample s).resetCause = s.resetCause := by simp [coldSample]

@[simp] theorem throttleLift_clock (s : State) :
    (throttleLift s).time = s.time ∧ (throttleLift s).resetCause = s.resetCause := by simp [throttleLift]

@[simp] theorem restartClusters_clock (s : State) :
    (restartClusters s).time = s.time ∧ (restartClusters s).resetCause = s.resetCause := by simp [restartClusters]

/-! ## Engines -/

@[simp] theorem goldenMissing_clock (tests : List Nat) (s : State) :
    (goldenMissing tests s).time = s.time ∧ (goldenMissing tests s).resetCause = s.resetCause := by simp [goldenMissing]

@[simp] theorem planMigration_clock (x y : Nat) (rotating : Bool) (s : State) :
    (planMigration x y rotating s).time = s.time ∧ (planMigration x y rotating s).resetCause = s.resetCause := by simp [planMigration]

@[simp] theorem cancelRotation_clock (x : Nat) (s : State) :
    (cancelRotation x s).time = s.time ∧ (cancelRotation x s).resetCause = s.resetCause := by unfold cancelRotation; (repeat' split) <;> simp

@[simp] theorem recordFailed_clock (e test : Nat) (s : State) :
    (recordFailed e test s).time = s.time ∧ (recordFailed e test s).resetCause = s.resetCause := by simp [recordFailed]

@[simp] theorem unrecord_clock (e : Nat) (s : State) :
    (unrecord e s).time = s.time ∧ (unrecord e s).resetCause = s.resetCause := by simp [unrecord]

@[simp] theorem loadNext_clock (k : Nat) (s : State) :
    (loadNext k s).time = s.time ∧ (loadNext k s).resetCause = s.resetCause := by
  unfold loadNext
  (try dsimp only)
  (repeat' split) <;> simp

@[simp] theorem engineTestComplete_clock (e : Nat) (rs : List Response) (s : State) :
    (engineTestComplete e rs s).time = s.time ∧ (engineTestComplete e rs s).resetCause = s.resetCause := by simp [engineTestComplete]

@[simp] theorem planRescue_clock (e : Nat) (s : State) :
    (planRescue e s).time = s.time ∧ (planRescue e s).resetCause = s.resetCause := by unfold planRescue; (repeat' split) <;> simp

@[simp] theorem copyTaps_clock (p x y : Nat) (badWords : List Nat) (s : State) :
    (copyTaps p x y badWords s).time = s.time ∧ (copyTaps p x y badWords s).resetCause = s.resetCause := by simp [copyTaps]

@[simp] theorem migration_clock (p : Nat) (crcEqual : Bool) (badWords : List Nat) (s : State) :
    (migration p crcEqual badWords s).time = s.time ∧ (migration p crcEqual badWords s).resetCause = s.resetCause := by
  unfold migration
  (try dsimp only)
  (repeat' split) <;> simp

@[simp] theorem rotate_clock (k second : Nat) (s : State) :
    (rotate k second s).time = s.time ∧ (rotate k second s).resetCause = s.resetCause := by
  unfold rotate
  (try dsimp only)
  (repeat' split) <;> simp

@[simp] theorem rotationDatum_clock (second : Nat) (s : State) :
    (rotationDatum second s).time = s.time ∧ (rotationDatum second s).resetCause = s.resetCause := by unfold rotationDatum; (repeat' split) <;> simp

@[simp] theorem engineFailing_clock (e : Nat) (f : EngineFault) (s : State) :
    (engineFailing e f s).time = s.time ∧ (engineFailing e f s).resetCause = s.resetCause := by unfold engineFailing; (repeat' split) <;> simp

@[simp] theorem resumePort_clock (p : Nat) (s : State) :
    (resumePort p s).time = s.time ∧ (resumePort p s).resetCause = s.resetCause := by unfold resumePort; (repeat' split) <;> simp

@[simp] theorem replaceEngine_clock (p : Nat) (s : State) :
    (replaceEngine p s).time = s.time ∧ (replaceEngine p s).resetCause = s.resetCause := by unfold replaceEngine; (repeat' split) <;> simp

@[simp] theorem freeEngine_clock (p : Nat) (s : State) :
    (freeEngine p s).time = s.time ∧ (freeEngine p s).resetCause = s.resetCause := by simp [freeEngine]

@[simp] theorem assignEngines_clock (k : Nat) (s : State) :
    (assignEngines k s).time = s.time ∧ (assignEngines k s).resetCause = s.resetCause := by
  unfold assignEngines
  dsimp only
  split
  all_goals
    refine ⟨?_, ?_⟩
    · (try rw [(fault_clock _ _ _ _).1, (State.modCluster_clock _ _ _).1])
      rw [forAll_time _ _ (by intro x t; (repeat' split) <;> simp), forAll_time _ _ (by intro x t; simp)]
    · (try rw [(fault_clock _ _ _ _).2, (State.modCluster_clock _ _ _).2])
      rw [forAll_cause _ _ (by intro x t; (repeat' split) <;> simp), forAll_cause _ _ (by intro x t; simp)]

@[simp] theorem fwUpdateMigration_clock (k : Nat) (s : State) :
    (fwUpdateMigration k s).time = s.time ∧ (fwUpdateMigration k s).resetCause = s.resetCause := by
  unfold fwUpdateMigration
  (try dsimp only)
  (repeat' split) <;> simp

/-! ## SelfTest -/

@[simp] theorem State.modTester_clock (s : State) (m : Mem) (f : TesterSt → TesterSt) :
    (State.modTester s m f).time = s.time ∧ (State.modTester s m f).resetCause = s.resetCause := by unfold State.modTester; (repeat' split) <;> simp

@[simp] theorem sliceTestStart_clock (m : Mem) (s : State) :
    (sliceTestStart m s).time = s.time ∧ (sliceTestStart m s).resetCause = s.resetCause := by simp [sliceTestStart]

@[simp] theorem sliceTestAbort_clock (m : Mem) (s : State) :
    (sliceTestAbort m s).time = s.time ∧ (sliceTestAbort m s).resetCause = s.resetCause := by simp [sliceTestAbort]

@[simp] theorem wordFailed_clock (m : Mem) (word : Nat) (s : State) :
    (wordFailed m word s).time = s.time ∧ (wordFailed m word s).resetCause = s.resetCause := by unfold wordFailed; (repeat' split) <;> simp

@[simp] theorem repairSlice_clock (m : Mem) (slice : Nat) (badWords : List Nat) (s : State) :
    (repairSlice m slice badWords s).time = s.time ∧ (repairSlice m slice badWords s).resetCause = s.resetCause := by
  unfold repairSlice
  (try dsimp only)
  (repeat' split) <;> simp

@[simp] theorem spareFails_clock (m : Mem) (n : Nat) (s : State) :
    (spareFails m n s).time = s.time ∧ (spareFails m n s).resetCause = s.resetCause := by simp [spareFails]

@[simp] theorem sliceFails_clock (m : Mem) (unit : Nat) (s : State) :
    (sliceFails m unit s).time = s.time ∧ (sliceFails m unit s).resetCause = s.resetCause := by simp [sliceFails]

@[simp] theorem sliceTestComplete_clock (m : Mem) (words : List (BitVec 64)) (badWords : List Nat) (s : State) :
    (sliceTestComplete m words badWords s).time = s.time ∧ (sliceTestComplete m words badWords s).resetCause = s.resetCause := by simp [sliceTestComplete]

@[simp] theorem loadRemaps_clock (m : Mem) (s : State) :
    (loadRemaps m s).time = s.time ∧ (loadRemaps m s).resetCause = s.resetCause := by simp [loadRemaps]

@[simp] theorem patrolScrub_clock (m : Mem) (word : Nat) (e : Ecc) (s : State) :
    (patrolScrub m word e s).time = s.time ∧ (patrolScrub m word e s).resetCause = s.resetCause := by unfold patrolScrub; (repeat' split) <;> simp

@[simp] theorem loseHalf_clock (p h : Nat) (s : State) :
    (loseHalf p h s).time = s.time ∧ (loseHalf p h s).resetCause = s.resetCause := by simp [loseHalf]

@[simp] theorem converterCalibration_clock (k : Nat) (fs : List CalFinding) (s : State) :
    (converterCalibration k fs s).time = s.time ∧ (converterCalibration k fs s).resetCause = s.resetCause := by simp [converterCalibration]

@[simp] theorem lineShort_clock (p : Nat) (s : State) :
    (lineShort p s).time = s.time ∧ (lineShort p s).resetCause = s.resetCause := by simp [lineShort]

@[simp] theorem fullTestStart_clock (s : State) :
    (fullTestStart s).time = s.time ∧ (fullTestStart s).resetCause = s.resetCause := by simp [fullTestStart]

@[simp] theorem fullEngineFails_clock (e test : Nat) (s : State) :
    (fullEngineFails e test s).time = s.time ∧ (fullEngineFails e test s).resetCause = s.resetCause := by unfold fullEngineFails; (repeat' split) <;> simp

@[simp] theorem fullFail_clock (f : UnitTest) (s : State) :
    (fullFail f s).time = s.time ∧ (fullFail f s).resetCause = s.resetCause := by simp [fullFail]

@[simp] theorem fullTestComplete_clock (rs : List UnitTest) (s : State) :
    (fullTestComplete rs s).time = s.time ∧ (fullTestComplete rs s).resetCause = s.resetCause := by simp [fullTestComplete]

@[simp] theorem enginePasses_clock (e : Nat) (s : State) :
    (enginePasses e s).time = s.time ∧ (enginePasses e s).resetCause = s.resetCause := by simp [enginePasses]

@[simp] theorem engineFailsOnce_clock (bad : List Nat) (s : State) :
    (engineFailsOnce bad s).time = s.time ∧ (engineFailsOnce bad s).resetCause = s.resetCause := by simp [engineFailsOnce]

@[simp] theorem engineCheck_clock (c : ClusterCheck) (e : Nat) (s : State) :
    (engineCheck c e s).time = s.time ∧ (engineCheck c e s).resetCause = s.resetCause := by simp [engineCheck]

/-! ## Firmware -/

@[simp] theorem State.modFw_clock (s : State) (f : FwSt → FwSt) :
    (State.modFw s f).time = s.time ∧ (State.modFw s f).resetCause = s.resetCause := by simp [State.modFw]

@[simp] theorem State.setRecord_clock (s : State) (b : Nat) (x : BankRecord) :
    (State.setRecord s b x).time = s.time ∧ (State.setRecord s b x).resetCause = s.resetCause := by simp [State.setRecord]

@[simp] theorem eraseBank_clock (b : Nat) (s : State) :
    (eraseBank b s).time = s.time ∧ (eraseBank b s).resetCause = s.resetCause := by simp [eraseBank]

@[simp] theorem fwEraseComplete_clock (verified : Bool) (s : State) :
    (fwEraseComplete verified s).time = s.time ∧ (fwEraseComplete verified s).resetCause = s.resetCause := by simp [fwEraseComplete]

@[simp] theorem loadBegin_clock (length : Nat) (s : State) :
    (loadBegin length s).time = s.time ∧ (loadBegin length s).resetCause = s.resetCause := by simp [loadBegin]

@[simp] theorem loadSegment_clock (bs : List Byte) (last : Bool) (s : State) :
    (loadSegment bs last s).time = s.time ∧ (loadSegment bs last s).resetCause = s.resetCause := by simp [loadSegment]

@[simp] theorem loadEnds_clock (s : State) :
    (loadEnds s).time = s.time ∧ (loadEnds s).resetCause = s.resetCause := by simp [loadEnds]

@[simp] theorem fwImageCheck_clock (s : State) :
    (fwImageCheck s).time = s.time ∧ (fwImageCheck s).resetCause = s.resetCause := by simp [fwImageCheck]

@[simp] theorem startBank_clock (s : State) :
    (startBank s).time = s.time ∧ (startBank s).resetCause = s.resetCause := by unfold startBank; (repeat' split) <;> simp

@[simp] theorem beginMoves_clock (have_ : List Nat) (back : Bool) (s : State) :
    (beginMoves have_ back s).time = s.time ∧ (beginMoves have_ back s).resetCause = s.resetCause := by simp [beginMoves]

@[simp] theorem fwSwitch_clock (s : State) :
    (fwSwitch s).time = s.time ∧ (fwSwitch s).resetCause = s.resetCause := by simp [fwSwitch]

@[simp] theorem moveBack_clock (s : State) :
    (moveBack s).time = s.time ∧ (moveBack s).resetCause = s.resetCause := by simp [moveBack]

@[simp] theorem fwTrialEnd_clock (s : State) :
    (fwTrialEnd s).time = s.time ∧ (fwTrialEnd s).resetCause = s.resetCause := by
  unfold fwTrialEnd
  (try dsimp only)
  (repeat' split) <;> simp

@[simp] theorem barBank_clock (s : State) :
    (barBank s).1.time = s.time ∧ (barBank s).1.resetCause = s.resetCause := by simp [barBank]

/-! ## HostFrames -/

@[simp] theorem discardHost_clock (l : Link) (p d cause length : Nat) (s : State) :
    (discardHost l p d cause length s).time = s.time ∧ (discardHost l p d cause length s).resetCause = s.resetCause := by simp [discardHost]

@[simp] theorem queueHost_clock (l : Link) (p d epoch : Nat) (body : List Byte) (s : State) :
    (queueHost l p d epoch body s).time = s.time ∧ (queueHost l p d epoch body s).resetCause = s.resetCause := by simp [queueHost]

@[simp] theorem staleHostFrame_clock (p d frameEpoch : Nat) (s : State) :
    (staleHostFrame p d frameEpoch s).time = s.time ∧ (staleHostFrame p d frameEpoch s).resetCause = s.resetCause := by simp [staleHostFrame]

@[simp] theorem noDropFrame_clock (p d frameEpoch : Nat) (s : State) :
    (noDropFrame p d frameEpoch s).time = s.time ∧ (noDropFrame p d frameEpoch s).resetCause = s.resetCause := by simp [noDropFrame]

@[simp] theorem routeBranch_clock (l : Link) (f : HostFrame) (s : State) :
    (routeBranch l f s).time = s.time ∧ (routeBranch l f s).resetCause = s.resetCause := by simp [routeBranch]

@[simp] theorem routeTrunk_clock (l : Link) (f : HostFrame) (s : State) :
    (routeTrunk l f s).time = s.time ∧ (routeTrunk l f s).resetCause = s.resetCause := by simp [routeTrunk]

@[simp] theorem routeFrame_clock (l : Link) (f : HostFrame) (s : State) :
    (routeFrame l f s).time = s.time ∧ (routeFrame l f s).resetCause = s.resetCause := by simp [routeFrame]

@[simp] theorem answerBulk_clock (l : Link) (f : OutFrame) (s : State) :
    (answerBulk l f s).time = s.time ∧ (answerBulk l f s).resetCause = s.resetCause := by simp [answerBulk]

@[simp] theorem endBulk_clock (l : Link) (b : Bulk) (status : Nat) (s : State) :
    (endBulk l b status s).time = s.time ∧ (endBulk l b status s).resetCause = s.resetCause := by simp [endBulk]

@[simp] theorem bulkStep_clock (l : Link) (b : Bulk) (s : State) :
    (bulkStep l b s).time = s.time ∧ (bulkStep l b s).resetCause = s.resetCause := by unfold bulkStep; (repeat' split) <;> simp

@[simp] theorem openBulk_clock (l : Link) (b : Bulk) (s : State) :
    (openBulk l b s).time = s.time ∧ (openBulk l b s).resetCause = s.resetCause := by simp [openBulk]

@[simp] theorem refuseBulk_clock (l : Link) (op status reqId target : Nat) (s : State) :
    (refuseBulk l op status reqId target s).time = s.time ∧ (refuseBulk l op status reqId target s).resetCause = s.resetCause := by simp [refuseBulk]

@[simp] theorem refuseRead_clock (l : Link) (op status reqId target : Nat) (s : State) :
    (refuseRead l op status reqId target s).time = s.time ∧ (refuseRead l op status reqId target s).resetCause = s.resetCause := by simp [refuseRead]

@[simp] theorem bulkRequest_time (l : Link) (op reqId target : Nat) (f : State → State) (h : ∀ t, (f t).time = t.time) (s : State) :
    (bulkRequest l op reqId target f s).time = s.time := by
  unfold bulkRequest; dsimp only; (repeat' split) <;> simp [h]

@[simp] theorem bulkRequest_cause (l : Link) (op reqId target : Nat) (f : State → State) (h : ∀ t, (f t).resetCause = t.resetCause) (s : State) :
    (bulkRequest l op reqId target f s).resetCause = s.resetCause := by
  unfold bulkRequest; dsimp only; (repeat' split) <;> simp [h]

@[simp] theorem readRecord_clock (l : Link) (reqId target first count : Nat) (s : State) :
    (readRecord l reqId target first count s).time = s.time ∧ (readRecord l reqId target first count s).resetCause = s.resetCause := by
  unfold readRecord
  exact ⟨bulkRequest_time _ _ _ _ _ (by intro t; (repeat' split) <;> simp) s,
    bulkRequest_cause _ _ _ _ _ (by intro t; (repeat' split) <;> simp) s⟩

@[simp] theorem readDriveBlocks_clock (l : Link) (reqId block first count : Nat) (s : State) :
    (readDriveBlocks l reqId block first count s).time = s.time ∧ (readDriveBlocks l reqId block first count s).resetCause = s.resetCause := by simp [readDriveBlocks]

@[simp] theorem cancelBulk_clock (l : Link) (reqId : Nat) (s : State) :
    (cancelBulk l reqId s).time = s.time ∧ (cancelBulk l reqId s).resetCause = s.resetCause := by
  unfold cancelBulk
  exact ⟨bulkRequest_time _ _ _ _ _ (by intro t; split <;> simp) s,
    bulkRequest_cause _ _ _ _ _ (by intro t; split <;> simp) s⟩

@[simp] theorem badBulk_clock (l : Link) (op reqId target : Nat) (s : State) :
    (badBulk l op reqId target s).time = s.time ∧ (badBulk l op reqId target s).resetCause = s.resetCause := by
  unfold badBulk
  (try dsimp only)
  (repeat' split) <;> simp

@[simp] theorem bulkFrame_clock (l : Link) (body : List Byte) (s : State) :
    (bulkFrame l body s).time = s.time ∧ (bulkFrame l body s).resetCause = s.resetCause := by
  unfold bulkFrame
  (try dsimp only)
  (repeat' split) <;> simp

@[simp] theorem bulkGot_clock (l : Link) (tag blk : Nat) (s : State) :
    (bulkGot l tag blk s).time = s.time ∧ (bulkGot l tag blk s).resetCause = s.resetCause := by unfold bulkGot; (repeat' split) <;> simp

@[simp] theorem bulkFailed_clock (l : Link) (tag : Nat) (s : State) :
    (bulkFailed l tag s).time = s.time ∧ (bulkFailed l tag s).resetCause = s.resetCause := by unfold bulkFailed; (repeat' split) <;> simp

@[simp] theorem commandDone_clock (j : NvmeJob) (s : State) :
    (commandDone j s).time = s.time ∧ (commandDone j s).resetCause = s.resetCause := by unfold commandDone; (repeat' split) <;> simp

@[simp] theorem commandFailed_clock (c : NvmeCmd) (s : State) :
    (commandFailed c s).time = s.time ∧ (commandFailed c s).resetCause = s.resetCause := by unfold commandFailed; (repeat' split) <;> simp

@[simp] theorem nvmeCompletion_clock (pair cid : Nat) (st : NvmeStatus) (s : State) :
    (nvmeCompletion pair cid st s).time = s.time ∧ (nvmeCompletion pair cid st s).resetCause = s.resetCause := by unfold nvmeCompletion; (repeat' split) <;> simp

@[simp] theorem endAllBulk_clock (s : State) :
    (endAllBulk s).time = s.time ∧ (endAllBulk s).resetCause = s.resetCause := by simp [endAllBulk]

@[simp] theorem settleBulk_clock (s : State) :
    (settleBulk s).time = s.time ∧ (settleBulk s).resetCause = s.resetCause := by simp [settleBulk]

@[simp] theorem resetController_clock (fatal : Bool) (s : State) :
    (resetController fatal s).time = s.time ∧ (resetController fatal s).resetCause = s.resetCause := by
  unfold resetController
  dsimp only
  refine ⟨?_, ?_⟩
  · simp only [settleBulk_clock]
    rw [forAll_time _ _ (by intro x t; split <;> simp)]; simp
  · simp only [settleBulk_clock]
    rw [forAll_cause _ _ (by intro x t; split <;> simp)]; simp

@[simp] theorem abortCommand_clock (c : NvmeCmd) (abortDone : Bool) (s : State) :
    (abortCommand c abortDone s).time = s.time ∧ (abortCommand c abortDone s).resetCause = s.resetCause := by simp [abortCommand]

@[simp] theorem cmdTimeout_clock (pair cid : Nat) (abortDone fatal : Bool) (s : State) :
    (cmdTimeout pair cid abortDone fatal s).time = s.time ∧ (cmdTimeout pair cid abortDone fatal s).resetCause = s.resetCause := by unfold cmdTimeout; (repeat' split) <;> simp

@[simp] theorem driveLost_clock (s : State) :
    (driveLost s).time = s.time ∧ (driveLost s).resetCause = s.resetCause := by simp [driveLost]

/-! ## Reset -/

@[simp] theorem thermalRestart_clock (s : State) :
    (thermalRestart s).time = s.time ∧ (thermalRestart s).resetCause = s.resetCause := by simp [thermalRestart]

@[simp] theorem boot_clock (s : State) :
    (boot s).time = s.time ∧ (boot s).resetCause = s.resetCause := by unfold boot; (repeat' split) <;> simp

@[simp] theorem startCells_clock (p : Nat) (s : State) :
    (startCells p s).time = s.time ∧ (startCells p s).resetCause = s.resetCause := by simp [startCells]

@[simp] theorem readNvm_clock (bad : List Nat) (s : State) :
    (readNvm bad s).time = s.time ∧ (readNvm bad s).resetCause = s.resetCause := by simp [readNvm]

@[simp] theorem loadSet_clock (s : State) :
    (loadSet s).time = s.time ∧ (loadSet s).resetCause = s.resetCause := by unfold loadSet; (repeat' split) <;> simp

@[simp] theorem goldenCheck_clock (s : State) :
    (goldenCheck s).time = s.time ∧ (goldenCheck s).resetCause = s.resetCause := by simp [goldenCheck]

@[simp] theorem keptProgramEnds_clock (verified : Bool) (s : State) :
    (keptProgramEnds verified s).time = s.time ∧ (keptProgramEnds verified s).resetCause = s.resetCause := by unfold keptProgramEnds; (repeat' split) <;> simp

@[simp] theorem keptMarkerEnds_clock (nvmOk : Bool) (s : State) :
    (keptMarkerEnds nvmOk s).time = s.time ∧ (keptMarkerEnds nvmOk s).resetCause = s.resetCause := by unfold keptMarkerEnds; (repeat' split) <;> simp

/-! ## Writes -/

@[simp] theorem clusterTarget_clock (k : Nat) (v : Int) (s : State) :
    (clusterTarget k v s).time = s.time ∧ (clusterTarget k v s).resetCause = s.resetCause := by simp [clusterTarget]

@[simp] theorem clearReg_clock (code inst : Nat) (s : State) :
    (clearReg code inst s).time = s.time ∧ (clearReg code inst s).resetCause = s.resetCause := by simp [clearReg]

@[simp] theorem endTransfer_clock (q : Path) (s : State) :
    (endTransfer q s).time = s.time ∧ (endTransfer q s).resetCause = s.resetCause := by unfold endTransfer; (repeat' split) <;> simp

@[simp] theorem lcAdvance_clock (s : State) :
    (lcAdvance s).time = s.time ∧ (lcAdvance s).resetCause = s.resetCause := by simp [lcAdvance]

@[simp] theorem lcRefuse_clock (s : State) :
    (lcRefuse s).time = s.time ∧ (lcRefuse s).resetCause = s.resetCause := by simp [lcRefuse]

@[simp] theorem writePath_clock (q : Path) (code n : Nat) (s : State) :
    (writePath q code n s).time = s.time ∧ (writePath q code n s).resetCause = s.resetCause := by simp [writePath]

@[simp] theorem writeCell_clock (i code n master : Nat) (s : State) :
    (writeCell i code n master s).time = s.time ∧ (writeCell i code n master s).resetCause = s.resetCause := by unfold writeCell; (repeat' split) <;> simp

@[simp] theorem twinCommand_clock (p : Nat) (back : Bool) (s : State) :
    (twinCommand p back s).time = s.time ∧ (twinCommand p back s).resetCause = s.resetCause := by unfold twinCommand; (repeat' split) <;> simp

@[simp] theorem archFormatWrite_clock (s : State) :
    (archFormatWrite s).time = s.time ∧ (archFormatWrite s).resetCause = s.resetCause := by simp [archFormatWrite]

@[simp] theorem archAdoptWrite_clock (s : State) :
    (archAdoptWrite s).time = s.time ∧ (archAdoptWrite s).resetCause = s.resetCause := by simp [archAdoptWrite]

@[simp] theorem portCommand_clock (code inst : Nat) (v : Int) (s : State) :
    (portCommand code inst v s).time = s.time ∧ (portCommand code inst v s).resetCause = s.resetCause := by simp [portCommand]

/-! ## Access -/

@[simp] theorem selectionRefused_clock (q : Path) (o : Obj) (a : Nat) (s : State) :
    (selectionRefused q o a s).2.time = s.time ∧ (selectionRefused q o a s).2.resetCause = s.resetCause := by simp [selectionRefused]

theorem readError_clock (q : Path) (o : Obj) (code inst : Nat) (s t : State) (h : readError q o code inst s = some t) :
    t.time = s.time ∧ t.resetCause = s.resetCause := by
  unfold readError at h
  (repeat' split at h) <;> first | (cases h; simp; done) | cases h | skip
  simp only [Option.map_eq_some_iff] at h
  obtain ⟨w, -, rfl⟩ := h
  simp

@[simp] theorem readScalar_clock (q : Path) (r : MgmtReq) (o : Obj) (code inst : Nat) (s : State) :
    (readScalar q r o code inst s).2.time = s.time ∧ (readScalar q r o code inst s).2.resetCause = s.resetCause := by
  unfold readScalar
  dsimp only
  (repeat' split) <;> try (simp; done)
  rename_i h; exact readError_clock _ _ _ _ _ _ h

@[simp] theorem closeTransfer_clock (q : Path) (s : State) :
    (closeTransfer q s).time = s.time ∧ (closeTransfer q s).resetCause = s.resetCause := by simp [closeTransfer]

@[simp] theorem replaceTransfer_clock (q : Path) (x : Option Xfer) (s : State) :
    (replaceTransfer q x s).time = s.time ∧ (replaceTransfer q x s).resetCause = s.resetCause := by simp [replaceTransfer]

@[simp] theorem autoStep_clock (q : Path) (code : Nat) (s : State) :
    (autoStep q code s).time = s.time ∧ (autoStep q code s).resetCause = s.resetCause := by simp [autoStep]

@[simp] theorem domainRead_clock (q : Path) (r : MgmtReq) (o : Obj) (code inst : Nat) (s : State) :
    (domainRead q r o code inst s).2.time = s.time ∧ (domainRead q r o code inst s).2.resetCause = s.resetCause := by
  unfold domainRead
  dsimp only
  (repeat' split) <;> try (simp; done)
  rename_i h; exact readError_clock _ _ _ _ _ _ h

@[simp] theorem storeDomain_clock (code inst : Nat) (bs : List Byte) (s : State) :
    (storeDomain code inst bs s).time = s.time ∧ (storeDomain code inst bs s).resetCause = s.resetCause := by simp [storeDomain]

@[simp] theorem domainWrite_clock (q : Path) (r : MgmtReq) (o : Obj) (code inst : Nat) (s : State) :
    (domainWrite q r o code inst s).2.time = s.time ∧ (domainWrite q r o code inst s).2.resetCause = s.resetCause := by unfold domainWrite; (repeat' split) <;> simp

@[simp] theorem segmentRead_clock (q : Path) (r : MgmtReq) (s : State) :
    (segmentRead q r s).2.time = s.time ∧ (segmentRead q r s).2.resetCause = s.resetCause := by unfold segmentRead; (repeat' split) <;> simp

@[simp] theorem segmentWrite_clock (q : Path) (r : MgmtReq) (o : Obj) (s : State) :
    (segmentWrite q r o s).2.time = s.time ∧ (segmentWrite q r o s).2.resetCause = s.resetCause := by
  unfold segmentWrite
  (try dsimp only)
  (repeat' split) <;> simp

@[simp] theorem transferTimeout_clock (q : Path) (s : State) :
    (transferTimeout q s).time = s.time ∧ (transferTimeout q s).resetCause = s.resetCause := by unfold transferTimeout; (repeat' split) <;> simp

@[simp] theorem countAbort_clock (q : Path) (y : Reply) (s : State) :
    (countAbort q y s).time = s.time ∧ (countAbort q y s).resetCause = s.resetCause := by unfold countAbort; (repeat' split) <;> simp

@[simp] theorem answer_clock (q : Path) (r : MgmtReq) (y : Reply) (s : State) :
    (answer q r y s).time = s.time ∧ (answer q r y s).resetCause = s.resetCause := by unfold answer; (repeat' split) <;> simp

@[simp] theorem spiReject_clock (s : State) :
    (spiReject s).time = s.time ∧ (spiReject s).resetCause = s.resetCause := by simp [spiReject]

@[simp] theorem spiOut_clock (status : Byte) (bs : List Byte) (s : State) :
    (spiOut status bs s).time = s.time ∧ (spiOut status bs s).resetCause = s.resetCause := by simp [spiOut]

@[simp] theorem spiStatusCmd_clock (clocked : Nat) (s : State) :
    (spiStatusCmd clocked s).time = s.time ∧ (spiStatusCmd clocked s).resetCause = s.resetCause := by simp [spiStatusCmd]

@[simp] theorem spiFetch_clock (clocked : Nat) (s : State) :
    (spiFetch clocked s).time = s.time ∧ (spiFetch clocked s).resetCause = s.resetCause := by simp [spiFetch]

@[simp] theorem spiAbandon_clock (clocked : Nat) (s : State) :
    (spiAbandon clocked s).time = s.time ∧ (spiAbandon clocked s).resetCause = s.resetCause := by simp [spiAbandon]

@[simp] theorem spiUnknown_clock (clocked : Nat) (s : State) :
    (spiUnknown clocked s).time = s.time ∧ (spiUnknown clocked s).resetCause = s.resetCause := by simp [spiUnknown]

@[simp] theorem syncSeen_clock (l : Link) (h0 h1 : Nat) (s : State) :
    (syncSeen l h0 h1 s).time = s.time ∧ (syncSeen l h0 h1 s).resetCause = s.resetCause := by simp [syncSeen]

@[simp] theorem alignMissed_clock (l : Link) (s : State) :
    (alignMissed l s).time = s.time ∧ (alignMissed l s).resetCause = s.resetCause := by simp [alignMissed]

/-! ## Cycle -/

@[simp] theorem beaconDatum_clock (d k p : Nat) (s : State) :
    (beaconDatum d k p s).time = s.time ∧ (beaconDatum d k p s).resetCause = s.resetCause := by simp [beaconDatum]

@[simp] theorem clusterDatum_clock (d k : Nat) (s : State) :
    (clusterDatum d k s).time = s.time ∧ (clusterDatum d k s).resetCause = s.resetCause := by simp [clusterDatum]

@[simp] theorem stampCells_clock (second : Nat) (s : State) :
    (stampCells second s).time = s.time ∧ (stampCells second s).resetCause = s.resetCause := by simp [stampCells]

@[simp] theorem firstDatumWork_clock (second : Nat) (s : State) :
    (firstDatumWork second s).time = s.time ∧ (firstDatumWork second s).resetCause = s.resetCause := by simp [firstDatumWork]

@[simp] theorem closeDrop_clock (p : Nat) (periodEnds : Bool) (d : Nat) (s : State) :
    (closeDrop p periodEnds d s).time = s.time ∧ (closeDrop p periodEnds d s).resetCause = s.resetCause := by simp [closeDrop]

@[simp] theorem closePort_clock (p : Nat) (s : State) :
    (closePort p s).time = s.time ∧ (closePort p s).resetCause = s.resetCause := by simp [closePort]

@[simp] theorem endBranch_clock (p : Nat) (s : State) :
    (endBranch p s).time = s.time ∧ (endBranch p s).resetCause = s.resetCause := by simp [endBranch]

@[simp] theorem leaveMode_clock (p : Nat) (s : State) :
    (leaveMode p s).time = s.time ∧ (leaveMode p s).resetCause = s.resetCause := by
  have key : ∀ t : State, (freeEngine p (calStops p ((abandonRun p t).modPort p (fun x => { x with mode := 0, onLine := [], steep := false })))).time = t.time ∧
      (freeEngine p (calStops p ((abandonRun p t).modPort p (fun x => { x with mode := 0, onLine := [], steep := false })))).resetCause = t.resetCause :=
    fun t => by simp
  unfold leaveMode
  dsimp only
  simp only [key]
  split
  · simp
  · exact ⟨rfl, rfl⟩

@[simp] theorem enterMode_clock (p m : Nat) (s : State) :
    (enterMode p m s).time = s.time ∧ (enterMode p m s).resetCause = s.resetCause := by
  unfold enterMode
  dsimp only
  have key : ∀ t : State, (if (t.port p).stopped ∧ ((resumePort p t).port p).stopped then
      fault 9 [p] [(1, p), (1, (resumePort p t).engineFor p)] (resumePort p t) else resumePort p t).time = t.time ∧
      (if (t.port p).stopped ∧ ((resumePort p t).port p).stopped then
      fault 9 [p] [(1, p), (1, (resumePort p t).engineFor p)] (resumePort p t) else resumePort p t).resetCause = t.resetCause := by
    intro t; split <;> simp
  rw [(key _).1, (key _).2]
  have one : ∀ t : State, (if (t.port p).begun then t else t.modPort p (fun x => { x with begun := true, rollHeld := true, hold := 2064 })).time = t.time ∧
      (if (t.port p).begun then t else t.modPort p (fun x => { x with begun := true, rollHeld := true, hold := 2064 })).resetCause = t.resetCause := by
    intro t; split <;> exact ⟨rfl, rfl⟩
  split
  · simp only [one, rollOpened_clock]
    split <;> exact leaveSteep_clock p s
  · exact leaveSteep_clock p s

@[simp] theorem takeMode_clock (p : Nat) (s : State) :
    (takeMode p s).time = s.time ∧ (takeMode p s).resetCause = s.resetCause := by simp [takeMode]

@[simp] theorem applyMode_clock (p : Nat) (s : State) :
    (applyMode p s).time = s.time ∧ (applyMode p s).resetCause = s.resetCause := by simp [applyMode]

@[simp] theorem loadsCode_clock (k : Nat) (s : State) :
    (loadsCode k s).time = s.time ∧ (loadsCode k s).resetCause = s.resetCause := by simp [loadsCode]

@[simp] theorem wakePort_clock (p : Nat) (s : State) :
    (wakePort p s).time = s.time ∧ (wakePort p s).resetCause = s.resetCause := by simp [wakePort]

@[simp] theorem wakeStepPorts_clock (k : Nat) (m : WakeMeasure) (s : State) :
    (wakeStepPorts k m s).time = s.time ∧ (wakeStepPorts k m s).resetCause = s.resetCause := by simp [wakeStepPorts]

theorem placeBurst_clock (p limit : Nat) (b : Burst) (s t : State) (h : placeBurst p limit b s = some t) :
    t.time = s.time ∧ t.resetCause = s.resetCause := by
  unfold placeBurst at h
  dsimp only at h
  split at h
  · cases h; simp
  · cases h

theorem sendToDrop_clock (p d typ seq flags : Nat) (acks : Bool) (payload : List Byte) (s t : State)
    (h : sendToDrop p d typ seq flags acks payload s = some t) : t.time = s.time ∧ t.resetCause = s.resetCause := by
  unfold sendToDrop at h
  dsimp only at h
  simp only [Option.map_eq_some_iff] at h
  obtain ⟨u, hu, rfl⟩ := h
  have := placeBurst_clock _ _ _ _ _ hu
  simp [this.1, this.2]

theorem sendSequenced_clock (p d typ flags : Nat) (acks rep : Bool) (payload : List Byte) (s t : State)
    (h : sendSequenced p d typ flags acks rep payload s = some t) : t.time = s.time ∧ t.resetCause = s.resetCause := by
  unfold sendSequenced at h
  dsimp only at h
  split at h
  · cases h
  · simp only [Option.map_eq_some_iff] at h
    obtain ⟨u, hu, rfl⟩ := h
    have := sendToDrop_clock _ _ _ _ _ _ _ _ _ hu
    simp [this.1, this.2]

@[simp] theorem sendAdmit_clock (p : Nat) (s : State) :
    (sendAdmit p s).time = s.time ∧ (sendAdmit p s).resetCause = s.resetCause := by
  unfold sendAdmit
  split
  · exact ⟨rfl, rfl⟩
  · rename_i bs _
    have key : ∀ (n : Nat) (b : Burst), (((placeBurst p n b s).map (admitTaken p)).getD s).time = s.time ∧
        (((placeBurst p n b s).map (admitTaken p)).getD s).resetCause = s.resetCause := by
      intro n b
      cases h : placeBurst p n b s with
      | none => exact ⟨rfl, rfl⟩
      | some t => have := placeBurst_clock _ _ _ _ _ h; simp [this.1, this.2]
    exact key _ _

@[simp] theorem sendSound_clock (p : Nat) (s : State) :
    (sendSound p s).time = s.time ∧ (sendSound p s).resetCause = s.resetCause := by
  have key : ∀ (lim d : Nat) (b : Burst) (t : State), ((placeBurst p lim b s).map (fun t =>
      t.modCtx p d (fun y => { y with sinceTx := 0 }))) = some t → t.time = s.time ∧ t.resetCause = s.resetCause := by
    intro lim d b t h
    simp only [Option.map_eq_some_iff] at h
    obtain ⟨u, hu, rfl⟩ := h
    have := placeBurst_clock _ _ _ _ _ hu
    simp [this.1, this.2]
  unfold sendSound
  (repeat' split) <;> try (simp; done)
  exact ⟨getD_time (fun t h => (key _ _ _ t h).1) rfl, getD_cause (fun t h => (key _ _ _ t h).2) rfl⟩

@[simp] theorem sendAgain_clock (p : Nat) (acked : List Nat) (d : Nat) (s : State) :
    (sendAgain p acked d s).time = s.time ∧ (sendAgain p acked d s).resetCause = s.resetCause := by
  unfold sendAgain
  refine ⟨forAll_time _ _ (fun f t => ?_) s, forAll_cause _ _ (fun f t => ?_) s⟩
  all_goals
    split
    · rfl
    · rename_i u hu
      have := sendToDrop_clock _ _ _ _ _ _ _ _ _ hu
      simp [this.1, this.2]

@[simp] theorem sendMsg_clock (p : Nat) (acked : List Nat) (m : OutMsg) (s : State) :
    (sendMsg p acked m s).time = s.time ∧ (sendMsg p acked m s).resetCause = s.resetCause := by
  unfold sendMsg
  dsimp only
  split
  · simp
  · split
    · simp
    · rename_i u hu
      have := sendSequenced_clock _ _ _ _ _ _ _ _ _ hu
      simp [this.1, this.2]

theorem sendQueued_clock (p : Nat) (acked : List Nat) (d : Nat) (s t : State)
    (h : sendQueued p acked d s = some t) : t.time = s.time ∧ t.resetCause = s.resetCause := by
  unfold sendQueued at h
  dsimp only at h
  (repeat' split at h) <;> try cases h
  simp only [Option.map_eq_some_iff] at h
  obtain ⟨u, hu, rfl⟩ := h
  have := sendSequenced_clock _ _ _ _ _ _ _ _ _ hu
  simp [this.1, this.2]

@[simp] theorem sendAck_clock (p : Nat) (acked : List Nat) (d : Nat) (s : State) :
    (sendAck p acked d s).time = s.time ∧ (sendAck p acked d s).resetCause = s.resetCause := by
  unfold sendAck
  dsimp only
  (repeat' split) <;> try (simp; done)
  all_goals first
  | (rename_i u hu; have := sendQueued_clock _ _ _ _ _ hu; simpa using this)
  | exact ⟨getD_time (fun t h => by have := sendToDrop_clock _ _ _ _ _ _ _ _ _ h; simpa using this.1) (by simp),
      getD_cause (fun t h => by have := sendToDrop_clock _ _ _ _ _ _ _ _ _ h; simpa using this.2) (by simp)⟩
  | (refine ⟨getD_time (fun t h => ?_) rfl, getD_cause (fun t h => ?_) rfl⟩ <;>
      (simp only [Option.map_eq_some_iff] at h
       obtain ⟨u, hu, rfl⟩ := h
       have := sendToDrop_clock _ _ _ _ _ _ _ _ _ hu
       simpa using (by first | exact this.1 | exact this.2)))

@[simp] theorem fillTurn_clock (p : Nat) (acked ds : List Nat) (s : State) :
    (fillTurn p acked ds s).1.time = s.time ∧ (fillTurn p acked ds s).1.resetCause = s.resetCause := by
  induction ds generalizing s with
  | nil => simp [fillTurn]
  | cons d rest ih =>
    unfold fillTurn
    split
    · exact ih s
    · rename_i t ht
      have := sendQueued_clock _ _ _ _ _ ht
      simp [ih, this.1, this.2]

@[simp] theorem fillWindow_clock (fuel p : Nat) (acked ds : List Nat) (first : Option Nat) (s : State) :
    (fillWindow fuel p acked ds first s).1.time = s.time ∧ (fillWindow fuel p acked ds first s).1.resetCause = s.resetCause := by
  induction fuel generalizing first s with
  | zero => simp [fillWindow]
  | succ n ih => simp only [fillWindow]; split <;> simp [ih]

@[simp] theorem fillDown_clock (p : Nat) (acked : List Nat) (s : State) :
    (fillDown p acked s).time = s.time ∧ (fillDown p acked s).resetCause = s.resetCause := by
  unfold fillDown
  (try dsimp only)
  (repeat' split) <;> simp

@[simp] theorem downstream_clock (p : Nat) (s : State) :
    (downstream p s).time = s.time ∧ (downstream p s).resetCause = s.resetCause := by simp [downstream]

@[simp] theorem standbyDue_clock (q d : Nat) (s : State) :
    (standbyDue q d s).time = s.time ∧ (standbyDue q d s).resetCause = s.resetCause := by
  unfold standbyDue
  (try dsimp only)
  (repeat' split) <;> simp

@[simp] theorem openDrop_clock (p d : Nat) (s : State) :
    (openDrop p d s).time = s.time ∧ (openDrop p d s).resetCause = s.resetCause := by simp [openDrop]

@[simp] theorem resetRx_clock (p : Nat) (idle : Bool) (s : State) :
    (resetRx p idle s).time = s.time ∧ (resetRx p idle s).resetCause = s.resetCause := by simp [resetRx]

@[simp] theorem branchCycle_clock (p : Nat) (s : State) :
    (branchCycle p s).time = s.time ∧ (branchCycle p s).resetCause = s.resetCause := by simp [branchCycle]

@[simp] theorem countShort_clock (p : Nat) (s : State) :
    (countShort p s).time = s.time ∧ (countShort p s).resetCause = s.resetCause := by simp [countShort]

@[simp] theorem passBeacon_clock (p : Nat) (s : State) :
    (passBeacon p s).time = s.time ∧ (passBeacon p s).resetCause = s.resetCause := by simp [passBeacon]

@[simp] theorem injectedRaise_clock (s : State) :
    (injectedRaise s).time = s.time ∧ (injectedRaise s).resetCause = s.resetCause := by unfold injectedRaise; (repeat' split) <;> simp

end Sys2Proof.Machine
end

