-- ==== Sys2Proof/Laws/State.lean ====
section
/-! SUPPORT. The named writes over the state: which fields each leaves alone, and a read after a write. -/

namespace Sys2Proof.Machine

variable (s : State)

/-! ## setReg -/

@[simp] theorem State.setReg_pending (code inst : Nat) (v : Int) : (s.setReg code inst v).pending = s.pending := (rfl)
@[simp] theorem State.setReg_free (code inst : Nat) (v : Int) : (s.setReg code inst v).free = s.free := (rfl)
@[simp] theorem State.setReg_doms (code inst : Nat) (v : Int) : (s.setReg code inst v).doms = s.doms := (rfl)
@[simp] theorem State.setReg_resetCause (code inst : Nat) (v : Int) : (s.setReg code inst v).resetCause = s.resetCause := (rfl)
@[simp] theorem State.setReg_mgmt (code inst : Nat) (v : Int) : (s.setReg code inst v).mgmt = s.mgmt := (rfl)
@[simp] theorem State.setReg_spi (code inst : Nat) (v : Int) : (s.setReg code inst v).spi = s.spi := (rfl)
@[simp] theorem State.setReg_time (code inst : Nat) (v : Int) : (s.setReg code inst v).time = s.time := (rfl)
@[simp] theorem State.setReg_aon (code inst : Nat) (v : Int) : (s.setReg code inst v).aon = s.aon := (rfl)
@[simp] theorem State.setReg_ports (code inst : Nat) (v : Int) : (s.setReg code inst v).ports = s.ports := (rfl)
@[simp] theorem State.setReg_ctxs (code inst : Nat) (v : Int) : (s.setReg code inst v).ctxs = s.ctxs := (rfl)
@[simp] theorem State.setReg_cells (code inst : Nat) (v : Int) : (s.setReg code inst v).cells = s.cells := (rfl)
@[simp] theorem State.setReg_oxl (code inst : Nat) (v : Int) : (s.setReg code inst v).oxl = s.oxl := (rfl)
@[simp] theorem State.setReg_arch (code inst : Nat) (v : Int) : (s.setReg code inst v).arch = s.arch := (rfl)
@[simp] theorem State.setReg_hold (code inst : Nat) (v : Int) : (s.setReg code inst v).hold = s.hold := (rfl)
@[simp] theorem State.setReg_nvm (code inst : Nat) (v : Int) : (s.setReg code inst v).nvm = s.nvm := (rfl)
@[simp] theorem State.setReg_fw (code inst : Nat) (v : Int) : (s.setReg code inst v).fw = s.fw := (rfl)
@[simp] theorem State.setReg_clusters (code inst : Nat) (v : Int) : (s.setReg code inst v).clusters = s.clusters := (rfl)
@[simp] theorem State.setReg_engines (code inst : Nat) (v : Int) : (s.setReg code inst v).engines = s.engines := (rfl)
@[simp] theorem State.setReg_power (code inst : Nat) (v : Int) : (s.setReg code inst v).power = s.power := (rfl)
@[simp] theorem State.setReg_heat (code inst : Nat) (v : Int) : (s.setReg code inst v).heat = s.heat := (rfl)
@[simp] theorem State.setReg_test (code inst : Nat) (v : Int) : (s.setReg code inst v).test = s.test := (rfl)
@[simp] theorem State.setReg_faults (code inst : Nat) (v : Int) : (s.setReg code inst v).faults = s.faults := (rfl)
@[simp] theorem State.setReg_lc (code inst : Nat) (v : Int) : (s.setReg code inst v).lc = s.lc := (rfl)

/-! ## bumpBy -/

@[simp] theorem State.bumpBy_pending (code inst n : Nat) : (s.bumpBy code inst n).pending = s.pending := by unfold State.bumpBy; split <;> rfl
@[simp] theorem State.bumpBy_free (code inst n : Nat) : (s.bumpBy code inst n).free = s.free := by unfold State.bumpBy; split <;> rfl
@[simp] theorem State.bumpBy_doms (code inst n : Nat) : (s.bumpBy code inst n).doms = s.doms := by unfold State.bumpBy; split <;> rfl
@[simp] theorem State.bumpBy_resetCause (code inst n : Nat) : (s.bumpBy code inst n).resetCause = s.resetCause := by unfold State.bumpBy; split <;> rfl
@[simp] theorem State.bumpBy_mgmt (code inst n : Nat) : (s.bumpBy code inst n).mgmt = s.mgmt := by unfold State.bumpBy; split <;> rfl
@[simp] theorem State.bumpBy_spi (code inst n : Nat) : (s.bumpBy code inst n).spi = s.spi := by unfold State.bumpBy; split <;> rfl
@[simp] theorem State.bumpBy_time (code inst n : Nat) : (s.bumpBy code inst n).time = s.time := by unfold State.bumpBy; split <;> rfl
@[simp] theorem State.bumpBy_aon (code inst n : Nat) : (s.bumpBy code inst n).aon = s.aon := by unfold State.bumpBy; split <;> rfl
@[simp] theorem State.bumpBy_ports (code inst n : Nat) : (s.bumpBy code inst n).ports = s.ports := by unfold State.bumpBy; split <;> rfl
@[simp] theorem State.bumpBy_ctxs (code inst n : Nat) : (s.bumpBy code inst n).ctxs = s.ctxs := by unfold State.bumpBy; split <;> rfl
@[simp] theorem State.bumpBy_cells (code inst n : Nat) : (s.bumpBy code inst n).cells = s.cells := by unfold State.bumpBy; split <;> rfl
@[simp] theorem State.bumpBy_oxl (code inst n : Nat) : (s.bumpBy code inst n).oxl = s.oxl := by unfold State.bumpBy; split <;> rfl
@[simp] theorem State.bumpBy_arch (code inst n : Nat) : (s.bumpBy code inst n).arch = s.arch := by unfold State.bumpBy; split <;> rfl
@[simp] theorem State.bumpBy_hold (code inst n : Nat) : (s.bumpBy code inst n).hold = s.hold := by unfold State.bumpBy; split <;> rfl
@[simp] theorem State.bumpBy_nvm (code inst n : Nat) : (s.bumpBy code inst n).nvm = s.nvm := by unfold State.bumpBy; split <;> rfl
@[simp] theorem State.bumpBy_fw (code inst n : Nat) : (s.bumpBy code inst n).fw = s.fw := by unfold State.bumpBy; split <;> rfl
@[simp] theorem State.bumpBy_clusters (code inst n : Nat) : (s.bumpBy code inst n).clusters = s.clusters := by unfold State.bumpBy; split <;> rfl
@[simp] theorem State.bumpBy_engines (code inst n : Nat) : (s.bumpBy code inst n).engines = s.engines := by unfold State.bumpBy; split <;> rfl
@[simp] theorem State.bumpBy_power (code inst n : Nat) : (s.bumpBy code inst n).power = s.power := by unfold State.bumpBy; split <;> rfl
@[simp] theorem State.bumpBy_heat (code inst n : Nat) : (s.bumpBy code inst n).heat = s.heat := by unfold State.bumpBy; split <;> rfl
@[simp] theorem State.bumpBy_test (code inst n : Nat) : (s.bumpBy code inst n).test = s.test := by unfold State.bumpBy; split <;> rfl
@[simp] theorem State.bumpBy_faults (code inst n : Nat) : (s.bumpBy code inst n).faults = s.faults := by unfold State.bumpBy; split <;> rfl
@[simp] theorem State.bumpBy_lc (code inst n : Nat) : (s.bumpBy code inst n).lc = s.lc := by unfold State.bumpBy; split <;> rfl

/-! ## bump -/

@[simp] theorem State.bump_pending (code inst : Nat) : (s.bump code inst).pending = s.pending := State.bumpBy_pending ..
@[simp] theorem State.bump_free (code inst : Nat) : (s.bump code inst).free = s.free := State.bumpBy_free ..
@[simp] theorem State.bump_doms (code inst : Nat) : (s.bump code inst).doms = s.doms := State.bumpBy_doms ..
@[simp] theorem State.bump_resetCause (code inst : Nat) : (s.bump code inst).resetCause = s.resetCause := State.bumpBy_resetCause ..
@[simp] theorem State.bump_mgmt (code inst : Nat) : (s.bump code inst).mgmt = s.mgmt := State.bumpBy_mgmt ..
@[simp] theorem State.bump_spi (code inst : Nat) : (s.bump code inst).spi = s.spi := State.bumpBy_spi ..
@[simp] theorem State.bump_time (code inst : Nat) : (s.bump code inst).time = s.time := State.bumpBy_time ..
@[simp] theorem State.bump_aon (code inst : Nat) : (s.bump code inst).aon = s.aon := State.bumpBy_aon ..
@[simp] theorem State.bump_ports (code inst : Nat) : (s.bump code inst).ports = s.ports := State.bumpBy_ports ..
@[simp] theorem State.bump_ctxs (code inst : Nat) : (s.bump code inst).ctxs = s.ctxs := State.bumpBy_ctxs ..
@[simp] theorem State.bump_cells (code inst : Nat) : (s.bump code inst).cells = s.cells := State.bumpBy_cells ..
@[simp] theorem State.bump_oxl (code inst : Nat) : (s.bump code inst).oxl = s.oxl := State.bumpBy_oxl ..
@[simp] theorem State.bump_arch (code inst : Nat) : (s.bump code inst).arch = s.arch := State.bumpBy_arch ..
@[simp] theorem State.bump_hold (code inst : Nat) : (s.bump code inst).hold = s.hold := State.bumpBy_hold ..
@[simp] theorem State.bump_nvm (code inst : Nat) : (s.bump code inst).nvm = s.nvm := State.bumpBy_nvm ..
@[simp] theorem State.bump_fw (code inst : Nat) : (s.bump code inst).fw = s.fw := State.bumpBy_fw ..
@[simp] theorem State.bump_clusters (code inst : Nat) : (s.bump code inst).clusters = s.clusters := State.bumpBy_clusters ..
@[simp] theorem State.bump_engines (code inst : Nat) : (s.bump code inst).engines = s.engines := State.bumpBy_engines ..
@[simp] theorem State.bump_power (code inst : Nat) : (s.bump code inst).power = s.power := State.bumpBy_power ..
@[simp] theorem State.bump_heat (code inst : Nat) : (s.bump code inst).heat = s.heat := State.bumpBy_heat ..
@[simp] theorem State.bump_test (code inst : Nat) : (s.bump code inst).test = s.test := State.bumpBy_test ..
@[simp] theorem State.bump_faults (code inst : Nat) : (s.bump code inst).faults = s.faults := State.bumpBy_faults ..
@[simp] theorem State.bump_lc (code inst : Nat) : (s.bump code inst).lc = s.lc := State.bumpBy_lc ..

/-! ## setDom -/

@[simp] theorem State.setDom_pending (code inst : Nat) (v : List Byte) : (s.setDom code inst v).pending = s.pending := (rfl)
@[simp] theorem State.setDom_free (code inst : Nat) (v : List Byte) : (s.setDom code inst v).free = s.free := (rfl)
@[simp] theorem State.setDom_regs (code inst : Nat) (v : List Byte) : (s.setDom code inst v).regs = s.regs := (rfl)
@[simp] theorem State.setDom_resetCause (code inst : Nat) (v : List Byte) : (s.setDom code inst v).resetCause = s.resetCause := (rfl)
@[simp] theorem State.setDom_mgmt (code inst : Nat) (v : List Byte) : (s.setDom code inst v).mgmt = s.mgmt := (rfl)
@[simp] theorem State.setDom_spi (code inst : Nat) (v : List Byte) : (s.setDom code inst v).spi = s.spi := (rfl)
@[simp] theorem State.setDom_time (code inst : Nat) (v : List Byte) : (s.setDom code inst v).time = s.time := (rfl)
@[simp] theorem State.setDom_aon (code inst : Nat) (v : List Byte) : (s.setDom code inst v).aon = s.aon := (rfl)
@[simp] theorem State.setDom_ports (code inst : Nat) (v : List Byte) : (s.setDom code inst v).ports = s.ports := (rfl)
@[simp] theorem State.setDom_ctxs (code inst : Nat) (v : List Byte) : (s.setDom code inst v).ctxs = s.ctxs := (rfl)
@[simp] theorem State.setDom_cells (code inst : Nat) (v : List Byte) : (s.setDom code inst v).cells = s.cells := (rfl)
@[simp] theorem State.setDom_oxl (code inst : Nat) (v : List Byte) : (s.setDom code inst v).oxl = s.oxl := (rfl)
@[simp] theorem State.setDom_arch (code inst : Nat) (v : List Byte) : (s.setDom code inst v).arch = s.arch := (rfl)
@[simp] theorem State.setDom_hold (code inst : Nat) (v : List Byte) : (s.setDom code inst v).hold = s.hold := (rfl)
@[simp] theorem State.setDom_nvm (code inst : Nat) (v : List Byte) : (s.setDom code inst v).nvm = s.nvm := (rfl)
@[simp] theorem State.setDom_fw (code inst : Nat) (v : List Byte) : (s.setDom code inst v).fw = s.fw := (rfl)
@[simp] theorem State.setDom_clusters (code inst : Nat) (v : List Byte) : (s.setDom code inst v).clusters = s.clusters := (rfl)
@[simp] theorem State.setDom_engines (code inst : Nat) (v : List Byte) : (s.setDom code inst v).engines = s.engines := (rfl)
@[simp] theorem State.setDom_power (code inst : Nat) (v : List Byte) : (s.setDom code inst v).power = s.power := (rfl)
@[simp] theorem State.setDom_heat (code inst : Nat) (v : List Byte) : (s.setDom code inst v).heat = s.heat := (rfl)
@[simp] theorem State.setDom_test (code inst : Nat) (v : List Byte) : (s.setDom code inst v).test = s.test := (rfl)
@[simp] theorem State.setDom_faults (code inst : Nat) (v : List Byte) : (s.setDom code inst v).faults = s.faults := (rfl)
@[simp] theorem State.setDom_lc (code inst : Nat) (v : List Byte) : (s.setDom code inst v).lc = s.lc := (rfl)

/-! ## setPort -/

@[simp] theorem State.setPort_pending (p : Nat) (x : PortSt) : (s.setPort p x).pending = s.pending := (rfl)
@[simp] theorem State.setPort_free (p : Nat) (x : PortSt) : (s.setPort p x).free = s.free := (rfl)
@[simp] theorem State.setPort_regs (p : Nat) (x : PortSt) : (s.setPort p x).regs = s.regs := (rfl)
@[simp] theorem State.setPort_doms (p : Nat) (x : PortSt) : (s.setPort p x).doms = s.doms := (rfl)
@[simp] theorem State.setPort_resetCause (p : Nat) (x : PortSt) : (s.setPort p x).resetCause = s.resetCause := (rfl)
@[simp] theorem State.setPort_mgmt (p : Nat) (x : PortSt) : (s.setPort p x).mgmt = s.mgmt := (rfl)
@[simp] theorem State.setPort_spi (p : Nat) (x : PortSt) : (s.setPort p x).spi = s.spi := (rfl)
@[simp] theorem State.setPort_time (p : Nat) (x : PortSt) : (s.setPort p x).time = s.time := (rfl)
@[simp] theorem State.setPort_aon (p : Nat) (x : PortSt) : (s.setPort p x).aon = s.aon := (rfl)
@[simp] theorem State.setPort_ctxs (p : Nat) (x : PortSt) : (s.setPort p x).ctxs = s.ctxs := (rfl)
@[simp] theorem State.setPort_cells (p : Nat) (x : PortSt) : (s.setPort p x).cells = s.cells := (rfl)
@[simp] theorem State.setPort_oxl (p : Nat) (x : PortSt) : (s.setPort p x).oxl = s.oxl := (rfl)
@[simp] theorem State.setPort_arch (p : Nat) (x : PortSt) : (s.setPort p x).arch = s.arch := (rfl)
@[simp] theorem State.setPort_hold (p : Nat) (x : PortSt) : (s.setPort p x).hold = s.hold := (rfl)
@[simp] theorem State.setPort_nvm (p : Nat) (x : PortSt) : (s.setPort p x).nvm = s.nvm := (rfl)
@[simp] theorem State.setPort_fw (p : Nat) (x : PortSt) : (s.setPort p x).fw = s.fw := (rfl)
@[simp] theorem State.setPort_clusters (p : Nat) (x : PortSt) : (s.setPort p x).clusters = s.clusters := (rfl)
@[simp] theorem State.setPort_engines (p : Nat) (x : PortSt) : (s.setPort p x).engines = s.engines := (rfl)
@[simp] theorem State.setPort_power (p : Nat) (x : PortSt) : (s.setPort p x).power = s.power := (rfl)
@[simp] theorem State.setPort_heat (p : Nat) (x : PortSt) : (s.setPort p x).heat = s.heat := (rfl)
@[simp] theorem State.setPort_test (p : Nat) (x : PortSt) : (s.setPort p x).test = s.test := (rfl)
@[simp] theorem State.setPort_faults (p : Nat) (x : PortSt) : (s.setPort p x).faults = s.faults := (rfl)
@[simp] theorem State.setPort_lc (p : Nat) (x : PortSt) : (s.setPort p x).lc = s.lc := (rfl)

/-! ## modPort -/

@[simp] theorem State.modPort_pending (p : Nat) (f : PortSt → PortSt) : (s.modPort p f).pending = s.pending := (rfl)
@[simp] theorem State.modPort_free (p : Nat) (f : PortSt → PortSt) : (s.modPort p f).free = s.free := (rfl)
@[simp] theorem State.modPort_regs (p : Nat) (f : PortSt → PortSt) : (s.modPort p f).regs = s.regs := (rfl)
@[simp] theorem State.modPort_doms (p : Nat) (f : PortSt → PortSt) : (s.modPort p f).doms = s.doms := (rfl)
@[simp] theorem State.modPort_resetCause (p : Nat) (f : PortSt → PortSt) : (s.modPort p f).resetCause = s.resetCause := (rfl)
@[simp] theorem State.modPort_mgmt (p : Nat) (f : PortSt → PortSt) : (s.modPort p f).mgmt = s.mgmt := (rfl)
@[simp] theorem State.modPort_spi (p : Nat) (f : PortSt → PortSt) : (s.modPort p f).spi = s.spi := (rfl)
@[simp] theorem State.modPort_time (p : Nat) (f : PortSt → PortSt) : (s.modPort p f).time = s.time := (rfl)
@[simp] theorem State.modPort_aon (p : Nat) (f : PortSt → PortSt) : (s.modPort p f).aon = s.aon := (rfl)
@[simp] theorem State.modPort_ctxs (p : Nat) (f : PortSt → PortSt) : (s.modPort p f).ctxs = s.ctxs := (rfl)
@[simp] theorem State.modPort_cells (p : Nat) (f : PortSt → PortSt) : (s.modPort p f).cells = s.cells := (rfl)
@[simp] theorem State.modPort_oxl (p : Nat) (f : PortSt → PortSt) : (s.modPort p f).oxl = s.oxl := (rfl)
@[simp] theorem State.modPort_arch (p : Nat) (f : PortSt → PortSt) : (s.modPort p f).arch = s.arch := (rfl)
@[simp] theorem State.modPort_hold (p : Nat) (f : PortSt → PortSt) : (s.modPort p f).hold = s.hold := (rfl)
@[simp] theorem State.modPort_nvm (p : Nat) (f : PortSt → PortSt) : (s.modPort p f).nvm = s.nvm := (rfl)
@[simp] theorem State.modPort_fw (p : Nat) (f : PortSt → PortSt) : (s.modPort p f).fw = s.fw := (rfl)
@[simp] theorem State.modPort_clusters (p : Nat) (f : PortSt → PortSt) : (s.modPort p f).clusters = s.clusters := (rfl)
@[simp] theorem State.modPort_engines (p : Nat) (f : PortSt → PortSt) : (s.modPort p f).engines = s.engines := (rfl)
@[simp] theorem State.modPort_power (p : Nat) (f : PortSt → PortSt) : (s.modPort p f).power = s.power := (rfl)
@[simp] theorem State.modPort_heat (p : Nat) (f : PortSt → PortSt) : (s.modPort p f).heat = s.heat := (rfl)
@[simp] theorem State.modPort_test (p : Nat) (f : PortSt → PortSt) : (s.modPort p f).test = s.test := (rfl)
@[simp] theorem State.modPort_faults (p : Nat) (f : PortSt → PortSt) : (s.modPort p f).faults = s.faults := (rfl)
@[simp] theorem State.modPort_lc (p : Nat) (f : PortSt → PortSt) : (s.modPort p f).lc = s.lc := (rfl)

/-! ## modRx -/

@[simp] theorem State.modRx_pending (p : Nat) (f : RxSt → RxSt) : (s.modRx p f).pending = s.pending := (rfl)
@[simp] theorem State.modRx_free (p : Nat) (f : RxSt → RxSt) : (s.modRx p f).free = s.free := (rfl)
@[simp] theorem State.modRx_regs (p : Nat) (f : RxSt → RxSt) : (s.modRx p f).regs = s.regs := (rfl)
@[simp] theorem State.modRx_doms (p : Nat) (f : RxSt → RxSt) : (s.modRx p f).doms = s.doms := (rfl)
@[simp] theorem State.modRx_resetCause (p : Nat) (f : RxSt → RxSt) : (s.modRx p f).resetCause = s.resetCause := (rfl)
@[simp] theorem State.modRx_mgmt (p : Nat) (f : RxSt → RxSt) : (s.modRx p f).mgmt = s.mgmt := (rfl)
@[simp] theorem State.modRx_spi (p : Nat) (f : RxSt → RxSt) : (s.modRx p f).spi = s.spi := (rfl)
@[simp] theorem State.modRx_time (p : Nat) (f : RxSt → RxSt) : (s.modRx p f).time = s.time := (rfl)
@[simp] theorem State.modRx_aon (p : Nat) (f : RxSt → RxSt) : (s.modRx p f).aon = s.aon := (rfl)
@[simp] theorem State.modRx_ctxs (p : Nat) (f : RxSt → RxSt) : (s.modRx p f).ctxs = s.ctxs := (rfl)
@[simp] theorem State.modRx_cells (p : Nat) (f : RxSt → RxSt) : (s.modRx p f).cells = s.cells := (rfl)
@[simp] theorem State.modRx_oxl (p : Nat) (f : RxSt → RxSt) : (s.modRx p f).oxl = s.oxl := (rfl)
@[simp] theorem State.modRx_arch (p : Nat) (f : RxSt → RxSt) : (s.modRx p f).arch = s.arch := (rfl)
@[simp] theorem State.modRx_hold (p : Nat) (f : RxSt → RxSt) : (s.modRx p f).hold = s.hold := (rfl)
@[simp] theorem State.modRx_nvm (p : Nat) (f : RxSt → RxSt) : (s.modRx p f).nvm = s.nvm := (rfl)
@[simp] theorem State.modRx_fw (p : Nat) (f : RxSt → RxSt) : (s.modRx p f).fw = s.fw := (rfl)
@[simp] theorem State.modRx_clusters (p : Nat) (f : RxSt → RxSt) : (s.modRx p f).clusters = s.clusters := (rfl)
@[simp] theorem State.modRx_engines (p : Nat) (f : RxSt → RxSt) : (s.modRx p f).engines = s.engines := (rfl)
@[simp] theorem State.modRx_power (p : Nat) (f : RxSt → RxSt) : (s.modRx p f).power = s.power := (rfl)
@[simp] theorem State.modRx_heat (p : Nat) (f : RxSt → RxSt) : (s.modRx p f).heat = s.heat := (rfl)
@[simp] theorem State.modRx_test (p : Nat) (f : RxSt → RxSt) : (s.modRx p f).test = s.test := (rfl)
@[simp] theorem State.modRx_faults (p : Nat) (f : RxSt → RxSt) : (s.modRx p f).faults = s.faults := (rfl)
@[simp] theorem State.modRx_lc (p : Nat) (f : RxSt → RxSt) : (s.modRx p f).lc = s.lc := (rfl)

/-! ## modTrunk -/

@[simp] theorem State.modTrunk_pending (p : Nat) (f : TrunkSt → TrunkSt) : (s.modTrunk p f).pending = s.pending := (rfl)
@[simp] theorem State.modTrunk_free (p : Nat) (f : TrunkSt → TrunkSt) : (s.modTrunk p f).free = s.free := (rfl)
@[simp] theorem State.modTrunk_regs (p : Nat) (f : TrunkSt → TrunkSt) : (s.modTrunk p f).regs = s.regs := (rfl)
@[simp] theorem State.modTrunk_doms (p : Nat) (f : TrunkSt → TrunkSt) : (s.modTrunk p f).doms = s.doms := (rfl)
@[simp] theorem State.modTrunk_resetCause (p : Nat) (f : TrunkSt → TrunkSt) : (s.modTrunk p f).resetCause = s.resetCause := (rfl)
@[simp] theorem State.modTrunk_mgmt (p : Nat) (f : TrunkSt → TrunkSt) : (s.modTrunk p f).mgmt = s.mgmt := (rfl)
@[simp] theorem State.modTrunk_spi (p : Nat) (f : TrunkSt → TrunkSt) : (s.modTrunk p f).spi = s.spi := (rfl)
@[simp] theorem State.modTrunk_time (p : Nat) (f : TrunkSt → TrunkSt) : (s.modTrunk p f).time = s.time := (rfl)
@[simp] theorem State.modTrunk_aon (p : Nat) (f : TrunkSt → TrunkSt) : (s.modTrunk p f).aon = s.aon := (rfl)
@[simp] theorem State.modTrunk_ctxs (p : Nat) (f : TrunkSt → TrunkSt) : (s.modTrunk p f).ctxs = s.ctxs := (rfl)
@[simp] theorem State.modTrunk_cells (p : Nat) (f : TrunkSt → TrunkSt) : (s.modTrunk p f).cells = s.cells := (rfl)
@[simp] theorem State.modTrunk_oxl (p : Nat) (f : TrunkSt → TrunkSt) : (s.modTrunk p f).oxl = s.oxl := (rfl)
@[simp] theorem State.modTrunk_arch (p : Nat) (f : TrunkSt → TrunkSt) : (s.modTrunk p f).arch = s.arch := (rfl)
@[simp] theorem State.modTrunk_hold (p : Nat) (f : TrunkSt → TrunkSt) : (s.modTrunk p f).hold = s.hold := (rfl)
@[simp] theorem State.modTrunk_nvm (p : Nat) (f : TrunkSt → TrunkSt) : (s.modTrunk p f).nvm = s.nvm := (rfl)
@[simp] theorem State.modTrunk_fw (p : Nat) (f : TrunkSt → TrunkSt) : (s.modTrunk p f).fw = s.fw := (rfl)
@[simp] theorem State.modTrunk_clusters (p : Nat) (f : TrunkSt → TrunkSt) : (s.modTrunk p f).clusters = s.clusters := (rfl)
@[simp] theorem State.modTrunk_engines (p : Nat) (f : TrunkSt → TrunkSt) : (s.modTrunk p f).engines = s.engines := (rfl)
@[simp] theorem State.modTrunk_power (p : Nat) (f : TrunkSt → TrunkSt) : (s.modTrunk p f).power = s.power := (rfl)
@[simp] theorem State.modTrunk_heat (p : Nat) (f : TrunkSt → TrunkSt) : (s.modTrunk p f).heat = s.heat := (rfl)
@[simp] theorem State.modTrunk_test (p : Nat) (f : TrunkSt → TrunkSt) : (s.modTrunk p f).test = s.test := (rfl)
@[simp] theorem State.modTrunk_faults (p : Nat) (f : TrunkSt → TrunkSt) : (s.modTrunk p f).faults = s.faults := (rfl)
@[simp] theorem State.modTrunk_lc (p : Nat) (f : TrunkSt → TrunkSt) : (s.modTrunk p f).lc = s.lc := (rfl)

/-! ## modTrav -/

@[simp] theorem State.modTrav_pending (p : Nat) (f : TravSt → TravSt) : (s.modTrav p f).pending = s.pending := (rfl)
@[simp] theorem State.modTrav_free (p : Nat) (f : TravSt → TravSt) : (s.modTrav p f).free = s.free := (rfl)
@[simp] theorem State.modTrav_regs (p : Nat) (f : TravSt → TravSt) : (s.modTrav p f).regs = s.regs := (rfl)
@[simp] theorem State.modTrav_doms (p : Nat) (f : TravSt → TravSt) : (s.modTrav p f).doms = s.doms := (rfl)
@[simp] theorem State.modTrav_resetCause (p : Nat) (f : TravSt → TravSt) : (s.modTrav p f).resetCause = s.resetCause := (rfl)
@[simp] theorem State.modTrav_mgmt (p : Nat) (f : TravSt → TravSt) : (s.modTrav p f).mgmt = s.mgmt := (rfl)
@[simp] theorem State.modTrav_spi (p : Nat) (f : TravSt → TravSt) : (s.modTrav p f).spi = s.spi := (rfl)
@[simp] theorem State.modTrav_time (p : Nat) (f : TravSt → TravSt) : (s.modTrav p f).time = s.time := (rfl)
@[simp] theorem State.modTrav_aon (p : Nat) (f : TravSt → TravSt) : (s.modTrav p f).aon = s.aon := (rfl)
@[simp] theorem State.modTrav_ctxs (p : Nat) (f : TravSt → TravSt) : (s.modTrav p f).ctxs = s.ctxs := (rfl)
@[simp] theorem State.modTrav_cells (p : Nat) (f : TravSt → TravSt) : (s.modTrav p f).cells = s.cells := (rfl)
@[simp] theorem State.modTrav_oxl (p : Nat) (f : TravSt → TravSt) : (s.modTrav p f).oxl = s.oxl := (rfl)
@[simp] theorem State.modTrav_arch (p : Nat) (f : TravSt → TravSt) : (s.modTrav p f).arch = s.arch := (rfl)
@[simp] theorem State.modTrav_hold (p : Nat) (f : TravSt → TravSt) : (s.modTrav p f).hold = s.hold := (rfl)
@[simp] theorem State.modTrav_nvm (p : Nat) (f : TravSt → TravSt) : (s.modTrav p f).nvm = s.nvm := (rfl)
@[simp] theorem State.modTrav_fw (p : Nat) (f : TravSt → TravSt) : (s.modTrav p f).fw = s.fw := (rfl)
@[simp] theorem State.modTrav_clusters (p : Nat) (f : TravSt → TravSt) : (s.modTrav p f).clusters = s.clusters := (rfl)
@[simp] theorem State.modTrav_engines (p : Nat) (f : TravSt → TravSt) : (s.modTrav p f).engines = s.engines := (rfl)
@[simp] theorem State.modTrav_power (p : Nat) (f : TravSt → TravSt) : (s.modTrav p f).power = s.power := (rfl)
@[simp] theorem State.modTrav_heat (p : Nat) (f : TravSt → TravSt) : (s.modTrav p f).heat = s.heat := (rfl)
@[simp] theorem State.modTrav_test (p : Nat) (f : TravSt → TravSt) : (s.modTrav p f).test = s.test := (rfl)
@[simp] theorem State.modTrav_faults (p : Nat) (f : TravSt → TravSt) : (s.modTrav p f).faults = s.faults := (rfl)
@[simp] theorem State.modTrav_lc (p : Nat) (f : TravSt → TravSt) : (s.modTrav p f).lc = s.lc := (rfl)

/-! ## setCtx -/

@[simp] theorem State.setCtx_pending (p d : Nat) (x : Ctx) : (s.setCtx p d x).pending = s.pending := (rfl)
@[simp] theorem State.setCtx_free (p d : Nat) (x : Ctx) : (s.setCtx p d x).free = s.free := (rfl)
@[simp] theorem State.setCtx_regs (p d : Nat) (x : Ctx) : (s.setCtx p d x).regs = s.regs := (rfl)
@[simp] theorem State.setCtx_doms (p d : Nat) (x : Ctx) : (s.setCtx p d x).doms = s.doms := (rfl)
@[simp] theorem State.setCtx_resetCause (p d : Nat) (x : Ctx) : (s.setCtx p d x).resetCause = s.resetCause := (rfl)
@[simp] theorem State.setCtx_mgmt (p d : Nat) (x : Ctx) : (s.setCtx p d x).mgmt = s.mgmt := (rfl)
@[simp] theorem State.setCtx_spi (p d : Nat) (x : Ctx) : (s.setCtx p d x).spi = s.spi := (rfl)
@[simp] theorem State.setCtx_time (p d : Nat) (x : Ctx) : (s.setCtx p d x).time = s.time := (rfl)
@[simp] theorem State.setCtx_aon (p d : Nat) (x : Ctx) : (s.setCtx p d x).aon = s.aon := (rfl)
@[simp] theorem State.setCtx_ports (p d : Nat) (x : Ctx) : (s.setCtx p d x).ports = s.ports := (rfl)
@[simp] theorem State.setCtx_cells (p d : Nat) (x : Ctx) : (s.setCtx p d x).cells = s.cells := (rfl)
@[simp] theorem State.setCtx_oxl (p d : Nat) (x : Ctx) : (s.setCtx p d x).oxl = s.oxl := (rfl)
@[simp] theorem State.setCtx_arch (p d : Nat) (x : Ctx) : (s.setCtx p d x).arch = s.arch := (rfl)
@[simp] theorem State.setCtx_hold (p d : Nat) (x : Ctx) : (s.setCtx p d x).hold = s.hold := (rfl)
@[simp] theorem State.setCtx_nvm (p d : Nat) (x : Ctx) : (s.setCtx p d x).nvm = s.nvm := (rfl)
@[simp] theorem State.setCtx_fw (p d : Nat) (x : Ctx) : (s.setCtx p d x).fw = s.fw := (rfl)
@[simp] theorem State.setCtx_clusters (p d : Nat) (x : Ctx) : (s.setCtx p d x).clusters = s.clusters := (rfl)
@[simp] theorem State.setCtx_engines (p d : Nat) (x : Ctx) : (s.setCtx p d x).engines = s.engines := (rfl)
@[simp] theorem State.setCtx_power (p d : Nat) (x : Ctx) : (s.setCtx p d x).power = s.power := (rfl)
@[simp] theorem State.setCtx_heat (p d : Nat) (x : Ctx) : (s.setCtx p d x).heat = s.heat := (rfl)
@[simp] theorem State.setCtx_test (p d : Nat) (x : Ctx) : (s.setCtx p d x).test = s.test := (rfl)
@[simp] theorem State.setCtx_faults (p d : Nat) (x : Ctx) : (s.setCtx p d x).faults = s.faults := (rfl)
@[simp] theorem State.setCtx_lc (p d : Nat) (x : Ctx) : (s.setCtx p d x).lc = s.lc := (rfl)

/-! ## modCtx -/

@[simp] theorem State.modCtx_pending (p d : Nat) (f : Ctx → Ctx) : (s.modCtx p d f).pending = s.pending := (rfl)
@[simp] theorem State.modCtx_free (p d : Nat) (f : Ctx → Ctx) : (s.modCtx p d f).free = s.free := (rfl)
@[simp] theorem State.modCtx_regs (p d : Nat) (f : Ctx → Ctx) : (s.modCtx p d f).regs = s.regs := (rfl)
@[simp] theorem State.modCtx_doms (p d : Nat) (f : Ctx → Ctx) : (s.modCtx p d f).doms = s.doms := (rfl)
@[simp] theorem State.modCtx_resetCause (p d : Nat) (f : Ctx → Ctx) : (s.modCtx p d f).resetCause = s.resetCause := (rfl)
@[simp] theorem State.modCtx_mgmt (p d : Nat) (f : Ctx → Ctx) : (s.modCtx p d f).mgmt = s.mgmt := (rfl)
@[simp] theorem State.modCtx_spi (p d : Nat) (f : Ctx → Ctx) : (s.modCtx p d f).spi = s.spi := (rfl)
@[simp] theorem State.modCtx_time (p d : Nat) (f : Ctx → Ctx) : (s.modCtx p d f).time = s.time := (rfl)
@[simp] theorem State.modCtx_aon (p d : Nat) (f : Ctx → Ctx) : (s.modCtx p d f).aon = s.aon := (rfl)
@[simp] theorem State.modCtx_ports (p d : Nat) (f : Ctx → Ctx) : (s.modCtx p d f).ports = s.ports := (rfl)
@[simp] theorem State.modCtx_cells (p d : Nat) (f : Ctx → Ctx) : (s.modCtx p d f).cells = s.cells := (rfl)
@[simp] theorem State.modCtx_oxl (p d : Nat) (f : Ctx → Ctx) : (s.modCtx p d f).oxl = s.oxl := (rfl)
@[simp] theorem State.modCtx_arch (p d : Nat) (f : Ctx → Ctx) : (s.modCtx p d f).arch = s.arch := (rfl)
@[simp] theorem State.modCtx_hold (p d : Nat) (f : Ctx → Ctx) : (s.modCtx p d f).hold = s.hold := (rfl)
@[simp] theorem State.modCtx_nvm (p d : Nat) (f : Ctx → Ctx) : (s.modCtx p d f).nvm = s.nvm := (rfl)
@[simp] theorem State.modCtx_fw (p d : Nat) (f : Ctx → Ctx) : (s.modCtx p d f).fw = s.fw := (rfl)
@[simp] theorem State.modCtx_clusters (p d : Nat) (f : Ctx → Ctx) : (s.modCtx p d f).clusters = s.clusters := (rfl)
@[simp] theorem State.modCtx_engines (p d : Nat) (f : Ctx → Ctx) : (s.modCtx p d f).engines = s.engines := (rfl)
@[simp] theorem State.modCtx_power (p d : Nat) (f : Ctx → Ctx) : (s.modCtx p d f).power = s.power := (rfl)
@[simp] theorem State.modCtx_heat (p d : Nat) (f : Ctx → Ctx) : (s.modCtx p d f).heat = s.heat := (rfl)
@[simp] theorem State.modCtx_test (p d : Nat) (f : Ctx → Ctx) : (s.modCtx p d f).test = s.test := (rfl)
@[simp] theorem State.modCtx_faults (p d : Nat) (f : Ctx → Ctx) : (s.modCtx p d f).faults = s.faults := (rfl)
@[simp] theorem State.modCtx_lc (p d : Nat) (f : Ctx → Ctx) : (s.modCtx p d f).lc = s.lc := (rfl)

/-! ## setCluster -/

@[simp] theorem State.setCluster_pending (k : Nat) (x : ClusterSt) : (s.setCluster k x).pending = s.pending := (rfl)
@[simp] theorem State.setCluster_free (k : Nat) (x : ClusterSt) : (s.setCluster k x).free = s.free := (rfl)
@[simp] theorem State.setCluster_regs (k : Nat) (x : ClusterSt) : (s.setCluster k x).regs = s.regs := (rfl)
@[simp] theorem State.setCluster_doms (k : Nat) (x : ClusterSt) : (s.setCluster k x).doms = s.doms := (rfl)
@[simp] theorem State.setCluster_resetCause (k : Nat) (x : ClusterSt) : (s.setCluster k x).resetCause = s.resetCause := (rfl)
@[simp] theorem State.setCluster_mgmt (k : Nat) (x : ClusterSt) : (s.setCluster k x).mgmt = s.mgmt := (rfl)
@[simp] theorem State.setCluster_spi (k : Nat) (x : ClusterSt) : (s.setCluster k x).spi = s.spi := (rfl)
@[simp] theorem State.setCluster_time (k : Nat) (x : ClusterSt) : (s.setCluster k x).time = s.time := (rfl)
@[simp] theorem State.setCluster_aon (k : Nat) (x : ClusterSt) : (s.setCluster k x).aon = s.aon := (rfl)
@[simp] theorem State.setCluster_ports (k : Nat) (x : ClusterSt) : (s.setCluster k x).ports = s.ports := (rfl)
@[simp] theorem State.setCluster_ctxs (k : Nat) (x : ClusterSt) : (s.setCluster k x).ctxs = s.ctxs := (rfl)
@[simp] theorem State.setCluster_cells (k : Nat) (x : ClusterSt) : (s.setCluster k x).cells = s.cells := (rfl)
@[simp] theorem State.setCluster_oxl (k : Nat) (x : ClusterSt) : (s.setCluster k x).oxl = s.oxl := (rfl)
@[simp] theorem State.setCluster_arch (k : Nat) (x : ClusterSt) : (s.setCluster k x).arch = s.arch := (rfl)
@[simp] theorem State.setCluster_hold (k : Nat) (x : ClusterSt) : (s.setCluster k x).hold = s.hold := (rfl)
@[simp] theorem State.setCluster_nvm (k : Nat) (x : ClusterSt) : (s.setCluster k x).nvm = s.nvm := (rfl)
@[simp] theorem State.setCluster_fw (k : Nat) (x : ClusterSt) : (s.setCluster k x).fw = s.fw := (rfl)
@[simp] theorem State.setCluster_engines (k : Nat) (x : ClusterSt) : (s.setCluster k x).engines = s.engines := (rfl)
@[simp] theorem State.setCluster_power (k : Nat) (x : ClusterSt) : (s.setCluster k x).power = s.power := (rfl)
@[simp] theorem State.setCluster_heat (k : Nat) (x : ClusterSt) : (s.setCluster k x).heat = s.heat := (rfl)
@[simp] theorem State.setCluster_test (k : Nat) (x : ClusterSt) : (s.setCluster k x).test = s.test := (rfl)
@[simp] theorem State.setCluster_faults (k : Nat) (x : ClusterSt) : (s.setCluster k x).faults = s.faults := (rfl)
@[simp] theorem State.setCluster_lc (k : Nat) (x : ClusterSt) : (s.setCluster k x).lc = s.lc := (rfl)

/-! ## modCluster -/

@[simp] theorem State.modCluster_pending (k : Nat) (f : ClusterSt → ClusterSt) : (s.modCluster k f).pending = s.pending := (rfl)
@[simp] theorem State.modCluster_free (k : Nat) (f : ClusterSt → ClusterSt) : (s.modCluster k f).free = s.free := (rfl)
@[simp] theorem State.modCluster_regs (k : Nat) (f : ClusterSt → ClusterSt) : (s.modCluster k f).regs = s.regs := (rfl)
@[simp] theorem State.modCluster_doms (k : Nat) (f : ClusterSt → ClusterSt) : (s.modCluster k f).doms = s.doms := (rfl)
@[simp] theorem State.modCluster_resetCause (k : Nat) (f : ClusterSt → ClusterSt) : (s.modCluster k f).resetCause = s.resetCause := (rfl)
@[simp] theorem State.modCluster_mgmt (k : Nat) (f : ClusterSt → ClusterSt) : (s.modCluster k f).mgmt = s.mgmt := (rfl)
@[simp] theorem State.modCluster_spi (k : Nat) (f : ClusterSt → ClusterSt) : (s.modCluster k f).spi = s.spi := (rfl)
@[simp] theorem State.modCluster_time (k : Nat) (f : ClusterSt → ClusterSt) : (s.modCluster k f).time = s.time := (rfl)
@[simp] theorem State.modCluster_aon (k : Nat) (f : ClusterSt → ClusterSt) : (s.modCluster k f).aon = s.aon := (rfl)
@[simp] theorem State.modCluster_ports (k : Nat) (f : ClusterSt → ClusterSt) : (s.modCluster k f).ports = s.ports := (rfl)
@[simp] theorem State.modCluster_ctxs (k : Nat) (f : ClusterSt → ClusterSt) : (s.modCluster k f).ctxs = s.ctxs := (rfl)
@[simp] theorem State.modCluster_cells (k : Nat) (f : ClusterSt → ClusterSt) : (s.modCluster k f).cells = s.cells := (rfl)
@[simp] theorem State.modCluster_oxl (k : Nat) (f : ClusterSt → ClusterSt) : (s.modCluster k f).oxl = s.oxl := (rfl)
@[simp] theorem State.modCluster_arch (k : Nat) (f : ClusterSt → ClusterSt) : (s.modCluster k f).arch = s.arch := (rfl)
@[simp] theorem State.modCluster_hold (k : Nat) (f : ClusterSt → ClusterSt) : (s.modCluster k f).hold = s.hold := (rfl)
@[simp] theorem State.modCluster_nvm (k : Nat) (f : ClusterSt → ClusterSt) : (s.modCluster k f).nvm = s.nvm := (rfl)
@[simp] theorem State.modCluster_fw (k : Nat) (f : ClusterSt → ClusterSt) : (s.modCluster k f).fw = s.fw := (rfl)
@[simp] theorem State.modCluster_engines (k : Nat) (f : ClusterSt → ClusterSt) : (s.modCluster k f).engines = s.engines := (rfl)
@[simp] theorem State.modCluster_power (k : Nat) (f : ClusterSt → ClusterSt) : (s.modCluster k f).power = s.power := (rfl)
@[simp] theorem State.modCluster_heat (k : Nat) (f : ClusterSt → ClusterSt) : (s.modCluster k f).heat = s.heat := (rfl)
@[simp] theorem State.modCluster_test (k : Nat) (f : ClusterSt → ClusterSt) : (s.modCluster k f).test = s.test := (rfl)
@[simp] theorem State.modCluster_faults (k : Nat) (f : ClusterSt → ClusterSt) : (s.modCluster k f).faults = s.faults := (rfl)
@[simp] theorem State.modCluster_lc (k : Nat) (f : ClusterSt → ClusterSt) : (s.modCluster k f).lc = s.lc := (rfl)

/-! ## setEngine -/

@[simp] theorem State.setEngine_pending (e : Nat) (x : EngineSt) : (s.setEngine e x).pending = s.pending := (rfl)
@[simp] theorem State.setEngine_free (e : Nat) (x : EngineSt) : (s.setEngine e x).free = s.free := (rfl)
@[simp] theorem State.setEngine_regs (e : Nat) (x : EngineSt) : (s.setEngine e x).regs = s.regs := (rfl)
@[simp] theorem State.setEngine_doms (e : Nat) (x : EngineSt) : (s.setEngine e x).doms = s.doms := (rfl)
@[simp] theorem State.setEngine_resetCause (e : Nat) (x : EngineSt) : (s.setEngine e x).resetCause = s.resetCause := (rfl)
@[simp] theorem State.setEngine_mgmt (e : Nat) (x : EngineSt) : (s.setEngine e x).mgmt = s.mgmt := (rfl)
@[simp] theorem State.setEngine_spi (e : Nat) (x : EngineSt) : (s.setEngine e x).spi = s.spi := (rfl)
@[simp] theorem State.setEngine_time (e : Nat) (x : EngineSt) : (s.setEngine e x).time = s.time := (rfl)
@[simp] theorem State.setEngine_aon (e : Nat) (x : EngineSt) : (s.setEngine e x).aon = s.aon := (rfl)
@[simp] theorem State.setEngine_ports (e : Nat) (x : EngineSt) : (s.setEngine e x).ports = s.ports := (rfl)
@[simp] theorem State.setEngine_ctxs (e : Nat) (x : EngineSt) : (s.setEngine e x).ctxs = s.ctxs := (rfl)
@[simp] theorem State.setEngine_cells (e : Nat) (x : EngineSt) : (s.setEngine e x).cells = s.cells := (rfl)
@[simp] theorem State.setEngine_oxl (e : Nat) (x : EngineSt) : (s.setEngine e x).oxl = s.oxl := (rfl)
@[simp] theorem State.setEngine_arch (e : Nat) (x : EngineSt) : (s.setEngine e x).arch = s.arch := (rfl)
@[simp] theorem State.setEngine_hold (e : Nat) (x : EngineSt) : (s.setEngine e x).hold = s.hold := (rfl)
@[simp] theorem State.setEngine_nvm (e : Nat) (x : EngineSt) : (s.setEngine e x).nvm = s.nvm := (rfl)
@[simp] theorem State.setEngine_fw (e : Nat) (x : EngineSt) : (s.setEngine e x).fw = s.fw := (rfl)
@[simp] theorem State.setEngine_clusters (e : Nat) (x : EngineSt) : (s.setEngine e x).clusters = s.clusters := (rfl)
@[simp] theorem State.setEngine_power (e : Nat) (x : EngineSt) : (s.setEngine e x).power = s.power := (rfl)
@[simp] theorem State.setEngine_heat (e : Nat) (x : EngineSt) : (s.setEngine e x).heat = s.heat := (rfl)
@[simp] theorem State.setEngine_test (e : Nat) (x : EngineSt) : (s.setEngine e x).test = s.test := (rfl)
@[simp] theorem State.setEngine_faults (e : Nat) (x : EngineSt) : (s.setEngine e x).faults = s.faults := (rfl)
@[simp] theorem State.setEngine_lc (e : Nat) (x : EngineSt) : (s.setEngine e x).lc = s.lc := (rfl)

/-! ## modEngine -/

@[simp] theorem State.modEngine_pending (e : Nat) (f : EngineSt → EngineSt) : (s.modEngine e f).pending = s.pending := (rfl)
@[simp] theorem State.modEngine_free (e : Nat) (f : EngineSt → EngineSt) : (s.modEngine e f).free = s.free := (rfl)
@[simp] theorem State.modEngine_regs (e : Nat) (f : EngineSt → EngineSt) : (s.modEngine e f).regs = s.regs := (rfl)
@[simp] theorem State.modEngine_doms (e : Nat) (f : EngineSt → EngineSt) : (s.modEngine e f).doms = s.doms := (rfl)
@[simp] theorem State.modEngine_resetCause (e : Nat) (f : EngineSt → EngineSt) : (s.modEngine e f).resetCause = s.resetCause := (rfl)
@[simp] theorem State.modEngine_mgmt (e : Nat) (f : EngineSt → EngineSt) : (s.modEngine e f).mgmt = s.mgmt := (rfl)
@[simp] theorem State.modEngine_spi (e : Nat) (f : EngineSt → EngineSt) : (s.modEngine e f).spi = s.spi := (rfl)
@[simp] theorem State.modEngine_time (e : Nat) (f : EngineSt → EngineSt) : (s.modEngine e f).time = s.time := (rfl)
@[simp] theorem State.modEngine_aon (e : Nat) (f : EngineSt → EngineSt) : (s.modEngine e f).aon = s.aon := (rfl)
@[simp] theorem State.modEngine_ports (e : Nat) (f : EngineSt → EngineSt) : (s.modEngine e f).ports = s.ports := (rfl)
@[simp] theorem State.modEngine_ctxs (e : Nat) (f : EngineSt → EngineSt) : (s.modEngine e f).ctxs = s.ctxs := (rfl)
@[simp] theorem State.modEngine_cells (e : Nat) (f : EngineSt → EngineSt) : (s.modEngine e f).cells = s.cells := (rfl)
@[simp] theorem State.modEngine_oxl (e : Nat) (f : EngineSt → EngineSt) : (s.modEngine e f).oxl = s.oxl := (rfl)
@[simp] theorem State.modEngine_arch (e : Nat) (f : EngineSt → EngineSt) : (s.modEngine e f).arch = s.arch := (rfl)
@[simp] theorem State.modEngine_hold (e : Nat) (f : EngineSt → EngineSt) : (s.modEngine e f).hold = s.hold := (rfl)
@[simp] theorem State.modEngine_nvm (e : Nat) (f : EngineSt → EngineSt) : (s.modEngine e f).nvm = s.nvm := (rfl)
@[simp] theorem State.modEngine_fw (e : Nat) (f : EngineSt → EngineSt) : (s.modEngine e f).fw = s.fw := (rfl)
@[simp] theorem State.modEngine_clusters (e : Nat) (f : EngineSt → EngineSt) : (s.modEngine e f).clusters = s.clusters := (rfl)
@[simp] theorem State.modEngine_power (e : Nat) (f : EngineSt → EngineSt) : (s.modEngine e f).power = s.power := (rfl)
@[simp] theorem State.modEngine_heat (e : Nat) (f : EngineSt → EngineSt) : (s.modEngine e f).heat = s.heat := (rfl)
@[simp] theorem State.modEngine_test (e : Nat) (f : EngineSt → EngineSt) : (s.modEngine e f).test = s.test := (rfl)
@[simp] theorem State.modEngine_faults (e : Nat) (f : EngineSt → EngineSt) : (s.modEngine e f).faults = s.faults := (rfl)
@[simp] theorem State.modEngine_lc (e : Nat) (f : EngineSt → EngineSt) : (s.modEngine e f).lc = s.lc := (rfl)

/-! ## setLink -/

@[simp] theorem State.setLink_pending (l : Link) (x : LinkSt) : (s.setLink l x).pending = s.pending := by cases l <;> rfl
@[simp] theorem State.setLink_free (l : Link) (x : LinkSt) : (s.setLink l x).free = s.free := by cases l <;> rfl
@[simp] theorem State.setLink_regs (l : Link) (x : LinkSt) : (s.setLink l x).regs = s.regs := by cases l <;> rfl
@[simp] theorem State.setLink_doms (l : Link) (x : LinkSt) : (s.setLink l x).doms = s.doms := by cases l <;> rfl
@[simp] theorem State.setLink_resetCause (l : Link) (x : LinkSt) : (s.setLink l x).resetCause = s.resetCause := by cases l <;> rfl
@[simp] theorem State.setLink_mgmt (l : Link) (x : LinkSt) : (s.setLink l x).mgmt = s.mgmt := by cases l <;> rfl
@[simp] theorem State.setLink_spi (l : Link) (x : LinkSt) : (s.setLink l x).spi = s.spi := by cases l <;> rfl
@[simp] theorem State.setLink_time (l : Link) (x : LinkSt) : (s.setLink l x).time = s.time := by cases l <;> rfl
@[simp] theorem State.setLink_aon (l : Link) (x : LinkSt) : (s.setLink l x).aon = s.aon := by cases l <;> rfl
@[simp] theorem State.setLink_ports (l : Link) (x : LinkSt) : (s.setLink l x).ports = s.ports := by cases l <;> rfl
@[simp] theorem State.setLink_ctxs (l : Link) (x : LinkSt) : (s.setLink l x).ctxs = s.ctxs := by cases l <;> rfl
@[simp] theorem State.setLink_cells (l : Link) (x : LinkSt) : (s.setLink l x).cells = s.cells := by cases l <;> rfl
@[simp] theorem State.setLink_arch (l : Link) (x : LinkSt) : (s.setLink l x).arch = s.arch := by cases l <;> rfl
@[simp] theorem State.setLink_hold (l : Link) (x : LinkSt) : (s.setLink l x).hold = s.hold := by cases l <;> rfl
@[simp] theorem State.setLink_nvm (l : Link) (x : LinkSt) : (s.setLink l x).nvm = s.nvm := by cases l <;> rfl
@[simp] theorem State.setLink_fw (l : Link) (x : LinkSt) : (s.setLink l x).fw = s.fw := by cases l <;> rfl
@[simp] theorem State.setLink_clusters (l : Link) (x : LinkSt) : (s.setLink l x).clusters = s.clusters := by cases l <;> rfl
@[simp] theorem State.setLink_engines (l : Link) (x : LinkSt) : (s.setLink l x).engines = s.engines := by cases l <;> rfl
@[simp] theorem State.setLink_power (l : Link) (x : LinkSt) : (s.setLink l x).power = s.power := by cases l <;> rfl
@[simp] theorem State.setLink_heat (l : Link) (x : LinkSt) : (s.setLink l x).heat = s.heat := by cases l <;> rfl
@[simp] theorem State.setLink_test (l : Link) (x : LinkSt) : (s.setLink l x).test = s.test := by cases l <;> rfl
@[simp] theorem State.setLink_faults (l : Link) (x : LinkSt) : (s.setLink l x).faults = s.faults := by cases l <;> rfl
@[simp] theorem State.setLink_lc (l : Link) (x : LinkSt) : (s.setLink l x).lc = s.lc := by cases l <;> rfl

/-! ## modLink -/

@[simp] theorem State.modLink_pending (l : Link) (f : LinkSt → LinkSt) : (s.modLink l f).pending = s.pending := State.setLink_pending ..
@[simp] theorem State.modLink_free (l : Link) (f : LinkSt → LinkSt) : (s.modLink l f).free = s.free := State.setLink_free ..
@[simp] theorem State.modLink_regs (l : Link) (f : LinkSt → LinkSt) : (s.modLink l f).regs = s.regs := State.setLink_regs ..
@[simp] theorem State.modLink_doms (l : Link) (f : LinkSt → LinkSt) : (s.modLink l f).doms = s.doms := State.setLink_doms ..
@[simp] theorem State.modLink_resetCause (l : Link) (f : LinkSt → LinkSt) : (s.modLink l f).resetCause = s.resetCause := State.setLink_resetCause ..
@[simp] theorem State.modLink_mgmt (l : Link) (f : LinkSt → LinkSt) : (s.modLink l f).mgmt = s.mgmt := State.setLink_mgmt ..
@[simp] theorem State.modLink_spi (l : Link) (f : LinkSt → LinkSt) : (s.modLink l f).spi = s.spi := State.setLink_spi ..
@[simp] theorem State.modLink_time (l : Link) (f : LinkSt → LinkSt) : (s.modLink l f).time = s.time := State.setLink_time ..
@[simp] theorem State.modLink_aon (l : Link) (f : LinkSt → LinkSt) : (s.modLink l f).aon = s.aon := State.setLink_aon ..
@[simp] theorem State.modLink_ports (l : Link) (f : LinkSt → LinkSt) : (s.modLink l f).ports = s.ports := State.setLink_ports ..
@[simp] theorem State.modLink_ctxs (l : Link) (f : LinkSt → LinkSt) : (s.modLink l f).ctxs = s.ctxs := State.setLink_ctxs ..
@[simp] theorem State.modLink_cells (l : Link) (f : LinkSt → LinkSt) : (s.modLink l f).cells = s.cells := State.setLink_cells ..
@[simp] theorem State.modLink_arch (l : Link) (f : LinkSt → LinkSt) : (s.modLink l f).arch = s.arch := State.setLink_arch ..
@[simp] theorem State.modLink_hold (l : Link) (f : LinkSt → LinkSt) : (s.modLink l f).hold = s.hold := State.setLink_hold ..
@[simp] theorem State.modLink_nvm (l : Link) (f : LinkSt → LinkSt) : (s.modLink l f).nvm = s.nvm := State.setLink_nvm ..
@[simp] theorem State.modLink_fw (l : Link) (f : LinkSt → LinkSt) : (s.modLink l f).fw = s.fw := State.setLink_fw ..
@[simp] theorem State.modLink_clusters (l : Link) (f : LinkSt → LinkSt) : (s.modLink l f).clusters = s.clusters := State.setLink_clusters ..
@[simp] theorem State.modLink_engines (l : Link) (f : LinkSt → LinkSt) : (s.modLink l f).engines = s.engines := State.setLink_engines ..
@[simp] theorem State.modLink_power (l : Link) (f : LinkSt → LinkSt) : (s.modLink l f).power = s.power := State.setLink_power ..
@[simp] theorem State.modLink_heat (l : Link) (f : LinkSt → LinkSt) : (s.modLink l f).heat = s.heat := State.setLink_heat ..
@[simp] theorem State.modLink_test (l : Link) (f : LinkSt → LinkSt) : (s.modLink l f).test = s.test := State.setLink_test ..
@[simp] theorem State.modLink_faults (l : Link) (f : LinkSt → LinkSt) : (s.modLink l f).faults = s.faults := State.setLink_faults ..
@[simp] theorem State.modLink_lc (l : Link) (f : LinkSt → LinkSt) : (s.modLink l f).lc = s.lc := State.setLink_lc ..

/-! ## setPath -/

@[simp] theorem State.setPath_pending (q : Path) (x : PathSt) : (s.setPath q x).pending = s.pending := by cases q <;> rfl
@[simp] theorem State.setPath_free (q : Path) (x : PathSt) : (s.setPath q x).free = s.free := by cases q <;> rfl
@[simp] theorem State.setPath_regs (q : Path) (x : PathSt) : (s.setPath q x).regs = s.regs := by cases q <;> rfl
@[simp] theorem State.setPath_doms (q : Path) (x : PathSt) : (s.setPath q x).doms = s.doms := by cases q <;> rfl
@[simp] theorem State.setPath_resetCause (q : Path) (x : PathSt) : (s.setPath q x).resetCause = s.resetCause := by cases q <;> rfl
@[simp] theorem State.setPath_spi (q : Path) (x : PathSt) : (s.setPath q x).spi = s.spi := by cases q <;> rfl
@[simp] theorem State.setPath_time (q : Path) (x : PathSt) : (s.setPath q x).time = s.time := by cases q <;> rfl
@[simp] theorem State.setPath_aon (q : Path) (x : PathSt) : (s.setPath q x).aon = s.aon := by cases q <;> rfl
@[simp] theorem State.setPath_ports (q : Path) (x : PathSt) : (s.setPath q x).ports = s.ports := by cases q <;> rfl
@[simp] theorem State.setPath_ctxs (q : Path) (x : PathSt) : (s.setPath q x).ctxs = s.ctxs := by cases q <;> rfl
@[simp] theorem State.setPath_cells (q : Path) (x : PathSt) : (s.setPath q x).cells = s.cells := by cases q <;> rfl
@[simp] theorem State.setPath_oxl (q : Path) (x : PathSt) : (s.setPath q x).oxl = s.oxl := by cases q <;> rfl
@[simp] theorem State.setPath_arch (q : Path) (x : PathSt) : (s.setPath q x).arch = s.arch := by cases q <;> rfl
@[simp] theorem State.setPath_hold (q : Path) (x : PathSt) : (s.setPath q x).hold = s.hold := by cases q <;> rfl
@[simp] theorem State.setPath_nvm (q : Path) (x : PathSt) : (s.setPath q x).nvm = s.nvm := by cases q <;> rfl
@[simp] theorem State.setPath_fw (q : Path) (x : PathSt) : (s.setPath q x).fw = s.fw := by cases q <;> rfl
@[simp] theorem State.setPath_clusters (q : Path) (x : PathSt) : (s.setPath q x).clusters = s.clusters := by cases q <;> rfl
@[simp] theorem State.setPath_engines (q : Path) (x : PathSt) : (s.setPath q x).engines = s.engines := by cases q <;> rfl
@[simp] theorem State.setPath_power (q : Path) (x : PathSt) : (s.setPath q x).power = s.power := by cases q <;> rfl
@[simp] theorem State.setPath_heat (q : Path) (x : PathSt) : (s.setPath q x).heat = s.heat := by cases q <;> rfl
@[simp] theorem State.setPath_test (q : Path) (x : PathSt) : (s.setPath q x).test = s.test := by cases q <;> rfl
@[simp] theorem State.setPath_faults (q : Path) (x : PathSt) : (s.setPath q x).faults = s.faults := by cases q <;> rfl
@[simp] theorem State.setPath_lc (q : Path) (x : PathSt) : (s.setPath q x).lc = s.lc := by cases q <;> rfl

/-! ## modPath -/

@[simp] theorem State.modPath_pending (q : Path) (f : PathSt → PathSt) : (s.modPath q f).pending = s.pending := State.setPath_pending ..
@[simp] theorem State.modPath_free (q : Path) (f : PathSt → PathSt) : (s.modPath q f).free = s.free := State.setPath_free ..
@[simp] theorem State.modPath_regs (q : Path) (f : PathSt → PathSt) : (s.modPath q f).regs = s.regs := State.setPath_regs ..
@[simp] theorem State.modPath_doms (q : Path) (f : PathSt → PathSt) : (s.modPath q f).doms = s.doms := State.setPath_doms ..
@[simp] theorem State.modPath_resetCause (q : Path) (f : PathSt → PathSt) : (s.modPath q f).resetCause = s.resetCause := State.setPath_resetCause ..
@[simp] theorem State.modPath_spi (q : Path) (f : PathSt → PathSt) : (s.modPath q f).spi = s.spi := State.setPath_spi ..
@[simp] theorem State.modPath_time (q : Path) (f : PathSt → PathSt) : (s.modPath q f).time = s.time := State.setPath_time ..
@[simp] theorem State.modPath_aon (q : Path) (f : PathSt → PathSt) : (s.modPath q f).aon = s.aon := State.setPath_aon ..
@[simp] theorem State.modPath_ports (q : Path) (f : PathSt → PathSt) : (s.modPath q f).ports = s.ports := State.setPath_ports ..
@[simp] theorem State.modPath_ctxs (q : Path) (f : PathSt → PathSt) : (s.modPath q f).ctxs = s.ctxs := State.setPath_ctxs ..
@[simp] theorem State.modPath_cells (q : Path) (f : PathSt → PathSt) : (s.modPath q f).cells = s.cells := State.setPath_cells ..
@[simp] theorem State.modPath_oxl (q : Path) (f : PathSt → PathSt) : (s.modPath q f).oxl = s.oxl := State.setPath_oxl ..
@[simp] theorem State.modPath_arch (q : Path) (f : PathSt → PathSt) : (s.modPath q f).arch = s.arch := State.setPath_arch ..
@[simp] theorem State.modPath_hold (q : Path) (f : PathSt → PathSt) : (s.modPath q f).hold = s.hold := State.setPath_hold ..
@[simp] theorem State.modPath_nvm (q : Path) (f : PathSt → PathSt) : (s.modPath q f).nvm = s.nvm := State.setPath_nvm ..
@[simp] theorem State.modPath_fw (q : Path) (f : PathSt → PathSt) : (s.modPath q f).fw = s.fw := State.setPath_fw ..
@[simp] theorem State.modPath_clusters (q : Path) (f : PathSt → PathSt) : (s.modPath q f).clusters = s.clusters := State.setPath_clusters ..
@[simp] theorem State.modPath_engines (q : Path) (f : PathSt → PathSt) : (s.modPath q f).engines = s.engines := State.setPath_engines ..
@[simp] theorem State.modPath_power (q : Path) (f : PathSt → PathSt) : (s.modPath q f).power = s.power := State.setPath_power ..
@[simp] theorem State.modPath_heat (q : Path) (f : PathSt → PathSt) : (s.modPath q f).heat = s.heat := State.setPath_heat ..
@[simp] theorem State.modPath_test (q : Path) (f : PathSt → PathSt) : (s.modPath q f).test = s.test := State.setPath_test ..
@[simp] theorem State.modPath_faults (q : Path) (f : PathSt → PathSt) : (s.modPath q f).faults = s.faults := State.setPath_faults ..
@[simp] theorem State.modPath_lc (q : Path) (f : PathSt → PathSt) : (s.modPath q f).lc = s.lc := State.setPath_lc ..

/-! ## setSensor -/

@[simp] theorem State.setSensor_pending (n : Nat) (x : SensorSt) : (s.setSensor n x).pending = s.pending := (rfl)
@[simp] theorem State.setSensor_free (n : Nat) (x : SensorSt) : (s.setSensor n x).free = s.free := (rfl)
@[simp] theorem State.setSensor_regs (n : Nat) (x : SensorSt) : (s.setSensor n x).regs = s.regs := (rfl)
@[simp] theorem State.setSensor_doms (n : Nat) (x : SensorSt) : (s.setSensor n x).doms = s.doms := (rfl)
@[simp] theorem State.setSensor_resetCause (n : Nat) (x : SensorSt) : (s.setSensor n x).resetCause = s.resetCause := (rfl)
@[simp] theorem State.setSensor_mgmt (n : Nat) (x : SensorSt) : (s.setSensor n x).mgmt = s.mgmt := (rfl)
@[simp] theorem State.setSensor_spi (n : Nat) (x : SensorSt) : (s.setSensor n x).spi = s.spi := (rfl)
@[simp] theorem State.setSensor_time (n : Nat) (x : SensorSt) : (s.setSensor n x).time = s.time := (rfl)
@[simp] theorem State.setSensor_aon (n : Nat) (x : SensorSt) : (s.setSensor n x).aon = s.aon := (rfl)
@[simp] theorem State.setSensor_ports (n : Nat) (x : SensorSt) : (s.setSensor n x).ports = s.ports := (rfl)
@[simp] theorem State.setSensor_ctxs (n : Nat) (x : SensorSt) : (s.setSensor n x).ctxs = s.ctxs := (rfl)
@[simp] theorem State.setSensor_cells (n : Nat) (x : SensorSt) : (s.setSensor n x).cells = s.cells := (rfl)
@[simp] theorem State.setSensor_oxl (n : Nat) (x : SensorSt) : (s.setSensor n x).oxl = s.oxl := (rfl)
@[simp] theorem State.setSensor_arch (n : Nat) (x : SensorSt) : (s.setSensor n x).arch = s.arch := (rfl)
@[simp] theorem State.setSensor_hold (n : Nat) (x : SensorSt) : (s.setSensor n x).hold = s.hold := (rfl)
@[simp] theorem State.setSensor_nvm (n : Nat) (x : SensorSt) : (s.setSensor n x).nvm = s.nvm := (rfl)
@[simp] theorem State.setSensor_fw (n : Nat) (x : SensorSt) : (s.setSensor n x).fw = s.fw := (rfl)
@[simp] theorem State.setSensor_clusters (n : Nat) (x : SensorSt) : (s.setSensor n x).clusters = s.clusters := (rfl)
@[simp] theorem State.setSensor_engines (n : Nat) (x : SensorSt) : (s.setSensor n x).engines = s.engines := (rfl)
@[simp] theorem State.setSensor_power (n : Nat) (x : SensorSt) : (s.setSensor n x).power = s.power := (rfl)
@[simp] theorem State.setSensor_test (n : Nat) (x : SensorSt) : (s.setSensor n x).test = s.test := (rfl)
@[simp] theorem State.setSensor_faults (n : Nat) (x : SensorSt) : (s.setSensor n x).faults = s.faults := (rfl)
@[simp] theorem State.setSensor_lc (n : Nat) (x : SensorSt) : (s.setSensor n x).lc = s.lc := (rfl)

/-! ## A read after a write -/

@[simp] theorem State.port_setPort (p : Nat) (x : PortSt) : (s.setPort p x).port p = x := Tab.get_put_self ..
theorem State.port_setPort_ne {p q : Nat} (x : PortSt) (h : q ≠ p) : (s.setPort p x).port q = s.port q :=
  Tab.get_put_ne _ _ _ h
@[simp] theorem State.port_modPort (p : Nat) (f : PortSt → PortSt) : (s.modPort p f).port p = f (s.port p) :=
  State.port_setPort ..
theorem State.port_modPort_ne {p q : Nat} (f : PortSt → PortSt) (h : q ≠ p) : (s.modPort p f).port q = s.port q :=
  State.port_setPort_ne _ _ h
@[simp] theorem State.port_modRx (p : Nat) (f : RxSt → RxSt) :
    (s.modRx p f).port p = { s.port p with rx := f (s.port p).rx } := State.port_modPort ..
@[simp] theorem State.port_modTrunk (p : Nat) (f : TrunkSt → TrunkSt) :
    (s.modTrunk p f).port p = { s.port p with trunk := f (s.port p).trunk } := State.port_modPort ..
@[simp] theorem State.port_modTrav (p : Nat) (f : TravSt → TravSt) :
    (s.modTrav p f).port p = { s.port p with trav := f (s.port p).trav } := State.port_modPort ..
@[simp] theorem State.ctx_setCtx (p d : Nat) (x : Ctx) : (s.setCtx p d x).ctx p d = x := Tab.get_put_self ..
theorem State.ctx_setCtx_ne {p d q e : Nat} (x : Ctx) (h : dropKey q e ≠ dropKey p d) :
    (s.setCtx p d x).ctx q e = s.ctx q e := Tab.get_put_ne _ _ _ h
@[simp] theorem State.ctx_modCtx (p d : Nat) (f : Ctx → Ctx) : (s.modCtx p d f).ctx p d = f (s.ctx p d) :=
  State.ctx_setCtx ..
theorem State.ctx_modCtx_ne {p d q e : Nat} (f : Ctx → Ctx) (h : dropKey q e ≠ dropKey p d) :
    (s.modCtx p d f).ctx q e = s.ctx q e := State.ctx_setCtx_ne _ _ h
@[simp] theorem State.cluster_setCluster (k : Nat) (x : ClusterSt) : (s.setCluster k x).cluster k = x :=
  Tab.get_put_self ..
theorem State.cluster_setCluster_ne {k j : Nat} (x : ClusterSt) (h : j ≠ k) :
    (s.setCluster k x).cluster j = s.cluster j := Tab.get_put_ne _ _ _ h
@[simp] theorem State.cluster_modCluster (k : Nat) (f : ClusterSt → ClusterSt) :
    (s.modCluster k f).cluster k = f (s.cluster k) := State.cluster_setCluster ..
@[simp] theorem State.engine_setEngine (e : Nat) (x : EngineSt) : (s.setEngine e x).engine e = x := Tab.get_put_self ..
theorem State.engine_setEngine_ne {e f : Nat} (x : EngineSt) (h : f ≠ e) : (s.setEngine e x).engine f = s.engine f :=
  Tab.get_put_ne _ _ _ h
@[simp] theorem State.link_setLink (l : Link) (x : LinkSt) : (s.setLink l x).link l = x := by cases l <;> rfl
@[simp] theorem State.link_modLink (l : Link) (f : LinkSt → LinkSt) : (s.modLink l f).link l = f (s.link l) :=
  State.link_setLink ..
@[simp] theorem State.link_modLink_other (l : Link) (f : LinkSt → LinkSt) :
    (s.modLink l f).link (otherLink l) = s.link (otherLink l) := by cases l <;> rfl
@[simp] theorem State.path_setPath (q : Path) (x : PathSt) : (s.setPath q x).path q = x := by cases q <;> rfl
@[simp] theorem State.path_modPath (q : Path) (f : PathSt → PathSt) : (s.modPath q f).path q = f (s.path q) :=
  State.path_setPath ..
@[simp] theorem State.sensor_setSensor (n : Nat) (x : SensorSt) : (s.setSensor n x).sensor n = x := Tab.get_put_self ..

@[simp] theorem State.regWritten_setReg (code inst : Nat) (v : Int) :
    (s.setReg code inst v).regWritten code inst = some v := Tab.find_put_self ..
@[simp] theorem State.reg_setReg (code inst : Nat) (v : Int) : (s.setReg code inst v).reg code inst = v := by
  simp [State.reg]
@[simp] theorem State.regN_setReg (code inst : Nat) (v : Int) : (s.setReg code inst v).regN code inst = v.toNat := by
  simp [State.regN]
theorem State.regWritten_setReg_ne {code inst c i : Nat} (v : Int) (h : objKey c i ≠ objKey code inst) :
    (s.setReg code inst v).regWritten c i = s.regWritten c i := Tab.find_put_ne _ _ h

/-- A counter after events counts them, up to its maximum (R6). -/
theorem State.regN_bumpBy (code inst n : Nat) (h : s.regN code inst ≤ 2 ^ 32 - 1) :
    (s.bumpBy code inst n).regN code inst = min (s.regN code inst + n) (2 ^ 32 - 1) := by
  unfold State.bumpBy
  split
  · omega
  · rw [State.regN_setReg]; omega

end Sys2Proof.Machine
end

