-- ==== Sys2Proof/Laws/Collector.lean ====
section
/-! SUPPORT. What the collector's work at the end of a command may change: the held raises and records, the counters of
FAULT_TABLE, of injections and of dropped status messages, the status queues of the links, and, at a Fatal stop, what
R416 says. Everything else stays. -/

namespace Sys2Proof.Machine

@[simp] theorem pushStatus_pending (x : OutFrame) (l : Link) (s : State) : (pushStatus x l s).pending = s.pending := by
  unfold pushStatus; split <;> simp
@[simp] theorem pushStatus_free (x : OutFrame) (l : Link) (s : State) : (pushStatus x l s).free = s.free := by
  unfold pushStatus; split <;> simp
@[simp] theorem pushStatus_doms (x : OutFrame) (l : Link) (s : State) : (pushStatus x l s).doms = s.doms := by
  unfold pushStatus; split <;> simp
@[simp] theorem pushStatus_resetCause (x : OutFrame) (l : Link) (s : State) : (pushStatus x l s).resetCause = s.resetCause := by
  unfold pushStatus; split <;> simp
@[simp] theorem pushStatus_mgmt (x : OutFrame) (l : Link) (s : State) : (pushStatus x l s).mgmt = s.mgmt := by
  unfold pushStatus; split <;> simp
@[simp] theorem pushStatus_spi (x : OutFrame) (l : Link) (s : State) : (pushStatus x l s).spi = s.spi := by
  unfold pushStatus; split <;> simp
@[simp] theorem pushStatus_time (x : OutFrame) (l : Link) (s : State) : (pushStatus x l s).time = s.time := by
  unfold pushStatus; split <;> simp
@[simp] theorem pushStatus_ports (x : OutFrame) (l : Link) (s : State) : (pushStatus x l s).ports = s.ports := by
  unfold pushStatus; split <;> simp
@[simp] theorem pushStatus_ctxs (x : OutFrame) (l : Link) (s : State) : (pushStatus x l s).ctxs = s.ctxs := by
  unfold pushStatus; split <;> simp
@[simp] theorem pushStatus_cells (x : OutFrame) (l : Link) (s : State) : (pushStatus x l s).cells = s.cells := by
  unfold pushStatus; split <;> simp
@[simp] theorem pushStatus_arch (x : OutFrame) (l : Link) (s : State) : (pushStatus x l s).arch = s.arch := by
  unfold pushStatus; split <;> simp
@[simp] theorem pushStatus_hold (x : OutFrame) (l : Link) (s : State) : (pushStatus x l s).hold = s.hold := by
  unfold pushStatus; split <;> simp
@[simp] theorem pushStatus_nvm (x : OutFrame) (l : Link) (s : State) : (pushStatus x l s).nvm = s.nvm := by
  unfold pushStatus; split <;> simp
@[simp] theorem pushStatus_fw (x : OutFrame) (l : Link) (s : State) : (pushStatus x l s).fw = s.fw := by
  unfold pushStatus; split <;> simp
@[simp] theorem pushStatus_clusters (x : OutFrame) (l : Link) (s : State) : (pushStatus x l s).clusters = s.clusters := by
  unfold pushStatus; split <;> simp
@[simp] theorem pushStatus_engines (x : OutFrame) (l : Link) (s : State) : (pushStatus x l s).engines = s.engines := by
  unfold pushStatus; split <;> simp
@[simp] theorem pushStatus_power (x : OutFrame) (l : Link) (s : State) : (pushStatus x l s).power = s.power := by
  unfold pushStatus; split <;> simp
@[simp] theorem pushStatus_heat (x : OutFrame) (l : Link) (s : State) : (pushStatus x l s).heat = s.heat := by
  unfold pushStatus; split <;> simp
@[simp] theorem pushStatus_test (x : OutFrame) (l : Link) (s : State) : (pushStatus x l s).test = s.test := by
  unfold pushStatus; split <;> simp
@[simp] theorem pushStatus_lc (x : OutFrame) (l : Link) (s : State) : (pushStatus x l s).lc = s.lc := by
  unfold pushStatus; split <;> simp

/-- A fold keeps what every step of it keeps. -/
theorem forAll_keeps {α β : Type} (g : State → β) (xs : List α) (f : α → State → State) (h : ∀ x t, g (f x t) = g t)
    (s : State) : g (forAll xs f s) = g s := by
  induction xs generalizing s with
  | nil => rfl
  | cons x xs ih => exact (ih (f x s)).trans (h x s)

/-- What a status message leaves alone: every field but the counters and the links. -/
theorem sendStatus_keeps {β : Type} (g : State → β) (h : ∀ x l t, g (pushStatus x l t) = g t)
    (ho : ∀ (t : State) (n : Nat), g { t with oxl := { t.oxl with seq := n } } = g t) (links : List Link) (kind port drop epoch : Nat)
    (body : List Byte) (s : State) : g (sendStatus links kind port drop epoch body s) = g s := by
  unfold sendStatus
  exact (ho _ _).trans (forAll_keeps g _ _ (fun l t => h _ l t) s)

/-- What the collector leaves alone: what a status message, the held raises, the always-on records and the injection
counter leave alone, and what the Fatal stop leaves alone. -/
theorem collect_keeps {β : Type} (g : State → β) (h : ∀ x l t, g (pushStatus x l t) = g t)
    (ho : ∀ (t : State) (n : Nat), g { t with oxl := { t.oxl with seq := n } } = g t)
    (hf : ∀ (t : State) (o : FaultSt), g { t with faults := o } = g t)
    (ha : ∀ (t : State) (o : AonSt), g { t with aon := o } = g t)
    (hi : ∀ t : State, g (t.bump Code.injections 0) = g t)
    (hs : ∀ t : State, g (fatalStop t) = g t) (s : State) : g (collect s) = g s := by
  have count : ∀ (o : Occ) (t : State), g (countOcc o t) = g t := by
    intro o t; unfold countOcc; split
    · exact hi t
    · exact ha _ _
  have stamp : ∀ (o : Occ) (t : State), g (stampOcc o t) = g t := fun o t => ha _ _
  have log : ∀ (r : FaultRec) (t : State), g (logFault r t) = g t := fun r t => ha _ _
  have raise : ∀ (o : Occ) (b : Bool) (t : State), g (takeRaise o b t).1 = g t := by
    intro o b t
    have hold : ∀ (c : Prop) [Decidable c] (u : State) (r : Raise),
        g (if c then { u with faults := { u.faults with held := u.faults.held ++ [r] } } else u) = g u := by
      intro c _ u r; split
      · exact hf _ _
      · rfl
    have first : ∀ (u : State) (x : Capture) (y : Capture → Capture), g (match u.aon.capture with
        | none => { u with aon := { u.aon with capture := some x } }
        | some c => if b then { u with aon := { u.aon with capture := some (y c) } } else u) = g u := by
      intro u x y
      split
      · exact ha _ _
      · split
        · exact ha _ _
        · rfl
    exact (log _ _).trans ((first _ _ _).trans ((hold _ _ _).trans ((stamp _ _).trans (count _ _))))
  have rep : ∀ (o : Occ) (t : State), g (takeRepeat o t) = g t := by
    intro o t
    exact (hf _ _).trans ((stamp _ _).trans (count _ _))
  have all : ∀ (os : List Occ) (b : Bool) (t : State), g (takeAll os b t).1 = g t := by
    intro os
    induction os with
    | nil => intro b t; rfl
    | cons o rest ih =>
      intro b t
      unfold takeAll
      split
      · exact (ih b _).trans (rep o t)
      · exact (ih _ _).trans (raise o b t)
  have report : ∀ (r : FaultRec) (t : State), g (reportFault r t) = g t :=
    fun r t => sendStatus_keeps g h ho _ _ _ _ _ _ t
  have fin : ∀ (os : List Occ) (u : State), g (if (takeAll os false u).2.any (fun x => x.cls == 4) then
      fatalStop (takeAll os false u).1 else forAll (takeAll os false u).2 reportFault (takeAll os false u).1) = g u := by
    intro os u
    split
    · rw [hs, all]
    · rw [forAll_keeps g _ _ report, all]
  unfold collect
  split
  · exact hf _ _
  · exact hf _ _
  · dsimp only
    exact (hf _ _).trans ((fin _ _).trans (hf _ _))

/-- A port as the Fatal stop leaves it: its line driver stops and its bursts are cut (R416). -/
def PortSt.cut (x : PortSt) : PortSt := { x with driverOff := true, onLine := [] }

/-- A cluster as the Fatal stop leaves it: its link and PLL stop (R416). -/
def ClusterSt.unlinked (x : ClusterSt) : ClusterSt := { x with linkOn := false }

/-- The Fatal stop changes the ports, the cluster links, the host links, the archive's commands in flight and the Fatal mark (R416). -/
theorem fatalStop_eq (s : State) : ∃ ps, (∀ p, Tab.get ps p {} = s.port p ∨ Tab.get ps p {} = (s.port p).cut) ∧
    fatalStop s = { s with
      ports := ps
      clusters := s.clusters.map (fun e => (e.1, e.2.unlinked))
      oxl := { s.oxl with a := s.oxl.a.stopped, b := s.oxl.b.stopped }
      arch := { s.arch with inFlight := [], toIssue := [], committing := 0 }
      faults := { s.faults with fatal := true } } := by
  have key : ∀ (qs : List Nat) (t : State), ∃ x,
      (∀ p, Tab.get x p {} = t.port p ∨ Tab.get x p {} = (t.port p).cut) ∧
      forAll qs (fun p t => t.modPort p PortSt.cut) t = { t with ports := x } := by
    intro qs
    induction qs with
    | nil => intro t; exact ⟨t.ports, fun p => .inl rfl, rfl⟩
    | cons q qs ih =>
      intro t
      obtain ⟨x, hp, hx⟩ := ih (t.modPort q PortSt.cut)
      refine ⟨x, fun p => ?_, hx⟩
      by_cases hq : p = q
      · subst hq
        have := hp p
        rw [State.port_modPort] at this
        rcases this with h | h
        · exact .inr h
        · exact .inr h
      · have := hp p
        rwa [State.port_modPort_ne _ _ hq] at this
  obtain ⟨x, hp, hx⟩ := key allPorts s
  refine ⟨x, hp, ?_⟩
  have : fatalStop s = (fun t : State => { t with
      clusters := t.clusters.map (fun e => (e.1, e.2.unlinked))
      oxl := { t.oxl with a := t.oxl.a.stopped, b := t.oxl.b.stopped }
      arch := { t.arch with inFlight := [], toIssue := [], committing := 0 }
      faults := { t.faults with fatal := true } }) (forAll allPorts (fun p t => t.modPort p PortSt.cut) s) := by
    delta fatalStop; rfl
  rw [this, hx]

/-- The Fatal stop on a port (R416). -/
theorem fatalStop_port (s : State) (p : Nat) : (fatalStop s).port p = s.port p ∨ (fatalStop s).port p = (s.port p).cut := by
  obtain ⟨x, hp, hx⟩ := fatalStop_eq s
  rw [hx]
  exact hp p

@[simp] theorem fatalStop_pending (s : State) : (fatalStop s).pending = s.pending := by
  obtain ⟨x, -, hx⟩ := fatalStop_eq s; rw [hx]
@[simp] theorem collect_pending (s : State) : (collect s).pending = s.pending :=
  collect_keeps (fun t => t.pending) (fun x l t => pushStatus_pending x l t) (fun _ _ => rfl) (fun _ _ => rfl) (fun _ _ => rfl)
    (fun t => State.bump_pending t _ _) fatalStop_pending s
@[simp] theorem fatalStop_free (s : State) : (fatalStop s).free = s.free := by
  obtain ⟨x, -, hx⟩ := fatalStop_eq s; rw [hx]
@[simp] theorem collect_free (s : State) : (collect s).free = s.free :=
  collect_keeps (fun t => t.free) (fun x l t => pushStatus_free x l t) (fun _ _ => rfl) (fun _ _ => rfl) (fun _ _ => rfl)
    (fun t => State.bump_free t _ _) fatalStop_free s
@[simp] theorem fatalStop_doms (s : State) : (fatalStop s).doms = s.doms := by
  obtain ⟨x, -, hx⟩ := fatalStop_eq s; rw [hx]
@[simp] theorem collect_doms (s : State) : (collect s).doms = s.doms :=
  collect_keeps (fun t => t.doms) (fun x l t => pushStatus_doms x l t) (fun _ _ => rfl) (fun _ _ => rfl) (fun _ _ => rfl)
    (fun t => State.bump_doms t _ _) fatalStop_doms s
@[simp] theorem fatalStop_resetCause (s : State) : (fatalStop s).resetCause = s.resetCause := by
  obtain ⟨x, -, hx⟩ := fatalStop_eq s; rw [hx]
@[simp] theorem collect_resetCause (s : State) : (collect s).resetCause = s.resetCause :=
  collect_keeps (fun t => t.resetCause) (fun x l t => pushStatus_resetCause x l t) (fun _ _ => rfl) (fun _ _ => rfl) (fun _ _ => rfl)
    (fun t => State.bump_resetCause t _ _) fatalStop_resetCause s
@[simp] theorem fatalStop_mgmt (s : State) : (fatalStop s).mgmt = s.mgmt := by
  obtain ⟨x, -, hx⟩ := fatalStop_eq s; rw [hx]
@[simp] theorem collect_mgmt (s : State) : (collect s).mgmt = s.mgmt :=
  collect_keeps (fun t => t.mgmt) (fun x l t => pushStatus_mgmt x l t) (fun _ _ => rfl) (fun _ _ => rfl) (fun _ _ => rfl)
    (fun t => State.bump_mgmt t _ _) fatalStop_mgmt s
@[simp] theorem fatalStop_spi (s : State) : (fatalStop s).spi = s.spi := by
  obtain ⟨x, -, hx⟩ := fatalStop_eq s; rw [hx]
@[simp] theorem collect_spi (s : State) : (collect s).spi = s.spi :=
  collect_keeps (fun t => t.spi) (fun x l t => pushStatus_spi x l t) (fun _ _ => rfl) (fun _ _ => rfl) (fun _ _ => rfl)
    (fun t => State.bump_spi t _ _) fatalStop_spi s
@[simp] theorem fatalStop_time (s : State) : (fatalStop s).time = s.time := by
  obtain ⟨x, -, hx⟩ := fatalStop_eq s; rw [hx]
@[simp] theorem collect_time (s : State) : (collect s).time = s.time :=
  collect_keeps (fun t => t.time) (fun x l t => pushStatus_time x l t) (fun _ _ => rfl) (fun _ _ => rfl) (fun _ _ => rfl)
    (fun t => State.bump_time t _ _) fatalStop_time s
@[simp] theorem fatalStop_ctxs (s : State) : (fatalStop s).ctxs = s.ctxs := by
  obtain ⟨x, -, hx⟩ := fatalStop_eq s; rw [hx]
@[simp] theorem collect_ctxs (s : State) : (collect s).ctxs = s.ctxs :=
  collect_keeps (fun t => t.ctxs) (fun x l t => pushStatus_ctxs x l t) (fun _ _ => rfl) (fun _ _ => rfl) (fun _ _ => rfl)
    (fun t => State.bump_ctxs t _ _) fatalStop_ctxs s
@[simp] theorem fatalStop_cells (s : State) : (fatalStop s).cells = s.cells := by
  obtain ⟨x, -, hx⟩ := fatalStop_eq s; rw [hx]
@[simp] theorem collect_cells (s : State) : (collect s).cells = s.cells :=
  collect_keeps (fun t => t.cells) (fun x l t => pushStatus_cells x l t) (fun _ _ => rfl) (fun _ _ => rfl) (fun _ _ => rfl)
    (fun t => State.bump_cells t _ _) fatalStop_cells s
@[simp] theorem fatalStop_hold (s : State) : (fatalStop s).hold = s.hold := by
  obtain ⟨x, -, hx⟩ := fatalStop_eq s; rw [hx]
@[simp] theorem collect_hold (s : State) : (collect s).hold = s.hold :=
  collect_keeps (fun t => t.hold) (fun x l t => pushStatus_hold x l t) (fun _ _ => rfl) (fun _ _ => rfl) (fun _ _ => rfl)
    (fun t => State.bump_hold t _ _) fatalStop_hold s
@[simp] theorem fatalStop_nvm (s : State) : (fatalStop s).nvm = s.nvm := by
  obtain ⟨x, -, hx⟩ := fatalStop_eq s; rw [hx]
@[simp] theorem collect_nvm (s : State) : (collect s).nvm = s.nvm :=
  collect_keeps (fun t => t.nvm) (fun x l t => pushStatus_nvm x l t) (fun _ _ => rfl) (fun _ _ => rfl) (fun _ _ => rfl)
    (fun t => State.bump_nvm t _ _) fatalStop_nvm s
@[simp] theorem fatalStop_fw (s : State) : (fatalStop s).fw = s.fw := by
  obtain ⟨x, -, hx⟩ := fatalStop_eq s; rw [hx]
@[simp] theorem collect_fw (s : State) : (collect s).fw = s.fw :=
  collect_keeps (fun t => t.fw) (fun x l t => pushStatus_fw x l t) (fun _ _ => rfl) (fun _ _ => rfl) (fun _ _ => rfl)
    (fun t => State.bump_fw t _ _) fatalStop_fw s
@[simp] theorem fatalStop_engines (s : State) : (fatalStop s).engines = s.engines := by
  obtain ⟨x, -, hx⟩ := fatalStop_eq s; rw [hx]
@[simp] theorem collect_engines (s : State) : (collect s).engines = s.engines :=
  collect_keeps (fun t => t.engines) (fun x l t => pushStatus_engines x l t) (fun _ _ => rfl) (fun _ _ => rfl) (fun _ _ => rfl)
    (fun t => State.bump_engines t _ _) fatalStop_engines s
@[simp] theorem fatalStop_power (s : State) : (fatalStop s).power = s.power := by
  obtain ⟨x, -, hx⟩ := fatalStop_eq s; rw [hx]
@[simp] theorem collect_power (s : State) : (collect s).power = s.power :=
  collect_keeps (fun t => t.power) (fun x l t => pushStatus_power x l t) (fun _ _ => rfl) (fun _ _ => rfl) (fun _ _ => rfl)
    (fun t => State.bump_power t _ _) fatalStop_power s
@[simp] theorem fatalStop_heat (s : State) : (fatalStop s).heat = s.heat := by
  obtain ⟨x, -, hx⟩ := fatalStop_eq s; rw [hx]
@[simp] theorem collect_heat (s : State) : (collect s).heat = s.heat :=
  collect_keeps (fun t => t.heat) (fun x l t => pushStatus_heat x l t) (fun _ _ => rfl) (fun _ _ => rfl) (fun _ _ => rfl)
    (fun t => State.bump_heat t _ _) fatalStop_heat s
@[simp] theorem fatalStop_test (s : State) : (fatalStop s).test = s.test := by
  obtain ⟨x, -, hx⟩ := fatalStop_eq s; rw [hx]
@[simp] theorem collect_test (s : State) : (collect s).test = s.test :=
  collect_keeps (fun t => t.test) (fun x l t => pushStatus_test x l t) (fun _ _ => rfl) (fun _ _ => rfl) (fun _ _ => rfl)
    (fun t => State.bump_test t _ _) fatalStop_test s
@[simp] theorem fatalStop_lc (s : State) : (fatalStop s).lc = s.lc := by
  obtain ⟨x, -, hx⟩ := fatalStop_eq s; rw [hx]
@[simp] theorem collect_lc (s : State) : (collect s).lc = s.lc :=
  collect_keeps (fun t => t.lc) (fun x l t => pushStatus_lc x l t) (fun _ _ => rfl) (fun _ _ => rfl) (fun _ _ => rfl)
    (fun t => State.bump_lc t _ _) fatalStop_lc s

@[simp] theorem collect_ctx (s : State) (p d : Nat) : (collect s).ctx p d = s.ctx p d := by simp [State.ctx]
/-- The Fatal stop on a cluster (R416). -/
theorem fatalStop_cluster (s : State) (k : Nat) : (fatalStop s).cluster k = (s.cluster k).unlinked := by
  obtain ⟨x, -, hx⟩ := fatalStop_eq s
  rw [hx]
  exact Tab.get_map _ _ ClusterSt.unlinked rfl
@[simp] theorem collect_cluster_state (s : State) (k : Nat) : ((collect s).cluster k).state = (s.cluster k).state :=
  collect_keeps (fun t => (t.cluster k).state) (fun x l t => by simp only [State.cluster, pushStatus_clusters]) (fun _ _ => rfl)
    (fun _ _ => rfl) (fun _ _ => rfl) (fun t => by simp only [State.cluster, State.bump_clusters])
    (fun t => by rw [fatalStop_cluster]; rfl) s
@[simp] theorem collect_cluster_entering (s : State) (k : Nat) : ((collect s).cluster k).entering = (s.cluster k).entering :=
  collect_keeps (fun t => (t.cluster k).entering) (fun x l t => by simp only [State.cluster, pushStatus_clusters]) (fun _ _ => rfl)
    (fun _ _ => rfl) (fun _ _ => rfl) (fun t => by simp only [State.cluster, State.bump_clusters])
    (fun t => by rw [fatalStop_cluster]; rfl) s
@[simp] theorem collect_cluster_closing (s : State) (k : Nat) : ((collect s).cluster k).closing = (s.cluster k).closing :=
  collect_keeps (fun t => (t.cluster k).closing) (fun x l t => by simp only [State.cluster, pushStatus_clusters]) (fun _ _ => rfl)
    (fun _ _ => rfl) (fun _ _ => rfl) (fun t => by simp only [State.cluster, State.bump_clusters])
    (fun t => by rw [fatalStop_cluster]; rfl) s
@[simp] theorem collect_cluster_wakeAfter (s : State) (k : Nat) : ((collect s).cluster k).wakeAfter = (s.cluster k).wakeAfter :=
  collect_keeps (fun t => (t.cluster k).wakeAfter) (fun x l t => by simp only [State.cluster, pushStatus_clusters]) (fun _ _ => rfl)
    (fun _ _ => rfl) (fun _ _ => rfl) (fun t => by simp only [State.cluster, State.bump_clusters])
    (fun t => by rw [fatalStop_cluster]; rfl) s
@[simp] theorem collect_cluster_step (s : State) (k : Nat) : ((collect s).cluster k).step = (s.cluster k).step :=
  collect_keeps (fun t => (t.cluster k).step) (fun x l t => by simp only [State.cluster, pushStatus_clusters]) (fun _ _ => rfl)
    (fun _ _ => rfl) (fun _ _ => rfl) (fun t => by simp only [State.cluster, State.bump_clusters])
    (fun t => by rw [fatalStop_cluster]; rfl) s
@[simp] theorem collect_cluster_tries (s : State) (k : Nat) : ((collect s).cluster k).tries = (s.cluster k).tries :=
  collect_keeps (fun t => (t.cluster k).tries) (fun x l t => by simp only [State.cluster, pushStatus_clusters]) (fun _ _ => rfl)
    (fun _ _ => rfl) (fun _ _ => rfl) (fun t => by simp only [State.cluster, State.bump_clusters])
    (fun t => by rw [fatalStop_cluster]; rfl) s
@[simp] theorem collect_cluster_acked (s : State) (k : Nat) : ((collect s).cluster k).acked = (s.cluster k).acked :=
  collect_keeps (fun t => (t.cluster k).acked) (fun x l t => by simp only [State.cluster, pushStatus_clusters]) (fun _ _ => rfl)
    (fun _ _ => rfl) (fun _ _ => rfl) (fun t => by simp only [State.cluster, State.bump_clusters])
    (fun t => by rw [fatalStop_cluster]; rfl) s
@[simp] theorem collect_cluster_reopen (s : State) (k : Nat) : ((collect s).cluster k).reopen = (s.cluster k).reopen :=
  collect_keeps (fun t => (t.cluster k).reopen) (fun x l t => by simp only [State.cluster, pushStatus_clusters]) (fun _ _ => rfl)
    (fun _ _ => rfl) (fun _ _ => rfl) (fun t => by simp only [State.cluster, State.bump_clusters])
    (fun t => by rw [fatalStop_cluster]; rfl) s
@[simp] theorem collect_cluster_ready (s : State) (k : Nat) : ((collect s).cluster k).ready = (s.cluster k).ready :=
  collect_keeps (fun t => (t.cluster k).ready) (fun x l t => by simp only [State.cluster, pushStatus_clusters]) (fun _ _ => rfl)
    (fun _ _ => rfl) (fun _ _ => rfl) (fun t => by simp only [State.cluster, State.bump_clusters])
    (fun t => by rw [fatalStop_cluster]; rfl) s
@[simp] theorem collect_cluster_intended (s : State) (k : Nat) : ((collect s).cluster k).intended = (s.cluster k).intended :=
  collect_keeps (fun t => (t.cluster k).intended) (fun x l t => by simp only [State.cluster, pushStatus_clusters]) (fun _ _ => rfl)
    (fun _ _ => rfl) (fun _ _ => rfl) (fun t => by simp only [State.cluster, State.bump_clusters])
    (fun t => by rw [fatalStop_cluster]; rfl) s
@[simp] theorem collect_cluster_fromNvm (s : State) (k : Nat) : ((collect s).cluster k).fromNvm = (s.cluster k).fromNvm :=
  collect_keeps (fun t => (t.cluster k).fromNvm) (fun x l t => by simp only [State.cluster, pushStatus_clusters]) (fun _ _ => rfl)
    (fun _ _ => rfl) (fun _ _ => rfl) (fun t => by simp only [State.cluster, State.bump_clusters])
    (fun t => by rw [fatalStop_cluster]; rfl) s
@[simp] theorem collect_cluster_negative (s : State) (k : Nat) : ((collect s).cluster k).negative = (s.cluster k).negative :=
  collect_keeps (fun t => (t.cluster k).negative) (fun x l t => by simp only [State.cluster, pushStatus_clusters]) (fun _ _ => rfl)
    (fun _ _ => rfl) (fun _ _ => rfl) (fun t => by simp only [State.cluster, State.bump_clusters])
    (fun t => by rw [fatalStop_cluster]; rfl) s
@[simp] theorem collect_cluster_dwell (s : State) (k : Nat) : ((collect s).cluster k).dwell = (s.cluster k).dwell :=
  collect_keeps (fun t => (t.cluster k).dwell) (fun x l t => by simp only [State.cluster, pushStatus_clusters]) (fun _ _ => rfl)
    (fun _ _ => rfl) (fun _ _ => rfl) (fun t => by simp only [State.cluster, State.bump_clusters])
    (fun t => by rw [fatalStop_cluster]; rfl) s
@[simp] theorem collect_cluster_dwellFresh (s : State) (k : Nat) : ((collect s).cluster k).dwellFresh = (s.cluster k).dwellFresh :=
  collect_keeps (fun t => (t.cluster k).dwellFresh) (fun x l t => by simp only [State.cluster, pushStatus_clusters]) (fun _ _ => rfl)
    (fun _ _ => rfl) (fun _ _ => rfl) (fun t => by simp only [State.cluster, State.bump_clusters])
    (fun t => by rw [fatalStop_cluster]; rfl) s
@[simp] theorem collect_cluster_dwellLen (s : State) (k : Nat) : ((collect s).cluster k).dwellLen = (s.cluster k).dwellLen :=
  collect_keeps (fun t => (t.cluster k).dwellLen) (fun x l t => by simp only [State.cluster, pushStatus_clusters]) (fun _ _ => rfl)
    (fun _ _ => rfl) (fun _ _ => rfl) (fun t => by simp only [State.cluster, State.bump_clusters])
    (fun t => by rw [fatalStop_cluster]; rfl) s
@[simp] theorem collect_cluster_gated (s : State) (k : Nat) : ((collect s).cluster k).gated = (s.cluster k).gated :=
  collect_keeps (fun t => (t.cluster k).gated) (fun x l t => by simp only [State.cluster, pushStatus_clusters]) (fun _ _ => rfl)
    (fun _ _ => rfl) (fun _ _ => rfl) (fun t => by simp only [State.cluster, State.bump_clusters])
    (fun t => by rw [fatalStop_cluster]; rfl) s
@[simp] theorem collect_cluster_heatRestart (s : State) (k : Nat) : ((collect s).cluster k).heatRestart = (s.cluster k).heatRestart :=
  collect_keeps (fun t => (t.cluster k).heatRestart) (fun x l t => by simp only [State.cluster, pushStatus_clusters]) (fun _ _ => rfl)
    (fun _ _ => rfl) (fun _ _ => rfl) (fun t => by simp only [State.cluster, State.bump_clusters])
    (fun t => by rw [fatalStop_cluster]; rfl) s
@[simp] theorem collect_cluster_heatStuck (s : State) (k : Nat) : ((collect s).cluster k).heatStuck = (s.cluster k).heatStuck :=
  collect_keeps (fun t => (t.cluster k).heatStuck) (fun x l t => by simp only [State.cluster, pushStatus_clusters]) (fun _ _ => rfl)
    (fun _ _ => rfl) (fun _ _ => rfl) (fun t => by simp only [State.cluster, State.bump_clusters])
    (fun t => by rw [fatalStop_cluster]; rfl) s
@[simp] theorem collect_cluster_failMoved (s : State) (k : Nat) : ((collect s).cluster k).failMoved = (s.cluster k).failMoved :=
  collect_keeps (fun t => (t.cluster k).failMoved) (fun x l t => by simp only [State.cluster, pushStatus_clusters]) (fun _ _ => rfl)
    (fun _ _ => rfl) (fun _ _ => rfl) (fun t => by simp only [State.cluster, State.bump_clusters])
    (fun t => by rw [fatalStop_cluster]; rfl) s
@[simp] theorem collect_cluster_rotationStopped (s : State) (k : Nat) : ((collect s).cluster k).rotationStopped = (s.cluster k).rotationStopped :=
  collect_keeps (fun t => (t.cluster k).rotationStopped) (fun x l t => by simp only [State.cluster, pushStatus_clusters]) (fun _ _ => rfl)
    (fun _ _ => rfl) (fun _ _ => rfl) (fun t => by simp only [State.cluster, State.bump_clusters])
    (fun t => by rw [fatalStop_cluster]; rfl) s
@[simp] theorem collect_cluster_calibration (s : State) (k : Nat) : ((collect s).cluster k).calibration = (s.cluster k).calibration :=
  collect_keeps (fun t => (t.cluster k).calibration) (fun x l t => by simp only [State.cluster, pushStatus_clusters]) (fun _ _ => rfl)
    (fun _ _ => rfl) (fun _ _ => rfl) (fun t => by simp only [State.cluster, State.bump_clusters])
    (fun t => by rw [fatalStop_cluster]; rfl) s
@[simp] theorem collect_engine (s : State) (e : Nat) : (collect s).engine e = s.engine e := by simp [State.engine]
@[simp] theorem collect_path (s : State) (q : Path) : (collect s).path q = s.path q := by cases q <;> simp [State.path]

@[simp] theorem collect_port_mode (s : State) (p : Nat) : ((collect s).port p).mode = (s.port p).mode :=
  collect_keeps (fun t => (t.port p).mode) (fun x l t => by simp only [State.port, pushStatus_ports]) (fun _ _ => rfl) (fun _ _ => rfl)
    (fun _ _ => rfl) (fun t => by simp only [State.port, State.bump_ports]) (fun t => (fatalStop_port t p).elim (fun h => by rw [h]) (fun h => by rw [h]; rfl)) s
@[simp] theorem collect_port_started (s : State) (p : Nat) : ((collect s).port p).started = (s.port p).started :=
  collect_keeps (fun t => (t.port p).started) (fun x l t => by simp only [State.port, pushStatus_ports]) (fun _ _ => rfl) (fun _ _ => rfl)
    (fun _ _ => rfl) (fun t => by simp only [State.port, State.bump_ports]) (fun t => (fatalStop_port t p).elim (fun h => by rw [h]) (fun h => by rw [h]; rfl)) s
@[simp] theorem collect_port_begun (s : State) (p : Nat) : ((collect s).port p).begun = (s.port p).begun :=
  collect_keeps (fun t => (t.port p).begun) (fun x l t => by simp only [State.port, pushStatus_ports]) (fun _ _ => rfl) (fun _ _ => rfl)
    (fun _ _ => rfl) (fun t => by simp only [State.port, State.bump_ports]) (fun t => (fatalStop_port t p).elim (fun h => by rw [h]) (fun h => by rw [h]; rfl)) s
@[simp] theorem collect_port_latch (s : State) (p : Nat) : ((collect s).port p).latch = (s.port p).latch :=
  collect_keeps (fun t => (t.port p).latch) (fun x l t => by simp only [State.port, pushStatus_ports]) (fun _ _ => rfl) (fun _ _ => rfl)
    (fun _ _ => rfl) (fun t => by simp only [State.port, State.bump_ports]) (fun t => (fatalStop_port t p).elim (fun h => by rw [h]) (fun h => by rw [h]; rfl)) s
@[simp] theorem collect_port_beaconLeft (s : State) (p : Nat) : ((collect s).port p).beaconLeft = (s.port p).beaconLeft :=
  collect_keeps (fun t => (t.port p).beaconLeft) (fun x l t => by simp only [State.port, pushStatus_ports]) (fun _ _ => rfl) (fun _ _ => rfl)
    (fun _ _ => rfl) (fun t => by simp only [State.port, State.bump_ports]) (fun t => (fatalStop_port t p).elim (fun h => by rw [h]) (fun h => by rw [h]; rfl)) s
@[simp] theorem collect_port_beaconCut (s : State) (p : Nat) : ((collect s).port p).beaconCut = (s.port p).beaconCut :=
  collect_keeps (fun t => (t.port p).beaconCut) (fun x l t => by simp only [State.port, pushStatus_ports]) (fun _ _ => rfl) (fun _ _ => rfl)
    (fun _ _ => rfl) (fun t => by simp only [State.port, State.bump_ports]) (fun t => (fatalStop_port t p).elim (fun h => by rw [h]) (fun h => by rw [h]; rfl)) s
@[simp] theorem collect_port_hold (s : State) (p : Nat) : ((collect s).port p).hold = (s.port p).hold :=
  collect_keeps (fun t => (t.port p).hold) (fun x l t => by simp only [State.port, pushStatus_ports]) (fun _ _ => rfl) (fun _ _ => rfl)
    (fun _ _ => rfl) (fun t => by simp only [State.port, State.bump_ports]) (fun t => (fatalStop_port t p).elim (fun h => by rw [h]) (fun h => by rw [h]; rfl)) s
@[simp] theorem collect_port_rollHeld (s : State) (p : Nat) : ((collect s).port p).rollHeld = (s.port p).rollHeld :=
  collect_keeps (fun t => (t.port p).rollHeld) (fun x l t => by simp only [State.port, pushStatus_ports]) (fun _ _ => rfl) (fun _ _ => rfl)
    (fun _ _ => rfl) (fun t => by simp only [State.port, State.bump_ports]) (fun t => (fatalStop_port t p).elim (fun h => by rw [h]) (fun h => by rw [h]; rfl)) s
@[simp] theorem collect_port_lastAnswer (s : State) (p : Nat) : ((collect s).port p).lastAnswer = (s.port p).lastAnswer :=
  collect_keeps (fun t => (t.port p).lastAnswer) (fun x l t => by simp only [State.port, pushStatus_ports]) (fun _ _ => rfl) (fun _ _ => rfl)
    (fun _ _ => rfl) (fun t => by simp only [State.port, State.bump_ports]) (fun t => (fatalStop_port t p).elim (fun h => by rw [h]) (fun h => by rw [h]; rfl)) s
@[simp] theorem collect_port_map (s : State) (p : Nat) : ((collect s).port p).map = (s.port p).map :=
  collect_keeps (fun t => (t.port p).map) (fun x l t => by simp only [State.port, pushStatus_ports]) (fun _ _ => rfl) (fun _ _ => rfl)
    (fun _ _ => rfl) (fun t => by simp only [State.port, State.bump_ports]) (fun t => (fatalStop_port t p).elim (fun h => by rw [h]) (fun h => by rw [h]; rfl)) s
@[simp] theorem collect_port_pending (s : State) (p : Nat) : ((collect s).port p).pending = (s.port p).pending :=
  collect_keeps (fun t => (t.port p).pending) (fun x l t => by simp only [State.port, pushStatus_ports]) (fun _ _ => rfl) (fun _ _ => rfl)
    (fun _ _ => rfl) (fun t => by simp only [State.port, State.bump_ports]) (fun t => (fatalStop_port t p).elim (fun h => by rw [h]) (fun h => by rw [h]; rfl)) s
@[simp] theorem collect_port_waiting (s : State) (p : Nat) : ((collect s).port p).waiting = (s.port p).waiting :=
  collect_keeps (fun t => (t.port p).waiting) (fun x l t => by simp only [State.port, pushStatus_ports]) (fun _ _ => rfl) (fun _ _ => rfl)
    (fun _ _ => rfl) (fun t => by simp only [State.port, State.bump_ports]) (fun t => (fatalStop_port t p).elim (fun h => by rw [h]) (fun h => by rw [h]; rfl)) s
@[simp] theorem collect_port_rx (s : State) (p : Nat) : ((collect s).port p).rx = (s.port p).rx :=
  collect_keeps (fun t => (t.port p).rx) (fun x l t => by simp only [State.port, pushStatus_ports]) (fun _ _ => rfl) (fun _ _ => rfl)
    (fun _ _ => rfl) (fun t => by simp only [State.port, State.bump_ports]) (fun t => (fatalStop_port t p).elim (fun h => by rw [h]) (fun h => by rw [h]; rfl)) s
@[simp] theorem collect_port_answers (s : State) (p : Nat) : ((collect s).port p).answers = (s.port p).answers :=
  collect_keeps (fun t => (t.port p).answers) (fun x l t => by simp only [State.port, pushStatus_ports]) (fun _ _ => rfl) (fun _ _ => rfl)
    (fun _ _ => rfl) (fun t => by simp only [State.port, State.bump_ports]) (fun t => (fatalStop_port t p).elim (fun h => by rw [h]) (fun h => by rw [h]; rfl)) s
@[simp] theorem collect_port_levels (s : State) (p : Nat) : ((collect s).port p).levels = (s.port p).levels :=
  collect_keeps (fun t => (t.port p).levels) (fun x l t => by simp only [State.port, pushStatus_ports]) (fun _ _ => rfl) (fun _ _ => rfl)
    (fun _ _ => rfl) (fun t => by simp only [State.port, State.bump_ports]) (fun t => (fatalStop_port t p).elim (fun h => by rw [h]) (fun h => by rw [h]; rfl)) s
@[simp] theorem collect_port_msgs (s : State) (p : Nat) : ((collect s).port p).msgs = (s.port p).msgs :=
  collect_keeps (fun t => (t.port p).msgs) (fun x l t => by simp only [State.port, pushStatus_ports]) (fun _ _ => rfl) (fun _ _ => rfl)
    (fun _ _ => rfl) (fun t => by simp only [State.port, State.bump_ports]) (fun t => (fatalStop_port t p).elim (fun h => by rw [h]) (fun h => by rw [h]; rfl)) s
@[simp] theorem collect_port_turn (s : State) (p : Nat) : ((collect s).port p).turn = (s.port p).turn :=
  collect_keeps (fun t => (t.port p).turn) (fun x l t => by simp only [State.port, pushStatus_ports]) (fun _ _ => rfl) (fun _ _ => rfl)
    (fun _ _ => rfl) (fun t => by simp only [State.port, State.bump_ports]) (fun t => (fatalStop_port t p).elim (fun h => by rw [h]) (fun h => by rw [h]; rfl)) s
@[simp] theorem collect_port_wakeBits (s : State) (p : Nat) : ((collect s).port p).wakeBits = (s.port p).wakeBits :=
  collect_keeps (fun t => (t.port p).wakeBits) (fun x l t => by simp only [State.port, pushStatus_ports]) (fun _ _ => rfl) (fun _ _ => rfl)
    (fun _ _ => rfl) (fun t => by simp only [State.port, State.bump_ports]) (fun t => (fatalStop_port t p).elim (fun h => by rw [h]) (fun h => by rw [h]; rfl)) s
@[simp] theorem collect_port_steep (s : State) (p : Nat) : ((collect s).port p).steep = (s.port p).steep :=
  collect_keeps (fun t => (t.port p).steep) (fun x l t => by simp only [State.port, pushStatus_ports]) (fun _ _ => rfl) (fun _ _ => rfl)
    (fun _ _ => rfl) (fun t => by simp only [State.port, State.bump_ports]) (fun t => (fatalStop_port t p).elim (fun h => by rw [h]) (fun h => by rw [h]; rfl)) s
@[simp] theorem collect_port_stopped (s : State) (p : Nat) : ((collect s).port p).stopped = (s.port p).stopped :=
  collect_keeps (fun t => (t.port p).stopped) (fun x l t => by simp only [State.port, pushStatus_ports]) (fun _ _ => rfl) (fun _ _ => rfl)
    (fun _ _ => rfl) (fun t => by simp only [State.port, State.bump_ports]) (fun t => (fatalStop_port t p).elim (fun h => by rw [h]) (fun h => by rw [h]; rfl)) s
@[simp] theorem collect_port_movedTo (s : State) (p : Nat) : ((collect s).port p).movedTo = (s.port p).movedTo :=
  collect_keeps (fun t => (t.port p).movedTo) (fun x l t => by simp only [State.port, pushStatus_ports]) (fun _ _ => rfl) (fun _ _ => rfl)
    (fun _ _ => rfl) (fun t => by simp only [State.port, State.bump_ports]) (fun t => (fatalStop_port t p).elim (fun h => by rw [h]) (fun h => by rw [h]; rfl)) s
@[simp] theorem collect_port_trunk (s : State) (p : Nat) : ((collect s).port p).trunk = (s.port p).trunk :=
  collect_keeps (fun t => (t.port p).trunk) (fun x l t => by simp only [State.port, pushStatus_ports]) (fun _ _ => rfl) (fun _ _ => rfl)
    (fun _ _ => rfl) (fun t => by simp only [State.port, State.bump_ports]) (fun t => (fatalStop_port t p).elim (fun h => by rw [h]) (fun h => by rw [h]; rfl)) s
@[simp] theorem collect_port_trav (s : State) (p : Nat) : ((collect s).port p).trav = (s.port p).trav :=
  collect_keeps (fun t => (t.port p).trav) (fun x l t => by simp only [State.port, pushStatus_ports]) (fun _ _ => rfl) (fun _ _ => rfl)
    (fun _ _ => rfl) (fun t => by simp only [State.port, State.bump_ports]) (fun t => (fatalStop_port t p).elim (fun h => by rw [h]) (fun h => by rw [h]; rfl)) s
@[simp] theorem collect_port_twinState (s : State) (p : Nat) : ((collect s).port p).twinState = (s.port p).twinState :=
  collect_keeps (fun t => (t.port p).twinState) (fun x l t => by simp only [State.port, pushStatus_ports]) (fun _ _ => rfl) (fun _ _ => rfl)
    (fun _ _ => rfl) (fun t => by simp only [State.port, State.bump_ports]) (fun t => (fatalStop_port t p).elim (fun h => by rw [h]) (fun h => by rw [h]; rfl)) s
@[simp] theorem collect_port_move (s : State) (p : Nat) : ((collect s).port p).move = (s.port p).move :=
  collect_keeps (fun t => (t.port p).move) (fun x l t => by simp only [State.port, pushStatus_ports]) (fun _ _ => rfl) (fun _ _ => rfl)
    (fun _ _ => rfl) (fun t => by simp only [State.port, State.bump_ports]) (fun t => (fatalStop_port t p).elim (fun h => by rw [h]) (fun h => by rw [h]; rfl)) s
@[simp] theorem collect_port_carries (s : State) (p : Nat) : ((collect s).port p).carries = (s.port p).carries :=
  collect_keeps (fun t => (t.port p).carries) (fun x l t => by simp only [State.port, pushStatus_ports]) (fun _ _ => rfl) (fun _ _ => rfl)
    (fun _ _ => rfl) (fun t => by simp only [State.port, State.bump_ports]) (fun t => (fatalStop_port t p).elim (fun h => by rw [h]) (fun h => by rw [h]; rfl)) s
@[simp] theorem collect_port_twinSilent (s : State) (p : Nat) : ((collect s).port p).twinSilent = (s.port p).twinSilent :=
  collect_keeps (fun t => (t.port p).twinSilent) (fun x l t => by simp only [State.port, pushStatus_ports]) (fun _ _ => rfl) (fun _ _ => rfl)
    (fun _ _ => rfl) (fun t => by simp only [State.port, State.bump_ports]) (fun t => (fatalStop_port t p).elim (fun h => by rw [h]) (fun h => by rw [h]; rfl)) s
@[simp] theorem collect_port_shortClear (s : State) (p : Nat) : ((collect s).port p).shortClear = (s.port p).shortClear :=
  collect_keeps (fun t => (t.port p).shortClear) (fun x l t => by simp only [State.port, pushStatus_ports]) (fun _ _ => rfl) (fun _ _ => rfl)
    (fun _ _ => rfl) (fun t => by simp only [State.port, State.bump_ports]) (fun t => (fatalStop_port t p).elim (fun h => by rw [h]) (fun h => by rw [h]; rfl)) s
@[simp] theorem collect_port_flowStop (s : State) (p : Nat) : ((collect s).port p).flowStop = (s.port p).flowStop :=
  collect_keeps (fun t => (t.port p).flowStop) (fun x l t => by simp only [State.port, pushStatus_ports]) (fun _ _ => rfl) (fun _ _ => rfl)
    (fun _ _ => rfl) (fun t => by simp only [State.port, State.bump_ports]) (fun t => (fatalStop_port t p).elim (fun h => by rw [h]) (fun h => by rw [h]; rfl)) s
@[simp] theorem fatalStop_arch_state (s : State) : (fatalStop s).arch.state = s.arch.state := by
  obtain ⟨x, -, hx⟩ := fatalStop_eq s; rw [hx]
@[simp] theorem collect_arch_state (s : State) : (collect s).arch.state = s.arch.state :=
  collect_keeps (fun t => t.arch.state) (fun x l t => by simp) (fun _ _ => rfl) (fun _ _ => rfl) (fun _ _ => rfl)
    (fun t => by simp) fatalStop_arch_state s
@[simp] theorem fatalStop_arch_reason (s : State) : (fatalStop s).arch.reason = s.arch.reason := by
  obtain ⟨x, -, hx⟩ := fatalStop_eq s; rw [hx]
@[simp] theorem collect_arch_reason (s : State) : (collect s).arch.reason = s.arch.reason :=
  collect_keeps (fun t => t.arch.reason) (fun x l t => by simp) (fun _ _ => rfl) (fun _ _ => rfl) (fun _ _ => rfl)
    (fun t => by simp) fatalStop_arch_reason s
@[simp] theorem fatalStop_arch_link (s : State) : (fatalStop s).arch.link = s.arch.link := by
  obtain ⟨x, -, hx⟩ := fatalStop_eq s; rw [hx]
@[simp] theorem collect_arch_link (s : State) : (collect s).arch.link = s.arch.link :=
  collect_keeps (fun t => t.arch.link) (fun x l t => by simp) (fun _ _ => rfl) (fun _ _ => rfl) (fun _ _ => rfl)
    (fun t => by simp) fatalStop_arch_link s
@[simp] theorem fatalStop_arch_blocks (s : State) : (fatalStop s).arch.blocks = s.arch.blocks := by
  obtain ⟨x, -, hx⟩ := fatalStop_eq s; rw [hx]
@[simp] theorem collect_arch_blocks (s : State) : (collect s).arch.blocks = s.arch.blocks :=
  collect_keeps (fun t => t.arch.blocks) (fun x l t => by simp) (fun _ _ => rfl) (fun _ _ => rfl) (fun _ _ => rfl)
    (fun t => by simp) fatalStop_arch_blocks s
@[simp] theorem fatalStop_arch_label (s : State) : (fatalStop s).arch.label = s.arch.label := by
  obtain ⟨x, -, hx⟩ := fatalStop_eq s; rw [hx]
@[simp] theorem collect_arch_label (s : State) : (collect s).arch.label = s.arch.label :=
  collect_keeps (fun t => t.arch.label) (fun x l t => by simp) (fun _ _ => rfl) (fun _ _ => rfl) (fun _ _ => rfl)
    (fun t => by simp) fatalStop_arch_label s
@[simp] theorem fatalStop_arch_journal (s : State) : (fatalStop s).arch.journal = s.arch.journal := by
  obtain ⟨x, -, hx⟩ := fatalStop_eq s; rw [hx]
@[simp] theorem collect_arch_journal (s : State) : (collect s).arch.journal = s.arch.journal :=
  collect_keeps (fun t => t.arch.journal) (fun x l t => by simp) (fun _ _ => rfl) (fun _ _ => rfl) (fun _ _ => rfl)
    (fun t => by simp) fatalStop_arch_journal s
@[simp] theorem fatalStop_arch_journalAt (s : State) : (fatalStop s).arch.journalAt = s.arch.journalAt := by
  obtain ⟨x, -, hx⟩ := fatalStop_eq s; rw [hx]
@[simp] theorem collect_arch_journalAt (s : State) : (collect s).arch.journalAt = s.arch.journalAt :=
  collect_keeps (fun t => t.arch.journalAt) (fun x l t => by simp) (fun _ _ => rfl) (fun _ _ => rfl) (fun _ _ => rfl)
    (fun t => by simp) fatalStop_arch_journalAt s
@[simp] theorem fatalStop_arch_records (s : State) : (fatalStop s).arch.records = s.arch.records := by
  obtain ⟨x, -, hx⟩ := fatalStop_eq s; rw [hx]
@[simp] theorem collect_arch_records (s : State) : (collect s).arch.records = s.arch.records :=
  collect_keeps (fun t => t.arch.records) (fun x l t => by simp) (fun _ _ => rfl) (fun _ _ => rfl) (fun _ _ => rfl)
    (fun t => by simp) fatalStop_arch_records s
@[simp] theorem fatalStop_arch_nextSeq (s : State) : (fatalStop s).arch.nextSeq = s.arch.nextSeq := by
  obtain ⟨x, -, hx⟩ := fatalStop_eq s; rw [hx]
@[simp] theorem collect_arch_nextSeq (s : State) : (collect s).arch.nextSeq = s.arch.nextSeq :=
  collect_keeps (fun t => t.arch.nextSeq) (fun x l t => by simp) (fun _ _ => rfl) (fun _ _ => rfl) (fun _ _ => rfl)
    (fun t => by simp) fatalStop_arch_nextSeq s


@[simp] theorem fatalStop_arch_formatting (s : State) : (fatalStop s).arch.formatting = s.arch.formatting := by
  obtain ⟨x, -, hx⟩ := fatalStop_eq s; rw [hx]
@[simp] theorem collect_arch_formatting (s : State) : (collect s).arch.formatting = s.arch.formatting :=
  collect_keeps (fun t => t.arch.formatting) (fun x l t => by simp) (fun _ _ => rfl) (fun _ _ => rfl) (fun _ _ => rfl)
    (fun t => by simp) fatalStop_arch_formatting s
@[simp] theorem fatalStop_arch_fineTail (s : State) : (fatalStop s).arch.fineTail = s.arch.fineTail := by
  obtain ⟨x, -, hx⟩ := fatalStop_eq s; rw [hx]
@[simp] theorem collect_arch_fineTail (s : State) : (collect s).arch.fineTail = s.arch.fineTail :=
  collect_keeps (fun t => t.arch.fineTail) (fun x l t => by simp) (fun _ _ => rfl) (fun _ _ => rfl) (fun _ _ => rfl)
    (fun t => by simp) fatalStop_arch_fineTail s
@[simp] theorem fatalStop_arch_fineHead (s : State) : (fatalStop s).arch.fineHead = s.arch.fineHead := by
  obtain ⟨x, -, hx⟩ := fatalStop_eq s; rw [hx]
@[simp] theorem collect_arch_fineHead (s : State) : (collect s).arch.fineHead = s.arch.fineHead :=
  collect_keeps (fun t => t.arch.fineHead) (fun x l t => by simp) (fun _ _ => rfl) (fun _ _ => rfl) (fun _ _ => rfl)
    (fun t => by simp) fatalStop_arch_fineHead s
@[simp] theorem fatalStop_arch_longTail (s : State) : (fatalStop s).arch.longTail = s.arch.longTail := by
  obtain ⟨x, -, hx⟩ := fatalStop_eq s; rw [hx]
@[simp] theorem collect_arch_longTail (s : State) : (collect s).arch.longTail = s.arch.longTail :=
  collect_keeps (fun t => t.arch.longTail) (fun x l t => by simp) (fun _ _ => rfl) (fun _ _ => rfl) (fun _ _ => rfl)
    (fun t => by simp) fatalStop_arch_longTail s
@[simp] theorem fatalStop_arch_longHead (s : State) : (fatalStop s).arch.longHead = s.arch.longHead := by
  obtain ⟨x, -, hx⟩ := fatalStop_eq s; rw [hx]
@[simp] theorem collect_arch_longHead (s : State) : (collect s).arch.longHead = s.arch.longHead :=
  collect_keeps (fun t => t.arch.longHead) (fun x l t => by simp) (fun _ _ => rfl) (fun _ _ => rfl) (fun _ _ => rfl)
    (fun t => by simp) fatalStop_arch_longHead s
@[simp] theorem fatalStop_arch_permHead (s : State) : (fatalStop s).arch.permHead = s.arch.permHead := by
  obtain ⟨x, -, hx⟩ := fatalStop_eq s; rw [hx]
@[simp] theorem collect_arch_permHead (s : State) : (collect s).arch.permHead = s.arch.permHead :=
  collect_keeps (fun t => t.arch.permHead) (fun x l t => by simp) (fun _ _ => rfl) (fun _ _ => rfl) (fun _ _ => rfl)
    (fun t => by simp) fatalStop_arch_permHead s
@[simp] theorem fatalStop_arch_snap (s : State) : (fatalStop s).arch.snap = s.arch.snap := by
  obtain ⟨x, -, hx⟩ := fatalStop_eq s; rw [hx]
@[simp] theorem collect_arch_snap (s : State) : (collect s).arch.snap = s.arch.snap :=
  collect_keeps (fun t => t.arch.snap) (fun x l t => by simp) (fun _ _ => rfl) (fun _ _ => rfl) (fun _ _ => rfl)
    (fun t => by simp) fatalStop_arch_snap s
@[simp] theorem fatalStop_arch_snapTime (s : State) : (fatalStop s).arch.snapTime = s.arch.snapTime := by
  obtain ⟨x, -, hx⟩ := fatalStop_eq s; rw [hx]
@[simp] theorem collect_arch_snapTime (s : State) : (collect s).arch.snapTime = s.arch.snapTime :=
  collect_keeps (fun t => t.arch.snapTime) (fun x l t => by simp) (fun _ _ => rfl) (fun _ _ => rfl) (fun _ _ => rfl)
    (fun t => by simp) fatalStop_arch_snapTime s


@[simp] theorem fatalStop_arch_commitDue (s : State) : (fatalStop s).arch.commitDue = s.arch.commitDue := by
  obtain ⟨x, -, hx⟩ := fatalStop_eq s; rw [hx]
@[simp] theorem collect_arch_commitDue (s : State) : (collect s).arch.commitDue = s.arch.commitDue :=
  collect_keeps (fun t => t.arch.commitDue) (fun x l t => by simp) (fun _ _ => rfl) (fun _ _ => rfl) (fun _ _ => rfl)
    (fun t => by simp) fatalStop_arch_commitDue s
@[simp] theorem fatalStop_arch_commitFrom (s : State) : (fatalStop s).arch.commitFrom = s.arch.commitFrom := by
  obtain ⟨x, -, hx⟩ := fatalStop_eq s; rw [hx]
@[simp] theorem collect_arch_commitFrom (s : State) : (collect s).arch.commitFrom = s.arch.commitFrom :=
  collect_keeps (fun t => t.arch.commitFrom) (fun x l t => by simp) (fun _ _ => rfl) (fun _ _ => rfl) (fun _ _ => rfl)
    (fun t => by simp) fatalStop_arch_commitFrom s
@[simp] theorem fatalStop_arch_reclaimFine (s : State) : (fatalStop s).arch.reclaimFine = s.arch.reclaimFine := by
  obtain ⟨x, -, hx⟩ := fatalStop_eq s; rw [hx]
@[simp] theorem collect_arch_reclaimFine (s : State) : (collect s).arch.reclaimFine = s.arch.reclaimFine :=
  collect_keeps (fun t => t.arch.reclaimFine) (fun x l t => by simp) (fun _ _ => rfl) (fun _ _ => rfl) (fun _ _ => rfl)
    (fun t => by simp) fatalStop_arch_reclaimFine s
@[simp] theorem fatalStop_arch_reclaimLong (s : State) : (fatalStop s).arch.reclaimLong = s.arch.reclaimLong := by
  obtain ⟨x, -, hx⟩ := fatalStop_eq s; rw [hx]
@[simp] theorem collect_arch_reclaimLong (s : State) : (collect s).arch.reclaimLong = s.arch.reclaimLong :=
  collect_keeps (fun t => t.arch.reclaimLong) (fun x l t => by simp) (fun _ _ => rfl) (fun _ _ => rfl) (fun _ _ => rfl)
    (fun t => by simp) fatalStop_arch_reclaimLong s
@[simp] theorem fatalStop_arch_blocked (s : State) : (fatalStop s).arch.blocked = s.arch.blocked := by
  obtain ⟨x, -, hx⟩ := fatalStop_eq s; rw [hx]
@[simp] theorem collect_arch_blocked (s : State) : (collect s).arch.blocked = s.arch.blocked :=
  collect_keeps (fun t => t.arch.blocked) (fun x l t => by simp) (fun _ _ => rfl) (fun _ _ => rfl) (fun _ _ => rfl)
    (fun t => by simp) fatalStop_arch_blocked s
@[simp] theorem fatalStop_arch_lastCommit (s : State) : (fatalStop s).arch.lastCommit = s.arch.lastCommit := by
  obtain ⟨x, -, hx⟩ := fatalStop_eq s; rw [hx]
@[simp] theorem collect_arch_lastCommit (s : State) : (collect s).arch.lastCommit = s.arch.lastCommit :=
  collect_keeps (fun t => t.arch.lastCommit) (fun x l t => by simp) (fun _ _ => rfl) (fun _ _ => rfl) (fun _ _ => rfl)
    (fun t => by simp) fatalStop_arch_lastCommit s
@[simp] theorem fatalStop_arch_resets (s : State) : (fatalStop s).arch.resets = s.arch.resets := by
  obtain ⟨x, -, hx⟩ := fatalStop_eq s; rw [hx]
@[simp] theorem collect_arch_resets (s : State) : (collect s).arch.resets = s.arch.resets :=
  collect_keeps (fun t => t.arch.resets) (fun x l t => by simp) (fun _ _ => rfl) (fun _ _ => rfl) (fun _ _ => rfl)
    (fun t => by simp) fatalStop_arch_resets s
@[simp] theorem fatalStop_arch_temp (s : State) : (fatalStop s).arch.temp = s.arch.temp := by
  obtain ⟨x, -, hx⟩ := fatalStop_eq s; rw [hx]
@[simp] theorem collect_arch_temp (s : State) : (collect s).arch.temp = s.arch.temp :=
  collect_keeps (fun t => t.arch.temp) (fun x l t => by simp) (fun _ _ => rfl) (fun _ _ => rfl) (fun _ _ => rfl)
    (fun t => by simp) fatalStop_arch_temp s
@[simp] theorem fatalStop_arch_wear (s : State) : (fatalStop s).arch.wear = s.arch.wear := by
  obtain ⟨x, -, hx⟩ := fatalStop_eq s; rw [hx]
@[simp] theorem collect_arch_wear (s : State) : (collect s).arch.wear = s.arch.wear :=
  collect_keeps (fun t => t.arch.wear) (fun x l t => by simp) (fun _ _ => rfl) (fun _ _ => rfl) (fun _ _ => rfl)
    (fun t => by simp) fatalStop_arch_wear s
@[simp] theorem fatalStop_arch_warn (s : State) : (fatalStop s).arch.warn = s.arch.warn := by
  obtain ⟨x, -, hx⟩ := fatalStop_eq s; rw [hx]
@[simp] theorem collect_arch_warn (s : State) : (collect s).arch.warn = s.arch.warn :=
  collect_keeps (fun t => t.arch.warn) (fun x l t => by simp) (fun _ _ => rfl) (fun _ _ => rfl) (fun _ _ => rfl)
    (fun t => by simp) fatalStop_arch_warn s

theorem fatalStop_link (s : State) (l : Link) : (fatalStop s).link l = (s.link l).stopped := by
  obtain ⟨x, -, hx⟩ := fatalStop_eq s; rw [hx]; cases l <;> rfl

@[simp] theorem pushStatus_link_state (x : OutFrame) (k l : Link) (s : State) :
    ((pushStatus x k s).link l).state = (s.link l).state := by
  unfold pushStatus; split
  · cases k <;> cases l <;> rfl
  · cases l <;> simp [State.link]
@[simp] theorem collect_link_state (s : State) (l : Link) : ((collect s).link l).state = (s.link l).state :=
  collect_keeps (fun t => (t.link l).state) (fun x k t => pushStatus_link_state x k l t)
    (fun _ _ => by cases l <;> rfl) (fun _ _ => rfl) (fun _ _ => rfl)
    (fun t => by cases l <;> simp [State.link]) (fun t => by rw [fatalStop_link]; rfl) s
@[simp] theorem pushStatus_link_farUp (x : OutFrame) (k l : Link) (s : State) :
    ((pushStatus x k s).link l).farUp = (s.link l).farUp := by
  unfold pushStatus; split
  · cases k <;> cases l <;> rfl
  · cases l <;> simp [State.link]
@[simp] theorem collect_link_farUp (s : State) (l : Link) : ((collect s).link l).farUp = (s.link l).farUp :=
  collect_keeps (fun t => (t.link l).farUp) (fun x k t => pushStatus_link_farUp x k l t)
    (fun _ _ => by cases l <;> rfl) (fun _ _ => rfl) (fun _ _ => rfl)
    (fun t => by cases l <;> simp [State.link]) (fun t => by rw [fatalStop_link]; rfl) s
@[simp] theorem pushStatus_link_farDown (x : OutFrame) (k l : Link) (s : State) :
    ((pushStatus x k s).link l).farDown = (s.link l).farDown := by
  unfold pushStatus; split
  · cases k <;> cases l <;> rfl
  · cases l <;> simp [State.link]
@[simp] theorem collect_link_farDown (s : State) (l : Link) : ((collect s).link l).farDown = (s.link l).farDown :=
  collect_keeps (fun t => (t.link l).farDown) (fun x k t => pushStatus_link_farDown x k l t)
    (fun _ _ => by cases l <;> rfl) (fun _ _ => rfl) (fun _ _ => rfl)
    (fun t => by cases l <;> simp [State.link]) (fun t => by rw [fatalStop_link]; rfl) s
@[simp] theorem pushStatus_link_laneMap (x : OutFrame) (k l : Link) (s : State) :
    ((pushStatus x k s).link l).laneMap = (s.link l).laneMap := by
  unfold pushStatus; split
  · cases k <;> cases l <;> rfl
  · cases l <;> simp [State.link]
@[simp] theorem collect_link_laneMap (s : State) (l : Link) : ((collect s).link l).laneMap = (s.link l).laneMap :=
  collect_keeps (fun t => (t.link l).laneMap) (fun x k t => pushStatus_link_laneMap x k l t)
    (fun _ _ => by cases l <;> rfl) (fun _ _ => rfl) (fun _ _ => rfl)
    (fun t => by cases l <;> simp [State.link]) (fun t => by rw [fatalStop_link]; rfl) s
@[simp] theorem pushStatus_link_farId (x : OutFrame) (k l : Link) (s : State) :
    ((pushStatus x k s).link l).farId = (s.link l).farId := by
  unfold pushStatus; split
  · cases k <;> cases l <;> rfl
  · cases l <;> simp [State.link]
@[simp] theorem collect_link_farId (s : State) (l : Link) : ((collect s).link l).farId = (s.link l).farId :=
  collect_keeps (fun t => (t.link l).farId) (fun x k t => pushStatus_link_farId x k l t)
    (fun _ _ => by cases l <;> rfl) (fun _ _ => rfl) (fun _ _ => rfl)
    (fun t => by cases l <;> simp [State.link]) (fun t => by rw [fatalStop_link]; rfl) s
@[simp] theorem pushStatus_link_alignIn (x : OutFrame) (k l : Link) (s : State) :
    ((pushStatus x k s).link l).alignIn = (s.link l).alignIn := by
  unfold pushStatus; split
  · cases k <;> cases l <;> rfl
  · cases l <;> simp [State.link]
@[simp] theorem collect_link_alignIn (s : State) (l : Link) : ((collect s).link l).alignIn = (s.link l).alignIn :=
  collect_keeps (fun t => (t.link l).alignIn) (fun x k t => pushStatus_link_alignIn x k l t)
    (fun _ _ => by cases l <;> rfl) (fun _ _ => rfl) (fun _ _ => rfl)
    (fun t => by cases l <;> simp [State.link]) (fun t => by rw [fatalStop_link]; rfl) s
@[simp] theorem pushStatus_link_alignGood (x : OutFrame) (k l : Link) (s : State) :
    ((pushStatus x k s).link l).alignGood = (s.link l).alignGood := by
  unfold pushStatus; split
  · cases k <;> cases l <;> rfl
  · cases l <;> simp [State.link]
@[simp] theorem collect_link_alignGood (s : State) (l : Link) : ((collect s).link l).alignGood = (s.link l).alignGood :=
  collect_keeps (fun t => (t.link l).alignGood) (fun x k t => pushStatus_link_alignGood x k l t)
    (fun _ _ => by cases l <;> rfl) (fun _ _ => rfl) (fun _ _ => rfl)
    (fun t => by cases l <;> simp [State.link]) (fun t => by rw [fatalStop_link]; rfl) s
@[simp] theorem pushStatus_link_alignBad (x : OutFrame) (k l : Link) (s : State) :
    ((pushStatus x k s).link l).alignBad = (s.link l).alignBad := by
  unfold pushStatus; split
  · cases k <;> cases l <;> rfl
  · cases l <;> simp [State.link]
@[simp] theorem collect_link_alignBad (s : State) (l : Link) : ((collect s).link l).alignBad = (s.link l).alignBad :=
  collect_keeps (fun t => (t.link l).alignBad) (fun x k t => pushStatus_link_alignBad x k l t)
    (fun _ _ => by cases l <;> rfl) (fun _ _ => rfl) (fun _ _ => rfl)
    (fun t => by cases l <;> simp [State.link]) (fun t => by rw [fatalStop_link]; rfl) s
@[simp] theorem pushStatus_link_alignOut (x : OutFrame) (k l : Link) (s : State) :
    ((pushStatus x k s).link l).alignOut = (s.link l).alignOut := by
  unfold pushStatus; split
  · cases k <;> cases l <;> rfl
  · cases l <;> simp [State.link]
@[simp] theorem collect_link_alignOut (s : State) (l : Link) : ((collect s).link l).alignOut = (s.link l).alignOut :=
  collect_keeps (fun t => (t.link l).alignOut) (fun x k t => pushStatus_link_alignOut x k l t)
    (fun _ _ => by cases l <;> rfl) (fun _ _ => rfl) (fun _ _ => rfl)
    (fun t => by cases l <;> simp [State.link]) (fun t => by rw [fatalStop_link]; rfl) s
@[simp] theorem pushStatus_link_eye0 (x : OutFrame) (k l : Link) (s : State) :
    ((pushStatus x k s).link l).eye0 = (s.link l).eye0 := by
  unfold pushStatus; split
  · cases k <;> cases l <;> rfl
  · cases l <;> simp [State.link]
@[simp] theorem collect_link_eye0 (s : State) (l : Link) : ((collect s).link l).eye0 = (s.link l).eye0 :=
  collect_keeps (fun t => (t.link l).eye0) (fun x k t => pushStatus_link_eye0 x k l t)
    (fun _ _ => by cases l <;> rfl) (fun _ _ => rfl) (fun _ _ => rfl)
    (fun t => by cases l <;> simp [State.link]) (fun t => by rw [fatalStop_link]; rfl) s
@[simp] theorem pushStatus_link_eye1 (x : OutFrame) (k l : Link) (s : State) :
    ((pushStatus x k s).link l).eye1 = (s.link l).eye1 := by
  unfold pushStatus; split
  · cases k <;> cases l <;> rfl
  · cases l <;> simp [State.link]
@[simp] theorem collect_link_eye1 (s : State) (l : Link) : ((collect s).link l).eye1 = (s.link l).eye1 :=
  collect_keeps (fun t => (t.link l).eye1) (fun x k t => pushStatus_link_eye1 x k l t)
    (fun _ _ => by cases l <;> rfl) (fun _ _ => rfl) (fun _ _ => rfl)
    (fun t => by cases l <;> simp [State.link]) (fun t => by rw [fatalStop_link]; rfl) s
@[simp] theorem pushStatus_link_rxQuiet (x : OutFrame) (k l : Link) (s : State) :
    ((pushStatus x k s).link l).rxQuiet = (s.link l).rxQuiet := by
  unfold pushStatus; split
  · cases k <;> cases l <;> rfl
  · cases l <;> simp [State.link]
@[simp] theorem collect_link_rxQuiet (s : State) (l : Link) : ((collect s).link l).rxQuiet = (s.link l).rxQuiet :=
  collect_keeps (fun t => (t.link l).rxQuiet) (fun x k t => pushStatus_link_rxQuiet x k l t)
    (fun _ _ => by cases l <;> rfl) (fun _ _ => rfl) (fun _ _ => rfl)
    (fun t => by cases l <;> simp [State.link]) (fun t => by rw [fatalStop_link]; rfl) s
@[simp] theorem pushStatus_link_rxExiting (x : OutFrame) (k l : Link) (s : State) :
    ((pushStatus x k s).link l).rxExiting = (s.link l).rxExiting := by
  unfold pushStatus; split
  · cases k <;> cases l <;> rfl
  · cases l <;> simp [State.link]
@[simp] theorem collect_link_rxExiting (s : State) (l : Link) : ((collect s).link l).rxExiting = (s.link l).rxExiting :=
  collect_keeps (fun t => (t.link l).rxExiting) (fun x k t => pushStatus_link_rxExiting x k l t)
    (fun _ _ => by cases l <;> rfl) (fun _ _ => rfl) (fun _ _ => rfl)
    (fun t => by cases l <;> simp [State.link]) (fun t => by rw [fatalStop_link]; rfl) s
@[simp] theorem pushStatus_link_fit (x : OutFrame) (k l : Link) (s : State) :
    ((pushStatus x k s).link l).fit = (s.link l).fit := by
  unfold pushStatus; split
  · cases k <;> cases l <;> rfl
  · cases l <;> simp [State.link]
@[simp] theorem collect_link_fit (s : State) (l : Link) : ((collect s).link l).fit = (s.link l).fit :=
  collect_keeps (fun t => (t.link l).fit) (fun x k t => pushStatus_link_fit x k l t)
    (fun _ _ => by cases l <;> rfl) (fun _ _ => rfl) (fun _ _ => rfl)
    (fun t => by cases l <;> simp [State.link]) (fun t => by rw [fatalStop_link]; rfl) s
@[simp] theorem pushStatus_link_moveDue (x : OutFrame) (k l : Link) (s : State) :
    ((pushStatus x k s).link l).moveDue = (s.link l).moveDue := by
  unfold pushStatus; split
  · cases k <;> cases l <;> rfl
  · cases l <;> simp [State.link]
@[simp] theorem collect_link_moveDue (s : State) (l : Link) : ((collect s).link l).moveDue = (s.link l).moveDue :=
  collect_keeps (fun t => (t.link l).moveDue) (fun x k t => pushStatus_link_moveDue x k l t)
    (fun _ _ => by cases l <;> rfl) (fun _ _ => rfl) (fun _ _ => rfl)
    (fun t => by cases l <;> simp [State.link]) (fun t => by rw [fatalStop_link]; rfl) s
@[simp] theorem pushStatus_link_holdFrom (x : OutFrame) (k l : Link) (s : State) :
    ((pushStatus x k s).link l).holdFrom = (s.link l).holdFrom := by
  unfold pushStatus; split
  · cases k <;> cases l <;> rfl
  · cases l <;> simp [State.link]
@[simp] theorem collect_link_holdFrom (s : State) (l : Link) : ((collect s).link l).holdFrom = (s.link l).holdFrom :=
  collect_keeps (fun t => (t.link l).holdFrom) (fun x k t => pushStatus_link_holdFrom x k l t)
    (fun _ _ => by cases l <;> rfl) (fun _ _ => rfl) (fun _ _ => rfl)
    (fun t => by cases l <;> simp [State.link]) (fun t => by rw [fatalStop_link]; rfl) s
@[simp] theorem pushStatus_link_stopData (x : OutFrame) (k l : Link) (s : State) :
    ((pushStatus x k s).link l).stopData = (s.link l).stopData := by
  unfold pushStatus; split
  · cases k <;> cases l <;> rfl
  · cases l <;> simp [State.link]
@[simp] theorem collect_link_stopData (s : State) (l : Link) : ((collect s).link l).stopData = (s.link l).stopData :=
  collect_keeps (fun t => (t.link l).stopData) (fun x k t => pushStatus_link_stopData x k l t)
    (fun _ _ => by cases l <;> rfl) (fun _ _ => rfl) (fun _ _ => rfl)
    (fun t => by cases l <;> simp [State.link]) (fun t => by rw [fatalStop_link]; rfl) s
@[simp] theorem pushStatus_link_stopBulk (x : OutFrame) (k l : Link) (s : State) :
    ((pushStatus x k s).link l).stopBulk = (s.link l).stopBulk := by
  unfold pushStatus; split
  · cases k <;> cases l <;> rfl
  · cases l <;> simp [State.link]
@[simp] theorem collect_link_stopBulk (s : State) (l : Link) : ((collect s).link l).stopBulk = (s.link l).stopBulk :=
  collect_keeps (fun t => (t.link l).stopBulk) (fun x k t => pushStatus_link_stopBulk x k l t)
    (fun _ _ => by cases l <;> rfl) (fun _ _ => rfl) (fun _ _ => rfl)
    (fun t => by cases l <;> simp [State.link]) (fun t => by rw [fatalStop_link]; rfl) s
@[simp] theorem pushStatus_link_mgmt (x : OutFrame) (k l : Link) (s : State) :
    ((pushStatus x k s).link l).mgmt = (s.link l).mgmt := by
  unfold pushStatus; split
  · cases k <;> cases l <;> rfl
  · cases l <;> simp [State.link]
@[simp] theorem collect_link_mgmt (s : State) (l : Link) : ((collect s).link l).mgmt = (s.link l).mgmt :=
  collect_keeps (fun t => (t.link l).mgmt) (fun x k t => pushStatus_link_mgmt x k l t)
    (fun _ _ => by cases l <;> rfl) (fun _ _ => rfl) (fun _ _ => rfl)
    (fun t => by cases l <;> simp [State.link]) (fun t => by rw [fatalStop_link]; rfl) s
@[simp] theorem pushStatus_link_data (x : OutFrame) (k l : Link) (s : State) :
    ((pushStatus x k s).link l).data = (s.link l).data := by
  unfold pushStatus; split
  · cases k <;> cases l <;> rfl
  · cases l <;> simp [State.link]
@[simp] theorem collect_link_data (s : State) (l : Link) : ((collect s).link l).data = (s.link l).data :=
  collect_keeps (fun t => (t.link l).data) (fun x k t => pushStatus_link_data x k l t)
    (fun _ _ => by cases l <;> rfl) (fun _ _ => rfl) (fun _ _ => rfl)
    (fun t => by cases l <;> simp [State.link]) (fun t => by rw [fatalStop_link]; rfl) s
@[simp] theorem pushStatus_link_bulk (x : OutFrame) (k l : Link) (s : State) :
    ((pushStatus x k s).link l).bulk = (s.link l).bulk := by
  unfold pushStatus; split
  · cases k <;> cases l <;> rfl
  · cases l <;> simp [State.link]
@[simp] theorem collect_link_bulk (s : State) (l : Link) : ((collect s).link l).bulk = (s.link l).bulk :=
  collect_keeps (fun t => (t.link l).bulk) (fun x k t => pushStatus_link_bulk x k l t)
    (fun _ _ => by cases l <;> rfl) (fun _ _ => rfl) (fun _ _ => rfl)
    (fun t => by cases l <;> simp [State.link]) (fun t => by rw [fatalStop_link]; rfl) s
@[simp] theorem pushStatus_link_lastPort (x : OutFrame) (k l : Link) (s : State) :
    ((pushStatus x k s).link l).lastPort = (s.link l).lastPort := by
  unfold pushStatus; split
  · cases k <;> cases l <;> rfl
  · cases l <;> simp [State.link]
@[simp] theorem collect_link_lastPort (s : State) (l : Link) : ((collect s).link l).lastPort = (s.link l).lastPort :=
  collect_keeps (fun t => (t.link l).lastPort) (fun x k t => pushStatus_link_lastPort x k l t)
    (fun _ _ => by cases l <;> rfl) (fun _ _ => rfl) (fun _ _ => rfl)
    (fun t => by cases l <;> simp [State.link]) (fun t => by rw [fatalStop_link]; rfl) s
@[simp] theorem pushStatus_link_progressAt (x : OutFrame) (k l : Link) (s : State) :
    ((pushStatus x k s).link l).progressAt = (s.link l).progressAt := by
  unfold pushStatus; split
  · cases k <;> cases l <;> rfl
  · cases l <;> simp [State.link]
@[simp] theorem collect_link_progressAt (s : State) (l : Link) : ((collect s).link l).progressAt = (s.link l).progressAt :=
  collect_keeps (fun t => (t.link l).progressAt) (fun x k t => pushStatus_link_progressAt x k l t)
    (fun _ _ => by cases l <;> rfl) (fun _ _ => rfl) (fun _ _ => rfl)
    (fun t => by cases l <;> simp [State.link]) (fun t => by rw [fatalStop_link]; rfl) s
@[simp] theorem pushStatus_link_idleFrom (x : OutFrame) (k l : Link) (s : State) :
    ((pushStatus x k s).link l).idleFrom = (s.link l).idleFrom := by
  unfold pushStatus; split
  · cases k <;> cases l <;> rfl
  · cases l <;> simp [State.link]
@[simp] theorem collect_link_idleFrom (s : State) (l : Link) : ((collect s).link l).idleFrom = (s.link l).idleFrom :=
  collect_keeps (fun t => (t.link l).idleFrom) (fun x k t => pushStatus_link_idleFrom x k l t)
    (fun _ _ => by cases l <;> rfl) (fun _ _ => rfl) (fun _ _ => rfl)
    (fun t => by cases l <;> simp [State.link]) (fun t => by rw [fatalStop_link]; rfl) s
@[simp] theorem pushStatus_link_bulkOpen (x : OutFrame) (k l : Link) (s : State) :
    ((pushStatus x k s).link l).bulkOpen = (s.link l).bulkOpen := by
  unfold pushStatus; split
  · cases k <;> cases l <;> rfl
  · cases l <;> simp [State.link]
@[simp] theorem collect_link_bulkOpen (s : State) (l : Link) : ((collect s).link l).bulkOpen = (s.link l).bulkOpen :=
  collect_keeps (fun t => (t.link l).bulkOpen) (fun x k t => pushStatus_link_bulkOpen x k l t)
    (fun _ _ => by cases l <;> rfl) (fun _ _ => rfl) (fun _ _ => rfl)
    (fun t => by cases l <;> simp [State.link]) (fun t => by rw [fatalStop_link]; rfl) s
@[simp] theorem pushStatus_link_flowGroups (x : OutFrame) (k l : Link) (s : State) :
    ((pushStatus x k s).link l).flowGroups = (s.link l).flowGroups := by
  unfold pushStatus; split
  · cases k <;> cases l <;> rfl
  · cases l <;> simp [State.link]
@[simp] theorem collect_link_flowGroups (s : State) (l : Link) : ((collect s).link l).flowGroups = (s.link l).flowGroups :=
  collect_keeps (fun t => (t.link l).flowGroups) (fun x k t => pushStatus_link_flowGroups x k l t)
    (fun _ _ => by cases l <;> rfl) (fun _ _ => rfl) (fun _ _ => rfl)
    (fun t => by cases l <;> simp [State.link]) (fun t => by rw [fatalStop_link]; rfl) s
@[simp] theorem pushStatus_link_check0 (x : OutFrame) (k l : Link) (s : State) :
    ((pushStatus x k s).link l).check0 = (s.link l).check0 := by
  unfold pushStatus; split
  · cases k <;> cases l <;> rfl
  · cases l <;> simp [State.link]
@[simp] theorem collect_link_check0 (s : State) (l : Link) : ((collect s).link l).check0 = (s.link l).check0 :=
  collect_keeps (fun t => (t.link l).check0) (fun x k t => pushStatus_link_check0 x k l t)
    (fun _ _ => by cases l <;> rfl) (fun _ _ => rfl) (fun _ _ => rfl)
    (fun t => by cases l <;> simp [State.link]) (fun t => by rw [fatalStop_link]; rfl) s
@[simp] theorem pushStatus_link_check1 (x : OutFrame) (k l : Link) (s : State) :
    ((pushStatus x k s).link l).check1 = (s.link l).check1 := by
  unfold pushStatus; split
  · cases k <;> cases l <;> rfl
  · cases l <;> simp [State.link]
@[simp] theorem collect_link_check1 (s : State) (l : Link) : ((collect s).link l).check1 = (s.link l).check1 :=
  collect_keeps (fun t => (t.link l).check1) (fun x k t => pushStatus_link_check1 x k l t)
    (fun _ _ => by cases l <;> rfl) (fun _ _ => rfl) (fun _ _ => rfl)
    (fun t => by cases l <;> simp [State.link]) (fun t => by rw [fatalStop_link]; rfl) s
@[simp] theorem pushStatus_link_laneSet (x : OutFrame) (k l : Link) (s : State) :
    ((pushStatus x k s).link l).laneSet = (s.link l).laneSet := by
  unfold pushStatus; split
  · cases k <;> cases l <;> rfl
  · cases l <;> simp [State.link]
@[simp] theorem collect_link_laneSet (s : State) (l : Link) : ((collect s).link l).laneSet = (s.link l).laneSet :=
  collect_keeps (fun t => (t.link l).laneSet) (fun x k t => pushStatus_link_laneSet x k l t)
    (fun _ _ => by cases l <;> rfl) (fun _ _ => rfl) (fun _ _ => rfl)
    (fun t => by cases l <;> simp [State.link]) (fun t => by rw [fatalStop_link]; rfl) s
/-! ## Commands without occurrences, counters and settings -/

/-- With no occurrence due, no injection written and nothing acknowledged the collector has nothing to do. -/
theorem collect_nil {s : State} (h : s.faults.due = []) (hn : s.faults.injectNext = []) (ha : s.faults.ackedNow = []) :
    collect s = s := by
  unfold collect
  rw [h, hn]
  show s.forgetAcks = s
  rw [State.forgetAcks, ← ha]

/-- A command on a core that runs (notes/assumptions/8). -/
theorem run_running {s : State} (f : State → State) (h : s.coreStopped = false) : run f s = .next (collect (f s)) := by
  unfold run; rw [h]; rfl

theorem pushStatus_faults (x : OutFrame) (l : Link) (s : State) : (pushStatus x l s).faults = s.faults := by
  unfold pushStatus; split <;> simp

theorem reportFault_faults (r : FaultRec) (s : State) : (reportFault r s).faults = s.faults :=
  sendStatus_keeps (fun t => t.faults) pushStatus_faults (fun _ _ => rfl) _ _ _ _ _ _ s

theorem takeRaise_due (o : Occ) (b : Bool) (s : State) : (takeRaise o b s).1.faults.due = s.faults.due := by
  have hc : (countOcc o s).faults = s.faults := by unfold countOcc; split <;> simp
  simp only [takeRaise, logFault]
  split
  · split <;> simp [stampOcc, hc]
  · split
    · split <;> simp [stampOcc, hc]
    · split <;> simp [stampOcc, hc]

theorem takeRepeat_due (o : Occ) (s : State) : (takeRepeat o s).faults.due = s.faults.due := by
  have hc : (countOcc o s).faults = s.faults := by unfold countOcc; split <;> simp
  simp [takeRepeat, stampOcc, hc]

theorem takeAll_due (os : List Occ) (b : Bool) (s : State) : (takeAll os b s).1.faults.due = s.faults.due := by
  induction os generalizing b s with
  | nil => rfl
  | cons o rest ih =>
    unfold takeAll
    split
    · rw [ih, takeRepeat_due]
    · dsimp only
      rw [ih, takeRaise_due]

/-- The collector leaves no occurrence of its core cycle behind (R404). -/
theorem collect_due (s : State) : (collect s).faults.due = [] := by
  have fin : ∀ (os : List Occ) (u : State), u.faults.due = [] →
      (if (takeAll os false u).2.any (fun x => x.cls == 4) then fatalStop (takeAll os false u).1
       else forAll (takeAll os false u).2 reportFault (takeAll os false u).1).faults.due = [] := by
    intro os u hu
    split
    · obtain ⟨x, -, hx⟩ := fatalStop_eq (takeAll os false u).1
      rw [hx]
      exact (takeAll_due os false u).trans hu
    · rw [forAll_keeps (fun t => t.faults) _ _ (fun r t => reportFault_faults r t)]
      exact (takeAll_due os false u).trans hu
  unfold collect
  split
  · assumption
  · assumption
  · exact fin _ _ rfl

/-- The codes of the counters that the collector may count in. -/
def collectorCounter (code : Nat) : Bool :=
  code == Code.injections || code == linkCode .a Code.statusDrops || code == linkCode .b Code.statusDrops

theorem objKey_ne {c i d j : Nat} (h : c ≠ d) (hi : i < 2 ^ 24) (hj : j < 2 ^ 24) : objKey c i ≠ objKey d j := by
  unfold objKey; omega

theorem bumpBy_regWritten {c i d j : Nat} (h : objKey c i ≠ objKey d j) (n : Nat) (s : State) :
    (s.bumpBy d j n).regWritten c i = s.regWritten c i := by
  unfold State.bumpBy; split
  · rfl
  · exact State.regWritten_setReg_ne _ _ h

/-- No working value but those of its counters changes when the collector works. -/
theorem collect_regWritten {code inst : Nat} (h : collectorCounter code = false) (hi : inst < 2 ^ 24) (s : State) :
    (collect s).regWritten code inst = s.regWritten code inst := by
  simp only [collectorCounter, Bool.or_eq_false_iff, beq_eq_false_iff_ne, ne_eq] at h
  obtain ⟨⟨h1, h2⟩, h3⟩ := h
  have push : ∀ (x : OutFrame) (l : Link) (t : State), (pushStatus x l t).regWritten code inst = t.regWritten code inst := by
    intro x l t
    unfold pushStatus
    split
    · simp [State.regWritten]
    · exact bumpBy_regWritten (objKey_ne (by cases l <;> assumption) hi (by omega)) _ _
  exact collect_keeps (fun t => t.regWritten code inst) push (fun _ _ => rfl) (fun _ _ => rfl) (fun _ _ => rfl)
    (fun t => bumpBy_regWritten (objKey_ne h1 hi (by omega)) _ _)
    (fun t => by obtain ⟨x, -, hx⟩ := fatalStop_eq t; rw [hx]; rfl) s

/-- A working value that was written reads as written, whatever else changed. -/
theorem reg_of_written {s : State} {code inst : Nat} {v : Int} (h : s.regWritten code inst = some v) :
    s.reg code inst = v := by
  simp [State.reg, h]

/-! ## Counts -/

theorem fatalStop_aon (s : State) : (fatalStop s).aon = s.aon := by
  obtain ⟨x, -, hx⟩ := fatalStop_eq s; rw [hx]
theorem reportFault_aon (r : FaultRec) (s : State) : (reportFault r s).aon = s.aon :=
  sendStatus_keeps (fun t => t.aon) (by intro x l t; unfold pushStatus; split <;> simp) (fun _ _ => rfl) _ _ _ _ _ _ s
theorem takeRaise_counts (o : Occ) (b : Bool) (s : State) : (takeRaise o b s).1.aon.faultCounts = (countOcc o s).aon.faultCounts := by
  simp only [takeRaise, logFault]; (repeat' split) <;> simp_all [stampOcc]
theorem takeRepeat_counts (o : Occ) (s : State) : (takeRepeat o s).aon.faultCounts = (countOcc o s).aon.faultCounts := by
  simp [takeRepeat, stampOcc]
/-- The count of a source after occurrences. -/
theorem countOcc_count (o : Occ) (s : State) (n : Nat) : (countOcc o s).faultCount n = if o.injected = false ∧ o.source = n then min (s.faultCount n + 1) (2 ^ 32 - 1) else s.faultCount n := by
  unfold countOcc
  by_cases h : o.injected
  · simp [h, State.faultCount]
  · by_cases h2 : o.source = n
    · subst h2; simp [h, State.faultCount, Tab.get]
    · simp [h, h2, State.faultCount, Tab.get]
      rw [Tab.find_put_ne]; omega
/-- What one occurrence adds to the count of a source (R404, R419). -/
def countStep (n : Nat) (k : Nat) (o : Occ) : Nat := if o.injected = false ∧ o.source = n then min (k + 1) (2 ^ 32 - 1) else k
/-- The counts of FAULT_TABLE after a list of occurrences: each real one counts for its own source, in whatever order (R404). -/
theorem takeAll_count (os : List Occ) (b : Bool) (s : State) (n : Nat) : (takeAll os b s).1.faultCount n = os.foldl (countStep n) (s.faultCount n) := by
  induction os generalizing b s with
  | nil => rfl
  | cons o rest ih =>
    have h1 : (takeRepeat o s).faultCount n = countStep n (s.faultCount n) o := by
      rw [State.faultCount, takeRepeat_counts, ← State.faultCount, countOcc_count]; rfl
    have h2 : (takeRaise o b s).1.faultCount n = countStep n (s.faultCount n) o := by
      rw [State.faultCount, takeRaise_counts, ← State.faultCount, countOcc_count]; rfl
    unfold takeAll
    split
    · rw [ih, h1]; rfl
    · dsimp only; rw [ih, h2]; rfl
/-- Two occurrences count alike in either order. -/
theorem countStep_comm (n k : Nat) (x y : Occ) : countStep n (countStep n k x) y = countStep n (countStep n k y) x := by
  unfold countStep; split <;> split <;> rfl
/-- A fold that does not mind the order of two elements does not mind where one is inserted. -/
theorem foldl_insertBy {α β : Type} {f : β → α → β} (hc : ∀ k x y, f (f k x) y = f (f k y) x) (le : α → α → Bool) (x : α)
    (l : List α) (k : β) : (insertBy le x l).foldl f k = l.foldl f (f k x) := by
  induction l generalizing k with
  | nil => rfl
  | cons y l ih =>
    unfold insertBy
    split
    · simp only [List.foldl]; rw [ih, hc]
    · rfl
/-- Nor does it mind the sorting of the list. -/
theorem foldl_sortBy {α β : Type} {f : β → α → β} (hc : ∀ k x y, f (f k x) y = f (f k y) x) (le : α → α → Bool)
    (l : List α) (k : β) : (sortBy le l).foldl f k = l.foldl f k := by
  have gen : ∀ (l acc : List α) (k : β), (l.foldl (fun acc x => insertBy le x acc) acc).foldl f k = l.foldl f (acc.foldl f k) := by
    intro l
    induction l with
    | nil => intro acc k; rfl
    | cons x l ih =>
      intro acc k
      simp only [List.foldl]
      rw [ih, foldl_insertBy hc]
      congr 1
      clear ih
      induction acc generalizing k with
      | nil => rfl
      | cons y acc ia => simp only [List.foldl]; rw [hc, ia]
  exact gen l [] k
/-- A core cycle with one real occurrence counts it for its source and for no other (R404). -/
theorem collect_count_one {s : State} {o : Occ} (h : s.faults.due = [o]) (hi : o.injected = false) (n : Nat) :
    (collect s).faultCount n = if o.source = n then min (s.faultCount n + 1) (2 ^ 32 - 1) else s.faultCount n := by
  have fin : ∀ (os : List Occ) (u : State), (if (takeAll os false u).2.any (fun x => x.cls == 4) then fatalStop (takeAll os false u).1
       else forAll (takeAll os false u).2 reportFault (takeAll os false u).1).faultCount n = os.foldl (countStep n) (u.faultCount n) := by
    intro os u
    rw [← takeAll_count os false u n]
    split
    · rw [State.faultCount, fatalStop_aon]; rfl
    · rw [State.faultCount, forAll_keeps (fun t => t.aon) _ _ (fun r t => reportFault_aon r t)]; rfl
  unfold collect; rw [h]
  refine Eq.trans ?_ ((fin (sortBy captureBefore ([o] ++ if [o].any (fun o => o.injected) then [] else s.injections))
    { s with faults := { s.faults with due := [], inject := s.faults.injectNext, injectNext := [] } }).trans ?_)
  · rfl
  rw [foldl_sortBy (countStep_comm n)]
  rw [List.foldl_append]
  have none : ∀ (m : List Occ) (k : Nat), (∀ i ∈ m, i.injected = true) → m.foldl (countStep n) k = k := by
    intro m
    induction m with
    | nil => intro k _; rfl
    | cons z m im =>
      intro k hm
      rw [List.foldl, im _ (fun i hi => hm i (by simp [hi]))]
      simp [countStep, hm z (by simp)]
  rw [none]
  · simp [countStep, hi]; rfl
  · intro i hm
    split at hm
    · simp at hm
    · obtain ⟨src, -, rfl⟩ := List.mem_map.mp hm; unfold injectedOcc; split <;> rfl

end Sys2Proof.Machine
end

