-- ==== Sys2Proof/Laws/Slots.lean ====
section
/-! SUPPORT. What leaves the two persistence slots alone: every function of the model below the commands but the end of a
commit and the erasure of R450 (R346, R450, R452). -/

namespace Sys2Proof.Machine

@[simp] theorem ite_slotA (c : Prop) [Decidable c] (a b : State) :
    (if c then a else b).nvm.slotA = if c then a.nvm.slotA else b.nvm.slotA := by split <;> rfl
@[simp] theorem ite_slotB (c : Prop) [Decidable c] (a b : State) :
    (if c then a else b).nvm.slotB = if c then a.nvm.slotB else b.nvm.slotB := by split <;> rfl

theorem getD_slotA {o : Option State} {s u : State} (h : ∀ t, o = some t → t.nvm.slotA = s.nvm.slotA) (hu : u.nvm.slotA = s.nvm.slotA) :
    (o.getD u).nvm.slotA = s.nvm.slotA := by
  cases o with
  | none => exact hu
  | some t => exact h t rfl
theorem getD_slotB {o : Option State} {s u : State} (h : ∀ t, o = some t → t.nvm.slotB = s.nvm.slotB)
    (hu : u.nvm.slotB = s.nvm.slotB) : (o.getD u).nvm.slotB = s.nvm.slotB := by
  cases o with
  | none => exact hu
  | some t => exact h t rfl

/-! ## Tables -/

@[simp] theorem forAll_slotA (xs : List α) (f : α → State → State) (h : ∀ x t, (f x t).nvm.slotA = t.nvm.slotA) (s : State) : (forAll xs f s).nvm.slotA = s.nvm.slotA := by
  induction xs generalizing s with
  | nil => rfl
  | cons x xs ih => simp only [forAll, List.foldl_cons] at ih ⊢; rw [ih, h]

@[simp] theorem forAll_slotB (xs : List α) (f : α → State → State) (h : ∀ x t, (f x t).nvm.slotB = t.nvm.slotB) (s : State) : (forAll xs f s).nvm.slotB = s.nvm.slotB := by
  induction xs generalizing s with
  | nil => rfl
  | cons x xs ih => simp only [forAll, List.foldl_cons] at ih ⊢; rw [ih, h]

@[simp] theorem onlyIf_slotA (c : Bool) (f : State → State) (s : State) (h : ∀ t, (f t).nvm.slotA = t.nvm.slotA) : (onlyIf c f s).nvm.slotA = s.nvm.slotA := by unfold onlyIf; split <;> simp [h]

@[simp] theorem onlyIf_slotB (c : Bool) (f : State → State) (s : State) (h : ∀ t, (f t).nvm.slotB = t.nvm.slotB) : (onlyIf c f s).nvm.slotB = s.nvm.slotB := by unfold onlyIf; split <;> simp [h]

/-! ## Ops -/

@[simp] theorem State.setReg_sets (s : State) (code inst : Nat) (v : Int) :
    (State.setReg s code inst v).nvm.slotA = s.nvm.slotA ∧ (State.setReg s code inst v).nvm.slotB = s.nvm.slotB := by simp [State.setReg]

@[simp] theorem State.setDom_sets (s : State) (code inst : Nat) (v : List Byte) :
    (State.setDom s code inst v).nvm.slotA = s.nvm.slotA ∧ (State.setDom s code inst v).nvm.slotB = s.nvm.slotB := by simp [State.setDom]

@[simp] theorem State.bumpBy_sets (s : State) (code inst n : Nat) :
    (State.bumpBy s code inst n).nvm.slotA = s.nvm.slotA ∧ (State.bumpBy s code inst n).nvm.slotB = s.nvm.slotB := by simp [State.bumpBy]

@[simp] theorem State.bump_sets (s : State) (code inst : Nat) :
    (State.bump s code inst).nvm.slotA = s.nvm.slotA ∧ (State.bump s code inst).nvm.slotB = s.nvm.slotB := by simp [State.bump]

@[simp] theorem State.draw_sets (s : State) :
    (State.draw s).2.nvm.slotA = s.nvm.slotA ∧ (State.draw s).2.nvm.slotB = s.nvm.slotB := by simp [State.draw]

@[simp] theorem State.setPort_sets (s : State) (p : Nat) (x : PortSt) :
    (State.setPort s p x).nvm.slotA = s.nvm.slotA ∧ (State.setPort s p x).nvm.slotB = s.nvm.slotB := by simp [State.setPort]

@[simp] theorem State.modPort_sets (s : State) (p : Nat) (f : PortSt → PortSt) :
    (State.modPort s p f).nvm.slotA = s.nvm.slotA ∧ (State.modPort s p f).nvm.slotB = s.nvm.slotB := by simp [State.modPort]

@[simp] theorem State.modRx_sets (s : State) (p : Nat) (f : RxSt → RxSt) :
    (State.modRx s p f).nvm.slotA = s.nvm.slotA ∧ (State.modRx s p f).nvm.slotB = s.nvm.slotB := by simp [State.modRx]

@[simp] theorem State.modTrunk_sets (s : State) (p : Nat) (f : TrunkSt → TrunkSt) :
    (State.modTrunk s p f).nvm.slotA = s.nvm.slotA ∧ (State.modTrunk s p f).nvm.slotB = s.nvm.slotB := by simp [State.modTrunk]

@[simp] theorem State.modTrav_sets (s : State) (p : Nat) (f : TravSt → TravSt) :
    (State.modTrav s p f).nvm.slotA = s.nvm.slotA ∧ (State.modTrav s p f).nvm.slotB = s.nvm.slotB := by simp [State.modTrav]

@[simp] theorem State.setCtx_sets (s : State) (p d : Nat) (x : Ctx) :
    (State.setCtx s p d x).nvm.slotA = s.nvm.slotA ∧ (State.setCtx s p d x).nvm.slotB = s.nvm.slotB := by simp [State.setCtx]

@[simp] theorem State.modCtx_sets (s : State) (p d : Nat) (f : Ctx → Ctx) :
    (State.modCtx s p d f).nvm.slotA = s.nvm.slotA ∧ (State.modCtx s p d f).nvm.slotB = s.nvm.slotB := by simp [State.modCtx]

@[simp] theorem State.setCluster_sets (s : State) (k : Nat) (x : ClusterSt) :
    (State.setCluster s k x).nvm.slotA = s.nvm.slotA ∧ (State.setCluster s k x).nvm.slotB = s.nvm.slotB := by simp [State.setCluster]

@[simp] theorem State.modCluster_sets (s : State) (k : Nat) (f : ClusterSt → ClusterSt) :
    (State.modCluster s k f).nvm.slotA = s.nvm.slotA ∧ (State.modCluster s k f).nvm.slotB = s.nvm.slotB := by simp [State.modCluster]

@[simp] theorem State.setEngine_sets (s : State) (e : Nat) (x : EngineSt) :
    (State.setEngine s e x).nvm.slotA = s.nvm.slotA ∧ (State.setEngine s e x).nvm.slotB = s.nvm.slotB := by simp [State.setEngine]

@[simp] theorem State.modEngine_sets (s : State) (e : Nat) (f : EngineSt → EngineSt) :
    (State.modEngine s e f).nvm.slotA = s.nvm.slotA ∧ (State.modEngine s e f).nvm.slotB = s.nvm.slotB := by simp [State.modEngine]

@[simp] theorem State.setLink_sets (s : State) (l : Link) (x : LinkSt) :
    (State.setLink s l x).nvm.slotA = s.nvm.slotA ∧ (State.setLink s l x).nvm.slotB = s.nvm.slotB := by unfold State.setLink; (repeat' split) <;> simp

@[simp] theorem State.modLink_sets (s : State) (l : Link) (f : LinkSt → LinkSt) :
    (State.modLink s l f).nvm.slotA = s.nvm.slotA ∧ (State.modLink s l f).nvm.slotB = s.nvm.slotB := by simp [State.modLink]

@[simp] theorem State.setPath_sets (s : State) (q : Path) (x : PathSt) :
    (State.setPath s q x).nvm.slotA = s.nvm.slotA ∧ (State.setPath s q x).nvm.slotB = s.nvm.slotB := by unfold State.setPath; (repeat' split) <;> simp

@[simp] theorem State.modPath_sets (s : State) (q : Path) (f : PathSt → PathSt) :
    (State.modPath s q f).nvm.slotA = s.nvm.slotA ∧ (State.modPath s q f).nvm.slotB = s.nvm.slotB := by simp [State.modPath]

@[simp] theorem State.setSensor_sets (s : State) (n : Nat) (x : SensorSt) :
    (State.setSensor s n x).nvm.slotA = s.nvm.slotA ∧ (State.setSensor s n x).nvm.slotB = s.nvm.slotB := by simp [State.setSensor]

@[simp] theorem atPort_slotA (p : Nat) (f : State → State) (s : State) (h : ∀ t, (f t).nvm.slotA = t.nvm.slotA) : (atPort p f s).nvm.slotA = s.nvm.slotA := by unfold atPort; split <;> simp [h]

@[simp] theorem atPort_slotB (p : Nat) (f : State → State) (s : State) (h : ∀ t, (f t).nvm.slotB = t.nvm.slotB) : (atPort p f s).nvm.slotB = s.nvm.slotB := by unfold atPort; split <;> simp [h]

@[simp] theorem atDrop_slotA (p d : Nat) (f : State → State) (s : State) (h : ∀ t, (f t).nvm.slotA = t.nvm.slotA) : (atDrop p d f s).nvm.slotA = s.nvm.slotA := by unfold atDrop; split <;> simp [h]

@[simp] theorem atDrop_slotB (p d : Nat) (f : State → State) (s : State) (h : ∀ t, (f t).nvm.slotB = t.nvm.slotB) : (atDrop p d f s).nvm.slotB = s.nvm.slotB := by unfold atDrop; split <;> simp [h]

@[simp] theorem atCluster_slotA (k : Nat) (f : State → State) (s : State) (h : ∀ t, (f t).nvm.slotA = t.nvm.slotA) : (atCluster k f s).nvm.slotA = s.nvm.slotA := by unfold atCluster; split <;> simp [h]

@[simp] theorem atCluster_slotB (k : Nat) (f : State → State) (s : State) (h : ∀ t, (f t).nvm.slotB = t.nvm.slotB) : (atCluster k f s).nvm.slotB = s.nvm.slotB := by unfold atCluster; split <;> simp [h]

/-! ## Status -/

@[simp] theorem pushStatus_sets (f : OutFrame) (l : Link) (s : State) :
    (pushStatus f l s).nvm.slotA = s.nvm.slotA ∧ (pushStatus f l s).nvm.slotB = s.nvm.slotB := by simp [pushStatus]

@[simp] theorem sendStatus_sets (links : List Link) (kind port drop epoch : Nat) (body : List Byte) (s : State) :
    (sendStatus links kind port drop epoch body s).nvm.slotA = s.nvm.slotA ∧ (sendStatus links kind port drop epoch body s).nvm.slotB = s.nvm.slotB := by simp [sendStatus]

@[simp] theorem portStatus_sets (kind port drop epoch : Nat) (body : List Byte) (s : State) :
    (portStatus kind port drop epoch body s).nvm.slotA = s.nvm.slotA ∧ (portStatus kind port drop epoch body s).nvm.slotB = s.nvm.slotB := by simp [portStatus]

@[simp] theorem deviceStatus_sets (kind : Nat) (body : List Byte) (s : State) :
    (deviceStatus kind body s).nvm.slotA = s.nvm.slotA ∧ (deviceStatus kind body s).nvm.slotB = s.nvm.slotB := by simp [deviceStatus]

@[simp] theorem admissionStatus_sets (p d epoch mode identity caps : Nat) (s : State) :
    (admissionStatus p d epoch mode identity caps s).nvm.slotA = s.nvm.slotA ∧ (admissionStatus p d epoch mode identity caps s).nvm.slotB = s.nvm.slotB := by simp [admissionStatus]

@[simp] theorem releaseStatus_sets (p d epoch reason : Nat) (s : State) :
    (releaseStatus p d epoch reason s).nvm.slotA = s.nvm.slotA ∧ (releaseStatus p d epoch reason s).nvm.slotB = s.nvm.slotB := by simp [releaseStatus]

@[simp] theorem staleStatus_sets (p d cause frameEpoch epoch : Nat) (s : State) :
    (staleStatus p d cause frameEpoch epoch s).nvm.slotA = s.nvm.slotA ∧ (staleStatus p d cause frameEpoch epoch s).nvm.slotB = s.nvm.slotB := by simp [staleStatus]

@[simp] theorem discardStatus_sets (p d cause length : Nat) (s : State) :
    (discardStatus p d cause length s).nvm.slotA = s.nvm.slotA ∧ (discardStatus p d cause length s).nvm.slotB = s.nvm.slotB := by simp [discardStatus]

@[simp] theorem twinMoveStatus_sets (src dst d oldEpoch newEpoch reason : Nat) (s : State) :
    (twinMoveStatus src dst d oldEpoch newEpoch reason s).nvm.slotA = s.nvm.slotA ∧ (twinMoveStatus src dst d oldEpoch newEpoch reason s).nvm.slotB = s.nvm.slotB := by simp [twinMoveStatus]

@[simp] theorem linkEventStatus_sets (links : List Link) (l : Link) (event : Nat) (s : State) :
    (linkEventStatus links l event s).nvm.slotA = s.nvm.slotA ∧ (linkEventStatus links l event s).nvm.slotB = s.nvm.slotB := by simp [linkEventStatus]

@[simp] theorem trunkStatus_sets (p event : Nat) (s : State) :
    (trunkStatus p event s).nvm.slotA = s.nvm.slotA ∧ (trunkStatus p event s).nvm.slotB = s.nvm.slotB := by simp [trunkStatus]

@[simp] theorem modeStatus_sets (p d old new : Nat) (s : State) :
    (modeStatus p d old new s).nvm.slotA = s.nvm.slotA ∧ (modeStatus p d old new s).nvm.slotB = s.nvm.slotB := by simp [modeStatus]

/-! ## Collector -/

@[simp] theorem notice_sets (o : Occ) (s : State) :
    (notice o s).nvm.slotA = s.nvm.slotA ∧ (notice o s).nvm.slotB = s.nvm.slotB := by simp [notice]

@[simp] theorem fault_sets (source : Nat) (key : List Nat) (detail : List (Nat × Nat)) (s : State) :
    (fault source key detail s).nvm.slotA = s.nvm.slotA ∧ (fault source key detail s).nvm.slotB = s.nvm.slotB := by simp [fault]

@[simp] theorem countOcc_sets (o : Occ) (s : State) :
    (countOcc o s).nvm.slotA = s.nvm.slotA ∧ (countOcc o s).nvm.slotB = s.nvm.slotB := by simp [countOcc]

@[simp] theorem stampOcc_sets (o : Occ) (s : State) :
    (stampOcc o s).nvm.slotA = s.nvm.slotA ∧ (stampOcc o s).nvm.slotB = s.nvm.slotB := by simp [stampOcc]

@[simp] theorem logFault_sets (r : FaultRec) (s : State) :
    (logFault r s).nvm.slotA = s.nvm.slotA ∧ (logFault r s).nvm.slotB = s.nvm.slotB := by simp [logFault]

@[simp] theorem reportFault_sets (r : FaultRec) (s : State) :
    (reportFault r s).nvm.slotA = s.nvm.slotA ∧ (reportFault r s).nvm.slotB = s.nvm.slotB := by simp [reportFault]

@[simp] theorem takeRaise_sets (o : Occ) (fresh : Bool) (s : State) :
    (takeRaise o fresh s).1.nvm.slotA = s.nvm.slotA ∧ (takeRaise o fresh s).1.nvm.slotB = s.nvm.slotB := by
  simp only [takeRaise, logFault_sets]; (repeat' split) <;> simp

@[simp] theorem takeRepeat_sets (o : Occ) (s : State) :
    (takeRepeat o s).nvm.slotA = s.nvm.slotA ∧ (takeRepeat o s).nvm.slotB = s.nvm.slotB := by simp [takeRepeat]

@[simp] theorem takeAll_sets (os : List Occ) (fresh : Bool) (s : State) :
    (takeAll os fresh s).1.nvm.slotA = s.nvm.slotA ∧ (takeAll os fresh s).1.nvm.slotB = s.nvm.slotB := by
  induction os generalizing fresh s with
  | nil => simp [takeAll]
  | cons o rest ih => unfold takeAll; split <;> simp [ih]

@[simp] theorem fatalStop_sets (s : State) :
    (fatalStop s).nvm.slotA = s.nvm.slotA ∧ (fatalStop s).nvm.slotB = s.nvm.slotB := by simp [fatalStop]

@[simp] theorem State.forgetAcks_sets (s : State) :
    (State.forgetAcks s).nvm.slotA = s.nvm.slotA ∧ (State.forgetAcks s).nvm.slotB = s.nvm.slotB := by simp [State.forgetAcks]

@[simp] theorem collect_sets (s : State) :
    (collect s).nvm.slotA = s.nvm.slotA ∧ (collect s).nvm.slotB = s.nvm.slotB := by unfold collect; (repeat' split) <;> simp

@[simp] theorem endCondition_sets (source : Nat) (key : List Nat) (s : State) :
    (endCondition source key s).nvm.slotA = s.nvm.slotA ∧ (endCondition source key s).nvm.slotB = s.nvm.slotB := by simp [endCondition]

@[simp] theorem endConditions_sets (source : Nat) (s : State) :
    (endConditions source s).nvm.slotA = s.nvm.slotA ∧ (endConditions source s).nvm.slotB = s.nvm.slotB := by simp [endConditions]

@[simp] theorem emitRecords_sets (rs : List FaultRec) (s : State) :
    (emitRecords rs s).nvm.slotA = s.nvm.slotA ∧ (emitRecords rs s).nvm.slotB = s.nvm.slotB := by simp [emitRecords]

@[simp] theorem faultAck_sets (mask : Nat) (s : State) :
    (faultAck mask s).nvm.slotA = s.nvm.slotA ∧ (faultAck mask s).nvm.slotB = s.nvm.slotB := by simp [faultAck]

@[simp] theorem faultClear_sets (mask : Nat) (s : State) :
    (faultClear mask s).nvm.slotA = s.nvm.slotA ∧ (faultClear mask s).nvm.slotB = s.nvm.slotB := by simp [faultClear]

@[simp] theorem fecRearm_sets (s : State) :
    (fecRearm s).nvm.slotA = s.nvm.slotA ∧ (fecRearm s).nvm.slotB = s.nvm.slotB := by simp [fecRearm]

/-! ## Memory -/

@[simp] theorem sramCorrected_sets (mem : Nat) (s : State) :
    (sramCorrected mem s).nvm.slotA = s.nvm.slotA ∧ (sramCorrected mem s).nvm.slotB = s.nvm.slotB := by simp [sramCorrected]

@[simp] theorem sramCorrectedBy_sets (mem n : Nat) (s : State) :
    (sramCorrectedBy mem n s).nvm.slotA = s.nvm.slotA ∧ (sramCorrectedBy mem n s).nvm.slotB = s.nvm.slotB := by simp [sramCorrectedBy]

@[simp] theorem markBad_sets (mem word : Nat) (s : State) :
    (markBad mem word s).nvm.slotA = s.nvm.slotA ∧ (markBad mem word s).nvm.slotB = s.nvm.slotB := by simp [markBad]

@[simp] theorem clearBad_sets (mem word n : Nat) (s : State) :
    (clearBad mem word n s).nvm.slotA = s.nvm.slotA ∧ (clearBad mem word n s).nvm.slotB = s.nvm.slotB := by simp [clearBad]

@[simp] theorem sramUncorrectable_sets (mem word access master : Nat) (s : State) :
    (sramUncorrectable mem word access master s).nvm.slotA = s.nvm.slotA ∧ (sramUncorrectable mem word access master s).nvm.slotB = s.nvm.slotB := by simp [sramUncorrectable]

@[simp] theorem rebuildCtx_sets (p d : Nat) (words : List Nat) (s : State) :
    (rebuildCtx p d words s).nvm.slotA = s.nvm.slotA ∧ (rebuildCtx p d words s).nvm.slotB = s.nvm.slotB := by
  unfold rebuildCtx
  split
  · exact ⟨rfl, rfl⟩
  · dsimp only
    refine ⟨?_, ?_⟩
    · rw [forAll_slotA _ _ (by intro x t; simp)]
      (repeat' split) <;> (try simp) <;> (rw [forAll_slotA _ _ (by intro x t; split <;> simp)])
    · rw [forAll_slotB _ _ (by intro x t; simp)]
      (repeat' split) <;> (try simp) <;> (rw [forAll_slotB _ _ (by intro x t; split <;> simp)])

@[simp] theorem ctxWordFailed_sets (word : Nat) (s : State) :
    (ctxWordFailed word s).nvm.slotA = s.nvm.slotA ∧ (ctxWordFailed word s).nvm.slotB = s.nvm.slotB := by simp [ctxWordFailed]

@[simp] theorem readSum_sets (p n master : Nat) (acc : List Int) (s : State) :
    (readSum p n master acc s).2.nvm.slotA = s.nvm.slotA ∧ (readSum p n master acc s).2.nvm.slotB = s.nvm.slotB := by
  have key : ∀ (ws : List Nat) (x : List Int × State) (f : List Int × State → Nat → List Int × State),
      (∀ y w, (f y w).2.nvm.slotA = y.2.nvm.slotA ∧ (f y w).2.nvm.slotB = y.2.nvm.slotB) →
      (ws.foldl f x).2.nvm.slotA = x.2.nvm.slotA ∧ (ws.foldl f x).2.nvm.slotB = x.2.nvm.slotB := by
    intro ws
    induction ws with
    | nil => intro x f _; exact ⟨rfl, rfl⟩
    | cons w ws ih =>
      intro x f h
      exact ⟨((ih _ f h).1).trans (h x w).1, ((ih _ f h).2).trans (h x w).2⟩
  unfold readSum
  exact key _ _ _ (fun y w => by simp)

@[simp] theorem bufferWordFailed_sets (word : Nat) (s : State) :
    (bufferWordFailed word s).nvm.slotA = s.nvm.slotA ∧ (bufferWordFailed word s).nvm.slotB = s.nvm.slotB := by
  unfold bufferWordFailed
  (try dsimp only)
  (repeat' split) <;> simp

@[simp] theorem bufferWritten_sets (p : Nat) (s : State) :
    (bufferWritten p s).nvm.slotA = s.nvm.slotA ∧ (bufferWritten p s).nvm.slotB = s.nvm.slotB := by simp [bufferWritten]

/-! ## Time -/

@[simp] theorem passTicks_sets (n time64 : Nat) (s : State) :
    (passTicks n time64 s).nvm.slotA = s.nvm.slotA ∧ (passTicks n time64 s).nvm.slotB = s.nvm.slotB := by simp [passTicks]

@[simp] theorem advanceTo_sets (t : Nat) (s : State) :
    (advanceTo t s).nvm.slotA = s.nvm.slotA ∧ (advanceTo t s).nvm.slotB = s.nvm.slotB := by simp [advanceTo]

@[simp] theorem skipTo_sets (t : Nat) (s : State) :
    (skipTo t s).nvm.slotA = s.nvm.slotA ∧ (skipTo t s).nvm.slotB = s.nvm.slotB := by simp [skipTo]

@[simp] theorem tickPass_sets (s : State) :
    (tickPass s).nvm.slotA = s.nvm.slotA ∧ (tickPass s).nvm.slotB = s.nvm.slotB := by simp [tickPass]

@[simp] theorem settleBound_sets (s : State) :
    (settleBound s).nvm.slotA = s.nvm.slotA ∧ (settleBound s).nvm.slotB = s.nvm.slotB := by simp [settleBound]

@[simp] theorem refreshGrade_sets (s : State) :
    (refreshGrade s).nvm.slotA = s.nvm.slotA ∧ (refreshGrade s).nvm.slotB = s.nvm.slotB := by simp [refreshGrade]

@[simp] theorem sourceChanged_sets (s : State) :
    (sourceChanged s).nvm.slotA = s.nvm.slotA ∧ (sourceChanged s).nvm.slotB = s.nvm.slotB := by simp [sourceChanged]

@[simp] theorem raiseReferenceLoss_sets (trunk : Bool) (s : State) :
    (raiseReferenceLoss trunk s).nvm.slotA = s.nvm.slotA ∧ (raiseReferenceLoss trunk s).nvm.slotB = s.nvm.slotB := by simp [raiseReferenceLoss]

@[simp] theorem recheckReference_sets (s : State) :
    (recheckReference s).nvm.slotA = s.nvm.slotA ∧ (recheckReference s).nvm.slotB = s.nvm.slotB := by simp [recheckReference]

@[simp] theorem ref10mQualified_sets (s : State) :
    (ref10mQualified s).nvm.slotA = s.nvm.slotA ∧ (ref10mQualified s).nvm.slotB = s.nvm.slotB := by simp [ref10mQualified]

@[simp] theorem ref10mDisqualified_sets (s : State) :
    (ref10mDisqualified s).nvm.slotA = s.nvm.slotA ∧ (ref10mDisqualified s).nvm.slotB = s.nvm.slotB := by simp [ref10mDisqualified]

@[simp] theorem edgeAbsent_sets (s : State) :
    (edgeAbsent s).nvm.slotA = s.nvm.slotA ∧ (edgeAbsent s).nvm.slotB = s.nvm.slotB := by simp [edgeAbsent]

@[simp] theorem learnOffset_sets (xo : Int) (s : State) :
    (learnOffset xo s).nvm.slotA = s.nvm.slotA ∧ (learnOffset xo s).nvm.slotB = s.nvm.slotB := by simp [learnOffset]

@[simp] theorem learningComplete_sets (xo : Int) (s : State) :
    (learningComplete xo s).nvm.slotA = s.nvm.slotA ∧ (learningComplete xo s).nvm.slotB = s.nvm.slotB := by simp [learningComplete]

@[simp] theorem beginRealign_sets (s : State) :
    (beginRealign s).nvm.slotA = s.nvm.slotA ∧ (beginRealign s).nvm.slotB = s.nvm.slotB := by simp [beginRealign]

@[simp] theorem actOnOffset_sets (ns : Int) (s : State) :
    (actOnOffset ns s).nvm.slotA = s.nvm.slotA ∧ (actOnOffset ns s).nvm.slotB = s.nvm.slotB := by simp [actOnOffset]

@[simp] theorem startGrid_sets (t : Nat) (late : Int) (s : State) :
    (startGrid t late s).nvm.slotA = s.nvm.slotA ∧ (startGrid t late s).nvm.slotB = s.nvm.slotB := by simp [startGrid]

@[simp] theorem acceptedEdge_sets (edge : Int) (s : State) :
    (acceptedEdge edge s).nvm.slotA = s.nvm.slotA ∧ (acceptedEdge edge s).nvm.slotB = s.nvm.slotB := by simp [acceptedEdge]

@[simp] theorem ppsEdge_sets (since : Nat) (edge : Int) (s : State) :
    (ppsEdge since edge s).nvm.slotA = s.nvm.slotA ∧ (ppsEdge since edge s).nvm.slotB = s.nvm.slotB := by simp [ppsEdge]

@[simp] theorem gradeChange_sets (s : State) :
    (gradeChange s).nvm.slotA = s.nvm.slotA ∧ (gradeChange s).nvm.slotB = s.nvm.slotB := by simp [gradeChange]

@[simp] theorem startTimeout_sets (s : State) :
    (startTimeout s).nvm.slotA = s.nvm.slotA ∧ (startTimeout s).nvm.slotB = s.nvm.slotB := by simp [startTimeout]

@[simp] theorem epochSet_sets (v : Nat) (s : State) :
    (epochSet v s).nvm.slotA = s.nvm.slotA ∧ (epochSet v s).nvm.slotB = s.nvm.slotB := by simp [epochSet]

@[simp] theorem renumber_sets (old new : Nat) (s : State) :
    (renumber old new s).nvm.slotA = s.nvm.slotA ∧ (renumber old new s).nvm.slotB = s.nvm.slotB := by simp [renumber]

@[simp] theorem epochApply_sets (s : State) :
    (epochApply s).nvm.slotA = s.nvm.slotA ∧ (epochApply s).nvm.slotB = s.nvm.slotB := by unfold epochApply; (repeat' split) <;> simp

@[simp] theorem realignGridStart_sets (old : Nat) (ns : Int) (s : State) :
    (realignGridStart old ns s).nvm.slotA = s.nvm.slotA ∧ (realignGridStart old ns s).nvm.slotB = s.nvm.slotB := by simp [realignGridStart]

/-! ## Slots -/

@[simp] theorem State.allTaken_sets (s : State) (p : Nat) :
    (State.allTaken s p).nvm.slotA = s.nvm.slotA ∧ (State.allTaken s p).nvm.slotB = s.nvm.slotB := by simp [State.allTaken]

@[simp] theorem queueMsg_sets (p : Nat) (m : OutMsg) (s : State) :
    (queueMsg p m s).nvm.slotA = s.nvm.slotA ∧ (queueMsg p m s).nvm.slotB = s.nvm.slotB := by simp [queueMsg]

@[simp] theorem dropMsgs_sets (p d code : Nat) (s : State) :
    (dropMsgs p d code s).nvm.slotA = s.nvm.slotA ∧ (dropMsgs p d code s).nvm.slotB = s.nvm.slotB := by simp [dropMsgs]

@[simp] theorem sendSlotMap_sets (p : Nat) (m : SlotMap) (sl : Slot) (apply fromCycle : Nat) (advance : Int) (s : State) :
    (sendSlotMap p m sl apply fromCycle advance s).nvm.slotA = s.nvm.slotA ∧ (sendSlotMap p m sl apply fromCycle advance s).nvm.slotB = s.nvm.slotB := by simp [sendSlotMap]

@[simp] theorem announceMap_sets (p : Nat) (known new : SlotMap) (apply : Nat) (s : State) :
    (announceMap p known new apply s).nvm.slotA = s.nvm.slotA ∧ (announceMap p known new apply s).nvm.slotB = s.nvm.slotB := by simp [announceMap]

@[simp] theorem installMap_sets (p : Nat) (m : SlotMap) (apply : Nat) (s : State) :
    (installMap p m apply s).nvm.slotA = s.nvm.slotA ∧ (installMap p m apply s).nvm.slotB = s.nvm.slotB := by simp [installMap]

@[simp] theorem waitFor_sets (p d : Nat) (c : Change) (s : State) :
    (waitFor p d c s).nvm.slotA = s.nvm.slotA ∧ (waitFor p d c s).nvm.slotB = s.nvm.slotB := by simp [waitFor]

@[simp] theorem planGrant_sets (p d old : Nat) (s : State) :
    (planGrant p d old s).nvm.slotA = s.nvm.slotA ∧ (planGrant p d old s).nvm.slotB = s.nvm.slotB := by unfold planGrant; (repeat' split) <;> simp

/-! ## Traverse -/

@[simp] theorem latchRun_sets (p : Nat) (s : State) :
    (latchRun p s).nvm.slotA = s.nvm.slotA ∧ (latchRun p s).nvm.slotB = s.nvm.slotB := by simp [latchRun]

@[simp] theorem abandonRun_sets (p : Nat) (s : State) :
    (abandonRun p s).nvm.slotA = s.nvm.slotA ∧ (abandonRun p s).nvm.slotB = s.nvm.slotB := by unfold abandonRun; (repeat' split) <;> simp

@[simp] theorem calFailed_sets (p : Nat) (s : State) :
    (calFailed p s).nvm.slotA = s.nvm.slotA ∧ (calFailed p s).nvm.slotB = s.nvm.slotB := by simp [calFailed]

@[simp] theorem calStops_sets (p : Nat) (s : State) :
    (calStops p s).nvm.slotA = s.nvm.slotA ∧ (calStops p s).nvm.slotB = s.nvm.slotB := by simp [calStops]

@[simp] theorem travDisabled_sets (p : Nat) (s : State) :
    (travDisabled p s).nvm.slotA = s.nvm.slotA ∧ (travDisabled p s).nvm.slotB = s.nvm.slotB := by simp [travDisabled]

@[simp] theorem beginRun_sets (p : Nat) (k : RunKind) (s : State) :
    (beginRun p k s).nvm.slotA = s.nvm.slotA ∧ (beginRun p k s).nvm.slotB = s.nvm.slotB := by simp [beginRun]

@[simp] theorem contribute_sets (p : Nat) (es : List Echo) (s : State) :
    (contribute p es s).nvm.slotA = s.nvm.slotA ∧ (contribute p es s).nvm.slotB = s.nvm.slotB := by
  unfold contribute
  split
  · exact ⟨rfl, rfl⟩
  · dsimp only
    split <;> simp

@[simp] theorem endFullRun_sets (p : Nat) (s : State) :
    (endFullRun p s).nvm.slotA = s.nvm.slotA ∧ (endFullRun p s).nvm.slotB = s.nvm.slotB := by unfold endFullRun; (repeat' split) <;> simp

@[simp] theorem travDatum_sets (p second : Nat) (s : State) :
    (travDatum p second s).nvm.slotA = s.nvm.slotA ∧ (travDatum p second s).nvm.slotB = s.nvm.slotB := by simp [travDatum]

@[simp] theorem leadInResult_sets (p : Nat) (r : Run) (pts : List Int) (s : State) :
    (leadInResult p r pts s).nvm.slotA = s.nvm.slotA ∧ (leadInResult p r pts s).nvm.slotB = s.nvm.slotB := by unfold leadInResult; (repeat' split) <;> simp

@[simp] theorem vfResult_sets (p : Nat) (r : Run) (pts : List Int) (s : State) :
    (vfResult p r pts s).nvm.slotA = s.nvm.slotA ∧ (vfResult p r pts s).nvm.slotB = s.nvm.slotB := by
  unfold vfResult
  (try dsimp only)
  (repeat' split) <;> simp

@[simp] theorem startCal_sets (p : Nat) (k : RunKind) (s : State) :
    (startCal p k s).nvm.slotA = s.nvm.slotA ∧ (startCal p k s).nvm.slotB = s.nvm.slotB := by simp [startCal]

@[simp] theorem dcSpan_sets (p : Nat) (es : List Echo) (s : State) :
    (dcSpan p es s).nvm.slotA = s.nvm.slotA ∧ (dcSpan p es s).nvm.slotB = s.nvm.slotB := by simp [dcSpan]

@[simp] theorem dcIdle_sets (p : Nat) (s : State) :
    (dcIdle p s).nvm.slotA = s.nvm.slotA ∧ (dcIdle p s).nvm.slotB = s.nvm.slotB := by simp [dcIdle]

@[simp] theorem pairEnd_sets (p : Nat) (s : State) :
    (pairEnd p s).nvm.slotA = s.nvm.slotA ∧ (pairEnd p s).nvm.slotB = s.nvm.slotB := by
  unfold pairEnd
  (try dsimp only)
  (repeat' split) <;> simp

@[simp] theorem portDwellEnd_sets (negative : Bool) (p : Nat) (s : State) :
    (portDwellEnd negative p s).nvm.slotA = s.nvm.slotA ∧ (portDwellEnd negative p s).nvm.slotB = s.nvm.slotB := by simp [portDwellEnd]

@[simp] theorem insDwellEnd_sets (k : Nat) (s : State) :
    (insDwellEnd k s).nvm.slotA = s.nvm.slotA ∧ (insDwellEnd k s).nvm.slotB = s.nvm.slotB := by simp [insDwellEnd]

@[simp] theorem dwellDatum_sets (k : Nat) (s : State) :
    (dwellDatum k s).nvm.slotA = s.nvm.slotA ∧ (dwellDatum k s).nvm.slotB = s.nvm.slotB := by simp [dwellDatum]

@[simp] theorem latchPort_sets (p : Nat) (s : State) :
    (latchPort p s).nvm.slotA = s.nvm.slotA ∧ (latchPort p s).nvm.slotB = s.nvm.slotB := by simp [latchPort]

/-! ## Cells -/

@[simp] theorem setRange_sets (p : Nat) (b : Bool) (r : Range) (s : State) :
    (setRange p b r s).nvm.slotA = s.nvm.slotA ∧ (setRange p b r s).nvm.slotB = s.nvm.slotB := by simp [setRange]

@[simp] theorem State.setCell_sets (s : State) (i : Nat) (c : Cell) :
    (State.setCell s i c).nvm.slotA = s.nvm.slotA ∧ (State.setCell s i c).nvm.slotB = s.nvm.slotB := by simp [State.setCell]

@[simp] theorem tidyPool_sets (s : State) :
    (tidyPool s).nvm.slotA = s.nvm.slotA ∧ (tidyPool s).nvm.slotB = s.nvm.slotB := by simp [tidyPool]

@[simp] theorem putCells_sets (r : Range) (cs : Tab Cell) (s : State) :
    (putCells r cs s).nvm.slotA = s.nvm.slotA ∧ (putCells r cs s).nvm.slotB = s.nvm.slotB := by simp [putCells]

@[simp] theorem setLayout_sets (p : Nat) (b : Bool) (l : Layout) (s : State) :
    (setLayout p b l s).nvm.slotA = s.nvm.slotA ∧ (setLayout p b l s).nvm.slotB = s.nvm.slotB := by simp [setLayout]

@[simp] theorem remake_sets (whole : Bool) (p : Nat) (b : Bool) (l : Layout) (f : Nat → Cell → Cell) (s : State) :
    (remake whole p b l f s).nvm.slotA = s.nvm.slotA ∧ (remake whole p b l f s).nvm.slotB = s.nvm.slotB := by simp [remake]

@[simp] theorem leaveCap_sets (i : Nat) (s : State) :
    (leaveCap i s).nvm.slotA = s.nvm.slotA ∧ (leaveCap i s).nvm.slotB = s.nvm.slotB := by simp [leaveCap]

@[simp] theorem leaveCaps_sets (r : Range) (keep : Bool) (s : State) :
    (leaveCaps r keep s).nvm.slotA = s.nvm.slotA ∧ (leaveCaps r keep s).nvm.slotB = s.nvm.slotB := by simp [leaveCaps]

@[simp] theorem setShaped_sets (p : Nat) (b v : Bool) (s : State) :
    (setShaped p b v s).nvm.slotA = s.nvm.slotA ∧ (setShaped p b v s).nvm.slotB = s.nvm.slotB := by simp [setShaped]

@[simp] theorem rebuildCell_sets (i : Nat) (s : State) :
    (rebuildCell i s).nvm.slotA = s.nvm.slotA ∧ (rebuildCell i s).nvm.slotB = s.nvm.slotB := by unfold rebuildCell; (repeat' split) <;> simp

@[simp] theorem cellReadError_sets (i master : Nat) (s : State) :
    (cellReadError i master s).nvm.slotA = s.nvm.slotA ∧ (cellReadError i master s).nvm.slotB = s.nvm.slotB := by simp [cellReadError]

@[simp] theorem mendRange_sets (r : Range) (master : Nat) (s : State) :
    (mendRange r master s).nvm.slotA = s.nvm.slotA ∧ (mendRange r master s).nvm.slotB = s.nvm.slotB := by simp [mendRange]

@[simp] theorem layoutRange_sets (p : Nat) (b keep : Bool) (n second : Nat) (s0 : State) :
    (layoutRange p b keep n second s0).nvm.slotA = s0.nvm.slotA ∧ (layoutRange p b keep n second s0).nvm.slotB = s0.nvm.slotB := by simp [layoutRange]

@[simp] theorem resetRange_sets (p : Nat) (b : Bool) (second : Nat) (s0 : State) :
    (resetRange p b second s0).nvm.slotA = s0.nvm.slotA ∧ (resetRange p b second s0).nvm.slotB = s0.nvm.slotB := by simp [resetRange]

@[simp] theorem takeRange_sets (p : Nat) (b : Bool) (s : State) :
    (takeRange p b s).nvm.slotA = s.nvm.slotA ∧ (takeRange p b s).nvm.slotB = s.nvm.slotB := by simp [takeRange]

@[simp] theorem takeRanges_sets (p : Nat) (s : State) :
    (takeRanges p s).nvm.slotA = s.nvm.slotA ∧ (takeRanges p s).nvm.slotB = s.nvm.slotB := by simp [takeRanges]

@[simp] theorem rangeAccepted_sets (p : Nat) (b : Bool) (s : State) :
    (rangeAccepted p b s).nvm.slotA = s.nvm.slotA ∧ (rangeAccepted p b s).nvm.slotB = s.nvm.slotB := by simp [rangeAccepted]

@[simp] theorem cellLayoutWrite_sets (p v : Nat) (s : State) :
    (cellLayoutWrite p v s).nvm.slotA = s.nvm.slotA ∧ (cellLayoutWrite p v s).nvm.slotB = s.nvm.slotB := by simp [cellLayoutWrite]

@[simp] theorem updateCell_sets (p : Nat) (b : Bool) (pts : List Int) (nValid second i : Nat) (c : Cell) (s : State) :
    (updateCell p b pts nValid second i c s).1.nvm.slotA = s.nvm.slotA ∧ (updateCell p b pts nValid second i c s).1.nvm.slotB = s.nvm.slotB := by
  unfold updateCell
  (try dsimp only)
  (repeat' split) <;> simp

@[simp] theorem updateEach_slotA (f : Nat → Cell → State → State × Cell × List CellChange) (h : ∀ i c t, (f i c t).1.nvm.slotA = t.nvm.slotA)
    (cs : Tab Cell) (s : State) : (updateEach f cs s).1.nvm.slotA = s.nvm.slotA := by
  induction cs generalizing s with
  | nil => rfl
  | cons e rest ih => simp only [updateEach]; rw [ih, h]

@[simp] theorem updateEach_slotB (f : Nat → Cell → State → State × Cell × List CellChange) (h : ∀ i c t, (f i c t).1.nvm.slotB = t.nvm.slotB)
    (cs : Tab Cell) (s : State) : (updateEach f cs s).1.nvm.slotB = s.nvm.slotB := by
  induction cs generalizing s with
  | nil => rfl
  | cons e rest ih => simp only [updateEach]; rw [ih, h]

@[simp] theorem rebench_sets (p : Nat) (s0 : State) :
    (rebench p s0).nvm.slotA = s0.nvm.slotA ∧ (rebench p s0).nvm.slotB = s0.nvm.slotB := by simp [rebench]

@[simp] theorem updateRange_sets (p : Nat) (b : Bool) (pts : List Int) (nValid second : Nat) (s : State) :
    (updateRange p b pts nValid second s).1.nvm.slotA = s.nvm.slotA ∧ (updateRange p b pts nValid second s).1.nvm.slotB = s.nvm.slotB := by simp [updateRange]

@[simp] theorem updateCells_sets (p : Nat) (pts : List Int) (nValid time : Nat) (s : State) :
    (updateCells p pts nValid time s).1.nvm.slotA = s.nvm.slotA ∧ (updateCells p pts nValid time s).1.nvm.slotB = s.nvm.slotB := by simp [updateCells]

@[simp] theorem sendReport_sets (r : Report) (s : State) :
    (sendReport r s).nvm.slotA = s.nvm.slotA ∧ (sendReport r s).nvm.slotB = s.nvm.slotB := by simp [sendReport]

@[simp] theorem reportChanges_sets (p eff nValid time : Nat) (oneHalf : Bool) (pts : List Int) (cs : List CellChange) (s : State) :
    (reportChanges p eff nValid time oneHalf pts cs s).nvm.slotA = s.nvm.slotA ∧ (reportChanges p eff nValid time oneHalf pts cs s).nvm.slotB = s.nvm.slotB := by
  unfold reportChanges
  (try dsimp only)
  (repeat' split) <;> simp

@[simp] theorem cellReport_sets (i p old flags : Nat) (s : State) :
    (cellReport i p old flags s).nvm.slotA = s.nvm.slotA ∧ (cellReport i p old flags s).nvm.slotB = s.nvm.slotB := by simp [cellReport]

@[simp] theorem reloadMended_sets (p n benchTime : Nat) (s : State) :
    (reloadMended p n benchTime s).nvm.slotA = s.nvm.slotA ∧ (reloadMended p n benchTime s).nvm.slotB = s.nvm.slotB := by simp [reloadMended]

@[simp] theorem reloadCells_sets (p n benchTime : Nat) (s : State) :
    (reloadCells p n benchTime s).nvm.slotA = s.nvm.slotA ∧ (reloadCells p n benchTime s).nvm.slotB = s.nvm.slotB := by simp [reloadCells]

@[simp] theorem snapSoon_sets (s : State) :
    (snapSoon s).nvm.slotA = s.nvm.slotA ∧ (snapSoon s).nvm.slotB = s.nvm.slotB := by simp [snapSoon]

@[simp] theorem hostWrote_sets (i p old : Nat) (s : State) :
    (hostWrote i p old s).nvm.slotA = s.nvm.slotA ∧ (hostWrote i p old s).nvm.slotB = s.nvm.slotB := by simp [hostWrote]

@[simp] theorem writeCellState_sets (i p v : Nat) (s : State) :
    (writeCellState i p v s).nvm.slotA = s.nvm.slotA ∧ (writeCellState i p v s).nvm.slotB = s.nvm.slotB := by simp [writeCellState]

@[simp] theorem writeCellBand_sets (i p : Nat) (b : Bool) (start width : Nat) (s : State) :
    (writeCellBand i p b start width s).nvm.slotA = s.nvm.slotA ∧ (writeCellBand i p b start width s).nvm.slotB = s.nvm.slotB := by simp [writeCellBand]

@[simp] theorem writeCellField_sets (i : Nat) (f : Cell → Cell) (s : State) :
    (writeCellField i f s).nvm.slotA = s.nvm.slotA ∧ (writeCellField i f s).nvm.slotB = s.nvm.slotB := by simp [writeCellField]

/-! ## Archive -/

@[simp] theorem State.modArch_sets (s : State) (f : ArchSt → ArchSt) :
    (State.modArch s f).nvm.slotA = s.nvm.slotA ∧ (State.modArch s f).nvm.slotB = s.nvm.slotB := by simp [State.modArch]

@[simp] theorem findsLost_sets (s : State) :
    (findsLost s).nvm.slotA = s.nvm.slotA ∧ (findsLost s).nvm.slotB = s.nvm.slotB := by simp [findsLost]

@[simp] theorem setArch_sets (st reason : Nat) (s : State) :
    (setArch st reason s).nvm.slotA = s.nvm.slotA ∧ (setArch st reason s).nvm.slotB = s.nvm.slotB := by simp [setArch]

@[simp] theorem issueAdmin_sets (cs : List AdminCmd) (s : State) :
    (issueAdmin cs s).nvm.slotA = s.nvm.slotA ∧ (issueAdmin cs s).nvm.slotB = s.nvm.slotB := by simp [issueAdmin]

@[simp] theorem issue_sets (pair : Nat) (job : NvmeJob) (s : State) :
    (issue pair job s).nvm.slotA = s.nvm.slotA ∧ (issue pair job s).nvm.slotB = s.nvm.slotB := by unfold issue; (repeat' split) <;> simp

@[simp] theorem issueNext_sets (pair : Nat) (s : State) :
    (issueNext pair s).nvm.slotA = s.nvm.slotA ∧ (issueNext pair s).nvm.slotB = s.nvm.slotB := by unfold issueNext; (repeat' split) <;> simp

@[simp] theorem startReclaim_sets (tier : Nat) (s : State) :
    (startReclaim tier s).nvm.slotA = s.nvm.slotA ∧ (startReclaim tier s).nvm.slotB = s.nvm.slotB := by simp [startReclaim]

@[simp] theorem writeRecord_sets (r : Rec) (s : State) :
    (writeRecord r s).nvm.slotA = s.nvm.slotA ∧ (writeRecord r s).nvm.slotB = s.nvm.slotB := by
  unfold writeRecord
  (try dsimp only)
  (repeat' split) <;> simp

@[simp] theorem startRoutine_sets (p : Nat) (r : Rec) (s : State) :
    (startRoutine p r s).nvm.slotA = s.nvm.slotA ∧ (startRoutine p r s).nvm.slotB = s.nvm.slotB := by simp [startRoutine]

@[simp] theorem archiveRoutine_sets (p : Nat) (r : Rec) (s : State) :
    (archiveRoutine p r s).nvm.slotA = s.nvm.slotA ∧ (archiveRoutine p r s).nvm.slotB = s.nvm.slotB := by simp [archiveRoutine]

@[simp] theorem archiveBench_sets (p : Nat) (r : Rec) (s : State) :
    (archiveBench p r s).nvm.slotA = s.nvm.slotA ∧ (archiveBench p r s).nvm.slotB = s.nvm.slotB := by simp [archiveBench]

@[simp] theorem archiveAlarm_sets (p : Nat) (r : Rec) (s : State) :
    (archiveAlarm p r s).nvm.slotA = s.nvm.slotA ∧ (archiveAlarm p r s).nvm.slotB = s.nvm.slotB := by simp [archiveAlarm]

@[simp] theorem holdupCheck_sets (commit : Bool) (microVolt : Nat) (s : State) :
    (holdupCheck commit microVolt s).2.nvm.slotA = s.nvm.slotA ∧ (holdupCheck commit microVolt s).2.nvm.slotB = s.nvm.slotB := by
  unfold holdupCheck
  (try dsimp only)
  (repeat' split) <;> simp

@[simp] theorem archiveCommit_sets (microVolt : Nat) (s : State) :
    (archiveCommit microVolt s).nvm.slotA = s.nvm.slotA ∧ (archiveCommit microVolt s).nvm.slotB = s.nvm.slotB := by simp [archiveCommit]

@[simp] theorem recordDone_sets (r : Rec) (s : State) :
    (recordDone r s).nvm.slotA = s.nvm.slotA ∧ (recordDone r s).nvm.slotB = s.nvm.slotB := by
  unfold recordDone
  (try dsimp only)
  (repeat' split) <;> simp

@[simp] theorem restorePort_sets (p : Nat) (s : State) :
    (restorePort p s).nvm.slotA = s.nvm.slotA ∧ (restorePort p s).nvm.slotB = s.nvm.slotB := by
  unfold restorePort
  (try dsimp only)
  (repeat' split) <;> simp

@[simp] theorem reseatPort_sets (p : Nat) (s : State) :
    (reseatPort p s).nvm.slotA = s.nvm.slotA ∧ (reseatPort p s).nvm.slotB = s.nvm.slotB := by simp [reseatPort]

@[simp] theorem enterService_sets (s : State) :
    (enterService s).nvm.slotA = s.nvm.slotA ∧ (enterService s).nvm.slotB = s.nvm.slotB := by simp [enterService]

@[simp] theorem keepBlock_sets (b : Nat) (bs : List Byte) (s : State) :
    (keepBlock b bs s).nvm.slotA = s.nvm.slotA ∧ (keepBlock b bs s).nvm.slotB = s.nvm.slotB := by simp [keepBlock]

@[simp] theorem commitDone_sets (j : Journal) (s : State) :
    (commitDone j s).nvm.slotA = s.nvm.slotA ∧ (commitDone j s).nvm.slotB = s.nvm.slotB := by
  unfold commitDone
  (try dsimp only)
  (repeat' split) <;> simp

@[simp] theorem snapPieceDone_sets (s : State) :
    (snapPieceDone s).nvm.slotA = s.nvm.slotA ∧ (snapPieceDone s).nvm.slotB = s.nvm.slotB := by simp [snapPieceDone]

@[simp] theorem snapDone_sets (s : State) :
    (snapDone s).nvm.slotA = s.nvm.slotA ∧ (snapDone s).nvm.slotB = s.nvm.slotB := by unfold snapDone; (repeat' split) <;> simp

@[simp] theorem zeroDone_sets (first : Nat) (s : State) :
    (zeroDone first s).nvm.slotA = s.nvm.slotA ∧ (zeroDone first s).nvm.slotB = s.nvm.slotB := by simp [zeroDone]

@[simp] theorem labelsDone_sets (l : Label) (s : State) :
    (labelsDone l s).nvm.slotA = s.nvm.slotA ∧ (labelsDone l s).nvm.slotB = s.nvm.slotB := by simp [labelsDone]

@[simp] theorem jobDone_sets (j : NvmeJob) (s : State) :
    (jobDone j s).nvm.slotA = s.nvm.slotA ∧ (jobDone j s).nvm.slotB = s.nvm.slotB := by unfold jobDone; (repeat' split) <;> simp

@[simp] theorem retire_sets (c : NvmeCmd) (s : State) :
    (retire c s).nvm.slotA = s.nvm.slotA ∧ (retire c s).nvm.slotB = s.nvm.slotB := by simp [retire]

@[simp] theorem abandonArchive_sets (s : State) :
    (abandonArchive s).nvm.slotA = s.nvm.slotA ∧ (abandonArchive s).nvm.slotB = s.nvm.slotB := by simp [abandonArchive]

@[simp] theorem driveLinkLost_sets (s : State) :
    (driveLinkLost s).nvm.slotA = s.nvm.slotA ∧ (driveLinkLost s).nvm.slotB = s.nvm.slotB := by simp [driveLinkLost]

@[simp] theorem controllerReset_sets (fatal : Bool) (s : State) :
    (controllerReset fatal s).nvm.slotA = s.nvm.slotA ∧ (controllerReset fatal s).nvm.slotB = s.nvm.slotB := by simp [controllerReset]

@[simp] theorem beginFormat_sets (s : State) :
    (beginFormat s).nvm.slotA = s.nvm.slotA ∧ (beginFormat s).nvm.slotB = s.nvm.slotB := by simp [beginFormat]

@[simp] theorem recoverArchive_sets (l : Label) (slot : Nat) (j : Journal) (s : State) :
    (recoverArchive l slot j s).nvm.slotA = s.nvm.slotA ∧ (recoverArchive l slot j s).nvm.slotB = s.nvm.slotB := by simp [recoverArchive]

@[simp] theorem readForeign_sets (l : Label) (s : State) :
    (readForeign l s).nvm.slotA = s.nvm.slotA ∧ (readForeign l s).nvm.slotB = s.nvm.slotB := by simp [readForeign]

@[simp] theorem archiveBringUp_sets (d : DriveInfo) (s : State) :
    (archiveBringUp d s).nvm.slotA = s.nvm.slotA ∧ (archiveBringUp d s).nvm.slotB = s.nvm.slotB := by
  unfold archiveBringUp
  (try dsimp only)
  (repeat' split) <;> simp

@[simp] theorem adoptDrive_sets (s : State) :
    (adoptDrive s).nvm.slotA = s.nvm.slotA ∧ (adoptDrive s).nvm.slotB = s.nvm.slotB := by unfold adoptDrive; (repeat' split) <;> simp

@[simp] theorem archEnable_sets (on : Bool) (s : State) :
    (archEnable on s).nvm.slotA = s.nvm.slotA ∧ (archEnable on s).nvm.slotB = s.nvm.slotB := by simp [archEnable]

@[simp] theorem mendPool_sets (s : State) :
    (mendPool s).nvm.slotA = s.nvm.slotA ∧ (mendPool s).nvm.slotB = s.nvm.slotB := by simp [mendPool]

@[simp] theorem takeSnapshot_sets (s : State) :
    (takeSnapshot s).nvm.slotA = s.nvm.slotA ∧ (takeSnapshot s).nvm.slotB = s.nvm.slotB := by simp [takeSnapshot]

@[simp] theorem smartPoll_sets (temp : Int) (wear warn : Nat) (s : State) :
    (smartPoll temp wear warn s).nvm.slotA = s.nvm.slotA ∧ (smartPoll temp wear warn s).nvm.slotB = s.nvm.slotB := by simp [smartPoll]

@[simp] theorem startFind_sets (q : Path) (s : State) :
    (startFind q s).nvm.slotA = s.nvm.slotA ∧ (startFind q s).nvm.slotB = s.nvm.slotB := by simp [startFind]

@[simp] theorem findComplete_sets (q : Path) (s : State) :
    (findComplete q s).nvm.slotA = s.nvm.slotA ∧ (findComplete q s).nvm.slotB = s.nvm.slotB := by unfold findComplete; (repeat' split) <;> simp

/-! ## Nvm -/

@[simp] theorem nvmError_sets (op page : Nat) (s : State) :
    (nvmError op page s).nvm.slotA = s.nvm.slotA ∧ (nvmError op page s).nvm.slotB = s.nvm.slotB := by simp [nvmError]

@[simp] theorem pageCheck_sets (s : State) :
    (pageCheck s).2.nvm.slotA = s.nvm.slotA ∧ (pageCheck s).2.nvm.slotB = s.nvm.slotB := by simp [pageCheck]

@[simp] theorem nvmStartWith_slotA (check : State → Bool × State) (h : ∀ t, (check t).2.nvm.slotA = t.nvm.slotA) (s : State) :
    (nvmStartWith check s).nvm.slotA = s.nvm.slotA := by
  unfold nvmStartWith; dsimp only; (repeat' split) <;> simp [h]

@[simp] theorem nvmStartWith_slotB (check : State → Bool × State) (h : ∀ t, (check t).2.nvm.slotB = t.nvm.slotB) (s : State) :
    (nvmStartWith check s).nvm.slotB = s.nvm.slotB := by
  unfold nvmStartWith; dsimp only; (repeat' split) <;> simp [h]

@[simp] theorem nvmStart_sets (s : State) :
    (nvmStart s).nvm.slotA = s.nvm.slotA ∧ (nvmStart s).nvm.slotB = s.nvm.slotB := by simp [nvmStart]

@[simp] theorem logRepair_sets (kind unit spare : Nat) (s : State) :
    (logRepair kind unit spare s).nvm.slotA = s.nvm.slotA ∧ (logRepair kind unit spare s).nvm.slotB = s.nvm.slotB := by simp [logRepair]

@[simp] theorem repairLogged_sets (e : Repair) (s : State) :
    (repairLogged e s).nvm.slotA = s.nvm.slotA ∧ (repairLogged e s).nvm.slotB = s.nvm.slotB := by simp [repairLogged]

@[simp] theorem State.setBank_sets (s : State) (b : Nat) (x : Bank) :
    (State.setBank s b x).nvm.slotA = s.nvm.slotA ∧ (State.setBank s b x).nvm.slotB = s.nvm.slotB := by simp [State.setBank]

@[simp] theorem State.modBank_sets (s : State) (b : Nat) (f : Bank → Bank) :
    (State.modBank s b f).nvm.slotA = s.nvm.slotA ∧ (State.modBank s b f).nvm.slotB = s.nvm.slotB := by simp [State.modBank]

@[simp] theorem updateFailed_sets (s : State) :
    (updateFailed s).nvm.slotA = s.nvm.slotA ∧ (updateFailed s).nvm.slotB = s.nvm.slotB := by simp [updateFailed]

@[simp] theorem fwPageDone_sets (verified : Bool) (s : State) :
    (fwPageDone verified s).nvm.slotA = s.nvm.slotA ∧ (fwPageDone verified s).nvm.slotB = s.nvm.slotB := by unfold fwPageDone; (repeat' split) <;> simp

@[simp] theorem fwPageStart_sets (microVolt : Nat) (s : State) :
    (fwPageStart microVolt s).nvm.slotA = s.nvm.slotA ∧ (fwPageStart microVolt s).nvm.slotB = s.nvm.slotB := by simp [fwPageStart]

@[simp] theorem nvmRetry_sets (microVolt : Nat) (s : State) :
    (nvmRetry microVolt s).nvm.slotA = s.nvm.slotA ∧ (nvmRetry microVolt s).nvm.slotB = s.nvm.slotB := by simp [nvmRetry]

@[simp] theorem holdupRetry_sets (commitStore : Bool) (microVolt : Nat) (s : State) :
    (holdupRetry commitStore microVolt s).nvm.slotA = s.nvm.slotA ∧ (holdupRetry commitStore microVolt s).nvm.slotB = s.nvm.slotB := by simp [holdupRetry]

/-! ## Complete -/

@[simp] theorem offerTrace_sets (p : Nat) (r : Run) (t : Trace) (s : State) :
    (offerTrace p r t s).nvm.slotA = s.nvm.slotA ∧ (offerTrace p r t s).nvm.slotB = s.nvm.slotB := by simp [offerTrace]

@[simp] theorem takeBench_sets (p : Nat) (r : Run) (t : Trace) (ts : List (Run × Trace)) (s : State) :
    (takeBench p r t ts s).nvm.slotA = s.nvm.slotA ∧ (takeBench p r t ts s).nvm.slotB = s.nvm.slotB := by simp [takeBench]

@[simp] theorem countCapture_sets (p : Nat) (r : Run) (t : Trace) (s : State) :
    (countCapture p r t s).nvm.slotA = s.nvm.slotA ∧ (countCapture p r t s).nvm.slotB = s.nvm.slotB := by unfold countCapture; (repeat' split) <;> simp

@[simp] theorem endCapture_sets (p : Nat) (s : State) :
    (endCapture p s).nvm.slotA = s.nvm.slotA ∧ (endCapture p s).nvm.slotB = s.nvm.slotB := by
  unfold endCapture
  (try dsimp only)
  (repeat' split) <;> simp

theorem runToComplete_sets (s : State) (p : Nat) (x : Run × State) (h : s.runToComplete p = some x) :
    x.2.nvm.slotA = s.nvm.slotA ∧ x.2.nvm.slotB = s.nvm.slotB := by
  unfold State.runToComplete at h
  dsimp only at h
  (repeat' split at h) <;> first | (cases h; simp) | cases h

@[simp] theorem underRun_slotA (p : Nat) (r : Run) (f : State → State) (h : ∀ t, (f t).nvm.slotA = t.nvm.slotA) (s : State) :
    (underRun p r f s).nvm.slotA = s.nvm.slotA := by simp [underRun, h]

@[simp] theorem underRun_slotB (p : Nat) (r : Run) (f : State → State) (h : ∀ t, (f t).nvm.slotB = t.nvm.slotB) (s : State) :
    (underRun p r f s).nvm.slotB = s.nvm.slotB := by simp [underRun, h]

@[simp] theorem completeRun_sets (p : Nat) (r0 : Run) (s0 : State) :
    (completeRun p r0 s0).nvm.slotA = s0.nvm.slotA ∧ (completeRun p r0 s0).nvm.slotB = s0.nvm.slotB := by
  unfold completeRun
  (try dsimp only)
  (repeat' split) <;> simp

@[simp] theorem traceComplete_sets (p : Nat) (s : State) :
    (traceComplete p s).nvm.slotA = s.nvm.slotA ∧ (traceComplete p s).nvm.slotB = s.nvm.slotB := by
  unfold traceComplete
  split
  · exact ⟨rfl, rfl⟩
  · rename_i r t h
    have h0 : t.nvm.slotA = s.nvm.slotA ∧ t.nvm.slotB = s.nvm.slotB := runToComplete_sets _ _ _ h
    simp [h0.1, h0.2]

@[simp] theorem traverseCycle_sets (p : Nat) (es : List Echo) (s : State) :
    (traverseCycle p es s).nvm.slotA = s.nvm.slotA ∧ (traverseCycle p es s).nvm.slotB = s.nvm.slotB := by
  unfold traverseCycle
  (try dsimp only)
  (repeat' split) <;> simp

@[simp] theorem startCapture_sets (p : Nat) (s : State) :
    (startCapture p s).nvm.slotA = s.nvm.slotA ∧ (startCapture p s).nvm.slotB = s.nvm.slotB := by simp [startCapture]

/-! ## Arq -/

@[simp] theorem ackPoint_sets (p d a : Nat) (s : State) :
    (ackPoint p d a s).nvm.slotA = s.nvm.slotA ∧ (ackPoint p d a s).nvm.slotB = s.nvm.slotB := by simp [ackPoint]

@[simp] theorem ackOutside_sets (p d : Nat) (h : RxHeader) (s : State) :
    (ackOutside p d h s).nvm.slotA = s.nvm.slotA ∧ (ackOutside p d h s).nvm.slotB = s.nvm.slotB := by simp [ackOutside]

@[simp] theorem missedPoint_sets (p d : Nat) (s : State) :
    (missedPoint p d s).nvm.slotA = s.nvm.slotA ∧ (missedPoint p d s).nvm.slotB = s.nvm.slotB := by simp [missedPoint]

@[simp] theorem takeSeq_sets (p d seq : Nat) (s : State) :
    (takeSeq p d seq s).1.nvm.slotA = s.nvm.slotA ∧ (takeSeq p d seq s).1.nvm.slotB = s.nvm.slotB := by simp [takeSeq]

@[simp] theorem composeAck_sets (p d : Nat) (s : State) :
    (composeAck p d s).nvm.slotA = s.nvm.slotA ∧ (composeAck p d s).nvm.slotB = s.nvm.slotB := by simp [composeAck]

@[simp] theorem pushData_sets (f : OutFrame) (l : Link) (s : State) :
    (pushData f l s).nvm.slotA = s.nvm.slotA ∧ (pushData f l s).nvm.slotB = s.nvm.slotB := by simp [pushData]

@[simp] theorem frameToHost_sets (p d epoch : Nat) (payload : List Byte) (s : State) :
    (frameToHost p d epoch payload s).nvm.slotA = s.nvm.slotA ∧ (frameToHost p d epoch payload s).nvm.slotB = s.nvm.slotB := by simp [frameToHost]

@[simp] theorem deliverUp_sets (p d : Nat) (payload : List Byte) (s : State) :
    (deliverUp p d payload s).nvm.slotA = s.nvm.slotA ∧ (deliverUp p d payload s).nvm.slotB = s.nvm.slotB := by simp [deliverUp]

@[simp] theorem restartSeq_sets (p d : Nat) (s : State) :
    (restartSeq p d s).nvm.slotA = s.nvm.slotA ∧ (restartSeq p d s).nvm.slotB = s.nvm.slotB := by simp [restartSeq]

@[simp] theorem purgeQueue_sets (p d newEpoch : Nat) (s : State) :
    (purgeQueue p d newEpoch s).nvm.slotA = s.nvm.slotA ∧ (purgeQueue p d newEpoch s).nvm.slotB = s.nvm.slotB := by simp [purgeQueue]

@[simp] theorem queueOnce_sets (p d : Nat) (bytes : List Byte) (s : State) :
    (queueOnce p d bytes s).nvm.slotA = s.nvm.slotA ∧ (queueOnce p d bytes s).nvm.slotB = s.nvm.slotB := by simp [queueOnce]

/-! ## Levelling -/

@[simp] theorem changeMode_sets (p d mode atten : Nat) (s : State) :
    (changeMode p d mode atten s).nvm.slotA = s.nvm.slotA ∧ (changeMode p d mode atten s).nvm.slotB = s.nvm.slotB := by unfold changeMode; (repeat' split) <;> simp

@[simp] theorem putRun_sets (p : Nat) (r : LevelRun) (s : State) :
    (putRun p r s).nvm.slotA = s.nvm.slotA ∧ (putRun p r s).nvm.slotB = s.nvm.slotB := by simp [putRun]

@[simp] theorem endRun_sets (p d : Nat) (s : State) :
    (endRun p d s).nvm.slotA = s.nvm.slotA ∧ (endRun p d s).nvm.slotB = s.nvm.slotB := by simp [endRun]

@[simp] theorem requestSounding_sets (p length : Nat) (r : LevelRun) (s : State) :
    (requestSounding p length r s).nvm.slotA = s.nvm.slotA ∧ (requestSounding p length r s).nvm.slotB = s.nvm.slotB := by simp [requestSounding]

@[simp] theorem decideRun_sets (p : Nat) (r : LevelRun) (s : State) :
    (decideRun p r s).nvm.slotA = s.nvm.slotA ∧ (decideRun p r s).nvm.slotB = s.nvm.slotB := by simp [decideRun]

@[simp] theorem goOn_sets (fuel p b : Nat) (r : LevelRun) (s : State) :
    (goOn fuel p b r s).nvm.slotA = s.nvm.slotA ∧ (goOn fuel p b r s).nvm.slotB = s.nvm.slotB := by
  induction fuel generalizing b r with
  | zero => simp [goOn]
  | succ n ih => simp only [goOn]; (repeat' split) <;> simp [ih]

@[simp] theorem serveRuns_sets (fuel p : Nat) (s : State) :
    (serveRuns fuel p s).nvm.slotA = s.nvm.slotA ∧ (serveRuns fuel p s).nvm.slotB = s.nvm.slotB := by
  induction fuel generalizing s with
  | zero => exact ⟨rfl, rfl⟩
  | succ f ih =>
    unfold serveRuns
    split
    · exact ⟨rfl, rfl⟩
    · split
      · rw [(ih _).1, (ih _).2]; simp
      · exact ⟨rfl, rfl⟩

@[simp] theorem startLevelling_sets (p d : Nat) (s : State) :
    (startLevelling p d s).nvm.slotA = s.nvm.slotA ∧ (startLevelling p d s).nvm.slotB = s.nvm.slotB := by simp [startLevelling]

@[simp] theorem startDeferrable_sets (p d : Nat) (s : State) :
    (startDeferrable p d s).nvm.slotA = s.nvm.slotA ∧ (startDeferrable p d s).nvm.slotB = s.nvm.slotB := by simp [startDeferrable]

@[simp] theorem startDeferred_sets (s : State) :
    (startDeferred s).nvm.slotA = s.nvm.slotA ∧ (startDeferred s).nvm.slotB = s.nvm.slotB := by simp [startDeferred]

@[simp] theorem soundResult_sets (p : Nat) (r : LevelRun) (snr : Nat) (peak : Int) (s : State) :
    (soundResult p r snr peak s).nvm.slotA = s.nvm.slotA ∧ (soundResult p r snr peak s).nvm.slotB = s.nvm.slotB := by simp [soundResult]

@[simp] theorem soundMissed_sets (p : Nat) (r : LevelRun) (s : State) :
    (soundMissed p r s).nvm.slotA = s.nvm.slotA ∧ (soundMissed p r s).nvm.slotB = s.nvm.slotB := by simp [soundMissed]

@[simp] theorem takeUpSound_sets (p d snr : Nat) (arrival : Int) (s : State) :
    (takeUpSound p d snr arrival s).nvm.slotA = s.nvm.slotA ∧ (takeUpSound p d snr arrival s).nvm.slotB = s.nvm.slotB := by unfold takeUpSound; (repeat' split) <;> simp

@[simp] theorem soundReport_sets (p d : Nat) (m : List Byte) (s : State) :
    (soundReport p d m s).nvm.slotA = s.nvm.slotA ∧ (soundReport p d m s).nvm.slotB = s.nvm.slotB := by unfold soundReport; (repeat' split) <;> simp

@[simp] theorem soundMiss_sets (p d : Nat) (s : State) :
    (soundMiss p d s).nvm.slotA = s.nvm.slotA ∧ (soundMiss p d s).nvm.slotB = s.nvm.slotB := by unfold soundMiss; (repeat' split) <;> simp

@[simp] theorem levelIntervalExpiry_sets (p d : Nat) (s : State) :
    (levelIntervalExpiry p d s).nvm.slotA = s.nvm.slotA ∧ (levelIntervalExpiry p d s).nvm.slotB = s.nvm.slotB := by simp [levelIntervalExpiry]

@[simp] theorem modeConfirm_sets (p d : Nat) (m : List Byte) (s : State) :
    (modeConfirm p d m s).nvm.slotA = s.nvm.slotA ∧ (modeConfirm p d m s).nvm.slotB = s.nvm.slotB := by simp [modeConfirm]

@[simp] theorem restorePlan_sets (p : Nat) (s : State) :
    (restorePlan p s).nvm.slotA = s.nvm.slotA ∧ (restorePlan p s).nvm.slotB = s.nvm.slotB := by unfold restorePlan; (repeat' split) <;> simp

@[simp] theorem remap_sets (p d : Nat) (c : Change) (s : State) :
    (remap p d c s).nvm.slotA = s.nvm.slotA ∧ (remap p d c s).nvm.slotB = s.nvm.slotB := by unfold remap; (repeat' split) <;> simp

@[simp] theorem modeApply_sets (p d : Nat) (s : State) :
    (modeApply p d s).nvm.slotA = s.nvm.slotA ∧ (modeApply p d s).nvm.slotB = s.nvm.slotB := by simp [modeApply]

@[simp] theorem modeRevert_sets (p d : Nat) (s : State) :
    (modeRevert p d s).nvm.slotA = s.nvm.slotA ∧ (modeRevert p d s).nvm.slotB = s.nvm.slotB := by simp [modeRevert]

/-! ## Receiver -/

@[simp] theorem leaveSlot_sets (p : Nat) (s : State) :
    (leaveSlot p s).nvm.slotA = s.nvm.slotA ∧ (leaveSlot p s).nvm.slotB = s.nvm.slotB := by simp [leaveSlot]

@[simp] theorem countDrop_sets (p d portCode dropCode : Nat) (s : State) :
    (countDrop p d portCode dropCode s).nvm.slotA = s.nvm.slotA ∧ (countDrop p d portCode dropCode s).nvm.slotB = s.nvm.slotB := by simp [countDrop]

@[simp] theorem readContext_sets (p d : Nat) (errors : List (Nat × Ecc)) (s : State) :
    (readContext p d errors s).1.nvm.slotA = s.nvm.slotA ∧ (readContext p d errors s).1.nvm.slotB = s.nvm.slotB := by simp [readContext]

@[simp] theorem startTiming_sets (p : Nat) (owner : Option Nat) (s : State) :
    (startTiming p owner s).nvm.slotA = s.nvm.slotA ∧ (startTiming p owner s).nvm.slotB = s.nvm.slotB := by unfold startTiming; (repeat' split) <;> simp

@[simp] theorem openContention_sets (p : Nat) (s : State) :
    (openContention p s).nvm.slotA = s.nvm.slotA ∧ (openContention p s).nvm.slotB = s.nvm.slotB := by
  unfold openContention
  split
  · dsimp only
    split <;> simp
  · split <;> simp

@[simp] theorem syncWindow_sets (p : Nat) (s : State) :
    (syncWindow p s).nvm.slotA = s.nvm.slotA ∧ (syncWindow p s).nvm.slotB = s.nvm.slotB := by
  unfold syncWindow
  (try dsimp only)
  (repeat' split) <;> simp

@[simp] theorem activate_sets (p d : Nat) (s : State) :
    (activate p d s).nvm.slotA = s.nvm.slotA ∧ (activate p d s).nvm.slotB = s.nvm.slotB := by simp [activate]

@[simp] theorem settleRx_sets (p : Nat) (next : RxState) (s : State) :
    (settleRx p next s).nvm.slotA = s.nvm.slotA ∧ (settleRx p next s).nvm.slotB = s.nvm.slotB := by
  unfold settleRx
  (try dsimp only)
  (repeat' split) <;> simp

@[simp] theorem countRx_sets (p portCode dropCode : Nat) (s : State) :
    (countRx p portCode dropCode s).nvm.slotA = s.nvm.slotA ∧ (countRx p portCode dropCode s).nvm.slotB = s.nvm.slotB := by unfold countRx; (repeat' split) <;> simp

@[simp] theorem backToSearch_sets (p : Nat) (s : State) :
    (backToSearch p s).nvm.slotA = s.nvm.slotA ∧ (backToSearch p s).nvm.slotB = s.nvm.slotB := by simp [backToSearch]

@[simp] theorem contextLoad_sets (p d : Nat) (errors : List (Nat × Ecc)) (s : State) :
    (contextLoad p d errors s).nvm.slotA = s.nvm.slotA ∧ (contextLoad p d errors s).nvm.slotB = s.nvm.slotB := by unfold contextLoad; (repeat' split) <;> simp

@[simp] theorem endRecovery_sets (p : Nat) (over0 over1 : Bool) (s : State) :
    (endRecovery p over0 over1 s).nvm.slotA = s.nvm.slotA ∧ (endRecovery p over0 over1 s).nvm.slotB = s.nvm.slotB := by simp [endRecovery]

@[simp] theorem energyDetect_sets (p : Nat) (symbol0 symbol1 : List Int) (s0 : State) :
    (energyDetect p symbol0 symbol1 s0).nvm.slotA = s0.nvm.slotA ∧ (energyDetect p symbol0 symbol1 s0).nvm.slotB = s0.nvm.slotB := by unfold energyDetect; (repeat' split) <;> simp

@[simp] theorem preambleDetect_sets (p : Nat) (decisions : BitVec 16) (agcConverged : Bool) (s : State) :
    (preambleDetect p decisions agcConverged s).nvm.slotA = s.nvm.slotA ∧ (preambleDetect p decisions agcConverged s).nvm.slotB = s.nvm.slotB := by unfold preambleDetect; (repeat' split) <;> simp

@[simp] theorem noiseEvent_sets (p : Nat) (s : State) :
    (noiseEvent p s).nvm.slotA = s.nvm.slotA ∧ (noiseEvent p s).nvm.slotB = s.nvm.slotB := by simp [noiseEvent]

@[simp] theorem falseDetection_sets (p : Nat) (s : State) :
    (falseDetection p s).nvm.slotA = s.nvm.slotA ∧ (falseDetection p s).nvm.slotB = s.nvm.slotB := by simp [falseDetection]

@[simp] theorem syncDetect_sets (p : Nat) (w : BitVec 32) (symbols : List (List Int)) (s : State) :
    (syncDetect p w symbols s).nvm.slotA = s.nvm.slotA ∧ (syncDetect p w symbols s).nvm.slotB = s.nvm.slotB := by simp [syncDetect]

@[simp] theorem slotTrespass_sets (p owner field : Nat) (s : State) :
    (slotTrespass p owner field s).nvm.slotA = s.nvm.slotA ∧ (slotTrespass p owner field s).nvm.slotB = s.nvm.slotB := by simp [slotTrespass]

@[simp] theorem acceptHeader_sets (p : Nat) (h : RxHeader) (s : State) :
    (acceptHeader p h s).nvm.slotA = s.nvm.slotA ∧ (acceptHeader p h s).nvm.slotB = s.nvm.slotB := by simp [acceptHeader]

@[simp] theorem headerCheck_sets (p : Nat) (bits : BitVec 64) (s : State) :
    (headerCheck p bits s).nvm.slotA = s.nvm.slotA ∧ (headerCheck p bits s).nvm.slotB = s.nvm.slotB := by unfold headerCheck; (repeat' split) <;> simp

@[simp] theorem collisionAbort_sets (p : Nat) (symbols : List (List Int)) (s : State) :
    (collisionAbort p symbols s).nvm.slotA = s.nvm.slotA ∧ (collisionAbort p symbols s).nvm.slotB = s.nvm.slotB := by simp [collisionAbort]

@[simp] theorem recoveryPeriodEnd_sets (p : Nat) (symbol0 symbol1 : List Int) (s : State) :
    (recoveryPeriodEnd p symbol0 symbol1 s).nvm.slotA = s.nvm.slotA ∧ (recoveryPeriodEnd p symbol0 symbol1 s).nvm.slotB = s.nvm.slotB := by simp [recoveryPeriodEnd]

@[simp] theorem overrun_sets (p : Nat) (s : State) :
    (overrun p s).nvm.slotA = s.nvm.slotA ∧ (overrun p s).nvm.slotB = s.nvm.slotB := by
  unfold overrun
  (try dsimp only)
  (repeat' split) <;> simp

@[simp] theorem keepTaps_sets (p d : Nat) (m : EqFields) (s : State) :
    (keepTaps p d m s).nvm.slotA = s.nvm.slotA ∧ (keepTaps p d m s).nvm.slotB = s.nvm.slotB := by simp [keepTaps]

@[simp] theorem writeBack_sets (p d : Nat) (m : EqFields) (s : State) :
    (writeBack p d m s).nvm.slotA = s.nvm.slotA ∧ (writeBack p d m s).nvm.slotB = s.nvm.slotB := by simp [writeBack]

@[simp] theorem writeBackIf_sets (p d typ : Nat) (m : EqFields) (s : State) :
    (writeBackIf p d typ m s).nvm.slotA = s.nvm.slotA ∧ (writeBackIf p d typ m s).nvm.slotB = s.nvm.slotB := by simp [writeBackIf]

@[simp] theorem noteArrival_sets (p d : Nat) (arrival : Int) (s : State) :
    (noteArrival p d arrival s).nvm.slotA = s.nvm.slotA ∧ (noteArrival p d arrival s).nvm.slotB = s.nvm.slotB := by simp [noteArrival]

@[simp] theorem heldTiming_sets (p : Nat) (m : EqFields) (s : State) :
    (heldTiming p m s).nvm.slotA = s.nvm.slotA ∧ (heldTiming p m s).nvm.slotB = s.nvm.slotB := by simp [heldTiming]

@[simp] theorem rangingTrim_sets (p d : Nat) (s : State) :
    (rangingTrim p d s).nvm.slotA = s.nvm.slotA ∧ (rangingTrim p d s).nvm.slotB = s.nvm.slotB := by
  unfold rangingTrim
  (try dsimp only)
  (repeat' split) <;> simp

@[simp] theorem takeAck_sets (p d : Nat) (h : RxHeader) (s : State) :
    (takeAck p d h s).nvm.slotA = s.nvm.slotA ∧ (takeAck p d h s).nvm.slotB = s.nvm.slotB := by simp [takeAck]

@[simp] theorem heard_sets (p d : Nat) (s : State) :
    (heard p d s).nvm.slotA = s.nvm.slotA ∧ (heard p d s).nvm.slotB = s.nvm.slotB := by simp [heard]

@[simp] theorem goodSlot_sets (p d : Nat) (h : RxHeader) (payload : List Byte) (m : EqFields) (s : State) :
    (goodSlot p d h payload m s).nvm.slotA = s.nvm.slotA ∧ (goodSlot p d h payload m s).nvm.slotB = s.nvm.slotB := by simp [goodSlot]

@[simp] theorem staleBurst_sets (p d : Nat) (h : RxHeader) (s : State) :
    (staleBurst p d h s).nvm.slotA = s.nvm.slotA ∧ (staleBurst p d h s).nvm.slotB = s.nvm.slotB := by simp [staleBurst]

@[simp] theorem endInSlot_sets (p d : Nat) (h : RxHeader) (payload : List Byte) (m : EqFields) (s : State) :
    (endInSlot p d h payload m s).nvm.slotA = s.nvm.slotA ∧ (endInSlot p d h payload m s).nvm.slotB = s.nvm.slotB := by simp [endInSlot]

@[simp] theorem endInSounding_sets (p d : Nat) (h : RxHeader) (payload : List Byte) (m : EqFields) (s : State) :
    (endInSounding p d h payload m s).nvm.slotA = s.nvm.slotA ∧ (endInSounding p d h payload m s).nvm.slotB = s.nvm.slotB := by simp [endInSounding]

@[simp] theorem endInContention_sets (p : Nat) (h : RxHeader) (payload : List Byte) (m : EqFields) (s : State) :
    (endInContention p h payload m s).nvm.slotA = s.nvm.slotA ∧ (endInContention p h payload m s).nvm.slotB = s.nvm.slotB := by simp [endInContention]

@[simp] theorem burstEnd_sets (p : Nat) (levels : List Nat) (m : RxMeasure) (s : State) :
    (burstEnd p levels m s).nvm.slotA = s.nvm.slotA ∧ (burstEnd p levels m s).nvm.slotB = s.nvm.slotB := by
  unfold burstEnd
  (try dsimp only)
  (repeat' split) <;> simp

@[simp] theorem countEmpty_sets (p d : Nat) (s : State) :
    (countEmpty p d s).nvm.slotA = s.nvm.slotA ∧ (countEmpty p d s).nvm.slotB = s.nvm.slotB := by simp [countEmpty]

@[simp] theorem emptySlot_sets (p : Nat) (s : State) :
    (emptySlot p s).nvm.slotA = s.nvm.slotA ∧ (emptySlot p s).nvm.slotB = s.nvm.slotB := by
  unfold emptySlot
  (try dsimp only)
  (repeat' split) <;> simp

@[simp] theorem outOfSlot_sets (p : Nat) (period0 period1 : List Int) (s0 : State) :
    (outOfSlot p period0 period1 s0).nvm.slotA = s0.nvm.slotA ∧ (outOfSlot p period0 period1 s0).nvm.slotB = s0.nvm.slotB := by simp [outOfSlot]

@[simp] theorem eqResetDrop_sets (p d : Nat) (s : State) :
    (eqResetDrop p d s).nvm.slotA = s.nvm.slotA ∧ (eqResetDrop p d s).nvm.slotB = s.nvm.slotB := by simp [eqResetDrop]

@[simp] theorem keptExpiry_sets (p identity : Nat) (s : State) :
    (keptExpiry p identity s).nvm.slotA = s.nvm.slotA ∧ (keptExpiry p identity s).nvm.slotB = s.nvm.slotB := by simp [keptExpiry]

/-! ## Admission -/

@[simp] theorem clearDropCounters_sets (p d : Nat) (s : State) :
    (clearDropCounters p d s).nvm.slotA = s.nvm.slotA ∧ (clearDropCounters p d s).nvm.slotB = s.nvm.slotB := by simp [clearDropCounters]

@[simp] theorem freeCtx_sets (p d epoch : Nat) (s : State) :
    (freeCtx p d epoch s).nvm.slotA = s.nvm.slotA ∧ (freeCtx p d epoch s).nvm.slotB = s.nvm.slotB := by simp [freeCtx]

@[simp] theorem sameEpoch_sets (p d epoch : Nat) (s : State) :
    (sameEpoch p d epoch s).nvm.slotA = s.nvm.slotA ∧ (sameEpoch p d epoch s).nvm.slotB = s.nvm.slotB := by unfold sameEpoch; (repeat' split) <;> simp

@[simp] theorem freeStandby_sets (p d epoch : Nat) (s : State) :
    (freeStandby p d epoch s).nvm.slotA = s.nvm.slotA ∧ (freeStandby p d epoch s).nvm.slotB = s.nvm.slotB := by unfold freeStandby; (repeat' split) <;> simp

@[simp] theorem makeStandby_sets (p d : Nat) (s : State) :
    (makeStandby p d s).nvm.slotA = s.nvm.slotA ∧ (makeStandby p d s).nvm.slotB = s.nvm.slotB := by unfold makeStandby; (repeat' split) <;> simp

@[simp] theorem nameAdmission_sets (p d ans : Nat) (repeated : Bool) (s : State) :
    (nameAdmission p d ans repeated s).nvm.slotA = s.nvm.slotA ∧ (nameAdmission p d ans repeated s).nvm.slotB = s.nvm.slotB := by unfold nameAdmission; (repeat' split) <;> simp

@[simp] theorem adoptKept_sets (p d id : Nat) (s : State) :
    (adoptKept p d id s).nvm.slotA = s.nvm.slotA ∧ (adoptKept p d id s).nvm.slotB = s.nvm.slotB := by unfold adoptKept; (repeat' split) <;> simp

@[simp] theorem enterAdmitting_sets (p d epoch : Nat) (a : Answer) (s : State) :
    (enterAdmitting p d epoch a s).nvm.slotA = s.nvm.slotA ∧ (enterAdmitting p d epoch a s).nvm.slotB = s.nvm.slotB := by simp [enterAdmitting]

@[simp] theorem epochHolds_sets (p d : Nat) (s : State) :
    (epochHolds p d s).nvm.slotA = s.nvm.slotA ∧ (epochHolds p d s).nvm.slotB = s.nvm.slotB := by
  unfold epochHolds
  (try dsimp only)
  (repeat' split) <;> simp

theorem tryAdmit_sets (p d epoch : Nat) (a : Answer) (s t : State) (h : tryAdmit p d epoch a s = some t) :
    t.nvm.slotA = s.nvm.slotA ∧ t.nvm.slotB = s.nvm.slotB := by
  unfold tryAdmit at h
  dsimp only at h
  (repeat' split at h) <;> first | (cases h; simp) | cases h

@[simp] theorem decideAnswer_sets (p : Nat) (a : Answer) (s : State) :
    (decideAnswer p a s).nvm.slotA = s.nvm.slotA ∧ (decideAnswer p a s).nvm.slotB = s.nvm.slotB := by
  unfold decideAnswer
  dsimp only
  (repeat' split) <;> try (simp; done)
  all_goals first
  | (rename_i t h; have := tryAdmit_sets _ _ _ _ _ _ h; simpa using this)
  | exact ⟨getD_slotA (fun t h => (tryAdmit_sets _ _ _ _ _ _ h).1) (by simp),
      getD_slotB (fun t h => (tryAdmit_sets _ _ _ _ _ _ h).2) (by simp)⟩

@[simp] theorem admission_sets (p : Nat) (s : State) :
    (admission p s).nvm.slotA = s.nvm.slotA ∧ (admission p s).nvm.slotB = s.nvm.slotB := by unfold admission; (repeat' split) <;> simp

@[simp] theorem rollAnswer_sets (p : Nat) (m : List Byte) (arrival rxAmpl : Int) (s : State) :
    (rollAnswer p m arrival rxAmpl s).nvm.slotA = s.nvm.slotA ∧ (rollAnswer p m arrival rxAmpl s).nvm.slotB = s.nvm.slotB := by simp [rollAnswer]

@[simp] theorem admitMissed_sets (p d : Nat) (s : State) :
    (admitMissed p d s).nvm.slotA = s.nvm.slotA ∧ (admitMissed p d s).nvm.slotB = s.nvm.slotB := by
  unfold admitMissed
  (try dsimp only)
  (repeat' split) <;> simp

@[simp] theorem announceLate_sets (p d : Nat) (s : State) :
    (announceLate p d s).nvm.slotA = s.nvm.slotA ∧ (announceLate p d s).nvm.slotB = s.nvm.slotB := by unfold announceLate; (repeat' split) <;> simp

@[simp] theorem admitConfirm_sets (p d : Nat) (m : List Byte) (s : State) :
    (admitConfirm p d m s).nvm.slotA = s.nvm.slotA ∧ (admitConfirm p d m s).nvm.slotB = s.nvm.slotB := by
  unfold admitConfirm
  (try dsimp only)
  (repeat' split) <;> simp

@[simp] theorem admitTaken_sets (p : Nat) (s : State) :
    (admitTaken p s).nvm.slotA = s.nvm.slotA ∧ (admitTaken p s).nvm.slotB = s.nvm.slotB := by unfold admitTaken; (repeat' split) <;> simp

@[simp] theorem rollOpened_sets (p : Nat) (s : State) :
    (rollOpened p s).nvm.slotA = s.nvm.slotA ∧ (rollOpened p s).nvm.slotB = s.nvm.slotB := by simp [rollOpened]

@[simp] theorem rollCloseExpiry_sets (p : Nat) (s : State) :
    (rollCloseExpiry p s).nvm.slotA = s.nvm.slotA ∧ (rollCloseExpiry p s).nvm.slotB = s.nvm.slotB := by simp [rollCloseExpiry]

@[simp] theorem rollHoldEnd_sets (p : Nat) (s : State) :
    (rollHoldEnd p s).nvm.slotA = s.nvm.slotA ∧ (rollHoldEnd p s).nvm.slotB = s.nvm.slotB := by simp [rollHoldEnd]

@[simp] theorem keepaliveAck_sets (p d : Nat) (s : State) :
    (keepaliveAck p d s).nvm.slotA = s.nvm.slotA ∧ (keepaliveAck p d s).nvm.slotB = s.nvm.slotB := by simp [keepaliveAck]

/-! ## Twin -/

@[simp] theorem releaseNow_sets (p d reason : Nat) (s : State) :
    (releaseNow p d reason s).nvm.slotA = s.nvm.slotA ∧ (releaseNow p d reason s).nvm.slotB = s.nvm.slotB := by simp [releaseNow]

@[simp] theorem beginRelease_sets (p d reason : Nat) (s : State) :
    (beginRelease p d reason s).nvm.slotA = s.nvm.slotA ∧ (beginRelease p d reason s).nvm.slotB = s.nvm.slotB := by
  unfold beginRelease
  (try dsimp only)
  (repeat' split) <;> simp

@[simp] theorem releaseDrop_sets (p d : Nat) (s : State) :
    (releaseDrop p d s).nvm.slotA = s.nvm.slotA ∧ (releaseDrop p d s).nvm.slotB = s.nvm.slotB := by simp [releaseDrop]

@[simp] theorem releaseFromCycle_sets (p d : Nat) (s : State) :
    (releaseFromCycle p d s).nvm.slotA = s.nvm.slotA ∧ (releaseFromCycle p d s).nvm.slotB = s.nvm.slotB := by unfold releaseFromCycle; (repeat' split) <;> simp

@[simp] theorem sleepDrop_sets (p d : Nat) (s : State) :
    (sleepDrop p d s).nvm.slotA = s.nvm.slotA ∧ (sleepDrop p d s).nvm.slotB = s.nvm.slotB := by
  unfold sleepDrop
  (try dsimp only)
  (repeat' split) <;> simp

@[simp] theorem deepSleepFromCycle_sets (p d : Nat) (s : State) :
    (deepSleepFromCycle p d s).nvm.slotA = s.nvm.slotA ∧ (deepSleepFromCycle p d s).nvm.slotB = s.nvm.slotB := by unfold deepSleepFromCycle; (repeat' split) <;> simp

@[simp] theorem setWakeBit_sets (p d : Nat) (s : State) :
    (setWakeBit p d s).nvm.slotA = s.nvm.slotA ∧ (setWakeBit p d s).nvm.slotB = s.nvm.slotB := by simp [setWakeBit]

@[simp] theorem wakeDrop_sets (p d : Nat) (s : State) :
    (wakeDrop p d s).nvm.slotA = s.nvm.slotA ∧ (wakeDrop p d s).nvm.slotB = s.nvm.slotB := by simp [wakeDrop]

@[simp] theorem tellWaking_sets (p d : Nat) (m : SlotMap) (apply from_ : Nat) (s : State) :
    (tellWaking p d m apply from_ s).nvm.slotA = s.nvm.slotA ∧ (tellWaking p d m apply from_ s).nvm.slotB = s.nvm.slotB := by
  unfold tellWaking
  (try dsimp only)
  (repeat' split) <;> simp

@[simp] theorem wakeSlotMapStart_sets (p d : Nat) (s : State) :
    (wakeSlotMapStart p d s).nvm.slotA = s.nvm.slotA ∧ (wakeSlotMapStart p d s).nvm.slotB = s.nvm.slotB := by
  unfold wakeSlotMapStart
  (try dsimp only)
  (repeat' split) <;> simp

@[simp] theorem wakeMiss_sets (p d : Nat) (s : State) :
    (wakeMiss p d s).nvm.slotA = s.nvm.slotA ∧ (wakeMiss p d s).nvm.slotB = s.nvm.slotB := by
  unfold wakeMiss
  (try dsimp only)
  (repeat' split) <;> simp

@[simp] theorem wakeApplies_sets (p d : Nat) (s : State) :
    (wakeApplies p d s).nvm.slotA = s.nvm.slotA ∧ (wakeApplies p d s).nvm.slotB = s.nvm.slotB := by simp [wakeApplies]

@[simp] theorem abandonAdmissions_sets (p : Nat) (s : State) :
    (abandonAdmissions p s).nvm.slotA = s.nvm.slotA ∧ (abandonAdmissions p s).nvm.slotB = s.nvm.slotB := by simp [abandonAdmissions]

@[simp] theorem sendTwinMove_sets (q p d apply : Nat) (m : SlotMap) (s : State) :
    (sendTwinMove q p d apply m s).nvm.slotA = s.nvm.slotA ∧ (sendTwinMove q p d apply m s).nvm.slotB = s.nvm.slotB := by unfold sendTwinMove; (repeat' split) <;> simp

@[simp] theorem startMove_sets (p q reason apply : Nat) (m : SlotMap) (drops : List Nat) (s : State) :
    (startMove p q reason apply m drops s).nvm.slotA = s.nvm.slotA ∧ (startMove p q reason apply m drops s).nvm.slotB = s.nvm.slotB := by simp [startMove]

@[simp] theorem cancelMove_sets (q : Nat) (s : State) :
    (cancelMove q s).nvm.slotA = s.nvm.slotA ∧ (cancelMove q s).nvm.slotB = s.nvm.slotB := by unfold cancelMove; (repeat' split) <;> simp

@[simp] theorem failover_sets (p reason : Nat) (only : Option Nat) (s : State) :
    (failover p reason only s).nvm.slotA = s.nvm.slotA ∧ (failover p reason only s).nvm.slotB = s.nvm.slotB := by
  unfold failover
  (try dsimp only)
  (repeat' split) <;> simp

@[simp] theorem survivorLost_sets (q : Nat) (s : State) :
    (survivorLost q s).nvm.slotA = s.nvm.slotA ∧ (survivorLost q s).nvm.slotB = s.nvm.slotB := by unfold survivorLost; (repeat' split) <;> simp

@[simp] theorem twinLossExpiry_sets (p : Nat) (s : State) :
    (twinLossExpiry p s).nvm.slotA = s.nvm.slotA ∧ (twinLossExpiry p s).nvm.slotB = s.nvm.slotB := by simp [twinLossExpiry]

@[simp] theorem dropMoveExpiry_sets (p d : Nat) (s : State) :
    (dropMoveExpiry p d s).nvm.slotA = s.nvm.slotA ∧ (dropMoveExpiry p d s).nvm.slotB = s.nvm.slotB := by simp [dropMoveExpiry]

@[simp] theorem dropLost_sets (p d : Nat) (s : State) :
    (dropLost p d s).nvm.slotA = s.nvm.slotA ∧ (dropLost p d s).nvm.slotB = s.nvm.slotB := by simp [dropLost]

@[simp] theorem moveDrop_sets (p q reason d : Nat) (s : State) :
    (moveDrop p q reason d s).nvm.slotA = s.nvm.slotA ∧ (moveDrop p q reason d s).nvm.slotB = s.nvm.slotB := by simp [moveDrop]

@[simp] theorem settleTwinState_sets (p q reason : Nat) (s : State) :
    (settleTwinState p q reason s).nvm.slotA = s.nvm.slotA ∧ (settleTwinState p q reason s).nvm.slotB = s.nvm.slotB := by simp [settleTwinState]

@[simp] theorem takeMap_sets (p : Nat) (m : SlotMap) (s : State) :
    (takeMap p m s).nvm.slotA = s.nvm.slotA ∧ (takeMap p m s).nvm.slotB = s.nvm.slotB := by simp [takeMap]

@[simp] theorem twinReturnDrops_sets (p : Nat) (s : State) :
    (twinReturnDrops p s).nvm.slotA = s.nvm.slotA ∧ (twinReturnDrops p s).nvm.slotB = s.nvm.slotB := by
  unfold twinReturnDrops
  (try dsimp only)
  (repeat' split) <;> simp

@[simp] theorem takeChange_sets (p d : Nat) (c : Change) (s : State) :
    (takeChange p d c s).nvm.slotA = s.nvm.slotA ∧ (takeChange p d c s).nvm.slotB = s.nvm.slotB := by unfold takeChange; (repeat' split) <;> simp

@[simp] theorem takeWaiting_sets (p : Nat) (s : State) :
    (takeWaiting p s).nvm.slotA = s.nvm.slotA ∧ (takeWaiting p s).nvm.slotB = s.nvm.slotB := by
  unfold takeWaiting
  (try dsimp only)
  (repeat' split) <;> (refine ⟨?_, ?_⟩) <;> first
  | (simp; done)
  | (rw [forAll_slotA _ _ (by intro x t; (repeat' split) <;> simp)]; (repeat' split) <;> simp)
  | (rw [forAll_slotB _ _ (by intro x t; (repeat' split) <;> simp)]; (repeat' split) <;> simp)

@[simp] theorem twinMoveApply_sets (q : Nat) (s : State) :
    (twinMoveApply q s).nvm.slotA = s.nvm.slotA ∧ (twinMoveApply q s).nvm.slotB = s.nvm.slotB := by unfold twinMoveApply; (repeat' split) <;> simp

@[simp] theorem standbyCheck_sets (q d : Nat) (s : State) :
    (standbyCheck q d s).nvm.slotA = s.nvm.slotA ∧ (standbyCheck q d s).nvm.slotB = s.nvm.slotB := by
  unfold standbyCheck
  (try dsimp only)
  (repeat' split) <;> simp

@[simp] theorem raiseEpochs_sets (p : Nat) (s : State) :
    (raiseEpochs p s).nvm.slotA = s.nvm.slotA ∧ (raiseEpochs p s).nvm.slotB = s.nvm.slotB := by simp [raiseEpochs]

@[simp] theorem endPair_sets (p q : Nat) (s : State) :
    (endPair p q s).nvm.slotA = s.nvm.slotA ∧ (endPair p q s).nvm.slotB = s.nvm.slotB := by simp [endPair]

@[simp] theorem pairEpoch_sets (p q d : Nat) (s : State) :
    (pairEpoch p q d s).nvm.slotA = s.nvm.slotA ∧ (pairEpoch p q d s).nvm.slotB = s.nvm.slotB := by simp [pairEpoch]

@[simp] theorem formPair_sets (p q : Nat) (s : State) :
    (formPair p q s).nvm.slotA = s.nvm.slotA ∧ (formPair p q s).nvm.slotB = s.nvm.slotB := by simp [formPair]

@[simp] theorem endTwins_sets (p q : Nat) (s : State) :
    (endTwins p q s).nvm.slotA = s.nvm.slotA ∧ (endTwins p q s).nvm.slotB = s.nvm.slotB := by simp [endTwins]

@[simp] theorem withTwinChange_slotA (p : Nat) (change : State → State) (h : ∀ t, (change t).nvm.slotA = t.nvm.slotA) (s : State) :
    (withTwinChange p change s).nvm.slotA = s.nvm.slotA := by
  unfold withTwinChange; dsimp only; (repeat' split) <;> simp [h]

@[simp] theorem withTwinChange_slotB (p : Nat) (change : State → State) (h : ∀ t, (change t).nvm.slotB = t.nvm.slotB) (s : State) :
    (withTwinChange p change s).nvm.slotB = s.nvm.slotB := by
  unfold withTwinChange; dsimp only; (repeat' split) <;> simp [h]

@[simp] theorem withTwinChanges_slotA (change : State → State) (h : ∀ t, (change t).nvm.slotA = t.nvm.slotA) (s : State) :
    (withTwinChanges change s).nvm.slotA = s.nvm.slotA := by simp [withTwinChanges, h]

@[simp] theorem withTwinChanges_slotB (change : State → State) (h : ∀ t, (change t).nvm.slotB = t.nvm.slotB) (s : State) :
    (withTwinChanges change s).nvm.slotB = s.nvm.slotB := by simp [withTwinChanges, h]

@[simp] theorem slotMapApply_sets (p : Nat) (s : State) :
    (slotMapApply p s).nvm.slotA = s.nvm.slotA ∧ (slotMapApply p s).nvm.slotB = s.nvm.slotB := by
  unfold slotMapApply
  dsimp only
  split
  all_goals
    refine ⟨?_, ?_⟩
    · simp only [ite_slotA, takeWaiting_sets, ite_self]
      rw [forAll_slotA _ _ (by intro d t; (repeat' split) <;> simp)]
      (try (repeat' split) <;> simp)
    · simp only [ite_slotB, takeWaiting_sets, ite_self]
      rw [forAll_slotB _ _ (by intro d t; (repeat' split) <;> simp)]
      (try (repeat' split) <;> simp)

/-! ## Trunk -/

@[simp] theorem putTrain_sets (p stop : Nat) (frames : List Burst) (s : State) :
    (putTrain p stop frames s).nvm.slotA = s.nvm.slotA ∧ (putTrain p stop frames s).nvm.slotB = s.nvm.slotB := by simp [putTrain]

@[simp] theorem sendTraining_sets (p stop start : Nat) (message : List Byte) (s : State) :
    (sendTraining p stop start message s).nvm.slotA = s.nvm.slotA ∧ (sendTraining p stop start message s).nvm.slotB = s.nvm.slotB := by simp [sendTraining]

@[simp] theorem appendFrame_sets (p mode : Nat) (payload : List Byte) (s : State) :
    (appendFrame p mode payload s).nvm.slotA = s.nvm.slotA ∧ (appendFrame p mode payload s).nvm.slotB = s.nvm.slotB := by
  unfold appendFrame
  (try dsimp only)
  (repeat' split) <;> simp

@[simp] theorem sendDataTrain_sets (p : Nat) (s : State) :
    (sendDataTrain p s).nvm.slotA = s.nvm.slotA ∧ (sendDataTrain p s).nvm.slotB = s.nvm.slotB := by simp [sendDataTrain]

@[simp] theorem trunkIdle_sets (p : Nat) (s : State) :
    (trunkIdle p s).nvm.slotA = s.nvm.slotA ∧ (trunkIdle p s).nvm.slotB = s.nvm.slotB := by simp [trunkIdle]

@[simp] theorem trainFail_sets (p : Nat) (s : State) :
    (trainFail p s).nvm.slotA = s.nvm.slotA ∧ (trainFail p s).nvm.slotB = s.nvm.slotB := by simp [trainFail]

@[simp] theorem attemptEnds_sets (p : Nat) (s : State) :
    (attemptEnds p s).nvm.slotA = s.nvm.slotA ∧ (attemptEnds p s).nvm.slotB = s.nvm.slotB := by simp [attemptEnds]

@[simp] theorem sourceLost_sets (p : Nat) (s : State) :
    (sourceLost p s).nvm.slotA = s.nvm.slotA ∧ (sourceLost p s).nvm.slotB = s.nvm.slotB := by simp [sourceLost]

@[simp] theorem moveTraffic_sets (src dst reason : Nat) (s : State) :
    (moveTraffic src dst reason s).nvm.slotA = s.nvm.slotA ∧ (moveTraffic src dst reason s).nvm.slotB = s.nvm.slotB := by simp [moveTraffic]

@[simp] theorem lossMove_sets (p reason : Nat) (s : State) :
    (lossMove p reason s).nvm.slotA = s.nvm.slotA ∧ (lossMove p reason s).nvm.slotB = s.nvm.slotB := by unfold lossMove; (repeat' split) <;> simp

@[simp] theorem voidChange_sets (p : Nat) (s : State) :
    (voidChange p s).nvm.slotA = s.nvm.slotA ∧ (voidChange p s).nvm.slotB = s.nvm.slotB := by unfold voidChange; (repeat' split) <;> simp

@[simp] theorem trunkLost_sets (p reason : Nat) (s : State) :
    (trunkLost p reason s).nvm.slotA = s.nvm.slotA ∧ (trunkLost p reason s).nvm.slotB = s.nvm.slotB := by simp [trunkLost]

@[simp] theorem headPhaseE_sets (p : Nat) (s : State) :
    (headPhaseE p s).nvm.slotA = s.nvm.slotA ∧ (headPhaseE p s).nvm.slotB = s.nvm.slotB := by simp [headPhaseE]

@[simp] theorem partnerPhaseE_sets (p : Nat) (s : State) :
    (partnerPhaseE p s).nvm.slotA = s.nvm.slotA ∧ (partnerPhaseE p s).nvm.slotB = s.nvm.slotB := by
  unfold partnerPhaseE
  (try dsimp only)
  (repeat' split) <;> simp

@[simp] theorem phaseQCycle_sets (p q : Nat) (s : State) :
    (phaseQCycle p q s).nvm.slotA = s.nvm.slotA ∧ (phaseQCycle p q s).nvm.slotB = s.nvm.slotB := by unfold phaseQCycle; (repeat' split) <;> simp

@[simp] theorem enterData_sets (p : Nat) (s : State) :
    (enterData p s).nvm.slotA = s.nvm.slotA ∧ (enterData p s).nvm.slotB = s.nvm.slotB := by simp [enterData]

@[simp] theorem countLow_sets (p : Nat) (s : State) :
    (countLow p s).nvm.slotA = s.nvm.slotA ∧ (countLow p s).nvm.slotB = s.nvm.slotB := by simp [countLow]

@[simp] theorem unmarked_sets (p : Nat) (fs : List TrunkFrame) (s : State) :
    (unmarked p fs s).nvm.slotA = s.nvm.slotA ∧ (unmarked p fs s).nvm.slotB = s.nvm.slotB := by simp [unmarked]

@[simp] theorem retrainDown_sets (p : Nat) (s : State) :
    (retrainDown p s).nvm.slotA = s.nvm.slotA ∧ (retrainDown p s).nvm.slotB = s.nvm.slotB := by simp [retrainDown]

@[simp] theorem headNumbering_sets (p : Nat) (s : State) :
    (headNumbering p s).nvm.slotA = s.nvm.slotA ∧ (headNumbering p s).nvm.slotB = s.nvm.slotB := by unfold headNumbering; (repeat' split) <;> simp

@[simp] theorem sendDown_sets (p r : Nat) (s : State) :
    (sendDown p r s).nvm.slotA = s.nvm.slotA ∧ (sendDown p r s).nvm.slotB = s.nvm.slotB := by simp [sendDown]

@[simp] theorem dataCycle_sets (p : Nat) (s : State) :
    (dataCycle p s).nvm.slotA = s.nvm.slotA ∧ (dataCycle p s).nvm.slotB = s.nvm.slotB := by simp [dataCycle]

@[simp] theorem trunkCycle_sets (p : Nat) (s : State) :
    (trunkCycle p s).nvm.slotA = s.nvm.slotA ∧ (trunkCycle p s).nvm.slotB = s.nvm.slotB := by
  unfold trunkCycle
  (try dsimp only)
  (repeat' split) <;> simp

@[simp] theorem openTraining_sets (p : Nat) (s : State) :
    (openTraining p s).nvm.slotA = s.nvm.slotA ∧ (openTraining p s).nvm.slotB = s.nvm.slotB := by simp [openTraining]

@[simp] theorem trainingStart_sets (p : Nat) (s : State) :
    (trainingStart p s).nvm.slotA = s.nvm.slotA ∧ (trainingStart p s).nvm.slotB = s.nvm.slotB := by simp [trainingStart]

@[simp] theorem retrainPort_sets (p : Nat) (s : State) :
    (retrainPort p s).nvm.slotA = s.nvm.slotA ∧ (retrainPort p s).nvm.slotB = s.nvm.slotB := by simp [retrainPort]

@[simp] theorem trunkLeaves_sets (p : Nat) (s : State) :
    (trunkLeaves p s).nvm.slotA = s.nvm.slotA ∧ (trunkLeaves p s).nvm.slotB = s.nvm.slotB := by simp [trunkLeaves]

@[simp] theorem partnerMeasure_sets (p : Nat) (aH aP : Int) (msgCycle : Nat) (s : State) :
    (partnerMeasure p aH aP msgCycle s).nvm.slotA = s.nvm.slotA ∧ (partnerMeasure p aH aP msgCycle s).nvm.slotB = s.nvm.slotB := by simp [partnerMeasure]

@[simp] theorem headTrain_sets (p : Nat) (m : TrainMsg) (arrival : Int) (snr : Nat) (s : State) :
    (headTrain p m arrival snr s).nvm.slotA = s.nvm.slotA ∧ (headTrain p m arrival snr s).nvm.slotB = s.nvm.slotB := by simp [headTrain]

@[simp] theorem partnerTrain_sets (p : Nat) (m : TrainMsg) (arrival : Int) (snr : Nat) (s : State) :
    (partnerTrain p m arrival snr s).nvm.slotA = s.nvm.slotA ∧ (partnerTrain p m arrival snr s).nvm.slotB = s.nvm.slotB := by unfold partnerTrain; (repeat' split) <;> simp

@[simp] theorem ownTrain_sets (p : Nat) (own : List (List Int × Int)) (s : State) :
    (ownTrain p own s).nvm.slotA = s.nvm.slotA ∧ (ownTrain p own s).nvm.slotB = s.nvm.slotB := by simp [ownTrain]

@[simp] theorem trunkTrain_sets (p : Nat) (bytes : List Byte) (arrival : Int) (snr : Nat) (own : List (List Int × Int)) (s : State) :
    (trunkTrain p bytes arrival snr own s).nvm.slotA = s.nvm.slotA ∧ (trunkTrain p bytes arrival snr own s).nvm.slotB = s.nvm.slotB := by unfold trunkTrain; (repeat' split) <;> simp

@[simp] theorem phaseETimeout_sets (p : Nat) (s : State) :
    (phaseETimeout p s).nvm.slotA = s.nvm.slotA ∧ (phaseETimeout p s).nvm.slotB = s.nvm.slotB := by simp [phaseETimeout]

@[simp] theorem trunkTrainEnd_sets (p count : Nat) (s : State) :
    (trunkTrainEnd p count s).nvm.slotA = s.nvm.slotA ∧ (trunkTrainEnd p count s).nvm.slotB = s.nvm.slotB := by simp [trunkTrainEnd]

@[simp] theorem takeMarker_sets (p : Nat) (m : List Byte) (s : State) :
    (takeMarker p m s).nvm.slotA = s.nvm.slotA ∧ (takeMarker p m s).nvm.slotB = s.nvm.slotB := by simp [takeMarker]

@[simp] theorem trunkTime_sets (p : Nat) (m : List Byte) (arrival : Int) (crcOk : Bool) (s : State) :
    (trunkTime p m arrival crcOk s).nvm.slotA = s.nvm.slotA ∧ (trunkTime p m arrival crcOk s).nvm.slotB = s.nvm.slotB := by simp [trunkTime]

@[simp] theorem trunkAck_sets (p : Nat) (m : List Byte) (s : State) :
    (trunkAck p m s).nvm.slotA = s.nvm.slotA ∧ (trunkAck p m s).nvm.slotB = s.nvm.slotB := by simp [trunkAck]

@[simp] theorem trunkMode_sets (p : Nat) (m : List Byte) (s : State) :
    (trunkMode p m s).nvm.slotA = s.nvm.slotA ∧ (trunkMode p m s).nvm.slotB = s.nvm.slotB := by unfold trunkMode; (repeat' split) <;> simp

@[simp] theorem trunkModeApply_sets (p : Nat) (s : State) :
    (trunkModeApply p s).nvm.slotA = s.nvm.slotA ∧ (trunkModeApply p s).nvm.slotB = s.nvm.slotB := by unfold trunkModeApply; (repeat' split) <;> simp

@[simp] theorem trunkDown_sets (p : Nat) (m : List Byte) (s : State) :
    (trunkDown p m s).nvm.slotA = s.nvm.slotA ∧ (trunkDown p m s).nvm.slotB = s.nvm.slotB := by simp [trunkDown]

@[simp] theorem trunkLoss_sets (p : Nat) (s : State) :
    (trunkLoss p s).nvm.slotA = s.nvm.slotA ∧ (trunkLoss p s).nvm.slotB = s.nvm.slotB := by simp [trunkLoss]

@[simp] theorem trunkLevelDown_sets (p : Nat) (s : State) :
    (trunkLevelDown p s).nvm.slotA = s.nvm.slotA ∧ (trunkLevelDown p s).nvm.slotB = s.nvm.slotB := by simp [trunkLevelDown]

@[simp] theorem trunkPreamble_sets (p : Nat) (decisions : BitVec 16) (s : State) :
    (trunkPreamble p decisions s).nvm.slotA = s.nvm.slotA ∧ (trunkPreamble p decisions s).nvm.slotB = s.nvm.slotB := by simp [trunkPreamble]

@[simp] theorem trunkSync_sets (p : Nat) (w : BitVec 32) (s : State) :
    (trunkSync p w s).nvm.slotA = s.nvm.slotA ∧ (trunkSync p w s).nvm.slotB = s.nvm.slotB := by simp [trunkSync]

@[simp] theorem trunkHeader_sets (p : Nat) (bits : BitVec 64) (s : State) :
    (trunkHeader p bits s).nvm.slotA = s.nvm.slotA ∧ (trunkHeader p bits s).nvm.slotB = s.nvm.slotB := by simp [trunkHeader]

@[simp] theorem trunkFrame_sets (p : Nat) (h : RxHeader) (payload : List Byte) (m : EqFields) (s : State) :
    (trunkFrame p h payload m s).nvm.slotA = s.nvm.slotA ∧ (trunkFrame p h payload m s).nvm.slotB = s.nvm.slotB := by simp [trunkFrame]

@[simp] theorem trunkFrameEnd_sets (p : Nat) (levels : List Nat) (m : RxMeasure) (s : State) :
    (trunkFrameEnd p levels m s).nvm.slotA = s.nvm.slotA ∧ (trunkFrameEnd p levels m s).nvm.slotB = s.nvm.slotB := by unfold trunkFrameEnd; (repeat' split) <;> simp

@[simp] theorem trunkLoad_sets (p : Nat) (errors : List (Nat × Ecc)) (s : State) :
    (trunkLoad p errors s).nvm.slotA = s.nvm.slotA ∧ (trunkLoad p errors s).nvm.slotB = s.nvm.slotB := by unfold trunkLoad; (repeat' split) <;> simp

@[simp] theorem trunkMoveApply_sets (q : Nat) (v : Move) (s : State) :
    (trunkMoveApply q v s).nvm.slotA = s.nvm.slotA ∧ (trunkMoveApply q v s).nvm.slotB = s.nvm.slotB := by simp [trunkMoveApply]

@[simp] theorem trunkReturn_sets (p : Nat) (s : State) :
    (trunkReturn p s).nvm.slotA = s.nvm.slotA ∧ (trunkReturn p s).nvm.slotB = s.nvm.slotB := by unfold trunkReturn; (repeat' split) <;> simp

@[simp] theorem moveApply_sets (q : Nat) (s : State) :
    (moveApply q s).nvm.slotA = s.nvm.slotA ∧ (moveApply q s).nvm.slotB = s.nvm.slotB := by unfold moveApply; (repeat' split) <;> simp

/-! ## Lane -/

@[simp] theorem sendBlocks_sets (l : Link) (behind : Bool) (bs : List (BlockKind × BitVec 64)) (s : State) :
    (sendBlocks l behind bs s).nvm.slotA = s.nvm.slotA ∧ (sendBlocks l behind bs s).nvm.slotB = s.nvm.slotB := by simp [sendBlocks]

@[simp] theorem prbsStart_sets (code : Nat) (s : State) :
    (prbsStart code s).2.nvm.slotA = s.nvm.slotA ∧ (prbsStart code s).2.nvm.slotB = s.nvm.slotB := by simp [prbsStart]

@[simp] theorem prbsTransmit_sets (l : Link) (s : State) :
    (prbsTransmit l s).nvm.slotA = s.nvm.slotA ∧ (prbsTransmit l s).nvm.slotB = s.nvm.slotB := by simp [prbsTransmit]

/-! ## OxlLink -/

@[simp] theorem flowCheck_sets (p : Nat) (s : State) :
    (flowCheck p s).nvm.slotA = s.nvm.slotA ∧ (flowCheck p s).nvm.slotB = s.nvm.slotB := by simp [flowCheck]

@[simp] theorem silence_sets (l : Link) (s : State) :
    (silence l s).nvm.slotA = s.nvm.slotA ∧ (silence l s).nvm.slotB = s.nvm.slotB := by simp [silence]

@[simp] theorem joinQueues_sets (lost other : Link) (s : State) :
    (joinQueues lost other s).nvm.slotA = s.nvm.slotA ∧ (joinQueues lost other s).nvm.slotB = s.nvm.slotB := by simp [joinQueues]

@[simp] theorem reassign_sets (lost : Link) (s : State) :
    (reassign lost s).nvm.slotA = s.nvm.slotA ∧ (reassign lost s).nvm.slotB = s.nvm.slotB := by unfold reassign; (repeat' split) <;> simp

@[simp] theorem moveLink_sets (lost : Link) (s : State) :
    (moveLink lost s).nvm.slotA = s.nvm.slotA ∧ (moveLink lost s).nvm.slotB = s.nvm.slotB := by simp [moveLink]

@[simp] theorem refreshLink_sets (l : Link) (stateBefore : Nat) (s : State) :
    (refreshLink l stateBefore s).nvm.slotA = s.nvm.slotA ∧ (refreshLink l stateBefore s).nvm.slotB = s.nvm.slotB := by simp [refreshLink]

@[simp] theorem takeRxSettings_sets (l : Link) (s : State) :
    (takeRxSettings l s).nvm.slotA = s.nvm.slotA ∧ (takeRxSettings l s).nvm.slotB = s.nvm.slotB := by simp [takeRxSettings]

@[simp] theorem rxRestart_sets (l : Link) (s : State) :
    (rxRestart l s).nvm.slotA = s.nvm.slotA ∧ (rxRestart l s).nvm.slotB = s.nvm.slotB := by simp [rxRestart]

@[simp] theorem rxLost_sets (l : Link) (s : State) :
    (rxLost l s).nvm.slotA = s.nvm.slotA ∧ (rxLost l s).nvm.slotB = s.nvm.slotB := by simp [rxLost]

@[simp] theorem linkClock_sets (l : Link) (ppm : Int) (s : State) :
    (linkClock l ppm s).nvm.slotA = s.nvm.slotA ∧ (linkClock l ppm s).nvm.slotB = s.nvm.slotB := by simp [linkClock]

@[simp] theorem linkAdapt_sets (l : Link) (e0 e1 : Nat) (s : State) :
    (linkAdapt l e0 e1 s).nvm.slotA = s.nvm.slotA ∧ (linkAdapt l e0 e1 s).nvm.slotB = s.nvm.slotB := by simp [linkAdapt]

@[simp] theorem linkLock_sets (l : Link) (s : State) :
    (linkLock l s).nvm.slotA = s.nvm.slotA ∧ (linkLock l s).nvm.slotB = s.nvm.slotB := by simp [linkLock]

@[simp] theorem wiringMismatch_sets (l : Link) (farUp : Bool) (farId : Nat) (s : State) :
    (wiringMismatch l farUp farId s).nvm.slotA = s.nvm.slotA ∧ (wiringMismatch l farUp farId s).nvm.slotB = s.nvm.slotB := by simp [wiringMismatch]

@[simp] theorem linkDeskew_sets (l : Link) (b0 b1 : BitVec 64) (s : State) :
    (linkDeskew l b0 b1 s).nvm.slotA = s.nvm.slotA ∧ (linkDeskew l b0 b1 s).nvm.slotB = s.nvm.slotB := by unfold linkDeskew; (repeat' split) <;> simp

@[simp] theorem linkUp_sets (l : Link) (s : State) :
    (linkUp l s).nvm.slotA = s.nvm.slotA ∧ (linkUp l s).nvm.slotB = s.nvm.slotB := by simp [linkUp]

@[simp] theorem linkTimeout_sets (l : Link) (s : State) :
    (linkTimeout l s).nvm.slotA = s.nvm.slotA ∧ (linkTimeout l s).nvm.slotB = s.nvm.slotB := by simp [linkTimeout]

@[simp] theorem linkLoss_sets (l : Link) (cause : LossCause) (s : State) :
    (linkLoss l cause s).nvm.slotA = s.nvm.slotA ∧ (linkLoss l cause s).nvm.slotB = s.nvm.slotB := by unfold linkLoss; (repeat' split) <;> simp

@[simp] theorem oxlRetrain_sets (l : Link) (s : State) :
    (oxlRetrain l s).nvm.slotA = s.nvm.slotA ∧ (oxlRetrain l s).nvm.slotB = s.nvm.slotB := by simp [oxlRetrain]

@[simp] theorem alignIn_sets (l : Link) (b0 b1 : BitVec 64) (s : State) :
    (alignIn l b0 b1 s).nvm.slotA = s.nvm.slotA ∧ (alignIn l b0 b1 s).nvm.slotB = s.nvm.slotB := by unfold alignIn; (repeat' split) <;> simp

@[simp] theorem linkEnable_sets (l : Link) (s : State) :
    (linkEnable l s).nvm.slotA = s.nvm.slotA ∧ (linkEnable l s).nvm.slotB = s.nvm.slotB := by simp [linkEnable]

@[simp] theorem recheckLink_sets (l : Link) (s : State) :
    (recheckLink l s).nvm.slotA = s.nvm.slotA ∧ (recheckLink l s).nvm.slotB = s.nvm.slotB := by simp [recheckLink]

@[simp] theorem frameTransmit_sets (l : Link) (s : State) :
    (frameTransmit l s).nvm.slotA = s.nvm.slotA ∧ (frameTransmit l s).nvm.slotB = s.nvm.slotB := by
  unfold frameTransmit
  (try dsimp only)
  (repeat' split) <;> simp

@[simp] theorem sendAlign_sets (l : Link) (before : List (BlockKind × BitVec 64)) (s : State) :
    (sendAlign l before s).nvm.slotA = s.nvm.slotA ∧ (sendAlign l before s).nvm.slotB = s.nvm.slotB := by simp [sendAlign]

@[simp] theorem sendFlow_sets (l : Link) (s : State) :
    (sendFlow l s).nvm.slotA = s.nvm.slotA ∧ (sendFlow l s).nvm.slotB = s.nvm.slotB := by simp [sendFlow]

@[simp] theorem alignTransmit_sets (l : Link) (s : State) :
    (alignTransmit l s).nvm.slotA = s.nvm.slotA ∧ (alignTransmit l s).nvm.slotB = s.nvm.slotB := by simp [alignTransmit]

@[simp] theorem flowIn_sets (l : Link) (b : BitVec 64) (s : State) :
    (flowIn l b s).nvm.slotA = s.nvm.slotA ∧ (flowIn l b s).nvm.slotB = s.nvm.slotB := by simp [flowIn]

@[simp] theorem enterQuiet_sets (l : Link) (behind : Bool) (s : State) :
    (enterQuiet l behind s).nvm.slotA = s.nvm.slotA ∧ (enterQuiet l behind s).nvm.slotB = s.nvm.slotB := by simp [enterQuiet]

@[simp] theorem leaveQuiet_sets (l : Link) (s : State) :
    (leaveQuiet l s).nvm.slotA = s.nvm.slotA ∧ (leaveQuiet l s).nvm.slotB = s.nvm.slotB := by simp [leaveQuiet]

@[simp] theorem quietEntry_sets (l : Link) (s : State) :
    (quietEntry l s).nvm.slotA = s.nvm.slotA ∧ (quietEntry l s).nvm.slotB = s.nvm.slotB := by simp [quietEntry]

@[simp] theorem quietRxEntry_sets (l : Link) (s : State) :
    (quietRxEntry l s).nvm.slotA = s.nvm.slotA ∧ (quietRxEntry l s).nvm.slotB = s.nvm.slotB := by simp [quietRxEntry]

@[simp] theorem quietExit_sets (l : Link) (s : State) :
    (quietExit l s).nvm.slotA = s.nvm.slotA ∧ (quietExit l s).nvm.slotB = s.nvm.slotB := by simp [quietExit]

@[simp] theorem quietPeriodicExit_sets (l : Link) (s : State) :
    (quietPeriodicExit l s).nvm.slotA = s.nvm.slotA ∧ (quietPeriodicExit l s).nvm.slotB = s.nvm.slotB := by simp [quietPeriodicExit]

@[simp] theorem quietActivityTimeout_sets (l : Link) (s : State) :
    (quietActivityTimeout l s).nvm.slotA = s.nvm.slotA ∧ (quietActivityTimeout l s).nvm.slotB = s.nvm.slotB := by simp [quietActivityTimeout]

@[simp] theorem quietRxExit_sets (l : Link) (s : State) :
    (quietRxExit l s).nvm.slotA = s.nvm.slotA ∧ (quietRxExit l s).nvm.slotB = s.nvm.slotB := by simp [quietRxExit]

@[simp] theorem quietAlignTimeout_sets (l : Link) (s : State) :
    (quietAlignTimeout l s).nvm.slotA = s.nvm.slotA ∧ (quietAlignTimeout l s).nvm.slotB = s.nvm.slotB := by simp [quietAlignTimeout]

@[simp] theorem linkTrafficMove_sets (l : Link) (hostCut : Bool) (s : State) :
    (linkTrafficMove l hostCut s).nvm.slotA = s.nvm.slotA ∧ (linkTrafficMove l hostCut s).nvm.slotB = s.nvm.slotB := by simp [linkTrafficMove]

@[simp] theorem restartIdle_sets (l : Link) (waited : Bool) (s : State) :
    (restartIdle l waited s).nvm.slotA = s.nvm.slotA ∧ (restartIdle l waited s).nvm.slotB = s.nvm.slotB := by simp [restartIdle]

@[simp] theorem carryStop_sets (src dst : Link) (s : State) :
    (carryStop src dst s).nvm.slotA = s.nvm.slotA ∧ (carryStop src dst s).nvm.slotB = s.nvm.slotB := by simp [carryStop]

@[simp] theorem takeBack_sets (l : Link) (mine : OutFrame → Bool) (s : State) :
    (takeBack l mine s).nvm.slotA = s.nvm.slotA ∧ (takeBack l mine s).nvm.slotB = s.nvm.slotB := by simp [takeBack]

@[simp] theorem returnHoldExpiry_sets (l : Link) (s : State) :
    (returnHoldExpiry l s).nvm.slotA = s.nvm.slotA ∧ (returnHoldExpiry l s).nvm.slotB = s.nvm.slotB := by simp [returnHoldExpiry]

@[simp] theorem redistribute_sets (before s : State) :
    (redistribute before s).nvm.slotA = s.nvm.slotA ∧ (redistribute before s).nvm.slotB = s.nvm.slotB := by simp [redistribute]

@[simp] theorem linkModeWritten_sets (before s : State) :
    (linkModeWritten before s).nvm.slotA = s.nvm.slotA ∧ (linkModeWritten before s).nvm.slotB = s.nvm.slotB := by simp [linkModeWritten]

@[simp] theorem preferredWritten_sets (before s : State) :
    (preferredWritten before s).nvm.slotA = s.nvm.slotA ∧ (preferredWritten before s).nvm.slotB = s.nvm.slotB := by simp [preferredWritten]

@[simp] theorem forceSwitch_sets (s : State) :
    (forceSwitch s).nvm.slotA = s.nvm.slotA ∧ (forceSwitch s).nvm.slotB = s.nvm.slotB := by simp [forceSwitch]

@[simp] theorem addPrbs_sets (code n : Nat) (s : State) :
    (addPrbs code n s).nvm.slotA = s.nvm.slotA ∧ (addPrbs code n s).nvm.slotB = s.nvm.slotB := by simp [addPrbs]

@[simp] theorem prbsIn_sets (l : Link) (lane : Nat) (bits : List Bool) (s : State) :
    (prbsIn l lane bits s).nvm.slotA = s.nvm.slotA ∧ (prbsIn l lane bits s).nvm.slotB = s.nvm.slotB := by simp [prbsIn]

@[simp] theorem prbsGenWritten_sets (l : Link) (lane : Nat) (s : State) :
    (prbsGenWritten l lane s).nvm.slotA = s.nvm.slotA ∧ (prbsGenWritten l lane s).nvm.slotB = s.nvm.slotB := by
  unfold prbsGenWritten
  (try dsimp only)
  (repeat' split) <;> simp

@[simp] theorem prbsCheckWritten_sets (l : Link) (lane : Nat) (s : State) :
    (prbsCheckWritten l lane s).nvm.slotA = s.nvm.slotA ∧ (prbsCheckWritten l lane s).nvm.slotB = s.nvm.slotB := by simp [prbsCheckWritten]

@[simp] theorem prbsClearWritten_sets (l : Link) (lane : Nat) (s : State) :
    (prbsClearWritten l lane s).nvm.slotA = s.nvm.slotA ∧ (prbsClearWritten l lane s).nvm.slotB = s.nvm.slotB := by simp [prbsClearWritten]

/-! ## Power -/

@[simp] theorem State.modPower_sets (s : State) (f : PowerSt → PowerSt) :
    (State.modPower s f).nvm.slotA = s.nvm.slotA ∧ (State.modPower s f).nvm.slotB = s.nvm.slotB := by simp [State.modPower]

@[simp] theorem latchHead_sets (s : State) :
    (latchHead s).nvm.slotA = s.nvm.slotA ∧ (latchHead s).nvm.slotB = s.nvm.slotB := by simp [latchHead]

@[simp] theorem queuePm_sets (r : PmReq) (s : State) :
    (queuePm r s).nvm.slotA = s.nvm.slotA ∧ (queuePm r s).nvm.slotB = s.nvm.slotB := by simp [queuePm]

@[simp] theorem dropRequests_sets (p : PmReq → Bool) (s : State) :
    (dropRequests p s).nvm.slotA = s.nvm.slotA ∧ (dropRequests p s).nvm.slotB = s.nvm.slotB := by simp [dropRequests]

@[simp] theorem pmOn_sets (rail prio : Nat) (wakeOf : Option Nat) (s : State) :
    (pmOn rail prio wakeOf s).nvm.slotA = s.nvm.slotA ∧ (pmOn rail prio wakeOf s).nvm.slotB = s.nvm.slotB := by simp [pmOn]

@[simp] theorem pmOff_sets (rail prio : Nat) (s : State) :
    (pmOff rail prio s).nvm.slotA = s.nvm.slotA ∧ (pmOff rail prio s).nvm.slotB = s.nvm.slotB := by simp [pmOff]

@[simp] theorem pmVcore_sets (mV : Nat) (s : State) :
    (pmVcore mV s).nvm.slotA = s.nvm.slotA ∧ (pmVcore mV s).nvm.slotB = s.nvm.slotB := by simp [pmVcore]

@[simp] theorem pmOffIfOn_sets (rail prio : Nat) (s : State) :
    (pmOffIfOn rail prio s).nvm.slotA = s.nvm.slotA ∧ (pmOffIfOn rail prio s).nvm.slotB = s.nvm.slotB := by simp [pmOffIfOn]

@[simp] theorem stopPort_sets (p : Nat) (s : State) :
    (stopPort p s).nvm.slotA = s.nvm.slotA ∧ (stopPort p s).nvm.slotB = s.nvm.slotB := by simp [stopPort]

@[simp] theorem stopCluster_sets (k : Nat) (s : State) :
    (stopCluster k s).nvm.slotA = s.nvm.slotA ∧ (stopCluster k s).nvm.slotB = s.nvm.slotB := by simp [stopCluster]

@[simp] theorem portLost_sets (p : Nat) (s : State) :
    (portLost p s).nvm.slotA = s.nvm.slotA ∧ (portLost p s).nvm.slotB = s.nvm.slotB := by simp [portLost]

@[simp] theorem clusterGone_sets (k : Nat) (s : State) :
    (clusterGone k s).nvm.slotA = s.nvm.slotA ∧ (clusterGone k s).nvm.slotB = s.nvm.slotB := by simp [clusterGone]

@[simp] theorem caskWrite_sets (i : Nat) (b : Byte) (s : State) :
    (caskWrite i b s).nvm.slotA = s.nvm.slotA ∧ (caskWrite i b s).nvm.slotB = s.nvm.slotB := by simp [caskWrite]

@[simp] theorem caskWriteAll_sets (i : Nat) (bs : List Byte) (s : State) :
    (caskWriteAll i bs s).nvm.slotA = s.nvm.slotA ∧ (caskWriteAll i bs s).nvm.slotB = s.nvm.slotB := by
  induction bs generalizing i s with
  | nil => simp [caskWriteAll]
  | cons b rest ih => simp [caskWriteAll, ih]

@[simp] theorem caskRead_sets (i : Nat) (s : State) :
    (caskRead i s).2.nvm.slotA = s.nvm.slotA ∧ (caskRead i s).2.nvm.slotB = s.nvm.slotB := by
  unfold caskRead
  (try dsimp only)
  (repeat' split) <;> simp

@[simp] theorem caskReadAll_sets (n i : Nat) (s : State) :
    (caskReadAll n i s).2.nvm.slotA = s.nvm.slotA ∧ (caskReadAll n i s).2.nvm.slotB = s.nvm.slotB := by
  induction n generalizing i s with
  | zero => simp [caskReadAll]
  | succ n ih => simp [caskReadAll, ih]

@[simp] theorem setLedger_sets (k : Nat) (ls : List Ledger) (s : State) :
    (setLedger k ls s).nvm.slotA = s.nvm.slotA ∧ (setLedger k ls s).nvm.slotB = s.nvm.slotB := by simp [setLedger]

@[simp] theorem openLedger_sets (k : Nat) (s : State) :
    (openLedger k s).nvm.slotA = s.nvm.slotA ∧ (openLedger k s).nvm.slotB = s.nvm.slotB := by simp [openLedger]

@[simp] theorem modLedger_sets (k : Nat) (f : Ledger → Ledger) (s : State) :
    (modLedger k f s).nvm.slotA = s.nvm.slotA ∧ (modLedger k f s).nvm.slotB = s.nvm.slotB := by unfold modLedger; (repeat' split) <;> simp

@[simp] theorem leaveSteep_sets (p : Nat) (s : State) :
    (leaveSteep p s).nvm.slotA = s.nvm.slotA ∧ (leaveSteep p s).nvm.slotB = s.nvm.slotB := by simp [leaveSteep]

@[simp] theorem portSteep_sets (p : Nat) (s : State) :
    (portSteep p s).nvm.slotA = s.nvm.slotA ∧ (portSteep p s).nvm.slotB = s.nvm.slotB := by unfold portSteep; (repeat' split) <;> simp

@[simp] theorem portUnsteep_sets (p : Nat) (s : State) :
    (portUnsteep p s).nvm.slotA = s.nvm.slotA ∧ (portUnsteep p s).nvm.slotB = s.nvm.slotB := by simp [portUnsteep]

@[simp] theorem clusterSteep_sets (k : Nat) (s : State) :
    (clusterSteep k s).nvm.slotA = s.nvm.slotA ∧ (clusterSteep k s).nvm.slotB = s.nvm.slotB := by simp [clusterSteep]

@[simp] theorem clusterUnsteep_sets (k : Nat) (s : State) :
    (clusterUnsteep k s).nvm.slotA = s.nvm.slotA ∧ (clusterUnsteep k s).nvm.slotB = s.nvm.slotB := by simp [clusterUnsteep]

@[simp] theorem startWake_sets (k : Nat) (intended : Option Nat) (s : State) :
    (startWake k intended s).nvm.slotA = s.nvm.slotA ∧ (startWake k intended s).nvm.slotB = s.nvm.slotB := by simp [startWake]

@[simp] theorem settleOff_sets (k : Nat) (s : State) :
    (settleOff k s).nvm.slotA = s.nvm.slotA ∧ (settleOff k s).nvm.slotB = s.nvm.slotB := by simp [settleOff]

@[simp] theorem putDown_sets (k step rail : Nat) (s : State) :
    (putDown k step rail s).nvm.slotA = s.nvm.slotA ∧ (putDown k step rail s).nvm.slotB = s.nvm.slotB := by simp [putDown]

@[simp] theorem railFailed_sets (rail cmd cause : Nat) (s : State) :
    (railFailed rail cmd cause s).nvm.slotA = s.nvm.slotA ∧ (railFailed rail cmd cause s).nvm.slotB = s.nvm.slotB := by simp [railFailed]

@[simp] theorem wakeCheckFailed_sets (k : Nat) (s : State) :
    (wakeCheckFailed k s).nvm.slotA = s.nvm.slotA ∧ (wakeCheckFailed k s).nvm.slotB = s.nvm.slotB := by simp [wakeCheckFailed]

@[simp] theorem takeStatus_sets (rail w : Nat) (s : State) :
    (takeStatus rail w s).nvm.slotA = s.nvm.slotA ∧ (takeStatus rail w s).nvm.slotB = s.nvm.slotB := by simp [takeStatus]

@[simp] theorem committedIn_sets (k : Nat) (s : State) :
    (committedIn k s).nvm.slotA = s.nvm.slotA ∧ (committedIn k s).nvm.slotB = s.nvm.slotB := by simp [committedIn]

@[simp] theorem loadCommitted_sets (k : Nat) (s : State) :
    (loadCommitted k s).nvm.slotA = s.nvm.slotA ∧ (loadCommitted k s).nvm.slotB = s.nvm.slotB := by simp [loadCommitted]

@[simp] theorem restoreCask_sets (k : Nat) (badA badB : List Nat) (s : State) :
    (restoreCask k badA badB s).nvm.slotA = s.nvm.slotA ∧ (restoreCask k badA badB s).nvm.slotB = s.nvm.slotB := by unfold restoreCask; (repeat' split) <;> simp

@[simp] theorem wakeEnds_sets (k : Nat) (s : State) :
    (wakeEnds k s).nvm.slotA = s.nvm.slotA ∧ (wakeEnds k s).nvm.slotB = s.nvm.slotB := by simp [wakeEnds]

@[simp] theorem wakeStep_sets (k : Nat) (m : WakeMeasure) (s : State) :
    (wakeStep k m s).nvm.slotA = s.nvm.slotA ∧ (wakeStep k m s).nvm.slotB = s.nvm.slotB := by simp [wakeStep]

@[simp] theorem wakeAlarmReached_sets (k : Nat) (s : State) :
    (wakeAlarmReached k s).nvm.slotA = s.nvm.slotA ∧ (wakeAlarmReached k s).nvm.slotB = s.nvm.slotB := by simp [wakeAlarmReached]

@[simp] theorem dormantEntry_sets (k : Nat) (cal : List Byte) (s : State) :
    (dormantEntry k cal s).nvm.slotA = s.nvm.slotA ∧ (dormantEntry k cal s).nvm.slotB = s.nvm.slotB := by simp [dormantEntry]

@[simp] theorem nextGroup_sets (k : Nat) (s : State) :
    (nextGroup k s).nvm.slotA = s.nvm.slotA ∧ (nextGroup k s).nvm.slotB = s.nvm.slotB := by simp [nextGroup]

@[simp] theorem startRail_sets (rail : Nat) (ok : Bool) (s : State) :
    (startRail rail ok s).nvm.slotA = s.nvm.slotA ∧ (startRail rail ok s).nvm.slotB = s.nvm.slotB := by unfold startRail; (repeat' split) <;> simp

@[simp] theorem pmCheck_sets (rail tries : Nat) (s : State) :
    (pmCheck rail tries s).nvm.slotA = s.nvm.slotA ∧ (pmCheck rail tries s).nvm.slotB = s.nvm.slotB := by simp [pmCheck]

@[simp] theorem startChecked_sets (r : PmReq) (w : Nat) (s : State) :
    (startChecked r w s).nvm.slotA = s.nvm.slotA ∧ (startChecked r w s).nvm.slotB = s.nvm.slotB := by simp [startChecked]

@[simp] theorem pmDone_sets (r : PmReq) (word : Nat) (s : State) :
    (pmDone r word s).nvm.slotA = s.nvm.slotA ∧ (pmDone r word s).nvm.slotB = s.nvm.slotB := by unfold pmDone; (repeat' split) <;> simp

@[simp] theorem pmLost_sets (r : PmReq) (cause : Nat) (s : State) :
    (pmLost r cause s).nvm.slotA = s.nvm.slotA ∧ (pmLost r cause s).nvm.slotB = s.nvm.slotB := by unfold pmLost; (repeat' split) <;> simp

@[simp] theorem pmbusComplete_sets (res : PmbusResult) (s : State) :
    (pmbusComplete res s).nvm.slotA = s.nvm.slotA ∧ (pmbusComplete res s).nvm.slotB = s.nvm.slotB := by unfold pmbusComplete; (repeat' split) <;> simp

@[simp] theorem pmbusBusyPoll_sets (w : Nat) (s : State) :
    (pmbusBusyPoll w s).nvm.slotA = s.nvm.slotA ∧ (pmbusBusyPoll w s).nvm.slotB = s.nvm.slotB := by unfold pmbusBusyPoll; (repeat' split) <;> simp

@[simp] theorem pmbusRetry_sets (s : State) :
    (pmbusRetry s).nvm.slotA = s.nvm.slotA ∧ (pmbusRetry s).nvm.slotB = s.nvm.slotB := by unfold pmbusRetry; (repeat' split) <;> simp

@[simp] theorem pmbusPolling_sets (s : State) :
    (pmbusPolling s).nvm.slotA = s.nvm.slotA ∧ (pmbusPolling s).nvm.slotB = s.nvm.slotB := by simp [pmbusPolling]

@[simp] theorem vcoreSettings_sets (s : State) :
    (vcoreSettings s).nvm.slotA = s.nvm.slotA ∧ (vcoreSettings s).nvm.slotB = s.nvm.slotB := by simp [vcoreSettings]

@[simp] theorem avsAdjust_sets (short ample : Bool) (s : State) :
    (avsAdjust short ample s).nvm.slotA = s.nvm.slotA ∧ (avsAdjust short ample s).nvm.slotB = s.nvm.slotB := by simp [avsAdjust]

/-! ## Heat -/

@[simp] theorem takeReading_sets (n : Nat) (t : Int) (s : State) :
    (takeReading n t s).nvm.slotA = s.nvm.slotA ∧ (takeReading n t s).nvm.slotB = s.nvm.slotB := by simp [takeReading]

@[simp] theorem takeReadings_sets (n : Nat) (ts : List Int) (s : State) :
    (takeReadings n ts s).nvm.slotA = s.nvm.slotA ∧ (takeReadings n ts s).nvm.slotB = s.nvm.slotB := by
  induction ts generalizing n s with
  | nil => simp [takeReadings]
  | cons t rest ih => simp [takeReadings, ih]

@[simp] theorem checkSensor_sets (v : State) (n : Nat) (s : State) :
    (checkSensor v n s).nvm.slotA = s.nvm.slotA ∧ (checkSensor v n s).nvm.slotB = s.nvm.slotB := by simp [checkSensor]

@[simp] theorem warnDie_sets (n : Nat) (s : State) :
    (warnDie n s).nvm.slotA = s.nvm.slotA ∧ (warnDie n s).nvm.slotB = s.nvm.slotB := by
  unfold warnDie
  (try dsimp only)
  (repeat' split) <;> simp

@[simp] theorem enterThrottle_sets (n : Nat) (s : State) :
    (enterThrottle n s).nvm.slotA = s.nvm.slotA ∧ (enterThrottle n s).nvm.slotB = s.nvm.slotB := by simp [enterThrottle]

@[simp] theorem throttleSample_sets (s : State) :
    (throttleSample s).nvm.slotA = s.nvm.slotA ∧ (throttleSample s).nvm.slotB = s.nvm.slotB := by
  unfold throttleSample
  (try dsimp only)
  (repeat' split) <;> simp

@[simp] theorem dropWake_sets (k : Nat) (s : State) :
    (dropWake k s).nvm.slotA = s.nvm.slotA ∧ (dropWake k s).nvm.slotB = s.nvm.slotB := by simp [dropWake]

@[simp] theorem lineDieShutdown_sets (k : Nat) (s : State) :
    (lineDieShutdown k s).nvm.slotA = s.nvm.slotA ∧ (lineDieShutdown k s).nvm.slotB = s.nvm.slotB := by simp [lineDieShutdown]

@[simp] theorem coreOff_sets (s : State) :
    (coreOff s).nvm.slotA = s.nvm.slotA ∧ (coreOff s).nvm.slotB = s.nvm.slotB := by unfold coreOff; (repeat' split) <;> simp

@[simp] theorem noteLoss_sets (s : State) :
    (noteLoss s).nvm.slotA = s.nvm.slotA ∧ (noteLoss s).nvm.slotB = s.nvm.slotB := by simp [noteLoss]

@[simp] theorem coreShutdown_sets (s : State) :
    (coreShutdown s).nvm.slotA = s.nvm.slotA ∧ (coreShutdown s).nvm.slotB = s.nvm.slotB := by simp [coreShutdown]

@[simp] theorem releaseCore_sets (s : State) :
    (releaseCore s).nvm.slotA = s.nvm.slotA ∧ (releaseCore s).nvm.slotB = s.nvm.slotB := by unfold releaseCore; (repeat' split) <;> simp

@[simp] theorem coldSample_sets (s : State) :
    (coldSample s).nvm.slotA = s.nvm.slotA ∧ (coldSample s).nvm.slotB = s.nvm.slotB := by simp [coldSample]

@[simp] theorem lineDies_sets (s : State) :
    (lineDies s).nvm.slotA = s.nvm.slotA ∧ (lineDies s).nvm.slotB = s.nvm.slotB := by simp [lineDies]

@[simp] theorem sampled_sets (ts : List Int) (s : State) :
    (sampled ts s).nvm.slotA = s.nvm.slotA ∧ (sampled ts s).nvm.slotB = s.nvm.slotB := by simp [sampled]

@[simp] theorem thermalSample_sets (ts : List Int) (s : State) :
    (thermalSample ts s).nvm.slotA = s.nvm.slotA ∧ (thermalSample ts s).nvm.slotB = s.nvm.slotB := by unfold thermalSample; (repeat' split) <;> simp

@[simp] theorem throttleLift_sets (s : State) :
    (throttleLift s).nvm.slotA = s.nvm.slotA ∧ (throttleLift s).nvm.slotB = s.nvm.slotB := by simp [throttleLift]

@[simp] theorem restartClusters_sets (s : State) :
    (restartClusters s).nvm.slotA = s.nvm.slotA ∧ (restartClusters s).nvm.slotB = s.nvm.slotB := by simp [restartClusters]

/-! ## Engines -/

@[simp] theorem goldenMissing_sets (tests : List Nat) (s : State) :
    (goldenMissing tests s).nvm.slotA = s.nvm.slotA ∧ (goldenMissing tests s).nvm.slotB = s.nvm.slotB := by simp [goldenMissing]

@[simp] theorem planMigration_sets (x y : Nat) (rotating : Bool) (s : State) :
    (planMigration x y rotating s).nvm.slotA = s.nvm.slotA ∧ (planMigration x y rotating s).nvm.slotB = s.nvm.slotB := by simp [planMigration]

@[simp] theorem cancelRotation_sets (x : Nat) (s : State) :
    (cancelRotation x s).nvm.slotA = s.nvm.slotA ∧ (cancelRotation x s).nvm.slotB = s.nvm.slotB := by unfold cancelRotation; (repeat' split) <;> simp

@[simp] theorem recordFailed_sets (e test : Nat) (s : State) :
    (recordFailed e test s).nvm.slotA = s.nvm.slotA ∧ (recordFailed e test s).nvm.slotB = s.nvm.slotB := by simp [recordFailed]

@[simp] theorem unrecord_sets (e : Nat) (s : State) :
    (unrecord e s).nvm.slotA = s.nvm.slotA ∧ (unrecord e s).nvm.slotB = s.nvm.slotB := by simp [unrecord]

@[simp] theorem loadNext_sets (k : Nat) (s : State) :
    (loadNext k s).nvm.slotA = s.nvm.slotA ∧ (loadNext k s).nvm.slotB = s.nvm.slotB := by
  unfold loadNext
  (try dsimp only)
  (repeat' split) <;> simp

@[simp] theorem engineTestComplete_sets (e : Nat) (rs : List Response) (s : State) :
    (engineTestComplete e rs s).nvm.slotA = s.nvm.slotA ∧ (engineTestComplete e rs s).nvm.slotB = s.nvm.slotB := by simp [engineTestComplete]

@[simp] theorem planRescue_sets (e : Nat) (s : State) :
    (planRescue e s).nvm.slotA = s.nvm.slotA ∧ (planRescue e s).nvm.slotB = s.nvm.slotB := by unfold planRescue; (repeat' split) <;> simp

@[simp] theorem copyTaps_sets (p x y : Nat) (badWords : List Nat) (s : State) :
    (copyTaps p x y badWords s).nvm.slotA = s.nvm.slotA ∧ (copyTaps p x y badWords s).nvm.slotB = s.nvm.slotB := by simp [copyTaps]

@[simp] theorem migration_sets (p : Nat) (crcEqual : Bool) (badWords : List Nat) (s : State) :
    (migration p crcEqual badWords s).nvm.slotA = s.nvm.slotA ∧ (migration p crcEqual badWords s).nvm.slotB = s.nvm.slotB := by
  unfold migration
  (try dsimp only)
  (repeat' split) <;> simp

@[simp] theorem rotate_sets (k second : Nat) (s : State) :
    (rotate k second s).nvm.slotA = s.nvm.slotA ∧ (rotate k second s).nvm.slotB = s.nvm.slotB := by
  unfold rotate
  (try dsimp only)
  (repeat' split) <;> simp

@[simp] theorem rotationDatum_sets (second : Nat) (s : State) :
    (rotationDatum second s).nvm.slotA = s.nvm.slotA ∧ (rotationDatum second s).nvm.slotB = s.nvm.slotB := by unfold rotationDatum; (repeat' split) <;> simp

@[simp] theorem engineFailing_sets (e : Nat) (f : EngineFault) (s : State) :
    (engineFailing e f s).nvm.slotA = s.nvm.slotA ∧ (engineFailing e f s).nvm.slotB = s.nvm.slotB := by unfold engineFailing; (repeat' split) <;> simp

@[simp] theorem stopForEngine_sets (p : Nat) (s : State) :
    (stopForEngine p s).nvm.slotA = s.nvm.slotA ∧ (stopForEngine p s).nvm.slotB = s.nvm.slotB := by simp [stopForEngine]

@[simp] theorem engineExhausted_sets (p : Nat) (s : State) :
    (engineExhausted p s).nvm.slotA = s.nvm.slotA ∧ (engineExhausted p s).nvm.slotB = s.nvm.slotB := by simp [engineExhausted]

@[simp] theorem resumePort_sets (p : Nat) (s : State) :
    (resumePort p s).nvm.slotA = s.nvm.slotA ∧ (resumePort p s).nvm.slotB = s.nvm.slotB := by unfold resumePort; (repeat' split) <;> simp

@[simp] theorem replaceEngine_sets (p : Nat) (s : State) :
    (replaceEngine p s).nvm.slotA = s.nvm.slotA ∧ (replaceEngine p s).nvm.slotB = s.nvm.slotB := by unfold replaceEngine; (repeat' split) <;> simp

@[simp] theorem freeEngine_sets (p : Nat) (s : State) :
    (freeEngine p s).nvm.slotA = s.nvm.slotA ∧ (freeEngine p s).nvm.slotB = s.nvm.slotB := by simp [freeEngine]

@[simp] theorem assignEngines_sets (k : Nat) (s : State) :
    (assignEngines k s).nvm.slotA = s.nvm.slotA ∧ (assignEngines k s).nvm.slotB = s.nvm.slotB := by
  unfold assignEngines
  dsimp only
  split
  all_goals
    refine ⟨?_, ?_⟩
    · (try rw [(fault_sets _ _ _ _).1, (State.modCluster_sets _ _ _).1])
      rw [forAll_slotA _ _ (by intro x t; (repeat' split) <;> simp), forAll_slotA _ _ (by intro x t; simp)]
    · (try rw [(fault_sets _ _ _ _).2, (State.modCluster_sets _ _ _).2])
      rw [forAll_slotB _ _ (by intro x t; (repeat' split) <;> simp), forAll_slotB _ _ (by intro x t; simp)]

@[simp] theorem fwUpdateMigration_sets (k : Nat) (s : State) :
    (fwUpdateMigration k s).nvm.slotA = s.nvm.slotA ∧ (fwUpdateMigration k s).nvm.slotB = s.nvm.slotB := by
  unfold fwUpdateMigration
  (try dsimp only)
  (repeat' split) <;> simp

/-! ## SelfTest -/

@[simp] theorem State.modTester_sets (s : State) (m : Mem) (f : TesterSt → TesterSt) :
    (State.modTester s m f).nvm.slotA = s.nvm.slotA ∧ (State.modTester s m f).nvm.slotB = s.nvm.slotB := by unfold State.modTester; (repeat' split) <;> simp

@[simp] theorem sliceTestStart_sets (m : Mem) (s : State) :
    (sliceTestStart m s).nvm.slotA = s.nvm.slotA ∧ (sliceTestStart m s).nvm.slotB = s.nvm.slotB := by simp [sliceTestStart]

@[simp] theorem sliceTestAbort_sets (m : Mem) (s : State) :
    (sliceTestAbort m s).nvm.slotA = s.nvm.slotA ∧ (sliceTestAbort m s).nvm.slotB = s.nvm.slotB := by simp [sliceTestAbort]

@[simp] theorem wordFailed_sets (m : Mem) (word : Nat) (s : State) :
    (wordFailed m word s).nvm.slotA = s.nvm.slotA ∧ (wordFailed m word s).nvm.slotB = s.nvm.slotB := by unfold wordFailed; (repeat' split) <;> simp

@[simp] theorem repairSlice_sets (m : Mem) (slice : Nat) (badWords : List Nat) (s : State) :
    (repairSlice m slice badWords s).nvm.slotA = s.nvm.slotA ∧ (repairSlice m slice badWords s).nvm.slotB = s.nvm.slotB := by
  unfold repairSlice
  (try dsimp only)
  (repeat' split) <;> simp

@[simp] theorem spareFails_sets (m : Mem) (n : Nat) (s : State) :
    (spareFails m n s).nvm.slotA = s.nvm.slotA ∧ (spareFails m n s).nvm.slotB = s.nvm.slotB := by simp [spareFails]

@[simp] theorem sliceFails_sets (m : Mem) (unit : Nat) (s : State) :
    (sliceFails m unit s).nvm.slotA = s.nvm.slotA ∧ (sliceFails m unit s).nvm.slotB = s.nvm.slotB := by simp [sliceFails]

@[simp] theorem sliceTestComplete_sets (m : Mem) (words : List (BitVec 64)) (badWords : List Nat) (s : State) :
    (sliceTestComplete m words badWords s).nvm.slotA = s.nvm.slotA ∧ (sliceTestComplete m words badWords s).nvm.slotB = s.nvm.slotB := by simp [sliceTestComplete]

@[simp] theorem loadRemaps_sets (m : Mem) (s : State) :
    (loadRemaps m s).nvm.slotA = s.nvm.slotA ∧ (loadRemaps m s).nvm.slotB = s.nvm.slotB := by simp [loadRemaps]

@[simp] theorem patrolScrub_sets (m : Mem) (word : Nat) (e : Ecc) (s : State) :
    (patrolScrub m word e s).nvm.slotA = s.nvm.slotA ∧ (patrolScrub m word e s).nvm.slotB = s.nvm.slotB := by unfold patrolScrub; (repeat' split) <;> simp

@[simp] theorem loseHalf_sets (p h : Nat) (s : State) :
    (loseHalf p h s).nvm.slotA = s.nvm.slotA ∧ (loseHalf p h s).nvm.slotB = s.nvm.slotB := by simp [loseHalf]

@[simp] theorem converterCalibration_sets (k : Nat) (fs : List CalFinding) (s : State) :
    (converterCalibration k fs s).nvm.slotA = s.nvm.slotA ∧ (converterCalibration k fs s).nvm.slotB = s.nvm.slotB := by simp [converterCalibration]

@[simp] theorem clusterLost_sets (k cause : Nat) (s : State) :
    (clusterLost k cause s).nvm.slotA = s.nvm.slotA ∧ (clusterLost k cause s).nvm.slotB = s.nvm.slotB := by simp [clusterLost]

@[simp] theorem clusterLinkLoss_sets (k : Nat) (s : State) :
    (clusterLinkLoss k s).nvm.slotA = s.nvm.slotA ∧ (clusterLinkLoss k s).nvm.slotB = s.nvm.slotB := by simp [clusterLinkLoss]

@[simp] theorem clusterPllUnlock_sets (k : Nat) (s : State) :
    (clusterPllUnlock k s).nvm.slotA = s.nvm.slotA ∧ (clusterPllUnlock k s).nvm.slotB = s.nvm.slotB := by simp [clusterPllUnlock]

@[simp] theorem clusterRailFall_sets (k : Nat) (line : Bool) (s : State) :
    (clusterRailFall k line s).nvm.slotA = s.nvm.slotA ∧ (clusterRailFall k line s).nvm.slotB = s.nvm.slotB := by simp [clusterRailFall]

@[simp] theorem lineShort_sets (p : Nat) (s : State) :
    (lineShort p s).nvm.slotA = s.nvm.slotA ∧ (lineShort p s).nvm.slotB = s.nvm.slotB := by simp [lineShort]

@[simp] theorem fullTestStart_sets (s : State) :
    (fullTestStart s).nvm.slotA = s.nvm.slotA ∧ (fullTestStart s).nvm.slotB = s.nvm.slotB := by simp [fullTestStart]

@[simp] theorem fullEngineFails_sets (e test : Nat) (s : State) :
    (fullEngineFails e test s).nvm.slotA = s.nvm.slotA ∧ (fullEngineFails e test s).nvm.slotB = s.nvm.slotB := by unfold fullEngineFails; (repeat' split) <;> simp

@[simp] theorem fullFail_sets (f : UnitTest) (s : State) :
    (fullFail f s).nvm.slotA = s.nvm.slotA ∧ (fullFail f s).nvm.slotB = s.nvm.slotB := by simp [fullFail]

@[simp] theorem fullTestComplete_sets (rs : List UnitTest) (s : State) :
    (fullTestComplete rs s).nvm.slotA = s.nvm.slotA ∧ (fullTestComplete rs s).nvm.slotB = s.nvm.slotB := by simp [fullTestComplete]

@[simp] theorem enginePasses_sets (e : Nat) (s : State) :
    (enginePasses e s).nvm.slotA = s.nvm.slotA ∧ (enginePasses e s).nvm.slotB = s.nvm.slotB := by simp [enginePasses]

@[simp] theorem engineFailsOnce_sets (bad : List Nat) (s : State) :
    (engineFailsOnce bad s).nvm.slotA = s.nvm.slotA ∧ (engineFailsOnce bad s).nvm.slotB = s.nvm.slotB := by simp [engineFailsOnce]

@[simp] theorem engineCheck_sets (c : ClusterCheck) (e : Nat) (s : State) :
    (engineCheck c e s).nvm.slotA = s.nvm.slotA ∧ (engineCheck c e s).nvm.slotB = s.nvm.slotB := by simp [engineCheck]

@[simp] theorem clusterCheck_sets (c : ClusterCheck) (s : State) :
    (clusterCheck c s).nvm.slotA = s.nvm.slotA ∧ (clusterCheck c s).nvm.slotB = s.nvm.slotB := by simp [clusterCheck]

@[simp] theorem clusterChecked_sets (c : ClusterCheck) (s : State) :
    (clusterChecked c s).nvm.slotA = s.nvm.slotA ∧ (clusterChecked c s).nvm.slotB = s.nvm.slotB := by simp [clusterChecked]

@[simp] theorem startupCheck_sets (cs : List ClusterCheck) (s : State) :
    (startupCheck cs s).nvm.slotA = s.nvm.slotA ∧ (startupCheck cs s).nvm.slotB = s.nvm.slotB := by simp [startupCheck]

/-! ## Firmware -/

@[simp] theorem State.modFw_sets (s : State) (f : FwSt → FwSt) :
    (State.modFw s f).nvm.slotA = s.nvm.slotA ∧ (State.modFw s f).nvm.slotB = s.nvm.slotB := by simp [State.modFw]

@[simp] theorem State.setRecord_sets (s : State) (b : Nat) (x : BankRecord) :
    (State.setRecord s b x).nvm.slotA = s.nvm.slotA ∧ (State.setRecord s b x).nvm.slotB = s.nvm.slotB := by simp [State.setRecord]

@[simp] theorem eraseBank_sets (b : Nat) (s : State) :
    (eraseBank b s).nvm.slotA = s.nvm.slotA ∧ (eraseBank b s).nvm.slotB = s.nvm.slotB := by simp [eraseBank]

@[simp] theorem fwEraseComplete_sets (verified : Bool) (s : State) :
    (fwEraseComplete verified s).nvm.slotA = s.nvm.slotA ∧ (fwEraseComplete verified s).nvm.slotB = s.nvm.slotB := by simp [fwEraseComplete]

@[simp] theorem loadBegin_sets (length : Nat) (s : State) :
    (loadBegin length s).nvm.slotA = s.nvm.slotA ∧ (loadBegin length s).nvm.slotB = s.nvm.slotB := by simp [loadBegin]

@[simp] theorem loadSegment_sets (bs : List Byte) (last : Bool) (s : State) :
    (loadSegment bs last s).nvm.slotA = s.nvm.slotA ∧ (loadSegment bs last s).nvm.slotB = s.nvm.slotB := by simp [loadSegment]

@[simp] theorem loadEnds_sets (s : State) :
    (loadEnds s).nvm.slotA = s.nvm.slotA ∧ (loadEnds s).nvm.slotB = s.nvm.slotB := by simp [loadEnds]

@[simp] theorem fwImageCheck_sets (s : State) :
    (fwImageCheck s).nvm.slotA = s.nvm.slotA ∧ (fwImageCheck s).nvm.slotB = s.nvm.slotB := by simp [fwImageCheck]

@[simp] theorem startBank_sets (s : State) :
    (startBank s).nvm.slotA = s.nvm.slotA ∧ (startBank s).nvm.slotB = s.nvm.slotB := by unfold startBank; (repeat' split) <;> simp

@[simp] theorem beginMoves_sets (have_ : List Nat) (back : Bool) (s : State) :
    (beginMoves have_ back s).nvm.slotA = s.nvm.slotA ∧ (beginMoves have_ back s).nvm.slotB = s.nvm.slotB := by simp [beginMoves]

@[simp] theorem fwSwitch_sets (s : State) :
    (fwSwitch s).nvm.slotA = s.nvm.slotA ∧ (fwSwitch s).nvm.slotB = s.nvm.slotB := by simp [fwSwitch]

@[simp] theorem moveBack_sets (s : State) :
    (moveBack s).nvm.slotA = s.nvm.slotA ∧ (moveBack s).nvm.slotB = s.nvm.slotB := by simp [moveBack]

@[simp] theorem controllerResets_sets (cause : Nat) (s : State) :
    (controllerResets cause s).nvm.slotA = s.nvm.slotA ∧ (controllerResets cause s).nvm.slotB = s.nvm.slotB := by simp [controllerResets]

@[simp] theorem fwUpdateSwitched_sets (s : State) :
    (fwUpdateSwitched s).nvm.slotA = s.nvm.slotA ∧ (fwUpdateSwitched s).nvm.slotB = s.nvm.slotB := by simp [fwUpdateSwitched]

@[simp] theorem fwTrialEnd_sets (s : State) :
    (fwTrialEnd s).nvm.slotA = s.nvm.slotA ∧ (fwTrialEnd s).nvm.slotB = s.nvm.slotB := by
  unfold fwTrialEnd
  (try dsimp only)
  (repeat' split) <;> simp

@[simp] theorem barBank_sets (s : State) :
    (barBank s).1.nvm.slotA = s.nvm.slotA ∧ (barBank s).1.nvm.slotB = s.nvm.slotB := by simp [barBank]

@[simp] theorem watchdogExpiry_sets (s : State) :
    (watchdogExpiry s).nvm.slotA = s.nvm.slotA ∧ (watchdogExpiry s).nvm.slotB = s.nvm.slotB := by simp [watchdogExpiry]

/-! ## HostFrames -/

@[simp] theorem discardHost_sets (l : Link) (p d cause length : Nat) (s : State) :
    (discardHost l p d cause length s).nvm.slotA = s.nvm.slotA ∧ (discardHost l p d cause length s).nvm.slotB = s.nvm.slotB := by simp [discardHost]

@[simp] theorem queueHost_sets (l : Link) (p d epoch : Nat) (body : List Byte) (s : State) :
    (queueHost l p d epoch body s).nvm.slotA = s.nvm.slotA ∧ (queueHost l p d epoch body s).nvm.slotB = s.nvm.slotB := by simp [queueHost]

@[simp] theorem staleHostFrame_sets (p d frameEpoch : Nat) (s : State) :
    (staleHostFrame p d frameEpoch s).nvm.slotA = s.nvm.slotA ∧ (staleHostFrame p d frameEpoch s).nvm.slotB = s.nvm.slotB := by simp [staleHostFrame]

@[simp] theorem noDropFrame_sets (p d frameEpoch : Nat) (s : State) :
    (noDropFrame p d frameEpoch s).nvm.slotA = s.nvm.slotA ∧ (noDropFrame p d frameEpoch s).nvm.slotB = s.nvm.slotB := by simp [noDropFrame]

@[simp] theorem routeBranch_sets (l : Link) (f : HostFrame) (s : State) :
    (routeBranch l f s).nvm.slotA = s.nvm.slotA ∧ (routeBranch l f s).nvm.slotB = s.nvm.slotB := by simp [routeBranch]

@[simp] theorem routeTrunk_sets (l : Link) (f : HostFrame) (s : State) :
    (routeTrunk l f s).nvm.slotA = s.nvm.slotA ∧ (routeTrunk l f s).nvm.slotB = s.nvm.slotB := by simp [routeTrunk]

@[simp] theorem routeFrame_sets (l : Link) (f : HostFrame) (s : State) :
    (routeFrame l f s).nvm.slotA = s.nvm.slotA ∧ (routeFrame l f s).nvm.slotB = s.nvm.slotB := by simp [routeFrame]

@[simp] theorem answerBulk_sets (l : Link) (f : OutFrame) (s : State) :
    (answerBulk l f s).nvm.slotA = s.nvm.slotA ∧ (answerBulk l f s).nvm.slotB = s.nvm.slotB := by simp [answerBulk]

@[simp] theorem endBulk_sets (l : Link) (b : Bulk) (status : Nat) (s : State) :
    (endBulk l b status s).nvm.slotA = s.nvm.slotA ∧ (endBulk l b status s).nvm.slotB = s.nvm.slotB := by simp [endBulk]

@[simp] theorem bulkStep_sets (l : Link) (b : Bulk) (s : State) :
    (bulkStep l b s).nvm.slotA = s.nvm.slotA ∧ (bulkStep l b s).nvm.slotB = s.nvm.slotB := by unfold bulkStep; (repeat' split) <;> simp

@[simp] theorem openBulk_sets (l : Link) (b : Bulk) (s : State) :
    (openBulk l b s).nvm.slotA = s.nvm.slotA ∧ (openBulk l b s).nvm.slotB = s.nvm.slotB := by simp [openBulk]

@[simp] theorem refuseBulk_sets (l : Link) (op status reqId target : Nat) (s : State) :
    (refuseBulk l op status reqId target s).nvm.slotA = s.nvm.slotA ∧ (refuseBulk l op status reqId target s).nvm.slotB = s.nvm.slotB := by simp [refuseBulk]

@[simp] theorem refuseRead_sets (l : Link) (op status reqId target : Nat) (s : State) :
    (refuseRead l op status reqId target s).nvm.slotA = s.nvm.slotA ∧ (refuseRead l op status reqId target s).nvm.slotB = s.nvm.slotB := by simp [refuseRead]

@[simp] theorem bulkRequest_slotA (l : Link) (op reqId target : Nat) (f : State → State) (h : ∀ t, (f t).nvm.slotA = t.nvm.slotA) (s : State) :
    (bulkRequest l op reqId target f s).nvm.slotA = s.nvm.slotA := by
  unfold bulkRequest; dsimp only; (repeat' split) <;> simp [h]

@[simp] theorem bulkRequest_slotB (l : Link) (op reqId target : Nat) (f : State → State) (h : ∀ t, (f t).nvm.slotB = t.nvm.slotB) (s : State) :
    (bulkRequest l op reqId target f s).nvm.slotB = s.nvm.slotB := by
  unfold bulkRequest; dsimp only; (repeat' split) <;> simp [h]

@[simp] theorem readRecord_sets (l : Link) (reqId target first count : Nat) (s : State) :
    (readRecord l reqId target first count s).nvm.slotA = s.nvm.slotA ∧ (readRecord l reqId target first count s).nvm.slotB = s.nvm.slotB := by
  unfold readRecord
  exact ⟨bulkRequest_slotA _ _ _ _ _ (by intro t; (repeat' split) <;> simp) s,
    bulkRequest_slotB _ _ _ _ _ (by intro t; (repeat' split) <;> simp) s⟩

@[simp] theorem readDriveBlocks_sets (l : Link) (reqId block first count : Nat) (s : State) :
    (readDriveBlocks l reqId block first count s).nvm.slotA = s.nvm.slotA ∧ (readDriveBlocks l reqId block first count s).nvm.slotB = s.nvm.slotB := by simp [readDriveBlocks]

@[simp] theorem cancelBulk_sets (l : Link) (reqId : Nat) (s : State) :
    (cancelBulk l reqId s).nvm.slotA = s.nvm.slotA ∧ (cancelBulk l reqId s).nvm.slotB = s.nvm.slotB := by
  unfold cancelBulk
  exact ⟨bulkRequest_slotA _ _ _ _ _ (by intro t; split <;> simp) s,
    bulkRequest_slotB _ _ _ _ _ (by intro t; split <;> simp) s⟩

@[simp] theorem badBulk_sets (l : Link) (op reqId target : Nat) (s : State) :
    (badBulk l op reqId target s).nvm.slotA = s.nvm.slotA ∧ (badBulk l op reqId target s).nvm.slotB = s.nvm.slotB := by simp [badBulk]

@[simp] theorem bulkFrame_sets (l : Link) (body : List Byte) (s : State) :
    (bulkFrame l body s).nvm.slotA = s.nvm.slotA ∧ (bulkFrame l body s).nvm.slotB = s.nvm.slotB := by
  unfold bulkFrame
  (try dsimp only)
  (repeat' split) <;> simp

@[simp] theorem bulkGot_sets (l : Link) (tag blk : Nat) (s : State) :
    (bulkGot l tag blk s).nvm.slotA = s.nvm.slotA ∧ (bulkGot l tag blk s).nvm.slotB = s.nvm.slotB := by unfold bulkGot; (repeat' split) <;> simp

@[simp] theorem bulkFailed_sets (l : Link) (tag : Nat) (s : State) :
    (bulkFailed l tag s).nvm.slotA = s.nvm.slotA ∧ (bulkFailed l tag s).nvm.slotB = s.nvm.slotB := by unfold bulkFailed; (repeat' split) <;> simp

@[simp] theorem commandDone_sets (j : NvmeJob) (s : State) :
    (commandDone j s).nvm.slotA = s.nvm.slotA ∧ (commandDone j s).nvm.slotB = s.nvm.slotB := by unfold commandDone; (repeat' split) <;> simp

@[simp] theorem commandFailed_sets (c : NvmeCmd) (s : State) :
    (commandFailed c s).nvm.slotA = s.nvm.slotA ∧ (commandFailed c s).nvm.slotB = s.nvm.slotB := by unfold commandFailed; (repeat' split) <;> simp

@[simp] theorem nvmeCompletion_sets (pair cid : Nat) (st : NvmeStatus) (s : State) :
    (nvmeCompletion pair cid st s).nvm.slotA = s.nvm.slotA ∧ (nvmeCompletion pair cid st s).nvm.slotB = s.nvm.slotB := by unfold nvmeCompletion; (repeat' split) <;> simp

@[simp] theorem endAllBulk_sets (s : State) :
    (endAllBulk s).nvm.slotA = s.nvm.slotA ∧ (endAllBulk s).nvm.slotB = s.nvm.slotB := by simp [endAllBulk]

@[simp] theorem settleBulk_sets (s : State) :
    (settleBulk s).nvm.slotA = s.nvm.slotA ∧ (settleBulk s).nvm.slotB = s.nvm.slotB := by simp [settleBulk]

@[simp] theorem resetController_sets (fatal : Bool) (s : State) :
    (resetController fatal s).nvm.slotA = s.nvm.slotA ∧ (resetController fatal s).nvm.slotB = s.nvm.slotB := by
  unfold resetController
  dsimp only
  refine ⟨?_, ?_⟩
  · simp only [settleBulk_sets]
    rw [forAll_slotA _ _ (by intro x t; split <;> simp)]; simp
  · simp only [settleBulk_sets]
    rw [forAll_slotB _ _ (by intro x t; split <;> simp)]; simp

@[simp] theorem abortCommand_sets (c : NvmeCmd) (abortDone : Bool) (s : State) :
    (abortCommand c abortDone s).nvm.slotA = s.nvm.slotA ∧ (abortCommand c abortDone s).nvm.slotB = s.nvm.slotB := by simp [abortCommand]

@[simp] theorem cmdTimeout_sets (pair cid : Nat) (abortDone fatal : Bool) (s : State) :
    (cmdTimeout pair cid abortDone fatal s).nvm.slotA = s.nvm.slotA ∧ (cmdTimeout pair cid abortDone fatal s).nvm.slotB = s.nvm.slotB := by unfold cmdTimeout; (repeat' split) <;> simp

@[simp] theorem driveLost_sets (s : State) :
    (driveLost s).nvm.slotA = s.nvm.slotA ∧ (driveLost s).nvm.slotB = s.nvm.slotB := by simp [driveLost]

/-! ## Reset -/

@[simp] theorem deviceReset_sets (cause : Nat) (s : State) :
    (deviceReset cause s).nvm.slotA = s.nvm.slotA ∧ (deviceReset cause s).nvm.slotB = s.nvm.slotB := by simp [deviceReset]

@[simp] theorem powerOnReset_sets (s : State) :
    (powerOnReset s).nvm.slotA = s.nvm.slotA ∧ (powerOnReset s).nvm.slotB = s.nvm.slotB := by simp [powerOnReset]

@[simp] theorem vddAonFall_sets (s : State) :
    (vddAonFall s).nvm.slotA = s.nvm.slotA ∧ (vddAonFall s).nvm.slotB = s.nvm.slotB := by simp [vddAonFall]

@[simp] theorem resetN_sets (s : State) :
    (resetN s).nvm.slotA = s.nvm.slotA ∧ (resetN s).nvm.slotB = s.nvm.slotB := by simp [resetN]

@[simp] theorem thermalRestart_sets (s : State) :
    (thermalRestart s).nvm.slotA = s.nvm.slotA ∧ (thermalRestart s).nvm.slotB = s.nvm.slotB := by simp [thermalRestart]

@[simp] theorem restartSettles_sets (s : State) :
    (restartSettles s).nvm.slotA = s.nvm.slotA ∧ (restartSettles s).nvm.slotB = s.nvm.slotB := by simp [restartSettles]

@[simp] theorem boot_sets (s : State) :
    (boot s).nvm.slotA = s.nvm.slotA ∧ (boot s).nvm.slotB = s.nvm.slotB := by unfold boot; (repeat' split) <;> simp

@[simp] theorem startCells_sets (p : Nat) (s : State) :
    (startCells p s).nvm.slotA = s.nvm.slotA ∧ (startCells p s).nvm.slotB = s.nvm.slotB := by simp [startCells]

@[simp] theorem loadSet_sets (s : State) :
    (loadSet s).nvm.slotA = s.nvm.slotA ∧ (loadSet s).nvm.slotB = s.nvm.slotB := by unfold loadSet; (repeat' split) <;> simp

@[simp] theorem startQuality_sets (s : State) :
    (startQuality s).nvm.slotA = s.nvm.slotA ∧ (startQuality s).nvm.slotB = s.nvm.slotB := by simp [startQuality]

@[simp] theorem goldenCheck_sets (s : State) :
    (goldenCheck s).nvm.slotA = s.nvm.slotA ∧ (goldenCheck s).nvm.slotB = s.nvm.slotB := by simp [goldenCheck]

@[simp] theorem keptProgramEnds_sets (verified : Bool) (s : State) :
    (keptProgramEnds verified s).nvm.slotA = s.nvm.slotA ∧ (keptProgramEnds verified s).nvm.slotB = s.nvm.slotB := by unfold keptProgramEnds; (repeat' split) <;> simp

/-! ## Writes -/

@[simp] theorem clusterTarget_sets (k : Nat) (v : Int) (s : State) :
    (clusterTarget k v s).nvm.slotA = s.nvm.slotA ∧ (clusterTarget k v s).nvm.slotB = s.nvm.slotB := by simp [clusterTarget]

@[simp] theorem takeSetting_slotA (code rc inst : Nat) (v : Int) (change : State → State) (h : ∀ t, (change t).nvm.slotA = t.nvm.slotA) (s : State) :
    (takeSetting code rc inst v change s).nvm.slotA = s.nvm.slotA := by
  unfold takeSetting; dsimp only; (repeat' split) <;> simp [h, withTwinChange_slotA _ _ h]

@[simp] theorem takeSetting_slotB (code rc inst : Nat) (v : Int) (change : State → State) (h : ∀ t, (change t).nvm.slotB = t.nvm.slotB) (s : State) :
    (takeSetting code rc inst v change s).nvm.slotB = s.nvm.slotB := by
  unfold takeSetting; dsimp only; (repeat' split) <;> simp [h, withTwinChange_slotB _ _ h]

@[simp] theorem clearReg_sets (code inst : Nat) (s : State) :
    (clearReg code inst s).nvm.slotA = s.nvm.slotA ∧ (clearReg code inst s).nvm.slotB = s.nvm.slotB := by simp [clearReg]

@[simp] theorem State.jointForm_sets (s : State) (target : Tab Int) (doms : Tab (List Byte)) :
    (State.jointForm s target doms).nvm.slotA = s.nvm.slotA ∧ (State.jointForm s target doms).nvm.slotB = s.nvm.slotB := by simp [State.jointForm]

@[simp] theorem jointValue_sets (form : State) (now : State) (e : Nat × Option Int) (s : State) :
    (jointValue form now e s).nvm.slotA = s.nvm.slotA ∧ (jointValue form now e s).nvm.slotB = s.nvm.slotB := by unfold jointValue; (repeat' split) <;> simp

@[simp] theorem jointWrite_sets (target : Tab Int) (doms : Tab (List Byte)) (s : State) :
    (jointWrite target doms s).nvm.slotA = s.nvm.slotA ∧ (jointWrite target doms s).nvm.slotB = s.nvm.slotB := by simp [jointWrite]

@[simp] theorem defaultsWrite_sets (s : State) :
    (defaultsWrite s).nvm.slotA = s.nvm.slotA ∧ (defaultsWrite s).nvm.slotB = s.nvm.slotB := by simp [defaultsWrite]

@[simp] theorem revertWrite_sets (s : State) :
    (revertWrite s).nvm.slotA = s.nvm.slotA ∧ (revertWrite s).nvm.slotB = s.nvm.slotB := by unfold revertWrite; (repeat' split) <;> simp

@[simp] theorem endTransfer_sets (q : Path) (s : State) :
    (endTransfer q s).nvm.slotA = s.nvm.slotA ∧ (endTransfer q s).nvm.slotB = s.nvm.slotB := by unfold endTransfer; (repeat' split) <;> simp

@[simp] theorem lcAdvance_sets (s : State) :
    (lcAdvance s).nvm.slotA = s.nvm.slotA ∧ (lcAdvance s).nvm.slotB = s.nvm.slotB := by simp [lcAdvance]

@[simp] theorem lcRefuse_sets (s : State) :
    (lcRefuse s).nvm.slotA = s.nvm.slotA ∧ (lcRefuse s).nvm.slotB = s.nvm.slotB := by simp [lcRefuse]

@[simp] theorem forceDefault_sets (e : Nat × Option Int) (s : State) :
    (forceDefault e s).nvm.slotA = s.nvm.slotA ∧ (forceDefault e s).nvm.slotB = s.nvm.slotB := by simp [forceDefault]

@[simp] theorem forceDefaults_sets (s : State) :
    (forceDefaults s).nvm.slotA = s.nvm.slotA ∧ (forceDefaults s).nvm.slotB = s.nvm.slotB := by simp [forceDefaults]

@[simp] theorem writePath_sets (q : Path) (code n : Nat) (s : State) :
    (writePath q code n s).nvm.slotA = s.nvm.slotA ∧ (writePath q code n s).nvm.slotB = s.nvm.slotB := by simp [writePath]

@[simp] theorem writeCell_sets (i code n master : Nat) (s : State) :
    (writeCell i code n master s).nvm.slotA = s.nvm.slotA ∧ (writeCell i code n master s).nvm.slotB = s.nvm.slotB := by unfold writeCell; (repeat' split) <;> simp

@[simp] theorem twinCommand_sets (p : Nat) (back : Bool) (s : State) :
    (twinCommand p back s).nvm.slotA = s.nvm.slotA ∧ (twinCommand p back s).nvm.slotB = s.nvm.slotB := by unfold twinCommand; (repeat' split) <;> simp

@[simp] theorem archFormatWrite_sets (s : State) :
    (archFormatWrite s).nvm.slotA = s.nvm.slotA ∧ (archFormatWrite s).nvm.slotB = s.nvm.slotB := by simp [archFormatWrite]

@[simp] theorem archAdoptWrite_sets (s : State) :
    (archAdoptWrite s).nvm.slotA = s.nvm.slotA ∧ (archAdoptWrite s).nvm.slotB = s.nvm.slotB := by simp [archAdoptWrite]

@[simp] theorem portCommand_sets (code inst : Nat) (v : Int) (s : State) :
    (portCommand code inst v s).nvm.slotA = s.nvm.slotA ∧ (portCommand code inst v s).nvm.slotB = s.nvm.slotB := by simp [portCommand]

/-! ## Access -/

@[simp] theorem selectionRefused_sets (q : Path) (o : Obj) (a : Nat) (s : State) :
    (selectionRefused q o a s).2.nvm.slotA = s.nvm.slotA ∧ (selectionRefused q o a s).2.nvm.slotB = s.nvm.slotB := by simp [selectionRefused]

theorem readError_sets (q : Path) (o : Obj) (code inst : Nat) (s t : State) (h : readError q o code inst s = some t) :
    t.nvm.slotA = s.nvm.slotA ∧ t.nvm.slotB = s.nvm.slotB := by
  unfold readError at h
  (repeat' split at h) <;> first | (cases h; simp; done) | cases h | skip
  simp only [Option.map_eq_some_iff] at h
  obtain ⟨w, -, rfl⟩ := h
  simp

@[simp] theorem readScalar_sets (q : Path) (r : MgmtReq) (o : Obj) (code inst : Nat) (s : State) :
    (readScalar q r o code inst s).2.nvm.slotA = s.nvm.slotA ∧ (readScalar q r o code inst s).2.nvm.slotB = s.nvm.slotB := by
  unfold readScalar
  dsimp only
  (repeat' split) <;> try (simp; done)
  rename_i h; exact readError_sets _ _ _ _ _ _ h

@[simp] theorem closeTransfer_sets (q : Path) (s : State) :
    (closeTransfer q s).nvm.slotA = s.nvm.slotA ∧ (closeTransfer q s).nvm.slotB = s.nvm.slotB := by simp [closeTransfer]

@[simp] theorem replaceTransfer_sets (q : Path) (x : Option Xfer) (s : State) :
    (replaceTransfer q x s).nvm.slotA = s.nvm.slotA ∧ (replaceTransfer q x s).nvm.slotB = s.nvm.slotB := by simp [replaceTransfer]

@[simp] theorem autoStep_sets (q : Path) (code : Nat) (s : State) :
    (autoStep q code s).nvm.slotA = s.nvm.slotA ∧ (autoStep q code s).nvm.slotB = s.nvm.slotB := by simp [autoStep]

@[simp] theorem domainRead_sets (q : Path) (r : MgmtReq) (o : Obj) (code inst : Nat) (s : State) :
    (domainRead q r o code inst s).2.nvm.slotA = s.nvm.slotA ∧ (domainRead q r o code inst s).2.nvm.slotB = s.nvm.slotB := by
  unfold domainRead
  dsimp only
  (repeat' split) <;> try (simp; done)
  rename_i h; exact readError_sets _ _ _ _ _ _ h

@[simp] theorem storeDomain_sets (code inst : Nat) (bs : List Byte) (s : State) :
    (storeDomain code inst bs s).nvm.slotA = s.nvm.slotA ∧ (storeDomain code inst bs s).nvm.slotB = s.nvm.slotB := by simp [storeDomain]

@[simp] theorem domainWrite_sets (q : Path) (r : MgmtReq) (o : Obj) (code inst : Nat) (s : State) :
    (domainWrite q r o code inst s).2.nvm.slotA = s.nvm.slotA ∧ (domainWrite q r o code inst s).2.nvm.slotB = s.nvm.slotB := by unfold domainWrite; (repeat' split) <;> simp

@[simp] theorem segmentRead_sets (q : Path) (r : MgmtReq) (s : State) :
    (segmentRead q r s).2.nvm.slotA = s.nvm.slotA ∧ (segmentRead q r s).2.nvm.slotB = s.nvm.slotB := by unfold segmentRead; (repeat' split) <;> simp

@[simp] theorem segmentWrite_sets (q : Path) (r : MgmtReq) (o : Obj) (s : State) :
    (segmentWrite q r o s).2.nvm.slotA = s.nvm.slotA ∧ (segmentWrite q r o s).2.nvm.slotB = s.nvm.slotB := by
  unfold segmentWrite
  (try dsimp only)
  (repeat' split) <;> simp

@[simp] theorem transferTimeout_sets (q : Path) (s : State) :
    (transferTimeout q s).nvm.slotA = s.nvm.slotA ∧ (transferTimeout q s).nvm.slotB = s.nvm.slotB := by unfold transferTimeout; (repeat' split) <;> simp

@[simp] theorem countAbort_sets (q : Path) (y : Reply) (s : State) :
    (countAbort q y s).nvm.slotA = s.nvm.slotA ∧ (countAbort q y s).nvm.slotB = s.nvm.slotB := by unfold countAbort; (repeat' split) <;> simp

@[simp] theorem answer_sets (q : Path) (r : MgmtReq) (y : Reply) (s : State) :
    (answer q r y s).nvm.slotA = s.nvm.slotA ∧ (answer q r y s).nvm.slotB = s.nvm.slotB := by unfold answer; (repeat' split) <;> simp

@[simp] theorem commandedReset_sets (q : Path) (bytes : List Byte) (s : State) :
    (commandedReset q bytes s).nvm.slotA = s.nvm.slotA ∧ (commandedReset q bytes s).nvm.slotB = s.nvm.slotB := by simp [commandedReset]

@[simp] theorem resetCommand_sets (q : Path) (r : MgmtReq) (y : Reply) (s : State) :
    (resetCommand q r y s).nvm.slotA = s.nvm.slotA ∧ (resetCommand q r y s).nvm.slotB = s.nvm.slotB := by unfold resetCommand; (repeat' split) <;> simp

@[simp] theorem spiReject_sets (s : State) :
    (spiReject s).nvm.slotA = s.nvm.slotA ∧ (spiReject s).nvm.slotB = s.nvm.slotB := by simp [spiReject]

@[simp] theorem spiOut_sets (status : Byte) (bs : List Byte) (s : State) :
    (spiOut status bs s).nvm.slotA = s.nvm.slotA ∧ (spiOut status bs s).nvm.slotB = s.nvm.slotB := by simp [spiOut]

@[simp] theorem spiStatusCmd_sets (clocked : Nat) (s : State) :
    (spiStatusCmd clocked s).nvm.slotA = s.nvm.slotA ∧ (spiStatusCmd clocked s).nvm.slotB = s.nvm.slotB := by simp [spiStatusCmd]

@[simp] theorem spiFetch_sets (clocked : Nat) (s : State) :
    (spiFetch clocked s).nvm.slotA = s.nvm.slotA ∧ (spiFetch clocked s).nvm.slotB = s.nvm.slotB := by simp [spiFetch]

@[simp] theorem spiAbandon_sets (clocked : Nat) (s : State) :
    (spiAbandon clocked s).nvm.slotA = s.nvm.slotA ∧ (spiAbandon clocked s).nvm.slotB = s.nvm.slotB := by simp [spiAbandon]

@[simp] theorem spiUnknown_sets (clocked : Nat) (s : State) :
    (spiUnknown clocked s).nvm.slotA = s.nvm.slotA ∧ (spiUnknown clocked s).nvm.slotB = s.nvm.slotB := by simp [spiUnknown]

@[simp] theorem syncSeen_sets (l : Link) (h0 h1 : Nat) (s : State) :
    (syncSeen l h0 h1 s).nvm.slotA = s.nvm.slotA ∧ (syncSeen l h0 h1 s).nvm.slotB = s.nvm.slotB := by simp [syncSeen]

@[simp] theorem alignMissed_sets (l : Link) (s : State) :
    (alignMissed l s).nvm.slotA = s.nvm.slotA ∧ (alignMissed l s).nvm.slotB = s.nvm.slotB := by simp [alignMissed]

/-! ## Cycle -/

@[simp] theorem beaconDatum_sets (d k p : Nat) (s : State) :
    (beaconDatum d k p s).nvm.slotA = s.nvm.slotA ∧ (beaconDatum d k p s).nvm.slotB = s.nvm.slotB := by simp [beaconDatum]

@[simp] theorem clusterDatum_sets (d k : Nat) (s : State) :
    (clusterDatum d k s).nvm.slotA = s.nvm.slotA ∧ (clusterDatum d k s).nvm.slotB = s.nvm.slotB := by simp [clusterDatum]

@[simp] theorem stampCells_sets (second : Nat) (s : State) :
    (stampCells second s).nvm.slotA = s.nvm.slotA ∧ (stampCells second s).nvm.slotB = s.nvm.slotB := by simp [stampCells]

@[simp] theorem firstDatumWork_sets (second : Nat) (s : State) :
    (firstDatumWork second s).nvm.slotA = s.nvm.slotA ∧ (firstDatumWork second s).nvm.slotB = s.nvm.slotB := by simp [firstDatumWork]

@[simp] theorem datum_sets (xo : Int) (s : State) :
    (datum xo s).nvm.slotA = s.nvm.slotA ∧ (datum xo s).nvm.slotB = s.nvm.slotB := by simp [datum]

@[simp] theorem closeDrop_sets (p : Nat) (periodEnds : Bool) (d : Nat) (s : State) :
    (closeDrop p periodEnds d s).nvm.slotA = s.nvm.slotA ∧ (closeDrop p periodEnds d s).nvm.slotB = s.nvm.slotB := by simp [closeDrop]

@[simp] theorem closePort_sets (p : Nat) (s : State) :
    (closePort p s).nvm.slotA = s.nvm.slotA ∧ (closePort p s).nvm.slotB = s.nvm.slotB := by simp [closePort]

@[simp] theorem endBranch_sets (p : Nat) (s : State) :
    (endBranch p s).nvm.slotA = s.nvm.slotA ∧ (endBranch p s).nvm.slotB = s.nvm.slotB := by simp [endBranch]

@[simp] theorem leaveMode_sets (p : Nat) (s : State) :
    (leaveMode p s).nvm.slotA = s.nvm.slotA ∧ (leaveMode p s).nvm.slotB = s.nvm.slotB := by
  have key : ∀ t : State, (freeEngine p (calStops p ((abandonRun p t).modPort p (fun x => { x with mode := 0, onLine := [], steep := false })))).nvm.slotA = t.nvm.slotA ∧
      (freeEngine p (calStops p ((abandonRun p t).modPort p (fun x => { x with mode := 0, onLine := [], steep := false })))).nvm.slotB = t.nvm.slotB :=
    fun t => by simp
  unfold leaveMode
  dsimp only
  simp only [key]
  split
  · simp
  · exact ⟨rfl, rfl⟩

@[simp] theorem enterMode_sets (p m : Nat) (s : State) :
    (enterMode p m s).nvm.slotA = s.nvm.slotA ∧ (enterMode p m s).nvm.slotB = s.nvm.slotB := by
  unfold enterMode
  dsimp only
  have key : ∀ t : State, (if (t.port p).stopped ∧ ((resumePort p t).port p).stopped then
      fault 9 [p] [(1, p), (1, (resumePort p t).engineFor p)] (resumePort p t) else resumePort p t).nvm.slotA = t.nvm.slotA ∧
      (if (t.port p).stopped ∧ ((resumePort p t).port p).stopped then
      fault 9 [p] [(1, p), (1, (resumePort p t).engineFor p)] (resumePort p t) else resumePort p t).nvm.slotB = t.nvm.slotB := by
    intro t; split <;> simp
  rw [(key _).1, (key _).2]
  have one : ∀ t : State, (if (t.port p).begun then t else t.modPort p (fun x => { x with begun := true, rollHeld := true, hold := 2064 })).nvm.slotA = t.nvm.slotA ∧
      (if (t.port p).begun then t else t.modPort p (fun x => { x with begun := true, rollHeld := true, hold := 2064 })).nvm.slotB = t.nvm.slotB := by
    intro t; split <;> exact ⟨rfl, rfl⟩
  split
  · simp only [one, rollOpened_sets]
    split <;> exact leaveSteep_sets p s
  · exact leaveSteep_sets p s

@[simp] theorem takeMode_sets (p : Nat) (s : State) :
    (takeMode p s).nvm.slotA = s.nvm.slotA ∧ (takeMode p s).nvm.slotB = s.nvm.slotB := by
  unfold takeMode
  dsimp only
  (repeat' split) <;> simp <;> (repeat' split) <;> simp

@[simp] theorem applyMode_sets (p : Nat) (s : State) :
    (applyMode p s).nvm.slotA = s.nvm.slotA ∧ (applyMode p s).nvm.slotB = s.nvm.slotB := by simp [applyMode]

@[simp] theorem loadsCode_sets (k : Nat) (s : State) :
    (loadsCode k s).nvm.slotA = s.nvm.slotA ∧ (loadsCode k s).nvm.slotB = s.nvm.slotB := by simp [loadsCode]

@[simp] theorem wakePort_sets (p : Nat) (s : State) :
    (wakePort p s).nvm.slotA = s.nvm.slotA ∧ (wakePort p s).nvm.slotB = s.nvm.slotB := by simp [wakePort]

@[simp] theorem wakeStepPorts_sets (k : Nat) (m : WakeMeasure) (s : State) :
    (wakeStepPorts k m s).nvm.slotA = s.nvm.slotA ∧ (wakeStepPorts k m s).nvm.slotB = s.nvm.slotB := by simp [wakeStepPorts]

theorem placeBurst_sets (p limit : Nat) (b : Burst) (s t : State) (h : placeBurst p limit b s = some t) :
    t.nvm.slotA = s.nvm.slotA ∧ t.nvm.slotB = s.nvm.slotB := by
  unfold placeBurst at h
  dsimp only at h
  split at h
  · cases h; simp
  · cases h

theorem sendToDrop_sets (p d typ seq flags : Nat) (acks : Bool) (payload : List Byte) (s t : State)
    (h : sendToDrop p d typ seq flags acks payload s = some t) : t.nvm.slotA = s.nvm.slotA ∧ t.nvm.slotB = s.nvm.slotB := by
  unfold sendToDrop at h
  dsimp only at h
  simp only [Option.map_eq_some_iff] at h
  obtain ⟨u, hu, rfl⟩ := h
  have := placeBurst_sets _ _ _ _ _ hu
  simp [this.1, this.2]

theorem sendSequenced_sets (p d typ flags : Nat) (acks rep : Bool) (payload : List Byte) (s t : State)
    (h : sendSequenced p d typ flags acks rep payload s = some t) : t.nvm.slotA = s.nvm.slotA ∧ t.nvm.slotB = s.nvm.slotB := by
  unfold sendSequenced at h
  dsimp only at h
  split at h
  · cases h
  · simp only [Option.map_eq_some_iff] at h
    obtain ⟨u, hu, rfl⟩ := h
    have := sendToDrop_sets _ _ _ _ _ _ _ _ _ hu
    simp [this.1, this.2]

@[simp] theorem sendAdmit_sets (p : Nat) (s : State) :
    (sendAdmit p s).nvm.slotA = s.nvm.slotA ∧ (sendAdmit p s).nvm.slotB = s.nvm.slotB := by
  unfold sendAdmit
  split
  · exact ⟨rfl, rfl⟩
  · rename_i bs _
    have key : ∀ (n : Nat) (b : Burst), (((placeBurst p n b s).map (admitTaken p)).getD s).nvm.slotA = s.nvm.slotA ∧
        (((placeBurst p n b s).map (admitTaken p)).getD s).nvm.slotB = s.nvm.slotB := by
      intro n b
      cases h : placeBurst p n b s with
      | none => exact ⟨rfl, rfl⟩
      | some t => have := placeBurst_sets _ _ _ _ _ h; simp [this.1, this.2]
    exact key _ _

@[simp] theorem sendSound_sets (p : Nat) (s : State) :
    (sendSound p s).nvm.slotA = s.nvm.slotA ∧ (sendSound p s).nvm.slotB = s.nvm.slotB := by
  have key : ∀ (lim d : Nat) (b : Burst) (t : State), ((placeBurst p lim b s).map (fun t =>
      t.modCtx p d (fun y => { y with sinceTx := 0 }))) = some t → t.nvm.slotA = s.nvm.slotA ∧ t.nvm.slotB = s.nvm.slotB := by
    intro lim d b t h
    simp only [Option.map_eq_some_iff] at h
    obtain ⟨u, hu, rfl⟩ := h
    have := placeBurst_sets _ _ _ _ _ hu
    simp [this.1, this.2]
  unfold sendSound
  (repeat' split) <;> try (simp; done)
  exact ⟨getD_slotA (fun t h => (key _ _ _ t h).1) rfl, getD_slotB (fun t h => (key _ _ _ t h).2) rfl⟩

@[simp] theorem sendAgain_sets (p : Nat) (acked : List Nat) (d : Nat) (s : State) :
    (sendAgain p acked d s).nvm.slotA = s.nvm.slotA ∧ (sendAgain p acked d s).nvm.slotB = s.nvm.slotB := by
  unfold sendAgain
  refine ⟨forAll_slotA _ _ (fun f t => ?_) s, forAll_slotB _ _ (fun f t => ?_) s⟩
  all_goals
    split
    · rfl
    · rename_i u hu
      have := sendToDrop_sets _ _ _ _ _ _ _ _ _ hu
      simp [this.1, this.2]

@[simp] theorem sendMsg_sets (p : Nat) (acked : List Nat) (m : OutMsg) (s : State) :
    (sendMsg p acked m s).nvm.slotA = s.nvm.slotA ∧ (sendMsg p acked m s).nvm.slotB = s.nvm.slotB := by
  unfold sendMsg
  dsimp only
  split
  · simp
  · split
    · simp
    · rename_i u hu
      have := sendSequenced_sets _ _ _ _ _ _ _ _ _ hu
      simp [this.1, this.2]

theorem sendQueued_sets (p : Nat) (acked : List Nat) (d : Nat) (s t : State)
    (h : sendQueued p acked d s = some t) : t.nvm.slotA = s.nvm.slotA ∧ t.nvm.slotB = s.nvm.slotB := by
  unfold sendQueued at h
  dsimp only at h
  (repeat' split at h) <;> try cases h
  simp only [Option.map_eq_some_iff] at h
  obtain ⟨u, hu, rfl⟩ := h
  have := sendSequenced_sets _ _ _ _ _ _ _ _ _ hu
  simp [this.1, this.2]

@[simp] theorem sendAck_sets (p : Nat) (acked : List Nat) (d : Nat) (s : State) :
    (sendAck p acked d s).nvm.slotA = s.nvm.slotA ∧ (sendAck p acked d s).nvm.slotB = s.nvm.slotB := by
  unfold sendAck
  dsimp only
  (repeat' split) <;> try (simp; done)
  all_goals first
  | (rename_i u hu; have := sendQueued_sets _ _ _ _ _ hu; simpa using this)
  | exact ⟨getD_slotA (fun t h => by have := sendToDrop_sets _ _ _ _ _ _ _ _ _ h; simpa using this.1) (by simp),
      getD_slotB (fun t h => by have := sendToDrop_sets _ _ _ _ _ _ _ _ _ h; simpa using this.2) (by simp)⟩
  | (refine ⟨getD_slotA (fun t h => ?_) rfl, getD_slotB (fun t h => ?_) rfl⟩ <;>
      (simp only [Option.map_eq_some_iff] at h
       obtain ⟨u, hu, rfl⟩ := h
       have := sendToDrop_sets _ _ _ _ _ _ _ _ _ hu
       simpa using (by first | exact this.1 | exact this.2)))

@[simp] theorem fillTurn_sets (p : Nat) (acked ds : List Nat) (s : State) :
    (fillTurn p acked ds s).1.nvm.slotA = s.nvm.slotA ∧ (fillTurn p acked ds s).1.nvm.slotB = s.nvm.slotB := by
  induction ds generalizing s with
  | nil => simp [fillTurn]
  | cons d rest ih =>
    unfold fillTurn
    split
    · exact ih s
    · rename_i t ht
      have := sendQueued_sets _ _ _ _ _ ht
      simp [ih, this.1, this.2]

@[simp] theorem fillWindow_sets (fuel p : Nat) (acked ds : List Nat) (first : Option Nat) (s : State) :
    (fillWindow fuel p acked ds first s).1.nvm.slotA = s.nvm.slotA ∧ (fillWindow fuel p acked ds first s).1.nvm.slotB = s.nvm.slotB := by
  induction fuel generalizing first s with
  | zero => simp [fillWindow]
  | succ n ih => simp only [fillWindow]; split <;> simp [ih]

@[simp] theorem fillDown_sets (p : Nat) (acked : List Nat) (s : State) :
    (fillDown p acked s).nvm.slotA = s.nvm.slotA ∧ (fillDown p acked s).nvm.slotB = s.nvm.slotB := by
  unfold fillDown
  (try dsimp only)
  (repeat' split) <;> simp

@[simp] theorem downstream_sets (p : Nat) (s : State) :
    (downstream p s).nvm.slotA = s.nvm.slotA ∧ (downstream p s).nvm.slotB = s.nvm.slotB := by simp [downstream]

@[simp] theorem standbyDue_sets (q d : Nat) (s : State) :
    (standbyDue q d s).nvm.slotA = s.nvm.slotA ∧ (standbyDue q d s).nvm.slotB = s.nvm.slotB := by
  unfold standbyDue
  (try dsimp only)
  (repeat' split) <;> simp

@[simp] theorem openDrop_sets (p d : Nat) (s : State) :
    (openDrop p d s).nvm.slotA = s.nvm.slotA ∧ (openDrop p d s).nvm.slotB = s.nvm.slotB := by simp [openDrop]

@[simp] theorem resetRx_sets (p : Nat) (idle : Bool) (s : State) :
    (resetRx p idle s).nvm.slotA = s.nvm.slotA ∧ (resetRx p idle s).nvm.slotB = s.nvm.slotB := by simp [resetRx]

@[simp] theorem branchCycle_sets (p : Nat) (s : State) :
    (branchCycle p s).nvm.slotA = s.nvm.slotA ∧ (branchCycle p s).nvm.slotB = s.nvm.slotB := by simp [branchCycle]

@[simp] theorem countShort_sets (p : Nat) (s : State) :
    (countShort p s).nvm.slotA = s.nvm.slotA ∧ (countShort p s).nvm.slotB = s.nvm.slotB := by simp [countShort]

@[simp] theorem stopHalfless_sets (p : Nat) (s : State) :
    (stopHalfless p s).nvm.slotA = s.nvm.slotA ∧ (stopHalfless p s).nvm.slotB = s.nvm.slotB := by simp [stopHalfless]

@[simp] theorem passBeacon_sets (p : Nat) (s : State) :
    (passBeacon p s).nvm.slotA = s.nvm.slotA ∧ (passBeacon p s).nvm.slotB = s.nvm.slotB := by simp [passBeacon]

@[simp] theorem openPort_sets (es : List Echo) (p : Nat) (s : State) :
    (openPort es p s).nvm.slotA = s.nvm.slotA ∧ (openPort es p s).nvm.slotB = s.nvm.slotB := by simp [openPort]

@[simp] theorem stopForRealign_sets (s : State) :
    (stopForRealign s).nvm.slotA = s.nvm.slotA ∧ (stopForRealign s).nvm.slotB = s.nvm.slotB := by simp [stopForRealign]

@[simp] theorem cycleStart_sets (es : List Echo) (s : State) :
    (cycleStart es s).nvm.slotA = s.nvm.slotA ∧ (cycleStart es s).nvm.slotB = s.nvm.slotB := by simp [cycleStart]

@[simp] theorem timeAnnounce_sets (s : State) :
    (timeAnnounce s).nvm.slotA = s.nvm.slotA ∧ (timeAnnounce s).nvm.slotB = s.nvm.slotB := by unfold timeAnnounce; (repeat' split) <;> simp

@[simp] theorem epochApplies_sets (s : State) :
    (epochApplies s).nvm.slotA = s.nvm.slotA ∧ (epochApplies s).nvm.slotB = s.nvm.slotB := by unfold epochApplies; (repeat' split) <;> simp

@[simp] theorem injectedRaise_sets (s : State) :
    (injectedRaise s).nvm.slotA = s.nvm.slotA ∧ (injectedRaise s).nvm.slotB = s.nvm.slotB := by unfold injectedRaise; (repeat' split) <;> simp

/-! ## Step -/

end Sys2Proof.Machine
end

