-- ==== Sys2Proof/Laws/Committed.lean ====
section
/-! SUPPORT. What leaves the committed set alone: everything that carries a request, and the commits and erases that a request
may start; the slot that does not hold the committed set may be erased (R346, R452). -/

namespace Sys2Proof.Machine

/-- Equal slots hold the same committed set. -/
theorem currentSet_of_slots {s t : State} (h : t.nvm.slotA = s.nvm.slotA ∧ t.nvm.slotB = s.nvm.slotB) :
    t.currentSet = s.currentSet := by
  unfold State.currentSet
  rw [h.1, h.2]

/-- The erase of the other slot leaves the committed set (R452). -/
theorem eraseOther_current (s : State) : (eraseOther s).currentSet = s.currentSet := by
  unfold eraseOther
  refine (currentSet_of_slots (nvmStart_sets _)).trans ?_
  unfold State.freeSlotB State.currentSet
  cases s.nvm.slotA with
  | none => simp
  | some a =>
    cases s.nvm.slotB with
    | none => simp
    | some b =>
      by_cases h : b.seq ≤ a.seq
      · simp [h, Nat.not_lt.mpr h]
      · simp [h, Nat.lt_of_not_le h]

theorem startCommit_current (s : State) : (startCommit s).currentSet = s.currentSet := by
  unfold startCommit
  dsimp only
  split
  · exact currentSet_of_slots (by simp; done)
  · split
    · exact eraseOther_current _
    · exact currentSet_of_slots (by simp; done)

theorem commitWrite_current (s : State) : (commitWrite s).currentSet = s.currentSet := by
  unfold commitWrite
  split
  · rfl
  · exact startCommit_current s

theorem afterCommit_current (s : State) : (afterCommit s).currentSet = s.currentSet := by
  unfold afterCommit
  split
  · exact startCommit_current s
  · exact currentSet_of_slots (by simp; done)

theorem commitFailed_current (page : Nat) (s : State) : (commitFailed page s).currentSet = s.currentSet := by
  unfold commitFailed
  rw [afterCommit_current]
  exact currentSet_of_slots ⟨by rw [(nvmError_sets ..).1, (State.bump_sets ..).1], by rw [(nvmError_sets ..).2, (State.bump_sets ..).2]⟩

theorem sectorErased_current (verified : Bool) (s : State) : (sectorErased verified s).currentSet = s.currentSet := by
  unfold sectorErased
  dsimp only
  (repeat' split) <;> first
  | (refine currentSet_of_slots ?_; simp; done)
  | (rw [afterCommit_current]; rfl)

theorem pageProgramComplete_current (verified : Bool) (s : State) :
    (pageProgramComplete verified s).currentSet = s.currentSet := by
  unfold pageProgramComplete
  (repeat' split) <;> first
  | rfl
  | rw [commitFailed_current]
  | rw [sectorErased_current]
  | (refine currentSet_of_slots ?_; simp; done)

theorem deviceCommand_current (code rc : Nat) (v : Int) (s : State) : (deviceCommand code rc v s).currentSet = s.currentSet := by
  by_cases h : code = Code.commit
  · rw [deviceCommand, if_pos h]
    exact commitWrite_current s
  · rw [deviceCommand, if_neg h]
    refine currentSet_of_slots ?_
    simp

theorem hostWrite_current (q : Path) (o : Obj) (code inst : Nat) (v : Int) (master : Nat) (s : State) :
    (hostWrite q o code inst v master s).currentSet = s.currentSet := by
  unfold hostWrite
  dsimp only
  (repeat' split) <;> first
  | (refine currentSet_of_slots ?_; simp; done)
  | exact deviceCommand_current _ _ _ _
  | (refine (deviceCommand_current _ _ _ _).trans (currentSet_of_slots ?_); simp; done)

theorem writeScalar_current (q : Path) (r : MgmtReq) (o : Obj) (code inst : Nat) (s : State) :
    (writeScalar q r o code inst s).2.currentSet = s.currentSet := by
  unfold writeScalar
  (repeat' split) <;> first
  | (refine currentSet_of_slots ?_; simp; done)
  | exact hostWrite_current _ _ _ _ _ _ _

theorem execute_current (q : Path) (r : MgmtReq) (s : State) : (execute q r s).2.currentSet = s.currentSet := by
  unfold execute
  dsimp only
  (repeat' split) <;> first
  | exact writeScalar_current _ _ _ _ _ _
  | (refine currentSet_of_slots ?_; simp; done)

theorem serve_current (q : Path) (r : MgmtReq) (s : State) : (serve q r s).currentSet = s.currentSet :=
  (currentSet_of_slots (by simp [serve])).trans (execute_current q r s)

theorem admitRequest_current (q : Path) (r : MgmtReq) (s : State) : (admitRequest q r s).currentSet = s.currentSet := by
  unfold admitRequest
  split
  · rfl
  · exact serve_current q r s

theorem request_current (q : Path) (r : MgmtReq) (s : State) : (request q r s).currentSet = s.currentSet := by
  unfold request
  split
  · split
    · exact currentSet_of_slots (by simp; done)
    · exact (admitRequest_current q r _).trans (currentSet_of_slots (by simp; done))
  · dsimp only
    (repeat' split) <;> first
    | (refine currentSet_of_slots ?_; simp; done)
    | exact admitRequest_current q r s
    | (refine (currentSet_of_slots ?_).trans (admitRequest_current q r s); simp; done)

theorem serveAll_current (rs : List (Path × MgmtReq)) (s : State) : (serveAll rs s).currentSet = s.currentSet := by
  induction rs generalizing s with
  | nil => rfl
  | cons e rest ih =>
    unfold serveAll
    split
    · exact (ih _).trans (admitRequest_current e.1 e.2 s)
    · rfl

theorem serveWaiting_current (s : State) : (serveWaiting s).currentSet = s.currentSet :=
  (serveAll_current s.mgmt.waiting _).trans (currentSet_of_slots (by simp; done))

theorem mcResetEnd_current (s : State) : (mcResetEnd s).currentSet = s.currentSet := by
  unfold mcResetEnd
  split
  · exact (serveWaiting_current _).trans (currentSet_of_slots (by simp; done))
  · rfl

theorem spiSend_current (bytes : List Byte) (s : State) : (spiSend bytes s).currentSet = s.currentSet := by
  unfold spiSend
  dsimp only
  split
  · exact (request_current _ _ _).trans (currentSet_of_slots (by simp; done))
  · exact currentSet_of_slots (by simp; done)

theorem spiTransaction_current (bytes : List Byte) (s : State) : (spiTransaction bytes s).currentSet = s.currentSet := by
  unfold spiTransaction
  (repeat' split) <;> first
  | rfl
  | exact spiSend_current _ _
  | (refine currentSet_of_slots ?_; simp; done)

theorem hostFrame_current (l : Link) (f : HostFrame) (s : State) : (hostFrame l f s).currentSet = s.currentSet := by
  unfold hostFrame
  (repeat' split) <;> first
  | rfl
  | exact request_current _ _ _
  | (refine currentSet_of_slots ?_; simp; done)

theorem startIn_current (l : Link) (b : BitVec 64) (s : State) : (startIn l b s).currentSet = s.currentSet := by
  have cut : (match (s.link l).rxFrame with
      | some g => hostFrame l g s
      | none => s).currentSet = s.currentSet := by
    split
    · exact hostFrame_current _ _ _
    · rfl
  unfold startIn
  dsimp only
  split
  · exact (currentSet_of_slots (State.modLink_sets ..)).trans cut
  · exact (hostFrame_current _ _ _).trans ((currentSet_of_slots (State.modLink_sets ..)).trans cut)

theorem blockIn_current (l : Link) (sync : Nat) (b : BitVec 64) (s : State) :
    (blockIn l sync b s).currentSet = s.currentSet := by
  unfold blockIn
  dsimp only
  (repeat' split) <;> first
  | rfl
  | exact startIn_current _ _ _
  | (refine (hostFrame_current _ _ _).trans (currentSet_of_slots ?_); simp; done)
  | (refine currentSet_of_slots ?_; simp; done)

theorem pairIn_current (l : Link) (lane0 lane1 : List Int) (s : State) :
    (pairIn l lane0 lane1 s).currentSet = s.currentSet := by
  unfold pairIn
  dsimp only
  (repeat' split) <;> first
  | rfl
  | (refine ((blockIn_current _ _ _ _).trans (blockIn_current _ _ _ _)).trans (currentSet_of_slots ?_); simp; done)
  | (refine currentSet_of_slots ?_; simp; done)

theorem levelsIn_current (fuel : Nat) (l : Link) (lane0 lane1 : List Int) (s : State) :
    (levelsIn fuel l lane0 lane1 s).currentSet = s.currentSet := by
  induction fuel generalizing lane0 lane1 s with
  | zero => rfl
  | succ n ih =>
    unfold levelsIn
    split
    · rfl
    · exact (ih _ _ _).trans (pairIn_current _ _ _ _)

theorem frameError_current (l : Link) (e : FrameFault) (s : State) : (frameError l e s).currentSet = s.currentSet := by
  unfold frameError
  (repeat' split) <;> first
  | rfl
  | exact hostFrame_current _ _ _
  | exact levelsIn_current _ _ _ _ _
  | (refine currentSet_of_slots ?_; simp; done)

end Sys2Proof.Machine
end

