-- ==== Sys2Proof/Laws/Drive.lean ====
section
/-! SUPPORT. What the device reads back from the blocks that it writes on the drive: the label of a label block, and a
journal block that is valid (R272, R273, R280, R287). -/

namespace Sys2Proof.Machine

theorem leBytes_length (k n : Nat) : (leBytes k n).length = k := by
  induction k generalizing n with
  | zero => rfl
  | succ k ih => simp [leBytes, ih]

/-- A number that fits its bytes reads back from them. -/
theorem leVal_leBytes {k n : Nat} (h : n < 256 ^ k) : leVal (leBytes k n) = n := by
  induction k generalizing n with
  | zero => simp [leBytes, leVal]; omega
  | succ k ih =>
    have h2 : n / 256 < 256 ^ k := by rw [Nat.pow_succ] at h; omega
    simp only [leBytes, leVal, ih h2, byteOf, BitVec.toNat_ofNat]
    omega

/-- A field that starts where a first part ends. -/
theorem leAt_append {h m r : List Byte} {i n : Nat} (hi : h.length = i) (hm : m.length = n) :
    leAt (h ++ (m ++ r)) i n = leVal m := by
  subst hi hm
  simp [leAt]

/-- A field inside a first part does not see what follows. -/
theorem leAt_inside {h r : List Byte} {i n : Nat} (hi : i + n ≤ h.length) : leAt (h ++ r) i n = leAt h i n := by
  unfold leAt
  rw [List.drop_append_of_le_length (by omega), List.take_append_of_le_length (by simp; omega)]

theorem driveCrc_lt (bs : List Byte) : driveCrc bs < 256 ^ 4 := (crc32 (bytesBits bs)).isLt

/-- The CRC of a block written with its CRC reads right (R272). -/
theorem block_crc {h : List Byte} (hl : h.length = 4092) :
    leAt (h ++ leBytes 4 (driveCrc h)) 4092 4 = driveCrc ((h ++ leBytes 4 (driveCrc h)).take 4092) := by
  have e := leAt_append (r := []) hl (leBytes_length 4 (driveCrc h))
  rw [List.append_nil] at e
  rw [e, leVal_leBytes (driveCrc_lt h), List.take_append_of_le_length (by omega), ← hl, List.take_length]

/-- A block of 4,096 bytes that begins with a magic and version 1 and carries its CRC. -/
theorem block_fields {h r : List Byte} {magic : Nat} (hm : magic < 256 ^ 4) (hl : h.length = 4092)
    (hh : h = leBytes 4 magic ++ ([1, 0, 0, 0] ++ r)) :
    leAt (h ++ leBytes 4 (driveCrc h)) 0 4 = magic ∧ leAt (h ++ leBytes 4 (driveCrc h)) 4 1 = 1 ∧
      leAt (h ++ leBytes 4 (driveCrc h)) 4092 4 = driveCrc ((h ++ leBytes 4 (driveCrc h)).take 4092) := by
  refine ⟨?_, ?_, block_crc hl⟩
  · rw [leAt_inside (by omega), hh]
    exact (leAt_append (h := []) rfl (leBytes_length 4 magic)).trans (leVal_leBytes hm)
  · rw [leAt_inside (by omega), hh]
    exact leAt_append (m := [1]) (r := [0, 0, 0] ++ r) (leBytes_length 4 magic) rfl

/-- A label block that the device writes reads as a label of the same device identity (R272, R273). -/
theorem parseLabel_labelBytes {l : Label} (hd : l.deviceId < 256 ^ 8) :
    ∃ x, parseLabel (labelBytes l) = some x ∧ x.deviceId = l.deviceId := by
  unfold labelBytes
  extract_lets h
  obtain ⟨r, hr⟩ : ∃ r, h = (leBytes 4 0x55424C42 ++ [1, 0, 0, 0]) ++ (leBytes 8 l.deviceId ++ r) := by
    refine ⟨?r, ?e⟩
    case e =>
      simp only [h, List.append_assoc]
      rfl
  have hl : h.length = 4092 := by
    simp only [h, List.length_append, leBytes_length, List.length_replicate, List.length_cons, List.length_nil]
  have f := block_fields (h := h) (magic := 0x55424C42) (by decide) hl (by rw [hr, List.append_assoc])
  unfold parseLabel
  rw [if_pos f]
  refine ⟨_, rfl, ?_⟩
  dsimp only
  rw [leAt_inside (by omega), hr, leAt_append (by simp [leBytes_length]) (leBytes_length 8 _), leVal_leBytes hd]

/-- A journal block that the device writes is valid (R280, R287). -/
theorem parseJournal_journalBytes (j : Journal) : (parseJournal (journalBytes j)).isSome = true := by
  unfold journalBytes
  extract_lets ports h
  obtain ⟨r, hr⟩ : ∃ r, h = leBytes 4 0x55424A4E ++ ([1, 0, 0, 0] ++ r) := by
    refine ⟨?r, ?e⟩
    case e =>
      simp only [h, List.append_assoc]
      rfl
  have hp : ports.length = 2304 := by
    simp only [ports, List.length_flatMap, List.length_append, leBytes_length]
    simp
  have hl : h.length = 4092 := by
    simp only [h, List.length_append, leBytes_length, List.length_replicate, List.length_cons, List.length_nil, hp]
  have f := block_fields (h := h) (magic := 0x55424A4E) (by decide) hl hr
  unfold parseJournal
  rw [if_pos f]
  rfl

end Sys2Proof.Machine
end

