-- ==== Sys2Proof/Laws/Fixed.lean ====
section
/-! SUPPORT. What no operation of the block changes: the life-cycle state (R365) and the queue of waiting commands. One lemma
for each function of the model below the commands, but for those that carry a request (Sys2Proof/Laws/LifeCycle.lean). -/

namespace Sys2Proof.Machine

@[simp] theorem ite_lc (c : Prop) [Decidable c] (a b : State) :
    (if c then a else b).lc = if c then a.lc else b.lc := by split <;> rfl
@[simp] theorem ite_pending (c : Prop) [Decidable c] (a b : State) :
    (if c then a else b).pending = if c then a.pending else b.pending := by split <;> rfl

theorem getD_lc {o : Option State} {s u : State} (h : ∀ t, o = some t → t.lc = s.lc) (hu : u.lc = s.lc) :
    (o.getD u).lc = s.lc := by
  cases o with
  | none => exact hu
  | some t => exact h t rfl
theorem getD_pending {o : Option State} {s u : State} (h : ∀ t, o = some t → t.pending = s.pending)
    (hu : u.pending = s.pending) : (o.getD u).pending = s.pending := by
  cases o with
  | none => exact hu
  | some t => exact h t rfl

/-! ## Tables -/

@[simp] theorem forAll_lc (xs : List α) (f : α → State → State) (h : ∀ x t, (f x t).lc = t.lc) (s : State) : (forAll xs f s).lc = s.lc := by
  induction xs generalizing s with
  | nil => rfl
  | cons x xs ih => simp only [forAll, List.foldl_cons] at ih ⊢; rw [ih, h]

@[simp] theorem forAll_pending (xs : List α) (f : α → State → State) (h : ∀ x t, (f x t).pending = t.pending) (s : State) : (forAll xs f s).pending = s.pending := by
  induction xs generalizing s with
  | nil => rfl
  | cons x xs ih => simp only [forAll, List.foldl_cons] at ih ⊢; rw [ih, h]

@[simp] theorem onlyIf_lc (c : Bool) (f : State → State) (s : State) (h : ∀ t, (f t).lc = t.lc) : (onlyIf c f s).lc = s.lc := by unfold onlyIf; split <;> simp [h]

@[simp] theorem onlyIf_pending (c : Bool) (f : State → State) (s : State) (h : ∀ t, (f t).pending = t.pending) : (onlyIf c f s).pending = s.pending := by unfold onlyIf; split <;> simp [h]

/-! ## Ops -/

@[simp] theorem State.setReg_fixed (s : State) (code inst : Nat) (v : Int) :
    (State.setReg s code inst v).lc = s.lc ∧ (State.setReg s code inst v).pending = s.pending := by simp [State.setReg]

@[simp] theorem State.setDom_fixed (s : State) (code inst : Nat) (v : List Byte) :
    (State.setDom s code inst v).lc = s.lc ∧ (State.setDom s code inst v).pending = s.pending := by simp [State.setDom]

@[simp] theorem State.bumpBy_fixed (s : State) (code inst n : Nat) :
    (State.bumpBy s code inst n).lc = s.lc ∧ (State.bumpBy s code inst n).pending = s.pending := by simp [State.bumpBy]

@[simp] theorem State.bump_fixed (s : State) (code inst : Nat) :
    (State.bump s code inst).lc = s.lc ∧ (State.bump s code inst).pending = s.pending := by simp [State.bump]

@[simp] theorem State.draw_fixed (s : State) :
    (State.draw s).2.lc = s.lc ∧ (State.draw s).2.pending = s.pending := by simp [State.draw]

@[simp] theorem State.setPort_fixed (s : State) (p : Nat) (x : PortSt) :
    (State.setPort s p x).lc = s.lc ∧ (State.setPort s p x).pending = s.pending := by simp [State.setPort]

@[simp] theorem State.modPort_fixed (s : State) (p : Nat) (f : PortSt → PortSt) :
    (State.modPort s p f).lc = s.lc ∧ (State.modPort s p f).pending = s.pending := by simp [State.modPort]

@[simp] theorem State.modRx_fixed (s : State) (p : Nat) (f : RxSt → RxSt) :
    (State.modRx s p f).lc = s.lc ∧ (State.modRx s p f).pending = s.pending := by simp [State.modRx]

@[simp] theorem State.modTrunk_fixed (s : State) (p : Nat) (f : TrunkSt → TrunkSt) :
    (State.modTrunk s p f).lc = s.lc ∧ (State.modTrunk s p f).pending = s.pending := by simp [State.modTrunk]

@[simp] theorem State.modTrav_fixed (s : State) (p : Nat) (f : TravSt → TravSt) :
    (State.modTrav s p f).lc = s.lc ∧ (State.modTrav s p f).pending = s.pending := by simp [State.modTrav]

@[simp] theorem State.setCtx_fixed (s : State) (p d : Nat) (x : Ctx) :
    (State.setCtx s p d x).lc = s.lc ∧ (State.setCtx s p d x).pending = s.pending := by simp [State.setCtx]

@[simp] theorem State.modCtx_fixed (s : State) (p d : Nat) (f : Ctx → Ctx) :
    (State.modCtx s p d f).lc = s.lc ∧ (State.modCtx s p d f).pending = s.pending := by simp [State.modCtx]

@[simp] theorem State.setCluster_fixed (s : State) (k : Nat) (x : ClusterSt) :
    (State.setCluster s k x).lc = s.lc ∧ (State.setCluster s k x).pending = s.pending := by simp [State.setCluster]

@[simp] theorem State.modCluster_fixed (s : State) (k : Nat) (f : ClusterSt → ClusterSt) :
    (State.modCluster s k f).lc = s.lc ∧ (State.modCluster s k f).pending = s.pending := by simp [State.modCluster]

@[simp] theorem State.setEngine_fixed (s : State) (e : Nat) (x : EngineSt) :
    (State.setEngine s e x).lc = s.lc ∧ (State.setEngine s e x).pending = s.pending := by simp [State.setEngine]

@[simp] theorem State.modEngine_fixed (s : State) (e : Nat) (f : EngineSt → EngineSt) :
    (State.modEngine s e f).lc = s.lc ∧ (State.modEngine s e f).pending = s.pending := by simp [State.modEngine]

@[simp] theorem State.setLink_fixed (s : State) (l : Link) (x : LinkSt) :
    (State.setLink s l x).lc = s.lc ∧ (State.setLink s l x).pending = s.pending := by unfold State.setLink; (repeat' split) <;> simp

@[simp] theorem State.modLink_fixed (s : State) (l : Link) (f : LinkSt → LinkSt) :
    (State.modLink s l f).lc = s.lc ∧ (State.modLink s l f).pending = s.pending := by simp [State.modLink]

@[simp] theorem State.setPath_fixed (s : State) (q : Path) (x : PathSt) :
    (State.setPath s q x).lc = s.lc ∧ (State.setPath s q x).pending = s.pending := by unfold State.setPath; (repeat' split) <;> simp

@[simp] theorem State.modPath_fixed (s : State) (q : Path) (f : PathSt → PathSt) :
    (State.modPath s q f).lc = s.lc ∧ (State.modPath s q f).pending = s.pending := by simp [State.modPath]

@[simp] theorem State.setSensor_fixed (s : State) (n : Nat) (x : SensorSt) :
    (State.setSensor s n x).lc = s.lc ∧ (State.setSensor s n x).pending = s.pending := by simp [State.setSensor]

@[simp] theorem atPort_lc (p : Nat) (f : State → State) (s : State) (h : ∀ t, (f t).lc = t.lc) : (atPort p f s).lc = s.lc := by unfold atPort; split <;> simp [h]

@[simp] theorem atPort_pending (p : Nat) (f : State → State) (s : State) (h : ∀ t, (f t).pending = t.pending) : (atPort p f s).pending = s.pending := by unfold atPort; split <;> simp [h]

@[simp] theorem atDrop_lc (p d : Nat) (f : State → State) (s : State) (h : ∀ t, (f t).lc = t.lc) : (atDrop p d f s).lc = s.lc := by unfold atDrop; split <;> simp [h]

@[simp] theorem atDrop_pending (p d : Nat) (f : State → State) (s : State) (h : ∀ t, (f t).pending = t.pending) : (atDrop p d f s).pending = s.pending := by unfold atDrop; split <;> simp [h]

@[simp] theorem atCluster_lc (k : Nat) (f : State → State) (s : State) (h : ∀ t, (f t).lc = t.lc) : (atCluster k f s).lc = s.lc := by unfold atCluster; split <;> simp [h]

@[simp] theorem atCluster_pending (k : Nat) (f : State → State) (s : State) (h : ∀ t, (f t).pending = t.pending) : (atCluster k f s).pending = s.pending := by unfold atCluster; split <;> simp [h]

/-! ## Status -/

@[simp] theorem pushStatus_fixed (f : OutFrame) (l : Link) (s : State) :
    (pushStatus f l s).lc = s.lc ∧ (pushStatus f l s).pending = s.pending := by simp [pushStatus]

@[simp] theorem sendStatus_fixed (links : List Link) (kind port drop epoch : Nat) (body : List Byte) (s : State) :
    (sendStatus links kind port drop epoch body s).lc = s.lc ∧ (sendStatus links kind port drop epoch body s).pending = s.pending := by simp [sendStatus]

@[simp] theorem portStatus_fixed (kind port drop epoch : Nat) (body : List Byte) (s : State) :
    (portStatus kind port drop epoch body s).lc = s.lc ∧ (portStatus kind port drop epoch body s).pending = s.pending := by simp [portStatus]

@[simp] theorem deviceStatus_fixed (kind : Nat) (body : List Byte) (s : State) :
    (deviceStatus kind body s).lc = s.lc ∧ (deviceStatus kind body s).pending = s.pending := by simp [deviceStatus]

@[simp] theorem admissionStatus_fixed (p d epoch mode identity caps : Nat) (s : State) :
    (admissionStatus p d epoch mode identity caps s).lc = s.lc ∧ (admissionStatus p d epoch mode identity caps s).pending = s.pending := by simp [admissionStatus]

@[simp] theorem releaseStatus_fixed (p d epoch reason : Nat) (s : State) :
    (releaseStatus p d epoch reason s).lc = s.lc ∧ (releaseStatus p d epoch reason s).pending = s.pending := by simp [releaseStatus]

@[simp] theorem staleStatus_fixed (p d cause frameEpoch epoch : Nat) (s : State) :
    (staleStatus p d cause frameEpoch epoch s).lc = s.lc ∧ (staleStatus p d cause frameEpoch epoch s).pending = s.pending := by simp [staleStatus]

@[simp] theorem discardStatus_fixed (p d cause length : Nat) (s : State) :
    (discardStatus p d cause length s).lc = s.lc ∧ (discardStatus p d cause length s).pending = s.pending := by simp [discardStatus]

@[simp] theorem twinMoveStatus_fixed (src dst d oldEpoch newEpoch reason : Nat) (s : State) :
    (twinMoveStatus src dst d oldEpoch newEpoch reason s).lc = s.lc ∧ (twinMoveStatus src dst d oldEpoch newEpoch reason s).pending = s.pending := by simp [twinMoveStatus]

@[simp] theorem linkEventStatus_fixed (links : List Link) (l : Link) (event : Nat) (s : State) :
    (linkEventStatus links l event s).lc = s.lc ∧ (linkEventStatus links l event s).pending = s.pending := by simp [linkEventStatus]

@[simp] theorem trunkStatus_fixed (p event : Nat) (s : State) :
    (trunkStatus p event s).lc = s.lc ∧ (trunkStatus p event s).pending = s.pending := by simp [trunkStatus]

@[simp] theorem modeStatus_fixed (p d old new : Nat) (s : State) :
    (modeStatus p d old new s).lc = s.lc ∧ (modeStatus p d old new s).pending = s.pending := by simp [modeStatus]

/-! ## Collector -/

@[simp] theorem notice_fixed (o : Occ) (s : State) :
    (notice o s).lc = s.lc ∧ (notice o s).pending = s.pending := by simp [notice]

@[simp] theorem fault_fixed (source : Nat) (key : List Nat) (detail : List (Nat × Nat)) (s : State) :
    (fault source key detail s).lc = s.lc ∧ (fault source key detail s).pending = s.pending := by simp [fault]

@[simp] theorem countOcc_fixed (o : Occ) (s : State) :
    (countOcc o s).lc = s.lc ∧ (countOcc o s).pending = s.pending := by simp [countOcc]

@[simp] theorem stampOcc_fixed (o : Occ) (s : State) :
    (stampOcc o s).lc = s.lc ∧ (stampOcc o s).pending = s.pending := by simp [stampOcc]

@[simp] theorem logFault_fixed (r : FaultRec) (s : State) :
    (logFault r s).lc = s.lc ∧ (logFault r s).pending = s.pending := by simp [logFault]

@[simp] theorem reportFault_fixed (r : FaultRec) (s : State) :
    (reportFault r s).lc = s.lc ∧ (reportFault r s).pending = s.pending := by simp [reportFault]

@[simp] theorem takeRaise_fixed (o : Occ) (fresh : Bool) (s : State) :
    (takeRaise o fresh s).1.lc = s.lc ∧ (takeRaise o fresh s).1.pending = s.pending := by
  simp only [takeRaise, logFault_fixed]; (repeat' split) <;> simp

@[simp] theorem takeRepeat_fixed (o : Occ) (s : State) :
    (takeRepeat o s).lc = s.lc ∧ (takeRepeat o s).pending = s.pending := by simp [takeRepeat]

@[simp] theorem takeAll_fixed (os : List Occ) (fresh : Bool) (s : State) :
    (takeAll os fresh s).1.lc = s.lc ∧ (takeAll os fresh s).1.pending = s.pending := by
  induction os generalizing fresh s with
  | nil => simp [takeAll]
  | cons o rest ih => unfold takeAll; split <;> simp [ih]

@[simp] theorem fatalStop_fixed (s : State) :
    (fatalStop s).lc = s.lc ∧ (fatalStop s).pending = s.pending := by simp [fatalStop]

@[simp] theorem State.forgetAcks_fixed (s : State) :
    (State.forgetAcks s).lc = s.lc ∧ (State.forgetAcks s).pending = s.pending := by simp [State.forgetAcks]

@[simp] theorem collect_fixed (s : State) :
    (collect s).lc = s.lc ∧ (collect s).pending = s.pending := by unfold collect; (repeat' split) <;> simp

@[simp] theorem endCondition_fixed (source : Nat) (key : List Nat) (s : State) :
    (endCondition source key s).lc = s.lc ∧ (endCondition source key s).pending = s.pending := by simp [endCondition]

@[simp] theorem endConditions_fixed (source : Nat) (s : State) :
    (endConditions source s).lc = s.lc ∧ (endConditions source s).pending = s.pending := by simp [endConditions]

@[simp] theorem emitRecords_fixed (rs : List FaultRec) (s : State) :
    (emitRecords rs s).lc = s.lc ∧ (emitRecords rs s).pending = s.pending := by simp [emitRecords]

@[simp] theorem faultAck_fixed (mask : Nat) (s : State) :
    (faultAck mask s).lc = s.lc ∧ (faultAck mask s).pending = s.pending := by simp [faultAck]

@[simp] theorem faultClear_fixed (mask : Nat) (s : State) :
    (faultClear mask s).lc = s.lc ∧ (faultClear mask s).pending = s.pending := by simp [faultClear]

@[simp] theorem fecRearm_fixed (s : State) :
    (fecRearm s).lc = s.lc ∧ (fecRearm s).pending = s.pending := by simp [fecRearm]

/-! ## Memory -/

@[simp] theorem sramCorrected_fixed (mem : Nat) (s : State) :
    (sramCorrected mem s).lc = s.lc ∧ (sramCorrected mem s).pending = s.pending := by simp [sramCorrected]

@[simp] theorem sramCorrectedBy_fixed (mem n : Nat) (s : State) :
    (sramCorrectedBy mem n s).lc = s.lc ∧ (sramCorrectedBy mem n s).pending = s.pending := by simp [sramCorrectedBy]

@[simp] theorem markBad_fixed (mem word : Nat) (s : State) :
    (markBad mem word s).lc = s.lc ∧ (markBad mem word s).pending = s.pending := by simp [markBad]

@[simp] theorem clearBad_fixed (mem word n : Nat) (s : State) :
    (clearBad mem word n s).lc = s.lc ∧ (clearBad mem word n s).pending = s.pending := by simp [clearBad]

@[simp] theorem sramUncorrectable_fixed (mem word access master : Nat) (s : State) :
    (sramUncorrectable mem word access master s).lc = s.lc ∧ (sramUncorrectable mem word access master s).pending = s.pending := by simp [sramUncorrectable]

@[simp] theorem rebuildCtx_fixed (p d : Nat) (words : List Nat) (s : State) :
    (rebuildCtx p d words s).lc = s.lc ∧ (rebuildCtx p d words s).pending = s.pending := by
  unfold rebuildCtx
  split
  · exact ⟨rfl, rfl⟩
  · dsimp only
    refine ⟨?_, ?_⟩
    · rw [forAll_lc _ _ (by intro x t; simp)]
      (repeat' split) <;> (try simp) <;> (rw [forAll_lc _ _ (by intro x t; split <;> simp)])
    · rw [forAll_pending _ _ (by intro x t; simp)]
      (repeat' split) <;> (try simp) <;> (rw [forAll_pending _ _ (by intro x t; split <;> simp)])

@[simp] theorem ctxWordFailed_fixed (word : Nat) (s : State) :
    (ctxWordFailed word s).lc = s.lc ∧ (ctxWordFailed word s).pending = s.pending := by simp [ctxWordFailed]

@[simp] theorem readSum_fixed (p n master : Nat) (acc : List Int) (s : State) :
    (readSum p n master acc s).2.lc = s.lc ∧ (readSum p n master acc s).2.pending = s.pending := by
  have key : ∀ (ws : List Nat) (x : List Int × State) (f : List Int × State → Nat → List Int × State),
      (∀ y w, (f y w).2.lc = y.2.lc ∧ (f y w).2.pending = y.2.pending) →
      (ws.foldl f x).2.lc = x.2.lc ∧ (ws.foldl f x).2.pending = x.2.pending := by
    intro ws
    induction ws with
    | nil => intro x f _; exact ⟨rfl, rfl⟩
    | cons w ws ih =>
      intro x f h
      exact ⟨((ih _ f h).1).trans (h x w).1, ((ih _ f h).2).trans (h x w).2⟩
  unfold readSum
  exact key _ _ _ (fun y w => by simp)

@[simp] theorem bufferWordFailed_fixed (word : Nat) (s : State) :
    (bufferWordFailed word s).lc = s.lc ∧ (bufferWordFailed word s).pending = s.pending := by
  unfold bufferWordFailed
  (try dsimp only)
  (repeat' split) <;> simp

@[simp] theorem bufferWritten_fixed (p : Nat) (s : State) :
    (bufferWritten p s).lc = s.lc ∧ (bufferWritten p s).pending = s.pending := by simp [bufferWritten]

/-! ## Time -/

@[simp] theorem passTicks_fixed (n time64 : Nat) (s : State) :
    (passTicks n time64 s).lc = s.lc ∧ (passTicks n time64 s).pending = s.pending := by simp [passTicks]

@[simp] theorem advanceTo_fixed (t : Nat) (s : State) :
    (advanceTo t s).lc = s.lc ∧ (advanceTo t s).pending = s.pending := by simp [advanceTo]

@[simp] theorem skipTo_fixed (t : Nat) (s : State) :
    (skipTo t s).lc = s.lc ∧ (skipTo t s).pending = s.pending := by simp [skipTo]

@[simp] theorem tickPass_fixed (s : State) :
    (tickPass s).lc = s.lc ∧ (tickPass s).pending = s.pending := by simp [tickPass]

@[simp] theorem settleBound_fixed (s : State) :
    (settleBound s).lc = s.lc ∧ (settleBound s).pending = s.pending := by simp [settleBound]

@[simp] theorem refreshGrade_fixed (s : State) :
    (refreshGrade s).lc = s.lc ∧ (refreshGrade s).pending = s.pending := by simp [refreshGrade]

@[simp] theorem sourceChanged_fixed (s : State) :
    (sourceChanged s).lc = s.lc ∧ (sourceChanged s).pending = s.pending := by simp [sourceChanged]

@[simp] theorem raiseReferenceLoss_fixed (trunk : Bool) (s : State) :
    (raiseReferenceLoss trunk s).lc = s.lc ∧ (raiseReferenceLoss trunk s).pending = s.pending := by simp [raiseReferenceLoss]

@[simp] theorem recheckReference_fixed (s : State) :
    (recheckReference s).lc = s.lc ∧ (recheckReference s).pending = s.pending := by simp [recheckReference]

@[simp] theorem ref10mQualified_fixed (s : State) :
    (ref10mQualified s).lc = s.lc ∧ (ref10mQualified s).pending = s.pending := by simp [ref10mQualified]

@[simp] theorem ref10mDisqualified_fixed (s : State) :
    (ref10mDisqualified s).lc = s.lc ∧ (ref10mDisqualified s).pending = s.pending := by simp [ref10mDisqualified]

@[simp] theorem edgeAbsent_fixed (s : State) :
    (edgeAbsent s).lc = s.lc ∧ (edgeAbsent s).pending = s.pending := by simp [edgeAbsent]

@[simp] theorem learnOffset_fixed (xo : Int) (s : State) :
    (learnOffset xo s).lc = s.lc ∧ (learnOffset xo s).pending = s.pending := by simp [learnOffset]

@[simp] theorem learningComplete_fixed (xo : Int) (s : State) :
    (learningComplete xo s).lc = s.lc ∧ (learningComplete xo s).pending = s.pending := by simp [learningComplete]

@[simp] theorem beginRealign_fixed (s : State) :
    (beginRealign s).lc = s.lc ∧ (beginRealign s).pending = s.pending := by simp [beginRealign]

@[simp] theorem actOnOffset_fixed (ns : Int) (s : State) :
    (actOnOffset ns s).lc = s.lc ∧ (actOnOffset ns s).pending = s.pending := by simp [actOnOffset]

@[simp] theorem startGrid_fixed (t : Nat) (late : Int) (s : State) :
    (startGrid t late s).lc = s.lc ∧ (startGrid t late s).pending = s.pending := by simp [startGrid]

@[simp] theorem acceptedEdge_fixed (edge : Int) (s : State) :
    (acceptedEdge edge s).lc = s.lc ∧ (acceptedEdge edge s).pending = s.pending := by simp [acceptedEdge]

@[simp] theorem ppsEdge_fixed (since : Nat) (edge : Int) (s : State) :
    (ppsEdge since edge s).lc = s.lc ∧ (ppsEdge since edge s).pending = s.pending := by simp [ppsEdge]

@[simp] theorem gradeChange_fixed (s : State) :
    (gradeChange s).lc = s.lc ∧ (gradeChange s).pending = s.pending := by simp [gradeChange]

@[simp] theorem startTimeout_fixed (s : State) :
    (startTimeout s).lc = s.lc ∧ (startTimeout s).pending = s.pending := by simp [startTimeout]

@[simp] theorem epochSet_fixed (v : Nat) (s : State) :
    (epochSet v s).lc = s.lc ∧ (epochSet v s).pending = s.pending := by simp [epochSet]

@[simp] theorem renumber_fixed (old new : Nat) (s : State) :
    (renumber old new s).lc = s.lc ∧ (renumber old new s).pending = s.pending := by simp [renumber]

@[simp] theorem epochApply_fixed (s : State) :
    (epochApply s).lc = s.lc ∧ (epochApply s).pending = s.pending := by unfold epochApply; (repeat' split) <;> simp

@[simp] theorem realignGridStart_fixed (old : Nat) (ns : Int) (s : State) :
    (realignGridStart old ns s).lc = s.lc ∧ (realignGridStart old ns s).pending = s.pending := by simp [realignGridStart]

/-! ## Slots -/

@[simp] theorem State.allTaken_fixed (s : State) (p : Nat) :
    (State.allTaken s p).lc = s.lc ∧ (State.allTaken s p).pending = s.pending := by simp [State.allTaken]

@[simp] theorem queueMsg_fixed (p : Nat) (m : OutMsg) (s : State) :
    (queueMsg p m s).lc = s.lc ∧ (queueMsg p m s).pending = s.pending := by simp [queueMsg]

@[simp] theorem dropMsgs_fixed (p d code : Nat) (s : State) :
    (dropMsgs p d code s).lc = s.lc ∧ (dropMsgs p d code s).pending = s.pending := by simp [dropMsgs]

@[simp] theorem sendSlotMap_fixed (p : Nat) (m : SlotMap) (sl : Slot) (apply fromCycle : Nat) (advance : Int) (s : State) :
    (sendSlotMap p m sl apply fromCycle advance s).lc = s.lc ∧ (sendSlotMap p m sl apply fromCycle advance s).pending = s.pending := by simp [sendSlotMap]

@[simp] theorem announceMap_fixed (p : Nat) (known new : SlotMap) (apply : Nat) (s : State) :
    (announceMap p known new apply s).lc = s.lc ∧ (announceMap p known new apply s).pending = s.pending := by simp [announceMap]

@[simp] theorem installMap_fixed (p : Nat) (m : SlotMap) (apply : Nat) (s : State) :
    (installMap p m apply s).lc = s.lc ∧ (installMap p m apply s).pending = s.pending := by simp [installMap]

@[simp] theorem waitFor_fixed (p d : Nat) (c : Change) (s : State) :
    (waitFor p d c s).lc = s.lc ∧ (waitFor p d c s).pending = s.pending := by simp [waitFor]

@[simp] theorem planGrant_fixed (p d old : Nat) (s : State) :
    (planGrant p d old s).lc = s.lc ∧ (planGrant p d old s).pending = s.pending := by unfold planGrant; (repeat' split) <;> simp

/-! ## Traverse -/

@[simp] theorem latchRun_fixed (p : Nat) (s : State) :
    (latchRun p s).lc = s.lc ∧ (latchRun p s).pending = s.pending := by simp [latchRun]

@[simp] theorem abandonRun_fixed (p : Nat) (s : State) :
    (abandonRun p s).lc = s.lc ∧ (abandonRun p s).pending = s.pending := by unfold abandonRun; (repeat' split) <;> simp

@[simp] theorem calFailed_fixed (p : Nat) (s : State) :
    (calFailed p s).lc = s.lc ∧ (calFailed p s).pending = s.pending := by simp [calFailed]

@[simp] theorem calStops_fixed (p : Nat) (s : State) :
    (calStops p s).lc = s.lc ∧ (calStops p s).pending = s.pending := by simp [calStops]

@[simp] theorem travDisabled_fixed (p : Nat) (s : State) :
    (travDisabled p s).lc = s.lc ∧ (travDisabled p s).pending = s.pending := by simp [travDisabled]

@[simp] theorem beginRun_fixed (p : Nat) (k : RunKind) (s : State) :
    (beginRun p k s).lc = s.lc ∧ (beginRun p k s).pending = s.pending := by simp [beginRun]

@[simp] theorem contribute_fixed (p : Nat) (es : List Echo) (s : State) :
    (contribute p es s).lc = s.lc ∧ (contribute p es s).pending = s.pending := by
  unfold contribute
  split
  · exact ⟨rfl, rfl⟩
  · dsimp only
    split <;> simp

@[simp] theorem endFullRun_fixed (p : Nat) (s : State) :
    (endFullRun p s).lc = s.lc ∧ (endFullRun p s).pending = s.pending := by unfold endFullRun; (repeat' split) <;> simp

@[simp] theorem travDatum_fixed (p second : Nat) (s : State) :
    (travDatum p second s).lc = s.lc ∧ (travDatum p second s).pending = s.pending := by simp [travDatum]

@[simp] theorem leadInResult_fixed (p : Nat) (r : Run) (pts : List Int) (s : State) :
    (leadInResult p r pts s).lc = s.lc ∧ (leadInResult p r pts s).pending = s.pending := by unfold leadInResult; (repeat' split) <;> simp

@[simp] theorem vfResult_fixed (p : Nat) (r : Run) (pts : List Int) (s : State) :
    (vfResult p r pts s).lc = s.lc ∧ (vfResult p r pts s).pending = s.pending := by
  unfold vfResult
  (try dsimp only)
  (repeat' split) <;> simp

@[simp] theorem startCal_fixed (p : Nat) (k : RunKind) (s : State) :
    (startCal p k s).lc = s.lc ∧ (startCal p k s).pending = s.pending := by simp [startCal]

@[simp] theorem dcSpan_fixed (p : Nat) (es : List Echo) (s : State) :
    (dcSpan p es s).lc = s.lc ∧ (dcSpan p es s).pending = s.pending := by simp [dcSpan]

@[simp] theorem dcIdle_fixed (p : Nat) (s : State) :
    (dcIdle p s).lc = s.lc ∧ (dcIdle p s).pending = s.pending := by simp [dcIdle]

@[simp] theorem pairEnd_fixed (p : Nat) (s : State) :
    (pairEnd p s).lc = s.lc ∧ (pairEnd p s).pending = s.pending := by
  unfold pairEnd
  (try dsimp only)
  (repeat' split) <;> simp

@[simp] theorem portDwellEnd_fixed (negative : Bool) (p : Nat) (s : State) :
    (portDwellEnd negative p s).lc = s.lc ∧ (portDwellEnd negative p s).pending = s.pending := by simp [portDwellEnd]

@[simp] theorem insDwellEnd_fixed (k : Nat) (s : State) :
    (insDwellEnd k s).lc = s.lc ∧ (insDwellEnd k s).pending = s.pending := by simp [insDwellEnd]

@[simp] theorem dwellDatum_fixed (k : Nat) (s : State) :
    (dwellDatum k s).lc = s.lc ∧ (dwellDatum k s).pending = s.pending := by simp [dwellDatum]

@[simp] theorem latchPort_fixed (p : Nat) (s : State) :
    (latchPort p s).lc = s.lc ∧ (latchPort p s).pending = s.pending := by simp [latchPort]

/-! ## Cells -/

@[simp] theorem setRange_fixed (p : Nat) (b : Bool) (r : Range) (s : State) :
    (setRange p b r s).lc = s.lc ∧ (setRange p b r s).pending = s.pending := by simp [setRange]

@[simp] theorem State.setCell_fixed (s : State) (i : Nat) (c : Cell) :
    (State.setCell s i c).lc = s.lc ∧ (State.setCell s i c).pending = s.pending := by simp [State.setCell]

@[simp] theorem tidyPool_fixed (s : State) :
    (tidyPool s).lc = s.lc ∧ (tidyPool s).pending = s.pending := by simp [tidyPool]

@[simp] theorem putCells_fixed (r : Range) (cs : Tab Cell) (s : State) :
    (putCells r cs s).lc = s.lc ∧ (putCells r cs s).pending = s.pending := by simp [putCells]

@[simp] theorem setLayout_fixed (p : Nat) (b : Bool) (l : Layout) (s : State) :
    (setLayout p b l s).lc = s.lc ∧ (setLayout p b l s).pending = s.pending := by simp [setLayout]

@[simp] theorem remake_fixed (whole : Bool) (p : Nat) (b : Bool) (l : Layout) (f : Nat → Cell → Cell) (s : State) :
    (remake whole p b l f s).lc = s.lc ∧ (remake whole p b l f s).pending = s.pending := by simp [remake]

@[simp] theorem leaveCap_fixed (i : Nat) (s : State) :
    (leaveCap i s).lc = s.lc ∧ (leaveCap i s).pending = s.pending := by simp [leaveCap]

@[simp] theorem leaveCaps_fixed (r : Range) (keep : Bool) (s : State) :
    (leaveCaps r keep s).lc = s.lc ∧ (leaveCaps r keep s).pending = s.pending := by simp [leaveCaps]

@[simp] theorem setShaped_fixed (p : Nat) (b v : Bool) (s : State) :
    (setShaped p b v s).lc = s.lc ∧ (setShaped p b v s).pending = s.pending := by simp [setShaped]

@[simp] theorem rebuildCell_fixed (i : Nat) (s : State) :
    (rebuildCell i s).lc = s.lc ∧ (rebuildCell i s).pending = s.pending := by unfold rebuildCell; (repeat' split) <;> simp

@[simp] theorem cellReadError_fixed (i master : Nat) (s : State) :
    (cellReadError i master s).lc = s.lc ∧ (cellReadError i master s).pending = s.pending := by simp [cellReadError]

@[simp] theorem mendRange_fixed (r : Range) (master : Nat) (s : State) :
    (mendRange r master s).lc = s.lc ∧ (mendRange r master s).pending = s.pending := by simp [mendRange]

@[simp] theorem layoutRange_fixed (p : Nat) (b keep : Bool) (n second : Nat) (s0 : State) :
    (layoutRange p b keep n second s0).lc = s0.lc ∧ (layoutRange p b keep n second s0).pending = s0.pending := by simp [layoutRange]

@[simp] theorem resetRange_fixed (p : Nat) (b : Bool) (second : Nat) (s0 : State) :
    (resetRange p b second s0).lc = s0.lc ∧ (resetRange p b second s0).pending = s0.pending := by simp [resetRange]

@[simp] theorem takeRange_fixed (p : Nat) (b : Bool) (s : State) :
    (takeRange p b s).lc = s.lc ∧ (takeRange p b s).pending = s.pending := by simp [takeRange]

@[simp] theorem takeRanges_fixed (p : Nat) (s : State) :
    (takeRanges p s).lc = s.lc ∧ (takeRanges p s).pending = s.pending := by simp [takeRanges]

@[simp] theorem rangeAccepted_fixed (p : Nat) (b : Bool) (s : State) :
    (rangeAccepted p b s).lc = s.lc ∧ (rangeAccepted p b s).pending = s.pending := by simp [rangeAccepted]

@[simp] theorem cellLayoutWrite_fixed (p v : Nat) (s : State) :
    (cellLayoutWrite p v s).lc = s.lc ∧ (cellLayoutWrite p v s).pending = s.pending := by simp [cellLayoutWrite]

@[simp] theorem updateCell_fixed (p : Nat) (b : Bool) (pts : List Int) (nValid second i : Nat) (c : Cell) (s : State) :
    (updateCell p b pts nValid second i c s).1.lc = s.lc ∧ (updateCell p b pts nValid second i c s).1.pending = s.pending := by
  unfold updateCell
  (try dsimp only)
  (repeat' split) <;> simp

@[simp] theorem updateEach_lc (f : Nat → Cell → State → State × Cell × List CellChange) (h : ∀ i c t, (f i c t).1.lc = t.lc)
    (cs : Tab Cell) (s : State) : (updateEach f cs s).1.lc = s.lc := by
  induction cs generalizing s with
  | nil => rfl
  | cons e rest ih => simp only [updateEach]; rw [ih, h]

@[simp] theorem updateEach_pending (f : Nat → Cell → State → State × Cell × List CellChange) (h : ∀ i c t, (f i c t).1.pending = t.pending)
    (cs : Tab Cell) (s : State) : (updateEach f cs s).1.pending = s.pending := by
  induction cs generalizing s with
  | nil => rfl
  | cons e rest ih => simp only [updateEach]; rw [ih, h]

@[simp] theorem rebench_fixed (p : Nat) (s0 : State) :
    (rebench p s0).lc = s0.lc ∧ (rebench p s0).pending = s0.pending := by simp [rebench]

@[simp] theorem updateRange_fixed (p : Nat) (b : Bool) (pts : List Int) (nValid second : Nat) (s : State) :
    (updateRange p b pts nValid second s).1.lc = s.lc ∧ (updateRange p b pts nValid second s).1.pending = s.pending := by simp [updateRange]

@[simp] theorem updateCells_fixed (p : Nat) (pts : List Int) (nValid time : Nat) (s : State) :
    (updateCells p pts nValid time s).1.lc = s.lc ∧ (updateCells p pts nValid time s).1.pending = s.pending := by simp [updateCells]

@[simp] theorem sendReport_fixed (r : Report) (s : State) :
    (sendReport r s).lc = s.lc ∧ (sendReport r s).pending = s.pending := by simp [sendReport]

@[simp] theorem reportChanges_fixed (p eff nValid time : Nat) (oneHalf : Bool) (pts : List Int) (cs : List CellChange) (s : State) :
    (reportChanges p eff nValid time oneHalf pts cs s).lc = s.lc ∧ (reportChanges p eff nValid time oneHalf pts cs s).pending = s.pending := by
  unfold reportChanges
  (try dsimp only)
  (repeat' split) <;> simp

@[simp] theorem cellReport_fixed (i p old flags : Nat) (s : State) :
    (cellReport i p old flags s).lc = s.lc ∧ (cellReport i p old flags s).pending = s.pending := by simp [cellReport]

@[simp] theorem reloadMended_fixed (p n benchTime : Nat) (s : State) :
    (reloadMended p n benchTime s).lc = s.lc ∧ (reloadMended p n benchTime s).pending = s.pending := by simp [reloadMended]

@[simp] theorem reloadCells_fixed (p n benchTime : Nat) (s : State) :
    (reloadCells p n benchTime s).lc = s.lc ∧ (reloadCells p n benchTime s).pending = s.pending := by simp [reloadCells]

@[simp] theorem snapSoon_fixed (s : State) :
    (snapSoon s).lc = s.lc ∧ (snapSoon s).pending = s.pending := by simp [snapSoon]

@[simp] theorem hostWrote_fixed (i p old : Nat) (s : State) :
    (hostWrote i p old s).lc = s.lc ∧ (hostWrote i p old s).pending = s.pending := by simp [hostWrote]

@[simp] theorem writeCellState_fixed (i p v : Nat) (s : State) :
    (writeCellState i p v s).lc = s.lc ∧ (writeCellState i p v s).pending = s.pending := by simp [writeCellState]

@[simp] theorem writeCellBand_fixed (i p : Nat) (b : Bool) (start width : Nat) (s : State) :
    (writeCellBand i p b start width s).lc = s.lc ∧ (writeCellBand i p b start width s).pending = s.pending := by simp [writeCellBand]

@[simp] theorem writeCellField_fixed (i : Nat) (f : Cell → Cell) (s : State) :
    (writeCellField i f s).lc = s.lc ∧ (writeCellField i f s).pending = s.pending := by simp [writeCellField]

/-! ## Archive -/

@[simp] theorem State.modArch_fixed (s : State) (f : ArchSt → ArchSt) :
    (State.modArch s f).lc = s.lc ∧ (State.modArch s f).pending = s.pending := by simp [State.modArch]

@[simp] theorem findsLost_fixed (s : State) :
    (findsLost s).lc = s.lc ∧ (findsLost s).pending = s.pending := by simp [findsLost]

@[simp] theorem setArch_fixed (st reason : Nat) (s : State) :
    (setArch st reason s).lc = s.lc ∧ (setArch st reason s).pending = s.pending := by simp [setArch]

@[simp] theorem issueAdmin_fixed (cs : List AdminCmd) (s : State) :
    (issueAdmin cs s).lc = s.lc ∧ (issueAdmin cs s).pending = s.pending := by simp [issueAdmin]

@[simp] theorem issue_fixed (pair : Nat) (job : NvmeJob) (s : State) :
    (issue pair job s).lc = s.lc ∧ (issue pair job s).pending = s.pending := by unfold issue; (repeat' split) <;> simp

@[simp] theorem issueNext_fixed (pair : Nat) (s : State) :
    (issueNext pair s).lc = s.lc ∧ (issueNext pair s).pending = s.pending := by unfold issueNext; (repeat' split) <;> simp

@[simp] theorem startReclaim_fixed (tier : Nat) (s : State) :
    (startReclaim tier s).lc = s.lc ∧ (startReclaim tier s).pending = s.pending := by simp [startReclaim]

@[simp] theorem writeRecord_fixed (r : Rec) (s : State) :
    (writeRecord r s).lc = s.lc ∧ (writeRecord r s).pending = s.pending := by
  unfold writeRecord
  (try dsimp only)
  (repeat' split) <;> simp

@[simp] theorem startRoutine_fixed (p : Nat) (r : Rec) (s : State) :
    (startRoutine p r s).lc = s.lc ∧ (startRoutine p r s).pending = s.pending := by simp [startRoutine]

@[simp] theorem archiveRoutine_fixed (p : Nat) (r : Rec) (s : State) :
    (archiveRoutine p r s).lc = s.lc ∧ (archiveRoutine p r s).pending = s.pending := by simp [archiveRoutine]

@[simp] theorem archiveBench_fixed (p : Nat) (r : Rec) (s : State) :
    (archiveBench p r s).lc = s.lc ∧ (archiveBench p r s).pending = s.pending := by simp [archiveBench]

@[simp] theorem archiveAlarm_fixed (p : Nat) (r : Rec) (s : State) :
    (archiveAlarm p r s).lc = s.lc ∧ (archiveAlarm p r s).pending = s.pending := by simp [archiveAlarm]

@[simp] theorem holdupCheck_fixed (commit : Bool) (microVolt : Nat) (s : State) :
    (holdupCheck commit microVolt s).2.lc = s.lc ∧ (holdupCheck commit microVolt s).2.pending = s.pending := by
  unfold holdupCheck
  (try dsimp only)
  (repeat' split) <;> simp

@[simp] theorem archiveCommit_fixed (microVolt : Nat) (s : State) :
    (archiveCommit microVolt s).lc = s.lc ∧ (archiveCommit microVolt s).pending = s.pending := by simp [archiveCommit]

@[simp] theorem recordDone_fixed (r : Rec) (s : State) :
    (recordDone r s).lc = s.lc ∧ (recordDone r s).pending = s.pending := by
  unfold recordDone
  (try dsimp only)
  (repeat' split) <;> simp

@[simp] theorem restorePort_fixed (p : Nat) (s : State) :
    (restorePort p s).lc = s.lc ∧ (restorePort p s).pending = s.pending := by
  unfold restorePort
  (try dsimp only)
  (repeat' split) <;> simp

@[simp] theorem reseatPort_fixed (p : Nat) (s : State) :
    (reseatPort p s).lc = s.lc ∧ (reseatPort p s).pending = s.pending := by simp [reseatPort]

@[simp] theorem enterService_fixed (s : State) :
    (enterService s).lc = s.lc ∧ (enterService s).pending = s.pending := by simp [enterService]

@[simp] theorem keepBlock_fixed (b : Nat) (bs : List Byte) (s : State) :
    (keepBlock b bs s).lc = s.lc ∧ (keepBlock b bs s).pending = s.pending := by simp [keepBlock]

@[simp] theorem commitDone_fixed (j : Journal) (s : State) :
    (commitDone j s).lc = s.lc ∧ (commitDone j s).pending = s.pending := by
  unfold commitDone
  (try dsimp only)
  (repeat' split) <;> simp

@[simp] theorem snapPieceDone_fixed (s : State) :
    (snapPieceDone s).lc = s.lc ∧ (snapPieceDone s).pending = s.pending := by simp [snapPieceDone]

@[simp] theorem snapDone_fixed (s : State) :
    (snapDone s).lc = s.lc ∧ (snapDone s).pending = s.pending := by unfold snapDone; (repeat' split) <;> simp

@[simp] theorem zeroDone_fixed (first : Nat) (s : State) :
    (zeroDone first s).lc = s.lc ∧ (zeroDone first s).pending = s.pending := by simp [zeroDone]

@[simp] theorem labelsDone_fixed (l : Label) (s : State) :
    (labelsDone l s).lc = s.lc ∧ (labelsDone l s).pending = s.pending := by simp [labelsDone]

@[simp] theorem jobDone_fixed (j : NvmeJob) (s : State) :
    (jobDone j s).lc = s.lc ∧ (jobDone j s).pending = s.pending := by unfold jobDone; (repeat' split) <;> simp

@[simp] theorem retire_fixed (c : NvmeCmd) (s : State) :
    (retire c s).lc = s.lc ∧ (retire c s).pending = s.pending := by simp [retire]

@[simp] theorem abandonArchive_fixed (s : State) :
    (abandonArchive s).lc = s.lc ∧ (abandonArchive s).pending = s.pending := by simp [abandonArchive]

@[simp] theorem driveLinkLost_fixed (s : State) :
    (driveLinkLost s).lc = s.lc ∧ (driveLinkLost s).pending = s.pending := by simp [driveLinkLost]

@[simp] theorem controllerReset_fixed (fatal : Bool) (s : State) :
    (controllerReset fatal s).lc = s.lc ∧ (controllerReset fatal s).pending = s.pending := by simp [controllerReset]

@[simp] theorem beginFormat_fixed (s : State) :
    (beginFormat s).lc = s.lc ∧ (beginFormat s).pending = s.pending := by simp [beginFormat]

@[simp] theorem recoverArchive_fixed (l : Label) (slot : Nat) (j : Journal) (s : State) :
    (recoverArchive l slot j s).lc = s.lc ∧ (recoverArchive l slot j s).pending = s.pending := by simp [recoverArchive]

@[simp] theorem readForeign_fixed (l : Label) (s : State) :
    (readForeign l s).lc = s.lc ∧ (readForeign l s).pending = s.pending := by simp [readForeign]

@[simp] theorem archiveBringUp_fixed (d : DriveInfo) (s : State) :
    (archiveBringUp d s).lc = s.lc ∧ (archiveBringUp d s).pending = s.pending := by
  unfold archiveBringUp
  (try dsimp only)
  (repeat' split) <;> simp

@[simp] theorem adoptDrive_fixed (s : State) :
    (adoptDrive s).lc = s.lc ∧ (adoptDrive s).pending = s.pending := by unfold adoptDrive; (repeat' split) <;> simp

@[simp] theorem archEnable_fixed (on : Bool) (s : State) :
    (archEnable on s).lc = s.lc ∧ (archEnable on s).pending = s.pending := by simp [archEnable]

@[simp] theorem mendPool_fixed (s : State) :
    (mendPool s).lc = s.lc ∧ (mendPool s).pending = s.pending := by simp [mendPool]

@[simp] theorem takeSnapshot_fixed (s : State) :
    (takeSnapshot s).lc = s.lc ∧ (takeSnapshot s).pending = s.pending := by simp [takeSnapshot]

@[simp] theorem smartPoll_fixed (temp : Int) (wear warn : Nat) (s : State) :
    (smartPoll temp wear warn s).lc = s.lc ∧ (smartPoll temp wear warn s).pending = s.pending := by simp [smartPoll]

@[simp] theorem startFind_fixed (q : Path) (s : State) :
    (startFind q s).lc = s.lc ∧ (startFind q s).pending = s.pending := by simp [startFind]

@[simp] theorem findComplete_fixed (q : Path) (s : State) :
    (findComplete q s).lc = s.lc ∧ (findComplete q s).pending = s.pending := by unfold findComplete; (repeat' split) <;> simp

/-! ## Nvm -/

@[simp] theorem nvmError_fixed (op page : Nat) (s : State) :
    (nvmError op page s).lc = s.lc ∧ (nvmError op page s).pending = s.pending := by simp [nvmError]

@[simp] theorem pageCheck_fixed (s : State) :
    (pageCheck s).2.lc = s.lc ∧ (pageCheck s).2.pending = s.pending := by simp [pageCheck]

@[simp] theorem nvmStartWith_lc (check : State → Bool × State) (h : ∀ t, (check t).2.lc = t.lc) (s : State) :
    (nvmStartWith check s).lc = s.lc := by
  unfold nvmStartWith; dsimp only; (repeat' split) <;> simp [h]

@[simp] theorem nvmStartWith_pending (check : State → Bool × State) (h : ∀ t, (check t).2.pending = t.pending) (s : State) :
    (nvmStartWith check s).pending = s.pending := by
  unfold nvmStartWith; dsimp only; (repeat' split) <;> simp [h]

@[simp] theorem nvmStart_fixed (s : State) :
    (nvmStart s).lc = s.lc ∧ (nvmStart s).pending = s.pending := by simp [nvmStart]

@[simp] theorem logRepair_fixed (kind unit spare : Nat) (s : State) :
    (logRepair kind unit spare s).lc = s.lc ∧ (logRepair kind unit spare s).pending = s.pending := by simp [logRepair]

@[simp] theorem eraseOther_fixed (s : State) :
    (eraseOther s).lc = s.lc ∧ (eraseOther s).pending = s.pending := by simp [eraseOther]

@[simp] theorem startCommit_fixed (s : State) :
    (startCommit s).lc = s.lc ∧ (startCommit s).pending = s.pending := by simp [startCommit]

@[simp] theorem commitWrite_fixed (s : State) :
    (commitWrite s).lc = s.lc ∧ (commitWrite s).pending = s.pending := by simp [commitWrite]

@[simp] theorem afterCommit_fixed (s : State) :
    (afterCommit s).lc = s.lc ∧ (afterCommit s).pending = s.pending := by simp [afterCommit]

@[simp] theorem commitFailed_fixed (page : Nat) (s : State) :
    (commitFailed page s).lc = s.lc ∧ (commitFailed page s).pending = s.pending := by simp [commitFailed]

@[simp] theorem setCurrent_fixed (c : CommitSet) (s : State) :
    (setCurrent c s).lc = s.lc ∧ (setCurrent c s).pending = s.pending := by simp [setCurrent]

@[simp] theorem commitSetCurrent_fixed (nvmOk : Bool) (s : State) :
    (commitSetCurrent nvmOk s).lc = s.lc ∧ (commitSetCurrent nvmOk s).pending = s.pending := by unfold commitSetCurrent; (repeat' split) <;> simp

@[simp] theorem repairLogged_fixed (e : Repair) (s : State) :
    (repairLogged e s).lc = s.lc ∧ (repairLogged e s).pending = s.pending := by simp [repairLogged]

@[simp] theorem State.setBank_fixed (s : State) (b : Nat) (x : Bank) :
    (State.setBank s b x).lc = s.lc ∧ (State.setBank s b x).pending = s.pending := by simp [State.setBank]

@[simp] theorem State.modBank_fixed (s : State) (b : Nat) (f : Bank → Bank) :
    (State.modBank s b f).lc = s.lc ∧ (State.modBank s b f).pending = s.pending := by simp [State.modBank]

@[simp] theorem updateFailed_fixed (s : State) :
    (updateFailed s).lc = s.lc ∧ (updateFailed s).pending = s.pending := by simp [updateFailed]

@[simp] theorem fwPageDone_fixed (verified : Bool) (s : State) :
    (fwPageDone verified s).lc = s.lc ∧ (fwPageDone verified s).pending = s.pending := by unfold fwPageDone; (repeat' split) <;> simp

@[simp] theorem sectorErased_fixed (verified : Bool) (s : State) :
    (sectorErased verified s).lc = s.lc ∧ (sectorErased verified s).pending = s.pending := by unfold sectorErased; (repeat' split) <;> simp

@[simp] theorem pageProgramComplete_fixed (verified : Bool) (s : State) :
    (pageProgramComplete verified s).lc = s.lc ∧ (pageProgramComplete verified s).pending = s.pending := by unfold pageProgramComplete; (repeat' split) <;> simp

@[simp] theorem fwPageStart_fixed (microVolt : Nat) (s : State) :
    (fwPageStart microVolt s).lc = s.lc ∧ (fwPageStart microVolt s).pending = s.pending := by simp [fwPageStart]

@[simp] theorem nvmRetry_fixed (microVolt : Nat) (s : State) :
    (nvmRetry microVolt s).lc = s.lc ∧ (nvmRetry microVolt s).pending = s.pending := by simp [nvmRetry]

@[simp] theorem holdupRetry_fixed (commitStore : Bool) (microVolt : Nat) (s : State) :
    (holdupRetry commitStore microVolt s).lc = s.lc ∧ (holdupRetry commitStore microVolt s).pending = s.pending := by simp [holdupRetry]

/-! ## Complete -/

@[simp] theorem offerTrace_fixed (p : Nat) (r : Run) (t : Trace) (s : State) :
    (offerTrace p r t s).lc = s.lc ∧ (offerTrace p r t s).pending = s.pending := by simp [offerTrace]

@[simp] theorem takeBench_fixed (p : Nat) (r : Run) (t : Trace) (ts : List (Run × Trace)) (s : State) :
    (takeBench p r t ts s).lc = s.lc ∧ (takeBench p r t ts s).pending = s.pending := by simp [takeBench]

@[simp] theorem countCapture_fixed (p : Nat) (r : Run) (t : Trace) (s : State) :
    (countCapture p r t s).lc = s.lc ∧ (countCapture p r t s).pending = s.pending := by unfold countCapture; (repeat' split) <;> simp

@[simp] theorem endCapture_fixed (p : Nat) (s : State) :
    (endCapture p s).lc = s.lc ∧ (endCapture p s).pending = s.pending := by
  unfold endCapture
  (try dsimp only)
  (repeat' split) <;> simp

theorem runToComplete_fixed (s : State) (p : Nat) (x : Run × State) (h : s.runToComplete p = some x) :
    x.2.lc = s.lc ∧ x.2.pending = s.pending := by
  unfold State.runToComplete at h
  dsimp only at h
  (repeat' split at h) <;> first | (cases h; simp) | cases h

@[simp] theorem underRun_lc (p : Nat) (r : Run) (f : State → State) (h : ∀ t, (f t).lc = t.lc) (s : State) :
    (underRun p r f s).lc = s.lc := by simp [underRun, h]

@[simp] theorem underRun_pending (p : Nat) (r : Run) (f : State → State) (h : ∀ t, (f t).pending = t.pending) (s : State) :
    (underRun p r f s).pending = s.pending := by simp [underRun, h]

@[simp] theorem completeRun_fixed (p : Nat) (r0 : Run) (s0 : State) :
    (completeRun p r0 s0).lc = s0.lc ∧ (completeRun p r0 s0).pending = s0.pending := by
  unfold completeRun
  (try dsimp only)
  (repeat' split) <;> simp

@[simp] theorem traceComplete_fixed (p : Nat) (s : State) :
    (traceComplete p s).lc = s.lc ∧ (traceComplete p s).pending = s.pending := by
  unfold traceComplete
  split
  · exact ⟨rfl, rfl⟩
  · rename_i r t h
    have h0 : t.lc = s.lc ∧ t.pending = s.pending := runToComplete_fixed _ _ _ h
    simp [h0.1, h0.2]

@[simp] theorem traverseCycle_fixed (p : Nat) (es : List Echo) (s : State) :
    (traverseCycle p es s).lc = s.lc ∧ (traverseCycle p es s).pending = s.pending := by
  unfold traverseCycle
  (try dsimp only)
  (repeat' split) <;> simp

@[simp] theorem startCapture_fixed (p : Nat) (s : State) :
    (startCapture p s).lc = s.lc ∧ (startCapture p s).pending = s.pending := by simp [startCapture]

/-! ## Arq -/

@[simp] theorem ackPoint_fixed (p d a : Nat) (s : State) :
    (ackPoint p d a s).lc = s.lc ∧ (ackPoint p d a s).pending = s.pending := by simp [ackPoint]

@[simp] theorem ackOutside_fixed (p d : Nat) (h : RxHeader) (s : State) :
    (ackOutside p d h s).lc = s.lc ∧ (ackOutside p d h s).pending = s.pending := by simp [ackOutside]

@[simp] theorem missedPoint_fixed (p d : Nat) (s : State) :
    (missedPoint p d s).lc = s.lc ∧ (missedPoint p d s).pending = s.pending := by simp [missedPoint]

@[simp] theorem takeSeq_fixed (p d seq : Nat) (s : State) :
    (takeSeq p d seq s).1.lc = s.lc ∧ (takeSeq p d seq s).1.pending = s.pending := by simp [takeSeq]

@[simp] theorem composeAck_fixed (p d : Nat) (s : State) :
    (composeAck p d s).lc = s.lc ∧ (composeAck p d s).pending = s.pending := by simp [composeAck]

@[simp] theorem pushData_fixed (f : OutFrame) (l : Link) (s : State) :
    (pushData f l s).lc = s.lc ∧ (pushData f l s).pending = s.pending := by simp [pushData]

@[simp] theorem frameToHost_fixed (p d epoch : Nat) (payload : List Byte) (s : State) :
    (frameToHost p d epoch payload s).lc = s.lc ∧ (frameToHost p d epoch payload s).pending = s.pending := by simp [frameToHost]

@[simp] theorem deliverUp_fixed (p d : Nat) (payload : List Byte) (s : State) :
    (deliverUp p d payload s).lc = s.lc ∧ (deliverUp p d payload s).pending = s.pending := by simp [deliverUp]

@[simp] theorem restartSeq_fixed (p d : Nat) (s : State) :
    (restartSeq p d s).lc = s.lc ∧ (restartSeq p d s).pending = s.pending := by simp [restartSeq]

@[simp] theorem purgeQueue_fixed (p d newEpoch : Nat) (s : State) :
    (purgeQueue p d newEpoch s).lc = s.lc ∧ (purgeQueue p d newEpoch s).pending = s.pending := by simp [purgeQueue]

@[simp] theorem queueOnce_fixed (p d : Nat) (bytes : List Byte) (s : State) :
    (queueOnce p d bytes s).lc = s.lc ∧ (queueOnce p d bytes s).pending = s.pending := by simp [queueOnce]

/-! ## Levelling -/

@[simp] theorem changeMode_fixed (p d mode atten : Nat) (s : State) :
    (changeMode p d mode atten s).lc = s.lc ∧ (changeMode p d mode atten s).pending = s.pending := by unfold changeMode; (repeat' split) <;> simp

@[simp] theorem putRun_fixed (p : Nat) (r : LevelRun) (s : State) :
    (putRun p r s).lc = s.lc ∧ (putRun p r s).pending = s.pending := by simp [putRun]

@[simp] theorem endRun_fixed (p d : Nat) (s : State) :
    (endRun p d s).lc = s.lc ∧ (endRun p d s).pending = s.pending := by simp [endRun]

@[simp] theorem requestSounding_fixed (p length : Nat) (r : LevelRun) (s : State) :
    (requestSounding p length r s).lc = s.lc ∧ (requestSounding p length r s).pending = s.pending := by simp [requestSounding]

@[simp] theorem decideRun_fixed (p : Nat) (r : LevelRun) (s : State) :
    (decideRun p r s).lc = s.lc ∧ (decideRun p r s).pending = s.pending := by simp [decideRun]

@[simp] theorem goOn_fixed (fuel p b : Nat) (r : LevelRun) (s : State) :
    (goOn fuel p b r s).lc = s.lc ∧ (goOn fuel p b r s).pending = s.pending := by
  induction fuel generalizing b r with
  | zero => simp [goOn]
  | succ n ih => simp only [goOn]; (repeat' split) <;> simp [ih]

@[simp] theorem serveRuns_fixed (fuel p : Nat) (s : State) :
    (serveRuns fuel p s).lc = s.lc ∧ (serveRuns fuel p s).pending = s.pending := by
  induction fuel generalizing s with
  | zero => exact ⟨rfl, rfl⟩
  | succ f ih =>
    unfold serveRuns
    split
    · exact ⟨rfl, rfl⟩
    · split
      · rw [(ih _).1, (ih _).2]; simp
      · exact ⟨rfl, rfl⟩

@[simp] theorem startLevelling_fixed (p d : Nat) (s : State) :
    (startLevelling p d s).lc = s.lc ∧ (startLevelling p d s).pending = s.pending := by simp [startLevelling]

@[simp] theorem startDeferrable_fixed (p d : Nat) (s : State) :
    (startDeferrable p d s).lc = s.lc ∧ (startDeferrable p d s).pending = s.pending := by simp [startDeferrable]

@[simp] theorem startDeferred_fixed (s : State) :
    (startDeferred s).lc = s.lc ∧ (startDeferred s).pending = s.pending := by simp [startDeferred]

@[simp] theorem soundResult_fixed (p : Nat) (r : LevelRun) (snr : Nat) (peak : Int) (s : State) :
    (soundResult p r snr peak s).lc = s.lc ∧ (soundResult p r snr peak s).pending = s.pending := by simp [soundResult]

@[simp] theorem soundMissed_fixed (p : Nat) (r : LevelRun) (s : State) :
    (soundMissed p r s).lc = s.lc ∧ (soundMissed p r s).pending = s.pending := by simp [soundMissed]

@[simp] theorem takeUpSound_fixed (p d snr : Nat) (arrival : Int) (s : State) :
    (takeUpSound p d snr arrival s).lc = s.lc ∧ (takeUpSound p d snr arrival s).pending = s.pending := by unfold takeUpSound; (repeat' split) <;> simp

@[simp] theorem soundReport_fixed (p d : Nat) (m : List Byte) (s : State) :
    (soundReport p d m s).lc = s.lc ∧ (soundReport p d m s).pending = s.pending := by unfold soundReport; (repeat' split) <;> simp

@[simp] theorem soundMiss_fixed (p d : Nat) (s : State) :
    (soundMiss p d s).lc = s.lc ∧ (soundMiss p d s).pending = s.pending := by unfold soundMiss; (repeat' split) <;> simp

@[simp] theorem levelIntervalExpiry_fixed (p d : Nat) (s : State) :
    (levelIntervalExpiry p d s).lc = s.lc ∧ (levelIntervalExpiry p d s).pending = s.pending := by simp [levelIntervalExpiry]

@[simp] theorem modeConfirm_fixed (p d : Nat) (m : List Byte) (s : State) :
    (modeConfirm p d m s).lc = s.lc ∧ (modeConfirm p d m s).pending = s.pending := by simp [modeConfirm]

@[simp] theorem restorePlan_fixed (p : Nat) (s : State) :
    (restorePlan p s).lc = s.lc ∧ (restorePlan p s).pending = s.pending := by unfold restorePlan; (repeat' split) <;> simp

@[simp] theorem remap_fixed (p d : Nat) (c : Change) (s : State) :
    (remap p d c s).lc = s.lc ∧ (remap p d c s).pending = s.pending := by unfold remap; (repeat' split) <;> simp

@[simp] theorem modeApply_fixed (p d : Nat) (s : State) :
    (modeApply p d s).lc = s.lc ∧ (modeApply p d s).pending = s.pending := by simp [modeApply]

@[simp] theorem modeRevert_fixed (p d : Nat) (s : State) :
    (modeRevert p d s).lc = s.lc ∧ (modeRevert p d s).pending = s.pending := by simp [modeRevert]

/-! ## Receiver -/

@[simp] theorem leaveSlot_fixed (p : Nat) (s : State) :
    (leaveSlot p s).lc = s.lc ∧ (leaveSlot p s).pending = s.pending := by simp [leaveSlot]

@[simp] theorem countDrop_fixed (p d portCode dropCode : Nat) (s : State) :
    (countDrop p d portCode dropCode s).lc = s.lc ∧ (countDrop p d portCode dropCode s).pending = s.pending := by simp [countDrop]

@[simp] theorem readContext_fixed (p d : Nat) (errors : List (Nat × Ecc)) (s : State) :
    (readContext p d errors s).1.lc = s.lc ∧ (readContext p d errors s).1.pending = s.pending := by simp [readContext]

@[simp] theorem startTiming_fixed (p : Nat) (owner : Option Nat) (s : State) :
    (startTiming p owner s).lc = s.lc ∧ (startTiming p owner s).pending = s.pending := by unfold startTiming; (repeat' split) <;> simp

@[simp] theorem openContention_fixed (p : Nat) (s : State) :
    (openContention p s).lc = s.lc ∧ (openContention p s).pending = s.pending := by
  unfold openContention
  split
  · dsimp only
    split <;> simp
  · split <;> simp

@[simp] theorem syncWindow_fixed (p : Nat) (s : State) :
    (syncWindow p s).lc = s.lc ∧ (syncWindow p s).pending = s.pending := by
  unfold syncWindow
  (try dsimp only)
  (repeat' split) <;> simp

@[simp] theorem activate_fixed (p d : Nat) (s : State) :
    (activate p d s).lc = s.lc ∧ (activate p d s).pending = s.pending := by simp [activate]

@[simp] theorem settleRx_fixed (p : Nat) (next : RxState) (s : State) :
    (settleRx p next s).lc = s.lc ∧ (settleRx p next s).pending = s.pending := by
  unfold settleRx
  (try dsimp only)
  (repeat' split) <;> simp

@[simp] theorem countRx_fixed (p portCode dropCode : Nat) (s : State) :
    (countRx p portCode dropCode s).lc = s.lc ∧ (countRx p portCode dropCode s).pending = s.pending := by unfold countRx; (repeat' split) <;> simp

@[simp] theorem backToSearch_fixed (p : Nat) (s : State) :
    (backToSearch p s).lc = s.lc ∧ (backToSearch p s).pending = s.pending := by simp [backToSearch]

@[simp] theorem contextLoad_fixed (p d : Nat) (errors : List (Nat × Ecc)) (s : State) :
    (contextLoad p d errors s).lc = s.lc ∧ (contextLoad p d errors s).pending = s.pending := by unfold contextLoad; (repeat' split) <;> simp

@[simp] theorem endRecovery_fixed (p : Nat) (over0 over1 : Bool) (s : State) :
    (endRecovery p over0 over1 s).lc = s.lc ∧ (endRecovery p over0 over1 s).pending = s.pending := by simp [endRecovery]

@[simp] theorem energyDetect_fixed (p : Nat) (symbol0 symbol1 : List Int) (s0 : State) :
    (energyDetect p symbol0 symbol1 s0).lc = s0.lc ∧ (energyDetect p symbol0 symbol1 s0).pending = s0.pending := by simp [energyDetect]

@[simp] theorem preambleDetect_fixed (p : Nat) (decisions : BitVec 16) (agcConverged : Bool) (s : State) :
    (preambleDetect p decisions agcConverged s).lc = s.lc ∧ (preambleDetect p decisions agcConverged s).pending = s.pending := by unfold preambleDetect; (repeat' split) <;> simp

@[simp] theorem noiseEvent_fixed (p : Nat) (s : State) :
    (noiseEvent p s).lc = s.lc ∧ (noiseEvent p s).pending = s.pending := by simp [noiseEvent]

@[simp] theorem falseDetection_fixed (p : Nat) (s : State) :
    (falseDetection p s).lc = s.lc ∧ (falseDetection p s).pending = s.pending := by simp [falseDetection]

@[simp] theorem syncDetect_fixed (p : Nat) (w : BitVec 32) (symbols : List (List Int)) (s : State) :
    (syncDetect p w symbols s).lc = s.lc ∧ (syncDetect p w symbols s).pending = s.pending := by simp [syncDetect]

@[simp] theorem slotTrespass_fixed (p owner field : Nat) (s : State) :
    (slotTrespass p owner field s).lc = s.lc ∧ (slotTrespass p owner field s).pending = s.pending := by simp [slotTrespass]

@[simp] theorem acceptHeader_fixed (p : Nat) (h : RxHeader) (s : State) :
    (acceptHeader p h s).lc = s.lc ∧ (acceptHeader p h s).pending = s.pending := by simp [acceptHeader]

@[simp] theorem headerCheck_fixed (p : Nat) (bits : BitVec 64) (s : State) :
    (headerCheck p bits s).lc = s.lc ∧ (headerCheck p bits s).pending = s.pending := by unfold headerCheck; (repeat' split) <;> simp

@[simp] theorem collisionAbort_fixed (p : Nat) (symbols : List (List Int)) (s : State) :
    (collisionAbort p symbols s).lc = s.lc ∧ (collisionAbort p symbols s).pending = s.pending := by simp [collisionAbort]

@[simp] theorem recoveryPeriodEnd_fixed (p : Nat) (symbol0 symbol1 : List Int) (s : State) :
    (recoveryPeriodEnd p symbol0 symbol1 s).lc = s.lc ∧ (recoveryPeriodEnd p symbol0 symbol1 s).pending = s.pending := by simp [recoveryPeriodEnd]

@[simp] theorem overrun_fixed (p : Nat) (s : State) :
    (overrun p s).lc = s.lc ∧ (overrun p s).pending = s.pending := by
  unfold overrun
  (try dsimp only)
  (repeat' split) <;> simp

@[simp] theorem keepTaps_fixed (p d : Nat) (m : EqFields) (s : State) :
    (keepTaps p d m s).lc = s.lc ∧ (keepTaps p d m s).pending = s.pending := by simp [keepTaps]

@[simp] theorem writeBack_fixed (p d : Nat) (m : EqFields) (s : State) :
    (writeBack p d m s).lc = s.lc ∧ (writeBack p d m s).pending = s.pending := by simp [writeBack]

@[simp] theorem writeBackIf_fixed (p d typ : Nat) (m : EqFields) (s : State) :
    (writeBackIf p d typ m s).lc = s.lc ∧ (writeBackIf p d typ m s).pending = s.pending := by simp [writeBackIf]

@[simp] theorem noteArrival_fixed (p d : Nat) (arrival : Int) (s : State) :
    (noteArrival p d arrival s).lc = s.lc ∧ (noteArrival p d arrival s).pending = s.pending := by simp [noteArrival]

@[simp] theorem heldTiming_fixed (p : Nat) (m : EqFields) (s : State) :
    (heldTiming p m s).lc = s.lc ∧ (heldTiming p m s).pending = s.pending := by simp [heldTiming]

@[simp] theorem rangingTrim_fixed (p d : Nat) (s : State) :
    (rangingTrim p d s).lc = s.lc ∧ (rangingTrim p d s).pending = s.pending := by
  unfold rangingTrim
  (try dsimp only)
  (repeat' split) <;> simp

@[simp] theorem takeAck_fixed (p d : Nat) (h : RxHeader) (s : State) :
    (takeAck p d h s).lc = s.lc ∧ (takeAck p d h s).pending = s.pending := by simp [takeAck]

@[simp] theorem heard_fixed (p d : Nat) (s : State) :
    (heard p d s).lc = s.lc ∧ (heard p d s).pending = s.pending := by simp [heard]

@[simp] theorem goodSlot_fixed (p d : Nat) (h : RxHeader) (payload : List Byte) (m : EqFields) (s : State) :
    (goodSlot p d h payload m s).lc = s.lc ∧ (goodSlot p d h payload m s).pending = s.pending := by simp [goodSlot]

@[simp] theorem staleBurst_fixed (p d : Nat) (h : RxHeader) (s : State) :
    (staleBurst p d h s).lc = s.lc ∧ (staleBurst p d h s).pending = s.pending := by simp [staleBurst]

@[simp] theorem endInSlot_fixed (p d : Nat) (h : RxHeader) (payload : List Byte) (m : EqFields) (s : State) :
    (endInSlot p d h payload m s).lc = s.lc ∧ (endInSlot p d h payload m s).pending = s.pending := by simp [endInSlot]

@[simp] theorem endInSounding_fixed (p d : Nat) (h : RxHeader) (payload : List Byte) (m : EqFields) (s : State) :
    (endInSounding p d h payload m s).lc = s.lc ∧ (endInSounding p d h payload m s).pending = s.pending := by simp [endInSounding]

@[simp] theorem endInContention_fixed (p : Nat) (h : RxHeader) (payload : List Byte) (m : EqFields) (s : State) :
    (endInContention p h payload m s).lc = s.lc ∧ (endInContention p h payload m s).pending = s.pending := by simp [endInContention]

@[simp] theorem burstEnd_fixed (p : Nat) (levels : List Nat) (m : RxMeasure) (s : State) :
    (burstEnd p levels m s).lc = s.lc ∧ (burstEnd p levels m s).pending = s.pending := by
  unfold burstEnd
  (try dsimp only)
  (repeat' split) <;> simp

@[simp] theorem countEmpty_fixed (p d : Nat) (s : State) :
    (countEmpty p d s).lc = s.lc ∧ (countEmpty p d s).pending = s.pending := by simp [countEmpty]

@[simp] theorem emptySlot_fixed (p : Nat) (s : State) :
    (emptySlot p s).lc = s.lc ∧ (emptySlot p s).pending = s.pending := by
  unfold emptySlot
  (try dsimp only)
  (repeat' split) <;> simp

@[simp] theorem outOfSlot_fixed (p : Nat) (period0 period1 : List Int) (s0 : State) :
    (outOfSlot p period0 period1 s0).lc = s0.lc ∧ (outOfSlot p period0 period1 s0).pending = s0.pending := by simp [outOfSlot]

@[simp] theorem eqResetDrop_fixed (p d : Nat) (s : State) :
    (eqResetDrop p d s).lc = s.lc ∧ (eqResetDrop p d s).pending = s.pending := by simp [eqResetDrop]

@[simp] theorem keptExpiry_fixed (p identity : Nat) (s : State) :
    (keptExpiry p identity s).lc = s.lc ∧ (keptExpiry p identity s).pending = s.pending := by simp [keptExpiry]

/-! ## Admission -/

@[simp] theorem clearDropCounters_fixed (p d : Nat) (s : State) :
    (clearDropCounters p d s).lc = s.lc ∧ (clearDropCounters p d s).pending = s.pending := by simp [clearDropCounters]

@[simp] theorem freeCtx_fixed (p d epoch : Nat) (s : State) :
    (freeCtx p d epoch s).lc = s.lc ∧ (freeCtx p d epoch s).pending = s.pending := by simp [freeCtx]

@[simp] theorem sameEpoch_fixed (p d epoch : Nat) (s : State) :
    (sameEpoch p d epoch s).lc = s.lc ∧ (sameEpoch p d epoch s).pending = s.pending := by unfold sameEpoch; (repeat' split) <;> simp

@[simp] theorem freeStandby_fixed (p d epoch : Nat) (s : State) :
    (freeStandby p d epoch s).lc = s.lc ∧ (freeStandby p d epoch s).pending = s.pending := by unfold freeStandby; (repeat' split) <;> simp

@[simp] theorem makeStandby_fixed (p d : Nat) (s : State) :
    (makeStandby p d s).lc = s.lc ∧ (makeStandby p d s).pending = s.pending := by unfold makeStandby; (repeat' split) <;> simp

@[simp] theorem nameAdmission_fixed (p d ans : Nat) (repeated : Bool) (s : State) :
    (nameAdmission p d ans repeated s).lc = s.lc ∧ (nameAdmission p d ans repeated s).pending = s.pending := by unfold nameAdmission; (repeat' split) <;> simp

@[simp] theorem adoptKept_fixed (p d id : Nat) (s : State) :
    (adoptKept p d id s).lc = s.lc ∧ (adoptKept p d id s).pending = s.pending := by unfold adoptKept; (repeat' split) <;> simp

@[simp] theorem enterAdmitting_fixed (p d epoch : Nat) (a : Answer) (s : State) :
    (enterAdmitting p d epoch a s).lc = s.lc ∧ (enterAdmitting p d epoch a s).pending = s.pending := by simp [enterAdmitting]

@[simp] theorem epochHolds_fixed (p d : Nat) (s : State) :
    (epochHolds p d s).lc = s.lc ∧ (epochHolds p d s).pending = s.pending := by
  unfold epochHolds
  (try dsimp only)
  (repeat' split) <;> simp

theorem tryAdmit_fixed (p d epoch : Nat) (a : Answer) (s t : State) (h : tryAdmit p d epoch a s = some t) :
    t.lc = s.lc ∧ t.pending = s.pending := by
  unfold tryAdmit at h
  dsimp only at h
  (repeat' split at h) <;> first | (cases h; simp) | cases h

@[simp] theorem decideAnswer_fixed (p : Nat) (a : Answer) (s : State) :
    (decideAnswer p a s).lc = s.lc ∧ (decideAnswer p a s).pending = s.pending := by
  unfold decideAnswer
  dsimp only
  (repeat' split) <;> try (simp; done)
  all_goals first
  | (rename_i t h; have := tryAdmit_fixed _ _ _ _ _ _ h; simpa using this)
  | exact ⟨getD_lc (fun t h => (tryAdmit_fixed _ _ _ _ _ _ h).1) (by simp),
      getD_pending (fun t h => (tryAdmit_fixed _ _ _ _ _ _ h).2) (by simp)⟩

@[simp] theorem admission_fixed (p : Nat) (s : State) :
    (admission p s).lc = s.lc ∧ (admission p s).pending = s.pending := by unfold admission; (repeat' split) <;> simp

@[simp] theorem rollAnswer_fixed (p : Nat) (m : List Byte) (arrival rxAmpl : Int) (s : State) :
    (rollAnswer p m arrival rxAmpl s).lc = s.lc ∧ (rollAnswer p m arrival rxAmpl s).pending = s.pending := by simp [rollAnswer]

@[simp] theorem admitMissed_fixed (p d : Nat) (s : State) :
    (admitMissed p d s).lc = s.lc ∧ (admitMissed p d s).pending = s.pending := by
  unfold admitMissed
  (try dsimp only)
  (repeat' split) <;> simp

@[simp] theorem announceLate_fixed (p d : Nat) (s : State) :
    (announceLate p d s).lc = s.lc ∧ (announceLate p d s).pending = s.pending := by unfold announceLate; (repeat' split) <;> simp

@[simp] theorem admitConfirm_fixed (p d : Nat) (m : List Byte) (s : State) :
    (admitConfirm p d m s).lc = s.lc ∧ (admitConfirm p d m s).pending = s.pending := by
  unfold admitConfirm
  (try dsimp only)
  (repeat' split) <;> simp

@[simp] theorem admitTaken_fixed (p : Nat) (s : State) :
    (admitTaken p s).lc = s.lc ∧ (admitTaken p s).pending = s.pending := by unfold admitTaken; (repeat' split) <;> simp

@[simp] theorem rollOpened_fixed (p : Nat) (s : State) :
    (rollOpened p s).lc = s.lc ∧ (rollOpened p s).pending = s.pending := by simp [rollOpened]

@[simp] theorem rollCloseExpiry_fixed (p : Nat) (s : State) :
    (rollCloseExpiry p s).lc = s.lc ∧ (rollCloseExpiry p s).pending = s.pending := by simp [rollCloseExpiry]

@[simp] theorem rollHoldEnd_fixed (p : Nat) (s : State) :
    (rollHoldEnd p s).lc = s.lc ∧ (rollHoldEnd p s).pending = s.pending := by simp [rollHoldEnd]

@[simp] theorem keepaliveAck_fixed (p d : Nat) (s : State) :
    (keepaliveAck p d s).lc = s.lc ∧ (keepaliveAck p d s).pending = s.pending := by simp [keepaliveAck]

/-! ## Twin -/

@[simp] theorem releaseNow_fixed (p d reason : Nat) (s : State) :
    (releaseNow p d reason s).lc = s.lc ∧ (releaseNow p d reason s).pending = s.pending := by simp [releaseNow]

@[simp] theorem beginRelease_fixed (p d reason : Nat) (s : State) :
    (beginRelease p d reason s).lc = s.lc ∧ (beginRelease p d reason s).pending = s.pending := by
  unfold beginRelease
  (try dsimp only)
  (repeat' split) <;> simp

@[simp] theorem releaseDrop_fixed (p d : Nat) (s : State) :
    (releaseDrop p d s).lc = s.lc ∧ (releaseDrop p d s).pending = s.pending := by simp [releaseDrop]

@[simp] theorem releaseFromCycle_fixed (p d : Nat) (s : State) :
    (releaseFromCycle p d s).lc = s.lc ∧ (releaseFromCycle p d s).pending = s.pending := by unfold releaseFromCycle; (repeat' split) <;> simp

@[simp] theorem sleepDrop_fixed (p d : Nat) (s : State) :
    (sleepDrop p d s).lc = s.lc ∧ (sleepDrop p d s).pending = s.pending := by
  unfold sleepDrop
  (try dsimp only)
  (repeat' split) <;> simp

@[simp] theorem deepSleepFromCycle_fixed (p d : Nat) (s : State) :
    (deepSleepFromCycle p d s).lc = s.lc ∧ (deepSleepFromCycle p d s).pending = s.pending := by unfold deepSleepFromCycle; (repeat' split) <;> simp

@[simp] theorem setWakeBit_fixed (p d : Nat) (s : State) :
    (setWakeBit p d s).lc = s.lc ∧ (setWakeBit p d s).pending = s.pending := by simp [setWakeBit]

@[simp] theorem wakeDrop_fixed (p d : Nat) (s : State) :
    (wakeDrop p d s).lc = s.lc ∧ (wakeDrop p d s).pending = s.pending := by simp [wakeDrop]

@[simp] theorem tellWaking_fixed (p d : Nat) (m : SlotMap) (apply from_ : Nat) (s : State) :
    (tellWaking p d m apply from_ s).lc = s.lc ∧ (tellWaking p d m apply from_ s).pending = s.pending := by
  unfold tellWaking
  (try dsimp only)
  (repeat' split) <;> simp

@[simp] theorem wakeSlotMapStart_fixed (p d : Nat) (s : State) :
    (wakeSlotMapStart p d s).lc = s.lc ∧ (wakeSlotMapStart p d s).pending = s.pending := by
  unfold wakeSlotMapStart
  (try dsimp only)
  (repeat' split) <;> simp

@[simp] theorem wakeMiss_fixed (p d : Nat) (s : State) :
    (wakeMiss p d s).lc = s.lc ∧ (wakeMiss p d s).pending = s.pending := by
  unfold wakeMiss
  (try dsimp only)
  (repeat' split) <;> simp

@[simp] theorem wakeApplies_fixed (p d : Nat) (s : State) :
    (wakeApplies p d s).lc = s.lc ∧ (wakeApplies p d s).pending = s.pending := by simp [wakeApplies]

@[simp] theorem abandonAdmissions_fixed (p : Nat) (s : State) :
    (abandonAdmissions p s).lc = s.lc ∧ (abandonAdmissions p s).pending = s.pending := by simp [abandonAdmissions]

@[simp] theorem sendTwinMove_fixed (q p d apply : Nat) (m : SlotMap) (s : State) :
    (sendTwinMove q p d apply m s).lc = s.lc ∧ (sendTwinMove q p d apply m s).pending = s.pending := by unfold sendTwinMove; (repeat' split) <;> simp

@[simp] theorem startMove_fixed (p q reason apply : Nat) (m : SlotMap) (drops : List Nat) (s : State) :
    (startMove p q reason apply m drops s).lc = s.lc ∧ (startMove p q reason apply m drops s).pending = s.pending := by simp [startMove]

@[simp] theorem cancelMove_fixed (q : Nat) (s : State) :
    (cancelMove q s).lc = s.lc ∧ (cancelMove q s).pending = s.pending := by unfold cancelMove; (repeat' split) <;> simp

@[simp] theorem failover_fixed (p reason : Nat) (only : Option Nat) (s : State) :
    (failover p reason only s).lc = s.lc ∧ (failover p reason only s).pending = s.pending := by
  unfold failover
  (try dsimp only)
  (repeat' split) <;> simp

@[simp] theorem survivorLost_fixed (q : Nat) (s : State) :
    (survivorLost q s).lc = s.lc ∧ (survivorLost q s).pending = s.pending := by unfold survivorLost; (repeat' split) <;> simp

@[simp] theorem twinLossExpiry_fixed (p : Nat) (s : State) :
    (twinLossExpiry p s).lc = s.lc ∧ (twinLossExpiry p s).pending = s.pending := by simp [twinLossExpiry]

@[simp] theorem dropMoveExpiry_fixed (p d : Nat) (s : State) :
    (dropMoveExpiry p d s).lc = s.lc ∧ (dropMoveExpiry p d s).pending = s.pending := by simp [dropMoveExpiry]

@[simp] theorem dropLost_fixed (p d : Nat) (s : State) :
    (dropLost p d s).lc = s.lc ∧ (dropLost p d s).pending = s.pending := by simp [dropLost]

@[simp] theorem moveDrop_fixed (p q reason d : Nat) (s : State) :
    (moveDrop p q reason d s).lc = s.lc ∧ (moveDrop p q reason d s).pending = s.pending := by simp [moveDrop]

@[simp] theorem settleTwinState_fixed (p q reason : Nat) (s : State) :
    (settleTwinState p q reason s).lc = s.lc ∧ (settleTwinState p q reason s).pending = s.pending := by simp [settleTwinState]

@[simp] theorem takeMap_fixed (p : Nat) (m : SlotMap) (s : State) :
    (takeMap p m s).lc = s.lc ∧ (takeMap p m s).pending = s.pending := by simp [takeMap]

@[simp] theorem twinReturnDrops_fixed (p : Nat) (s : State) :
    (twinReturnDrops p s).lc = s.lc ∧ (twinReturnDrops p s).pending = s.pending := by
  unfold twinReturnDrops
  (try dsimp only)
  (repeat' split) <;> simp

@[simp] theorem takeChange_fixed (p d : Nat) (c : Change) (s : State) :
    (takeChange p d c s).lc = s.lc ∧ (takeChange p d c s).pending = s.pending := by unfold takeChange; (repeat' split) <;> simp

@[simp] theorem takeWaiting_fixed (p : Nat) (s : State) :
    (takeWaiting p s).lc = s.lc ∧ (takeWaiting p s).pending = s.pending := by
  unfold takeWaiting
  (try dsimp only)
  (repeat' split) <;> (refine ⟨?_, ?_⟩) <;> first
  | (simp; done)
  | (rw [forAll_lc _ _ (by intro x t; (repeat' split) <;> simp)]; (repeat' split) <;> simp)
  | (rw [forAll_pending _ _ (by intro x t; (repeat' split) <;> simp)]; (repeat' split) <;> simp)

@[simp] theorem twinMoveApply_fixed (q : Nat) (s : State) :
    (twinMoveApply q s).lc = s.lc ∧ (twinMoveApply q s).pending = s.pending := by unfold twinMoveApply; (repeat' split) <;> simp

@[simp] theorem standbyCheck_fixed (q d : Nat) (s : State) :
    (standbyCheck q d s).lc = s.lc ∧ (standbyCheck q d s).pending = s.pending := by
  unfold standbyCheck
  (try dsimp only)
  (repeat' split) <;> simp

@[simp] theorem raiseEpochs_fixed (p : Nat) (s : State) :
    (raiseEpochs p s).lc = s.lc ∧ (raiseEpochs p s).pending = s.pending := by simp [raiseEpochs]

@[simp] theorem endPair_fixed (p q : Nat) (s : State) :
    (endPair p q s).lc = s.lc ∧ (endPair p q s).pending = s.pending := by simp [endPair]

@[simp] theorem pairEpoch_fixed (p q d : Nat) (s : State) :
    (pairEpoch p q d s).lc = s.lc ∧ (pairEpoch p q d s).pending = s.pending := by simp [pairEpoch]

@[simp] theorem formPair_fixed (p q : Nat) (s : State) :
    (formPair p q s).lc = s.lc ∧ (formPair p q s).pending = s.pending := by simp [formPair]

@[simp] theorem endTwins_fixed (p q : Nat) (s : State) :
    (endTwins p q s).lc = s.lc ∧ (endTwins p q s).pending = s.pending := by simp [endTwins]

@[simp] theorem withTwinChange_lc (p : Nat) (change : State → State) (h : ∀ t, (change t).lc = t.lc) (s : State) :
    (withTwinChange p change s).lc = s.lc := by
  unfold withTwinChange; dsimp only; (repeat' split) <;> simp [h]

@[simp] theorem withTwinChange_pending (p : Nat) (change : State → State) (h : ∀ t, (change t).pending = t.pending) (s : State) :
    (withTwinChange p change s).pending = s.pending := by
  unfold withTwinChange; dsimp only; (repeat' split) <;> simp [h]

@[simp] theorem withTwinChanges_lc (change : State → State) (h : ∀ t, (change t).lc = t.lc) (s : State) :
    (withTwinChanges change s).lc = s.lc := by simp [withTwinChanges, h]

@[simp] theorem withTwinChanges_pending (change : State → State) (h : ∀ t, (change t).pending = t.pending) (s : State) :
    (withTwinChanges change s).pending = s.pending := by simp [withTwinChanges, h]

@[simp] theorem slotMapApply_fixed (p : Nat) (s : State) :
    (slotMapApply p s).lc = s.lc ∧ (slotMapApply p s).pending = s.pending := by
  unfold slotMapApply
  dsimp only
  split
  all_goals
    refine ⟨?_, ?_⟩
    · simp only [ite_lc, takeWaiting_fixed, ite_self]
      rw [forAll_lc _ _ (by intro d t; (repeat' split) <;> simp)]
      (try (repeat' split) <;> simp)
    · simp only [ite_pending, takeWaiting_fixed, ite_self]
      rw [forAll_pending _ _ (by intro d t; (repeat' split) <;> simp)]
      (try (repeat' split) <;> simp)

/-! ## Trunk -/

@[simp] theorem putTrain_fixed (p stop : Nat) (frames : List Burst) (s : State) :
    (putTrain p stop frames s).lc = s.lc ∧ (putTrain p stop frames s).pending = s.pending := by simp [putTrain]

@[simp] theorem sendTraining_fixed (p stop start : Nat) (message : List Byte) (s : State) :
    (sendTraining p stop start message s).lc = s.lc ∧ (sendTraining p stop start message s).pending = s.pending := by simp [sendTraining]

@[simp] theorem appendFrame_fixed (p mode : Nat) (payload : List Byte) (s : State) :
    (appendFrame p mode payload s).lc = s.lc ∧ (appendFrame p mode payload s).pending = s.pending := by
  unfold appendFrame
  (try dsimp only)
  (repeat' split) <;> simp

@[simp] theorem sendDataTrain_fixed (p : Nat) (s : State) :
    (sendDataTrain p s).lc = s.lc ∧ (sendDataTrain p s).pending = s.pending := by simp [sendDataTrain]

@[simp] theorem trunkIdle_fixed (p : Nat) (s : State) :
    (trunkIdle p s).lc = s.lc ∧ (trunkIdle p s).pending = s.pending := by simp [trunkIdle]

@[simp] theorem trainFail_fixed (p : Nat) (s : State) :
    (trainFail p s).lc = s.lc ∧ (trainFail p s).pending = s.pending := by simp [trainFail]

@[simp] theorem attemptEnds_fixed (p : Nat) (s : State) :
    (attemptEnds p s).lc = s.lc ∧ (attemptEnds p s).pending = s.pending := by simp [attemptEnds]

@[simp] theorem sourceLost_fixed (p : Nat) (s : State) :
    (sourceLost p s).lc = s.lc ∧ (sourceLost p s).pending = s.pending := by simp [sourceLost]

@[simp] theorem moveTraffic_fixed (src dst reason : Nat) (s : State) :
    (moveTraffic src dst reason s).lc = s.lc ∧ (moveTraffic src dst reason s).pending = s.pending := by simp [moveTraffic]

@[simp] theorem lossMove_fixed (p reason : Nat) (s : State) :
    (lossMove p reason s).lc = s.lc ∧ (lossMove p reason s).pending = s.pending := by unfold lossMove; (repeat' split) <;> simp

@[simp] theorem voidChange_fixed (p : Nat) (s : State) :
    (voidChange p s).lc = s.lc ∧ (voidChange p s).pending = s.pending := by unfold voidChange; (repeat' split) <;> simp

@[simp] theorem trunkLost_fixed (p reason : Nat) (s : State) :
    (trunkLost p reason s).lc = s.lc ∧ (trunkLost p reason s).pending = s.pending := by simp [trunkLost]

@[simp] theorem headPhaseE_fixed (p : Nat) (s : State) :
    (headPhaseE p s).lc = s.lc ∧ (headPhaseE p s).pending = s.pending := by simp [headPhaseE]

@[simp] theorem partnerPhaseE_fixed (p : Nat) (s : State) :
    (partnerPhaseE p s).lc = s.lc ∧ (partnerPhaseE p s).pending = s.pending := by
  unfold partnerPhaseE
  (try dsimp only)
  (repeat' split) <;> simp

@[simp] theorem phaseQCycle_fixed (p q : Nat) (s : State) :
    (phaseQCycle p q s).lc = s.lc ∧ (phaseQCycle p q s).pending = s.pending := by unfold phaseQCycle; (repeat' split) <;> simp

@[simp] theorem enterData_fixed (p : Nat) (s : State) :
    (enterData p s).lc = s.lc ∧ (enterData p s).pending = s.pending := by simp [enterData]

@[simp] theorem countLow_fixed (p : Nat) (s : State) :
    (countLow p s).lc = s.lc ∧ (countLow p s).pending = s.pending := by simp [countLow]

@[simp] theorem unmarked_fixed (p : Nat) (fs : List TrunkFrame) (s : State) :
    (unmarked p fs s).lc = s.lc ∧ (unmarked p fs s).pending = s.pending := by simp [unmarked]

@[simp] theorem retrainDown_fixed (p : Nat) (s : State) :
    (retrainDown p s).lc = s.lc ∧ (retrainDown p s).pending = s.pending := by simp [retrainDown]

@[simp] theorem headNumbering_fixed (p : Nat) (s : State) :
    (headNumbering p s).lc = s.lc ∧ (headNumbering p s).pending = s.pending := by unfold headNumbering; (repeat' split) <;> simp

@[simp] theorem sendDown_fixed (p r : Nat) (s : State) :
    (sendDown p r s).lc = s.lc ∧ (sendDown p r s).pending = s.pending := by simp [sendDown]

@[simp] theorem dataCycle_fixed (p : Nat) (s : State) :
    (dataCycle p s).lc = s.lc ∧ (dataCycle p s).pending = s.pending := by simp [dataCycle]

@[simp] theorem trunkCycle_fixed (p : Nat) (s : State) :
    (trunkCycle p s).lc = s.lc ∧ (trunkCycle p s).pending = s.pending := by
  unfold trunkCycle
  (try dsimp only)
  (repeat' split) <;> simp

@[simp] theorem openTraining_fixed (p : Nat) (s : State) :
    (openTraining p s).lc = s.lc ∧ (openTraining p s).pending = s.pending := by simp [openTraining]

@[simp] theorem trainingStart_fixed (p : Nat) (s : State) :
    (trainingStart p s).lc = s.lc ∧ (trainingStart p s).pending = s.pending := by simp [trainingStart]

@[simp] theorem retrainPort_fixed (p : Nat) (s : State) :
    (retrainPort p s).lc = s.lc ∧ (retrainPort p s).pending = s.pending := by simp [retrainPort]

@[simp] theorem trunkLeaves_fixed (p : Nat) (s : State) :
    (trunkLeaves p s).lc = s.lc ∧ (trunkLeaves p s).pending = s.pending := by simp [trunkLeaves]

@[simp] theorem partnerMeasure_fixed (p : Nat) (aH aP : Int) (msgCycle : Nat) (s : State) :
    (partnerMeasure p aH aP msgCycle s).lc = s.lc ∧ (partnerMeasure p aH aP msgCycle s).pending = s.pending := by simp [partnerMeasure]

@[simp] theorem headTrain_fixed (p : Nat) (m : TrainMsg) (arrival : Int) (snr : Nat) (s : State) :
    (headTrain p m arrival snr s).lc = s.lc ∧ (headTrain p m arrival snr s).pending = s.pending := by simp [headTrain]

@[simp] theorem partnerTrain_fixed (p : Nat) (m : TrainMsg) (arrival : Int) (snr : Nat) (s : State) :
    (partnerTrain p m arrival snr s).lc = s.lc ∧ (partnerTrain p m arrival snr s).pending = s.pending := by unfold partnerTrain; (repeat' split) <;> simp

@[simp] theorem ownTrain_fixed (p : Nat) (own : List (List Int × Int)) (s : State) :
    (ownTrain p own s).lc = s.lc ∧ (ownTrain p own s).pending = s.pending := by simp [ownTrain]

@[simp] theorem trunkTrain_fixed (p : Nat) (bytes : List Byte) (arrival : Int) (snr : Nat) (own : List (List Int × Int)) (s : State) :
    (trunkTrain p bytes arrival snr own s).lc = s.lc ∧ (trunkTrain p bytes arrival snr own s).pending = s.pending := by unfold trunkTrain; (repeat' split) <;> simp

@[simp] theorem phaseETimeout_fixed (p : Nat) (s : State) :
    (phaseETimeout p s).lc = s.lc ∧ (phaseETimeout p s).pending = s.pending := by simp [phaseETimeout]

@[simp] theorem trunkTrainEnd_fixed (p count : Nat) (s : State) :
    (trunkTrainEnd p count s).lc = s.lc ∧ (trunkTrainEnd p count s).pending = s.pending := by simp [trunkTrainEnd]

@[simp] theorem takeMarker_fixed (p : Nat) (m : List Byte) (s : State) :
    (takeMarker p m s).lc = s.lc ∧ (takeMarker p m s).pending = s.pending := by simp [takeMarker]

@[simp] theorem trunkTime_fixed (p : Nat) (m : List Byte) (arrival : Int) (crcOk : Bool) (s : State) :
    (trunkTime p m arrival crcOk s).lc = s.lc ∧ (trunkTime p m arrival crcOk s).pending = s.pending := by simp [trunkTime]

@[simp] theorem trunkAck_fixed (p : Nat) (m : List Byte) (s : State) :
    (trunkAck p m s).lc = s.lc ∧ (trunkAck p m s).pending = s.pending := by simp [trunkAck]

@[simp] theorem trunkMode_fixed (p : Nat) (m : List Byte) (s : State) :
    (trunkMode p m s).lc = s.lc ∧ (trunkMode p m s).pending = s.pending := by unfold trunkMode; (repeat' split) <;> simp

@[simp] theorem trunkModeApply_fixed (p : Nat) (s : State) :
    (trunkModeApply p s).lc = s.lc ∧ (trunkModeApply p s).pending = s.pending := by unfold trunkModeApply; (repeat' split) <;> simp

@[simp] theorem trunkDown_fixed (p : Nat) (m : List Byte) (s : State) :
    (trunkDown p m s).lc = s.lc ∧ (trunkDown p m s).pending = s.pending := by simp [trunkDown]

@[simp] theorem trunkLoss_fixed (p : Nat) (s : State) :
    (trunkLoss p s).lc = s.lc ∧ (trunkLoss p s).pending = s.pending := by simp [trunkLoss]

@[simp] theorem trunkLevelDown_fixed (p : Nat) (s : State) :
    (trunkLevelDown p s).lc = s.lc ∧ (trunkLevelDown p s).pending = s.pending := by simp [trunkLevelDown]

@[simp] theorem trunkPreamble_fixed (p : Nat) (decisions : BitVec 16) (s : State) :
    (trunkPreamble p decisions s).lc = s.lc ∧ (trunkPreamble p decisions s).pending = s.pending := by simp [trunkPreamble]

@[simp] theorem trunkSync_fixed (p : Nat) (w : BitVec 32) (s : State) :
    (trunkSync p w s).lc = s.lc ∧ (trunkSync p w s).pending = s.pending := by simp [trunkSync]

@[simp] theorem trunkHeader_fixed (p : Nat) (bits : BitVec 64) (s : State) :
    (trunkHeader p bits s).lc = s.lc ∧ (trunkHeader p bits s).pending = s.pending := by simp [trunkHeader]

@[simp] theorem trunkFrame_fixed (p : Nat) (h : RxHeader) (payload : List Byte) (m : EqFields) (s : State) :
    (trunkFrame p h payload m s).lc = s.lc ∧ (trunkFrame p h payload m s).pending = s.pending := by simp [trunkFrame]

@[simp] theorem trunkFrameEnd_fixed (p : Nat) (levels : List Nat) (m : RxMeasure) (s : State) :
    (trunkFrameEnd p levels m s).lc = s.lc ∧ (trunkFrameEnd p levels m s).pending = s.pending := by unfold trunkFrameEnd; (repeat' split) <;> simp

@[simp] theorem trunkLoad_fixed (p : Nat) (errors : List (Nat × Ecc)) (s : State) :
    (trunkLoad p errors s).lc = s.lc ∧ (trunkLoad p errors s).pending = s.pending := by unfold trunkLoad; (repeat' split) <;> simp

@[simp] theorem trunkMoveApply_fixed (q : Nat) (v : Move) (s : State) :
    (trunkMoveApply q v s).lc = s.lc ∧ (trunkMoveApply q v s).pending = s.pending := by simp [trunkMoveApply]

@[simp] theorem trunkReturn_fixed (p : Nat) (s : State) :
    (trunkReturn p s).lc = s.lc ∧ (trunkReturn p s).pending = s.pending := by unfold trunkReturn; (repeat' split) <;> simp

@[simp] theorem moveApply_fixed (q : Nat) (s : State) :
    (moveApply q s).lc = s.lc ∧ (moveApply q s).pending = s.pending := by unfold moveApply; (repeat' split) <;> simp

/-! ## Lane -/

@[simp] theorem sendBlocks_fixed (l : Link) (behind : Bool) (bs : List (BlockKind × BitVec 64)) (s : State) :
    (sendBlocks l behind bs s).lc = s.lc ∧ (sendBlocks l behind bs s).pending = s.pending := by simp [sendBlocks]

@[simp] theorem prbsStart_fixed (code : Nat) (s : State) :
    (prbsStart code s).2.lc = s.lc ∧ (prbsStart code s).2.pending = s.pending := by simp [prbsStart]

@[simp] theorem prbsTransmit_fixed (l : Link) (s : State) :
    (prbsTransmit l s).lc = s.lc ∧ (prbsTransmit l s).pending = s.pending := by simp [prbsTransmit]

/-! ## OxlLink -/

@[simp] theorem flowCheck_fixed (p : Nat) (s : State) :
    (flowCheck p s).lc = s.lc ∧ (flowCheck p s).pending = s.pending := by simp [flowCheck]

@[simp] theorem silence_fixed (l : Link) (s : State) :
    (silence l s).lc = s.lc ∧ (silence l s).pending = s.pending := by simp [silence]

@[simp] theorem joinQueues_fixed (lost other : Link) (s : State) :
    (joinQueues lost other s).lc = s.lc ∧ (joinQueues lost other s).pending = s.pending := by simp [joinQueues]

@[simp] theorem reassign_fixed (lost : Link) (s : State) :
    (reassign lost s).lc = s.lc ∧ (reassign lost s).pending = s.pending := by unfold reassign; (repeat' split) <;> simp

@[simp] theorem moveLink_fixed (lost : Link) (s : State) :
    (moveLink lost s).lc = s.lc ∧ (moveLink lost s).pending = s.pending := by simp [moveLink]

@[simp] theorem refreshLink_fixed (l : Link) (stateBefore : Nat) (s : State) :
    (refreshLink l stateBefore s).lc = s.lc ∧ (refreshLink l stateBefore s).pending = s.pending := by simp [refreshLink]

@[simp] theorem takeRxSettings_fixed (l : Link) (s : State) :
    (takeRxSettings l s).lc = s.lc ∧ (takeRxSettings l s).pending = s.pending := by simp [takeRxSettings]

@[simp] theorem rxRestart_fixed (l : Link) (s : State) :
    (rxRestart l s).lc = s.lc ∧ (rxRestart l s).pending = s.pending := by simp [rxRestart]

@[simp] theorem rxLost_fixed (l : Link) (s : State) :
    (rxLost l s).lc = s.lc ∧ (rxLost l s).pending = s.pending := by simp [rxLost]

@[simp] theorem linkClock_fixed (l : Link) (ppm : Int) (s : State) :
    (linkClock l ppm s).lc = s.lc ∧ (linkClock l ppm s).pending = s.pending := by simp [linkClock]

@[simp] theorem linkAdapt_fixed (l : Link) (e0 e1 : Nat) (s : State) :
    (linkAdapt l e0 e1 s).lc = s.lc ∧ (linkAdapt l e0 e1 s).pending = s.pending := by simp [linkAdapt]

@[simp] theorem linkLock_fixed (l : Link) (s : State) :
    (linkLock l s).lc = s.lc ∧ (linkLock l s).pending = s.pending := by simp [linkLock]

@[simp] theorem wiringMismatch_fixed (l : Link) (farUp : Bool) (farId : Nat) (s : State) :
    (wiringMismatch l farUp farId s).lc = s.lc ∧ (wiringMismatch l farUp farId s).pending = s.pending := by simp [wiringMismatch]

@[simp] theorem linkDeskew_fixed (l : Link) (b0 b1 : BitVec 64) (s : State) :
    (linkDeskew l b0 b1 s).lc = s.lc ∧ (linkDeskew l b0 b1 s).pending = s.pending := by unfold linkDeskew; (repeat' split) <;> simp

@[simp] theorem linkUp_fixed (l : Link) (s : State) :
    (linkUp l s).lc = s.lc ∧ (linkUp l s).pending = s.pending := by simp [linkUp]

@[simp] theorem linkTimeout_fixed (l : Link) (s : State) :
    (linkTimeout l s).lc = s.lc ∧ (linkTimeout l s).pending = s.pending := by simp [linkTimeout]

@[simp] theorem linkLoss_fixed (l : Link) (cause : LossCause) (s : State) :
    (linkLoss l cause s).lc = s.lc ∧ (linkLoss l cause s).pending = s.pending := by unfold linkLoss; (repeat' split) <;> simp

@[simp] theorem oxlRetrain_fixed (l : Link) (s : State) :
    (oxlRetrain l s).lc = s.lc ∧ (oxlRetrain l s).pending = s.pending := by simp [oxlRetrain]

@[simp] theorem alignIn_fixed (l : Link) (b0 b1 : BitVec 64) (s : State) :
    (alignIn l b0 b1 s).lc = s.lc ∧ (alignIn l b0 b1 s).pending = s.pending := by unfold alignIn; (repeat' split) <;> simp

@[simp] theorem linkEnable_fixed (l : Link) (s : State) :
    (linkEnable l s).lc = s.lc ∧ (linkEnable l s).pending = s.pending := by simp [linkEnable]

@[simp] theorem recheckLink_fixed (l : Link) (s : State) :
    (recheckLink l s).lc = s.lc ∧ (recheckLink l s).pending = s.pending := by simp [recheckLink]

@[simp] theorem frameTransmit_fixed (l : Link) (s : State) :
    (frameTransmit l s).lc = s.lc ∧ (frameTransmit l s).pending = s.pending := by
  unfold frameTransmit
  (try dsimp only)
  (repeat' split) <;> simp

@[simp] theorem sendAlign_fixed (l : Link) (before : List (BlockKind × BitVec 64)) (s : State) :
    (sendAlign l before s).lc = s.lc ∧ (sendAlign l before s).pending = s.pending := by simp [sendAlign]

@[simp] theorem sendFlow_fixed (l : Link) (s : State) :
    (sendFlow l s).lc = s.lc ∧ (sendFlow l s).pending = s.pending := by simp [sendFlow]

@[simp] theorem alignTransmit_fixed (l : Link) (s : State) :
    (alignTransmit l s).lc = s.lc ∧ (alignTransmit l s).pending = s.pending := by simp [alignTransmit]

@[simp] theorem flowIn_fixed (l : Link) (b : BitVec 64) (s : State) :
    (flowIn l b s).lc = s.lc ∧ (flowIn l b s).pending = s.pending := by simp [flowIn]

@[simp] theorem enterQuiet_fixed (l : Link) (behind : Bool) (s : State) :
    (enterQuiet l behind s).lc = s.lc ∧ (enterQuiet l behind s).pending = s.pending := by simp [enterQuiet]

@[simp] theorem leaveQuiet_fixed (l : Link) (s : State) :
    (leaveQuiet l s).lc = s.lc ∧ (leaveQuiet l s).pending = s.pending := by simp [leaveQuiet]

@[simp] theorem quietEntry_fixed (l : Link) (s : State) :
    (quietEntry l s).lc = s.lc ∧ (quietEntry l s).pending = s.pending := by simp [quietEntry]

@[simp] theorem quietRxEntry_fixed (l : Link) (s : State) :
    (quietRxEntry l s).lc = s.lc ∧ (quietRxEntry l s).pending = s.pending := by simp [quietRxEntry]

@[simp] theorem quietExit_fixed (l : Link) (s : State) :
    (quietExit l s).lc = s.lc ∧ (quietExit l s).pending = s.pending := by simp [quietExit]

@[simp] theorem quietPeriodicExit_fixed (l : Link) (s : State) :
    (quietPeriodicExit l s).lc = s.lc ∧ (quietPeriodicExit l s).pending = s.pending := by simp [quietPeriodicExit]

@[simp] theorem quietActivityTimeout_fixed (l : Link) (s : State) :
    (quietActivityTimeout l s).lc = s.lc ∧ (quietActivityTimeout l s).pending = s.pending := by simp [quietActivityTimeout]

@[simp] theorem quietRxExit_fixed (l : Link) (s : State) :
    (quietRxExit l s).lc = s.lc ∧ (quietRxExit l s).pending = s.pending := by simp [quietRxExit]

@[simp] theorem quietAlignTimeout_fixed (l : Link) (s : State) :
    (quietAlignTimeout l s).lc = s.lc ∧ (quietAlignTimeout l s).pending = s.pending := by simp [quietAlignTimeout]

@[simp] theorem linkTrafficMove_fixed (l : Link) (hostCut : Bool) (s : State) :
    (linkTrafficMove l hostCut s).lc = s.lc ∧ (linkTrafficMove l hostCut s).pending = s.pending := by simp [linkTrafficMove]

@[simp] theorem restartIdle_fixed (l : Link) (waited : Bool) (s : State) :
    (restartIdle l waited s).lc = s.lc ∧ (restartIdle l waited s).pending = s.pending := by simp [restartIdle]

@[simp] theorem carryStop_fixed (src dst : Link) (s : State) :
    (carryStop src dst s).lc = s.lc ∧ (carryStop src dst s).pending = s.pending := by simp [carryStop]

@[simp] theorem takeBack_fixed (l : Link) (mine : OutFrame → Bool) (s : State) :
    (takeBack l mine s).lc = s.lc ∧ (takeBack l mine s).pending = s.pending := by simp [takeBack]

@[simp] theorem returnHoldExpiry_fixed (l : Link) (s : State) :
    (returnHoldExpiry l s).lc = s.lc ∧ (returnHoldExpiry l s).pending = s.pending := by simp [returnHoldExpiry]

@[simp] theorem redistribute_fixed (before s : State) :
    (redistribute before s).lc = s.lc ∧ (redistribute before s).pending = s.pending := by simp [redistribute]

@[simp] theorem linkModeWritten_fixed (before s : State) :
    (linkModeWritten before s).lc = s.lc ∧ (linkModeWritten before s).pending = s.pending := by simp [linkModeWritten]

@[simp] theorem preferredWritten_fixed (before s : State) :
    (preferredWritten before s).lc = s.lc ∧ (preferredWritten before s).pending = s.pending := by simp [preferredWritten]

@[simp] theorem forceSwitch_fixed (s : State) :
    (forceSwitch s).lc = s.lc ∧ (forceSwitch s).pending = s.pending := by simp [forceSwitch]

@[simp] theorem addPrbs_fixed (code n : Nat) (s : State) :
    (addPrbs code n s).lc = s.lc ∧ (addPrbs code n s).pending = s.pending := by simp [addPrbs]

@[simp] theorem prbsIn_fixed (l : Link) (lane : Nat) (bits : List Bool) (s : State) :
    (prbsIn l lane bits s).lc = s.lc ∧ (prbsIn l lane bits s).pending = s.pending := by simp [prbsIn]

@[simp] theorem prbsGenWritten_fixed (l : Link) (lane : Nat) (s : State) :
    (prbsGenWritten l lane s).lc = s.lc ∧ (prbsGenWritten l lane s).pending = s.pending := by
  unfold prbsGenWritten
  (try dsimp only)
  (repeat' split) <;> simp

@[simp] theorem prbsCheckWritten_fixed (l : Link) (lane : Nat) (s : State) :
    (prbsCheckWritten l lane s).lc = s.lc ∧ (prbsCheckWritten l lane s).pending = s.pending := by simp [prbsCheckWritten]

@[simp] theorem prbsClearWritten_fixed (l : Link) (lane : Nat) (s : State) :
    (prbsClearWritten l lane s).lc = s.lc ∧ (prbsClearWritten l lane s).pending = s.pending := by simp [prbsClearWritten]

/-! ## Power -/

@[simp] theorem State.modPower_fixed (s : State) (f : PowerSt → PowerSt) :
    (State.modPower s f).lc = s.lc ∧ (State.modPower s f).pending = s.pending := by simp [State.modPower]

@[simp] theorem latchHead_fixed (s : State) :
    (latchHead s).lc = s.lc ∧ (latchHead s).pending = s.pending := by simp [latchHead]

@[simp] theorem queuePm_fixed (r : PmReq) (s : State) :
    (queuePm r s).lc = s.lc ∧ (queuePm r s).pending = s.pending := by simp [queuePm]

@[simp] theorem dropRequests_fixed (p : PmReq → Bool) (s : State) :
    (dropRequests p s).lc = s.lc ∧ (dropRequests p s).pending = s.pending := by simp [dropRequests]

@[simp] theorem pmOn_fixed (rail prio : Nat) (wakeOf : Option Nat) (s : State) :
    (pmOn rail prio wakeOf s).lc = s.lc ∧ (pmOn rail prio wakeOf s).pending = s.pending := by simp [pmOn]

@[simp] theorem pmOff_fixed (rail prio : Nat) (s : State) :
    (pmOff rail prio s).lc = s.lc ∧ (pmOff rail prio s).pending = s.pending := by simp [pmOff]

@[simp] theorem pmVcore_fixed (mV : Nat) (s : State) :
    (pmVcore mV s).lc = s.lc ∧ (pmVcore mV s).pending = s.pending := by simp [pmVcore]

@[simp] theorem pmOffIfOn_fixed (rail prio : Nat) (s : State) :
    (pmOffIfOn rail prio s).lc = s.lc ∧ (pmOffIfOn rail prio s).pending = s.pending := by simp [pmOffIfOn]

@[simp] theorem stopPort_fixed (p : Nat) (s : State) :
    (stopPort p s).lc = s.lc ∧ (stopPort p s).pending = s.pending := by simp [stopPort]

@[simp] theorem stopCluster_fixed (k : Nat) (s : State) :
    (stopCluster k s).lc = s.lc ∧ (stopCluster k s).pending = s.pending := by simp [stopCluster]

@[simp] theorem portLost_fixed (p : Nat) (s : State) :
    (portLost p s).lc = s.lc ∧ (portLost p s).pending = s.pending := by simp [portLost]

@[simp] theorem clusterGone_fixed (k : Nat) (s : State) :
    (clusterGone k s).lc = s.lc ∧ (clusterGone k s).pending = s.pending := by simp [clusterGone]

@[simp] theorem caskWrite_fixed (i : Nat) (b : Byte) (s : State) :
    (caskWrite i b s).lc = s.lc ∧ (caskWrite i b s).pending = s.pending := by simp [caskWrite]

@[simp] theorem caskWriteAll_fixed (i : Nat) (bs : List Byte) (s : State) :
    (caskWriteAll i bs s).lc = s.lc ∧ (caskWriteAll i bs s).pending = s.pending := by
  induction bs generalizing i s with
  | nil => simp [caskWriteAll]
  | cons b rest ih => simp [caskWriteAll, ih]

@[simp] theorem caskRead_fixed (i : Nat) (s : State) :
    (caskRead i s).2.lc = s.lc ∧ (caskRead i s).2.pending = s.pending := by
  unfold caskRead
  (try dsimp only)
  (repeat' split) <;> simp

@[simp] theorem caskReadAll_fixed (n i : Nat) (s : State) :
    (caskReadAll n i s).2.lc = s.lc ∧ (caskReadAll n i s).2.pending = s.pending := by
  induction n generalizing i s with
  | zero => simp [caskReadAll]
  | succ n ih => simp [caskReadAll, ih]

@[simp] theorem setLedger_fixed (k : Nat) (ls : List Ledger) (s : State) :
    (setLedger k ls s).lc = s.lc ∧ (setLedger k ls s).pending = s.pending := by simp [setLedger]

@[simp] theorem openLedger_fixed (k : Nat) (s : State) :
    (openLedger k s).lc = s.lc ∧ (openLedger k s).pending = s.pending := by simp [openLedger]

@[simp] theorem modLedger_fixed (k : Nat) (f : Ledger → Ledger) (s : State) :
    (modLedger k f s).lc = s.lc ∧ (modLedger k f s).pending = s.pending := by unfold modLedger; (repeat' split) <;> simp

@[simp] theorem leaveSteep_fixed (p : Nat) (s : State) :
    (leaveSteep p s).lc = s.lc ∧ (leaveSteep p s).pending = s.pending := by simp [leaveSteep]

@[simp] theorem portSteep_fixed (p : Nat) (s : State) :
    (portSteep p s).lc = s.lc ∧ (portSteep p s).pending = s.pending := by unfold portSteep; (repeat' split) <;> simp

@[simp] theorem portUnsteep_fixed (p : Nat) (s : State) :
    (portUnsteep p s).lc = s.lc ∧ (portUnsteep p s).pending = s.pending := by simp [portUnsteep]

@[simp] theorem clusterSteep_fixed (k : Nat) (s : State) :
    (clusterSteep k s).lc = s.lc ∧ (clusterSteep k s).pending = s.pending := by simp [clusterSteep]

@[simp] theorem clusterUnsteep_fixed (k : Nat) (s : State) :
    (clusterUnsteep k s).lc = s.lc ∧ (clusterUnsteep k s).pending = s.pending := by simp [clusterUnsteep]

@[simp] theorem startWake_fixed (k : Nat) (intended : Option Nat) (s : State) :
    (startWake k intended s).lc = s.lc ∧ (startWake k intended s).pending = s.pending := by simp [startWake]

@[simp] theorem settleOff_fixed (k : Nat) (s : State) :
    (settleOff k s).lc = s.lc ∧ (settleOff k s).pending = s.pending := by simp [settleOff]

@[simp] theorem putDown_fixed (k step rail : Nat) (s : State) :
    (putDown k step rail s).lc = s.lc ∧ (putDown k step rail s).pending = s.pending := by simp [putDown]

@[simp] theorem railFailed_fixed (rail cmd cause : Nat) (s : State) :
    (railFailed rail cmd cause s).lc = s.lc ∧ (railFailed rail cmd cause s).pending = s.pending := by simp [railFailed]

@[simp] theorem wakeCheckFailed_fixed (k : Nat) (s : State) :
    (wakeCheckFailed k s).lc = s.lc ∧ (wakeCheckFailed k s).pending = s.pending := by simp [wakeCheckFailed]

@[simp] theorem takeStatus_fixed (rail w : Nat) (s : State) :
    (takeStatus rail w s).lc = s.lc ∧ (takeStatus rail w s).pending = s.pending := by simp [takeStatus]

@[simp] theorem committedIn_fixed (k : Nat) (s : State) :
    (committedIn k s).lc = s.lc ∧ (committedIn k s).pending = s.pending := by simp [committedIn]

@[simp] theorem loadCommitted_fixed (k : Nat) (s : State) :
    (loadCommitted k s).lc = s.lc ∧ (loadCommitted k s).pending = s.pending := by simp [loadCommitted]

@[simp] theorem restoreCask_fixed (k : Nat) (badA badB : List Nat) (s : State) :
    (restoreCask k badA badB s).lc = s.lc ∧ (restoreCask k badA badB s).pending = s.pending := by unfold restoreCask; (repeat' split) <;> simp

@[simp] theorem wakeEnds_fixed (k : Nat) (s : State) :
    (wakeEnds k s).lc = s.lc ∧ (wakeEnds k s).pending = s.pending := by simp [wakeEnds]

@[simp] theorem wakeStep_fixed (k : Nat) (m : WakeMeasure) (s : State) :
    (wakeStep k m s).lc = s.lc ∧ (wakeStep k m s).pending = s.pending := by simp [wakeStep]

@[simp] theorem wakeAlarmReached_fixed (k : Nat) (s : State) :
    (wakeAlarmReached k s).lc = s.lc ∧ (wakeAlarmReached k s).pending = s.pending := by simp [wakeAlarmReached]

@[simp] theorem dormantEntry_fixed (k : Nat) (cal : List Byte) (s : State) :
    (dormantEntry k cal s).lc = s.lc ∧ (dormantEntry k cal s).pending = s.pending := by simp [dormantEntry]

@[simp] theorem nextGroup_fixed (k : Nat) (s : State) :
    (nextGroup k s).lc = s.lc ∧ (nextGroup k s).pending = s.pending := by simp [nextGroup]

@[simp] theorem startRail_fixed (rail : Nat) (ok : Bool) (s : State) :
    (startRail rail ok s).lc = s.lc ∧ (startRail rail ok s).pending = s.pending := by unfold startRail; (repeat' split) <;> simp

@[simp] theorem pmCheck_fixed (rail tries : Nat) (s : State) :
    (pmCheck rail tries s).lc = s.lc ∧ (pmCheck rail tries s).pending = s.pending := by simp [pmCheck]

@[simp] theorem startChecked_fixed (r : PmReq) (w : Nat) (s : State) :
    (startChecked r w s).lc = s.lc ∧ (startChecked r w s).pending = s.pending := by simp [startChecked]

@[simp] theorem pmDone_fixed (r : PmReq) (word : Nat) (s : State) :
    (pmDone r word s).lc = s.lc ∧ (pmDone r word s).pending = s.pending := by unfold pmDone; (repeat' split) <;> simp

@[simp] theorem pmLost_fixed (r : PmReq) (cause : Nat) (s : State) :
    (pmLost r cause s).lc = s.lc ∧ (pmLost r cause s).pending = s.pending := by unfold pmLost; (repeat' split) <;> simp

@[simp] theorem pmbusComplete_fixed (res : PmbusResult) (s : State) :
    (pmbusComplete res s).lc = s.lc ∧ (pmbusComplete res s).pending = s.pending := by unfold pmbusComplete; (repeat' split) <;> simp

@[simp] theorem pmbusBusyPoll_fixed (w : Nat) (s : State) :
    (pmbusBusyPoll w s).lc = s.lc ∧ (pmbusBusyPoll w s).pending = s.pending := by unfold pmbusBusyPoll; (repeat' split) <;> simp

@[simp] theorem pmbusRetry_fixed (s : State) :
    (pmbusRetry s).lc = s.lc ∧ (pmbusRetry s).pending = s.pending := by unfold pmbusRetry; (repeat' split) <;> simp

@[simp] theorem pmbusPolling_fixed (s : State) :
    (pmbusPolling s).lc = s.lc ∧ (pmbusPolling s).pending = s.pending := by simp [pmbusPolling]

@[simp] theorem vcoreSettings_fixed (s : State) :
    (vcoreSettings s).lc = s.lc ∧ (vcoreSettings s).pending = s.pending := by simp [vcoreSettings]

@[simp] theorem avsAdjust_fixed (short ample : Bool) (s : State) :
    (avsAdjust short ample s).lc = s.lc ∧ (avsAdjust short ample s).pending = s.pending := by simp [avsAdjust]

/-! ## Heat -/

@[simp] theorem takeReading_fixed (n : Nat) (t : Int) (s : State) :
    (takeReading n t s).lc = s.lc ∧ (takeReading n t s).pending = s.pending := by simp [takeReading]

@[simp] theorem takeReadings_fixed (n : Nat) (ts : List Int) (s : State) :
    (takeReadings n ts s).lc = s.lc ∧ (takeReadings n ts s).pending = s.pending := by
  induction ts generalizing n s with
  | nil => simp [takeReadings]
  | cons t rest ih => simp [takeReadings, ih]

@[simp] theorem checkSensor_fixed (v : State) (n : Nat) (s : State) :
    (checkSensor v n s).lc = s.lc ∧ (checkSensor v n s).pending = s.pending := by simp [checkSensor]

@[simp] theorem warnDie_fixed (n : Nat) (s : State) :
    (warnDie n s).lc = s.lc ∧ (warnDie n s).pending = s.pending := by
  unfold warnDie
  (try dsimp only)
  (repeat' split) <;> simp

@[simp] theorem enterThrottle_fixed (n : Nat) (s : State) :
    (enterThrottle n s).lc = s.lc ∧ (enterThrottle n s).pending = s.pending := by simp [enterThrottle]

@[simp] theorem throttleSample_fixed (s : State) :
    (throttleSample s).lc = s.lc ∧ (throttleSample s).pending = s.pending := by
  unfold throttleSample
  (try dsimp only)
  (repeat' split) <;> simp

@[simp] theorem dropWake_fixed (k : Nat) (s : State) :
    (dropWake k s).lc = s.lc ∧ (dropWake k s).pending = s.pending := by simp [dropWake]

@[simp] theorem lineDieShutdown_fixed (k : Nat) (s : State) :
    (lineDieShutdown k s).lc = s.lc ∧ (lineDieShutdown k s).pending = s.pending := by simp [lineDieShutdown]

@[simp] theorem coreOff_fixed (s : State) :
    (coreOff s).lc = s.lc ∧ (coreOff s).pending = s.pending := by unfold coreOff; (repeat' split) <;> simp

@[simp] theorem noteLoss_fixed (s : State) :
    (noteLoss s).lc = s.lc ∧ (noteLoss s).pending = s.pending := by simp [noteLoss]

@[simp] theorem coreShutdown_fixed (s : State) :
    (coreShutdown s).lc = s.lc ∧ (coreShutdown s).pending = s.pending := by simp [coreShutdown]

@[simp] theorem releaseCore_fixed (s : State) :
    (releaseCore s).lc = s.lc ∧ (releaseCore s).pending = s.pending := by unfold releaseCore; (repeat' split) <;> simp

@[simp] theorem coldSample_fixed (s : State) :
    (coldSample s).lc = s.lc ∧ (coldSample s).pending = s.pending := by simp [coldSample]

@[simp] theorem lineDies_fixed (s : State) :
    (lineDies s).lc = s.lc ∧ (lineDies s).pending = s.pending := by simp [lineDies]

@[simp] theorem sampled_fixed (ts : List Int) (s : State) :
    (sampled ts s).lc = s.lc ∧ (sampled ts s).pending = s.pending := by simp [sampled]

@[simp] theorem thermalSample_fixed (ts : List Int) (s : State) :
    (thermalSample ts s).lc = s.lc ∧ (thermalSample ts s).pending = s.pending := by unfold thermalSample; (repeat' split) <;> simp

@[simp] theorem throttleLift_fixed (s : State) :
    (throttleLift s).lc = s.lc ∧ (throttleLift s).pending = s.pending := by simp [throttleLift]

@[simp] theorem restartClusters_fixed (s : State) :
    (restartClusters s).lc = s.lc ∧ (restartClusters s).pending = s.pending := by simp [restartClusters]

/-! ## Engines -/

@[simp] theorem goldenMissing_fixed (tests : List Nat) (s : State) :
    (goldenMissing tests s).lc = s.lc ∧ (goldenMissing tests s).pending = s.pending := by simp [goldenMissing]

@[simp] theorem planMigration_fixed (x y : Nat) (rotating : Bool) (s : State) :
    (planMigration x y rotating s).lc = s.lc ∧ (planMigration x y rotating s).pending = s.pending := by simp [planMigration]

@[simp] theorem cancelRotation_fixed (x : Nat) (s : State) :
    (cancelRotation x s).lc = s.lc ∧ (cancelRotation x s).pending = s.pending := by unfold cancelRotation; (repeat' split) <;> simp

@[simp] theorem recordFailed_fixed (e test : Nat) (s : State) :
    (recordFailed e test s).lc = s.lc ∧ (recordFailed e test s).pending = s.pending := by simp [recordFailed]

@[simp] theorem unrecord_fixed (e : Nat) (s : State) :
    (unrecord e s).lc = s.lc ∧ (unrecord e s).pending = s.pending := by simp [unrecord]

@[simp] theorem loadNext_fixed (k : Nat) (s : State) :
    (loadNext k s).lc = s.lc ∧ (loadNext k s).pending = s.pending := by
  unfold loadNext
  (try dsimp only)
  (repeat' split) <;> simp

@[simp] theorem engineTestComplete_fixed (e : Nat) (rs : List Response) (s : State) :
    (engineTestComplete e rs s).lc = s.lc ∧ (engineTestComplete e rs s).pending = s.pending := by simp [engineTestComplete]

@[simp] theorem planRescue_fixed (e : Nat) (s : State) :
    (planRescue e s).lc = s.lc ∧ (planRescue e s).pending = s.pending := by unfold planRescue; (repeat' split) <;> simp

@[simp] theorem copyTaps_fixed (p x y : Nat) (badWords : List Nat) (s : State) :
    (copyTaps p x y badWords s).lc = s.lc ∧ (copyTaps p x y badWords s).pending = s.pending := by simp [copyTaps]

@[simp] theorem migration_fixed (p : Nat) (crcEqual : Bool) (badWords : List Nat) (s : State) :
    (migration p crcEqual badWords s).lc = s.lc ∧ (migration p crcEqual badWords s).pending = s.pending := by
  unfold migration
  (try dsimp only)
  (repeat' split) <;> simp

@[simp] theorem rotate_fixed (k second : Nat) (s : State) :
    (rotate k second s).lc = s.lc ∧ (rotate k second s).pending = s.pending := by
  unfold rotate
  (try dsimp only)
  (repeat' split) <;> simp

@[simp] theorem rotationDatum_fixed (second : Nat) (s : State) :
    (rotationDatum second s).lc = s.lc ∧ (rotationDatum second s).pending = s.pending := by unfold rotationDatum; (repeat' split) <;> simp

@[simp] theorem engineFailing_fixed (e : Nat) (f : EngineFault) (s : State) :
    (engineFailing e f s).lc = s.lc ∧ (engineFailing e f s).pending = s.pending := by unfold engineFailing; (repeat' split) <;> simp

@[simp] theorem stopForEngine_fixed (p : Nat) (s : State) :
    (stopForEngine p s).lc = s.lc ∧ (stopForEngine p s).pending = s.pending := by simp [stopForEngine]

@[simp] theorem engineExhausted_fixed (p : Nat) (s : State) :
    (engineExhausted p s).lc = s.lc ∧ (engineExhausted p s).pending = s.pending := by simp [engineExhausted]

@[simp] theorem resumePort_fixed (p : Nat) (s : State) :
    (resumePort p s).lc = s.lc ∧ (resumePort p s).pending = s.pending := by unfold resumePort; (repeat' split) <;> simp

@[simp] theorem replaceEngine_fixed (p : Nat) (s : State) :
    (replaceEngine p s).lc = s.lc ∧ (replaceEngine p s).pending = s.pending := by unfold replaceEngine; (repeat' split) <;> simp

@[simp] theorem freeEngine_fixed (p : Nat) (s : State) :
    (freeEngine p s).lc = s.lc ∧ (freeEngine p s).pending = s.pending := by simp [freeEngine]

@[simp] theorem assignEngines_fixed (k : Nat) (s : State) :
    (assignEngines k s).lc = s.lc ∧ (assignEngines k s).pending = s.pending := by
  unfold assignEngines
  dsimp only
  split
  all_goals
    refine ⟨?_, ?_⟩
    · (try rw [(fault_fixed _ _ _ _).1, (State.modCluster_fixed _ _ _).1])
      rw [forAll_lc _ _ (by intro x t; (repeat' split) <;> simp), forAll_lc _ _ (by intro x t; simp)]
    · (try rw [(fault_fixed _ _ _ _).2, (State.modCluster_fixed _ _ _).2])
      rw [forAll_pending _ _ (by intro x t; (repeat' split) <;> simp), forAll_pending _ _ (by intro x t; simp)]

@[simp] theorem fwUpdateMigration_fixed (k : Nat) (s : State) :
    (fwUpdateMigration k s).lc = s.lc ∧ (fwUpdateMigration k s).pending = s.pending := by
  unfold fwUpdateMigration
  (try dsimp only)
  (repeat' split) <;> simp

/-! ## SelfTest -/

@[simp] theorem State.modTester_fixed (s : State) (m : Mem) (f : TesterSt → TesterSt) :
    (State.modTester s m f).lc = s.lc ∧ (State.modTester s m f).pending = s.pending := by unfold State.modTester; (repeat' split) <;> simp

@[simp] theorem sliceTestStart_fixed (m : Mem) (s : State) :
    (sliceTestStart m s).lc = s.lc ∧ (sliceTestStart m s).pending = s.pending := by simp [sliceTestStart]

@[simp] theorem sliceTestAbort_fixed (m : Mem) (s : State) :
    (sliceTestAbort m s).lc = s.lc ∧ (sliceTestAbort m s).pending = s.pending := by simp [sliceTestAbort]

@[simp] theorem wordFailed_fixed (m : Mem) (word : Nat) (s : State) :
    (wordFailed m word s).lc = s.lc ∧ (wordFailed m word s).pending = s.pending := by unfold wordFailed; (repeat' split) <;> simp

@[simp] theorem repairSlice_fixed (m : Mem) (slice : Nat) (badWords : List Nat) (s : State) :
    (repairSlice m slice badWords s).lc = s.lc ∧ (repairSlice m slice badWords s).pending = s.pending := by
  unfold repairSlice
  (try dsimp only)
  (repeat' split) <;> simp

@[simp] theorem spareFails_fixed (m : Mem) (n : Nat) (s : State) :
    (spareFails m n s).lc = s.lc ∧ (spareFails m n s).pending = s.pending := by simp [spareFails]

@[simp] theorem sliceFails_fixed (m : Mem) (unit : Nat) (s : State) :
    (sliceFails m unit s).lc = s.lc ∧ (sliceFails m unit s).pending = s.pending := by simp [sliceFails]

@[simp] theorem sliceTestComplete_fixed (m : Mem) (words : List (BitVec 64)) (badWords : List Nat) (s : State) :
    (sliceTestComplete m words badWords s).lc = s.lc ∧ (sliceTestComplete m words badWords s).pending = s.pending := by simp [sliceTestComplete]

@[simp] theorem loadRemaps_fixed (m : Mem) (s : State) :
    (loadRemaps m s).lc = s.lc ∧ (loadRemaps m s).pending = s.pending := by simp [loadRemaps]

@[simp] theorem patrolScrub_fixed (m : Mem) (word : Nat) (e : Ecc) (s : State) :
    (patrolScrub m word e s).lc = s.lc ∧ (patrolScrub m word e s).pending = s.pending := by unfold patrolScrub; (repeat' split) <;> simp

@[simp] theorem loseHalf_fixed (p h : Nat) (s : State) :
    (loseHalf p h s).lc = s.lc ∧ (loseHalf p h s).pending = s.pending := by simp [loseHalf]

@[simp] theorem converterCalibration_fixed (k : Nat) (fs : List CalFinding) (s : State) :
    (converterCalibration k fs s).lc = s.lc ∧ (converterCalibration k fs s).pending = s.pending := by simp [converterCalibration]

@[simp] theorem clusterLost_fixed (k cause : Nat) (s : State) :
    (clusterLost k cause s).lc = s.lc ∧ (clusterLost k cause s).pending = s.pending := by simp [clusterLost]

@[simp] theorem clusterLinkLoss_fixed (k : Nat) (s : State) :
    (clusterLinkLoss k s).lc = s.lc ∧ (clusterLinkLoss k s).pending = s.pending := by simp [clusterLinkLoss]

@[simp] theorem clusterPllUnlock_fixed (k : Nat) (s : State) :
    (clusterPllUnlock k s).lc = s.lc ∧ (clusterPllUnlock k s).pending = s.pending := by simp [clusterPllUnlock]

@[simp] theorem clusterRailFall_fixed (k : Nat) (line : Bool) (s : State) :
    (clusterRailFall k line s).lc = s.lc ∧ (clusterRailFall k line s).pending = s.pending := by simp [clusterRailFall]

@[simp] theorem lineShort_fixed (p : Nat) (s : State) :
    (lineShort p s).lc = s.lc ∧ (lineShort p s).pending = s.pending := by simp [lineShort]

@[simp] theorem fullTestStart_fixed (s : State) :
    (fullTestStart s).lc = s.lc ∧ (fullTestStart s).pending = s.pending := by simp [fullTestStart]

@[simp] theorem fullEngineFails_fixed (e test : Nat) (s : State) :
    (fullEngineFails e test s).lc = s.lc ∧ (fullEngineFails e test s).pending = s.pending := by unfold fullEngineFails; (repeat' split) <;> simp

@[simp] theorem fullFail_fixed (f : UnitTest) (s : State) :
    (fullFail f s).lc = s.lc ∧ (fullFail f s).pending = s.pending := by simp [fullFail]

@[simp] theorem fullTestComplete_fixed (rs : List UnitTest) (s : State) :
    (fullTestComplete rs s).lc = s.lc ∧ (fullTestComplete rs s).pending = s.pending := by simp [fullTestComplete]

@[simp] theorem enginePasses_fixed (e : Nat) (s : State) :
    (enginePasses e s).lc = s.lc ∧ (enginePasses e s).pending = s.pending := by simp [enginePasses]

@[simp] theorem engineFailsOnce_fixed (bad : List Nat) (s : State) :
    (engineFailsOnce bad s).lc = s.lc ∧ (engineFailsOnce bad s).pending = s.pending := by simp [engineFailsOnce]

@[simp] theorem engineCheck_fixed (c : ClusterCheck) (e : Nat) (s : State) :
    (engineCheck c e s).lc = s.lc ∧ (engineCheck c e s).pending = s.pending := by simp [engineCheck]

@[simp] theorem clusterCheck_fixed (c : ClusterCheck) (s : State) :
    (clusterCheck c s).lc = s.lc ∧ (clusterCheck c s).pending = s.pending := by simp [clusterCheck]

@[simp] theorem clusterChecked_fixed (c : ClusterCheck) (s : State) :
    (clusterChecked c s).lc = s.lc ∧ (clusterChecked c s).pending = s.pending := by simp [clusterChecked]

@[simp] theorem startupCheck_fixed (cs : List ClusterCheck) (s : State) :
    (startupCheck cs s).lc = s.lc ∧ (startupCheck cs s).pending = s.pending := by simp [startupCheck]

/-! ## Firmware -/

@[simp] theorem State.modFw_fixed (s : State) (f : FwSt → FwSt) :
    (State.modFw s f).lc = s.lc ∧ (State.modFw s f).pending = s.pending := by simp [State.modFw]

@[simp] theorem State.setRecord_fixed (s : State) (b : Nat) (x : BankRecord) :
    (State.setRecord s b x).lc = s.lc ∧ (State.setRecord s b x).pending = s.pending := by simp [State.setRecord]

@[simp] theorem eraseBank_fixed (b : Nat) (s : State) :
    (eraseBank b s).lc = s.lc ∧ (eraseBank b s).pending = s.pending := by simp [eraseBank]

@[simp] theorem fwEraseComplete_fixed (verified : Bool) (s : State) :
    (fwEraseComplete verified s).lc = s.lc ∧ (fwEraseComplete verified s).pending = s.pending := by simp [fwEraseComplete]

@[simp] theorem loadBegin_fixed (length : Nat) (s : State) :
    (loadBegin length s).lc = s.lc ∧ (loadBegin length s).pending = s.pending := by simp [loadBegin]

@[simp] theorem loadSegment_fixed (bs : List Byte) (last : Bool) (s : State) :
    (loadSegment bs last s).lc = s.lc ∧ (loadSegment bs last s).pending = s.pending := by simp [loadSegment]

@[simp] theorem loadEnds_fixed (s : State) :
    (loadEnds s).lc = s.lc ∧ (loadEnds s).pending = s.pending := by simp [loadEnds]

@[simp] theorem fwImageCheck_fixed (s : State) :
    (fwImageCheck s).lc = s.lc ∧ (fwImageCheck s).pending = s.pending := by simp [fwImageCheck]

@[simp] theorem startBank_fixed (s : State) :
    (startBank s).lc = s.lc ∧ (startBank s).pending = s.pending := by unfold startBank; (repeat' split) <;> simp

@[simp] theorem beginMoves_fixed (have_ : List Nat) (back : Bool) (s : State) :
    (beginMoves have_ back s).lc = s.lc ∧ (beginMoves have_ back s).pending = s.pending := by simp [beginMoves]

@[simp] theorem fwSwitch_fixed (s : State) :
    (fwSwitch s).lc = s.lc ∧ (fwSwitch s).pending = s.pending := by simp [fwSwitch]

@[simp] theorem moveBack_fixed (s : State) :
    (moveBack s).lc = s.lc ∧ (moveBack s).pending = s.pending := by simp [moveBack]

@[simp] theorem controllerResets_fixed (cause : Nat) (s : State) :
    (controllerResets cause s).lc = s.lc ∧ (controllerResets cause s).pending = s.pending := by simp [controllerResets]

@[simp] theorem fwUpdateSwitched_fixed (s : State) :
    (fwUpdateSwitched s).lc = s.lc ∧ (fwUpdateSwitched s).pending = s.pending := by simp [fwUpdateSwitched]

@[simp] theorem fwTrialEnd_fixed (s : State) :
    (fwTrialEnd s).lc = s.lc ∧ (fwTrialEnd s).pending = s.pending := by
  unfold fwTrialEnd
  (try dsimp only)
  (repeat' split) <;> simp

@[simp] theorem barBank_fixed (s : State) :
    (barBank s).1.lc = s.lc ∧ (barBank s).1.pending = s.pending := by simp [barBank]

@[simp] theorem watchdogExpiry_fixed (s : State) :
    (watchdogExpiry s).lc = s.lc ∧ (watchdogExpiry s).pending = s.pending := by simp [watchdogExpiry]

/-! ## HostFrames -/

@[simp] theorem discardHost_fixed (l : Link) (p d cause length : Nat) (s : State) :
    (discardHost l p d cause length s).lc = s.lc ∧ (discardHost l p d cause length s).pending = s.pending := by simp [discardHost]

@[simp] theorem queueHost_fixed (l : Link) (p d epoch : Nat) (body : List Byte) (s : State) :
    (queueHost l p d epoch body s).lc = s.lc ∧ (queueHost l p d epoch body s).pending = s.pending := by simp [queueHost]

@[simp] theorem staleHostFrame_fixed (p d frameEpoch : Nat) (s : State) :
    (staleHostFrame p d frameEpoch s).lc = s.lc ∧ (staleHostFrame p d frameEpoch s).pending = s.pending := by simp [staleHostFrame]

@[simp] theorem noDropFrame_fixed (p d frameEpoch : Nat) (s : State) :
    (noDropFrame p d frameEpoch s).lc = s.lc ∧ (noDropFrame p d frameEpoch s).pending = s.pending := by simp [noDropFrame]

@[simp] theorem routeBranch_fixed (l : Link) (f : HostFrame) (s : State) :
    (routeBranch l f s).lc = s.lc ∧ (routeBranch l f s).pending = s.pending := by simp [routeBranch]

@[simp] theorem routeTrunk_fixed (l : Link) (f : HostFrame) (s : State) :
    (routeTrunk l f s).lc = s.lc ∧ (routeTrunk l f s).pending = s.pending := by simp [routeTrunk]

@[simp] theorem routeFrame_fixed (l : Link) (f : HostFrame) (s : State) :
    (routeFrame l f s).lc = s.lc ∧ (routeFrame l f s).pending = s.pending := by simp [routeFrame]

@[simp] theorem answerBulk_fixed (l : Link) (f : OutFrame) (s : State) :
    (answerBulk l f s).lc = s.lc ∧ (answerBulk l f s).pending = s.pending := by simp [answerBulk]

@[simp] theorem endBulk_fixed (l : Link) (b : Bulk) (status : Nat) (s : State) :
    (endBulk l b status s).lc = s.lc ∧ (endBulk l b status s).pending = s.pending := by simp [endBulk]

@[simp] theorem bulkStep_fixed (l : Link) (b : Bulk) (s : State) :
    (bulkStep l b s).lc = s.lc ∧ (bulkStep l b s).pending = s.pending := by unfold bulkStep; (repeat' split) <;> simp

@[simp] theorem openBulk_fixed (l : Link) (b : Bulk) (s : State) :
    (openBulk l b s).lc = s.lc ∧ (openBulk l b s).pending = s.pending := by simp [openBulk]

@[simp] theorem refuseBulk_fixed (l : Link) (op status reqId target : Nat) (s : State) :
    (refuseBulk l op status reqId target s).lc = s.lc ∧ (refuseBulk l op status reqId target s).pending = s.pending := by simp [refuseBulk]

@[simp] theorem refuseRead_fixed (l : Link) (op status reqId target : Nat) (s : State) :
    (refuseRead l op status reqId target s).lc = s.lc ∧ (refuseRead l op status reqId target s).pending = s.pending := by simp [refuseRead]

@[simp] theorem bulkRequest_lc (l : Link) (op reqId target : Nat) (f : State → State) (h : ∀ t, (f t).lc = t.lc) (s : State) :
    (bulkRequest l op reqId target f s).lc = s.lc := by
  unfold bulkRequest; dsimp only; (repeat' split) <;> simp [h]

@[simp] theorem bulkRequest_pending (l : Link) (op reqId target : Nat) (f : State → State) (h : ∀ t, (f t).pending = t.pending) (s : State) :
    (bulkRequest l op reqId target f s).pending = s.pending := by
  unfold bulkRequest; dsimp only; (repeat' split) <;> simp [h]

@[simp] theorem readRecord_fixed (l : Link) (reqId target first count : Nat) (s : State) :
    (readRecord l reqId target first count s).lc = s.lc ∧ (readRecord l reqId target first count s).pending = s.pending := by
  unfold readRecord
  exact ⟨bulkRequest_lc _ _ _ _ _ (by intro t; (repeat' split) <;> simp) s,
    bulkRequest_pending _ _ _ _ _ (by intro t; (repeat' split) <;> simp) s⟩

@[simp] theorem readDriveBlocks_fixed (l : Link) (reqId block first count : Nat) (s : State) :
    (readDriveBlocks l reqId block first count s).lc = s.lc ∧ (readDriveBlocks l reqId block first count s).pending = s.pending := by simp [readDriveBlocks]

@[simp] theorem cancelBulk_fixed (l : Link) (reqId : Nat) (s : State) :
    (cancelBulk l reqId s).lc = s.lc ∧ (cancelBulk l reqId s).pending = s.pending := by
  unfold cancelBulk
  exact ⟨bulkRequest_lc _ _ _ _ _ (by intro t; split <;> simp) s,
    bulkRequest_pending _ _ _ _ _ (by intro t; split <;> simp) s⟩

@[simp] theorem badBulk_fixed (l : Link) (op reqId target : Nat) (s : State) :
    (badBulk l op reqId target s).lc = s.lc ∧ (badBulk l op reqId target s).pending = s.pending := by simp [badBulk]

@[simp] theorem bulkFrame_fixed (l : Link) (body : List Byte) (s : State) :
    (bulkFrame l body s).lc = s.lc ∧ (bulkFrame l body s).pending = s.pending := by
  unfold bulkFrame
  (try dsimp only)
  (repeat' split) <;> simp

@[simp] theorem bulkGot_fixed (l : Link) (tag blk : Nat) (s : State) :
    (bulkGot l tag blk s).lc = s.lc ∧ (bulkGot l tag blk s).pending = s.pending := by unfold bulkGot; (repeat' split) <;> simp

@[simp] theorem bulkFailed_fixed (l : Link) (tag : Nat) (s : State) :
    (bulkFailed l tag s).lc = s.lc ∧ (bulkFailed l tag s).pending = s.pending := by unfold bulkFailed; (repeat' split) <;> simp

@[simp] theorem commandDone_fixed (j : NvmeJob) (s : State) :
    (commandDone j s).lc = s.lc ∧ (commandDone j s).pending = s.pending := by unfold commandDone; (repeat' split) <;> simp

@[simp] theorem commandFailed_fixed (c : NvmeCmd) (s : State) :
    (commandFailed c s).lc = s.lc ∧ (commandFailed c s).pending = s.pending := by unfold commandFailed; (repeat' split) <;> simp

@[simp] theorem nvmeCompletion_fixed (pair cid : Nat) (st : NvmeStatus) (s : State) :
    (nvmeCompletion pair cid st s).lc = s.lc ∧ (nvmeCompletion pair cid st s).pending = s.pending := by unfold nvmeCompletion; (repeat' split) <;> simp

@[simp] theorem endAllBulk_fixed (s : State) :
    (endAllBulk s).lc = s.lc ∧ (endAllBulk s).pending = s.pending := by simp [endAllBulk]

@[simp] theorem settleBulk_fixed (s : State) :
    (settleBulk s).lc = s.lc ∧ (settleBulk s).pending = s.pending := by simp [settleBulk]

@[simp] theorem resetController_fixed (fatal : Bool) (s : State) :
    (resetController fatal s).lc = s.lc ∧ (resetController fatal s).pending = s.pending := by
  unfold resetController
  dsimp only
  refine ⟨?_, ?_⟩
  · simp only [settleBulk_fixed]
    rw [forAll_lc _ _ (by intro x t; split <;> simp)]; simp
  · simp only [settleBulk_fixed]
    rw [forAll_pending _ _ (by intro x t; split <;> simp)]; simp

@[simp] theorem abortCommand_fixed (c : NvmeCmd) (abortDone : Bool) (s : State) :
    (abortCommand c abortDone s).lc = s.lc ∧ (abortCommand c abortDone s).pending = s.pending := by simp [abortCommand]

@[simp] theorem cmdTimeout_fixed (pair cid : Nat) (abortDone fatal : Bool) (s : State) :
    (cmdTimeout pair cid abortDone fatal s).lc = s.lc ∧ (cmdTimeout pair cid abortDone fatal s).pending = s.pending := by unfold cmdTimeout; (repeat' split) <;> simp

@[simp] theorem driveLost_fixed (s : State) :
    (driveLost s).lc = s.lc ∧ (driveLost s).pending = s.pending := by simp [driveLost]

/-! ## Reset -/

@[simp] theorem deviceReset_fixed (cause : Nat) (s : State) :
    (deviceReset cause s).lc = s.lc ∧ (deviceReset cause s).pending = s.pending := by simp [deviceReset]

@[simp] theorem powerOnReset_fixed (s : State) :
    (powerOnReset s).lc = s.lc ∧ (powerOnReset s).pending = s.pending := by simp [powerOnReset]

@[simp] theorem vddAonFall_fixed (s : State) :
    (vddAonFall s).lc = s.lc ∧ (vddAonFall s).pending = s.pending := by simp [vddAonFall]

@[simp] theorem resetN_fixed (s : State) :
    (resetN s).lc = s.lc ∧ (resetN s).pending = s.pending := by simp [resetN]

@[simp] theorem thermalRestart_fixed (s : State) :
    (thermalRestart s).lc = s.lc ∧ (thermalRestart s).pending = s.pending := by simp [thermalRestart]

@[simp] theorem restartSettles_fixed (s : State) :
    (restartSettles s).lc = s.lc ∧ (restartSettles s).pending = s.pending := by simp [restartSettles]

@[simp] theorem boot_fixed (s : State) :
    (boot s).lc = s.lc ∧ (boot s).pending = s.pending := by unfold boot; (repeat' split) <;> simp

@[simp] theorem startCells_fixed (p : Nat) (s : State) :
    (startCells p s).lc = s.lc ∧ (startCells p s).pending = s.pending := by simp [startCells]

@[simp] theorem readNvm_fixed (bad : List Nat) (s : State) :
    (readNvm bad s).lc = s.lc ∧ (readNvm bad s).pending = s.pending := by simp [readNvm]

@[simp] theorem loadSet_fixed (s : State) :
    (loadSet s).lc = s.lc ∧ (loadSet s).pending = s.pending := by unfold loadSet; (repeat' split) <;> simp

@[simp] theorem startQuality_fixed (s : State) :
    (startQuality s).lc = s.lc ∧ (startQuality s).pending = s.pending := by simp [startQuality]

@[simp] theorem goldenCheck_fixed (s : State) :
    (goldenCheck s).lc = s.lc ∧ (goldenCheck s).pending = s.pending := by simp [goldenCheck]

@[simp] theorem startupCore_fixed (bad : List Nat) (s : State) :
    (startupCore bad s).lc = s.lc ∧ (startupCore bad s).pending = s.pending := by simp [startupCore]

@[simp] theorem keptProgramEnds_fixed (verified : Bool) (s : State) :
    (keptProgramEnds verified s).lc = s.lc ∧ (keptProgramEnds verified s).pending = s.pending := by unfold keptProgramEnds; (repeat' split) <;> simp

@[simp] theorem keptMarkerEnds_fixed (nvmOk : Bool) (s : State) :
    (keptMarkerEnds nvmOk s).lc = s.lc ∧ (keptMarkerEnds nvmOk s).pending = s.pending := by unfold keptMarkerEnds; (repeat' split) <;> simp

/-! ## Writes -/

@[simp] theorem clusterTarget_fixed (k : Nat) (v : Int) (s : State) :
    (clusterTarget k v s).lc = s.lc ∧ (clusterTarget k v s).pending = s.pending := by simp [clusterTarget]

@[simp] theorem takeSetting_lc (code rc inst : Nat) (v : Int) (change : State → State) (h : ∀ t, (change t).lc = t.lc) (s : State) :
    (takeSetting code rc inst v change s).lc = s.lc := by
  unfold takeSetting; dsimp only; (repeat' split) <;> simp [h, withTwinChange_lc _ _ h]

@[simp] theorem takeSetting_pending (code rc inst : Nat) (v : Int) (change : State → State) (h : ∀ t, (change t).pending = t.pending) (s : State) :
    (takeSetting code rc inst v change s).pending = s.pending := by
  unfold takeSetting; dsimp only; (repeat' split) <;> simp [h, withTwinChange_pending _ _ h]

@[simp] theorem clearReg_fixed (code inst : Nat) (s : State) :
    (clearReg code inst s).lc = s.lc ∧ (clearReg code inst s).pending = s.pending := by simp [clearReg]

@[simp] theorem State.jointForm_fixed (s : State) (target : Tab Int) (doms : Tab (List Byte)) :
    (State.jointForm s target doms).lc = s.lc ∧ (State.jointForm s target doms).pending = s.pending := by simp [State.jointForm]

@[simp] theorem jointValue_fixed (form : State) (now : State) (e : Nat × Option Int) (s : State) :
    (jointValue form now e s).lc = s.lc ∧ (jointValue form now e s).pending = s.pending := by unfold jointValue; (repeat' split) <;> simp

@[simp] theorem jointWrite_fixed (target : Tab Int) (doms : Tab (List Byte)) (s : State) :
    (jointWrite target doms s).lc = s.lc ∧ (jointWrite target doms s).pending = s.pending := by simp [jointWrite]

@[simp] theorem defaultsWrite_fixed (s : State) :
    (defaultsWrite s).lc = s.lc ∧ (defaultsWrite s).pending = s.pending := by simp [defaultsWrite]

@[simp] theorem revertWrite_fixed (s : State) :
    (revertWrite s).lc = s.lc ∧ (revertWrite s).pending = s.pending := by unfold revertWrite; (repeat' split) <;> simp

@[simp] theorem endTransfer_fixed (q : Path) (s : State) :
    (endTransfer q s).lc = s.lc ∧ (endTransfer q s).pending = s.pending := by unfold endTransfer; (repeat' split) <;> simp

@[simp] theorem lcRefuse_fixed (s : State) :
    (lcRefuse s).lc = s.lc ∧ (lcRefuse s).pending = s.pending := by simp [lcRefuse]

@[simp] theorem forceDefault_fixed (e : Nat × Option Int) (s : State) :
    (forceDefault e s).lc = s.lc ∧ (forceDefault e s).pending = s.pending := by simp [forceDefault]

@[simp] theorem forceDefaults_fixed (s : State) :
    (forceDefaults s).lc = s.lc ∧ (forceDefaults s).pending = s.pending := by simp [forceDefaults]

@[simp] theorem lcErasure_fixed (s : State) :
    (lcErasure s).lc = s.lc ∧ (lcErasure s).pending = s.pending := by simp [lcErasure]

@[simp] theorem writePath_fixed (q : Path) (code n : Nat) (s : State) :
    (writePath q code n s).lc = s.lc ∧ (writePath q code n s).pending = s.pending := by simp [writePath]

@[simp] theorem writeCell_fixed (i code n master : Nat) (s : State) :
    (writeCell i code n master s).lc = s.lc ∧ (writeCell i code n master s).pending = s.pending := by unfold writeCell; (repeat' split) <;> simp

@[simp] theorem twinCommand_fixed (p : Nat) (back : Bool) (s : State) :
    (twinCommand p back s).lc = s.lc ∧ (twinCommand p back s).pending = s.pending := by unfold twinCommand; (repeat' split) <;> simp

@[simp] theorem archFormatWrite_fixed (s : State) :
    (archFormatWrite s).lc = s.lc ∧ (archFormatWrite s).pending = s.pending := by simp [archFormatWrite]

@[simp] theorem archAdoptWrite_fixed (s : State) :
    (archAdoptWrite s).lc = s.lc ∧ (archAdoptWrite s).pending = s.pending := by simp [archAdoptWrite]

@[simp] theorem portCommand_fixed (code inst : Nat) (v : Int) (s : State) :
    (portCommand code inst v s).lc = s.lc ∧ (portCommand code inst v s).pending = s.pending := by simp [portCommand]

@[simp] theorem deviceCommand_fixed (code rc : Nat) (v : Int) (s : State) :
    (deviceCommand code rc v s).lc = s.lc ∧ (deviceCommand code rc v s).pending = s.pending := by simp [deviceCommand]

@[simp] theorem hostWrite_fixed (q : Path) (o : Obj) (code inst : Nat) (v : Int) (master : Nat) (s : State) :
    (hostWrite q o code inst v master s).lc = s.lc ∧ (hostWrite q o code inst v master s).pending = s.pending := by unfold hostWrite; (repeat' split) <;> simp

/-! ## Access -/

@[simp] theorem selectionRefused_fixed (q : Path) (o : Obj) (a : Nat) (s : State) :
    (selectionRefused q o a s).2.lc = s.lc ∧ (selectionRefused q o a s).2.pending = s.pending := by simp [selectionRefused]

theorem readError_fixed (q : Path) (o : Obj) (code inst : Nat) (s t : State) (h : readError q o code inst s = some t) :
    t.lc = s.lc ∧ t.pending = s.pending := by
  unfold readError at h
  (repeat' split at h) <;> first | (cases h; simp; done) | cases h | skip
  simp only [Option.map_eq_some_iff] at h
  obtain ⟨w, -, rfl⟩ := h
  simp

@[simp] theorem readScalar_fixed (q : Path) (r : MgmtReq) (o : Obj) (code inst : Nat) (s : State) :
    (readScalar q r o code inst s).2.lc = s.lc ∧ (readScalar q r o code inst s).2.pending = s.pending := by
  unfold readScalar
  dsimp only
  (repeat' split) <;> try (simp; done)
  rename_i h; exact readError_fixed _ _ _ _ _ _ h

@[simp] theorem closeTransfer_fixed (q : Path) (s : State) :
    (closeTransfer q s).lc = s.lc ∧ (closeTransfer q s).pending = s.pending := by simp [closeTransfer]

@[simp] theorem replaceTransfer_fixed (q : Path) (x : Option Xfer) (s : State) :
    (replaceTransfer q x s).lc = s.lc ∧ (replaceTransfer q x s).pending = s.pending := by simp [replaceTransfer]

@[simp] theorem autoStep_fixed (q : Path) (code : Nat) (s : State) :
    (autoStep q code s).lc = s.lc ∧ (autoStep q code s).pending = s.pending := by simp [autoStep]

@[simp] theorem domainRead_fixed (q : Path) (r : MgmtReq) (o : Obj) (code inst : Nat) (s : State) :
    (domainRead q r o code inst s).2.lc = s.lc ∧ (domainRead q r o code inst s).2.pending = s.pending := by
  unfold domainRead
  dsimp only
  (repeat' split) <;> try (simp; done)
  rename_i h; exact readError_fixed _ _ _ _ _ _ h

@[simp] theorem storeDomain_fixed (code inst : Nat) (bs : List Byte) (s : State) :
    (storeDomain code inst bs s).lc = s.lc ∧ (storeDomain code inst bs s).pending = s.pending := by simp [storeDomain]

@[simp] theorem domainWrite_fixed (q : Path) (r : MgmtReq) (o : Obj) (code inst : Nat) (s : State) :
    (domainWrite q r o code inst s).2.lc = s.lc ∧ (domainWrite q r o code inst s).2.pending = s.pending := by unfold domainWrite; (repeat' split) <;> simp

@[simp] theorem segmentRead_fixed (q : Path) (r : MgmtReq) (s : State) :
    (segmentRead q r s).2.lc = s.lc ∧ (segmentRead q r s).2.pending = s.pending := by unfold segmentRead; (repeat' split) <;> simp

@[simp] theorem segmentWrite_fixed (q : Path) (r : MgmtReq) (o : Obj) (s : State) :
    (segmentWrite q r o s).2.lc = s.lc ∧ (segmentWrite q r o s).2.pending = s.pending := by
  unfold segmentWrite
  (try dsimp only)
  (repeat' split) <;> simp

@[simp] theorem transferTimeout_fixed (q : Path) (s : State) :
    (transferTimeout q s).lc = s.lc ∧ (transferTimeout q s).pending = s.pending := by unfold transferTimeout; (repeat' split) <;> simp

@[simp] theorem countAbort_fixed (q : Path) (y : Reply) (s : State) :
    (countAbort q y s).lc = s.lc ∧ (countAbort q y s).pending = s.pending := by unfold countAbort; (repeat' split) <;> simp

@[simp] theorem answer_fixed (q : Path) (r : MgmtReq) (y : Reply) (s : State) :
    (answer q r y s).lc = s.lc ∧ (answer q r y s).pending = s.pending := by unfold answer; (repeat' split) <;> simp

@[simp] theorem commandedReset_fixed (q : Path) (bytes : List Byte) (s : State) :
    (commandedReset q bytes s).lc = s.lc ∧ (commandedReset q bytes s).pending = s.pending := by simp [commandedReset]

@[simp] theorem resetCommand_fixed (q : Path) (r : MgmtReq) (y : Reply) (s : State) :
    (resetCommand q r y s).lc = s.lc ∧ (resetCommand q r y s).pending = s.pending := by unfold resetCommand; (repeat' split) <;> simp

@[simp] theorem spiReject_fixed (s : State) :
    (spiReject s).lc = s.lc ∧ (spiReject s).pending = s.pending := by simp [spiReject]

@[simp] theorem spiOut_fixed (status : Byte) (bs : List Byte) (s : State) :
    (spiOut status bs s).lc = s.lc ∧ (spiOut status bs s).pending = s.pending := by simp [spiOut]

@[simp] theorem spiStatusCmd_fixed (clocked : Nat) (s : State) :
    (spiStatusCmd clocked s).lc = s.lc ∧ (spiStatusCmd clocked s).pending = s.pending := by simp [spiStatusCmd]

@[simp] theorem spiFetch_fixed (clocked : Nat) (s : State) :
    (spiFetch clocked s).lc = s.lc ∧ (spiFetch clocked s).pending = s.pending := by simp [spiFetch]

@[simp] theorem spiAbandon_fixed (clocked : Nat) (s : State) :
    (spiAbandon clocked s).lc = s.lc ∧ (spiAbandon clocked s).pending = s.pending := by simp [spiAbandon]

@[simp] theorem spiUnknown_fixed (clocked : Nat) (s : State) :
    (spiUnknown clocked s).lc = s.lc ∧ (spiUnknown clocked s).pending = s.pending := by simp [spiUnknown]

@[simp] theorem syncSeen_fixed (l : Link) (h0 h1 : Nat) (s : State) :
    (syncSeen l h0 h1 s).lc = s.lc ∧ (syncSeen l h0 h1 s).pending = s.pending := by simp [syncSeen]

@[simp] theorem alignMissed_fixed (l : Link) (s : State) :
    (alignMissed l s).lc = s.lc ∧ (alignMissed l s).pending = s.pending := by simp [alignMissed]

/-! ## Cycle -/

@[simp] theorem beaconDatum_fixed (d k p : Nat) (s : State) :
    (beaconDatum d k p s).lc = s.lc ∧ (beaconDatum d k p s).pending = s.pending := by simp [beaconDatum]

@[simp] theorem clusterDatum_fixed (d k : Nat) (s : State) :
    (clusterDatum d k s).lc = s.lc ∧ (clusterDatum d k s).pending = s.pending := by simp [clusterDatum]

@[simp] theorem stampCells_fixed (second : Nat) (s : State) :
    (stampCells second s).lc = s.lc ∧ (stampCells second s).pending = s.pending := by simp [stampCells]

@[simp] theorem firstDatumWork_fixed (second : Nat) (s : State) :
    (firstDatumWork second s).lc = s.lc ∧ (firstDatumWork second s).pending = s.pending := by simp [firstDatumWork]

@[simp] theorem datum_fixed (xo : Int) (s : State) :
    (datum xo s).lc = s.lc ∧ (datum xo s).pending = s.pending := by simp [datum]

@[simp] theorem closeDrop_fixed (p : Nat) (periodEnds : Bool) (d : Nat) (s : State) :
    (closeDrop p periodEnds d s).lc = s.lc ∧ (closeDrop p periodEnds d s).pending = s.pending := by simp [closeDrop]

@[simp] theorem closePort_fixed (p : Nat) (s : State) :
    (closePort p s).lc = s.lc ∧ (closePort p s).pending = s.pending := by simp [closePort]

@[simp] theorem endBranch_fixed (p : Nat) (s : State) :
    (endBranch p s).lc = s.lc ∧ (endBranch p s).pending = s.pending := by simp [endBranch]

@[simp] theorem leaveMode_fixed (p : Nat) (s : State) :
    (leaveMode p s).lc = s.lc ∧ (leaveMode p s).pending = s.pending := by
  have key : ∀ t : State, (freeEngine p (calStops p ((abandonRun p t).modPort p (fun x => { x with mode := 0, onLine := [], steep := false })))).lc = t.lc ∧
      (freeEngine p (calStops p ((abandonRun p t).modPort p (fun x => { x with mode := 0, onLine := [], steep := false })))).pending = t.pending :=
    fun t => by simp
  unfold leaveMode
  dsimp only
  simp only [key]
  split
  · simp
  · exact ⟨rfl, rfl⟩

@[simp] theorem enterMode_fixed (p m : Nat) (s : State) :
    (enterMode p m s).lc = s.lc ∧ (enterMode p m s).pending = s.pending := by
  unfold enterMode
  dsimp only
  have key : ∀ t : State, (if (t.port p).stopped ∧ ((resumePort p t).port p).stopped then
      fault 9 [p] [(1, p), (1, (resumePort p t).engineFor p)] (resumePort p t) else resumePort p t).lc = t.lc ∧
      (if (t.port p).stopped ∧ ((resumePort p t).port p).stopped then
      fault 9 [p] [(1, p), (1, (resumePort p t).engineFor p)] (resumePort p t) else resumePort p t).pending = t.pending := by
    intro t; split <;> simp
  rw [(key _).1, (key _).2]
  have one : ∀ t : State, (if (t.port p).begun then t else t.modPort p (fun x => { x with begun := true, rollHeld := true, hold := 2064 })).lc = t.lc ∧
      (if (t.port p).begun then t else t.modPort p (fun x => { x with begun := true, rollHeld := true, hold := 2064 })).pending = t.pending := by
    intro t; split <;> exact ⟨rfl, rfl⟩
  split
  · simp only [one, rollOpened_fixed]
    split <;> exact leaveSteep_fixed p s
  · exact leaveSteep_fixed p s

@[simp] theorem takeMode_fixed (p : Nat) (s : State) :
    (takeMode p s).lc = s.lc ∧ (takeMode p s).pending = s.pending := by
  unfold takeMode
  dsimp only
  (repeat' split) <;> simp <;> (repeat' split) <;> simp

@[simp] theorem applyMode_fixed (p : Nat) (s : State) :
    (applyMode p s).lc = s.lc ∧ (applyMode p s).pending = s.pending := by simp [applyMode]

@[simp] theorem loadsCode_fixed (k : Nat) (s : State) :
    (loadsCode k s).lc = s.lc ∧ (loadsCode k s).pending = s.pending := by simp [loadsCode]

@[simp] theorem wakePort_fixed (p : Nat) (s : State) :
    (wakePort p s).lc = s.lc ∧ (wakePort p s).pending = s.pending := by simp [wakePort]

@[simp] theorem wakeStepPorts_fixed (k : Nat) (m : WakeMeasure) (s : State) :
    (wakeStepPorts k m s).lc = s.lc ∧ (wakeStepPorts k m s).pending = s.pending := by simp [wakeStepPorts]

theorem placeBurst_fixed (p limit : Nat) (b : Burst) (s t : State) (h : placeBurst p limit b s = some t) :
    t.lc = s.lc ∧ t.pending = s.pending := by
  unfold placeBurst at h
  dsimp only at h
  split at h
  · cases h; simp
  · cases h

theorem sendToDrop_fixed (p d typ seq flags : Nat) (acks : Bool) (payload : List Byte) (s t : State)
    (h : sendToDrop p d typ seq flags acks payload s = some t) : t.lc = s.lc ∧ t.pending = s.pending := by
  unfold sendToDrop at h
  dsimp only at h
  simp only [Option.map_eq_some_iff] at h
  obtain ⟨u, hu, rfl⟩ := h
  have := placeBurst_fixed _ _ _ _ _ hu
  simp [this.1, this.2]

theorem sendSequenced_fixed (p d typ flags : Nat) (acks rep : Bool) (payload : List Byte) (s t : State)
    (h : sendSequenced p d typ flags acks rep payload s = some t) : t.lc = s.lc ∧ t.pending = s.pending := by
  unfold sendSequenced at h
  dsimp only at h
  split at h
  · cases h
  · simp only [Option.map_eq_some_iff] at h
    obtain ⟨u, hu, rfl⟩ := h
    have := sendToDrop_fixed _ _ _ _ _ _ _ _ _ hu
    simp [this.1, this.2]

@[simp] theorem sendAdmit_fixed (p : Nat) (s : State) :
    (sendAdmit p s).lc = s.lc ∧ (sendAdmit p s).pending = s.pending := by
  unfold sendAdmit
  split
  · exact ⟨rfl, rfl⟩
  · rename_i bs _
    have key : ∀ (n : Nat) (b : Burst), (((placeBurst p n b s).map (admitTaken p)).getD s).lc = s.lc ∧
        (((placeBurst p n b s).map (admitTaken p)).getD s).pending = s.pending := by
      intro n b
      cases h : placeBurst p n b s with
      | none => exact ⟨rfl, rfl⟩
      | some t => have := placeBurst_fixed _ _ _ _ _ h; simp [this.1, this.2]
    exact key _ _

@[simp] theorem sendSound_fixed (p : Nat) (s : State) :
    (sendSound p s).lc = s.lc ∧ (sendSound p s).pending = s.pending := by
  have key : ∀ (lim d : Nat) (b : Burst) (t : State), ((placeBurst p lim b s).map (fun t =>
      t.modCtx p d (fun y => { y with sinceTx := 0 }))) = some t → t.lc = s.lc ∧ t.pending = s.pending := by
    intro lim d b t h
    simp only [Option.map_eq_some_iff] at h
    obtain ⟨u, hu, rfl⟩ := h
    have := placeBurst_fixed _ _ _ _ _ hu
    simp [this.1, this.2]
  unfold sendSound
  (repeat' split) <;> try (simp; done)
  exact ⟨getD_lc (fun t h => (key _ _ _ t h).1) rfl, getD_pending (fun t h => (key _ _ _ t h).2) rfl⟩

@[simp] theorem sendAgain_fixed (p : Nat) (acked : List Nat) (d : Nat) (s : State) :
    (sendAgain p acked d s).lc = s.lc ∧ (sendAgain p acked d s).pending = s.pending := by
  unfold sendAgain
  refine ⟨forAll_lc _ _ (fun f t => ?_) s, forAll_pending _ _ (fun f t => ?_) s⟩
  all_goals
    split
    · rfl
    · rename_i u hu
      have := sendToDrop_fixed _ _ _ _ _ _ _ _ _ hu
      simp [this.1, this.2]

@[simp] theorem sendMsg_fixed (p : Nat) (acked : List Nat) (m : OutMsg) (s : State) :
    (sendMsg p acked m s).lc = s.lc ∧ (sendMsg p acked m s).pending = s.pending := by
  unfold sendMsg
  dsimp only
  split
  · simp
  · split
    · simp
    · rename_i u hu
      have := sendSequenced_fixed _ _ _ _ _ _ _ _ _ hu
      simp [this.1, this.2]

theorem sendQueued_fixed (p : Nat) (acked : List Nat) (d : Nat) (s t : State)
    (h : sendQueued p acked d s = some t) : t.lc = s.lc ∧ t.pending = s.pending := by
  unfold sendQueued at h
  dsimp only at h
  (repeat' split at h) <;> try cases h
  simp only [Option.map_eq_some_iff] at h
  obtain ⟨u, hu, rfl⟩ := h
  have := sendSequenced_fixed _ _ _ _ _ _ _ _ _ hu
  simp [this.1, this.2]

@[simp] theorem sendAck_fixed (p : Nat) (acked : List Nat) (d : Nat) (s : State) :
    (sendAck p acked d s).lc = s.lc ∧ (sendAck p acked d s).pending = s.pending := by
  unfold sendAck
  dsimp only
  (repeat' split) <;> try (simp; done)
  all_goals first
  | (rename_i u hu; have := sendQueued_fixed _ _ _ _ _ hu; simpa using this)
  | exact ⟨getD_lc (fun t h => by have := sendToDrop_fixed _ _ _ _ _ _ _ _ _ h; simpa using this.1) (by simp),
      getD_pending (fun t h => by have := sendToDrop_fixed _ _ _ _ _ _ _ _ _ h; simpa using this.2) (by simp)⟩
  | (refine ⟨getD_lc (fun t h => ?_) rfl, getD_pending (fun t h => ?_) rfl⟩ <;>
      (simp only [Option.map_eq_some_iff] at h
       obtain ⟨u, hu, rfl⟩ := h
       have := sendToDrop_fixed _ _ _ _ _ _ _ _ _ hu
       simpa using (by first | exact this.1 | exact this.2)))

@[simp] theorem fillTurn_fixed (p : Nat) (acked ds : List Nat) (s : State) :
    (fillTurn p acked ds s).1.lc = s.lc ∧ (fillTurn p acked ds s).1.pending = s.pending := by
  induction ds generalizing s with
  | nil => simp [fillTurn]
  | cons d rest ih =>
    unfold fillTurn
    split
    · exact ih s
    · rename_i t ht
      have := sendQueued_fixed _ _ _ _ _ ht
      simp [ih, this.1, this.2]

@[simp] theorem fillWindow_fixed (fuel p : Nat) (acked ds : List Nat) (first : Option Nat) (s : State) :
    (fillWindow fuel p acked ds first s).1.lc = s.lc ∧ (fillWindow fuel p acked ds first s).1.pending = s.pending := by
  induction fuel generalizing first s with
  | zero => simp [fillWindow]
  | succ n ih => simp only [fillWindow]; split <;> simp [ih]

@[simp] theorem fillDown_fixed (p : Nat) (acked : List Nat) (s : State) :
    (fillDown p acked s).lc = s.lc ∧ (fillDown p acked s).pending = s.pending := by
  unfold fillDown
  (try dsimp only)
  (repeat' split) <;> simp

@[simp] theorem downstream_fixed (p : Nat) (s : State) :
    (downstream p s).lc = s.lc ∧ (downstream p s).pending = s.pending := by simp [downstream]

@[simp] theorem standbyDue_fixed (q d : Nat) (s : State) :
    (standbyDue q d s).lc = s.lc ∧ (standbyDue q d s).pending = s.pending := by
  unfold standbyDue
  (try dsimp only)
  (repeat' split) <;> simp

@[simp] theorem openDrop_fixed (p d : Nat) (s : State) :
    (openDrop p d s).lc = s.lc ∧ (openDrop p d s).pending = s.pending := by simp [openDrop]

@[simp] theorem resetRx_fixed (p : Nat) (idle : Bool) (s : State) :
    (resetRx p idle s).lc = s.lc ∧ (resetRx p idle s).pending = s.pending := by simp [resetRx]

@[simp] theorem branchCycle_fixed (p : Nat) (s : State) :
    (branchCycle p s).lc = s.lc ∧ (branchCycle p s).pending = s.pending := by simp [branchCycle]

@[simp] theorem countShort_fixed (p : Nat) (s : State) :
    (countShort p s).lc = s.lc ∧ (countShort p s).pending = s.pending := by simp [countShort]

@[simp] theorem stopHalfless_fixed (p : Nat) (s : State) :
    (stopHalfless p s).lc = s.lc ∧ (stopHalfless p s).pending = s.pending := by simp [stopHalfless]

@[simp] theorem passBeacon_fixed (p : Nat) (s : State) :
    (passBeacon p s).lc = s.lc ∧ (passBeacon p s).pending = s.pending := by simp [passBeacon]

@[simp] theorem openPort_fixed (es : List Echo) (p : Nat) (s : State) :
    (openPort es p s).lc = s.lc ∧ (openPort es p s).pending = s.pending := by simp [openPort]

@[simp] theorem stopForRealign_fixed (s : State) :
    (stopForRealign s).lc = s.lc ∧ (stopForRealign s).pending = s.pending := by simp [stopForRealign]

@[simp] theorem cycleStart_fixed (es : List Echo) (s : State) :
    (cycleStart es s).lc = s.lc ∧ (cycleStart es s).pending = s.pending := by simp [cycleStart]

@[simp] theorem timeAnnounce_fixed (s : State) :
    (timeAnnounce s).lc = s.lc ∧ (timeAnnounce s).pending = s.pending := by unfold timeAnnounce; (repeat' split) <;> simp

@[simp] theorem epochApplies_fixed (s : State) :
    (epochApplies s).lc = s.lc ∧ (epochApplies s).pending = s.pending := by unfold epochApplies; (repeat' split) <;> simp

@[simp] theorem injectedRaise_fixed (s : State) :
    (injectedRaise s).lc = s.lc ∧ (injectedRaise s).pending = s.pending := by unfold injectedRaise; (repeat' split) <;> simp

end Sys2Proof.Machine
end

