-- ==== Sys2Proof/Laws/LifeCycle.lean ====
section
/-! SUPPORT. What a request may do to the life-cycle state: it stays or moves forward, and never beyond RETURN (R365); the
queue of waiting commands stays. -/

namespace Sys2Proof.Machine

/-- What a request may do to the queue and the life-cycle state (R365). -/
def LcForward (s t : State) : Prop := t.pending = s.pending ∧ s.lc ≤ t.lc ∧ (s.lc ≤ 3 → t.lc ≤ 3)

theorem LcForward.of_fixed {s t : State} (h : t.lc = s.lc ∧ t.pending = s.pending) : LcForward s t :=
  ⟨h.2, by omega, by omega⟩

theorem LcForward.trans {s t u : State} (h : LcForward s t) (k : LcForward t u) : LcForward s u :=
  ⟨k.1.trans h.1, Nat.le_trans h.2.1 k.2.1, fun x => k.2.2 (h.2.2 x)⟩

@[simp] theorem lcAdvance_pending (s : State) : (lcAdvance s).pending = s.pending := by simp [lcAdvance]
@[simp] theorem lcAdvance_lc (s : State) : (lcAdvance s).lc = s.lc + 1 := by simp [lcAdvance]

theorem lcAccepts_lt {s : State} {v : Nat} (h : s.lcAccepts v = true) : s.lc < 3 := by
  simp only [State.lcAccepts, Bool.and_eq_true, decide_eq_true_eq] at h
  omega

theorem writeScalar_forward (q : Path) (r : MgmtReq) (o : Obj) (code inst : Nat) (s : State) :
    LcForward s (writeScalar q r o code inst s).2 := by
  unfold writeScalar
  split
  · exact .of_fixed (by simp)
  · split
    · exact .of_fixed (by simp)
    · split
      · exact .of_fixed (by simp)
      · split
        · split
          · rename_i h
            have := lcAccepts_lt h
            exact ⟨by simp, by simp, by simp; omega⟩
          · exact .of_fixed (by simp)
        · exact .of_fixed (by simp)

theorem execute_forward (q : Path) (r : MgmtReq) (s : State) : LcForward s (execute q r s).2 := by
  unfold execute
  dsimp only
  (repeat' split) <;> first
  | exact writeScalar_forward _ _ _ _ _ _
  | (refine .of_fixed ?_; simp; done)

theorem LcForward.refl (s : State) : LcForward s s := .of_fixed ⟨rfl, rfl⟩

theorem serve_forward (q : Path) (r : MgmtReq) (s : State) : LcForward s (serve q r s) :=
  (execute_forward q r s).trans (.of_fixed (by simp [serve]))

theorem admitRequest_forward (q : Path) (r : MgmtReq) (s : State) : LcForward s (admitRequest q r s) := by
  unfold admitRequest
  split
  · exact .of_fixed (by simp)
  · exact serve_forward q r s

theorem request_forward (q : Path) (r : MgmtReq) (s : State) : LcForward s (request q r s) := by
  unfold request
  split
  · split
    · exact .of_fixed (by simp)
    · exact LcForward.trans (.of_fixed (by simp)) (admitRequest_forward q r _)
  · dsimp only
    (repeat' split) <;> first
    | (refine .of_fixed ?_; simp; done)
    | exact admitRequest_forward q r s
    | (refine (admitRequest_forward q r s).trans (.of_fixed ?_); simp; done)

theorem serveAll_forward (rs : List (Path × MgmtReq)) (s : State) : LcForward s (serveAll rs s) := by
  induction rs generalizing s with
  | nil => exact .of_fixed (by simp [serveAll])
  | cons e rest ih =>
    unfold serveAll
    split
    · exact (admitRequest_forward e.1 e.2 s).trans (ih _)
    · exact .of_fixed (by simp)

theorem serveWaiting_forward (s : State) : LcForward s (serveWaiting s) :=
  LcForward.trans (.of_fixed (by simp)) (serveAll_forward s.mgmt.waiting _)

theorem mcResetEnd_forward (s : State) : LcForward s (mcResetEnd s) := by
  unfold mcResetEnd
  split
  · exact LcForward.trans (.of_fixed (by simp)) (serveWaiting_forward _)
  · exact .of_fixed (by simp)

theorem startup_forward (bad : List Nat) (s : State) : LcForward s (startup bad s) := by
  unfold startup
  split
  · exact LcForward.trans (.of_fixed (by simp)) (serveWaiting_forward _)
  · exact .of_fixed (by simp)

theorem writeRequest_forward (q : Path) (tid code value : Nat) (s : State) :
    LcForward s (writeRequest q tid code value s) := request_forward _ _ _

theorem spiSend_forward (bytes : List Byte) (s : State) : LcForward s (spiSend bytes s) := by
  unfold spiSend
  dsimp only
  split
  · exact LcForward.trans (.of_fixed (by simp)) (request_forward _ _ _)
  · exact .of_fixed (by simp)

theorem spiTransaction_forward (bytes : List Byte) (s : State) : LcForward s (spiTransaction bytes s) := by
  unfold spiTransaction
  (repeat' split) <;> first
  | (refine .of_fixed ?_; simp; done)
  | exact spiSend_forward _ _

theorem hostFrame_forward (l : Link) (f : HostFrame) (s : State) : LcForward s (hostFrame l f s) := by
  unfold hostFrame
  (repeat' split) <;> first
  | (refine .of_fixed ?_; simp; done)
  | exact request_forward _ _ _

theorem startIn_forward (l : Link) (b : BitVec 64) (s : State) : LcForward s (startIn l b s) := by
  have cut : LcForward s (match (s.link l).rxFrame with
      | some g => hostFrame l g s
      | none => s) := by
    split
    · exact hostFrame_forward _ _ _
    · exact .refl s
  unfold startIn
  dsimp only
  split
  · exact cut.trans (.of_fixed (State.modLink_fixed ..))
  · exact cut.trans (LcForward.trans (.of_fixed (State.modLink_fixed ..)) (hostFrame_forward _ _ _))

theorem blockIn_forward (l : Link) (sync : Nat) (b : BitVec 64) (s : State) : LcForward s (blockIn l sync b s) := by
  unfold blockIn
  dsimp only
  (repeat' split) <;> first
  | exact startIn_forward _ _ _
  | (refine .of_fixed ?_; simp; done)
  | (refine LcForward.trans (.of_fixed ?_) (hostFrame_forward _ _ _); simp; done)

theorem pairIn_forward (l : Link) (lane0 lane1 : List Int) (s : State) : LcForward s (pairIn l lane0 lane1 s) := by
  unfold pairIn
  dsimp only
  (repeat' split) <;> first
  | (refine .of_fixed ?_; simp; done)
  | (refine LcForward.trans (.of_fixed ?_) ((blockIn_forward _ _ _ _).trans (blockIn_forward _ _ _ _)); simp; done)

theorem levelsIn_forward (fuel : Nat) (l : Link) (lane0 lane1 : List Int) (s : State) :
    LcForward s (levelsIn fuel l lane0 lane1 s) := by
  induction fuel generalizing lane0 lane1 s with
  | zero => exact .refl s
  | succ n ih =>
    unfold levelsIn
    split
    · exact .refl s
    · exact (pairIn_forward _ _ _ _).trans (ih _ _ _)

theorem frameError_forward (l : Link) (e : FrameFault) (s : State) : LcForward s (frameError l e s) := by
  unfold frameError
  (repeat' split) <;> first
  | (refine .of_fixed ?_; simp; done)
  | exact hostFrame_forward _ _ _
  | exact levelsIn_forward _ _ _ _ _

end Sys2Proof.Machine
end

