-- ==== Sys2Proof/Laws/Number.lean ====
section
/-! SUPPORT. What changes the time base and leaves TIME64 and RESET_CAUSE alone: the functions of the model below the commands
that Sys2Proof/Laws/Clock.lean leaves out, but for those that renumber or reset (R61, R445). -/

namespace Sys2Proof.Machine

@[simp] theorem ite_t64 (c : Prop) [Decidable c] (a b : State) :
    (if c then a else b).time.time64 = if c then a.time.time64 else b.time.time64 := by split <;> rfl

theorem getD_t64 {o : Option State} {s u : State} (h : ∀ t, o = some t → t.time.time64 = s.time.time64) (hu : u.time.time64 = s.time.time64) :
    (o.getD u).time.time64 = s.time.time64 := by
  cases o with
  | none => exact hu
  | some t => exact h t rfl

/-! ## Tables -/

@[simp] theorem forAll_t64 (xs : List α) (f : α → State → State) (h : ∀ x t, (f x t).time.time64 = t.time.time64) (s : State) : (forAll xs f s).time.time64 = s.time.time64 := by
  induction xs generalizing s with
  | nil => rfl
  | cons x xs ih => simp only [forAll, List.foldl_cons] at ih ⊢; rw [ih, h]

@[simp] theorem onlyIf_t64 (c : Bool) (f : State → State) (s : State) (h : ∀ t, (f t).time.time64 = t.time.time64) : (onlyIf c f s).time.time64 = s.time.time64 := by unfold onlyIf; split <;> simp [-ite_time, h]

/-! ## Ops -/

@[simp] theorem atPort_t64 (p : Nat) (f : State → State) (s : State) (h : ∀ t, (f t).time.time64 = t.time.time64) : (atPort p f s).time.time64 = s.time.time64 := by unfold atPort; split <;> simp [-ite_time, h]

@[simp] theorem atDrop_t64 (p d : Nat) (f : State → State) (s : State) (h : ∀ t, (f t).time.time64 = t.time.time64) : (atDrop p d f s).time.time64 = s.time.time64 := by unfold atDrop; split <;> simp [-ite_time, h]

@[simp] theorem atCluster_t64 (k : Nat) (f : State → State) (s : State) (h : ∀ t, (f t).time.time64 = t.time.time64) : (atCluster k f s).time.time64 = s.time.time64 := by unfold atCluster; split <;> simp [-ite_time, h]

/-! ## Time -/

@[simp] theorem skipTo_number (t : Nat) (s : State) :
    (skipTo t s).time.time64 = s.time.time64 ∧ (skipTo t s).resetCause = s.resetCause := by simp [-ite_time, skipTo]

@[simp] theorem settleBound_number (s : State) :
    (settleBound s).time.time64 = s.time.time64 ∧ (settleBound s).resetCause = s.resetCause := by simp [-ite_time, settleBound]

@[simp] theorem refreshGrade_number (s : State) :
    (refreshGrade s).time.time64 = s.time.time64 ∧ (refreshGrade s).resetCause = s.resetCause := by simp [-ite_time, refreshGrade]

@[simp] theorem sourceChanged_number (s : State) :
    (sourceChanged s).time.time64 = s.time.time64 ∧ (sourceChanged s).resetCause = s.resetCause := by simp [-ite_time, sourceChanged]

@[simp] theorem ref10mQualified_number (s : State) :
    (ref10mQualified s).time.time64 = s.time.time64 ∧ (ref10mQualified s).resetCause = s.resetCause := by simp [-ite_time, ref10mQualified]

@[simp] theorem ref10mDisqualified_number (s : State) :
    (ref10mDisqualified s).time.time64 = s.time.time64 ∧ (ref10mDisqualified s).resetCause = s.resetCause := by simp [-ite_time, ref10mDisqualified]

@[simp] theorem edgeAbsent_number (s : State) :
    (edgeAbsent s).time.time64 = s.time.time64 ∧ (edgeAbsent s).resetCause = s.resetCause := by simp [-ite_time, edgeAbsent]

@[simp] theorem learningComplete_number (xo : Int) (s : State) :
    (learningComplete xo s).time.time64 = s.time.time64 ∧ (learningComplete xo s).resetCause = s.resetCause := by simp [-ite_time, learningComplete]

@[simp] theorem beginRealign_number (s : State) :
    (beginRealign s).time.time64 = s.time.time64 ∧ (beginRealign s).resetCause = s.resetCause := by simp [-ite_time, beginRealign]

@[simp] theorem actOnOffset_number (ns : Int) (s : State) :
    (actOnOffset ns s).time.time64 = s.time.time64 ∧ (actOnOffset ns s).resetCause = s.resetCause := by simp [-ite_time, actOnOffset]

@[simp] theorem gradeChange_number (s : State) :
    (gradeChange s).time.time64 = s.time.time64 ∧ (gradeChange s).resetCause = s.resetCause := by simp [-ite_time, gradeChange]

@[simp] theorem epochSet_number (v : Nat) (s : State) :
    (epochSet v s).time.time64 = s.time.time64 ∧ (epochSet v s).resetCause = s.resetCause := by simp [-ite_time, epochSet]

/-! ## Cells -/

@[simp] theorem updateEach_t64 (f : Nat → Cell → State → State × Cell × List CellChange) (h : ∀ i c t, (f i c t).1.time.time64 = t.time.time64)
    (cs : Tab Cell) (s : State) : (updateEach f cs s).1.time.time64 = s.time.time64 := by
  induction cs generalizing s with
  | nil => rfl
  | cons e rest ih => simp only [updateEach]; rw [ih, h]

/-! ## Nvm -/

@[simp] theorem nvmStartWith_t64 (check : State → Bool × State) (h : ∀ t, (check t).2.time.time64 = t.time.time64) (s : State) :
    (nvmStartWith check s).time.time64 = s.time.time64 := by
  unfold nvmStartWith; dsimp only; (repeat' split) <;> simp [-ite_time, h]

/-! ## Twin -/

@[simp] theorem withTwinChange_t64 (p : Nat) (change : State → State) (h : ∀ t, (change t).time.time64 = t.time.time64) (s : State) :
    (withTwinChange p change s).time.time64 = s.time.time64 := by
  unfold withTwinChange; dsimp only; (repeat' split) <;> simp [-ite_time, h]

/-! ## Trunk -/

@[simp] theorem sourceLost_number (p : Nat) (s : State) :
    (sourceLost p s).time.time64 = s.time.time64 ∧ (sourceLost p s).resetCause = s.resetCause := by simp [-ite_time, sourceLost]

@[simp] theorem trunkLost_number (p reason : Nat) (s : State) :
    (trunkLost p reason s).time.time64 = s.time.time64 ∧ (trunkLost p reason s).resetCause = s.resetCause := by simp [-ite_time, trunkLost]

@[simp] theorem trunkLeaves_number (p : Nat) (s : State) :
    (trunkLeaves p s).time.time64 = s.time.time64 ∧ (trunkLeaves p s).resetCause = s.resetCause := by simp [-ite_time, trunkLeaves]

@[simp] theorem partnerMeasure_number (p : Nat) (aH aP : Int) (msgCycle : Nat) (s : State) :
    (partnerMeasure p aH aP msgCycle s).time.time64 = s.time.time64 ∧ (partnerMeasure p aH aP msgCycle s).resetCause = s.resetCause := by simp [-ite_time, partnerMeasure]

@[simp] theorem partnerTrain_number (p : Nat) (m : TrainMsg) (arrival : Int) (snr : Nat) (s : State) :
    (partnerTrain p m arrival snr s).time.time64 = s.time.time64 ∧ (partnerTrain p m arrival snr s).resetCause = s.resetCause := by unfold partnerTrain; (repeat' split) <;> simp [-ite_time]

@[simp] theorem trunkTrain_number (p : Nat) (bytes : List Byte) (arrival : Int) (snr : Nat) (own : List (List Int × Int)) (s : State) :
    (trunkTrain p bytes arrival snr own s).time.time64 = s.time.time64 ∧ (trunkTrain p bytes arrival snr own s).resetCause = s.resetCause := by unfold trunkTrain; (repeat' split) <;> simp [-ite_time]

@[simp] theorem takeMarker_number (p : Nat) (m : List Byte) (s : State) :
    (takeMarker p m s).time.time64 = s.time.time64 ∧ (takeMarker p m s).resetCause = s.resetCause := by simp [-ite_time, takeMarker]

@[simp] theorem trunkTime_number (p : Nat) (m : List Byte) (arrival : Int) (crcOk : Bool) (s : State) :
    (trunkTime p m arrival crcOk s).time.time64 = s.time.time64 ∧ (trunkTime p m arrival crcOk s).resetCause = s.resetCause := by simp [-ite_time, trunkTime]

@[simp] theorem trunkDown_number (p : Nat) (m : List Byte) (s : State) :
    (trunkDown p m s).time.time64 = s.time.time64 ∧ (trunkDown p m s).resetCause = s.resetCause := by simp [-ite_time, trunkDown]

@[simp] theorem trunkLoss_number (p : Nat) (s : State) :
    (trunkLoss p s).time.time64 = s.time.time64 ∧ (trunkLoss p s).resetCause = s.resetCause := by simp [-ite_time, trunkLoss]

/-! ## Power -/

@[simp] theorem portLost_number (p : Nat) (s : State) :
    (portLost p s).time.time64 = s.time.time64 ∧ (portLost p s).resetCause = s.resetCause := by simp [-ite_time, portLost]

@[simp] theorem clusterGone_number (k : Nat) (s : State) :
    (clusterGone k s).time.time64 = s.time.time64 ∧ (clusterGone k s).resetCause = s.resetCause := by simp [-ite_time, clusterGone]

/-! ## Heat -/

@[simp] theorem lineDieShutdown_number (k : Nat) (s : State) :
    (lineDieShutdown k s).time.time64 = s.time.time64 ∧ (lineDieShutdown k s).resetCause = s.resetCause := by simp [-ite_time, lineDieShutdown]

@[simp] theorem lineDies_number (s : State) :
    (lineDies s).time.time64 = s.time.time64 ∧ (lineDies s).resetCause = s.resetCause := by simp [-ite_time, lineDies]

@[simp] theorem sampled_number (ts : List Int) (s : State) :
    (sampled ts s).time.time64 = s.time.time64 ∧ (sampled ts s).resetCause = s.resetCause := by simp [-ite_time, sampled]

@[simp] theorem thermalSample_number (ts : List Int) (s : State) :
    (thermalSample ts s).time.time64 = s.time.time64 ∧ (thermalSample ts s).resetCause = s.resetCause := by unfold thermalSample; (repeat' split) <;> simp [-ite_time]

/-! ## Engines -/

@[simp] theorem stopForEngine_number (p : Nat) (s : State) :
    (stopForEngine p s).time.time64 = s.time.time64 ∧ (stopForEngine p s).resetCause = s.resetCause := by simp [-ite_time, stopForEngine]

@[simp] theorem engineExhausted_number (p : Nat) (s : State) :
    (engineExhausted p s).time.time64 = s.time.time64 ∧ (engineExhausted p s).resetCause = s.resetCause := by simp [-ite_time, engineExhausted]

/-! ## SelfTest -/

@[simp] theorem clusterLost_number (k cause : Nat) (s : State) :
    (clusterLost k cause s).time.time64 = s.time.time64 ∧ (clusterLost k cause s).resetCause = s.resetCause := by simp [-ite_time, clusterLost]

@[simp] theorem clusterLinkLoss_number (k : Nat) (s : State) :
    (clusterLinkLoss k s).time.time64 = s.time.time64 ∧ (clusterLinkLoss k s).resetCause = s.resetCause := by simp [-ite_time, clusterLinkLoss]

@[simp] theorem clusterPllUnlock_number (k : Nat) (s : State) :
    (clusterPllUnlock k s).time.time64 = s.time.time64 ∧ (clusterPllUnlock k s).resetCause = s.resetCause := by simp [-ite_time, clusterPllUnlock]

@[simp] theorem clusterRailFall_number (k : Nat) (line : Bool) (s : State) :
    (clusterRailFall k line s).time.time64 = s.time.time64 ∧ (clusterRailFall k line s).resetCause = s.resetCause := by simp [-ite_time, clusterRailFall]

@[simp] theorem clusterCheck_number (c : ClusterCheck) (s : State) :
    (clusterCheck c s).time.time64 = s.time.time64 ∧ (clusterCheck c s).resetCause = s.resetCause := by simp [-ite_time, clusterCheck]

@[simp] theorem clusterChecked_number (c : ClusterCheck) (s : State) :
    (clusterChecked c s).time.time64 = s.time.time64 ∧ (clusterChecked c s).resetCause = s.resetCause := by simp [-ite_time, clusterChecked]

@[simp] theorem startupCheck_number (cs : List ClusterCheck) (s : State) :
    (startupCheck cs s).time.time64 = s.time.time64 ∧ (startupCheck cs s).resetCause = s.resetCause := by simp [-ite_time, startupCheck]

/-! ## HostFrames -/

@[simp] theorem bulkRequest_t64 (l : Link) (op reqId target : Nat) (f : State → State) (h : ∀ t, (f t).time.time64 = t.time.time64) (s : State) :
    (bulkRequest l op reqId target f s).time.time64 = s.time.time64 := by
  unfold bulkRequest; dsimp only; (repeat' split) <;> simp [-ite_time, h]

/-! ## Reset -/

@[simp] theorem startQuality_number (s : State) :
    (startQuality s).time.time64 = s.time.time64 ∧ (startQuality s).resetCause = s.resetCause := by simp [-ite_time, startQuality]

@[simp] theorem startupCore_number (bad : List Nat) (s : State) :
    (startupCore bad s).time.time64 = s.time.time64 ∧ (startupCore bad s).resetCause = s.resetCause := by
  unfold startupCore
  (try dsimp only)
  (repeat' split) <;> simp [-ite_time]

/-! ## Writes -/

@[simp] theorem takeSetting_t64 (code rc inst : Nat) (v : Int) (change : State → State) (h : ∀ t, (change t).time.time64 = t.time.time64) (s : State) :
    (takeSetting code rc inst v change s).time.time64 = s.time.time64 := by
  unfold takeSetting; dsimp only; (repeat' split) <;> simp [-ite_time, h, withTwinChange_t64 _ _ h]

@[simp] theorem takeSetting_cause (code rc inst : Nat) (v : Int) (change : State → State) (h : ∀ t, (change t).resetCause = t.resetCause) (s : State) :
    (takeSetting code rc inst v change s).resetCause = s.resetCause := by
  unfold takeSetting; dsimp only; (repeat' split) <;> simp [-ite_time, h, withTwinChange_cause _ _ h]

@[simp] theorem State.jointForm_number (s : State) (target : Tab Int) (doms : Tab (List Byte)) :
    (State.jointForm s target doms).time.time64 = s.time.time64 ∧ (State.jointForm s target doms).resetCause = s.resetCause := by simp [-ite_time, State.jointForm]

@[simp] theorem jointValue_number (form : State) (now : State) (e : Nat × Option Int) (s : State) :
    (jointValue form now e s).time.time64 = s.time.time64 ∧ (jointValue form now e s).resetCause = s.resetCause := by unfold jointValue; (repeat' split) <;> simp [-ite_time]

@[simp] theorem jointWrite_number (target : Tab Int) (doms : Tab (List Byte)) (s : State) :
    (jointWrite target doms s).time.time64 = s.time.time64 ∧ (jointWrite target doms s).resetCause = s.resetCause := by simp [-ite_time, jointWrite]

@[simp] theorem defaultsWrite_number (s : State) :
    (defaultsWrite s).time.time64 = s.time.time64 ∧ (defaultsWrite s).resetCause = s.resetCause := by simp [-ite_time, defaultsWrite]

@[simp] theorem revertWrite_number (s : State) :
    (revertWrite s).time.time64 = s.time.time64 ∧ (revertWrite s).resetCause = s.resetCause := by unfold revertWrite; (repeat' split) <;> simp [-ite_time]

@[simp] theorem forceDefault_number (e : Nat × Option Int) (s : State) :
    (forceDefault e s).time.time64 = s.time.time64 ∧ (forceDefault e s).resetCause = s.resetCause := by simp [-ite_time, forceDefault]

@[simp] theorem forceDefaults_number (s : State) :
    (forceDefaults s).time.time64 = s.time.time64 ∧ (forceDefaults s).resetCause = s.resetCause := by simp [-ite_time, forceDefaults]

@[simp] theorem lcErasure_number (s : State) :
    (lcErasure s).time.time64 = s.time.time64 ∧ (lcErasure s).resetCause = s.resetCause := by simp [-ite_time, lcErasure]

@[simp] theorem deviceCommand_number (code rc : Nat) (v : Int) (s : State) :
    (deviceCommand code rc v s).time.time64 = s.time.time64 ∧ (deviceCommand code rc v s).resetCause = s.resetCause := by simp [-ite_time, deviceCommand]

@[simp] theorem hostWrite_number (q : Path) (o : Obj) (code inst : Nat) (v : Int) (master : Nat) (s : State) :
    (hostWrite q o code inst v master s).time.time64 = s.time.time64 ∧ (hostWrite q o code inst v master s).resetCause = s.resetCause := by unfold hostWrite; (repeat' split) <;> simp [-ite_time]

@[simp] theorem stopHalfless_number (p : Nat) (s : State) :
    (stopHalfless p s).time.time64 = s.time.time64 ∧ (stopHalfless p s).resetCause = s.resetCause := by simp [-ite_time, stopHalfless]

@[simp] theorem openPort_number (es : List Echo) (p : Nat) (s : State) :
    (openPort es p s).time.time64 = s.time.time64 ∧ (openPort es p s).resetCause = s.resetCause := by simp [-ite_time, openPort]

/-! ## Cycle -/

@[simp] theorem stopForRealign_number (s : State) :
    (stopForRealign s).time.time64 = s.time.time64 ∧ (stopForRealign s).resetCause = s.resetCause := by simp [-ite_time, stopForRealign]

@[simp] theorem timeAnnounce_number (s : State) :
    (timeAnnounce s).time.time64 = s.time.time64 ∧ (timeAnnounce s).resetCause = s.resetCause := by unfold timeAnnounce; (repeat' split) <;> simp [-ite_time]

end Sys2Proof.Machine
end

