-- ==== Sys2Proof/Machine/Line.lean ====
section
/-! DEFINITION. What a port's line driver puts on the line in the cycle in progress: bursts, trains and beacons symbol by
symbol, the traverse probe, and 0 V elsewhere (R97–R103, R119–R123, R163, R225, R227, R440). -/

namespace Sys2Proof.Machine

/-- What stands on a line from one tick on: symbols of one length at one amplitude. -/
structure LinePart where
  /-- Start in the cycle, 1/256 tick. -/
  start : Nat
  /-- Length of a symbol, tenths of a tick. -/
  tenths : Nat
  /-- The symbols, first one first. -/
  symbols : List LineSym
  /-- A, A_b or Ap, µV. -/
  amplitude : Nat

/-- The attenuation that the thermal throttle adds to every burst, train and beacon, 0.5 dB (R440). -/
def State.throttleAtten (s : State) : Nat := if s.heat.throttled then 6 else 0

/-- A burst of a branch line (R97, R100). -/
def State.burstPart (s : State) (b : Burst) : LinePart :=
  { start := 256 * b.start, tenths := symbolTenths b.mode, symbols := b.symbols, amplitude := amplitude (b.atten + s.throttleAtten) }

/-- A beacon: its symbols last 32 µs (R122, R123). -/
def State.beaconPart (s : State) (b : Burst) : LinePart :=
  { start := 256 * b.start, tenths := 10 * beaconSymbolTicks, symbols := b.beaconSymbols,
    amplitude := amplitude (b.atten + s.throttleAtten) }

/-- A train of a trunk up to the stop tick of its cycle: one preamble, its frames, fill and one tail (R163). -/
def State.trainPart (s : State) (p : Nat) (b : Burst) (frames : List Burst) : LinePart :=
  let start := 256 * b.start + b.startFrac
  { start := start, tenths := symbolTenths b.mode,
    symbols := trainSymbols ((2560 * (s.port p).trunk.stop - 10 * start) / (256 * symbolTenths b.mode)) frames,
    amplitude := amplitude (b.atten + s.throttleAtten) }

/-- The probe of the cycle in progress, from tick L − T (R225, R227). -/
def State.probePart (s : State) (p : Nat) : List LinePart :=
  match (s.port p).trav.run with
  | some r =>
    if s.contributing p && decide (r.done ≠ 0) then
      [{ start := 256 * probeStart s.cycleTicks (s.port p).latch.t, tenths := 2 * 2 ^ r.step,
         symbols := (probeChips (r.done - 1)).map (fun c => .level c 1), amplitude := s.probeAmplitude p }]
    else []
  | none => []

/-- What a port sends in the cycle in progress; in a beacon window, what it sends from the window's first cycle on (R78, R81,
R100, R163, R225). -/
def State.lineParts (s : State) (p : Nat) : List LinePart :=
  let x := s.port p
  if s.stageOn p = false then []
  else
    (match x.mode, x.onLine with
     | 2, b :: rest => [s.trainPart p b (b :: rest)]
     | _, bs => bs.map (fun b => if b.isBeacon then s.beaconPart b else s.burstPart b)) ++ s.probePart p

/-- The end of a part, in tenths of a tick from the start of the cycle, its start's fraction left out (R78, R123). -/
def LinePart.endTenths (x : LinePart) : Nat := x.start / 256 * 10 + x.symbols.length * x.tenths

/-- The symbol of a part at a moment, in 1/2,560 tick from the start of the cycle. -/
def LinePart.symbolAt (x : LinePart) (at_ : Nat) : Option LineSym :=
  if at_ < 10 * x.start then none else x.symbols[(at_ - 10 * x.start) / (256 * x.tenths)]?

/-- The voltage of a part at a moment, in 1/2,560 tick from the start of the cycle (R97, R122). -/
def LinePart.voltAt (x : LinePart) (at_ : Nat) : Option Int :=
  (x.symbolAt at_).map (fun y => y.microVoltAt x.amplitude ((at_ - 10 * x.start) % (256 * x.tenths)) (256 * x.tenths))

/-- The voltage on a port's line at a moment, in 1/2,560 tick from the start of the cycle, or of the beacon window: the nominal
level, the sine of an on-symbol, and 0 V where nothing is sent (R97, R120, R122, R225). -/
def State.lineVolts (s : State) (p at_ : Nat) : Int :=
  ((s.lineParts p).findSome? (fun x => x.voltAt at_)).getD 0

end Sys2Proof.Machine
end

