-- ==== Sys2Proof/WellFormed.lean ====
section
/-! DEFINITION. Which commands are well formed: every operand names a thing that the device has, and fits its field
(R8, R38, R41, R184, R330, R331). A path's message fields have their widths; a port is 0–143, a drop 1–32, a cluster 0–8,
an engine 0–161, a data lane of a link 0–1, a queue pair 0–7. -/

namespace Sys2Proof

/-- A tid fits a byte (R330). -/
def okTid (t : Nat) : Bool := decide (t < 256)
/-- An address fits: index 16 bits, subindex 8 bits (R330). -/
def okAddr (index sub : Nat) : Bool := decide (index < 65536) && decide (sub < 256)
/-- A value field fits 8 bytes (R331). -/
def okValue (v : Nat) : Bool := decide (v < 2 ^ 64)
/-- A port number is 0–143 (R8). -/
def okPort (p : Nat) : Bool := decide (p < 144)
/-- A drop id is 1–32 (R84). -/
def okDrop (d : Nat) : Bool := decide (1 ≤ d) && decide (d ≤ 32)
/-- A cluster number is 0–8 (R38). -/
def okCluster (k : Nat) : Bool := decide (k < 9)
/-- An engine number is 0–161 (R41). -/
def okEngine (e : Nat) : Bool := decide (e < 162)
/-- A lane of a link's receive side is 0–1 (R327). -/
def okLane (n : Nat) : Bool := decide (n < 2)
/-- The equaliser's input for a symbol is 48 values (R138). -/
def okInput (u : List Int) : Bool := decide (u.length = 48)
/-- The levels of one block are 33, and both lanes bring as many blocks (R300, R302). -/
def okLevels (a b : List Int) : Bool := decide (a.length = b.length) && decide (a.length % 33 = 0)
/-- What a frame in error brings fits: a body of at most 512 blocks, or whole blocks of both lanes. -/
def okFault (e : FrameFault) : Bool :=
  match e with
  | .badBlock => true
  | .badSync => true
  | .frame f => decide (f.data.length ≤ 512)
  | .received a b => okLevels a b
/-- A word of an engine's tap store is 0–383 (R382). -/
def okEngineFault (f : EngineFault) : Bool :=
  match f with
  | .tapStore w => decide (w < 384)
  | .hang => true
/-- A write of a row of its own: tid and value fit. -/
def okWrite (t v : Nat) : Bool := okTid t && okValue v

/-- Well-formedness, constructor by constructor. -/
def Instr.wf (i : Instr) : Bool :=
  match i with
  | .nop _ t => okTid t
  | .read _ t x u => okTid t && okAddr x u
  | .write _ t x u v => okTid t && okAddr x u && okValue v
  | .domainReadInit _ t x u => okTid t && okAddr x u
  | .domainWriteInit _ t x u n => okTid t && okAddr x u && decide (n < 2 ^ 32)
  | .segmentRead _ t x u o c => okTid t && okAddr x u && decide (o < 2 ^ 32) && decide (c < 65536)
  | .segmentWrite _ t x u o c d =>
    okTid t && okAddr x u && decide (o < 2 ^ 32) && decide (c < 65536) && decide (d.length = c)
  | .describe _ t x u => okTid t && okAddr x u
  | .domainEnd _ t x u => okTid t && okAddr x u
  | .domainTransferTimeout _ => true
  | .spiStatus _ => true
  | .spiSend _ => true
  | .spiFetch _ => true
  | .spiAbandon _ => true
  | .spiUnknownCommand c _ => decide (4 ≤ c.toNat) && decide (c.toNat ≠ 255)
  | .clearCounter _ t x u v => okTid t && okAddr x u && okValue v
  | .commit _ t v => okWrite t v
  | .commitSetCurrent _ => true
  | .defaults _ t v => okWrite t v
  | .revert _ t v => okWrite t v
  | .ref10mQualified => true
  | .ref10mDisqualified => true
  | .ref1ppsEdge _ _ => true
  | .ref1ppsEdgeAbsent => true
  | .learningComplete x => decide (-(2 ^ 31) ≤ x) && decide (x < 2 ^ 31)
  | .tqGradeChange => true
  | .datum x => decide (-(2 ^ 31) ≤ x) && decide (x < 2 ^ 31)
  | .cycleStart es => es.all (fun e => okPort e.port)
  | .epochSet _ t v => okWrite t v
  | .epochApply => true
  | .timeAnnounce => true
  | .realign _ t v => okWrite t v
  | .realignGridStart old _ => okValue old
  | .startTimeout => true
  | .cycleLen _ t v => okWrite t v
  | .dsWindow _ t v => okWrite t v
  | .contWindow _ t v => okWrite t v
  | .travWindow _ t v => okWrite t v
  | .grant _ t v => okWrite t v
  | .slotMapApply p => okPort p
  | .contextLoad p d es => okPort p && okDrop d && es.all (fun e => decide (e.1 < 64))
  | .energyDetect p _ _ => okPort p
  | .preambleDetect p _ _ => okPort p
  | .noiseEvent p => okPort p
  | .syncDetect p _ _ => okPort p
  | .falseDetection p => okPort p
  | .headerCheck p _ => okPort p
  | .collisionAbort p _ => okPort p
  | .recoveryPeriodEnd p _ _ => okPort p
  | .overrun p => okPort p
  | .burstEnd p ls m =>
    okPort p && ls.all (fun l => decide (l < 4)) && m.acq.all okInput && m.track.all okInput && decide (m.agcGain < 65536) && decide (m.phase < 65536)
  | .emptySlot p => okPort p
  | .outOfSlot p _ _ => okPort p
  | .eqReset _ t v => okWrite t v
  | .keptEqualiserExpiry p i => okPort p && decide (i < 2 ^ 48)
  | .rollCall _ t v => okWrite t v
  | .rollCloseAfterExpiry p => okPort p
  | .rollAnswer p m _ _ => okPort p && decide (m.length = 16)
  | .admission p => okPort p
  | .admitConfirm p d _ => okPort p && okDrop d
  | .admitConfirmMissed p d => okPort p && okDrop d
  | .keepaliveAck p d => okPort p && okDrop d
  | .levelIntervalExpiry p d => okPort p && okDrop d
  | .relevel _ t v => okWrite t v
  | .soundReport p d _ => okPort p && okDrop d
  | .soundMiss p d => okPort p && okDrop d
  | .modeConfirm p d _ => okPort p && okDrop d
  | .modeApply p d => okPort p && okDrop d
  | .modeRevert p d => okPort p && okDrop d
  | .sleep _ t v => okWrite t v
  | .deepSleepFromCycle p d => okPort p && okDrop d
  | .wake _ t v => okWrite t v
  | .wakeSlotMapStart p d => okPort p && okDrop d
  | .wakeMiss p d => okPort p && okDrop d
  | .release _ t v => okWrite t v
  | .releaseFromCycle p d => okPort p && okDrop d
  | .dropLost p d => okPort p && okDrop d
  | .standbyCheck p d => okPort p && okDrop d
  | .twinLossPeriodsExpiry p => okPort p
  | .twinFailover _ t v => okWrite t v
  | .dropMovePeriodsExpiry p d => okPort p && okDrop d
  | .twinMoveApply p => okPort p
  | .twinReturn _ t v => okWrite t v
  | .twinEnable _ t v => okWrite t v
  | .twinPartner _ t v => okWrite t v
  | .portMode _ t v => okWrite t v
  | .hostDataFrame _ f => decide (f.data.length ≤ 512)
  | .rollCallHoldEnd p => okPort p
  | .trunkTrainingStart p => okPort p
  | .retrain _ t v => okWrite t v
  | .trunkTrain p _ _ _ _ => okPort p
  | .phaseETimeout p => okPort p
  | .trunkTrainEnd p _ => okPort p
  | .trunkTime p _ _ _ => okPort p
  | .trunkAck p _ => okPort p
  | .trunkMode p _ => okPort p
  | .trunkModeApply p => okPort p
  | .trunkDown p _ => okPort p
  | .trunkLoss p => okPort p
  | .trunkLevelDown p => okPort p
  | .traceComplete p => okPort p
  | .benchCapture _ t v => okWrite t v
  | .leadInCal _ t v => okWrite t v
  | .vfCal _ t v => okWrite t v
  | .insDwellEnd k => okCluster k
  | .cellAllocA _ t v => okWrite t v
  | .cellAllocB _ t v => okWrite t v
  | .cellLayout _ t v => okWrite t v
  | .cellStart _ t v => okWrite t v
  | .cellWidth _ t v => okWrite t v
  | .cellState _ t v => okWrite t v
  | .snapshot => true
  | .archiveBringUp d => d.content.all (fun e => decide (e.2.length = 4096))
  | .archFormat _ t v => okWrite t v
  | .archAdopt _ t v => okWrite t v
  | .nvmeCompletion q _ _ => decide (q < 8)
  | .cmdTimeoutExpiry q _ _ _ => decide (q < 8)
  | .archiveCommit _ => true
  | .holdupRetry _ _ => true
  | .driveLinkLost => true
  | .smartPoll _ w c => decide (w < 256) && decide (c < 256)
  | .selTrace _ t v => okWrite t v
  | .findGo _ t v => okWrite t v
  | .findComplete _ => true
  | .linkClockDetected _ _ => true
  | .linkAdaptSettled _ _ _ => true
  | .linkBlockLock _ => true
  | .linkDeskew _ _ _ => true
  | .linkUp _ => true
  | .linkStepTimeout _ => true
  | .linkLoss _ _ => true
  | .oxlRetrain _ t _ v => okWrite t v
  | .linkEnable _ t _ v => okWrite t v
  | .align _ _ _ => true
  | .alignTransmit _ => true
  | .flow _ _ => true
  | .frameTransmit _ => true
  | .quietEntry _ => true
  | .quietRxEntry _ => true
  | .quietExit _ => true
  | .quietPeriodicExit _ => true
  | .quietActivityTimeout _ => true
  | .linkTrafficMove _ _ => true
  | .returnHoldExpiry _ => true
  | .linkMode _ t v => okWrite t v
  | .preferred _ t v => okWrite t v
  | .forceSwitch _ t v => okWrite t v
  | .prbsGen _ t _ n v => okWrite t v && okLane n
  | .prbsCheck _ t _ n v => okWrite t v && okLane n
  | .prbsLock _ n _ => okLane n
  | .prbsClear _ t _ n v => okWrite t v && okLane n
  | .readRecord _ r q f c => decide (r < 65536) && okValue q && decide (f < 2 ^ 32) && decide (c < 2 ^ 32)
  | .readDriveBlocks _ r b f c => decide (r < 65536) && okValue b && decide (f < 2 ^ 32) && decide (c < 2 ^ 32)
  | .cancel _ r => decide (r < 65536)
  | .resetCmdController _ t => okTid t
  | .resetCmdDevice _ t => okTid t
  | .lcRequest _ t v => okWrite t v
  | .lcEntryErasure => true
  | .fwBankErase _ t v => okWrite t v
  | .fwEraseComplete _ => true
  | .fwPageProgram _ => true
  | .fwImageCheck => true
  | .fwSwitch _ t v => okWrite t v
  | .fwUpdateMigration k => okCluster k
  | .fwUpdateSwitched => true
  | .fwTrialEnd => true
  | .clusterTargetDormant _ t => okTid t
  | .clusterTargetWake _ t => okTid t
  | .wakeAlarm _ t v => okWrite t v
  | .wakeAlarmReached k => okCluster k
  | .dormantEntry k c => okCluster k && decide (c.length ≤ 656)
  | .wakeStep k m =>
    okCluster k && m.badA.all (fun i => decide (i < 1024)) && m.badB.all (fun i => decide (i < 1024))
  | .portSteepEntry p => okPort p
  | .portSteepExit p => okPort p
  | .clusterSteepEntry k => okCluster k
  | .clusterSteepExit k => okCluster k
  | .pmbusRequestComplete _ => true
  | .pmbusBusyPoll _ => true
  | .pmbusRetry => true
  | .pmbusPolling => true
  | .avsAdjust _ _ => true
  | .thermalSample ts => decide (ts.length = 10)
  | .throttleLift => true
  | .thermalRestart => true
  | .migration p _ _ => okPort p
  | .engineTestComplete e _ => okEngine e
  | .engineFailing e f => okEngine e && okEngineFault f
  | .engineExhausted p => okPort p
  | .sliceTestStart _ => true
  | .sliceTestAbort _ => true
  | .sliceTestComplete _ _ _ => true
  | .converterCalibration k fs => okCluster k && fs.all (fun f => okPort f.port)
  | .patrolScrub _ _ _ => true
  | .clusterLinkLoss k => okCluster k
  | .fullTest _ t v => okWrite t v
  | .fullTestComplete _ => true
  | .startupCheck cs => cs.all (fun c => okCluster c.cluster)
  | .faultAck _ t v => okWrite t v
  | .faultClear _ t v => okWrite t v
  | .fecRearm _ t v => okWrite t v
  | .faultInject _ t v => okWrite t v
  | .injectedRaise => true
  | .powerOnReset => true
  | .vddAonFall => true
  | .clusterRailFall k _ => okCluster k
  | .resetN => true
  | .watchdogExpiry => true
  | .mcResetEnd => true
  | .boot => true
  | .startup ps => ps.all (fun n => decide (n < 32768))
  | .nvmPageProgramComplete _ => true
  | .lineShort p => okPort p
  | .corePllUnlock => true
  | .clusterPllUnlock k => okCluster k
  | .quietRxExit _ => true
  | .quietExitAlignTimeout _ => true
  | .opUnknown _ t o x u => okTid t && okAddr x u && decide (o < 256)
  | .frameError _ e => okFault e

end Sys2Proof
end

