-- ==== Sys2Proof/Tests/Slice0.lean ====
section
/-! SUPPORT. Tests: for every statement with hypotheses a concrete state and operands that meet them, clause by clause; a command
that each check of well-formedness refuses; and figures that the manual works out. -/

set_option Elab.async false
set_option maxRecDepth 100000
set_option linter.unusedVariables false

namespace Sys2Proof.Tests

open Sys2Proof Sys2Proof.Machine

/-- The device after its start-up: the management controller runs and serves. -/
def up : State :=
  { State.reset with doms := [], mgmt := { mcReset := false }, faults := { started := true } }

/-- The dictionary's object of a code. -/
def obj (c : Nat) : Obj :=
  (findObj c).getD { code := 0, ty := .bool, acc := .ro, dflt := 0, lo := 0, hi := 0, scope := .device }

/-- The device after its start-up at another time. -/
def mT (f : TimeSt → TimeSt) : State := { up with time := f up.time }

namespace S03

def x0 : Xfer := {code := 0x306101, index := 0x3061, sub := 0x1, inst := 0, write := true, length := 8, data := [1,2,3,4], lastSeg := 0}
def u2 : State := {up with mgmt := {mcReset := false, oxlB := {xfer := some x0}}}
def u3 : State := {u2 with time := {tick := 10^9}}

/-- Witnesses for DomainReadsComeFromOneCopy. -/
theorem witness_DomainReadsComeFromOneCopy :
    (∃ (q : Sys2Proof.Path) (tid index sub : ℕ) (s : State) (o : Obj), s.Serves q ∧ (s.path q).xfer = none ∧
      s.checkObject { op := 3, tid := tid, index := index, sub := sub } = Except.ok o ∧ (s.arrived q).selectionBad q o
      false = none ∧ readError q o (addressCode index sub) (s.instOf q o.scope) (s.arrived q) = none) ∧
    (∃ (q : Sys2Proof.Path) (tid index sub offset count : ℕ) (s : State) (o : Obj) (x : Xfer), s.Serves q ∧
      s.checkObject { op := 5, tid := tid, index := index, sub := sub, arg := offset, count := count } = Except.ok o ∧
      (s.path q).xfer = some x ∧ x.index = index % 65536 ∧ x.sub = sub % 256 ∧ x.write = false ∧ 1 ≤ count ∧ count ≤
      1024 ∧ offset < x.length) :=
  ⟨⟨.spi, 3, 0x5100, 0x0F, {up with mgmt := {mcReset := false, spi := {selCell := 7168*1, autoStep := 1}}}, (obj
    Code.cellRaw), by decide +kernel⟩,
   ⟨.oxlA, 3, 0x5100, 0x0F, 2, 5, {up with mgmt := {mcReset := false, oxlA := {xfer := some {code := 0x51000F, index := 0x5100, sub := 0xF, inst := 0, write := false, length := 4, data := [1,2,3,4], lastSeg := 0}}}},
     (obj Code.cellRaw), {code := 0x51000F, index := 0x5100, sub := 0xF, inst := 0, write := false, length := 4, data := [1,2,3,4],
                          lastSeg := 0}, by decide +kernel⟩⟩

/-- Witnesses for DomainWritesTakeEffectWhole. -/
theorem witness_DomainWritesTakeEffectWhole :
    (∃ (q : Sys2Proof.Path) (tid index sub length : ℕ) (s : State) (o : Obj), s.Serves q ∧ s.checkObject
      { op := 4, tid := tid, index := index, sub := sub, arg := length } = Except.ok o ∧ (s.path q).xfer = none ∧
      length ≤ o.size ∧ lengthRule (addressCode index sub) length = true ∧ addressCode index sub ≠ Code.fwImage ∧
      addressCode index sub ≠ Code.goldenMisr) ∧
    (∃ (q : Sys2Proof.Path) (tid index sub offset count : ℕ) (data : List Byte) (s : State) (o : Obj) (x : Xfer),
      s.Serves q ∧ s.checkObject
      { op := 6, tid := tid, index := index, sub := sub, arg := offset, count := count, data := data } = Except.ok o ∧
      (s.path q).xfer = some x ∧ x.index = index % 65536 ∧ x.sub = sub % 256 ∧ x.write = true ∧ x.code ≠ Code.fwImage
      ∧ x.code ≠ Code.goldenMisr ∧ 1 ≤ count ∧ count ≤ 1024 ∧ data.length = count) :=
  ⟨⟨.oxlA, 3, 0x3061, 1, 16, up, (obj Code.dropTable), by decide +kernel⟩,
   ⟨.oxlB, 3, 0x3061, 1, 4, 4, [5,6,7,8], u2, (obj Code.dropTable), x0, by decide +kernel⟩⟩

/-- Witnesses for TransfersEnd. -/
theorem witness_TransfersEnd :
    (∃ (q : Sys2Proof.Path) (tid index sub : ℕ) (s : State) (o : Obj), s.Serves q ∧ s.checkObject
      { op := 8, tid := tid, index := index, sub := sub } = Except.ok o) ∧
    (∃ (q : Sys2Proof.Path) (s : State) (x : Xfer), s.Ready ∧ (s.path q).xfer = some x ∧ x.lastSeg + 100000000 ≤
      s.time.tick) :=
  ⟨⟨.oxlB, 3, 0x3061, 1, u2, (obj Code.dropTable), by decide +kernel⟩,
   ⟨.oxlB, u3, x0, by decide +kernel⟩⟩

/-- Witnesses for LifeCycleRequests. -/
theorem witness_LifeCycleRequests :
    ∃ (q : Sys2Proof.Path) (tid value : ℕ) (s : State), s.Serves q ∧ value < 2 ^ 64 :=
  ⟨.spi, 3, 0, u3, by decide +kernel⟩

end S03

namespace S04

def c0 : CommitSet := { seq := 4, time := 3, regs := [(objKey Code.dsWindow 3, 9000)], doms := [] }
def sD : State := {up with regs := Tab.put [(objKey Code.dsWindow 3, 9000)] (objKey Code.travWindow 3) 2200, nvm := {slotA := some c0}}

/-- Witnesses for SettingsAndCountersAreWritten. -/
theorem witness_SettingsAndCountersAreWritten :
    (∃ (i : Instr) (s : State) (q : Sys2Proof.Path) (tid code value : ℕ) (o : Obj) (v : ℤ), hostWriteOf i = some (q,
      tid, code, value) ∧ s.Accepts q code value o v ∧ o.acc = Acc.rwp ∧ actsAtOnce o.code = false) ∧
    (∃ (q : Sys2Proof.Path) (tid index sub value : ℕ) (s : State) (o : Obj) (v : ℤ), index < 65536 ∧ sub < 256 ∧
      s.Accepts q (addressCode index sub) value o v ∧ o.acc = Acc.rw1c) :=
  ⟨⟨(.cycleLen .spi 3 2), up, .spi, 3, Code.cycleLen, 2, (obj Code.cycleLen), 2, by decide +kernel⟩,
   ⟨.spi, 3, (Code.commitFails/256), (Code.commitFails%256), 1, {up with regs := [(objKey Code.commitFails 0,7)]},
     (obj Code.commitFails), 1, by decide +kernel⟩⟩

/-- Witnesses for PathObjectsArePrivate. -/
theorem witness_PathObjectsArePrivate :
    ∃ (i : Instr) (s : State) (q : Sys2Proof.Path) (tid code value : ℕ) (o : Obj) (v : ℤ), hostWriteOf i = some (q,
      tid, code, value) ∧ s.Accepts q code value o v ∧ code = Code.selTrace :=
  ⟨(.selTrace .oxlA 3 16), up, .oxlA, 3, Code.selTrace, 16, (obj Code.selTrace), 16, by decide +kernel⟩

/-- Witnesses for CommitTakesTheSettings. -/
theorem witness_CommitTakesTheSettings :
    (∃ (q : Sys2Proof.Path) (tid value : ℕ) (s : State) (o : Obj), s.Accepts q Code.commit value o 1 ∧ s.nvm.writing =
      none ∧ s.nvm.erasure = false ∧ s.nvm.erasing = none ∧ s.slotDirty = false ∧ setBytes s.rwpDoms ≤ 1015552) ∧
    (∃ (q : Sys2Proof.Path) (tid value : ℕ) (s : State) (o : Obj), s.Accepts q Code.commit value o 1 ∧
      (s.nvm.writing.isSome = true ∨ s.nvm.erasure = true ∨ s.nvm.erasing.isSome = true)) ∧
    (∃ (q : Sys2Proof.Path) (tid value : ℕ) (s : State) (o : Obj), s.Accepts q Code.commit value o 1 ∧ s.nvm.writing =
      none ∧ s.nvm.erasure = false ∧ s.nvm.erasing = none ∧ s.slotDirty = true ∧ setBytes s.rwpDoms ≤ 1015552) ∧
    (∃ (s : State) (c : CommitSet), s.Ready ∧ s.nvm.writing = some c ∧ s.nvm.op = some NvmOp.commit ∧ s.nvm.pages =
      setPages c.doms ∧ (∀ (a : CommitSet), s.currentSet = some a → a.seq < c.seq)) ∧
    (∃ (s : State) (c : CommitSet), s.Ready ∧ s.nvm.writing = some c ∧ s.nvm.op = some NvmOp.commit ∧ s.nvm.pages =
      setPages c.doms ∧ (∀ (a : CommitSet), s.currentSet = some a → a.seq < c.seq)) ∧
    (∃ (s : State), s.Ready ∧ s.nvm.erasure = true ∧ s.nvm.writing = none) :=
  ⟨⟨.spi, 3, 1, {up with regs := [(objKey Code.commitFails 0,7),(objKey Code.dsWindow 3, 9000)]}, (obj Code.commit),
    by decide +kernel⟩,
   ⟨.spi, 3, 1, {up with nvm := {erasure := true}}, (obj Code.commit), by decide +kernel⟩,
   ⟨.spi, 3, 1, {up with nvm := {slotB := some {seq := 3, time := 3, regs := [(objKey Code.dsWindow 3, 9000)], doms := []},
                                 slotA := some { seq := 4, time := 3, regs := [(objKey Code.dsWindow 3, 9000)], doms := [] }}},
     (obj Code.commit), by decide +kernel⟩,
   ⟨{up with nvm := {slotA := some c0, op := some .commit, pages := setPages [], writing := some {c0 with seq := 5},
                     further := true}}, {c0 with seq := 5}, by decide +kernel⟩,
   ⟨{up with nvm := {slotA := some c0, op := some .commit, pages := setPages [], writing := some {c0 with seq := 5},
                     further := true}}, {c0 with seq := 5}, by decide +kernel⟩,
   ⟨{up with nvm := {slotA := some c0, erasure := true}}, by decide +kernel⟩⟩

/-- Witnesses for DefaultsAndRevertFormOneSetting. -/
theorem witness_DefaultsAndRevertFormOneSetting :
    ∃ (q : Sys2Proof.Path) (tid value : ℕ) (s : State) (o : Obj) (c : CommitSet), (∀ e ∈ s.rwpRegs ++ c.regs,
      actsAtOnce (rowCode (keyCode e.1)) = false) ∧ s.Accepts q Code.defaults value o 1 :=
  ⟨.spi, 3, 1, sD, (obj Code.defaults), c0, by decide +kernel⟩

end S04

namespace S05

def sE : State := {up with fw := {bank1 := {state := 4}}}
def sH (c : Nat) : State := {up with regs := Tab.put [] (objKey Code.holdupCap 0) c, fw := {held := [[1,2]], update := 2, bank1 := {state := 5, image := [7]}}}
def sC : State := {up with fw := {complete := true, update := 3, bank1 := {state := 5, image := [7]}}}
def sW : State := {up with fw := {bank1 := {state := 1, seq := 2, image := [0,0,0,0,0,1]}}}
def eng : Tab EngineSt := Tab.put (Tab.put [] 16 {state := 1}) 17 {state := 1}
def sU : State := {sW with fw := {sW.fw with switching := true, newCode := [16]}, engines := eng}

/-- Witnesses for FirmwareIsLoadedIntoTheInactiveBank. -/
theorem witness_FirmwareIsLoadedIntoTheInactiveBank :
    (∃ (q : Sys2Proof.Path) (tid value : ℕ) (s : State) (o : Obj) (v : ℤ), s.Accepts q Code.fwBankErase value o v) ∧
    (∃ (s : State), s.Ready ∧ (s.bank s.inactive).state = 4) ∧
    (∃ (s : State), s.Ready ∧ (s.bank s.inactive).state = 4) ∧
    (∃ (q : Sys2Proof.Path) (tid length : ℕ) (s : State) (o : Obj), s.Serves q ∧ s.checkObject
      { op := 4, tid := tid, index := 4128, sub := 4, arg := length } = Except.ok o ∧ (s.path q).xfer = none ∧ 0 <
      length ∧ length ≤ o.size ∧ length % 256 = 0 ∧ (s.bank s.inactive).state = 0) ∧
    (∃ (microVolt : ℕ) (s : State), s.Ready ∧ s.nvm.op = none ∧ s.nvm.toLog = [] ∧ s.nvm.writing = none ∧
      s.nvm.erasing = none ∧ s.fw.held ≠ [] ∧ 0 < s.regN Code.holdupCap 0 ∧ s.hold.low = false ∧ s.hold.nvmFrom =
      none) ∧
    (∃ (microVolt : ℕ) (s : State) (t0 : ℕ), s.Ready ∧ s.nvm.op = none ∧ s.nvm.toLog = [] ∧ s.nvm.writing = none ∧
      s.nvm.erasing = none ∧ s.fw.held ≠ [] ∧ 0 < s.regN Code.holdupCap 0 ∧ s.hold.low = false ∧ s.hold.nvmFrom = some
      t0 ∧ s.regN Code.holdupNvmReq 0 * (2 * 10 ^ 15 * 65536 * 65536) ≤ s.regN Code.holdupCap 0 * (microVolt * s.regN
      Code.holdupDiv 0) ^ 2) ∧
    (∃ (s : State) (seg : List Byte) (rest : List (List Byte)), s.Ready ∧ s.nvm.op = some NvmOp.fwPage ∧ s.fw.held =
      seg :: rest ∧ s.nvm.toLog = [] ∧ s.nvm.writing = none ∧ s.nvm.erasing = none) ∧
    (∃ (s : State) (seg : List Byte) (rest : List (List Byte)), s.Ready ∧ s.nvm.op = some NvmOp.fwPage ∧ s.fw.held =
      seg :: rest ∧ s.nvm.toLog = [] ∧ s.nvm.writing = none ∧ s.nvm.erasing = none) ∧
    (∃ (s : State), s.Ready ∧ s.fw.update = 3 ∧ s.fw.complete = true ∧ s.fw.held = []) :=
  ⟨⟨.spi, 3, 1, up, (obj Code.fwBankErase), 1, by decide +kernel⟩,
   ⟨sE, by decide +kernel⟩,
   ⟨sE, by decide +kernel⟩,
   ⟨.spi, 3, 512, up, (obj Code.fwImage), by decide +kernel⟩,
   ⟨2000, (sH 1000), by decide +kernel⟩,
   ⟨2000000, ({sH 1000000 with hold := {nvmFrom := some 0}}), 0, by decide +kernel⟩,
   ⟨({sH 1000000 with nvm := {op := some .fwPage}}), [1,2], [], by decide +kernel⟩,
   ⟨({sH 1000000 with nvm := {op := some .fwPage}}), [1,2], [], by decide +kernel⟩,
   ⟨sC, by decide +kernel⟩⟩

/-- Witnesses for UpdatesSwitchAndWatchdogsBar. -/
theorem witness_UpdatesSwitchAndWatchdogsBar :
    (∃ (q : Sys2Proof.Path) (tid value : ℕ) (s : State) (o : Obj), s.Accepts q Code.fwSwitch value o 1) ∧
    (∃ (k p y : ℕ) (s : State), s.Ready ∧ k < 9 ∧ s.fw.switching = true ∧ (s.cluster k).state ≤ 1 ∧ s.fw.paced.get k 0
      ≤ s.time.tick ∧ (∀ e ∈ enginesOf k, (s.engine e).state ≠ 2 ∧ (s.engine e).state ≠ 3) ∧ s.sparesLeft k = 2 ∧
      List.find? (fun j => !s.fw.newCode.contains (s.engineFor j) && !s.beaconBoundary j && !(s.port j).stopped &&
      !(s.engine (s.engineFor j)).failing) (portsOf k) = some p ∧ s.longest (List.filter (fun e => s.readySpare e &&
      s.fw.newCode.contains e) (enginesOf k)) = some y) ∧
    (∃ (s : State), s.Ready ∧ s.fw.switching = true ∧ s.fw.goingBack = false ∧ s.fw.active ≤ 1 ∧ (∀ k ∈
      s.servedClusters, s.clusterUpdated k = true ∧ ∀ e ∈ enginesOf k, (s.engine e).state ≠ 2 ∧ (s.engine e).state ≠
      3)) ∧
    (∃ (s : State) (t0 : ℕ), s.Ready ∧ (s.bankRecord s.fw.active).trialFrom = some t0 ∧ t0 + 6000000000 ≤ s.time.tick) ∧
    (∃ (s : State), s.Ready ∧ s.mgmt.mcReset = false ∧ s.resetTogether = false ∧ s.fw.switching = false ∧ s.fw.active
      ≤ 1) :=
  ⟨⟨.spi, 3, 1, sW, (obj Code.fwSwitch), by decide +kernel⟩,
   ⟨0, 0, 16, sU, by decide +kernel⟩,
   ⟨{sU with fw := {sU.fw with newCode := List.range 162}}, by decide +kernel⟩,
   ⟨{sU with aon := {bank0 := {trialFrom := some 0}}, time := {tick := 6000000000}}, 0, by decide +kernel⟩,
   ⟨{sW with aon := {bank0 := {trialFrom := some 0}}, time := {tick := 6000000000}}, by decide +kernel⟩⟩

end S05

namespace S06

def eng0 : Tab EngineSt := Tab.put (Tab.put (Tab.put [] 0 {target := some 16, rotating := true}) 16 {state := 3}) 17 {state := 1}
def sM : State := {up with engines := eng0}
def gold : List Byte := [1,0,255,0,0,0,0,0] ++ leBytes 8 77
def sS : State := {up with doms := [(objKey Code.goldenMisr 0, [0x10,0,255,0,0,0,0,0] ++ leBytes 8 (signatureOf [77]))], test := {cells := {running := true, slice := 9, aborts := 3}}}
def sF : State := {up with test := {cells := {running := true}}}
def sCx : State := {up with ports := [(0,{mode := 1, started := true})], time := {up.time with running := true}}

/-- Witnesses for EnginesMigrateAndAreTested. -/
theorem witness_EnginesMigrateAndAreTested :
    (∃ (p y : ℕ) (crc : Bool) (bad : List ℕ) (s : State), s.Ready ∧ p < 144 ∧ (s.engine (s.engineFor p)).target = some
      y ∧ y ≠ s.engineFor p ∧ (s.port p).stopped = false ∧ (s.engine y).failing = false ∧ (s.beaconBoundary p = false
      ∨ (s.engine (s.engineFor p)).failing = true)) ∧
    (∃ (p y : ℕ) (crc : Bool) (bad : List ℕ) (s : State), s.Ready ∧ p < 144 ∧ (s.engine (s.engineFor p)).target = some
      y ∧ y ≠ s.engineFor p ∧ (s.port p).stopped = false ∧ (s.engine y).failing = false ∧ s.beaconBoundary p = true ∧
      (s.engine (s.engineFor p)).failing = false) ∧
    (∃ (e : ℕ) (sigs : List Response) (s : State), s.Ready ∧ e < 162 ∧ (s.engine e).state = 2 ∧ s.fw.switching = false
      ∧ s.mismatches sigs = [] ∧ s.enginesTestable = false) ∧
    (∃ (e : ℕ) (sigs : List Response) (s : State), s.Ready ∧ e < 162 ∧ (s.engine e).state = 2 ∧ s.fw.switching = false
      ∧ s.mismatches sigs ≠ [] ∧ (s.engine e).second = true) ∧
    (∃ (e y : ℕ) (f : EngineFault) (s : State), s.Ready ∧ e < 162 ∧ (s.engine e).state = 0 ∧ (∀ x ∈ enginesOf (e /
      18), (s.engine x).target = none) ∧ s.spareFor (e / 18) = some y) ∧
    (∃ (p : ℕ) (s : State), s.Ready ∧ p < 144 ∧ (s.engine (s.engineFor p)).failing = true ∧ (s.engine (s.engineFor
      p)).target = none ∧ (s.port p).stopped = false) ∧
    (∃ (e : ℕ) (sigs : List Response) (s : State), s.Ready ∧ e < 162 ∧ (s.engine e).state = 2 ∧ s.fw.switching = false
      ∧ s.mismatches sigs ≠ [] ∧ (s.engine e).second = false) ∧
    (∃ (e : ℕ) (sigs : List Response) (s : State), s.Ready ∧ e < 162 ∧ (s.engine e).state = 2 ∧ s.fw.switching = false
      ∧ s.mismatches sigs = [] ∧ s.enginesTestable = true) :=
  ⟨⟨0, 16, true, [3], sM, by decide +kernel⟩,
   ⟨0, 16, true, [3], {sM with ports := [(0,{beaconLeft := 2})]}, by decide +kernel⟩,
   ⟨5, [], {sM with engines := [(5,{state := 2})]}, by decide +kernel⟩,
   ⟨5, [], {sM with engines := [(5,{state := 2, second := true})], doms := [(objKey Code.goldenMisr 0, gold)]},
     by decide +kernel⟩,
   ⟨5, 16, .hang, {sM with engines := []}, by decide +kernel⟩,
   ⟨5, {sM with engines := [(5, {failing := true})]}, by decide +kernel⟩,
   ⟨5, [], {sM with engines := [(5,{state := 2})], doms := [(objKey Code.goldenMisr 0, [1,0,255,0,0,0,0,0] ++ leBytes 8 77 ++ [2,0,255,0,0,0,0,0] ++ leBytes 8 77 ++
                    [3,0,255,0,0,0,0,0] ++ leBytes 8 77 ++ [4,0,255,0,0,0,0,0] ++ leBytes 8 77 ++ [5,0,255,0,0,0,0,0] ++ leBytes 8 77)]},
     by decide +kernel⟩,
   ⟨5, [⟨1,[77]⟩,⟨2,[77]⟩,⟨3,[77]⟩,⟨4,[77]⟩,⟨5,[77]⟩], {sM with engines := [(5,{state := 2})], doms := [(objKey Code.goldenMisr 0, [1,0,255,0,0,0,0,0] ++ leBytes 8 (signatureOf [77]) ++ [2,0,255,0,0,0,0,0] ++ leBytes 8 (signatureOf [77]) ++ [3,0,255,0,0,0,0,0] ++ leBytes 8 (signatureOf [77]) ++ [4,0,255,0,0,0,0,0] ++ leBytes 8 (signatureOf [77]) ++ [5,0,255,0,0,0,0,0] ++ leBytes 8 (signatureOf [77]))]},
     by decide +kernel⟩⟩

/-- Witnesses for SlicesAreTestedAndScrubbed. -/
theorem witness_SlicesAreTestedAndScrubbed :
    (∃ (m : Mem) (s : State), s.Ready ∧ (m = Mem.cells ∨ m = Mem.buffers ∨ m = Mem.contexts) ∧ s.regB
      Code.sliceTestEnable 0 = true ∧ s.test.fullState ≠ 1 ∧ (s.tester m).running = false ∧ (s.tester m).abortAt =
      none ∧ (s.golden (sliceTest m) 0).isSome = true ∧ s.sliceIdle m = true) ∧
    (∃ (m : Mem) (s : State), s.Ready ∧ (m = Mem.cells ∨ m = Mem.buffers ∨ m = Mem.contexts) ∧ (s.tester m).running =
      true ∧ (s.tester m).aborts < 15) ∧
    (∃ (m : Mem) (s : State), s.Ready ∧ (m = Mem.cells ∨ m = Mem.buffers ∨ m = Mem.contexts) ∧ (s.tester m).running =
      true ∧ 15 ≤ (s.tester m).aborts) ∧
    (∃ (m : Mem) (s : State) (words : List (BitVec 64)) (bad : List ℕ), s.Ready ∧ (m = Mem.cells ∨ m = Mem.buffers ∨ m
      = Mem.contexts) ∧ (s.tester m).running = true ∧ s.golden (sliceTest m) 0 = some (signatureOf words)) ∧
    (∃ (m : Mem) (s : State) (words : List (BitVec 64)) (bad : List ℕ), s.Ready ∧ (m = Mem.cells ∨ m = Mem.buffers ∨ m
      = Mem.contexts) ∧ (s.tester m).running = true ∧ s.golden (sliceTest m) 0 ≠ some (signatureOf words) ∧ (s.tester
      m).slice ∉ (s.tester m).failedOnce) ∧
    (∃ (m : Mem) (s : State) (words : List (BitVec 64)) (bad : List ℕ), s.Ready ∧ (m = Mem.cells ∨ m = Mem.buffers ∨ m
      = Mem.contexts) ∧ (s.tester m).running = true ∧ s.golden (sliceTest m) 0 ≠ some (signatureOf words) ∧ (s.tester
      m).slice ∈ (s.tester m).failedOnce ∧ (∀ r ∈ (s.tester m).remap, r.2 ≠ 0) ∧ 0 ∉ (s.tester m).badSpares) ∧
    (∃ (m : Mem) (w : ℕ) (s : State), s.Ready ∧ (m = Mem.cells ∨ m = Mem.trace ∨ m = Mem.contexts ∨ m = Mem.buffers) ∧
      (¬((s.tester m).running = true ∧ w / 512 = (s.tester m).slice))) ∧
    (∃ (m : Mem) (w : ℕ) (s : State), s.Ready ∧ (m = Mem.cells ∨ m = Mem.trace ∨ m = Mem.contexts ∨ m = Mem.buffers) ∧
      (¬((s.tester m).running = true ∧ w / 512 = (s.tester m).slice))) ∧
    (∃ (m : Mem) (w : ℕ) (s : State), s.Ready ∧ (m = Mem.cells ∨ m = Mem.trace ∨ m = Mem.contexts ∨ m = Mem.buffers) ∧
      (¬((s.tester m).running = true ∧ w / 512 = (s.tester m).slice))) ∧
    (∃ (m : Mem) (s : State), s.Ready ∧ (m = Mem.cells ∨ m = Mem.buffers ∨ m = Mem.contexts) ∧ s.sliceIdle m = false) :=
  ⟨⟨.cells, {sS with test := {}}, by decide +kernel⟩,
   ⟨.cells, sS, by decide +kernel⟩,
   ⟨.cells, {sS with test := {cells := {running := true, aborts := 15}}}, by decide +kernel⟩,
   ⟨.cells, sS, [77], [], by decide +kernel⟩,
   ⟨.cells, sS, [78], [], by decide +kernel⟩,
   ⟨.cells, {sS with test := {cells := {running := true, slice := 9, failedOnce := [9]}}}, [78], [44],
     by decide +kernel⟩,
   ⟨.trace, 7, sS, by decide +kernel⟩,
   ⟨.trace, 7, sS, by decide +kernel⟩,
   ⟨.trace, 7, sS, by decide +kernel⟩,
   ⟨.contexts, {sCx with ports := [(0,{mode := 1, started := true, map := {period := 1, slots := [{drop := 5, cycle := 0, start := 100, len := 4000}]}})],
                         ctxs := [(dropKey 0 5, {state := 3})]}, by decide +kernel⟩⟩

/-- Witnesses for TestsOfTheWholeDevice. -/
theorem witness_TestsOfTheWholeDevice :
    (∃ (q : Sys2Proof.Path) (tid value : ℕ) (s : State) (o : Obj), s.Accepts q Code.fullTest value o 1) ∧
    (∃ (rs : List UnitTest) (s : State), s.Ready ∧ s.test.fullState = 1 ∧ (∀ x ∈ rs, s.unitFails x = false)) ∧
    (∃ (e test : ℕ) (words : List (BitVec 64)) (s : State), s.Ready ∧ s.test.fullState = 1 ∧ e < 162 ∧ 1 ≤ test ∧ test
      ≤ 5 ∧ (s.engine e).state ≠ 4 ∧ (∃ g, s.golden test 0 = some g ∧ g ≠ signatureOf words)) ∧
    (∃ (k p : ℕ) (f g : HalfFinding) (s : State), s.Ready ∧ k < 9 ∧ clusterOf p = k ∧ (s.cluster k).state ≤ 1 ∧
      (s.port p).trav.halves = 3 ∧ (1000 < f.gain.natAbs ∨ 200 < f.offset.natAbs ∨ 250 < f.skew.natAbs ∨ 1024 ≤
      f.unchanged ∧ 16 < f.otherSpan) ∧ (¬(1000 < g.gain.natAbs ∨ 200 < g.offset.natAbs ∨ 250 < g.skew.natAbs ∨ 1024 ≤
      g.unchanged ∧ 16 < g.otherSpan))) ∧
    (∃ (k : ℕ) (rs again : List UnitTest) (s : State), s.Ready ∧ k < 9 ∧ s.power.started = false ∧ s.faults.started =
      true ∧ (s.cluster k).state ≠ 5 ∧ s.railsPending k = false ∧ k ∉ s.power.checked ∧ s.nvm.log = [] ∧ s.nvm.toLog =
      [] ∧ (∀ x ∈ rs, s.unitFails x = false)) ∧
    (∃ (k : ℕ) (s : State), s.Ready ∧ k < 9 ∧ (s.cluster k).linkOn = true) :=
  ⟨⟨.spi, 3, 1, {sF with lc := 1}, (obj Code.fullTest), by decide +kernel⟩,
   ⟨[⟨1,3,[5]⟩], {sF with lc := 3, test := {fullState := 1}}, by decide +kernel⟩,
   ⟨7, 1, [78], {sF with lc := 3, test := {fullState := 1}, doms := [(objKey Code.goldenMisr 0, [1,0,255,0,0,0,0,0] ++ leBytes 8 77)]},
     by decide +kernel⟩,
   ⟨1, 17, ⟨1001,0,0,0,0⟩, ⟨0,0,0,0,0⟩, sF, by decide +kernel⟩,
   ⟨1, [⟨1,19,[5]⟩], [], sF, by decide +kernel⟩,
   ⟨1, {sF with clusters := [(1,{linkOn := true})]}, by decide +kernel⟩⟩

end S06

namespace S07

def ra (src cls : Nat) (a p : Bool) : Raise := {source := src, key := [], cls := cls, acked := a, present := p, injected := false, captured := false, time := 3, detail := [], access := 0, master := 0, address := 0}
def sR : State := {up with faults := {started := true, held := [ra 10 2 false false, ra 11 1 true false, ra 12 2 true true, ra 13 2 true false]}}
def sB : State := {State.reset with fw := {booted := true, bank0 := {state := 1, seq := 4}, bank1 := {state := 1, seq := 7}}}
def c0 : CommitSet := { seq := 4, time := 3, regs := [(objKey Code.dsWindow 3, 9000)], doms := [] }
def sHd : State := {sR with heat := {coreDown := true, restarting := true}, power := {queue := [pmReq 1 0x01 0x80 1 none], on := [(0,true)]}}

/-- Witnesses for HeldRaisesAreAcknowledgedAndCleared. -/
theorem witness_HeldRaisesAreAcknowledgedAndCleared :
    (∃ (q : Sys2Proof.Path) (tid value : ℕ) (s : State) (o : Obj) (v : ℤ), s.Accepts q Code.faultAck value o v ∧ v ≠
      0) ∧
    (∃ (q : Sys2Proof.Path) (tid value : ℕ) (s : State) (o : Obj) (v : ℤ), s.Accepts q Code.faultClear value o v ∧ v ≠
      0) ∧
    (∃ (q : Sys2Proof.Path) (tid value : ℕ) (s : State) (o : Obj), s.Accepts q Code.fecRearm value o 1) ∧
    (∃ (q : Sys2Proof.Path) (tid value : ℕ) (s : State) (o : Obj) (v : ℤ), s.Accepts q Code.faultInject value o v) ∧
    (∃ (src m : ℕ) (s : State), s.Ready ∧ s.faults.inject = [(src, m)] ∧ defaultClass src < 4 ∧ s.faults.held.length <
      256) :=
  ⟨⟨.spi, 3, 3, sR, (obj Code.faultAck), 3, by decide +kernel⟩,
   ⟨.spi, 3, 2, sR, (obj Code.faultClear), 2, by decide +kernel⟩,
   ⟨.spi, 3, 1, sR, (obj Code.fecRearm), by decide +kernel⟩,
   ⟨.spi, 3, 5, {sR with lc := 1}, (obj Code.faultInject), 5, by decide +kernel⟩,
   ⟨5, 3, {sR with lc := 1, faults := {sR.faults with inject := [(5,3)]}}, by decide +kernel⟩⟩

/-- Witnesses for DeviceResetsStartAnew. -/
theorem witness_DeviceResetsStartAnew :
    (∃ (s : State), s.heat.coreDown = false) ∧
    (∃ (s : State), s.Ready) ∧
    (∃ (q : Sys2Proof.Path) (tid : ℕ) (s : State) (o : Obj), s.Accepts q Code.resetCmd 2 o 2) ∧
    (∃ (s : State), s.faults.fatal = false ∧ s.heat.coreDown = true ∧ 10000 ≤ s.heat.cold ∧ s.heat.restarting = false
      ∧ s.power.queue = [] ∧ s.faults.due = []) ∧
    (∃ (r : PmReq) (w : ℕ) (s : State), s.faults.fatal = false ∧ s.heat.coreDown = true ∧ s.heat.restarting = true ∧
      s.power.queue = [r] ∧ r.rail = 1 ∧ r.cmd = 1 ∧ r.data = 128 ∧ r.waiting = false ∧ r.clear = true ∧ r.notBefore ≤
      s.time.tick ∧ s.railOn 0 = true) :=
  ⟨⟨sR, by decide +kernel⟩,
   ⟨sR, by decide +kernel⟩,
   ⟨.oxlA, 4, sR, (obj Code.resetCmd), by decide +kernel⟩,
   ⟨{sR with heat := {coreDown := true, cold := 10000}}, by decide +kernel⟩,
   ⟨{pmReq 1 0x01 0x80 1 none with clear := true}, 0,
     {sHd with power := {sHd.power with queue := [{pmReq 1 0x01 0x80 1 none with clear := true}]}}, by decide +kernel⟩⟩

/-- Witnesses for StartupLoadsTheSet. -/
theorem witness_StartupLoadsTheSet :
    (∃ (s : State), s.Ready ∧ s.mgmt.mcReset = true ∧ s.faults.started = false ∧ s.fw.bank0.state = 1 ∧
      s.fw.bank1.state = 1 ∧ s.aon.bank0.barred = false ∧ s.aon.bank1.barred = false) ∧
    (∃ (s : State), s.Ready ∧ s.mgmt.mcReset = true ∧ s.faults.started = false ∧ s.fw.bank0.state ≠ 1 ∧
      s.fw.bank1.state ≠ 1 ∧ s.lc ≠ 0 ∧ (∀ r ∈ s.faults.held, r.source ≠ 2)) ∧
    (∃ (s : State) (c : CommitSet), s.Ready ∧ s.mgmt.mcReset = true ∧ s.faults.started = false ∧ s.fw.booted = true ∧
      s.mgmt.waiting = [] ∧ s.currentSet = some c) ∧
    (∃ (q : Sys2Proof.Path) (tid : ℕ) (s : State) (o : Obj), s.Accepts q Code.resetCmd 1 o 1 ∧ s.resetTogether =
      false) ∧
    (∃ (s : State), s.Ready ∧ s.mgmt.mcReset = true ∧ s.faults.started = true) :=
  ⟨⟨sB, by decide +kernel⟩,
   ⟨{sB with fw := {bank0 := {state := 2}}}, by decide +kernel⟩,
   ⟨{sB with nvm := {slotA := some c0}}, c0, by decide +kernel⟩,
   ⟨.spi, 3, sR, (obj Code.resetCmd), by decide +kernel⟩,
   ⟨{sR with mgmt := {waiting := [(.oxlA, {op := 0, tid := 9})]}}, by decide +kernel⟩⟩

/-- Witnesses for LossesAreContained. -/
theorem witness_LossesAreContained :
    (∃ (s : State), s.Ready ∧ (∀ r ∈ s.faults.held, r.source ≠ 1)) ∧
    (∃ (i : Instr) (k : ℕ) (s : State), (i = Instr.clusterPllUnlock k ∨ i = Instr.clusterRailFall k false ∨ i =
      Instr.clusterRailFall k true) ∧ s.Ready ∧ k < 9 ∧ (s.cluster k).linkOn = true) ∧
    (∃ (p : ℕ) (s : State), s.Ready ∧ p < 144 ∧ (s.port p).shorted = false) ∧
    (∃ (p : ℕ) (s : State), s.Ready ∧ p < 144 ∧ (s.port p).shorted = true) :=
  ⟨⟨sR, by decide +kernel⟩,
   ⟨(.clusterRailFall 2 true), 2, {sR with clusters := [(2,{linkOn := true})]}, by decide +kernel⟩,
   ⟨7, sR, by decide +kernel⟩,
   ⟨7, {sR with ports := [(7,{shorted := true})]}, by decide +kernel⟩⟩

end S07

namespace S08

def sD : State := {up with clusters := [(4, {entering := true})], ports := [(65, {started := true, mode := 1})]
                           power := {up.power with on := [(0,true),(8,true),(17,true)]}}
def sW (n : Nat) (tr : Nat := 0) : State := {sD with clusters := [(4,{state := 3, step := n, acked := true, tries := tr})]}
def sSt : State := {up with time := {up.time with running := true, nextCycle := 100000}, ports := [(65,{started := true, mode := 1})], clusters := [(4,{ready := true, linkOn := true})]}

/-- Witnesses for ClustersEnterDormantAndWake. -/
theorem witness_ClustersEnterDormantAndWake :
    (∃ (q : Sys2Proof.Path) (tid : ℕ) (s : State) (o : Obj), s.Accepts q Code.clusterTarget 2 o 2 ∧ (s.path
      q).selCluster < 9) ∧
    (∃ (q : Sys2Proof.Path) (tid : ℕ) (s : State) (o : Obj), s.Accepts q Code.clusterTarget 0 o 0 ∧ (s.path
      q).selCluster < 9 ∧ (s.cluster (s.path q).selCluster).state = 2 ∧ (s.cluster (s.path q).selCluster).closing =
      false ∧ (s.cluster (s.path q).selCluster).entering = false) ∧
    (∃ (q : Sys2Proof.Path) (tid value : ℕ) (s : State) (o : Obj) (v : ℤ), s.Accepts q Code.wakeAlarm value o v ∧
      (s.path q).selCluster < 9) ∧
    (∃ (k : ℕ) (cal : List Byte) (s : State), s.Ready ∧ k < 9 ∧ (s.cluster k).entering = true ∧ (s.cluster k).state ≤
      1 ∧ s.outsideBeacons k = true ∧ s.railOn (4 + k) = true ∧ s.railOn (13 + k) = true ∧ s.power.queue = []) ∧
    (∃ (k a : ℕ) (s : State), s.Ready ∧ k < 9 ∧ s.aon.alarms.get k 0 = a ∧ 0 < a ∧ a ≤ s.aon.rtc ∧ (s.cluster k).state
      = 2 ∧ (s.cluster k).entering = false ∧ (s.cluster k).closing = false) ∧
    (∃ (k a : ℕ) (s : State), s.Ready ∧ k < 9 ∧ s.aon.alarms.get k 0 = a ∧ 0 < a ∧ a ≤ s.aon.rtc ∧ (s.cluster k).state
      ≠ 2) ∧
    (∃ (k : ℕ) (m : WakeMeasure) (s : State), s.Ready ∧ k < 9 ∧ (s.cluster k).state = 3 ∧ (s.cluster k).step = 1 ∧
      (s.cluster k).acked = true ∧ m.statusWord = 0) ∧
    (∃ (k : ℕ) (m : WakeMeasure) (s : State), s.Ready ∧ k < 9 ∧ (s.cluster k).state = 3 ∧ (s.cluster k).step = 2 ∧
      (s.cluster k).acked = true ∧ m.statusWord = 0) ∧
    (∃ (k : ℕ) (m : WakeMeasure) (s : State), s.Ready ∧ k < 9 ∧ (s.cluster k).state = 3 ∧ (s.cluster k).step = 3 ∧
      m.pllLocked = true) ∧
    (∃ (k : ℕ) (m : WakeMeasure) (s : State), s.Ready ∧ k < 9 ∧ (s.cluster k).state = 3 ∧ (s.cluster k).step = 3 ∧
      m.pllLocked = false ∧ (s.cluster k).tries = 0) ∧
    (∃ (k : ℕ) (m : WakeMeasure) (s : State), s.Ready ∧ k < 9 ∧ (s.cluster k).state = 3 ∧ (s.cluster k).step = 3 ∧
      m.pllLocked = false ∧ (s.cluster k).tries ≠ 0 ∧ (s.cluster k).heatRestart = false ∧ (s.cluster k).wakeAfter =
      false) ∧
    (∃ (k : ℕ) (m : WakeMeasure) (s : State), s.Ready ∧ k < 9 ∧ (s.cluster k).state = 3 ∧ (s.cluster k).step = 4) ∧
    (∃ (k : ℕ) (m : WakeMeasure) (s : State), s.Ready ∧ k < 9 ∧ (s.cluster k).state = 3 ∧ (s.cluster k).step = 5) :=
  ⟨⟨.spi, 3, {up with mgmt := {mcReset := false, spi := {selCluster := 4}}}, (obj Code.clusterTarget),
    by decide +kernel⟩,
   ⟨.spi, 3, {up with mgmt := {mcReset := false, spi := {selCluster := 4}}, clusters := [(4,{state := 2})]}, (obj
     Code.clusterTarget), by decide +kernel⟩,
   ⟨.spi, 3, 99999999, {up with mgmt := {mcReset := false, spi := {selCluster := 4}}, clusters := [(4,{state := 2})]},
     (obj Code.wakeAlarm), 99999999, by decide +kernel⟩,
   ⟨4, [1,2,3], {sD with ports := [(65, {started := true, mode := 1})]}, by decide +kernel⟩,
   ⟨4, 500, {sD with aon := {rtc := 1000, alarms := [(4,500)]}, clusters := [(4,{state := 2})]}, by decide +kernel⟩,
   ⟨4, 500, {sD with aon := {rtc := 1000, alarms := [(4,500)]}}, by decide +kernel⟩,
   ⟨4, {statusWord := 0, pllLocked := true, badA := [], badB := []}, (sW 1), by decide +kernel⟩,
   ⟨4, {statusWord := 0, pllLocked := true, badA := [], badB := []}, (sW 2), by decide +kernel⟩,
   ⟨4, {statusWord := 0, pllLocked := true, badA := [], badB := []}, (sW 3), by decide +kernel⟩,
   ⟨4, {statusWord := 0, pllLocked := false, badA := [], badB := []}, (sW 3), by decide +kernel⟩,
   ⟨4, {statusWord := 0, pllLocked := false, badA := [], badB := []}, (sW 3 1), by decide +kernel⟩,
   ⟨4, {statusWord := 0, pllLocked := false, badA := [], badB := []}, (sW 4 1), by decide +kernel⟩,
   ⟨4, {statusWord := 0, pllLocked := false, badA := [], badB := []}, (sW 5 1), by decide +kernel⟩⟩

/-- Witnesses for SteepAndRails. -/
theorem witness_SteepAndRails :
    (∃ (r : PmReq) (rest : List PmReq) (s : State) (k : ℕ), s.Ready ∧ s.power.queue = r :: rest ∧ r.waiting = false ∧
      r.notBefore ≤ s.time.tick ∧ s.heat.restarting = false ∧ r.rail = 13 + k ∧ r.cmd = 121 ∧ r.check = true ∧
      r.wakeOf = none ∧ rest = [] ∧ k < 9 ∧ (s.cluster k).state ≠ 5 ∧ s.power.status.get (13 + k) 0 = 0) ∧
    (∃ (r : PmReq) (rest : List PmReq) (s : State) (w : ℕ), s.Ready ∧ s.power.queue = r :: rest ∧ r.waiting = false ∧
      r.notBefore ≤ s.time.tick ∧ s.heat.restarting = false ∧ r.cmd = 1 ∧ r.clear = false) ∧
    (∃ (r : PmReq) (rest : List PmReq) (s : State) (w : ℕ), s.Ready ∧ s.power.queue = r :: rest ∧ r.waiting = false ∧
      r.notBefore ≤ s.time.tick ∧ s.heat.restarting = false ∧ r.cmd = 1 ∧ r.data = 128 ∧ r.prio ≠ 4 ∧ r.check = false
      ∧ r.clear = true) ∧
    (∃ (r : PmReq) (rest : List PmReq) (s : State) (res : PmbusResult), s.Ready ∧ s.power.queue = r :: rest ∧
      r.waiting = false ∧ r.notBefore ≤ s.time.tick ∧ s.heat.restarting = false ∧ (res = PmbusResult.badPec ∨ res =
      PmbusResult.busyTimeout ∨ res = PmbusResult.nack) ∧ r.tries < 2) ∧
    (∃ (r : PmReq) (rest : List PmReq) (s : State), s.Ready ∧ s.power.queue = r :: rest ∧ r.waiting = false ∧
      r.notBefore ≤ s.time.tick ∧ s.heat.restarting = false ∧ r.tries = 2 ∧ r.wakeOf = none ∧ r.cmd = 121 ∧ r.check =
      false ∧ r.rail < 22) ∧
    (∃ (r : PmReq) (rest : List PmReq) (w : ℕ) (s : State), s.Ready ∧ s.power.queue = r :: rest ∧ r.waiting = false ∧
      r.notBefore ≤ s.time.tick ∧ r.cmd = 1 ∧ (w = 128 ∨ w = 0) ∧ s.power.status.get r.rail 0 = 0) ∧
    (∃ (r : PmReq) (rest : List PmReq) (s : State), s.Ready ∧ s.power.queue = r :: rest ∧ r.waiting = true) ∧
    (∃ (s : State), s.Ready ∧ s.power.queue = []) ∧
    (∃ (ample : Bool) (s : State), s.Ready ∧ s.regB Code.avsEnable 0 = true ∧ s.power.started = true ∧ s.power.avsAt =
      none ∧ s.reg Code.vcoreMin 0 ≤ ↑s.power.vcore + 10 ∧ ↑s.power.vcore + 10 ≤ s.reg Code.vcoreMax 0 ∧ s.power.queue
      = []) ∧
    (∃ (p : ℕ) (s : State) (a_7 b : ℕ), s.Ready ∧ p < 144 ∧ (s.port p).started = true ∧ (s.port p).mode ≠ 0 ∧ (s.port
      p).stopped = false ∧ (s.cluster (clusterOf p)).state ≤ 1 ∧ s.time.running = true ∧ s.idleSpan p = some (a_7, b)
      ∧ a_7 + 200 ≤ b ∧ s.cyclePos + 100 < b) ∧
    (∃ (p : ℕ) (s : State) (a_7 b : ℕ), s.Ready ∧ p < 144 ∧ (s.port p).started = true ∧ (s.port p).mode ≠ 0 ∧ (s.port
      p).stopped = false ∧ (s.cluster (clusterOf p)).state ≤ 1 ∧ s.time.running = true ∧ s.idleSpan p = some (a_7, b)
      ∧ (b < a_7 + 200 ∨ b ≤ s.cyclePos + 100)) ∧
    (∃ (p : ℕ) (s : State), s.Ready ∧ p < 144 ∧ (s.port p).started = true ∧ (s.port p).mode ≠ 0 ∧ (s.port p).stopped =
      false ∧ (s.cluster (clusterOf p)).state ≤ 1 ∧ s.time.running = true ∧ s.idleSpan p = none) ∧
    (∃ (p : ℕ) (s : State), s.Ready ∧ p < 144 ∧ (s.port p).steep = true ∧ (s.port p).started = true ∧ 100 < s.idleLeft
      p) ∧
    (∃ (p : ℕ) (s : State), s.Ready ∧ p < 144 ∧ (s.port p).steep = true ∧ (s.port p).started = true ∧ s.idleLeft p ≤
      100) ∧
    (∃ (k : ℕ) (s : State), s.Ready ∧ k < 9 ∧ (s.cluster k).state = 0 ∧ (∀ p ∈ portsOf k, (s.port p).mode = 0 ∨
      (s.port p).steep = true ∧ 400 < s.idleLeft p)) ∧
    (∃ (k : ℕ) (s : State), s.Ready ∧ k < 9 ∧ (s.cluster k).state = 1) :=
  ⟨⟨({pmReq 17 0x79 0 4 none with check := true}), [],
    {sD with power := {up.power with queue := [{pmReq 17 0x79 0 4 none with check := true}]}}, 4, by decide +kernel⟩,
   ⟨(pmReq 17 1 0x80 2 (some 4)), [pmReq 3 0x79 0 4 none],
     {sD with power := {up.power with queue := [pmReq 17 1 0x80 2 (some 4), pmReq 3 0x79 0 4 none]}}, 3,
     by decide +kernel⟩,
   ⟨({pmReq 17 1 0x80 2 (some 4) with clear := true}), [pmReq 3 0x79 0 4 none], {sD with power := {up.power with queue := [{pmReq 17 1 0x80 2 (some 4) with clear := true}, pmReq 3 0x79 0 4 none]}},
     3, by decide +kernel⟩,
   ⟨({pmReq 17 1 0x80 2 (some 4) with clear := true}), [pmReq 3 0x79 0 4 none], {sD with power := {up.power with queue := [{pmReq 17 1 0x80 2 (some 4) with clear := true}, pmReq 3 0x79 0 4 none]}},
     .nack, by decide +kernel⟩,
   ⟨({pmReq 17 0x79 0x80 2 none with tries := 2}), [pmReq 3 0x79 0 4 none],
     {sD with power := {up.power with queue := [{pmReq 17 0x79 0x80 2 none with tries := 2}, pmReq 3 0x79 0 4 none]}},
     by decide +kernel⟩,
   ⟨(pmReq 17 1 0x80 2 (some 4)), [pmReq 3 0x79 0 4 none], 0x80,
     {sD with power := {up.power with queue := [pmReq 17 1 0x80 2 (some 4), pmReq 3 0x79 0 4 none]}},
     by decide +kernel⟩,
   ⟨({pmReq 17 1 0x80 2 (some 4) with waiting := true}), [pmReq 3 0x79 0 4 none], {sD with power := {up.power with queue := [{pmReq 17 1 0x80 2 (some 4) with waiting := true}, pmReq 3 0x79 0 4 none]}},
     by decide +kernel⟩,
   ⟨sD, by decide +kernel⟩,
   ⟨false, {sD with power := {vcore := 800, started := true}}, by decide +kernel⟩,
   ⟨65, sSt, 0, 32000, by decide +kernel⟩,
   ⟨65, {sSt with time := {up.time with running := true, nextCycle := 100000, time64 := 91950}}, 0, 32000,
     by decide +kernel⟩,
   ⟨65, {sSt with time := {up.time with running := true, nextCycle := 100000, time64 := 99950}}, by decide +kernel⟩,
   ⟨65, {sSt with ports := [(65,{started := true, mode := 1, steep := true})], clusters := [(4,{state := 1, gated := true})]},
     by decide +kernel⟩,
   ⟨65, {sSt with time := {up.time with running := true, nextCycle := 100000, time64 := 99950}, ports := [(65,{started := true, mode := 1, steep := true})],
                  clusters := [(4,{state := 1, gated := true})]}, by decide +kernel⟩,
   ⟨4, {sSt with ports := [(65,{started := true, mode := 1, steep := true})]}, by decide +kernel⟩,
   ⟨4, {sSt with time := {up.time with running := true, nextCycle := 100000, time64 := 99850}, ports := [(65,{started := true, mode := 1, steep := true})],
                 clusters := [(4,{state := 1, gated := true})]}, by decide +kernel⟩⟩

/-- Witnesses for HeatIsGoverned. -/
theorem witness_HeatIsGoverned :
    (∃ (ts : List ℤ) (s : State), ts.length = 10) ∧
    (∃ (s : State), s.Ready) ∧
    (∃ (ts : List ℤ) (s : State), s.Ready ∧ ts.length = 10 ∧ s.heat.throttled = false ∧ (∀ n < 10, (s.sensor n).broken
      = false ∧ (s.sensor n).hot = 0 ∧ (s.sensor n).warned = none) ∧ (∀ x ∈ ts, x < 16 * s.reg Code.tjWarn 0 ∧ x < 16
      * 110) ∧ (∀ n < 10, s.sensorValid n = false)) ∧
    (∃ (t0 : ℤ) (s : State), s.Ready ∧ 16 * 125 ≤ t0 ∧ (∀ n < 10, s.sensorValid n = false) ∧ (∀ n < 10, (s.sensor
      n).broken = false)) ∧
    (∃ (k : ℕ) (x : ℤ) (s : State), s.Ready ∧ k < 9 ∧ 16 * 125 ≤ x ∧ (s.cluster k).state ≤ 1 ∧ (∀ n < 10,
      s.sensorValid n = false) ∧ (∀ n < 10, (s.sensor n).broken = false)) ∧
    (∃ (s : State), s.Ready ∧ s.heat.throttled = true ∧ 10000 ≤ s.heat.cool) ∧
    (∃ (k : ℕ) (s : State), s.Ready ∧ k < 9 ∧ s.heat.coreDown = false ∧ 10000 ≤ s.heat.cold ∧ (s.cluster k).state = 5
      ∧ (s.cluster k).heatStuck = false ∧ (s.cluster k).heatRestart = false ∧ (s.cluster k).entering = false ∧
      (s.cluster k).closing = false) :=
  ⟨⟨(List.replicate 10 800), sD, by decide +kernel⟩,
   ⟨sD, by decide +kernel⟩,
   ⟨(List.replicate 10 800), sD, by decide +kernel⟩,
   ⟨2000, sD, by decide +kernel⟩,
   ⟨4, 2000, sD, by decide +kernel⟩,
   ⟨{sD with heat := {throttled := true, cool := 10000}}, by decide +kernel⟩,
   ⟨5, {sD with heat := {throttled := true, cold := 10000}, clusters := [(5,{state := 5})]}, by decide +kernel⟩⟩

end S08

namespace S10

def trunkIn : State := {up with regs := [(objKey Code.timeSource 0, 3)]}
def lrn (k : Nat) : State := {up with aon := {acquired := true, epochWritten := true, learned := true}, time := {grade := 1, unsync := false, tick := k, boundAt := 0}}

/-- Witnesses for TimingInputsQualifyAndFail. -/
theorem witness_TimingInputsQualifyAndFail :
    (∃ (s : State), s.Ready ∧ s.trunkSource = none ∧ s.time.ref10m = false) ∧
    (∃ (s : State), s.Ready ∧ s.trunkSource = none ∧ s.time.ref10m = true) ∧
    (∃ (s : State), s.Ready ∧ s.trunkSource = none ∧ s.time.pps = true) ∧
    (∃ (s : State), s.Ready ∧ s.trunkSource.isSome = true) ∧
    (∃ (s : State), s.Ready ∧ s.trunkSource.isSome = true) ∧
    (∃ (s : State), s.Ready ∧ s.trunkSource.isSome = true) ∧
    (∃ (since : ℕ) (ns : ℤ) (s : State), s.Ready ∧ s.trunkSource = none ∧ s.time.pps = true ∧ (¬(9999990 ≤ since ∧
      since ≤ 10000010))) ∧
    (∃ (since : ℕ) (ns : ℤ) (s : State), s.Ready ∧ s.trunkSource = none ∧ s.time.pps = false ∧ s.time.candidates = 0) ∧
    (∃ (since : ℕ) (ns : ℤ) (s : State), s.Ready ∧ s.trunkSource = none ∧ s.time.pps = false ∧ s.time.candidates = 1 ∧
      (9999990 ≤ since ∧ since ≤ 10000010)) ∧
    (∃ (since : ℕ) (ns : ℤ) (s : State), s.Ready ∧ s.trunkSource = none ∧ s.time.pps = false ∧ 1 ≤ s.time.candidates ∧
      (¬(9999990 ≤ since ∧ since ≤ 10000010))) :=
  ⟨⟨up, by decide +kernel⟩,
   ⟨(mT fun t => {t with ref10m := true}), by decide +kernel⟩,
   ⟨(mT fun t => {t with pps := true}), by decide +kernel⟩,
   ⟨trunkIn, by decide +kernel⟩,
   ⟨trunkIn, by decide +kernel⟩,
   ⟨trunkIn, by decide +kernel⟩,
   ⟨9999989, 0, (mT fun t => {t with pps := true}), by decide +kernel⟩,
   ⟨5, 0, up, by decide +kernel⟩,
   ⟨9999990, 0, (mT fun t => {t with candidates := 1}), by decide +kernel⟩,
   ⟨9999989, 0, (mT fun t => {t with candidates := 2}), by decide +kernel⟩⟩

/-- Witnesses for ReferencesSteerTheTimeBase. -/
theorem witness_ReferencesSteerTheTimeBase :
    (∃ (since : ℕ) (edge : ℤ) (s : State), s.Ready ∧ s.trunkSource = none ∧ s.time.pps = false ∧ s.time.candidates = 2
      ∧ s.time.running = true ∧ 9999990 ≤ since ∧ since ≤ 10000010) ∧
    (∃ (xo : ℤ) (s : State), s.Ready ∧ (s.trunkSource = none → s.time.ref10m = true) ∧ (s.trunkSource.isSome = true →
      s.time.trunkTick = true) ∧ s.time.qualifiedAt + 600000000 ≤ s.time.tick) ∧
    (∃ (xo : ℤ) (s : State), s.Ready ∧ (s.trunkSource = none ∧ s.time.ref10m = false ∨ s.trunkSource.isSome = true ∧
      s.time.trunkTick = false ∨ s.time.tick < s.time.qualifiedAt + 600000000)) ∧
    (∃ (s : State), s.aon.acquired = true ∧ s.aon.epochWritten = true ∧ s.time.unsync = false ∧ s.trunkSource = none ∧
      s.time.grade ≠ 0 ∧ s.time.realignPending = false ∧ s.time.slew = 0 ∧ s.time.ref10m = false ∧ s.time.pps = false
      ∧ s.aon.learned = true ∧ s.time.bound = 0 ∧ s.time.tick - s.time.boundAt ≤ 100000000) ∧
    (∃ (s : State), s.aon.acquired = true ∧ s.aon.epochWritten = true ∧ s.time.unsync = false ∧ s.trunkSource = none ∧
      s.time.grade ≠ 0 ∧ s.time.realignPending = false ∧ s.time.slew = 0 ∧ s.time.ref10m = false ∧ s.time.pps = false
      ∧ s.aon.learned = true ∧ s.time.bound = 0 ∧ 100010000 ≤ s.time.tick - s.time.boundAt ∧ s.time.tick -
      s.time.boundAt ≤ 10000000000) ∧
    (∃ (s : State), s.aon.acquired = true ∧ s.aon.epochWritten = true ∧ s.time.unsync = false ∧ s.trunkSource = none ∧
      s.time.grade ≠ 0 ∧ s.time.realignPending = false ∧ s.time.slew = 0 ∧ s.time.ref10m = false ∧ s.time.pps = false
      ∧ s.aon.learned = true ∧ s.time.bound = 0 ∧ 10000010000 ≤ s.time.tick - s.time.boundAt) ∧
    (∃ (s : State), s.Ready ∧ s.time.grade = 0 ∧ s.gradeNow ≠ 0 ∧ s.time.realignPending = false) ∧
    (∃ (s : State), s.Ready ∧ s.time.grade ≠ 0 ∧ s.gradeNow ≠ 0 ∧ s.gradeNow ≠ s.time.grade) ∧
    (∃ (s : State), s.Ready ∧ s.gradeNow = s.time.grade) :=
  ⟨⟨10000000, (-5000), (mT fun t => {t with running := true, candidates := 2}), by decide +kernel⟩,
   ⟨7, (mT fun t => {t with ref10m := true, tick := 600000000}), by decide +kernel⟩,
   ⟨7, (mT fun t => {t with ref10m := true, tick := 60000000}), by decide +kernel⟩,
   ⟨(lrn 100000000), by decide +kernel⟩,
   ⟨(lrn 100010000), by decide +kernel⟩,
   ⟨(lrn 10000010000), by decide +kernel⟩,
   ⟨(mT fun t => {t with grade := 0, tick := 60000000}), by decide +kernel⟩,
   ⟨(lrn 100010000), by decide +kernel⟩,
   ⟨(mT fun t => {t with grade := 3, tick := 60000000}), by decide +kernel⟩⟩

/-- Witnesses for TheGridStartsAndIsRealigned. -/
theorem witness_TheGridStartsAndIsRealigned :
    (∃ (since : ℕ) (ns : ℤ) (s : State), s.Ready ∧ s.trunkSource = none ∧ s.time.pps = true ∧ s.time.starting = true ∧
      9999990 ≤ since ∧ since ≤ 10000010) ∧
    (∃ (s : State), s.Ready ∧ s.time.starting = true ∧ s.time.pps = false ∧ s.time.waitFrom + s.regN Code.startTimeout
      0 * 10000000 ≤ s.time.tick) ∧
    (∃ (s : State), s.Ready ∧ s.time.tick < s.time.waitFrom + s.regN Code.startTimeout 0 * 10000000) ∧
    (∃ (q : Sys2Proof.Path) (tid value : ℕ) (s : State) (o : Obj), s.Accepts q Code.realign value o 1) ∧
    (∃ (old : ℕ) (edge : ℤ) (s : State), s.Ready ∧ s.time.realigning = true ∧ s.time.running = false) ∧
    (∃ (q : Sys2Proof.Path) (tid value : ℕ) (s : State) (o : Obj), s.Accepts q Code.realign value o 1) ∧
    (∃ (old : ℕ) (edge : ℤ) (s : State), s.Ready ∧ s.time.realigning = false) :=
  ⟨⟨10000000, 4, {mT fun t => {t with pps := true, starting := true} with aon := {keptTime := true, rtc := 15000000}},
    by decide +kernel⟩,
   ⟨{mT fun t => {t with starting := true, tick := 10^12} with aon := {keptTime := true, rtc := 15000000}},
     by decide +kernel⟩,
   ⟨{mT fun t => {t with starting := true, tick := 1} with aon := {keptTime := true, rtc := 15000000}},
     by decide +kernel⟩,
   ⟨.spi, 3, 1, (mT fun t =>
     {t with realignPending := true, realigning := true, time64 := 29999999, slew := -3, nextCycle := 30000000}), (obj
     Code.realign), by decide +kernel⟩,
   ⟨25000000, 5, (mT fun t => {t with realigning := true, time64 := 29999999, slew := -3, nextCycle := 30000000}),
     by decide +kernel⟩,
   ⟨.spi, 3, 1, (mT fun t => {t with realignPending := true}), (obj Code.realign), by decide +kernel⟩,
   ⟨77, 5, up, by decide +kernel⟩⟩

/-- Witnesses for EpochsApplyAtTheirDatum. -/
theorem witness_EpochsApplyAtTheirDatum :
    (∃ (q : Sys2Proof.Path) (tid value : ℕ) (s : State) (o : Obj) (v : ℤ), s.Accepts q Code.epochSet value o v) ∧
    (∃ (q : Sys2Proof.Path) (tid value : ℕ) (s : State), s.Serves q ∧ value < 2 ^ 64 ∧ value % 10000000 ≠ 0 ∧ s.lc ≠
      0) ∧
    (∃ (s : State) (v d : ℕ), s.Ready ∧ s.time.running = true ∧ s.time.epoch = some (v, d) ∧ s.time.time64 ≤ d ∧
      s.time.nextCycle = d) ∧
    (∃ (s : State) (v d : ℕ), s.Ready ∧ s.time.epoch = some (v, d) ∧ s.time.announced = false ∧ d ≤ s.time.time64 +
      10000000 ∧ s.time.time64 < d) ∧
    (∃ (s : State), s.Ready ∧ s.time.epoch = none) ∧
    (∃ (s : State), s.Ready ∧ s.time.epoch = none) :=
  ⟨⟨.spi, 3, 30000000, (mT fun t => {t with time64 := 1}), (obj Code.epochSet), 30000000, by decide +kernel⟩,
   ⟨.oxlA, 3, 30000001, (mT fun t => {t with time64 := 1}), by decide +kernel⟩,
   ⟨(mT fun t => {t with time64 := 1, running := true, epoch := some (50000000, 30000000), nextCycle := 30000000}),
     50000000, 30000000, by decide +kernel⟩,
   ⟨(mT fun t => {t with time64 := 29000000, epoch := some (50000000, 30000000), nextCycle := 30000000}), 50000000,
     30000000, by decide +kernel⟩,
   ⟨up, by decide +kernel⟩,
   ⟨up, by decide +kernel⟩⟩

/-- Witnesses for TheGridTurns. -/
theorem witness_TheGridTurns :
    (∃ (xo : ℤ) (s : State), s.Ready ∧ s.time.running = true) ∧
    (∃ (es : List Echo) (s : State), s.Ready ∧ s.time.running = true ∧ s.time.realigning = false ∧ s.time.time64 ≤
      s.time.nextCycle ∧ s.time.nextCycle % s.cycleTicks = 0 ∧ 1 ≤ s.time.n) ∧
    (∃ (es : List Echo) (s : State), s.Ready ∧ s.time.running = true ∧ s.time.realigning = true) ∧
    (∃ (xo : ℤ) (s : State), s.Ready ∧ s.time.running = false) ∧
    (∃ (xo : ℤ) (s : State) (es : List Echo), s.Ready ∧ s.time.running = false) :=
  ⟨⟨55, (mT fun t =>
    {t with running := true, time64 := 29000000, epoch := some (50000000, 30000000), nextCycle := 30000000}),
    by decide +kernel⟩,
   ⟨[], (mT fun t => {t with running := true, time64 := 29999999, slew := -3, nextCycle := 30000000}),
     by decide +kernel⟩,
   ⟨[], (mT fun t =>
     {t with running := true, realigning := true, time64 := 29999999, slew := -3, nextCycle := 30000000}),
     by decide +kernel⟩,
   ⟨5, up, by decide +kernel⟩,
   ⟨5, up, [], by decide +kernel⟩⟩

end S10

namespace S11

def m0 : SlotMap := {period := 1, slots := [{drop := 5, cycle := 0, start := 12000, len := 4000}]}
def sG (rx : RxSt) : State := {up with
  mgmt := {mcReset := false, spi := {selPort := 3, selDrop := 5}}
  time := {running := true, time64 := 1000012000, nextCycle := 1000040000, cycles := 25000}
  ports := [(3, {mode := 1, started := true, map := m0, rx := rx})]
  ctxs := [(197, {state := 2, epoch := 4, rxNext := 9})]}
def sA (st : RxState) (r : RxSt := {}) : State := sG {r with span := .slot 5, state := st}
def mm : SlotMap := {period := 1, slots := [{drop := 5, cycle := 0, start := 12000, len := 4000},{drop := 6, cycle := 0, start := 16000, len := 4000}]}
def hb (drop : Nat) : BitVec 64 := packHeader 1 drop 4 9 0 64 0
def hbl : BitVec 64 := packHeader 1 5 4 9 0 2001 0
def pay : List Byte := List.replicate 64 7
def bod : List Byte := whiten (whitenSeed (sA .tail).cycleNow 5 true) (pay ++ beBytes 4 (lineCrc (hb 5) pay).toNat)
def sT : State := {sA .tail {header := some (unpackHeader (hb 5))} with oxl := {a := {fit := true, state := 6}, b := {fit := true, state := 6}}}
def meas : RxMeasure := {acq := [[1]], track := [[7],[9]], agcGain := 0, phase := 0, freqOffset := 0, slicerScale := 300, rxAmpl := 0, arrival := 5, tapErrors := 0, echo := []}
def lev : List Nat := bodyLevels 0x60 bod

/-- Witnesses for SlotMapsTakeEffectAtTheirCycle. -/
theorem witness_SlotMapsTakeEffectAtTheirCycle :
    (∃ (q : Sys2Proof.Path) (tid value p d : ℕ) (s : State) (o : Obj) (v : ℤ) (m : SlotMap), s.Accepts q Code.grant
      value o v ∧ (s.path q).selPort = p ∧ (s.path q).selDrop = d ∧ p < 144 ∧ 1 ≤ d ∧ d ≤ 32 ∧ (s.port p).move = none
      ∧ (s.port p).pending = none ∧ ((s.port p).map.slotOf d).isSome = true ∧ (s.setReg Code.grant (dropKey p d)
      v).planMap p = some m) ∧
    (∃ (p : ℕ) (a : PendingMap) (s : State), s.Ready ∧ p < 144 ∧ (s.port p).pending = some a ∧ (s.port p).waiting = []
      ∧ (s.port p).move = none ∧ (∀ d < 64, (s.ctx p d).wakeApply = none) ∧ a.apply ≤ s.time.cycles + 1) ∧
    (∃ (p : ℕ) (a : PendingMap) (s : State), s.Ready ∧ p < 144 ∧ (s.port p).pending = some a ∧ (s.port p).waiting = []
      ∧ (s.port p).move = none ∧ (∀ d < 64, (s.ctx p d).wakeApply = none) ∧ s.time.cycles + 1 < a.apply) :=
  ⟨⟨.spi, 3, 100, 3, 5, (sG {}), (obj Code.grant), 100, ((((sG {}).setReg Code.grant 197 100).planMap 3).getD {}),
    by decide +kernel⟩,
   ⟨3, {map := {m0 with period := 2}, apply := 25001}, {sG {} with ports := [(3, {mode := 1, started := true, pending := some {map := {m0 with period := 2}, apply := 25001}})]},
     by decide +kernel⟩,
   ⟨3, {map := {m0 with period := 2}, apply := 25002}, {sG {} with ports := [(3, {mode := 1, started := true, pending := some {map := {m0 with period := 2}, apply := 25002}})]},
     by decide +kernel⟩⟩

/-- Witnesses for ReceiversAcquire. -/
theorem witness_ReceiversAcquire :
    (∃ (p d : ℕ) (s : State), s.Ready ∧ p < 144 ∧ 1 ≤ d ∧ d ≤ 32 ∧ s.listening p = true ∧ (s.port p).map.hasSlot d
      s.cycleNow = true ∧ inReception (s.port p).rx.state = false ∧ (∀ w < 64, s.isBad 2 (ctxWord p d + w) = false)) ∧
    (∃ (p d : ℕ) (s : State), s.Ready ∧ p < 144 ∧ 1 ≤ d ∧ d ≤ 32 ∧ s.listening p = true ∧ (s.port p).map.hasSlot d
      s.cycleNow = true ∧ inReception (s.port p).rx.state = false ∧ (∀ w < 64, s.isBad 2 (ctxWord p d + w) = false)) ∧
    (∃ (p d : ℕ) (s : State), s.Ready ∧ p < 144 ∧ 1 ≤ d ∧ d ≤ 32 ∧ s.listening p = true ∧ (s.port p).map.hasSlot d
      s.cycleNow = true ∧ inReception (s.port p).rx.state = false ∧ (∀ w < 64, s.isBad 2 (ctxWord p d + w) = false)) ∧
    (∃ (p d : ℕ) (v0 v1 : List ℤ) (e0 e1 : ℤ) (s : State), s.Ready ∧ p < 144 ∧ s.listening p = true ∧ (s.port
      p).rx.span = RxSpan.slot d ∧ (s.port p).rx.state = RxState.armed ∧ s.slotOver p d = false ∧ s.cyclePos + (s.port
      p).latch.t + (s.port p).latch.c < s.cycleTicks ∧ energyOf v0 = some e0 ∧ energyOf v1 = some e1 ∧ (fun e =>
      (s.port p).rx.noiseFloor + 524288 * ↑(s.port p).latch.detThresh ≤ 65536 * e) e0 ∧ (fun e => (s.port
      p).rx.noiseFloor + 524288 * ↑(s.port p).latch.detThresh ≤ 65536 * e) e1) ∧
    (∃ (p d : ℕ) (v0 v1 : List ℤ) (e0 e1 : ℤ) (s : State), s.Ready ∧ p < 144 ∧ s.listening p = true ∧ (s.port
      p).rx.span = RxSpan.slot d ∧ (s.port p).rx.state = RxState.armed ∧ s.slotOver p d = false ∧ s.cyclePos + (s.port
      p).latch.t + (s.port p).latch.c < s.cycleTicks ∧ energyOf v0 = some e0 ∧ energyOf v1 = some e1 ∧ (¬((fun e =>
      (s.port p).rx.noiseFloor + 524288 * ↑(s.port p).latch.detThresh ≤ 65536 * e) e0 ∧ (fun e => (s.port
      p).rx.noiseFloor + 524288 * ↑(s.port p).latch.detThresh ≤ 65536 * e) e1))) ∧
    (∃ (p d : ℕ) (s : State), s.Ready ∧ p < 144 ∧ s.listening p = true ∧ (s.port p).rx.span = RxSpan.slot d ∧ (s.port
      p).rx.state = RxState.acquire) ∧
    (∃ (p d : ℕ) (s : State), s.Ready ∧ p < 144 ∧ s.listening p = true ∧ (s.port p).rx.span = RxSpan.slot d ∧ (s.port
      p).rx.state = RxState.acquire) ∧
    (∃ (p d : ℕ) (s : State), s.Ready ∧ p < 144 ∧ s.listening p = true ∧ (s.port p).rx.span = RxSpan.slot d ∧ (s.port
      p).rx.state = RxState.acquire ∧ (s.port p).rx.loaded = none ∧ (s.port p).rx.recovery = false) ∧
    (∃ (p d : ℕ) (s : State), s.Ready ∧ p < 144 ∧ s.listening p = true ∧ (s.port p).rx.span = RxSpan.slot d ∧ (s.port
      p).rx.state = RxState.search ∧ (s.port p).rx.loaded = none ∧ (s.port p).rx.recovery = false ∧ (s.port
      p).rx.returned = false) ∧
    (∃ (p d : ℕ) (s : State), s.Ready ∧ p < 144 ∧ s.listening p = true ∧ (s.port p).rx.span = RxSpan.slot d ∧ (s.port
      p).rx.state = RxState.search) ∧
    (∃ (p d : ℕ) (s : State) (w : BitVec 32) (vs : List (List ℤ)), s.Ready ∧ p < 144 ∧ s.listening p = true ∧ (s.port
      p).rx.span = RxSpan.slot d ∧ (s.port p).rx.state = RxState.search ∧ syncErrors w ≤ (s.port p).latch.syncTol) ∧
    (∃ (p d : ℕ) (s : State), s.Ready ∧ p < 144 ∧ s.listening p = true ∧ (s.port p).rx.span = RxSpan.slot d ∧ (s.port
      p).rx.preamble = false ∧ (s.port p).rx.ending = none ∧ inReception (s.port p).rx.state = false ∧ s.slotOmitted p
      d = false) ∧
    (∃ (p d : ℕ) (s : State) (e : ℕ), s.Ready ∧ p < 144 ∧ s.listening p = true ∧ (s.port p).rx.span = RxSpan.slot d ∧
      (s.port p).rx.ending = some e ∧ e < 64 ∧ s.slotOmitted p e = false) ∧
    (∃ (p : ℕ) (v0 v1 : List ℤ) (s : State), s.Ready ∧ p < 144 ∧ s.listening p = true ∧ (s.port p).rx.span =
      RxSpan.idle ∧ (s.port p).rx.state = RxState.idle ∧ s.inUpRegion p = true ∧ (overThreshold (s.port p) (energyOf
      v0) = true ∧ overThreshold (s.port p) (energyOf v1) = true) ∧ (s.port p).rx.energySeen = false) ∧
    (∃ (p : ℕ) (v0 v1 : List ℤ) (s : State), s.Ready ∧ p < 144 ∧ s.listening p = true ∧ (s.port p).rx.span =
      RxSpan.idle ∧ (s.port p).rx.state = RxState.idle ∧ s.inUpRegion p = true ∧ (¬(overThreshold (s.port p) (energyOf
      v0) = true ∧ overThreshold (s.port p) (energyOf v1) = true) ∨ (s.port p).rx.energySeen = true)) ∧
    (∃ (q : Sys2Proof.Path) (tid value : ℕ) (s : State) (o : Obj), s.Accepts q Code.eqReset value o 1 ∧ (s.path
      q).selDrop < 64 ∧ inReception (s.port (s.path q).selPort).rx.state = false) ∧
    (∃ (p : ℕ) (v0 v1 : List ℤ) (s : State), s.Ready ∧ p < 144 ∧ s.listening p = true ∧ overThreshold (s.port p)
      (energyOf v0) = false ∧ overThreshold (s.port p) (energyOf v1) = false) ∧
    (∃ (p id : ℕ) (s : State), s.Ready ∧ p < 144) :=
  ⟨⟨3, 5, (sG {}), by decide +kernel⟩,
   ⟨3, 5, (sG {}), by decide +kernel⟩,
   ⟨3, 5, (sG {}), by decide +kernel⟩,
   ⟨3, 5, [2000000], [3000000], 96, 153, (sA .armed), by decide +kernel⟩,
   ⟨3, 5, [2000000], [1], 96, (-1920), (sA .armed), by decide +kernel⟩,
   ⟨3, 5, (sA .acquire), by decide +kernel⟩,
   ⟨3, 5, (sA .acquire), by decide +kernel⟩,
   ⟨3, 5, (sA .acquire), by decide +kernel⟩,
   ⟨3, 5, (sA .search), by decide +kernel⟩,
   ⟨3, 5, (sA .search), by decide +kernel⟩,
   ⟨3, 5, (sA .search), 0x9E35C061#32, [[5],[7]], by decide +kernel⟩,
   ⟨3, 5,
     {sA .armed with ports := [(3, {mode := 1, started := true, map := mm, rx := {span := .slot 5, state := .armed}})]},
     by decide +kernel⟩,
   ⟨3, 5, {sA .armed with ports := [(3, {mode := 1, started := true, map := mm, rx := {span := .slot 5, state := .armed, ending := some 6}})]},
     6, by decide +kernel⟩,
   ⟨3, [2000000], [3000000], (sG {span := .idle, state := .idle}), by decide +kernel⟩,
   ⟨3, [2000000], [3], (sG {span := .idle, state := .idle}), by decide +kernel⟩,
   ⟨.spi, 3, 1, (sG {}), (obj Code.eqReset), by decide +kernel⟩,
   ⟨3, [5], [5], (sG {}), by decide +kernel⟩,
   ⟨143, 77, (sG {}), by decide +kernel⟩⟩

/-- Witnesses for BurstsAreJudged. -/
theorem witness_BurstsAreJudged :
    (∃ (p d : ℕ) (bits : BitVec 64) (s : State), s.Ready ∧ p < 144 ∧ s.listening p = true ∧ (s.port p).rx.span =
      RxSpan.slot d ∧ (s.port p).rx.state = RxState.header ∧ hcrc bits = BitVec.setWidth 16 bits ∧ (unpackHeader
      bits).length ≤ 2000 ∧ (¬(33 ≤ (unpackHeader bits).drop ∧ (unpackHeader bits).drop ≤ 62)) ∧ (unpackHeader
      bits).drop = d) ∧
    (∃ (p d : ℕ) (bits : BitVec 64) (s : State), s.Ready ∧ p < 144 ∧ s.listening p = true ∧ (s.port p).rx.span =
      RxSpan.slot d ∧ (s.port p).rx.state = RxState.header ∧ hcrc bits = BitVec.setWidth 16 bits ∧ (unpackHeader
      bits).length ≤ 2000 ∧ (¬(33 ≤ (unpackHeader bits).drop ∧ (unpackHeader bits).drop ≤ 62)) ∧ (unpackHeader
      bits).drop ≠ d) ∧
    (∃ (p d : ℕ) (bits : BitVec 64) (s : State), s.Ready ∧ p < 144 ∧ s.listening p = true ∧ (s.port p).rx.span =
      RxSpan.slot d ∧ (s.port p).rx.state = RxState.header ∧ hcrc bits ≠ BitVec.setWidth 16 bits) ∧
    (∃ (p d : ℕ) (bits : BitVec 64) (s : State), s.Ready ∧ p < 144 ∧ s.listening p = true ∧ (s.port p).rx.span =
      RxSpan.slot d ∧ (s.port p).rx.state = RxState.header ∧ hcrc bits = BitVec.setWidth 16 bits ∧ 2000 <
      (unpackHeader bits).length) ∧
    (∃ (p d : ℕ) (vs : List (List ℤ)) (s : State), s.Ready ∧ p < 144 ∧ s.listening p = true ∧ (s.port p).rx.span =
      RxSpan.slot d ∧ inReception (s.port p).rx.state = true ∧ vs.length = 8 ∧ (∀ v ∈ vs, ∃ e, energyOf v = some e ∧
      (s.port p).rx.reference + 144 ≤ e)) ∧
    (∃ (p d : ℕ) (vs : List (List ℤ)) (s : State) (d' : ℕ), s.Ready ∧ p < 144 ∧ s.listening p = true ∧ (s.port
      p).rx.span = RxSpan.slot d ∧ inReception (s.port p).rx.state = true ∧ (s.port p).rx.loaded = some d') ∧
    (∃ (p d : ℕ) (h : RxHeader) (levels : List ℕ) (m : RxMeasure) (s : State), s.Ready ∧ p < 144 ∧ s.listening p =
      true ∧ 1 ≤ d ∧ d ≤ 32 ∧ (s.port p).rx.span = RxSpan.slot d ∧ (s.port p).rx.state = RxState.tail ∧ (s.port
      p).rx.header = some h ∧ (s.port p).rx.loaded = none ∧ ¬List.drop h.length (whiten (whitenSeed s.cycleNow h.drop
      true) (levelBytes (s.port p).rx.mode (h.length + 4) levels)) = beBytes 4 (lineCrc h.bits (List.take h.length
      (whiten (whitenSeed s.cycleNow h.drop true) (levelBytes (s.port p).rx.mode (h.length + 4) levels)))).toNat) ∧
    (∃ (p d : ℕ) (h : RxHeader) (levels : List ℕ) (m : RxMeasure) (s : State), s.Ready ∧ p < 144 ∧ s.listening p =
      true ∧ 1 ≤ d ∧ d ≤ 32 ∧ (s.port p).rx.span = RxSpan.slot d ∧ (s.port p).rx.state = RxState.tail ∧ (s.port
      p).rx.header = some h ∧ (s.port p).rx.loaded = none ∧ List.drop h.length (whiten (whitenSeed s.cycleNow h.drop
      true) (levelBytes (s.port p).rx.mode (h.length + 4) levels)) = beBytes 4 (lineCrc h.bits (List.take h.length
      (whiten (whitenSeed s.cycleNow h.drop true) (levelBytes (s.port p).rx.mode (h.length + 4) levels)))).toNat ∧
      h.typ = 1 ∧ 64 ≤ (List.take h.length (whiten (whitenSeed s.cycleNow h.drop true) (levelBytes (s.port p).rx.mode
      (h.length + 4) levels))).length ∧ (List.take h.length (whiten (whitenSeed s.cycleNow h.drop true) (levelBytes
      (s.port p).rx.mode (h.length + 4) levels))).length ≤ 1522 ∧ (List.take h.length (whiten (whitenSeed s.cycleNow
      h.drop true) (levelBytes (s.port p).rx.mode (h.length + 4) levels))).length ≤ s.upMax p d ∧ h.epoch = (s.ctx p
      d).epoch ∧ (s.port p).rx.noRoom = false ∧ (s.port p).rx.eqReset = false ∧ h.seq = (s.ctx p d).rxNext ∧ (s.ctx p
      d).marked = [] ∧ h.seq < 256) :=
  ⟨⟨3, 5, (hb 5), (sA .header), by decide +kernel⟩,
   ⟨3, 5, (hb 6), (sA .header), by decide +kernel⟩,
   ⟨3, 5, (hb 6 + 1), (sA .header), by decide +kernel⟩,
   ⟨3, 5, hbl, (sA .header), by decide +kernel⟩,
   ⟨3, 5, (List.replicate 8 [3000000]), (sA .payload {loaded := some 6}), by decide +kernel⟩,
   ⟨3, 5, (List.replicate 8 [3000000]), (sA .payload {loaded := some 6}), 6, by decide +kernel⟩,
   ⟨3, 5, (unpackHeader (hb 5)), (lev.drop 1), meas, sT, by decide +kernel⟩,
   ⟨3, 5, (unpackHeader (hb 5)), lev, meas, sT, by decide +kernel⟩⟩

end S11

namespace S12

def m0 : SlotMap := {period := 1, slots := [{drop := 5, cycle := 0, start := 12000, len := 4000}]}
def c5 : Ctx := {state := 2, epoch := 4, rxNext := 9, identity := 77, maxBaud := 6, caps := 6, txAtten := 3, rxAmpl := -100}
def sG (c : Ctx := c5) (x : PortSt := {}) : State := {up with
  mgmt := {mcReset := false, spi := {selPort := 3, selDrop := 5}}
  time := {running := true, time64 := 1000012000, nextCycle := 1000040000, cycles := 25000, tick := 10^12}
  ports := [(3, {x with mode := 1, started := true, map := m0, latch := {c := 6000, t := 2000}})]
  ctxs := [(197, c)]}
def a0 : Answer := {identity := 88, caps := 6, txAtten := 1, lastId := 0, arrival := 700, rxAmpl := -50, cycle := 24999}
def sA : State := sG c5 {answers := [a0]}
def sC (ag : Bool) : State := sG {c5 with state := 1, admitting := some (25000, ag)}
def mB : List Byte := [3,0,0,0,0,0,0,77] ++ List.replicate 8 0
def r0 : LevelRun := {drop := 5, atten := 3, baud := 6, mode := 0x60, length := 30, cycle := some 24999, misses := 0, upSnr := none, results := []}
def mR : List Byte := [5,0,0x60,0] ++ beBytes 4 24999 ++ beBytes 2 600 ++ beBytes 2 3 ++ List.replicate 4 0
def cM : Ctx := {c5 with roleFlags := 2, nextMode := 0x51, nextAtten := 7, modeApply := 25002}
def c4 : Ctx := {c5 with state := 4}
def sK : State := sG {c4 with waking := some 0, wakeFrom := some 25001}
def sO (r : List (Nat × Int)) (x : PortSt) : State := {sG c5 x with regs := r}
def full : State := {sA with ctxs := (List.range 33).map (fun d => (192 + d, c5))}

/-- Witnesses for RollCallAdmitsDrops. -/
theorem witness_RollCallAdmitsDrops :
    (∃ (q : Sys2Proof.Path) (tid value : ℕ) (s : State) (o : Obj), s.Accepts q Code.rollCall value o 1) ∧
    (∃ (p : ℕ) (m : List Byte) (arrival ampl : ℤ) (s : State), s.Ready ∧ p < 144 ∧ s.listening p = true ∧ m.length =
      16 ∧ m[0]? = some 1#8) ∧
    (∃ (p : ℕ) (a : Answer) (rest : List Answer) (s : State) (d : ℕ) (m : SlotMap), s.Ready ∧ p < 144 ∧ (s.port
      p).answers = a :: rest ∧ (s.cluster (clusterOf p)).entering = false ∧ (s.cluster (clusterOf p)).state ≠ 2 ∧
      (s.cluster (clusterOf p)).state ≠ 3 ∧ s.twinOf p = none ∧ s.regN Code.rollPolicy p ≠ 1 ∧ s.holder p a.identity
      [1, 2, 4] = none ∧ s.freeDrop p = some d ∧ (s.port p).move = none ∧ (s.port p).pending = none ∧ (s.port
      p).waiting = [] ∧ (enterAdmitting p d (((s.ctx p d).epoch + 1) % 64) a s).planMap p = some m) ∧
    (∃ (p d first : ℕ) (again : Bool) (m : List Byte) (s : State), s.Ready ∧ p < 144 ∧ 1 ≤ d ∧ d ≤ 32 ∧ (s.ctx p
      d).admitting = some (first, again) ∧ (s.ctx p d).state = 1 ∧ first ≤ s.time.cycles ∧ m.length = 16 ∧ m[0]? =
      some 3#8 ∧ beVal (List.take 6 (List.drop 2 m)) = (s.ctx p d).identity) ∧
    (∃ (p d first : ℕ) (s : State), s.Ready ∧ p < 144 ∧ 1 ≤ d ∧ d ≤ 32 ∧ (s.ctx p d).state = 1 ∧ first ≤ s.time.cycles
      ∧ (s.ctx p d).admitting = some (first, false)) ∧
    (∃ (p d first : ℕ) (s : State), s.Ready ∧ p < 144 ∧ 1 ≤ d ∧ d ≤ 32 ∧ (s.ctx p d).state = 1 ∧ first ≤ s.time.cycles
      ∧ (s.ctx p d).admitting = some (first, true) ∧ s.twinOf p = none) ∧
    (∃ (p : ℕ) (s : State), s.Ready ∧ p < 144 ∧ 0 < s.regN Code.rollCloseAfter p ∧ s.rollOpen p = true ∧ (s.port
      p).lastAnswer + s.regN Code.rollCloseAfter p * 10000000 ≤ s.time.tick) ∧
    (∃ (p : ℕ) (s : State), s.Ready ∧ p < 144 ∧ (s.port p).rollHeld = true ∧ (s.port p).hold = 0) ∧
    (∃ (p : ℕ) (a : Answer) (rest : List Answer) (s : State), s.Ready ∧ p < 144 ∧ (s.port p).answers = a :: rest ∧
      (s.cluster (clusterOf p)).entering = false ∧ (s.cluster (clusterOf p)).state ≠ 2 ∧ (s.cluster (clusterOf
      p)).state ≠ 3 ∧ s.twinOf p = none ∧ s.regN Code.rollPolicy p ≠ 1 ∧ s.holder p a.identity [1, 2, 4] = none ∧
      s.freeDrop p = none) ∧
    (∃ (p d : ℕ) (s : State), s.Ready ∧ p < 144 ∧ 1 ≤ d ∧ d ≤ 32 ∧ (s.ctx p d).state = 2 ∧ 128 ≤ (s.ctx p d).sinceTx) :=
  ⟨⟨.spi, 3, 1, (sG), (obj Code.rollCall), by decide +kernel⟩,
   ⟨3, ([1,0]++List.replicate 14 9), 5, 6, (sG), by decide +kernel⟩,
   ⟨3, a0, [], sA, 1, (((enterAdmitting 3 1 1 a0 sA).planMap 3).getD {}), by decide +kernel⟩,
   ⟨3, 5, 25000, true, mB, (sC true), by decide +kernel⟩,
   ⟨3, 5, 25000, (sC false), by decide +kernel⟩,
   ⟨3, 5, 25000, (sC true), by decide +kernel⟩,
   ⟨3, (sO [(objKey Code.rollCall 3, 1), (objKey Code.rollCloseAfter 3, 1)] {lastAnswer := 10^12 - 10^7}),
     by decide +kernel⟩,
   ⟨3, (sO [] {rollHeld := true}), by decide +kernel⟩,
   ⟨3, a0, [], full, by decide +kernel⟩,
   ⟨3, 5, (sG {c5 with sinceTx := 128}), by decide +kernel⟩⟩

/-- Witnesses for LevellingSoundsAndSwitches. -/
theorem witness_LevellingSoundsAndSwitches :
    (∃ (q : Sys2Proof.Path) (tid value p d n : ℕ) (s : State) (o : Obj), s.Accepts q Code.relevel value o 1 ∧ (s.path
      q).selPort = p ∧ (s.path q).selDrop = d ∧ d < 64 ∧ s.levelling p d = false ∧ (s.ctx p d).maxBaud ≤ 6 ∧
      s.soundPayload p (modeOf (s.ctx p d).maxBaud (s.levelCap p d)) = some n ∧ (∀ (r : LevelRun), (s.port
      p).levels.head? = some r → r.held = false)) ∧
    (∃ (p d : ℕ) (s : State), s.Ready ∧ p < 144 ∧ 1 ≤ d ∧ d ≤ 32 ∧ (s.ctx p d).state = 2 ∧ (s.ctx p d).levelTick +
      s.regN Code.levelInterval p * 10000000 ≤ s.time.tick ∧ s.heat.throttled = false ∧ s.levelling p d = false) ∧
    (∃ (p d k up : ℕ) (r : LevelRun) (m : List Byte) (s : State), s.Ready ∧ p < 144 ∧ 1 ≤ d ∧ d ≤ 32 ∧ s.runOf p d =
      some r ∧ r.cycle = some k ∧ k ≤ s.time.cycles ∧ r.upSnr = some up ∧ m.length = 16 ∧ m[0]? = some 5#8 ∧
      (m[2]?.bind fun b => modeField (BitVec.toNat b)) = some r.mode ∧ beVal (List.take 4 (List.drop 4 m)) =
      s.numberOf k) ∧
    (∃ (p d k : ℕ) (r : LevelRun) (s : State), s.Ready ∧ p < 144 ∧ 1 ≤ d ∧ d ≤ 32 ∧ s.runOf p d = some r ∧ r.cycle =
      some k ∧ r.upSnr = none ∧ k < s.time.cycles ∧ r.misses = 0) ∧
    (∃ (p d k : ℕ) (r : LevelRun) (s : State), s.Ready ∧ p < 144 ∧ 1 ≤ d ∧ d ≤ 32 ∧ s.runOf p d = some r ∧ r.cycle =
      some k ∧ r.upSnr = none ∧ k < s.time.cycles ∧ r.misses ≠ 0) ∧
    (∃ (p d : ℕ) (s : State), s.Ready ∧ p < 144 ∧ 1 ≤ d ∧ d ≤ 32 ∧ (s.ctx p d).roleFlags.testBit 1 = true ∧
      s.time.cycles + 2 ≤ (s.ctx p d).modeApply ∧ modeField (s.ctx p d).nextMode = some (s.ctx p d).nextMode ∧ (s.ctx
      p d).nextAtten < 256) ∧
    (∃ (p d : ℕ) (s : State), s.Ready ∧ p < 144 ∧ 1 ≤ d ∧ d ≤ 32 ∧ (s.ctx p d).roleFlags.testBit 1 = true ∧ (s.ctx p
      d).confirmed = true ∧ (s.ctx p d).modeApply ≤ s.time.cycles + 1) ∧
    (∃ (p d : ℕ) (s : State), s.Ready ∧ p < 144 ∧ 1 ≤ d ∧ d ≤ 32 ∧ (s.ctx p d).state = 2 ∧ (s.ctx p d).revertLeft =
      some 0) ∧
    (∃ (p d : ℕ) (s : State), s.Ready ∧ p < 144 ∧ 1 ≤ d ∧ d ≤ 32 ∧ (s.ctx p d).state = 2 ∧ (s.ctx p d).levelTick +
      s.regN Code.levelInterval p * 10000000 ≤ s.time.tick ∧ s.heat.throttled = true) ∧
    (∃ (p d : ℕ) (s : State), s.Ready ∧ p < 144 ∧ 1 ≤ d ∧ d ≤ 32 ∧ (s.ctx p d).roleFlags.testBit 1 = true ∧ (s.ctx p
      d).confirmed = true ∧ s.time.cycles + 1 < (s.ctx p d).modeApply) :=
  ⟨⟨.spi, 3, 1, 3, 5, 33, (sG), (obj Code.relevel), by decide +kernel⟩,
   ⟨3, 5, (sG), by decide +kernel⟩,
   ⟨3, 5, 24999, 500, {r0 with upSnr := some 500}, mR, (sG c5 {levels := [{r0 with upSnr := some 500}]}),
     by decide +kernel⟩,
   ⟨3, 5, 24999, r0, (sG c5 {levels := [r0]}), by decide +kernel⟩,
   ⟨3, 5, 24999, {r0 with misses := 1}, (sG c5 {levels := [{r0 with misses := 1}]}), by decide +kernel⟩,
   ⟨3, 5, (sG cM), by decide +kernel⟩,
   ⟨3, 5, (sG {cM with confirmed := true, modeApply := 25001}), by decide +kernel⟩,
   ⟨3, 5, (sG {cM with prevMode := 0x50, revertLeft := some 0}), by decide +kernel⟩,
   ⟨3, 5, {sG with heat := {throttled := true}}, by decide +kernel⟩,
   ⟨3, 5, (sG {cM with confirmed := true, modeApply := 25002}), by decide +kernel⟩⟩

/-- Witnesses for DropsSleepWakeAndLeave. -/
theorem witness_DropsSleepWakeAndLeave :
    (∃ (q : Sys2Proof.Path) (tid value p d : ℕ) (s : State) (o : Obj) (m : SlotMap), (s.path q).selPort = p ∧ (s.path
      q).selDrop = d ∧ d < 64 ∧ (s.ctx p d).state = 2 ∧ (s.ctx p d).sleeping = none ∧ (s.ctx p d).releasing = none ∧
      (s.port p).move = none ∧ (s.port p).pending = none ∧ (s.port p).waiting = [] ∧ s.Accepts q Code.sleep value o 1
      ∧ (s.modCtx p d fun y => { ffe := y.ffe, dfe := y.dfe, agcGain := y.agcGain, phase := y.phase, freqOffset := y.freqOffset,
                                 slicerScale := y.slicerScale, snr := y.snr, snrFresh := y.snrFresh, rxAmpl := y.rxAmpl,
                                 arrival := y.arrival, lastRx := y.lastRx, ctxFlags := y.ctxFlags, identity := y.identity,
                                 epoch := y.epoch, state := y.state, roleFlags := y.roleFlags, mode := y.mode,
                                 prevMode := y.prevMode, nextMode := y.nextMode, maxBaud := y.maxBaud, caps := y.caps,
                                 txAtten := y.txAtten, modeApply := y.modeApply, advance := y.advance, txSeq := y.txSeq,
                                 rxNext := y.rxNext, ackIn := y.ackIn, standbyMode := y.standbyMode, admitted := y.admitted,
                                 lastLevel := y.lastLevel, soundSnr := y.soundSnr, levelMargin := y.levelMargin,
                                 dsAmpl := y.dsAmpl, slotHeld := y.slotHeld, goodSeen := y.goodSeen, preambleSeen := y.preambleSeen,
                                 pointDone := y.pointDone, queue := y.queue, sent := y.sent, marked := y.marked, named := y.named,
                                 ackOut := y.ackOut, ackOwed := y.ackOwed, silent := y.silent, emptyPeriods := y.emptyPeriods,
                                 sinceTx := y.sinceTx, arrivals := y.arrivals, revertLeft := y.revertLeft, reverted := y.reverted,
                                 confirmed := y.confirmed, nextAtten := y.nextAtten, releasing := y.releasing,
                                 sleeping := some 0, waking := y.waking, wakeFrom := y.wakeFrom, wakeApply := y.wakeApply,
                                 wakeLeft := y.wakeLeft, homeHere := y.homeHere, movedAsleep := y.movedAsleep,
                                 levelAtWake := y.levelAtWake, moving := y.moving, admitting := y.admitting, epochNext := y.epochNext,
                                 answerOrder := y.answerOrder, standbyAdvance := y.standbyAdvance, standbyDown := y.standbyDown,
                                 standbyAt := y.standbyAt, standbyHeard := y.standbyHeard, standbyTick := y.standbyTick,
                                 keepOwed := y.keepOwed, levelTick := y.levelTick, levelDeferred := y.levelDeferred,
                                 advanceNext := y.advanceNext }).planMap p = some m) ∧
    (∃ (q : Sys2Proof.Path) (tid value p d : ℕ) (s : State) (o : Obj) (m : SlotMap), (s.path q).selPort = p ∧ (s.path
      q).selDrop = d ∧ d < 64 ∧ (s.ctx p d).state = 2 ∧ (s.ctx p d).sleeping = none ∧ (s.ctx p d).releasing = none ∧
      (s.port p).move = none ∧ (s.port p).pending = none ∧ (s.port p).waiting = [] ∧ s.Accepts q Code.release value o
      1 ∧ (s.modCtx p d fun y => { ffe := y.ffe, dfe := y.dfe, agcGain := y.agcGain, phase := y.phase, freqOffset := y.freqOffset,
                                   slicerScale := y.slicerScale, snr := y.snr, snrFresh := y.snrFresh, rxAmpl := y.rxAmpl,
                                   arrival := y.arrival, lastRx := y.lastRx, ctxFlags := y.ctxFlags, identity := y.identity,
                                   epoch := y.epoch, state := y.state, roleFlags := y.roleFlags, mode := y.mode,
                                   prevMode := y.prevMode, nextMode := y.nextMode, maxBaud := y.maxBaud, caps := y.caps,
                                   txAtten := y.txAtten, modeApply := y.modeApply, advance := y.advance, txSeq := y.txSeq,
                                   rxNext := y.rxNext, ackIn := y.ackIn, standbyMode := y.standbyMode, admitted := y.admitted,
                                   lastLevel := y.lastLevel, soundSnr := y.soundSnr, levelMargin := y.levelMargin,
                                   dsAmpl := y.dsAmpl, slotHeld := y.slotHeld, goodSeen := y.goodSeen, preambleSeen := y.preambleSeen,
                                   pointDone := y.pointDone, queue := y.queue, sent := y.sent, marked := y.marked,
                                   named := y.named, ackOut := y.ackOut, ackOwed := y.ackOwed, silent := y.silent,
                                   emptyPeriods := y.emptyPeriods, sinceTx := y.sinceTx, arrivals := y.arrivals,
                                   revertLeft := y.revertLeft, reverted := y.reverted, confirmed := y.confirmed,
                                   nextAtten := y.nextAtten, releasing := some (0, 1), sleeping := y.sleeping, waking := y.waking,
                                   wakeFrom := y.wakeFrom, wakeApply := y.wakeApply, wakeLeft := y.wakeLeft, homeHere := y.homeHere,
                                   movedAsleep := y.movedAsleep, levelAtWake := y.levelAtWake, moving := y.moving,
                                   admitting := y.admitting, epochNext := y.epochNext, answerOrder := y.answerOrder,
                                   standbyAdvance := y.standbyAdvance, standbyDown := y.standbyDown, standbyAt := y.standbyAt,
                                   standbyHeard := y.standbyHeard, standbyTick := y.standbyTick, keepOwed := y.keepOwed,
                                   levelTick := y.levelTick, levelDeferred := y.levelDeferred, advanceNext := y.advanceNext }).planMap
      p = some m) ∧
    (∃ (p d k : ℕ) (s : State), s.Ready ∧ p < 144 ∧ 1 ≤ d ∧ d ≤ 32 ∧ (s.ctx p d).sleeping = some k ∧ k ≤ s.time.cycles
      + 1) ∧
    (∃ (q : Sys2Proof.Path) (tid value p d : ℕ) (s : State) (o : Obj), s.Accepts q Code.wake value o 1 ∧ (s.path
      q).selPort = p ∧ (s.path q).selDrop = d ∧ d < 64 ∧ (s.ctx p d).waking = none) ∧
    (∃ (p d k : ℕ) (m : SlotMap) (s : State), s.Ready ∧ p < 144 ∧ 1 ≤ d ∧ d ≤ 32 ∧ (s.ctx p d).wakeFrom = some k ∧ k ≤
      s.time.cycles + 1 ∧ (s.ctx p d).state = 4 ∧ (s.ctx p d).waking = some 0 ∧ s.planMap p = some m ∧ (s.port p).move
      = none ∧ (s.port p).pending = none) ∧
    (∃ (p d n : ℕ) (s : State), s.Ready ∧ p < 144 ∧ 1 ≤ d ∧ d ≤ 32 ∧ (s.ctx p d).waking = some n ∧ (s.ctx p d).state =
      2 ∧ (s.ctx p d).wakeLeft = some 0 ∧ n < 2) ∧
    (∃ (p d n : ℕ) (s : State), s.Ready ∧ p < 144 ∧ 1 ≤ d ∧ d ≤ 32 ∧ (s.ctx p d).waking = some n ∧ (s.ctx p d).state =
      2 ∧ (s.ctx p d).wakeLeft = some 0 ∧ 2 ≤ n ∧ (s.ctx p d).releasing = none ∧ (s.port p).move = none ∧ (s.port
      p).pending = none) ∧
    (∃ (p d k reason : ℕ) (s : State), s.Ready ∧ p < 144 ∧ 1 ≤ d ∧ d ≤ 32 ∧ (s.ctx p d).releasing = some (k, reason) ∧
      s.twinOf p = none ∧ k ≤ s.time.cycles + 1) ∧
    (∃ (p d : ℕ) (m : SlotMap) (s : State), s.Ready ∧ p < 144 ∧ 1 ≤ d ∧ d ≤ 32 ∧ (s.ctx p d).state = 2 ∧ s.regN
      Code.dropLost p ≤ (s.ctx p d).silent ∧ (s.ctx p d).revertLeft = none ∧ s.twinOf p = none ∧ (s.ctx p d).releasing
      = none ∧ (s.port p).waiting = [] ∧ (s.port p).move = none ∧ (s.port p).pending = none ∧ (s.modCtx p d fun y => { ffe := y.ffe, dfe := y.dfe, agcGain := y.agcGain, phase := y.phase, freqOffset := y.freqOffset, slicerScale := y.slicerScale, snr := y.snr, snrFresh := y.snrFresh, rxAmpl := y.rxAmpl, arrival := y.arrival, lastRx := y.lastRx, ctxFlags := y.ctxFlags, identity := y.identity, epoch := y.epoch, state := y.state, roleFlags := y.roleFlags, mode := y.mode, prevMode := y.prevMode, nextMode := y.nextMode, maxBaud := y.maxBaud, caps := y.caps, txAtten := y.txAtten, modeApply := y.modeApply, advance := y.advance, txSeq := y.txSeq, rxNext := y.rxNext, ackIn := y.ackIn, standbyMode := y.standbyMode, admitted := y.admitted, lastLevel := y.lastLevel, soundSnr := y.soundSnr, levelMargin := y.levelMargin, dsAmpl := y.dsAmpl, slotHeld := y.slotHeld, goodSeen := y.goodSeen, preambleSeen := y.preambleSeen, pointDone := y.pointDone, queue := y.queue, sent := y.sent, marked := y.marked, named := y.named, ackOut := y.ackOut, ackOwed := y.ackOwed, silent := y.silent, emptyPeriods := y.emptyPeriods, sinceTx := y.sinceTx, arrivals := y.arrivals, revertLeft := y.revertLeft, reverted := y.reverted, confirmed := y.confirmed, nextAtten := y.nextAtten, releasing := some (0, 2), sleeping := y.sleeping, waking := y.waking, wakeFrom := y.wakeFrom, wakeApply := y.wakeApply, wakeLeft := y.wakeLeft, homeHere := y.homeHere, movedAsleep := y.movedAsleep, levelAtWake := y.levelAtWake, moving := y.moving, admitting := y.admitting, epochNext := y.epochNext, answerOrder := y.answerOrder, standbyAdvance := y.standbyAdvance, standbyDown := y.standbyDown, standbyAt := y.standbyAt, standbyHeard := y.standbyHeard, standbyTick := y.standbyTick, keepOwed := y.keepOwed, levelTick := y.levelTick, levelDeferred := y.levelDeferred, advanceNext := y.advanceNext }).planMap
      p = some m) ∧
    (∃ (p d k : ℕ) (s : State), s.Ready ∧ p < 144 ∧ 1 ≤ d ∧ d ≤ 32 ∧ (s.ctx p d).sleeping = some k ∧ s.time.cycles + 1
      < k) ∧
    (∃ (p d k reason : ℕ) (s : State), s.Ready ∧ p < 144 ∧ 1 ≤ d ∧ d ≤ 32 ∧ (s.ctx p d).releasing = some (k, reason) ∧
      s.twinOf p = none ∧ s.time.cycles + 1 < k) :=
  ⟨⟨.spi, 3, 1, 3, 5, (sG), (obj Code.sleep), ((((sG).modCtx 3 5 (fun y => { y with sleeping := some 0 })).planMap
    3).getD {}), by decide +kernel⟩,
   ⟨.spi, 3, 1, 3, 5, (sG), (obj Code.release), ((((sG).modCtx 3 5 (fun y => { y with sleeping := some 0 })).planMap
     3).getD {}), by decide +kernel⟩,
   ⟨3, 5, 25001, (sG {c5 with sleeping := some 25001}), by decide +kernel⟩,
   ⟨.spi, 3, 1, 3, 5, (sG c4), (obj Code.wake), by decide +kernel⟩,
   ⟨3, 5, 25001, ((sK.planMap 3).getD {}), sK, by decide +kernel⟩,
   ⟨3, 5, 1, (sG {c5 with waking := some 1, wakeLeft := some 0}), by decide +kernel⟩,
   ⟨3, 5, 2, (sG {c5 with waking := some 2, wakeLeft := some 0}), by decide +kernel⟩,
   ⟨3, 5, 25001, 1, (sG {c5 with releasing := some (25001,1)}), by decide +kernel⟩,
   ⟨3, 5, {period := 1, slots := []}, (sG {c5 with silent := 5000}), by decide +kernel⟩,
   ⟨3, 32, 25002, {sG with ctxs := [(224, {c5 with sleeping := some 25002})]}, by decide +kernel⟩,
   ⟨3, 1, 25002, 2, {sG with ctxs := [(193, {c5 with releasing := some (25002, 2)})]}, by decide +kernel⟩⟩

end S12

namespace S13

def m0 : SlotMap := {period := 1, slots := [{drop := 5, cycle := 0, start := 12000, len := 4000}]}
def c5 : Ctx := {state := 2, epoch := 4, rxNext := 9, identity := 77, maxBaud := 6, caps := 6, txAtten := 3, rxAmpl := -100, roleFlags := 1, homeHere := true}
def cS : Ctx := {state := 3, epoch := 4, identity := 77, maxBaud := 6, caps := 6, roleFlags := 1, standbyMode := 0x61, standbyAdvance := 55}
def sG (en : Bool) (a b : Ctx) (x y : PortSt := {}) : State := {up with
  mgmt := {mcReset := false, spi := {selPort := 3, selDrop := 5}}
  time := {running := true, time64 := 1000012000, nextCycle := 1000040000, cycles := 25000, tick := 10^12}
  regs := if en then Tab.put (Tab.put (Tab.put [] (objKey Code.twinEnable 3) 1) (objKey Code.twinEnable 75) 1) (objKey Code.dropMovePeriods 3) 4 else Tab.put (Tab.put (Tab.put [] (objKey Code.twinEnable 75) 1) (objKey Code.portMode 75) 1) (objKey Code.portMode 3) 1
  ports := [(3, {x with mode := 1, started := true, map := m0, latch := {c := 6000, t := 2000}}), (75, {y with mode := 1, started := true, map := {}, latch := {c := 6000, t := 2000}})]
  ctxs := [(197, a), (64*75+5, b)]}
def sM : State := sG true c5 cS {twinSilent := 99999}
def mf : SlotMap := (sM.failoverMap 75 3 {} [5]).getD {}
def sV : State := {sG true {c5 with emptyPeriods := 9} cS with ctxs := [(197, {c5 with emptyPeriods := 9}), (198, {state := 2}), (64*75+5, cS)]}
def sB : State := sG true {cS with homeHere := true} {c5 with homeHere := false}
def v0 : Move := {trigger := 24000, apply := 25001, source := 3, reason := 3, drops := [5], map := mf, trunk := false}
def rB : List (Nat × Int) := Tab.put (Tab.put (Tab.put (Tab.put (Tab.put (Tab.put [] (objKey Code.twinEnable 3) 1) (objKey Code.twinEnable 75) 1) (objKey Code.twinPartner 3) 255) (objKey Code.twinPartner 75) 3) (objKey Code.portMode 3) 1) (objKey Code.portMode 75) 1

/-- Witnesses for TwinsCarryEachOthersDrops. -/
theorem witness_TwinsCarryEachOthersDrops :
    (∃ (q : Sys2Proof.Path) (tid value p r : ℕ) (s : State) (o : Obj), s.Accepts q Code.twinEnable value o 1 ∧ (s.path
      q).selPort = p ∧ p ≠ r ∧ s.twinOf p = none ∧ (s.setReg Code.twinEnable p 1).twinOf p = some r) ∧
    (∃ (p r k : ℕ) (m : SlotMap) (drops : List ℕ) (s : State) (q : Sys2Proof.Path) (tid value : ℕ) (o : Obj), s.Ready
      ∧ p < 144 ∧ p ≠ r ∧ s.twinOf p = some r ∧ s.canTake r = true ∧ (s.port r).move = none ∧ (s.port p).move = none ∧
      s.isTrunk p = false ∧ (∀ d < 64, (s.ctx p d).state ≠ 1 ∧ (s.ctx r d).state ≠ 1) ∧ s.movable p r = drops ∧ drops
      ≠ [] ∧ s.movePlan r p (s.time.cycles + 2) (List.filter (fun d => (s.ctx p d).state == 2) drops) = some (m, k) ∧
      s.Accepts q Code.twinFailover value o 1 ∧ (s.path q).selPort = p) ∧
    (∃ (p r k : ℕ) (m : SlotMap) (drops : List ℕ) (s : State), s.Ready ∧ p < 144 ∧ p ≠ r ∧ s.twinOf p = some r ∧
      s.canTake r = true ∧ (s.port r).move = none ∧ (s.port p).move = none ∧ s.isTrunk p = false ∧ (∀ d < 64, (s.ctx p
      d).state ≠ 1 ∧ (s.ctx r d).state ≠ 1) ∧ s.movable p r = drops ∧ drops ≠ [] ∧ s.movePlan r p (s.time.cycles + 2)
      (List.filter (fun d => (s.ctx p d).state == 2) drops) = some (m, k) ∧ s.isBranch p = true ∧ s.regN
      Code.twinLossPeriods p ≤ (s.port p).twinSilent) ∧
    (∃ (p r k : ℕ) (m : SlotMap) (drops : List ℕ) (s : State) (d : ℕ), s.Ready ∧ p < 144 ∧ p ≠ r ∧ s.twinOf p = some r
      ∧ s.canTake r = true ∧ (s.port r).move = none ∧ (s.port p).move = none ∧ s.isTrunk p = false ∧ (∀ d < 64, (s.ctx
      p d).state ≠ 1 ∧ (s.ctx r d).state ≠ 1) ∧ s.movable p r = drops ∧ drops ≠ [] ∧ s.movePlan r p (s.time.cycles +
      2) (List.filter (fun d => (s.ctx p d).state == 2) drops) = some (m, k) ∧ drops = [d] ∧ s.moveDue p d = true ∧ d
      ≤ 32 ∧ 1 ≤ d) ∧
    (∃ (q : Sys2Proof.Path) (tid value p r : ℕ) (m : SlotMap) (drops : List ℕ) (s : State) (o : Obj), s.Accepts q
      Code.twinReturn value o 1 ∧ (s.path q).selPort = p ∧ p ≠ r ∧ s.isTrunk p = false ∧ s.twinOf p = some r ∧
      s.canTake p = true ∧ (s.port p).move = none ∧ (s.port p).pending = none ∧ List.filter (fun d => (s.ctx p
      d).state == 3 && (s.ctx p d).homeHere && ((s.ctx r d).state == 2 || (s.ctx r d).state == 4)) allDrops = drops ∧
      drops ≠ [] ∧ s.failoverMap p r (s.port p).map (List.filter (fun d => (s.ctx r d).state == 2) drops) = some m) ∧
    (∃ (r d : ℕ) (v : Move) (s : State), s.Ready ∧ r < 144 ∧ (s.port r).move = some v ∧ v.trunk = false ∧ v.apply ≤
      s.time.cycles + 1 ∧ v.drops = [d] ∧ d < 64 ∧ v.source ≠ r ∧ (s.ctx v.source d).state = 2 ∧ v.reason ≠ 5 ∧
      (s.port r).waiting = [] ∧ s.canTake r = true) ∧
    (∃ (r d k mode snr p : ℕ) (arrival : ℤ) (s : State), s.Ready ∧ r < 144 ∧ 1 ≤ d ∧ d ≤ 32 ∧ s.twinOf r = some p ∧
      (s.ctx r d).standbyAt = some (k, mode) ∧ (s.ctx r d).standbyHeard = some (snr, arrival) ∧ (s.ctx r d).state = 3
      ∧ k ≤ s.time.cycles) ∧
    (∃ (q : Sys2Proof.Path) (tid value p r : ℕ) (s : State) (o : Obj) (v : ℤ), s.Accepts q Code.twinPartner value o v
      ∧ (s.path q).selPort = p ∧ p ≠ r ∧ s.twinOf p = none ∧ (s.setReg Code.twinPartner p v).twinOf p = some r) :=
  ⟨⟨.spi, 3, 1, 3, 75, (sG false c5 {}), (obj Code.twinEnable), by decide +kernel⟩,
   ⟨3, 75, 25002, mf, [5], sM, .spi, 3, 1, (obj Code.twinFailover), by decide +kernel⟩,
   ⟨3, 75, 25002, mf, [5], sM, by decide +kernel⟩,
   ⟨3, 75, 25002, ((sV.failoverMap 75 3 {} [5]).getD {}), [5], sV, 5, by decide +kernel⟩,
   ⟨.spi, 3, 1, 3, 75, ((sB.failoverMap 3 75 m0 [5]).getD {}), [5], sB, (obj Code.twinReturn), by decide +kernel⟩,
   ⟨75, 5, v0, (sG true c5 cS {} {move := some v0}), by decide +kernel⟩,
   ⟨75, 5, 24999, 0x62, 0, 3, 44, (sG true c5 {cS with standbyAt := some (24999, 0x62), standbyHeard := some (0,
                                                       44)}), by decide +kernel⟩,
   ⟨.spi, 3, 75, 3, 75, {sG true c5 {} with regs := rB}, (obj Code.twinPartner), 75, by decide +kernel⟩⟩

end S13

namespace S14

def sT (x : TrunkSt) (role : Int := 0) (cyc : Nat := 25000) : State := {up with
  mgmt := {mcReset := false, spi := {selPort := 3}}
  regs := [(objKey Code.trunkRole 3, role), (objKey Code.portMode 3, 2)]
  time := {running := true, time64 := 1000000000, nextCycle := 1000040000, cycles := cyc, tick := 10^12}
  ports := [(3, {mode := 2, started := true, trunk := x, latch := {c := 6000, t := 2000}})]}
def trainOf (m : List Byte) : TrainMsg := (readTrain m).getD {phase := 0, mode := 0, left := 0, cycle := 0, flag := false, arrival := none, snr := 0, dataCycle := 0}
def tm (ph left fl : Nat) (a : Nat) : List Byte := trunkTrainBytes ph 0x60 left 9000 1 (fl = 1) (if a = 0 then none else some (a : Int)) 77 9100
def tmn (a : Nat) : List Byte := trunkTrainBytes 1 0x60 1 ((sT {} 1).cycleNow) 1 false (some (a : Int)) 77 9100
def tm3 (mode dc : Nat) : List Byte := trunkTrainBytes 3 mode 1 9000 1 true (some 5) 77 dc
def tt : List Byte := (sT {}).trunkTimeBytes 3
def ttA : List Byte := (sT {arrival := some 900}).trunkTimeBytes 3
def fr (n : Nat) (r : Bool) : TrunkFrame := {seq := n, payload := [1], rtx := r}

/-- Witnesses for TrunksAreTrained. -/
theorem witness_TrunksAreTrained :
    (∃ (q : Sys2Proof.Path) (tid value : ℕ) (s : State) (o : Obj) (v : ℤ), s.Accepts q Code.portMode value o v) ∧
    (∃ (q : Sys2Proof.Path) (tid value : ℕ) (s : State) (o : Obj), s.Accepts q Code.trunkRetrain value o 1) ∧
    (∃ (p : ℕ) (s : State), s.Ready ∧ p < 144 ∧ s.trunkOn p = true ∧ s.trunkHead p = true ∧ ((s.port p).trunk.state =
      0 ∨ (s.port p).trunk.state = 4) ∧ s.markerCycle = true ∧ s.cycleNow % 2 = 0 ∧ (s.port p).trunk.silence = 0 ∧
      (s.port p).trunk.holdoff ≤ s.time.tick) ∧
    (∃ (p : ℕ) (bytes : List Byte) (m : TrainMsg) (arrival : ℤ) (snr : ℕ) (own : List (List ℤ × ℤ)) (s : State),
      s.Ready ∧ p < 144 ∧ s.trunkOn p = true ∧ readTrain bytes = some m ∧ s.trunkHead p = false ∧ m.phase = 1 ∧
      (s.port p).trunk.state = 0 ∧ m.arrival = none) ∧
    (∃ (p : ℕ) (bytes : List Byte) (m : TrainMsg) (arrival : ℤ) (snr : ℕ) (own : List (List ℤ × ℤ)) (s : State) (a_4 :
      ℤ), s.Ready ∧ p < 144 ∧ s.trunkOn p = true ∧ readTrain bytes = some m ∧ s.trunkHead p = false ∧ m.phase = 1 ∧
      (s.port p).trunk.state = 1 ∧ m.arrival = some a_4 ∧ a_4 / 2 ≤ 204800 ∧ s.isTimeSource p = false ∧ s.cycleNow =
      m.cycle ∧ (a_4 / 2 - arrival).natAbs ≤ 2560) ∧
    (∃ (p : ℕ) (bytes : List Byte) (m : TrainMsg) (arrival : ℤ) (snr : ℕ) (own : List (List ℤ × ℤ)) (s : State),
      s.Ready ∧ p < 144 ∧ s.trunkOn p = true ∧ readTrain bytes = some m ∧ s.trunkHead p = true ∧ m.phase = 1 ∧ (s.port
      p).trunk.state = 1 ∧ (s.time.cycles - (s.port p).trunk.start) % 2 = 1 ∧ own = []) ∧
    (∃ (p : ℕ) (bytes : List Byte) (m : TrainMsg) (arrival : ℤ) (snr : ℕ) (own : List (List ℤ × ℤ)) (s : State),
      s.Ready ∧ p < 144 ∧ s.trunkOn p = true ∧ readTrain bytes = some m ∧ s.trunkHead p = true ∧ m.phase = 1 ∧ (s.port
      p).trunk.state = 1 ∧ (s.time.cycles - (s.port p).trunk.start) % 2 = 0) ∧
    (∃ (p : ℕ) (bytes : List Byte) (m : TrainMsg) (arrival : ℤ) (snr : ℕ) (own : List (List ℤ × ℤ)) (s : State),
      s.Ready ∧ p < 144 ∧ s.trunkOn p = true ∧ readTrain bytes = some m ∧ m.phase = 2 ∧ (s.port p).trunk.state = 2) ∧
    (∃ (p : ℕ) (bytes : List Byte) (m : TrainMsg) (arrival : ℤ) (snr : ℕ) (own : List (List ℤ × ℤ)) (s : State) (mode
      : ℕ), s.Ready ∧ p < 144 ∧ s.trunkOn p = true ∧ readTrain bytes = some m ∧ s.trunkHead p = false ∧ m.phase = 3 ∧
      (s.port p).trunk.state = 2 ∧ modeField m.mode = some mode ∧ s.headFuture p m.dataCycle = true) ∧
    (∃ (p : ℕ) (bytes : List Byte) (m : TrainMsg) (arrival : ℤ) (snr : ℕ) (own : List (List ℤ × ℤ)) (s : State),
      s.Ready ∧ p < 144 ∧ s.trunkOn p = true ∧ readTrain bytes = some m ∧ s.trunkHead p = false ∧ m.phase = 3 ∧
      (s.port p).trunk.state = 2 ∧ (modeField m.mode = none ∨ s.headFuture p m.dataCycle = false)) ∧
    (∃ (p : ℕ) (bytes : List Byte) (m : TrainMsg) (arrival : ℤ) (snr : ℕ) (own : List (List ℤ × ℤ)) (s : State),
      s.Ready ∧ p < 144 ∧ s.trunkOn p = true ∧ readTrain bytes = some m ∧ s.trunkHead p = true ∧ m.phase = 1 ∧ (s.port
      p).trunk.state = 1 ∧ (s.time.cycles - (s.port p).trunk.start) % 2 = 1 ∧ own ≠ []) ∧
    (∃ (p : ℕ) (s : State), s.Ready ∧ p < 144 ∧ s.trunkOn p = true ∧ s.trunkHead p = true ∧ (s.port p).trunk.state = 1
      ∧ (s.port p).trunk.flagged = false ∧ s.elapsed (s.port p).trunk.startTick 600000000 = true) ∧
    (∃ (p : ℕ) (s : State), s.Ready ∧ p < 144 ∧ s.trunkOn p = true ∧ s.trunkHead p = true ∧ (s.port p).trunk.state = 1
      ∧ (s.port p).trunk.flagged = false ∧ s.elapsed (s.port p).trunk.startTick 600000000 = false) ∧
    (∃ (p count : ℕ) (s : State), s.Ready ∧ p < 144 ∧ s.trunkOn p = true ∧ s.trunkHead p = true) ∧
    (∃ (p : ℕ) (s : State), s.Ready ∧ p < 144 ∧ s.trunkOn p = true ∧ s.trunkHead p = true ∧ ((s.port p).trunk.state =
      0 ∨ (s.port p).trunk.state = 4) ∧ s.markerCycle = true ∧ s.cycleNow % 2 = 0 ∧ (s.port p).trunk.silence ≠ 0) :=
  ⟨⟨.spi, 3, 0, (sT {state := 1}), (obj Code.portMode), 0, by decide +kernel⟩,
   ⟨.spi, 3, 1, (sT {state := 1}), (obj Code.trunkRetrain), by decide +kernel⟩,
   ⟨3, (sT {}), by decide +kernel⟩,
   ⟨3, (tm 1 127 0 0), (trainOf (tm 1 127 0 0)), 500, 1, [], (sT {} 1), by decide +kernel⟩,
   ⟨3, (tmn 1000), (trainOf (tmn 1000)), 500, 1, [], (sT {state := 1} 1), 1000, by decide +kernel⟩,
   ⟨3, (tmn 1000), (trainOf (tmn 1000)), 500, 1, [], (sT {state := 1, start := 24999} 0), by decide +kernel⟩,
   ⟨3, (tmn 1000), (trainOf (tmn 1000)), 500, 1, [], (sT {state := 1, start := 24998} 0), by decide +kernel⟩,
   ⟨3, (tm 2 1 1 5), (trainOf (tm 2 1 1 5)), 500, 1, [], (sT {state := 2} 0), by decide +kernel⟩,
   ⟨3, (tm3 0x60 25010), (trainOf (tm3 0x60 25010)), 500, 1, [], (sT {state := 2} 1), 0x60, by decide +kernel⟩,
   ⟨3, (tm3 0x60 0), (trainOf (tm3 0x60 0)), 500, 1, [], (sT {state := 2} 1), by decide +kernel⟩,
   ⟨3, (tmn 1000), (trainOf (tmn 1000)), 500, 1, [([1,2,3], 7)], (sT {state := 1, start := 24999} 0),
     by decide +kernel⟩,
   ⟨3, (sT {state := 1, startTick := 10^12 - 600000000}), by decide +kernel⟩,
   ⟨3, (sT {state := 1, startTick := 10^12 - 5}), by decide +kernel⟩,
   ⟨3, 0, (sT {state := 3}), by decide +kernel⟩,
   ⟨3, (sT {silence := 1} 0 24750), by decide +kernel⟩⟩

/-- Witnesses for TrunksCarryData. -/
theorem witness_TrunksCarryData :
    (∃ (p : ℕ) (m : List Byte) (arrival : ℤ) (s : State), s.Ready ∧ p < 144 ∧ s.trunkOn p = true ∧ (s.port
      p).trunk.state = 3 ∧ m.length = 40 ∧ s.trunkHead p = true) ∧
    (∃ (p : ℕ) (m : List Byte) (arrival : ℤ) (s : State), s.Ready ∧ p < 144 ∧ s.trunkOn p = true ∧ (s.port
      p).trunk.state = 3 ∧ m.length = 40 ∧ s.trunkHead p = true) ∧
    (∃ (p : ℕ) (m : List Byte) (arrival : ℤ) (s : State), s.Ready ∧ p < 144 ∧ s.trunkOn p = true ∧ (s.port
      p).trunk.state = 3 ∧ m.length = 40 ∧ s.trunkHead p = false) ∧
    (∃ (p : ℕ) (m : List Byte) (arrival : ℤ) (s : State) (a_5 : ℤ), s.Ready ∧ p < 144 ∧ s.trunkOn p = true ∧ (s.port
      p).trunk.state = 3 ∧ m.length = 40 ∧ s.trunkHead p = false ∧ arrivalOf (List.take 4 (List.drop 20 m)) = some
      a_5) ∧
    (∃ (p : ℕ) (m : List Byte) (s : State), s.Ready ∧ p < 144 ∧ s.trunkOn p = true ∧ (s.port p).trunk.state = 3 ∧
      m.length = 36) ∧
    (∃ (p : ℕ) (m : List Byte) (s : State) (mode : ℕ), s.Ready ∧ p < 144 ∧ s.trunkOn p = true ∧ s.trunkHead p = false
      ∧ (s.port p).trunk.state = 3 ∧ m.length = 8 ∧ modeField (BitVec.toNat (m[2]?.getD 0)) = some mode ∧ s.headFuture
      p (beVal (List.drop 4 m)) = true) ∧
    (∃ (p : ℕ) (m : List Byte) (s : State), s.Ready ∧ p < 144 ∧ s.trunkOn p = true ∧ s.trunkHead p = false ∧ (s.port
      p).trunk.state = 3 ∧ m.length = 8 ∧ (modeField (BitVec.toNat (m[2]?.getD 0)) = none ∨ s.headFuture p (beVal
      (List.drop 4 m)) = false)) ∧
    (∃ (p mode k : ℕ) (s : State), s.Ready ∧ p < 144 ∧ s.isTrunk p = true ∧ (s.port p).trunk.change = some (mode, k) ∧
      k ≤ s.time.cycles + 1) ∧
    (∃ (i : Instr) (p : ℕ) (m : List Byte) (s : State), s.Ready ∧ p < 144 ∧ s.trunkOn p = true ∧ (s.port
      p).trunk.state = 3 ∧ (i = Instr.trunkDown p m ∧ m.length = 4 ∨ i = Instr.trunkLoss p ∧ (s.regN Code.lossCycles p
      ≤ (s.port p).trunk.missed ∨ 32 ≤ (s.port p).trunk.barren))) ∧
    (∃ (p : ℕ) (s : State), s.Ready ∧ p < 144 ∧ s.trunkOn p = true ∧ s.trunkHead p = true ∧ (s.port p).trunk.state = 3
      ∧ 16 ≤ (s.port p).trunk.low ∧ (s.port p).trunk.change = none ∧ 0 < (s.port p).trunk.mode % 16) ∧
    (∃ (p mode k : ℕ) (s : State), s.Ready ∧ p < 144 ∧ s.isTrunk p = true ∧ (s.port p).trunk.change = some (mode, k) ∧
      s.time.cycles + 1 < k) :=
  ⟨⟨3, tt, 5, (sT {state := 3}), by decide +kernel⟩,
   ⟨3, tt, 5, (sT {state := 3}), by decide +kernel⟩,
   ⟨3, tt, 5, (sT {state := 3} 1), by decide +kernel⟩,
   ⟨3, ttA, 5, (sT {state := 3} 1), 900, by decide +kernel⟩,
   ⟨3, (trunkAckBytes [1,2]), (sT {state := 3, previous := [fr 1 false, fr 3 false, fr 4 true, fr 2 true]}),
     by decide +kernel⟩,
   ⟨3, (trunkModeBytes 0x61 25010), (sT {state := 3} 1), 0x61, by decide +kernel⟩,
   ⟨3, (trunkModeBytes 0x71 25010), (sT {state := 3} 1), by decide +kernel⟩,
   ⟨3, 0x63, 25001, (sT {state := 3, change := some (0x63, 25001)} 1), by decide +kernel⟩,
   ⟨(.trunkDown 3 [0x34,0,1,0]), 3, [0x34,0,1,0], (sT {state := 3, previous := [fr 1 false]} 1), by decide +kernel⟩,
   ⟨3, (sT {state := 3, mode := 0x63, low := 16} 0), by decide +kernel⟩,
   ⟨3, 0x63, 25002, (sT {state := 3, change := some (0x63, 25002)} 1), by decide +kernel⟩⟩

end S14

namespace S15

def c5 : Ctx := {state := 2, epoch := 4, rxNext := 9, identity := 77, maxBaud := 6, caps := 6, txAtten := 3, rxAmpl := -100, mode := 0x62}
def m0 : SlotMap := {period := 1, slots := [{drop := 5, cycle := 0, start := 12000, len := 4000}]}
def sG (c : Ctx := c5) (la : LinkSt := {state := 5, fit := true, tx := 1}) (x : PortSt := {}) : State := {up with
  time := {running := true, time64 := 1000012000, nextCycle := 1000040000, cycles := 25000, tick := 10^12}
  oxl := {up.oxl with a := la}
  ports := [(3, {x with mode := 1, started := true, map := m0, latch := {c := 6000, t := 2000}})]
  ctxs := [(197, c)]}
def hf (o : OutFrame) : HostFrame := { start := startBlock o, data := bodyBlocks o.body.length o.body, stop := some (endBlock o) }
def fr (e n : Nat) : HostFrame := hf {cls := 0, epoch := e, port := 3, drop := 5, copy := false, body := List.replicate n 1}
def bad1 : HostFrame := {fr 4 100 with start := (fr 4 100).start ^^^ 0x100}
def bad2 : HostFrame := {fr 4 100 with stop := none}
def bad3 : HostFrame := hf {cls := 1, epoch := 4, port := 3, drop := 5, copy := false, body := List.replicate 100 1}
def of (p n : Nat) : OutFrame := { cls := 0, epoch := 0, port := p, drop := 1, copy := false, body := List.replicate n 0 }
def lk : LinkSt := {state := 5, fit := true, tx := 1, data := [of 3 64, of 4 70], flowGroups := [0]}
def sTr : State := {sG with regs := [(objKey Code.portMode 3, 2)], ports := [(3, {mode := 2, started := true, trunk := {state := 3}})], ctxs := [(193, {c5 with epoch := 4})]}
def hb2 : HostFrame := hf {cls := 2, epoch := 0, port := 0xFF00, drop := 0, copy := false, body := [1,7,0,0,0x10,0x00,3,0]}
def hb3 : HostFrame := hf {cls := 3, epoch := 0, port := 0xFF00, drop := 0, copy := false, body := [1,0,0,9] ++ beBytes 8 44 ++ beBytes 4 0 ++ beBytes 4 1 ++ List.replicate 12 0}
def hb4 : HostFrame := hf {cls := 3, epoch := 0, port := 0xFF00, drop := 0, copy := false, body := [3,0,0,9] ++ beBytes 8 44 ++ beBytes 4 0 ++ beBytes 4 1 ++ List.replicate 12 0}

/-- Witnesses for HostFramesReachTheirDrops. -/
theorem witness_HostFramesReachTheirDrops :
    (∃ (l : Link) (f : HostFrame) (s : State), s.Ready ∧ (s.link l).state = 5 ∧ startGood f = true ∧ endGood f = true
      ∧ badClass f = false ∧ hostClass f = 0 ∧ hostPort f < 144 ∧ (s.port (hostPort f)).mode = 1 ∧ 1 ≤ hostDrop f ∧
      hostDrop f ≤ 32) ∧
    (∃ (l : Link) (f : HostFrame) (s : State), s.Ready ∧ (s.link l).state = 5 ∧ startGood f = false) ∧
    (∃ (l : Link) (f : HostFrame) (s : State), s.Ready ∧ (s.link l).state = 5 ∧ startGood f = true ∧ endGood f =
      false) ∧
    (∃ (l : Link) (f : HostFrame) (s : State), s.Ready ∧ (s.link l).state = 5 ∧ startGood f = true ∧ endGood f = true
      ∧ badClass f = true) ∧
    (∃ (l : Link) (s : State), s.Ready ∧ (s.link l).state = 5) ∧
    (∃ (l : Link) (s : State), s.Ready ∧ (s.link l).state = 5) ∧
    (∃ (l : Link) (b : BitVec 64) (s : State), s.Ready ∧ (s.link l).state = 5 ∧ blockByte b 0 = 45 ∧ blockByte b 1 =
      255) ∧
    (∃ (l : Link) (s : State) (f : OutFrame) (y : LinkSt), s.Ready ∧ (s.link l).tx = 1 ∧ (s.link l).fit = true ∧
      (s.link l).takeFrame = some (f, y)) ∧
    (∃ (l : Link) (s : State), s.Ready ∧ (s.link l).tx = 1 ∧ ((s.link l).fit = false ∨ (s.link l).takeFrame = none)) ∧
    (∃ (l : Link) (f : HostFrame) (s : State), s.Ready ∧ (s.link l).state = 5 ∧ startGood f = true ∧ endGood f = true
      ∧ badClass f = false ∧ hostClass f = 0 ∧ hostPort f < 144 ∧ (s.port (hostPort f)).mode = 2 ∧ hostDrop f = 1 ∧
      s.accepts l = true ∧ hostEpoch f = (s.ctx (hostPort f) 1).epoch ∧ (hostBody f).length ≤ s.txFree (s.trunkPath
      (hostPort f))) ∧
    (∃ (l : Link) (f : HostFrame) (s : State) (t h i u : Byte), s.Ready ∧ (s.link l).state = 5 ∧ startGood f = true ∧
      endGood f = true ∧ badClass f = false ∧ hostClass f = 2 ∧ hostBody f = [1, t, 0, 0, h, i, u, 0]) ∧
    (∃ (l : Link) (f : HostFrame) (s : State), s.Ready ∧ (s.link l).state = 5 ∧ startGood f = true ∧ endGood f = true
      ∧ badClass f = false ∧ hostClass f = 3 ∧ (hostBody f)[0]? = some 1#8) ∧
    (∃ (l : Link) (f : HostFrame) (s : State), s.Ready ∧ (s.link l).state = 5 ∧ startGood f = true ∧ endGood f = true
      ∧ badClass f = false ∧ hostClass f = 3 ∧ (hostBody f)[0]? = some 3#8) ∧
    (∃ (l : Link) (s : State), s.Ready ∧ (s.link l).tx = 3) :=
  ⟨⟨.a, (fr 4 100), (sG), by decide +kernel⟩,
   ⟨.a, bad1, sG, by decide +kernel⟩,
   ⟨.a, bad2, sG, by decide +kernel⟩,
   ⟨.a, bad3, sG, by decide +kernel⟩,
   ⟨.a, sG, by decide +kernel⟩,
   ⟨.a, sG, by decide +kernel⟩,
   ⟨.a, 0x2DFF030000000000, sG, by decide +kernel⟩,
   ⟨.a, (sG c5 lk), (of 3 64), {lk with data := [of 4 70], lastPort := 3, flowGroups := [0]}, by decide +kernel⟩,
   ⟨.a, (sG c5 {lk with fit := false}), by decide +kernel⟩,
   ⟨.a, (hf {cls := 0, epoch := 4, port := 3, drop := 1, copy := false, body := List.replicate 1522 1}), sTr,
     by decide +kernel⟩,
   ⟨.a, hb2, sG, 7, 0x10, 0, 3, by decide +kernel⟩,
   ⟨.a, hb3, sG, by decide +kernel⟩,
   ⟨.a, hb4, sG, by decide +kernel⟩,
   ⟨.a, (sG c5 {lk with tx := 3}), by decide +kernel⟩⟩

end S15

namespace S16

def rc : Rec := {kind := 3, blocks := 9, seq := 20, time := 5, benchTime := 0, port := 3, step := 0, points := 1, flags := 0, page := 0, tier := 2, ins := 0, loopRes := 0, galvanic := 0, vf := 0, leadIn := 0, termination := 0, coding := 0, cycles := 0, alarmSeq := 0, deviceId := 5, block := 70000, data := [1], table := [], cells := []}
def lb : Label := {deviceId := 5, formatted := 0, blocks := 488378646, permStart := 65536, permLen := 100000, fineStart := 165536, fineLen := 100000, longStart := 265536, longLen := 100000, permPct := 10, finePct := 50}
def jn : Journal := {seq := 7, time := 99, nextRec := 21, fineHead := 165536, fineTail := 165536, longHead := 265536, longTail := 265536, permHead := 70009, snapSlot := 255, snapRec := 0, ports := []}
def sR (a : ArchSt) (la : LinkSt := {state := 5, fit := true, tx := 1}) : State := {up with
  time := {time64 := 1000012000, tick := 10^12}
  arch := a
  oxl := {up.oxl with a := la}}
def ar : ArchSt := {state := 3, label := some lb, records := [rc], link := 0x44, blocks := 488378646}
def bk (l : List Nat) : Bulk := {op := 1, reqId := 9, target := 20, first := 2, total := 3, left := l, tag := 9}
def lk4 : LinkSt := {state := 5, fit := true, tx := 1, bulkOpen := [bk [2,3,4], bk [], bk [3], bk [4]]}
def cm (j : NvmeJob) : NvmeCmd := {pair := 6, cid := 4, job := j, issued := 10^12 - 1000000000}
def lk1 (l : List Nat) : LinkSt := {state := 5, fit := true, tx := 1, bulkOpen := [bk l]}
def dv : DriveInfo := {linkGen := 4, linkWidth := 4, version := 0x10400, blockSize := 4096, metadata := 0, protection := false, queuePairs := 8, mqes := 1023, mdts := 131072, blocks := 488378646, content := []}
def cj (j : NvmeJob) : NvmeCmd := {pair := 0, cid := 4, job := j, issued := 7}
def sC (v : Int) : State := {sR {ar with commitDue := true} with regs := [(objKey Code.holdupCap 0, v)]}
def cyoung : NvmeCmd := {cm (.record rc) with issued := 10^12}
def b2 : Bulk := {op := 2, reqId := 9, target := 70002, first := 0, total := 2, left := [0, 1], tag := 9}

/-- Witnesses for BulkReadsAreAnswered. -/
theorem witness_BulkReadsAreAnswered :
    (∃ (l : Link) (reqId target first count : ℕ) (s : State) (r : Rec) (c : ℕ), s.Ready ∧ (s.link l).state = 5 ∧
      s.accepts l = true ∧ (s.link l).bulkOpen.length < 4 ∧ s.archReadable = true ∧ s.bulkRecord target = some r ∧
      first < r.blocks ∧ first + count ≤ r.blocks ∧ s.freeCid s.readPair = some c) ∧
    (∃ (l : Link) (reqId target first count : ℕ) (s : State) (r : Rec), s.Ready ∧ (s.link l).state = 5 ∧ s.accepts l =
      true ∧ (s.link l).bulkOpen.length < 4 ∧ s.archReadable = true ∧ s.bulkRecord target = some r ∧ (r.blocks ≤ first
      ∨ r.blocks < first + count)) ∧
    (∃ (l : Link) (reqId target first count : ℕ) (s : State), s.Ready ∧ (s.link l).state = 5 ∧ s.accepts l = true ∧
      (s.link l).bulkOpen.length < 4 ∧ s.archReadable = true ∧ s.bulkRecord target = none) ∧
    (∃ (l : Link) (reqId target first count : ℕ) (s : State), s.Ready ∧ (s.link l).state = 5 ∧ s.accepts l = true ∧
      (s.link l).bulkOpen.length < 4 ∧ s.archReadable = false) ∧
    (∃ (l : Link) (reqId target first count : ℕ) (s : State), s.Ready ∧ (s.link l).state = 5 ∧ s.accepts l = true ∧ 4
      ≤ (s.link l).bulkOpen.length) ∧
    (∃ (l : Link) (reqId block first count : ℕ) (s : State) (c : ℕ), s.Ready ∧ (s.link l).state = 5 ∧ s.accepts l =
      true ∧ (s.link l).bulkOpen.length < 4 ∧ s.archReadable = true ∧ first = 0 ∧ 0 < count ∧ count ≤ 1024 ∧ block +
      count ≤ s.layoutEnd ∧ s.freeCid s.readPair = some c) ∧
    (∃ (l : Link) (reqId block first count : ℕ) (s : State), s.Ready ∧ (s.link l).state = 5 ∧ s.accepts l = true ∧
      (s.link l).bulkOpen.length < 4 ∧ s.archReadable = true ∧ (first ≠ 0 ∨ count = 0 ∨ 1024 < count ∨ s.layoutEnd <
      block + count)) ∧
    (∃ (l : Link) (reqId : ℕ) (s : State) (b : Bulk) (rest : List Bulk), s.Ready ∧ (s.link l).state = 5 ∧ s.accepts l
      = true ∧ (s.link l).bulkOpen = b :: rest ∧ b.reqId = reqId) ∧
    (∃ (l : Link) (reqId : ℕ) (s : State), s.Ready ∧ (s.link l).state = 5 ∧ s.accepts l = true ∧ (∀ b ∈ (s.link
      l).bulkOpen, b.reqId ≠ reqId)) ∧
    (∃ (l : Link) (pair cid tag blk : ℕ) (c : NvmeCmd) (b : Bulk) (s : State), s.Ready ∧ s.cmdAt pair cid = some c ∧
      c.job = NvmeJob.bulkRead l tag blk ∧ s.bulkOf l tag = some b) ∧
    (∃ (l : Link) (pair cid tag blk i : ℕ) (left : List ℕ) (c : NvmeCmd) (b : Bulk) (s : State), s.Ready ∧ s.cmdAt
      pair cid = some c ∧ c.job = NvmeJob.bulkRead l tag blk ∧ s.bulkOf l tag = some b ∧ b.left = i :: left ∧
      s.bulkBlock b i = some blk) :=
  ⟨⟨.a, 9, 20, 2, 3, (sR ar), rc, 0, by decide +kernel⟩,
   ⟨.a, 9, 20, 9, 3, (sR ar), rc, by decide +kernel⟩,
   ⟨.a, 9, 21, 9, 3, (sR ar), by decide +kernel⟩,
   ⟨.a, 9, 21, 9, 3, (sR {ar with state := 1}), by decide +kernel⟩,
   ⟨.a, 9, 21, 9, 3, (sR ar lk4), by decide +kernel⟩,
   ⟨.a, 9, 70000, 0, 5, (sR ar), 0, by decide +kernel⟩,
   ⟨.a, 9, 365535, 0, 5, (sR ar), by decide +kernel⟩,
   ⟨.a, 9, (sR ar lk4), (bk [2,3,4]), [bk [], bk [3], bk [4]], by decide +kernel⟩,
   ⟨.a, 8, (sR ar lk4), by decide +kernel⟩,
   ⟨.a, 6, 4, 9, 70002, (cm (.bulkRead .a 9 70002)), (bk [2]), (sR {ar with inFlight := [cm (.bulkRead .a 9 70002)]}
     (lk1 [2])), by decide +kernel⟩,
   ⟨.a, 6, 4, 9, 70002, 0, [1], (cm (.bulkRead .a 9 70002)), b2, (sR {ar with inFlight := [cm (.bulkRead .a 9 70002)]}
     {state := 5, fit := true, tx := 1, bulkOpen := [b2]}), by decide +kernel⟩⟩

/-- Witnesses for TheArchiveCommitsItsRecords. -/
theorem witness_TheArchiveCommitsItsRecords :
    (∃ (d : DriveInfo) (s : State), s.Ready ∧ s.arch.state = 1 ∧ d.linkGen ≠ 0 ∧ d.linkWidth ≠ 0 ∧ driveMeets d =
      false) ∧
    (∃ (d : DriveInfo) (s : State), s.Ready ∧ s.arch.state = 1 ∧ d.linkGen ≠ 0 ∧ d.linkWidth ≠ 0 ∧ driveMeets d = true
      ∧ firstLabel (List.foldl (fun x e => x.put e.1 e.2) [] d.content) = none ∧ s.regB Code.autoFormat 0 = false) ∧
    (∃ (q : Sys2Proof.Path) (tid value : ℕ) (s : State) (o : Obj) (x : Label) (j : Journal), s.Accepts q
      Code.archAdopt value o 1 ∧ s.arch.state = 4 ∧ s.arch.label = some x ∧ s.arch.inFlight = [] ∧ s.arch.journal =
      some j) ∧
    (∃ (q : Sys2Proof.Path) (tid value : ℕ) (s : State) (o : Obj) (x : Label) (j : Journal), s.Accepts q
      Code.archAdopt value o 1 ∧ s.arch.state = 4 ∧ s.arch.label = some x ∧ s.arch.inFlight = [] ∧ s.arch.journal =
      none) ∧
    (∃ (pair cid : ℕ) (c : NvmeCmd) (r : Rec) (s : State), s.Ready ∧ s.cmdAt pair cid = some c ∧ c.job =
      NvmeJob.record r) ∧
    (∃ (pair cid : ℕ) (c : NvmeCmd) (r : Rec) (s : State), s.Ready ∧ s.cmdAt pair cid = some c ∧ c.job =
      NvmeJob.record r ∧ s.arch.inFlight = [c] ∧ s.arch.toIssue = []) ∧
    (∃ (c : NvmeCmd) (j : Journal) (s : State), s.Ready ∧ s.arch.toIssue = [] ∧ s.arch.inFlight = [c] ∧ c.pair = 0 ∧
      c.job = NvmeJob.journalB j ∧ s.arch.formatting = none ∧ s.arch.recovering = true) ∧
    (∃ (c : NvmeCmd) (j : Journal) (s : State) (x : Label), s.Ready ∧ s.arch.toIssue = [] ∧ s.arch.inFlight = [c] ∧
      c.pair = 0 ∧ c.job = NvmeJob.journalB j ∧ s.arch.formatting = some x) ∧
    (∃ (volt cid : ℕ) (s : State), s.Ready ∧ s.arch.state = 3 ∧ s.arch.committing = 0 ∧ s.arch.commitDue = true ∧
      s.regN Code.holdupCap 0 ≠ 0 ∧ s.freeCid 0 = some cid ∧ s.regN Code.holdupCap 0 * (volt * s.regN Code.holdupDiv
      0) ^ 2 < s.regN Code.holdupArchReq 0 * (2 * 10 ^ 15 * 65536 ^ 2)) ∧
    (∃ (volt cid : ℕ) (s : State), s.Ready ∧ s.arch.state = 3 ∧ s.arch.committing = 0 ∧ s.arch.commitDue = true ∧
      s.regN Code.holdupCap 0 ≠ 0 ∧ s.freeCid 0 = some cid ∧ s.regN Code.holdupArchReq 0 * (2 * 10 ^ 15 * 65536 ^ 2) ≤
      s.regN Code.holdupCap 0 * (volt * s.regN Code.holdupDiv 0) ^ 2) ∧
    (∃ (done fatal : Bool) (c : NvmeCmd) (r : Rec) (s : State), s.Ready ∧ s.arch.inFlight = [c] ∧ c.job =
      NvmeJob.record r ∧ s.arch.toIssue = [] ∧ fatal = false ∧ c.aborted = none ∧ s.elapsed c.issued s.cmdTimeoutTicks
      = true) ∧
    (∃ (done fatal : Bool) (c : NvmeCmd) (r : Rec) (s : State), s.Ready ∧ s.arch.inFlight = [c] ∧ c.job =
      NvmeJob.record r ∧ s.arch.toIssue = [] ∧ fatal = false ∧ c.aborted = none ∧ s.elapsed c.issued s.cmdTimeoutTicks
      = false) ∧
    (∃ (done fatal : Bool) (c : NvmeCmd) (r : Rec) (s : State), s.Ready ∧ s.arch.inFlight = [c] ∧ c.job =
      NvmeJob.record r ∧ s.arch.toIssue = [] ∧ (fatal = true ∨ ∃ n, c.aborted = some n ∧ s.elapsed n s.cmdTimeoutTicks
      = true ∧ done = false)) ∧
    (∃ (pair cid : ℕ) (done : Bool) (s : State), s.Ready ∧ s.cmdAt pair cid = none) ∧
    (∃ (pair cid : ℕ) (done : Bool) (s : State), s.Ready ∧ s.cmdAt pair cid = none ∧ s.arch.driveOk = true) ∧
    (∃ (s : State), s.Ready) ∧
    (∃ (temp : ℤ) (wear warn : ℕ) (s : State), s.Ready) ∧
    (∃ (q : Sys2Proof.Path) (s : State), s.Ready ∧ (s.path q).findState = 1 ∧ s.archReadable = false) ∧
    (∃ (q : Sys2Proof.Path) (s : State), s.Ready ∧ (s.path q).findState = 1 ∧ s.archReadable = true ∧ s.findRecord
      (s.path q) = none) ∧
    (∃ (q : Sys2Proof.Path) (s : State) (r : Rec), s.Ready ∧ (s.path q).findState = 1 ∧ s.archReadable = true ∧
      s.findRecord (s.path q) = some r) ∧
    (∃ (d : DriveInfo) (s : State), s.Ready ∧ s.arch.state = 1 ∧ (d.linkGen = 0 ∨ d.linkWidth = 0)) :=
  ⟨⟨{dv with mqes := 7}, (sR {link := 0, state := 1}), by decide +kernel⟩,
   ⟨dv, ({sR {} with regs := [(objKey Code.autoFormat 0, 0)]}), by decide +kernel⟩,
   ⟨.spi, 9, 1, (sR {ar with state := 4, journal := some jn}), (obj Code.archAdopt), lb, jn, by decide +kernel⟩,
   ⟨.spi, 9, 1, (sR {ar with state := 4, journal := none}), (obj Code.archAdopt), lb, jn, by decide +kernel⟩,
   ⟨6, 4, (cm (.record rc)), rc, (sR {ar with inFlight := [cm (.record rc)]}), by decide +kernel⟩,
   ⟨6, 4, (cm (.record rc)), rc, (sR {ar with inFlight := [cm (.record rc)]}), by decide +kernel⟩,
   ⟨(cj (.journalB jn)), jn, (sR {ar with state := 2, recovering := true, inFlight := [cj (.journalB jn)]}),
     by decide +kernel⟩,
   ⟨(cj (.journalB jn)), jn, (sR {ar with state := 2, formatting := some lb, inFlight := [cj (.journalB jn)]}), lb,
     by decide +kernel⟩,
   ⟨1000000, 0, (sC 5), by decide +kernel⟩,
   ⟨90000000, 0, (sC 5000), by decide +kernel⟩,
   ⟨true, false, (cm (.record rc)), rc, (sR {ar with inFlight := [cm (.record rc)]}), by decide +kernel⟩,
   ⟨true, false, cyoung, rc, (sR {ar with inFlight := [cyoung]}), by decide +kernel⟩,
   ⟨true, true, (cm (.record rc)), rc, (sR {ar with inFlight := [cm (.record rc)], resets := [10^12-6000000000]}),
     by decide +kernel⟩,
   ⟨3, 4, true, (sR {ar with driveOk := true}), by decide +kernel⟩,
   ⟨3, 4, true, (sR {ar with driveOk := true}), by decide +kernel⟩,
   ⟨(sR {ar with inFlight := [cm (.record rc)]}), by decide +kernel⟩,
   ⟨45, 3, 1, (sR ar), by decide +kernel⟩,
   ⟨.spi, {sR {} with mgmt := {mcReset := false, spi := {findState := 1}}}, by decide +kernel⟩,
   ⟨.spi, {sR ar with mgmt := {mcReset := false, spi := {findState := 1}}}, by decide +kernel⟩,
   ⟨.spi,
     {sR ar with mgmt := {mcReset := false, spi := {findState := 1, findPort := 3, findTime := 5, findKind := 4}}},
     rc, by decide +kernel⟩,
   ⟨{dv with linkWidth := 0}, (sR {state := 1}), by decide +kernel⟩⟩

end S16

namespace S17

def of (p n : Nat) : OutFrame := { cls := 0, epoch := 0, port := p, drop := 1, copy := false, body := List.replicate n 0 }
def sR (la : LinkSt) (lb : LinkSt := {}) (rg : List (Nat × Int) := []) : State := {up with
  time := {time64 := 1000012000, tick := 10^12}
  regs := [(objKey (linkCode .a Code.linkEnable) 0, 1), (objKey (linkCode .b Code.linkEnable) 0, 1)] ++ rg
  oxl := {up.oxl with a := la, b := lb}}
def ab (f n : Nat) : BitVec 64 := blockOf ([0x4B#8, byteOf f] ++ beBytes 2 n ++ beBytes 4 77)
def uL : LinkSt := {state := 5, tx := 1, fit := true, data := [of 1 64]}
def sH : State := let s := sR {uL with holdFrom := some 5} uL [(objKey Code.linkMode 0, 2), (objKey Code.returnHold 0, 60)]; {s with oxl := {s.oxl with activeB := true}}

/-- Witnesses for HostLinksComeUpAndAreLost. -/
theorem witness_HostLinksComeUpAndAreLost :
    (∃ (l : Link) (ppm : ℤ) (s : State), s.Ready ∧ (s.link l).state = 1 ∧ ppm.natAbs ≤ 300) ∧
    (∃ (l : Link) (ppm : ℤ) (s : State), s.Ready ∧ (s.link l).state = 1 ∧ 300 < ppm.natAbs) ∧
    (∃ (l : Link) (e0 e1 : ℕ) (s : State), s.Ready ∧ (s.link l).state = 2) ∧
    (∃ (l : Link) (s : State), s.Ready ∧ (s.link l).state = 3) ∧
    (∃ (l : Link) (b0 b1 : BitVec 64) (link0 lane0 link1 lane1 n id id1 : ℕ) (up up1 : Bool) (s : State), s.Ready ∧
      (s.link l).state = 4 ∧ alignFields b0 = some (link0, lane0, up, n, id) ∧ alignFields b1 = some (link1, lane1,
      up1, n, id1) ∧ link0 = linkNo l ∧ link1 = linkNo l ∧ lane0 ≠ lane1) ∧
    (∃ (l : Link) (b0 b1 : BitVec 64) (link0 lane0 link1 lane1 n id id1 : ℕ) (up up1 : Bool) (s : State), s.Ready ∧
      (s.link l).state = 4 ∧ alignFields b0 = some (link0, lane0, up, n, id) ∧ alignFields b1 = some (link1, lane1,
      up1, n, id1) ∧ link0 ≠ linkNo l) ∧
    (∃ (l : Link) (s : State), s.Ready ∧ (s.link l).state = 4 ∧ 4 ≤ (s.link l).alignGood) ∧
    (∃ (l : Link) (s : State), s.Ready ∧ s.linkOn l = true ∧ s.prbsChecks l = false ∧ ((s.link l).state = 2 ∨ (s.link
      l).state = 3 ∨ (s.link l).state = 4 ∧ (s.link l).alignIn = none ∧ (s.link l).laneMap < 2)) ∧
    (∃ (l : Link) (s : State), s.Ready ∧ s.linkOn l = true ∧ s.prbsChecks l = false ∧ ((s.link l).state = 0 ∨ (s.link
      l).state = 1 ∨ (s.link l).state = 5 ∨ (s.link l).state = 6)) ∧
    (∃ (l : Link) (b0 b1 : BitVec 64) (lane0 n id id1 : ℕ) (up1 : Bool) (s : State), s.Ready ∧ (s.link l).state = 4 ∧
      lane0 = (s.link l).laneMap % 2 ∧ (s.link l).alignIn = some ((n + 65535) % 65536) ∧ n < 65536 ∧ alignFields b0 =
      some (linkNo l, lane0, true, n, id) ∧ alignFields b1 = some (linkNo l, 1 - lane0, up1, n, id1)) ∧
    (∃ (q : Sys2Proof.Path) (tid value : ℕ) (l : Link) (s : State) (o : Obj) (v : ℤ), s.Accepts q (linkCode l
      Code.linkEnable) value o v) ∧
    (∃ (l : Link) (s : State), s.Ready ∧ (s.link l).state = 4 ∧ (s.link l).alignGood < 4) ∧
    (∃ (l : Link) (s : State), s.Ready ∧ (s.link l).state = 6) ∧
    (∃ (l : Link) (s : State), s.Ready ∧ (s.link l).tx = 1 ∧ s.alignDue l = true) ∧
    (∃ (l : Link) (s : State), s.Ready ∧ (s.link l).tx = 1 ∧ s.alignDue l = false) :=
  ⟨⟨.a, (-300), (sR {state := 1}), by decide +kernel⟩,
   ⟨.b, (-301), (sR {} {state := 1}), by decide +kernel⟩,
   ⟨.b, 3, 4, (sR {} {state := 2}), by decide +kernel⟩,
   ⟨.b, (sR {} {state := 3}), by decide +kernel⟩,
   ⟨.a, (ab 6 9), (ab 4 9), 0, 1, 0, 0, 9, 77, 77, true, true, (sR {state := 4}), by decide +kernel⟩,
   ⟨.a, (ab 7 9), (ab 4 9), 1, 1, 0, 0, 9, 77, 77, true, true, (sR {state := 4}), by decide +kernel⟩,
   ⟨.a, (sR {state := 4, alignGood := 4}), by decide +kernel⟩,
   ⟨.b, (sR {} {state := 4}), by decide +kernel⟩,
   ⟨.b, (sR {} {state := 5}), by decide +kernel⟩,
   ⟨.a, (ab 6 0), (ab 4 0), 1, 0, 77, 77, true, (sR {state := 4, laneMap := 1, alignIn := some 65535}),
     by decide +kernel⟩,
   ⟨.oxlA, 4, 0, .a, (sR uL), (obj Code.linkEnable), 0, by decide +kernel⟩,
   ⟨.a, (sR {state := 4, alignGood := 3}), by decide +kernel⟩,
   ⟨.a, (sR {state := 6}), by decide +kernel⟩,
   ⟨.a, (sR {state := 5, tx := 1, nextLane := 1, flowGroups := [2], alignAt := some 0}), by decide +kernel⟩,
   ⟨.a, (sR {state := 5, tx := 1, alignAt := some (10^12-5)}), by decide +kernel⟩⟩

/-- Witnesses for TrafficMovesBetweenTheLinks. -/
theorem witness_TrafficMovesBetweenTheLinks :
    (∃ (q : Sys2Proof.Path) (tid value : ℕ) (s : State) (o : Obj) (v : ℤ), s.Accepts q Code.linkMode value o v) ∧
    (∃ (q : Sys2Proof.Path) (tid value : ℕ) (s : State) (o : Obj) (v : ℤ), s.Accepts q Code.preferred value o v) ∧
    (∃ (q : Sys2Proof.Path) (tid value : ℕ) (s : State) (o : Obj), s.Accepts q Code.forceSwitch value o 1) ∧
    (∃ (l : Link) (cut : Bool) (s : State), s.Ready ∧ (s.link l).fit = false ∧ (s.link (otherLink l)).fit = true ∧
      s.assigned l = true ∧ s.linkMode ≠ 1) ∧
    (∃ (l : Link) (from_ : ℕ) (s : State), s.Ready ∧ (s.link l).fit = true ∧ (s.link l).holdFrom = some from_ ∧ s.regN
      Code.returnHold 0 ≠ 0 ∧ from_ + s.regN Code.returnHold 0 * 10000000 ≤ s.time.tick ∧ s.linkMode = 2 ∧
      s.activeLink ≠ l ∧ s.regN Code.preferred 0 = linkNo l) ∧
    (∃ (l : Link) (cut : Bool) (s : State), s.Ready ∧ (s.link l).fit = true) ∧
    (∃ (l : Link) (from_ : ℕ) (s : State), s.Ready ∧ (s.link l).fit = true ∧ (s.link l).holdFrom = some from_ ∧
      (s.regN Code.returnHold 0 = 0 ∨ s.time.tick < from_ + s.regN Code.returnHold 0 * 10000000)) ∧
    (∃ (l : Link) (cut : Bool) (s : State), s.Ready ∧ (s.link l).fit = false ∧ (s.link (otherLink l)).fit = false ∧
      cut = false) :=
  ⟨⟨.oxlA, 4, 2, (sR uL {}), (obj Code.linkMode), 2, by decide +kernel⟩,
   ⟨.oxlA, 4, 1, (sR uL uL [(objKey Code.linkMode 0, 2)]), (obj Code.preferred), 1, by decide +kernel⟩,
   ⟨.spi, 4, 1, (sR uL uL [(objKey Code.linkMode 0, 2)]), (obj Code.forceSwitch), by decide +kernel⟩,
   ⟨.a, true, (sR {data := [of 1 64], moveDue := true, inProgress := some (of 2 1000), progressAt := 10^12} uL),
     by decide +kernel⟩,
   ⟨.a, 5, sH, by decide +kernel⟩,
   ⟨.a, false, (sR {state := 5, fit := true, tx := 1}), by decide +kernel⟩,
   ⟨.a, (10^12 - 10^7 + 1), (sR {state := 5, fit := true, tx := 1, holdFrom := some (10^12 - 10^7 + 1)} {} [(objKey
     Code.returnHold 0, 1)]), by decide +kernel⟩,
   ⟨.a, false, (sR {}), by decide +kernel⟩⟩

/-- Witnesses for QuietAndTheLaneTest. -/
theorem witness_QuietAndTheLaneTest :
    (∃ (l : Link) (s : State), s.Ready ∧ (s.link l).tx = 1 ∧ s.rxUp l = true ∧ (s.link l).waits = false ∧ s.regN
      (linkCode l Code.quietIdle) 0 ≠ 0 ∧ (s.link l).idleFrom + s.regN (linkCode l Code.quietIdle) 0 * 10 ≤
      s.time.tick) ∧
    (∃ (l : Link) (s : State), s.Ready ∧ (s.link l).state = 5) ∧
    (∃ (l : Link) (s : State), s.Ready ∧ (s.link l).tx = 2 ∧ (s.link l).waits = true) ∧
    (∃ (l : Link) (s : State), s.Ready ∧ (s.link l).tx = 2 ∧ (s.link l).waits = true) ∧
    (∃ (l : Link) (s : State), s.Ready ∧ (s.link l).tx = 2 ∧ (s.link l).waits = false) ∧
    (∃ (l : Link) (s : State), s.Ready ∧ (s.link l).state = 6) ∧
    (∃ (i : Instr) (l : Link) (s : State), s.Ready ∧ (s.link l).state = 6 ∧ s.linkOn l = true ∧ s.prbsChecks l = false
      ∧ (i = Instr.quietActivityTimeout l ∧ (s.link l).rxExiting = false ∨ i = Instr.quietExitAlignTimeout l ∧ (s.link
      l).rxExiting = true)) ∧
    (∃ (q : Sys2Proof.Path) (tid value n : ℕ) (l : Link) (s : State) (o : Obj) (v : ℤ), n < 2 ∧ s.Accepts q (laneCode
      l n Code.prbsGen) value o v) ∧
    (∃ (q : Sys2Proof.Path) (tid value n : ℕ) (l : Link) (s : State) (o : Obj) (v : ℤ), n < 2 ∧ s.Accepts q (laneCode
      l n Code.prbsCheck) value o v) ∧
    (∃ (q : Sys2Proof.Path) (tid value n : ℕ) (l : Link) (s : State) (o : Obj), n < 2 ∧ s.Accepts q (laneCode l n
      Code.prbsClear) value o 1) ∧
    (∃ (l : Link) (n : ℕ) (bits : List Bool) (s : State), s.Ready ∧ n < 2 ∧ s.linkOn l = true ∧ s.regN (laneCode l n
      Code.prbsCheck) 0 ≠ 0) ∧
    (∃ (l : Link) (s : State), s.Ready ∧ (s.link l).tx = 1 ∧ s.rxUp l = true ∧ (s.link l).waits = false ∧ s.regN
      (linkCode l Code.quietIdle) 0 = 0) ∧
    (∃ (l : Link) (s : State), s.Ready ∧ (s.link l).tx = 2 ∧ (s.link l).waits = false) :=
  ⟨⟨.a, (sR {state := 5, tx := 1} {} [(objKey Code.quietIdle 0, 60)]), by decide +kernel⟩,
   ⟨.a, (sR uL), by decide +kernel⟩,
   ⟨.a, (sR {uL with tx := 2}), by decide +kernel⟩,
   ⟨.a, (sR {uL with tx := 2}), by decide +kernel⟩,
   ⟨.a, (sR {uL with tx := 2, data := []}), by decide +kernel⟩,
   ⟨.a, (sR {uL with state := 6}), by decide +kernel⟩,
   ⟨(.quietActivityTimeout .a), .a, (sR {uL with state := 6}), by decide +kernel⟩,
   ⟨.spi, 3, 1, 1, .a, (sR uL uL), (obj (laneCode .a 1 Code.prbsGen)), 1, by decide +kernel⟩,
   ⟨.oxlB, 3, 2, 0, .b, (sR uL uL), (obj (laneCode .b 0 Code.prbsCheck)), 2, by decide +kernel⟩,
   ⟨.oxlB, 3, 1, 0, .b, (sR {} uL), (obj (laneCode .b 0 Code.prbsClear)), by decide +kernel⟩,
   ⟨.b, 0, [true,false], (sR {} uL [(objKey (laneCode .b 0 Code.prbsCheck) 0, 1)]), by decide +kernel⟩,
   ⟨.a, (sR {state := 5, tx := 1} {} [(objKey (linkCode .a Code.quietIdle) 0, 0)]), by decide +kernel⟩,
   ⟨.a, (sR {state := 5, tx := 2}), by decide +kernel⟩⟩

end S17

namespace S18

def rn (k : RunKind) (cl : Bool := false) : Run := {kind := k, step := 1, effStep := 1, cycles := 2, leadIn := 5, gain := 0, termination := 0, nValid := 3, done := 2, acc := [5, -7, 200000], clipped := cl, lastAt := 999, page := 0, oneHalf := false}
def sT (x : TravSt) (rg : List (Nat × Int) := []) : State := {up with
  mgmt := {mcReset := false, spi := {selPort := 3, selCell := 100}}
  time := {running := true, time64 := 1000012000, nextCycle := 1000040000, cycles := 25000, tick := 10^12}
  regs := [(objKey Code.travEnable 3, 1), (objKey Code.archRoutine 3, 0)] ++ rg
  arch := {state := 3, blocks := 500000, label := some {deviceId := 5, formatted := 0, blocks := 488378646, permStart := 65536, permLen := 100000, fineStart := 165536, fineLen := 100000, longStart := 265536, longLen := 100000, permPct := 10, finePct := 50}, permHead := 65536}
  cells := {rangeA := [(3, {base := 100, count := 4})], layouts := [(6, {points := 8, thresh := 5, hyst := 2, var := 9, time := 1, page := 0})]}
  ports := [(3, {mode := 1, started := true, trav := x, latch := {c := 6000, t := 2000, insEnable := 1}})]}
def dm (n v l : Int) : DcSum := {count := 1, amps := n, volts := v, loop := l, compliance := false}
def sD (neg : Bool) (x : TravSt) (rg : List (Nat × Int) := []) : State := {sT x rg with clusters := [(0, {dwellLen := 2, dwell := 2, negative := neg})]}
def sDn : State := sD true {plus := some (dm 5000 6000100 700000), dc := dm (-5000) (-6000000) 700000, termination := 1} [(objKey Code.termination 3, 1)]
def sC (st : Nat) : State := {sT {} with cells := {(sT {}).cells with pool := [(100, {start := 77, width := 3, state := st, count := 3})]}}
def cc (st co : Nat) : Cell := {start := 1, width := 1, state := st, count := co, thresh := 5, hyst := 2, var := 9, time := 5}

/-- Witnesses for TracesAreScaledAndDcIsMeasured. -/
theorem witness_TracesAreScaledAndDcIsMeasured :
    (∃ (p : ℕ) (r : Run) (rest : List Run) (s : State), s.Ready ∧ p < 144 ∧ (s.port p).trav.ended = r :: rest ∧ (∀ w ∈
      s.test.badWords, w.1 ≠ 1)) ∧
    (∃ (q : Sys2Proof.Path) (tid value : ℕ) (s : State) (o : Obj), s.Accepts q Code.benchCapture value o 1) ∧
    (∃ (i : Instr) (q : Sys2Proof.Path) (tid value : ℕ) (kind : RunKind) (s : State) (o : Obj), (i = Instr.leadInCal q
      tid value ∧ s.Accepts q Code.leadInCal value o 1 ∧ kind = RunKind.leadIn ∨ i = Instr.vfCal q tid value ∧
      s.Accepts q Code.vfCal value o 1 ∧ kind = RunKind.vf)) ∧
    (∃ (k : ℕ) (s : State), s.Ready ∧ k < 9 ∧ 0 < (s.cluster k).dwellLen ∧ (s.cluster k).dwellFresh = false ∧
      (s.cluster k).dwellLen ≤ (s.cluster k).dwell + s.datumDue) ∧
    (∃ (k : ℕ) (s : State), s.Ready ∧ k < 9 ∧ ((s.cluster k).dwellLen = 0 ∨ (s.cluster k).dwellFresh = true ∨
      (s.cluster k).dwell + s.datumDue < (s.cluster k).dwellLen)) :=
  ⟨⟨3, (rn .normal), [], (sT {ended := [rn .normal]}), by decide +kernel⟩,
   ⟨.spi, 3, 1, (sT {}), (obj Code.benchCapture), by decide +kernel⟩,
   ⟨(.vfCal .spi 3 1), .spi, 3, 1, .vf, (sT {}), (obj Code.vfCal), by decide +kernel⟩,
   ⟨0, sDn, by decide +kernel⟩,
   ⟨8, {sD false {} with clusters := [(8, {dwellLen := 2, dwell := 1})]}, by decide +kernel⟩⟩

/-- Witnesses for CellsAreLaidOutAndWatched. -/
theorem witness_CellsAreLaidOutAndWatched :
    (∃ (i : Instr) (q : Sys2Proof.Path) (tid value : ℕ) (inB : Bool) (s : State) (o : Obj) (v : ℤ), (i =
      Instr.cellAllocA q tid value ∧ inB = false ∧ s.Accepts q Code.cellAllocA value o v ∨ i = Instr.cellAllocB q tid
      value ∧ inB = true ∧ s.Accepts q Code.cellAllocB value o v)) ∧
    (∃ (i : Instr) (q : Sys2Proof.Path) (tid value p : ℕ) (inB : Bool) (s : State) (o : Obj) (v : ℤ), (i =
      Instr.cellStart q tid value ∧ s.Accepts q Code.cellStart value o v ∨ i = Instr.cellWidth q tid value ∧ s.Accepts
      q Code.cellWidth value o v) ∧ s.cellOwner (s.path q).selCell = some (p, inB) ∧ s.cellBad (s.path q).selCell =
      false) ∧
    (∃ (q : Sys2Proof.Path) (tid value p : ℕ) (inB : Bool) (s : State) (o : Obj) (v : ℤ), s.Accepts q Code.cellState
      value o v ∧ s.cellOwner (s.path q).selCell = some (p, inB) ∧ s.cellBad (s.path q).selCell = false) ∧
    (∃ (p : ℕ) (inB : Bool) (pts : List ℤ) (n second i : ℕ) (c : Cell) (s : State), s.cellBad i = false ∧ s.degraded p
      = false ∧ c.state ≤ 2 ∧ c.start + c.width < n ∧ 4 * c.thresh ≤ (roundDiv (sumInt (List.map (fun j => pointOf pts
      (c.start + j)) (List.range (c.width + 1)))) (c.width + 1) - c.bench - c.drift).natAbs ∧ s.regN Code.sigmaK p *
      s.regN Code.sigmaK p * c.var ≤ 256 * (roundDiv (sumInt (List.map (fun j => pointOf pts (c.start + j))
      (List.range (c.width + 1)))) (c.width + 1) - c.bench - c.drift).natAbs * (roundDiv (sumInt (List.map (fun j =>
      pointOf pts (c.start + j)) (List.range (c.width + 1)))) (c.width + 1) - c.bench - c.drift).natAbs) ∧
    (∃ (p : ℕ) (inB : Bool) (pts : List ℤ) (n second i : ℕ) (c : Cell) (s : State), s.cellBad i = false ∧ s.degraded p
      = false ∧ c.state ≤ 2 ∧ c.start + c.width < n ∧ 4 * c.thresh ≤ (roundDiv (sumInt (List.map (fun j => pointOf pts
      (c.start + j)) (List.range (c.width + 1)))) (c.width + 1) - c.bench - c.drift).natAbs ∧ s.regN Code.sigmaK p *
      s.regN Code.sigmaK p * c.var ≤ 256 * (roundDiv (sumInt (List.map (fun j => pointOf pts (c.start + j))
      (List.range (c.width + 1)))) (c.width + 1) - c.bench - c.drift).natAbs * (roundDiv (sumInt (List.map (fun j =>
      pointOf pts (c.start + j)) (List.range (c.width + 1)))) (c.width + 1) - c.bench - c.drift).natAbs) ∧
    (∃ (p : ℕ) (inB : Bool) (pts : List ℤ) (n second i : ℕ) (c : Cell) (s : State), s.cellBad i = false ∧ s.degraded p
      = false ∧ c.state ≤ 2 ∧ c.start + c.width < n ∧ 4 * c.thresh ≤ (roundDiv (sumInt (List.map (fun j => pointOf pts
      (c.start + j)) (List.range (c.width + 1)))) (c.width + 1) - c.bench - c.drift).natAbs ∧ s.regN Code.sigmaK p *
      s.regN Code.sigmaK p * c.var ≤ 256 * (roundDiv (sumInt (List.map (fun j => pointOf pts (c.start + j))
      (List.range (c.width + 1)))) (c.width + 1) - c.bench - c.drift).natAbs * (roundDiv (sumInt (List.map (fun j =>
      pointOf pts (c.start + j)) (List.range (c.width + 1)))) (c.width + 1) - c.bench - c.drift).natAbs) ∧
    (∃ (p : ℕ) (inB : Bool) (pts : List ℤ) (n second i : ℕ) (c : Cell) (s : State), s.cellBad i = false ∧ s.degraded p
      = false ∧ c.state ≤ 2 ∧ c.start + c.width < n ∧ 4 * c.thresh ≤ (roundDiv (sumInt (List.map (fun j => pointOf pts
      (c.start + j)) (List.range (c.width + 1)))) (c.width + 1) - c.bench - c.drift).natAbs ∧ s.regN Code.sigmaK p *
      s.regN Code.sigmaK p * c.var ≤ 256 * (roundDiv (sumInt (List.map (fun j => pointOf pts (c.start + j))
      (List.range (c.width + 1)))) (c.width + 1) - c.bench - c.drift).natAbs * (roundDiv (sumInt (List.map (fun j =>
      pointOf pts (c.start + j)) (List.range (c.width + 1)))) (c.width + 1) - c.bench - c.drift).natAbs) ∧
    (∃ (p : ℕ) (inB : Bool) (pts : List ℤ) (n second i : ℕ) (c : Cell) (s : State), s.cellBad i = false ∧ s.degraded p
      = false ∧ c.state ≤ 2 ∧ c.start + c.width < n ∧ 4 * c.thresh ≤ (roundDiv (sumInt (List.map (fun j => pointOf pts
      (c.start + j)) (List.range (c.width + 1)))) (c.width + 1) - c.bench - c.drift).natAbs ∧ s.regN Code.sigmaK p *
      s.regN Code.sigmaK p * c.var ≤ 256 * (roundDiv (sumInt (List.map (fun j => pointOf pts (c.start + j))
      (List.range (c.width + 1)))) (c.width + 1) - c.bench - c.drift).natAbs * (roundDiv (sumInt (List.map (fun j =>
      pointOf pts (c.start + j)) (List.range (c.width + 1)))) (c.width + 1) - c.bench - c.drift).natAbs ∧ c.state = 0
      ∧ c.count + 1 < s.regN Code.alarmCount p) ∧
    (∃ (p : ℕ) (inB : Bool) (pts : List ℤ) (n second i : ℕ) (c : Cell) (s : State), s.cellBad i = false ∧ s.degraded p
      = false ∧ c.state ≤ 2 ∧ c.start + c.width < n ∧ 4 * c.thresh ≤ (roundDiv (sumInt (List.map (fun j => pointOf pts
      (c.start + j)) (List.range (c.width + 1)))) (c.width + 1) - c.bench - c.drift).natAbs ∧ s.regN Code.sigmaK p *
      s.regN Code.sigmaK p * c.var ≤ 256 * (roundDiv (sumInt (List.map (fun j => pointOf pts (c.start + j))
      (List.range (c.width + 1)))) (c.width + 1) - c.bench - c.drift).natAbs * (roundDiv (sumInt (List.map (fun j =>
      pointOf pts (c.start + j)) (List.range (c.width + 1)))) (c.width + 1) - c.bench - c.drift).natAbs ∧ c.state = 0
      ∧ c.count + 1 < s.regN Code.alarmCount p) ∧
    (∃ (p : ℕ) (inB : Bool) (pts : List ℤ) (n second i : ℕ) (c : Cell) (s : State), s.cellBad i = false ∧ s.degraded p
      = false ∧ c.state ≤ 2 ∧ c.start + c.width < n ∧ 4 * c.thresh ≤ (roundDiv (sumInt (List.map (fun j => pointOf pts
      (c.start + j)) (List.range (c.width + 1)))) (c.width + 1) - c.bench - c.drift).natAbs ∧ s.regN Code.sigmaK p *
      s.regN Code.sigmaK p * c.var ≤ 256 * (roundDiv (sumInt (List.map (fun j => pointOf pts (c.start + j))
      (List.range (c.width + 1)))) (c.width + 1) - c.bench - c.drift).natAbs * (roundDiv (sumInt (List.map (fun j =>
      pointOf pts (c.start + j)) (List.range (c.width + 1)))) (c.width + 1) - c.bench - c.drift).natAbs) ∧
    (∃ (p : ℕ) (inB : Bool) (pts : List ℤ) (n second i : ℕ) (c : Cell) (s : State), s.cellBad i = false ∧ s.degraded p
      = false ∧ c.state ≤ 2 ∧ c.start + c.width < n ∧ 4 * c.thresh ≤ (roundDiv (sumInt (List.map (fun j => pointOf pts
      (c.start + j)) (List.range (c.width + 1)))) (c.width + 1) - c.bench - c.drift).natAbs ∧ s.regN Code.sigmaK p *
      s.regN Code.sigmaK p * c.var ≤ 256 * (roundDiv (sumInt (List.map (fun j => pointOf pts (c.start + j))
      (List.range (c.width + 1)))) (c.width + 1) - c.bench - c.drift).natAbs * (roundDiv (sumInt (List.map (fun j =>
      pointOf pts (c.start + j)) (List.range (c.width + 1)))) (c.width + 1) - c.bench - c.drift).natAbs ∧ c.state = 1
      ∧ s.regN Code.alarmCount p ≤ min (c.count + 1) 15 ∧ c.count < 14) ∧
    (∃ (p : ℕ) (inB : Bool) (pts : List ℤ) (n second i : ℕ) (c : Cell) (s : State), s.cellBad i = false ∧ s.degraded p
      = false ∧ c.state ≤ 2 ∧ c.start + c.width < n ∧ 4 * c.thresh ≤ (roundDiv (sumInt (List.map (fun j => pointOf pts
      (c.start + j)) (List.range (c.width + 1)))) (c.width + 1) - c.bench - c.drift).natAbs ∧ s.regN Code.sigmaK p *
      s.regN Code.sigmaK p * c.var ≤ 256 * (roundDiv (sumInt (List.map (fun j => pointOf pts (c.start + j))
      (List.range (c.width + 1)))) (c.width + 1) - c.bench - c.drift).natAbs * (roundDiv (sumInt (List.map (fun j =>
      pointOf pts (c.start + j)) (List.range (c.width + 1)))) (c.width + 1) - c.bench - c.drift).natAbs ∧ c.state = 2
      ∧ 14 ≤ c.count ∧ s.regN Code.confirmTime p ≤ (second + 2 ^ 32 - c.time) % 2 ^ 32) ∧
    (∃ (p : ℕ) (inB : Bool) (pts : List ℤ) (n second i : ℕ) (c : Cell) (s : State), s.cellBad i = false ∧ s.degraded p
      = false ∧ c.state ≤ 2 ∧ c.start + c.width < n ∧ 16 * (roundDiv (sumInt (List.map (fun j => pointOf pts (c.start
      + j)) (List.range (c.width + 1)))) (c.width + 1) - c.bench - c.drift).natAbs < 4 * c.thresh * (16 - c.hyst) ∧
      (roundDiv (sumInt (List.map (fun j => pointOf pts (c.start + j)) (List.range (c.width + 1)))) (c.width + 1) -
      c.bench - c.drift).natAbs < 4 * c.thresh) ∧
    (∃ (p : ℕ) (inB : Bool) (pts : List ℤ) (n second i : ℕ) (c : Cell) (s : State), s.cellBad i = false ∧ s.degraded p
      = false ∧ c.state ≤ 2 ∧ c.start + c.width < n ∧ 16 * (roundDiv (sumInt (List.map (fun j => pointOf pts (c.start
      + j)) (List.range (c.width + 1)))) (c.width + 1) - c.bench - c.drift).natAbs < 4 * c.thresh * (16 - c.hyst) ∧
      (roundDiv (sumInt (List.map (fun j => pointOf pts (c.start + j)) (List.range (c.width + 1)))) (c.width + 1) -
      c.bench - c.drift).natAbs < 4 * c.thresh) ∧
    (∃ (p : ℕ) (inB : Bool) (pts : List ℤ) (n second i : ℕ) (c : Cell) (s : State), s.cellBad i = false ∧ s.degraded p
      = false ∧ c.state ≤ 2 ∧ c.start + c.width < n ∧ 16 * (roundDiv (sumInt (List.map (fun j => pointOf pts (c.start
      + j)) (List.range (c.width + 1)))) (c.width + 1) - c.bench - c.drift).natAbs < 4 * c.thresh * (16 - c.hyst) ∧
      (roundDiv (sumInt (List.map (fun j => pointOf pts (c.start + j)) (List.range (c.width + 1)))) (c.width + 1) -
      c.bench - c.drift).natAbs < 4 * c.thresh ∧ c.count = 1 ∧ 0 < s.regN Code.alarmCount p) ∧
    (∃ (s : State), s.Ready ∧ (s.cells.snapDue = true ∨ s.elapsed s.cells.snapAt (s.regN Code.snapInterval 0 *
      10000000) = true) ∧ s.arch.state = 3 ∧ s.arch.snapshot = none ∧ (∀ w ∈ s.test.badWords, w.1 ≠ 0)) ∧
    (∃ (q : Sys2Proof.Path) (tid value : ℕ) (s : State) (o : Obj), s.Accepts q Code.cellLayout value o 1 ∧
      s.cells.pool.wf = true ∧ (∀ (i : ℕ), (s.rangeOf (s.path q).selPort false).base ≤ i → i < (s.rangeOf (s.path
      q).selPort false).base + (s.rangeOf (s.path q).selPort false).count → s.cellOwner i = some ((s.path q).selPort,
      false))) ∧
    (∃ (p : ℕ) (inB : Bool) (pts : List ℤ) (n second i : ℕ) (c : Cell) (s : State), s.cellBad i = false ∧ s.degraded p
      = false ∧ (c.state = 3 ∨ c.state = 4)) ∧
    (∃ (p : ℕ) (inB : Bool) (pts : List ℤ) (n second i : ℕ) (c : Cell) (s : State), s.cellBad i = false ∧ s.degraded p
      = false ∧ c.state ≤ 2 ∧ n ≤ c.start + c.width) ∧
    (∃ (s : State), s.Ready ∧ (¬(s.cells.snapDue = true ∨ s.elapsed s.cells.snapAt (s.regN Code.snapInterval 0 *
      10000000) = true))) :=
  ⟨⟨(.cellAllocB .spi 3 3129344), .spi, 3, 3129344, true, (sT {}), (obj Code.cellAllocB), 3129344, by decide +kernel⟩,
   ⟨(.cellStart .spi 3 9), .spi, 3, 9, 3, false, (sC 1), (obj Code.cellStart), 9, by decide +kernel⟩,
   ⟨.spi, 3, 4, 3, false, (sC 0), (obj Code.cellState), 4, by decide +kernel⟩,
   ⟨3, false, [0,100,100], 3, 9, 100, (cc 0 0), (sT {}), by decide +kernel⟩,
   ⟨3, false, [0,100,100], 3, 9, 100, (cc 0 0), (sT {}), by decide +kernel⟩,
   ⟨3, false, [0,100,100], 3, 9, 100, (cc 0 0), (sT {}), by decide +kernel⟩,
   ⟨3, false, [0,100,100], 3, 9, 100, (cc 0 0), (sT {}), by decide +kernel⟩,
   ⟨3, false, [0,100,100], 3, 9, 100, (cc 0 0), (sT {}), by decide +kernel⟩,
   ⟨3, false, [0,100,100], 3, 9, 100, (cc 0 0), (sT {}), by decide +kernel⟩,
   ⟨3, false, [0,100,100], 3, 9, 100, (cc 0 0), (sT {}), by decide +kernel⟩,
   ⟨3, false, [0,100,100], 3, 9, 100, (cc 1 13), (sT {}), by decide +kernel⟩,
   ⟨3, false, [0,100,100], 3, 200000, 100, (cc 2 15), (sT {}), by decide +kernel⟩,
   ⟨3, false, [0,10,10], 3, 200000, 100, (cc 2 1), (sT {}), by decide +kernel⟩,
   ⟨3, false, [0,10,10], 3, 200000, 100, (cc 2 1), (sT {}), by decide +kernel⟩,
   ⟨3, false, [0,10,10], 3, 200000, 100, (cc 2 1), (sT {}), by decide +kernel⟩,
   ⟨{sT {} with cells := {(sT {}).cells with snapDue := true}}, by decide +kernel⟩,
   ⟨.spi, 3, 1, (sT {}), (obj Code.cellLayout), by decide +kernel⟩,
   ⟨3, false, [0,100,100], 3, 9, 100, {state := 4}, (sT {}), by decide +kernel⟩,
   ⟨3, false, [0,100,100], 3, 9, 100, {start := 2, width := 1}, (sT {}), by decide +kernel⟩,
   ⟨{sT {} with cells := {(sT {}).cells with snapAt := 10^12}}, by decide +kernel⟩⟩

end S18

namespace S20

def xf : Xfer := {code := 0x306101, index := 0x3061, sub := 0x1, inst := 0, write := true, length := 8, data := [1,2,3,4], lastSeg := 0}
def sendOf (m : List Byte) : List Byte := beBytes 2 m.length ++ m ++ beBytes 2 (spiCrc (beBytes 2 m.length ++ m)).toNat
def usel (p d : Nat) : State := {up with mgmt := {mcReset := false, spi := {selPort := p, selDrop := d}}}

/-- Witnesses for StepRunsFrontCommand. -/
theorem witness_StepRunsFrontCommand :
    ∃ (c : Instr) (rest : List Instr) (s : State), s.pending = c :: rest :=
  ⟨(.nop .spi 3), [.cycleStart []], {up with pending := [.nop .spi 3, .cycleStart []]}, by decide +kernel⟩

/-- Witnesses for EmptyQueueLetsOneTickPass. -/
theorem witness_EmptyQueueLetsOneTickPass :
    (∃ (s : State), s.pending = [] ∧ s.coreStopped = false ∧ (s.time.running = true ∨ s.time.realigning = true) ∧
      s.time.slew = 0) ∧
    (∃ (s : State), s.pending = [] ∧ (s.coreStopped = true ∨ s.time.running = false ∧ s.time.realigning = false)) ∧
    (∃ (s : State), s.pending = [] ∧ s.coreStopped = false ∧ (s.time.running = true ∨ s.time.realigning = true)) :=
  ⟨⟨{up with time := {running := true}}, by decide +kernel⟩,
   ⟨{up with faults := {started := true, fatal := true}}, by decide +kernel⟩,
   ⟨{up with time := {running := true, time64 := 39999, nextCycle := 40000, slew := 3}}, by decide +kernel⟩⟩

/-- Witnesses for FatalIsLeftByPowerAlone. -/
theorem witness_FatalIsLeftByPowerAlone :
    ∃ (ts : List ℤ) (s : State), s.faults.fatal = true ∧ ts.length = 10 :=
  ⟨(List.replicate 10 700), {up with faults := {started := true, fatal := true}}, by decide +kernel⟩

/-- Witnesses for ReadsAreAnswered. -/
theorem witness_ReadsAreAnswered :
    (∃ (q : Sys2Proof.Path) (tid index sub : ℕ) (s : State) (o : Obj) (v : ℤ), s.Serves q ∧ s.checkObject
      { op := 1, tid := tid, index := index, sub := sub } = Except.ok o ∧ (s.arrived q).selectionBad q o false = none
      ∧ readError q o (addressCode index sub) (s.instOf q o.scope) (s.arrived q) = none ∧ (s.arrived q).valueOf q o
      (addressCode index sub) (s.instOf q o.scope) = some v) ∧
    (∃ (q : Sys2Proof.Path) (tid index sub : ℕ) (s : State) (o : Obj), s.Serves q ∧ s.checkObject
      { op := 1, tid := tid, index := index, sub := sub } = Except.ok o ∧ (s.arrived q).selectionBad q o false = none
      ∧ readError q o (addressCode index sub) (s.instOf q o.scope) (s.arrived q) = none ∧ (s.arrived q).valueOf q o
      (addressCode index sub) (s.instOf q o.scope) = none) :=
  ⟨⟨.oxlA, 255, 0x3020, 0x04, up, (obj 0x302004), 1, by decide +kernel⟩,
   ⟨.spi, 0, 0x4020, 0x03, (usel 143 31), (obj Code.slotStart), by decide +kernel⟩⟩

/-- Witnesses for PlainRequestsAreAnswered. -/
theorem witness_PlainRequestsAreAnswered :
    (∃ (q : Sys2Proof.Path) (tid : ℕ) (s : State), s.Serves q) ∧
    (∃ (q : Sys2Proof.Path) (tid index sub : ℕ) (s : State) (o : Obj), s.Serves q ∧ s.checkObject
      { op := 7, tid := tid, index := index, sub := sub } = Except.ok o) ∧
    (∃ (q : Sys2Proof.Path) (tid op index sub : ℕ) (s : State), s.Serves q ∧ 8 < op) :=
  ⟨⟨.oxlB, 255, up, by decide +kernel⟩,
   ⟨.spi, 0, 0x7802, 0x02, up, (obj 0x780202), by decide +kernel⟩,
   ⟨.spi, 0, 9, 0xFFFF, 0xFF, up, by decide +kernel⟩⟩

/-- Witnesses for RefusedWritesChangeNothing. -/
theorem witness_RefusedWritesChangeNothing :
    (∃ (q : Sys2Proof.Path) (tid index sub value : ℕ) (s : State), s.Serves q ∧ findObj (addressCode index sub) =
      none) ∧
    (∃ (q : Sys2Proof.Path) (tid index sub value : ℕ) (s : State) (o : Obj), s.Serves q ∧ findObj (addressCode index
      sub) = some o ∧ indexAvailable s.lc index = false) ∧
    (∃ (q : Sys2Proof.Path) (tid index sub value : ℕ) (s : State) (o : Obj), s.Serves q ∧ findObj (addressCode index
      sub) = some o ∧ indexAvailable s.lc index = true ∧ o.acc = Acc.ro) ∧
    (∃ (q : Sys2Proof.Path) (tid index sub value : ℕ) (s : State) (o : Obj), s.Serves q ∧ findObj (addressCode index
      sub) = some o ∧ indexAvailable s.lc index = true ∧ o.acc = Acc.rwf ∧ s.lc ≠ 1 ∧ s.lc ≠ 3) ∧
    (∃ (q : Sys2Proof.Path) (tid index sub value : ℕ) (s : State) (o : Obj), s.Serves q ∧ findObj (addressCode index
      sub) = some o ∧ indexAvailable s.lc index = true ∧ o.acc ≠ Acc.ro ∧ (o.acc = Acc.rwf → s.lc = 1 ∨ s.lc = 3) ∧
      isDomain o.ty = true) ∧
    (∃ (q : Sys2Proof.Path) (tid index sub value : ℕ) (s : State) (o : Obj), s.Serves q ∧ findObj (addressCode index
      sub) = some o ∧ indexAvailable s.lc index = true ∧ o.acc ≠ Acc.ro ∧ (o.acc = Acc.rwf → s.lc = 1 ∨ s.lc = 3) ∧
      isDomain o.ty = false ∧ (s.arrived q).selectionBad q o true = none ∧ decodeValue o.ty value = none) ∧
    (∃ (q : Sys2Proof.Path) (tid index sub value : ℕ) (s : State) (o : Obj) (v : ℤ) (a_7 : ℕ), s.Serves q ∧ findObj
      (addressCode index sub) = some o ∧ indexAvailable s.lc index = true ∧ o.acc ≠ Acc.ro ∧ (o.acc = Acc.rwf → s.lc =
      1 ∨ s.lc = 3) ∧ isDomain o.ty = false ∧ (s.arrived q).selectionBad q o true = none ∧ decodeValue o.ty value =
      some v ∧ (s.arrived q).writeRefusal o (addressCode index sub) (s.instOf q o.scope) v = some a_7) :=
  ⟨⟨.oxlA, 3, 0x1030, 0xFE, 5, up, by decide +kernel⟩,
   ⟨.oxlA, 3, 0x3020, 1, 5, {up with lc := 0}, (obj 0x302001), by decide +kernel⟩,
   ⟨.oxlA, 3, 0x7800, 1, 5, up, (obj 0x780001), by decide +kernel⟩,
   ⟨.spi, 3, 0xF010, 1, 5, up, (obj 0xF01001), by decide +kernel⟩,
   ⟨.spi, 3, 0x3061, 1, 5, up, (obj 0x306101), by decide +kernel⟩,
   ⟨.spi, 3, 0x1100, 1, 2, up, (obj 0x110001), by decide +kernel⟩,
   ⟨.spi, 3, 0x7800, 3, 16, up, (obj 0x780003), 16, 0x06010006, by decide +kernel⟩⟩

/-- Witnesses for AcceptedWritesRun. -/
theorem witness_AcceptedWritesRun :
    ∃ (i : Instr) (s : State) (q : Sys2Proof.Path) (tid code value : ℕ) (o : Obj) (v : ℤ), hostWriteOf i = some (q,
      tid, code, value) ∧ s.Accepts q code value o v :=
  ⟨(.commit .spi 3 1), up, .spi, 3, Code.commit, 1, (obj Code.commit), 1, by decide +kernel⟩

/-- Witnesses for RequestsWaitForTheController. -/
theorem witness_RequestsWaitForTheController :
    ∃ (q : Sys2Proof.Path) (tid index sub : ℕ) (s : State), s.Ready ∧ s.mgmt.mcReset = true ∧ s.faults.started = true
      ∧ (q = Path.spi → s.spi.busy = false) ∧ s.mgmt.waiting.length < 16 :=
  ⟨.spi, 3, 0x1000, 1, {up with mgmt := {mcReset := true, waiting := List.replicate 15 (.oxlA, {op := 0, tid := 1})}},
    by decide +kernel⟩

/-- Witnesses for TransfersEnd. -/
theorem witness_TransfersEnd :
    ∃ (q : Sys2Proof.Path) (tid index sub offset count : ℕ) (s : State) (o : Obj), s.Serves q ∧ s.checkObject
      { op := 5, tid := tid, index := index, sub := sub, arg := offset, count := count } = Except.ok o ∧ (s.path
      q).xfer = none ∧ 1 ≤ count ∧ count ≤ 1024 :=
  ⟨.spi, 3, 0x3061, 1, 0, 1, {up with mgmt := {mcReset := false, spi := {ended := some (0x3061, 1)}}}, (obj 0x306101),
    by decide +kernel⟩

/-- Witnesses for SpiTransactions. -/
theorem witness_SpiTransactions :
    (∃ (n : ℕ) (s : State), s.Ready) ∧
    (∃ (n : ℕ) (s : State), s.Ready) ∧
    (∃ (n : ℕ) (s : State), s.Ready ∧ (s.path Path.spi).xfer = none) ∧
    (∃ (n : ℕ) (s : State) (x : Xfer), s.Ready ∧ (s.path Path.spi).xfer = some x ∧ x.code ≠ Code.fwImage) ∧
    (∃ (b : Byte) (n : ℕ) (s : State), s.Ready ∧ 3 < BitVec.toNat b ∧ b ≠ 255#8) ∧
    (∃ (b : Byte) (n : ℕ) (s : State), s.Ready ∧ (BitVec.toNat b ≤ 3 ∨ b = 255#8)) :=
  ⟨⟨0, up, by decide +kernel⟩,
   ⟨9, {up with spi := {held := some [0x80, 3, 0, 0]}}, by decide +kernel⟩,
   ⟨3, {up with spi := {held := some [0x80, 3, 0, 0], rej := true, busy := true}}, by decide +kernel⟩,
   ⟨2, {up with mgmt := {mcReset := false, spi := {xfer := some xf}}}, xf, by decide +kernel⟩,
   ⟨4, 3, up, by decide +kernel⟩,
   ⟨0, 9, {up with spi := {held := some [0x80, 3, 0, 0]}}, by decide +kernel⟩⟩

/-- Witnesses for SpiSendRunsItsMessage. -/
theorem witness_SpiSendRunsItsMessage :
    (∃ (bytes : List Byte) (tid : ℕ) (s : State), s.coreStopped = false ∧ tid < 256 ∧ sendMessage bytes = some [0#8,
      byteOf tid, 0, 0]) ∧
    (∃ (bytes : List Byte) (tid : ℕ) (s : State) (index sub : ℕ), s.coreStopped = false ∧ tid < 256 ∧ index < 65536 ∧
      sub < 256 ∧ sendMessage bytes = some ([1#8, byteOf tid, 0, 0] ++ addressBytes index sub 0)) ∧
    (∃ (bytes : List Byte) (tid : ℕ) (s : State) (index sub value : ℕ), s.coreStopped = false ∧ tid < 256 ∧ index <
      65536 ∧ sub < 256 ∧ value < 2 ^ 64 ∧ sendMessage bytes = some ([2#8, byteOf tid, 0, 0] ++ addressBytes index sub
      0 ++ beBytes 8 value)) ∧
    (∃ (bytes : List Byte) (s : State), s.Ready ∧ (sendMessage bytes = none ∨ s.spi.busy = true)) :=
  ⟨⟨(sendOf [0, 255, 0, 0]), 255, up, by decide +kernel⟩,
   ⟨(sendOf ([1, 3, 0, 0] ++ addressBytes 0xFFFF 0xFF 0)), 3, up, 0xFFFF, 0xFF, by decide +kernel⟩,
   ⟨(sendOf ([2, 3, 0, 0] ++ addressBytes 0x1100 1 0 ++ beBytes 8 1)), 3, up, 0x1100, 1, 1, by decide +kernel⟩,
   ⟨[0,4,0,9,0,0, 0x2D,0x7B], up, by decide +kernel⟩⟩

/-- Witnesses for PathObjectsArePrivate. -/
theorem witness_PathObjectsArePrivate :
    (∃ (i : Instr) (s : State) (q : Sys2Proof.Path) (tid code value : ℕ) (o : Obj) (v : ℤ), hostWriteOf i = some (q,
      tid, code, value) ∧ s.Accepts q code value o v ∧ code = Code.selDrop) ∧
    (∃ (i : Instr) (s : State) (q : Sys2Proof.Path) (tid code value : ℕ) (o : Obj) (v : ℤ), hostWriteOf i = some (q,
      tid, code, value) ∧ s.Accepts q code value o v ∧ code = Code.selCell) ∧
    (∃ (i : Instr) (s : State) (q : Sys2Proof.Path) (tid code value : ℕ) (o : Obj) (v : ℤ), hostWriteOf i = some (q,
      tid, code, value) ∧ s.Accepts q code value o v ∧ code = Code.selCluster) ∧
    (∃ (i : Instr) (s : State) (q : Sys2Proof.Path) (tid code value : ℕ) (o : Obj) (v : ℤ), hostWriteOf i = some (q,
      tid, code, value) ∧ s.Accepts q code value o v ∧ code = Code.autoStep) ∧
    (∃ (i : Instr) (s : State) (q : Sys2Proof.Path) (tid code value : ℕ) (o : Obj) (v : ℤ), hostWriteOf i = some (q,
      tid, code, value) ∧ s.Accepts q code value o v ∧ code = Code.findPort) ∧
    (∃ (i : Instr) (s : State) (q : Sys2Proof.Path) (tid code value : ℕ) (o : Obj) (v : ℤ), hostWriteOf i = some (q,
      tid, code, value) ∧ s.Accepts q code value o v ∧ code = Code.findTime) ∧
    (∃ (i : Instr) (s : State) (q : Sys2Proof.Path) (tid code value : ℕ) (o : Obj) (v : ℤ), hostWriteOf i = some (q,
      tid, code, value) ∧ s.Accepts q code value o v ∧ code = Code.findKind) ∧
    (∃ (i : Instr) (s : State) (q : Sys2Proof.Path) (tid code value : ℕ) (o : Obj) (v : ℤ), hostWriteOf i = some (q,
      tid, code, value) ∧ s.Accepts q code value o v ∧ code = Code.selPort) ∧
    (∃ (i : Instr) (s : State) (q : Sys2Proof.Path) (tid code value : ℕ) (o : Obj) (v : ℤ), hostWriteOf i = some (q,
      tid, code, value) ∧ s.Accepts q code value o v ∧ code = Code.findGo ∧ v = 1) :=
  ⟨⟨(.write .spi 3 (Code.selDrop/256) (Code.selDrop%256) 32), up, .spi, 3, Code.selDrop, 32, (obj Code.selDrop), 32,
    by decide +kernel⟩,
   ⟨(.write .spi 3 (Code.selCell/256) (Code.selCell%256) 1032191), up, .spi, 3, Code.selCell, 1032191, (obj
     Code.selCell), 1032191, by decide +kernel⟩,
   ⟨(.write .spi 3 (Code.selCluster/256) (Code.selCluster%256) 8), up, .spi, 3, Code.selCluster, 8, (obj
     Code.selCluster), 8, by decide +kernel⟩,
   ⟨(.write .spi 3 (Code.autoStep/256) (Code.autoStep%256) 1), up, .spi, 3, Code.autoStep, 1, (obj Code.autoStep), 1,
     by decide +kernel⟩,
   ⟨(.write .spi 3 (Code.findPort/256) (Code.findPort%256) 143), up, .spi, 3, Code.findPort, 143, (obj Code.findPort),
     143, by decide +kernel⟩,
   ⟨(.write .spi 3 (Code.findTime/256) (Code.findTime%256) 77), up, .spi, 3, Code.findTime, 77, (obj Code.findTime),
     77, by decide +kernel⟩,
   ⟨(.write .spi 3 (Code.findKind/256) (Code.findKind%256) 1), up, .spi, 3, Code.findKind, 1, (obj Code.findKind), 1,
     by decide +kernel⟩,
   ⟨(.write .spi 3 (Code.selPort/256) (Code.selPort%256) 143), up, .spi, 3, Code.selPort, 143, (obj Code.selPort),
     143, by decide +kernel⟩,
   ⟨(.findGo .oxlA 3 1), {up with arch := {state := 3}}, .oxlA, 3, Code.findGo, 1, (obj Code.findGo), 1,
     by decide +kernel⟩⟩

/-- Witnesses for FullTestIsNotRestarted. -/
theorem witness_FullTestIsNotRestarted :
    ∃ (q : Sys2Proof.Path) (tid : ℕ) (s : State), s.Serves q ∧ (s.lc = 1 ∨ s.lc = 3) ∧ s.test.fullState = 1 :=
  ⟨.spi, 3, {up with lc := 3, test := {fullState := 1}}, by decide +kernel⟩

/-- Witnesses for StartupLoadsTheSet. -/
theorem witness_StartupLoadsTheSet :
    ∃ (s : State), s.Ready ∧ s.mgmt.mcReset = true ∧ s.faults.started = true ∧ s.mgmt.waiting = [] :=
  ⟨{up with mgmt := {mcReset := true}}, by decide +kernel⟩

/-- Witnesses for SteepAndRails. -/
theorem witness_SteepAndRails :
    ∃ (k : ℕ) (s : State), s.Ready ∧ k < 9 ∧ (s.cluster k).state = 1 ∧ (∀ p ∈ portsOf k, (s.port p).mode = 0 ∨ 200 <
      s.idleLeft p) :=
  ⟨0, {up with clusters := [(0, {state := 1})]}, by decide +kernel⟩

end S20

namespace SM

open S12 (m0)

/-- The answer of a command, where it goes on. -/
def after (i : Instr) (s : State) : State := match exec i s with | .next t => t | _ => s

/-- Whether a command goes on. -/
def goesOn (o : Host.Outcome State Fault Refusal) : Bool := match o with | .next _ => true | _ => false

theorem exec_after {i : Instr} {s : State} (h : goesOn (exec i s) = true) : exec i s = .next (after i s) := by
  unfold after
  cases hx : exec i s <;> simp_all [goesOn]

/-- Witnesses for LifeCycleOnlyMovesForward. -/
theorem witness_LifeCycleOnlyMovesForward : ∃ s t : State, step s = .next t ∧ s.lc ≤ 3 :=
  ⟨State.reset, _, rfl, by decide⟩

/-- Witnesses for TimeMovesOnlyByItsEvents. -/
theorem witness_TimeMovesOnlyByItsEvents : ∃ (i : Instr) (s t : State), carriesTime i = false ∧ resetsDevice i = false ∧
    carriesAnyWrite i = false ∧ exec i s = .next t :=
  ⟨.nop .spi 3, up, after (.nop .spi 3) up, rfl, rfl, rfl, exec_after (by decide +kernel)⟩

/-- Witnesses for CommittedSetsStand. -/
theorem witness_CommittedSetsStand : ∃ (i : Instr) (s t : State), (∀ ok : Bool, i ≠ .commitSetCurrent ok) ∧
    i ≠ .lcEntryErasure ∧ (∀ bad : List Nat, i ≠ .startup bad) ∧ exec i s = .next t ∧ carriesAnyWrite i = false ∧
    (∀ (q : Sys2Proof.Path) (tid v : Nat), i ≠ .commit q tid v) ∧ (∀ ok : Bool, i ≠ .nvmPageProgramComplete ok) :=
  ⟨.nop .spi 3, up, after (.nop .spi 3) up, by decide, by decide, (by intro _ h; cases h), exec_after (by decide +kernel), rfl,
    (by intro _ _ _ h; cases h), (by intro _ h; cases h)⟩

/-- Witnesses for FatalIsLeftByPowerAlone: a command that Fatal stops. -/
theorem witness_FatalIsLeftByPowerAlone_stopped : ∃ (i : Instr) (s : State), s.faults.fatal = true ∧ i ≠ .powerOnReset ∧
    i ≠ .vddAonFall ∧ (∀ ts : List Int, i ≠ .thermalSample ts) :=
  ⟨.resetN, { up with faults := { fatal := true } }, rfl, by decide, by decide, (by intro _ h; cases h)⟩

/-- Witnesses for SteepAndRails: a rail's OPERATION that follows its CLEAR_FAULTS. -/
theorem witness_SteepAndRails_operation : ∃ (r : PmReq) (rest : List PmReq) (s : State) (k : Nat), s.Ready ∧
    s.power.queue = r :: rest ∧ r.waiting = false ∧ r.notBefore ≤ s.time.tick ∧ s.heat.restarting = false ∧
    ({ r with addr := none } = { pmReq (13 + k) 0x01 0x80 4 none with clear := true } ∧ rest = [] ∧ k < 9) :=
  ⟨{ pmReq 17 0x01 0x80 4 none with clear := true }, [],
   { up with power := { queue := [{ pmReq 17 0x01 0x80 4 none with clear := true }] } }, 4, by decide +kernel⟩

/-- Witnesses for ResetCauseNamesTheLastReset. -/
theorem witness_ResetCauseNamesTheLastReset : ∃ (i : Instr) (s t : State), resetsDevice i = false ∧
    carriesAnyWrite i = false ∧ i ≠ .watchdogExpiry ∧ (∀ (q : Sys2Proof.Path) (tid : Nat), i ≠ .resetCmdController q tid) ∧
    exec i s = .next t :=
  ⟨.boot, State.reset, after .boot State.reset, rfl, rfl, by decide, (by intro _ _ h; cases h),
   exec_after (by decide +kernel)⟩

/-- A SEND's bytes for a message (R353, R354). -/
def sendOf (m : List Byte) : List Byte :=
  beBytes 2 m.length ++ m ++ beBytes 2 (spiCrc (beBytes 2 m.length ++ m)).toNat

/-- Witnesses for SpiSendRunsItsMessage. -/
theorem witness_SpiSendRunsItsMessage :
    (∃ (bytes m : List Byte) (s : State), s.Serves .spi ∧ sendMessage bytes = some m) ∧
    (∃ (bytes : List Byte) (tid : Nat) (s : State), s.Serves .spi ∧ tid < 256 ∧
      sendMessage bytes = some [0#8, byteOf tid, 0, 0]) :=
  ⟨⟨sendOf [8, 9, 0, 0, 0x30, 0x61, 1, 0], [8, 9, 0, 0, 0x30, 0x61, 1, 0], up, by decide +kernel⟩,
   ⟨sendOf [0, 255, 0, 0], 255, up, by decide +kernel⟩⟩

/-- A device whose DROP_TABLE of port 0 holds some content. -/
def sFull (xs : List Byte) : State := { up with doms := [(objKey Code.dropTable 0, xs)] }

theorem sFull_accepts (xs : List Byte) : (sFull xs).Accepts .spi Code.commit 1 (obj Code.commit) 1 :=
  ⟨of_decide_eq_true rfl, of_decide_eq_true rfl, of_decide_eq_true rfl, of_decide_eq_true rfl, of_decide_eq_true rfl,
    of_decide_eq_true rfl⟩

theorem sFull_bytes (xs : List Byte) : xs.length ≤ setBytes (sFull xs).rwpDoms := by
  have hd : (sFull xs).rwpDoms = [(objKey Code.dropTable 0, xs)] := by
    unfold State.rwpDoms sFull
    have hk : isRwp (keyCode (objKey Code.dropTable 0)) = true := by decide +kernel
    exact (List.filter_cons_of_pos (p := fun e : Nat × List Byte => isRwp (keyCode e.1)) hk).trans (congrArg _ List.filter_nil)
  rw [hd, setBytes]
  refine Nat.le_trans ?_ (Nat.le_add_left _ _)
  rw [List.foldl_cons, List.foldl_nil]
  exact Nat.le_add_left _ _

/-- Witnesses for CommitTakesTheSettings: a set that does not fit a slot. -/
theorem witness_CommitTakesTheSettings_tooLong : ∃ (q : Sys2Proof.Path) (tid value : Nat) (s : State) (o : Obj),
    s.Accepts q Code.commit value o 1 ∧ s.nvm.writing = none ∧ s.nvm.erasure = false ∧
    s.nvm.erasing = none ∧ 1015552 < setBytes s.rwpDoms := by
  refine ⟨.spi, 3, 1, sFull (List.replicate 1015553 0), obj Code.commit, sFull_accepts _, rfl, rfl, rfl, ?_⟩
  refine Nat.lt_of_lt_of_le ?_ (sFull_bytes _)
  rw [List.length_replicate]
  omega

/-- Witnesses for DefaultsAndRevertFormOneSetting: the second clause. -/
theorem witness_DefaultsAndRevertFormOneSetting_revert : ∃ (q : Sys2Proof.Path) (tid value : Nat) (s : State) (o : Obj)
    (c : CommitSet), (∀ e ∈ s.rwpRegs ++ c.regs, actsAtOnce (rowCode (keyCode e.1)) = false) ∧
    s.Accepts q Code.revert value o 1 ∧ s.currentSet = some c :=
  ⟨.spi, 3, 1, S04.sD, obj Code.revert, S04.c0, by decide +kernel⟩

/-- Witnesses for ReceiversAcquire: a recovery that does not end. -/
theorem witness_ReceiversAcquire_recovery : ∃ (p : Nat) (v0 v1 : List Int) (s : State), s.Ready ∧ p < 144 ∧
    s.listening p = true ∧
    (overThreshold (s.port p) (energyOf v0) = true ∨ overThreshold (s.port p) (energyOf v1) = true) :=
  ⟨3, [3000000], [0], S11.sA .search, by decide +kernel⟩

/-- Witnesses for BurstsAreJudged: the length of a beacon. -/
theorem witness_BurstsAreJudged_beacon : ∃ b : Burst, b.payload.length = 16 :=
  ⟨{ mode := 0x20, typ := 0, drop := 63, epoch := 0, seq := 0, ack := 0, flags := 0, payload := List.replicate 16 0,
     start := 20 }, rfl⟩

/-- Witnesses for HostFramesReachTheirDrops: a frame that a FRAME_ERROR names. -/
theorem witness_HostFramesReachTheirDrops_error : ∃ (l : Link) (f : HostFrame) (s : State), s.Ready ∧
    (s.link l).state = 5 :=
  ⟨.a, S15.fr 4 100, S15.sG, by decide +kernel⟩

/-- The content that a bring-up finds. -/
abbrev found (d : DriveInfo) : Tab (List Byte) := d.content.foldl (fun x e => x.put e.1 e.2) []

/-- A drive that meets R267, with some content. -/
def drv (c : List (Nat × List Byte)) : DriveInfo :=
  { linkGen := 4, linkWidth := 4, version := 0x10400, blockSize := 4096, metadata := 0, protection := false,
    queuePairs := 8, mqes := 1023, mdts := 131072, blocks := 488378646, content := c }

theorem drv_meets (c : List (Nat × List Byte)) : driveMeets (drv c) = true := by
  simp [driveMeets, drv]

theorem firstLabel_of {a : List Byte} {x : Label} (r : Tab (List Byte)) (h : parseLabel a = some x) :
    firstLabel ((0, a) :: r) = some x := by
  have e : driveAt ((0, a) :: r) 0 = a := rfl
  rw [firstLabel, e, h]; rfl

theorem found_one (a : List Byte) : found (drv [(0, a)]) = [(0, a)] := rfl
theorem found_two (a b : List Byte) : found (drv [(0, a), (1029, b)]) = [(0, a), (1029, b)] := rfl
theorem newest_one (a : List Byte) : newestJournal [(0, a)] = none := rfl
theorem newest_two {a b : List Byte} {j : Journal} (h : parseJournal b = some j) :
    newestJournal [(0, a), (1029, b)] = some (5, j) := by
  have h0 : journalSlot 0 = none := rfl
  have h5 : journalSlot 1029 = some 5 := rfl
  rw [newestJournal, List.foldl_cons, List.foldl_cons, List.foldl_nil, h0, h5, h]

/-- An identity that is not this device's. -/
def otherId : Nat := (Config.serial + 1) % 256 ^ 8

theorem otherId_ne : otherId ≠ Config.serial := by
  have := Config.serialBits.isLt
  unfold otherId Config.serial
  omega

/-- Witnesses for TheArchiveCommitsItsRecords: what a bring-up finds. -/
theorem witness_TheArchiveCommitsItsRecords_bringUp :
    (∃ (d : DriveInfo) (s : State) (x : Label), s.Ready ∧ s.arch.state = 1 ∧ driveMeets d = true ∧
      d.linkGen ≠ 0 ∧ d.linkWidth ≠ 0 ∧ firstLabel (found d) = some x ∧ x.deviceId ≠ Config.serial) ∧
    (∃ (d : DriveInfo) (s : State) (x : Label), s.Ready ∧ s.arch.state = 1 ∧ driveMeets d = true ∧
      d.linkGen ≠ 0 ∧ d.linkWidth ≠ 0 ∧ firstLabel (found d) = some x ∧ x.deviceId = Config.serial ∧ newestJournal (found d) = none) ∧
    (∃ (d : DriveInfo) (s : State) (x : Label) (slot : Nat) (j : Journal), s.Ready ∧ s.arch.state = 1 ∧
      driveMeets d = true ∧ d.linkGen ≠ 0 ∧ d.linkWidth ≠ 0 ∧ firstLabel (found d) = some x ∧ x.deviceId = Config.serial ∧
      newestJournal (found d) = some (slot, j)) := by
  have hr : (S16.sR { S16.ar with state := 1 }).Ready ∧ (S16.sR { S16.ar with state := 1 }).arch.state = 1 := by
    decide +kernel
  have hs : Config.serial < 256 ^ 8 := Config.serialBits.isLt
  obtain ⟨x, hx, hi⟩ := parseLabel_labelBytes (l := { S16.lb with deviceId := otherId }) (Nat.mod_lt _ (by decide))
  obtain ⟨y, hy, hj⟩ := parseLabel_labelBytes (l := { S16.lb with deviceId := Config.serial }) hs
  obtain ⟨j, hj'⟩ := Option.isSome_iff_exists.mp (parseJournal_journalBytes S16.jn)
  generalize labelBytes { S16.lb with deviceId := otherId } = a at hx
  generalize labelBytes { S16.lb with deviceId := Config.serial } = b at hy
  generalize journalBytes S16.jn = c at hj'
  refine ⟨⟨drv [(0, a)], _, x, hr.1, hr.2, drv_meets _, (nomatch ·), (nomatch ·), ?_, ?_⟩,
    ⟨drv [(0, b)], _, y, hr.1, hr.2, drv_meets _, (nomatch ·), (nomatch ·), ?_, hj, ?_⟩,
    ⟨drv [(0, b), (1029, c)], _, y, 5, j, hr.1, hr.2, drv_meets _, (nomatch ·), (nomatch ·), ?_, hj, ?_⟩⟩
  · rw [found_one]; exact firstLabel_of _ hx
  · rw [hi]; exact otherId_ne
  · rw [found_one]; exact firstLabel_of _ hy
  · rw [found_one]; exact newest_one b
  · rw [found_two]; exact firstLabel_of _ hy
  · rw [found_two]; exact newest_two hj'

theorem witness_TheArchiveCommitsItsRecords_writes :
    (∃ (q : Sys2Proof.Path) (tid value : Nat) (s : State) (o : Obj), s.Accepts q Code.archFormat value o 1 ∧
      s.arch.driveOk = true) ∧
    (∃ (c : NvmeCmd) (j : Journal) (s : State), s.Ready ∧ s.arch.toIssue = [] ∧ s.arch.inFlight = [c] ∧ c.pair = 0 ∧
      c.job = .journalA j) ∧
    (∃ (c : NvmeCmd) (j : Journal) (s : State), s.Ready ∧ s.arch.toIssue = [] ∧ s.arch.inFlight = [c] ∧ c.pair = 0 ∧
      c.job = .journalB j ∧ s.arch.formatting = none ∧ s.arch.recovering = false ∧ s.arch.blocked = []) :=
  ⟨⟨.spi, 3, 1, S16.sR { S16.ar with state := 4, driveOk := true }, obj Code.archFormat, by decide +kernel⟩,
   ⟨{ pair := 0, cid := 4, job := .journalA S16.jn, issued := 7 }, S16.jn,
    S16.sR { S16.ar with inFlight := [{ pair := 0, cid := 4, job := .journalA S16.jn, issued := 7 }] }, by decide +kernel⟩,
   ⟨{ pair := 0, cid := 1023, job := .journalB S16.jn, issued := 7 }, S16.jn,
    S16.sR { S16.ar with inFlight := [{ pair := 0, cid := 1023, job := .journalB S16.jn, issued := 7 }] },
    by decide +kernel⟩⟩

/-- Witnesses for HostLinksComeUpAndAreLost: a loss and a retraining. -/
theorem witness_HostLinksComeUpAndAreLost_loss :
    (∃ (l : Link) (c : LossCause) (s : State), s.Ready ∧ s.rxUp l = true ∧ s.linkOn l = true ∧ s.prbsSends l = false ∧
      s.prbsChecks l = false ∧ (c = .clockIdle → (s.link l).state = 5) ∧ (∀ n : Nat, c = .syncHeaders n → 16 ≤ n) ∧
      (c = .alignCount → 2 ≤ (s.link l).alignBad)) ∧
    (∃ (q : Sys2Proof.Path) (tid value : Nat) (l : Link) (s : State) (o : Obj), s.Ready ∧ s.rxUp l = true ∧
      s.linkOn l = true ∧ s.prbsSends l = false ∧ s.prbsChecks l = false ∧
      s.Accepts q (linkCode l Code.linkRetrain) value o 1) :=
  ⟨⟨.a, .syncHeaders 16, S17.sR S17.uL S17.uL, by decide +kernel, by decide +kernel, by decide +kernel,
    by decide +kernel, by decide +kernel, (nomatch ·), fun n h => by injection h with h; omega, (nomatch ·)⟩,
   ⟨.oxlA, 4, 1, .a, S17.sR S17.uL, obj (linkCode .a Code.linkRetrain), by decide +kernel⟩⟩

/-- Witnesses for QuietAndTheLaneTest: a lane's coder. -/
theorem witness_QuietAndTheLaneTest_lane : ∃ c : LaneCoder, c.prev < 4 := ⟨{ prev := 3 }, by decide⟩

/-- Witnesses for CellsAreLaidOutAndWatched: a cell that stays as it is, and the snapshots that are not taken. -/
theorem witness_CellsAreLaidOutAndWatched_rest :
    (∃ (p : Nat) (pts : List Int) (n i : Nat) (c : Cell) (s : State), s.cellBad i = false ∧ s.degraded p = false ∧
      c.state ≤ 2 ∧ c.start + c.width < n ∧
      16 * (roundDiv (sumInt ((List.range (c.width + 1)).map (fun j => pointOf pts (c.start + j)))) (c.width + 1) -
        c.bench - c.drift).natAbs < 4 * c.thresh * (16 - c.hyst) ∧
      (roundDiv (sumInt ((List.range (c.width + 1)).map (fun j => pointOf pts (c.start + j)))) (c.width + 1) -
        c.bench - c.drift).natAbs < 4 * c.thresh ∧ c.state ≠ 0 ∧ 1 < c.count) ∧
    (∃ s : State, s.Ready ∧
      (s.cells.snapDue = true ∨ s.elapsed s.cells.snapAt (s.regN Code.snapInterval 0 * 10000000) = true) ∧
      s.arch.state = 3 ∧ s.arch.snapshot.isSome = true) ∧
    (∃ s : State, s.Ready ∧
      (s.cells.snapDue = true ∨ s.elapsed s.cells.snapAt (s.regN Code.snapInterval 0 * 10000000) = true) ∧
      s.arch.state ≠ 3) :=
  ⟨⟨3, [0, 0, 0], 3, 100, S18.cc 1 13, S18.sT {}, by decide +kernel⟩,
   ⟨{ up with cells := { snapDue := true }, arch := { state := 3, snapshot := some S16.rc } }, by decide +kernel⟩,
   ⟨{ up with cells := { snapDue := true } }, by decide +kernel⟩⟩

end SM

/-! ## Well-formedness: a command that each check refuses -/

/-- A tid of 9 bits, an index of 17, a subindex of 9 and a value of 65 bits are refused (R330, R331). -/
theorem test_wf_message : (Instr.nop .spi 256).wf = false ∧ (Instr.read .spi 0 65536 0).wf = false ∧
    (Instr.read .spi 0 0 256).wf = false ∧ (Instr.write .spi 0 0 0 (2 ^ 64)).wf = false ∧
    (Instr.commit .spi 0 (2 ^ 64)).wf = false ∧ (Instr.write .spi 255 0xFFFF 255 (2 ^ 64 - 1)).wf = true := by decide +kernel

/-- A length of 33 bits, an offset of 33, a count of 17 and data of another length are refused, and an op of 9 bits (R331). -/
theorem test_wf_lengths : (Instr.domainWriteInit .spi 0 0 0 (2 ^ 32)).wf = false ∧
    (Instr.segmentRead .spi 0 0 0 (2 ^ 32) 1).wf = false ∧ (Instr.segmentRead .spi 0 0 0 0 65536).wf = false ∧
    (Instr.segmentWrite .spi 0 0 0 0 2 [1]).wf = false ∧ (Instr.opUnknown .spi 0 256 0 0).wf = false := by decide +kernel

/-- Command bytes of the SPI that have a row of their own (R353). -/
theorem test_wf_spi : (Instr.spiUnknownCommand 3 0).wf = false ∧
    (Instr.spiUnknownCommand 255 0).wf = false ∧ (Instr.spiUnknownCommand 4 0).wf = true := by decide +kernel

/-- Ports, drops, clusters, engines, lanes and queue pairs that the device does not have (R8, R38, R41, R84, R269, R327). -/
theorem test_wf_units : (Instr.noiseEvent 144).wf = false ∧ (Instr.noiseEvent 143).wf = true ∧
    (Instr.keepaliveAck 0 0).wf = false ∧ (Instr.keepaliveAck 0 33).wf = false ∧ (Instr.keepaliveAck 143 32).wf = true ∧
    (Instr.insDwellEnd 9).wf = false ∧ (Instr.engineTestComplete 162 []).wf = false ∧
    (Instr.prbsLock .a 2 []).wf = false ∧ (Instr.nvmeCompletion 8 0 .ok).wf = false := by decide +kernel

/-- Fields of an answer, an identity, a host frame, a bulk request and a sampling that are too long (R46, R190, R309, R318). -/
theorem test_wf_fields : (Instr.rollAnswer 0 [] 0 0).wf = false ∧ (Instr.keptEqualiserExpiry 0 (2 ^ 48)).wf = false ∧
    (Instr.cancel .a 65536).wf = false ∧ (Instr.thermalSample []).wf = false ∧ (Instr.learningComplete (2 ^ 31)).wf = false ∧
    (Instr.dormantEntry 0 (List.replicate 657 0)).wf = false ∧ (Instr.smartPoll 0 256 0).wf = false := by decide +kernel

/-- A burst's measures that are well formed. -/
def goodMeas : RxMeasure := { S11.meas with acq := [List.replicate 48 1], track := [List.replicate 48 0] }

/-- A bring-up's blocks have 4,096 bytes, a burst's decisions are levels, a loaded word is one of 64, a cask byte one of 1,024
(R50, R94, R139, R271). -/
theorem test_wf_contents :
    (Instr.archiveBringUp (SM.drv [(0, [1])])).wf = false ∧
    (Instr.burstEnd 0 [4] goodMeas).wf = false ∧ (Instr.contextLoad 0 1 [(64, .single)]).wf = false := by decide +kernel

/-- What a burst's receiver brings has 48 values a symbol and 16-bit measures (R138, R144). -/
theorem test_wf_measures : (Instr.burstEnd 0 [3] goodMeas).wf = true ∧
    (Instr.burstEnd 0 [3] { goodMeas with acq := [[1]] }).wf = false ∧
    (Instr.burstEnd 0 [3] { goodMeas with track := [[1]] }).wf = false ∧
    (Instr.burstEnd 0 [3] { goodMeas with agcGain := 65536 }).wf = false ∧
    (Instr.burstEnd 0 [3] { goodMeas with phase := 65536 }).wf = false := by decide +kernel

/-- An old TIME64 of 65 bits, an offset of 32 bits, a page beyond the flash, and a ninth pair are refused (R60, R269, R451). -/
theorem test_wf_numbers : (Instr.realignGridStart (2 ^ 64) 0).wf = false ∧ (Instr.datum (2 ^ 31)).wf = false ∧
    (Instr.startup [32768]).wf = false ∧ (Instr.startup [32767]).wf = true ∧
    (Instr.cmdTimeoutExpiry 8 0 false false).wf = false ∧ (Instr.clusterRailFall 9 false).wf = false := by decide +kernel

/-- A frame in error longer than any body, a block that is not whole, and a word beyond a tap store are refused (R300, R309,
R382). -/
theorem test_wf_faults : (Instr.frameError .a (.received [1] [])).wf = false ∧
    (Instr.frameError .a (.received [1] [1])).wf = false ∧ (Instr.frameError .a (.received [] [])).wf = true ∧
    (Instr.engineFailing 0 (.tapStore 384)).wf = false ∧ (Instr.engineFailing 0 (.tapStore 383)).wf = true ∧
    (Instr.hostDataFrame .a { start := 0, data := List.replicate 513 0, stop := none }).wf = false ∧
    (Instr.frameError .a (.frame { start := 0, data := List.replicate 513 0, stop := none })).wf = false := by decide +kernel

/-- Ports and clusters inside a list of findings, and cask bytes beyond a save set, are refused (R8, R38, R50). -/
theorem test_wf_lists : (Instr.cycleStart [{ port := 144, samples := [], dc := [] }]).wf = false ∧
    (Instr.cycleStart [{ port := 143, samples := [], dc := [] }]).wf = true ∧
    (Instr.startupCheck [{ cluster := 9, runs := [], again := [] }]).wf = false ∧
    (Instr.wakeStep 0 { statusWord := 0, pllLocked := true, badA := [1024], badB := [] }).wf = false ∧
    (Instr.wakeStep 0 { statusWord := 0, pllLocked := true, badA := [], badB := [1023] }).wf = true := by decide +kernel

/-! ## Figures that the manual works out -/

/-- The ASCII bytes of "123456789". -/
def digits : List Byte := [0x31, 0x32, 0x33, 0x34, 0x35, 0x36, 0x37, 0x38, 0x39]

/-- The check values of R115, and the CRC-16 over the two zero bytes of a FETCH without a response (R353's example). -/
theorem test_check_values : crc16 (bytesBits digits) = 0x29B1 ∧ crc8 (bytesBits digits) = 0xF4 ∧
    crc32 (bytesBits digits) = 0xFC891918 ∧ spiCrc [0, 0] = 0x1D0F := by decide +kernel

/-- The slots of the worked example's levelled drops, and of base mode, at the grant of 128 bytes (R83; 19_worked_examples.md). -/
theorem test_slot_lengths : [0x03, 0x12, 0x21, 0x31, 0x40, 0x50, 0x60].map (slotTicks 128) =
    [107, 228, 577, 1134, 3937, 7854, 15688] := by decide +kernel

/-- A ROLL_ANSWER has 328 symbols and lasts 4,199 ticks (R108's example). -/
theorem test_roll_answer : burstSymbols 16 baseMode = 328 ∧ burstTicks 16 baseMode = 4199 := by decide +kernel

/-- Drop 10 of the worked example: 365 bytes up in the whole region, 189 down before tick 10,957. -/
theorem test_payloads : largestPayload 20000 0x50 = some 365 ∧ largestPayload (10957 + 20) 0x50 = some 189 := by decide +kernel

/-- A window of 2,000 ticks at step code 1 gives 10,612 points (R227; 19_worked_examples.md). -/
theorem test_points : nValidOf 2000 1 1 = 10612 := by decide +kernel

/-- A beacon's 296 symbols end at tick 94,740 of their window (R123). -/
theorem test_beacon_end : 20 + 296 * beaconSymbolTicks = 94740 := by decide +kernel

/-- The first points of the worked leak's difference, by point number (08_traverse.md). -/
def leak (k : Nat) : Int := if k = 3687 then -380 else if k = 3688 then -412 else if k = 3689 then -405 else 0

/-- It is located 0.3205 beyond point 3,688, at 4,312.3 m (R231, R234). -/
theorem test_leak_located : locate leak 3688 = (3688 * 78 + 25, 78) ∧
    chainage 1 780 (locate leak 3688).1 (locate leak 3688).2 = 43123 := by decide +kernel

/-- The dwell pair of the same example: 180.0 kΩ and an EMF of +300 mV (R236, R237). -/
theorem test_dwell_pair :
    (dwellPair { count := 1, volts := 11384000, amps := 61580 } { count := 1, volts := -11353000, amps := -64740 }).1 / 100 =
      1799 ∧
    (dwellPair { count := 1, volts := 11384000, amps := 61580 } { count := 1, volts := -11353000, amps := -64740 }).2 =
      300 := by decide +kernel

/-- The cell of the worked alarm and of its confirmation, as CELL_RAW shows it (R250, R253; 09_watch_cells.md). -/
theorem test_cell_bytes :
    cellBytes { start := 3689, width := 0, bench := 0xE7, drift := -3, residue := 0, var := 0x28, thresh := 16, hyst := 4,
                state := 2, kind := 0, count := 4, page := 0, time := 2419385 } =
      beBytes 16 0x39A4000E7FFD0000281044200024EAB9 ∧
    cellBytes { start := 3689, width := 0, bench := 0xE7, drift := -3, residue := 0, var := 0x28, thresh := 16, hyst := 4,
                state := 3, kind := 0, count := 15, page := 0, time := 2422985 } =
      beBytes 16 0x39A4000E7FFD0000281046780024F8C9 := by decide +kernel

/-- The lane of R299's example: Gray values, precoded values, levels, and back. -/
theorem test_lane_example :
    grayPairs [false, false, false, true, true, true, true, false, true, true] = [0, 1, 2, 3, 2] ∧
    (precode true 0 [0, 1, 2, 3, 2]).1 = [0, 1, 1, 2, 0] ∧
    [0, 1, 1, 2, 0].map (pam4Level false) = [-3, -1, -1, 1, -3] ∧
    (unprecode true 0 [0, 1, 1, 2, 0]).1 = [0, 1, 2, 3, 2] := by decide +kernel

end Sys2Proof.Tests
end

/-! PROOFS. Requests that a path serves at once, and from them the statements about LC_REQUEST and FULL_TEST. -/

namespace Sys2Proof.Machine

/-! ## What stays where a request arrives, is answered and is counted -/

/-- A request that arrives takes up the SPI and nothing else (R355). -/
theorem State.arrived_frame (s : State) (q : Path) : { s.arrived q with spi := s.spi } = s := by cases q <;> rfl

/-- The frame of a request changes nothing but its counter (R6). -/
theorem State.counted_frame (s : State) (q : Path) : { s.counted q with regs := s.regs } = s := by cases q <;> rfl

/-- A count of an abort changes nothing but its counter (R360). -/
theorem countAbort_frame (q : Path) (y : Reply) (s : State) : { countAbort q y s with regs := s.regs } = s := by
  cases y <;> rfl

/-- An answer changes nothing but the SPI, the host links and the counters (R350, R360). -/
theorem answer_frame (q : Path) (r : MgmtReq) (y : Reply) (s : State) :
    { answer q r y s with spi := s.spi, oxl := s.oxl, regs := s.regs } = s := by
  cases q <;> cases y <;> cases hr : r.silent <;> simp [answer, linkOfPath, hr] <;> rfl

@[simp] theorem State.arrived_mgmt (s : State) (q : Path) : (s.arrived q).mgmt = s.mgmt :=
  (congrArg State.mgmt (s.arrived_frame q) :)
@[simp] theorem State.arrived_oxl (s : State) (q : Path) : (s.arrived q).oxl = s.oxl :=
  (congrArg State.oxl (s.arrived_frame q) :)
@[simp] theorem State.arrived_regs (s : State) (q : Path) : (s.arrived q).regs = s.regs :=
  (congrArg State.regs (s.arrived_frame q) :)
@[simp] theorem State.arrived_time (s : State) (q : Path) : (s.arrived q).time = s.time :=
  (congrArg State.time (s.arrived_frame q) :)
@[simp] theorem State.arrived_nvm (s : State) (q : Path) : (s.arrived q).nvm = s.nvm :=
  (congrArg State.nvm (s.arrived_frame q) :)
@[simp] theorem State.arrived_test (s : State) (q : Path) : (s.arrived q).test = s.test :=
  (congrArg State.test (s.arrived_frame q) :)
@[simp] theorem State.arrived_faults (s : State) (q : Path) : (s.arrived q).faults = s.faults :=
  (congrArg State.faults (s.arrived_frame q) :)
@[simp] theorem State.arrived_lc (s : State) (q : Path) : (s.arrived q).lc = s.lc :=
  (congrArg State.lc (s.arrived_frame q) :)

@[simp] theorem State.counted_mgmt (s : State) (q : Path) : (s.counted q).mgmt = s.mgmt :=
  (congrArg State.mgmt (s.counted_frame q) :)
@[simp] theorem State.counted_spi (s : State) (q : Path) : (s.counted q).spi = s.spi :=
  (congrArg State.spi (s.counted_frame q) :)
@[simp] theorem State.counted_oxl (s : State) (q : Path) : (s.counted q).oxl = s.oxl :=
  (congrArg State.oxl (s.counted_frame q) :)
@[simp] theorem State.counted_nvm (s : State) (q : Path) : (s.counted q).nvm = s.nvm :=
  (congrArg State.nvm (s.counted_frame q) :)
@[simp] theorem State.counted_test (s : State) (q : Path) : (s.counted q).test = s.test :=
  (congrArg State.test (s.counted_frame q) :)
@[simp] theorem State.counted_faults (s : State) (q : Path) : (s.counted q).faults = s.faults :=
  (congrArg State.faults (s.counted_frame q) :)
@[simp] theorem State.counted_lc (s : State) (q : Path) : (s.counted q).lc = s.lc :=
  (congrArg State.lc (s.counted_frame q) :)

@[simp] theorem answer_mgmt (q : Path) (r : MgmtReq) (y : Reply) (s : State) : (answer q r y s).mgmt = s.mgmt :=
  (congrArg State.mgmt (answer_frame q r y s) :)
@[simp] theorem answer_nvm (q : Path) (r : MgmtReq) (y : Reply) (s : State) : (answer q r y s).nvm = s.nvm :=
  (congrArg State.nvm (answer_frame q r y s) :)
@[simp] theorem answer_test (q : Path) (r : MgmtReq) (y : Reply) (s : State) : (answer q r y s).test = s.test :=
  (congrArg State.test (answer_frame q r y s) :)
@[simp] theorem answer_faults (q : Path) (r : MgmtReq) (y : Reply) (s : State) : (answer q r y s).faults = s.faults :=
  (congrArg State.faults (answer_frame q r y s) :)

@[simp] theorem countAbort_spi (q : Path) (y : Reply) (s : State) : (countAbort q y s).spi = s.spi :=
  (congrArg State.spi (countAbort_frame q y s) :)
@[simp] theorem countAbort_oxl (q : Path) (y : Reply) (s : State) : (countAbort q y s).oxl = s.oxl :=
  (congrArg State.oxl (countAbort_frame q y s) :)

theorem path_congr {s t : State} (h : t.mgmt = s.mgmt) (q : Path) : t.path q = s.path q := by
  cases q <;> simp [State.path, h]

theorem countAbort_regWritten {code inst : Nat} (q : Path) (y : Reply) (s : State) (hi : inst < 2 ^ 24)
    (hc : code ≠ abortCode q) : (countAbort q y s).regWritten code inst = s.regWritten code inst := by
  cases y with
  | ok _ => rfl
  | error _ => exact bumpBy_regWritten (objKey_ne hc hi (by omega)) 1 s

theorem answer_regs (q : Path) (r : MgmtReq) (y : Reply) (s : State) : (answer q r y s).regs = (countAbort q y s).regs := by
  unfold answer
  (repeat' split) <;> simp

/-- An answer counts among the aborts of its path and changes no other working value (R360). -/
theorem answer_regWritten {code inst : Nat} (q : Path) (r : MgmtReq) (y : Reply) (s : State) (hi : inst < 2 ^ 24)
    (hc : code ≠ abortCode q) : (answer q r y s).regWritten code inst = s.regWritten code inst := by
  rw [← countAbort_regWritten q y s hi hc]
  simp [State.regWritten, answer_regs]

/-- A frame counts in FRAMES_IN of its link and changes no other working value (R6). -/
theorem counted_regWritten {code inst : Nat} (q : Path) (s : State) (hi : inst < 2 ^ 24) (ha : code ≠ Code.framesIn)
    (hb : code ≠ linkCode .b Code.framesIn) : (s.counted q).regWritten code inst = s.regWritten code inst := by
  cases q with
  | spi => rfl
  | oxlA => exact bumpBy_regWritten (objKey_ne ha hi (by omega)) 1 s
  | oxlB => exact bumpBy_regWritten (objKey_ne hb hi (by omega)) 1 s

/-! ## The response on its path -/

theorem holds_congr {s t : State} {q : Path} {bytes : List Byte} (hs : t.spi = s.spi)
    (hl : ∀ l, (t.link l).mgmt = (s.link l).mgmt) (h : s.Holds q bytes) : t.Holds q bytes := by
  simpa [State.Holds, hs, hl] using h

theorem holds_counted {s : State} {q : Path} {bytes : List Byte} (h : s.Holds q bytes) : (s.counted q).Holds q bytes :=
  holds_congr (by simp) (by intro l; cases l <;> simp [State.link]) h

theorem holds_collect {s : State} {q : Path} {bytes : List Byte} (h : s.Holds q bytes) : (collect s).Holds q bytes :=
  holds_congr (by simp) (by simp) h

/-- An answer that is not discarded stands at the end of its path (R350, R356, R358). -/
theorem answer_holds {q : Path} {r : MgmtReq} {s : State} (y : Reply) (hr : r.silent = false)
    (hq : q = .spi → s.spi.abandoned = false) : (answer q r y s).Holds q (responseBytes r y) := by
  cases q with
  | spi => simp [State.Holds, answer, linkOfPath, hq]
  | oxlA => simp [State.Holds, answer, linkOfPath, hr]
  | oxlB => simp [State.Holds, answer, linkOfPath, hr]

/-- A response on a link stands in its management queue, and nothing else of the links changes (R350). -/
theorem answer_link (q : Path) (r : MgmtReq) (y : Reply) (s : State) (l : Link) :
    { (answer q r y s).link l with mgmt := (s.link l).mgmt } = s.link l := by
  cases q <;> cases l <;> cases hr : r.silent <;> simp [answer, linkOfPath, hr, State.link, State.modLink, State.setLink]

theorem answer_oxl (q : Path) (r : MgmtReq) (y : Reply) (s : State) :
    { (answer q r y s).oxl with a := s.oxl.a, b := s.oxl.b } = s.oxl := by
  cases q <;> cases hr : r.silent <;> simp [answer, linkOfPath, hr, State.modLink, State.setLink]

theorem answer_miso (q : Path) (r : MgmtReq) (y : Reply) (s : State) : (answer q r y s).spi.miso = s.spi.miso := by
  cases q <;> cases hr : r.silent <;> simp [answer, linkOfPath, hr]

/-- A state with what an answer may touch put back as in another: the SPI, the host links and the working values. -/
def State.besidesAnswer (t s : State) : State := { t with spi := s.spi, oxl := s.oxl, regs := s.regs }

/-- A request whose execution changes nothing is only answered (R335). -/
theorem onlyAnswered_answer (s : State) (q : Path) (r : MgmtReq) (y : Reply) :
    ((answer q r y (s.arrived q)).counted q).OnlyAnswered s := by
  refine ⟨?frame, ?miso, ?links, ?link, ?values⟩
  case frame =>
    calc ((answer q r y (s.arrived q)).counted q).besidesAnswer s
        = (answer q r y (s.arrived q)).besidesAnswer s := congrArg (·.besidesAnswer s) (State.counted_frame _ q)
      _ = (s.arrived q).besidesAnswer s := congrArg (·.besidesAnswer s) (answer_frame q r y _)
      _ = s := congrArg (·.besidesAnswer s) (s.arrived_frame q)
  case miso => cases q <;> simp [answer_miso, State.arrived, linkOfPath]
  case links => simpa using answer_oxl q r y (s.arrived q)
  case link =>
    intro l
    have h := answer_link q r y (s.arrived q) l
    cases l <;> simpa [State.link] using h
  case values =>
    intro code inst hi h1 h2 h3 h4 h5
    rw [counted_regWritten q _ hi h1 h2, answer_regWritten q r y _ hi (by cases q <;> assumption)]
    simp [State.regWritten]

/-! ## Requests served at once -/

theorem serve_eq_answer {r : MgmtReq} (q : Path) (s : State) (h : addressCode r.index r.sub ≠ Code.resetCmd) :
    serve q r s = answer q { r with silent := r.silent || linkGone q s (execute q r s).2 } (execute q r s).1
      (execute q r s).2 := by
  have hr : ∀ t, resetCommand q r (execute q r s).1 t = t := by
    intro t
    unfold resetCommand
    split <;> simp [h]
  exact hr _

/-- A request that its path serves at once executes where it has arrived, is answered, and its frame counts (R6, R350,
R355, R363). -/
theorem request_of_serves {s : State} {q : Path} {r : MgmtReq} (hs : s.Serves q)
    (h : addressCode r.index r.sub ≠ Code.resetCmd) : request q r s = (serve q r (s.arrived q)).counted q := by
  obtain ⟨-, hmc, hw, hb⟩ := hs
  cases q with
  | spi => simp [request, linkOfPath, admitRequest, State.arrived, State.counted, hb, hmc]
  | oxlA => simp [request, linkOfPath, admitRequest, requestResets, State.arrived, State.counted, hmc, hw, h]
  | oxlB => simp [request, linkOfPath, admitRequest, requestResets, State.arrived, State.counted, hmc, hw, h]

/-! ## WRITE requests -/

/-- A WRITE that passes checks 1 to 5 of R335 comes to its object. -/
theorem execute_writeReq {q : Path} {tid code value : Nat} {o : Obj} {s : State}
    (ho : s.checkObject (writeReq tid code value) = .ok o) (hc : addressCode (code / 256) (code % 256) = code) :
    execute q (writeReq tid code value) s = writeScalar q (writeReq tid code value) o code (s.instOf q o.scope) s := by
  simp only [writeReq] at ho
  simp [execute, writeReq, ho, hc]

theorem selectionBad_device {s : State} {q : Path} {o : Obj} {w : Bool} (h : o.scope = .device) :
    s.selectionBad q o w = none := by
  simp [State.selectionBad, h]

/-- The state behind a served WRITE, from the reply and the state that its execution gives; the links are as they were. -/
theorem run_writeRequest {s u : State} {q : Path} {tid code value : Nat} {y : Reply} (hs : s.Serves q)
    (hc : addressCode (code / 256) (code % 256) = code) (hne : code ≠ Code.resetCmd)
    (hx : execute q (writeReq tid code value) (s.arrived q) = (y, u)) (hl : u.oxl = s.oxl) :
    run (writeRequest q tid code value) s =
      .next (collect ((answer q (writeReq tid code value) y u).counted q)) := by
  have hr : addressCode (writeReq tid code value).index (writeReq tid code value).sub ≠ Code.resetCmd :=
    hc.trans_ne hne
  have hg : linkGone q (s.arrived q) u = false := by
    cases q <;> simp [linkGone, linkOfPath, State.link, hl]
  obtain ⟨hcore, -⟩ := hs.1
  rw [run_running _ hcore]
  show Host.Outcome.next (collect (request q (writeReq tid code value) s)) = _
  rw [request_of_serves hs hr, serve_eq_answer q _ hr, hx, hg]
  rfl

/-- A value that check 7 or 8 refuses changes nothing (R335, R359). -/
theorem writeScalar_refused {q : Path} {r : MgmtReq} {o : Obj} {code inst a : Nat} {s : State} {v : Int}
    (hsel : s.selectionBad q o true = none) (hv : decodeValue o.ty r.value = some v)
    (hr : s.writeRefusal o code inst v = some a) : writeScalar q r o code inst s = (.error a, s) := by
  simp [writeScalar, hsel, hv, hr]

/-- An LC_REQUEST is judged by R365. -/
theorem writeScalar_lcRequest {q : Path} {r : MgmtReq} {o : Obj} {inst : Nat} {s : State} {v : Int}
    (hsel : s.selectionBad q o true = none) (hv : decodeValue o.ty r.value = some v)
    (hr : s.writeRefusal o Code.lcRequest inst v = none) :
    writeScalar q r o Code.lcRequest inst s =
      if s.lcAccepts v.toNat then (.ok (addressBytes r.index r.sub 0), lcAdvance s)
      else (.error Abort.state, lcRefuse s) := by
  simp [writeScalar, hsel, hv, hr]

/-! ## FULL_TEST -/

/-- The row of FULL_TEST (R378). -/
def fullTestRow : Obj := ⟨Code.fullTest, .u8, .rwf, .device, 0, 1, 0⟩

theorem findObj_fullTest : findObj Code.fullTest = some fullTestRow := by decide +kernel

theorem checkObject_fullTest {s : State} (tid value : Nat) (h : s.lc = 1 ∨ s.lc = 3) :
    s.checkObject (writeReq tid Code.fullTest value) = .ok fullTestRow := by
  have hf : findObj (addressCode (Code.fullTest / 256) (Code.fullTest % 256)) = some fullTestRow := findObj_fullTest
  rcases h with h | h <;>
    simp [State.checkObject, writeReq, hf, fullTestRow, indexAvailable, opReads, opWrites, opDomain, opScalar, isDomain, h]

theorem writeRefusal_fullTest {s : State} (inst : Nat) (h : s.test.fullState = 1) :
    s.writeRefusal fullTestRow Code.fullTest inst 1 = some Abort.state := by
  have hc : s.commandRefused Code.fullTest inst 1 = true := by
    have hrow : rowCode Code.fullTest = Code.fullTest := rfl
    simp [State.commandRefused, hrow, h]
  simp [State.writeRefusal, fullTestRow, Obj.accepts, inSet, hc]

/-! ## LC_REQUEST -/

/-- The row of LC_REQUEST (R364). -/
def lcRequestRow : Obj := ⟨Code.lcRequest, .u64, .wo, .device, 0, 2 ^ 64 - 1, 0⟩

theorem findObj_lcRequest : findObj Code.lcRequest = some lcRequestRow := by decide +kernel

/-- LC_REQUEST can be written in every life-cycle state, BLANK too (R339). -/
theorem checkObject_lcRequest (s : State) (tid value : Nat) :
    s.checkObject (writeReq tid Code.lcRequest value) = .ok lcRequestRow := by
  have hf : findObj (addressCode (Code.lcRequest / 256) (Code.lcRequest % 256)) = some lcRequestRow := findObj_lcRequest
  have hi : 0x1000 ≤ Code.lcRequest / 256 ∧ Code.lcRequest / 256 ≤ 0x1FFF := by decide
  have ha : indexAvailable s.lc (Code.lcRequest / 256) = true := by simp only [indexAvailable, hi]; simp
  simp [State.checkObject, writeReq, hf, ha, lcRequestRow, opReads, opWrites, opDomain, opScalar, isDomain]

theorem decodeValue_u64 {value : Nat} (h : value < 2 ^ 64) : decodeValue .u64 value = some (value : Int) := by
  simp [decodeValue, isSigned, tyLow, tyHigh, tyBytes]
  omega

/-- No value of LC_REQUEST is refused by range, settings or state: R365 alone judges it. -/
theorem writeRefusal_lcRequest {value : Nat} (s : State) (inst : Nat) (h : value < 2 ^ 64) :
    s.writeRefusal lcRequestRow Code.lcRequest inst value = none := by
  have hset : inSet Code.lcRequest value = true := rfl
  have hcmd : s.commandRefused Code.lcRequest inst value = false := rfl
  have hle : (value : Int) ≤ 18446744073709551615 := by omega
  simp [State.writeRefusal, lcRequestRow, Obj.accepts, hset, hcmd, hle]

/-- What R365 asks of an LC_REQUEST. -/
theorem lcAccepts_iff {s : State} {value : Nat} (h : value < 2 ^ 64) :
    s.lcAccepts value = true ↔ value / 2 ^ 56 = s.lc + 1 ∧ s.lc < 3 ∧
      value % 2 ^ 32 = Config.lcCode (s.lc + 1) % 2 ^ 32 ∧ s.nvm.lcRefused < 3 := by
  have hbyte : value / 2 ^ 56 % 256 = value / 2 ^ 56 := by omega
  simp only [State.lcAccepts, hbyte, Bool.and_eq_true, decide_eq_true_eq, and_assoc]

/-- The execution of an LC_REQUEST: it is judged by R365 alone. -/
theorem execute_lcRequest {value : Nat} (q : Path) (tid : Nat) (s : State) (h : value < 2 ^ 64) :
    execute q (writeReq tid Code.lcRequest value) s =
      if s.lcAccepts value then (.ok (addressBytes (Code.lcRequest / 256) (Code.lcRequest % 256) 0), lcAdvance s)
      else (.error Abort.state, lcRefuse s) := by
  rw [execute_writeReq (checkObject_lcRequest s tid value) (by decide),
    writeScalar_lcRequest (selectionBad_device rfl) (decodeValue_u64 h) (writeRefusal_lcRequest s _ h)]
  rfl

/-! ## The end of every open transfer -/

/-- The early end of a load of firmware touches the firmware and raises source 39; nothing else changes (R367). -/
theorem loadEnds_frame (s : State) : { loadEnds s with fw := s.fw, faults := s.faults } = s := by
  unfold loadEnds
  split <;> rfl

/-- The end of a path's transfer touches the access paths, the firmware and the faults to be collected (R344). -/
theorem endTransfer_frame (q : Path) (s : State) :
    { endTransfer q s with mgmt := s.mgmt, fw := s.fw, faults := s.faults } = s := by
  unfold endTransfer
  split
  · rfl
  · dsimp only
    split
    · refine (congrArg (fun t : State => { t with mgmt := s.mgmt, fw := s.fw, faults := s.faults })
        (loadEnds_frame _)).trans ?_
      cases q <;> rfl
    · cases q <;> rfl

@[simp] theorem loadEnds_mgmt (s : State) : (loadEnds s).mgmt = s.mgmt := (congrArg State.mgmt (loadEnds_frame s) :)
@[simp] theorem endTransfer_nvm (q : Path) (s : State) : (endTransfer q s).nvm = s.nvm :=
  (congrArg State.nvm (endTransfer_frame q s) :)
@[simp] theorem endTransfer_spi (q : Path) (s : State) : (endTransfer q s).spi = s.spi :=
  (congrArg State.spi (endTransfer_frame q s) :)
@[simp] theorem endTransfer_oxl (q : Path) (s : State) : (endTransfer q s).oxl = s.oxl :=
  (congrArg State.oxl (endTransfer_frame q s) :)

/-- The path has no transfer behind its end; the other paths keep theirs (R344). -/
theorem endTransfer_xfer (q q' : Path) (s : State) :
    ((endTransfer q s).path q').xfer = if q' = q then none else (s.path q').xfer := by
  unfold endTransfer
  split
  · split <;> simp_all
  · dsimp only
    split
    · rw [path_congr (loadEnds_mgmt _)]
      cases q <;> cases q' <;> rfl
    · cases q <;> cases q' <;> rfl

/-- An accepted LC_REQUEST leaves no transfer open (R344). -/
theorem lcAdvance_xfer (q : Path) (s : State) : ((lcAdvance s).path q).xfer = none := by
  have h : (lcAdvance s).path q = (endTransfer .oxlB (endTransfer .oxlA (endTransfer .spi s))).path q :=
    path_congr rfl q
  rw [h, endTransfer_xfer, endTransfer_xfer, endTransfer_xfer]
  cases q <;> rfl

/-- An accepted LC_REQUEST has the erasure due where it enters DEPLOYED or RETURN; the refusals stay counted (R365, R450). -/
theorem lcAdvance_nvm (s : State) :
    (lcAdvance s).nvm = { s.nvm with erasure := s.nvm.erasure || decide (1 ≤ s.lc) } := by
  simp [lcAdvance]

@[simp] theorem lcAdvance_spi (s : State) : (lcAdvance s).spi = s.spi := by simp [lcAdvance]
@[simp] theorem lcAdvance_oxl (s : State) : (lcAdvance s).oxl = s.oxl := by simp [lcAdvance]

@[simp] theorem lcRefuse_mgmt (s : State) : (lcRefuse s).mgmt = s.mgmt := by simp [lcRefuse]
@[simp] theorem lcRefuse_spi (s : State) : (lcRefuse s).spi = s.spi := by simp [lcRefuse]
@[simp] theorem lcRefuse_oxl (s : State) : (lcRefuse s).oxl = s.oxl := by simp [lcRefuse]
@[simp] theorem lcRefuse_nvm (s : State) : (lcRefuse s).nvm = { s.nvm with lcRefused := s.nvm.lcRefused + 1 } := by
  simp [lcRefuse]

/-- A refused LC_REQUEST counts in LC_REFUSALS (R365). -/
theorem lcRefuse_lcRefusals (s : State) :
    (lcRefuse s).regWritten Code.lcRefusals 0 =
      some (min ((s.regN Code.lcRefusals 0 + 1 : Nat) : Int) (2 ^ 32 - 1)) :=
  State.regWritten_setReg ..

theorem regN_congr {s t : State} {code inst : Nat} (hr : t.regs = s.regs) (ht : t.time = s.time) :
    t.regN code inst = s.regN code inst := by
  have hp : ∀ c i, t.regPlain c i = s.regPlain c i := by simp [State.regPlain, State.regWritten, hr, ht]
  have hw : t.rollWindowsOk inst = s.rollWindowsOk inst := by unfold State.rollWindowsOk; rw [hp, hp]
  simp only [State.regN, State.reg, State.regWritten, hr, ht, hw]

/-- An SPI request that has arrived is not abandoned (R355). -/
theorem arrived_abandoned {q : Path} (s : State) (h : q = .spi) : (s.arrived q).spi.abandoned = false := by
  subst h; rfl

end Sys2Proof.Machine

namespace Sys2Proof.Proofs

open Machine

/-- Settles O31: FULL_TEST 1 is refused by the state check of R335 while the test runs, and a refused write is only
answered. -/
theorem fullTestIsNotRestarted : Obligations.FullTestIsNotRestarted := by
  unfold Obligations.FullTestIsNotRestarted
  intro q tid s hs hlc hfull
  obtain ⟨-, hdue, hnext, hacked⟩ := hs.1
  have hx : execute q (writeReq tid Code.fullTest 1) (s.arrived q) = (.error Abort.state, s.arrived q) := by
    rw [execute_writeReq (checkObject_fullTest tid 1 (by simpa using hlc)) (by decide)]
    exact writeScalar_refused (selectionBad_device rfl) (show decodeValue .u8 1 = some 1 by decide)
      (writeRefusal_fullTest _ (by simpa using hfull))
  refine ⟨_, run_writeRequest hs (by decide) (by decide) hx (by simp), ?_⟩
  rw [collect_nil (by simp [hdue]) (by simp [hnext]) (by simp [hacked])]
  exact ⟨onlyAnswered_answer s q _ _, by simp [hfull],
    holds_counted (answer_holds (.error Abort.state) rfl (arrived_abandoned s))⟩

/-- Settles O21: R365 alone judges an LC_REQUEST; the accepted one ends every transfer before the state moves, the refused
one only counts. -/
theorem lifeCycleRequests : Obligations.LifeCycleRequests := by
  unfold Obligations.LifeCycleRequests
  intro q tid value s hs hv
  have hx := execute_lcRequest q tid (s.arrived q) hv
  have hiff := lcAccepts_iff (s := s.arrived q) hv
  simp only [State.arrived_lc, State.arrived_nvm] at hiff
  by_cases hacc : (s.arrived q).lcAccepts value = true
  case pos =>
    rw [if_pos hacc] at hx
    refine ⟨_, run_writeRequest hs (by decide) (by decide) hx (by simp), fun _ => ?_,
      fun hno => absurd (hiff.mp hacc) hno⟩
    refine ⟨by simp, fun q' => ?xfer,
      holds_collect (holds_counted (answer_holds (.ok _) rfl (by simpa using arrived_abandoned s))), ?refused, ?erasure⟩
    case xfer =>
      rw [collect_path, path_congr (State.counted_mgmt _ _), path_congr (answer_mgmt ..), lcAdvance_xfer]
    case refused => simp [lcAdvance_nvm]
    case erasure => intro h; simp [lcAdvance_nvm, h]
  case neg =>
    rw [if_neg hacc] at hx
    refine ⟨_, run_writeRequest hs (by decide) (by decide) hx (by simp),
      fun hyes => absurd (hiff.mpr hyes) hacc, fun _ => ?_⟩
    refine ⟨by simp, fun q' => ?path, by simp, ?count,
      holds_collect (holds_counted (answer_holds (.error Abort.state) rfl (by simpa using arrived_abandoned s)))⟩
    case path => exact path_congr (by simp) q'
    case count =>
      apply reg_of_written
      rw [collect_regWritten (by decide) (by decide), counted_regWritten q _ (by decide) (by decide) (by decide),
        answer_regWritten q _ _ _ (by decide) (by cases q <;> decide), lcRefuse_lcRefusals,
        regN_congr (s := s) (by simp) (by simp)]

end Sys2Proof.Proofs

/-! The proofs from here on are elaborated one after the other, which bounds the memory that the whole text takes. -/

section

set_option Elab.async false

/-! PROOFS. What every command keeps: the shape of a command's answer, the life cycle and the queue, and the occurrences of a core
cycle. -/

namespace Sys2Proof.Machine

/-! ## What every command keeps -/

/-- A command answers a next state, and that state has a property. -/
def Answers (P : State → Prop) (o : Host.Outcome State Fault Refusal) : Prop := ∃ t, o = .next t ∧ P t

/-- A property of states that the collector's work at the end of a command cannot end. -/
structure Outlasts (P : State → Prop) : Prop where
  collected : ∀ t, P t → P (collect t)
  dropped : ∀ t, P t → P { t with faults := { t.faults with due := [] } }

theorem run_answers {P : State → Prop} (hP : Outlasts P) {f : State → State} {s : State} (h0 : P s) (h : P (f s)) :
    Answers P (run f s) := by
  unfold run
  split
  · exact ⟨s, rfl, h0⟩
  · exact ⟨_, rfl, hP.collected _ h⟩

theorem runAlways_answers {P : State → Prop} (hP : Outlasts P) {f : State → State} {s : State} (h : P (f s)) :
    Answers P (runAlways f s) := ⟨_, rfl, hP.collected _ h⟩

theorem runAon_answers {P : State → Prop} (hP : Outlasts P) {f : State → State} {s : State} (h0 : P s) (h : P (f s)) :
    Answers P (runAon f s) := by
  unfold runAon
  split
  · exact ⟨s, rfl, h0⟩
  · split
    · exact ⟨_, rfl, hP.dropped _ h⟩
    · exact ⟨_, rfl, hP.collected _ h⟩

theorem thermalSample_answers {P : State → Prop} (hP : Outlasts P) (ts : List Int) {s : State} (h0 : P s)
    (h : P (thermalSample ts s)) : Answers P (execThermalSample ts s) := by
  unfold execThermalSample
  split
  · exact ⟨_, rfl, h⟩
  · exact runAon_answers hP h0 h

theorem programEnds_answers {P : State → Prop} (hP : Outlasts P) (ok : Bool) {s : State} (h0 : P s)
    (hk : P (keptProgramEnds ok s)) (h : P (pageProgramComplete ok s)) : Answers P (execNvmPageProgramComplete ok s) := by
  unfold execNvmPageProgramComplete
  split
  · exact runAon_answers hP h0 hk
  · exact run_answers hP h0 h

theorem markerEnds_answers {P : State → Prop} (hP : Outlasts P) (ok : Bool) {s : State} (h0 : P s)
    (hk : P (keptMarkerEnds ok s)) (h : P (commitSetCurrent ok s)) : Answers P (execCommitSetCurrent ok s) := by
  unfold execCommitSetCurrent
  split
  · exact runAon_answers hP h0 hk
  · exact run_answers hP h0 h

theorem LcForward.outlasts (s : State) : Outlasts (LcForward s) where
  collected t h := h.trans (.of_fixed (by simp))
  dropped t h := h.trans (.of_fixed ⟨rfl, rfl⟩)

/-- Every command answers, keeps the queue and moves the life cycle forward only. The commands that carry a request come
first; of the others each effect leaves life-cycle state and queue alone. -/
theorem exec_forward (i : Instr) (s : State) : Answers (LcForward s) (exec i s) := by
  have hP := LcForward.outlasts s
  have h0 := LcForward.refl s
  cases i
  all_goals (unfold exec; dsimp only)
  case hostDataFrame l f => exact run_answers hP h0 (hostFrame_forward l f s)
  case frameError l e => exact run_answers hP h0 (frameError_forward l e s)
  case startup bad => exact run_answers hP h0 (startup_forward bad s)
  case mcResetEnd => exact run_answers hP h0 (mcResetEnd_forward s)
  case prbsGen | prbsCheck | prbsClear =>
    refine run_answers hP h0 ?_
    split
    · exact request_forward _ _ s
    · exact h0
  case engineTestComplete | engineFailing =>
    refine run_answers hP h0 ?_
    split
    · exact .of_fixed (by simp)
    · exact h0
  case pmbusRequestComplete | pmbusBusyPoll | pmbusRetry | pmbusPolling | thermalRestart =>
    exact runAon_answers hP h0 (.of_fixed (by simp))
  case powerOnReset | vddAonFall => exact runAlways_answers hP (.of_fixed (by simp))
  case thermalSample ts => exact thermalSample_answers hP ts h0 (.of_fixed (by simp))
  case nvmPageProgramComplete ok => exact programEnds_answers hP ok h0 (.of_fixed (by simp)) (.of_fixed (by simp))
  case commitSetCurrent ok => exact markerEnds_answers hP ok h0 (.of_fixed (by simp)) (.of_fixed (by simp))
  all_goals first
  | exact run_answers hP h0 (request_forward _ _ s)
  | exact run_answers hP h0 (spiTransaction_forward _ s)
  | exact run_answers hP h0 (.of_fixed (by simp))

/-! ## The occurrences of a core cycle -/

theorem run_due {s : State} (f : State → State) (h : s.faults.due = []) :
    Answers (fun t => t.faults.due = []) (run f s) := by
  unfold run
  split
  · exact ⟨s, rfl, h⟩
  · exact ⟨_, rfl, collect_due _⟩

theorem runAlways_due (f : State → State) (s : State) : Answers (fun t => t.faults.due = []) (runAlways f s) :=
  ⟨_, rfl, collect_due _⟩

theorem runAon_due {s : State} (f : State → State) (h : s.faults.due = []) :
    Answers (fun t => t.faults.due = []) (runAon f s) := by
  unfold runAon
  split
  · exact ⟨s, rfl, h⟩
  · split
    · exact ⟨_, rfl, rfl⟩
    · exact ⟨_, rfl, collect_due _⟩

/-- A state but for its readings of heat. -/
def State.besidesHeat (t s : State) : State := { t with heat := s.heat }

theorem besidesHeat_iff {t s : State} : t.besidesHeat s = s ↔ ∃ h, t = { s with heat := h } := by
  constructor
  · intro e
    exact ⟨t.heat, (congrArg (fun u : State => { u with heat := t.heat }) e :)⟩
  · rintro ⟨h, rfl⟩
    rfl

theorem forAll_besidesHeat {α : Type} (xs : List α) (f : α → State → State) (s : State)
    (h : ∀ x t, (f x t).besidesHeat s = t.besidesHeat s) (t : State) :
    (forAll xs f t).besidesHeat s = t.besidesHeat s := by
  induction xs generalizing t with
  | nil => rfl
  | cons x xs ih =>
    rw [forAll, List.foldl_cons]
    exact (ih (f x t)).trans (h x t)

theorem setSensor_besidesHeat (n : Nat) (x : SensorSt) (s t : State) :
    (t.setSensor n x).besidesHeat s = t.besidesHeat s := rfl

theorem coldSample_besidesHeat (s t : State) : (coldSample t).besidesHeat s = t.besidesHeat s := by
  unfold coldSample
  rfl

theorem takeReadings_besidesHeat (n : Nat) (ts : List Int) (s t : State) :
    (takeReadings n ts t).besidesHeat s = t.besidesHeat s := by
  induction ts generalizing n t with
  | nil => rfl
  | cons _ _ ih =>
    rw [takeReadings, ih, takeReading, setSensor_besidesHeat]

theorem sampled_besidesHeat (ts : List Int) (s : State) : (sampled ts s).besidesHeat s = s := by
  unfold sampled
  extract_lets s1
  rw [forAll_besidesHeat _ _ s (fun _ _ => setSensor_besidesHeat _ _ s _)]
  exact takeReadings_besidesHeat 0 _ s s

/-- In Fatal a sample leaves its readings with the comparators and changes nothing else (R416). -/
theorem thermalSample_fatal {s : State} (ts : List Int) (h : s.faults.fatal = true) :
    thermalSample ts s = coldSample (sampled ts s) := by
  simp [thermalSample, h]

theorem thermalSample_fatal_besidesHeat {s : State} (ts : List Int) (h : s.faults.fatal = true) :
    (thermalSample ts s).besidesHeat s = s := by
  rw [thermalSample_fatal ts h, coldSample_besidesHeat, sampled_besidesHeat]

/-- The occurrences of a core cycle are collected in it, whichever command it runs (R404). -/
theorem exec_due (i : Instr) {s : State} (h : s.faults.due = []) : Answers (fun t => t.faults.due = []) (exec i s) := by
  cases i
  all_goals (unfold exec; dsimp only)
  case pmbusRequestComplete | pmbusBusyPoll | pmbusRetry | pmbusPolling | thermalRestart => exact runAon_due _ h
  case powerOnReset | vddAonFall => exact runAlways_due _ s
  case thermalSample ts =>
    unfold execThermalSample
    split
    case isTrue hf =>
      obtain ⟨x, hx⟩ := besidesHeat_iff.mp (thermalSample_fatal_besidesHeat ts hf)
      exact ⟨_, rfl, by rw [hx]; exact h⟩
    case isFalse => exact runAon_due _ h
  case nvmPageProgramComplete ok =>
    unfold execNvmPageProgramComplete
    split
    · exact runAon_due _ h
    · exact run_due _ h
  case commitSetCurrent ok =>
    unfold execCommitSetCurrent
    split
    · exact runAon_due _ h
    · exact run_due _ h
  all_goals exact run_due _ h

end Sys2Proof.Machine

/-! PROOFS. What a request keeps of TIME64, RESET_CAUSE and the committed sets. -/

namespace Sys2Proof.Machine

/-! ## What a request keeps -/

/-- What neither an access path, nor an answer, nor a counter changes, a request changes only by its execution and the reset that
it may start (R350, R355, R363). -/
theorem request_keeps {β : Type} (g : State → β) (hspi : ∀ s x, g { s with spi := x } = g s)
    (hmgmt : ∀ s x, g { s with mgmt := x } = g s) (hbump : ∀ s code inst, g (State.bump s code inst) = g s)
    (hans : ∀ q r y s, g (answer q r y s) = g s) {q : Path} {r : MgmtReq} (hserve : ∀ s, g (serve q r s) = g s)
    (s : State) : g (request q r s) = g s := by
  have hadmit : ∀ s, g (admitRequest q r s) = g s := by
    intro s
    unfold admitRequest
    split
    · exact hmgmt _ _
    · exact hserve s
  have harrive : ∀ (c : Prop) [Decidable c] y s, g (if c then answer q r y s else admitRequest q r s) = g s := by
    intro c _ y s
    split
    · exact hans ..
    · exact hadmit s
  unfold request
  split
  · split
    · exact (hbump _ _ _).trans (hspi _ _)
    · exact (hadmit _).trans (hspi _ _)
  · dsimp only
    split
    · exact harrive _ _ s
    · exact (hbump _ _ _).trans (harrive _ _ s)

/-- A request that may write an object: a WRITE of it that is whole (R331). -/
def MayWrite (r : MgmtReq) (code : Nat) : Prop :=
  r.op = 2 ∧ addressCode r.index r.sub = code ∧ r.lengthOk = true

/-- A request that is no write of RESET_CMD resets nothing (R363). -/
theorem resetCommand_calm {r : MgmtReq} (h : ¬ MayWrite r Code.resetCmd) (q : Path) (s t : State) :
    resetCommand q r (execute q r s).1 t = t := by
  unfold resetCommand
  split
  · rfl
  next tail hy =>
    refine if_neg fun hc => h ⟨hc.1, hc.2, ?_⟩
    cases hl : r.lengthOk with
    | true => rfl
    | false => simp [execute, hc.1, hl] at hy

theorem writeScalar_number (q : Path) (r : MgmtReq) (o : Obj) (code inst : Nat) (s : State) :
    (writeScalar q r o code inst s).2.time.time64 = s.time.time64 ∧
      (writeScalar q r o code inst s).2.resetCause = s.resetCause := by
  unfold writeScalar
  (repeat' split) <;> simp

/-- A request's execution renumbers nothing and names no reset; a reset follows its answer (R61, R363, R445). -/
theorem execute_number (q : Path) (r : MgmtReq) (s : State) :
    (execute q r s).2.time.time64 = s.time.time64 ∧ (execute q r s).2.resetCause = s.resetCause := by
  unfold execute
  dsimp only
  (repeat' split) <;> first
  | exact writeScalar_number _ _ _ _ _ _
  | simp

theorem serve_number {r : MgmtReq} (h : ¬ MayWrite r Code.resetCmd) (q : Path) (s : State) :
    (serve q r s).time.time64 = s.time.time64 ∧ (serve q r s).resetCause = s.resetCause := by
  unfold serve
  dsimp only
  rw [resetCommand_calm h]
  simp [execute_number]

theorem request_number {r : MgmtReq} (h : ¬ MayWrite r Code.resetCmd) (q : Path) (s : State) :
    (request q r s).time.time64 = s.time.time64 ∧ (request q r s).resetCause = s.resetCause :=
  ⟨request_keeps (fun t => t.time.time64) (fun _ _ => rfl) (fun _ _ => rfl) (by simp) (by simp)
      (fun t => (serve_number h q t).1) s,
    request_keeps (fun t => t.resetCause) (fun _ _ => rfl) (fun _ _ => rfl) (by simp) (by simp)
      (fun t => (serve_number h q t).2) s⟩

/-- A reset of the controller leaves TIME64 (R445, R448). -/
theorem request_t64_of_controller {r : MgmtReq} (h : r.value = 1) (q : Path) (s : State) :
    (request q r s).time.time64 = s.time.time64 := by
  refine request_keeps (fun t => t.time.time64) (fun _ _ => rfl) (fun _ _ => rfl) (by simp) (by simp) (fun t => ?_) s
  have hr : ∀ y u, (resetCommand q r y u).time.time64 = u.time.time64 := by
    intro y u
    unfold resetCommand
    split
    · rfl
    · rw [if_pos h]
      split <;> rfl
  simp [serve, hr, execute_number]

/-! ## The committed sets under a request -/

theorem deviceCommand_sets {code : Nat} (h : code ≠ Code.commit) (rc : Nat) (v : Int) (s : State) :
    (deviceCommand code rc v s).nvm.slotA = s.nvm.slotA ∧ (deviceCommand code rc v s).nvm.slotB = s.nvm.slotB := by
  rw [deviceCommand, if_neg h]
  simp

theorem hostWrite_sets {code : Nat} (h : code ≠ Code.commit) (q : Path) (o : Obj) (inst : Nat) (v : Int) (master : Nat)
    (s : State) : (hostWrite q o code inst v master s).nvm.slotA = s.nvm.slotA ∧
      (hostWrite q o code inst v master s).nvm.slotB = s.nvm.slotB := by
  unfold hostWrite
  dsimp only
  (repeat' split) <;> simp [deviceCommand_sets h]

theorem writeScalar_sets {code : Nat} (h : code ≠ Code.commit) (q : Path) (r : MgmtReq) (o : Obj) (inst : Nat) (s : State) :
    (writeScalar q r o code inst s).2.nvm.slotA = s.nvm.slotA ∧
      (writeScalar q r o code inst s).2.nvm.slotB = s.nvm.slotB := by
  unfold writeScalar
  (repeat' split) <;> simp [hostWrite_sets h]

theorem execute_sets {r : MgmtReq} (h : ¬ MayWrite r Code.commit) (q : Path) (s : State) :
    (execute q r s).2.nvm.slotA = s.nvm.slotA ∧ (execute q r s).2.nvm.slotB = s.nvm.slotB := by
  unfold execute
  dsimp only
  (repeat' split) <;> first
  | (simp; done)
  | exact writeScalar_sets (fun hc => h ⟨by assumption, hc, by simpa using ‹¬ (!r.lengthOk) = true›⟩) _ _ _ _ _

theorem request_sets {r : MgmtReq} (h : ¬ MayWrite r Code.commit) (q : Path) (s : State) :
    (request q r s).nvm.slotA = s.nvm.slotA ∧ (request q r s).nvm.slotB = s.nvm.slotB :=
  ⟨request_keeps (fun t => t.nvm.slotA) (fun _ _ => rfl) (fun _ _ => rfl) (by simp) (by simp)
      (fun t => by simp [serve, execute_sets h]) s,
    request_keeps (fun t => t.nvm.slotB) (fun _ _ => rfl) (fun _ _ => rfl) (by simp) (by simp)
      (fun t => by simp [serve, execute_sets h]) s⟩

/-! ## The SPI transactions that carry no message -/

/-- Bytes of zero are no accepted SEND (R355). -/
theorem sendMessage_zeros (n : Nat) : sendMessage (List.replicate n 0#8) = none := by
  have hz : beVal (List.take 2 (List.replicate n 0#8)) = 0 := by
    rw [List.take_replicate]
    generalize min 2 n = k
    induction k with
    | zero => rfl
    | succ k ih => simpa [beVal, List.replicate_succ] using ih
  unfold sendMessage
  simp only [hz]
  simp

/-- A transaction of a command byte and zeros carries no request: TIME64, RESET_CAUSE and the sets stay (R353, R356). -/
theorem spiTransaction_zeros (c : Byte) (n : Nat) (s : State) :
    (spiTransaction (c :: List.replicate n 0#8) s).time.time64 = s.time.time64 ∧
      (spiTransaction (c :: List.replicate n 0#8) s).resetCause = s.resetCause ∧
      (spiTransaction (c :: List.replicate n 0#8) s).nvm.slotA = s.nvm.slotA ∧
      (spiTransaction (c :: List.replicate n 0#8) s).nvm.slotB = s.nvm.slotB := by
  unfold spiTransaction
  dsimp only
  (repeat' split) <;> simp [spiSend, sendMessage_zeros]

/-! ## The address of a request -/

theorem addressCode_split {code : Nat} (h : code < 2 ^ 24) : addressCode (code / 256) (code % 256) = code := by
  unfold addressCode
  omega

/-- A WRITE to another object starts no reset (R363). -/
theorem writeRequest_number {code : Nat} (hc : code < 2 ^ 24) (hn : code ≠ Code.resetCmd) (q : Path) (tid value : Nat)
    (s : State) : (writeRequest q tid code value s).time.time64 = s.time.time64 ∧
      (writeRequest q tid code value s).resetCause = s.resetCause := by
  refine request_number ?_ q s
  rintro ⟨-, h, -⟩
  exact hn ((addressCode_split hc).symm.trans h)

/-- A WRITE to another object starts no commit (R346). -/
theorem writeRequest_sets {code : Nat} (hc : code < 2 ^ 24) (hn : code ≠ Code.commit) (q : Path) (tid value : Nat)
    (s : State) : (writeRequest q tid code value s).nvm.slotA = s.nvm.slotA ∧
      (writeRequest q tid code value s).nvm.slotB = s.nvm.slotB := by
  refine request_sets ?_ q s
  rintro ⟨-, h, -⟩
  exact hn ((addressCode_split hc).symm.trans h)

theorem laneCode_lt {l : Link} {lane code : Nat} (hl : lane < 2) (hc : code < 2 ^ 24 - 2 ^ 17) :
    laneCode l lane code < 2 ^ 24 := by
  cases l <;> simp only [laneCode, linkCode] <;> omega

theorem laneCode_ne {l : Link} {lane code c : Nat} (hc : c < code) : laneCode l lane code ≠ c := by
  cases l <;> simp only [laneCode, linkCode] <;> omega

theorem linkCode_lt {l : Link} {code : Nat} (hc : code < 2 ^ 24 - 2 ^ 17) : linkCode l code < 2 ^ 24 := by
  cases l <;> simp only [linkCode] <;> omega

theorem linkCode_ne {l : Link} {code c : Nat} (hc : c < code) : linkCode l code ≠ c := by
  cases l <;> simp only [linkCode] <;> omega

end Sys2Proof.Machine

namespace Sys2Proof.Machine

/-! ## TIME64 and RESET_CAUSE where a command resets the controller or carries time on -/

@[simp] theorem controllerResets_t64 (cause : Nat) (s : State) :
    (controllerResets cause s).time.time64 = s.time.time64 := rfl

/-- A reset of the controller that names the cause in force leaves RESET_CAUSE (R445). -/
theorem controllerResets_cause {cause : Nat} {s : State} (h : cause = s.resetCause) :
    (controllerResets cause s).resetCause = s.resetCause := by
  subst h
  simp [controllerResets, State.firstCause]

@[simp] theorem beginMoves_number (have_ : List Nat) (back : Bool) (s : State) :
    (beginMoves have_ back s).time = s.time ∧ (beginMoves have_ back s).resetCause = s.resetCause := by
  simp [beginMoves]

@[simp] theorem barBank_number (s : State) :
    (barBank s).1.time.time64 = s.time.time64 ∧ (barBank s).1.resetCause = s.resetCause := by
  simp [barBank]

@[simp] theorem fwUpdateSwitched_number (s : State) :
    (fwUpdateSwitched s).time.time64 = s.time.time64 ∧ (fwUpdateSwitched s).resetCause = s.resetCause := by
  unfold fwUpdateSwitched
  dsimp only
  split
  · split
    · simp
    · exact ⟨by simp, (controllerResets_cause (by simp)).trans (by simp)⟩
  · simp

@[simp] theorem watchdogExpiry_t64 (s : State) : (watchdogExpiry s).time.time64 = s.time.time64 := by
  unfold watchdogExpiry
  dsimp only
  (repeat' split) <;> simp [moveBack]

@[simp] theorem advanceTo_cause (t : Nat) (s : State) : (advanceTo t s).resetCause = s.resetCause := by
  unfold advanceTo
  split <;> rfl

@[simp] theorem startGrid_cause (t : Nat) (late : Int) (s : State) : (startGrid t late s).resetCause = s.resetCause := rfl

@[simp] theorem renumber_cause (old new : Nat) (s : State) : (renumber old new s).resetCause = s.resetCause := rfl

@[simp] theorem startTimeout_cause (s : State) : (startTimeout s).resetCause = s.resetCause := by
  unfold startTimeout
  split <;> simp

@[simp] theorem acceptedEdge_cause (edge : Int) (s : State) : (acceptedEdge edge s).resetCause = s.resetCause := by
  unfold acceptedEdge
  dsimp only
  (repeat' split) <;> simp

@[simp] theorem ppsEdge_cause (since : Nat) (edge : Int) (s : State) : (ppsEdge since edge s).resetCause = s.resetCause := by
  unfold ppsEdge
  dsimp only
  (repeat' split) <;> simp

@[simp] theorem realignGridStart_cause (old : Nat) (ns : Int) (s : State) :
    (realignGridStart old ns s).resetCause = s.resetCause := by
  unfold realignGridStart
  dsimp only
  split <;> simp

@[simp] theorem epochApplies_cause (s : State) : (epochApplies s).resetCause = s.resetCause := by
  have happly : (epochApply s).resetCause = s.resetCause := by
    unfold epochApply
    dsimp only
    split <;> simp
  unfold epochApplies
  dsimp only
  split
  · rfl
  · rw [forAll_cause _ _ (fun p u => by (repeat' split) <;> simp), happly]

@[simp] theorem datum_cause (xo : Int) (s : State) : (datum xo s).resetCause = s.resetCause := by
  unfold datum
  dsimp only
  split <;> simp

@[simp] theorem cycleStart_cause (es : List Echo) (s : State) : (cycleStart es s).resetCause = s.resetCause := by
  unfold cycleStart
  dsimp only
  (repeat' split) <;> simp

end Sys2Proof.Machine

/-! PROOFS. What every command keeps of the committed set, the slots, TIME64 and RESET_CAUSE. -/

namespace Sys2Proof.Machine

theorem currentSet_outlasts (s : State) : Outlasts (fun t => t.currentSet = s.currentSet) where
  collected _ h := (currentSet_of_slots (by simp)).trans h
  dropped _ h := h

/-- Two states hold the same sets in the slots (R452). -/
def SameSlots (s t : State) : Prop := t.nvm.slotA = s.nvm.slotA ∧ t.nvm.slotB = s.nvm.slotB

theorem SameSlots.outlasts (s : State) : Outlasts (SameSlots s) where
  collected _ h := by simpa [SameSlots] using h
  dropped _ h := h

theorem SameSlots.refl (s : State) : SameSlots s s := ⟨rfl, rfl⟩

/-- What a command leaves of the time base's number (R61). -/
def SameT64 (s t : State) : Prop := t.time.time64 = s.time.time64

theorem SameT64.outlasts (s : State) : Outlasts (SameT64 s) where
  collected _ h := by simpa [SameT64] using h
  dropped _ h := h

/-- What a command leaves of RESET_CAUSE (R445). -/
def SameCause (s t : State) : Prop := t.resetCause = s.resetCause

theorem SameCause.outlasts (s : State) : Outlasts (SameCause s) where
  collected _ h := by simpa [SameCause] using h
  dropped _ h := h

/-- The committed set stands at every command but the end of a commit, the erasure of R450 and STARTUP (R346, R450, R452). -/
theorem exec_currentSet (i : Instr) (s : State) (h1 : ∀ ok, i ≠ .commitSetCurrent ok) (h2 : i ≠ .lcEntryErasure)
    (h3 : ∀ bad, i ≠ .startup bad) : Answers (fun t => t.currentSet = s.currentSet) (exec i s) := by
  have hP := currentSet_outlasts s
  have of_sets : ∀ {t : State}, SameSlots s t → t.currentSet = s.currentSet := currentSet_of_slots
  cases i
  all_goals (unfold exec; dsimp only)
  case commitSetCurrent ok => exact absurd rfl (h1 ok)
  case lcEntryErasure => exact absurd rfl h2
  case startup bad => exact absurd rfl (h3 bad)
  case hostDataFrame l f => exact run_answers hP rfl (hostFrame_current l f s)
  case frameError l e => exact run_answers hP rfl (frameError_current l e s)
  case mcResetEnd => exact run_answers hP rfl (mcResetEnd_current s)
  case prbsGen | prbsCheck | prbsClear =>
    refine run_answers hP rfl ?_
    split
    · exact request_current _ _ s
    · rfl
  case engineTestComplete | engineFailing =>
    refine run_answers hP rfl ?_
    split
    · exact of_sets (by simp [SameSlots])
    · rfl
  case pmbusRequestComplete | pmbusBusyPoll | pmbusRetry | pmbusPolling | thermalRestart =>
    exact runAon_answers hP rfl (of_sets (by simp [SameSlots]))
  case powerOnReset | vddAonFall => exact runAlways_answers hP (of_sets (by simp [SameSlots]))
  case thermalSample ts => exact thermalSample_answers hP ts rfl (of_sets (by simp [SameSlots]))
  case nvmPageProgramComplete ok =>
    exact programEnds_answers hP ok rfl (of_sets (by simp [SameSlots])) (pageProgramComplete_current ok s)
  all_goals first
  | exact run_answers hP rfl (request_current _ _ s)
  | exact run_answers hP rfl (spiTransaction_current _ s)
  | exact run_answers hP rfl (of_sets (by simp [SameSlots]))

/-- The slots stand at every command that neither starts, runs nor ends a commit, erases nor reads them at start-up (R452). -/
theorem exec_slots (i : Instr) (s : State) (h1 : ∀ ok, i ≠ .commitSetCurrent ok) (h2 : i ≠ .lcEntryErasure)
    (h3 : ∀ bad, i ≠ .startup bad) (h4 : carriesAnyWrite i = false) (h5 : ∀ q tid v, i ≠ .commit q tid v)
    (h6 : ∀ ok, i ≠ .nvmPageProgramComplete ok) : Answers (SameSlots s) (exec i s) := by
  have hP := SameSlots.outlasts s
  have h0 := SameSlots.refl s
  cases i
  all_goals (unfold exec; dsimp only)
  case commitSetCurrent ok => exact absurd rfl (h1 ok)
  case lcEntryErasure => exact absurd rfl h2
  case startup bad => exact absurd rfl (h3 bad)
  case write | clearCounter | spiSend | mcResetEnd | hostDataFrame | frameError => exact absurd h4 (by simp [carriesAnyWrite])
  case commit q tid v => exact absurd rfl (h5 q tid v)
  case nvmPageProgramComplete ok => exact absurd rfl (h6 ok)
  case prbsGen q tid l n v | prbsCheck q tid l n v | prbsClear q tid l n v =>
    refine run_answers hP h0 ?_
    split
    case isTrue hn =>
      exact writeRequest_sets (laneCode_lt hn (by decide)) (laneCode_ne (by decide)) q tid v s
    case isFalse => exact h0
  case oxlRetrain q tid l v | linkEnable q tid l v =>
    exact run_answers hP h0 (writeRequest_sets (linkCode_lt (by decide)) (linkCode_ne (by decide)) q tid v s)
  case opUnknown q tid op x u =>
    exact run_answers hP h0 (request_sets (by simp [MayWrite]; omega) q s)
  case engineTestComplete | engineFailing =>
    refine run_answers hP h0 ?_
    split
    · simp [SameSlots]
    · exact h0
  case pmbusRequestComplete | pmbusBusyPoll | pmbusRetry | pmbusPolling | thermalRestart =>
    exact runAon_answers hP h0 (by simp [SameSlots])
  case powerOnReset | vddAonFall => exact runAlways_answers hP (by simp [SameSlots])
  case thermalSample ts => exact thermalSample_answers hP ts h0 (by simp [SameSlots])
  case spiStatus n | spiFetch n | spiAbandon n => exact run_answers hP h0 (spiTransaction_zeros _ n s).2.2
  case spiUnknownCommand c n => exact run_answers hP h0 (spiTransaction_zeros c n s).2.2
  case nop q _ | read q _ _ _ | domainReadInit q _ _ _ | domainWriteInit q _ _ _ _ | segmentRead q _ _ _ _ _ |
      segmentWrite q _ _ _ _ _ _ | describe q _ _ _ | domainEnd q _ _ _ =>
    exact run_answers hP h0 (request_sets (by simp [MayWrite]) q s)
  all_goals first
  | exact run_answers hP h0 (writeRequest_sets (by decide) (by decide) _ _ _ s)
  | exact run_answers hP h0 (by simp [SameSlots])

/-- TIME64 stands at every command but the events of the time base, the resets and what may carry one (R61). -/
theorem exec_t64 (i : Instr) (s : State) (h1 : carriesTime i = false) (h2 : resetsDevice i = false)
    (h3 : carriesAnyWrite i = false) : Answers (SameT64 s) (exec i s) := by
  have hP := SameT64.outlasts s
  have h0 : SameT64 s s := rfl
  cases i
  all_goals (unfold exec; dsimp only)
  case ref1ppsEdge | startTimeout | epochApply | realignGridStart | datum | cycleStart =>
    exact absurd h1 (by simp [carriesTime])
  case powerOnReset | vddAonFall | resetN | pmbusRequestComplete | resetCmdDevice => exact absurd h2 (by simp [resetsDevice])
  case write | clearCounter | spiSend | mcResetEnd | startup | hostDataFrame | frameError =>
    exact absurd h3 (by simp [carriesAnyWrite])
  case resetCmdController q tid => exact run_answers hP h0 (request_t64_of_controller rfl q s)
  case prbsGen q tid l n v | prbsCheck q tid l n v | prbsClear q tid l n v =>
    refine run_answers hP h0 ?_
    split
    case isTrue hn => exact (writeRequest_number (laneCode_lt hn (by decide)) (laneCode_ne (by decide)) q tid v s).1
    case isFalse => exact h0
  case oxlRetrain q tid l v | linkEnable q tid l v =>
    exact run_answers hP h0 (writeRequest_number (linkCode_lt (by decide)) (linkCode_ne (by decide)) q tid v s).1
  case opUnknown q tid op x u =>
    exact run_answers hP h0 (request_number (by simp [MayWrite]; omega) q s).1
  case engineTestComplete | engineFailing =>
    refine run_answers hP h0 ?_
    split
    · simp [SameT64]
    · exact h0
  case pmbusBusyPoll | pmbusRetry | pmbusPolling | thermalRestart => exact runAon_answers hP h0 (by simp [SameT64])
  case thermalSample ts => exact thermalSample_answers hP ts h0 (by simp [SameT64])
  case nvmPageProgramComplete ok => exact programEnds_answers hP ok h0 (by simp [SameT64]) (by simp [SameT64])
  case commitSetCurrent ok => exact markerEnds_answers hP ok h0 (by simp [SameT64]) (by simp [SameT64])
  case spiStatus n | spiFetch n | spiAbandon n => exact run_answers hP h0 (spiTransaction_zeros _ n s).1
  case spiUnknownCommand c n => exact run_answers hP h0 (spiTransaction_zeros c n s).1
  case nop q _ | read q _ _ _ | domainReadInit q _ _ _ | domainWriteInit q _ _ _ _ | segmentRead q _ _ _ _ _ |
      segmentWrite q _ _ _ _ _ _ | describe q _ _ _ | domainEnd q _ _ _ =>
    exact run_answers hP h0 (request_number (by simp [MayWrite]) q s).1
  all_goals first
  | exact run_answers hP h0 (writeRequest_number (by decide) (by decide) _ _ _ s).1
  | exact run_answers hP h0 (by simp [SameT64])

/-- RESET_CAUSE stands at every command but the resets and what may carry one (R445). -/
theorem exec_cause (i : Instr) (s : State) (h1 : resetsDevice i = false) (h2 : carriesAnyWrite i = false)
    (h3 : i ≠ .watchdogExpiry) (h4 : ∀ q tid, i ≠ .resetCmdController q tid) : Answers (SameCause s) (exec i s) := by
  have hP := SameCause.outlasts s
  have h0 : SameCause s s := rfl
  cases i
  all_goals (unfold exec; dsimp only)
  case powerOnReset | vddAonFall | resetN | pmbusRequestComplete | resetCmdDevice => exact absurd h1 (by simp [resetsDevice])
  case write | clearCounter | spiSend | mcResetEnd | startup | hostDataFrame | frameError =>
    exact absurd h2 (by simp [carriesAnyWrite])
  case watchdogExpiry => exact absurd rfl h3
  case resetCmdController q tid => exact absurd rfl (h4 q tid)
  case prbsGen q tid l n v | prbsCheck q tid l n v | prbsClear q tid l n v =>
    refine run_answers hP h0 ?_
    split
    case isTrue hn => exact (writeRequest_number (laneCode_lt hn (by decide)) (laneCode_ne (by decide)) q tid v s).2
    case isFalse => exact h0
  case oxlRetrain q tid l v | linkEnable q tid l v =>
    exact run_answers hP h0 (writeRequest_number (linkCode_lt (by decide)) (linkCode_ne (by decide)) q tid v s).2
  case opUnknown q tid op x u =>
    exact run_answers hP h0 (request_number (by simp [MayWrite]; omega) q s).2
  case engineTestComplete | engineFailing =>
    refine run_answers hP h0 ?_
    split
    · simp [SameCause]
    · exact h0
  case pmbusBusyPoll | pmbusRetry | pmbusPolling | thermalRestart => exact runAon_answers hP h0 (by simp [SameCause])
  case thermalSample ts => exact thermalSample_answers hP ts h0 (by simp [SameCause])
  case nvmPageProgramComplete ok => exact programEnds_answers hP ok h0 (by simp [SameCause]) (by simp [SameCause])
  case commitSetCurrent ok => exact markerEnds_answers hP ok h0 (by simp [SameCause]) (by simp [SameCause])
  case spiStatus n | spiFetch n | spiAbandon n => exact run_answers hP h0 (spiTransaction_zeros _ n s).2.1
  case spiUnknownCommand c n => exact run_answers hP h0 (spiTransaction_zeros c n s).2.1
  case nop q _ | read q _ _ _ | domainReadInit q _ _ _ | domainWriteInit q _ _ _ _ | segmentRead q _ _ _ _ _ |
      segmentWrite q _ _ _ _ _ _ | describe q _ _ _ | domainEnd q _ _ _ =>
    exact run_answers hP h0 (request_number (by simp [MayWrite]) q s).2
  all_goals first
  | exact run_answers hP h0 (writeRequest_number (by decide) (by decide) _ _ _ s).2
  | exact run_answers hP h0 (by simp [SameCause])

end Sys2Proof.Machine

/-! PROOFS. The statements about the machine as a whole. -/

namespace Sys2Proof.Machine

/-- What every command keeps of a state that it answers, it keeps of the next state that it gives. -/
theorem Answers.next {P : State → Prop} {o : Host.Outcome State Fault Refusal} {t : State} (h : Answers P o)
    (ho : o = .next t) : P t := by
  obtain ⟨u, hu, hp⟩ := h
  obtain rfl : u = t := by simpa [hu] using ho
  exact hp

theorem tickPass_due (s : State) : (tickPass s).faults.due = s.faults.due := by
  unfold tickPass
  dsimp only
  (repeat' split) <;> rfl

theorem step_cons {c : Instr} {rest : List Instr} {s : State} (h : s.pending = c :: rest) :
    step s = exec c { s with pending := rest } := by
  simp [step, h]

theorem step_nil {s : State} (h : s.pending = []) : step s = .next (tickPass s) := by
  simp [step, h]

/-- A step moves the life cycle forward, and not beyond RETURN (R365). -/
theorem step_lc {s t : State} (h : step s = .next t) : s.lc ≤ t.lc ∧ (s.lc ≤ 3 → t.lc ≤ 3) := by
  cases hp : s.pending with
  | nil =>
    rw [step_nil hp] at h
    cases h
    simp
  | cons c rest =>
    rw [step_cons hp] at h
    exact ((exec_forward c _).next h).2

theorem coreStopped_of_fatal {s : State} (h : s.faults.fatal = true) : s.coreStopped = true := by
  simp [State.coreStopped, h]

theorem run_fatal (f : State → State) {s : State} (h : s.faults.fatal = true) : run f s = .next s := by
  simp [run, coreStopped_of_fatal h]

theorem runAon_fatal (f : State → State) {s : State} (h : s.faults.fatal = true) : runAon f s = .next s := by
  simp [runAon, h]

/-- In Fatal every command but the resets by power and a thermal sample leaves the state as it is (R416, R417). -/
theorem exec_fatal (i : Instr) {s : State} (h : s.faults.fatal = true) (h1 : i ≠ .powerOnReset) (h2 : i ≠ .vddAonFall)
    (h3 : ∀ ts, i ≠ .thermalSample ts) : exec i s = .next s := by
  cases i
  all_goals (unfold exec; dsimp only)
  case powerOnReset => exact absurd rfl h1
  case vddAonFall => exact absurd rfl h2
  case thermalSample ts => exact absurd rfl (h3 ts)
  case pmbusRequestComplete | pmbusBusyPoll | pmbusRetry | pmbusPolling | thermalRestart => exact runAon_fatal _ h
  case nvmPageProgramComplete ok =>
    unfold execNvmPageProgramComplete
    split
    · exact runAon_fatal _ h
    · exact run_fatal _ h
  case commitSetCurrent ok =>
    unfold execCommitSetCurrent
    split
    · exact runAon_fatal _ h
    · exact run_fatal _ h
  all_goals exact run_fatal _ h

/-! ## The readings of a thermal sample -/

theorem sensor_setSensor_ne {n k : Nat} (x : SensorSt) (h : k ≠ n) (s : State) :
    (s.setSensor n x).sensor k = s.sensor k := Tab.get_put_ne _ _ _ h

theorem sensor_takeReadings (ts : List Int) (n k : Nat) (s : State) :
    ((takeReadings n ts s).sensor k).tj = if n ≤ k ∧ k < n + ts.length then ts.getD (k - n) 0 else (s.sensor k).tj := by
  induction ts generalizing n s with
  | nil => simp [takeReadings]
  | cons t ts ih =>
    rw [takeReadings, ih]
    rcases Nat.lt_trichotomy k n with hk | rfl | hk
    · have hne : k ≠ n := by omega
      simp [takeReading, sensor_setSensor_ne _ hne, show ¬ n + 1 ≤ k by omega, show ¬ n ≤ k by omega]
    · simp [takeReading]
    · obtain ⟨j, rfl⟩ : ∃ j, k = n + 1 + j := ⟨k - (n + 1), by omega⟩
      have hne : n + 1 + j ≠ n := by omega
      have hj : n + 1 + j - n = j + 1 := by omega
      have hj' : n + 1 + j - (n + 1) = j := by omega
      simp only [takeReading, sensor_setSensor_ne _ hne, hj, hj', List.getD_cons_succ, List.length_cons]
      refine if_congr ?_ rfl rfl
      omega

/-- The governing temperatures of a sample leave its readings (R374, R438). -/
theorem forAll_govern_tj (g : Nat → Int) (ns : List Nat) (k : Nat) (s : State) :
    ((forAll ns (fun n t => t.setSensor n { t.sensor n with govern := g n }) s).sensor k).tj = (s.sensor k).tj := by
  induction ns generalizing s with
  | nil => rfl
  | cons n ns ih =>
    refine (ih _).trans ?_
    by_cases h : k = n
    · subst h; simp
    · rw [sensor_setSensor_ne _ h]

theorem sampled_tj {ts : List Int} (s : State) (h : ts.length = 10) {n : Nat} (hn : n < 10) :
    ((sampled ts s).sensor n).tj = ts.getD n 0 := by
  unfold sampled
  extract_lets s1
  rw [forAll_govern_tj, sensor_takeReadings, List.take_of_length_le (by omega)]
  simp [h, hn]

theorem coldSample_sensor (s : State) (n : Nat) : (coldSample s).sensor n = s.sensor n := rfl

/-- In Fatal a sample leaves its ten readings and nothing else (R416). -/
theorem execThermalSample_fatal {ts : List Int} {s : State} (hf : s.faults.fatal = true) (hl : ts.length = 10) :
    ∃ h : HeatSt, execThermalSample ts s = .next { s with heat := h } ∧
      ∀ n < 10, (({ s with heat := h } : State).sensor n).tj = ts.getD n 0 := by
  obtain ⟨x, hx⟩ := besidesHeat_iff.mp (thermalSample_fatal_besidesHeat ts hf)
  refine ⟨x, by rw [execThermalSample, if_pos hf, hx], fun n hn => ?_⟩
  rw [← hx, thermalSample_fatal ts hf, coldSample_sensor, sampled_tj s hl hn]

/-! ## One tick -/

theorem tickPass_turning {s : State} (hc : s.coreStopped = false) (h : s.time.running = true ∨ s.time.realigning = true) :
    tickPass s =
      let s1 := { s with aon := { s.aon with rtc := s.aon.rtc + 1 }, time := { s.time with tick := s.time.tick + 1 } }
      if 0 < s.time.slew ∧ s.time.held = false ∧ s.time.time64 + 1 = s.time.nextCycle then
        { s1 with time := { s1.time with held := true } }
      else if s.time.slew < 0 ∧ s.time.time64 + 2 = s.time.nextCycle then
        { s1 with time := { s1.time with time64 := s.time.time64 + 2 } }
      else { s1 with time := { s1.time with time64 := s.time.time64 + 1 } } := by
  have hr : (s.time.running || s.time.realigning) = true := by simpa using h
  simp [tickPass, hc, hr]

/-- While the core stands still, and before the grid starts, only the clocks count a tick (R61, R416, R442). -/
theorem tickPass_still {s : State} (h : s.coreStopped = true ∨ (s.time.running = false ∧ s.time.realigning = false)) :
    tickPass s =
      { s with aon := { s.aon with rtc := s.aon.rtc + 1 }, time := { s.time with tick := s.time.tick + 1 } } := by
  have hc : (s.coreStopped || !(s.time.running || s.time.realigning)) = true := by
    rcases h with h | ⟨h1, h2⟩
    · simp [h]
    · simp [h1, h2]
  exact if_pos hc

end Sys2Proof.Machine

namespace Sys2Proof.Proofs

open Machine

/-- Settles O4, from what every command may do to the life-cycle state; a tick leaves it. -/
theorem lifeCycleOnlyMovesForward : Obligations.LifeCycleOnlyMovesForward := fun _ _ h => step_lc h

/-- Settles O5: the collector ends every command that the core runs, and where the core stands still nothing is noted. -/
theorem everyStepCollectsItsOccurrences : Obligations.EveryStepCollectsItsOccurrences := by
  intro s t hs h
  cases hp : s.pending with
  | nil =>
    rw [step_nil hp] at h
    cases h
    rw [tickPass_due, hs]
  | cons c rest =>
    rw [step_cons hp] at h
    exact (exec_due c (s := { s with pending := rest }) hs).next h

/-- Settles O8, from what each command leaves of the time base. -/
theorem timeMovesOnlyByItsEvents : Obligations.TimeMovesOnlyByItsEvents :=
  fun i s _ h1 h2 h3 h => (exec_t64 i s h1 h2 h3).next h

/-- Settles O9, from what each command leaves of the two slots. -/
theorem committedSetsStand : Obligations.CommittedSetsStand :=
  fun i s _ h1 h2 h3 h => ⟨(exec_currentSet i s h1 h2 h3).next h,
    fun h4 h5 h6 => (exec_slots i s h1 h2 h3 h4 h5 h6).next h⟩

/-- Settles O3: every command answers, and none changes the queue. -/
theorem everyCommandAnswersAndKeepsTheQueue : Obligations.EveryCommandAnswersAndKeepsTheQueue := by
  intro i s
  obtain ⟨t, ht, hq, -⟩ := exec_forward i s
  exact ⟨t, ht, hq⟩

/-- Settles O7: the core stands still in Fatal, and a sample leaves its readings. -/
theorem fatalIsLeftByPowerAlone : Obligations.FatalIsLeftByPowerAlone :=
  ⟨fun i _ h h1 h2 h3 => exec_fatal i h h1 h2 h3, fun _ _ hf hl => execThermalSample_fatal hf hl⟩

/-- Settles O10, from what each command leaves of RESET_CAUSE. -/
theorem resetCauseNamesTheLastReset : Obligations.ResetCauseNamesTheLastReset :=
  fun i s _ h1 h2 h3 h4 h => (exec_cause i s h1 h2 h3 h4).next h

/-- Settles O1. -/
theorem stepRunsFrontCommand : Obligations.StepRunsFrontCommand := fun _ _ _ h => step_cons h

/-- Settles O2, by the cases of a tick: the clocks stand, a slew holds a tick or takes two as one, or TIME64 counts it. -/
theorem emptyQueueLetsOneTickPass : Obligations.EmptyQueueLetsOneTickPass := by
  refine ⟨fun s hq => ⟨fun hc hr hs => ?turning, fun h => ?still⟩, fun s hq hc hr => ?slew⟩
  case turning =>
    rw [step_nil hq, tickPass_turning hc hr]
    simp [hs]
  case still =>
    rw [step_nil hq]
    rw [tickPass_still h]
  case slew =>
    refine ⟨_, step_nil hq, ?_⟩
    rw [tickPass_turning hc hr]
    dsimp only
    by_cases h1 : 0 < s.time.slew ∧ s.time.held = false ∧ s.time.time64 + 1 = s.time.nextCycle
    · rw [if_pos h1]
      obtain ⟨hs, hh, hn⟩ := h1
      simp [hh, hn, show ¬ s.time.slew < 0 by omega]
    · rw [if_neg h1]
      by_cases h2 : s.time.slew < 0 ∧ s.time.time64 + 2 = s.time.nextCycle
      · rw [if_pos h2]
        simp [h2, show ¬ 0 < s.time.slew by omega]
      · rw [if_neg h2]
        simp only [true_and, and_true, implies_true]
        exact ⟨fun a b c => absurd ⟨a, b, c⟩ h1, fun a b => absurd ⟨a, b⟩ h2⟩

/-- Settles O6: the reset state holds no written value and no unit of it is in service. -/
theorem resetMeetsTheInvariants : Obligations.ResetMeetsTheInvariants := by
  refine ⟨by decide, rfl, by decide, by decide, rfl, rfl, fun _ _ => rfl, rfl, fun q => ?_, rfl, rfl, rfl,
    fun _ _ => ⟨rfl, rfl, rfl⟩, fun l => ?_⟩
  · cases q <;> exact ⟨rfl, rfl, rfl⟩
  · cases l <;> exact ⟨rfl, rfl, rfl⟩

end Sys2Proof.Proofs

/-! PROOFS. Requests of every op that a path serves at once, and the statements about reads, plain requests, refused writes and
accepted host writes. -/

namespace Sys2Proof.Machine

/-! ## Requests that a path serves at once -/

/-- A request that starts no reset, at a path that serves: its execution, the answer and the count of its frame (R6, R350, R355,
R363). -/
theorem run_served {s u : State} {q : Path} {r : MgmtReq} {y : Reply} (hs : s.Serves q)
    (hreset : q ≠ .spi → requestResets q r s = false) (hcmd : ∀ t, resetCommand q r y t = t)
    (hx : execute q r (s.arrived q) = (y, u)) :
    run (request q r) s =
      .next (collect ((answer q { r with silent := r.silent || linkGone q (s.arrived q) u } y u).counted q)) := by
  obtain ⟨⟨hcore, -⟩, hmc, hw, hb⟩ := hs
  have hserve : serve q r (s.arrived q) = answer q { r with silent := r.silent || linkGone q (s.arrived q) u } y u := by
    simp only [serve, hx, hcmd]
  have hreq : request q r s = (serve q r (s.arrived q)).counted q := by
    cases q with
    | spi => simp [request, linkOfPath, admitRequest, State.arrived, State.counted, hb, hmc]
    | oxlA => simp [request, linkOfPath, admitRequest, State.arrived, State.counted, hmc, hw, hreset (by decide)]
    | oxlB => simp [request, linkOfPath, admitRequest, State.arrived, State.counted, hmc, hw, hreset (by decide)]
  rw [run_running _ hcore, hreq, hserve]

theorem requestResets_calm {r : MgmtReq} (h : ¬ MayWrite r Code.resetCmd) (q : Path) (s : State) :
    requestResets q r s = false := by
  by_contra hc
  simp only [requestResets, Bool.not_eq_false, Bool.and_eq_true, beq_iff_eq] at hc
  obtain ⟨⟨⟨⟨-, hop⟩, hcode⟩, -⟩, hok⟩ := hc
  refine h ⟨hop, hcode, ?_⟩
  cases hl : r.lengthOk with
  | true => rfl
  | false => simp [execute, hop, hl, Except.isOk, Except.toBool] at hok

theorem requestResets_of_error {r : MgmtReq} {q : Path} {s u : State} {a : Nat}
    (hx : execute q r (s.arrived q) = (.error a, u)) (hq : q ≠ .spi) : requestResets q r s = false := by
  have harr : s.arrived q = s := by cases q <;> first | rfl | exact absurd rfl hq
  rw [harr] at hx
  simp [requestResets, hx, Except.isOk, Except.toBool]

theorem linkGone_of_oxl {q : Path} {s u : State} (h : u.oxl = s.oxl) : linkGone q s u = false := by
  cases q <;> simp [linkGone, linkOfPath, State.link, h]

/-- A request that writes no RESET_CMD and leaves the links alone. -/
theorem run_request {s u : State} {q : Path} {r : MgmtReq} {y : Reply} (hs : s.Serves q)
    (hr : ¬ MayWrite r Code.resetCmd) (hx : execute q r (s.arrived q) = (y, u)) (hl : u.oxl = s.oxl) :
    run (request q r) s = .next (collect ((answer q r y u).counted q)) := by
  have hcmd : ∀ t, resetCommand q r y t = t := fun t => by
    have := resetCommand_calm hr q (s.arrived q) t
    rwa [hx] at this
  rw [run_served hs (fun _ => requestResets_calm hr q s) hcmd hx, linkGone_of_oxl (by simpa using hl), Bool.or_false]

/-- What the collector does behind a request that leaves the faults alone: nothing (R404). -/
theorem collect_answered {s u : State} {q : Path} {r : MgmtReq} {y : Reply} (hs : s.Ready) (hf : u.faults = s.faults) :
    collect ((answer q r y u).counted q) = (answer q r y u).counted q := by
  obtain ⟨-, hdue, hnext, hacked⟩ := hs
  exact collect_nil (by simp [hf, hdue]) (by simp [hf, hnext]) (by simp [hf, hacked])

/-- A request whose execution changes nothing is only answered, whatever it is (R335). -/
theorem request_onlyAnswered {s : State} {q : Path} {r : MgmtReq} {y : Reply} (hs : s.Serves q) (hr : r.silent = false)
    (hw : ¬ MayWrite r Code.resetCmd) (hx : execute q r (s.arrived q) = (y, s.arrived q)) :
    ∃ t, run (request q r) s = .next t ∧ t.OnlyAnswered s ∧ t.Holds q (responseBytes r y) := by
  refine ⟨_, run_request hs hw hx (by simp), ?_⟩
  rw [collect_answered hs.1 (by simp)]
  exact ⟨onlyAnswered_answer s q r y, holds_counted (answer_holds y hr (arrived_abandoned s))⟩

/-- An aborted request that changes nothing is only answered; a RESET_CMD that is aborted resets nothing (R335, R363). -/
theorem request_aborted {s : State} {q : Path} {r : MgmtReq} {a : Nat} (hs : s.Serves q) (hr : r.silent = false)
    (hx : execute q r (s.arrived q) = (.error a, s.arrived q)) :
    ∃ t, run (request q r) s = .next t ∧ t.OnlyAnswered s ∧ t.Holds q (responseBytes r (.error a)) := by
  refine ⟨_, run_served hs (requestResets_of_error hx) (fun _ => rfl) hx, ?_⟩
  rw [collect_answered hs.1 (by simp), linkGone_of_oxl rfl]
  exact ⟨onlyAnswered_answer s q _ _, holds_counted (answer_holds _ (by simp [hr]) (arrived_abandoned s))⟩

/-! ## Reads, plain requests and refused writes -/

theorem execute_read {q : Path} {tid index sub : Nat} {s : State} {o : Obj}
    (ho : s.checkObject { op := 1, tid := tid, index := index, sub := sub } = .ok o) :
    execute q { op := 1, tid := tid, index := index, sub := sub } s =
      readScalar q { op := 1, tid := tid, index := index, sub := sub } o (addressCode index sub) (s.instOf q o.scope) s := by
  simp [execute, ho]

theorem execute_write {q : Path} {tid index sub value : Nat} {s : State} {o : Obj}
    (ho : s.checkObject { op := 2, tid := tid, index := index, sub := sub, value := value } = .ok o) :
    execute q { op := 2, tid := tid, index := index, sub := sub, value := value } s =
      writeScalar q { op := 2, tid := tid, index := index, sub := sub, value := value } o (addressCode index sub)
        (s.instOf q o.scope) s := by
  simp [execute, ho]

/-- A request that check 1 to 5 refuses changes nothing (R335). -/
theorem execute_refused {q : Path} {r : MgmtReq} {s : State} {a : Nat} (h1 : 0 < r.op) (h2 : r.op ≤ 8)
    (hl : r.lengthOk = true) (ho : s.checkObject r = .error a) : execute q r s = (.error a, s) := by
  simp [execute, ho, hl, show ¬ 8 < r.op by omega, show r.op ≠ 0 by omega]

@[simp] theorem State.arrived_instOf (s : State) (q q' : Path) (sc : Scope) :
    (s.arrived q).instOf q' sc = s.instOf q' sc := by
  have h : (s.arrived q).path q' = s.path q' := path_congr (by simp) q'
  unfold State.instOf
  rw [h]

theorem checkObject_congr {s t : State} (h : t.lc = s.lc) (r : MgmtReq) : t.checkObject r = s.checkObject r := by
  unfold State.checkObject
  rw [h]

/-- A READ of a value that the rules state (R332, R338). -/
theorem readScalar_value {q : Path} {r : MgmtReq} {o : Obj} {code inst : Nat} {s : State} {v : Int}
    (hsel : s.selectionBad q o false = none) (herr : readError q o code inst s = none)
    (hv : s.valueOf q o code inst = some v) : readScalar q r o code inst s =
      (.ok (addressBytes r.index r.sub (tyCode o.ty) ++ beBytes 8 (encodeValue v)), s) := by
  simp [readScalar, hsel, herr, hv]

/-- A READ of a value that no rule states draws a free value (notes/assumptions/5). -/
theorem readScalar_free {q : Path} {r : MgmtReq} {o : Obj} {code inst : Nat} {s : State}
    (hsel : s.selectionBad q o false = none) (herr : readError q o code inst s = none)
    (hv : s.valueOf q o code inst = none) : readScalar q r o code inst s =
      (.ok (addressBytes r.index r.sub (tyCode o.ty) ++ beBytes 8 (encodeValue (tyWrap o.ty (Config.freeValue s.free)))),
        { s with free := s.free + 1 }) := by
  simp [readScalar, hsel, herr, hv, State.draw]

theorem arrived_withFree (s : State) (q : Path) (n : Nat) :
    { s.arrived q with free := n } = ({ s with free := n } : State).arrived q := by
  cases q <;> rfl

@[simp] theorem State.arrived_free (s : State) (q : Path) : (s.arrived q).free = s.free :=
  (congrArg State.free (s.arrived_frame q) :)

/-! ### The checks of a WRITE (R335) -/

theorem checkObject_write_missing {s : State} {tid index sub value : Nat} (h : findObj (addressCode index sub) = none) :
    s.checkObject { op := 2, tid := tid, index := index, sub := sub, value := value } =
      .error (if indexExists index then Abort.sub else Abort.index) := by
  simp [State.checkObject, h]

/-- Checks 2 to 5 of R335 on a WRITE to an object that exists. -/
theorem checkObject_write {s : State} {tid index sub value : Nat} {o : Obj} (h : findObj (addressCode index sub) = some o) :
    s.checkObject { op := 2, tid := tid, index := index, sub := sub, value := value } =
      if indexAvailable s.lc index = false then .error Abort.lifeCycle
      else if o.acc = .ro then .error Abort.right
      else if o.acc = .rwf ∧ s.lc ≠ 1 ∧ s.lc ≠ 3 then .error Abort.factory
      else if isDomain o.ty = true then .error Abort.kind
      else .ok o := by
  simp [State.checkObject, h, opReads, opWrites, opDomain, opScalar, and_assoc]

theorem writeScalar_type {q : Path} {r : MgmtReq} {o : Obj} {code inst : Nat} {s : State}
    (hsel : s.selectionBad q o true = none) (hv : decodeValue o.ty r.value = none) :
    writeScalar q r o code inst s = (.error Abort.ty, s) := by
  simp [writeScalar, hsel, hv]

/-! ### Accepted host writes -/

theorem writeScalar_accepted {q : Path} {r : MgmtReq} {o : Obj} {code inst : Nat} {s : State} {v : Int}
    (hc : code ≠ Code.lcRequest) (hsel : s.selectionBad q o true = none) (hv : decodeValue o.ty r.value = some v)
    (hr : s.writeRefusal o code inst v = none) :
    writeScalar q r o code inst s =
      (.ok (addressBytes r.index r.sub 0), hostWrite q o code inst v (masterOf q) s) := by
  simp [writeScalar, hsel, hv, hr, hc]

/-- A host write of the table is the WRITE of its value to its object, which is neither LC_REQUEST nor RESET_CMD (R331). -/
theorem exec_hostWriteOf {i : Instr} {q : Path} {tid code value : Nat} (h : hostWriteOf i = some (q, tid, code, value))
    (s : State) : exec i s = run (writeRequest q tid code value) s ∧ code ≠ Code.lcRequest ∧ code ≠ Code.resetCmd := by
  cases i
  all_goals (unfold exec; dsimp only [hostWriteOf] at h ⊢)
  case write q' t x u v | clearCounter q' t x u v =>
    split at h
    · exact absurd h (by simp)
    · rename_i hn
      simp only [not_or, Nat.not_le] at hn
      obtain ⟨hlc, hcmd, hx, hu⟩ := hn
      obtain ⟨rfl, rfl, rfl, rfl⟩ : q' = q ∧ t = tid ∧ addressCode x u = code ∧ v = value := by simpa using h
      have hdiv : addressCode x u / 256 = x := by unfold addressCode; omega
      have hmod : addressCode x u % 256 = u := by unfold addressCode; omega
      exact ⟨congrArg (run · s) (funext fun _ => by simp only [writeRequest, hdiv, hmod]), hlc, hcmd⟩
  case prbsGen q' t l n v | prbsCheck q' t l n v | prbsClear q' t l n v =>
    split at h
    · rename_i hn
      obtain ⟨rfl, rfl, rfl, rfl⟩ : q' = q ∧ t = tid ∧ _ = code ∧ v = value := by simpa using h
      exact ⟨by simp [execPrbsGen, execPrbsCheck, execPrbsClear, hn], laneCode_ne (by decide), laneCode_ne (by decide)⟩
    · exact absurd h (by simp)
  case oxlRetrain q' t l v | linkEnable q' t l v =>
    obtain ⟨rfl, rfl, rfl, rfl⟩ : q' = q ∧ t = tid ∧ _ = code ∧ v = value := by simpa using h
    exact ⟨rfl, linkCode_ne (by decide), linkCode_ne (by decide)⟩
  case clusterTargetDormant q' t | clusterTargetWake q' t =>
    obtain ⟨rfl, rfl, rfl, rfl⟩ : q' = q ∧ t = tid ∧ _ = code ∧ _ = value := by simpa using h
    exact ⟨rfl, by decide, by decide⟩
  all_goals (cases h <;> exact ⟨rfl, by decide, by decide⟩)

end Sys2Proof.Machine

namespace Sys2Proof.Proofs

open Machine

/-- Settles O11: a READ that passes every check executes without effect, or draws a free value, and is only answered. -/
theorem readsAreAnswered : Obligations.ReadsAreAnswered := by
  refine ⟨fun q tid index sub s o v hs ho hsel herr hv => ?value, fun q tid index sub s o hs ho hsel herr hv => ?free⟩
  all_goals rw [← checkObject_congr (s.arrived_lc q)] at ho
  case value =>
    have hx := (execute_read ho).trans (readScalar_value hsel (by simpa using herr) (by simpa using hv))
    obtain ⟨t, ht, hon, hh⟩ := request_onlyAnswered hs rfl (by simp [MayWrite]) hx
    exact ⟨t, ht, hon, by simpa [responseBytes] using hh⟩
  case free =>
    have hx := (execute_read ho).trans (readScalar_free hsel (by simpa using herr) (by simpa using hv))
    rw [arrived_withFree, State.arrived_free] at hx
    refine ⟨_, run_request hs (by simp [MayWrite]) hx (by simp), ?_⟩
    rw [collect_answered hs.1 (by simp)]
    refine ⟨onlyAnswered_answer _ q _ _, ?_⟩
    have hh := holds_counted (answer_holds (q := q) (r := { op := 1, tid := tid, index := index, sub := sub })
      (.ok (addressBytes index sub (tyCode o.ty) ++
        beBytes 8 (encodeValue (tyWrap o.ty (Config.freeValue s.free))))) rfl
      (arrived_abandoned { s with free := s.free + 1 }))
    simpa [responseBytes] using hh

/-- Settles O12: NOP and DESCRIBE execute without effect, and an op above 08h is aborted and counted. -/
theorem plainRequestsAreAnswered : Obligations.PlainRequestsAreAnswered := by
  refine ⟨fun q tid s hs => ?nop, fun q tid index sub s o hs ho => ?describe, fun q tid op index sub s hs hop => ?unknown⟩
  case nop =>
    exact request_onlyAnswered (r := { op := 0, tid := tid }) hs rfl (by simp [MayWrite]) (y := .ok []) (by simp [execute])
  case describe =>
    rw [← checkObject_congr (s.arrived_lc q)] at ho
    have hx : execute q { op := 7, tid := tid, index := index, sub := sub } (s.arrived q) =
        (describe { op := 7, tid := tid, index := index, sub := sub } o, s.arrived q) := by
      simp [execute, ho]
    obtain ⟨t, ht, hon, hh⟩ := request_onlyAnswered hs rfl (by simp [MayWrite]) hx
    exact ⟨t, ht, hon, by simpa [describe, responseBytes] using hh⟩
  case unknown =>
    have hx : execute q { op := op, tid := tid, index := index, sub := sub, lengthOk := decide (8 < op) } (s.arrived q) =
        (.error Abort.op, s.arrived q) := by
      simp [execute, hop]
    refine ⟨_, run_request hs (by simp [MayWrite]; omega) hx (by simp), ?_⟩
    rw [collect_answered hs.1 (by simp)]
    refine ⟨onlyAnswered_answer s q _ _,
      by simpa [responseBytes, abortBytes] using holds_counted (answer_holds (.error Abort.op) rfl (arrived_abandoned s)), ?_⟩
    apply reg_of_written
    have hb : (countAbort q (.error Abort.op) (s.arrived q)).regWritten (abortCode q) 0 =
        some (min ((s.regN (abortCode q) 0 + 1 : Nat) : Int) (2 ^ 32 - 1)) := by
      rw [← regN_congr (s := s) (t := s.arrived q) (by simp) (by simp)]
      exact State.regWritten_setReg ..
    rw [counted_regWritten q _ (by decide) (by cases q <;> decide) (by cases q <;> decide), ← hb]
    simp [State.regWritten, answer_regs]

/-- Settles O13: check by check, the first that fails gives the abort code, and the request leaves the state as it is. -/
theorem refusedWritesChangeNothing : Obligations.RefusedWritesChangeNothing := by
  unfold Obligations.RefusedWritesChangeNothing
  intro q tid index sub value s hs code aborts
  have of_check : ∀ a, s.checkObject { op := 2, tid := tid, index := index, sub := sub, value := value } = .error a →
      aborts a := fun a ha => by
    rw [← checkObject_congr (s.arrived_lc q)] at ha
    exact request_aborted (q := q) hs rfl (execute_refused (by simp) (by simp) rfl ha)
  refine ⟨fun hf => of_check _ (checkObject_write_missing hf), fun o hf => ?_⟩
  have hchk := checkObject_write (s := s) (tid := tid) (value := value) hf
  refine ⟨fun hav => of_check _ (by rw [hchk, if_pos hav]), fun hav => ?_⟩
  rw [if_neg (by simp [hav])] at hchk
  refine ⟨fun hro => of_check _ (by rw [hchk, if_pos hro]),
    fun hf h1 h3 => of_check _ (by rw [hchk, if_neg (by simp [hf]), if_pos ⟨hf, h1, h3⟩]), fun hro hrwf => ?_⟩
  rw [if_neg hro, if_neg (by rintro ⟨h, h1, h3⟩; exact (hrwf h).elim h1 h3)] at hchk
  refine ⟨fun hd => of_check _ (by rw [hchk, if_pos hd]), fun hd hsel => ?_⟩
  rw [if_neg (by simp [hd]), ← checkObject_congr (s.arrived_lc q)] at hchk
  exact ⟨fun hv => request_aborted hs rfl ((execute_write hchk).trans (writeScalar_type hsel hv)),
    fun v a hv hr => request_aborted hs rfl
      ((execute_write hchk).trans (writeScalar_refused hsel hv (by simpa using hr)))⟩

/-- Settles O14: an accepted write executes as its host write, and the answer and the count of its frame follow. -/
theorem acceptedWritesRun : Obligations.AcceptedWritesRun := by
  unfold Obligations.AcceptedWritesRun
  intro i s q tid code value o v hi hacc
  obtain ⟨hs, ho, hcode, hsel, hv, hr⟩ := hacc
  obtain ⟨hexec, hlc, hcmd⟩ := exec_hostWriteOf hi s
  have ho' : (s.arrived q).checkObject (writeReq tid code value) = .ok o := (checkObject_congr (by simp) _).trans ho
  have hx : execute q (writeReq tid code value) (s.arrived q) = (.ok (addressBytes (code / 256) (code % 256) 0),
      hostWrite q o code (s.instOf q o.scope) v (masterOf q) (s.arrived q)) := by
    rw [execute_writeReq ho' hcode, State.arrived_instOf]
    exact writeScalar_accepted hlc hsel hv hr
  have hcalm : ¬ MayWrite (writeReq tid code value) Code.resetCmd := by
    rintro ⟨-, h, -⟩
    exact hcmd (hcode.symm.trans h)
  have hreset : ∀ t, resetCommand q (writeReq tid code value) (.ok (addressBytes (code / 256) (code % 256) 0)) t = t := fun t => by
    have h := resetCommand_calm hcalm q (s.arrived q) t
    rwa [hx] at h
  rw [hexec]
  exact run_served hs (fun _ => requestResets_calm hcalm q s) hreset hx

end Sys2Proof.Proofs

/-! PROOFS. Domain transfers: what their requests leave of the paths and the contents, and the statements about them. -/

namespace Sys2Proof.Machine

/-! ## What an answered request leaves -/

/-- A function of the state that looks at neither the SPI, the links nor the working values does not see an answer (R335). -/
theorem answered_keeps {β : Type} (g : State → β)
    (hg : ∀ (s : State) a b c, g { s with spi := a, oxl := b, regs := c } = g s) (q : Path) (r : MgmtReq) (y : Reply)
    (s : State) : g ((answer q r y s).counted q) = g s := by
  have h1 := congrArg g (State.counted_frame (answer q r y s) q)
  have h2 := congrArg g (answer_frame q r y s)
  have hr : ∀ u v : State, { u with regs := v.regs } = v → g u = g v := by
    intro u v huv
    have := hg u u.spi u.oxl v.regs
    rw [← this]
    exact congrArg g huv
  calc g ((answer q r y s).counted q) = g (answer q r y s) := hr _ _ (State.counted_frame _ q)
    _ = g { answer q r y s with spi := s.spi, oxl := s.oxl, regs := s.regs } := (hg _ _ _ _).symm
    _ = g s := h2

@[simp] theorem answered_pending (q : Path) (r : MgmtReq) (y : Reply) (s : State) :
    ((answer q r y s).counted q).pending = s.pending := answered_keeps (·.pending) (fun _ _ _ _ => rfl) q r y s
@[simp] theorem answered_free (q : Path) (r : MgmtReq) (y : Reply) (s : State) :
    ((answer q r y s).counted q).free = s.free := answered_keeps (·.free) (fun _ _ _ _ => rfl) q r y s
@[simp] theorem answered_doms (q : Path) (r : MgmtReq) (y : Reply) (s : State) :
    ((answer q r y s).counted q).doms = s.doms := answered_keeps (·.doms) (fun _ _ _ _ => rfl) q r y s
@[simp] theorem answered_resetCause (q : Path) (r : MgmtReq) (y : Reply) (s : State) :
    ((answer q r y s).counted q).resetCause = s.resetCause := answered_keeps (·.resetCause) (fun _ _ _ _ => rfl) q r y s
@[simp] theorem answered_mgmt (q : Path) (r : MgmtReq) (y : Reply) (s : State) :
    ((answer q r y s).counted q).mgmt = s.mgmt := answered_keeps (·.mgmt) (fun _ _ _ _ => rfl) q r y s
@[simp] theorem answered_time (q : Path) (r : MgmtReq) (y : Reply) (s : State) :
    ((answer q r y s).counted q).time = s.time := answered_keeps (·.time) (fun _ _ _ _ => rfl) q r y s
@[simp] theorem answered_aon (q : Path) (r : MgmtReq) (y : Reply) (s : State) :
    ((answer q r y s).counted q).aon = s.aon := answered_keeps (·.aon) (fun _ _ _ _ => rfl) q r y s
@[simp] theorem answered_ports (q : Path) (r : MgmtReq) (y : Reply) (s : State) :
    ((answer q r y s).counted q).ports = s.ports := answered_keeps (·.ports) (fun _ _ _ _ => rfl) q r y s
@[simp] theorem answered_ctxs (q : Path) (r : MgmtReq) (y : Reply) (s : State) :
    ((answer q r y s).counted q).ctxs = s.ctxs := answered_keeps (·.ctxs) (fun _ _ _ _ => rfl) q r y s
@[simp] theorem answered_cells (q : Path) (r : MgmtReq) (y : Reply) (s : State) :
    ((answer q r y s).counted q).cells = s.cells := answered_keeps (·.cells) (fun _ _ _ _ => rfl) q r y s
@[simp] theorem answered_arch (q : Path) (r : MgmtReq) (y : Reply) (s : State) :
    ((answer q r y s).counted q).arch = s.arch := answered_keeps (·.arch) (fun _ _ _ _ => rfl) q r y s
@[simp] theorem answered_hold (q : Path) (r : MgmtReq) (y : Reply) (s : State) :
    ((answer q r y s).counted q).hold = s.hold := answered_keeps (·.hold) (fun _ _ _ _ => rfl) q r y s
@[simp] theorem answered_nvm (q : Path) (r : MgmtReq) (y : Reply) (s : State) :
    ((answer q r y s).counted q).nvm = s.nvm := answered_keeps (·.nvm) (fun _ _ _ _ => rfl) q r y s
@[simp] theorem answered_fw (q : Path) (r : MgmtReq) (y : Reply) (s : State) :
    ((answer q r y s).counted q).fw = s.fw := answered_keeps (·.fw) (fun _ _ _ _ => rfl) q r y s
@[simp] theorem answered_clusters (q : Path) (r : MgmtReq) (y : Reply) (s : State) :
    ((answer q r y s).counted q).clusters = s.clusters := answered_keeps (·.clusters) (fun _ _ _ _ => rfl) q r y s
@[simp] theorem answered_engines (q : Path) (r : MgmtReq) (y : Reply) (s : State) :
    ((answer q r y s).counted q).engines = s.engines := answered_keeps (·.engines) (fun _ _ _ _ => rfl) q r y s
@[simp] theorem answered_power (q : Path) (r : MgmtReq) (y : Reply) (s : State) :
    ((answer q r y s).counted q).power = s.power := answered_keeps (·.power) (fun _ _ _ _ => rfl) q r y s
@[simp] theorem answered_heat (q : Path) (r : MgmtReq) (y : Reply) (s : State) :
    ((answer q r y s).counted q).heat = s.heat := answered_keeps (·.heat) (fun _ _ _ _ => rfl) q r y s
@[simp] theorem answered_test (q : Path) (r : MgmtReq) (y : Reply) (s : State) :
    ((answer q r y s).counted q).test = s.test := answered_keeps (·.test) (fun _ _ _ _ => rfl) q r y s
@[simp] theorem answered_faults (q : Path) (r : MgmtReq) (y : Reply) (s : State) :
    ((answer q r y s).counted q).faults = s.faults := answered_keeps (·.faults) (fun _ _ _ _ => rfl) q r y s
@[simp] theorem answered_lc (q : Path) (r : MgmtReq) (y : Reply) (s : State) :
    ((answer q r y s).counted q).lc = s.lc := answered_keeps (·.lc) (fun _ _ _ _ => rfl) q r y s

@[simp] theorem State.arrived_pending (s : State) (q : Path) : (s.arrived q).pending = s.pending :=
  (congrArg State.pending (s.arrived_frame q) :)
@[simp] theorem State.arrived_doms (s : State) (q : Path) : (s.arrived q).doms = s.doms :=
  (congrArg State.doms (s.arrived_frame q) :)
@[simp] theorem State.arrived_resetCause (s : State) (q : Path) : (s.arrived q).resetCause = s.resetCause :=
  (congrArg State.resetCause (s.arrived_frame q) :)
@[simp] theorem State.arrived_aon (s : State) (q : Path) : (s.arrived q).aon = s.aon :=
  (congrArg State.aon (s.arrived_frame q) :)
@[simp] theorem State.arrived_ports (s : State) (q : Path) : (s.arrived q).ports = s.ports :=
  (congrArg State.ports (s.arrived_frame q) :)
@[simp] theorem State.arrived_ctxs (s : State) (q : Path) : (s.arrived q).ctxs = s.ctxs :=
  (congrArg State.ctxs (s.arrived_frame q) :)
@[simp] theorem State.arrived_cells (s : State) (q : Path) : (s.arrived q).cells = s.cells :=
  (congrArg State.cells (s.arrived_frame q) :)
@[simp] theorem State.arrived_arch (s : State) (q : Path) : (s.arrived q).arch = s.arch :=
  (congrArg State.arch (s.arrived_frame q) :)
@[simp] theorem State.arrived_hold (s : State) (q : Path) : (s.arrived q).hold = s.hold :=
  (congrArg State.hold (s.arrived_frame q) :)
@[simp] theorem State.arrived_fw (s : State) (q : Path) : (s.arrived q).fw = s.fw :=
  (congrArg State.fw (s.arrived_frame q) :)
@[simp] theorem State.arrived_clusters (s : State) (q : Path) : (s.arrived q).clusters = s.clusters :=
  (congrArg State.clusters (s.arrived_frame q) :)
@[simp] theorem State.arrived_engines (s : State) (q : Path) : (s.arrived q).engines = s.engines :=
  (congrArg State.engines (s.arrived_frame q) :)
@[simp] theorem State.arrived_power (s : State) (q : Path) : (s.arrived q).power = s.power :=
  (congrArg State.power (s.arrived_frame q) :)
@[simp] theorem State.arrived_heat (s : State) (q : Path) : (s.arrived q).heat = s.heat :=
  (congrArg State.heat (s.arrived_frame q) :)

@[simp] theorem answered_path (q q' : Path) (r : MgmtReq) (y : Reply) (s : State) :
    ((answer q r y s).counted q).path q' = s.path q' := path_congr (by simp) q'

@[simp] theorem State.arrived_path (s : State) (q q' : Path) : (s.arrived q).path q' = s.path q' :=
  path_congr (by simp) q'

/-! ## Paths -/

theorem State.path_modPath_ne {q q' : Path} (h : q' ≠ q) (f : PathSt → PathSt) (s : State) :
    (s.modPath q f).path q' = s.path q' := by
  cases q <;> cases q' <;> first | rfl | exact absurd rfl h

theorem endTransfer_none {q : Path} {s : State} (h : (s.path q).xfer = none) : endTransfer q s = s := by
  unfold endTransfer
  rw [h]

/-- The path whose transfer ends remembers its address (R344). -/
theorem endTransfer_path {q : Path} {s : State} {x : Xfer} (h : (s.path q).xfer = some x) :
    (endTransfer q s).path q = { s.path q with xfer := none, ended := some (x.index, x.sub) } := by
  unfold endTransfer
  rw [h]
  dsimp only
  split
  · rw [path_congr (loadEnds_mgmt _), State.path_modPath]
  · rw [State.path_modPath]

theorem endTransfer_path_ne {q q' : Path} (h : q' ≠ q) (s : State) : (endTransfer q s).path q' = s.path q' := by
  unfold endTransfer
  split
  · rfl
  · dsimp only
    split
    · rw [path_congr (loadEnds_mgmt _), State.path_modPath_ne h]
    · rw [State.path_modPath_ne h]

@[simp] theorem endTransfer_doms (q : Path) (s : State) : (endTransfer q s).doms = s.doms :=
  (congrArg State.doms (endTransfer_frame q s) :)
@[simp] theorem endTransfer_ctxs (q : Path) (s : State) : (endTransfer q s).ctxs = s.ctxs :=
  (congrArg State.ctxs (endTransfer_frame q s) :)
@[simp] theorem endTransfer_cells (q : Path) (s : State) : (endTransfer q s).cells = s.cells :=
  (congrArg State.cells (endTransfer_frame q s) :)

/-- The end of a transfer that is no load of firmware touches its path alone (R344). -/
theorem endTransfer_plain {q : Path} {s : State} {x : Xfer} (h : (s.path q).xfer = some x) (hf : x.code ≠ Code.fwImage) :
    endTransfer q s = s.modPath q (fun y => { y with xfer := none, ended := some (x.index, x.sub) }) := by
  simp [endTransfer, h, hf]

/-! ## Domain reads -/

theorem replaceTransfer_none {q : Path} {s : State} (x : Option Xfer) (h : (s.path q).xfer = none) :
    replaceTransfer q x s = s.modPath q (fun y => { y with xfer := x, ended := none }) := by
  simp [replaceTransfer, endTransfer_none h, h]

theorem domainRead_copy {q : Path} {r : MgmtReq} {o : Obj} {code inst : Nat} {s : State}
    (hsel : s.selectionBad q o false = none) (herr : readError q o code inst s = none) :
    domainRead q r o code inst s =
      (.ok (addressBytes r.index r.sub 0 ++ beBytes 4 (s.contentOf q code inst).length ++ beBytes 4 o.size),
        autoStep q code (replaceTransfer q (some
          { code := code, index := r.index % 65536, sub := r.sub % 256, inst := inst, write := false,
            length := (s.contentOf q code inst).length, data := s.contentOf q code inst, lastSeg := s.time.tick }) s)) := by
  simp [domainRead, hsel, herr]

@[simp] theorem autoStep_oxl (q : Path) (code : Nat) (s : State) : (autoStep q code s).oxl = s.oxl := by
  unfold autoStep; split <;> simp
@[simp] theorem autoStep_faults (q : Path) (code : Nat) (s : State) : (autoStep q code s).faults = s.faults := by
  unfold autoStep; split <;> simp
@[simp] theorem autoStep_doms (q : Path) (code : Nat) (s : State) : (autoStep q code s).doms = s.doms := by
  unfold autoStep; split <;> simp
@[simp] theorem autoStep_ctxs (q : Path) (code : Nat) (s : State) : (autoStep q code s).ctxs = s.ctxs := by
  unfold autoStep; split <;> simp
@[simp] theorem autoStep_cells (q : Path) (code : Nat) (s : State) : (autoStep q code s).cells = s.cells := by
  unfold autoStep; split <;> simp
@[simp] theorem autoStep_spi (q : Path) (code : Nat) (s : State) : (autoStep q code s).spi = s.spi := by
  unfold autoStep; split <;> simp

theorem autoStep_path (q : Path) (code : Nat) (s : State) :
    (autoStep q code s).path q = { s.path q with
      selCell := if code = Code.cellRaw ∧ (s.path q).autoStep = 1 then ((s.path q).selCell + 1) % 2 ^ 20
        else (s.path q).selCell } := by
  unfold autoStep
  split <;> simp

theorem autoStep_path_ne {q q' : Path} (h : q' ≠ q) (code : Nat) (s : State) :
    (autoStep q code s).path q' = s.path q' := by
  unfold autoStep
  split
  · exact State.path_modPath_ne h _ s
  · rfl

/-- The open transfer that a segment is for (R344). -/
theorem segmentOf_ok {q : Path} {r : MgmtReq} {s : State} {x : Xfer} (h1 : 1 ≤ r.count) (h2 : r.count ≤ 1024)
    (hx : (s.path q).xfer = some x) (hi : x.index = r.index % 65536) (hs : x.sub = r.sub % 256)
    (hw : x.write = opWrites r.op) : s.segmentOf q r = .ok x := by
  have hc : ¬ (r.count = 0 ∨ 1024 < r.count) := by omega
  simp [State.segmentOf, hc, hx, hi, hs, hw]

/-- A segment without a transfer (R344). -/
theorem segmentOf_none {q : Path} {r : MgmtReq} {s : State} (h1 : 1 ≤ r.count) (h2 : r.count ≤ 1024)
    (hx : (s.path q).xfer = none) : s.segmentOf q r =
      .error (if (s.path q).ended = some (r.index % 65536, r.sub % 256) then Abort.ended else Abort.noTransfer) := by
  have hc : ¬ (r.count = 0 ∨ 1024 < r.count) := by omega
  simp [State.segmentOf, hc, hx]

theorem execute_domainRead {q : Path} {r : MgmtReq} {s : State} {o : Obj} (hop : r.op = 3) (hl : r.lengthOk = true)
    (ho : s.checkObject r = .ok o) :
    execute q r s = domainRead q r o (addressCode r.index r.sub) (s.instOf q o.scope) s := by
  simp [execute, hop, hl, ho]

theorem execute_domainWrite {q : Path} {r : MgmtReq} {s : State} {o : Obj} (hop : r.op = 4) (hl : r.lengthOk = true)
    (ho : s.checkObject r = .ok o) :
    execute q r s = domainWrite q r o (addressCode r.index r.sub) (s.instOf q o.scope) s := by
  simp [execute, hop, hl, ho]

theorem execute_segmentRead {q : Path} {r : MgmtReq} {s : State} {o : Obj} (hop : r.op = 5) (hl : r.lengthOk = true)
    (ho : s.checkObject r = .ok o) : execute q r s = segmentRead q r s := by
  simp [execute, hop, hl, ho]

theorem execute_segmentWrite {q : Path} {r : MgmtReq} {s : State} {o : Obj} (hop : r.op = 6) (hl : r.lengthOk = true)
    (ho : s.checkObject r = .ok o) : execute q r s = segmentWrite q r o s := by
  simp [execute, hop, hl, ho]

theorem execute_domainEnd {q : Path} {r : MgmtReq} {s : State} {o : Obj} (hop : r.op = 8) (hl : r.lengthOk = true)
    (ho : s.checkObject r = .ok o) :
    execute q r s = (.ok (addressBytes r.index r.sub 0), closeTransfer q s) := by
  simp [execute, hop, hl, ho]

/-- A segment read inside the copy (R342). -/
theorem segmentRead_inside {q : Path} {r : MgmtReq} {s : State} {x : Xfer} (h : s.segmentOf q r = .ok x)
    (hlt : r.arg < x.length) :
    segmentRead q r s = (.ok (segmentHead r ((x.data.drop r.arg).take r.count).length ++ (x.data.drop r.arg).take r.count),
      s.modPath q (fun y => { y with xfer := some { x with lastSeg := s.time.tick } })) := by
  simp [segmentRead, h, Nat.not_le.mpr hlt]

/-! ## Domain writes -/

/-- The init of a write that R343 accepts and that is no load of firmware. -/
theorem domainWrite_accepted {q : Path} {r : MgmtReq} {o : Obj} {code inst : Nat} {s : State} (hlen : r.arg ≤ o.size)
    (hrule : lengthRule code r.arg = true) (hf : code ≠ Code.fwImage) :
    domainWrite q r o code inst s = (.ok (addressBytes r.index r.sub 0 ++ beBytes 4 o.size),
      if r.arg = 0 then storeDomain code inst [] (replaceTransfer q none s)
      else replaceTransfer q (some { code := code, index := r.index % 65536, sub := r.sub % 256, inst := inst, write := true,
                                     length := r.arg, data := [], lastSeg := s.time.tick }) s) := by
  unfold domainWrite
  dsimp only
  rw [if_neg (by omega), if_neg (by simp [hrule]), if_neg (by simp [hf]), if_neg hf]
  split <;> rfl

theorem storeDomain_plain {code : Nat} (h : code ≠ Code.goldenMisr) (inst : Nat) (bs : List Byte) (s : State) :
    storeDomain code inst bs s = s.setDom code inst bs := by
  simp [storeDomain, h]

@[simp] theorem setDom_doms (code inst : Nat) (bs : List Byte) (s : State) :
    (s.setDom code inst bs).doms = Tab.put s.doms (objKey code inst) bs := (rfl)

@[simp] theorem setDom_path (code inst : Nat) (bs : List Byte) (q : Path) (s : State) :
    (s.setDom code inst bs).path q = s.path q := path_congr (by simp) q

/-- The request of a SEGMENT_WRITE (R331, R343). -/
def segmentWriteReq (tid index sub offset count : Nat) (data : List Byte) : MgmtReq :=
  { op := 6, tid := tid, index := index, sub := sub, arg := offset, count := count, data := data,
    lengthOk := decide (data.length = count) }

@[simp] theorem segmentWriteReq_arg (tid index sub offset count : Nat) (data : List Byte) :
    (segmentWriteReq tid index sub offset count data).arg = offset := rfl
@[simp] theorem segmentWriteReq_data (tid index sub offset count : Nat) (data : List Byte) :
    (segmentWriteReq tid index sub offset count data).data = data := rfl

/-- A segment of a write that is no load of firmware: out of order or too long, the last one, or one between (R343). -/
theorem segmentWrite_plain {q : Path} {r : MgmtReq} {o : Obj} {s : State} {x : Xfer} (h : s.segmentOf q r = .ok x)
    (hf : x.code ≠ Code.fwImage) :
    segmentWrite q r o s =
      let bs := x.data ++ r.data
      let t := s.modPath q (fun y => { y with xfer := some { x with data := bs, lastSeg := s.time.tick } })
      if r.arg ≠ x.data.length ∨ x.length < bs.length then (.error Abort.segment, endTransfer q s)
      else if bs.length = x.length then
        (if contentOk o bs then (.ok (segmentHead r r.count), storeDomain x.code x.inst bs (endTransfer q t))
         else (.error Abort.content, s))
      else (.ok (segmentHead r r.count), t) := by
  simp [segmentWrite, h, hf]

/-! ## The response of a request behind its effect -/

/-- An answer stands on its path behind the collector's work, where the SPI took up the request (R350, R356). -/
theorem collect_holds {q : Path} {r : MgmtReq} {u s : State} {y : Reply} {bytes : List Byte} (hr : r.silent = false)
    (hspi : u.spi = (s.arrived q).spi) (hb : responseBytes r y = bytes) :
    (collect ((answer q r y u).counted q)).Holds q bytes :=
  hb ▸ holds_collect (holds_counted (answer_holds y hr (fun h => by rw [hspi]; exact arrived_abandoned s h)))

end Sys2Proof.Machine

namespace Sys2Proof.Proofs

open Machine

/-- Settles O16: the init opens a transfer on a copy of the content, and the segments come from that copy. -/
theorem domainReadsComeFromOneCopy : Obligations.DomainReadsComeFromOneCopy := by
  refine ⟨fun q tid index sub s o hs hx ho hsel herr => ?init,
    fun q tid index sub offset count s o x hs ho hx hi hsub hw h1 h2 hlt => ?segment⟩
  all_goals rw [← checkObject_congr (s.arrived_lc q)] at ho
  case init =>
    intro bytes
    have hex := (execute_domainRead (q := q) rfl rfl ho).trans (domainRead_copy hsel (by simpa using herr))
    rw [replaceTransfer_none _ (by simpa using hx)] at hex
    refine ⟨_, run_request hs (by simp [MayWrite]) hex (by simp), ?_, ?_, ?_, ?_, ?_, ?_, ?_⟩
    · exact collect_holds (s := s) rfl (by simp) (by simp [responseBytes, bytes])
    · simp [autoStep_path, bytes]
    · simp [autoStep_path]
    · intro q' hq
      simp [autoStep_path_ne hq, State.path_modPath_ne hq]
    all_goals simp
  case segment =>
    intro bytes
    have hseg : (s.arrived q).segmentOf q
        { op := 5, tid := tid, index := index, sub := sub, arg := offset, count := count } = .ok x :=
      segmentOf_ok h1 h2 (by simpa using hx) hi hsub hw
    have hex := (execute_segmentRead rfl rfl ho).trans (segmentRead_inside hseg hlt)
    refine ⟨_, run_request hs (by simp [MayWrite]) hex (by simp), ?_, ?_, ?_, ?_, ?_, ?_⟩
    · exact collect_holds (s := s) rfl (by simp) (by simp [responseBytes, segmentHead, bytes])
    · simp
    · intro q' hq
      simp [State.path_modPath_ne hq]
    all_goals simp

/-- Settles O17: the init opens the transfer; a segment in order adds to it, the last one stores its content, and any other ends
it. -/
theorem domainWritesTakeEffectWhole : Obligations.DomainWritesTakeEffectWhole := by
  refine ⟨fun q tid index sub length s o hs ho hx hlen hrule hf hg => ?init,
    fun q tid index sub offset count data s o x hs ho hx hi hsub hw hf hg h1 h2 hcount => ?segment⟩
  all_goals rw [← checkObject_congr (s.arrived_lc q)] at ho
  case init =>
    have hex := (execute_domainWrite (q := q) rfl rfl ho).trans (domainWrite_accepted hlen hrule hf)
    rw [replaceTransfer_none _ (by simpa using hx), replaceTransfer_none _ (by simpa using hx), storeDomain_plain hg] at hex
    refine ⟨_, run_request hs (by simp [MayWrite]) hex (by split <;> simp), ?_, fun h => ?_, fun h => ?_⟩
    · exact collect_holds (s := s) rfl (by split <;> simp) (by simp [responseBytes])
    · simp [show length ≠ 0 by omega]
    · subst h
      simp
  case segment =>
    have hseg : (s.arrived q).segmentOf q (segmentWriteReq tid index sub offset count data) = .ok x :=
      segmentOf_ok h1 h2 (by simpa using hx) hi hsub hw
    have hex := (execute_segmentWrite (r := segmentWriteReq tid index sub offset count data) (q := q) rfl
      (by simpa [segmentWriteReq] using hcount) ho).trans (segmentWrite_plain hseg hf)
    have hplain := endTransfer_plain (q := q) (s := s.arrived q) (by simpa using hx) hf
    simp only [segmentWriteReq_arg, segmentWriteReq_data, List.length_append, hcount, hplain, storeDomain_plain hg] at hex
    have hrun := fun y u (h : execute q (segmentWriteReq tid index sub offset count data) (s.arrived q) = (y, u)) =>
      run_request (y := y) (u := u) hs (by simp [MayWrite, segmentWriteReq]) h
    by_cases hbad : offset ≠ x.data.length ∨ x.length < x.data.length + count
    case pos =>
      refine ⟨_, hrun _ _ (hex.trans (if_pos hbad)) (by simp), fun _ _ => by omega, fun _ _ => by omega, fun _ => ⟨?_, ?_, ?_, ?_⟩⟩
      · simp
      · simp
      · simp
      · exact collect_holds (s := s) rfl (by simp) (by simp [responseBytes, segmentWriteReq, abortBytes])
    case neg =>
      rw [if_neg hbad] at hex
      by_cases hlast : x.data.length + count = x.length
      case neg =>
        refine ⟨_, hrun _ _ (hex.trans (if_neg hlast)) (by simp), fun _ _ => ?_, fun _ _ => by omega, fun _ => by omega⟩
        simp
      case pos =>
        rw [if_pos hlast] at hex
        by_cases hok : contentOk o (x.data ++ data) = true
        case neg =>
          exact ⟨_, hrun _ _ (hex.trans (if_neg hok)) (by simp), fun _ _ => by omega, fun _ _ h => absurd h hok, fun _ => by omega⟩
        case pos =>
          have hend : (((s.arrived q).modPath q (fun y => { y with
              xfer := some { x with data := x.data ++ data, lastSeg := (s.arrived q).time.tick } })).path q).xfer =
              some { x with data := x.data ++ data, lastSeg := (s.arrived q).time.tick } := by simp
          rw [endTransfer_plain hend hf] at hex
          refine ⟨_, hrun _ _ (hex.trans (if_pos hok)) (by simp), fun _ _ => by omega, fun _ _ _ => ⟨?_, ?_, ?_⟩, fun _ => by omega⟩
          · simp
          · simp
          · exact collect_holds (s := s) rfl (by simp)
              (by simp [responseBytes, segmentWriteReq, segmentHead])

/-- Settles O18: DOMAIN_END forgets the transfer's address, the time-out remembers it, and a segment behind either is
aborted. -/
theorem transfersEnd : Obligations.TransfersEnd := by
  refine ⟨fun q tid index sub s o hs ho => ?close, fun q s x hs hx ht => ?timeout,
    fun q tid index sub offset count s o hs ho hx h1 h2 => ?none⟩
  case close =>
    rw [← checkObject_congr (s.arrived_lc q)] at ho
    have hex := execute_domainEnd (q := q) rfl rfl ho
    refine ⟨_, run_request hs (by simp [MayWrite]) hex (by simp [closeTransfer]), ?_, ?_, ?_, ?_⟩
    · simp [closeTransfer, endTransfer_xfer]
    · simp [closeTransfer]
    · simp [closeTransfer]
    · intro q' hq
      simp [closeTransfer, State.path_modPath_ne hq, endTransfer_path_ne hq]
  case timeout =>
    have hend : transferTimeout q s = endTransfer q s := by
      have he : s.elapsed x.lastSeg (10 * secondTicks) = true := decide_eq_true ht
      simp [transferTimeout, hx, he]
    refine ⟨_, (run_running _ hs.1).trans (by rw [hend]), ?_, ?_, ?_, ?_⟩
    · simp [endTransfer_path hx]
    · simp [endTransfer_path hx]
    · simp
    · intro q' hq
      simp [endTransfer_path_ne hq]
  case none =>
    rw [← checkObject_congr (s.arrived_lc q)] at ho
    have hseg := segmentOf_none (q := q) (s := s.arrived q)
      (r := { op := 5, tid := tid, index := index, sub := sub, arg := offset, count := count }) h1 h2 (by simpa using hx)
    have hex := (execute_segmentRead (q := q) rfl rfl ho).trans (show segmentRead q _ (s.arrived q) = _ by
      rw [segmentRead, hseg])
    obtain ⟨t, ht, hon, hh⟩ := request_aborted hs rfl hex
    refine ⟨t, ht, hon, ?_⟩
    simpa [responseBytes, abortBytes] using hh

end Sys2Proof.Proofs

/-! PROOFS. The management SPI: its transactions, and what tells a SEND's message from the command of its name. -/

namespace Sys2Proof.Machine

/-! ## Transactions -/

theorem spiTransaction_status (n : Nat) (s : State) :
    spiTransaction (0x00#8 :: List.replicate n 0) s = spiStatusCmd n s := by
  simp [spiTransaction]

theorem spiTransaction_fetch (n : Nat) (s : State) : spiTransaction (0x02#8 :: List.replicate n 0) s = spiFetch n s := by
  simp [spiTransaction]

theorem spiTransaction_abandon (n : Nat) (s : State) :
    spiTransaction (0x03#8 :: List.replicate n 0) s = spiAbandon n s := by
  simp [spiTransaction]

theorem spiTransaction_unknown {b : Byte} (h : 3 < b.toNat) (hb : b ≠ 0xFF#8) (n : Nat) (s : State) :
    spiTransaction (b :: List.replicate n 0) s = spiUnknown n s := by
  have hne : ∀ c : Byte, c.toNat ≤ 3 → b ≠ c := fun c hc e => by subst e; omega
  simp [spiTransaction, hb, hne 0x00#8 (by decide), hne 0x01#8 (by decide), hne 0x02#8 (by decide), hne 0x03#8 (by decide)]

/-- Abandoning a response with no transfer open touches the SPI alone (R356). -/
theorem spiAbandon_none {n : Nat} {s : State} (h : (s.path .spi).xfer = none) :
    spiAbandon n s = { s with spi := { s.spi with
      miso := s.spiStatus :: List.replicate n 0, held := none, rej := false, abandoned := s.spi.busy } } := by
  unfold spiAbandon
  rw [endTransfer_none h]
  rfl

/-- Abandoning with a transfer open ends it and keeps the address that R344 remembers (R356). -/
theorem spiAbandon_open {n : Nat} {s : State} {x : Xfer} (h : (s.path .spi).xfer = some x) (hf : x.code ≠ Code.fwImage) :
    spiAbandon n s = { s with
      spi := { s.spi with miso := s.spiStatus :: List.replicate n 0, held := none, rej := false, abandoned := s.spi.busy }
      mgmt := { s.mgmt with spi := { s.mgmt.spi with xfer := none } } } := by
  unfold spiAbandon
  rw [endTransfer_plain h hf]
  rfl

/-- A command that leaves the faults alone ends without a raise (R404). -/
theorem run_quiet {f : State → State} {s : State} (hs : s.Ready) (hf : (f s).faults = s.faults) :
    run f s = .next (f s) := by
  obtain ⟨hcore, hdue, hnext, hacked⟩ := hs
  rw [run_running f hcore, collect_nil (hf ▸ hdue) (hf ▸ hnext) (hf ▸ hacked)]

/-! ## The request of a message -/

/-- The message of a WRITE of 10000h to 1010.01: bytes 12 and 13, a count in other messages, are 0001h in it (R331). -/
def countedWrite : List Byte := [0x02#8, byteOf 7, 0, 0] ++ addressBytes 0x1010 1 0 ++ beBytes 8 65536

/-- The SEND that carries it (R355). -/
def countedSend : List Byte :=
  beBytes 2 countedWrite.length ++ countedWrite ++ beBytes 2 (spiCrc (beBytes 2 countedWrite.length ++ countedWrite)).toNat

/-- The counts of the requests that wait behind a command (R363). -/
def waitingCounts (o : Host.Outcome State Fault Refusal) : List Nat :=
  match o with
  | .next t => t.mgmt.waiting.map (fun e => e.2.count)
  | _ => []

/-- The state in which the WRITE of countedWrite is compared with its SEND: after reset, with what the SEND left on MSPI_DO. -/
def sentAtReset : State :=
  { State.reset with spi := { State.reset.spi with
      miso := State.reset.spiStatus :: List.replicate countedSend.length 0 } }

theorem sendMessage_countedSend : sendMessage countedSend = some countedWrite := by decide +kernel

/-- While the controller is in reset, the message waits with the count that its bytes spell. -/
theorem waitingCounts_send : waitingCounts (exec (.spiSend countedSend) State.reset) = [1] := by decide +kernel

/-- The WRITE of the table waits with none. -/
theorem waitingCounts_write : waitingCounts (exec (.write .spi 7 0x1010 1 65536) sentAtReset) = [0] := by decide +kernel

end Sys2Proof.Machine

namespace Sys2Proof.Proofs

open Machine

/-- Settles O19, transaction by transaction. -/
theorem spiTransactions : Obligations.SpiTransactions := by
  refine ⟨fun n s hs => ?status, fun n s hs => ?fetch, fun n s hs h => ?abandon, fun n s x hs h hf => ?abandonOpen,
    fun b n s hs h hb => ?unknown, fun b n s hs hb => ?known⟩
  case status => exact (run_quiet hs (by rw [spiTransaction_status]; rfl)).trans (by
    rw [spiTransaction_status]; rfl)
  case fetch => exact (run_quiet hs (by rw [spiTransaction_fetch]; rfl)).trans (by
    rw [spiTransaction_fetch]; rfl)
  case abandon => exact (run_quiet hs (by rw [spiTransaction_abandon, spiAbandon_none h])).trans (by
    rw [spiTransaction_abandon, spiAbandon_none h])
  case abandonOpen => exact (run_quiet hs (by rw [spiTransaction_abandon, spiAbandon_open h hf])).trans (by
    rw [spiTransaction_abandon, spiAbandon_open h hf])
  case unknown => exact (run_quiet hs (by rw [spiTransaction_unknown h hb]; rfl)).trans (by
    rw [spiTransaction_unknown h hb]; rfl)
  case known =>
    have hcases : b = 0x00#8 ∨ b = 0x01#8 ∨ b = 0x02#8 ∨ b = 0x03#8 ∨ b = 0xFF#8 := by
      revert b
      decide
    rcases hcases with rfl | rfl | rfl | rfl | rfl <;> rfl

/-- Refutes O20: the message of a WRITE is read with the count that its bytes 12 and 13 spell, and while the controller is in
reset the request waits as it was read: after reset the SEND of a WRITE of 10000h leaves another queue than the WRITE. -/
theorem not_spiSendRunsItsMessage : ¬ Obligations.SpiSendRunsItsMessage := by
  rintro ⟨-, -, ⟨h, -⟩, -⟩
  have hsend : exec (.spiSend countedSend) State.reset = exec (.write .spi 7 0x1010 1 65536) sentAtReset :=
    ((h countedSend 7 State.reset rfl (by decide)).2 0x1010 1 (by decide) (by decide)).2 65536 (by decide)
      sendMessage_countedSend
  have hcount := congrArg waitingCounts hsend
  rw [waitingCounts_send, waitingCounts_write] at hcount
  exact absurd hcount (by decide)

end Sys2Proof.Proofs

/-! PROOFS. The statement about plain settings and counters, which a selector out of range refutes. -/

namespace Sys2Proof.Machine

/-! ## A selector that no port has -/

/-- Link A's path with a selector of a port so high that the counter of its first port event has the key of link A's
FRAMES_IN: no check of a WRITE looks at a port selector's range (R340, R341). -/
def farSelector : State :=
  { State.reset with mgmt := { State.reset.mgmt with
      mcReset := false, oxlA := { State.reset.mgmt.oxlA with selPort := (Code.framesIn - 0x304101) * 2 ^ 24 } } }

/-- The row of the first event counter of a port (R374). -/
def portCounter : Obj := ⟨0x304101, .u32, .rw1c, .port, 0, 1, 0⟩

/-- A working value behind a command. -/
def valueAfter (o : Host.Outcome State Fault Refusal) (code inst : Nat) : Option Int :=
  match o with
  | .next t => some (t.reg code inst)
  | _ => none

theorem farSelector_accepts : farSelector.Accepts .oxlA (addressCode 0x3041 1) 1 portCounter 1 :=
  ⟨⟨by decide +kernel, by decide +kernel, by decide +kernel, by simp⟩, by decide +kernel, by decide +kernel, by decide +kernel,
    by decide +kernel, by decide +kernel⟩

/-- The counter that was cleared reads the frame of its own clear. -/
theorem farSelector_clear :
    valueAfter (exec (.clearCounter .oxlA 0 0x3041 1 1) farSelector) 0x304101 (farSelector.instOf .oxlA .port) = some 1 := by
  decide +kernel

end Sys2Proof.Machine

namespace Sys2Proof.Proofs

open Machine

/-- Refutes O22: the statement speaks of every state, and in one whose port selector is (600107h − 304101h) · 2^24 the cleared
counter of a port and FRAMES_IN of link A are one entry of the value table, so that the counter reads 1 behind its clear. -/
theorem not_settingsAndCountersAreWritten : ¬ Obligations.SettingsAndCountersAreWritten := by
  rintro ⟨-, h⟩
  obtain ⟨t, ht, -, -, hone⟩ := h .oxlA 0 0x3041 1 1 farSelector portCounter 1 (by decide) (by decide) farSelector_accepts rfl
  have hread := farSelector_clear
  rw [ht] at hread
  have hzero : t.reg 0x304101 (farSelector.instOf .oxlA .port) = 0 := (hone rfl).trans (if_neg (by decide))
  exact absurd (hzero.symm.trans (Option.some.inj hread)) (by decide)

end Sys2Proof.Proofs

/-! PROOFS. Accepted writes by the row of their object: what a write leaves that touches neither the links nor the faults, and
the statement about the objects of a path. -/

namespace Sys2Proof.Machine

/-! ## The row of an accepted write, and what it leaves -/

/-- The object of a write that passes every check is the dictionary's row of its code (R361). -/
theorem State.Accepts.row {s : State} {q : Path} {code value : Nat} {o : Obj} {v : Int} (h : s.Accepts q code value o v) :
    findObj code = some o := by
  obtain ⟨-, ho, hcode, -⟩ := h
  cases hf : findObj code with
  | none => rw [writeReq, checkObject_write_missing (by rw [hcode, hf])] at ho; cases ho
  | some o' =>
    rw [writeReq, checkObject_write (o := o') (by rw [hcode, hf])] at ho
    by_cases h1 : indexAvailable s.lc (code / 256) = false
    · rw [if_pos h1] at ho; cases ho
    · split_ifs at ho
      exact congrArg some (Except.ok.inj ho)

theorem State.Accepts.obj {s : State} {q : Path} {code value : Nat} {o o' : Obj} {v : Int} (h : s.Accepts q code value o v)
    (hf : findObj code = some o') : o = o' :=
  Option.some.inj (h.row.symm.trans hf)

@[simp] theorem responseBytes_writeReq (tid code value : Nat) :
    responseBytes (writeReq tid code value) (.ok (addressBytes (code / 256) (code % 256) 0)) = writeDone tid code := by
  simp [responseBytes, writeReq, writeDone, byteOf]

/-- What an accepted write leaves that touches neither the links nor the faults: its effect and its answer (R332, R335). -/
theorem exec_accepted {i : Instr} {s u : State} {q : Path} {tid code value : Nat} {o : Obj} {v : Int}
    (hi : hostWriteOf i = some (q, tid, code, value)) (hacc : s.Accepts q code value o v)
    (hw : hostWrite q o code (s.instOf q o.scope) v (masterOf q) (s.arrived q) = u) (hl : u.oxl = s.oxl)
    (hf : u.faults = s.faults) :
    exec i s = .next ((answer q (writeReq tid code value) (.ok (addressBytes (code / 256) (code % 256) 0)) u).counted q) := by
  rw [Proofs.acceptedWritesRun i s q tid code value o v hi hacc]
  simp only [hw, linkGone_of_oxl (hl.trans (State.arrived_oxl s q).symm)]
  rw [collect_answered hacc.1.1 hf]
  rfl

/-- Such a write whose effect leaves the SPI alone as well is answered, and nothing but its effect and its answer is left. -/
theorem exec_accepted_onlyAnswered {i : Instr} {s u : State} {q : Path} {tid code value : Nat} {o : Obj} {v : Int}
    (hi : hostWriteOf i = some (q, tid, code, value)) (hacc : s.Accepts q code value o v)
    (hw : hostWrite q o code (s.instOf q o.scope) v (masterOf q) (s.arrived q) = u.arrived q) (hl : u.oxl = s.oxl)
    (hf : u.faults = s.faults) :
    ∃ t : State, exec i s = .next t ∧ t.Holds q (writeDone tid code) ∧ t.OnlyAnswered u ∧ t.mgmt = u.mgmt ∧ t.arch = u.arch := by
  refine ⟨_, exec_accepted hi hacc hw (by simpa using hl) (by simpa using hf), ?_, onlyAnswered_answer u q _ _, by simp, by simp⟩
  simpa using holds_counted (answer_holds (q := q) (r := writeReq tid code value)
    (.ok (addressBytes (code / 256) (code % 256) 0)) rfl (arrived_abandoned u))

/-! ## The objects of a path -/

theorem State.setPath_arrived (s : State) (q : Path) (x : PathSt) : (s.arrived q).setPath q x = (s.setPath q x).arrived q := by
  cases q <;> rfl

theorem State.path_setPath_ne {q q' : Path} (h : q' ≠ q) (s : State) (x : PathSt) : (s.setPath q x).path q' = s.path q' := by
  cases q <;> cases q' <;> first | rfl | exact absurd rfl h

/-- A path object that reads and writes is set by its write (R336). -/
theorem hostWrite_path {q : Path} {o : Obj} {code inst : Nat} {v : Int} {master : Nat} {s : State} (ha : o.acc = .rw)
    (hsc : o.scope = .path) : hostWrite q o code inst v master s = writePath q code v.toNat s := by
  simp [hostWrite, ha, hsc]

/-- The rows of the objects that a path has for itself (R289, R340). -/
def isPathObject (code : Nat) : Bool :=
  match findObj code with
  | some o => o.acc == .rw && o.scope == .path
  | none => false

/-- A write of a path's own object sets what the path holds of it (R340). -/
theorem pathWrite_sets {i : Instr} {s : State} {q : Path} {tid code value : Nat} {o : Obj} {v : Int} {y : PathSt}
    (hi : hostWriteOf i = some (q, tid, code, value)) (hacc : s.Accepts q code value o v) (hp : isPathObject code = true)
    (hy : writePath q code v.toNat (s.arrived q) = (s.arrived q).setPath q y) :
    ∃ t : State, exec i s = .next t ∧ t.Holds q (writeDone tid code) ∧ t.OnlyAnswered (s.setPath q y) := by
  simp only [isPathObject, hacc.row, Bool.and_eq_true, beq_iff_eq] at hp
  obtain ⟨hrw, hsc⟩ := hp
  obtain ⟨t, ht, hh, ha, -⟩ := exec_accepted_onlyAnswered (u := s.setPath q y) hi hacc
    (by rw [hostWrite_path hrw hsc, hy, State.setPath_arrived]) (by simp) (by simp)
  exact ⟨t, ht, hh, ha⟩

/-! ## A search of the drive -/

/-- The row of FIND_GO (R289). -/
def findGoRow : Obj := ⟨0x581005, .bool, .wo, .path, 0, 1, 0⟩

theorem findObj_findGo : findObj Code.findGo = some findGoRow := by decide +kernel

/-- Whether a read of the drive for a path's search is outstanding or waits for an identifier (R269, R289). -/
def ArchSt.searches (a : ArchSt) (q : Path) : Prop :=
  a.inFlight.any (fun y => findsFor q y.job) = true ∨ a.toIssue.any (fun y => findsFor q y.2) = true

/-- A search that begins has a read outstanding or waiting, and changes nothing else (R269, R289). -/
theorem startFind_arch (q : Path) (s : State) :
    ∃ a : ArchSt, startFind q s = { s with arch := a } ∧ a.searches q ∧
      { a with inFlight := s.arch.inFlight, toIssue := s.arch.toIssue } = s.arch := by
  unfold startFind
  split
  next h => exact ⟨s.arch, rfl, by simpa [ArchSt.searches] using h, rfl⟩
  next =>
    unfold issue
    split
    next => exact ⟨_, rfl, .inl (by simp [findsFor]), rfl⟩
    next => exact ⟨_, rfl, .inr (by simp [findsFor]), rfl⟩

theorem hostWrite_findGo (q : Path) (inst : Nat) (master : Nat) (s : State) :
    hostWrite q findGoRow Code.findGo inst 1 master s = startFind q (s.setPath q { s.path q with findState := 1 }) := rfl

end Sys2Proof.Machine

namespace Sys2Proof.Proofs

open Machine

/-- Settles O23: a write of a path's object sets that object, and FIND_GO issues the first read of its search. -/
theorem pathObjectsArePrivate : Obligations.PathObjectsArePrivate := by
  intro i s q tid code value o v hi hacc
  have hset : ∀ y, isPathObject code = true → writePath q code v.toNat (s.arrived q) = (s.arrived q).setPath q y →
      ∃ t : State, exec i s = .next t ∧ t.Holds q (writeDone tid code) ∧ t.OnlyAnswered (s.setPath q y) :=
    fun _ => pathWrite_sets hi hacc
  have hx : (s.arrived q).path q = s.path q := by simp
  refine ⟨?_, ?_, ?_, ?_, ?_, ?_, ?_, ?_, ?_, ?go⟩
  case go =>
    rintro rfl rfl
    obtain rfl := hacc.obj findObj_findGo
    obtain ⟨a, ha, hfinds, hrest⟩ := startFind_arch q ((s.setPath q { s.path q with findState := 1 }).arrived q)
    have hw := hostWrite_findGo q (s.instOf q findGoRow.scope) (masterOf q) (s.arrived q)
    rw [hx, State.setPath_arrived, ha] at hw
    obtain ⟨t, ht, hh, honly, hmgmt, harch⟩ := exec_accepted_onlyAnswered
      (u := { s.setPath q { s.path q with findState := 1 } with arch := a }) hi hacc (hw.trans (by cases q <;> rfl))
      (by simp) (by simp)
    refine ⟨t, ht, hh, ?_, fun q' hq' => ?_, ?_, ?_, ?_⟩
    · rw [path_congr hmgmt]; exact State.path_setPath s q _
    · rw [path_congr hmgmt]; exact State.path_setPath_ne hq' s _
    · rw [harch]; exact hfinds
    · rw [harch]; simpa using hrest
    · rw [harch]; exact honly
  all_goals (rintro rfl; exact hset _ (by decide +kernel) (by rw [← hx]; rfl))

end Sys2Proof.Proofs

/-! PROOFS. The statement about commits, which a failed commit beside a stale set refutes. -/

namespace Sys2Proof.Machine

/-- The set whose marker's program fails. -/
def markedSet : CommitSet := { seq := 3, time := 0, regs := [], doms := [] }

/-- A commit about to end, a further one set, and in the slot that it is written to a set older than the current one. -/
def staleCommit : State :=
  { State.reset with nvm := { State.reset.nvm with
      slotA := some { seq := 2, time := 0, regs := [], doms := [] }
      slotB := some { seq := 1, time := 0, regs := [], doms := [] }
      writing := some markedSet, op := some .commit, pages := setPages [], further := true } }

theorem staleCommit_pages : staleCommit.nvm.pages = setPages markedSet.doms := by
  simp only [staleCommit, markedSet]

theorem staleCommit_older (a : CommitSet) (h : staleCommit.currentSet = some a) : a.seq < markedSet.seq := by
  have : staleCommit.currentSet = some { seq := 2, time := 0, regs := [], doms := [] } := rfl
  rw [this] at h
  cases h
  decide

/-- Whether a set stands in slot B behind a command. -/
def slotBStands (o : Host.Outcome State Fault Refusal) : Bool :=
  match o with
  | .next t => t.nvm.slotB.isSome
  | _ => false

/-- The further commit erases its slot first. -/
theorem staleCommit_fails : slotBStands (exec (.commitSetCurrent false) staleCommit) = false := by decide +kernel

end Sys2Proof.Machine

namespace Sys2Proof.Proofs

open Machine

/-- Refutes O24: where a further COMMIT is set, it starts as the marker's program fails, and begins with the erase of the slot
that is not current: a set that stands there is gone, although the statement keeps both slots. -/
theorem not_commitTakesTheSettings : ¬ Obligations.CommitTakesTheSettings := by
  rintro ⟨-, h, -⟩
  obtain ⟨-, t, ht, -, hslotB, -⟩ := h staleCommit markedSet ⟨by decide +kernel, rfl, rfl, rfl⟩ rfl rfl staleCommit_pages staleCommit_older
  have hgone := staleCommit_fails
  rw [ht, slotBStands, hslotB] at hgone
  exact absurd hgone (by decide)

end Sys2Proof.Proofs

/-! PROOFS. DEFAULTS and REVERT where every setting in question is read or latched where it applies: each value of the joint
write is taken or kept on its own, so that the fold over the settings says what every one of them is behind it (R349). -/

namespace Sys2Proof.Machine

/-! ## Tables of values -/

theorem objKey_key (k : Nat) : objKey (keyCode k) (keyInst k) = k := by
  unfold objKey keyCode keyInst; omega

theorem keyCode_objKey {code inst : Nat} (h : inst < 2 ^ 24) : keyCode (objKey code inst) = code := by
  unfold objKey keyCode; omega

theorem keyInst_objKey {code inst : Nat} (h : inst < 2 ^ 24) : keyInst (objKey code inst) = inst := by
  unfold objKey keyInst; omega

theorem Tab.find_filter {α : Type} (t : Tab α) (p : Nat → Bool) (k : Nat) :
    Tab.find (t.filter (fun e => p e.1)) k = if p k then Tab.find t k else none := by
  induction t with
  | nil => simp
  | cons e rest ih =>
    obtain ⟨j, v⟩ := e
    rw [List.filter_cons]
    by_cases hj : p j = true
    · rw [if_pos hj]
      by_cases hk : j = k
      · subst hk; simp [Tab.find, hj]
      · simp only [Tab.find, hk, if_false, ih]
    · rw [if_neg hj, ih]
      by_cases hk : j = k
      · subst hk; simp [hj]
      · simp [Tab.find, hk]

theorem Tab.mem_of_find {α : Type} {t : Tab α} {k : Nat} {v : α} (h : Tab.find t k = some v) : (k, v) ∈ t := by
  induction t with
  | nil => simp at h
  | cons e rest ih =>
    obtain ⟨j, w⟩ := e
    by_cases hj : j = k
    · simp_all [Tab.find]
    · exact List.mem_cons_of_mem _ (ih (by simpa [Tab.find, hj] using h))

theorem Tab.find_of_mem {α : Type} {t : Tab α} {e : Nat × α} (h : e ∈ t) : Tab.find t e.1 ≠ none := by
  induction t with
  | nil => simp at h
  | cons x rest ih =>
    obtain ⟨j, w⟩ := x
    by_cases hj : j = e.1
    · simp [Tab.find, hj]
    · have hne : e ≠ (j, w) := by rintro rfl; exact hj rfl
      simpa [Tab.find, hj] using ih ((List.mem_cons.mp h).resolve_left hne)

theorem State.find_rwpRegs (s : State) (k : Nat) :
    Tab.find s.rwpRegs k = if isRwp (keyCode k) then Tab.find s.regs k else none :=
  Tab.find_filter s.regs (fun j => isRwp (keyCode j)) k

/-! ## One value of a joint write -/

/-- The change that a joint write makes of one value: the value of its set, or the default. -/
def jointChange (e : Nat × Option Int) (t : State) : State :=
  match e.2 with
  | some v => t.setReg (keyCode e.1) (keyInst e.1) v
  | none => clearReg (keyCode e.1) (keyInst e.1) t

theorem jointChange_frame (e : Nat × Option Int) (s : State) : { jointChange e s with regs := s.regs } = s := by
  unfold jointChange; split <;> rfl

@[simp] theorem jointChange_time (e : Nat × Option Int) (s : State) : (jointChange e s).time = s.time :=
  (congrArg State.time (jointChange_frame e s) :)

theorem jointChange_find (e : Nat × Option Int) (s : State) (k : Nat) :
    Tab.find (jointChange e s).regs k = if k = e.1 then e.2 else Tab.find s.regs k := by
  unfold jointChange
  split
  next v hv => simp [State.setReg, objKey_key, Tab.find_put, hv]
  next hv =>
    have := Tab.find_filter s.regs (fun j => j != e.1) k
    by_cases hk : k = e.1 <;> simp_all [clearReg, objKey_key]

/-- What an object that is not ROLL_CALL reads: what was written, or its default (R336). -/
theorem State.reg_plain {s : State} {code inst : Nat} (h : code ≠ Code.rollCall) :
    s.reg code inst = (Tab.find s.regs (objKey code inst)).getD (plainDefault code inst s.time.n) := by
  unfold State.reg State.regWritten
  cases Tab.find s.regs (objKey code inst) <;> simp [h]

/-- Whether a joint write is refused a value by the settings that it forms (R349). -/
def jointRefused (form now : State) (code inst : Nat) : Bool :=
  form.settingOutside (rowCode code) inst || now.settingRefused form true code (rowCode code) inst

/-- A setting that is read or latched where it applies takes its value by the write of it alone. -/
theorem takeSetting_latched {rc : Nat} (h : actsAtOnce rc = false) (code inst : Nat) (v : Int) (change : State → State)
    (s : State) : takeSetting code rc inst v change s = change s := by
  simp only [actsAtOnce, List.contains_eq_mem, List.mem_cons, List.not_mem_nil, or_false, decide_eq_false_iff_not, not_or] at h
  simp [takeSetting, h]

theorem not_rollCall_of_latched {code : Nat} (h : actsAtOnce (rowCode code) = false) : code ≠ Code.rollCall := by
  rintro rfl
  exact absurd h (by decide)

/-- One value of a joint write: kept where it would change and the formed settings refuse it, else taken (R349). -/
theorem jointValue_latched {e : Nat × Option Int} (h : actsAtOnce (rowCode (keyCode e.1)) = false) (form now s : State) :
    jointValue form now e s =
      if e.2.getD (plainDefault (keyCode e.1) (keyInst e.1) s.time.n) ≠ s.reg (keyCode e.1) (keyInst e.1) ∧
          jointRefused form now (keyCode e.1) (keyInst e.1) = true
        then s else jointChange e s := by
  have hv : (jointChange e s).reg (keyCode e.1) (keyInst e.1) =
      e.2.getD (plainDefault (keyCode e.1) (keyInst e.1) s.time.n) := by
    rw [State.reg_plain (not_rollCall_of_latched h), jointChange_find, objKey_key, if_pos rfl, jointChange_time]
  rw [← hv]
  change (if (jointChange e s).reg _ _ = s.reg _ _ then jointChange e s
    else if jointRefused form now (keyCode e.1) (keyInst e.1) = true then s
    else takeSetting _ _ _ _ (jointChange e) s) = _
  rw [takeSetting_latched h]
  by_cases h1 : (jointChange e s).reg (keyCode e.1) (keyInst e.1) = s.reg (keyCode e.1) (keyInst e.1) <;>
    by_cases h2 : jointRefused form now (keyCode e.1) (keyInst e.1) = true <;> simp [h1, h2]

/-! ## All values of a joint write -/

/-- What a key holds behind a joint write that brings it the value `w`, if the check of the formed settings lets it (R349). -/
def jointResult (form now s : State) (k : Nat) (w : Option Int) : Option Int :=
  if w.getD (plainDefault (keyCode k) (keyInst k) s.time.n) ≠ s.reg (keyCode k) (keyInst k) ∧
      jointRefused form now (keyCode k) (keyInst k) = true
    then Tab.find s.regs k else w

/-- One value brings its key to its result, whether the key holds its first value yet or its result already. -/
theorem jointValue_find {s0 s : State} {e : Nat × Option Int} (form now : State)
    (h : actsAtOnce (rowCode (keyCode e.1)) = false) (ht : s.time = s0.time)
    (hk : Tab.find s.regs e.1 = Tab.find s0.regs e.1 ∨ Tab.find s.regs e.1 = jointResult form now s0 e.1 e.2) (k : Nat) :
    Tab.find (jointValue form now e s).regs k =
      if k = e.1 then jointResult form now s0 e.1 e.2 else Tab.find s.regs k := by
  have hne := not_rollCall_of_latched h
  rw [jointValue_latched h, ht]
  have hcase : Tab.find s.regs e.1 = Tab.find s0.regs e.1 ∨ (Tab.find s.regs e.1 = e.2 ∧ jointResult form now s0 e.1 e.2 = e.2) := by
    unfold jointResult at hk ⊢
    split_ifs at hk ⊢ with hc
    · exact .inl (hk.elim id id)
    · exact hk.imp id (fun h => ⟨h, rfl⟩)
  rcases hcase with hsame | ⟨hdone, hres⟩
  · have hreg : s.reg (keyCode e.1) (keyInst e.1) = s0.reg (keyCode e.1) (keyInst e.1) := by
      rw [State.reg_plain hne, State.reg_plain hne, objKey_key, hsame, ht]
    rw [hreg]
    unfold jointResult
    split_ifs with hc hk hk
    · rw [hk, hsame]
    · rfl
    · rw [jointChange_find, if_pos hk]
    · rw [jointChange_find, if_neg hk]
  · have hreg : s.reg (keyCode e.1) (keyInst e.1) = e.2.getD (plainDefault (keyCode e.1) (keyInst e.1) s0.time.n) := by
      rw [State.reg_plain hne, objKey_key, hdone, ht]
    rw [if_neg (fun hc => hc.1 hreg.symm), jointChange_find, hres]

theorem jointValue_frame {e : Nat × Option Int} (form now s : State) (h : actsAtOnce (rowCode (keyCode e.1)) = false) :
    { jointValue form now e s with regs := s.regs } = s := by
  rw [jointValue_latched h]
  split_ifs
  · rfl
  · exact jointChange_frame e s

/-- The fold of a joint write changes working values alone, and brings each of its keys to its result. -/
theorem forAll_jointValue (form now s0 : State) (es : List (Nat × Option Int)) (s : State)
    (hlatched : ∀ e ∈ es, actsAtOnce (rowCode (keyCode e.1)) = false)
    (hwant : ∀ e ∈ es, ∀ e' ∈ es, e.1 = e'.1 → e = e') (hs : { s with regs := s0.regs } = s0)
    (hk : ∀ e ∈ es, Tab.find s.regs e.1 = Tab.find s0.regs e.1 ∨ Tab.find s.regs e.1 = jointResult form now s0 e.1 e.2) :
    { forAll es (jointValue form now) s with regs := s0.regs } = s0 ∧
      (∀ e ∈ es, Tab.find (forAll es (jointValue form now) s).regs e.1 = jointResult form now s0 e.1 e.2) ∧
      ∀ k, k ∉ es.map (·.1) → Tab.find (forAll es (jointValue form now) s).regs k = Tab.find s.regs k := by
  induction es generalizing s with
  | nil => exact ⟨hs, by simp, fun k _ => rfl⟩
  | cons e es ih =>
    have hl := hlatched e (List.mem_cons_self ..)
    have htime : s.time = s0.time := (congrArg State.time hs :)
    have hfind := jointValue_find form now hl htime (hk e (List.mem_cons_self ..))
    have hframe : { jointValue form now e s with regs := s0.regs } = s0 :=
      calc { jointValue form now e s with regs := s0.regs }
          = { { jointValue form now e s with regs := s.regs } with regs := s0.regs } := rfl
        _ = { s with regs := s0.regs } := by rw [jointValue_frame form now s hl]
        _ = s0 := hs
    have hstep : ∀ e' ∈ es, Tab.find (jointValue form now e s).regs e'.1 = Tab.find s0.regs e'.1 ∨
        Tab.find (jointValue form now e s).regs e'.1 = jointResult form now s0 e'.1 e'.2 := by
      intro e' he'
      rw [hfind]
      by_cases he : e'.1 = e.1
      · obtain rfl := hwant e' (List.mem_cons_of_mem _ he') e (List.mem_cons_self ..) he
        exact .inr (if_pos rfl)
      · rw [if_neg he]; exact hk e' (List.mem_cons_of_mem _ he')
    obtain ⟨h1, h2, h3⟩ := ih (jointValue form now e s) (fun x hx => hlatched x (List.mem_cons_of_mem _ hx))
      (fun x hx y hy => hwant x (List.mem_cons_of_mem _ hx) y (List.mem_cons_of_mem _ hy)) hframe hstep
    refine ⟨h1, fun x hx => ?_, fun k hk' => ?_⟩
    · rcases List.mem_cons.mp hx with rfl | hx
      · by_cases hin : x.1 ∈ es.map (·.1)
        · obtain ⟨y, hy, hyx⟩ := List.mem_map.mp hin
          obtain rfl := hwant y (List.mem_cons_of_mem _ hy) x (List.mem_cons_self ..) hyx
          exact h2 y hy
        · exact (h3 x.1 hin).trans ((hfind x.1).trans (if_pos rfl))
      · exact h2 x hx
    · simp only [List.map_cons, List.mem_cons, not_or] at hk'
      exact (h3 k hk'.2).trans ((hfind k).trans (if_neg hk'.1))

/-! ## The settings behind a joint write -/

theorem State.mem_jointKeys {s : State} {target : Tab Int} {e : Nat × Option Int} (h : e ∈ s.jointKeys target) :
    e.2 = Tab.find target e.1 ∧ ∃ x ∈ s.rwpRegs ++ target, x.1 = e.1 := by
  simp only [State.jointKeys, List.mem_map, List.mem_append, List.mem_filter] at h
  obtain ⟨k, hk, rfl⟩ := h
  refine ⟨rfl, ?_⟩
  rcases hk with ⟨x, hx, rfl⟩ | ⟨⟨x, hx, rfl⟩, -⟩
  · exact ⟨x, List.mem_append_left _ hx, rfl⟩
  · exact ⟨x, List.mem_append_right _ hx, rfl⟩

theorem State.mem_jointKeys_of_find {s : State} {target : Tab Int} {k : Nat}
    (h : Tab.find s.rwpRegs k ≠ none ∨ Tab.find target k ≠ none) : (k, Tab.find target k) ∈ s.jointKeys target := by
  simp only [State.jointKeys, List.mem_map, List.mem_append, List.mem_filter]
  refine ⟨k, ?_, rfl⟩
  cases hf : Tab.find s.rwpRegs k with
  | some v => exact .inl ⟨_, Tab.mem_of_find hf, rfl⟩
  | none =>
    obtain ⟨w, hw⟩ := Option.ne_none_iff_exists'.mp (h.resolve_left (by simp [hf]))
    exact .inr ⟨⟨_, Tab.mem_of_find hw, rfl⟩, rfl⟩

/-- A joint write of settings that are read or latched where they apply: every RWP value is at its result, the contents are
those of the set, and nothing else has changed (R349). -/
theorem jointWrite_latched (target : Tab Int) (doms : Tab (List Byte)) (s : State)
    (h : ∀ e ∈ s.rwpRegs ++ target, actsAtOnce (rowCode (keyCode e.1)) = false) :
    { jointWrite target doms s with regs := s.regs, doms := s.doms } = s ∧
      (jointWrite target doms s).doms = doms.foldl (fun ds e => Tab.put ds e.1 e.2) (s.doms.filter (fun e => !isRwp (keyCode e.1))) ∧
      ∀ code inst, inst < 2 ^ 24 → isRwp code = true → (jointWrite target doms s).regWritten code inst =
        jointResult (s.jointForm target doms) s s (objKey code inst) (Tab.find target (objKey code inst)) := by
  have hlatched : ∀ e ∈ s.jointKeys target, actsAtOnce (rowCode (keyCode e.1)) = false := by
    intro e he
    obtain ⟨x, hx, hxe⟩ := (State.mem_jointKeys he).2
    exact hxe ▸ h x hx
  have hwant : ∀ e ∈ s.jointKeys target, ∀ e' ∈ s.jointKeys target, e.1 = e'.1 → e = e' := by
    intro e he e' he' hee
    exact Prod.ext hee ((State.mem_jointKeys he).1.trans ((congrArg _ hee).trans (State.mem_jointKeys he').1.symm))
  obtain ⟨hframe, hin, hout⟩ := forAll_jointValue (s.jointForm target doms) s s _ s hlatched hwant rfl (fun _ _ => .inl rfl)
  refine ⟨?frame, ?doms, fun code inst hi hr => ?value⟩
  case frame => exact congrArg (fun t : State => { t with doms := s.doms }) hframe
  case doms =>
    have hd : (forAll (s.jointKeys target) (jointValue (s.jointForm target doms) s) s).doms = s.doms :=
      (congrArg State.doms hframe :)
    exact congrArg (fun d : Tab (List Byte) => List.foldl (fun r (e : Nat × List Byte) => Tab.put r e.1 e.2)
      (d.filter (fun e => !isRwp (keyCode e.1))) doms) hd
  case value =>
    change Tab.find (forAll _ _ s).regs _ = _
    by_cases hk : Tab.find s.rwpRegs (objKey code inst) ≠ none ∨ Tab.find target (objKey code inst) ≠ none
    · exact hin _ (State.mem_jointKeys_of_find hk)
    · simp only [ne_eq, not_or, not_not] at hk
      obtain ⟨hreg, htar⟩ := hk
      rw [State.find_rwpRegs, keyCode_objKey hi, if_pos hr] at hreg
      rw [hout, hreg]
      · unfold jointResult
        rw [hreg, htar, ite_self]
      · intro hmem
        obtain ⟨e, he, hek⟩ := List.mem_map.mp hmem
        obtain ⟨x, hx, hxe⟩ := (State.mem_jointKeys he).2
        have hxk := hxe.trans hek
        rcases List.mem_append.mp hx with hx | hx
        · exact Tab.find_of_mem hx (by rw [hxk, State.find_rwpRegs, keyCode_objKey hi, if_pos hr, hreg])
        · exact Tab.find_of_mem hx (by rw [hxk, htar])

end Sys2Proof.Machine

namespace Sys2Proof.Proofs

open Machine

section
variable (q : Path) (s : State) (target : Tab Int) (doms : Tab (List Byte))

/-- What DEFAULTS and REVERT reach: each persistent setting at its result, the contents of the set, and all else as it was. -/
def reachesSetting (t : State) : Prop :=
  (∀ code inst : Nat, inst < 2 ^ 24 → isRwp code = true →
    t.regWritten code inst =
      (if (Tab.find target (objKey code inst)).getD (plainDefault code inst s.time.n) ≠ s.reg code inst ∧
          (((s.arrived q).jointForm target doms).settingOutside (rowCode code) inst ||
            (s.arrived q).settingRefused ((s.arrived q).jointForm target doms) true code (rowCode code) inst) = true
        then s.regWritten code inst else Tab.find target (objKey code inst))) ∧
  t.doms = doms.foldl (fun ds e => Tab.put ds e.1 e.2) (s.doms.filter (fun e => !isRwp (keyCode e.1))) ∧
  t.nvm = s.nvm ∧ t.ports = s.ports ∧ t.ctxs = s.ctxs ∧ t.cells = s.cells ∧ t.time = s.time

/-- No persistent setting is the counter of an answer or of a frame. -/
theorem isRwp_not_counter {code : Nat} (h : isRwp code = true) :
    code ≠ Code.framesIn ∧ code ≠ linkCode .b Code.framesIn ∧ code ≠ abortCode q := by
  refine ⟨?_, ?_, ?_⟩
  · rintro rfl; revert h; decide +kernel
  · rintro rfl; revert h; decide +kernel
  · rintro rfl; revert h; cases q <;> decide +kernel

theorem reachesSetting_of_jointWrite (r : MgmtReq) (y : Reply)
    (h : ∀ e ∈ s.rwpRegs ++ target, actsAtOnce (rowCode (keyCode e.1)) = false) :
    reachesSetting q s target doms ((answer q r y (jointWrite target doms (s.arrived q))).counted q) := by
  obtain ⟨hframe, hdoms, hvalue⟩ := jointWrite_latched target doms (s.arrived q) (by simpa [State.rwpRegs] using h)
  refine ⟨fun code inst hi hr => ?_, ?_, ?_, ?_, ?_, ?_, ?_⟩
  · obtain ⟨h1, h2, h3⟩ := isRwp_not_counter q hr
    rw [counted_regWritten q _ hi h1 h2, answer_regWritten q r y _ hi h3, hvalue code inst hi hr]
    unfold jointResult jointRefused
    rw [keyCode_objKey hi, keyInst_objKey hi]
    have hreg : (s.arrived q).reg code inst = s.reg code inst := by cases q <;> rfl
    rw [hreg, State.arrived_time, State.arrived_regs]
    rfl
  · simpa using hdoms
  · simpa using (congrArg State.nvm hframe :)
  · simpa using (congrArg State.ports hframe :)
  · simpa using (congrArg State.ctxs hframe :)
  · simpa using (congrArg State.cells hframe :)
  · simpa using (congrArg State.time hframe :)

end

/-- The rows of DEFAULTS and REVERT (R349). -/
theorem findObj_defaults : findObj Code.defaults = some ⟨Code.defaults, .bool, .wo, .device, 0, 1, 0⟩ := by decide +kernel
theorem findObj_revert : findObj Code.revert = some ⟨Code.revert, .bool, .wo, .device, 0, 1, 0⟩ := by decide +kernel

/-- A host write that turns out a joint write of settings that are read or latched where they apply. -/
theorem jointWrite_reaches {i : Instr} {s : State} {q : Path} {tid code value : Nat} {o : Obj} {v : Int} {target : Tab Int}
    {doms : Tab (List Byte)} (hi : hostWriteOf i = some (q, tid, code, value)) (hacc : s.Accepts q code value o v)
    (hw : hostWrite q o code (s.instOf q o.scope) v (masterOf q) (s.arrived q) = jointWrite target doms (s.arrived q))
    (h : ∀ e ∈ s.rwpRegs ++ target, actsAtOnce (rowCode (keyCode e.1)) = false) :
    ∃ t : State, exec i s = .next t ∧ t.Holds q (writeDone tid code) ∧ reachesSetting q s target doms t := by
  obtain ⟨hframe, -, -⟩ := jointWrite_latched target doms (s.arrived q) (by simpa [State.rwpRegs] using h)
  refine ⟨_, exec_accepted hi hacc hw (by simpa using (congrArg State.oxl hframe :))
    (by simpa using (congrArg State.faults hframe :)), ?_, reachesSetting_of_jointWrite q s target doms _ _ h⟩
  have hspi : (jointWrite target doms (s.arrived q)).spi = (s.arrived q).spi := (congrArg State.spi hframe :)
  rw [← responseBytes_writeReq]
  exact holds_counted (answer_holds (q := q) (r := writeReq tid code value) _ rfl
    (fun hq => by rw [hspi]; exact arrived_abandoned s hq))

/-- Settles O25: DEFAULTS and REVERT are joint writes, of nothing and of the current set. -/
theorem defaultsAndRevertFormOneSetting : Obligations.DefaultsAndRevertFormOneSetting := by
  intro q tid value s o c hlatched
  refine ⟨fun hacc => ?defaults, fun hacc hcur => ?revert⟩
  case defaults =>
    obtain rfl := hacc.obj findObj_defaults
    exact jointWrite_reaches (target := []) (doms := []) rfl hacc rfl
      (fun e he => hlatched e (List.mem_append_left _ (by simpa using he)))
  case revert =>
    obtain rfl := hacc.obj findObj_revert
    have hcur' : (s.arrived q).currentSet = some c := by simpa [State.currentSet] using hcur
    exact jointWrite_reaches (target := c.regs) (doms := c.doms) rfl hacc
      (by change revertWrite (s.arrived q) = _; simp only [revertWrite, hcur']) hlatched

end Sys2Proof.Proofs

/-! PROOFS. Firmware in the inactive bank: the end of an erase, a load, its pages and the image check, and the statement about
them. -/

namespace Sys2Proof.Machine

/-! ## Counts of several occurrences of one core cycle -/

/-- A core cycle with real occurrences counts each for its source (R404). -/
theorem collect_count {s : State} {o : Occ} {os : List Occ} (h : s.faults.due = o :: os)
    (hi : ∀ x ∈ o :: os, x.injected = false) (n : Nat) :
    (collect s).faultCount n = (o :: os).foldl (countStep n) (s.faultCount n) := by
  have fin : ∀ (l : List Occ) (u : State), (if (takeAll l false u).2.any (fun x => x.cls == 4) then
      fatalStop (takeAll l false u).1 else forAll (takeAll l false u).2 reportFault (takeAll l false u).1).faultCount n =
      l.foldl (countStep n) (u.faultCount n) := by
    intro l u
    rw [← takeAll_count l false u n]
    split
    · rw [State.faultCount, fatalStop_aon]; rfl
    · rw [State.faultCount, forAll_keeps (fun t => t.aon) _ _ (fun r t => reportFault_aon r t)]; rfl
  have injected : ∀ (m : List Occ) (k : Nat), (∀ x ∈ m, x.injected = true) → m.foldl (countStep n) k = k := by
    intro m
    induction m with
    | nil => intro k _; rfl
    | cons z m ih =>
      intro k hm
      rw [List.foldl, ih _ (fun x hx => hm x (List.mem_cons_of_mem _ hx))]
      simp [countStep, hm z (List.mem_cons_self ..)]
  have hreal : (o :: os).any (fun x => x.injected) = false := by simpa using hi
  have hcollect : (collect s).faultCount n =
      (sortBy captureBefore ((o :: os) ++ s.injections)).foldl (countStep n) (s.faultCount n) := by
    unfold collect
    rw [h]
    refine Eq.trans ?_ (fin (sortBy captureBefore ((o :: os) ++ s.injections))
      { s with faults := { s.faults with due := [], inject := s.faults.injectNext, injectNext := [] } })
    simp only [hreal, Bool.false_eq_true, if_false]
    rfl
  rw [hcollect, foldl_sortBy (countStep_comm n), List.foldl_append, injected]
  intro x hx
  obtain ⟨src, -, rfl⟩ := List.mem_map.mp hx
  unfold injectedOcc
  split <;> rfl

/-! ## The always-on domain behind a core cycle -/

/-- The always-on domain without what the collector records in it (R404, R408, R410). -/
def AonSt.besidesFaults (x : AonSt) : AonSt := { x with capture := none, faultLog := [], faultCounts := [], faultTimes := [] }

theorem countOcc_aon (o : Occ) (s : State) : (countOcc o s).aon.besidesFaults = s.aon.besidesFaults := by
  unfold countOcc; split
  · rw [State.bump_aon]
  · rfl

theorem takeRaise_aon (o : Occ) (b : Bool) (s : State) : (takeRaise o b s).1.aon.besidesFaults = s.aon.besidesFaults := by
  rw [← countOcc_aon o s]
  unfold takeRaise
  dsimp only
  (repeat' split) <;> rfl

theorem takeAll_aon (os : List Occ) (b : Bool) (s : State) : (takeAll os b s).1.aon.besidesFaults = s.aon.besidesFaults := by
  induction os generalizing b s with
  | nil => rfl
  | cons o rest ih =>
    unfold takeAll
    split
    · exact (ih b _).trans (countOcc_aon o s)
    · exact (ih _ _).trans (takeRaise_aon o b s)

/-- The collector changes nothing of the always-on domain but the capture, the log, the counts and their times (R404–R410). -/
theorem collect_aon (s : State) : (collect s).aon.besidesFaults = s.aon.besidesFaults := by
  have fin : ∀ (l : List Occ) (u : State), (if (takeAll l false u).2.any (fun x => x.cls == 4) then
      fatalStop (takeAll l false u).1 else forAll (takeAll l false u).2 reportFault (takeAll l false u).1).aon.besidesFaults =
      u.aon.besidesFaults := by
    intro l u
    rw [← takeAll_aon l false u]
    split
    · rw [fatalStop_aon]
    · rw [forAll_keeps (fun t => t.aon) _ _ (fun r t => reportFault_aon r t)]
  unfold collect
  split
  · rfl
  · rfl
  · exact fin _ _

theorem collect_aon_congr {α : Type} {g : AonSt → α} (hg : ∀ x : AonSt, g x.besidesFaults = g x) (s : State) :
    g (collect s).aon = g s.aon := by
  rw [← hg, collect_aon, hg]

/-! ## The banks -/

@[simp] theorem State.bank_setBank_inactive (s : State) (x : Bank) : (s.setBank s.inactive x).bank s.inactive = x := by
  unfold State.inactive; split <;> rfl
@[simp] theorem State.bank_setBank_active (s : State) (x : Bank) :
    (s.setBank s.inactive x).bank s.fw.active = s.bank s.fw.active := by
  unfold State.inactive State.bank State.setBank
  split <;> simp_all

theorem State.bank_congr {s t : State} (h0 : t.fw.bank0 = s.fw.bank0) (h1 : t.fw.bank1 = s.fw.bank1) (b : Nat) :
    t.bank b = s.bank b := by
  simp [State.bank, h0, h1]

@[simp] theorem State.setBank_active (s : State) (b : Nat) (x : Bank) : (s.setBank b x).fw.active = s.fw.active := by
  unfold State.setBank; dsimp only; split <;> rfl
@[simp] theorem State.setBank_complete (s : State) (b : Nat) (x : Bank) : (s.setBank b x).fw.complete = s.fw.complete := by
  unfold State.setBank; dsimp only; split <;> rfl
@[simp] theorem State.setBank_update (s : State) (b : Nat) (x : Bank) : (s.setBank b x).fw.update = s.fw.update := by
  unfold State.setBank; dsimp only; split <;> rfl
@[simp] theorem State.setBank_faults (s : State) (b : Nat) (x : Bank) : (s.setBank b x).faults = s.faults := rfl
@[simp] theorem State.setBank_aon (s : State) (b : Nat) (x : Bank) : (s.setBank b x).aon = s.aon := rfl
@[simp] theorem State.setBank_nvm (s : State) (b : Nat) (x : Bank) : (s.setBank b x).nvm = s.nvm := rfl

/-! ## Failures -/

/-- The occurrence of a failed program or erase of the NVM (R403 source 6, R408). -/
def nvmOcc (op page : Nat) : Occ :=
  { source := 6, key := [page], detail := [(1, op), (4, page)], access := if op = 3 then accRead else accWrite,
    master := masterMc, address := busAddress nvmArea page }

/-- The occurrence of an update that fails (R366, R403 source 39). -/
def updateOcc (update : Nat) : Occ := { source := 39, key := [], detail := [(1, update)] }

/-- A failed update leaves the banks, stops the load and raises source 39 (R366, R403). -/
theorem updateFailed_eq (s : State) : updateFailed s =
    { s with fw := { s.fw with update := 6, held := [], complete := false }
             faults := { s.faults with due := s.faults.due ++ [updateOcc s.fw.update] } } := rfl

theorem nvmError_eq (op page : Nat) (s : State) : nvmError op page s =
    { s with faults := { s.faults with due := s.faults.due ++ [nvmOcc op page] } } := rfl

@[simp] theorem updateFailed_bank (s : State) (b : Nat) : (updateFailed s).bank b = s.bank b := rfl
@[simp] theorem nvmError_bank (op page : Nat) (s : State) (b : Nat) : (nvmError op page s).bank b = s.bank b := rfl
@[simp] theorem collect_bank (s : State) (b : Nat) : (collect s).bank b = s.bank b :=
  State.bank_congr (by simp) (by simp) b

/-- A failed program or erase behind which the update fails counts once for source 6 and once for source 39 (R366, R403). -/
theorem collect_updateFailed_counts {s : State} (h : s.faults.due = []) (op page : Nat) :
    (collect (updateFailed (nvmError op page s))).faultCount 6 = min (s.faultCount 6 + 1) (2 ^ 32 - 1) ∧
    (collect (updateFailed (nvmError op page s))).faultCount 39 = min (s.faultCount 39 + 1) (2 ^ 32 - 1) := by
  have hdue : (updateFailed (nvmError op page s)).faults.due = nvmOcc op page :: [updateOcc s.fw.update] := by
    simp [updateFailed_eq, nvmError_eq, h]
  have hc := fun n => collect_count hdue (by simp [nvmOcc, updateOcc]) n
  have hk : ∀ n, (updateFailed (nvmError op page s)).faultCount n = s.faultCount n := fun n => rfl
  constructor <;> (rw [hc, hk]; simp [countStep, nvmOcc, updateOcc])

/-! ## The erase of a bank -/

/-- The row of FW_BANK_ERASE (R367). -/
def fwBankEraseRow : Obj := ⟨0x102003, .u8, .wo, .device, 0, 1, 0⟩

theorem findObj_fwBankErase : findObj Code.fwBankErase = some fwBankEraseRow := by decide +kernel

/-- A value that passes check 7 lies in its object's range (R335). -/
theorem State.Accepts.range {s : State} {q : Path} {code value : Nat} {o : Obj} {v : Int} (h : s.Accepts q code value o v) :
    o.lo ≤ v ∧ v ≤ o.hi := by
  obtain ⟨-, -, -, -, -, hr⟩ := h
  unfold State.writeRefusal at hr
  by_cases ha : o.accepts code v = true
  · simp only [Obj.accepts, Bool.and_eq_true, decide_eq_true_eq] at ha
    exact ha.1
  · rw [if_pos (by simpa using ha)] at hr
    split at hr <;> cases hr

/-- What an erase of a bank leaves (R367, R458). -/
def State.bankErased (s : State) (v : Int) : State :=
  { s with
    aon := if v = 0 then { s.aon with bank0 := {} } else { s.aon with bank1 := {} }
    fw := if v = 0 then { s.fw with bank0 := { state := 4 }, update := 1 } else { s.fw with bank1 := { state := 4 }, update := 1 } }

theorem eraseBank_eq {v : Int} (h : 0 ≤ v) (s : State) : eraseBank v.toNat s = s.bankErased v := by
  have hz : v.toNat = 0 ↔ v = 0 := by omega
  unfold eraseBank State.setRecord State.setBank State.modFw State.bankErased
  by_cases hv : v = 0
  · simp [hv]
  · simp [hv, hz]

theorem eraseComplete_verified {s : State} (h : (s.bank s.inactive).state = 4) :
    fwEraseComplete true s = { s with fw :=
      if s.fw.active = 0 then { s.fw with bank1 := {}, update := 0 } else { s.fw with bank0 := {}, update := 0 } } := by
  unfold fwEraseComplete State.modFw State.setBank
  rw [if_pos h, if_pos rfl]
  unfold State.inactive
  by_cases ha : s.fw.active = 0 <;> simp [ha]

theorem eraseComplete_failed {s : State} (h : (s.bank s.inactive).state = 4) :
    fwEraseComplete false s =
      updateFailed (nvmError 2 (bankPage s.inactive) (s.setBank s.inactive { state := 3 })) := by
  unfold fwEraseComplete
  rw [if_pos h]
  rfl

/-! ## The pages of a load -/

/-- A page program of firmware may start: neither the repair log nor a commit nor an erase goes before it (R284, R454). -/
def State.pageTurn (s : State) : Prop :=
  s.nvm.op = none ∧ s.nvm.toLog = [] ∧ s.nvm.writing = none ∧ s.nvm.erasing = none ∧ s.fw.held ≠ []

theorem fwPageStart_of_turn {s : State} (h : s.pageTurn) (microVolt : Nat) :
    fwPageStart microVolt s =
      (if (holdupCheck false microVolt s).1 then
        { (holdupCheck false microVolt s).2 with nvm := { (holdupCheck false microVolt s).2.nvm with op := some .fwPage } }
      else (holdupCheck false microVolt s).2) := by
  obtain ⟨h1, h2, h3, h4, h5⟩ := h
  simp [fwPageStart, h1, h2, h3, h4, h5]

/-- A hold-up check that passes, without a hold-up-low held (R284). -/
theorem holdupCheck_passed {s : State} {microVolt : Nat} (hcap : 0 < s.regN Code.holdupCap 0) (hlow : s.hold.low = false)
    (h : s.regN Code.holdupNvmReq 0 * (2 * 10 ^ 15 * 65536 * 65536) ≤
      s.regN Code.holdupCap 0 * (microVolt * s.regN Code.holdupDiv 0) ^ 2) :
    ∃ x : HoldSt, holdupCheck false microVolt s = (true, { s with hold := x }) ∧ x.nvmFrom = none := by
  have h' : s.regN Code.holdupNvmReq 0 * (2 * 10 ^ 15 * 65536 * 65536) ≤
      s.regN Code.holdupCap 0 * (microVolt * s.regN Code.holdupDiv 0) * (microVolt * s.regN Code.holdupDiv 0) := by
    rw [pow_two, ← mul_assoc (s.regN Code.holdupCap 0)] at h; exact h
  refine ⟨(holdupCheck false microVolt s).2.hold, ?_, ?_⟩ <;>
    (unfold holdupCheck
     dsimp only
     rw [if_neg (by omega), if_pos (by simpa using h'), hlow]
     rfl)

/-- A hold-up check that is refused for the first time counts and notes the tick (R284). -/
theorem holdupCheck_refused {s : State} {microVolt : Nat} (hcap : 0 < s.regN Code.holdupCap 0) (hfrom : s.hold.nvmFrom = none)
    (h : ¬ s.regN Code.holdupNvmReq 0 * (2 * 10 ^ 15 * 65536 * 65536) ≤
      s.regN Code.holdupCap 0 * (microVolt * s.regN Code.holdupDiv 0) ^ 2) :
    ∃ x : HoldSt, holdupCheck false microVolt s = (false, { s.bump Code.nvmRefusals 0 with hold := x }) ∧
      x.nvmFrom = some s.time.tick := by
  have h' : ¬ s.regN Code.holdupNvmReq 0 * (2 * 10 ^ 15 * 65536 * 65536) ≤
      s.regN Code.holdupCap 0 * (microVolt * s.regN Code.holdupDiv 0) * (microVolt * s.regN Code.holdupDiv 0) := by
    rw [pow_two, ← mul_assoc (s.regN Code.holdupCap 0)] at h; exact h
  have hnot : s.elapsed s.time.tick (10 * secondTicks) = false := by simp [State.elapsed, secondTicks]
  have hlate : ¬ (s.elapsed (s.hold.nvmFrom.getD s.time.tick) (10 * secondTicks) = true ∧ s.hold.low = false) := by
    simp [hfrom, hnot]
  refine ⟨(holdupCheck false microVolt s).2.hold, ?_, ?_⟩ <;>
    (unfold holdupCheck
     dsimp only
     rw [if_neg (by omega), if_neg (by simpa using h'), if_neg (by simpa using hlate)])
  · rfl
  · simp [hfrom]

/-- The segments held behind a page: what the page left of the first one, and the rest (R367). -/
def State.heldBehindPage (s : State) (seg : List Byte) (rest : List (List Byte)) : List (List Byte) :=
  if seg.drop (256 - (s.bank s.inactive).image.length % 256) = [] then rest
  else seg.drop (256 - (s.bank s.inactive).image.length % 256) :: rest

/-- The end of a page's program that verifies: its bytes are in the bank, and the last page of a whole image is followed by the
check (R367). -/
theorem fwPageDone_verified {s : State} {seg : List Byte} {rest : List (List Byte)} (h : s.fw.held = seg :: rest) :
    ∃ f : FwSt, fwPageDone true s = { s with nvm := { s.nvm with op := none }, fw := f } ∧ f.active = s.fw.active ∧
      f.held = s.heldBehindPage seg rest ∧
      f.update = (if s.heldBehindPage seg rest = [] ∧ s.fw.complete = true then 3 else s.fw.update) ∧
      ({ s with fw := f } : State).bank s.inactive = { s.bank s.inactive with
        image := (s.bank s.inactive).image ++ seg.take (256 - (s.bank s.inactive).image.length % 256) } := by
  refine ⟨(fwPageDone true s).fw, ?_, ?_, ?_, ?_, ?_⟩ <;> unfold fwPageDone <;> rw [h]
  case refine_1 => rfl
  case refine_2 => exact State.setBank_active s _ _
  case refine_3 => simp [State.heldBehindPage, State.pageRoom]
  case refine_4 =>
    simp [State.modBank, State.heldBehindPage, State.pageRoom]
  case refine_5 => exact State.bank_setBank_inactive s _

/-- The state of a load behind a page whose program fails (R367). -/
def State.pageLost (s : State) : State :=
  { s.setBank s.inactive { s.bank s.inactive with state := 3 } with
    nvm := { s.nvm with op := none }
    mgmt := { s.mgmt with spi := s.mgmt.spi.loadFails, oxlA := s.mgmt.oxlA.loadFails, oxlB := s.mgmt.oxlB.loadFails } }

theorem fwPageDone_failed {s : State} {seg : List Byte} {rest : List (List Byte)} (h : s.fw.held = seg :: rest) :
    ∃ page, fwPageDone false s = updateFailed (nvmError 1 page s.pageLost) := by
  unfold fwPageDone
  rw [h]
  exact ⟨_, rfl⟩

theorem PathSt.loadFails_xfer {x : PathSt} {y : Xfer} (h : x.xfer = some y) (hc : y.code = Code.fwImage) :
    x.loadFails.xfer = none := by
  simp [PathSt.loadFails, h, hc]

theorem State.pageLost_path {s : State} {q : Path} {x : Xfer} (h : (s.path q).xfer = some x) (hc : x.code = Code.fwImage) :
    (s.pageLost.path q).xfer = none := by
  cases q <;> exact PathSt.loadFails_xfer h hc

/-- Behind a page of firmware nothing else of the NVM is due: no operation starts (R284). -/
theorem nvmStart_idle {s : State} (hl : s.nvm.toLog = []) (hw : s.nvm.writing = none) (he : s.nvm.erasing = none) :
    nvmStart s = s := by
  unfold nvmStart nvmStartWith
  simp [hl, hw, he]

/-! ## The init of a load -/

/-- A path with a load of firmware opened on it (R343). -/
def PathSt.loading (x : PathSt) (r : MgmtReq) (inst tick : Nat) : PathSt :=
  { x with
    xfer := some { code := Code.fwImage, index := r.index % 65536, sub := r.sub % 256, inst := inst, write := true,
                   length := r.arg, data := [], lastSeg := tick }
    ended := none }

/-- An init of FW_IMAGE that R343 and R367 accept, with no transfer open on the path. -/
theorem domainWrite_load {q : Path} {r : MgmtReq} {o : Obj} {code inst : Nat} {s : State} (hf : code = Code.fwImage) (h0 : 0 < r.arg) (hlen : r.arg ≤ o.size)
    (hpages : r.arg % 256 = 0) (hbank : (s.bank s.inactive).state = 0) (hx : (s.path q).xfer = none) :
    domainWrite q r o code inst s = (.ok (addressBytes r.index r.sub 0 ++ beBytes 4 o.size),
      loadBegin r.arg (s.modPath q (fun y => y.loading r inst s.time.tick))) := by
  subst hf
  have hrule : lengthRule Code.fwImage r.arg = true := by
    have : 256 ≤ r.arg := by omega
    simp [lengthRule, hpages, this]
  unfold domainWrite
  dsimp only
  rw [if_neg (by omega), if_neg (by simp [hrule]), if_neg (by simp [hbank]), if_neg (by omega), if_pos rfl,
    replaceTransfer_none _ hx]
  rfl

@[simp] theorem loadBegin_path (n : Nat) (s : State) (q : Path) : (loadBegin n s).path q = s.path q := rfl
@[simp] theorem loadBegin_oxl (n : Nat) (s : State) : (loadBegin n s).oxl = s.oxl := rfl
theorem loadBegin_fw (n : Nat) (s : State) :
    ((loadBegin n s).bank s.inactive).state = 5 ∧ (loadBegin n s).fw.update = 2 ∧ (loadBegin n s).fw.length = n ∧
      (loadBegin n s).fw.held = [] ∧ (loadBegin n s).fw.active = s.fw.active :=
  ⟨congrArg Bank.state (State.bank_setBank_inactive s { state := 5 }), rfl, rfl, rfl, State.setBank_active s _ _⟩

/-! ## The check of an image -/

theorem imageCheck_good {s : State} (hu : s.fw.update = 3) (hc : s.fw.complete = true) (hh : s.fw.held = [])
    (hi : imageGood (s.bank s.inactive).image s.fw.length = true) :
    fwImageCheck s = (s.setBank s.inactive { state := 1, version := imageField (s.bank s.inactive).image 8 4,
                                             seq := imageField (s.bank s.inactive).image 12 4,
                                             image := (s.bank s.inactive).image }).modFw
      (fun x => { x with update := 0, complete := false }) := by
  unfold fwImageCheck
  dsimp only
  rw [if_pos ⟨hu, hc, hh⟩, if_pos hi]

theorem imageCheck_bad {s : State} (hu : s.fw.update = 3) (hc : s.fw.complete = true) (hh : s.fw.held = [])
    (hi : imageGood (s.bank s.inactive).image s.fw.length = false) :
    fwImageCheck s = updateFailed (s.setBank s.inactive { state := 2, image := (s.bank s.inactive).image }) := by
  unfold fwImageCheck
  dsimp only
  rw [if_pos ⟨hu, hc, hh⟩, if_neg (by simp [hi])]

end Sys2Proof.Machine

namespace Sys2Proof.Proofs

open Machine

/-- DOMAIN_WRITE_INIT of FW_IMAGE, with no transfer open on its path, opens a load (R343, R367). -/
theorem loadOpens {q : Path} {tid index sub length : Nat} {s : State} {o : Obj} (hs : s.Serves q)
    (hf : addressCode index sub = Code.fwImage)
    (ho : s.checkObject { op := 4, tid := tid, index := index, sub := sub, arg := length } = .ok o)
    (hx : (s.path q).xfer = none) (h0 : 0 < length) (hlen : length ≤ o.size) (hpages : length % 256 = 0)
    (hbank : (s.bank s.inactive).state = 0) :
    ∃ t : State, exec (.domainWriteInit q tid index sub length) s = .next t ∧ (t.bank s.inactive).state = 5 ∧
      t.fw.update = 2 ∧ t.fw.length = length ∧ t.fw.held = [] ∧ t.fw.active = s.fw.active ∧
      ((t.path q).xfer.map (fun x => x.length)) = some length := by
  rw [← checkObject_congr (s.arrived_lc q)] at ho
  have hbank' : ((s.arrived q).bank (s.arrived q).inactive).state = 0 := by simpa [State.bank, State.inactive] using hbank
  have hex := (execute_domainWrite (q := q) rfl rfl ho).trans
    (domainWrite_load hf h0 hlen hpages hbank' (by simpa using hx))
  refine ⟨_, run_request hs (by simp [MayWrite]) hex (by simp), ?_⟩
  have hfw := loadBegin_fw length ((s.arrived q).modPath q (fun y => y.loading
    { op := 4, tid := tid, index := index, sub := sub, arg := length } ((s.arrived q).instOf q o.scope) (s.arrived q).time.tick))
  obtain ⟨hb, hupd, hl, hheld, hact⟩ := hfw
  refine ⟨?_, by simpa using hupd, by simpa using hl, by simpa using hheld, by simpa using hact, ?_⟩
  · rw [collect_bank, State.bank_congr (congrArg FwSt.bank0 (answered_fw ..)) (congrArg FwSt.bank1 (answered_fw ..))]
    simpa [State.inactive] using hb
  · simp [PathSt.loading]

/-- Settles O26, command by command. -/
theorem firmwareIsLoadedIntoTheInactiveBank : Obligations.FirmwareIsLoadedIntoTheInactiveBank := by
  refine ⟨fun q tid value s o v hacc => ?erase, fun s hs hst => ⟨?erased, ?eraseFails⟩,
    fun q tid length s o hs ho hx h0 hlen hpages hbank => ?init,
    fun uV s hs hop hlog hw he hheld hcap hlow hfrom => ?page,
    fun uV s t0 hs hop hlog hw he hheld hcap hlow hfrom henough => ?retry,
    fun s seg rest hs hop hheld hlog hw he => ⟨?verified, ?failed⟩,
    fun s hs hu hc hh => ?check⟩
  case erase =>
    obtain rfl := hacc.obj findObj_fwBankErase
    obtain ⟨t, ht, hh, honly, -⟩ := exec_accepted_onlyAnswered (i := .fwBankErase q tid value) (u := s.bankErased v) rfl hacc
      ((eraseBank_eq hacc.range.1 (s.arrived q)).trans (by cases q <;> rfl)) rfl rfl
    exact ⟨t, ht, hh, honly⟩
  case erased =>
    rw [← eraseComplete_verified hst]
    exact run_quiet hs (by rw [eraseComplete_verified hst])
  case eraseFails =>
    have hrun := run_running (fwEraseComplete false) hs.1
    rw [eraseComplete_failed hst] at hrun
    obtain ⟨h6, h39⟩ := collect_updateFailed_counts (s := s.setBank s.inactive { state := 3 }) (by simpa using hs.2.1) 2
      (bankPage s.inactive)
    refine ⟨_, hrun, ?_, ?_, ?_, ?_, h6, h39⟩
    · simp
    · simp
    · simp [updateFailed_eq]
    · simp [updateFailed_eq, nvmError_eq]
  case init =>
    exact loadOpens (tid := tid) hs (by decide) ho hx h0 hlen hpages hbank
  case page =>
    have hturn : s.pageTurn := ⟨hop, hlog, hw, he, hheld⟩
    intro enough
    by_cases h : enough
    · obtain ⟨x, hx, hnone⟩ := holdupCheck_passed hcap hlow h
      have hp : fwPageStart uV s = { s with hold := x, nvm := { s.nvm with op := some .fwPage } } := by
        rw [fwPageStart_of_turn hturn, hx, if_pos rfl]
      refine ⟨_, run_quiet hs (by rw [hp]), ?_⟩
      rw [hp]
      exact ⟨rfl, rfl, fun _ => ⟨rfl, hnone, rfl⟩, fun hn => absurd h hn⟩
    · obtain ⟨x, hx, hsome⟩ := holdupCheck_refused hcap hfrom h
      have hp : fwPageStart uV s = { s.bump Code.nvmRefusals 0 with hold := x } := by
        rw [fwPageStart_of_turn hturn, hx, if_neg (by simp)]
      refine ⟨_, run_quiet hs (by rw [hp]; simp), ?_⟩
      rw [hp]
      exact ⟨by simp, by simp, fun hy => absurd hy h, fun _ => ⟨by simp, hsome, rfl⟩⟩
  case retry =>
    have hturn : s.pageTurn := ⟨hop, hlog, hw, he, hheld⟩
    obtain ⟨x, hx, hnone⟩ := holdupCheck_passed hcap hlow henough
    have hretry : holdupRetry false uV s = { s with hold := x, nvm := { s.nvm with op := some .fwPage } } := by
      have hnow : nvmStartWith (holdupCheck false uV) s = s := by simp [nvmStartWith, hlog, hw, he]
      simp only [holdupRetry, nvmRetry, hfrom, hnow, Option.isSome_some, Bool.false_eq_true, if_false, if_true]
      rw [if_pos (by simp [hop, hlog, hw, he]), fwPageStart_of_turn hturn, hx, if_pos rfl]
    refine ⟨_, run_quiet hs (by rw [hretry]), ?_⟩
    rw [hretry]
    exact ⟨rfl, hnone, rfl, rfl⟩
  case verified =>
    obtain ⟨f, hf, -, hheld', hupd, hbank⟩ := fwPageDone_verified hheld
    have hdone : pageProgramComplete true s = { s with nvm := { s.nvm with op := none }, fw := f } := by
      simp only [pageProgramComplete, hop]
      rw [hf]
      exact nvmStart_idle hlog hw he
    have hexec : exec (.nvmPageProgramComplete true) s = run (pageProgramComplete true) s :=
      if_neg (by have := hs.1; simp_all [State.coreStopped])
    refine ⟨_, hexec.trans (run_quiet hs (by rw [hdone])), ?_⟩
    rw [hdone]
    exact ⟨rfl, hbank, hheld', hupd, rfl⟩
  case failed =>
    obtain ⟨page, hpage⟩ := fwPageDone_failed hheld
    have hdone : pageProgramComplete false s = updateFailed (nvmError 1 page s.pageLost) := by
      simp only [pageProgramComplete, hop]
      rw [hpage]
      exact nvmStart_idle hlog hw he
    have hexec : exec (.nvmPageProgramComplete false) s = run (pageProgramComplete false) s :=
      if_neg (by have := hs.1; simp_all [State.coreStopped])
    have hrun := hexec.trans (run_running (pageProgramComplete false) hs.1)
    rw [hdone] at hrun
    obtain ⟨h6, h39⟩ := collect_updateFailed_counts (s := s.pageLost) hs.2.1 1 page
    refine ⟨_, hrun, ?_, ?_, ?_, ?_, fun q x hx hc => ?_, h6, h39⟩
    · simp [updateFailed_eq, nvmError_eq, State.pageLost]
    · rw [collect_bank, updateFailed_bank, nvmError_bank]
      exact State.bank_setBank_inactive s _
    · simp [updateFailed_eq]
    · simp [updateFailed_eq]
    · rw [path_congr (collect_mgmt _)]
      exact State.pageLost_path hx hc
  case check =>
    intro img
    by_cases hgood : imageGood img s.fw.length = true
    · have hc' := imageCheck_good hu hc hh hgood
      refine ⟨_, run_quiet hs (by rw [hc']; rfl), ?_⟩
      rw [hc']
      exact ⟨State.setBank_active s _ _, State.bank_setBank_active s _, rfl, rfl, rfl,
        fun _ => ⟨State.bank_setBank_inactive s _, rfl, rfl⟩, fun h => absurd hgood (by simp [h])⟩
    · have hbad : imageGood img s.fw.length = false := by simpa using hgood
      have hc' := imageCheck_bad hu hc hh hbad
      have hdue : (updateFailed (s.setBank s.inactive { state := 2, image := img })).faults.due = updateOcc s.fw.update :: [] := by
        simp [updateFailed_eq, hs.2.1]
      refine ⟨_, run_running fwImageCheck hs.1, ?_⟩
      rw [hc']
      refine ⟨by simp [updateFailed_eq], by simp, by simp [updateFailed_eq], ?_, ?_, fun h => absurd h hgood, fun _ => ⟨?_, ?_, ?_⟩⟩
      · rw [collect_aon_congr (g := AonSt.bank0) (fun _ => rfl)]; rfl
      · rw [collect_aon_congr (g := AonSt.bank1) (fun _ => rfl)]; rfl
      · simp [img]
      · simp [updateFailed_eq]
      · rw [collect_count_one hdue rfl]; rfl

end Sys2Proof.Proofs

/-! PROOFS. Hitless updates, trials and watchdog resets, and the statement about them. -/

namespace Sys2Proof.Machine

/-! ## Moves to a microcode -/

theorem loadNext_frame (k : Nat) (s : State) : { loadNext k s with engines := s.engines } = s := by
  unfold loadNext
  dsimp only
  (repeat' split) <;> rfl

theorem forAll_loadNext_frame (ks : List Nat) (s : State) : { forAll ks loadNext s with engines := s.engines } = s := by
  induction ks generalizing s with
  | nil => rfl
  | cons k ks ih =>
    calc { forAll (k :: ks) loadNext s with engines := s.engines }
        = { { forAll ks loadNext (loadNext k s) with engines := (loadNext k s).engines } with engines := s.engines } := rfl
      _ = { loadNext k s with engines := s.engines } := by rw [ih]
      _ = s := loadNext_frame k s

/-- The firmware's state as the moves of every cluster begin: each may start 500 ms later (R460). -/
def State.movesBegun (s : State) (have_ : List Nat) (back : Bool) : State :=
  { s with fw := { s.fw with
      switching := true, goingBack := back, newCode := have_
      paced := (List.range 9).map (fun k => (k, s.time.tick + 500 * milliTicks)) } }

/-- Moves that begin change the engines, and of all else the firmware's own state (R460). -/
theorem beginMoves_frame (have_ : List Nat) (back : Bool) (s : State) :
    { beginMoves have_ back s with engines := s.engines } = s.movesBegun have_ back :=
  forAll_loadNext_frame _ (s.movesBegun have_ back)

/-- What a function of the state reads that looks at neither the firmware nor the engines, behind moves that begin. -/
theorem beginMoves_keeps {β : Type} (g : State → β) (hg : ∀ (t : State) f e, g { t with fw := f, engines := e } = g t)
    (have_ : List Nat) (back : Bool) (s : State) : g (beginMoves have_ back s) = g s := by
  have h1 := hg (beginMoves have_ back s) (beginMoves have_ back s).fw s.engines
  have h2 := congrArg g (beginMoves_frame have_ back s)
  have h3 := hg s (s.movesBegun have_ back).fw s.engines
  exact h1.symm.trans (h2.trans h3)

theorem beginMoves_fw (have_ : List Nat) (back : Bool) (s : State) :
    (beginMoves have_ back s).fw = (s.movesBegun have_ back).fw :=
  (congrArg State.fw (beginMoves_frame have_ back s) :)

@[simp] theorem moveBack_update (s : State) : (moveBack s).fw.update = s.fw.update := by
  rw [moveBack, beginMoves_fw]; rfl
@[simp] theorem moveBack_active (s : State) : (moveBack s).fw.active = s.fw.active := by
  rw [moveBack, beginMoves_fw]; rfl
theorem moveBack_keeps {β : Type} (g : State → β) (hg : ∀ (t : State) f e, g { t with fw := f, engines := e } = g t) (s : State) :
    g (moveBack s) = g s := beginMoves_keeps g hg _ _ s

theorem paced_find {k : Nat} (h : k < 9) (n : Nat) : Tab.find ((List.range 9).map (fun j => (j, n))) k = some n := by
  interval_cases k <;> rfl

/-! ## FW_SWITCH -/

/-- The row of FW_SWITCH (R367). -/
def fwSwitchRow : Obj := ⟨0x102005, .bool, .wo, .device, 0, 1, 0⟩

theorem findObj_fwSwitch : findObj Code.fwSwitch = some fwSwitchRow := by decide +kernel

theorem fwSwitch_keeps {β : Type} (g : State → β) (hg : ∀ (t : State) f e, g { t with fw := f, engines := e } = g t) (s : State) :
    g (fwSwitch s) = g s :=
  (beginMoves_keeps g hg _ _ _).trans (hg s { s.fw with update := 4 } s.engines)

theorem fwSwitch_fw (s : State) : (fwSwitch s).fw = { s.fw with
    update := 4, switching := true, goingBack := false, newCode := []
    paced := (List.range 9).map (fun k => (k, s.time.tick + 500 * milliTicks)) } :=
  beginMoves_fw [] false (s.modFw (fun x => { x with update := 4 }))

/-! ## A migration of the update -/

@[simp] theorem planMigration_frame (x y : Nat) (rotating : Bool) (s : State) :
    { planMigration x y rotating s with engines := s.engines } = s := rfl

theorem State.engine_modEngine (s : State) (e : Nat) (f : EngineSt → EngineSt) : (s.modEngine e f).engine e = f (s.engine e) :=
  State.engine_setEngine ..
theorem State.engine_modEngine_ne {e j : Nat} (h : j ≠ e) (s : State) (f : EngineSt → EngineSt) :
    (s.modEngine e f).engine j = s.engine j := State.engine_setEngine_ne _ _ h

/-- A planned migration arranges the engine for the port's, which is sent to it (R382). -/
theorem planMigration_engines {x y : Nat} (h : x ≠ y) (rotating : Bool) (s : State) :
    ((planMigration x y rotating s).engine x).target = some y ∧ ((planMigration x y rotating s).engine y).state = 3 ∧
      ∀ e, e ≠ x → e ≠ y → (planMigration x y rotating s).engine e = s.engine e := by
  unfold planMigration
  refine ⟨?_, ?_, fun e hx hy => ?_⟩
  · rw [State.engine_modEngine_ne h, State.engine_modEngine]
  · rw [State.engine_modEngine]
  · rw [State.engine_modEngine_ne hy, State.engine_modEngine_ne hx]

/-- The longest in a list of engines is one of them. -/
theorem State.longest_mem {s : State} {es : List Nat} {y : Nat} (h : s.longest es = some y) : y ∈ es := by
  have fold : ∀ (l : List Nat) (b : Option Nat), (∀ z, b = some z → z ∈ es) → (∀ z ∈ l, z ∈ es) →
      ∀ z, l.foldl (fun b e => match b with
        | none => some e
        | some x => if (s.engine e).since < (s.engine x).since then some e else some x) b = some z → z ∈ es := by
    intro l
    induction l with
    | nil => exact fun b hb _ z hz => hb z hz
    | cons e l ih =>
      intro b hb hl z hz
      refine ih _ (fun w hw => ?_) (fun w hw => hl w (List.mem_cons_of_mem _ hw)) z hz
      cases b with
      | none => cases hw; exact hl _ (List.mem_cons_self ..)
      | some x =>
        simp only at hw
        split at hw
        · cases hw; exact hl _ (List.mem_cons_self ..)
        · exact hb w hw
  exact fold es none (by simp) (fun _ h => h) y h

/-! ## The end of an update -/

/-- The state in which the controller resets onto the new bank (R460). -/
theorem fwUpdateSwitched_reset {s : State} (hsw : s.fw.switching = true) (hback : s.fw.goingBack = false)
    (hidle : ∀ k ∈ s.servedClusters, s.clusterUpdated k = true ∧ ∀ e ∈ enginesOf k, (s.engine e).state ≠ 2 ∧ (s.engine e).state ≠ 3) :
    fwUpdateSwitched s =
      let s1 := s.modFw (fun x => { x with switching := false, active := s.inactive, boot := s.inactive, update := 5 })
      controllerResets s.resetCause (s1.setRecord s.inactive { s1.bankRecord s.inactive with trialFrom := some s.time.tick }) := by
  have h : (s.servedClusters.all (fun k => s.clusterUpdated k &&
      !(enginesOf k).any (fun e => decide ((s.engine e).state = 2) || decide ((s.engine e).state = 3)))) = true := by
    simp only [List.all_eq_true, Bool.and_eq_true, Bool.not_eq_true', List.any_eq_false, Bool.or_eq_true, decide_eq_true_eq, not_or]
    exact hidle
  unfold fwUpdateSwitched
  dsimp only
  rw [if_pos ⟨hsw, h⟩, if_neg (by simp [hback])]

theorem State.firstCause_self (s : State) : s.firstCause s.resetCause = s.resetCause := by
  simp [State.firstCause]

@[simp] theorem State.bankRecord_setRecord (s : State) (b : Nat) (x : BankRecord) : (s.setRecord b x).bankRecord b = x := by
  unfold State.setRecord State.bankRecord; dsimp only; split <;> rfl

theorem State.bankRecord_congr {s t : State} (h0 : t.aon.bank0 = s.aon.bank0) (h1 : t.aon.bank1 = s.aon.bank1) (b : Nat) :
    t.bankRecord b = s.bankRecord b := by
  simp [State.bankRecord, h0, h1]

@[simp] theorem collect_bankRecord (s : State) (b : Nat) : (collect s).bankRecord b = s.bankRecord b :=
  State.bankRecord_congr (collect_aon_congr (g := AonSt.bank0) (fun _ => rfl) s)
    (collect_aon_congr (g := AonSt.bank1) (fun _ => rfl) s) b

theorem State.resetCounted_bank0 (s : State) : s.resetCounted.bank0 = s.aon.bank0 := by
  unfold State.resetCounted; split <;> rfl
theorem State.resetCounted_bank1 (s : State) : s.resetCounted.bank1 = s.aon.bank1 := by
  unfold State.resetCounted; split <;> rfl

@[simp] theorem controllerResets_bankRecord (cause : Nat) (s : State) (b : Nat) :
    (controllerResets cause s).bankRecord b = s.bankRecord b :=
  State.bankRecord_congr (State.resetCounted_bank0 s) (State.resetCounted_bank1 s) b

/-! ## A watchdog reset -/

/-- The occurrence of a watchdog reset (R403 source 3). -/
def watchdogOcc (active : Nat) : Occ := { source := 3, key := [], detail := [(1, active)] }

/-- The controller in reset by the watchdog, the boot record yet as it was (R445, R448). -/
def State.watchdogReset (s : State) : State :=
  (fault 3 [] [(1, s.fw.active)] (controllerResets 3 s)).bump Code.watchdogResets 0

/-- What a watchdog reset does with the bank that ran, outside an update (R458, R461). -/
def afterWatchdog (t : State) : State :=
  let r := barBank t
  let s3 := if r.2.2 then updateFailed r.1 else r.1
  let s4 := if r.2.1 then startBank s3 else s3
  if s4.fw.active ≠ t.fw.active then moveBack s4 else s4

theorem watchdogExpiry_eq {s : State} (hmc : s.mgmt.mcReset = false) (hsw : s.fw.switching = false) :
    watchdogExpiry s = afterWatchdog s.watchdogReset := by
  have hfw : s.watchdogReset.fw = s.fw := State.bump_fw _ _ _
  unfold watchdogExpiry
  rw [if_neg (by simp [hmc])]
  dsimp only
  rw [if_neg (by simp [hsw])]
  unfold afterWatchdog
  rw [hfw]
  rfl

theorem startBank_keeps {β : Type} (g : State → β) (hg : ∀ (t : State) f e, g { t with fw := f, engines := e } = g t) (s : State) :
    g (startBank s) = g s := by
  unfold startBank
  split
  · exact hg s _ s.engines
  · rfl

/-- What neither the firmware, the engines, the boot records nor the raises show stays behind a watchdog reset. -/
theorem afterWatchdog_keeps {β : Type} (g : State → β) (hg : ∀ (t : State) f e, g { t with fw := f, engines := e } = g t)
    (hr : ∀ (t : State) b x, g (t.setRecord b x) = g t) (hf : ∀ t : State, g (updateFailed t) = g t) (t : State) :
    g (afterWatchdog t) = g t := by
  have hbar : g (barBank t).1 = g t := hr t _ _
  unfold afterWatchdog
  dsimp only
  (repeat' split) <;> simp only [moveBack_keeps g hg, startBank_keeps g hg, hf, hbar]

/-- The raises of a watchdog reset: its own, and that of an update that it ends (R403). -/
theorem afterWatchdog_due (t : State) :
    (afterWatchdog t).faults.due = t.faults.due ++ (if (barBank t).2.2 then [updateOcc t.fw.update] else []) := by
  have h1 : ∀ u : State, (startBank u).faults = u.faults := fun u => startBank_keeps (·.faults) (fun _ _ _ => rfl) u
  have h2 : ∀ u : State, (moveBack u).faults = u.faults := fun u => moveBack_keeps (·.faults) (fun _ _ _ => rfl) u
  have h3 : (barBank t).1.faults = t.faults := rfl
  have h4 : (barBank t).1.fw = t.fw := rfl
  unfold afterWatchdog
  dsimp only
  (repeat' split) <;> simp [h1, h2, h3, h4, updateFailed_eq]

@[simp] theorem State.watchdogReset_fw (s : State) : s.watchdogReset.fw = s.fw := State.bump_fw _ _ _
@[simp] theorem State.watchdogReset_time (s : State) : s.watchdogReset.time.tick = s.time.tick :=
  (congrArg TimeSt.tick (State.bump_time (fault 3 [] [(1, s.fw.active)] (controllerResets 3 s)) _ _)).trans rfl
@[simp] theorem State.watchdogReset_mgmt (s : State) : s.watchdogReset.mgmt = { s.mgmt with mcReset := true } :=
  State.bump_mgmt _ _ _
@[simp] theorem State.watchdogReset_nvm (s : State) : s.watchdogReset.nvm = s.nvm := State.bump_nvm _ _ _
@[simp] theorem State.watchdogReset_ctxs (s : State) : s.watchdogReset.ctxs = s.ctxs := State.bump_ctxs _ _ _
theorem State.watchdogReset_aon (s : State) : s.watchdogReset.aon = s.resetCounted := State.bump_aon _ _ _
theorem State.watchdogReset_due (s : State) : s.watchdogReset.faults.due = s.faults.due ++ [watchdogOcc s.fw.active] :=
  congrArg FaultSt.due (State.bump_faults _ _ _)
theorem State.watchdogReset_cause {s : State} (h : s.resetTogether = false) : s.watchdogReset.resetCause = 3 := by
  refine (State.bump_resetCause _ _ _).trans ?_
  change s.firstCause 3 = 3
  simp [State.firstCause, h]
@[simp] theorem State.watchdogReset_bankRecord (s : State) (b : Nat) : s.watchdogReset.bankRecord b = s.bankRecord b := by
  refine State.bankRecord_congr ?_ ?_ b
  · rw [State.watchdogReset_aon, State.resetCounted_bank0]
  · rw [State.watchdogReset_aon, State.resetCounted_bank1]

/-- Outside a trial, the first watchdog reset of a bank is noted, and all else goes on (R458). -/
theorem afterWatchdog_first {t : State} (htrial : (t.bankRecord t.fw.active).trialFrom = none)
    (hnone : (t.bankRecord t.fw.active).watchdogs = []) :
    afterWatchdog t = t.setRecord t.fw.active { t.bankRecord t.fw.active with watchdogs := [t.time.tick] } := by
  have hb : barBank t = (t.setRecord t.fw.active { t.bankRecord t.fw.active with watchdogs := [t.time.tick] }, false, false) := by
    unfold barBank
    simp [htrial, hnone]
  unfold afterWatchdog
  rw [hb]
  exact if_neg (by simp [State.setRecord])

/-- In a trial it bars the bank and ends the update (R458). -/
theorem barBank_trial {t : State} {t0 : Nat} (htrial : (t.bankRecord t.fw.active).trialFrom = some t0)
    (hin : t.time.tick ≤ t0 + 6000000000) :
    (barBank t).2 = (true, true) ∧ ((barBank t).1.bankRecord t.fw.active).barred = true ∧ (barBank t).1.fw = t.fw ∧
      ∀ b, b ≠ t.fw.active → b ≤ 1 → t.fw.active ≤ 1 → (barBank t).1.bankRecord b = t.bankRecord b := by
  have hin' : t.time.tick ≤ t0 + 600 * secondTicks := by simpa [secondTicks] using hin
  refine ⟨?_, ?_, rfl, fun b hb hb1 ha => ?_⟩
  · simp [barBank, htrial, hin']
  · simp [barBank, htrial, hin']
  · unfold barBank State.setRecord State.bankRecord
    dsimp only
    rcases Nat.le_one_iff_eq_zero_or_eq_one.mp hb1 with rfl | rfl <;>
      rcases Nat.le_one_iff_eq_zero_or_eq_one.mp ha with h | h <;> simp_all

/-- The other bank is started where it is valid and not barred and the one that ran is barred (R457). -/
theorem startBank_other {t : State} (ha : t.fw.active ≤ 1) (hbar : (t.bankRecord t.fw.active).barred = true)
    (hok : (t.bank (1 - t.fw.active)).state = 1) (hfree : (t.bankRecord (1 - t.fw.active)).barred = false) :
    (startBank t).fw.active = 1 - t.fw.active := by
  unfold startBank State.bootChoice
  rcases Nat.le_one_iff_eq_zero_or_eq_one.mp ha with h | h <;>
    simp_all [State.bank, State.bankRecord, State.modFw]

/-- The firmware and the boot records behind a watchdog reset that ends a trial: as a bank is started behind a failed update. -/
theorem afterWatchdog_trial {t : State} (h : (barBank t).2 = (true, true)) :
    (afterWatchdog t).fw.active = (startBank (updateFailed (barBank t).1)).fw.active ∧ (afterWatchdog t).fw.update = 6 ∧
      ∀ b, (afterWatchdog t).bankRecord b = (barBank t).1.bankRecord b := by
  have h1 : (barBank t).2.1 = true := by rw [h]
  have h2 : (barBank t).2.2 = true := by rw [h]
  have hrec : ∀ b, (startBank (updateFailed (barBank t).1)).bankRecord b = (barBank t).1.bankRecord b := fun b =>
    (startBank_keeps (fun u => u.bankRecord b) (fun _ _ _ => rfl) _).trans rfl
  have hupd : (startBank (updateFailed (barBank t).1)).fw.update = 6 := by
    unfold startBank; split <;> rfl
  unfold afterWatchdog
  dsimp only
  rw [if_pos h2, if_pos h1]
  split
  · exact ⟨moveBack_active _, (moveBack_update _).trans hupd,
      fun b => (moveBack_keeps (fun u => u.bankRecord b) (fun _ _ _ => rfl) _).trans (hrec b)⟩
  · exact ⟨rfl, hupd, hrec⟩

end Sys2Proof.Machine

namespace Sys2Proof.Proofs

open Machine

/-- The clause of O27 about a watchdog reset. -/
theorem watchdogResets {s : State} (hs : s.Ready) (hmc : s.mgmt.mcReset = false) (hrt : s.resetTogether = false)
    (hsw : s.fw.switching = false) (ha : s.fw.active ≤ 1) :
    ∃ t : State, exec .watchdogExpiry s = .next t ∧ t.mgmt = { s.mgmt with mcReset := true } ∧ t.resetCause = 3 ∧
      t.aon.resets = min (s.aon.resets + 1) (2 ^ 32 - 1) ∧ t.faultCount 3 = min (s.faultCount 3 + 1) (2 ^ 32 - 1) ∧
      t.nvm = s.nvm ∧ t.ctxs = s.ctxs ∧
      ((s.bankRecord s.fw.active).trialFrom = none → (s.bankRecord s.fw.active).watchdogs = [] → t.fw = s.fw ∧
        t.bankRecord s.fw.active = { s.bankRecord s.fw.active with watchdogs := [s.time.tick] }) ∧
      (∀ t0 : Nat, (s.bankRecord s.fw.active).trialFrom = some t0 → s.time.tick ≤ t0 + 6000000000 →
        (t.bankRecord s.fw.active).barred = true ∧ t.fw.update = 6 ∧
        t.faultCount 39 = min (s.faultCount 39 + 1) (2 ^ 32 - 1) ∧
        ((s.bank (1 - s.fw.active)).state = 1 → (s.bankRecord (1 - s.fw.active)).barred = false →
          t.fw.active = 1 - s.fw.active)) := by
  have hdue : (afterWatchdog s.watchdogReset).faults.due =
      watchdogOcc s.fw.active :: (if (barBank s.watchdogReset).2.2 then [updateOcc s.fw.update] else []) := by
    rw [afterWatchdog_due, State.watchdogReset_due, hs.2.1, State.watchdogReset_fw]
    rfl
  have hcount : ∀ n, (collect (afterWatchdog s.watchdogReset)).faultCount n =
      (watchdogOcc s.fw.active :: (if (barBank s.watchdogReset).2.2 then [updateOcc s.fw.update] else [])).foldl
        (countStep n) (s.faultCount n) := by
    intro n
    have hfc : (afterWatchdog s.watchdogReset).faultCount n = s.faultCount n := by
      rw [afterWatchdog_keeps (fun t => t.faultCount n) (fun _ _ _ => rfl)
        (fun t b x => by simp only [State.faultCount, State.setRecord]; split <;> rfl) (fun _ => rfl)]
      simp only [State.faultCount, State.watchdogReset_aon]
      unfold State.resetCounted
      split <;> rfl
    rw [collect_count hdue (by split <;> simp [watchdogOcc, updateOcc]), hfc]
  refine ⟨_, (run_running watchdogExpiry hs.1), ?_⟩
  rw [watchdogExpiry_eq hmc hsw]
  refine ⟨?_, ?_, ?_, ?_, ?_, ?_, fun htrial hnone => ⟨?_, ?_⟩, fun t0 htrial hin => ?_⟩
  · rw [collect_mgmt, afterWatchdog_keeps (·.mgmt) (fun _ _ _ => rfl) (fun _ _ _ => rfl) (fun _ => rfl), State.watchdogReset_mgmt]
  · rw [collect_resetCause, afterWatchdog_keeps (·.resetCause) (fun _ _ _ => rfl) (fun _ _ _ => rfl) (fun _ => rfl),
      State.watchdogReset_cause hrt]
  · rw [collect_aon_congr (g := AonSt.resets) (fun _ => rfl),
      afterWatchdog_keeps (fun t => t.aon.resets) (fun _ _ _ => rfl) (fun t b x => by simp only [State.setRecord]; split <;> rfl)
        (fun _ => rfl), State.watchdogReset_aon]
    simp [State.resetCounted, hrt]
  · rw [hcount]
    split <;> simp [countStep, watchdogOcc, updateOcc]
  · rw [collect_nvm, afterWatchdog_keeps (·.nvm) (fun _ _ _ => rfl) (fun _ _ _ => rfl) (fun _ => rfl), State.watchdogReset_nvm]
  · rw [collect_ctxs, afterWatchdog_keeps (·.ctxs) (fun _ _ _ => rfl) (fun _ _ _ => rfl) (fun _ => rfl), State.watchdogReset_ctxs]
  · rw [collect_fw, afterWatchdog_first (by simpa using htrial) (by simpa using hnone)]
    exact State.watchdogReset_fw s
  · rw [collect_bankRecord, afterWatchdog_first (by simpa using htrial) (by simpa using hnone)]
    simp
  · obtain ⟨h2, hbar, hfw, hother⟩ := barBank_trial (t := s.watchdogReset) (by simpa using htrial) (by simpa using hin)
    rw [State.watchdogReset_fw] at hbar hother hfw
    obtain ⟨hact, hupd, hrec⟩ := afterWatchdog_trial h2
    refine ⟨?_, ?_, ?_, fun hok hfree => ?_⟩
    · rw [collect_bankRecord, hrec]; exact hbar
    · rw [collect_fw]; exact hupd
    · rw [hcount, h2]
      simp [countStep, watchdogOcc, updateOcc]
    · have hu : (updateFailed (barBank s.watchdogReset).1).fw.active = s.fw.active := (congrArg FwSt.active hfw :)
      rw [collect_fw, hact, startBank_other (by omega) (by rw [hu]; exact hbar), hu]
      · rw [hu, updateFailed_bank, State.bank_congr (congrArg FwSt.bank0 hfw) (congrArg FwSt.bank1 hfw)]; exact hok
      · rw [hu]
        exact (congrArg BankRecord.barred (hother _ (by omega) (by omega) ha)).trans (by simpa using hfree)

/-- Settles O27, command by command. -/
theorem updatesSwitchAndWatchdogsBar : Obligations.UpdatesSwitchAndWatchdogsBar := by
  refine ⟨fun q tid value s o hacc => ?switch, fun k p y s hs hk hsw hst hpaced hidle hspare hp hy => ?migration,
    fun s hs hsw hback ha hidle => ?switched, fun s t0 hs htrial hover => ?trial,
    fun s hs hmc hrt hsw ha => watchdogResets hs hmc hrt hsw ha⟩
  case switch =>
    obtain rfl := hacc.obj findObj_fwSwitch
    have hkeep := fun {β : Type} (g : State → β) (hg : ∀ (t : State) f e, g { t with fw := f, engines := e } = g t) =>
      fwSwitch_keeps g hg (s.arrived q)
    have hex := exec_accepted (i := .fwSwitch q tid value) (u := fwSwitch (s.arrived q)) rfl hacc rfl
      (by rw [hkeep (·.oxl) (fun _ _ _ => rfl)]; simp) (by rw [hkeep (·.faults) (fun _ _ _ => rfl)]; simp)
    have hfw : ∀ y, ((answer q (writeReq tid Code.fwSwitch value) y (fwSwitch (s.arrived q))).counted q).fw =
        (fwSwitch (s.arrived q)).fw := fun y => by simp
    refine ⟨_, hex, ?_, ?_, ?_, ?_, ?_, ?_, fun k hk => ?_, ?_, ?_⟩
    · rw [← responseBytes_writeReq]
      exact holds_counted (answer_holds _ rfl (fun hq => by
        rw [hkeep (·.spi) (fun _ _ _ => rfl)]; exact arrived_abandoned s hq))
    · rw [hfw, fwSwitch_fw]
    · rw [hfw, fwSwitch_fw]
    · rw [hfw, fwSwitch_fw]
    · rw [hfw, fwSwitch_fw]
    · rw [hfw, fwSwitch_fw]; simp
    · rw [hfw, fwSwitch_fw]; simpa [milliTicks] using paced_find hk (s.time.tick + 5000000)
    · rw [answered_ports, hkeep (·.ports) (fun _ _ _ => rfl)]; simp
    · rw [answered_nvm, hkeep (·.nvm) (fun _ _ _ => rfl)]; simp
  case migration =>
    have hbusy : (enginesOf k).any (fun e => decide ((s.engine e).state = 2) || decide ((s.engine e).state = 3)) = false := by
      simp only [List.any_eq_false, Bool.or_eq_true, decide_eq_true_eq, not_or]
      exact hidle
    have hne : s.engineFor p ≠ y := by
      have hnew := (List.mem_filter.mp (State.longest_mem hy)).2
      have hold := List.find?_some hp
      rintro rfl
      simp_all
    have hrun : atCluster k (fwUpdateMigration k) s =
        { planMigration (s.engineFor p) y false s with
          fw := { s.fw with paced := Tab.put s.fw.paced k (s.time.tick + 250 * milliTicks) } } := by
      rw [atCluster, if_pos hk]
      unfold fwUpdateMigration
      dsimp only
      rw [if_pos ⟨hsw, hst, hpaced, hbusy, hspare⟩, hp, hy]
      rfl
    obtain ⟨h1, h2, h3⟩ := planMigration_engines hne false s
    refine ⟨_, run_quiet hs (by rw [hrun]; rfl), ?_⟩
    rw [hrun]
    exact ⟨h1, h2, Tab.get_put_self .., rfl, rfl, h3⟩
  case switched =>
    have hb : s.inactive = 1 - s.fw.active := by unfold State.inactive; split <;> omega
    have hu := fwUpdateSwitched_reset hsw hback hidle
    rw [hb] at hu
    refine ⟨_, run_quiet hs (by rw [hu]; rfl), ?_⟩
    rw [hu]
    refine ⟨rfl, rfl, rfl, rfl, rfl, State.firstCause_self s, ?_, ?_, rfl, rfl, rfl⟩
    · simp
    · change (State.resetCounted _).resets = _
      unfold State.resetCounted State.setRecord
      dsimp only
      split <;> split <;> simp_all [State.resetTogether, State.modFw]
  case trial =>
    have hend : fwTrialEnd s = s.setRecord s.fw.active { s.bankRecord s.fw.active with trialFrom := none } := by
      unfold fwTrialEnd
      simp only [htrial]
      exact if_pos (decide_eq_true hover)
    refine ⟨_, run_quiet hs (by rw [hend]; rfl), ?_⟩
    rw [hend]
    exact ⟨rfl, State.bankRecord_setRecord ..⟩

end Sys2Proof.Proofs

/-! PROOFS. The time base: what a new grade leaves alone, the timing inputs, the steering of the grid and its start, and the
statements about them. -/

namespace Sys2Proof.Machine

/-! ## The parts of a new grade -/

/-- The state whose error bound gives the new grade: from grade 0 the bound starts at 0 (R67). -/
def State.gradeBase (s : State) : State :=
  let s1 := if s.time.grade = 0 ∧ s.gradeNow ≠ 0 ∧ s.time.realignPending = false then
    { s with time := { s.time with bound := 0, boundAt := s.time.tick } } else s
  if s.time.grade = 0 then { s1 with time := { s1.time with grade := 1 } } else s1

/-- The state with the new grade, which is not yet reported (R66). -/
def State.regraded (s : State) : State :=
  { s.gradeBase with time := { s.gradeBase.time with grade := s.gradeBase.gradeNow } }

/-- What a change from a grade counts and ends (R72, R403). -/
def State.gradeCounted (old : Nat) (s : State) : State :=
  let s4 := if old = 0 then s.bump Code.holdoverEntries 0 else s
  if s.time.grade = 0 then endConditions 22 s4 else s4

theorem refreshGrade_eq (s : State) : refreshGrade s =
    if s.regraded.time.grade = s.time.grade then s.regraded
    else deviceStatus 9 ([byteOf s.time.grade, byteOf s.regraded.time.grade, 0, 0] ++
      beBytes 4 (s.regraded.gradeCounted s.time.grade).boundNow) (s.regraded.gradeCounted s.time.grade) := rfl

theorem State.gradeBase_time (s : State) :
    ∃ a b c, s.gradeBase = { s with time := { s.time with grade := a, bound := b, boundAt := c } } := by
  unfold State.gradeBase
  dsimp only
  split <;> split
  · exact ⟨1, 0, s.time.tick, rfl⟩
  · exact ⟨1, s.time.bound, s.time.boundAt, rfl⟩
  · exact ⟨s.time.grade, 0, s.time.tick, rfl⟩
  · exact ⟨s.time.grade, s.time.bound, s.time.boundAt, rfl⟩

theorem State.regraded_time (s : State) :
    ∃ a b c, s.regraded = { s with time := { s.time with grade := a, bound := b, boundAt := c } } := by
  obtain ⟨a, b, c, h⟩ := s.gradeBase_time
  exact ⟨s.gradeBase.gradeNow, b, c, by unfold State.regraded; rw [h]⟩

/-! ## What a new grade leaves alone -/

/-- What the report of a new grade leaves alone (R67, R72, R316). -/
structure BesidesReport {β : Type} (g : State → β) : Prop where
  push : ∀ x l t, g (pushStatus x l t) = g t
  seq : ∀ (t : State) n, g { t with oxl := { t.oxl with seq := n } } = g t
  ended : ∀ t, g (endConditions 22 t) = g t
  counted : ∀ t : State, g (t.bump Code.holdoverEntries 0) = g t

theorem BesidesReport.gradeCounted {β : Type} {g : State → β} (h : BesidesReport g) (old : Nat) (s : State) :
    g (s.gradeCounted old) = g s := by
  unfold State.gradeCounted
  dsimp only
  split <;> split
  · exact (h.ended _).trans (h.counted s)
  · exact h.ended s
  · exact h.counted s
  · rfl

/-- A new grade leaves what its report leaves of the state with the new grade. -/
theorem BesidesReport.refreshGrade {β : Type} {g : State → β} (h : BesidesReport g) (s : State) :
    g (refreshGrade s) = g s.regraded := by
  rw [refreshGrade_eq]
  split
  · rfl
  · exact (sendStatus_keeps g h.push h.seq _ _ _ _ _ _ _).trans (h.gradeCounted _ _)

/-- A field other than the time base, the links, the counters and the faults is left alone by a new grade. -/
theorem refreshGrade_keeps {β : Type} {g : State → β} (h : BesidesReport g) (ht : ∀ (t : State) x, g { t with time := x } = g t)
    (s : State) : g (refreshGrade s) = g s := by
  rw [h.refreshGrade]
  obtain ⟨a, b, c, hr⟩ := s.regraded_time
  rw [hr]
  exact ht s _

/-- What looks at neither the counters, the links nor the faults is left alone by a report. -/
theorem BesidesReport.of_fields {β : Type} {g : State → β}
    (h : ∀ (t : State) r o f, g { t with regs := r, oxl := o, faults := f } = g t) : BesidesReport g where
  push x l t := by
    unfold pushStatus
    split
    · cases l
      · exact h t t.regs _ t.faults
      · exact h t t.regs _ t.faults
    · exact h t _ t.oxl t.faults
  seq t _ := h t t.regs _ t.faults
  ended t := h t t.regs t.oxl _
  counted t := h t _ t.oxl t.faults

/-- A written value other than the counters of a report is left alone by it. -/
theorem besidesReport_regWritten {code : Nat} (h1 : code ≠ linkCode .a Code.statusDrops) (h2 : code ≠ linkCode .b Code.statusDrops)
    (h3 : code ≠ Code.holdoverEntries) : BesidesReport (fun t => t.regWritten code 0) where
  push x l t := by
    unfold pushStatus
    split
    · cases l <;> rfl
    · exact bumpBy_regWritten (objKey_ne (by cases l <;> assumption) (by omega) (by omega)) _ _
  seq _ _ := rfl
  ended _ := rfl
  counted t := bumpBy_regWritten (objKey_ne h3 (by omega) (by omega)) _ _

/-- What a core cycle collects, behind its raises: the injections to come and the acknowledged ones (R404, R419). -/
def FaultSt.toCollect (x : FaultSt) : FaultSt := { x with held := [] }

theorem besidesReport_toCollect : BesidesReport (fun t => t.faults.toCollect) where
  push x l t := congrArg FaultSt.toCollect (pushStatus_faults x l t)
  seq _ _ := rfl
  ended _ := rfl
  counted t := congrArg FaultSt.toCollect (State.bump_faults t _ _)

@[simp] theorem refreshGrade_time (s : State) : (refreshGrade s).time = s.regraded.time := (BesidesReport.of_fields fun _ _ _ _ => rfl).refreshGrade (g := State.time) s

/-- The time base without the grade and the base of the error bound (R66, R67). -/
def TimeSt.besidesGrade (x : TimeSt) : TimeSt := { x with grade := 0, bound := 0, boundAt := 0 }

theorem State.regraded_besides (s : State) : s.regraded.time.besidesGrade = s.time.besidesGrade := by
  obtain ⟨a, b, c, h⟩ := s.regraded_time
  rw [h]; rfl

/-- A field of the time base that is neither the grade nor the bound stands at a new grade. -/
theorem State.regraded_field {β : Type} {g : TimeSt → β} (h : ∀ x : TimeSt, g x.besidesGrade = g x) (s : State) :
    g s.regraded.time = g s.time := by
  rw [← h, s.regraded_besides, h]

@[simp] theorem State.regraded_time64 (s : State) : s.regraded.time.time64 = s.time.time64 := State.regraded_field (fun _ => rfl) s
@[simp] theorem State.regraded_tick (s : State) : s.regraded.time.tick = s.time.tick := State.regraded_field (fun _ => rfl) s
@[simp] theorem State.regraded_n (s : State) : s.regraded.time.n = s.time.n := State.regraded_field (fun _ => rfl) s
@[simp] theorem State.regraded_nextCycle (s : State) : s.regraded.time.nextCycle = s.time.nextCycle := State.regraded_field (g := TimeSt.nextCycle) (fun _ => rfl) s
@[simp] theorem State.regraded_cycles (s : State) : s.regraded.time.cycles = s.time.cycles := State.regraded_field (fun _ => rfl) s
@[simp] theorem State.regraded_running (s : State) : s.regraded.time.running = s.time.running := State.regraded_field (fun _ => rfl) s
@[simp] theorem State.regraded_starting (s : State) : s.regraded.time.starting = s.time.starting := State.regraded_field (fun _ => rfl) s
@[simp] theorem State.regraded_ref10m (s : State) : s.regraded.time.ref10m = s.time.ref10m := State.regraded_field (fun _ => rfl) s
@[simp] theorem State.regraded_pps (s : State) : s.regraded.time.pps = s.time.pps := State.regraded_field (fun _ => rfl) s
@[simp] theorem State.regraded_candidates (s : State) : s.regraded.time.candidates = s.time.candidates := State.regraded_field (fun _ => rfl) s
@[simp] theorem State.regraded_qualifiedAt (s : State) : s.regraded.time.qualifiedAt = s.time.qualifiedAt := State.regraded_field (fun _ => rfl) s
@[simp] theorem State.regraded_residual (s : State) : s.regraded.time.residual = s.time.residual := State.regraded_field (fun _ => rfl) s
@[simp] theorem State.regraded_slew (s : State) : s.regraded.time.slew = s.time.slew := State.regraded_field (fun _ => rfl) s
@[simp] theorem State.regraded_realignPending (s : State) : s.regraded.time.realignPending = s.time.realignPending := State.regraded_field (fun _ => rfl) s
@[simp] theorem State.regraded_realigning (s : State) : s.regraded.time.realigning = s.time.realigning := State.regraded_field (fun _ => rfl) s
@[simp] theorem State.regraded_unsync (s : State) : s.regraded.time.unsync = s.time.unsync := State.regraded_field (fun _ => rfl) s
@[simp] theorem State.regraded_epoch (s : State) : s.regraded.time.epoch = s.time.epoch := State.regraded_field (fun _ => rfl) s
@[simp] theorem State.regraded_page (s : State) : s.regraded.time.page = s.time.page := State.regraded_field (fun _ => rfl) s
@[simp] theorem State.regraded_epochLog (s : State) : s.regraded.time.epochLog = s.time.epochLog := State.regraded_field (fun _ => rfl) s

@[simp] theorem refreshGrade_aon (s : State) : (refreshGrade s).aon = s.aon :=
  refreshGrade_keeps (g := State.aon) (.of_fields fun _ _ _ _ => rfl) (fun _ _ => rfl) s
@[simp] theorem refreshGrade_ports (s : State) : (refreshGrade s).ports = s.ports :=
  refreshGrade_keeps (g := State.ports) (.of_fields fun _ _ _ _ => rfl) (fun _ _ => rfl) s
@[simp] theorem refreshGrade_ctxs (s : State) : (refreshGrade s).ctxs = s.ctxs :=
  refreshGrade_keeps (g := State.ctxs) (.of_fields fun _ _ _ _ => rfl) (fun _ _ => rfl) s
@[simp] theorem refreshGrade_doms (s : State) : (refreshGrade s).doms = s.doms :=
  refreshGrade_keeps (g := State.doms) (.of_fields fun _ _ _ _ => rfl) (fun _ _ => rfl) s
@[simp] theorem refreshGrade_toCollect (s : State) : (refreshGrade s).faults.toCollect = s.faults.toCollect :=
  refreshGrade_keeps besidesReport_toCollect (fun _ _ => rfl) s

theorem refreshGrade_due (s : State) : (refreshGrade s).faults.due = s.faults.due :=
  (congrArg FaultSt.due (refreshGrade_toCollect s) :)

theorem refreshGrade_regWritten {code : Nat} (h1 : code ≠ linkCode .a Code.statusDrops)
    (h2 : code ≠ linkCode .b Code.statusDrops) (h3 : code ≠ Code.holdoverEntries) (s : State) :
    (refreshGrade s).regWritten code 0 = s.regWritten code 0 :=
  refreshGrade_keeps (besidesReport_regWritten h1 h2 h3) (fun _ _ => rfl) s

/-- A command behind which the collector finds nothing (R404). -/
theorem run_calm {f : State → State} {s : State} (hs : s.Ready) (hf : (f s).faults.toCollect = s.faults.toCollect) :
    run f s = .next (f s) := by
  obtain ⟨hcore, hdue, hnext, hacked⟩ := hs
  rw [run_running f hcore, collect_nil ((congrArg FaultSt.due hf :).trans hdue) ((congrArg FaultSt.injectNext hf :).trans hnext)
    ((congrArg FaultSt.ackedNow hf :).trans hacked)]

/-! ## The bound and the loss of a reference -/

/-- A new base of the error bound changes the bound alone (R67). -/
theorem settleBound_eq (s : State) : ∃ b, settleBound s = { s with time := { s.time with bound := b, boundAt := s.time.tick } } :=
  ⟨_, rfl⟩

/-- The occurrence of a reference that is lost (R72, R403 source 22). -/
def State.lossOcc (s : State) : Occ :=
  { source := 22, key := [],
    detail := [(1, (if s.time.ref10m then 0 else 1) + (if s.time.pps then 0 else 2)), (1, s.time.grade)] }

theorem raiseReferenceLoss_input (s : State) :
    raiseReferenceLoss false s = { s with faults := { s.faults with due := s.faults.due ++ [s.lossOcc] } } := by
  simp [raiseReferenceLoss, fault, notice, State.lossOcc]

/-! ## The grade in force -/

theorem gradeOfBound_pos (b : Nat) : 0 < gradeOfBound b := by
  unfold gradeOfBound; (repeat' split) <;> omega

/-- A state at another base of the error bound (R67). -/
def State.withBound (s : State) (grade bound boundAt : Nat) : State :=
  { s with time := { s.time with grade := grade, bound := bound, boundAt := boundAt } }

/-- The grade that R66 gives at an error bound. -/
def State.gradeAt (s : State) (bound : Nat) : Nat :=
  if !s.aon.acquired || !s.aon.epochWritten || s.time.unsync then 3
  else
    match s.trunkSource with
    | some p =>
      if (s.port p).trunk.state = 3 && s.time.hops > 0 then
        (if s.time.trunkGrade = 0 && 4 < s.time.hops then 1 else s.time.trunkGrade)
      else max (gradeOfBound bound) (max 1 s.time.trunkGrade)
    | none =>
      if s.time.ref10m && s.time.pps && s.time.running && !s.time.realignPending && s.time.slew.natAbs ≤ 10 then 0
      else gradeOfBound (max 1 bound)

theorem State.gradeNow_eq (s : State) : s.gradeNow = s.gradeAt s.boundNow := by
  unfold State.gradeNow State.gradeAt
  rfl

/-- Grade 0 asks for more than a bound: whether it holds does not look at the bound (R66). -/
theorem State.gradeAt_zero (s : State) (x y : Nat) : s.gradeAt x = 0 ↔ s.gradeAt y = 0 := by
  have hx := gradeOfBound_pos (max 1 x)
  have hy := gradeOfBound_pos (max 1 y)
  unfold State.gradeAt
  (repeat' split) <;> omega

theorem State.gradeNow_withBound (s : State) (a b c : Nat) : (s.withBound a b c).gradeNow = 0 ↔ s.gradeNow = 0 := by
  rw [State.gradeNow_eq, State.gradeNow_eq]
  exact s.gradeAt_zero _ _

/-- The new grade, where the grade in force is not 0: that of the bound as it stands (R66, R67). -/
theorem State.regraded_of_ne {s : State} (h : s.time.grade ≠ 0) :
    s.regraded = s.withBound s.gradeNow s.time.bound s.time.boundAt := by
  have hb : s.gradeBase = s := by
    unfold State.gradeBase
    dsimp only
    rw [if_neg h, if_neg (fun hc => h hc.1)]
  unfold State.regraded
  rw [hb]
  rfl

/-- The new grade is 0 exactly where the inputs give it (R66). -/
theorem State.regraded_grade_zero (s : State) : s.regraded.time.grade = 0 ↔ s.gradeNow = 0 := by
  obtain ⟨a, b, c, h⟩ := s.gradeBase_time
  have h' : s.gradeBase = s.withBound a b c := h
  change s.gradeBase.gradeNow = 0 ↔ _
  rw [h', State.gradeNow_withBound]

/-- Out of grade 0 the bound starts anew (R67). -/
theorem State.regraded_from_zero {s : State} (h : s.time.grade = 0) (hn : s.gradeNow ≠ 0) (hp : s.time.realignPending = false) :
    s.regraded.time.bound = 0 ∧ s.regraded.time.boundAt = s.time.tick := by
  have hb : s.gradeBase.time = { s.time with grade := 1, bound := 0, boundAt := s.time.tick } := by
    unfold State.gradeBase
    dsimp only
    rw [if_pos h, if_pos ⟨h, hn, hp⟩]
  change s.gradeBase.time.bound = 0 ∧ s.gradeBase.time.boundAt = _
  rw [hb]
  exact ⟨rfl, rfl⟩

/-- A grade that holds already is not reported (R67). -/
theorem refreshGrade_same {s : State} (h : s.gradeNow = s.time.grade) : refreshGrade s = s := by
  rw [refreshGrade_eq]
  by_cases h0 : s.time.grade = 0
  · have hg : s.regraded.time.grade = 0 := (s.regraded_grade_zero).mpr (h.trans h0)
    rw [if_pos (hg.trans h0.symm)]
    have hb : s.gradeBase = s.withBound 1 s.time.bound s.time.boundAt := by
      unfold State.gradeBase
      dsimp only
      rw [if_pos h0, if_neg (fun hc => hc.2.1 (h.trans h0))]
      rfl
    have hg' : s.gradeBase.gradeNow = s.time.grade := hg.trans h0.symm
    unfold State.regraded
    rw [hg', hb]
    rfl
  · rw [State.regraded_of_ne h0, h]
    exact if_pos rfl

/-- A grade without acquisition is 3 (R66, R73). -/
theorem State.gradeNow_unsync {s : State} (h : s.time.unsync = true) : s.gradeNow = 3 := by
  simp [State.gradeNow, h]

theorem State.regraded_unsync_grade {s : State} (h : s.time.unsync = true) : s.regraded.time.grade = 3 := by
  obtain ⟨a, b, c, hb⟩ := s.gradeBase_time
  change s.gradeBase.gradeNow = 3
  exact State.gradeNow_unsync (by rw [hb]; exact h)

theorem State.boundNow_grade {s : State} {g : Nat} (h : s.time.grade ≠ 0) (hg : g ≠ 0) :
    (s.withBound g s.time.bound s.time.boundAt).boundNow = s.boundNow := by
  simp [State.boundNow, State.withBound, State.bound67, h, hg]

/-- The grades of holdover on a learned oscillator: the bound grows by 1,000 ns for each second (R66, R67). -/
theorem State.gradeNow_holdover {s : State} (hacq : s.aon.acquired = true) (hep : s.aon.epochWritten = true)
    (hun : s.time.unsync = false) (hsrc : s.trunkSource = none) (hg : s.time.grade ≠ 0) (hp : s.time.realignPending = false)
    (hsl : s.time.slew = 0) (hm : s.time.ref10m = false) (hpps : s.time.pps = false) (hl : s.aon.learned = true)
    (hb : s.time.bound = 0) :
    s.gradeNow = gradeOfBound (max 1 (min ((s.time.tick - s.time.boundAt) * 1000 / 10000000) (2 ^ 32 - 1))) := by
  simp [State.gradeNow, State.boundNow, State.bound67, boundRate, secondTicks, *]

/-- A lost reference counts once for source 22, behind the grade that it brings (R72, R403). -/
theorem collect_referenceLoss {s u : State} (hs : s.Ready) (hf : u.faults = s.faults) (ha : u.aon = s.aon) :
    (collect (raiseReferenceLoss false (refreshGrade u))).faultCount 22 = min (s.faultCount 22 + 1) (2 ^ 32 - 1) := by
  have hdue : (raiseReferenceLoss false (refreshGrade u)).faults.due = [(refreshGrade u).lossOcc] := by
    simp [raiseReferenceLoss_input, refreshGrade_due, hf, hs.2.1]
  rw [collect_count_one hdue rfl, raiseReferenceLoss_input]
  simp [State.faultCount, State.lossOcc, ha]

end Sys2Proof.Machine

namespace Sys2Proof.Proofs

open Machine

/-- Settles O39: each input takes up or gives up its qualification, and the grade follows. -/
theorem timingInputsQualifyAndFail : Obligations.TimingInputsQualifyAndFail := by
  refine ⟨⟨fun s hs hsrc => ?trunk, fun s hs hsrc hm => ?qualified, fun s hs hsrc hm => ?lost, fun s hs hsrc hp => ?absent⟩, ?edge⟩
  case trunk =>
    have h1 : ref10mQualified s = s := by simp [ref10mQualified, hsrc]
    have h2 : ref10mDisqualified s = s := by simp [ref10mDisqualified, hsrc]
    have h3 : edgeAbsent s = s := by simp [edgeAbsent, hsrc]
    exact ⟨(run_quiet hs (by rw [h1])).trans (by rw [h1]), (run_quiet hs (by rw [h2])).trans (by rw [h2]),
      (run_quiet hs (by rw [h3])).trans (by rw [h3])⟩
  case qualified =>
    have he : ref10mQualified s = refreshGrade { settleBound s with
        time := { (settleBound s).time with ref10m := true, qualifiedAt := (settleBound s).time.tick } } := by
      simp [ref10mQualified, hsrc, hm]
    refine ⟨_, run_calm hs (by rw [he, refreshGrade_toCollect]; rfl), ?_⟩
    rw [he]
    simp [settleBound]
  case lost =>
    have he : ref10mDisqualified s = raiseReferenceLoss false (refreshGrade { settleBound s with
        time := { (settleBound s).time with ref10m := false } }) := by
      simp [ref10mDisqualified, hsrc, hm]
    refine ⟨_, run_running _ hs.1, ?_⟩
    rw [he]
    refine ⟨?_, ?_, ?_, ?_, ?_⟩
    case refine_3 => exact collect_referenceLoss hs rfl rfl
    all_goals simp [raiseReferenceLoss_input, settleBound]
  case absent =>
    have he : edgeAbsent s = raiseReferenceLoss false (refreshGrade { settleBound s with
        time := { (settleBound s).time with pps := false, candidates := 0 } }) := by
      simp [edgeAbsent, hsrc, hp]
    refine ⟨_, run_running _ hs.1, ?_⟩
    rw [he]
    refine ⟨?_, ?_, ?_, ?_, ?_, ?_⟩
    case refine_4 => exact collect_referenceLoss hs rfl rfl
    all_goals simp [raiseReferenceLoss_input, settleBound]
  case edge =>
    intro since ns s hs hsrc near
    have hnear : (decide (secondTicks ≤ since + 10) && decide (since ≤ secondTicks + 10)) = decide near := by
      rw [Bool.eq_iff_iff]
      simp only [Bool.and_eq_true, decide_eq_true_eq]
      change 10000000 ≤ since + 10 ∧ since ≤ 10000000 + 10 ↔ 9999990 ≤ since ∧ since ≤ 10000010
      omega
    have hedge : ∀ t : State, ppsEdge since ns s = t → t.faults = s.faults → exec (.ref1ppsEdge since ns) s = .next t :=
      fun t ht hf => ht ▸ run_quiet hs (by rw [ht, hf])
    refine ⟨fun hp hn => hedge _ ?_ (by simp), fun hp hc => hedge _ ?_ rfl, fun hp hc hn => hedge _ ?_ rfl,
      fun hp hc hn => hedge _ ?_ (by simp)⟩
    all_goals unfold ppsEdge; simp only [hnear]
    · simp [hsrc, hp, hn]
    · simp [hsrc, hp, hc]
    · simp [hsrc, hp, hc, hn]
    · simp [hsrc, hp, hn, show s.time.candidates ≠ 0 by omega]

end Sys2Proof.Proofs

/-! PROOFS. What the time base does about a reference, and the statement about it. -/

namespace Sys2Proof.Machine

/-! ## An offset is acted on -/

/-- The state that locks or slews to a reference: a time is acquired (R69, R73). -/
def State.acquires (s : State) : State :=
  { s with aon := { s.aon with acquired := true }, time := { s.time with unsync := false } }

theorem actOnOffset_near {ns : Int} (h : ns.natAbs ≤ 1000) (s : State) :
    actOnOffset ns s = refreshGrade { s.acquires with
      time := { s.acquires.time with slew := 0, quietSlew := false, realignPending := false } } := by
  unfold actOnOffset
  dsimp only
  rw [if_pos h]
  rfl

/-- The state that slews by a number of ticks (R69, R70). -/
def State.slews (s : State) (ticks : Int) : State :=
  { s.acquires with time := { s.acquires.time with slew := ticks, quietSlew := false, realignPending := false } }

theorem actOnOffset_slew {ns : Int} (h1 : 1000 < ns.natAbs) (h2 : ns.natAbs ≤ 1000000) (s : State) :
    actOnOffset ns s = refreshGrade ((s.slews (roundDiv ns 100)).bump Code.slewEvents 0) := by
  unfold actOnOffset
  dsimp only
  rw [if_neg (by omega), if_pos h2]
  rfl

/-- The state that waits for a realignment (R69). -/
def State.waitsRealign (s : State) (ns : Int) : State :=
  { s with time := { s.time with realignPending := true, slew := 0, quietSlew := false,
                                 bound := ns.natAbs + 1000, boundAt := s.time.tick } }

theorem actOnOffset_far {ns : Int} (h : 1000000 < ns.natAbs) (s : State) :
    actOnOffset ns s = if (refreshGrade (s.waitsRealign ns)).regN Code.realignPolicy 0 = 1
      then beginRealign (refreshGrade (s.waitsRealign ns)) else refreshGrade (s.waitsRealign ns) := by
  unfold actOnOffset
  dsimp only
  rw [if_neg (by omega), if_neg (by omega)]
  rfl

/-- A value whose default does not depend on CYCLE_LEN's own is left alone by a new grade. -/
theorem refreshGrade_reg {code : Nat} (h1 : code ≠ linkCode .a Code.statusDrops)
    (h2 : code ≠ linkCode .b Code.statusDrops) (h3 : code ≠ Code.holdoverEntries) (h4 : code ≠ Code.rollCall) (s : State) :
    (refreshGrade s).reg code 0 = s.reg code 0 := by
  have hn : (refreshGrade s).time.n = s.time.n := by simp
  unfold State.reg
  rw [refreshGrade_regWritten h1 h2 h3, if_neg h4, if_neg h4, hn]

/-- Working values are those of the table, and of the defaults that follow CYCLE_LEN (R336). -/
theorem State.reg_congr {s t : State} (hr : t.regs = s.regs) (hn : t.time.n = s.time.n) (code inst : Nat) :
    t.reg code inst = s.reg code inst := by
  simp only [State.reg, State.rollWindowsOk, State.regPlain, State.regWritten, hr, hn]
  rfl

theorem beginRealign_frame (s : State) : beginRealign s = { s with time := { s.time with realigning := true } } := rfl

/-- A counter reads one more behind its event (R6). -/
theorem regWritten_bump (s : State) (code inst : Nat) :
    (s.bump code inst).regWritten code inst = some (min ((s.regN code inst + 1 : Nat) : Int) (2 ^ 32 - 1)) := by
  unfold State.bump State.bumpBy
  rw [if_neg (by decide)]
  exact State.regWritten_setReg ..

@[simp] theorem State.bump_toCollect (s : State) (code inst : Nat) : (s.bump code inst).faults.toCollect = s.faults.toCollect := by
  simp

/-- Whatever the device does about an offset leaves the inputs, the residual, TIME64 and the ports alone (R69). -/
theorem actOnOffset_keeps (ns : Int) (s : State) :
    (actOnOffset ns s).time.pps = s.time.pps ∧ (actOnOffset ns s).time.candidates = s.time.candidates ∧
      (actOnOffset ns s).time.residual = s.time.residual ∧ (actOnOffset ns s).time.time64 = s.time.time64 ∧
      (actOnOffset ns s).ctxs = s.ctxs ∧ (actOnOffset ns s).ports = s.ports ∧
      (actOnOffset ns s).faults.toCollect = s.faults.toCollect := by
  by_cases h1 : ns.natAbs ≤ 1000
  · rw [actOnOffset_near h1]; simp [State.acquires]
  by_cases h2 : ns.natAbs ≤ 1000000
  · rw [actOnOffset_slew (by omega) h2]; simp [State.slews, State.acquires]
  · rw [actOnOffset_far (by omega)]
    split <;> simp [State.waitsRealign, beginRealign]

/-- The state in which the third candidate has qualified REF_1PPS (R57, R59). -/
def State.ppsQualified (s : State) (off : Int) : State :=
  { settleBound s with time := { (settleBound s).time with pps := true, candidates := 0, residual := residualOf off } }

/-- Neither the qualification nor the wait for a realignment changes a setting. -/
theorem State.ppsQualified_waitsRealign_reg (s : State) (off ns : Int) (code inst : Nat) :
    ((s.ppsQualified off).waitsRealign ns).reg code inst = s.reg code inst := by
  refine State.reg_congr ?_ ?_ code inst <;> simp [State.waitsRealign, State.ppsQualified, settleBound]

/-- The third candidate on a grid that runs: REF_1PPS is qualified and its offset acted on (R57, R69). -/
theorem ppsEdge_third {since : Nat} {edge : Int} {s : State} (hsrc : s.trunkSource = none) (hp : s.time.pps = false)
    (hc : s.time.candidates = 2) (hr : s.time.running = true) (h1 : 9999990 ≤ since) (h2 : since ≤ 10000010) :
    ppsEdge since edge s = actOnOffset (s.compensated edge) (s.ppsQualified (s.compensated edge)) := by
  have hnear : (decide (secondTicks ≤ since + 10) && decide (since ≤ secondTicks + 10)) = true := by
    simp only [Bool.and_eq_true, decide_eq_true_eq]
    change 10000000 ≤ since + 10 ∧ since ≤ 10000000 + 10
    omega
  unfold ppsEdge
  rw [hsrc, hp, hc]
  dsimp only
  rw [hnear, if_neg (by simp), if_neg (by simp), if_neg (by simp), if_neg (by simp), if_neg (by simp), if_neg (by simp [settleBound, hr])]
  rfl

/-- Leaving grade 0 is counted once (R72). -/
theorem refreshGrade_holdover {s : State} (hg : s.time.grade = 0) (hn : s.gradeNow ≠ 0) :
    (refreshGrade s).regWritten Code.holdoverEntries 0 =
      some (min ((s.regN Code.holdoverEntries 0 + 1 : Nat) : Int) (2 ^ 32 - 1)) := by
  have hgr : s.regraded.time.grade ≠ 0 := fun h => hn (s.regraded_grade_zero.mp h)
  have hpush : ∀ x l (t : State), (pushStatus x l t).regWritten Code.holdoverEntries 0 = t.regWritten Code.holdoverEntries 0 := by
    intro x l t
    unfold pushStatus
    split
    · cases l <;> rfl
    · exact bumpBy_regWritten (by cases l <;> decide) _ _
  have hcount : s.regraded.gradeCounted s.time.grade = s.regraded.bump Code.holdoverEntries 0 := by
    unfold State.gradeCounted
    dsimp only
    rw [if_pos hg, if_neg hgr]
  obtain ⟨a, b, c, h⟩ := s.regraded_time
  rw [refreshGrade_eq, if_neg (by rw [hg]; exact hgr), hcount, deviceStatus,
    sendStatus_keeps (fun t => t.regWritten Code.holdoverEntries 0) hpush (fun _ _ => rfl), regWritten_bump, h]
  rfl

/-- The grades of a bound that has grown for `n` ticks at 1,000 ppb (R66, R67). -/
theorem gradeOfBound_ticks (n : Nat) :
    (n ≤ 100000000 → gradeOfBound (max 1 (min (n * 1000 / 10000000) (2 ^ 32 - 1))) = 1) ∧
      (100010000 ≤ n → n ≤ 10000000000 → gradeOfBound (max 1 (min (n * 1000 / 10000000) (2 ^ 32 - 1))) = 2) ∧
      (10000010000 ≤ n → gradeOfBound (max 1 (min (n * 1000 / 10000000) (2 ^ 32 - 1))) = 3) := by
  unfold gradeOfBound
  refine ⟨fun h => if_pos ?_, fun h1 h2 => ?_, fun h => ?_⟩
  · omega
  · rw [if_neg (by omega), if_pos (by omega)]
  · rw [if_neg (by omega), if_neg (by omega)]

/-! ## Learning -/

theorem State.elapsed_iff (s : State) (t0 n : Nat) : s.elapsed t0 n = true ↔ t0 + n ≤ s.time.tick := by
  simp [State.elapsed]

theorem learningComplete_done {s : State} (xo : Int) (hl : s.learning = true)
    (ht : s.time.qualifiedAt + 600000000 ≤ s.time.tick) :
    learningComplete xo s = { settleBound s with aon := { s.aon with learned := true, xoOffset := xo } } := by
  have he : s.elapsed s.time.qualifiedAt (60 * secondTicks) = true := (s.elapsed_iff _ _).mpr ht
  unfold learningComplete
  rw [hl, he]
  rfl

theorem learningComplete_open {s : State} (xo : Int)
    (h : s.learning = false ∨ s.time.tick < s.time.qualifiedAt + 600000000) : learningComplete xo s = s := by
  unfold learningComplete
  refine if_neg ?_
  rw [Bool.and_eq_true, State.elapsed_iff]
  rcases h with h | h
  · simp [h]
  · rintro ⟨-, h'⟩
    exact absurd h' (Nat.not_le.mpr h)

/-! ## The third candidate's offset, band by band -/

theorem actOnOffset_left {ns : Int} (h : ns.natAbs ≤ 1000) (s : State) :
    (actOnOffset ns s).time.slew = 0 ∧ (actOnOffset ns s).time.realignPending = false ∧
      (actOnOffset ns s).aon.acquired = true := by
  rw [actOnOffset_near h]
  simp [State.acquires]

theorem thirdEdge_slewed {ns : Int} (h1 : 1000 < ns.natAbs) (h2 : ns.natAbs ≤ 1000000) (s : State) :
    let t := actOnOffset ns (s.ppsQualified ns)
    t.time.slew = roundDiv ns 100 ∧ t.time.realignPending = false ∧ t.aon.acquired = true ∧
      t.reg Code.slewEvents 0 = min (((s.regN Code.slewEvents 0 + 1 : Nat)) : Int) (2 ^ 32 - 1) := by
  dsimp only
  rw [actOnOffset_slew h1 h2]
  refine ⟨by simp [State.slews], by simp [State.slews], by simp [State.slews, State.acquires], reg_of_written ?_⟩
  rw [refreshGrade_regWritten (by decide) (by decide) (by decide), regWritten_bump]
  rfl

theorem thirdEdge_waits {ns : Int} (h : 1000000 < ns.natAbs) (s : State) :
    let t := actOnOffset ns (s.ppsQualified ns)
    t.time.slew = 0 ∧ t.time.realignPending = true ∧
      (t.time.realigning = true ↔ s.time.realigning = true ∨ s.regN Code.realignPolicy 0 = 1) := by
  dsimp only
  have hpol : (refreshGrade ((s.ppsQualified ns).waitsRealign ns)).regN Code.realignPolicy 0 = s.regN Code.realignPolicy 0 := by
    unfold State.regN
    rw [refreshGrade_reg (by decide) (by decide) (by decide) (by decide), State.ppsQualified_waitsRealign_reg]
  rw [actOnOffset_far h, hpol]
  split
  next h => simp [h, beginRealign, State.waitsRealign]
  next h => simp [h, State.waitsRealign, State.ppsQualified, settleBound]

end Sys2Proof.Machine

namespace Sys2Proof.Proofs

open Machine

/-- Settles O40: the offset of the third candidate case by case, learning, and the grades of the error bound. -/
theorem referencesSteerTheTimeBase : Obligations.ReferencesSteerTheTimeBase := by
  refine ⟨?offset, fun xo s hs h1 h2 ht => ?learned, fun xo s hs h => ?learning, fun s hs hg hn hne => ?report,
    fun s hs hg hn hp => ?holdover, fun s hs h => ?same, fun s hacq hep hun hsrc hg hp hsl hm hpps hl hb => ?bounds⟩
  case offset =>
    intro since edge s hs hsrc hp hc hr h1 h2 off
    have he : ppsEdge since edge s = actOnOffset off (s.ppsQualified off) := ppsEdge_third hsrc hp hc hr h1 h2
    obtain ⟨k1, k2, k3, k4, k5, k6, k7⟩ := actOnOffset_keeps off (s.ppsQualified off)
    refine ⟨_, run_calm hs (by rw [he]; exact k7), ?_⟩
    rw [he]
    refine ⟨k1, k2, k3, k4, k5, k6, fun hn => ?_, fun hl hn => ?_, fun hl => ?_⟩
    · exact actOnOffset_left hn _
    · exact thirdEdge_slewed hl hn s
    · exact thirdEdge_waits hl s
  case learned =>
    have hl : s.learning = true := by
      unfold State.learning
      split
      next h => exact h2 h
      next h => exact h1 (by simpa using h)
    have he := learningComplete_done xo hl ht
    refine ⟨_, run_quiet hs (by rw [he]; rfl), ?_⟩
    rw [he]
    exact ⟨rfl, rfl, rfl⟩
  case learning =>
    have he : learningComplete xo s = s := learningComplete_open xo (by
      unfold State.learning
      rcases h with ⟨h1, h2⟩ | ⟨h1, h2⟩ | h
      · simp [h1, h2]
      · simp [h1, h2]
      · exact .inr h)
    exact (run_quiet hs (by rw [he])).trans (by rw [he])
  case report =>
    have hr := State.regraded_of_ne hg
    have hgr : s.regraded.time.grade = s.gradeNow := by rw [hr]; rfl
    have hcount : s.regraded.gradeCounted s.time.grade = s.regraded := by
      unfold State.gradeCounted
      dsimp only
      rw [if_neg hg, hgr, if_neg hn]
    have he : refreshGrade s = deviceStatus 9 ([byteOf s.time.grade, byteOf s.gradeNow, 0, 0] ++ beBytes 4 s.boundNow)
        { s with time := { s.time with grade := s.gradeNow } } := by
      rw [refreshGrade_eq, hgr, if_neg hne, hcount, hr, State.boundNow_grade hg hn]
      rfl
    exact (run_calm hs (refreshGrade_toCollect s)).trans (congrArg _ he)
  case holdover =>
    obtain ⟨hb, hat⟩ := State.regraded_from_zero hg hn hp
    have hgr : s.regraded.time.grade ≠ 0 := fun h => hn (s.regraded_grade_zero.mp h)
    refine ⟨_, run_calm hs (refreshGrade_toCollect s), ?_, ?_, ?_, reg_of_written (refreshGrade_holdover hg hn), ?_, ?_, ?_⟩
    · rw [gradeChange, refreshGrade_time]; exact hgr
    · rw [gradeChange, refreshGrade_time]; exact hb
    · rw [gradeChange, refreshGrade_time]; exact hat
    all_goals simp [gradeChange]
  case same => exact (run_quiet hs (by rw [gradeChange, refreshGrade_same h])).trans (by rw [gradeChange, refreshGrade_same h])
  case bounds =>
    intro ticks
    rw [State.gradeNow_holdover hacq hep hun hsrc hg hp hsl hm hpps hl hb]
    exact gradeOfBound_ticks ticks

end Sys2Proof.Proofs

/-! PROOFS. The start of the grid, realignment and epochs, and the statements about them. -/

namespace Sys2Proof.Machine

/-! ## The state checks of an accepted write -/

/-- An accepted write is one that the state does not refuse (R335, R359). -/
theorem State.Accepts.notRefused {s : State} {q : Path} {code value : Nat} {o : Obj} {v : Int}
    (h : s.Accepts q code value o v) (hacc : o.acc ≠ .rw1c) :
    (s.arrived q).commandRefused code (s.instOf q o.scope) v = false := by
  obtain ⟨-, -, -, -, -, hw⟩ := h
  unfold State.writeRefusal at hw
  dsimp only at hw
  split_ifs at hw with h0 h1 h2 h3 h4
  exact Bool.eq_false_iff.mpr h4

/-- A value outside its object's set is refused for its range (R335 check 7). -/
theorem writeRefusal_set {code : Nat} {v : Int} (hs : isSelector code = false) (h : inSet code v = false) (o : Obj) (inst : Nat)
    (s : State) : s.writeRefusal o code inst v = some Abort.range := by
  simp [State.writeRefusal, Obj.accepts, h, hs]

theorem decodeValue_time64 {value : Nat} (h : value < 2 ^ 64) : decodeValue .time64 value = some (value : Int) := by
  have hlow : tyLow .time64 = 0 := rfl
  have hhigh : tyHigh .time64 = 18446744073709551615 := rfl
  have hs : isSigned .time64 = false := rfl
  simp only [decodeValue, hs, Nat.mod_eq_of_lt h, hlow, hhigh, Bool.false_eq_true, if_false]
  exact if_pos ⟨by omega, by omega⟩

/-- The row of REALIGN (R93). -/
def realignRow : Obj := ⟨0x211000, .bool, .wo, .device, 0, 1, 0⟩

theorem findObj_realign : findObj Code.realign = some realignRow := by decide +kernel

/-- The row of EPOCH_SET (R93). -/
def epochSetRow : Obj := ⟨0x210200, .time64, .wo, .device, 0, 18446744073709551615, 0⟩

theorem findObj_epochSet : findObj Code.epochSet = some epochSetRow := by decide +kernel

/-! ## The start of the grid -/

theorem recheckReference_aonField {β : Type} (g : AonSt → β) (s : State) : g (recheckReference s).aon = g s.aon := by
  unfold recheckReference
  split
  · dsimp only
    split <;> rfl
  · rfl

@[simp] theorem recheckReference_ctxs (s : State) : (recheckReference s).ctxs = s.ctxs := by
  unfold recheckReference
  split
  · dsimp only
    split <;> rfl
  · rfl

/-- The state in which the grid has started with an accepted edge (R59, R73). -/
def State.gridStarted (s : State) (edge : Int) : State :=
  let s1 := startGrid s.firstDatum (s.sinceDatum edge) s
  { s1 with
    aon := { s1.aon with acquired := true }
    time := { s1.time with unsync := false, residual := residualOf (s.compensated edge), bound := 0, boundAt := s1.time.tick } }

theorem ppsEdge_starts {since : Nat} {edge : Int} {s : State} (hsrc : s.trunkSource = none) (hp : s.time.pps = true)
    (hst : s.time.starting = true) (h1 : 9999990 ≤ since) (h2 : since ≤ 10000010) :
    ppsEdge since edge s = recheckReference (refreshGrade (s.gridStarted edge)) := by
  have hnear : (decide (secondTicks ≤ since + 10) && decide (since ≤ secondTicks + 10)) = true := by
    simp only [Bool.and_eq_true, decide_eq_true_eq]
    change 10000000 ≤ since + 10 ∧ since ≤ 10000000 + 10
    omega
  unfold ppsEdge acceptedEdge
  rw [hsrc, hp, hst]
  dsimp only
  rw [hnear]
  rfl

/-- The state in which the grid has started without inputs (R73). -/
def State.gridUnsynced (s : State) : State :=
  { startGrid s.firstDatum 0 s with time := { (startGrid s.firstDatum 0 s).time with unsync := true } }

theorem startTimeout_starts {s : State} (hst : s.time.starting = true) (hp : s.time.pps = false)
    (ht : s.time.waitFrom + s.regN Code.startTimeout 0 * 10000000 ≤ s.time.tick) :
    startTimeout s = recheckReference (refreshGrade s.gridUnsynced) := by
  have he : s.elapsed s.time.waitFrom (s.regN Code.startTimeout 0 * secondTicks) = true := (s.elapsed_iff _ _).mpr ht
  unfold startTimeout
  rw [hst, hp, he]
  rfl

theorem startTimeout_waits {s : State} (ht : s.time.tick < s.time.waitFrom + s.regN Code.startTimeout 0 * 10000000) :
    startTimeout s = s := by
  unfold startTimeout
  refine if_neg ?_
  rw [Bool.and_eq_true, State.elapsed_iff]
  rintro ⟨-, h⟩
  exact absurd h (Nat.not_le.mpr ht)

/-- The count of cycles behind a realignment, which follows the numbers (R65, R71). -/
def State.realignedCycles (s : State) (first : Nat) : Nat :=
  ((s.time.cycles : Int) + ((first / s.cycleTicks : Nat) : Int) - ((s.time.nextCycle / s.cycleTicks : Nat) : Int)).toNat

/-- The realigned grid, its count taken (R71). -/
def State.realignCounted (s : State) (first : Nat) (edge : Int) : State :=
  let s1 := startGrid first (s.sinceDatum edge) s
  ({ s1 with time := { s1.time with cycles := s.realignedCycles first } }).bump Code.realignEvents 0

/-- The state in which a realigned grid has started (R71). -/
def State.realigned (s : State) (first : Nat) (edge : Int) : State :=
  let s2 := s.realignCounted first edge
  { s2 with
    aon := { s2.aon with acquired := true }
    time := { s2.time with realigning := false, realignPending := false, unsync := false, slew := 0, quietSlew := false,
                           bound := 0, boundAt := s2.time.tick, residual := residualOf (s.compensated edge), steer := 0 } }

theorem realignGridStart_starts {s : State} (old : Nat) (edge : Int) (hr : s.time.realigning = true)
    (hrun : s.time.running = false) :
    realignGridStart old edge s = refreshGrade (s.realigned ((old + 5000000) / 10000000 * 10000000) edge) := by
  unfold realignGridStart
  rw [if_pos ⟨hr, hrun⟩]
  rfl

/-! ## Epochs -/

/-- Time passes to a datum that is the next cycle's start (R62). -/
theorem advanceTo_time {s : State} {d : Nat} (h : s.time.time64 ≤ d) : (advanceTo d s).time.time64 = d := by
  unfold advanceTo
  split
  · omega
  · rfl

theorem advanceTo_frame (d : Nat) (s : State) :
    ∃ n t64 r, advanceTo d s = { s with time := { s.time with tick := n, time64 := t64 }, aon := { s.aon with rtc := r } } := by
  unfold advanceTo
  split
  · exact ⟨_, _, _, rfl⟩
  · exact ⟨_, _, _, rfl⟩

theorem skipTo_self {s : State} {d : Nat} (h : s.time.nextCycle = d) : skipTo d s = s := by
  unfold skipTo
  exact if_neg (by omega)

/-- The state at the datum of a pending epoch (R62). -/
def State.atDatum (s : State) (d : Nat) : State := skipTo d (advanceTo d s)

/-- The state in which a pending epoch has taken effect, its grade aside (R62, R92, R264). -/
def State.renumbered (s : State) (v d : Nat) : State :=
  let s1 := s.atDatum d
  let s2 := renumber d v { s1 with time := { s1.time with epoch := none, announced := false } }
  { s2 with
    time := { s2.time with adopting := false }
    aon := { s2.aon with acquired := s2.aon.acquired || s1.time.adopting
                         epochWritten := true
                         ledgers := s2.aon.ledgers.map (fun e =>
                           (e.1, match e.2 with
                                 | l :: ls => (if l.opened then { l with flags := l.flags ||| 8 } else l) :: ls
                                 | [] => [])) } }

theorem epochApply_pending {s : State} {v d : Nat} (hr : s.time.running = true) (he : s.time.epoch = some (v, d)) :
    epochApply s = refreshGrade (s.renumbered v d) := by
  unfold epochApply
  rw [if_pos hr, he]
  rfl

/-- What an epoch's application does on a port (R62, R114, R174). -/
def portEpoch (shift : Int) (p : Nat) (u : State) : State :=
  if u.isTrunk p && !u.trunkHead p then u.modTrunk p (fun x => { x with numbering := untwos 32 (twos 32 (x.numbering + shift)) })
  else if u.isBranch p then u.modPort p (fun x => { x with msgs := x.msgs.filter (fun m => !decide (m.bytes.head? = some 9#8)) })
  else u

theorem epochApplies_pending {s : State} {v d : Nat} (hr : s.time.running = true) (he : s.time.epoch = some (v, d)) :
    epochApplies s = forAll allPorts (portEpoch (((d / s.cycleTicks : Nat) : Int) - ((v / s.cycleTicks : Nat) : Int)))
      (refreshGrade (s.renumbered v d)) := by
  rw [← epochApply_pending hr he]
  unfold epochApplies
  rw [if_pos hr, he]
  rfl

/-- The ports' part of an epoch's application is theirs alone (R114, R174). -/
theorem epochApplies_keeps {β : Type} {g : State → β} (hg : ∀ (t : State) x, g { t with ports := x } = g t) {s : State} {v d : Nat}
    (hr : s.time.running = true) (he : s.time.epoch = some (v, d)) :
    g (epochApplies s) = g (refreshGrade (s.renumbered v d)) := by
  rw [epochApplies_pending hr he]
  refine forAll_keeps g _ _ (fun p u => ?_) _
  unfold portEpoch
  split
  · exact hg _ _
  · split
    · exact hg _ _
    · rfl

/-- At the datum of an epoch that is the next cycle's start the numbers are those written, and all else goes on (R62). -/
theorem State.renumbered_time {s : State} {v d : Nat} (ht : s.time.time64 ≤ d) (hd : s.time.nextCycle = d) :
    (s.renumbered v d).time.time64 = v ∧ (s.renumbered v d).time.nextCycle = v ∧
      (s.renumbered v d).time.cycles = s.time.cycles ∧ (s.renumbered v d).time.epoch = none ∧
      (s.renumbered v d).time.page = (s.time.page + 1) % 4 ∧
      (s.renumbered v d).time.epochLog = ((d, v) :: s.time.epochLog).take 4 ∧ (s.renumbered v d).ctxs = s.ctxs ∧
      (s.renumbered v d).faults = s.faults := by
  have h64 := advanceTo_time ht
  obtain ⟨n, t64, r, h⟩ := advanceTo_frame d s
  have hat : s.atDatum d = advanceTo d s := skipTo_self (by rw [h]; exact hd)
  rw [h] at h64
  simp only at h64
  subst h64
  rw [h] at hat
  unfold State.renumbered
  rw [hat]
  simp [renumber, hd]

/-! ## The announcement of an epoch -/

/-- A fold keeps what its steps on the list's members keep. -/
theorem forAll_keeps_of_mem {α β : Type} (g : State → β) {xs : List α} {f : α → State → State}
    (h : ∀ x ∈ xs, ∀ t, g (f x t) = g t) (s : State) : g (forAll xs f s) = g s := by
  induction xs generalizing s with
  | nil => rfl
  | cons x xs ih =>
    exact (ih (fun y hy => h y (List.mem_cons_of_mem _ hy)) (f x s)).trans (h x (List.mem_cons_self ..) s)

theorem queueOnce_ports (p d : Nat) (bytes : List Byte) (s : State) :
    queueOnce p d bytes s = s.modPort p (fun x => { x with msgs := x.msgs ++
      [{ drop := d, bytes := bytes, untilCycle := none, seqs := [], fromCycle := s.time.cycles + 1 }] }) := rfl

/-- What announces an epoch changes, beside the mark: the messages of branch ports (R114). -/
theorem timeAnnounce_keeps {β : Type} {g : State → β} {s : State} {v d : Nat}
    (hg : ∀ p ∈ allPorts, s.isBranch p = true → ∀ (t : State) f, g (t.modPort p f) = g t) (he : s.time.epoch = some (v, d))
    (ha : s.time.announced = false) (h1 : d ≤ s.time.time64 + 10000000) (h2 : s.time.time64 < d) :
    g (timeAnnounce s) = g { s with time := { s.time with announced := true } } := by
  unfold timeAnnounce
  rw [he]
  dsimp only
  rw [if_pos ⟨ha, h1, h2⟩]
  refine forAll_keeps_of_mem g (fun p hp t => forAll_keeps g _ _ (fun d u => ?_) t) _
  rw [List.mem_filter] at hp
  exact (congrArg g (queueOnce_ports p d _ u)).trans (hg p hp.1 hp.2 _ _)

end Sys2Proof.Machine

namespace Sys2Proof.Proofs

open Machine

/-- Settles O41: the grid starts at an edge, at the end of START_TIMEOUT, and anew behind a realignment. -/
theorem theGridStartsAndIsRealigned : Obligations.TheGridStartsAndIsRealigned := by
  refine ⟨⟨?start, fun s hs hst hp ht => ?timeout, fun s hs ht => ?waits⟩, fun q tid value s o hacc => ?realign, ?realigned,
    fun old edge s hs hr => ?still⟩
  case start =>
    intro since ns s hs hsrc hp hst h1 h2 first late
    have he := ppsEdge_starts (edge := ns) hsrc hp hst h1 h2
    refine ⟨_, run_running _ hs.1, ?_⟩
    rw [he]
    refine ⟨?_, ?_, ?_, ?_, ?_, ?_, ?_⟩
    case refine_6 =>
      rw [collect_aon_congr (g := AonSt.acquired) (fun _ => rfl), recheckReference_aonField AonSt.acquired, refreshGrade_aon]
      rfl
    all_goals simp [State.gridStarted]
    all_goals rfl
  case timeout =>
    have he := startTimeout_starts hst hp ht
    refine ⟨_, run_running _ hs.1, ?_⟩
    rw [he]
    refine ⟨?_, ?_, ?_, ?_, ?_⟩
    case refine_4 =>
      rw [collect_time, (recheckReference_clock _).1, refreshGrade_time]
      exact State.regraded_unsync_grade rfl
    all_goals simp [State.gridUnsynced]
    all_goals rfl
  case waits => exact (run_quiet hs (by rw [startTimeout_waits ht])).trans (by rw [startTimeout_waits ht])
  case realign =>
    obtain rfl := hacc.obj findObj_realign
    have hp : s.time.realignPending = true := by
      simpa [State.commandRefused] using hacc.notRefused (by decide)
    refine ⟨hp, _, exec_accepted (i := .realign q tid value) (u := beginRealign (s.arrived q)) rfl hacc rfl
      (State.arrived_oxl s q) (State.arrived_faults s q), ?_, ?_, ?_, ?_, ?_, ?_⟩
    case refine_6 =>
      rw [← responseBytes_writeReq]
      exact holds_counted (answer_holds _ rfl (arrived_abandoned s))
    all_goals simp [beginRealign]
  case realigned =>
    intro old edge s hs hr hrun first late
    have he : realignGridStart old edge s = refreshGrade (s.realigned first edge) := realignGridStart_starts old edge hr hrun
    refine ⟨_, run_calm hs (by rw [he, refreshGrade_toCollect]; simp [State.realigned, State.realignCounted]; rfl), ?_⟩
    rw [he]
    refine ⟨?_, ?_, ?_, ?_, ?_, ?_, reg_of_written ?_⟩
    case refine_7 =>
      rw [refreshGrade_regWritten (by decide) (by decide) (by decide)]
      exact regWritten_bump ..
    all_goals simp [State.realigned, State.realignCounted]
    all_goals rfl
  case still =>
    have he : realignGridStart old edge s = s := by simp [realignGridStart, hr]
    exact (run_quiet hs (by rw [he])).trans (by rw [he])

/-- Settles O42: the write of an epoch, its application at its datum, and its announcement. -/
theorem epochsApplyAtTheirDatum : Obligations.EpochsApplyAtTheirDatum := by
  refine ⟨⟨fun q tid value s o v hacc => ?write, fun q tid value s hs hv hm hlc => ?refused⟩,
    fun s v d hs hr he ht hd => ?apply, fun s hs he => ?none, fun s v d hs he ha h1 h2 => ?announce⟩
  case write =>
    obtain rfl := hacc.obj findObj_epochSet
    refine ⟨_, (s.arrived q).epochDatum, exec_accepted (i := .epochSet q tid value) (u := epochSet v.toNat (s.arrived q)) rfl hacc rfl
      (State.arrived_oxl s q) (State.arrived_faults s q), ?_, ?_, ?_, ?_, ?_, ?_, ?_, ?_⟩
    · simp [epochSet]
    · exact Nat.mul_mod_left _ _
    · simp only [State.epochDatum, State.arrived_time, secondTicks]; omega
    · simp only [State.epochDatum, State.arrived_time, secondTicks]; omega
    · simp [epochSet]
    · simp [epochSet]
    · simp [epochSet]
    · rw [← responseBytes_writeReq]
      exact holds_counted (answer_holds _ rfl (arrived_abandoned s))
  case refused =>
    have hdec : decodeValue epochSetRow.ty value = some (value : Int) := decodeValue_time64 hv
    have hin : inSet Code.epochSet (value : Int) = false := by
      rw [inSet, if_neg (by decide), if_pos rfl]
      exact decide_eq_false (by omega)
    have hcode : addressCode (Code.epochSet / 256) (Code.epochSet % 256) = Code.epochSet := addressCode_split (by decide)
    have h := (refusedWritesChangeNothing q tid (Code.epochSet / 256) (Code.epochSet % 256) value s hs).2
    rw [hcode] at h
    obtain ⟨-, h⟩ := h epochSetRow findObj_epochSet
    obtain ⟨-, -, h⟩ := h (by simp [indexAvailable, hlc])
    obtain ⟨-, h⟩ := h (by decide) (fun h => absurd h (by decide))
    exact (h rfl rfl).2 value 0x06010006 hdec (writeRefusal_set (by decide) hin _ _ _)
  case apply =>
    have hk := fun {β : Type} (g : State → β) (hg : ∀ (t : State) x, g { t with ports := x } = g t) =>
      epochApplies_keeps (g := g) hg hr he
    obtain ⟨k1, k2, k3, k4, k5, k6, k7, k8⟩ := State.renumbered_time (v := v) ht hd
    refine ⟨_, run_calm hs ?_, ?_, ?_, ?_, ?_, ?_, ?_, ?_, ?_⟩
    · rw [hk (fun t => t.faults.toCollect) (fun _ _ => rfl), refreshGrade_toCollect, k8]
    case refine_8 => rw [hk (fun t => t.aon) (fun _ _ => rfl), refreshGrade_aon]; rfl
    case refine_9 => rw [hk (fun t => t.ctxs) (fun _ _ => rfl), refreshGrade_ctxs, k7]
    all_goals rw [hk (fun t => t.time) (fun _ _ => rfl), refreshGrade_time]; simp [*]
  case none =>
    have h1 : epochApplies s = s := by simp [epochApplies, he]
    have h2 : timeAnnounce s = s := by simp [timeAnnounce, he]
    exact ⟨(run_quiet hs (by rw [h1])).trans (by rw [h1]), (run_quiet hs (by rw [h2])).trans (by rw [h2])⟩
  case announce =>
    have hk := fun {β : Type} (g : State → β)
        (hg : ∀ p ∈ allPorts, s.isBranch p = true → ∀ (t : State) f, g (t.modPort p f) = g t) =>
      timeAnnounce_keeps (g := g) hg he ha h1 h2
    refine ⟨_, run_quiet hs (hk (fun t => t.faults) (fun _ _ _ _ _ => rfl)), hk (fun t => t.time) (fun _ _ _ _ _ => rfl),
      hk (fun t => t.aon) (fun _ _ _ _ _ => rfl), hk (fun t => t.doms) (fun _ _ _ _ _ => rfl), fun p d' hp hd' hb => ⟨?_, ?_⟩⟩
    · refine hk (fun t => t.port p) (fun p' _ hb' t f => State.port_setPort_ne _ _ ?_)
      rintro rfl
      rw [hb] at hb'
      cases hb'
    · exact hk (fun t => t.ctx p d') (fun _ _ _ _ _ => rfl)

end Sys2Proof.Proofs

/-! PROOFS. Held raises: their records, acknowledgement and clearing, an injected raise, and the statement about them. -/

namespace Sys2Proof.Machine

/-! ## Records -/

/-- What a record's report leaves alone beside the log (R410, R411). -/
structure BesidesRecords {β : Type} (g : State → β) : Prop where
  push : ∀ x l t, g (pushStatus x l t) = g t
  seq : ∀ (t : State) n, g { t with oxl := { t.oxl with seq := n } } = g t
  log : ∀ r t, g (logFault r t) = g t

theorem emitRecords_keeps {β : Type} {g : State → β} (h : BesidesRecords g) (rs : List FaultRec) (s : State) :
    g (emitRecords rs s) = g s :=
  forAll_keeps g _ _ (fun r t => (sendStatus_keeps g h.push h.seq _ _ _ _ _ _ _).trans (h.log r t)) s

/-- What looks at neither the links, the counters nor the always-on domain is left alone by records. -/
theorem BesidesRecords.of_fields {β : Type} {g : State → β}
    (h : ∀ (t : State) r o a, g { t with regs := r, oxl := o, aon := a } = g t) : BesidesRecords g where
  push x l t := by
    unfold pushStatus
    split
    · cases l
      · exact h t t.regs _ t.aon
      · exact h t t.regs _ t.aon
    · exact h t _ t.oxl t.aon
  seq t _ := h t t.regs _ t.aon
  log _ t := h t t.regs t.oxl _

/-- Of the always-on domain records change the log alone (R410). -/
theorem emitRecords_aon (rs : List FaultRec) (s : State) :
    { (emitRecords rs s).aon with faultLog := s.aon.faultLog } = s.aon := by
  have h := emitRecords_keeps (g := fun t => { t.aon with faultLog := s.aon.faultLog })
    ⟨fun x l t => by dsimp only; unfold pushStatus; split <;> simp, fun _ _ => rfl, fun _ _ => rfl⟩ rs s
  exact h

theorem reportFault_log (r : FaultRec) (s : State) : (reportFault r s).aon.faultLog = s.aon.faultLog := by
  rw [reportFault_aon]

theorem take_cons_take {α : Type} (x : α) (l : List α) {n m : Nat} (h : n ≤ m + 1) :
    List.take n (x :: List.take m l) = List.take n (x :: l) := by
  cases n with
  | zero => rfl
  | succ n => rw [List.take_succ_cons, List.take_succ_cons, List.take_take, min_eq_left (by omega)]

/-- The log holds the last 64 records, newest first (R410). -/
theorem emitRecords_log (rs : List FaultRec) (s : State) :
    (emitRecords rs s).aon.faultLog.take 64 = (rs.reverse ++ s.aon.faultLog).take 64 := by
  induction rs generalizing s with
  | nil => rfl
  | cons r rs ih =>
    have hstep : emitRecords (r :: rs) s = emitRecords rs (reportFault r (logFault r s)) := rfl
    rw [hstep, ih, reportFault_log]
    have hcut := take_cons_take (n := 64 - rs.length) (m := 63) r s.aon.faultLog (by omega)
    simp [logFault, List.take_append, hcut]

/-! ## Commands on the held raises -/

/-- A core cycle without occurrences takes the injections written in it for a later one (R6, R419). -/
theorem collect_none {s : State} (h : s.faults.due = []) : collect s =
    { s with faults := { s.faults with inject := s.faults.inject ++ s.faults.injectNext, injectNext := [], ackedNow := [] } } := by
  unfold collect
  rw [h]
  cases hn : s.faults.injectNext with
  | nil => simp [State.forgetAcks, ← hn]
  | cons x xs => rfl

def faultAckRow : Obj := ⟨0x780003, .u8, .wo, .device, 0, 7, 0⟩
def faultClearRow : Obj := ⟨0x780004, .u8, .wo, .device, 0, 7, 0⟩
def fecRearmRow : Obj := ⟨0x78010B, .bool, .wo, .device, 0, 1, 0⟩
def faultInjectRow : Obj := ⟨0xF01001, .u8, .rwf, .device, 1, 63, 0⟩

theorem findObj_faultAck : findObj Code.faultAck = some faultAckRow := by decide +kernel
theorem findObj_faultClear : findObj Code.faultClear = some faultClearRow := by decide +kernel
theorem findObj_fecRearm : findObj Code.fecRearm = some fecRearmRow := by decide +kernel
theorem findObj_faultInject : findObj Code.faultInject = some faultInjectRow := by decide +kernel

theorem hostWrite_faultAck {v : Int} (h : v ≠ 0) (q : Path) (inst master : Nat) (s : State) :
    hostWrite q faultAckRow Code.faultAck inst v master s = faultAck v.toNat s := by
  unfold hostWrite
  dsimp only [faultAckRow]
  rw [if_neg (by decide), if_neg (by decide), if_neg h]
  rfl

theorem hostWrite_faultClear {v : Int} (h : v ≠ 0) (q : Path) (inst master : Nat) (s : State) :
    hostWrite q faultClearRow Code.faultClear inst v master s = faultClear v.toNat s := by
  unfold hostWrite
  dsimp only [faultClearRow]
  rw [if_neg (by decide), if_neg (by decide), if_neg h]
  rfl

/-- The state of an injection that is written, for a later core cycle (R6, R419). -/
def State.injecting (s : State) (inst : Nat) (v : Int) (master : Nat) : State :=
  let t := s.setReg Code.faultInject inst v
  { t with faults := { t.faults with injectNext := t.faults.injectNext ++ [(v.toNat, master)] } }

theorem hostWrite_faultInject (v : Int) (q : Path) (inst master : Nat) (s : State) :
    hostWrite q faultInjectRow Code.faultInject inst v master s = s.injecting inst v master := by
  unfold hostWrite
  dsimp only [faultInjectRow]
  rw [if_neg (by decide), if_pos rfl]
  rfl

/-- What an accepted write leaves behind a core cycle without occurrences. -/
theorem exec_accepted_none {i : Instr} {s u : State} {q : Path} {tid code value : Nat} {o : Obj} {v : Int}
    (hi : hostWriteOf i = some (q, tid, code, value)) (hacc : s.Accepts q code value o v)
    (hw : hostWrite q o code (s.instOf q o.scope) v (masterOf q) (s.arrived q) = u) (hd : u.faults.due = []) :
    exec i s = .next { (answer q { writeReq tid code value with silent := linkGone q (s.arrived q) u }
        (.ok (addressBytes (code / 256) (code % 256) 0)) u).counted q with
      faults := { u.faults with inject := u.faults.inject ++ u.faults.injectNext, injectNext := [], ackedNow := [] } } := by
  subst hw
  refine (Proofs.acceptedWritesRun i s q tid code value o v hi hacc).trans ?_
  dsimp only
  rw [collect_none (by rw [answered_faults]; exact hd), answered_faults]

/-! ## An injected raise -/

/-- The raise that an injection brings (R419). -/
def State.injectedRaise (s : State) (src m : Nat) : Raise :=
  { source := src, key := [], cls := defaultClass src, acked := false, present := false, injected := true,
    captured := s.aon.capture.isNone, time := s.time.time64, detail := [],
    access := if src = 4 ∨ src = 5 ∨ src = 6 then 2 else 0,
    master := if src = 4 ∨ src = 5 ∨ src = 6 then m else 0,
    address := if src = 4 ∨ src = 5 ∨ src = 6 then Code.faultInject else 0 }

theorem takeRaise_injected {src m : Nat} {s : State} (hroom : s.faults.held.length < 256) :
    (takeRaise (injectedOcc (src, m)) false s).1.faults = { s.faults with held := s.faults.held ++ [s.injectedRaise src m] } ∧
      (takeRaise (injectedOcc (src, m)) false s).2.1.cls = defaultClass src := by
  unfold takeRaise injectedOcc State.injectedRaise
  dsimp only
  (repeat' split) <;> simp_all [raiseClass, countOcc, stampOcc, logFault]

/-- A raise changes, beside its count, the faults and the always-on records (R404–R410). -/
theorem takeRaise_frame (o : Occ) (b : Bool) (s : State) :
    ∃ f a, (takeRaise o b s).1 = { countOcc o s with faults := f, aon := a } := by
  unfold takeRaise
  dsimp only
  (repeat' split) <;> exact ⟨_, _, rfl⟩

/-- What looks at none of the counters, the links, the faults and the always-on domain is left alone by a raise and its report. -/
theorem raised_keeps {β : Type} {g : State → β}
    (h : ∀ (t : State) r o f a, g { t with regs := r, oxl := o, faults := f, aon := a } = g t) (o : Occ) (r : FaultRec) (s : State) :
    g (reportFault r (takeRaise o false s).1).forgetAcks = g s := by
  obtain ⟨f, a, hr⟩ := takeRaise_frame o false s
  have hc : g (countOcc o s) = g s := by
    unfold countOcc
    split
    · exact h s _ s.oxl s.faults s.aon
    · exact h s s.regs s.oxl s.faults _
  have hpush : ∀ x l t, g (pushStatus x l t) = g t := by
    intro x l t
    unfold pushStatus
    split
    · cases l
      · exact h t t.regs _ t.faults t.aon
      · exact h t t.regs _ t.faults t.aon
    · exact h t _ t.oxl t.faults t.aon
  calc g (reportFault r (takeRaise o false s).1).forgetAcks
      = g (reportFault r (takeRaise o false s).1) := h _ _ _ _ _
    _ = g (takeRaise o false s).1 := sendStatus_keeps g hpush (fun t _ => h t t.regs _ t.faults t.aon) _ _ _ _ _ _ _
    _ = g (countOcc o s) := by rw [hr]; exact h _ _ _ _ _
    _ = g s := hc

/-- An injected raise counts in INJECTIONS (R419). -/
theorem raised_injections {o : Occ} (hi : o.injected = true) (r : FaultRec) (s : State) :
    (reportFault r (takeRaise o false s).1).forgetAcks.regWritten Code.injections 0 =
      some (min ((s.regN Code.injections 0 + 1 : Nat) : Int) (2 ^ 32 - 1)) := by
  obtain ⟨f, a, hr⟩ := takeRaise_frame o false s
  have hpush : ∀ x l (t : State), (pushStatus x l t).regWritten Code.injections 0 = t.regWritten Code.injections 0 := by
    intro x l t
    unfold pushStatus
    split
    · cases l <;> rfl
    · exact bumpBy_regWritten (by cases l <;> decide) _ _
  have hc : countOcc o s = s.bump Code.injections 0 := if_pos hi
  calc (reportFault r (takeRaise o false s).1).forgetAcks.regWritten Code.injections 0
      = (reportFault r (takeRaise o false s).1).regWritten Code.injections 0 := rfl
    _ = (takeRaise o false s).1.regWritten Code.injections 0 :=
      sendStatus_keeps (fun t => t.regWritten Code.injections 0) hpush (fun _ _ => rfl) _ _ _ _ _ _ _
    _ = (s.bump Code.injections 0).regWritten Code.injections 0 := by rw [hr, hc]; rfl
    _ = _ := regWritten_bump ..

/-- No count of FAULT_TABLE shows an injected raise (R419). -/
theorem raised_counts {o : Occ} (hi : o.injected = true) (r : FaultRec) (s : State) :
    (reportFault r (takeRaise o false s).1).forgetAcks.aon.faultCounts = s.aon.faultCounts := by
  have hc : countOcc o s = s.bump Code.injections 0 := if_pos hi
  change (reportFault r (takeRaise o false s).1).aon.faultCounts = _
  rw [reportFault_aon, takeRaise_counts, hc, State.bump_aon]

theorem injectedOcc_injected (src m : Nat) : (injectedOcc (src, m)).injected = true := by
  unfold injectedOcc; split <;> rfl

/-! ## Acknowledgement and clearing -/

@[simp] theorem raiseRecord_arrived (event : Nat) (r : Raise) (s : State) (q : Path) :
    raiseRecord event r (s.arrived q) = raiseRecord event r s := by
  cases q <;> rfl

theorem emitRecords_faults (rs : List FaultRec) (s : State) : (emitRecords rs s).faults = s.faults :=
  emitRecords_keeps (g := State.faults) (.of_fields fun _ _ _ _ => rfl) rs s
theorem emitRecords_ports (rs : List FaultRec) (s : State) : (emitRecords rs s).ports = s.ports :=
  emitRecords_keeps (g := State.ports) (.of_fields fun _ _ _ _ => rfl) rs s
theorem emitRecords_ctxs (rs : List FaultRec) (s : State) : (emitRecords rs s).ctxs = s.ctxs :=
  emitRecords_keeps (g := State.ctxs) (.of_fields fun _ _ _ _ => rfl) rs s
theorem emitRecords_nvm (rs : List FaultRec) (s : State) : (emitRecords rs s).nvm = s.nvm :=
  emitRecords_keeps (g := State.nvm) (.of_fields fun _ _ _ _ => rfl) rs s

/-- What an accepted write leaves that emits records behind a change of the held raises (R410, R412, R413). -/
theorem exec_records {i : Instr} {s : State} {q : Path} {tid code value : Nat} {o : Obj} {v : Int} {f : FaultSt}
    {rs : List FaultRec} (hi : hostWriteOf i = some (q, tid, code, value)) (hacc : s.Accepts q code value o v)
    (hw : hostWrite q o code (s.instOf q o.scope) v (masterOf q) (s.arrived q) = emitRecords rs { s.arrived q with faults := f })
    (hd : f.due = []) (hn : f.injectNext = []) :
    ∃ t : State, exec i s = .next t ∧ t.faults = { f with ackedNow := [] } ∧
      { t.aon with faultLog := s.aon.faultLog } = s.aon ∧
      t.aon.faultLog.take 64 = (rs.reverse ++ s.aon.faultLog).take 64 ∧ t.ports = s.ports ∧ t.ctxs = s.ctxs ∧ t.nvm = s.nvm := by
  have haon : ({ s.arrived q with faults := f } : State).aon = s.aon := State.arrived_aon s q
  have hlog := emitRecords_log rs { s.arrived q with faults := f }
  have hrest := emitRecords_aon rs { s.arrived q with faults := f }
  rw [haon] at hlog hrest
  refine ⟨_, exec_accepted_none hi hacc hw (by rw [emitRecords_faults]; exact hd), ?_, ?_, ?_, ?_, ?_, ?_⟩
  · simp [emitRecords_faults, hn]
  · rw [answered_aon]; exact hrest
  · rw [answered_aon]; exact hlog
  · rw [answered_ports, emitRecords_ports, State.arrived_ports]
  · rw [answered_ctxs, emitRecords_ctxs, State.arrived_ctxs]
  · rw [answered_nvm, emitRecords_nvm, State.arrived_nvm]

/-- The state behind an injected raise, before its report (R404, R419). -/
theorem collect_injected {s : State} {o : Occ} (hd : s.faults.due = [o]) (hi : o.injected = true) (hcls : (takeRaise o false
    { s with faults := { s.faults with due := [], inject := s.faults.injectNext, injectNext := [] } }).2.1.cls ≠ 4) :
    ∃ r, collect s = (reportFault r (takeRaise o false
      { s with faults := { s.faults with due := [], inject := s.faults.injectNext, injectNext := [] } }).1).forgetAcks := by
  have hrep : ∀ u : State, u.faults.held.any (repeats o) = false := by simp [repeats, hi]
  unfold collect
  rw [hd]
  simp only [List.any_cons, hi, Bool.true_or, if_true, List.append_nil]
  have hsort : sortBy captureBefore [o] = [o] := rfl
  rw [hsort]
  unfold takeAll
  rw [hrep]
  simp only [Bool.false_eq_true, if_false, takeAll, List.any_cons, List.any_nil, Bool.or_false, beq_iff_eq]
  exact ⟨_, by rw [if_neg hcls]; rfl⟩

end Sys2Proof.Machine

namespace Sys2Proof.Proofs

open Machine

/-- Settles O32, command by command. -/
theorem heldRaisesAreAcknowledgedAndCleared : Obligations.HeldRaisesAreAcknowledgedAndCleared := by
  refine ⟨?ack, ?clear, fun q tid value s o hacc => ?rearm, fun q tid value s o v hacc => ?inject,
    fun src m s hs hin hcls hroom => ?raised⟩
  case ack =>
    intro q tid value s o v hacc hv hit
    obtain rfl := hacc.obj findObj_faultAck
    obtain ⟨-, hdue, hnext, hacked⟩ := hacc.1.1
    have hw : faultAck v.toNat (s.arrived q) = emitRecords ((s.faults.held.filter hit).map (fun r => raiseRecord 2 r s))
        { s.arrived q with faults := { s.faults with
            held := s.faults.held.map (fun r => if hit r then { r with acked := true } else r)
            ackedNow := s.faults.ackedNow ++ s.faults.held.filter hit } } := by
      simp [faultAck, inMask, hit]
    obtain ⟨t, ht, hf, hrest⟩ := exec_records (i := .faultAck q tid value) rfl hacc ((hostWrite_faultAck hv q _ _ _).trans hw) hdue hnext
    refine ⟨t, ht, ?_, hrest⟩
    rw [hf, ← hacked]
  case clear =>
    intro q tid value s o v hacc hv hit
    obtain rfl := hacc.obj findObj_faultClear
    obtain ⟨-, hdue, hnext, hacked⟩ := hacc.1.1
    have hw : faultClear v.toNat (s.arrived q) = emitRecords ((s.faults.held.filter hit).map (fun r => raiseRecord 3 r s))
        { s.arrived q with faults := { s.faults with held := s.faults.held.filter (fun r => !(hit r && !r.present)) } } := by
      simp [faultClear, inMask, hit]
    obtain ⟨t, ht, hf, hrest⟩ := exec_records (i := .faultClear q tid value) rfl hacc ((hostWrite_faultClear hv q _ _ _).trans hw) hdue hnext
    refine ⟨t, ht, ?_, hrest⟩
    rw [hf, ← hacked]
  case rearm =>
    obtain rfl := hacc.obj findObj_fecRearm
    obtain ⟨t, ht, hh, ha, -⟩ := exec_accepted_onlyAnswered (i := .fecRearm q tid value)
      (u := { s with aon := { s.aon with capture := none } }) rfl hacc (by cases q <;> rfl) rfl rfl
    exact ⟨t, ht, hh, ha⟩
  case inject =>
    obtain rfl := hacc.obj findObj_faultInject
    obtain ⟨-, hdue, hnext, hacked⟩ := hacc.1.1
    refine ⟨_, exec_accepted_none (i := .faultInject q tid value) rfl hacc (hostWrite_faultInject v q _ _ _)
      (by simp [State.injecting, hdue]), ?_, ?_, ?_, ?_, ?_⟩
    case refine_1 =>
      have hgone : linkGone q (s.arrived q) ((s.arrived q).injecting (s.instOf q faultInjectRow.scope) v (masterOf q)) = false :=
        linkGone_of_oxl rfl
      rw [hgone, ← responseBytes_writeReq]
      exact holds_counted (answer_holds (s := (s.arrived q).injecting _ v (masterOf q)) _ rfl (arrived_abandoned s))
    · simp [State.injecting, hnext, hacked, hdue]
    all_goals simp [State.injecting]
  case raised =>
    have hcore : injectedRaise s = { s with faults := { s.faults with due := s.faults.due ++ [injectedOcc (src, m)] } } := by
      simp [injectedRaise, State.injections, hin, hcls, forAll, notice]
    have ⟨_, hdue, hnext, hacked⟩ := hs
    have hcol := collect_injected (s := injectedRaise s) (o := injectedOcc (src, m)) (by rw [hcore, hdue]; rfl)
      (injectedOcc_injected src m)
    rw [hcore] at hcol
    obtain ⟨htake, hc⟩ := takeRaise_injected (src := src) (m := m) (s := { s with faults := { s.faults with
      due := [], inject := s.faults.injectNext, injectNext := [] } }) hroom
    obtain ⟨r, hr⟩ := hcol (by rw [hc]; omega)
    refine ⟨_, run_running _ hs.1, ?_⟩
    rw [hcore, hr]
    refine ⟨?_, ?_, reg_of_written ?_, ?_, ?_, ?_, ?_⟩
    · change { (reportFault _ _).faults with ackedNow := [] } = _
      rw [reportFault_faults, htake]
      simp [hdue, hnext, hacked, State.injectedRaise]
    · exact raised_counts (injectedOcc_injected src m) _ _
    · exact raised_injections (injectedOcc_injected src m) _ _
    · exact raised_keeps (g := State.ports) (fun _ _ _ _ _ => rfl) _ _ _
    · exact raised_keeps (g := State.ctxs) (fun _ _ _ _ _ => rfl) _ _ _
    · exact raised_keeps (g := State.nvm) (fun _ _ _ _ _ => rfl) _ _ _
    · exact raised_keeps (g := State.engines) (fun _ _ _ _ _ => rfl) _ _ _

end Sys2Proof.Proofs

/-! PROOFS. Memory slices and the scrubber, and the statement about them. -/

namespace Sys2Proof.Machine

/-! ## Raises of other sources -/

/-- From one state to another only real occurrences of other sources than `n` were noted, and none was counted (R404). -/
def RaisesBeside (n : Nat) (s t : State) : Prop :=
  t.aon.faultCounts = s.aon.faultCounts ∧
    ∃ l, t.faults.due = s.faults.due ++ l ∧ ∀ x ∈ l, x.injected = false ∧ x.source ≠ n

theorem RaisesBeside.refl (n : Nat) (s : State) : RaisesBeside n s s := ⟨rfl, [], by simp, by simp⟩

theorem RaisesBeside.of_same {n : Nat} {s t : State} (hf : t.faults.due = s.faults.due)
    (ha : t.aon.faultCounts = s.aon.faultCounts) : RaisesBeside n s t := ⟨ha, [], by simp [hf], by simp⟩

theorem RaisesBeside.trans {n : Nat} {s t u : State} (h1 : RaisesBeside n s t) (h2 : RaisesBeside n t u) : RaisesBeside n s u := by
  obtain ⟨a1, l1, d1, p1⟩ := h1
  obtain ⟨a2, l2, d2, p2⟩ := h2
  refine ⟨a2.trans a1, l1 ++ l2, by rw [d2, d1, List.append_assoc], fun x hx => ?_⟩
  exact (List.mem_append.mp hx).elim (p1 x) (p2 x)

theorem RaisesBeside.notice {n : Nat} {o : Occ} (hi : o.injected = false) (hs : o.source ≠ n) (s : State) :
    RaisesBeside n s (notice o s) := ⟨rfl, [o], rfl, by simp [hi, hs]⟩

theorem RaisesBeside.forAll {α : Type} {n : Nat} {f : α → State → State} (h : ∀ x t, RaisesBeside n t (f x t)) (xs : List α)
    (s : State) : RaisesBeside n s (forAll xs f s) := by
  induction xs generalizing s with
  | nil => exact .refl n s
  | cons x xs ih => exact (h x s).trans (ih (f x s))

theorem countStep_other {n : Nat} {l : List Occ} (h : ∀ x ∈ l, x.source ≠ n) (k : Nat) : l.foldl (countStep n) k = k := by
  induction l with
  | nil => rfl
  | cons x l ih =>
    rw [List.foldl_cons, show countStep n k x = k from if_neg (fun hc => h x (List.mem_cons_self ..) hc.2)]
    exact ih (fun y hy => h y (List.mem_cons_of_mem _ hy))

/-- One real occurrence of a source among others is counted once (R404). -/
theorem collect_count_beside {s u v : State} {o : Occ} (hd : s.faults.due = []) (hi : o.injected = false)
    (h1 : RaisesBeside o.source s u) (h2 : RaisesBeside o.source (notice o u) v) :
    (collect v).faultCount o.source = min (s.faultCount o.source + 1) (2 ^ 32 - 1) := by
  obtain ⟨a1, l1, d1, p1⟩ := h1
  obtain ⟨a2, l2, d2, p2⟩ := h2
  have hdue : v.faults.due = l1 ++ o :: l2 := by rw [d2, notice, d1, hd]; simp
  have hcount : v.faultCount o.source = s.faultCount o.source := by
    simp only [State.faultCount, a2]
    exact congrArg (Tab.get · o.source 0) a1
  have hreal : ∀ x ∈ l1 ++ o :: l2, x.injected = false := by
    intro x hx
    simp only [List.mem_append, List.mem_cons] at hx
    rcases hx with hx | rfl | hx
    · exact (p1 x hx).1
    · exact hi
    · exact (p2 x hx).1
  have hfold : (l1 ++ o :: l2).foldl (countStep o.source) (v.faultCount o.source) =
      min (s.faultCount o.source + 1) (2 ^ 32 - 1) := by
    rw [List.foldl_append, countStep_other (fun x hx => (p1 x hx).2), List.foldl_cons,
      countStep_other (fun x hx => (p2 x hx).2), hcount]
    simp [countStep, hi]
  cases hl : l1 ++ o :: l2 with
  | nil => simp at hl
  | cons x xs =>
    rw [hl] at hreal hfold
    rw [collect_count (hdue.trans hl) hreal, hfold]

/-! ## Words of the shared memories -/

theorem rebuildCtx_keeps {β : Type} {g : State → β}
    (hg : ∀ (t : State) r f c b, g { t with regs := r, free := f, ctxs := c, test := { t.test with badWords := b } } = g t)
    (p d : Nat) (words : List Nat) (s : State) : g (rebuildCtx p d words s) = g s := by
  have hreg : ∀ (t : State) c i v, g (t.setReg c i v) = g t := fun t _ _ _ => hg t _ t.free t.ctxs t.test.badWords
  have hdraw : ∀ (t : State) f, g (t.draw.2.modCtx p d f) = g t := fun t _ => hg t t.regs _ _ t.test.badWords
  have hclear : ∀ (t : State) w, g (clearBad 2 w 1 t) = g t := fun t _ => hg t t.regs t.free t.ctxs _
  unfold rebuildCtx
  split
  · rfl
  dsimp only
  refine (forAll_keeps g _ _ (fun w t => hclear t _) _).trans ?_
  have h1 : ∀ t, g (forAll words (fun w t => match ctxCounters w with
      | some c => (t.setReg c (dropKey p d) 0).setReg (c + 1) (dropKey p d) 0
      | none => t) t) = g t := fun t => forAll_keeps g _ _ (fun w t => by
        split
        · exact (hreg _ _ _ _).trans (hreg _ _ _ _)
        · rfl) t
  have hif : ∀ (c : Prop) [Decidable c] (t : State) f, g (if c then t.draw.2.modCtx p d f else t) = g t := by
    intro c _ t f
    split
    · exact hdraw t f
    · rfl
  rw [hif, hif]
  exact (forAll_keeps g _ _ (fun i t => hif _ t _) _).trans (h1 s)

theorem bufferWordFailed_keeps {β : Type} {g : State → β} (hg : ∀ (t : State) f c, g { t with free := f, ctxs := c } = g t)
    (w : Nat) (s : State) : g (bufferWordFailed w s) = g s := by
  unfold bufferWordFailed
  dsimp only
  split
  · exact hg s _ _
  · exact hg s _ s.ctxs

/-- What a failed word of a shared memory asks for changes counters, contexts, free values and the marks of bad words (R219). -/
theorem wordFailed_keeps {β : Type} {g : State → β}
    (hg : ∀ (t : State) r f c b, g { t with regs := r, free := f, ctxs := c, test := { t.test with badWords := b } } = g t)
    (m : Mem) (w : Nat) (s : State) : g (wordFailed m w s) = g s := by
  unfold wordFailed
  split
  · unfold ctxWordFailed
    dsimp only
    split
    · exact rebuildCtx_keeps hg _ _ _ s
    · rfl
  · exact bufferWordFailed_keeps (fun t f c => hg t t.regs f c t.test.badWords) w s
  · rfl

/-! ## The start of an NVM operation -/

theorem holdupCheck_keeps {β : Type} {g : State → β} (hg : ∀ (t : State) r h x, g { t with regs := r, hold := h, faults := x } = g t)
    (commit : Bool) (microVolt : Nat) (s : State) : g (holdupCheck commit microVolt s).2 = g s := by
  have hb : ∀ (t : State) c, g (t.bump c 0) = g t := fun t _ => hg t _ t.hold t.faults
  have hh : ∀ (t : State) h, g { t with hold := h } = g t := fun t h => hg t t.regs h t.faults
  have he : ∀ (t : State), g (endConditions 33 t) = g t := fun t => hg t t.regs t.hold _
  have hf : ∀ (n : Nat) (t : State) k d, g (fault n k d t) = g t := fun _ t _ _ => hg t t.regs t.hold _
  unfold holdupCheck
  dsimp only
  (repeat' split) <;> simp only [hf, he, hh, hb]

/-- A hold-up check raises only hold-up-low and the bypass (R284, R403 sources 33, 34). -/
theorem holdupCheck_raises {n : Nat} (h33 : n ≠ 33) (h34 : n ≠ 34) (commit : Bool) (microVolt : Nat) (s : State) :
    RaisesBeside n s (holdupCheck commit microVolt s).2 := by
  have hfault : ∀ (k : Nat) (t : State) d, k ≠ n → t.faults.due = s.faults.due → t.aon.faultCounts = s.aon.faultCounts →
      RaisesBeside n s (fault k [] d t) := fun k t d hk hd ha =>
    (RaisesBeside.of_same hd ha).trans (.notice (o := { source := k, key := [], detail := d }) rfl hk t)
  unfold holdupCheck
  dsimp only
  (repeat' split) <;> first
  | exact hfault _ _ _ (by omega) (by simp [endConditions]) (by simp [endConditions])
  | exact .of_same (by simp [endConditions]) (by simp [endConditions])

/-- The start of an NVM operation leaves what looks at none of the counters, free values, hold-up state, faults and operation. -/
theorem nvmStart_keeps {β : Type} {g : State → β}
    (hg : ∀ (t : State) r f h x op, g { t with regs := r, free := f, hold := h, faults := x, nvm := { t.nvm with op := op } } = g t)
    (s : State) : g (nvmStart s) = g s := by
  have hop : ∀ (t : State) op, g { t with nvm := { t.nvm with op := op } } = g t := fun t op => hg t t.regs t.free t.hold t.faults op
  have hcheck : ∀ t : State, g (pageCheck t).2 = g t := fun t =>
    (holdupCheck_keeps (fun t r h x => hg t r t.free h x t.nvm.op) false _ _).trans (hg t t.regs _ t.hold t.faults t.nvm.op)
  unfold nvmStart nvmStartWith
  dsimp only
  (repeat' split) <;> simp only [hop, hcheck]

theorem nvmStart_raises {n : Nat} (h33 : n ≠ 33) (h34 : n ≠ 34) (s : State) : RaisesBeside n s (nvmStart s) := by
  have hcheck : RaisesBeside n s (pageCheck s).2 := (RaisesBeside.of_same rfl rfl).trans (holdupCheck_raises h33 h34 false _ _)
  unfold nvmStart nvmStartWith
  dsimp only
  (repeat' split) <;> first
  | exact .refl n s
  | exact hcheck

theorem logRepair_keeps {β : Type} {g : State → β} (hg : ∀ (t : State) r f h x m, g { t with regs := r, free := f, hold := h, faults := x, nvm := m } = g t)
    (kind unit spare : Nat) (s : State) : g (logRepair kind unit spare s) = g s :=
  (nvmStart_keeps (fun t r f h x _ => hg t r f h x _) _).trans (hg s s.regs s.free s.hold s.faults _)

theorem logRepair_toLog (kind unit spare : Nat) (s : State) : (logRepair kind unit spare s).nvm.toLog =
    s.nvm.toLog ++ [{ kind := kind, unit := unit, spare := spare, time := s.time.time64 }] :=
  nvmStart_keeps (g := fun t => t.nvm.toLog) (fun _ _ _ _ _ _ => rfl) _

theorem logRepair_raises {n : Nat} (h33 : n ≠ 33) (h34 : n ≠ 34) (kind unit spare : Nat) (s : State) :
    RaisesBeside n s (logRepair kind unit spare s) :=
  (RaisesBeside.of_same rfl rfl).trans (nvmStart_raises h33 h34 _)

/-! ## Testers -/

/-- The memories with a tester (R389). -/
def Tested (m : Mem) : Prop := m = .cells ∨ m = .buffers ∨ m = .contexts

theorem State.tester_modTester {m : Mem} (h : Tested m) (s : State) (f : TesterSt → TesterSt) :
    (s.modTester m f).tester m = f (s.tester m) := by
  rcases h with rfl | rfl | rfl <;> rfl

theorem State.modTester_frame (s : State) (m : Mem) (f : TesterSt → TesterSt) :
    { s.modTester m f with test := s.test } = s ∧ (s.modTester m f).test.badWords = s.test.badWords := by
  cases m <;> exact ⟨rfl, rfl⟩

/-- What looks at no tester is left alone by a change of one. -/
theorem State.modTester_keeps {β : Type} {g : State → β} (hg : ∀ (t : State) x, g { t with test := x } = g t) (s : State) (m : Mem)
    (f : TesterSt → TesterSt) : g (s.modTester m f) = g s := by
  cases m <;> first | rfl | exact hg s _

theorem State.tester_congr {s t : State} (h : { t.test with badWords := s.test.badWords } = s.test) (m : Mem) :
    t.tester m = s.tester m := by
  have h1 := congrArg TestSt.cells h
  have h2 := congrArg TestSt.buffers h
  have h3 := congrArg TestSt.contexts h
  cases m <;> first | exact h1 | exact h2 | exact h3 | rfl

@[simp] theorem collect_tester (s : State) (m : Mem) : (collect s).tester m = s.tester m := by
  cases m <;> simp [State.tester]

theorem notice_tester (o : Occ) (s : State) (m : Mem) : (notice o s).tester m = s.tester m := by
  cases m <;> rfl

theorem State.bump_tester (s : State) (c i : Nat) (m : Mem) : (s.bump c i).tester m = s.tester m := by
  cases m <;> simp [State.tester]

/-- The state of a tester's slice that is done (R392). -/
def State.sliceDone (s : State) (m : Mem) : State :=
  (s.modTester m (fun y => { y with running := false, aborts := 0, slice := ((s.tester m).slice + 1) % sliceCount m })).bump
    Code.sliceTests 0

theorem State.sliceDone_tester {m : Mem} (h : Tested m) (s : State) : (s.sliceDone m).tester m =
    { s.tester m with running := false, aborts := 0, slice := ((s.tester m).slice + 1) % sliceCount m } := by
  rw [State.sliceDone, State.bump_tester, State.tester_modTester h]

theorem sliceTestComplete_passed {m : Mem} {words : List (BitVec 64)} {bad : List Nat} {s : State}
    (hr : (s.tester m).running = true) (hg : s.golden (sliceTest m) 0 = some (signatureOf words)) :
    sliceTestComplete m words bad s =
      (s.sliceDone m).modTester m (fun y => { y with failedOnce := dropFrom (s.tester m).slice y.failedOnce }) := by
  unfold sliceTestComplete
  dsimp only
  rw [if_pos hr, if_pos hg]
  rfl

theorem sliceTestComplete_first {m : Mem} {words : List (BitVec 64)} {bad : List Nat} {s : State}
    (hr : (s.tester m).running = true) (hg : s.golden (sliceTest m) 0 ≠ some (signatureOf words))
    (hf : (s.tester m).slice ∉ (s.tester m).failedOnce) :
    sliceTestComplete m words bad s = ((s.sliceDone m).bump Code.misrMismatches 0).modTester m (fun y =>
      { y with failedOnce := addTo (s.tester m).slice y.failedOnce }) := by
  unfold sliceTestComplete
  dsimp only
  rw [if_pos hr, if_neg hg, if_neg (by simpa using hf)]
  rfl

theorem sliceTestComplete_second {m : Mem} {words : List (BitVec 64)} {bad : List Nat} {s : State}
    (hr : (s.tester m).running = true) (hg : s.golden (sliceTest m) 0 ≠ some (signatureOf words))
    (hf : (s.tester m).slice ∈ (s.tester m).failedOnce) :
    sliceTestComplete m words bad s = repairSlice m (s.tester m).slice bad ((s.sliceDone m).bump Code.misrMismatches 0) := by
  unfold sliceTestComplete
  dsimp only
  rw [if_pos hr, if_neg hg, if_pos (by simpa using hf)]
  rfl

/-! ## The move of a slice to a spare -/

/-- The occurrence of a slice that moves to a spare (R403 source 14). -/
def sliceOcc (code slice n : Nat) : Occ := { source := 14, key := [code, slice], detail := [(1, code), (2, slice), (2, n)] }

/-- What a bad word of a slice's copy brings (R48, R393). -/
def copiedWord (m : Mem) (w : Nat) (t : State) : State :=
  wordFailed m w (sramUncorrectable (memCode m) w accRead masterMc t)

/-- A slice that moves to spare slice 0 (R393). -/
def State.sliceMoved (s : State) (m : Mem) (slice : Nat) : State :=
  s.modTester m (fun y => { y with
    remap := y.remap.filter (fun r => r.1 != slice) ++ [(slice, 0)]
    badSpares := ((y.remap.filter (fun r => r.1 == slice)).map (fun r => r.2)).foldl (fun t q => addTo q t) y.badSpares
    failedOnce := dropFrom slice y.failedOnce })

theorem repairSlice_first {m : Mem} {slice : Nat} {bad : List Nat} {s : State} (hr : ∀ r ∈ (s.tester m).remap, r.2 ≠ 0)
    (hb : 0 ∉ (s.tester m).badSpares) :
    repairSlice m slice bad s = notice (sliceOcc (memCode m) slice 0) (logRepair 2 (memCode m + 256 * slice) 0
      (forAll (bad.filter (fun w => !(s.sliceMoved m slice).isBad (memCode m) w)) (copiedWord m) (s.sliceMoved m slice))) := by
  have hfind : (List.range 16).find? (fun n => !(s.tester m).remap.any (fun r => r.2 == n) && !(s.tester m).badSpares.contains n) = some 0 := by
    have h0 : (!(s.tester m).remap.any (fun r => r.2 == 0) && !(s.tester m).badSpares.contains 0) = true := by
      simpa [hb] using fun a b h => hr (a, b) h
    rw [show List.range 16 = 0 :: (List.range 15).map (· + 1) from rfl]
    simp only [List.find?_cons, h0]
  have hbad : (s.sliceMoved m slice).isBad (memCode m) = s.isBad (memCode m) := by
    funext w
    exact congrArg (fun l : List (Nat × Nat) => l.contains (memCode m, w)) (s.modTester_frame m _).2
  unfold repairSlice
  dsimp only
  rw [hfind, hbad]
  rfl

theorem copiedWord_keeps {β : Type} {g : State → β}
    (hg : ∀ (t : State) r f c b x, g { t with regs := r, free := f, ctxs := c, test := { t.test with badWords := b }, faults := x } = g t)
    (m : Mem) (w : Nat) (s : State) : g (copiedWord m w s) = g s :=
  (wordFailed_keeps (fun t r f c b => hg t r f c b t.faults) m w _).trans (hg s s.regs s.free s.ctxs _ _)

theorem wordFailed_raises (n : Nat) (m : Mem) (w : Nat) (s : State) : RaisesBeside n s (wordFailed m w s) :=
  .of_same (wordFailed_keeps (g := fun t => t.faults.due) (fun _ _ _ _ _ => rfl) m w s)
    (wordFailed_keeps (g := fun t => t.aon.faultCounts) (fun _ _ _ _ _ => rfl) m w s)

/-- The occurrence of a word that a read cannot correct (R403 source 4). -/
def wordOcc (mem word : Nat) : Occ :=
  { source := 4, key := [mem, word], detail := [(1, mem)], access := accRead, master := masterMc, address := busAddress mem word }

theorem copiedWord_raises {n : Nat} (h : n ≠ 4) (m : Mem) (w : Nat) (s : State) : RaisesBeside n s (copiedWord m w s) :=
  ((RaisesBeside.of_same (t := markBad (memCode m) w s) rfl rfl).trans
    (.notice (o := wordOcc (memCode m) w) rfl (fun h4 => h h4.symm) _)).trans (wordFailed_raises n m w _)

/-! ### Words marked bad -/

theorem mem_addTo {α : Type} [DecidableEq α] (x y : α) (xs : List α) : y ∈ addTo x xs ↔ y = x ∨ y ∈ xs := by
  unfold addTo
  split
  · exact ⟨.inr, fun h => h.elim (fun e => e ▸ by assumption) id⟩
  · rw [List.mem_append, List.mem_singleton, or_comm]

theorem State.isBad_iff (s : State) (mem w : Nat) : s.isBad mem w = true ↔ (mem, w) ∈ s.test.badWords := by
  simp [State.isBad]

theorem copiedWord_cells (w : Nat) (s : State) (v : Nat) :
    (copiedWord .cells w s).isBad 0 v = true ↔ v = w ∨ s.isBad 0 v = true := by
  rw [State.isBad_iff, State.isBad_iff]
  exact (mem_addTo _ _ _).trans (by simp [memCode])

/-- The words that a copy of cells cannot correct are marked bad (R48, R393). -/
theorem copiedCells_bad (ws : List Nat) (s : State) (v : Nat) (h : v ∈ ws ∨ s.isBad 0 v = true) :
    (forAll ws (copiedWord .cells) s).isBad 0 v = true := by
  induction ws generalizing s with
  | nil => exact h.elim (fun h => absurd h List.not_mem_nil) id
  | cons w ws ih =>
    refine ih (copiedWord .cells w s) ?_
    rw [copiedWord_cells]
    rcases h with h | h
    · rcases List.mem_cons.mp h with rfl | h
      · exact .inr (.inl rfl)
      · exact .inl h
    · exact .inr (.inr h)

/-! ## A move and what it leaves -/

theorem collect_isBad (s : State) (mem w : Nat) : (collect s).isBad mem w = s.isBad mem w := by simp [State.isBad]

/-- A slice that fails a second time, while spare slice 0 is free (R393). -/
theorem repairSlice_counted {m : Mem} {slice : Nat} {bad : List Nat} {s u : State} (hs : s.Ready) (hm : Tested m)
    (hd : u.faults = s.faults) (ha : u.aon = s.aon) (hn : u.nvm = s.nvm) (ht : u.time = s.time)
    (hr : ∀ r ∈ (u.tester m).remap, r.2 ≠ 0) (hb : 0 ∉ (u.tester m).badSpares) :
    ((repairSlice m slice bad u).tester m).remap = (u.tester m).remap.filter (fun r => r.1 != slice) ++ [(slice, 0)] ∧
      (repairSlice m slice bad u).nvm.toLog =
        s.nvm.toLog ++ [{ kind := 2, unit := memCode m + 256 * slice, spare := 0, time := s.time.time64 }] ∧
      (m = .cells → ∀ w ∈ bad, (repairSlice m slice bad u).isBad 0 w = true) ∧
      (collect (repairSlice m slice bad u)).faultCount 14 = min (s.faultCount 14 + 1) (2 ^ 32 - 1) := by
  rw [repairSlice_first hr hb]
  generalize hws : bad.filter (fun w => !(u.sliceMoved m slice).isBad (memCode m) w) = ws
  have hkeep := fun {β : Type} (g : State → β) (hg : ∀ (t : State) r f c b x,
      g { t with regs := r, free := f, ctxs := c, test := { t.test with badWords := b }, faults := x } = g t) =>
    forAll_keeps g ws (copiedWord m) (fun w t => copiedWord_keeps hg m w t) (u.sliceMoved m slice)
  refine ⟨?_, ?_, ?_, ?_⟩
  · have h1 : (notice (sliceOcc (memCode m) slice 0) (logRepair 2 (memCode m + 256 * slice) 0
        (forAll ws (copiedWord m) (u.sliceMoved m slice)))).tester m = (u.sliceMoved m slice).tester m :=
      (logRepair_keeps (g := fun t => t.tester m) (fun t _ _ _ _ _ => by cases m <;> rfl) _ _ _ _).trans
        (hkeep (fun t => t.tester m) (fun t _ _ _ _ _ => by cases m <;> rfl))
    rw [h1, State.sliceMoved, State.tester_modTester hm]
  · have h1 := hkeep (fun t => t.nvm) (fun _ _ _ _ _ _ => rfl)
    have h2 := hkeep (fun t => t.time) (fun _ _ _ _ _ _ => rfl)
    have h3 : (u.sliceMoved m slice).nvm = u.nvm := State.modTester_keeps (g := State.nvm) (fun _ _ => rfl) _ _ _
    have h4 : (u.sliceMoved m slice).time = u.time := State.modTester_keeps (g := State.time) (fun _ _ => rfl) _ _ _
    change (logRepair _ _ _ _).nvm.toLog = _
    rw [logRepair_toLog, h1, h2, h3, h4, hn, ht]
  · rintro rfl w hw
    have h1 : (notice (sliceOcc (memCode .cells) slice 0) (logRepair 2 (memCode .cells + 256 * slice) 0
        (forAll ws (copiedWord .cells) (u.sliceMoved .cells slice)))).isBad 0 w =
        (forAll ws (copiedWord .cells) (u.sliceMoved .cells slice)).isBad 0 w :=
      logRepair_keeps (g := fun t => t.isBad 0 w) (fun _ _ _ _ _ _ => rfl) _ _ _ _
    rw [h1]
    refine copiedCells_bad ws _ w ?_
    by_cases h : (u.sliceMoved .cells slice).isBad 0 w = true
    · exact .inr h
    · exact .inl (hws ▸ List.mem_filter.mpr ⟨hw, by simpa [memCode] using h⟩)
  · have hmoved : RaisesBeside 14 s (u.sliceMoved m slice) := .of_same
      (congrArg FaultSt.due ((State.modTester_keeps (g := State.faults) (fun _ _ => rfl) u m _).trans hd))
      (congrArg AonSt.faultCounts ((State.modTester_keeps (g := State.aon) (fun _ _ => rfl) u m _).trans ha))
    exact collect_count_beside (o := sliceOcc (memCode m) slice 0) hs.2.1 rfl
      ((hmoved.trans (.forAll (fun w t => copiedWord_raises (by decide) m w t) ws _)).trans
        (logRepair_raises (by decide) (by decide) _ _ _ _)) (.refl _ _)

/-! ## The scrubber -/

/-- The state that has met a word that cannot be corrected (R48, R403 source 4). -/
def State.wordMet (s : State) (mem w : Nat) : State := notice (wordOcc mem w) (markBad mem w s)

theorem State.wordMet_isBad (s : State) (mem w : Nat) : (s.wordMet mem w).isBad mem w = true :=
  (State.isBad_iff _ _ _).mpr ((mem_addTo _ _ _).mpr (.inl rfl))

/-- The memories that the scrubber reads (R48). -/
def Scrubbed (m : Mem) : Prop := m = .cells ∨ m = .trace ∨ m = .contexts ∨ m = .buffers

theorem patrolScrub_read {m : Mem} {w : Nat} {e : Ecc} {s : State} (h : Scrubbed m)
    (hx : ¬ ((s.tester m).running = true ∧ w / 512 = (s.tester m).slice)) : patrolScrub m w e s =
      match e with
      | .good => s
      | .single => sramCorrected (memCode m) s
      | .double => match m with
        | .cells => rebuildCell (w / 2) (s.wordMet (memCode m) w)
        | _ => wordFailed m w (s.wordMet (memCode m) w) := by
  unfold patrolScrub
  rcases h with rfl | rfl | rfl | rfl <;> exact if_neg (by simpa using hx)

theorem rebuildCell_keeps {β : Type} {g : State → β}
    (hg : ∀ (t : State) r c b, g { t with regs := r, cells := c, test := { t.test with badWords := b } } = g t)
    (i : Nat) (s : State) : g (rebuildCell i s) = g s := by
  unfold rebuildCell
  split
  · exact hg s s.regs _ _
  · exact (hg _ _ _ _).trans (hg s s.regs _ _)

theorem clearBad_self (mem w n k : Nat) (hk : k < n) (s : State) : (clearBad mem w n s).isBad mem (w + k) = false := by
  rw [Bool.eq_false_iff]
  intro h
  rw [State.isBad_iff] at h
  have := (List.mem_filter.mp h).2
  simp [hk] at this

theorem setCell_isBad {i w : Nat} (h : i = w / 2) (c : Cell) (s : State) : (s.setCell i c).isBad 0 w = false := by
  have hw : w = 2 * i + w % 2 := by omega
  rw [hw]
  exact clearBad_self 0 (2 * i) 2 (w % 2) (by omega) _

/-- A cell that is rewritten has no word marked bad (R48, R259). -/
theorem rebuildCell_isBad {i w : Nat} (h : i = w / 2) (s : State) : (rebuildCell i s).isBad 0 w = false := by
  unfold rebuildCell
  split
  · exact setCell_isBad h _ s
  · unfold State.isBad
    rw [State.bump_test]
    exact setCell_isBad h _ s

/-- The rebuild of a port's cell is counted (R259). -/
theorem rebuildCell_counted {i p : Nat} {b : Bool} {s : State} (h : s.cellOwner i = some (p, b)) :
    (rebuildCell i s).regWritten Code.cellRebuilds p =
      some (min ((s.regN Code.cellRebuilds p + 1 : Nat) : Int) (2 ^ 32 - 1)) := by
  unfold rebuildCell
  rw [h]
  exact regWritten_bump _ _ _

/-- The counters of a context's word that is rebuilt, and the mark of the word (R144, R219). -/
theorem rebuildCtx_word {p d w : Nat} {s : State} (h : (s.ctx p d).state ≠ 0) :
    (rebuildCtx p d [w] s).isBad 2 (ctxWord p d + w) = false ∧
      ∀ c, ctxCounters w = some c → dropKey p d < 2 ^ 24 →
        (rebuildCtx p d [w] s).regWritten c (dropKey p d) = some 0 ∧
        (rebuildCtx p d [w] s).regWritten (c + 1) (dropKey p d) = some 0 := by
  unfold rebuildCtx
  rw [if_neg h]
  dsimp only
  refine ⟨clearBad_self 2 (ctxWord p d + w) 1 0 (by omega) _, fun c hc hk => ?_⟩
  have hclear : ∀ (t : State) e, (forAll [w] (fun v t => clearBad 2 (ctxWord p d + v) 1 t) t).regWritten e (dropKey p d) =
      t.regWritten e (dropKey p d) := fun _ _ => rfl
  have hif : ∀ (e : Nat) (c : Prop) [Decidable c] (t : State) f,
      (if c then t.draw.2.modCtx p d f else t).regWritten e (dropKey p d) = t.regWritten e (dropKey p d) := by
    intro e c _ t f
    split <;> rfl
  have hkey : objKey c (dropKey p d) ≠ objKey (c + 1) (dropKey p d) := objKey_ne (by omega) hk hk
  rw [hclear, hclear, hif, hif, hif, hif]
  rw [forAll_keeps (fun t => t.regWritten c (dropKey p d)) (List.range 7) _ (fun i t => hif c _ t _),
    forAll_keeps (fun t => t.regWritten (c + 1) (dropKey p d)) (List.range 7) _ (fun i t => hif (c + 1) _ t _)]
  simp only [forAll, List.foldl_cons, List.foldl_nil, hc]
  exact ⟨(State.regWritten_setReg_ne _ _ hkey).trans (State.regWritten_setReg ..), State.regWritten_setReg ..⟩

end Sys2Proof.Machine

namespace Sys2Proof.Machine

/-- The counters of drop contexts are none of the collector's (R218). -/
theorem ctxCounters_calm {w c : Nat} (h : ctxCounters w = some c) :
    collectorCounter c = false ∧ collectorCounter (c + 1) = false := by
  have hr : 0x403101 ≤ c ∧ c ≤ 0x404107 := by
    unfold ctxCounters at h
    split_ifs at h <;> (injection h with h; omega)
  have hcalm : ∀ k, 0x403101 ≤ k → k ≤ 0x404108 → collectorCounter k = false := by
    intro k h1 h2
    simp only [collectorCounter, linkCode, Bool.or_eq_false_iff, beq_eq_false_iff_ne, ne_eq]
    change (¬ k = 0xF01002 ∧ ¬ k = 0x60010D) ∧ ¬ k = 0x60010D + 0x10000
    omega
  exact ⟨hcalm c hr.1 (by omega), hcalm (c + 1) (by omega) (by omega)⟩

end Sys2Proof.Machine

namespace Sys2Proof.Proofs

open Machine

/-- The clauses of O29 about the tester of a memory. -/
theorem slicesAreTested {m : Mem} {s : State} (hs : s.Ready) (hm : Tested m) :
    let x := s.tester m
    (s.regB Code.sliceTestEnable 0 = true → s.test.fullState ≠ 1 → x.running = false → x.abortAt = none →
      (s.golden (sliceTest m) 0).isSome = true → s.sliceIdle m = true →
      ∃ t : State, exec (.sliceTestStart m) s = .next t ∧ t.tester m = { x with running := true } ∧
        { t with test := s.test } = s ∧ t.test.badWords = s.test.badWords) ∧
    (s.sliceIdle m = false → exec (.sliceTestStart m) s = .next s) ∧
    (x.running = true → x.aborts < 15 →
      ∃ t : State, exec (.sliceTestAbort m) s = .next t ∧
        t.tester m = { x with running := false, abortAt := some s.time.tick, aborts := x.aborts + 1 } ∧
        t.reg Code.sliceAborts 0 = min (((s.regN Code.sliceAborts 0 + 1 : Nat)) : Int) (2 ^ 32 - 1) ∧
        t.nvm = s.nvm ∧ t.faults = s.faults) ∧
    (x.running = true → 15 ≤ x.aborts →
      ∃ t : State, exec (.sliceTestAbort m) s = .next t ∧
        t.tester m = { x with running := false, abortAt := some s.time.tick, aborts := 0 } ∧
        t.faultCount 16 = min (s.faultCount 16 + 1) (2 ^ 32 - 1)) := by
  intro x
  have hmod : ∀ {β : Type} (g : State → β) (_ : ∀ (t : State) y, g { t with test := y } = g t) f, g (s.modTester m f) = g s :=
    fun g hg f => State.modTester_keeps hg s m f
  refine ⟨fun h1 h2 h3 h4 h5 h6 => ?_, fun h => ?_, fun h1 h2 => ?_, fun h1 h2 => ?_⟩
  · have hcount : sliceCount m ≠ 0 := by rcases hm with rfl | rfl | rfl <;> decide
    have he : sliceTestStart m s = s.modTester m (fun y => { y with running := true }) := by
      unfold sliceTestStart
      dsimp only
      rw [if_pos ⟨hcount, h1, h2, h3, by rw [h4], h5, h6⟩]
    refine ⟨_, run_quiet hs (by rw [he]; exact hmod State.faults (fun _ _ => rfl) _), ?_⟩
    rw [he]
    exact ⟨State.tester_modTester hm _ _, s.modTester_frame m _⟩
  · have he : sliceTestStart m s = s := if_neg (fun hc => by simp [h] at hc)
    exact (run_quiet hs (by rw [he])).trans (by rw [he])
  · have he : sliceTestAbort m s = (s.modTester m (fun y => { y with
        running := false, abortAt := some s.time.tick, aborts := x.aborts + 1 })).bump Code.sliceAborts 0 := by
      unfold sliceTestAbort
      dsimp only
      have h : (s.tester m).aborts + 1 < 16 := Nat.succ_lt_succ h2
      rw [if_pos h1, if_pos h, if_pos h]
    refine ⟨_, run_quiet hs (by rw [he, State.bump_faults]; exact hmod State.faults (fun _ _ => rfl) _), ?_⟩
    rw [he]
    refine ⟨?_, reg_of_written ?_, ?_, ?_⟩
    · rw [State.bump_tester, State.tester_modTester hm]
    · rw [regWritten_bump, hmod (fun t => t.regN Code.sliceAborts 0) (fun _ _ => rfl)]
    · rw [State.bump_nvm]; exact hmod State.nvm (fun _ _ => rfl) _
    · rw [State.bump_faults]; exact hmod State.faults (fun _ _ => rfl) _
  · have he : sliceTestAbort m s = notice { source := 16, key := [memCode m, x.slice], detail := [(1, memCode m), (2, x.slice)] }
        (((s.modTester m (fun y => { y with running := false, abortAt := some s.time.tick, aborts := 0 })).bump
          Code.sliceAborts 0).bump Code.slicesStarved 0) := by
      unfold sliceTestAbort
      dsimp only
      have h : ¬ (s.tester m).aborts + 1 < 16 := Nat.not_lt.mpr (Nat.succ_le_succ h2)
      rw [if_pos h1, if_neg h, if_neg h]
      rfl
    refine ⟨_, run_running _ hs.1, ?_, ?_⟩
    · rw [he, collect_tester, notice_tester, State.bump_tester, State.bump_tester, State.tester_modTester hm]
    · rw [he]
      exact collect_count_beside (s := s) (o := { source := 16, key := [memCode m, x.slice], detail := [(1, memCode m), (2, x.slice)] })
        hs.2.1 rfl (.of_same (by simp [hmod State.faults (fun _ _ => rfl)]) (by simp [hmod State.aon (fun _ _ => rfl)])) (.refl _ _)

/-- The clauses of O29 about a tested slice's signature. -/
theorem slicesAreJudged {m : Mem} {s : State} (hs : s.Ready) (hm : Tested m) (words : List (BitVec 64)) (bad : List Nat)
    (hr : (s.tester m).running = true) :
    let x := s.tester m
    let sig := signatureOf words
    (s.golden (sliceTest m) 0 = some sig →
      ∃ t : State, exec (.sliceTestComplete m words bad) s = .next t ∧
        t.tester m = { x with running := false, aborts := 0, slice := (x.slice + 1) % sliceCount m,
                              failedOnce := dropFrom x.slice x.failedOnce } ∧
        t.reg Code.sliceTests 0 = min (((s.regN Code.sliceTests 0 + 1 : Nat)) : Int) (2 ^ 32 - 1) ∧ t.nvm = s.nvm) ∧
    (s.golden (sliceTest m) 0 ≠ some sig → x.slice ∉ x.failedOnce →
      ∃ t : State, exec (.sliceTestComplete m words bad) s = .next t ∧
        t.tester m = { x with running := false, aborts := 0, slice := (x.slice + 1) % sliceCount m,
                              failedOnce := addTo x.slice x.failedOnce } ∧
        t.reg Code.misrMismatches 0 = min (((s.regN Code.misrMismatches 0 + 1 : Nat)) : Int) (2 ^ 32 - 1) ∧
        t.nvm = s.nvm) ∧
    (s.golden (sliceTest m) 0 ≠ some sig → x.slice ∈ x.failedOnce → (∀ r ∈ x.remap, r.2 ≠ 0) → 0 ∉ x.badSpares →
      ∃ t : State, exec (.sliceTestComplete m words bad) s = .next t ∧
        (t.tester m).remap = x.remap.filter (fun r => r.1 != x.slice) ++ [(x.slice, 0)] ∧
        t.nvm.toLog = s.nvm.toLog ++ [{ kind := 2, unit := memCode m + 256 * x.slice, spare := 0, time := s.time.time64 }] ∧
        (m = .cells → ∀ w ∈ bad, t.isBad 0 w = true) ∧ t.faultCount 14 = min (s.faultCount 14 + 1) (2 ^ 32 - 1)) := by
  intro x sig
  have hmod : ∀ {β : Type} (g : State → β) (_ : ∀ (t : State) y, g { t with test := y } = g t) t f, g (State.modTester t m f) = g t :=
    fun g hg t f => State.modTester_keeps hg t m f
  have hdone : ∀ {β : Type} (g : State → β) (_ : ∀ (t : State) y r, g { t with test := y, regs := r } = g t), g (s.sliceDone m) = g s :=
    fun g hg => (hg _ _ _).trans (hmod g (fun t y => hg t y t.regs) s _)
  refine ⟨fun hg => ?_, fun hg hf => ?_, fun hg hf hx hb => ?_⟩
  · have he := sliceTestComplete_passed (bad := bad) hr hg
    refine ⟨_, run_quiet hs (by rw [he, hmod State.faults (fun _ _ => rfl)]; exact hdone State.faults (fun _ _ _ => rfl)), ?_⟩
    rw [he]
    refine ⟨?_, reg_of_written ?_, ?_⟩
    · rw [State.tester_modTester hm, State.sliceDone_tester hm]
    · rw [hmod (fun t => t.regWritten Code.sliceTests 0) (fun _ _ => rfl), State.sliceDone, regWritten_bump,
        hmod (fun t => t.regN Code.sliceTests 0) (fun _ _ => rfl)]
    · rw [hmod State.nvm (fun _ _ => rfl)]; exact hdone State.nvm (fun _ _ _ => rfl)
  · have he := sliceTestComplete_first (bad := bad) hr hg hf
    refine ⟨_, run_quiet hs (by
      rw [he, hmod State.faults (fun _ _ => rfl), State.bump_faults]; exact hdone State.faults (fun _ _ _ => rfl)), ?_⟩
    rw [he]
    refine ⟨?_, reg_of_written ?_, ?_⟩
    · rw [State.tester_modTester hm, State.bump_tester, State.sliceDone_tester hm]
    · have hreg : (s.sliceDone m).regN Code.misrMismatches 0 = s.regN Code.misrMismatches 0 := by
        have h1 : (s.sliceDone m).regWritten Code.misrMismatches 0 = s.regWritten Code.misrMismatches 0 :=
          (bumpBy_regWritten (by decide) _ _).trans (hmod (fun t => t.regWritten Code.misrMismatches 0) (fun _ _ => rfl) s _)
        have h2 : (s.sliceDone m).time.n = s.time.n := congrArg TimeSt.n (hdone State.time (fun _ _ _ => rfl))
        simp [State.regN, State.reg, h1, h2]
      rw [hmod (fun t => t.regWritten Code.misrMismatches 0) (fun _ _ => rfl), regWritten_bump, hreg]
    · rw [hmod State.nvm (fun _ _ => rfl), State.bump_nvm]; exact hdone State.nvm (fun _ _ _ => rfl)
  · have ht : ((s.sliceDone m).bump Code.misrMismatches 0).tester m = { x with running := false, aborts := 0, slice := (x.slice + 1) % sliceCount m } := by
      rw [State.bump_tester, State.sliceDone_tester hm]
    obtain ⟨h1, h2, h3, h4⟩ := repairSlice_counted (slice := x.slice) (bad := bad) hs hm
      ((State.bump_faults _ _ _).trans (hdone State.faults (fun _ _ _ => rfl)))
      ((State.bump_aon _ _ _).trans (hdone State.aon (fun _ _ _ => rfl)))
      ((State.bump_nvm _ _ _).trans (hdone State.nvm (fun _ _ _ => rfl)))
      ((State.bump_time _ _ _).trans (hdone State.time (fun _ _ _ => rfl)))
      (by rw [ht]; exact hx) (by rw [ht]; exact hb)
    refine ⟨_, run_running _ hs.1, ?_⟩
    rw [sliceTestComplete_second hr hg hf]
    refine ⟨?_, ?_, fun hc w hw => ?_, h4⟩
    · rw [collect_tester, h1, ht]
    · rw [collect_nvm, h2]
    · rw [collect_isBad]; exact h3 hc w hw

/-- The clause of O29 about a word that the scrubber cannot correct. -/
theorem wordsAreScrubbed {m : Mem} {w : Nat} {s : State} (hs : s.Ready) (hm : Scrubbed m)
    (hx : ¬ ((s.tester m).running = true ∧ w / 512 = (s.tester m).slice)) :
    ∃ t : State, exec (.patrolScrub m w .double) s = .next t ∧ t.faultCount 4 = min (s.faultCount 4 + 1) (2 ^ 32 - 1) ∧
      (m = .trace → t.isBad 1 w = true ∧ t.cells = s.cells ∧ t.ctxs = s.ctxs) ∧
      (m = .contexts → t.cells = s.cells ∧ (w % 64 < 24 → t.isBad 2 w = true ∧ t.ctxs = s.ctxs) ∧
        (24 ≤ w % 64 → (s.ctx (w / 2048) (w / 64 % 32 + 1)).state ≠ 0 → t.isBad 2 w = false ∧
          (∀ c : Nat, ctxCounters (w % 64) = some c → w / 2048 < 144 →
            t.reg c (dropKey (w / 2048) (w / 64 % 32 + 1)) = 0 ∧
            t.reg (c + 1) (dropKey (w / 2048) (w / 64 % 32 + 1)) = 0))) ∧
      (m = .buffers → t.isBad 3 w = true ∧ t.cells = s.cells) ∧
      (m = .cells → t.isBad 0 w = false ∧ t.ctxs = s.ctxs ∧ ∀ (p : Nat) (b : Bool), s.cellOwner (w / 2) = some (p, b) → p < 144 →
        t.reg Code.cellRebuilds p = min (((s.regN Code.cellRebuilds p + 1 : Nat)) : Int) (2 ^ 32 - 1)) := by
  have hp := patrolScrub_read (e := .double) hm hx
  refine ⟨_, run_running _ hs.1, ?_⟩
  rw [hp]
  dsimp only
  refine ⟨?_, ?_, ?_, ?_, ?_⟩
  · have hmet : RaisesBeside 4 s (markBad (memCode m) w s) := .of_same rfl rfl
    refine collect_count_beside (o := wordOcc (memCode m) w) hs.2.1 rfl hmet ?_
    rcases hm with rfl | rfl | rfl | rfl
    · exact .of_same (rebuildCell_keeps (g := fun t => t.faults.due) (fun _ _ _ _ => rfl) _ _)
        (rebuildCell_keeps (g := fun t => t.aon.faultCounts) (fun _ _ _ _ => rfl) _ _)
    all_goals exact wordFailed_raises 4 _ w _
  · rintro rfl
    exact ⟨(collect_isBad _ _ _).trans (s.wordMet_isBad _ _), by simp [wordFailed, State.wordMet, notice, markBad],
      by simp [wordFailed, State.wordMet, notice, markBad]⟩
  · rintro rfl
    refine ⟨?_, fun hw => ?_, fun hw hc => ?_⟩
    · rw [collect_cells]
      exact wordFailed_keeps (g := State.cells) (fun _ _ _ _ _ => rfl) _ _ _
    · have he : wordFailed .contexts w (s.wordMet (memCode .contexts) w) = s.wordMet 2 w := if_neg (by omega)
      rw [he]
      exact ⟨(collect_isBad _ _ _).trans (s.wordMet_isBad _ _), by rw [collect_ctxs]; rfl⟩
    · have he : wordFailed .contexts w (s.wordMet (memCode .contexts) w) =
          rebuildCtx (w / 2048) (w / 64 % 32 + 1) [w % 64] (s.wordMet 2 w) := if_pos hw
      obtain ⟨h1, h2⟩ := rebuildCtx_word (w := w % 64) (s := s.wordMet 2 w) hc
      have hword : ctxWord (w / 2048) (w / 64 % 32 + 1) + w % 64 = w := by unfold ctxWord; omega
      rw [hword] at h1
      rw [he]
      refine ⟨by rw [collect_isBad]; exact h1, fun c hcc hlt => ?_⟩
      have hkey : dropKey (w / 2048) (w / 64 % 32 + 1) < 2 ^ 24 := by unfold dropKey; omega
      obtain ⟨hc1, hc2⟩ := ctxCounters_calm hcc
      obtain ⟨k1, k2⟩ := h2 c hcc hkey
      exact ⟨reg_of_written ((collect_regWritten hc1 hkey _).trans k1), reg_of_written ((collect_regWritten hc2 hkey _).trans k2)⟩
  · rintro rfl
    have h1 : (wordFailed .buffers w (s.wordMet (memCode .buffers) w)).isBad 3 w = true :=
      (bufferWordFailed_keeps (g := fun t => t.isBad 3 w) (fun _ _ _ => rfl) w _).trans (s.wordMet_isBad _ _)
    refine ⟨(collect_isBad _ _ _).trans h1, ?_⟩
    rw [collect_cells]
    exact wordFailed_keeps (g := State.cells) (fun _ _ _ _ _ => rfl) _ _ _
  · rintro rfl
    refine ⟨(collect_isBad _ _ _).trans (rebuildCell_isBad rfl _), ?_, fun p b ho hp => reg_of_written ?_⟩
    · rw [collect_ctxs]
      exact rebuildCell_keeps (g := State.ctxs) (fun _ _ _ _ => rfl) _ _
    · exact (collect_regWritten (by decide) (by omega) _).trans (rebuildCell_counted (b := b) (s := s.wordMet 0 w) ho)

/-- Settles O29: the testers in turn, and the scrubber word by word. -/
theorem slicesAreTestedAndScrubbed : Obligations.SlicesAreTestedAndScrubbed := by
  refine ⟨fun m s hs hm => ?_, fun m w s hs hm hx => ⟨?_, ?_, wordsAreScrubbed hs hm hx⟩⟩
  · obtain ⟨h1, h2, h3, h4⟩ := slicesAreTested hs hm
    exact ⟨h1, h2, h3, h4, fun words bad hr => slicesAreJudged hs hm words bad hr⟩
  · have hp := patrolScrub_read (e := .good) hm hx
    exact (run_quiet hs (by rw [hp])).trans (by rw [hp])
  · have hp := patrolScrub_read (e := .single) hm hx
    exact (run_quiet hs (by rw [hp]; rfl)).trans (by rw [hp]; rfl)

end Sys2Proof.Proofs

/-! PROOFS. What the loss of a port's line leaves alone: the moves, releases and failovers that it causes (R38, R182, R215–R217). -/

namespace Sys2Proof.Machine

/-! ## What moves of drops and traffic leave alone -/

/-- A port without what moves, releases and failovers change of it (R86, R182, R215). -/
def PortSt.atRest (x : PortSt) : PortSt :=
  { x with move := none, msgs := [], levels := [], waiting := [], wakeBits := [], trunk := {} }

/-- What looks at neither contexts, messages, moves, reports nor the counters of lines is blind to what happens to drops and traffic. -/
structure LineBlind {β : Type} (g : State → β) : Prop where
  port : ∀ (t : State) p (f : PortSt → PortSt), (∀ x, (f x).atRest = x.atRest) → g (t.modPort p f) = g t
  ctxs : ∀ (t : State) c, g { t with ctxs := c } = g t
  count : ∀ (t : State) c i n, 0x300000 ≤ c ∧ c < 0x700000 → g (t.bumpBy c i n) = g t
  report : ∀ links kind p d e body t, g (sendStatus links kind p d e body t) = g t

section
variable {β : Type} {g : State → β} (h : LineBlind g)
include h

theorem LineBlind.bump {c : Nat} (hc : 0x300000 ≤ c ∧ c < 0x700000) (i : Nat) (t : State) : g (t.bump c i) = g t := h.count t c i 1 hc

theorem LineBlind.modCtx (t : State) (p d : Nat) (f : Ctx → Ctx) : g (t.modCtx p d f) = g t := h.ctxs t _

theorem LineBlind.setCtx (t : State) (p d : Nat) (x : Ctx) : g (t.setCtx p d x) = g t := h.ctxs t _

theorem LineBlind.queueMsg (p : Nat) (m : OutMsg) (t : State) : g (queueMsg p m t) = g t := h.port t p _ (fun _ => rfl)

theorem LineBlind.dropMsgs (p d code : Nat) (t : State) : g (dropMsgs p d code t) = g t := h.port t p _ (fun _ => rfl)

theorem LineBlind.announceMap (p : Nat) (known new : SlotMap) (apply : Nat) (t : State) :
    g (announceMap p known new apply t) = g t := by
  refine forAll_keeps g _ _ (fun sl u => ?_) t
  split
  · exact (h.queueMsg p _ _).trans (h.port u p _ (fun _ => rfl))
  · rfl

theorem LineBlind.cancelMove (q : Nat) (t : State) : g (cancelMove q t) = g t := by
  have hport : g (t.modPort q (fun x => { x with move := none })) = g t := h.port t q _ (fun _ => rfl)
  unfold Machine.cancelMove
  split
  · rfl
  · dsimp only
    split
    · exact hport
    · rw [h.announceMap]
      exact (forAll_keeps g _ _ (fun d u => (h.dropMsgs _ _ _ _).trans (h.modCtx u _ _ _)) _).trans hport

theorem LineBlind.freeCtx (p d e : Nat) (t : State) : g (freeCtx p d e t) = g t := by
  unfold Machine.freeCtx
  refine (h.port _ p _ ?_).trans (h.setCtx t p d _)
  exact fun _ => rfl

theorem LineBlind.freeStandby (p d e : Nat) (t : State) : g (freeStandby p d e t) = g t := by
  unfold Machine.freeStandby
  split
  · split
    · exact h.freeCtx _ _ _ t
    · rfl
  · rfl

theorem LineBlind.sameEpoch (p d e : Nat) (t : State) : g (sameEpoch p d e t) = g t := by
  unfold Machine.sameEpoch
  split
  · split
    · exact h.modCtx t _ _ _
    · rfl
  · rfl

theorem LineBlind.abandonAdmissions (p : Nat) (t : State) : g (abandonAdmissions p t) = g t := by
  refine forAll_keeps g _ _ (fun d u => ?_) t
  split
  · exact (h.freeStandby _ _ _ _).trans ((h.freeCtx _ _ _ _).trans (h.bump (by decide) _ u))
  · rfl

theorem LineBlind.startMove (p q reason apply : Nat) (m : SlotMap) (drops : List Nat) (t : State) :
    g (startMove p q reason apply m drops t) = g t := by
  refine (h.announceMap _ _ _ _ _).trans ?_
  refine (forAll_keeps g _ _ (fun d u => ?_) _).trans
    ((forAll_keeps g _ _ (fun d u => h.modCtx u _ _ _) _).trans (h.port t q _ (fun _ => rfl)))
  split
  · unfold sendTwinMove
    split
    · rfl
    · exact h.queueMsg q _ u
  · rfl

theorem LineBlind.failover (p reason : Nat) (only : Option Nat) (t : State) : g (failover p reason only t) = g t := by
  unfold Machine.failover
  split
  · rfl
  · dsimp only
    (repeat' split) <;> simp only [h.startMove, h.abandonAdmissions, h.cancelMove]

theorem LineBlind.purgeQueue (p d e : Nat) (t : State) : g (purgeQueue p d e t) = g t := by
  unfold Machine.purgeQueue
  dsimp only
  refine (forAll_keeps g _ _ (fun f u => ?_) _).trans (h.modCtx t p d _)
  exact (h.report _ _ _ _ _ _ _).trans ((h.bump (by decide) _ _).trans (h.bump (by decide) _ u))

theorem LineBlind.releaseNow (p d reason : Nat) (t : State) : g (releaseNow p d reason t) = g t := by
  unfold Machine.releaseNow
  dsimp only
  refine (h.report _ _ _ _ _ _ _).trans ((h.bump (by decide) _ _).trans ((h.freeCtx _ _ _ _).trans ?_))
  exact (h.sameEpoch _ _ _ _).trans ((h.freeStandby _ _ _ _).trans (h.purgeQueue _ _ _ t))

theorem LineBlind.survivorLost (q : Nat) (t : State) : g (survivorLost q t) = g t := by
  have hall : ∀ (a : Nat) (xs : List Nat) (u : State), g (forAll xs (fun d v => Machine.releaseNow a d 2 v) u) = g u :=
    fun a xs u => forAll_keeps g _ _ (fun d v => h.releaseNow a d 2 v) u
  unfold Machine.survivorLost
  split
  · rfl
  split
  · rfl
  split
  · exact h.cancelMove q t
  · dsimp only
    rw [hall, hall, h.abandonAdmissions, h.abandonAdmissions]
    exact h.port t q _ (fun _ => rfl)

theorem LineBlind.trunk (p : Nat) (f : TrunkSt → TrunkSt) (t : State) : g (t.modTrunk p f) = g t :=
  h.port t p _ (fun _ => rfl)

theorem LineBlind.trunkIdle (p : Nat) (t : State) : g (trunkIdle p t) = g t := by
  unfold Machine.trunkIdle
  exact h.trunk p _ t

theorem LineBlind.lossMove (p reason : Nat) (t : State) : g (lossMove p reason t) = g t := by
  have hp : g (t.modPort p (fun x => { x with move := x.move.filter (fun v => !v.trunk) })) = g t := h.port t p _ (fun _ => rfl)
  unfold Machine.lossMove
  dsimp only
  split
  · unfold moveTraffic
    split
    · refine (h.port _ _ _ ?_).trans hp
      exact fun _ => rfl
    · exact hp
  · exact hp

/-- The loss of a port's line leaves what is blind to drops and traffic and to the loss of a time source (R38, R75, R215). -/
theorem LineBlind.portLost (hsrc : ∀ p t, g (sourceLost p t) = g t) (p : Nat) (t : State) : g (portLost p t) = g t := by
  unfold Machine.portLost
  split
  · dsimp only
    rw [h.lossMove]
    have h2 : g ((Machine.trunkIdle p (t.bumpBy Code.trunkFramesDropped p (t.port p).trunk.awaiting)).modTrunk p
        (fun x => { x with previous := [], current := [], again := [], marks := [] })) = g t := by
      rw [h.trunk, h.trunkIdle, h.count _ _ _ _ (by decide)]
    split
    · exact (hsrc p _).trans h2
    · exact h2
  · exact (h.failover p 1 none _).trans (h.survivorLost p t)

theorem LineBlind.portsLost (hsrc : ∀ p t, g (sourceLost p t) = g t) (ps : List Nat) (t : State) :
    g (forAll ps Machine.portLost t) = g t :=
  forAll_keeps g ps Machine.portLost (fun p u => h.portLost hsrc p u) t

end

/-! ## What is blind to them -/

theorem LineBlind.of_fields {β : Type} {g : State → β}
    (h : ∀ (t : State) r p c o, g { t with regs := r, ports := p, ctxs := c, oxl := o } = g t) : LineBlind g where
  port t _ _ _ := h t t.regs _ t.ctxs t.oxl
  ctxs t c := h t t.regs t.ports c t.oxl
  count t c i n _ := by
    unfold State.bumpBy
    split
    · rfl
    · exact h t _ t.ports t.ctxs t.oxl
  report links kind p d e body t := by
    refine sendStatus_keeps g (fun x l u => ?_) (fun u n => h u u.regs u.ports u.ctxs _) _ _ _ _ _ _ _
    unfold pushStatus
    split
    · cases l
      · exact h u u.regs u.ports u.ctxs _
      · exact h u u.regs u.ports u.ctxs _
    · exact h u _ u.ports u.ctxs u.oxl

/-- A port's state at rest is blind to drops and traffic. -/
theorem lineBlind_port (q : Nat) : LineBlind (fun t => (t.port q).atRest) where
  port t p f hf := by
    by_cases hq : q = p
    · subst hq
      simp only [State.port_modPort]
      exact hf _
    · simp only [State.port_modPort_ne _ _ hq]
  ctxs _ _ := rfl
  count t c i n _ := by simp only [State.port, State.bumpBy_ports]
  report links kind p d e body t :=
    sendStatus_keeps (fun t => (t.port q).atRest) (fun x l u => by simp only [State.port, pushStatus_ports]) (fun _ _ => rfl) _ _ _ _ _ _ _

theorem objKey_low {c i d j : Nat} (hc : c < 0x300000) (hi : i < 2 ^ 24) (hd : 0x300000 ≤ d) : objKey c i ≠ objKey d j := by
  unfold objKey; omega

theorem pushStatus_low {c i : Nat} (hc : c < 0x300000) (hi : i < 2 ^ 24) (x : OutFrame) (l : Link) (t : State) :
    (pushStatus x l t).regWritten c i = t.regWritten c i := by
  unfold pushStatus
  split
  · cases l <;> rfl
  · exact bumpBy_regWritten (objKey_low hc hi (by cases l <;> decide)) _ _

/-- The working values below the objects of the ports are blind to drops and traffic. -/
theorem lineBlind_reg {c i : Nat} (hc : c < 0x300000) (hi : i < 2 ^ 24) : LineBlind (fun t => t.regWritten c i) where
  port _ _ _ _ := rfl
  ctxs _ _ := rfl
  count _ _ _ _ hd := bumpBy_regWritten (objKey_low hc hi hd.1) _ _
  report _ _ _ _ _ _ _ := sendStatus_keeps (fun t => t.regWritten c i) (pushStatus_low hc hi) (fun _ _ => rfl) _ _ _ _ _ _ _

/-! ## The loss of a time source -/

theorem sourceLost_keeps {β : Type} {g : State → β} (hr : BesidesReport g) (ht : ∀ (t : State) x, g { t with time := x } = g t)
    (hf : ∀ (t : State) x, g { t with faults := x } = g t) (p : Nat) (t : State) : g (sourceLost p t) = g t := by
  unfold sourceLost
  split
  · exact (hf _ _).trans ((refreshGrade_keeps hr ht _).trans (ht t _))
  · rfl

/-- The loss of a time source raises source 22 alone (R75). -/
theorem sourceLost_raises {n : Nat} (h : n ≠ 22) (p : Nat) (t : State) : RaisesBeside n t (sourceLost p t) := by
  unfold sourceLost
  split
  · refine RaisesBeside.trans (t := refreshGrade _) (.of_same ?_ ?_) (.notice rfl (Ne.symm h) _)
    · exact refreshGrade_due _
    · exact congrArg AonSt.faultCounts (refreshGrade_aon _)
  · exact .refl n t

theorem portLost_raises {n : Nat} (h : n ≠ 22) (p : Nat) (t : State) : RaisesBeside n t (portLost p t) := by
  have hf : LineBlind State.faults := .of_fields (fun _ _ _ _ _ => rfl)
  have ha : LineBlind State.aon := .of_fields (fun _ _ _ _ _ => rfl)
  have same : ∀ {u v : State}, v.faults = u.faults → v.aon = u.aon → RaisesBeside n u v := fun h1 h2 =>
    .of_same (congrArg FaultSt.due h1) (congrArg AonSt.faultCounts h2)
  unfold portLost
  split
  · dsimp only
    refine RaisesBeside.trans ?_ (same (hf.lossMove p 1 _) (ha.lossMove p 1 _))
    have h2 : RaisesBeside n t ((trunkIdle p (t.bumpBy Code.trunkFramesDropped p (t.port p).trunk.awaiting)).modTrunk p
        (fun x => { x with previous := [], current := [], again := [], marks := [] })) :=
      same (State.bumpBy_faults t _ _ _) (State.bumpBy_aon t _ _ _)
    split
    · exact h2.trans (sourceLost_raises h p _)
    · exact h2
  · exact same ((hf.failover p 1 none _).trans (hf.survivorLost p t)) ((ha.failover p 1 none _).trans (ha.survivorLost p t))

theorem portsLost_raises {n : Nat} (h : n ≠ 22) (ps : List Nat) (t : State) : RaisesBeside n t (forAll ps portLost t) :=
  .forAll (fun p u => portLost_raises h p u) ps t

/-- The loss of ports' lines leaves what looks at none of the counters, lines, links, faults and the time base. -/
theorem portsLost_keeps {β : Type} {g : State → β}
    (hg : ∀ (t : State) r p c o f x, g { t with regs := r, ports := p, ctxs := c, oxl := o, faults := f, time := x } = g t)
    (ps : List Nat) (t : State) : g (forAll ps portLost t) = g t :=
  (LineBlind.of_fields (fun t r p c o => hg t r p c o t.faults t.time)).portsLost
    (sourceLost_keeps (.of_fields (fun t r o f => hg t r t.ports t.ctxs o f t.time))
      (fun t x => hg t t.regs t.ports t.ctxs t.oxl t.faults x) (fun t f => hg t t.regs t.ports t.ctxs t.oxl f t.time)) ps t

theorem portsLost_port (q : Nat) (ps : List Nat) (t : State) : ((forAll ps portLost t).port q).atRest = (t.port q).atRest :=
  (lineBlind_port q).portsLost (sourceLost_keeps (g := fun t => (t.port q).atRest) (.of_fields (fun _ _ _ _ => rfl)) (fun _ _ => rfl) (fun _ _ => rfl)) ps t

theorem portsLost_reg {c i : Nat} (hc : c < 0x300000) (hi : i < 2 ^ 24) (hh : c ≠ Code.holdoverEntries) (ps : List Nat) (t : State) :
    (forAll ps portLost t).regWritten c i = t.regWritten c i := by
  refine (lineBlind_reg hc hi).portsLost (sourceLost_keeps (g := fun u => u.regWritten c i) ⟨pushStatus_low hc hi, fun _ _ => rfl, fun _ => rfl, fun u => ?_⟩
    (fun _ _ => rfl) (fun _ _ => rfl)) ps t
  exact bumpBy_regWritten (objKey_ne hh hi (by omega)) _ _

end Sys2Proof.Machine

/-! PROOFS. Lost clusters, the core PLL and line shorts, and the statement about them. -/

namespace Sys2Proof.Machine

/-! ## A cluster stops -/

/-- A fold establishes what one of its members' steps establishes and every step keeps. -/
theorem forAll_establishes {α : Type} {P : State → Prop} {f : α → State → State} {x : α} {xs : List α} (hx : x ∈ xs)
    (hest : ∀ t, P (f x t)) (hkeep : ∀ y t, P t → P (f y t)) (s : State) : P (forAll xs f s) := by
  have keep : ∀ (ys : List α) (t : State), P t → P (forAll ys f t) := by
    intro ys
    induction ys with
    | nil => exact fun t h => h
    | cons y ys ih => exact fun t h => ih (f y t) (hkeep y t h)
  induction xs generalizing s with
  | nil => cases hx
  | cons y ys ih =>
    rcases List.mem_cons.mp hx with rfl | h
    · exact keep ys _ (hest s)
    · exact ih h (f y s)

theorem mem_portsOf (p : Nat) : p ∈ portsOf (clusterOf p) := by
  simp only [portsOf, clusterOf, span, List.mem_map, List.mem_range]
  exact ⟨p % 16, by omega, by omega⟩

theorem abandonRun_keeps {β : Type} {g : State → β} (hg : ∀ (t : State) r p, g { t with regs := r, ports := p } = g t)
    (p : Nat) (s : State) : g (abandonRun p s) = g s := by
  unfold abandonRun
  split
  · rfl
  · exact hg s _ _

theorem stopPort_keeps {β : Type} {g : State → β} (hg : ∀ (t : State) r p, g { t with regs := r, ports := p } = g t)
    (p : Nat) (s : State) : g (stopPort p s) = g s :=
  (hg (abandonRun p s) (abandonRun p s).regs _).trans (abandonRun_keeps hg p s)

theorem abandonRun_reg {c i : Nat} (hc : c < 0x300000) (hi : i < 2 ^ 24) (p : Nat) (s : State) :
    (abandonRun p s).regWritten c i = s.regWritten c i := by
  unfold abandonRun
  split
  · rfl
  · exact bumpBy_regWritten (objKey_low hc hi (by decide)) _ _

theorem abandonRun_port_ne {p q : Nat} (h : q ≠ p) (s : State) : (abandonRun p s).port q = s.port q := by
  unfold abandonRun
  split
  · rfl
  · exact (congrArg (fun ps => Tab.get ps q ({} : PortSt)) (State.bump_ports _ _ _)).trans (State.port_modPort_ne _ _ h)

theorem stopPort_port (p : Nat) (s : State) : ((stopPort p s).port p).started = false ∧ ((stopPort p s).port p).onLine = [] := by
  unfold stopPort State.modTrav
  simp

theorem stopPort_port_ne {p q : Nat} (h : q ≠ p) (s : State) : (stopPort p s).port q = s.port q := by
  unfold stopPort State.modTrav
  simp only [State.port_modPort_ne _ _ h, abandonRun_port_ne h]

/-- A port is out of service, with nothing on its line (R38). -/
def State.portOut (s : State) (p : Nat) : Prop := (s.port p).started = false ∧ (s.port p).onLine = []

theorem State.portOut_congr {s t : State} {p : Nat} (h : (t.port p).atRest = (s.port p).atRest) (hs : s.portOut p) : t.portOut p :=
  ⟨(congrArg PortSt.started h :).trans hs.1, (congrArg PortSt.onLine h :).trans hs.2⟩

/-- The state in which a cluster has stopped, its ports aside (R38). -/
def ClusterSt.halted (c : ClusterSt) : ClusterSt :=
  { c with ready := false, gated := false, linkOn := false, dwell := 0, dwellFresh := false, dwellLen := 0 }

theorem clusterGone_keeps {β : Type} {g : State → β}
    (hg : ∀ (t : State) r p c o f x, g { t with regs := r, ports := p, ctxs := c, oxl := o, faults := f, time := x } = g t)
    (k : Nat) (s : State) : g (clusterGone k s) = g (s.modCluster k ClusterSt.halted) :=
  (portsLost_keeps hg _ _).trans
    (forAll_keeps g (portsOf k) stopPort (fun p t => stopPort_keeps (fun u r p => hg u r p u.ctxs u.oxl u.faults u.time) p t) _)

theorem clusterGone_cluster (k : Nat) (s : State) :
    (clusterGone k s).cluster k = (s.cluster k).halted ∧ ∀ j, j ≠ k → (clusterGone k s).cluster j = s.cluster j := by
  have h := fun j => clusterGone_keeps (g := fun t => t.cluster j) (fun _ _ _ _ _ _ _ => rfl) k s
  exact ⟨(h k).trans (State.cluster_setCluster ..), fun j hj => (h j).trans (State.cluster_setCluster_ne _ _ hj)⟩

theorem clusterGone_port {k p : Nat} (hp : clusterOf p = k) (s : State) : (clusterGone k s).portOut p := by
  refine State.portOut_congr (portsLost_port p _ _) ?_
  refine forAll_establishes (P := fun t => t.portOut p) (hp ▸ mem_portsOf p) (stopPort_port p) (fun y t ht => ?_) _
  by_cases hy : p = y
  · subst hy; exact stopPort_port p t
  · unfold State.portOut
    rw [stopPort_port_ne hy]
    exact ht

theorem clusterGone_reg {c i : Nat} (hc : c < 0x300000) (hi : i < 2 ^ 24) (hh : c ≠ Code.holdoverEntries) (k : Nat) (s : State) :
    (clusterGone k s).regWritten c i = s.regWritten c i :=
  (portsLost_reg hc hi hh _ _).trans
    (forAll_keeps (fun t => t.regWritten c i) (portsOf k) stopPort (fun p t => abandonRun_reg hc hi p t) _)

theorem stopCluster_keeps {β : Type} {g : State → β} (hg : ∀ (t : State) r p, g { t with regs := r, ports := p } = g t)
    (k : Nat) (s : State) : g (stopCluster k s) = g (s.modCluster k ClusterSt.halted) :=
  forAll_keeps g (portsOf k) stopPort (fun p t => stopPort_keeps hg p t) _

theorem clusterGone_raises {n : Nat} (h : n ≠ 22) (k : Nat) (s : State) : RaisesBeside n s (clusterGone k s) := by
  have hf := stopCluster_keeps (g := State.faults) (fun _ _ _ => rfl) k s
  have ha := stopCluster_keeps (g := State.aon) (fun _ _ _ => rfl) k s
  exact (RaisesBeside.of_same (congrArg FaultSt.due hf) (congrArg AonSt.faultCounts ha)).trans (portsLost_raises h _ _)

/-! ## A cluster is lost -/

/-- The state from which a cluster is lost: the ledger entry of a wake under way is closed (R91). -/
def State.wakeClosed (s : State) (k : Nat) : State :=
  if (s.cluster k).state = 3 then modLedger k (fun l => { l with exit := 0, flags := l.flags ||| 2, opened := false }) s else s

theorem State.wakeClosed_keeps {β : Type} {g : State → β} (hg : ∀ (t : State) l, g { t with aon := { t.aon with ledgers := l } } = g t)
    (k : Nat) (s : State) : g (s.wakeClosed k) = g s := by
  unfold State.wakeClosed modLedger
  (repeat' split) <;> first | rfl | exact hg s _

/-- The occurrence of a lost cluster (R403 source 7). -/
def clusterOcc (k cause : Nat) : Occ := { source := 7, key := [k], detail := [(1, k), (1, cause)] }

/-- The state in which a lost cluster is marked as such (R38). -/
def ClusterSt.lost (c : ClusterSt) : ClusterSt := { c with state := 4, step := 0, acked := false, heatRestart := false }

/-- The cluster `k` is marked as lost and its condition noticed (R38, R403). -/
def State.clusterDown (v : State) (k cause : Nat) : State := notice (clusterOcc k cause) (v.modCluster k ClusterSt.lost)

theorem State.clusterDown_cluster (v : State) (k cause : Nat) : (v.clusterDown k cause).cluster k = (v.cluster k).lost :=
  State.cluster_modCluster ..

theorem State.clusterDown_cluster_ne {k j : Nat} (h : j ≠ k) (v : State) (cause : Nat) :
    (v.clusterDown k cause).cluster j = v.cluster j :=
  State.cluster_setCluster_ne _ _ h

theorem clusterLost_eq (k cause : Nat) (s : State) :
    clusterLost k cause s = (clusterGone k (s.wakeClosed k)).clusterDown k cause := rfl

/-- The collector leaves a cluster but for its link, which a Fatal stop turns off (R416). -/
theorem collect_sameButLink (s : State) (k : Nat) : sameButLink ((collect s).cluster k) (s.cluster k) := by
  have h := collect_keeps (fun t => { t.cluster k with linkOn := (s.cluster k).linkOn })
    (fun x l t => by simp only [State.cluster, pushStatus_clusters]) (fun _ _ => rfl) (fun _ _ => rfl) (fun _ _ => rfl)
    (fun t => by simp only [State.cluster, State.bump_clusters]) (fun t => by rw [fatalStop_cluster]; rfl) s
  exact h

theorem takeRepeat_ports (o : Occ) (s : State) : (takeRepeat o s).ports = s.ports := by
  have hc : (countOcc o s).ports = s.ports := by unfold countOcc; split <;> simp
  simp [takeRepeat, stampOcc, hc]

theorem takeAll_ports (os : List Occ) (b : Bool) (s : State) : (takeAll os b s).1.ports = s.ports := by
  induction os generalizing b s with
  | nil => rfl
  | cons o rest ih =>
    unfold takeAll
    split
    · rw [ih, takeRepeat_ports]
    · obtain ⟨f, a, hr⟩ := takeRaise_frame o b s
      have hc : (countOcc o s).ports = s.ports := by unfold countOcc; split <;> simp
      dsimp only
      rw [ih, hr]
      exact hc

/-- The collector leaves a port as it is, or as the Fatal stop leaves it (R416). -/
theorem collect_port (s : State) (p : Nat) : (collect s).port p = s.port p ∨ (collect s).port p = (s.port p).cut := by
  have fin : ∀ (os : List Occ) (u : State), u.ports = s.ports →
      (if (takeAll os false u).2.any (fun x => x.cls == 4) then fatalStop (takeAll os false u).1
        else forAll (takeAll os false u).2 reportFault (takeAll os false u).1).port p = s.port p ∨
      (if (takeAll os false u).2.any (fun x => x.cls == 4) then fatalStop (takeAll os false u).1
        else forAll (takeAll os false u).2 reportFault (takeAll os false u).1).port p = (s.port p).cut := by
    intro os u hu
    have hp : (takeAll os false u).1.port p = s.port p := by simp only [State.port, takeAll_ports, hu]
    split
    · rw [← hp]; exact fatalStop_port _ p
    · refine .inl ((forAll_keeps (fun t => t.port p) _ reportFault (fun r t => ?_) _).trans hp)
      exact sendStatus_keeps (fun t => t.port p) (fun x l u => by simp only [State.port, pushStatus_ports]) (fun _ _ => rfl) _ _ _ _ _ _ _
  unfold collect
  split
  · exact .inl rfl
  · exact .inl rfl
  · exact fin _ _ rfl

theorem collect_portOut {s : State} {p : Nat} (h : s.portOut p) : (collect s).portOut p := by
  unfold State.portOut
  rcases collect_port s p with e | e <;> rw [e]
  · exact h
  · exact ⟨h.1, rfl⟩

/-- What a cluster's loss leaves behind its core cycle, whatever stopped it (R38, R39). -/
theorem clusterDown_collected {s v : State} {k : Nat} (hs : s.Ready) (hr : RaisesBeside 7 s v)
    (hk : v.cluster k = (s.cluster k).halted) (hne : ∀ j, j ≠ k → v.cluster j = s.cluster j)
    (hp : ∀ p, clusterOf p = k → v.portOut p) (cause : Nat) :
    ((collect (v.clusterDown k cause)).cluster k).state = 4 ∧ ((collect (v.clusterDown k cause)).cluster k).ready = false ∧
      (collect (v.clusterDown k cause)).faultCount 7 = min (s.faultCount 7 + 1) (2 ^ 32 - 1) ∧
      (∀ j : Nat, j ≠ k → sameButLink ((collect (v.clusterDown k cause)).cluster j) (s.cluster j)) ∧
      (∀ p : Nat, clusterOf p = k → (collect (v.clusterDown k cause)).portOut p) := by
  refine ⟨?_, ?_, ?_, fun j hj => ?_, fun p hcp => collect_portOut (hp p hcp)⟩
  · rw [collect_cluster_state, State.clusterDown_cluster]; rfl
  · rw [collect_cluster_ready, State.clusterDown_cluster, hk]; rfl
  · exact collect_count_beside (o := clusterOcc k cause) hs.2.1 rfl (hr.trans (.of_same rfl rfl)) (.refl _ _)
  · have h := collect_sameButLink (v.clusterDown k cause) j
    rwa [State.clusterDown_cluster_ne hj, hne j hj] at h

/-- What the loss of a cluster leaves behind its core cycle (R38, R39). -/
theorem clusterLost_collected {s u : State} (hs : s.Ready) (hf : u.faults = s.faults) (ha : u.aon = s.aon)
    (hc : u.clusters = s.clusters) (k cause : Nat) :
    ((collect (clusterLost k cause u)).cluster k).state = 4 ∧ ((collect (clusterLost k cause u)).cluster k).ready = false ∧
      (collect (clusterLost k cause u)).faultCount 7 = min (s.faultCount 7 + 1) (2 ^ 32 - 1) ∧
      (∀ j : Nat, j ≠ k → sameButLink ((collect (clusterLost k cause u)).cluster j) (s.cluster j)) ∧
      (∀ p : Nat, clusterOf p = k → (collect (clusterLost k cause u)).portOut p) := by
  have hcl : ∀ j, (u.wakeClosed k).cluster j = s.cluster j := fun j =>
    (State.wakeClosed_keeps (g := fun t => t.cluster j) (fun _ _ => rfl) k u).trans (by simp only [State.cluster, hc])
  obtain ⟨hk, hne⟩ := clusterGone_cluster k (u.wakeClosed k)
  have h0 : RaisesBeside 7 s (u.wakeClosed k) := .of_same
    ((State.wakeClosed_keeps (g := fun t => t.faults.due) (fun _ _ => rfl) k u).trans (by rw [hf]))
    ((State.wakeClosed_keeps (g := fun t => t.aon.faultCounts) (fun _ _ => rfl) k u).trans (by rw [ha]))
  rw [clusterLost_eq]
  exact clusterDown_collected hs (h0.trans (clusterGone_raises (by decide) k _)) (hk.trans (by rw [hcl]))
    (fun j hj => (hne j hj).trans (hcl j)) (fun p hp => clusterGone_port hp _) cause

end Sys2Proof.Machine

/-! PROOFS. The losses of chapters 2, 14 and 15: the core PLL, a cluster, a line. -/

namespace Sys2Proof.Machine

/-! ## What a lost cluster leaves alone -/

theorem State.clusterDown_heat (v : State) (k cause : Nat) : (v.clusterDown k cause).heat = v.heat := rfl

theorem clusterLost_sensor (k cause : Nat) (s : State) (n : Nat) : (clusterLost k cause s).sensor n = s.sensor n := by
  have h1 : (clusterGone k (s.wakeClosed k)).heat = (s.wakeClosed k).heat :=
    clusterGone_keeps (g := State.heat) (fun _ _ _ _ _ _ _ => rfl) k _
  have h2 : (s.wakeClosed k).heat = s.heat := State.wakeClosed_keeps (g := State.heat) (fun _ _ => rfl) k s
  rw [clusterLost_eq, State.sensor, State.clusterDown_heat, h1, h2, State.sensor]

/-! ## An occurrence of class Fatal stops the device -/

theorem mem_insertBy {α : Type} {le : α → α → Bool} {x y : α} {l : List α} : x ∈ insertBy le y l ↔ x = y ∨ x ∈ l := by
  induction l with
  | nil => simp [insertBy]
  | cons z l ih =>
    unfold insertBy
    split
    · simp only [List.mem_cons, ih]; tauto
    · simp

theorem mem_sortBy {α : Type} {le : α → α → Bool} {x : α} {l : List α} : x ∈ sortBy le l ↔ x ∈ l := by
  have gen : ∀ (l acc : List α), x ∈ l.foldl (fun acc y => insertBy le y acc) acc ↔ x ∈ acc ∨ x ∈ l := by
    intro l
    induction l with
    | nil => simp
    | cons y l ih =>
      intro acc
      rw [List.foldl_cons, ih, mem_insertBy, List.mem_cons]
      tauto
  exact (gen l []).trans (by simp)

/-- The raise that an occurrence brings (R404, R406). -/
def State.raiseFor (s : State) (o : Occ) : Raise :=
  { source := o.source, key := o.key, cls := raiseClass (s.faults.held ++ s.faults.ackedNow) o, acked := false,
    present := isCondition o.source && !o.injected, injected := o.injected, captured := s.aon.capture.isNone,
    time := s.time.time64, detail := o.detail, access := o.access, master := o.master, address := o.address }

/-- What a raise holds: what was held and, where there is room, the raise (R404, R405). -/
theorem takeRaise_held (o : Occ) (b : Bool) (s : State) : (takeRaise o b s).1.faults.held =
    if s.faults.held.length < 256 then s.faults.held ++ [s.raiseFor o] else s.faults.held := by
  have hc : (stampOcc o (countOcc o s)).faults.held = s.faults.held := by
    unfold stampOcc countOcc
    dsimp only
    split <;> simp
  unfold takeRaise
  dsimp only
  by_cases hroom : s.faults.held.length < 256
  · rw [if_pos (decide_eq_true hroom), if_pos hroom]
    refine Eq.trans (b := (stampOcc o (countOcc o s)).faults.held ++ [s.raiseFor o]) ?_ (by rw [hc])
    (repeat' split) <;> rfl
  · rw [if_neg (by simpa using hroom), if_neg hroom]
    refine .trans ?_ hc
    (repeat' split) <;> rfl

/-- A repeat holds what was held, with no other source (R404). -/
theorem takeRepeat_held {o : Occ} {s : State} {r : Raise} (h : r ∈ (takeRepeat o s).faults.held) :
    ∃ x ∈ s.faults.held, r.source = x.source ∧ r.injected = x.injected := by
  have hc : (stampOcc o (countOcc o s)).faults.held = s.faults.held := by
    unfold stampOcc countOcc
    dsimp only
    split <;> simp
  obtain ⟨x, hx, rfl⟩ := List.mem_map.mp h
  refine ⟨x, hc ▸ hx, ?_⟩
  split <;> exact ⟨rfl, rfl⟩

/-- A real occurrence of default class 4 brings a record of class 4 where none of its source is held, the others of the core cycle
being of other sources or injected (R404, R406). -/
theorem takeAll_fatal {o : Occ} (hi : o.injected = false) (hd : defaultClass o.source = 4) {os : List Occ} (ho : o ∈ os)
    (hos : ∀ x ∈ os, x = o ∨ x.source ≠ o.source ∨ x.injected = true) (b : Bool) (s : State)
    (hs : ∀ r ∈ s.faults.held, r.source ≠ o.source ∨ r.injected = true) :
    (takeAll os b s).2.any (fun x => x.cls == 4) = true := by
  induction os generalizing b s with
  | nil => cases ho
  | cons x os ih =>
    have hrest : ∀ y ∈ os, y = o ∨ y.source ≠ o.source ∨ y.injected = true := fun y hy => hos y (List.mem_cons_of_mem _ hy)
    unfold takeAll
    rcases hos x (List.mem_cons_self ..) with rfl | hx
    · have hrep : s.faults.held.any (repeats x) = false := by
        refine List.any_eq_false.mpr fun r hr => ?_
        rcases hs r hr with h | h <;> simp [repeats, h]
      have hcls : (takeRaise x b s).2.1.cls = raiseClass (s.faults.held ++ s.faults.ackedNow) x := rfl
      rw [hrep]
      simp only [Bool.false_eq_true, if_false, List.any_cons, Bool.or_eq_true]
      left
      simp [hcls, raiseClass, hd]
    · have ho' : o ∈ os := by
        rcases List.mem_cons.mp ho with rfl | h
        · rcases hx with hx | hx
          · exact absurd rfl hx
          · simp [hi] at hx
        · exact h
      split
      · refine ih ho' hrest _ _ fun r hr => ?_
        obtain ⟨y, hy, hsrc, hinj⟩ := takeRepeat_held hr
        rw [hsrc, hinj]
        exact hs y hy
      · rw [List.any_cons, Bool.or_eq_true]
        right
        refine ih ho' hrest _ _ fun r hr => ?_
        rw [takeRaise_held] at hr
        split at hr
        · rcases List.mem_append.mp hr with hr | hr
          · exact hs r hr
          · obtain rfl := List.mem_singleton.mp hr
            exact hx
        · exact hs r hr

/-- A core cycle with a first occurrence of default class 4 ends in the Fatal stop, whatever else occurs in it (R416). -/
theorem collect_fatal_beside {s : State} {o : Occ} (ho : o ∈ s.faults.due) (hos : ∀ x ∈ s.faults.due, x = o ∨ x.source ≠ o.source)
    (hi : o.injected = false) (hd : defaultClass o.source = 4) (hs : ∀ r ∈ s.faults.held, r.source ≠ o.source ∨ r.injected = true) :
    ∃ u, collect s = (fatalStop u).forgetAcks := by
  unfold collect
  cases hdue : s.faults.due with
  | nil => rw [hdue] at ho; cases ho
  | cons y ys =>
    rw [hdue] at ho hos
    refine ⟨_, congrArg State.forgetAcks (if_pos ?_)⟩
    refine takeAll_fatal hi hd (mem_sortBy.mpr (List.mem_append_left _ ho)) (fun x hx => ?_) _ _ hs
    rcases List.mem_append.mp (mem_sortBy.mp hx) with hx | hx
    · exact (hos x hx).imp_right .inl
    · refine .inr (.inr ?_)
      split at hx
      · cases hx
      · obtain ⟨z, -, rfl⟩ := List.mem_map.mp hx
        unfold injectedOcc
        split <;> rfl

/-- A core cycle with one occurrence of default class 4 ends in the Fatal stop (R416). -/
theorem collect_fatal {s : State} {o : Occ} (h : s.faults.due = [o]) (hi : o.injected = false) (hd : defaultClass o.source = 4)
    (hs : ∀ r ∈ s.faults.held, r.source ≠ o.source ∨ r.injected = true) : ∃ u, collect s = (fatalStop u).forgetAcks :=
  collect_fatal_beside (by rw [h]; exact List.mem_singleton_self o) (fun _ hx => .inl (List.mem_singleton.mp (h ▸ hx))) hi hd hs

/-- The Fatal stop beside the ports (R416). -/
def State.stopped (t : State) : State :=
  { t with
    clusters := t.clusters.map (fun e => (e.1, { e.2 with linkOn := false }))
    oxl := { t.oxl with a := t.oxl.a.stopped, b := t.oxl.b.stopped }
    arch := { t.arch with inFlight := [], toIssue := [], committing := 0 }
    faults := { t.faults with fatal := true } }

theorem State.stopped_port (t : State) (p : Nat) : t.stopped.port p = t.port p := rfl

theorem fatalStop_split (s : State) : fatalStop s = (forAll allPorts (fun p t => t.modPort p PortSt.cut) s).stopped := by
  delta fatalStop; rfl

@[simp] theorem State.forgetAcks_port (s : State) (p : Nat) : s.forgetAcks.port p = s.port p := rfl
@[simp] theorem State.forgetAcks_link (s : State) (l : Link) : s.forgetAcks.link l = s.link l := by cases l <;> rfl
@[simp] theorem State.forgetAcks_fatal (s : State) : s.forgetAcks.faults.fatal = s.faults.fatal := rfl

theorem State.stopped_fatal (t : State) : t.stopped.faults.fatal = true := rfl

/-- The Fatal stop turns every line driver off and cuts every burst (R416). -/
theorem fatalStop_driver {p : Nat} (hp : p < 144) (s : State) :
    ((fatalStop s).port p).driverOff = true ∧ ((fatalStop s).port p).onLine = [] := by
  have hmem : p ∈ allPorts := List.mem_range.mpr hp
  have h := forAll_establishes (P := fun t => (t.port p).driverOff = true ∧ (t.port p).onLine = []) (f := fun p t => t.modPort p PortSt.cut)
    hmem (fun t => ?own) (fun y t ht => ?others) s
  case own => rw [State.port_modPort]; exact ⟨rfl, rfl⟩
  case others =>
    by_cases hy : p = y
    · subst hy; rw [State.port_modPort]; exact ⟨rfl, rfl⟩
    · rwa [State.port_modPort_ne _ _ hy]
  rw [fatalStop_split, State.stopped_port]
  exact h

/-- A line that is shorted (R403). -/
def PortSt.shortNow (x : PortSt) : PortSt := { x with shorted := true, shortClear := 0 }

/-- What the condition of a short leaves behind its core cycle (R403). -/
theorem shortRaised_collected {s v : State} {p : Nat} (hs : s.Ready) (hf : v.faults = s.faults) (ha : v.aon = s.aon)
    (hx : v.ctxs = s.ctxs) (hc : v.clusters = s.clusters) (h1 : (v.port p).shorted = true) (h2 : (v.port p).shortClear = 0) :
    ((collect (fault 25 [p] [(1, p)] v)).port p).shorted = true ∧ ((collect (fault 25 [p] [(1, p)] v)).port p).shortClear = 0 ∧
      (collect (fault 25 [p] [(1, p)] v)).faultCount 25 = min (s.faultCount 25 + 1) (2 ^ 32 - 1) ∧
      (collect (fault 25 [p] [(1, p)] v)).ctxs = s.ctxs ∧
      (∀ k : Nat, sameButLink ((collect (fault 25 [p] [(1, p)] v)).cluster k) (s.cluster k)) := by
  have hdue : (fault 25 [p] [(1, p)] v).faults.due = [{ source := 25, key := [p], detail := [(1, p)] }] := by
    change v.faults.due ++ _ = _
    rw [hf, hs.2.1]; rfl
  refine ⟨?_, ?_, ?_, ?_, fun k => ?_⟩
  · rcases collect_port (fault 25 [p] [(1, p)] v) p with h | h <;> rw [h] <;> exact h1
  · rw [collect_port_shortClear]; exact h2
  · rw [collect_count_one hdue rfl, if_pos rfl]
    change min (Tab.get v.aon.faultCounts 25 0 + 1) _ = _
    rw [ha]; rfl
  · rw [collect_ctxs]; exact hx
  · have h := collect_sameButLink (fault 25 [p] [(1, p)] v) k
    have hk : (fault 25 [p] [(1, p)] v).cluster k = s.cluster k := congrArg (fun c => Tab.get c k ({} : ClusterSt)) hc
    rwa [hk] at h

end Sys2Proof.Machine

namespace Sys2Proof.Proofs

open Machine

/-- Settles O35, loss by loss. -/
theorem lossesAreContained : Obligations.LossesAreContained := by
  refine ⟨fun s hs hheld => ?pll, fun i k s hi hs hk hl => ?cluster, fun p s hs hp hsh => ?short, fun p s hs hp hsh => ?again⟩
  case pll =>
    have hdue : (fault 1 [] [] s).faults.due = [{ source := 1, key := [], detail := [] }] :=
      (congrArg (· ++ [_]) hs.2.1 :)
    obtain ⟨u, hu⟩ := collect_fatal hdue rfl rfl (fun r hr => .inl (hheld r hr))
    refine ⟨_, run_running (fault 1 [] []) hs.1, by rw [hu, State.forgetAcks_fatal, fatalStop_split, State.stopped_fatal], ?_,
      fun p hp => by rw [hu, State.forgetAcks_port]; exact fatalStop_driver hp u, fun l => ?_,
      by simp [fault, notice], by simp [fault, notice], by simp [fault, notice]⟩
    · rw [collect_count_one hdue rfl, if_pos rfl]; rfl
    · rw [hu, State.forgetAcks_link, fatalStop_link]
      exact ⟨rfl, rfl⟩
  case cluster =>
    have hl : s.linkRuns k = true := hl
    rcases hi with rfl | rfl | rfl
    · have he : atCluster k (clusterPllUnlock k) s = clusterLost k 2 s := by
        rw [atCluster, if_pos hk, clusterPllUnlock, if_pos hl]
      obtain ⟨h1, h2, h3, h4, h5⟩ := clusterLost_collected hs (u := s) rfl rfl rfl k 2
      exact ⟨_, (run_running _ hs.1).trans (by rw [he]), h1, h2, h3, by simp, h4, h5⟩
    · have he : atCluster k (clusterRailFall k false) s = clusterLost k 1 s := by
        rw [atCluster, if_pos hk, clusterRailFall, if_pos hl]; rfl
      obtain ⟨h1, h2, h3, h4, h5⟩ := clusterLost_collected hs (u := s) rfl rfl rfl k 1
      exact ⟨_, (run_running _ hs.1).trans (by rw [he]), h1, h2, h3, by simp, h4, h5⟩
    · have he : atCluster k (clusterRailFall k true) s =
          clusterLost k 1 (s.setSensor (k + 1) { s.sensor (k + 1) with poweredAt := none }) := by
        rw [atCluster, if_pos hk, clusterRailFall, if_pos hl]; rfl
      obtain ⟨h1, h2, h3, h4, h5⟩ := clusterLost_collected hs
        (u := s.setSensor (k + 1) { s.sensor (k + 1) with poweredAt := none }) rfl rfl rfl k 1
      refine ⟨_, (run_running _ hs.1).trans (by rw [he]), h1, h2, h3, fun _ => ?_, h4, h5⟩
      rw [State.sensor, collect_heat, ← State.sensor, clusterLost_sensor, State.sensor_setSensor]
  case short =>
    have he : atPort p (lineShort p) s = fault 25 [p] [(1, p)] (s.modPort p PortSt.shortNow) := by
      rw [atPort, if_pos hp, lineShort, if_neg (by simp [hsh])]; rfl
    have hport : (s.modPort p PortSt.shortNow).port p = (s.port p).shortNow := State.port_modPort ..
    have hrun := (run_running (atPort p (lineShort p)) hs.1).trans (by rw [he])
    exact ⟨_, hrun, shortRaised_collected hs rfl rfl rfl rfl (by rw [hport]; rfl) (by rw [hport]; rfl)⟩
  case again =>
    have he : atPort p (lineShort p) s = s.modPort p PortSt.shortNow := by
      rw [atPort, if_pos hp, lineShort, if_pos hsh]; rfl
    exact (run_quiet hs (by rw [he]; rfl)).trans (by rw [he]; rfl)

end Sys2Proof.Proofs

/-! PROOFS. The full test, the converters and the start-up check, and the statement about them. -/

namespace Sys2Proof.Machine

/-- What notes occurrences of other sources alone leaves a count as it is (R404). -/
theorem collect_count_unraised {n : Nat} {s u : State} (hd : s.faults.due = []) (h : RaisesBeside n s u) :
    (collect u).faultCount n = s.faultCount n := by
  obtain ⟨ha, l, hl, hp⟩ := h
  rw [hd, List.nil_append] at hl
  have hcount : u.faultCount n = s.faultCount n := congrArg (Tab.get · n 0) ha
  cases l with
  | nil => rw [collect_none hl]; exact hcount
  | cons o os => rw [collect_count hl (fun x hx => (hp x hx).1), countStep_other (fun x hx => (hp x hx).2), hcount]

/-! ## The record of an engine -/

theorem recordFailed_keeps {β : Type} {g : State → β}
    (hg : ∀ (t : State) r f h x m e c, g { t with regs := r, free := f, hold := h, faults := x, nvm := m, engines := e, clusters := c } = g t)
    (e test : Nat) (s : State) : g (recordFailed e test s) = g s := by
  have hcl : ∀ (t : State) k f, g (t.modCluster k f) = g t := fun t k f => hg t t.regs t.free t.hold t.faults t.nvm t.engines _
  have hf : ∀ n k d (t : State), g (fault n k d t) = g t := fun n k d t => hg t t.regs t.free t.hold _ t.nvm t.engines t.clusters
  have hen : ∀ (t : State) f, g (t.modEngine e f) = g t := fun t f => hg t t.regs t.free t.hold t.faults t.nvm _ t.clusters
  have hlog : ∀ a b c (t : State), g (logRepair a b c t) = g t :=
    logRepair_keeps (fun t r f h x m => hg t r f h x m t.engines t.clusters)
  unfold recordFailed
  dsimp only
  split <;> simp only [hf, hcl, hlog, hen]

theorem unrecord_keeps {β : Type} {g : State → β}
    (hg : ∀ (t : State) r f h x m e c, g { t with regs := r, free := f, hold := h, faults := x, nvm := m, engines := e, clusters := c } = g t)
    (e : Nat) (s : State) : g (unrecord e s) = g s := by
  have hcl : ∀ (t : State) k f, g (t.modCluster k f) = g t := fun t k f => hg t t.regs t.free t.hold t.faults t.nvm t.engines _
  have hf : ∀ n k (t : State), g (endCondition n k t) = g t := fun n k t => hg t t.regs t.free t.hold _ t.nvm t.engines t.clusters
  have hen : ∀ (t : State) f, g (t.modEngine e f) = g t := fun t f => hg t t.regs t.free t.hold t.faults t.nvm _ t.clusters
  have hlog : ∀ a b c (t : State), g (logRepair a b c t) = g t :=
    logRepair_keeps (fun t r f h x m => hg t r f h x m t.engines t.clusters)
  unfold unrecord
  dsimp only
  split <;> simp only [hf, hcl, hlog, hen]

theorem unrecord_raises {n : Nat} (h33 : n ≠ 33) (h34 : n ≠ 34) (e : Nat) (s : State) : RaisesBeside n s (unrecord e s) := by
  have hlog : ∀ a b c (t : State), t.faults = s.faults → t.aon = s.aon → RaisesBeside n s (logRepair a b c t) :=
    fun a b c t hf ha => (RaisesBeside.of_same (by rw [hf]) (by rw [ha])).trans (logRepair_raises h33 h34 a b c t)
  unfold unrecord
  dsimp only
  split
  · refine (hlog _ _ _ _ ?_ ?_).trans (.of_same rfl rfl) <;> rfl
  · exact hlog _ _ _ _ rfl rfl

/-- The state in which an engine has been recorded as failed, before its fault (R381, R453). -/
def State.failRecorded (s : State) (e : Nat) : State :=
  logRepair 1 e 0 (s.modEngine e (fun x => { x with
    state := 4, since := s.time.tick, second := false, passed := false, failing := false, target := none, rotating := false }))

/-- The fault of a failed engine (R403 source 11). -/
def engineOcc (e test : Nat) : Occ := { source := 11, key := [e], detail := [(1, e), (1, e / 18), (2, test)] }

theorem State.failRecorded_raises {n : Nat} (h33 : n ≠ 33) (h34 : n ≠ 34) (e : Nat) (s : State) : RaisesBeside n s (s.failRecorded e) :=
  (RaisesBeside.of_same rfl rfl).trans (logRepair_raises h33 h34 ..)

theorem recordFailed_raises {n : Nat} (h : n ≠ 12) (e test : Nat) (s : State) :
    RaisesBeside n (notice (engineOcc e test) (s.failRecorded e)) (recordFailed e test s) := by
  unfold recordFailed
  dsimp only
  split
  · exact (RaisesBeside.of_same rfl rfl).trans (.notice rfl (by exact h.symm) _)
  · exact .refl n _

theorem recordFailed_engine (e test : Nat) (s : State) : ((recordFailed e test s).engine e).state = 4 := by
  have hlog : ∀ a b c (t : State), (logRepair a b c t).engines = t.engines := logRepair_keeps (g := State.engines) (fun _ _ _ _ _ _ => rfl)
  have hen : (recordFailed e test s).engines = (s.failRecorded e).engines := by
    unfold recordFailed
    dsimp only
    split <;> rfl
  rw [State.engine, hen, State.failRecorded, hlog, ← State.engine, State.engine_modEngine]

/-- A ready spare takes a failed engine's port, and the failed engine stays recorded (R381, R400). -/
theorem replaceEngine_failed {e : Nat} {s : State} (h : (s.engine e).state = 4) (p : Nat) : ((replaceEngine p s).engine e).state = 4 := by
  unfold replaceEngine
  split
  next y hy =>
    have hready := (List.mem_filter.mp (State.longest_mem hy)).2
    have hne : e ≠ y := by
      rintro rfl
      simp [State.readySpare, h] at hready
    rw [State.engine_modEngine_ne hne]
    exact h
  · exact h

theorem replaceEngine_keeps {β : Type} {g : State → β} (hg : ∀ (t : State) p e, g { t with ports := p, engines := e } = g t) (p : Nat)
    (s : State) : g (replaceEngine p s) = g s := by
  unfold replaceEngine
  split
  · exact hg s _ _
  · exact hg s _ s.engines

/-- An engine that fails the full test is recorded, and raises its fault once (R381, R400). -/
theorem fullEngineFails_counted {e test : Nat} {s u : State} (hs : s.Ready) (hu : RaisesBeside 11 s u) (he : e < 162)
    (h4 : (u.engine e).state ≠ 4) :
    ((collect (fullEngineFails e test u)).engine e).state = 4 ∧ (fullEngineFails e test u).test = u.test ∧
      (collect (fullEngineFails e test u)).faultCount 11 = min (s.faultCount 11 + 1) (2 ^ 32 - 1) := by
  have h1 : RaisesBeside 11 s (u.failRecorded e) := hu.trans (u.failRecorded_raises (by decide) (by decide) e)
  have h2 := recordFailed_raises (n := 11) (by decide) e test u
  have ht : (recordFailed e test u).test = u.test := recordFailed_keeps (g := State.test) (fun _ _ _ _ _ _ _ _ => rfl) e test u
  have h5 := recordFailed_engine e test u
  unfold fullEngineFails
  rw [if_neg (by omega)]
  generalize recordFailed e test u = v at h2 ht h5
  dsimp only
  split
  next p _ =>
    refine ⟨by rw [collect_engine]; exact replaceEngine_failed h5 p, (replaceEngine_keeps (g := State.test) (fun _ _ _ => rfl) p v).trans ht, ?_⟩
    exact collect_count_beside (o := engineOcc e test) hs.2.1 rfl h1 (h2.trans (.of_same
      (replaceEngine_keeps (g := fun t => t.faults.due) (fun _ _ _ => rfl) p v)
      (replaceEngine_keeps (g := fun t => t.aon.faultCounts) (fun _ _ _ => rfl) p v)))
  · exact ⟨by rw [collect_engine]; exact h5, ht, collect_count_beside (o := engineOcc e test) hs.2.1 rfl h1 h2⟩

/-! ## The end of the full test -/

/-- The state in which the results of a full test have been judged, their units aside (R386, R401). -/
def State.fullJudged (s : State) (rs : List UnitTest) (bad : Nat) : State :=
  let fs := rs.filter s.unitFails
  ((({ s with test := { s.test with
      fullState := if fs.isEmpty then 2 else 3, fullResult := fullResultBytes s.test.fullAt s.time.time64 fs } }).bumpBy
    Code.enginePasses 0 (s.enginesPassed rs).length).bumpBy Code.engineFails 0 bad).bumpBy Code.misrMismatches 0 fs.length

/-- An engine that passes the full test: in RETURN its record goes (R381, R386, R400). -/
def fullPasses (e : Nat) (t : State) : State :=
  if (t.engine e).state = 4 then (if t.lc = 3 then unrecord e t else t)
  else t.modEngine e (fun x => { x with passed := true, tested := t.time.time64 / secondTicks % 2 ^ 32 })

/-- FULL_TEST_COMPLETE as the engines that pass and the units that fail have it (R400). -/
theorem fullTestComplete_eq {rs : List UnitTest} {s : State} (h : s.test.fullState = 1) : ∃ bad,
    fullTestComplete rs s = forAll (rs.filter s.unitFails) fullFail (forAll (s.enginesPassed rs) fullPasses (s.fullJudged rs bad)) := by
  unfold fullTestComplete
  rw [if_neg (by simp [h])]
  exact ⟨_, rfl⟩

theorem fullPasses_keeps {β : Type} {g : State → β}
    (hg : ∀ (t : State) r f h x m e c, g { t with regs := r, free := f, hold := h, faults := x, nvm := m, engines := e, clusters := c } = g t)
    (e : Nat) (s : State) : g (fullPasses e s) = g s := by
  unfold fullPasses
  (repeat' split)
  · exact unrecord_keeps hg e s
  · rfl
  · exact hg s s.regs s.free s.hold s.faults s.nvm _ s.clusters

theorem fullPasses_raises {n : Nat} (h33 : n ≠ 33) (h34 : n ≠ 34) (e : Nat) (s : State) : RaisesBeside n s (fullPasses e s) := by
  unfold fullPasses
  (repeat' split)
  · exact unrecord_raises h33 h34 e s
  · exact .refl n s
  · exact .of_same rfl rfl

theorem State.bumpBy_frame (s : State) (c i n : Nat) : { s.bumpBy c i n with regs := s.regs } = s := by
  unfold State.bumpBy
  split <;> rfl

theorem State.bumpBy_keeps {β : Type} {g : State → β} (hg : ∀ (t : State) r, g { t with regs := r } = g t) (s : State) (c i n : Nat) :
    g (s.bumpBy c i n) = g s :=
  (hg (s.bumpBy c i n) s.regs).symm.trans (congrArg g (s.bumpBy_frame c i n))

theorem State.fullJudged_keeps {β : Type} {g : State → β} (hg : ∀ (t : State) r x, g { t with regs := r, test := x } = g t)
    (s : State) (rs : List UnitTest) (bad : Nat) : g (s.fullJudged rs bad) = g s := by
  have hb : ∀ (t : State) c i n, g (t.bumpBy c i n) = g t := State.bumpBy_keeps (fun t r => hg t r t.test)
  unfold State.fullJudged
  dsimp only
  rw [hb, hb, hb]
  exact hg s s.regs _

theorem State.fullJudged_test (s : State) (rs : List UnitTest) (bad : Nat) : (s.fullJudged rs bad).test =
    { s.test with fullState := if (rs.filter s.unitFails).isEmpty then 2 else 3,
                  fullResult := fullResultBytes s.test.fullAt s.time.time64 (rs.filter s.unitFails) } := by
  have hb : ∀ (t : State) c i n, (t.bumpBy c i n).test = t.test := State.bumpBy_keeps (g := State.test) (fun _ _ => rfl)
  unfold State.fullJudged
  dsimp only
  rw [hb, hb, hb]

theorem State.fullJudged_raises (n : Nat) (s : State) (rs : List UnitTest) (bad : Nat) : RaisesBeside n s (s.fullJudged rs bad) :=
  .of_same (State.fullJudged_keeps (g := fun t => t.faults.due) (fun _ _ _ => rfl) s rs bad)
    (State.fullJudged_keeps (g := fun t => t.aon.faultCounts) (fun _ _ _ => rfl) s rs bad)

/-- The one engine of a full test that fails does not pass. -/
theorem enginesPassed_failing {x : UnitTest} {s : State} (h : s.unitFails x = true) (h5 : x.test ≤ 5) : s.enginesPassed [x] = [] := by
  unfold State.enginesPassed
  dsimp only
  split
  · refine List.filter_eq_nil_iff.mpr fun e he => ?_
    obtain ⟨y, hy, rfl⟩ := List.mem_map.mp (List.mem_eraseDups.mp he)
    obtain rfl := List.mem_singleton.mp (List.mem_filter.mp hy).1
    simp [h, h5]
  · rfl

/-! ## A converter half -/

theorem abandonRun_halves (p : Nat) (s : State) : ((abandonRun p s).port p).trav.halves = (s.port p).trav.halves := by
  unfold abandonRun
  split
  · rfl
  · rw [State.port, State.bump_ports, ← State.port]
    simp [State.modTrav]

/-- The state in which a half has been disconnected, before its fault (R43, R396). -/
def State.halfGone (s : State) (p left : Nat) : State :=
  (abandonRun p (s.modTrav p (fun x => { x with halves := left }))).bump Code.halfLosses p

theorem State.halfGone_halves (s : State) (p left : Nat) : ((s.halfGone p left).port p).trav.halves = left := by
  unfold State.halfGone
  rw [State.port, State.bump_ports, ← State.port, abandonRun_halves]
  simp [State.modTrav]

theorem State.halfGone_keeps {β : Type} {g : State → β} (hg : ∀ (t : State) r p, g { t with regs := r, ports := p } = g t)
    (s : State) (p left : Nat) : g (s.halfGone p left) = g s := by
  have hb : ∀ (t : State) c i, g (t.bump c i) = g t := fun t c i => State.bumpBy_keeps (fun t r => hg t r t.ports) t c i 1
  have hm : ∀ (t : State) f, g (t.modTrav p f) = g t := fun t f => hg t t.regs _
  unfold State.halfGone
  rw [hb, abandonRun_keeps hg, hm]

theorem loseHalf_first {p : Nat} {s : State} (h : (s.port p).trav.halves = 3) :
    loseHalf p 0 s = fault 13 [p, 0] [(1, p), (1, 0)] (s.halfGone p 2) := by
  unfold loseHalf
  dsimp only
  rw [h]
  rfl

theorem halfBad_iff (f : HalfFinding) : halfBad f = true ↔
    1000 < f.gain.natAbs ∨ 200 < f.offset.natAbs ∨ 250 < f.skew.natAbs ∨ (1024 ≤ f.unchanged ∧ 16 < f.otherSpan) := by
  simp [halfBad, or_assoc]

theorem converterCalibration_first {k p : Nat} {f g : HalfFinding} {s : State} (hp : clusterOf p = k) (hst : (s.cluster k).state ≤ 1)
    (h : (s.port p).trav.halves = 3) (hf : halfBad f = true) (hg : halfBad g = false) :
    converterCalibration k [{ port := p, half0 := f, half1 := g }] s = fault 13 [p, 0] [(1, p), (1, 0)] (s.halfGone p 2) := by
  unfold converterCalibration
  rw [if_pos hst, ← loseHalf_first h]
  simp [hp, hf, hg, forAll]

/-! ## The start-up check of a cluster that passes -/

theorem State.golden_congr {s t : State} (h : t.doms = s.doms) (test die : Nat) : t.golden test die = s.golden test die := by
  unfold State.golden State.dom
  rw [h]

theorem State.unitFails_congr {s t : State} (h : t.doms = s.doms) (x : UnitTest) : t.unitFails x = s.unitFails x := by
  unfold State.unitFails
  rw [State.golden_congr h]

theorem enginePasses_keeps {β : Type} {g : State → β} (hg : ∀ (t : State) r e, g { t with regs := r, engines := e } = g t) (e : Nat)
    (s : State) : g (enginePasses e s) = g s :=
  State.bumpBy_keeps (fun t r => hg t r t.engines) _ _ _ 1 |>.trans
    (hg s s.regs (s.modEngine e (fun x => { x with passed := true, tested := s.time.time64 / secondTicks % 2 ^ 32 })).engines)

/-- An engine whose runs pass is counted and stamped, or has left no response (R386). -/
theorem engineCheck_passing {c : ClusterCheck} {t : State} (h : ∀ x ∈ c.runs, t.unitFails x = false) (e : Nat) :
    engineCheck c e t = t ∨ engineCheck c e t = enginePasses e t := by
  have hbad : t.engineBad c.runs e = [] := by
    unfold State.engineBad
    rw [List.map_eq_nil_iff, List.filter_eq_nil_iff]
    intro x hx
    simp [h x hx]
  unfold engineCheck
  split
  · exact .inl rfl
  · rw [hbad]; exact .inr rfl

theorem engineChecks_keeps {β : Type} {g : State → β} (hg : ∀ (t : State) r e, g { t with regs := r, engines := e } = g t)
    {c : ClusterCheck} (es : List Nat) (t : State) (h : ∀ x ∈ c.runs, t.unitFails x = false) :
    g (forAll es (engineCheck c) t) = g t := by
  induction es generalizing t with
  | nil => rfl
  | cons e es ih =>
    change g (forAll es (engineCheck c) (engineCheck c e t)) = _
    rcases engineCheck_passing h e with he | he <;> rw [he]
    · exact ih t h
    · have hd : (enginePasses e t).doms = t.doms := enginePasses_keeps (g := State.doms) (fun _ _ _ => rfl) e t
      exact (ih _ (fun x hx => (State.unitFails_congr hd x).trans (h x hx))).trans (enginePasses_keeps hg e t)

/-- An engine as it is assigned behind a reset where none is recorded as failed (R41). -/
def assignedAt (k e : Nat) (t : State) (tick : Nat) : State :=
  t.modEngine e (fun x => { x with
    state := if (enginesOf k).findIdx (fun y => decide (y = e)) < 16 then 0 else 1, passed := true, since := tick })

/-- A port's engine as it is assigned where none is recorded as failed (R41). -/
def portAssigned (k i : Nat) (t : State) : State :=
  t.modPort (16 * k + i) (fun x => { x with
    movedTo := if 18 * k + i = engineOf (16 * k + i) then none else some (18 * k + i), stopped := false })

theorem mem_enginesOf {k e : Nat} : e ∈ enginesOf k ↔ 18 * k ≤ e ∧ e < 18 * k + 18 := by
  simp only [enginesOf, span, List.mem_map, List.mem_range]
  exact ⟨by rintro ⟨i, hi, rfl⟩; omega, fun ⟨h1, h2⟩ => ⟨e - 18 * k, by omega, by omega⟩⟩

theorem enginesOf_findIdx {k e : Nat} (h : e ∈ enginesOf k) : (enginesOf k).findIdx (fun y => decide (y = e)) = e % 18 := by
  obtain ⟨h1, h2⟩ := mem_enginesOf.mp h
  have hi : e % 18 < 18 := Nat.mod_lt _ (by decide)
  have hfun : ((fun y => decide (y = e)) ∘ (fun i => 18 * k + i)) = fun i => decide (i = e % 18) := by
    funext i
    exact decide_eq_decide.mpr (by change 18 * k + i = e ↔ _; omega)
  unfold enginesOf span
  rw [List.findIdx_map, hfun]
  exact (by decide : ∀ j < 18, (List.range 18).findIdx (fun i => decide (i = j)) = j) _ hi

theorem enginesOf_get {k i : Nat} (h : i < 16) : (enginesOf k)[i]? = some (18 * k + i) := by
  unfold enginesOf span
  rw [List.getElem?_map, List.getElem?_range (by omega)]
  rfl

/-- A port's engine as it is assigned from the engines that are left (R41). -/
def assignPort (k : Nat) (left : List Nat) (i : Nat) (t : State) : State :=
  match left[i]? with
  | some e => t.modPort (16 * k + i) (fun x => { x with movedTo := if e = engineOf (16 * k + i) then none else some e, stopped := false })
  | none =>
    if (t.port (16 * k + i)).stopped then t
    else fault 9 [16 * k + i] [(1, 16 * k + i), (1, engineOf (16 * k + i))] (t.modPort (16 * k + i) (fun x => { x with stopped := true }))

/-- The spares that are left behind an assignment are watched (R381). -/
def sparesWatched (k : Nat) (s : State) : State :=
  if s.sparesLeft k < 2 ∧ (s.cluster k).rotationStopped = false then
    fault 12 [k] [(1, k), (1, s.sparesLeft k)] (s.modCluster k (fun c => { c with rotationStopped := true }))
  else s

theorem forAll_congr {α : Type} {xs : List α} {f g : α → State → State} (h : ∀ x ∈ xs, ∀ t, f x t = g x t) (s : State) :
    forAll xs f s = forAll xs g s := by
  induction xs generalizing s with
  | nil => rfl
  | cons x xs ih =>
    change forAll xs f (f x s) = forAll xs g (g x s)
    rw [h x (List.mem_cons_self ..)]
    exact ih (fun y hy => h y (List.mem_cons_of_mem _ hy)) _

/-- The assignment of a cluster's engines where none is recorded as failed (R41). -/
theorem assignEngines_unlogged {s : State} (h : s.loggedFailed = []) (k : Nat) : assignEngines k s =
    sparesWatched k (forAll (span 0 16) (assignPort k (enginesOf k)) (forAll (enginesOf k) (fun e t => assignedAt k e t s.time.tick) s)) := by
  have hleft : (enginesOf k).filter (fun e => !([] : List Nat).contains e) = enginesOf k :=
    List.filter_eq_self.mpr (fun _ _ => rfl)
  unfold assignEngines
  rw [h]
  dsimp only
  rw [hleft]
  rfl

theorem assignedAt_state {k e : Nat} (he : e ∈ enginesOf k) (t : State) (tick : Nat) :
    ((assignedAt k e t tick).engine e).state = if e % 18 < 16 then 0 else 1 := by
  unfold assignedAt
  rw [State.engine_modEngine, enginesOf_findIdx he]

/-- Every engine of the cluster is behind its assignment in service, or a spare (R41). -/
theorem assignedAll_state {k e : Nat} (he : e ∈ enginesOf k) (s : State) (tick : Nat) :
    ((forAll (enginesOf k) (fun e t => assignedAt k e t tick) s).engine e).state = if e % 18 < 16 then 0 else 1 := by
  refine forAll_establishes (P := fun t => (t.engine e).state = if e % 18 < 16 then 0 else 1)
    (f := fun e t => assignedAt k e t tick) he (fun t => assignedAt_state he t tick) (fun y t ht => ?_) s
  by_cases hy : e = y
  · subst hy; exact assignedAt_state he t tick
  · unfold assignedAt
    rwa [State.engine_modEngine_ne hy]

/-- Where no engine is recorded as failed, the first sixteen engines of a cluster serve its ports (R41). -/
theorem assignEngines_none {s : State} (hlog : s.nvm.log = []) (hto : s.nvm.toLog = []) (k : Nat) :
    assignEngines k s = forAll (span 0 16) (portAssigned k) (forAll (enginesOf k) (fun e t => assignedAt k e t s.time.tick) s) := by
  have hfailed : s.loggedFailed = [] := by simp [State.loggedFailed, hlog, hto]
  have hports : ∀ u : State, forAll (span 0 16) (assignPort k (enginesOf k)) u = forAll (span 0 16) (portAssigned k) u := by
    refine forAll_congr fun i hi t => ?_
    unfold assignPort
    rw [enginesOf_get ((by decide : ∀ i ∈ span 0 16, i < 16) i hi)]
    rfl
  have hengines : ∀ u : State, (forAll (span 0 16) (portAssigned k) u).engines = u.engines :=
    forAll_keeps State.engines _ _ (fun _ _ => rfl)
  rw [assignEngines_unlogged hfailed, hports]
  refine if_neg (fun h => ?_)
  have hspares : (forAll (span 0 16) (portAssigned k) (forAll (enginesOf k) (fun e t => assignedAt k e t s.time.tick) s)).failedOf k = [] := by
    refine List.filter_eq_nil_iff.mpr fun e he => ?_
    rw [State.engine, hengines, ← State.engine, assignedAll_state he]
    split <;> decide
  have h2 := h.1
  unfold State.sparesLeft at h2
  rw [hspares] at h2
  exact absurd h2 (by decide)

theorem assignEngines_none_keeps {β : Type} {g : State → β} (hg : ∀ (t : State) p e, g { t with ports := p, engines := e } = g t)
    {s : State} (hlog : s.nvm.log = []) (hto : s.nvm.toLog = []) (k : Nat) : g (assignEngines k s) = g s := by
  have hport : ∀ u : State, g (forAll (span 0 16) (portAssigned k) u) = g u :=
    forAll_keeps g _ _ (fun i t => hg t (portAssigned k i t).ports t.engines)
  have hengine : ∀ (tick : Nat) (u : State), g (forAll (enginesOf k) (fun e t => assignedAt k e t tick) u) = g u :=
    fun tick => forAll_keeps g _ _ (fun e t => hg t t.ports (assignedAt k e t tick).engines)
  rw [assignEngines_none hlog hto, hport, hengine]

/-- Both halves of a port's converter are good (R397). -/
def bothHalves (p : Nat) (t : State) : State := t.modTrav p (fun x => { x with halves := 3 })

theorem bothHalves_port {k p : Nat} (hp : clusterOf p = k) (s : State) :
    ((forAll (portsOf k) bothHalves s).port p).trav.halves = 3 := by
  refine forAll_establishes (P := fun t => (t.port p).trav.halves = 3) (hp ▸ mem_portsOf p) (fun t => ?_) (fun y t ht => ?_) s
  · simp [bothHalves, State.modTrav]
  · by_cases hy : p = y
    · subst hy; simp [bothHalves, State.modTrav]
    · simpa only [bothHalves, State.modTrav, State.port_modPort_ne _ _ hy] using ht

theorem bothHalves_keeps {β : Type} {g : State → β} (hg : ∀ (t : State) p, g { t with ports := p } = g t) (k : Nat) (s : State) :
    g (forAll (portsOf k) bothHalves s) = g s :=
  forAll_keeps g _ _ (fun p t => hg t (bothHalves p t).ports) s

/-- The engine tests of a start-up check, where every test has its golden value (R395, R398). -/
def enginesChecked (c : ClusterCheck) (s : State) : State :=
  if s.enginesTestable then forAll (enginesOf c.cluster) (engineCheck c) s else s

theorem enginesChecked_keeps {β : Type} {g : State → β} (hg : ∀ (t : State) r e, g { t with regs := r, engines := e } = g t)
    {c : ClusterCheck} {s : State} (h : ∀ x ∈ c.runs, s.unitFails x = false) : g (enginesChecked c s) = g s := by
  unfold enginesChecked
  split
  · exact engineChecks_keeps hg _ s h
  · rfl

/-- A cluster whose check finds nothing comes into readiness (R397, R398). -/
theorem clusterCheck_clean {c : ClusterCheck} {s : State} (h : ∀ x ∈ c.runs, s.unitFails x = false) :
    clusterCheck c s = (assignEngines c.cluster (enginesChecked c (forAll (portsOf c.cluster) bothHalves s))).modCluster c.cluster
      (fun x => { x with state := 0, ready := true, linkOn := true }) := by
  have hfails : c.runs.filter s.unitFails = [] := List.filter_eq_nil_iff.mpr (fun x hx => by simp [h x hx])
  unfold clusterCheck
  rw [hfails]
  rfl

/-- The state of a device whose cluster's check finds nothing, before the cluster comes into readiness (R41, R397, R398). -/
def State.foundClean (s : State) (c : ClusterCheck) : State :=
  assignEngines c.cluster (enginesChecked c (forAll (portsOf c.cluster) bothHalves s))

theorem State.foundClean_keeps {β : Type} {g : State → β}
    (hg : ∀ (t : State) r p e, g { t with regs := r, ports := p, engines := e } = g t) {c : ClusterCheck} {s : State}
    (h : ∀ x ∈ c.runs, s.unitFails x = false) (hlog : s.nvm.log = []) (hto : s.nvm.toLog = []) : g (s.foundClean c) = g s := by
  have hd : (forAll (portsOf c.cluster) bothHalves s).doms = s.doms := bothHalves_keeps (g := State.doms) (fun _ _ => rfl) _ s
  have hpass : ∀ x ∈ c.runs, (forAll (portsOf c.cluster) bothHalves s).unitFails x = false :=
    fun x hx => (State.unitFails_congr hd x).trans (h x hx)
  have hn : (enginesChecked c (forAll (portsOf c.cluster) bothHalves s)).nvm = s.nvm :=
    (enginesChecked_keeps (g := State.nvm) (fun _ _ _ => rfl) hpass).trans (bothHalves_keeps (g := State.nvm) (fun _ _ => rfl) _ s)
  unfold State.foundClean
  rw [assignEngines_none_keeps (fun t p e => hg t t.regs p e) (by rw [hn]; exact hlog) (by rw [hn]; exact hto),
    enginesChecked_keeps (fun t r e => hg t r t.ports e) hpass, bothHalves_keeps (fun t p => hg t t.regs p t.engines)]

theorem portAssigned_halves (k i p : Nat) (t : State) : ((portAssigned k i t).port p).trav.halves = (t.port p).trav.halves := by
  unfold portAssigned
  by_cases h : p = 16 * k + i
  · subst h; rw [State.port_modPort]
  · rw [State.port_modPort_ne _ _ h]

/-- What a check that finds nothing has assigned (R41, R397). -/
theorem State.foundClean_assigned {c : ClusterCheck} {s : State}
    (h : ∀ x ∈ c.runs, s.unitFails x = false) (hlog : s.nvm.log = []) (hto : s.nvm.toLog = []) :
    (∀ p, clusterOf p = c.cluster → ((s.foundClean c).port p).trav.halves = 3) ∧
      (∀ e ∈ enginesOf c.cluster, ((s.foundClean c).engine e).state = if e % 18 < 16 then 0 else 1) := by
  have hd : (forAll (portsOf c.cluster) bothHalves s).doms = s.doms := bothHalves_keeps (g := State.doms) (fun _ _ => rfl) _ s
  have hpass : ∀ x ∈ c.runs, (forAll (portsOf c.cluster) bothHalves s).unitFails x = false :=
    fun x hx => (State.unitFails_congr hd x).trans (h x hx)
  have hn : (enginesChecked c (forAll (portsOf c.cluster) bothHalves s)).nvm = s.nvm :=
    (enginesChecked_keeps (g := State.nvm) (fun _ _ _ => rfl) hpass).trans (bothHalves_keeps (g := State.nvm) (fun _ _ => rfl) _ s)
  unfold State.foundClean
  rw [assignEngines_none (by rw [hn]; exact hlog) (by rw [hn]; exact hto)]
  generalize hu : enginesChecked c (forAll (portsOf c.cluster) bothHalves s) = u
  refine ⟨fun p hp => ?_, fun e he => ?_⟩
  · have h1 := forAll_keeps (fun t => (t.port p).trav.halves) (span 0 16) (portAssigned c.cluster)
      (fun i t => portAssigned_halves c.cluster i p t) (forAll (enginesOf c.cluster) (fun e t => assignedAt c.cluster e t u.time.tick) u)
    have h2 := forAll_keeps (fun t => (t.port p).trav.halves) (enginesOf c.cluster) (fun e t => assignedAt c.cluster e t u.time.tick)
      (fun _ _ => rfl) u
    have h3 : (u.port p).trav.halves = ((forAll (portsOf c.cluster) bothHalves s).port p).trav.halves := by
      rw [← hu]
      exact enginesChecked_keeps (g := fun t => (t.port p).trav.halves) (fun _ _ _ => rfl) hpass
    exact h1.trans (h2.trans (h3.trans (bothHalves_port hp s)))
  · have h1 : ∀ v : State, (forAll (span 0 16) (portAssigned c.cluster) v).engines = v.engines :=
      forAll_keeps State.engines _ _ (fun _ _ => rfl)
    rw [State.engine, h1, ← State.engine, assignedAll_state he]

/-- The start-up check of one cluster that heat has not shut down and whose rails have ended (R398, R449). -/
theorem startupCheck_one {c : ClusterCheck} {s : State} (hk : c.cluster < 9) (hst : s.power.started = false)
    (hf : s.faults.started = true) (h5 : (s.cluster c.cluster).state ≠ 5) (hr : s.railsPending c.cluster = false)
    (hc : c.cluster ∉ s.power.checked) : startupCheck [c] s =
      let u := (clusterCheck c s).modPower (fun x => { x with checked := addTo c.cluster (clusterCheck c s).power.checked })
      if (addTo c.cluster (clusterCheck c s).power.checked).length = 9 then
        { u with time := { u.time with starting := true, waitFrom := u.time.tick } } else u := by
  unfold startupCheck
  rw [if_neg (by simp [hst, hf])]
  unfold forAll List.foldl clusterChecked
  dsimp only [List.foldl]
  rw [if_neg (by simp [hr, hc]; omega), if_neg h5]

end Sys2Proof.Machine

/-! PROOFS. The statement about the tests of the whole device. -/

namespace Sys2Proof.Machine

/-- The loss of a cluster's link counts on that cluster alone (R38). -/
theorem clusterLinkLoss_reg {k : Nat} (hk : k < 9) (s : State) (cause : Nat) :
    (collect (clusterLost k cause ((s.bump Code.clinkLosses k).bumpBy Code.clinkFrameErrors k 4))).regWritten Code.clinkLosses k =
      some (min ((s.regN Code.clinkLosses k + 1 : Nat) : Int) (2 ^ 32 - 1)) := by
  have hk24 : k < 2 ^ 24 := by omega
  have hdown : ∀ (v : State), (v.clusterDown k cause).regWritten Code.clinkLosses k = v.regWritten Code.clinkLosses k := fun _ => rfl
  rw [collect_regWritten (by decide) hk24, clusterLost_eq, hdown, clusterGone_reg (by decide) hk24 (by decide),
    State.wakeClosed_keeps (g := fun t => t.regWritten Code.clinkLosses k) (fun _ _ => rfl),
    bumpBy_regWritten (objKey_ne (by decide) hk24 hk24), regWritten_bump]

/-- A cluster comes into readiness (R398). -/
def State.cameReady (v : State) (k : Nat) : State := v.modCluster k (fun x => { x with state := 0, ready := true, linkOn := true })

theorem State.cameReady_cluster (v : State) (k : Nat) :
    (v.cameReady k).cluster k = { v.cluster k with state := 0, ready := true, linkOn := true } := State.cluster_modCluster ..

theorem State.cameReady_cluster_ne {k j : Nat} (h : j ≠ k) (v : State) : (v.cameReady k).cluster j = v.cluster j :=
  State.cluster_setCluster_ne _ _ h

end Sys2Proof.Machine

namespace Sys2Proof.Proofs

open Machine

/-- Settles O30: the full test, the calibrations, the start-up check and the loss of a cluster's link. -/
theorem testsOfTheWholeDevice : Obligations.TestsOfTheWholeDevice := by
  refine ⟨fun q tid value s o hacc => ?start, fun rs s hs hst hpass => ?passes, fun e test words s hs hst he h1 h5 h4 hg => ?fails,
    fun k p f g s hs hk hp hst hh hf hg => ?converter, fun k rs again s hs hk hst hf h5 hr hc hlog hto hpass => ?startup,
    fun k s hs hk hl => ?link⟩
  case start =>
    obtain rfl := hacc.obj findObj_fullTest
    obtain ⟨t, ht, hh, honly, -⟩ := exec_accepted_onlyAnswered (i := .fullTest q tid value)
      (u := fullTestStart (s.setReg Code.fullTest 0 1)) rfl hacc (by cases q <;> rfl) rfl rfl
    have hf := honly.1
    exact ⟨t, ht, hh, (congrArg (fun x => x.test.fullState) hf :), (congrArg (fun x => x.test.fullAt) hf :),
      (congrArg (fun x => x.test.cells) hf :), (congrArg (fun x => x.test.buffers) hf :), (congrArg (fun x => x.test.contexts) hf :),
      (congrArg State.engines hf :), (congrArg State.ports hf :), (congrArg State.ctxs hf :), (congrArg State.cells hf :),
      (congrArg State.nvm hf :)⟩
  case passes =>
    obtain ⟨bad, he⟩ := fullTestComplete_eq (rs := rs) hst
    have hnone : rs.filter s.unitFails = [] := List.filter_eq_nil_iff.mpr (fun x hx => by simp [hpass x hx])
    have hkeep : ∀ {β : Type} (g : State → β), (∀ (t : State) r f h x m e c,
        g { t with regs := r, free := f, hold := h, faults := x, nvm := m, engines := e, clusters := c } = g t) →
        g (fullTestComplete rs s) = g (s.fullJudged rs bad) := by
      intro β g hg
      rw [he, hnone]
      exact forAll_keeps g _ _ (fun e t => fullPasses_keeps hg e t) _
    have htest := hkeep State.test (fun _ _ _ _ _ _ _ _ => rfl)
    rw [State.fullJudged_test, hnone] at htest
    refine ⟨_, run_running _ hs.1, ?_, ?_, ?_, ?_, ?_⟩
    · rw [collect_test, htest]; rfl
    · rw [collect_test, htest]
    · rw [collect_ctxs, hkeep State.ctxs (fun _ _ _ _ _ _ _ _ => rfl)]
      exact State.fullJudged_keeps (g := State.ctxs) (fun _ _ _ => rfl) s rs bad
    · rw [collect_cells, hkeep State.cells (fun _ _ _ _ _ _ _ _ => rfl)]
      exact State.fullJudged_keeps (g := State.cells) (fun _ _ _ => rfl) s rs bad
    · refine collect_count_unraised hs.2.1 ?_
      rw [he, hnone]
      exact (s.fullJudged_raises 11 rs bad).trans (.forAll (fun e t => fullPasses_raises (by decide) (by decide) e t) _ _)
  case fails =>
    obtain ⟨bad, hc⟩ := fullTestComplete_eq (rs := [{ test := test, unit := e, words := words }]) hst
    have hx : s.unitFails { test := test, unit := e, words := words } = true := by
      obtain ⟨g, hgold, hne⟩ := hg
      have hdie : dieOfUnit { test := test, unit := e, words := words } = 0 := if_pos (by change test < 0x20; omega)
      unfold State.unitFails
      rw [hdie, hgold]
      exact decide_eq_true (Ne.symm hne)
    have hfail : [{ test := test, unit := e, words := words }].filter s.unitFails = [{ test := test, unit := e, words := words }] := by
      rw [List.filter_cons_of_pos hx]; rfl
    have hrun : fullTestComplete [{ test := test, unit := e, words := words }] s =
        fullEngineFails e test (s.fullJudged [{ test := test, unit := e, words := words }] bad) := by
      rw [hc, hfail, enginesPassed_failing hx h5]
      exact if_pos ⟨h1, h5⟩
    have hen : (s.fullJudged [{ test := test, unit := e, words := words }] bad).engine e = s.engine e :=
      State.fullJudged_keeps (g := fun t => t.engine e) (fun _ _ _ => rfl) s _ bad
    obtain ⟨k1, k2, k3⟩ := fullEngineFails_counted (test := test) hs (s.fullJudged_raises 11 [{ test := test, unit := e, words := words }] bad) he
      (by rw [hen]; exact h4)
    refine ⟨_, run_running _ hs.1, ?_, ?_, ?_⟩
    · rw [hrun, collect_test, k2, State.fullJudged_test, hfail]; rfl
    · rw [hrun]; exact k1
    · rw [hrun]; exact k3
  case converter =>
    have hrun : atCluster k (converterCalibration k [{ port := p, half0 := f, half1 := g }]) s =
        fault 13 [p, 0] [(1, p), (1, 0)] (s.halfGone p 2) := by
      rw [atCluster, if_pos hk, converterCalibration_first hp hst hh ((halfBad_iff f).mpr hf) (by simpa [← halfBad_iff] using hg)]
    have hdue : (fault 13 [p, 0] [(1, p), (1, 0)] (s.halfGone p 2)).faults.due = [{ source := 13, key := [p, 0], detail := [(1, p), (1, 0)] }] := by
      change (s.halfGone p 2).faults.due ++ _ = _
      rw [State.halfGone_keeps (g := fun t => t.faults.due) (fun _ _ _ => rfl), hs.2.1]
      rfl
    have hfport : ∀ v : State, (fault 13 [p, 0] [(1, p), (1, 0)] v).port p = v.port p := fun _ => rfl
    have hfen : ∀ v : State, (fault 13 [p, 0] [(1, p), (1, 0)] v).engines = v.engines := fun _ => rfl
    have hfcount : ∀ v : State, (fault 13 [p, 0] [(1, p), (1, 0)] v).faultCount 13 = v.faultCount 13 := fun _ => rfl
    refine ⟨_, (run_running _ hs.1).trans (by rw [hrun]), ?_, ?_, ?_⟩
    · rw [collect_port_trav, hfport, State.halfGone_halves]
    · rw [collect_count_one hdue rfl, if_pos rfl, hfcount, State.halfGone_keeps (g := fun t => t.faultCount 13) (fun _ _ _ => rfl)]
    · rw [collect_engines, hfen, State.halfGone_keeps (g := State.engines) (fun _ _ _ => rfl)]
  case startup =>
    obtain ⟨hhalves, hengines⟩ := State.foundClean_assigned (c := { cluster := k, runs := rs, again := again }) hpass hlog hto
    have hkeep := fun {β : Type} (g : State → β) hg => State.foundClean_keeps (g := g) hg (c := { cluster := k, runs := rs, again := again })
      hpass hlog hto
    generalize hv : s.foundClean { cluster := k, runs := rs, again := again } = v at hhalves hengines hkeep
    have hcheck : clusterCheck { cluster := k, runs := rs, again := again } s = v.cameReady k := by
      rw [← hv]
      exact clusterCheck_clean hpass
    have hrun := startupCheck_one (c := { cluster := k, runs := rs, again := again }) hk hst hf h5 hr hc
    have hpower : (v.cameReady k).power = s.power := hkeep State.power (fun _ _ _ _ => rfl)
    have hcl : ∀ j, v.cluster j = s.cluster j := fun j => hkeep (fun t => t.cluster j) (fun _ _ _ _ => rfl)
    have hfaults : v.faults = s.faults := hkeep State.faults (fun _ _ _ _ => rfl)
    dsimp only at hrun
    rw [hcheck, hpower] at hrun
    obtain ⟨w, hw, hwc, hwp, hwe, hwf, hwpow, hstart⟩ : ∃ w : State, startupCheck [{ cluster := k, runs := rs, again := again }] s = w ∧
        w.clusters = (v.cameReady k).clusters ∧ w.ports = v.ports ∧ w.engines = v.engines ∧ w.faults = v.faults ∧
        w.power.checked = addTo k s.power.checked ∧ (s.power.checked.length = 8 → w.time.starting = true) := by
      refine ⟨_, hrun, ?_⟩
      have hlen : (addTo k s.power.checked).length = s.power.checked.length + 1 := by simp [addTo, hc]
      split
      · exact ⟨rfl, rfl, rfl, rfl, rfl, fun _ => rfl⟩
      · exact ⟨rfl, rfl, rfl, rfl, rfl, fun _ => by omega⟩
    have hcluster : ∀ j, w.cluster j = (v.cameReady k).cluster j := fun j => congrArg (fun c => Tab.get c j ({} : ClusterSt)) hwc
    refine ⟨w, (run_quiet hs (by rw [hw, hwf, hfaults])).trans (by rw [hw]), ?_, ?_, ?_, hwpow, hstart, fun p hp => ?_, fun e he => ?_, fun j hj => ?_⟩
    · rw [hcluster, State.cameReady_cluster]
    · rw [hcluster, State.cameReady_cluster]
    · rw [hcluster, State.cameReady_cluster]
    · rw [State.port, hwp, ← State.port]; exact hhalves p hp
    · rw [State.engine, hwe, ← State.engine]; exact hengines e he
    · rw [hcluster, State.cameReady_cluster_ne hj, hcl]
  case link =>
    have hl : s.linkRuns k = true := hl
    have hrun : atCluster k (clusterLinkLoss k) s = clusterLost k 1 ((s.bump Code.clinkLosses k).bumpBy Code.clinkFrameErrors k 4) := by
      rw [atCluster, if_pos hk, clusterLinkLoss, if_pos hl]
    have hb : ∀ {β : Type} (g : State → β), (∀ (t : State) r, g { t with regs := r } = g t) →
        g ((s.bump Code.clinkLosses k).bumpBy Code.clinkFrameErrors k 4) = g s :=
      fun g hg => (State.bumpBy_keeps hg _ _ _ _).trans (State.bumpBy_keeps hg _ _ _ 1)
    obtain ⟨k1, -, k3, k4, -⟩ := clusterLost_collected hs (hb State.faults (fun _ _ => rfl)) (hb State.aon (fun _ _ => rfl))
      (hb State.clusters (fun _ _ => rfl)) k 1
    exact ⟨_, (run_running _ hs.1).trans (by rw [hrun]), k1, reg_of_written (clusterLinkLoss_reg hk s 1), k3, k4⟩

end Sys2Proof.Proofs

/-! PROOFS. Statements about port settings and counters that a selector of no port refutes. -/

namespace Sys2Proof.Machine

/-! ## A path that selects no port -/

/-- The port number whose selected value of an object shares its key in the value table with link A's FRAMES_IN: no check of a request
looks at the range of a port selector (R340, R341). -/
def farPort (code : Nat) : Nat := (Code.framesIn - code) * 2 ^ 24

/-- Link A's path with the selector of that port, in a controller that serves. -/
def farState (code : Nat) : State :=
  { State.reset with mgmt := { State.reset.mgmt with
      mcReset := false, oxlA := { State.reset.mgmt.oxlA with selPort := farPort code, selDrop := 1 } } }

/-- An outcome shows another value of an object than one that every next state shows. -/
theorem valueAfter_ne {o : Host.Outcome State Fault Refusal} {code inst : Nat} {a b : Int} (h : valueAfter o code inst = some a)
    {t : State} (ht : o = .next t) (hb : t.reg code inst = b) : a = b := by
  subst ht
  exact (Option.some.inj h).symm.trans hb

/-! ## Roll call -/

/-- The row of ROLL_CALL (R204). -/
def rollCallRow : Obj := ⟨Code.rollCall, .u8, .rwp, .port, 0, 1, 0⟩

theorem farState_acceptsRollCall : (farState Code.rollCall).Accepts .oxlA Code.rollCall 1 rollCallRow 1 := by decide +kernel

theorem farState_rollCall :
    valueAfter (exec (.rollCall .oxlA 0 1) (farState Code.rollCall)) Code.rollCall (farPort Code.rollCall) = some 2 := by
  decide +kernel

/-! ## Ranges of cells -/

/-- The row of CELL_ALLOC_A (R248). -/
def cellAllocARow : Obj := ⟨Code.cellAllocA, .u64, .rwp, .port, 0, 18446744073709551615, 0⟩

theorem farState_acceptsCellAllocA : (farState Code.cellAllocA).Accepts .oxlA Code.cellAllocA 0 cellAllocARow 0 := by decide +kernel

theorem farState_cellAllocA :
    valueAfter (exec (.cellAllocA .oxlA 0 0) (farState Code.cellAllocA)) Code.cellAllocA (farPort Code.cellAllocA) = some 1 := by
  decide +kernel

/-! ## Port modes -/

/-- The row of PORT_MODE (R370). -/
def portModeRow : Obj := ⟨Code.portMode, .u8, .rwp, .port, 0, 2, 0⟩

theorem farState_acceptsPortMode : (farState Code.portMode).Accepts .oxlA Code.portMode 1 portModeRow 1 := by decide +kernel

theorem farState_portMode :
    valueAfter (exec (.portMode .oxlA 0 1) (farState Code.portMode)) Code.portMode (farPort Code.portMode) = some 2 := by
  decide +kernel

/-! ## Levelling -/

/-- The row of RELEVEL (R206). -/
def relevelRow : Obj := ⟨Code.relevel, .bool, .wo, .drop, 0, 1, 0⟩

/-- An active drop on the port whose LEVEL_RUNS shares its key. -/
def farDrop : State :=
  { farState Code.levelRuns with ctxs := [(dropKey (farPort Code.levelRuns) 1, { ({} : Ctx) with state := 2, maxBaud := 0 })] }

theorem farDrop_acceptsRelevel : farDrop.Accepts .oxlA Code.relevel 1 relevelRow 1 := by decide +kernel

theorem farDrop_relevel :
    valueAfter (exec (.relevel .oxlA 0 1) farDrop) Code.levelRuns (farPort Code.levelRuns) = some 2 := by decide +kernel

/-! ## Twins -/

/-- The row of TWIN_ENABLE (R371). -/
def twinEnableRow : Obj := ⟨Code.twinEnable, .bool, .rwp, .port, 0, 1, 0⟩

/-- Port 0 and the port whose TWIN_ENABLE shares its key, two branch ports of different clusters, each the other's partner. -/
def farTwin : State :=
  { farState Code.twinEnable with
    regs := [(objKey Code.twinPartner (farPort Code.twinEnable), 0), (objKey Code.twinPartner 0, farPort Code.twinEnable),
      (objKey Code.twinEnable 0, 1), (objKey Code.portMode (farPort Code.twinEnable), 1), (objKey Code.portMode 0, 1)]
    ports := [(0, { ({} : PortSt) with mode := 1 }), (farPort Code.twinEnable, { ({} : PortSt) with mode := 1 })] }

theorem farTwin_acceptsTwinEnable : farTwin.Accepts .oxlA Code.twinEnable 1 twinEnableRow 1 := by decide +kernel

theorem farTwin_twinEnable :
    valueAfter (exec (.twinEnable .oxlA 0 1) farTwin) Code.twinEnable (farPort Code.twinEnable) = some 2 := by decide +kernel

/-! ## Calibrations -/

/-- The row of LEAD_IN_CAL (R232). -/
def leadInCalRow : Obj := ⟨Code.leadInCal, .bool, .wo, .port, 0, 1, 0⟩

/-- A branch port whose CAL_RESULT shares its key, with its traverse enabled. -/
def farTraverse : State :=
  { farState Code.calResult with
    regs := [(objKey Code.travEnable (farPort Code.calResult), 1)]
    ports := [(farPort Code.calResult, { ({} : PortSt) with mode := 1 })] }

theorem farTraverse_acceptsLeadInCal : farTraverse.Accepts .oxlA Code.leadInCal 1 leadInCalRow 1 := by decide +kernel

theorem farTraverse_leadInCal :
    valueAfter (exec (.leadInCal .oxlA 0 1) farTraverse) Code.calResult (farPort Code.calResult) = some 4 := by decide +kernel

end Sys2Proof.Machine

namespace Sys2Proof.Proofs

open Machine

/-- Refutes O47: the statement's first part speaks of every path, and on one of link A that selects the port whose ROLL_CALL and
link A's FRAMES_IN are one entry of the value table, the write of 1 is counted in it, and it reads 2. -/
theorem not_rollCallAdmitsDrops : ¬ Obligations.RollCallAdmitsDrops := by
  rintro ⟨h, -⟩
  obtain ⟨t, ht, -, hreg, -⟩ := h .oxlA 0 1 (farState Code.rollCall) rollCallRow farState_acceptsRollCall
  exact absurd (valueAfter_ne farState_rollCall ht hreg) (by decide)

/-- Refutes O60: a write of 0 to CELL_ALLOC_A over link A, of the port whose CELL_ALLOC_A and link A's FRAMES_IN are one entry of
the value table, reads 1 behind its frame. -/
theorem not_cellsAreLaidOutAndWatched : ¬ Obligations.CellsAreLaidOutAndWatched := by
  rintro ⟨h, -⟩
  obtain ⟨t, ht, hreg, -⟩ := h _ .oxlA 0 0 false (farState Code.cellAllocA) cellAllocARow 0 (.inl ⟨rfl, rfl, farState_acceptsCellAllocA⟩)
  exact absurd (valueAfter_ne farState_cellAllocA ht hreg) (by decide)

/-- Refutes O51: a write of 1 to PORT_MODE over link A, of the port whose PORT_MODE and link A's FRAMES_IN are one entry of the
value table, reads 2 behind its frame. -/
theorem not_trunksAreTrained : ¬ Obligations.TrunksAreTrained := by
  rintro ⟨h, -⟩
  obtain ⟨t, ht, -, hreg, -⟩ := h .oxlA 0 1 (farState Code.portMode) portModeRow 1 farState_acceptsPortMode
  exact absurd (valueAfter_ne farState_portMode ht hreg) (by decide)

/-- Refutes O48: a RELEVEL over link A, of a drop of the port whose LEVEL_RUNS and link A's FRAMES_IN are one entry of the value
table, counts two there: the run and the frame. -/
theorem not_levellingSoundsAndSwitches : ¬ Obligations.LevellingSoundsAndSwitches := by
  rintro ⟨h, -⟩
  obtain ⟨t, ht, -, hreg, -⟩ := h .oxlA 0 1 (farPort Code.levelRuns) 1 256 farDrop relevelRow farDrop_acceptsRelevel rfl rfl
    (by decide) (by decide +kernel) (by decide +kernel) (by decide +kernel) (fun r hr => by cases hr)
  exact absurd ((valueAfter_ne farDrop_relevel ht hreg).trans (show _ = (1 : Int) by decide +kernel)) (by decide)

/-- Refutes O50: a write of 1 to TWIN_ENABLE over link A, of the port whose TWIN_ENABLE and link A's FRAMES_IN are one entry of the
value table, reads 2 behind its frame. -/
theorem not_twinsCarryEachOthersDrops : ¬ Obligations.TwinsCarryEachOthersDrops := by
  rintro ⟨h, -⟩
  obtain ⟨t, ht, -, hreg, -⟩ := h .oxlA 0 1 (farPort Code.twinEnable) 0 farTwin twinEnableRow farTwin_acceptsTwinEnable rfl
    (by decide) (by decide +kernel) (by decide +kernel)
  exact absurd (valueAfter_ne farTwin_twinEnable ht hreg) (by decide)

/-- Refutes O59: a LEAD_IN_CAL over link A, of the port whose CAL_RESULT and link A's FRAMES_IN are one entry of the value table,
leaves 4 there: the state 3 of a calibration under way, and the frame. -/
theorem not_tracesAreScaledAndDcIsMeasured : ¬ Obligations.TracesAreScaledAndDcIsMeasured := by
  rintro ⟨-, -, h, -⟩
  obtain ⟨t, ht, -, hreg, -⟩ := h _ .oxlA 0 1 .leadIn farTraverse leadInCalRow (.inl ⟨rfl, farTraverse_acceptsLeadInCal, rfl⟩)
  exact absurd (valueAfter_ne farTraverse_leadInCal ht hreg) (by decide)

end Sys2Proof.Proofs

/-! PROOFS. Dormant, which a cluster kept down by heat refutes, and the archive, whose recovery of no record leaves a counter alone. -/

namespace Sys2Proof.Machine

/-! ## A cluster that heat keeps down -/

/-- Cluster 0 asked to enter Dormant, in service and marked as kept down by heat, with its rails on. -/
def stuckEntry : State :=
  { State.reset with
    clusters := [(0, { ({} : ClusterSt) with entering := true, heatStuck := true })]
    power := { State.reset.power with on := [(4, true), (13, true)] } }

/-- Whether a cluster is still to enter Dormant behind a command. -/
def enteringAfter (o : Host.Outcome State Fault Refusal) (k : Nat) : Bool :=
  match o with
  | .next t => (t.cluster k).entering
  | _ => false

theorem stuckEntry_stays : enteringAfter (exec (.dormantEntry 0 []) stuckEntry) 0 = true := by decide +kernel

/-! ## A drive on which nothing is recovered -/

/-- Where no block begins with a record's magic, a scan adopts nothing and is torn nowhere (R287). -/
theorem scanArea_none {d : Tab (List Byte)} (h : ∀ b, hasRecord d b = false) (start len nextRec : Nat) (ring : Bool) (fuel pos last : Nat) :
    scanArea d start len nextRec ring fuel pos last = ([], false) := by
  have hrec : ∀ b, recordAt d b = none := fun b => if_neg (by simp [h b])
  induction fuel generalizing ring pos with
  | zero => rfl
  | succ fuel ih =>
    unfold scanArea
    simp only [hrec, h, Bool.and_false, ih, ite_self]

/-- A drive with a label and a journal block holds no record (R272, R280). -/
theorem hasRecord_two {a b : List Byte} {x : Label} {j : Journal} (ha : parseLabel a = some x) (hb : parseJournal b = some j) (k : Nat) :
    hasRecord [(0, a), (1029, b)] k = false := by
  have hla : leAt a 0 4 = 0x55424C42 := by
    unfold parseLabel at ha
    split at ha
    next h => exact h.1
    · cases ha
  have hlb : leAt b 0 4 = 0x55424A4E := by
    unfold parseJournal at hb
    split at hb
    next h => exact h.1
    · cases hb
  have hat : driveAt [(0, a), (1029, b)] k = if k = 0 then a else if k = 1029 then b else [] := by
    simp only [driveAt, Tab.get, Tab.find, eq_comm (a := k)]
    split
    · rfl
    split <;> rfl
  unfold hasRecord
  rw [hat, decide_eq_false_iff_not]
  split
  · rw [hla]; decide
  split
  · rw [hlb]; decide
  · decide

/-- What a bring-up finds on a drive (R273). -/
abbrev blocksFound (d : DriveInfo) : Tab (List Byte) := d.content.foldl (fun x e => Tab.put x e.1 e.2) []

/-- A drive that meets R267, with a label and a journal block. -/
def labelledDrive (a b : List Byte) : DriveInfo :=
  { linkGen := 4, linkWidth := 4, version := 0x10400, blockSize := 4096, metadata := 0, protection := false,
    queuePairs := 8, mqes := 1023, mdts := 131072, blocks := 488378646, content := [(0, a), (1029, b)] }

theorem labelledDrive_content (a b : List Byte) : blocksFound (labelledDrive a b) = [(0, a), (1029, b)] := rfl

theorem labelledDrive_gen (a b : List Byte) : (labelledDrive a b).linkGen ≠ 0 := by simp [labelledDrive]

theorem labelledDrive_width (a b : List Byte) : (labelledDrive a b).linkWidth ≠ 0 := by simp [labelledDrive]

theorem labelledDrive_meets (a b : List Byte) : driveMeets (labelledDrive a b) = true := by simp [driveMeets, labelledDrive]

theorem labelledDrive_label {a : List Byte} {x : Label} (h : parseLabel a = some x) (b : List Byte) :
    firstLabel (blocksFound (labelledDrive a b)) = some x := by
  have e : driveAt [(0, a), (1029, b)] 0 = a := rfl
  rw [labelledDrive_content, firstLabel, e, h, Option.some_or]

theorem labelledDrive_journal {b : List Byte} {j : Journal} (h : parseJournal b = some j) (a : List Byte) :
    newestJournal (blocksFound (labelledDrive a b)) = some (5, j) := by
  have h0 : journalSlot 0 = none := rfl
  have h5 : journalSlot 1029 = some 5 := rfl
  rw [labelledDrive_content, newestJournal, List.foldl_cons, List.foldl_cons, List.foldl_nil, h0, h5, h]

/-- A recovery that adopts nothing leaves every counter as it is (R6, R287). -/
theorem recoverArchive_none {s : State} (h : ∀ b, hasRecord s.arch.content b = false) (l : Label) (slot : Nat) (j : Journal) :
    (recoverArchive l slot j s).regs = s.regs ∧ (recoverArchive l slot j s).faults = s.faults := by
  unfold recoverArchive
  simp only [scanArea_none h]
  exact ⟨rfl, rfl⟩

/-- The state of a drive that has come up, before what it holds is taken up (R273). -/
def State.driveUp (s : State) (d : DriveInfo) : State :=
  (abandonArchive (s.modArch (fun a => { a with link := d.linkGen % 16 + d.linkWidth % 16 * 16 }))).modArch (fun a => { a with
    blocks := min d.blocks (2 ^ 32), driveOk := driveMeets d, content := blocksFound d, label := none, journal := none,
    records := [], snap := none, snapTime := 0, lastCommit := 0, permHead := 0,
    admin := [.identifyController, .identifyNamespace 1] ++ (if driveMeets d then queueSetup else []) })

@[simp] theorem State.driveUp_content (s : State) (d : DriveInfo) : (s.driveUp d).arch.content = blocksFound d := rfl

theorem abandonArchive_regs (s : State) : (abandonArchive s).regs = s.regs := by
  rw [abandonArchive, forAll_keeps State.regs]
  · rfl
  · exact fun p t => rfl

theorem abandonArchive_faults (s : State) : (abandonArchive s).faults = s.faults := by
  rw [abandonArchive, forAll_keeps State.faults]
  · rfl
  · exact fun p t => rfl

theorem State.modArch_regs (f : ArchSt → ArchSt) (s : State) : (s.modArch f).regs = s.regs := rfl

theorem State.modArch_faults (f : ArchSt → ArchSt) (s : State) : (s.modArch f).faults = s.faults := rfl

@[simp] theorem State.driveUp_regs (s : State) (d : DriveInfo) : (s.driveUp d).regs = s.regs := by
  rw [State.driveUp, State.modArch_regs, abandonArchive_regs, State.modArch_regs]

@[simp] theorem State.driveUp_faults (s : State) (d : DriveInfo) : (s.driveUp d).faults = s.faults := by
  rw [State.driveUp, State.modArch_faults, abandonArchive_faults, State.modArch_faults]

/-- The bring-up of a drive of this device with a commit on it is its recovery (R287). -/
theorem archiveBringUp_own {d : DriveInfo} {s : State} {x : Label} {slot : Nat} {j : Journal} (hst : s.arch.state = 1)
    (hg : d.linkGen ≠ 0) (hw : d.linkWidth ≠ 0) (hm : driveMeets d = true) (hx : firstLabel (blocksFound d) = some x)
    (hid : x.deviceId = Config.serial) (hj : newestJournal (blocksFound d) = some (slot, j)) :
    archiveBringUp d s = recoverArchive x slot j (s.driveUp d) := by
  unfold archiveBringUp
  simp only [hst, true_or, if_true, hg, hw, or_self, if_false, hm, Bool.true_eq_false, hx, hid, ne_eq, not_true_eq_false, hj]
  simp only [State.driveUp, hm, if_true]

/-- An archive that waits for its drive, with a counter of recovered records that no count has left (R6). -/
def lostCount : State :=
  { State.reset with
    arch := { State.reset.arch with state := 1 }
    regs := [(objKey Code.recordsRecovered 0, -1)] }

end Sys2Proof.Machine

namespace Sys2Proof.Proofs

open Machine

/-- Refutes O36: the statement's DORMANT_ENTRY asks of a cluster in service no more than that its entry has been written, and one
that is also marked as kept down by heat does not enter. -/
theorem not_clustersEnterDormantAndWake : ¬ Obligations.ClustersEnterDormantAndWake := by
  rintro ⟨⟨-, -, -, h, -⟩, -⟩
  obtain ⟨t, ht, -, hent, -⟩ := h 0 [] stuckEntry (by decide +kernel) (by decide) (by decide +kernel) (by decide +kernel)
    (by decide +kernel) (by decide +kernel) (by decide +kernel) rfl
  have hstays := stuckEntry_stays
  rw [ht, enteringAfter, hent] at hstays
  exact absurd hstays (by decide)

/-- Refutes O55: where a bring-up recovers no record, nothing is counted, and RECORDS_RECOVERED stays what it reads, in a state
whose value table holds −1 for it too, which is no count of 0 more. -/
theorem not_theArchiveCommitsItsRecords : ¬ Obligations.TheArchiveCommitsItsRecords := by
  rintro ⟨h, -⟩
  obtain ⟨x, hx, hid⟩ := parseLabel_labelBytes (l := { lostCount.makeLabel 0 with deviceId := Config.serial }) Config.serialBits.isLt
  obtain ⟨j, hj⟩ := Option.isSome_iff_exists.mp (parseJournal_journalBytes lostCount.nextJournal)
  generalize labelBytes { lostCount.makeLabel 0 with deviceId := Config.serial } = a at hx
  generalize journalBytes lostCount.nextJournal = b at hj
  have hnorec : ∀ k, hasRecord (blocksFound (labelledDrive a b)) k = false := fun k => by rw [labelledDrive_content]; exact hasRecord_two hx hj k
  have hfirst : firstLabel (blocksFound (labelledDrive a b)) = some x := labelledDrive_label hx b
  have hnewest : newestJournal (blocksFound (labelledDrive a b)) = some (5, j) := labelledDrive_journal hj a
  have hready : lostCount.Ready := by decide +kernel
  obtain ⟨-, hup⟩ := h (labelledDrive a b) lostCount hready rfl
  obtain ⟨-, -, hown⟩ := hup (labelledDrive_gen a b) (labelledDrive_width a b)
  obtain ⟨-, -, hrec⟩ := hown x (labelledDrive_meets a b) hfirst
  obtain ⟨t, ht, -, -, -, -, -, -, -, -, -, -, hcount, -⟩ := hrec 5 j hid hnewest
  have hu := archiveBringUp_own (s := lostCount) rfl (labelledDrive_gen a b) (labelledDrive_width a b) (labelledDrive_meets a b) hfirst hid hnewest
  obtain ⟨hr, hf⟩ := recoverArchive_none (s := lostCount.driveUp (labelledDrive a b)) (by rw [State.driveUp_content]; exact hnorec) x 5 j
  have hrun : exec (.archiveBringUp (labelledDrive a b)) lostCount = .next (archiveBringUp (labelledDrive a b) lostCount) :=
    run_quiet hready (by rw [hu, hf, State.driveUp_faults])
  have hreg : t.reg Code.recordsRecovered 0 = -1 := by
    obtain rfl := Host.Outcome.next.inj (ht.symm.trans hrun)
    refine reg_of_written ?_
    rw [State.regWritten, hu, hr, State.driveUp_regs]
    rfl
  have hnone : ∀ st len n r f p l, (scanArea (blocksFound (labelledDrive a b)) st len n r f p l).1 = [] :=
    fun st len n r f p l => by rw [scanArea_none hnorec]
  rw [hreg] at hcount
  have hzero := hcount.trans (congrArg (fun n : Nat => min ((lostCount.regN Code.recordsRecovered 0 + n : Nat) : Int) (2 ^ 32 - 1))
    (show _ = 0 by simp only [hnone, List.length_nil]))
  exact absurd hzero (by decide +kernel)

end Sys2Proof.Proofs

/-! PROOFS. The device-scope resets (R417, R418, R442, R445, R446). -/

namespace Sys2Proof.Machine

/-! ## What a device-scope reset leaves -/

/-- The core die has started anew, with a cause (R345, R446). -/
def State.Anew (cause : Nat) (s t : State) : Prop :=
  t.regs = [] ∧ t.ports = [] ∧ t.ctxs = [] ∧ t.cells = {} ∧ t.engines = [] ∧ t.clusters = [] ∧ t.oxl = {} ∧ t.spi = {} ∧
    { t.mgmt with sentLast := none } = {} ∧ { t.faults with recheck := [] } = {} ∧
    t.faults.recheck = [18, 19, 22].filter (fun n => s.faults.recheck.contains n ||
      s.faults.held.any (fun r => r.source == n && r.present && !r.injected)) ∧ t.arch = {} ∧ t.time.time64 = 0 ∧ t.time.running = false ∧ t.time.tick = s.time.tick ∧
    t.resetCause = cause ∧ t.lc = s.lc ∧ t.currentSet = s.currentSet ∧ t.nvm.log = s.nvm.log

/-- The always-on domain is kept, and the reset counted (R445, R446). -/
def State.KeepsAon (s t : State) : Prop :=
  t.aon.faultLog = s.aon.faultLog ∧ t.aon.faultCounts = s.aon.faultCounts ∧ t.aon.capture = s.aon.capture ∧
    t.aon.caskA = s.aon.caskA ∧ t.aon.ledgers = s.aon.ledgers ∧ t.aon.rtc = s.aon.rtc ∧
    t.aon.resets = (if s.resetTogether = true then s.aon.resets else min (s.aon.resets + 1) (2 ^ 32 - 1))

theorem deviceReset_anew (cause : Nat) (s : State) : s.Anew (s.firstCause cause) (deviceReset cause s) :=
  ⟨rfl, rfl, rfl, rfl, rfl, rfl, rfl, rfl, rfl, rfl, rfl, rfl, rfl, rfl, rfl, rfl, rfl, rfl, rfl⟩

theorem resetCounted_keeps {s t : State} (h : t.aon = s.resetCounted) : s.KeepsAon t := by
  unfold State.KeepsAon
  rw [h]
  unfold State.resetCounted
  split <;> exact ⟨rfl, rfl, rfl, rfl, rfl, rfl, rfl⟩

/-- The note of the inputs at a loss changes nothing that a reset keeps but the note itself (R74). -/
theorem noteLoss_keeps {s t : State} (h : t.aon = (noteLoss s).resetCounted) : s.KeepsAon t :=
  resetCounted_keeps (s := noteLoss s) h

/-- Of resets of one moment a power-on reset comes first (R445). -/
theorem State.firstCause_power (s : State) : s.firstCause 1 = 1 := by
  unfold State.firstCause
  rw [if_neg]
  rw [show causeRank 1 = 0 from rfl]
  simp

theorem State.firstCause_alone {s : State} (h : s.resetTogether = false) (cause : Nat) : s.firstCause cause = cause := by
  simp [State.firstCause, h]

/-- Nothing is to be collected behind a device-scope reset. -/
theorem collect_reset {t : State} {rs : List Nat} (h : t.faults = { recheck := rs }) : collect t = t :=
  collect_nil (by rw [h]) (by rw [h]) (by rw [h])

theorem State.Anew.collected {cause : Nat} {s t : State} (h : s.Anew cause t) : collect t = t := by
  obtain ⟨-, -, -, -, -, -, -, -, -, hf, -⟩ := h
  have hf' : { t.faults with recheck := [] } = ({} : FaultSt) := hf
  exact collect_nil (congrArg FaultSt.due hf') (congrArg FaultSt.injectNext hf') (congrArg FaultSt.ackedNow hf')

/-! ## RESET_CMD -/

/-- The row of RESET_CMD (R362). -/
def resetCmdRow : Obj := ⟨0x103001, .u8, .wo, .device, 1, 2, 0⟩

theorem findObj_resetCmd : findObj Code.resetCmd = some resetCmdRow := by decide +kernel

/-- A write of RESET_CMD has no effect of its own before its response (R363). -/
theorem hostWrite_resetCmd {q : Path} {inst master : Nat} {v : Int} {s : State} :
    hostWrite q resetCmdRow Code.resetCmd inst v master s = s := by
  simp [hostWrite, resetCmdRow, deviceCommand, Code.resetCmd]

/-- An accepted write of RESET_CMD executes as no change, before the reset that its answer starts (R363). -/
theorem execute_resetCmd {q : Path} {s : State} {o : Obj} {n : Nat} {v : Int} (h : s.Accepts q Code.resetCmd n o v) (tid : Nat) :
    execute q (writeReq tid Code.resetCmd n) (s.arrived q) =
      (.ok (addressBytes (Code.resetCmd / 256) (Code.resetCmd % 256) 0), s.arrived q) := by
  obtain rfl := h.obj findObj_resetCmd
  obtain ⟨-, ho, hcode, hsel, hv, hr⟩ := h
  have ho' : (s.arrived q).checkObject (writeReq tid Code.resetCmd n) = .ok resetCmdRow := (checkObject_congr (by simp) _).trans ho
  rw [execute_writeReq ho' hcode, State.arrived_instOf,
    writeScalar_accepted (by decide) hsel (r := writeReq tid Code.resetCmd n) hv hr, hostWrite_resetCmd]
  rfl

/-- The answer that goes out before a reset by RESET_CMD (R363). -/
def State.resetAnswered (s : State) (q : Path) (tid n : Nat) : State :=
  answer q (writeReq tid Code.resetCmd n) (.ok (addressBytes (Code.resetCmd / 256) (Code.resetCmd % 256) 0)) (s.arrived q)

theorem resetCmd_address (tid n : Nat) :
    addressCode (writeReq tid Code.resetCmd n).index (writeReq tid Code.resetCmd n).sub = Code.resetCmd := by
  show addressCode (Code.resetCmd / 256) (Code.resetCmd % 256) = Code.resetCmd
  decide

theorem resetCommand_two (q : Path) (tid : Nat) (t : State) :
    resetCommand q (writeReq tid Code.resetCmd 2) (.ok (addressBytes (Code.resetCmd / 256) (Code.resetCmd % 256) 0)) t =
      commandedReset q (writeDone tid Code.resetCmd) t := by
  rw [resetCommand]
  rw [if_pos ⟨rfl, resetCmd_address tid 2⟩, responseBytes_writeReq]
  exact if_neg (show ¬ (2 = 1) by decide)

theorem requestResets_two {q : Path} {s : State} {tid : Nat} (hmc : s.mgmt.mcReset = false)
    (hok : (execute q (writeReq tid Code.resetCmd 2) s).1.isOk = true) : requestResets q (writeReq tid Code.resetCmd 2) s = true := by
  rw [requestResets, hok, hmc, resetCmd_address]
  simp [writeReq]

/-- RESET_CMD 2 resets the device behind its response, and no frame is counted over the reset (R363). -/
theorem run_resetCmd_device {q : Path} {s : State} {o : Obj} {v : Int} (h : s.Accepts q Code.resetCmd 2 o v) (tid : Nat) :
    run (writeRequest q tid Code.resetCmd 2) s =
      .next (collect (commandedReset q (writeDone tid Code.resetCmd) (s.resetAnswered q tid 2))) := by
  have hx := execute_resetCmd h tid
  obtain ⟨⟨⟨hcore, -⟩, hmc, hw, hb⟩, -⟩ := h
  have hserve : serve q (writeReq tid Code.resetCmd 2) (s.arrived q) =
      commandedReset q (writeDone tid Code.resetCmd) (s.resetAnswered q tid 2) := by
    rw [serve, hx, linkGone_of_oxl rfl]
    exact resetCommand_two q tid _
  have hreq : request q (writeReq tid Code.resetCmd 2) s = serve q (writeReq tid Code.resetCmd 2) (s.arrived q) := by
    cases q with
    | spi => simp [request, linkOfPath, admitRequest, State.arrived, hb, hmc]
    | oxlA =>
      have hok : (execute .oxlA (writeReq tid Code.resetCmd 2) s).1.isOk = true := congrArg (fun x => x.1.isOk) hx
      simp [request, linkOfPath, admitRequest, State.arrived, hmc, hw, requestResets_two hmc hok]
    | oxlB =>
      have hok : (execute .oxlB (writeReq tid Code.resetCmd 2) s).1.isOk = true := congrArg (fun x => x.1.isOk) hx
      simp [request, linkOfPath, admitRequest, State.arrived, hmc, hw, requestResets_two hmc hok]
  rw [run_running _ hcore, ← hserve, ← hreq]
  rfl

/-- What a reset by RESET_CMD 2 starts from is what was there but for the answer. -/
theorem resetAnswered_same (s : State) (q : Path) (tid n : Nat) :
    (s.resetAnswered q tid n).aon = s.aon ∧ (s.resetAnswered q tid n).time = s.time ∧ (s.resetAnswered q tid n).nvm = s.nvm ∧
      (s.resetAnswered q tid n).lc = s.lc ∧ (s.resetAnswered q tid n).resetCause = s.resetCause ∧
      (s.resetAnswered q tid n).faults = s.faults := by
  cases q <;> exact ⟨rfl, rfl, rfl, rfl, rfl, rfl⟩

theorem commandedReset_anew {s u : State} {q : Path} {bytes : List Byte} (ht : u.time = s.time) (hn : u.nvm = s.nvm)
    (hl : u.lc = s.lc) (hc : u.resetCause = s.resetCause) (hf : u.faults = s.faults) :
    s.Anew (s.firstCause 5) (commandedReset q bytes u) := by
  have hcause : u.firstCause 5 = s.firstCause 5 := by
    unfold State.firstCause State.resetTogether
    rw [ht, hc]
  have hset : u.currentSet = s.currentSet := by simp only [State.currentSet, hn]
  obtain ⟨h1, h2, h3, h4, h5, h6, h7, h8, h9, h10, h11, h12, h13, h14, h15, h16, h17, h18, h19⟩ := deviceReset_anew 5 (noteLoss u)
  exact ⟨h1, h2, h3, h4, h5, h6, h7, h8, h9, h10, hf ▸ h11, h12, h13, h14, h15.trans (congrArg TimeSt.tick ht), h16.trans hcause,
    h17.trans hl, h18.trans hset, h19.trans (congrArg NvmSt.log hn)⟩

/-! ## Heat -/

/-- Requests for VDD_CORE and then VDD_SRAM on an idle bus stand in that order (R434, R442). -/
theorem pmOn_core_sram {s : State} (h : s.power.queue = []) :
    pmOn 1 1 none (pmOn 0 1 none s) =
      { s with power := { s.power with queue := s.onBus [pmReq 0 0x01 0x80 1 none, pmReq 1 0x01 0x80 1 none] } } := by
  have h0 : pmOn 0 1 none s = { s with power := { s.power with queue := s.onBus [pmReq 0 0x01 0x80 1 none] } } := by
    simp only [pmOn, queuePm, latchHead, State.modPower, h]
    rfl
  rw [h0]
  simp only [pmOn, queuePm, latchHead, State.modPower, State.onBus, State.pmBegun, pmReq, insertBy, Nat.zero_le, decide_true,
    Option.isNone_none, Bool.and_true, if_true, Option.isNone_some, Bool.false_eq_true, if_false, cmdOperation]

/-- VDD_SRAM is on with its acknowledged request; while the core die is shut down nothing follows it but the step of a wake
(R429, R433, R442). -/
theorem pmDone_sram {v : State} {r : PmReq} (w : Nat) (hd : v.heat.coreDown = true) (hr : r.rail = 1) (hcmd : r.cmd = 0x01)
    (hdata : r.data = 0x80) : ∃ cs : Tab ClusterSt,
    pmDone r w v = { v with power := { v.power with on := Tab.put v.power.on 1 true }, clusters := cs } := by
  unfold pmDone
  simp only [hr, hcmd, hdata, cmdOperation, if_true, decide_true, show dieOfRail 1 = none from rfl]
  cases r.wakeOf with
  | some k => exact ⟨_, rfl⟩
  | none => exact ⟨v.clusters, by rw [hd, Bool.not_true, Bool.and_false]; rfl⟩

/-- Behind the acknowledged request for VDD_SRAM of a core die that heat has shut down, the device starts as after a power-on reset
(R442). -/
theorem restart_completes {s : State} {r : PmReq} {w : Nat} (hd : s.heat.coreDown = true) (hrs : s.heat.restarting = true)
    (hq : s.power.queue = [r]) (hr : r.rail = 1) (hcmd : r.cmd = 0x01) (hdata : r.data = 0x80) (hw : r.waiting = false)
    (hc : r.clear = true) (hnb : r.notBefore ≤ s.time.tick) (hon : s.railOn 0 = true) :
    ∃ (cs : Tab ClusterSt) (p : PowerSt), restartSettles (pmbusComplete (.ack w) s) = deviceReset 1 { s with power := p, clusters := cs } ∧
      Tab.get p.on 0 false = true ∧ Tab.get p.on 1 false = true := by
  have hdone : pmbusComplete (.ack w) s = pmDone r w { s with power := { s.power with queue := [] } } := by
    unfold pmbusComplete
    simp only [hq, hw, State.pmBegun, hnb, decide_true, Bool.true_eq_false, Bool.false_eq_true, or_self, if_false, hc, Bool.not_true,
      Bool.and_false]
    rfl
  obtain ⟨cs, hcs⟩ := pmDone_sram (v := { s with power := { s.power with queue := [] } }) w hd hr hcmd hdata
  have h0 : Tab.get (Tab.put s.power.on 1 true) 0 false = true := by rw [Tab.get_put_ne _ _ _ (by decide)]; exact hon
  have h1 : Tab.get (Tab.put s.power.on 1 true) 1 false = true := Tab.get_put_self ..
  refine ⟨cs, { s.power with queue := [], on := Tab.put s.power.on 1 true }, ?_, h0, h1⟩
  rw [hdone, hcs, restartSettles, if_neg (by simp [hrs])]
  exact if_pos (by rw [State.railOn, State.railOn, Bool.and_eq_true]; exact ⟨h0, h1⟩)

end Sys2Proof.Machine

namespace Sys2Proof.Proofs

open Machine

/-- Settles O33: a device-scope reset leaves the state after a reset, with what the always-on domain and the NVM hold. -/
theorem deviceResetsStartAnew : Obligations.DeviceResetsStartAnew := by
  unfold Obligations.DeviceResetsStartAnew
  refine ⟨fun s hs => ?_, fun s => ?_, fun s hs => ?_, fun q tid s o hacc => ?_, fun s hf hd hcold hres hq hdue => ?_,
    fun r w s hf hd hrs hq hr hcmd hdata hw hc hnb hon => ?_⟩
  · have ha : s.Anew 1 (powerOnReset s) := by
      rw [powerOnReset, if_neg (by simp [hs])]
      have h := deviceReset_anew 1 (noteLoss s)
      rw [State.firstCause_power] at h
      exact h
    refine ⟨_, rfl, ?_⟩
    rw [ha.collected]
    refine ⟨ha, ?_⟩
    rw [powerOnReset, if_neg (by simp [hs])]
    exact noteLoss_keeps rfl
  · have ha : s.Anew 1 (vddAonFall s) := by
      have h := deviceReset_anew 1 s
      rw [State.firstCause_power] at h
      exact h
    refine ⟨_, rfl, ?_⟩
    rw [ha.collected]
    exact ⟨ha, rfl, rfl⟩
  · obtain ⟨hcore, -⟩ := hs
    have he : resetN s = deviceReset 2 (noteLoss s) := if_neg (by simp [hcore])
    have ha : s.Anew (s.firstCause 2) (resetN s) := he ▸ deviceReset_anew 2 (noteLoss s)
    refine ⟨_, run_running _ hcore, ?_⟩
    rw [ha.collected]
    refine ⟨ha, he ▸ noteLoss_keeps rfl, fun h => ?_⟩
    obtain ⟨-, -, -, -, -, -, -, -, -, -, -, -, -, -, -, hcause, -⟩ := ha
    rw [hcause, State.firstCause_alone h]
  · obtain ⟨haon, ht, hn, hl, hc, hf⟩ := resetAnswered_same s q tid 2
    have ha := commandedReset_anew (q := q) (bytes := writeDone tid Code.resetCmd) ht hn hl hc hf
    refine ⟨_, run_resetCmd_device hacc tid, ?_⟩
    rw [ha.collected]
    refine ⟨ha, ?_, rfl, fun h => ?_⟩
    · have hk := noteLoss_keeps (s := s.resetAnswered q tid 2)
        (t := commandedReset q (writeDone tid Code.resetCmd) (s.resetAnswered q tid 2)) rfl
      unfold State.KeepsAon State.resetTogether at hk
      rw [haon, ht] at hk
      exact hk
    · obtain ⟨-, -, -, -, -, -, -, -, -, -, -, -, -, -, -, hcause, -⟩ := ha
      rw [hcause, State.firstCause_alone h]
  · have hrun : thermalRestart s = { s with
        heat := { s.heat with restarting := true }
        power := { s.power with queue := s.onBus [pmReq 0 0x01 0x80 1 none, pmReq 1 0x01 0x80 1 none] } } := by
      rw [thermalRestart, if_neg (by rw [tenSeconds]; omega), if_pos hd, if_neg (by simp [hres])]
      exact pmOn_core_sram (s := { s with heat := { s.heat with restarting := true } }) hq
    show runAon thermalRestart s = _
    rw [runAon, if_neg (by simp [hf]), if_pos hd, hrun]
    dsimp only
    rw [← hdue]
  · obtain ⟨cs, p, hu, h0, h1⟩ := restart_completes hd hrs hq hr hcmd hdata hw hc hnb hon (w := w)
    have he : exec (.pmbusRequestComplete (.ack w)) s = .next (deviceReset 1 { s with power := p, clusters := cs }) := by
      show runAon (fun t => restartSettles (pmbusComplete (.ack w) t)) s = _
      rw [runAon, if_neg (by simp [hf]), if_pos hd, hu]
      rfl
    have ha := deviceReset_anew 1 { s with power := p, clusters := cs }
    rw [State.firstCause_power] at ha
    exact ⟨_, he, ha, resetCounted_keeps rfl, rfl, h0, h1⟩

end Sys2Proof.Proofs

/-! PROOFS. The judgement of bursts, which a levelling that waits refutes. -/

namespace Sys2Proof.Machine

/-! ## Whitening undoes itself (R117) -/

theorem byteOf_byteBits (b : Byte) : byteOf ((byteBits b).foldl (fun a x => 2 * a + (if x then 1 else 0)) 0) = b := by
  revert b
  decide +kernel

theorem byteBits_byteOf (x0 x1 x2 x3 x4 x5 x6 x7 : Bool) :
    byteBits (byteOf ([x0, x1, x2, x3, x4, x5, x6, x7].foldl (fun a x => 2 * a + (if x then 1 else 0)) 0)) =
      [x0, x1, x2, x3, x4, x5, x6, x7] := by
  revert x0 x1 x2 x3 x4 x5 x6 x7
  decide +kernel

theorem bytesBits_length (bs : List Byte) : (bytesBits bs).length = 8 * bs.length := by
  induction bs with
  | nil => rfl
  | cons b bs ih =>
    rw [bytesBits, List.flatMap_cons, List.length_append, ← bytesBits, ih, List.length_cons]
    show 8 + 8 * bs.length = _
    omega

/-- The first byte that bits spell, and the bits behind it. -/
theorem bitsBytes_cons (n : Nat) (b : Byte) (bits : List Bool) : bitsBytes (n + 1) (byteBits b ++ bits) = b :: bitsBytes n bits := by
  have hlen : ¬ (byteBits b ++ bits).length < 8 := by simp [byteBits]
  rw [bitsBytes, if_neg hlen, show (byteBits b ++ bits).take 8 = byteBits b from List.take_left' rfl,
    show (byteBits b ++ bits).drop 8 = bits from List.drop_left' rfl, byteOf_byteBits]

theorem bitsBytes_bytesBits (bs : List Byte) : bitsBytes bs.length (bytesBits bs) = bs := by
  induction bs with
  | nil => rfl
  | cons b bs ih =>
    rw [bytesBits, List.flatMap_cons, ← bytesBits, List.length_cons, bitsBytes_cons, ih]

/-- Whole bytes of bits are the bits of bytes. -/
theorem exists_bytesBits (n : Nat) (bits : List Bool) (h : bits.length = 8 * n) : ∃ bs : List Byte, bs.length = n ∧ bytesBits bs = bits := by
  induction n generalizing bits with
  | zero => exact ⟨[], rfl, (List.length_eq_zero_iff.mp h).symm⟩
  | succ n ih =>
    match bits, h with
    | x0 :: x1 :: x2 :: x3 :: x4 :: x5 :: x6 :: x7 :: rest, h =>
      obtain ⟨bs, hn, hbs⟩ := ih rest (by simp only [List.length_cons] at h; omega)
      refine ⟨byteOf ([x0, x1, x2, x3, x4, x5, x6, x7].foldl (fun a x => 2 * a + (if x then 1 else 0)) 0) :: bs, by rw [List.length_cons, hn], ?_⟩
      rw [bytesBits, List.flatMap_cons, byteBits_byteOf, ← bytesBits, hbs]
      rfl

theorem whitenBits_length (st : BitVec 23) (bits : List Bool) : (whitenBits st bits).length = bits.length := by
  induction bits generalizing st with
  | nil => rfl
  | cons x xs ih => simp [whitenBits, ih]

theorem whitenBits_whitenBits (st : BitVec 23) (bits : List Bool) : whitenBits st (whitenBits st bits) = bits := by
  induction bits generalizing st with
  | nil => rfl
  | cons x xs ih => simp [whitenBits, ih]

/-- The whitened bytes spell the whitened bits. -/
theorem whiten_spec (seed : BitVec 23) (bs : List Byte) :
    (whiten seed bs).length = bs.length ∧ bytesBits (whiten seed bs) = whitenBits seed (bytesBits bs) := by
  obtain ⟨cs, hlen, hcs⟩ := exists_bytesBits bs.length (whitenBits seed (bytesBits bs)) (by rw [whitenBits_length, bytesBits_length])
  have h : whiten seed bs = cs := by rw [whiten, ← hcs, ← hlen, bitsBytes_bytesBits]
  rw [h]
  exact ⟨hlen, hcs⟩

theorem whiten_whiten (seed : BitVec 23) (bs : List Byte) : whiten seed (whiten seed bs) = bs := by
  obtain ⟨hlen, hbits⟩ := whiten_spec seed bs
  rw [whiten, hlen, hbits, whitenBits_whitenBits, bitsBytes_bytesBits]

/-! ## A burst that starts the levelling of another drop -/

/-- Drop 2's levelling, which has waited at the head of its port's, past the slowest baud. -/
def heldRun : LevelRun :=
  { drop := 2, atten := 0, baud := 7, mode := 0, length := 0, cycle := none, misses := 0, upSnr := none, held := true, results := [] }

/-- A header of a MAC frame of drop 1. -/
def macHeader : RxHeader := { typ := 1, drop := 1, epoch := 0, seq := 0, ack := 0, length := 64, flags := 0, bits := 0 }

/-- Port 0 at the end of that frame in drop 1's slot, with a LEVEL_REDO that every SNR lies below. -/
def tailState : State :=
  { State.reset with
    time := { State.reset.time with running := true, time64 := 50000, nextCycle := 100000, n := 10 }
    ports := [(0, { ({} : PortSt) with
      mode := 1, started := true, levels := [heldRun]
      latch := { ({} : PortSt).latch with d := 0, c := 0, t := 0 }
      rx := { ({} : PortSt).rx with state := .tail, span := .slot 1, header := some macHeader, mode := 0 } })]
    ctxs := [(1, { ({} : Ctx) with state := 2 })]
    regs := [(objKey Code.levelRedo 0, 100000)] }

def tailSeed : BitVec 23 := whitenSeed tailState.cycleNow macHeader.drop true

def tailPayload : List Byte := List.replicate 64 0

def tailCrc : List Byte := beBytes 4 (lineCrc macHeader.bits tailPayload).toNat

/-- The levels of that frame, 64 bytes of zeros with their CRC-32. -/
def tailLevels : List Nat := bodyLevels 0 (whiten tailSeed (tailPayload ++ tailCrc))

def quietMeasure : RxMeasure :=
  { acq := [], track := [], agcGain := 0, phase := 0, freqOffset := 0, slicerScale := 0, rxAmpl := 0, arrival := 0, tapErrors := 0, echo := [] }

theorem tail_clear (h : ∀ (mode : Nat) (bytes : List Byte), levelBytes mode bytes.length (bodyLevels mode bytes) = bytes) :
    whiten tailSeed (levelBytes 0 68 tailLevels) = tailPayload ++ tailCrc := by
  have hl := h 0 (whiten tailSeed (tailPayload ++ tailCrc))
  rw [(whiten_spec _ _).1, show (tailPayload ++ tailCrc).length = 68 from rfl] at hl
  rw [tailLevels, hl, whiten_whiten]

theorem tail_take : (tailPayload ++ tailCrc).take 64 = tailPayload := List.take_left' rfl

theorem tail_drop : (tailPayload ++ tailCrc).drop 64 = tailCrc := List.drop_left' rfl

/-- The frame decodes whole. -/
theorem tail_decodes (h : ∀ (mode : Nat) (bytes : List Byte), levelBytes mode bytes.length (bodyLevels mode bytes) = bytes) :
    decodeBody 0 tailSeed macHeader tailLevels = (tailPayload, true) := by
  unfold decodeBody
  dsimp only
  rw [show macHeader.length + 4 = 68 from rfl, show macHeader.length = 64 from rfl, tail_clear h, tail_take, tail_drop, ← tailCrc]
  exact congrArg (Prod.mk _) (decide_eq_true rfl)

/-- The equaliser fields behind that frame. -/
def tailFields : EqFields :=
  eqFields (tailState.port 0).latch.muAcq (tailState.port 0).latch.muTrk 0 ({} : Ctx).ffe ({} : Ctx).dfe tailLevels quietMeasure

/-- An SNR is a 16-bit value (R156). -/
theorem snrOf_le (scale levels : Nat) (q : EqRun) : snrOf scale levels q ≤ 65535 := by
  unfold snrOf
  split
  · omega
  · unfold clamp; omega

theorem eqFields_snrB_le (muAcq muTrk mode : Nat) (ffe dfe : List Int) (targets : List Nat) (m : RxMeasure) :
    (eqFields muAcq muTrk mode ffe dfe targets m).snrB ≤ 65535 := snrOf_le ..

/-- The state before the frame goes to the host. -/
def tailDecided : State :=
  (takeSeq 0 1 macHeader.seq (takeAck 0 1 macHeader (noteArrival 0 1 tailFields.arrival (heard 0 1 (writeBack 0 1 tailFields
    (countDrop 0 1 Code.portBurstsOk Code.dropBurstsOk (sramCorrectedBy (memCode .taps) 0 (heldTiming 0 tailFields tailState)))))))).1

/-- The state before the frame's drop is judged for a levelling anew. -/
def tailTaken : State := deliverUp 0 1 tailPayload tailDecided

theorem bufferWritten_ctxs (p : Nat) (s : State) : (bufferWritten p s).ctxs = s.ctxs := by
  unfold bufferWritten
  refine forAll_keeps State.ctxs _ _ (fun w t => ?_) s
  dsimp only
  split <;> rfl

theorem frameToHost_ctxs (p d epoch : Nat) (payload : List Byte) (s : State) : (frameToHost p d epoch payload s).ctxs = s.ctxs := by
  rw [frameToHost, bufferWritten_ctxs]
  exact forAll_keeps State.ctxs _ _ (fun l t => State.modLink_ctxs ..) s

theorem deliverUp_ctxs {p d : Nat} {payload : List Byte} {s : State} (h : ¬ s.upMax p d < payload.length) :
    (deliverUp p d payload s).ctxs = s.ctxs := by
  rw [deliverUp, if_neg h, frameToHost_ctxs]

@[simp] theorem State.ctx_bumpBy (s : State) (code inst n p d : Nat) : (s.bumpBy code inst n).ctx p d = s.ctx p d :=
  congrArg (fun c : Tab Ctx => Tab.get c (dropKey p d) {}) (State.bumpBy_ctxs s code inst n)

@[simp] theorem State.ctx_bump (s : State) (code inst p d : Nat) : (s.bump code inst).ctx p d = s.ctx p d := State.ctx_bumpBy ..

@[simp] theorem State.ctx_modPort (s : State) (q : Nat) (f : PortSt → PortSt) (p d : Nat) : (s.modPort q f).ctx p d = s.ctx p d := rfl

@[simp] theorem State.ctx_clearBad (s : State) (mem word n p d : Nat) : (clearBad mem word n s).ctx p d = s.ctx p d := rfl

/-- What a first frame in order leaves of its drop's SNR: its own (R156). -/
theorem taken_snr (p d seq : Nat) (a : Int) (h : RxHeader) (m : EqFields) (v : State) (hf : (v.ctx p d).snrFresh = true) :
    ((takeSeq p d seq (takeAck p d h (noteArrival p d a (heard p d (writeBack p d m v))))).1.ctx p d).snr = m.snrB := by
  have htake : ∀ u : State, ((takeSeq p d seq u).1.ctx p d).snr = (u.ctx p d).snr := fun u => by
    unfold takeSeq
    dsimp only
    split <;> simp
  have hack : ∀ u : State, ((takeAck p d h u).ctx p d).snr = (u.ctx p d).snr := fun u => by
    simp [takeAck, ackPoint]
  have hheard : ∀ u : State, ((heard p d u).ctx p d).snr = (u.ctx p d).snr := fun u => by
    simp only [heard, dropMsgs, State.ctx_modPort, State.ctx_modCtx]
    split <;> rfl
  rw [htake, hack, noteArrival, State.ctx_modCtx, hheard, writeBack, State.ctx_modCtx]
  rw [keepTaps, State.ctx_clearBad, State.ctx_modCtx]
  dsimp only
  rw [hf, if_pos rfl]

/-- The drop's SNR is the frame's: no frame before it has brought one (R156). -/
theorem tailTaken_snr : (tailTaken.ctx 0 1).snr = tailFields.snrB := by
  have hroom : ¬ tailDecided.upMax 0 1 < tailPayload.length := by decide +kernel
  rw [tailTaken, State.ctx, deliverUp_ctxs hroom]
  exact taken_snr 0 1 macHeader.seq tailFields.arrival macHeader tailFields _ (by decide +kernel)

theorem tail_low : marginAt (tailTaken.ctx 0 1).snr (tailTaken.ctx 0 1).mode < 8 * (tailTaken.regN Code.levelRedo 0 : Int) := by
  have hmode : (tailTaken.ctx 0 1).mode = 96 := by decide +kernel
  have hredo : tailTaken.regN Code.levelRedo 0 = 100000 := by decide +kernel
  have hsnr : tailFields.snrB ≤ 65535 := eqFields_snrB_le ..
  have href : refSnr (96 % 16) = 258 := by decide +kernel
  rw [tailTaken_snr, hmode, hredo, marginAt, href]
  omega

theorem takeSeq_fresh {p d seq : Nat} {v : State} (h : (takeSeq p d seq v).2 = true) : takeSeq p d seq v = ((takeSeq p d seq v).1, true) :=
  Prod.ext rfl h

/-- A MAC frame of the slot's drop whose epoch, format and room are right is good (R155). -/
theorem endInSlot_good {p d : Nat} {h : RxHeader} {payload : List Byte} {m : EqFields} {s : State} (he : h.epoch = (s.ctx p d).epoch)
    (hf : formatError h.typ payload = false) (hr : reservedCode h.typ payload = false) (hn : (s.port p).rx.noRoom = false) :
    endInSlot p d h payload m s = goodSlot p d h payload m s := by
  simp only [endInSlot, he, hf, hr, hn, ne_eq, not_true_eq_false, if_false, Bool.false_eq_true]

/-- A good MAC frame is taken and goes to the host; where its margin is low a levelling starts (R155, R200, R204). -/
theorem goodSlot_mac {p d : Nat} {h : RxHeader} {payload : List Byte} {m : EqFields} {s v : State} (ht : h.typ = 1)
    (hq : (s.port p).rx.eqReset = false)
    (hv : takeSeq p d h.seq (takeAck p d h (noteArrival p d m.arrival (heard p d (writeBack p d m
      (countDrop p d Code.portBurstsOk Code.dropBurstsOk s))))) = (v, true)) :
    goodSlot p d h payload m s =
      if marginAt ((rangingTrim p d (deliverUp p d payload v)).ctx p d).snr ((rangingTrim p d (deliverUp p d payload v)).ctx p d).mode <
          8 * ((rangingTrim p d (deliverUp p d payload v)).regN Code.levelRedo p : Int)
      then startDeferrable p d (rangingTrim p d (deliverUp p d payload v)) else rangingTrim p d (deliverUp p d payload v) := by
  have hq' : ((countDrop p d Code.portBurstsOk Code.dropBurstsOk s).port p).rx.eqReset = false := by
    rw [countDrop, State.port, State.bump_ports, State.bump_ports]
    exact hq
  have hw : writeBackIf p d h.typ m (countDrop p d Code.portBurstsOk Code.dropBurstsOk s) =
      writeBack p d m (countDrop p d Code.portBurstsOk Code.dropBurstsOk s) := by
    rw [writeBackIf, if_neg (by simp [ht, hq'])]
  rw [goodSlot, if_neg (by rw [ht]; decide)]
  dsimp only
  rw [hw, hv, if_pos (show h.typ = 1 ∨ h.typ = 2 from .inl ht), if_pos (show h.typ = 1 ∧ true = true from ⟨ht, rfl⟩)]

/-- The frame is good in its slot, and starts the levelling of its drop. -/
theorem tail_judged : endInSlot 0 1 macHeader tailPayload tailFields (sramCorrectedBy (memCode .taps) 0 (heldTiming 0 tailFields tailState)) =
    startDeferrable 0 1 tailTaken := by
  have hv : takeSeq 0 1 macHeader.seq (takeAck 0 1 macHeader (noteArrival 0 1 tailFields.arrival (heard 0 1 (writeBack 0 1 tailFields
      (countDrop 0 1 Code.portBurstsOk Code.dropBurstsOk (sramCorrectedBy (memCode .taps) 0 (heldTiming 0 tailFields tailState))))))) =
      (tailDecided, true) := by
    unfold tailDecided
    exact takeSeq_fresh (by decide +kernel)
  have htrim : rangingTrim 0 1 tailTaken = tailTaken := by
    rw [rangingTrim]
    exact if_pos (.inl (by decide +kernel))
  rw [endInSlot_good (by decide +kernel) (by decide +kernel) (by decide +kernel) (by decide +kernel),
    goodSlot_mac rfl (by decide +kernel) hv, ← tailTaken, htrim, if_pos tail_low]

/-- What follows a burst in a slot (R134, R137). -/
def slotSettled (p d : Nat) (s : State) : State :=
  let s2 := settleRx p .idle s
  if spanIsSlot (s2.port p).rx.span then s2 else startTiming p (if (s2.port p).rx.useStart then none else some d) s2

/-- A burst in a slot whose CRC-32 is right is judged by its header (R155). -/
theorem burstEnd_slot {p d : Nat} {levels : List Nat} {m : RxMeasure} {s : State} {h : RxHeader} {payload : List Byte}
    (hh : (s.port p).rx.header = some h) (hl : s.listening p = true) (hr : inReception (s.port p).rx.state = true)
    (hspan : (s.port p).rx.span = .slot d) (hsound : h.typ ≠ 3)
    (hb : decodeBody (s.port p).rx.mode (whitenSeed s.cycleNow h.drop true) h levels = (payload, true)) :
    burstEnd p levels m s = slotSettled p d (endInSlot p d h payload
      (eqFields (s.port p).latch.muAcq (s.port p).latch.muTrk (s.port p).rx.mode (s.startTaps p (some d)).1 (s.startTaps p (some d)).2 levels m)
      (sramCorrectedBy (memCode .taps) m.tapErrors (heldTiming p
        (eqFields (s.port p).latch.muAcq (s.port p).latch.muTrk (s.port p).rx.mode (s.startTaps p (some d)).1 (s.startTaps p (some d)).2 levels m) s))) := by
  simp only [burstEnd, hh, hl, hr, hspan, hb, hsound, spanOwner, targetLevels, decide_false, Bool.and_self, if_true, Bool.false_eq_true,
    if_false, Bool.true_eq_false]
  rfl

theorem exec_burstEnd {p : Nat} {levels : List Nat} {m : RxMeasure} {s t : State} (hs : s.Ready) (hp : p < 144)
    (ht : s.trunkOn p = false) (h : burstEnd p levels m s = t) : exec (.burstEnd p levels m) s = .next (collect t) := by
  show run (atPort p _) s = _
  rw [run_running _ hs.1, atPort, if_pos hp]
  simp only [ht, h, Bool.false_eq_true, if_false]

/-- The state at the end of the burst, its drop's levelling started. -/
def tailEnd : State := slotSettled 0 1 (startDeferrable 0 1 tailTaken)

theorem tailEnd_levels : ((collect tailEnd).ctx 0 2).lastLevel ≠ 0 := by decide +kernel

theorem tail_taps : tailState.startTaps 0 (some 1) = (({} : Ctx).ffe, ({} : Ctx).dfe) := by decide +kernel

theorem tail_mode : (tailState.port 0).rx.mode = 0 := by decide +kernel

theorem tail_header : (tailState.port 0).rx.header = some macHeader := rfl

/-- What the burst's end makes of the state, once its body is decoded. -/
theorem burstEnd_tail (h : ∀ (mode : Nat) (bytes : List Byte), levelBytes mode bytes.length (bodyLevels mode bytes) = bytes) :
    burstEnd 0 tailLevels quietMeasure tailState = tailEnd := by
  have hb : decodeBody (tailState.port 0).rx.mode (whitenSeed tailState.cycleNow macHeader.drop true) macHeader tailLevels =
      (tailPayload, true) := by
    rw [tail_mode, ← tailSeed]
    exact tail_decodes h
  have hend := burstEnd_slot (d := 1) (m := quietMeasure) tail_header (by decide +kernel) (by decide +kernel) (by decide +kernel)
    (by decide) hb
  rw [tail_taps, tail_mode, ← tailFields, show quietMeasure.tapErrors = 0 from rfl, tail_judged, ← tailEnd] at hend
  exact hend

theorem tailState_level : (tailState.ctx 0 2).lastLevel = 0 := by decide +kernel

theorem tailState_fresh : macHeader.epoch = (tailState.ctx 0 1).epoch ∧ (tailState.port 0).rx.noRoom = false ∧
    (tailState.port 0).rx.eqReset = false ∧ macHeader.seq = (tailState.ctx 0 1).rxNext ∧ (tailState.ctx 0 1).marked = [] := by
  decide +kernel

end Sys2Proof.Machine

namespace Sys2Proof.Proofs

open Machine

/-- Refutes O46: a good frame of drop 1 whose margin is low starts its levelling, which serves the waiting levelling of drop 2 first,
and that one's end changes drop 2's context. -/
theorem not_burstsAreJudged : ¬ Obligations.BurstsAreJudged := by
  rintro ⟨hspell, -, -, -, -, h⟩
  have hready : tailState.Ready := by decide +kernel
  obtain ⟨hepoch, hroom, hreset, hseq, hmarked⟩ := tailState_fresh
  obtain ⟨-, hgood⟩ := h 0 1 macHeader tailLevels quietMeasure tailState hready (by decide) (by decide +kernel) (by decide)
    (by decide) (by decide +kernel) (by decide +kernel) tail_header (by decide +kernel)
  rw [tail_mode, show macHeader.length + 4 = 68 from rfl, show macHeader.length = 64 from rfl, ← tailSeed, tail_clear hspell, tail_take,
    tail_drop] at hgood
  obtain ⟨t, ht, -, -, -, -, -, -, -, -, -, hothers⟩ := hgood (by rw [tailCrc]) rfl (by decide) (by decide) (by decide +kernel) hepoch hroom
    hreset hseq hmarked (by decide)
  have hrun := exec_burstEnd hready (by decide) (by decide +kernel) (burstEnd_tail hspell)
  obtain rfl := Host.Outcome.next.inj (hrun.symm.trans ht)
  have hsame := hothers 0 2 (by decide) (by decide)
  exact tailEnd_levels (by rw [hsame, tailState_level])

end Sys2Proof.Proofs

/-! PROOFS. Bulk reads: opened, answered block by block, and ended (R288, R318–R320). -/

namespace Sys2Proof.Machine

/-! ## Working values beside a counter -/

/-- A working value that is written reads what was written. -/
theorem State.reg_of_written {s : State} {code inst : Nat} {v : Int} (h : s.regWritten code inst = some v) :
    s.reg code inst = v := by simp only [State.reg, h]

theorem State.reg_bump_same (s : State) (code inst : Nat) :
    (s.bump code inst).reg code inst = min (((s.regN code inst + 1 : Nat)) : Int) (2 ^ 32 - 1) :=
  State.reg_of_written (regWritten_bump ..)

/-- A counter's events leave every other working value. -/
theorem State.reg_bumpBy_ne {c i d j : Nat} (hc : c ≠ Code.rollCall) (h : objKey c i ≠ objKey d j) (n : Nat) (s : State) :
    (s.bumpBy d j n).reg c i = s.reg c i := by
  have ht : (s.bumpBy d j n).time = s.time := by simp
  unfold State.reg
  rw [bumpBy_regWritten h, if_neg hc, if_neg hc, ht]

theorem State.regN_bump_ne {c i d j : Nat} (hc : c ≠ Code.rollCall) (h : objKey c i ≠ objKey d j) (s : State) :
    (s.bump d j).regN c i = s.regN c i := congrArg Int.toNat (State.reg_bumpBy_ne hc h 1 s)

/-- The counters of a link are no other link counter of either link. -/
theorem linkCode_key_ne {l m : Link} {c d : Nat} (h : c % 2 ^ 16 ≠ d % 2 ^ 16) :
    objKey (linkCode l c) 0 ≠ objKey (linkCode m d) 0 :=
  objKey_ne (by cases l <;> cases m <;> simp only [linkCode] <;> omega) (by decide) (by decide)

@[simp] theorem State.link_setReg (s : State) (c i : Nat) (v : Int) (l : Link) : (s.setReg c i v).link l = s.link l := by
  cases l <;> rfl

@[simp] theorem State.link_bumpBy (s : State) (c i n : Nat) (l : Link) : (s.bumpBy c i n).link l = s.link l := by
  unfold State.bumpBy; split <;> simp

@[simp] theorem State.link_bump (s : State) (c i : Nat) (l : Link) : (s.bump c i).link l = s.link l := State.link_bumpBy ..

/-- A change of a link is a change of the links. -/
theorem modLink_keeps {β : Type} {g : State → β} (hg : ∀ (t : State) x, g { t with oxl := x } = g t) (l : Link)
    (f : LinkSt → LinkSt) (s : State) : g (s.modLink l f) = g s := by cases l <;> exact hg s _

/-! ## The bulk requests of a link -/

theorem answerBulk_link (l : Link) (f : OutFrame) (s : State) :
    (answerBulk l f s).link l = { s.link l with bulk := (s.link l).bulk ++ [f] } := State.link_modLink ..

theorem endBulk_link (l : Link) (b : Bulk) (status : Nat) (s : State) :
    (endBulk l b status s).link l = { s.link l with
      bulk := (s.link l).bulk ++ [bulkResponse b.op status b.reqId b.target 0 b.total []]
      bulkOpen := (s.link l).bulkOpen.erase b } := by simp [endBulk, answerBulk_link]

theorem answerBulk_keeps {β : Type} {g : State → β} (hg : ∀ (t : State) x, g { t with oxl := x } = g t) (l : Link) (f : OutFrame)
    (s : State) : g (answerBulk l f s) = g s := modLink_keeps hg l _ s

theorem endBulk_keeps {β : Type} {g : State → β} (hg : ∀ (t : State) x, g { t with oxl := x } = g t) (l : Link) (b : Bulk)
    (status : Nat) (s : State) : g (endBulk l b status s) = g s :=
  (answerBulk_keeps hg l _ _).trans (modLink_keeps hg l _ s)

/-- A request that a link in state 5 with the traffic takes up has its frame counted (R319, R320). -/
theorem bulkRequest_taken {l : Link} {op reqId target : Nat} {f : State → State} {s : State} (h5 : (s.link l).state = 5)
    (ha : s.accepts l = true) (hroom : op = 3 ∨ (s.link l).bulkOpen.length < 4) :
    bulkRequest l op reqId target f s = f (s.bump (linkCode l Code.framesIn) 0) := by
  have hfull : ¬ (op ≠ 3 ∧ 4 ≤ (s.link l).bulkOpen.length) := by omega
  unfold bulkRequest
  rw [if_neg (by simp [h5]), if_neg (by simp [ha]), if_neg hfull]

theorem bulkRequest_full {l : Link} {op reqId target : Nat} {f : State → State} {s : State} (h5 : (s.link l).state = 5)
    (ha : s.accepts l = true) (hop : op ≠ 3) (hfull : 4 ≤ (s.link l).bulkOpen.length) :
    bulkRequest l op reqId target f s =
      refuseBulk l op 4 reqId target ((s.bump (linkCode l Code.framesIn) 0).bump (linkCode l Code.bulkBusy) 0) := by
  unfold bulkRequest
  rw [if_neg (by simp [h5]), if_neg (by simp [ha]), if_pos ⟨hop, hfull⟩]

/-- A read that is issued joins the commands in flight where its pair has a free identifier (R269). -/
theorem issue_free {s : State} {pair c : Nat} (h : s.freeCid pair = some c) (job : NvmeJob) :
    issue pair job s = { s with arch := { s.arch with
      inFlight := s.arch.inFlight ++ [{ pair := pair, cid := c, job := job, issued := s.time.tick }] } } := by
  unfold issue; rw [h]; rfl

/-- Commands are issued in the archive's state alone. -/
theorem issue_keeps {β : Type} {g : State → β} (hg : ∀ (t : State) x, g { t with arch := x } = g t) (pair : Nat) (job : NvmeJob)
    (s : State) : g (issue pair job s) = g s := by unfold issue; split <;> exact hg _ _

theorem retire_keeps {β : Type} {g : State → β} (hg : ∀ (t : State) x, g { t with arch := x } = g t) (c : NvmeCmd) (s : State) :
    g (retire c s) = g s := by
  unfold retire issueNext
  split
  · exact hg _ _
  · exact (issue_keeps hg _ _ _).trans ((hg _ _).trans (hg _ _))

/-- What the archive holds besides its commands. -/
def ArchSt.besidesCommands (a : ArchSt) : ArchSt := { a with inFlight := [], toIssue := [] }

theorem issue_besides (pair : Nat) (job : NvmeJob) (s : State) :
    (issue pair job s).arch.besidesCommands = s.arch.besidesCommands := by unfold issue; split <;> rfl

theorem retire_besides (c : NvmeCmd) (s : State) : (retire c s).arch.besidesCommands = s.arch.besidesCommands := by
  unfold retire issueNext
  split
  · rfl
  · exact (issue_besides _ _ _).trans rfl

theorem State.bulkBlock_congr {s t : State} (h : t.arch.besidesCommands = s.arch.besidesCommands) (b : Bulk) (i : Nat) :
    t.bulkBlock b i = s.bulkBlock b i := by
  have hr : t.arch.records = s.arch.records := (congrArg (fun a : ArchSt => a.records) h :)
  simp only [State.bulkBlock, State.bulkRecord, hr]

theorem State.driveBlock_congr {s t : State} (h : t.arch.besidesCommands = s.arch.besidesCommands) (blk : Nat) :
    t.driveBlock blk = s.driveBlock blk := by
  have hr : t.arch.records = s.arch.records := (congrArg (fun a : ArchSt => a.records) h :)
  have hc : t.arch.content = s.arch.content := (congrArg (fun a : ArchSt => a.content) h :)
  simp only [State.driveBlock, hr, hc]

/-! ## An open request -/

/-- A request whose next block is on the drive has it read (R319). -/
theorem bulkStep_reads {l : Link} {b : Bulk} {i blk : Nat} {rest : List Nat} {s : State} (hl : b.left = i :: rest)
    (hb : s.bulkBlock b i = some blk) : bulkStep l b s = issue s.readPair (.bulkRead l b.tag blk) s := by
  unfold bulkStep; rw [hl]; simp only [hb]

theorem bulkStep_out {l : Link} {b : Bulk} {s : State} (hl : b.left = []) : bulkStep l b s = endBulk l b 7 s := by
  unfold bulkStep; rw [hl]

theorem bulkStep_issues {l : Link} {b : Bulk} {i blk c : Nat} {rest : List Nat} {s u : State} (hl : b.left = i :: rest)
    (harch : u.arch = s.arch) (htime : u.time = s.time) (hb : s.bulkBlock b i = some blk)
    (hc : s.freeCid s.readPair = some c) :
    bulkStep l b u = { u with arch := { s.arch with
      inFlight := s.arch.inFlight ++ [{ pair := s.readPair, cid := c, job := .bulkRead l b.tag blk, issued := s.time.tick }] } } := by
  have hb' : u.bulkBlock b i = some blk := (State.bulkBlock_congr (congrArg _ harch) b i).trans hb
  have hpair : u.readPair = s.readPair := by simp only [State.readPair, harch]
  have hcid : u.freeCid s.readPair = some c := by rw [← hc]; simp only [State.freeCid, harch]
  rw [bulkStep_reads hl hb', hpair, issue_free hcid, harch, htime]

/-- The state once a request is open and before its first block is read. -/
def State.opened (s : State) (l : Link) (b : Bulk) : State :=
  let t := s.modLink l (fun x => { x with bulkOpen := x.bulkOpen ++ [b] })
  { t with oxl := { t.oxl with bulkTag := t.oxl.bulkTag + 1 } }

theorem State.opened_keeps {β : Type} {g : State → β} (hg : ∀ (t : State) x, g { t with oxl := x } = g t) (s : State) (l : Link)
    (b : Bulk) : g (s.opened l b) = g s := (hg _ _).trans (modLink_keeps hg l _ s)

theorem State.opened_link (s : State) (l : Link) (b : Bulk) :
    (s.opened l b).link l = { s.link l with bulkOpen := (s.link l).bulkOpen ++ [b] } := by cases l <;> rfl

theorem State.opened_link_other (s : State) (l : Link) (b : Bulk) :
    (s.opened l b).link (otherLink l) = s.link (otherLink l) := by cases l <;> rfl

/-- A request that is opened with an identifier free has its first block read (R319). -/
theorem openBulk_reads {l : Link} {b : Bulk} {i blk c : Nat} {rest : List Nat} {s : State} (hl : b.left = i :: rest)
    (hb : s.bulkBlock b i = some blk) (hc : s.freeCid s.readPair = some c) :
    openBulk l b s = { s.opened l { b with tag := s.oxl.bulkTag } with arch := { s.arch with
      inFlight := s.arch.inFlight ++
        [{ pair := s.readPair, cid := c, job := .bulkRead l s.oxl.bulkTag blk, issued := s.time.tick }] } } := by
  refine bulkStep_issues (b := { b with tag := s.oxl.bulkTag }) hl ?_ ?_ hb hc
  · exact State.opened_keeps (g := State.arch) (fun _ _ => rfl) s l _
  · exact State.opened_keeps (g := State.time) (fun _ _ => rfl) s l _

theorem span_cons (lo n : Nat) (h : 0 < n) : span lo n = lo :: List.range' (lo + 1) (n - 1) := by
  obtain ⟨m, rfl⟩ := Nat.exists_eq_add_of_lt h
  rw [span, ← List.range'_eq_map_range]
  simp [List.range'_succ]

theorem span_zero_left (lo n : Nat) : span lo n = List.range' lo n := by
  rw [span, ← List.range'_eq_map_range]

/-! ## What each request does -/

/-- A state in which a link's frame has been counted. -/
def State.framed (s : State) (l : Link) : State := s.bump (linkCode l Code.framesIn) 0

@[simp] theorem State.framed_link (s : State) (l m : Link) : (s.framed l).link m = s.link m := State.link_bump ..

theorem State.framed_keeps {β : Type} {g : State → β} (hg : ∀ (t : State) r, g { t with regs := r } = g t) (s : State) (l : Link) :
    g (s.framed l) = g s := State.bumpBy_keeps hg s _ 0 1

/-- A failed request brings one response and leaves the archive. -/
theorem run_refuseBulk {f : State → State} {s t : State} {l : Link} {op status reqId target : Nat} (hs : s.Ready)
    (h : f s = refuseBulk l op status reqId target t) (ht : t.oxl = s.oxl) (ha : t.arch = s.arch) (hf : t.faults = s.faults) :
    run f s = .next (refuseBulk l op status reqId target t) ∧
      ((refuseBulk l op status reqId target t).link l).bulk =
        (s.link l).bulk ++ [bulkResponse op status reqId target 0 0 []] ∧
      ((refuseBulk l op status reqId target t).link l).bulkOpen = (s.link l).bulkOpen ∧
      (refuseBulk l op status reqId target t).arch = s.arch := by
  have hl : t.link l = s.link l := by cases l <;> simp only [State.link, ht]
  have hfaults : (refuseBulk l op status reqId target t).faults = s.faults :=
    (answerBulk_keeps (g := State.faults) (fun _ _ => rfl) ..).trans hf
  refine ⟨h ▸ run_quiet hs (h ▸ hfaults), ?_, ?_, (answerBulk_keeps (g := State.arch) (fun _ _ => rfl) ..).trans ha⟩ <;>
    rw [refuseBulk, answerBulk_link, hl]

theorem readRecord_refused {l : Link} {reqId target first count status : Nat} {s : State} (h5 : (s.link l).state = 5)
    (ha : s.accepts l = true) (hroom : (s.link l).bulkOpen.length < 4)
    (h : status = 3 ∧ s.archReadable = false ∨ status = 1 ∧ s.archReadable = true ∧ s.bulkRecord target = none) :
    readRecord l reqId target first count s = refuseRead l 1 status reqId target (s.framed l) := by
  have hread : (s.bump (linkCode l Code.framesIn) 0).archReadable = s.archReadable := by simp [State.archReadable]
  have hrec : (s.bump (linkCode l Code.framesIn) 0).bulkRecord target = s.bulkRecord target := by simp [State.bulkRecord]
  unfold readRecord
  rw [bulkRequest_taken h5 ha (.inr hroom), hread, hrec]
  obtain ⟨rfl, hr⟩ | ⟨rfl, hr, hn⟩ := h
  · rw [hr]; rfl
  · rw [hr, hn]; rfl

theorem readRecord_found {l : Link} {reqId target first count : Nat} {s : State} {r : Rec} (h5 : (s.link l).state = 5)
    (ha : s.accepts l = true) (hroom : (s.link l).bulkOpen.length < 4) (hr : s.archReadable = true)
    (hf : s.bulkRecord target = some r) :
    readRecord l reqId target first count s =
      let n := if count = 0 then r.blocks - first else count
      if r.blocks ≤ first ∨ r.blocks < first + n then refuseBulk l 1 6 reqId target (s.framed l)
      else openBulk l { op := 1, reqId := reqId, target := target, first := first, total := n, left := span first n }
        (s.framed l) := by
  have hread : (s.bump (linkCode l Code.framesIn) 0).archReadable = s.archReadable := by simp [State.archReadable]
  have hrec : (s.bump (linkCode l Code.framesIn) 0).bulkRecord target = s.bulkRecord target := by simp [State.bulkRecord]
  unfold readRecord
  rw [bulkRequest_taken h5 ha (.inr hroom), hread, hrec, hr, hf]
  rfl

theorem readDriveBlocks_taken {l : Link} {reqId block first count : Nat} {s : State} (h5 : (s.link l).state = 5)
    (ha : s.accepts l = true) (hroom : (s.link l).bulkOpen.length < 4) (hr : s.archReadable = true) :
    readDriveBlocks l reqId block first count s =
      if first ≠ 0 ∨ count = 0 ∨ 1024 < count ∨ s.layoutEnd < block + count then refuseBulk l 2 6 reqId block (s.framed l)
      else openBulk l { op := 2, reqId := reqId, target := block, first := 0, total := count, left := span 0 count }
        (s.framed l) := by
  have hread : (s.bump (linkCode l Code.framesIn) 0).archReadable = s.archReadable := by simp [State.archReadable]
  have hend : (s.bump (linkCode l Code.framesIn) 0).layoutEnd = s.layoutEnd := by simp [State.layoutEnd]
  unfold readDriveBlocks
  rw [bulkRequest_taken h5 ha (.inr hroom), hread, hend, hr]
  rfl

/-- A request that is opened brings the read of its first block, on the drive alone. -/
theorem run_openBulk {f : State → State} {s : State} {l : Link} {b : Bulk} {i blk c : Nat} {rest : List Nat} (hs : s.Ready)
    (h : f s = openBulk l b (s.framed l)) (hl : b.left = i :: rest) (hb : s.bulkBlock b i = some blk)
    (hc : s.freeCid s.readPair = some c) :
    run f s = .next (f s) ∧
      (f s).link l = { s.link l with bulkOpen := (s.link l).bulkOpen ++ [{ b with tag := s.oxl.bulkTag }] } ∧
      (f s).link (otherLink l) = s.link (otherLink l) ∧
      (f s).arch = { s.arch with inFlight := s.arch.inFlight ++
        [{ pair := s.readPair, cid := c, job := .bulkRead l s.oxl.bulkTag blk, issued := s.time.tick }] } ∧
      (f s).ports = s.ports ∧ (f s).ctxs = s.ctxs := by
  have keep : ∀ {β : Type} {g : State → β}, (∀ (t : State) r, g { t with regs := r } = g t) → g (s.framed l) = g s :=
    fun hg => State.framed_keeps hg s l
  have hb' : (s.framed l).bulkBlock b i = some blk := (keep (g := fun t => t.bulkBlock b i) (fun _ _ => rfl)).trans hb
  have hpair : (s.framed l).readPair = s.readPair := keep (fun _ _ => rfl)
  have hc' : (s.framed l).freeCid (s.framed l).readPair = some c := by
    rw [hpair]; exact (keep (g := fun t => t.freeCid s.readPair) (fun _ _ => rfl)).trans hc
  have hread := openBulk_reads (l := l) hl hb' hc'
  have hoxl : (s.framed l).oxl = s.oxl := keep (fun _ _ => rfl)
  have harch : (s.framed l).arch = s.arch := keep (fun _ _ => rfl)
  have htime : (s.framed l).time = s.time := keep (fun _ _ => rfl)
  rw [hpair, hoxl, harch, htime] at hread
  have hfaults : (f s).faults = s.faults := by
    rw [h, hread]
    exact (State.opened_keeps (g := State.faults) (fun _ _ => rfl) _ l _).trans (keep (fun _ _ => rfl))
  refine ⟨run_quiet hs hfaults, ?_⟩
  rw [h, hread]
  refine ⟨?_, ?_, rfl, ?_, ?_⟩
  · exact (State.opened_link _ l _).trans (by rw [State.framed_link])
  · exact (State.opened_link_other _ l _).trans (State.framed_link ..)
  · exact (State.opened_keeps (g := State.ports) (fun _ _ => rfl) _ l _).trans (keep (fun _ _ => rfl))
  · exact (State.opened_keeps (g := State.ctxs) (fun _ _ => rfl) _ l _).trans (keep (fun _ _ => rfl))

theorem cancelBulk_taken {l : Link} {reqId : Nat} {s : State} (h5 : (s.link l).state = 5) (ha : s.accepts l = true) :
    cancelBulk l reqId s =
      match (s.link l).bulkOpen.find? (fun b => b.reqId == reqId) with
      | some b => endBulk l b 5 (s.framed l)
      | none => refuseBulk l 3 1 reqId 0 (s.framed l) := by
  unfold cancelBulk
  rw [bulkRequest_taken h5 ha (.inl rfl), State.link_bump]
  rfl

/-- A block that has been read goes out, and the request goes on with the rest (R319). -/
theorem bulkGot_block {l : Link} {tag blk i : Nat} {left : List Nat} {b : Bulk} {s : State} (hb : s.bulkOf l tag = some b)
    (hl : b.left = i :: left) (hblk : s.bulkBlock b i = some blk) :
    bulkGot l tag blk s =
      bulkStep l { b with left := left } ((answerBulk l (bulkResponse b.op 0 b.reqId b.target i b.total (s.driveBlock blk)) s).modLink l
        (fun x => { x with bulkOpen := x.bulkOpen.map (fun y => if y = b then { b with left := left } else y) })) := by
  unfold bulkGot
  rw [hb]
  simp only [hl]
  rw [if_neg (fun h => h hblk)]

/-- A record that a request has had a block of is still there for the next one. -/
theorem State.bulkBlock_next {s : State} {b : Bulk} {i blk : Nat} (h : s.bulkBlock b i = some blk) (left : List Nat) (j : Nat) :
    ∃ n, s.bulkBlock { b with left := left } j = some n := by
  unfold State.bulkBlock at h ⊢
  by_cases h1 : b.op = 1
  · rw [if_pos h1] at h
    obtain ⟨r, hr, -⟩ := Option.map_eq_some_iff.1 h
    exact ⟨r.block + j, by rw [if_pos h1, hr]; rfl⟩
  · exact ⟨_, if_neg h1⟩

/-- The block that has been read goes out behind what waits, and the last one with the response that ends the request (R319). -/
theorem bulkGot_goesOut {l : Link} {tag blk i : Nat} {left : List Nat} {b : Bulk} {s : State} (hb : s.bulkOf l tag = some b)
    (hl : b.left = i :: left) (hblk : s.bulkBlock b i = some blk) :
    (∀ {β : Type} {g : State → β}, (∀ (t : State) o a, g { t with oxl := o, arch := a } = g t) → g (bulkGot l tag blk s) = g s) ∧
    (left ≠ [] → ((bulkGot l tag blk s).link l).bulk =
      (s.link l).bulk ++ [bulkResponse b.op 0 b.reqId b.target i b.total (s.driveBlock blk)]) ∧
    (left = [] → ((bulkGot l tag blk s).link l).bulk = (s.link l).bulk ++
      [bulkResponse b.op 0 b.reqId b.target i b.total (s.driveBlock blk), bulkResponse b.op 7 b.reqId b.target 0 b.total []]) := by
  obtain ⟨w, hw, hwbulk, hwkeep⟩ : ∃ w : State, bulkGot l tag blk s = bulkStep l { b with left := left } w ∧
      (w.link l).bulk = (s.link l).bulk ++ [bulkResponse b.op 0 b.reqId b.target i b.total (s.driveBlock blk)] ∧
      ∀ {β : Type} {g : State → β}, (∀ (t : State) x, g { t with oxl := x } = g t) → g w = g s :=
    ⟨_, bulkGot_block hb hl hblk, by rw [State.link_modLink, answerBulk_link],
      fun hg => (modLink_keeps hg l _ _).trans (answerBulk_keeps hg l _ s)⟩
  cases left with
  | nil =>
    have hend : bulkGot l tag blk s = endBulk l { b with left := [] } 7 w := hw.trans (bulkStep_out rfl)
    refine ⟨fun hg => ?_, fun h => absurd rfl h, fun _ => ?_⟩
    · rw [hend, endBulk_keeps (fun t x => hg t x t.arch), hwkeep (fun t x => hg t x t.arch)]
    · rw [hend, endBulk_link, hwbulk, List.append_assoc]
      rfl
  | cons j rest =>
    obtain ⟨n, hn⟩ := State.bulkBlock_next hblk (j :: rest) j
    have hn' : w.bulkBlock { b with left := j :: rest } j = some n :=
      (hwkeep (g := fun t => t.bulkBlock _ j) (fun _ _ => rfl)).trans hn
    have hread := hw.trans (bulkStep_reads (l := l) rfl hn')
    refine ⟨fun hg => ?_, fun _ => ?_, fun h => by cases h⟩
    · rw [hread, issue_keeps (fun t x => hg t t.oxl x), hwkeep (fun t x => hg t x t.arch)]
    · rw [hread, issue_keeps (g := fun t => t.link l) (fun _ _ => rfl), hwbulk]

end Sys2Proof.Machine

namespace Sys2Proof

open Machine

/-- Settles O54: each request is the answer of its failure, or the first block's read. -/
theorem bulkReadsAreAnswered : Obligations.BulkReadsAreAnswered := by
  refine ⟨fun l reqId target first count s hs h5 ha => ⟨fun hfull => ?full, fun hroom hr => ?unreadable,
      fun hroom hr hn => ?noRecord, fun r hroom hr hf => ⟨fun hout => ?outside, fun c h1 h2 hc => ?opened⟩⟩,
    fun l reqId block first count s hs h5 ha hroom hr => ⟨fun hbad => ?badBlocks, fun c h0 h1 h2 h3 hc => ?blocks⟩,
    fun l reqId s hs h5 ha => ⟨fun hno => ?noRequest, fun b rest hb hid => ?cancelled⟩,
    fun l pair cid tag blk i left c b s hs hc hj hb hl hblk => ?block,
    fun l pair cid tag blk c b s hs hc hj hb => ?failed⟩
  case full =>
    obtain ⟨ht, h1, h2, h3⟩ := run_refuseBulk hs (f := readRecord l reqId target first count) (bulkRequest_full h5 ha (by decide) hfull)
      (by simp) (by simp) (by simp)
    refine ⟨_, ht, h1, h2, h3, ?_⟩
    rw [refuseBulk, answerBulk_keeps (g := fun t => t.reg _ 0) (fun _ _ => rfl), State.reg_bump_same,
      State.regN_bump_ne (by cases l <;> decide) (linkCode_key_ne (by decide))]
  case unreadable =>
    obtain ⟨ht, h1, -, h3⟩ := run_refuseBulk hs (f := readRecord l reqId target first count)
      (readRecord_refused h5 ha hroom (.inl ⟨rfl, hr⟩)) (by simp [State.framed]) (by simp [State.framed]) (by simp [State.framed])
    exact ⟨_, ht, h1, h3⟩
  case noRecord =>
    obtain ⟨ht, h1, -, h3⟩ := run_refuseBulk hs (f := readRecord l reqId target first count)
      (readRecord_refused h5 ha hroom (.inr ⟨rfl, hr, hn⟩)) (by simp [State.framed]) (by simp [State.framed]) (by simp [State.framed])
    exact ⟨_, ht, h1, h3⟩
  case outside =>
    obtain ⟨ht, h1, -, h3⟩ := run_refuseBulk hs (f := readRecord l reqId target first count)
      ((readRecord_found h5 ha hroom hr hf).trans (if_pos (by split <;> omega)))
      (by simp [State.framed]) (by simp [State.framed]) (by simp [State.framed])
    exact ⟨_, ht, h1, h3⟩
  case opened =>
    have hn : 0 < (if count = 0 then r.blocks - first else count) := by split <;> omega
    have hblk : ∀ b : Bulk, b.op = 1 → b.target = target → s.bulkBlock b first = some (r.block + first) := by
      intro b hop ht
      rw [State.bulkBlock, if_pos hop, ht, hf]
      rfl
    obtain ⟨ht, hlink, hother, harch, hports, hctxs⟩ := run_openBulk hs (f := readRecord l reqId target first count)
      ((readRecord_found h5 ha hroom hr hf).trans (if_neg (by split <;> omega))) (span_cons _ _ hn) (hblk _ rfl rfl) hc
    exact ⟨_, ht, by rw [hlink], by rw [hlink, List.map_append, span_zero_left]; rfl, harch, hother, hports, hctxs⟩
  case badBlocks =>
    obtain ⟨ht, h1, -, h3⟩ := run_refuseBulk hs (f := readDriveBlocks l reqId block first count)
      ((readDriveBlocks_taken h5 ha hroom hr).trans (if_pos hbad))
      (by simp [State.framed]) (by simp [State.framed]) (by simp [State.framed])
    exact ⟨_, ht, h1, h3⟩
  case blocks =>
    obtain ⟨ht, hlink, -, harch, hports, hctxs⟩ := run_openBulk hs (f := readDriveBlocks l reqId block first count)
      ((readDriveBlocks_taken h5 ha hroom hr).trans (if_neg (by omega))) (span_cons 0 count h1) (i := 0) (blk := block) rfl hc
    exact ⟨_, ht, by rw [hlink], harch, by rw [hlink, List.length_append]; rfl, hports, hctxs⟩
  case noRequest =>
    have hfind : (s.link l).bulkOpen.find? (fun b => b.reqId == reqId) = none := by simpa [List.find?_eq_none] using hno
    obtain ⟨ht, h1, h2, h3⟩ := run_refuseBulk hs (f := cancelBulk l reqId) ((cancelBulk_taken h5 ha).trans (by rw [hfind]))
      (by simp [State.framed]) (by simp [State.framed]) (by simp [State.framed])
    exact ⟨_, ht, h1, h2, h3⟩
  case cancelled =>
    have heq : cancelBulk l reqId s = endBulk l b 5 (s.framed l) := by
      rw [cancelBulk_taken h5 ha, hb, List.find?_cons_of_pos (by simp [hid])]
    refine ⟨_, run_quiet hs (by
      rw [heq, endBulk_keeps (g := State.faults) (fun _ _ => rfl), State.framed_keeps (g := State.faults) (fun _ _ => rfl)]), ?_, ?_, ?_⟩
    · rw [heq, endBulk_link, State.framed_link, hid]
    · rw [heq, endBulk_link, State.framed_link, hb, List.erase_cons_head]
    · rw [heq, endBulk_keeps (g := State.arch) (fun _ _ => rfl), State.framed_keeps (g := State.arch) (fun _ _ => rfl)]
  case block =>
    have heq : nvmeCompletion pair cid .ok s = bulkGot l tag blk (retire c s) := by
      unfold nvmeCompletion
      rw [hc]
      simp only [hj, commandDone]
    obtain ⟨hkeep, hmore, hlast⟩ := bulkGot_goesOut
      ((retire_keeps (g := fun t => t.bulkOf l tag) (fun _ _ => rfl) c s).trans hb) hl
      ((State.bulkBlock_congr (retire_besides c s) b i).trans hblk)
    rw [State.driveBlock_congr (retire_besides c s), retire_keeps (g := fun t => t.link l) (fun _ _ => rfl)] at hmore hlast
    rw [← heq] at hkeep hmore hlast
    refine ⟨_, run_quiet (f := nvmeCompletion pair cid .ok) hs ?_, ?_, ?_, hmore, hlast⟩
    · exact (hkeep (fun _ _ _ => rfl)).trans (retire_keeps (fun _ _ => rfl) c s)
    · exact (hkeep (fun _ _ _ => rfl)).trans (retire_keeps (fun _ _ => rfl) c s)
    · exact (hkeep (fun _ _ _ => rfl)).trans (retire_keeps (fun _ _ => rfl) c s)
  case failed =>
    obtain ⟨u, hu⟩ : ∃ u, u = issueAdmin [.errorLog] (s.bump Code.cmdErrors 0) := ⟨_, rfl⟩
    have hlink : u.link l = s.link l := by rw [hu]; exact State.link_bump s Code.cmdErrors 0 l
    have hbulk : (retire c u).bulkOf l tag = some b := by
      rw [retire_keeps (g := fun t => t.bulkOf l tag) (fun _ _ => rfl), State.bulkOf, hlink]
      exact hb
    have heq : nvmeCompletion pair cid .error s = endBulk l b 3 (retire c u) := by
      unfold nvmeCompletion
      rw [hc]
      simp only [commandFailed, hj, bulkFailed, ← hu, hbulk]
    have hfaults : u.faults = s.faults := by rw [hu]; simp [issueAdmin, State.modArch]
    refine ⟨_, run_quiet (f := nvmeCompletion pair cid .error) hs ?_, ?_, ?_⟩
    · rw [heq, endBulk_keeps (g := State.faults) (fun _ _ => rfl), retire_keeps (g := State.faults) (fun _ _ => rfl), hfaults]
    · rw [heq, endBulk_link, retire_keeps (g := fun t => t.link l) (fun _ _ => rfl), hlink]
    · rw [heq, endBulk_keeps (g := fun t => t.reg _ 0) (fun _ _ => rfl), retire_keeps (g := fun t => t.reg _ 0) (fun _ _ => rfl), hu]
      exact State.reg_bump_same s Code.cmdErrors 0

end Sys2Proof

/-! PROOFS. Core cycles in which no occurrence can stop the device, and what messages to the host leave. -/

namespace Sys2Proof.Machine

/-! ## What messages leave -/

/-- A function of the state that sees neither the queues of status and management messages, nor the message numbers, nor the
counter of dropped messages. -/
structure BesidesMessages {β : Type} (g : State → β) : Prop where
  status : ∀ (t : State) l (f : List OutFrame → List OutFrame), g (t.modLink l (fun x => { x with status := f x.status })) = g t
  mgmt : ∀ (t : State) l (f : List OutFrame → List OutFrame), g (t.modLink l (fun x => { x with mgmt := f x.mgmt })) = g t
  drops : ∀ (t : State) l, g (t.bump (linkCode l Code.statusDrops) 0) = g t
  seq : ∀ (t : State) n, g { t with oxl := { t.oxl with seq := n } } = g t

/-- One that sees neither the frames of requests nor the SPI either. -/
structure BesidesAnswers {β : Type} (g : State → β) : Prop extends BesidesMessages g where
  frames : ∀ (t : State) l, g (t.bump (linkCode l Code.framesIn) 0) = g t
  spi : ∀ (t : State) x, g { t with spi := x } = g t

/-- One that does not see what the collector keeps either. -/
structure BesidesCollector {β : Type} (g : State → β) : Prop extends BesidesAnswers g where
  faults : ∀ (t : State) x, g { t with faults := x } = g t
  aon : ∀ (t : State) x, g { t with aon := x } = g t
  injections : ∀ t : State, g (t.bump Code.injections 0) = g t

section
variable {β : Type} {g : State → β}

theorem BesidesMessages.pushStatus (h : BesidesMessages g) (x : OutFrame) (l : Link) (t : State) : g (pushStatus x l t) = g t := by
  unfold Machine.pushStatus
  split
  · exact h.status t l (fun q => q ++ [x])
  · exact h.drops t l

theorem BesidesMessages.sendStatus (h : BesidesMessages g) (links : List Link) (kind port drop epoch : Nat) (body : List Byte)
    (t : State) : g (sendStatus links kind port drop epoch body t) = g t :=
  sendStatus_keeps g h.pushStatus h.seq links kind port drop epoch body t

theorem BesidesMessages.reportFault (h : BesidesMessages g) (r : FaultRec) (t : State) : g (reportFault r t) = g t :=
  h.sendStatus ..

theorem BesidesMessages.linkEventStatus (h : BesidesMessages g) (links : List Link) (l : Link) (event : Nat) (t : State) :
    g (linkEventStatus links l event t) = g t := h.sendStatus ..

theorem BesidesAnswers.answered (h : BesidesAnswers g) (q : Path) (r : MgmtReq) (bytes : List Byte) (t : State) :
    g ((answer q r (.ok bytes) t).counted q) = g t := by
  have hlink : ∀ (l : Link), linkOfPath q = some l → g (answer q r (.ok bytes) t) = g t := by
    intro l hl
    unfold answer
    rw [hl]
    dsimp only [countAbort]
    split
    · rfl
    · exact h.mgmt t l (fun x => x ++ _)
  cases q with
  | spi => exact h.spi t _
  | oxlA => exact (h.frames _ .a).trans (hlink .a rfl)
  | oxlB => exact (h.frames _ .b).trans (hlink .b rfl)

/-- What sees neither the links, the working values, the SPI, the faults nor the always-on domain. -/
theorem BesidesCollector.of_fields
    (hg : ∀ (t : State) r o p f a, g { t with regs := r, oxl := o, spi := p, faults := f, aon := a } = g t) : BesidesCollector g where
  status t l _ := modLink_keeps (fun t x => hg t t.regs x t.spi t.faults t.aon) l _ t
  mgmt t l _ := modLink_keeps (fun t x => hg t t.regs x t.spi t.faults t.aon) l _ t
  drops t _ := State.bumpBy_keeps (fun t x => hg t x t.oxl t.spi t.faults t.aon) t _ 0 1
  seq t _ := hg t t.regs _ t.spi t.faults t.aon
  frames t _ := State.bumpBy_keeps (fun t x => hg t x t.oxl t.spi t.faults t.aon) t _ 0 1
  spi t x := hg t t.regs t.oxl x t.faults t.aon
  faults t x := hg t t.regs t.oxl t.spi x t.aon
  aon t x := hg t t.regs t.oxl t.spi t.faults x
  injections t := State.bumpBy_keeps (fun t x => hg t x t.oxl t.spi t.faults t.aon) t _ 0 1

end

/-- A working value that is not one of the counters that messages count in. -/
theorem besidesCollector_reg {code inst : Nat} (hc : code ≠ Code.rollCall) (hi : inst < 2 ^ 24)
    (hd : ∀ l, code ≠ linkCode l Code.statusDrops) (hf : ∀ l, code ≠ linkCode l Code.framesIn) (hj : code ≠ Code.injections) :
    BesidesCollector (fun t => t.reg code inst) where
  status t l f := modLink_keeps (g := fun t => t.reg code inst) (fun _ _ => rfl) l _ t
  mgmt t l f := modLink_keeps (g := fun t => t.reg code inst) (fun _ _ => rfl) l _ t
  drops t l := State.reg_bumpBy_ne hc (objKey_ne (hd l) hi (by decide)) 1 t
  seq _ _ := rfl
  frames t l := State.reg_bumpBy_ne hc (objKey_ne (hf l) hi (by decide)) 1 t
  spi _ _ := rfl
  faults _ _ := rfl
  aon _ _ := rfl
  injections t := State.reg_bumpBy_ne hc (objKey_ne hj hi (by decide)) 1 t

/-- A link without the messages that wait on it. -/
def LinkSt.besidesMessages (x : LinkSt) : LinkSt := { x with status := [], mgmt := [] }

theorem State.link_modLink_ne {l m : Link} (h : m ≠ l) (f : LinkSt → LinkSt) (s : State) : (s.modLink l f).link m = s.link m := by
  cases l <;> cases m <;> first | rfl | exact absurd rfl h

/-- A function of one link changes with that link's changes alone. -/
theorem link_modLink_keeps {β : Type} {k : LinkSt → β} (f : LinkSt → LinkSt) (hf : ∀ x, k (f x) = k x) (l m : Link) (t : State) :
    k ((t.modLink l f).link m) = k (t.link m) := by
  by_cases h : m = l
  · subst h; rw [State.link_modLink, hf]
  · rw [State.link_modLink_ne h]

theorem besidesCollector_link (m : Link) : BesidesCollector (fun t => (t.link m).besidesMessages) where
  status t l f := link_modLink_keeps (k := LinkSt.besidesMessages) (fun x => { x with status := f x.status }) (fun _ => rfl) l m t
  mgmt t l f := link_modLink_keeps (k := LinkSt.besidesMessages) (fun x => { x with mgmt := f x.mgmt }) (fun _ => rfl) l m t
  drops t l := by rw [State.link_bump]
  seq t _ := by cases m <;> rfl
  frames t l := by rw [State.link_bump]
  spi _ _ := by cases m <;> rfl
  faults _ _ := by cases m <;> rfl
  aon _ _ := by cases m <;> rfl
  injections t := by rw [State.link_bump]

/-- A part of a function besides the collector. -/
theorem BesidesCollector.map {β γ : Type} {g : State → β} (h : BesidesCollector g) (k : β → γ) : BesidesCollector (fun t => k (g t)) where
  status t l f := congrArg k (h.status t l f)
  mgmt t l f := congrArg k (h.mgmt t l f)
  drops t l := congrArg k (h.drops t l)
  seq t n := congrArg k (h.seq t n)
  frames t l := congrArg k (h.frames t l)
  spi t x := congrArg k (h.spi t x)
  faults t x := congrArg k (h.faults t x)
  aon t x := congrArg k (h.aon t x)
  injections t := congrArg k (h.injections t)

/-- The assignment of the traffic to the links. -/
def OxlSt.assignment (x : OxlSt) : Bool × Bool × Bool := (x.lowOnB, x.highOnA, x.activeB)

theorem modLink_assignment (l : Link) (f : LinkSt → LinkSt) (t : State) : (t.modLink l f).oxl.assignment = t.oxl.assignment := by
  cases l <;> rfl

theorem besidesCollector_assignment : BesidesCollector (fun t => t.oxl.assignment) where
  status t l f := modLink_assignment l _ t
  mgmt t l f := modLink_assignment l _ t
  drops t l := by simp
  seq _ _ := rfl
  frames t l := by simp
  spi _ _ := rfl
  faults _ _ := rfl
  aon _ _ := rfl
  injections t := by simp

/-! ## Core cycles that stop nothing -/

/-- Only real occurrences of classes that an escalation does not bring to Fatal are due (R404, R406). -/
def State.CalmDue (s : State) : Prop := ∀ o ∈ s.faults.due, o.injected = false ∧ defaultClass o.source ≤ 2

theorem raiseClass_calm {o : Occ} (h : o.injected = false ∧ defaultClass o.source ≤ 2 ∨ o.injected = true ∧ defaultClass o.source < 4)
    (held : List Raise) : raiseClass held o ≠ 4 := by
  unfold raiseClass
  dsimp only
  rcases h with ⟨-, h⟩ | ⟨hi, h⟩
  · split <;> omega
  · rw [hi]
    simp only [Bool.not_true, Bool.false_and, Bool.false_eq_true, if_false]
    omega

theorem takeAll_calm {os : List Occ}
    (h : ∀ o ∈ os, o.injected = false ∧ defaultClass o.source ≤ 2 ∨ o.injected = true ∧ defaultClass o.source < 4) (b : Bool)
    (s : State) : (takeAll os b s).2.any (fun x => x.cls == 4) = false := by
  induction os generalizing b s with
  | nil => rfl
  | cons o rest ih =>
    have hrest := fun x hx => h x (List.mem_cons_of_mem o hx)
    unfold takeAll
    split
    · exact ih hrest _ _
    · have hne : (takeRaise o b s).2.1.cls ≠ 4 := raiseClass_calm (h o (List.mem_cons_self ..)) _
      simp only [List.any_cons, ih hrest, Bool.or_false, beq_eq_false_iff_ne, ne_eq]
      exact hne

theorem takeAll_keeps {β : Type} {g : State → β} (h : BesidesCollector g) (os : List Occ) (b : Bool) (s : State) :
    g (takeAll os b s).1 = g s := by
  have hcount : ∀ (o : Occ) (t : State), g (countOcc o t) = g t := by
    intro o t
    unfold countOcc
    split
    · exact h.injections t
    · exact h.aon t _
  induction os generalizing b s with
  | nil => rfl
  | cons o rest ih =>
    unfold takeAll
    split
    · refine (ih _ _).trans ((h.faults _ _).trans ((h.aon _ _).trans (hcount o s)))
    · obtain ⟨f, a, hr⟩ := takeRaise_frame o b s
      refine (ih _ _).trans ?_
      rw [hr]
      exact ((h.aon _ a).trans (h.faults (countOcc o s) f)).trans (hcount o s)

/-- What a calm core cycle leaves: all but what the collector keeps and the messages that it sends (R404–R411). -/
theorem collect_calm {β : Type} {g : State → β} (h : BesidesCollector g) {s : State} (hs : s.CalmDue) : g (collect s) = g s := by
  have fin : ∀ (l : List Occ) (u : State),
      (∀ o ∈ l, o.injected = false ∧ defaultClass o.source ≤ 2 ∨ o.injected = true ∧ defaultClass o.source < 4) →
      g (if (takeAll l false u).2.any (fun x => x.cls == 4) then fatalStop (takeAll l false u).1
        else forAll (takeAll l false u).2 reportFault (takeAll l false u).1) = g u := by
    intro l u hl
    rw [takeAll_calm hl, if_neg (by decide)]
    exact (forAll_keeps g _ _ (fun r t => h.reportFault r t) _).trans (takeAll_keeps h l false u)
  unfold collect
  split
  · exact h.faults _ _
  · exact h.faults _ _
  · refine (h.faults _ _).trans ((fin _ _ fun o ho => ?_).trans (h.faults _ _))
    rw [mem_sortBy, List.mem_append] at ho
    rcases ho with ho | ho
    · exact .inl (hs o ho)
    · right
      split at ho
      · cases ho
      · obtain ⟨⟨src, m⟩, hx, rfl⟩ := List.mem_map.1 ho
        have hlt := of_decide_eq_true (List.mem_filter.1 hx).2
        unfold injectedOcc
        split <;> exact ⟨rfl, hlt⟩

/-! ## Accepted writes in calm core cycles -/

/-- What an accepted write leaves behind a calm core cycle, its answer and its frame apart. -/
theorem exec_accepted_calm {i : Instr} {s u : State} {q : Path} {tid code value : Nat} {o : Obj} {v : Int}
    (hi : hostWriteOf i = some (q, tid, code, value)) (hacc : s.Accepts q code value o v)
    (hw : hostWrite q o code (s.instOf q o.scope) v (masterOf q) (s.arrived q) = u) (hu : u.CalmDue) :
    ∃ w, exec i s = .next (collect w) ∧ w.faults = u.faults ∧ w.aon = u.aon ∧
      (∀ {β : Type} {g : State → β}, BesidesAnswers g → g w = g u) ∧
      ∀ {β : Type} {g : State → β}, BesidesCollector g → g (collect w) = g u := by
  subst hw
  refine ⟨_, Proofs.acceptedWritesRun i s q tid code value o v hi hacc, answered_faults .., answered_aon .., fun hg => hg.answered q _ _ _, fun hg => ?_⟩
  refine (collect_calm hg ?_).trans (hg.toBesidesAnswers.answered q _ _ _)
  unfold State.CalmDue
  rw [answered_faults]
  exact hu

end Sys2Proof.Machine

/-! PROOFS. Which host link carries the traffic: modes, losses, FORCE_SWITCH and RETURN_HOLD (R320, R322–R324). -/

namespace Sys2Proof.Machine

/-! ## What changes of the links leave -/

/-- A function of the state that sees no link, no message number and not the counter of dropped messages. -/
structure BesidesLinks {β : Type} (g : State → β) : Prop where
  link : ∀ (t : State) l f, g (t.modLink l f) = g t
  drops : ∀ (t : State) l, g (t.bump (linkCode l Code.statusDrops) 0) = g t
  seq : ∀ (t : State) n, g { t with oxl := { t.oxl with seq := n } } = g t

theorem BesidesLinks.messages {β : Type} {g : State → β} (h : BesidesLinks g) : BesidesMessages g where
  status t l _ := h.link t l _
  mgmt t l _ := h.link t l _
  drops := h.drops
  seq := h.seq

theorem BesidesLinks.of_fields {β : Type} {g : State → β} (hg : ∀ (t : State) r o, g { t with regs := r, oxl := o } = g t) :
    BesidesLinks g where
  link t l f := modLink_keeps (fun t x => hg t t.regs x) l f t
  drops t _ := State.bumpBy_keeps (fun t x => hg t x t.oxl) t _ 0 1
  seq t _ := hg t t.regs _

theorem besidesLinks_assignment : BesidesLinks (fun t => t.oxl.assignment) where
  link t l f := modLink_assignment l f t
  drops t l := by simp
  seq _ _ := rfl

theorem besidesLinks_reg {code inst : Nat} (hc : code ≠ Code.rollCall) (hi : inst < 2 ^ 24)
    (hd : ∀ l, code ≠ linkCode l Code.statusDrops) : BesidesLinks (fun t => t.reg code inst) where
  link t l f := modLink_keeps (g := fun t => t.reg code inst) (fun _ _ => rfl) l f t
  drops t l := State.reg_bumpBy_ne hc (objKey_ne (hd l) hi (by decide)) 1 t
  seq _ _ := rfl

section
variable {β : Type} {g : State → β}

theorem BesidesLinks.restartIdle (h : BesidesLinks g) (l : Link) (b : Bool) (t : State) : g (restartIdle l b t) = g t := by
  unfold Machine.restartIdle
  split
  · exact h.link t l _
  · rfl

/-- New queues for all waiting frames leave what sees no link (R320, R324). -/
theorem BesidesLinks.redistribute (h : BesidesLinks g) (before s : State) : g (redistribute before s) = g s := by
  have clear : ∀ (t : State) (f : LinkSt → LinkSt),
      g { t with oxl := { t.oxl with a := f t.oxl.a, b := f t.oxl.b } } = g t := fun t f =>
    (h.link (t.modLink .a f) .b f).trans (h.link t .a f)
  unfold Machine.redistribute
  rw [forAll_keeps g]
  · rw [forAll_keeps g _ _ (fun l t => h.restartIdle l _ t), forAll_keeps g, forAll_keeps g]
    · exact clear s (fun x => { x with data := [], status := [], moveDue := false })
    · exact fun f t => forAll_keeps g _ _ (fun l u => h.link u l _) t
    · exact fun f t => forAll_keeps g _ _ (fun l u => h.messages.pushStatus f l u) t
  · exact fun l t => (h.messages.linkEventStatus _ l 3 _).trans (h.link t l _)

/-- A move's queues leave what sees neither a link nor the copies (R322). -/
theorem BesidesLinks.joinQueues (h : BesidesLinks g) (hc : ∀ (t : State) l n, g (t.bumpBy (linkCode l Code.copiesSent) 0 n) = g t)
    (lost other : Link) (s : State) : g (joinQueues lost other s) = g s := by
  unfold Machine.joinQueues
  dsimp only
  rw [hc, forAll_keeps g _ _ (fun f t => h.messages.pushStatus f other t), h.link, h.link]

/-- A return's queues leave what sees no link (R323). -/
theorem BesidesLinks.takeBack (h : BesidesLinks g) (l : Link) (mine : OutFrame → Bool) (s : State) : g (takeBack l mine s) = g s := by
  unfold Machine.takeBack
  dsimp only
  rw [h.restartIdle, carryStop, h.link, forAll_keeps g _ _ (fun f t => h.messages.pushStatus f l t), h.link, h.link]

end

/-! ## The settings that assign traffic -/

def linkModeRow : Obj := ⟨0x620001, .u8, .rwp, .device, 0, 2, 0⟩
def preferredRow : Obj := ⟨0x620002, .u8, .rwp, .device, 0, 1, 0⟩
def forceSwitchRow : Obj := ⟨0x620007, .bool, .wo, .device, 0, 1, 0⟩

theorem findObj_linkMode : findObj Code.linkMode = some linkModeRow := by decide +kernel
theorem findObj_preferred : findObj Code.preferred = some preferredRow := by decide +kernel
theorem findObj_forceSwitch : findObj Code.forceSwitch = some forceSwitchRow := by decide +kernel

theorem hostWrite_linkMode (q : Path) (inst master : Nat) (v : Int) (s : State) :
    hostWrite q linkModeRow Code.linkMode inst v master s = linkModeWritten s (s.setReg Code.linkMode inst v) := rfl

theorem hostWrite_preferred (q : Path) (inst master : Nat) (v : Int) (s : State) :
    hostWrite q preferredRow Code.preferred inst v master s = preferredWritten s (s.setReg Code.preferred inst v) := rfl

theorem hostWrite_forceSwitch (q : Path) (inst master : Nat) (s : State) :
    hostWrite q forceSwitchRow Code.forceSwitch inst 1 master s = forceSwitch s := rfl

/-- The choice of the active link (R320, R324). -/
theorem State.activeChoice_eq (s : State) :
    (s.oxl.a.fit = s.oxl.b.fit → s.activeChoice = decide (s.regN Code.preferred 0 = 1)) ∧
    (s.oxl.a.fit = true → s.oxl.b.fit = false → s.activeChoice = false) ∧
    (s.oxl.a.fit = false → s.oxl.b.fit = true → s.activeChoice = true) := by
  unfold State.activeChoice
  cases decide (s.regN Code.preferred 0 = 1) <;> cases ha : s.oxl.a.fit <;> cases hb : s.oxl.b.fit <;>
    simp [State.link, otherLink, ha, hb]

/-! ## The move of a lost link's traffic -/

@[simp] theorem otherLink_ne (l : Link) : otherLink l ≠ l := by cases l <;> decide

theorem pushStatus_link_ne {l m : Link} (h : m ≠ l) (f : OutFrame) (s : State) : (pushStatus f l s).link m = s.link m := by
  unfold pushStatus
  split
  · exact State.link_modLink_ne h _ _
  · exact State.link_bump ..

/-- A lost link keeps no frame that waited (R322, R324). -/
theorem joinQueues_lost (l : Link) (s : State) :
    (joinQueues l (otherLink l) s).link l = { s.link l with
      status := [], mgmt := [], data := [], bulk := [], bulkOpen := [], inProgress := none, moveDue := false
      stopData := false, stopBulk := false } := by
  unfold joinQueues
  dsimp only
  rw [State.link_bumpBy, forAll_keeps (fun t => t.link l) _ _ (fun f t => pushStatus_link_ne (otherLink_ne l).symm f t),
    State.link_modLink_ne (otherLink_ne l).symm, State.link_modLink]

/-- The data frames of the link that takes the traffic: a frame cut off, what waited here, what waited there (R322). -/
def State.joinedData (s : State) (l : Link) : List OutFrame :=
  (((s.link l).cutFrame.toList.filter (fun f => decide (f.cls ≤ 1))).map (fun f => { f with copy := true })).filter
    (fun f => f.cls == 0) ++ (s.link (otherLink l)).data ++ (s.link l).data

theorem joinQueues_other {l : Link} {s : State} (hm : s.linkMode ≠ 1) :
    ((joinQueues l (otherLink l) s).link (otherLink l)).besidesMessages = { (s.link (otherLink l)).besidesMessages with
      data := s.joinedData l
      stopData := (s.link (otherLink l)).stopData || (s.link l).stopData
      stopBulk := (s.link (otherLink l)).stopBulk || (s.link l).stopBulk } := by
  unfold joinQueues
  dsimp only
  rw [State.link_bumpBy, forAll_keeps (fun t => (t.link (otherLink l)).besidesMessages) _ _
    (fun f t => (besidesCollector_link (otherLink l)).pushStatus f _ t), State.link_modLink,
    State.link_modLink_ne (otherLink_ne l), if_neg hm, if_neg hm]
  rfl

theorem State.joinedData_whole {s : State} {l : Link} (h : (s.link l).inProgress = none) :
    s.joinedData l = (s.link (otherLink l)).data ++ (s.link l).data := by
  unfold State.joinedData LinkSt.cutFrame
  rw [h]
  rfl

theorem State.joinedData_cut {s : State} {l : Link} {f : OutFrame} (h : (s.link l).inProgress = some f) (hc : f.cls = 0)
    (h1 : (s.link l).progressAt ≤ (s.link l).lostAt) (h2 : (s.link l).lostAt < (s.link l).progressAt + frameTicks f) :
    s.joinedData l = { f with copy := true } :: (s.link (otherLink l)).data ++ (s.link l).data := by
  have hcut : (s.link l).cutFrame = some f := by simp [LinkSt.cutFrame, h, h1, h2]
  simp [State.joinedData, hcut, hc]

@[simp] theorem reassign_link (lost l : Link) (s : State) : (reassign lost s).link l = s.link l := by
  unfold reassign
  dsimp only
  split <;> cases l <;> rfl

theorem reassign_keeps {β : Type} {g : State → β} (hg : ∀ (t : State) x, g { t with oxl := x } = g t) (lost : Link) (s : State) :
    g (reassign lost s) = g s := by
  unfold reassign
  dsimp only
  split
  · exact hg s _
  · rfl
  · exact hg s _

/-- Which link has the traffic is a matter of the mode and of the assignment, but for the mirrored mode (R320). -/
def assignedBy (mode : Nat) (x : Bool × Bool × Bool) (l : Link) : Bool :=
  if mode = 0 then ((if x.1 then .b else .a) == l) || ((if x.2.1 then .a else .b) == l)
  else (if x.2.2 then .b else .a) == l

theorem State.assigned_eq {s : State} (hm : s.linkMode ≠ 1) (l : Link) : s.assigned l = assignedBy s.linkMode s.oxl.assignment l := by
  unfold State.assigned assignedBy State.splitLink State.activeLink OxlSt.assignment
  rw [if_neg hm]
  rfl

/-- The assignment without a lost link (R322). -/
def assignedAway (mode : Nat) (l : Link) (x : Bool × Bool × Bool) : Bool × Bool × Bool :=
  let toB := decide (l = .a)
  match mode with
  | 0 => (if (if x.1 then .b else .a) = l then toB else x.1, if (if x.2.1 then .a else .b) = l then !toB else x.2.1, x.2.2)
  | 1 => x
  | _ => (x.1, x.2.1, if (if x.2.2 then .b else .a) = l then toB else x.2.2)

theorem reassign_assignment (l : Link) (s : State) :
    (reassign l s).oxl.assignment = assignedAway s.linkMode l s.oxl.assignment := by
  unfold reassign assignedAway
  dsimp only
  generalize s.linkMode = n
  rcases n with _ | _ | n <;> rfl

theorem assignedAway_moves {mode : Nat} (hm : mode ≠ 1) (l : Link) (x : Bool × Bool × Bool) (h : assignedBy mode x l = true) :
    assignedBy mode (assignedAway mode l x) l = false ∧ assignedBy mode (assignedAway mode l x) (otherLink l) = true := by
  have split : ∀ (l : Link) (x : Bool × Bool × Bool), assignedBy 0 x l = true →
      assignedBy 0 (assignedAway 0 l x) l = false ∧ assignedBy 0 (assignedAway 0 l x) (otherLink l) = true := by
    rintro (_ | _) <;> decide
  have standby : ∀ (n : Nat) (l : Link) (x : Bool × Bool × Bool), assignedBy (n + 2) x l = true →
      assignedBy (n + 2) (assignedAway (n + 2) l x) l = false ∧
        assignedBy (n + 2) (assignedAway (n + 2) l x) (otherLink l) = true := by
    rintro n (_ | _) ⟨lowOnB, highOnA, activeB⟩ <;> cases activeB <;> simp [assignedBy, assignedAway, otherLink]
  match mode, hm with
  | 0, _ => exact split l x h
  | n + 2, _ => exact standby n l x h

/-- The reassignment gives the traffic of the lost link to the other one (R322). -/
theorem reassign_assigned {l : Link} {s : State} (hm : s.linkMode ≠ 1) (ha : s.assigned l = true) :
    (reassign l s).assigned l = false ∧ (reassign l s).assigned (otherLink l) = true := by
  have hmode : (reassign l s).linkMode = s.linkMode := reassign_keeps (g := State.linkMode) (fun _ _ => rfl) l s
  rw [State.assigned_eq (hmode.symm ▸ hm), State.assigned_eq (hmode.symm ▸ hm), hmode, reassign_assignment]
  exact assignedAway_moves hm l _ (State.assigned_eq hm l ▸ ha)

/-- The lost link's traffic once it is moved (R322). -/
def State.trafficMoved (s : State) (l : Link) : State := (reassign l (joinQueues l (otherLink l) s)).bump Code.linkFailovers 0

theorem moveLink_moves {l : Link} {s : State} (hf : (s.link l).fit = false) (ho : (s.link (otherLink l)).fit = true)
    (ha : s.assigned l = true) : moveLink l s =
      linkEventStatus [otherLink l] (otherLink l) 3 (linkEventStatus [otherLink l] l 1 (s.trafficMoved l)) := by
  unfold moveLink
  dsimp only
  rw [hf, ho, ha]
  rfl

theorem moveLink_keeps {β : Type} {g : State → β} (hg : BesidesLinks g)
    (hc : ∀ (t : State) l n, g (t.bumpBy (linkCode l Code.copiesSent) 0 n) = g t) (hx : ∀ t l, g (reassign l t) = g t)
    (hb : ∀ t : State, g (t.bump Code.linkFailovers 0) = g t) (l : Link) (s : State) : g (moveLink l s) = g s := by
  unfold moveLink
  dsimp only
  split
  · rfl
  · split
    · exact hg.joinQueues hc _ _ _
    · rw [hg.messages.linkEventStatus, hg.messages.linkEventStatus, hb, hx, hg.joinQueues hc]

end Sys2Proof.Machine

/-! PROOFS. Traffic between the host links: the statement about it. -/

namespace Sys2Proof.Machine

theorem linkCode_ne_high {l : Link} {c : Nat} (h : 0x620000 ≤ c) (d : Nat) (hd : d < 0x610000) : c ≠ linkCode l d := by
  cases l <;> simp only [linkCode] <;> omega

/-- The working values of the traffic are none of the counters of a link (R327, R328). -/
theorem besidesCollector_traffic {code : Nat} (h1 : 0x620000 ≤ code) (h2 : code < 0x630000) :
    BesidesCollector (fun t => t.reg code 0) :=
  besidesCollector_reg (by rintro rfl; revert h1 h2; decide) (by decide) (fun l => linkCode_ne_high h1 _ (by decide))
    (fun l => linkCode_ne_high h1 _ (by decide)) (by rintro rfl; revert h1 h2; decide)

theorem besidesLinks_traffic {code : Nat} (h1 : 0x620000 ≤ code) (h2 : code < 0x630000) : BesidesLinks (fun t => t.reg code 0) :=
  besidesLinks_reg (by rintro rfl; revert h1 h2; decide) (by decide) (fun l => linkCode_ne_high h1 _ (by decide))

theorem calmDue_of_none {s : State} (h : s.faults.due = []) : s.CalmDue := by
  intro o ho
  rw [h] at ho
  cases ho

/-- An accepted write of an assignment leaves the ports and the contexts. -/
theorem redistribute_faults (before s : State) : (redistribute before s).faults = s.faults :=
  (BesidesLinks.of_fields (g := State.faults) (fun _ _ _ => rfl)).redistribute before s

theorem redistribute_ports (before s : State) : (redistribute before s).ports = s.ports :=
  (BesidesLinks.of_fields (g := State.ports) (fun _ _ _ => rfl)).redistribute before s

theorem redistribute_ctxs (before s : State) : (redistribute before s).ctxs = s.ctxs :=
  (BesidesLinks.of_fields (g := State.ctxs) (fun _ _ _ => rfl)).redistribute before s

theorem redistribute_assignment (before s : State) : (redistribute before s).oxl.assignment = s.oxl.assignment :=
  besidesLinks_assignment.redistribute before s

theorem redistribute_traffic {code : Nat} (h1 : 0x620000 ≤ code) (h2 : code < 0x630000) (before s : State) :
    (redistribute before s).reg code 0 = s.reg code 0 := (besidesLinks_traffic h1 h2).redistribute before s

theorem besidesCollector_ports : BesidesCollector State.ports := .of_fields fun _ _ _ _ _ _ => rfl

theorem besidesCollector_ctxs : BesidesCollector State.ctxs := .of_fields fun _ _ _ _ _ _ => rfl

theorem besidesCollector_data (l : Link) : BesidesCollector (fun t => (t.link l).data) :=
  (besidesCollector_link l).map LinkSt.data

theorem State.reg_setReg_ne {s : State} {code inst c i : Nat} (v : Int) (hc : c ≠ Code.rollCall) (h : objKey c i ≠ objKey code inst) :
    (s.setReg code inst v).reg c i = s.reg c i := by
  unfold State.reg
  rw [State.regWritten_setReg_ne s v h, if_neg hc, if_neg hc, State.setReg_time]

/-- The state that the mode's write leaves to the links. -/
def State.modeTaken (s : State) (v : Int) : State :=
  { s.setReg Code.linkMode 0 v with oxl := { s.oxl with
      lowOnB := !s.oxl.a.fit && s.oxl.b.fit, highOnA := s.oxl.a.fit && !s.oxl.b.fit
      activeB := (s.setReg Code.linkMode 0 v).activeChoice } }

theorem linkModeWritten_eq (s : State) (v : Int) :
    linkModeWritten s (s.setReg Code.linkMode 0 v) = redistribute s (s.modeTaken v) := rfl

theorem State.arrived_link (s : State) (q : Path) (l : Link) : (s.arrived q).link l = s.link l := by
  cases l <;> simp only [State.link, State.arrived_oxl]

theorem State.arrived_reg (s : State) (q : Path) (code inst : Nat) : (s.arrived q).reg code inst = s.reg code inst :=
  State.reg_congr (State.arrived_regs s q) (by rw [State.arrived_time]) code inst

theorem State.arrived_regN (s : State) (q : Path) (code inst : Nat) : (s.arrived q).regN code inst = s.regN code inst :=
  congrArg Int.toNat (State.arrived_reg s q code inst)

/-- The state that the write of the preference leaves to the links in active/standby mode. -/
def State.preferenceTaken (s : State) (v : Int) : State :=
  { s.setReg Code.preferred 0 v with oxl := { s.oxl with activeB := (s.setReg Code.preferred 0 v).activeChoice } }

theorem State.linkMode_preferred (s : State) (v : Int) : (s.setReg Code.preferred 0 v).linkMode = s.linkMode :=
  congrArg Int.toNat (State.reg_setReg_ne v (by decide) (objKey_ne (by decide) (by decide) (by decide)))

theorem preferredWritten_standby {s : State} (hm : s.linkMode = 2) (v : Int) :
    preferredWritten s (s.setReg Code.preferred 0 v) = redistribute s (s.preferenceTaken v) :=
  if_pos ((State.linkMode_preferred s v).trans hm)

theorem preferredWritten_other {s : State} (hm : s.linkMode ≠ 2) (v : Int) :
    preferredWritten s (s.setReg Code.preferred 0 v) = s.setReg Code.preferred 0 v :=
  if_neg (fun h => hm ((State.linkMode_preferred s v).symm.trans h))

/-- The change of the active link by FORCE_SWITCH (R322). -/
def State.switched (s : State) : State := { s with oxl := { s.oxl with activeB := !s.oxl.activeB } }

theorem forceSwitch_switches {s : State} (hm : s.linkMode = 2) (ha : s.isAvailable (otherLink s.activeLink) = true) :
    forceSwitch s = (redistribute s s.switched).bump Code.linkFailovers 0 := if_pos ⟨hm, ha⟩

theorem forceSwitch_permitted {s : State} (h : s.commandRefused Code.forceSwitch 0 1 = false) :
    s.linkMode = 2 ∧ s.isAvailable (otherLink s.activeLink) = true := by
  have hr : s.commandRefused Code.forceSwitch 0 1 = (decide ((1 : Int) = 1) && !(decide (s.linkMode = 2) && s.isAvailable (otherLink s.activeLink))) :=
    rfl
  rw [h] at hr
  simpa using hr.symm

/-! ## Moves and returns behind their commands -/

theorem linkFailovers_ne_copies (l : Link) : objKey Code.linkFailovers 0 ≠ objKey (linkCode l Code.copiesSent) 0 :=
  objKey_ne (linkCode_ne_high (by decide) _ (by decide)) (by decide) (by decide)

/-- What sees neither the links, their assignment nor the working values. -/
theorem linkTrafficMove_keeps {β : Type} {g : State → β} (hg : ∀ (t : State) r o, g { t with regs := r, oxl := o } = g t) (l : Link)
    (cut : Bool) (s : State) : g (linkTrafficMove l cut s) = g s := by
  have hb : ∀ (t : State) c n, g (t.bumpBy c 0 n) = g t := fun t c n => State.bumpBy_keeps (fun t r => hg t r t.oxl) t c 0 n
  unfold linkTrafficMove
  split
  · rfl
  · rw [moveLink_keeps (.of_fields hg) (fun t l n => hb t _ n) (fun t l => reassign_keeps (fun t x => hg t t.regs x) l t) (fun t => hb t _ 1)]
    split
    · exact hb s _ 1
    · rfl

/-- The state whose traffic moves, where the host's frame was cut (R322). -/
def State.hostFrameCut (s : State) (l : Link) (cut : Bool) : State := if cut then s.bump (linkCode l Code.partialFrames) 0 else s

theorem State.hostFrameCut_link (s : State) (l m : Link) (cut : Bool) : (s.hostFrameCut l cut).link m = s.link m := by
  unfold State.hostFrameCut; split
  · exact State.link_bump ..
  · rfl

theorem State.hostFrameCut_oxl (s : State) (l : Link) (cut : Bool) : (s.hostFrameCut l cut).oxl = s.oxl := by
  unfold State.hostFrameCut; split <;> simp

theorem State.hostFrameCut_traffic (s : State) (l : Link) (cut : Bool) {code : Nat} (h1 : 0x620000 ≤ code) (h2 : code < 0x630000) :
    (s.hostFrameCut l cut).reg code 0 = s.reg code 0 := by
  unfold State.hostFrameCut
  split
  · exact State.reg_bumpBy_ne (by rintro rfl; revert h1 h2; decide)
      (objKey_ne (linkCode_ne_high h1 _ (by decide)) (by decide) (by decide)) 1 s
  · rfl

theorem linkTrafficMove_lost {l : Link} {cut : Bool} {s : State} (h : (s.link l).fit = false) :
    linkTrafficMove l cut s = moveLink l (s.hostFrameCut l cut) := by
  unfold linkTrafficMove State.hostFrameCut
  rw [if_neg (by simp [h])]

/-- The links behind the move of a link's traffic. -/
theorem trafficMoved_lost (s : State) (l : Link) :
    ((s.trafficMoved l).link l).besidesMessages = { s.link l with
      status := [], mgmt := [], data := [], bulk := [], bulkOpen := [], inProgress := none, moveDue := false
      stopData := false, stopBulk := false } := by
  unfold State.trafficMoved
  rw [State.link_bump, reassign_link, joinQueues_lost]
  rfl

theorem trafficMoved_other {s : State} (hm : s.linkMode ≠ 1) (l : Link) :
    ((s.trafficMoved l).link (otherLink l)).besidesMessages = { (s.link (otherLink l)).besidesMessages with
      data := s.joinedData l
      stopData := (s.link (otherLink l)).stopData || (s.link l).stopData
      stopBulk := (s.link (otherLink l)).stopBulk || (s.link l).stopBulk } := by
  unfold State.trafficMoved
  rw [State.link_bump, reassign_link, joinQueues_other hm]

/-- Working values that a move does not count in (R322). -/
theorem trafficMoved_reg {code : Nat} (h : ∀ l, code ≠ linkCode l Code.statusDrops ∧ code ≠ linkCode l Code.copiesSent)
    (hr : code ≠ Code.rollCall) (hf : code ≠ Code.linkFailovers) (s : State) (l : Link) : (s.trafficMoved l).reg code 0 = s.reg code 0 := by
  unfold State.trafficMoved
  exact (State.reg_bumpBy_ne hr (objKey_ne hf (by decide) (by decide)) 1 _).trans ((reassign_keeps (g := fun t => t.reg code 0) (fun _ _ => rfl) l _).trans
    ((besidesLinks_reg hr (by decide) (fun l => (h l).1)).joinQueues
      (fun t l n => State.reg_bumpBy_ne hr (objKey_ne (h l).2 (by decide) (by decide)) n t) _ _ _))

theorem trafficMoved_failovers (s : State) (l : Link) :
    (s.trafficMoved l).reg Code.linkFailovers 0 = min (((s.regN Code.linkFailovers 0 + 1 : Nat)) : Int) (2 ^ 32 - 1) := by
  have hjoin : (reassign l (joinQueues l (otherLink l) s)).reg Code.linkFailovers 0 = s.reg Code.linkFailovers 0 :=
    (reassign_keeps (g := fun t => t.reg Code.linkFailovers 0) (fun _ _ => rfl) l _).trans
      ((besidesLinks_traffic (by decide) (by decide)).joinQueues
        (fun t l n => State.reg_bumpBy_ne (by decide) (linkFailovers_ne_copies l) n t) _ _ _)
  rw [State.trafficMoved, State.reg_bump_same, State.regN, hjoin]
  rfl

/-- A link mode other than the mirrored one, and what is assigned, behind the move. -/
theorem trafficMoved_assigned {s : State} {l : Link} (hm : s.linkMode ≠ 1) (ha : s.assigned l = true) {t : State}
    (hreg : t.reg Code.linkMode 0 = (s.trafficMoved l).reg Code.linkMode 0) (hx : t.oxl.assignment = (s.trafficMoved l).oxl.assignment) :
    t.assigned l = false ∧ t.assigned (otherLink l) = true := by
  have hmoved : (s.trafficMoved l).linkMode = s.linkMode := congrArg Int.toNat (trafficMoved_reg (code := Code.linkMode)
    (fun l => ⟨linkCode_ne_high (by decide) _ (by decide), linkCode_ne_high (by decide) _ (by decide)⟩) (by decide) (by decide) s l)
  have hmode : t.linkMode = s.linkMode := (congrArg Int.toNat hreg).trans hmoved
  have hx' : t.oxl.assignment = assignedAway s.linkMode l s.oxl.assignment := by
    have hjoinMode : (joinQueues l (otherLink l) s).linkMode = s.linkMode := congrArg Int.toNat
      ((besidesLinks_traffic (code := Code.linkMode) (by decide) (by decide)).joinQueues (fun t l n => State.reg_bumpBy_ne (by decide)
        (objKey_ne (linkCode_ne_high (by decide) _ (by decide)) (by decide) (by decide)) n t) l (otherLink l) s)
    have hjoin : (joinQueues l (otherLink l) s).oxl.assignment = s.oxl.assignment :=
      besidesLinks_assignment.joinQueues (fun t l n => by simp) _ _ _
    rw [hx, State.trafficMoved, State.bump_oxl, reassign_assignment, hjoinMode, hjoin]
  rw [State.assigned_eq (hmode.symm ▸ hm), State.assigned_eq (hmode.symm ▸ hm), hmode, hx']
  exact assignedAway_moves hm l _ (State.assigned_eq hm l ▸ ha)

/-! ## The return of traffic -/

/-- The link's hold has run out while the other link carries its traffic (R323). -/
def State.returned (s : State) (l : Link) : State :=
  let s1 := takeBack l (fun f => !decide (f.cls = 1 ∧ f.body.head? = some 8#8)) (s.modLink l (fun y => { y with holdFrom := none }))
  { s1 with oxl := { s1.oxl with activeB := !decide (l = .a) } }

theorem returnHold_waits {l : Link} {from_ : Nat} {s : State} (h : (s.link l).holdFrom = some from_)
    (hw : s.regN Code.returnHold 0 = 0 ∨ s.time.tick < from_ + s.regN Code.returnHold 0 * 10000000) : returnHoldExpiry l s = s := by
  have hno : s.regN Code.returnHold 0 = 0 ∨ s.elapsed from_ (s.regN Code.returnHold 0 * secondTicks) = false := by
    refine hw.imp_right fun hlt => Bool.eq_false_iff.2 fun he => ?_
    have := (State.elapsed_iff s _ _).1 he
    unfold secondTicks at this
    omega
  unfold returnHoldExpiry
  dsimp only
  rw [h, if_pos]
  rcases hno with h0 | h0 <;> simp [h0]

theorem returnHold_returns {l : Link} {from_ : Nat} {s : State} (hf : (s.link l).fit = true) (h : (s.link l).holdFrom = some from_)
    (hr : s.regN Code.returnHold 0 ≠ 0) (ht : from_ + s.regN Code.returnHold 0 * 10000000 ≤ s.time.tick) (hm : s.linkMode = 2)
    (ha : s.activeLink ≠ l) (hp : s.regN Code.preferred 0 = linkNo l) :
    returnHoldExpiry l s = linkEventStatus (s.returned l).bothLinks l 4 ((s.returned l).bump Code.linkReturns 0) := by
  have he : s.elapsed from_ (s.regN Code.returnHold 0 * secondTicks) = true := (State.elapsed_iff s _ _).2 (by unfold secondTicks; omega)
  unfold returnHoldExpiry
  dsimp only
  rw [h, if_neg (by simp [hf, hr, he]), if_neg (by simp [hm]), if_pos ⟨hm, ha, hp⟩]
  rfl

theorem restartIdle_link {β : Type} {k : LinkSt → β} (hk : ∀ x n, k { x with idleFrom := n } = k x) (l m : Link) (b : Bool) (s : State) :
    k ((restartIdle l b s).link m) = k (s.link m) := by
  unfold restartIdle
  split
  · exact link_modLink_keeps (fun x => { x with idleFrom := s.time.tick }) (fun x => hk x _) l m s
  · rfl

/-- What the link takes back beside the frames (R323, R324). -/
theorem takeBack_link {β : Type} {k : LinkSt → β} (hk : ∀ x n a b st, k { x with idleFrom := n, stopData := a, stopBulk := b, status := st } = k x)
    (l : Link) (mine : OutFrame → Bool) (s : State) :
    k ((takeBack l mine s).link l) = k { s.link l with data := (s.link l).data ++ (s.link (otherLink l)).data.filter mine } := by
  have hidle : ∀ x n, k { x with idleFrom := n } = k x := fun x n => hk x n x.stopData x.stopBulk x.status
  have hpush : ∀ (f : OutFrame) (t : State), k ((pushStatus f l t).link l) = k (t.link l) := by
    intro f t
    unfold pushStatus
    split
    · exact link_modLink_keeps (fun x => { x with status := x.status ++ [f] })
        (fun x => hk x x.idleFrom x.stopData x.stopBulk _) l l t
    · rw [State.link_bump]
  unfold takeBack
  dsimp only
  rw [restartIdle_link hidle, carryStop, State.link_modLink]
  refine (hk _ _ _ _ _).trans ?_
  rw [forAll_keeps (fun t => k (t.link l)) _ _ (fun f t => hpush f t), State.link_modLink, State.link_modLink_ne (otherLink_ne l).symm]

theorem returned_keeps {β : Type} {g : State → β} (hg : ∀ (t : State) r o, g { t with regs := r, oxl := o } = g t) (s : State) (l : Link) :
    g (s.returned l) = g s :=
  (hg _ _ _).trans (((BesidesLinks.of_fields hg).takeBack l _ _).trans ((BesidesLinks.of_fields hg).link s l _))

theorem returned_traffic {code : Nat} (h1 : 0x620000 ≤ code) (h2 : code < 0x630000) (s : State) (l : Link) :
    (s.returned l).reg code 0 = s.reg code 0 :=
  ((besidesLinks_traffic h1 h2).takeBack l _ _).trans ((besidesLinks_traffic h1 h2).link s l _)

theorem returned_link {β : Type} {k : LinkSt → β} (hk : ∀ x n a b st, k { x with idleFrom := n, stopData := a, stopBulk := b, status := st } = k x)
    (s : State) (l : Link) : k ((s.returned l).link l) = k { s.link l with
      holdFrom := none
      data := (s.link l).data ++ (s.link (otherLink l)).data.filter (fun f => !decide (f.cls = 1 ∧ f.body.head? = some 8#8)) } := by
  have h := takeBack_link hk l (fun f => !decide (f.cls = 1 ∧ f.body.head? = some 8#8)) (s.modLink l (fun y => { y with holdFrom := none }))
  rw [State.link_modLink, State.link_modLink_ne (otherLink_ne l)] at h
  refine Eq.trans ?_ h
  cases l <;> rfl

end Sys2Proof.Machine

namespace Sys2Proof.Proofs

open Machine

/-- What a write of LINK_MODE leaves (R320, R324). -/
theorem linkMode_written {q : Path} {tid value : Nat} {s : State} {o : Obj} {v : Int} (hacc : s.Accepts q Code.linkMode value o v) :
    ∃ t : State, exec (.linkMode q tid value) s = .next t ∧ t.reg Code.linkMode 0 = v ∧
      t.oxl.lowOnB = (!s.oxl.a.fit && s.oxl.b.fit) ∧
      t.oxl.highOnA = (s.oxl.a.fit && !s.oxl.b.fit) ∧
      (s.oxl.a.fit = s.oxl.b.fit → t.oxl.activeB = decide (s.regN Code.preferred 0 = 1)) ∧
      (s.oxl.a.fit = true → s.oxl.b.fit = false → t.oxl.activeB = false) ∧
      (s.oxl.a.fit = false → s.oxl.b.fit = true → t.oxl.activeB = true) ∧
      t.reg Code.linkFailovers 0 = s.reg Code.linkFailovers 0 ∧ t.ports = s.ports ∧ t.ctxs = s.ctxs := by
  obtain rfl := hacc.obj findObj_linkMode
  have hdue : s.faults.due = [] := hacc.1.1.2.1
  obtain ⟨w, hw, -, -, -, hkeep⟩ := exec_accepted_calm (i := .linkMode q tid value) rfl hacc
    (u := redistribute (s.arrived q) ((s.arrived q).modeTaken v)) rfl
    (calmDue_of_none (by rw [redistribute_faults]; exact (congrArg FaultSt.due (State.arrived_faults s q)).trans hdue))
  have hmode : (collect w).oxl.assignment = ((s.arrived q).modeTaken v).oxl.assignment :=
    (hkeep besidesCollector_assignment).trans (redistribute_assignment _ _)
  obtain ⟨hlow, hhigh, hactive⟩ : (collect w).oxl.lowOnB = (!s.oxl.a.fit && s.oxl.b.fit) ∧
      (collect w).oxl.highOnA = (s.oxl.a.fit && !s.oxl.b.fit) ∧
      (collect w).oxl.activeB = ((s.arrived q).setReg Code.linkMode 0 v).activeChoice := by
    simpa [OxlSt.assignment, State.modeTaken] using hmode
  have hreg : ∀ code, 0x620000 ≤ code → code < 0x630000 → (collect w).reg code 0 = ((s.arrived q).modeTaken v).reg code 0 :=
    fun code h1 h2 => (hkeep (besidesCollector_traffic h1 h2)).trans (redistribute_traffic h1 h2 _ _)
  have hpref : ((s.arrived q).setReg Code.linkMode 0 v).regN Code.preferred 0 = s.regN Code.preferred 0 := by
    rw [State.regN, State.reg_setReg_ne _ (by decide) (objKey_ne (by decide) (by decide) (by decide)), State.arrived_reg]
    rfl
  obtain ⟨h1, h2, h3⟩ := State.activeChoice_eq ((s.arrived q).setReg Code.linkMode 0 v)
  rw [State.setReg_oxl, State.arrived_oxl, hpref, ← hactive] at h1
  rw [State.setReg_oxl, State.arrived_oxl, ← hactive] at h2 h3
  refine ⟨_, hw, ?_, hlow, hhigh, h1, h2, h3, ?_, ?_, ?_⟩
  · rw [hreg _ (by decide) (by decide)]
    exact State.reg_setReg ..
  · rw [hreg _ (by decide) (by decide), ← State.arrived_reg s q]
    exact State.reg_setReg_ne v (by decide) (objKey_ne (by decide) (by decide) (by decide))
  · exact (hkeep besidesCollector_ports).trans ((redistribute_ports _ _).trans (State.arrived_ports s q))
  · exact (hkeep besidesCollector_ctxs).trans ((redistribute_ctxs _ _).trans (State.arrived_ctxs s q))

/-- What a write of PREFERRED leaves (R320, R324). -/
theorem preferred_written {q : Path} {tid value : Nat} {s : State} {o : Obj} {v : Int} (hacc : s.Accepts q Code.preferred value o v) :
    ∃ t : State, exec (.preferred q tid value) s = .next t ∧ t.reg Code.preferred 0 = v ∧
      (s.linkMode ≠ 2 → t.oxl.activeB = s.oxl.activeB ∧ t.oxl.a.data = s.oxl.a.data ∧ t.oxl.b.data = s.oxl.b.data) ∧
      (s.linkMode = 2 → s.oxl.a.fit = s.oxl.b.fit → t.oxl.activeB = decide (v = 1)) ∧
      t.oxl.lowOnB = s.oxl.lowOnB ∧ t.oxl.highOnA = s.oxl.highOnA ∧ t.ports = s.ports ∧ t.ctxs = s.ctxs := by
  obtain rfl := hacc.obj findObj_preferred
  have hdue : s.faults.due = [] := hacc.1.1.2.1
  have hmode : (s.arrived q).linkMode = s.linkMode := State.arrived_regN s q _ _
  by_cases hm : s.linkMode = 2
  · have hu := preferredWritten_standby (hmode.trans hm) v
    obtain ⟨w, hw, -, -, -, hkeep⟩ := exec_accepted_calm (i := .preferred q tid value) rfl hacc hu
      (calmDue_of_none (by rw [redistribute_faults]; exact (congrArg FaultSt.due (State.arrived_faults s q)).trans hdue))
    have hx := (hkeep besidesCollector_assignment).trans (redistribute_assignment _ _)
    obtain ⟨hlow, hhigh, hactive⟩ : (collect w).oxl.lowOnB = s.oxl.lowOnB ∧ (collect w).oxl.highOnA = s.oxl.highOnA ∧
        (collect w).oxl.activeB = ((s.arrived q).setReg Code.preferred 0 v).activeChoice := by
      simpa [OxlSt.assignment, State.preferenceTaken] using hx
    refine ⟨_, hw, ?_, fun h => absurd hm h, fun _ hfit => ?_, hlow, hhigh, ?_, ?_⟩
    · rw [hkeep (besidesCollector_traffic (by decide) (by decide)), redistribute_traffic (by decide) (by decide)]
      exact State.reg_setReg ..
    · rw [hactive, (State.activeChoice_eq _).1 (by simpa using hfit), State.regN_setReg]
      exact decide_eq_decide.2 (by omega)
    · exact (hkeep besidesCollector_ports).trans ((redistribute_ports _ _).trans (State.arrived_ports s q))
    · exact (hkeep besidesCollector_ctxs).trans ((redistribute_ctxs _ _).trans (State.arrived_ctxs s q))
  · have hu := preferredWritten_other (fun h => hm (hmode.symm.trans h)) v
    obtain ⟨w, hw, -, -, -, hkeep⟩ := exec_accepted_calm (i := .preferred q tid value) rfl hacc hu
      (calmDue_of_none ((congrArg FaultSt.due (State.arrived_faults s q)).trans hdue))
    have hx := hkeep besidesCollector_assignment
    obtain ⟨hlow, hhigh, hactive⟩ : (collect w).oxl.lowOnB = s.oxl.lowOnB ∧ (collect w).oxl.highOnA = s.oxl.highOnA ∧
        (collect w).oxl.activeB = s.oxl.activeB := by
      simpa [OxlSt.assignment] using hx
    have hdata : ∀ l, ((collect w).link l).data = (s.link l).data := fun l =>
      (hkeep (besidesCollector_data l)).trans (by rw [State.link_setReg, State.arrived_link])
    refine ⟨_, hw, ?_, fun _ => ⟨hactive, hdata .a, hdata .b⟩, fun h => absurd h hm, hlow, hhigh, ?_, ?_⟩
    · rw [hkeep (besidesCollector_traffic (by decide) (by decide))]
      exact State.reg_setReg ..
    · exact (hkeep besidesCollector_ports).trans (State.arrived_ports s q)
    · exact (hkeep besidesCollector_ctxs).trans (State.arrived_ctxs s q)

/-- What FORCE_SWITCH leaves (R322). -/
theorem forceSwitch_written {q : Path} {tid value : Nat} {s : State} {o : Obj} (hacc : s.Accepts q Code.forceSwitch value o 1) :
    ∃ t : State, exec (.forceSwitch q tid value) s = .next t ∧ t.oxl.activeB = (!s.oxl.activeB) ∧
      t.reg Code.linkFailovers 0 = min (((s.regN Code.linkFailovers 0 + 1 : Nat)) : Int) (2 ^ 32 - 1) ∧
      t.ports = s.ports ∧ t.ctxs = s.ctxs := by
  obtain rfl := hacc.obj findObj_forceSwitch
  have hdue : s.faults.due = [] := hacc.1.1.2.1
  obtain ⟨hm, ha⟩ := forceSwitch_permitted (hacc.notRefused (by decide))
  obtain ⟨w, hw, -, -, -, hkeep⟩ := exec_accepted_calm (i := .forceSwitch q tid value) rfl hacc (forceSwitch_switches hm ha)
    (calmDue_of_none (by
      rw [State.bump_faults, redistribute_faults]; exact (congrArg FaultSt.due (State.arrived_faults s q)).trans hdue))
  refine ⟨_, hw, ?_, ?_, ?_, ?_⟩
  · have hx := hkeep besidesCollector_assignment
    rw [State.bump_oxl, redistribute_assignment] at hx
    have hactive : (collect w).oxl.activeB = !(s.arrived q).oxl.activeB := congrArg (fun x => x.2.2) hx
    rw [hactive, State.arrived_oxl]
  · rw [hkeep (besidesCollector_traffic (by decide) (by decide)), State.reg_bump_same, State.regN,
      redistribute_traffic (by decide) (by decide)]
    rw [show (s.arrived q).switched.reg Code.linkFailovers 0 = s.reg Code.linkFailovers 0 from State.arrived_reg s q _ _]
    rfl
  · rw [hkeep besidesCollector_ports, State.bump_ports, redistribute_ports]
    exact State.arrived_ports s q
  · rw [hkeep besidesCollector_ctxs, State.bump_ctxs, redistribute_ctxs]
    exact State.arrived_ctxs s q

/-- What the move of a lost link's traffic leaves (R322). -/
theorem linkTrafficMove_moves {l : Link} {cut : Bool} {s : State} (hs : s.Ready) (hf : (s.link l).fit = false)
    (ho : (s.link (otherLink l)).fit = true) (ha : s.assigned l = true) (hm : s.linkMode ≠ 1) :
    ∃ t : State, exec (.linkTrafficMove l cut) s = .next t ∧
      t.reg Code.linkFailovers 0 = min (((s.regN Code.linkFailovers 0 + 1 : Nat)) : Int) (2 ^ 32 - 1) ∧
      (cut = true → t.reg (linkCode l Code.partialFrames) 0 =
        min (((s.regN (linkCode l Code.partialFrames) 0 + 1 : Nat)) : Int) (2 ^ 32 - 1)) ∧
      (t.link l).data = [] ∧ (t.link l).bulkOpen = [] ∧ (t.link l).inProgress = none ∧ (t.link l).moveDue = false ∧
      t.assigned l = false ∧ t.assigned (otherLink l) = true ∧
      ((s.link l).inProgress = none →
        (t.link (otherLink l)).data = (s.link (otherLink l)).data ++ (s.link l).data) ∧
      (∀ f : OutFrame, (s.link l).inProgress = some f → f.cls = 0 →
        (s.link l).progressAt ≤ (s.link l).lostAt → (s.link l).lostAt < (s.link l).progressAt + frameTicks f →
        (t.link (otherLink l)).data =
          { f with copy := true } :: (s.link (otherLink l)).data ++ (s.link l).data) ∧
      (t.link (otherLink l)).stopData = ((s.link (otherLink l)).stopData || (s.link l).stopData) ∧
      t.ports = s.ports ∧ t.ctxs = s.ctxs := by
  obtain ⟨u, hu⟩ : ∃ u, u = s.hostFrameCut l cut := ⟨_, rfl⟩
  have hlink : ∀ m, u.link m = s.link m := fun m => hu ▸ State.hostFrameCut_link s l m cut
  have htraffic : ∀ {code}, 0x620000 ≤ code → code < 0x630000 → u.reg code 0 = s.reg code 0 :=
    fun h1 h2 => hu ▸ State.hostFrameCut_traffic s l cut h1 h2
  have hmode : u.linkMode = s.linkMode := congrArg Int.toNat (htraffic (by decide) (by decide))
  have hassigned : u.assigned l = true := by
    rw [State.assigned_eq (hmode.symm ▸ hm), hmode, hu, State.hostFrameCut_oxl, ← State.assigned_eq hm, ha]
  have heq : linkTrafficMove l cut s =
      linkEventStatus [otherLink l] (otherLink l) 3 (linkEventStatus [otherLink l] l 1 (u.trafficMoved l)) := by
    rw [linkTrafficMove_lost hf, ← hu]
    exact moveLink_moves (by rw [hlink, hf]) (by rw [hlink, ho]) hassigned
  have hkeep : ∀ {β : Type} {g : State → β}, BesidesMessages g → g (linkTrafficMove l cut s) = g (u.trafficMoved l) := by
    intro β g hg
    rw [heq, hg.linkEventStatus, hg.linkEventStatus]
  have hreg : ∀ {code}, 0x620000 ≤ code → code < 0x630000 →
      (linkTrafficMove l cut s).reg code 0 = (u.trafficMoved l).reg code 0 := fun h1 h2 => hkeep (besidesLinks_traffic h1 h2).messages
  have hlost : ((linkTrafficMove l cut s).link l).besidesMessages = _ :=
    (hkeep (besidesCollector_link l).toBesidesMessages).trans (trafficMoved_lost u l)
  have hother : ((linkTrafficMove l cut s).link (otherLink l)).besidesMessages = _ :=
    (hkeep (besidesCollector_link _).toBesidesMessages).trans (trafficMoved_other (hmode.symm ▸ hm) l)
  have hdata : ((linkTrafficMove l cut s).link (otherLink l)).data = u.joinedData l := (congrArg (fun x : LinkSt => x.data) hother :)
  obtain ⟨ht1, ht2⟩ := trafficMoved_assigned (t := linkTrafficMove l cut s) (hmode.symm ▸ hm) hassigned
    (hreg (by decide) (by decide)) (hkeep besidesCollector_assignment.toBesidesMessages)
  refine ⟨_, run_quiet (f := linkTrafficMove l cut) hs (linkTrafficMove_keeps (fun _ _ _ => rfl) l cut s), ?_, fun hc => ?_, ?_, ?_, ?_, ?_, ht1, ht2,
    fun hn => ?_, fun f hp hc h1 h2 => ?_, ?_, linkTrafficMove_keeps (fun _ _ _ => rfl) l cut s, linkTrafficMove_keeps (fun _ _ _ => rfl) l cut s⟩
  · rw [hreg (by decide) (by decide), trafficMoved_failovers, State.regN, htraffic (by decide) (by decide)]
    rfl
  · have hne : ∀ m c, c % 2 ^ 16 ≠ Code.partialFrames % 2 ^ 16 → c < 0x610000 → linkCode l Code.partialFrames ≠ linkCode m c := by
      intro m c hc hlt
      cases l <;> cases m <;> simp only [linkCode] at * <;> omega
    have hp : (linkTrafficMove l cut s).reg (linkCode l Code.partialFrames) 0 = (u.trafficMoved l).reg (linkCode l Code.partialFrames) 0 :=
      hkeep (besidesLinks_reg (by cases l <;> decide) (by decide) (fun m => hne m _ (by decide) (by decide))).messages
    rw [hp, trafficMoved_reg (fun m => ⟨hne m _ (by decide) (by decide), hne m _ (by decide) (by decide)⟩) (by cases l <;> decide)
      (by cases l <;> decide), hu, State.hostFrameCut, hc]
    exact State.reg_bump_same s _ 0
  · exact (congrArg (fun x : LinkSt => x.data) hlost :)
  · exact (congrArg (fun x : LinkSt => x.bulkOpen) hlost :)
  · exact (congrArg (fun x : LinkSt => x.inProgress) hlost :)
  · exact (congrArg (fun x : LinkSt => x.moveDue) hlost :)
  · rw [hdata, State.joinedData_whole (by rw [hlink, hn]), hlink, hlink]
  · rw [hdata, State.joinedData_cut (by rw [hlink, hp]) hc (by rw [hlink]; exact h1) (by rw [hlink]; exact h2), hlink, hlink]
  · rw [← hlink, ← hlink]
    exact (congrArg (fun x : LinkSt => x.stopData) hother :)

/-- What a return leaves (R323). -/
theorem returnHold_returned {l : Link} {from_ : Nat} {s : State} (hs : s.Ready) (hf : (s.link l).fit = true)
    (h : (s.link l).holdFrom = some from_) (hr : s.regN Code.returnHold 0 ≠ 0)
    (ht : from_ + s.regN Code.returnHold 0 * 10000000 ≤ s.time.tick) (hm : s.linkMode = 2) (ha : s.activeLink ≠ l)
    (hp : s.regN Code.preferred 0 = linkNo l) :
    ∃ t : State, exec (.returnHoldExpiry l) s = .next t ∧ t.activeLink = l ∧ (t.link l).holdFrom = none ∧
      (t.link l).data = (s.link l).data ++ (s.link (otherLink l)).data.filter
        (fun f => !decide (f.cls = 1 ∧ f.body.head? = some 8#8)) ∧
      t.reg Code.linkReturns 0 = min (((s.regN Code.linkReturns 0 + 1 : Nat)) : Int) (2 ^ 32 - 1) ∧
      t.ports = s.ports ∧ t.ctxs = s.ctxs := by
  have heq := returnHold_returns hf h hr ht hm ha hp
  have hkeep : ∀ {β : Type} {g : State → β}, BesidesMessages g → g (returnHoldExpiry l s) = g ((s.returned l).bump Code.linkReturns 0) := by
    intro β g hg
    rw [heq, hg.linkEventStatus]
  have hfields : ∀ {β : Type} {g : State → β}, (∀ (t : State) r o, g { t with regs := r, oxl := o } = g t) → g (returnHoldExpiry l s) = g s :=
    fun hg => (hkeep (BesidesLinks.of_fields hg).messages).trans
      ((State.bumpBy_keeps (fun t r => hg t r t.oxl) _ _ _ 1).trans (returned_keeps hg s l))
  have hlink : ((returnHoldExpiry l s).link l).besidesMessages = ((s.returned l).link l).besidesMessages :=
    (hkeep (besidesCollector_link l).toBesidesMessages).trans (by rw [State.link_bump])
  refine ⟨_, run_quiet (f := returnHoldExpiry l) hs (hfields fun _ _ _ => rfl), ?_, ?_, ?_, ?_, hfields fun _ _ _ => rfl, hfields fun _ _ _ => rfl⟩
  · have hx : (returnHoldExpiry l s).oxl.assignment = (s.returned l).oxl.assignment :=
      (hkeep besidesCollector_assignment.toBesidesMessages).trans (by rw [State.bump_oxl])
    have hactive : (returnHoldExpiry l s).oxl.activeB = !decide (l = .a) := congrArg (fun x => x.2.2) hx
    rw [State.activeLink, hactive]
    cases l <;> rfl
  · exact (congrArg (fun x : LinkSt => x.holdFrom) hlink).trans (returned_link (k := LinkSt.holdFrom) (fun _ _ _ _ _ => rfl) s l)
  · exact (congrArg (fun x : LinkSt => x.data) hlink).trans (returned_link (k := LinkSt.data) (fun _ _ _ _ _ => rfl) s l)
  · rw [hkeep (besidesLinks_traffic (by decide) (by decide)).messages, State.reg_bump_same, State.regN,
      returned_traffic (by decide) (by decide)]
    rfl

/-- Settles O57: each write and each event of the links is its redistribution, its move or its return of the frames. -/
theorem trafficMovesBetweenTheLinks : Obligations.TrafficMovesBetweenTheLinks := by
  refine ⟨fun _ _ _ _ _ _ => linkMode_written, fun _ _ _ _ _ _ => preferred_written, fun _ _ _ _ _ => forceSwitch_written,
    fun l cut s hs => ⟨fun hf => ?fit, fun hf ho hc => ?both, linkTrafficMove_moves hs⟩,
    fun l from_ s hs hf h => ⟨fun hw => ?waits, returnHold_returned hs hf h⟩⟩
  case fit =>
    have heq : linkTrafficMove l cut s = s := if_pos hf
    exact (run_quiet (f := linkTrafficMove l cut) hs (by rw [heq])).trans (by rw [heq])
  case both =>
    have heq : linkTrafficMove l cut s = s := by
      rw [linkTrafficMove_lost hf, hc]
      exact if_pos (by simp only [State.hostFrameCut_link, hf, ho]; rfl)
    exact (run_quiet (f := linkTrafficMove l cut) hs (by rw [heq])).trans (by rw [heq])
  case waits =>
    have heq := returnHold_waits h hw
    exact (run_quiet (f := returnHoldExpiry l) hs (by rw [heq])).trans (by rw [heq])

end Sys2Proof.Proofs

/-! PROOFS. The loss and the return of a host link for traffic: what refreshing it leaves (R307, R321–R324). -/

namespace Sys2Proof.Machine

/-! ## Calm core cycles of a command -/

/-- A command whose occurrences cannot stop the device. -/
theorem run_calmDue {f : State → State} {s : State} (hs : s.Ready) (hf : (f s).CalmDue) :
    run f s = .next (collect (f s)) ∧ ∀ {β : Type} {g : State → β}, BesidesCollector g → g (collect (f s)) = g (f s) :=
  ⟨run_running f hs.1, fun hg => collect_calm hg hf⟩

theorem State.CalmDue.of_due {s t : State} (h : s.CalmDue) (hd : t.faults.due = s.faults.due) : t.CalmDue := by
  unfold State.CalmDue
  rw [hd]
  exact h

theorem State.CalmDue.fault {s : State} (h : s.CalmDue) {source : Nat} (hc : defaultClass source ≤ 2) (key : List Nat)
    (detail : List (Nat × Nat)) : (fault source key detail s).CalmDue := by
  intro o ho
  rcases List.mem_append.1 ho with ho | ho
  · exact h o ho
  · obtain rfl := List.mem_singleton.1 ho
    exact ⟨rfl, hc⟩

/-- A counter of a link, which neither messages nor frames of requests count in. -/
theorem besidesCollector_linkReg {c : Nat} (h1 : 0x600000 ≤ c) (h2 : c < 0x610000)
    (hd : c % 2 ^ 16 ≠ Code.statusDrops % 2 ^ 16) (hf : c % 2 ^ 16 ≠ Code.framesIn % 2 ^ 16) (l : Link) :
    BesidesCollector (fun t => t.reg (linkCode l c) 0) := by
  have hlow : 0x600000 ≤ linkCode l c ∧ linkCode l c < 0x620000 := by cases l <;> simp only [linkCode] <;> omega
  refine besidesCollector_reg ?_ (by decide) (fun m => ?_) (fun m => ?_) ?_
  · intro h; rw [h] at hlow; exact absurd hlow (by decide)
  · exact fun h => linkCode_key_ne (l := l) (m := m) hd (congrArg (objKey · 0) h)
  · exact fun h => linkCode_key_ne (l := l) (m := m) hf (congrArg (objKey · 0) h)
  · intro h; rw [h] at hlow; exact absurd hlow (by decide)

/-! ## Parts of a link that moves of traffic leave -/

/-- A function of a link that sees nothing of its queues (R322, R324). -/
structure BesidesQueues {β : Type} (k : LinkSt → β) : Prop where
  queues : ∀ (x : LinkSt) a b c d e f g h i, k { x with
    status := a, mgmt := b, data := c, bulk := d, bulkOpen := e, inProgress := f, moveDue := g, stopData := h, stopBulk := i } = k x

section
variable {β : Type} {k : LinkSt → β}

theorem BesidesQueues.pushStatus (hk : BesidesQueues k) (f : OutFrame) (l m : Link) (s : State) :
    k ((pushStatus f l s).link m) = k (s.link m) := by
  unfold Machine.pushStatus
  split
  · exact link_modLink_keeps (fun x => { x with status := x.status ++ [f] })
      (fun x => hk.queues x _ x.mgmt x.data x.bulk x.bulkOpen x.inProgress x.moveDue x.stopData x.stopBulk) l m s
  · rw [State.link_bump]

theorem BesidesQueues.linkEventStatus (hk : BesidesQueues k) (links : List Link) (l m : Link) (event : Nat) (s : State) :
    k ((linkEventStatus links l event s).link m) = k (s.link m) :=
  sendStatus_keeps (fun t => k (t.link m)) (fun x l t => hk.pushStatus x l m t) (fun t _ => by cases m <;> rfl) _ _ _ _ _ _ s

theorem BesidesQueues.joinQueues (hk : BesidesQueues k) (lost other m : Link) (s : State) :
    k ((joinQueues lost other s).link m) = k (s.link m) := by
  unfold Machine.joinQueues
  dsimp only
  rw [State.link_bumpBy, forAll_keeps (fun t => k (t.link m)) _ _ (fun f t => hk.pushStatus f other m t)]
  refine (link_modLink_keeps (k := k) _ (fun x => ?_) _ _ _).trans (link_modLink_keeps (k := k) _ (fun x => ?_) _ _ _)
  · exact hk.queues x _ x.mgmt _ x.bulk x.bulkOpen x.inProgress x.moveDue _ _
  · exact hk.queues x _ _ _ _ _ _ _ _ _

theorem BesidesQueues.moveLink (hk : BesidesQueues k) (l m : Link) (s : State) : k ((moveLink l s).link m) = k (s.link m) := by
  unfold Machine.moveLink
  dsimp only
  split
  · rfl
  · split
    · exact hk.joinQueues _ _ _ _
    · rw [hk.linkEventStatus, hk.linkEventStatus, State.link_bump, reassign_link, hk.joinQueues]

end

/-! ## Refreshing a link -/

/-- The link once it is lost for traffic, before anything is raised (R321, R324). -/
def State.linkLost (s : State) (l : Link) : State :=
  silence l (s.modLink l (fun x => { x with fit := false, moveDue := true, holdFrom := none, lostAt := s.time.tick }))

/-- Whether the loss has a cause that is not raised (R403). -/
def State.lossMeant (s : State) (l : Link) : Bool := s.prbsSends l || s.prbsChecks l || !s.linkOn l

/-- The loss once its own source is raised. -/
def State.lossRaised (s : State) (l : Link) (before : Nat) : State :=
  if s.lossMeant l then s.linkLost l else fault (linkSource l) [] [(1, before)] (s.linkLost l)

theorem refreshLink_lost {l : Link} {before : Nat} {s : State} (hf : (s.link l).fit = true) (hl : s.lostForTraffic l = true) :
    refreshLink l before s =
      if !((s.lossRaised l before).link (otherLink l)).fit && ((s.lossRaised l before).linkOn .a || (s.lossRaised l before).linkOn .b)
      then fault 20 [] [] (s.lossRaised l before) else s.lossRaised l before := by
  unfold refreshLink
  dsimp only
  rw [hf, hl]
  rfl

/-- The link once it is lost no more (R322, R323). -/
def State.linkFound (s : State) (l : Link) : State :=
  endConditions 20 (endConditions (linkSource l) (s.modLink l (fun x => { x with fit := true, moveDue := false, holdFrom := some s.time.tick })))

theorem refreshLink_found {l : Link} {before : Nat} {s : State} (hf : (s.link l).fit = false) (hl : s.lostForTraffic l = false) :
    refreshLink l before s =
      if ((s.linkFound l).link (otherLink l)).fit then s.linkFound l else moveLink (otherLink l) (s.linkFound l) := by
  unfold refreshLink
  dsimp only
  rw [hf, hl]
  rfl

theorem refreshLink_same {l : Link} {before : Nat} {s : State} (h : (s.link l).fit = !s.lostForTraffic l) : refreshLink l before s = s := by
  unfold refreshLink
  exact if_pos h

/-- The three ways in which a link is refreshed. -/
theorem refreshLink_cases (l : Link) (s : State) :
    (s.link l).fit = (!s.lostForTraffic l) ∨ ((s.link l).fit = true ∧ s.lostForTraffic l = true) ∨
      ((s.link l).fit = false ∧ s.lostForTraffic l = false) := by
  cases (s.link l).fit <;> cases s.lostForTraffic l <;> simp

theorem linkLost_keeps {β : Type} {g : State → β} (hg : ∀ (t : State) m o, g { t with mgmt := m, oxl := o } = g t) (s : State) (l : Link) :
    g (s.linkLost l) = g s := by
  unfold State.linkLost silence
  refine (hg _ _ _).trans ?_
  exact (modLink_keeps (fun t x => hg t t.mgmt x) l _ _).trans (modLink_keeps (fun t x => hg t t.mgmt x) l _ s)

theorem linkFound_keeps {β : Type} {g : State → β} (hg : ∀ (t : State) o f, g { t with oxl := o, faults := f } = g t) (s : State) (l : Link) :
    g (s.linkFound l) = g s := by
  unfold State.linkFound endConditions
  exact (hg _ _ _).trans ((hg _ _ _).trans (modLink_keeps (fun t x => hg t x t.faults) l _ s))

theorem linkFound_link {β : Type} {k : LinkSt → β} (l m : Link) (s : State) :
    k ((s.linkFound l).link m) = k ((s.modLink l (fun x => { x with fit := true, moveDue := false, holdFrom := some s.time.tick })).link m) := by
  cases m <;> rfl

/-- What sees neither the links, the waiting requests, the working values nor the faults. -/
theorem refreshLink_keeps {β : Type} {g : State → β} (hg : ∀ (t : State) r m o f, g { t with regs := r, mgmt := m, oxl := o, faults := f } = g t)
    (l : Link) (before : Nat) (s : State) : g (refreshLink l before s) = g s := by
  have hlost : g (s.lossRaised l before) = g s := by
    unfold State.lossRaised
    split
    · exact linkLost_keeps (fun t m o => hg t t.regs m o t.faults) s l
    · exact (hg _ _ _ _ _).trans (linkLost_keeps (fun t m o => hg t t.regs m o t.faults) s l)
  have hfound : g (s.linkFound l) = g s := linkFound_keeps (fun t o f => hg t t.regs t.mgmt o f) s l
  rcases refreshLink_cases l s with h | ⟨hf, hl⟩ | ⟨hf, hl⟩
  · rw [refreshLink_same h]
  · rw [refreshLink_lost hf hl]
    split
    · exact (hg _ _ _ _ _).trans hlost
    · exact hlost
  · rw [refreshLink_found hf hl]
    split
    · exact hfound
    · exact (moveLink_keeps (BesidesLinks.of_fields fun t r o => hg t r t.mgmt o t.faults)
        (fun t l n => State.bumpBy_keeps (fun t r => hg t r t.mgmt t.oxl t.faults) t _ 0 n)
        (fun t l => reassign_keeps (fun t x => hg t t.regs t.mgmt x t.faults) l t)
        (fun t => State.bumpBy_keeps (fun t r => hg t r t.mgmt t.oxl t.faults) t _ 0 1) _ _).trans hfound

/-- The link itself, once it is refreshed: its state is not touched, and it is fit unless it is lost (R321). -/
theorem refreshLink_link {β : Type} {k : LinkSt → β} (hk : BesidesQueues k)
    (hfit : ∀ (x : LinkSt) f h n, k { x with fit := f, holdFrom := h, lostAt := n } = k x) (l : Link) (before : Nat) (s : State) (m : Link) :
    k ((refreshLink l before s).link m) = k (s.link m) := by
  have hmark : ∀ (f g : Bool) (h : Option Nat) (n : LinkSt → Nat), k ((s.modLink l (fun x => { x with fit := f, moveDue := g, holdFrom := h, lostAt := n x })).link m) =
      k (s.link m) := by
    intro f g h n
    refine link_modLink_keeps (k := k) _ (fun x => ?_) _ _ _
    exact (hk.queues { x with fit := f, holdFrom := h, lostAt := n x } x.status x.mgmt x.data x.bulk x.bulkOpen x.inProgress g x.stopData x.stopBulk).trans
      (hfit x _ _ _)
  have hlost : k ((s.lossRaised l before).link m) = k (s.link m) := by
    have hsilent : k ((s.linkLost l).link m) = k (s.link m) := by
      refine Eq.trans ?_ (hmark false true none (fun _ => s.time.tick))
      refine Eq.trans ?_ (link_modLink_keeps (k := k) (fun x => { x with mgmt := [] })
        (fun x => hk.queues x x.status [] x.data x.bulk x.bulkOpen x.inProgress x.moveDue x.stopData x.stopBulk) l m _)
      cases m <;> rfl
    unfold State.lossRaised
    split
    · exact hsilent
    · refine Eq.trans ?_ hsilent
      cases m <;> rfl
  have hfound : k ((s.linkFound l).link m) = k (s.link m) :=
    (linkFound_link l m s).trans (hmark true false _ (fun x => x.lostAt))
  rcases refreshLink_cases l s with h | ⟨hf, hl⟩ | ⟨hf, hl⟩
  · rw [refreshLink_same h]
  · rw [refreshLink_lost hf hl]
    split
    · refine Eq.trans ?_ hlost
      cases m <;> rfl
    · exact hlost
  · rw [refreshLink_found hf hl]
    split
    · exact hfound
    · exact (hk.moveLink _ _ _).trans hfound

theorem linkLost_link (s : State) (l : Link) : (s.linkLost l).link l = { s.link l with
    fit := false, moveDue := true, holdFrom := none, lostAt := s.time.tick, mgmt := [] } := by
  cases l <;> rfl

theorem lossRaised_link (s : State) (l : Link) (before : Nat) : (s.lossRaised l before).link l = (s.linkLost l).link l := by
  unfold State.lossRaised
  split
  · rfl
  · cases l <;> rfl

theorem lossRaised_link_other (s : State) (l : Link) (before : Nat) : (s.lossRaised l before).link (otherLink l) = s.link (otherLink l) := by
  unfold State.lossRaised
  split <;> cases l <;> rfl

/-- A link that is lost for traffic is not fit, and one that has just become so has its move due (R321, R322). -/
theorem refreshLink_unfit {l : Link} {before : Nat} {s : State} (hl : s.lostForTraffic l = true) :
    ((refreshLink l before s).link l).fit = false ∧ ((s.link l).fit = true → ((refreshLink l before s).link l).moveDue = true) := by
  cases hf : (s.link l).fit with
  | false =>
    have h := refreshLink_same (l := l) (before := before) (s := s) (by rw [hf, hl]; rfl)
    rw [h]
    exact ⟨hf, fun h => by cases h⟩
  | true =>
    have hlink : (refreshLink l before s).link l = (s.linkLost l).link l := by
      rw [← lossRaised_link s l before, refreshLink_lost hf hl]
      split
      · cases l <;> rfl
      · rfl
    rw [hlink, linkLost_link]
    exact ⟨rfl, fun _ => rfl⟩

/-- A link that is not lost is fit (R321). -/
theorem refreshLink_fit {l : Link} {before : Nat} {s : State} (hl : s.lostForTraffic l = false) :
    ((refreshLink l before s).link l).fit = true := by
  cases hf : (s.link l).fit with
  | true => rw [refreshLink_same (by rw [hf, hl]; rfl)]; exact hf
  | false =>
    have hfound : ((s.linkFound l).link l).fit = true := (linkFound_link (k := LinkSt.fit) l l s).trans (by rw [State.link_modLink])
    rw [refreshLink_found hf hl]
    split
    · exact hfound
    · exact (BesidesQueues.moveLink (k := LinkSt.fit) ⟨fun _ _ _ _ _ _ _ _ _ _ => rfl⟩ _ _ _).trans hfound

theorem linkSource_class (l : Link) : defaultClass (linkSource l) ≤ 2 := by cases l <;> decide

/-- What is raised when a link is refreshed cannot stop the device (R403). -/
theorem State.CalmDue.refreshLink {s : State} (h : s.CalmDue) (l : Link) (before : Nat) : (refreshLink l before s).CalmDue := by
  have hlost : (s.linkLost l).CalmDue := h.of_due (linkLost_keeps (g := fun t => t.faults.due) (fun _ _ _ => rfl) s l)
  have hraised : (s.lossRaised l before).CalmDue := by
    unfold State.lossRaised
    split
    · exact hlost
    · exact hlost.fault (linkSource_class l) _ _
  have hfound : (s.linkFound l).CalmDue := h.of_due (modLink_keeps (g := fun t => t.faults.due) (fun _ _ => rfl) l
    (fun x => { x with fit := true, moveDue := false, holdFrom := some s.time.tick }) s)
  rcases refreshLink_cases l s with hs | ⟨hf, hl⟩ | ⟨hf, hl⟩
  · rw [refreshLink_same hs]; exact h
  · rw [refreshLink_lost hf hl]
    split
    · exact hraised.fault (by decide) _ _
    · exact hraised
  · rw [refreshLink_found hf hl]
    split
    · exact hfound
    · exact hfound.of_due (moveLink_keeps (g := fun t => t.faults.due) (BesidesLinks.of_fields fun _ _ _ => rfl)
        (fun t l n => by simp) (fun t l => reassign_keeps (g := fun t => t.faults.due) (fun _ _ => rfl) l t) (fun t => by simp) _ _)

/-- A counter of a link that a move does not count in. -/
theorem refreshLink_reg {code : Nat} (hr : code ≠ Code.rollCall) (hf : code ≠ Code.linkFailovers)
    (hd : ∀ m, code ≠ linkCode m Code.statusDrops) (hc : ∀ m, code ≠ linkCode m Code.copiesSent) (l : Link) (before : Nat) (s : State) :
    (refreshLink l before s).reg code 0 = s.reg code 0 := by
  have hfound : (s.linkFound l).reg code 0 = s.reg code 0 := linkFound_keeps (g := fun t => t.reg code 0) (fun _ _ _ => rfl) s l
  have hraised : (s.lossRaised l before).reg code 0 = s.reg code 0 := by
    unfold State.lossRaised
    split
    · exact linkLost_keeps (g := fun t => t.reg code 0) (fun _ _ _ => rfl) s l
    · exact linkLost_keeps (g := fun t => t.reg code 0) (fun _ _ _ => rfl) s l
  rcases refreshLink_cases l s with hs | ⟨hfit, hl⟩ | ⟨hfit, hl⟩
  · rw [refreshLink_same hs]
  · rw [refreshLink_lost hfit hl]
    split <;> exact hraised
  · rw [refreshLink_found hfit hl]
    split
    · exact hfound
    · exact (moveLink_keeps (besidesLinks_reg hr (by decide) hd)
        (fun t m n => State.reg_bumpBy_ne hr (objKey_ne (hc m) (by decide) (by decide)) n t)
        (fun t m => reassign_keeps (g := fun t => t.reg code 0) (fun _ _ => rfl) m t)
        (fun t => State.reg_bumpBy_ne hr (objKey_ne hf (by decide) (by decide)) 1 t) _ _).trans hfound

/-- The loss of a link that is in use and under no test raises its source once (R403 sources 18, 19). -/
theorem refreshLink_raises {l : Link} {before : Nat} {s : State} (hf : (s.link l).fit = true) (hl : s.lostForTraffic l = true)
    (hm : s.lossMeant l = false) :
    ∃ u, RaisesBeside (linkSource l) s u ∧
      RaisesBeside (linkSource l) (notice { source := linkSource l, key := [], detail := [(1, before)] } u) (refreshLink l before s) := by
  refine ⟨s.linkLost l, .of_same (linkLost_keeps (g := fun t => t.faults.due) (fun _ _ _ => rfl) s l)
    (linkLost_keeps (g := fun t => t.aon.faultCounts) (fun _ _ _ => rfl) s l), ?_⟩
  have hraised : s.lossRaised l before = notice { source := linkSource l, key := [], detail := [(1, before)] } (s.linkLost l) := by
    unfold State.lossRaised
    rw [hm]
    rfl
  rw [refreshLink_lost hf hl, hraised]
  split
  · exact RaisesBeside.notice rfl (by cases l <;> decide) _
  · exact .refl _ _

end Sys2Proof.Machine

/-! PROOFS. A host link's bring-up, its ALIGN pairs and its loss, and the statement about them (R302–R307, R311, R321). -/

namespace Sys2Proof.Machine

/-- A command whose effect raises nothing. -/
theorem run_to {f : State → State} {s t : State} (hs : s.Ready) (h : f s = t) (hf : t.faults = s.faults) : run f s = .next t :=
  h ▸ run_quiet hs (h ▸ hf)

/-! ## The settings of a link -/

/-- The objects of a link that say whether it is in use and under test (R321, R325, R327). -/
def linkSettings : List Nat := [Code.linkEnable, Code.prbsGen, Code.prbsGen + 256, Code.prbsCheck, Code.prbsCheck + 256]

/-- Two states in which the links stand under the same settings. -/
def SameSettings (s t : State) : Prop := ∀ c ∈ linkSettings, ∀ l, t.reg (linkCode l c) 0 = s.reg (linkCode l c) 0

theorem SameSettings.linkOn {s t : State} (h : SameSettings s t) (l : Link) : t.linkOn l = s.linkOn l := by
  unfold State.linkOn State.regB
  rw [h _ (by decide) l]

theorem SameSettings.prbsSends {s t : State} (h : SameSettings s t) (l : Link) : t.prbsSends l = s.prbsSends l := by
  have h0 := h Code.prbsGen (by decide) l
  have h1 := h (Code.prbsGen + 256) (by decide) l
  unfold State.prbsSends State.regN laneCode
  rw [show Code.prbsGen + 256 * 0 = Code.prbsGen from rfl, show Code.prbsGen + 256 * 1 = Code.prbsGen + 256 from rfl, h0, h1]

theorem SameSettings.prbsChecks {s t : State} (h : SameSettings s t) (l : Link) : t.prbsChecks l = s.prbsChecks l := by
  have h0 := h Code.prbsCheck (by decide) l
  have h1 := h (Code.prbsCheck + 256) (by decide) l
  unfold State.prbsChecks State.regN laneCode
  rw [show Code.prbsCheck + 256 * 0 = Code.prbsCheck from rfl, show Code.prbsCheck + 256 * 1 = Code.prbsCheck + 256 from rfl, h0, h1]

theorem SameSettings.trans {s t u : State} (h1 : SameSettings s t) (h2 : SameSettings t u) : SameSettings s u :=
  fun c hc l => (h2 c hc l).trans (h1 c hc l)

theorem SameSettings.of_regs {s t : State} (hr : t.regs = s.regs) (hn : t.time.n = s.time.n) : SameSettings s t :=
  fun _ _ _ => State.reg_congr hr hn _ _

theorem linkSettings_code {c : Nat} (h : c ∈ linkSettings) (l : Link) : linkCode l c ≠ Code.rollCall := by
  revert c
  cases l <;> decide

/-- A counter of a link is none of its settings. -/
theorem SameSettings.bumpBy {d : Nat} (hd : ∀ c ∈ linkSettings, c % 2 ^ 16 ≠ d % 2 ^ 16) (s : State) (m : Link) (n : Nat) :
    SameSettings s (s.bumpBy (linkCode m d) 0 n) :=
  fun c hc l => State.reg_bumpBy_ne (linkSettings_code hc l) (linkCode_key_ne (hd c hc)) n s

theorem State.lostForTraffic_congr {s t : State} (h : SameSettings s t) {l : Link}
    (hst : (t.link l).state = (s.link l).state) (hd : (t.link l).farDown = (s.link l).farDown) :
    t.lostForTraffic l = s.lostForTraffic l := by
  unfold State.lostForTraffic State.rxUp
  rw [h.prbsSends, h.prbsChecks, h.linkOn, hst, hd]

/-! ## Bring-up -/

/-- The receive side of a link that starts anew (R299, R305, R307). -/
def LinkSt.restarted (x : LinkSt) (st : Nat) : LinkSt :=
  { x with
    state := st, alignIn := none, alignGood := 0, alignBad := 0, rxQuiet := false, rxExiting := false, farDown := 0
    rx0 := { x.rx0 with prev := 0 }, rx1 := { x.rx1 with prev := 0 }, rxBlocks := 0, sync0 := [], sync1 := []
    rxFrame := none, rxSkip := false }

/-- The state that it starts in (R305, R325). -/
def State.startState (s : State) (l : Link) : Nat := if !s.linkOn l then 0 else if s.prbsChecks l then 7 else 1

theorem rxRestart_eq (l : Link) (s : State) :
    rxRestart l s = takeRxSettings l (s.modLink l (fun x => x.restarted (s.startState l))) := rfl

theorem rxRestart_link {β : Type} {k : LinkSt → β} (hk : ∀ x y, k { x with laneSet := y } = k x) (l : Link) (s : State) :
    k ((rxRestart l s).link l) = k ((s.link l).restarted (s.startState l)) := by
  rw [rxRestart_eq, takeRxSettings, State.link_modLink, State.link_modLink, hk]

theorem rxRestart_keeps {β : Type} {g : State → β} (hg : ∀ (t : State) x, g { t with oxl := x } = g t) (l : Link) (s : State) :
    g (rxRestart l s) = g s := by
  rw [rxRestart_eq, takeRxSettings, modLink_keeps hg, modLink_keeps hg]

theorem rxRestart_link_other (l : Link) (s : State) : (rxRestart l s).link (otherLink l) = s.link (otherLink l) := by
  rw [rxRestart_eq, takeRxSettings, State.link_modLink_other, State.link_modLink_other]

/-- A receiver that restarts on a link in use and under no check searches for a clock (R305, R307). -/
theorem rxRestart_state {l : Link} {s : State} (ho : s.linkOn l = true) (hc : s.prbsChecks l = false) :
    ((rxRestart l s).link l).state = 1 := by
  rw [rxRestart_link (k := LinkSt.state) (fun _ _ => rfl), LinkSt.restarted, State.startState, ho, hc]
  rfl

theorem rxRestart_settings (l : Link) (s : State) : SameSettings s (rxRestart l s) :=
  .of_regs (rxRestart_keeps (g := State.regs) (fun _ _ => rfl) l s) (rxRestart_keeps (g := fun t => t.time.n) (fun _ _ => rfl) l s)

theorem rxRestart_fit (l : Link) (s : State) : ((rxRestart l s).link l).fit = (s.link l).fit :=
  rxRestart_link (k := LinkSt.fit) (fun _ _ => rfl) l s

/-! ## The loss of a link's receive side -/

/-- A state whose receive side of a link has been lost: searching, and counted (R307). -/
def State.lossCounted (s : State) (l : Link) : State := (rxRestart l s).bump (linkCode l Code.linkLosses) 0

theorem rxLost_up {l : Link} {s : State} (h : s.rxUp l = true) : rxLost l s = refreshLink l (s.link l).state (s.lossCounted l) := if_pos h

theorem State.lossCounted_settings (s : State) (l : Link) : SameSettings s (s.lossCounted l) :=
  (rxRestart_settings l s).trans (.bumpBy (by decide) _ l 1)

theorem State.lossCounted_keeps {β : Type} {g : State → β} (hg : ∀ (t : State) r x, g { t with regs := r, oxl := x } = g t) (s : State)
    (l : Link) : g (s.lossCounted l) = g s :=
  (State.bumpBy_keeps (fun t r => hg t r t.oxl) _ _ 0 1).trans (rxRestart_keeps (fun t x => hg t t.regs x) l s)

theorem State.lossCounted_state {s : State} {l : Link} (ho : s.linkOn l = true) (hc : s.prbsChecks l = false) :
    ((s.lossCounted l).link l).state = 1 := by rw [State.lossCounted, State.link_bump, rxRestart_state ho hc]

theorem State.lossCounted_lost {s : State} {l : Link} (ho : s.linkOn l = true) (hc : s.prbsChecks l = false) :
    (s.lossCounted l).lostForTraffic l = true := by
  unfold State.lostForTraffic State.rxUp
  rw [State.lossCounted_state ho hc]
  rfl

theorem State.lossCounted_fit (s : State) (l : Link) : ((s.lossCounted l).link l).fit = (s.link l).fit := by
  rw [State.lossCounted, State.link_bump, rxRestart_fit]

theorem refreshLink_state (l : Link) (before : Nat) (s : State) (m : Link) : ((refreshLink l before s).link m).state = (s.link m).state :=
  refreshLink_link (k := LinkSt.state) ⟨fun _ _ _ _ _ _ _ _ _ _ => rfl⟩ (fun _ _ _ _ => rfl) l before s m

theorem linkCode_c_ne {l m : Link} {c d : Nat} (h : c % 2 ^ 16 ≠ d % 2 ^ 16) : linkCode l c ≠ linkCode m d :=
  fun e => linkCode_key_ne (l := l) (m := m) h (congrArg (objKey · 0) e)

theorem refreshLink_linkReg {c : Nat} (h1 : 0x600000 ≤ c) (h2 : c < 0x610000) (hd : c % 2 ^ 16 ≠ Code.statusDrops % 2 ^ 16)
    (hc : c % 2 ^ 16 ≠ Code.copiesSent % 2 ^ 16) (l m : Link) (before : Nat) (s : State) :
    (refreshLink l before s).reg (linkCode m c) 0 = s.reg (linkCode m c) 0 := by
  have hlow : 0x600000 ≤ linkCode m c ∧ linkCode m c < 0x620000 := by cases m <;> simp only [linkCode] <;> omega
  refine refreshLink_reg ?_ ?_ (fun n => linkCode_c_ne hd) (fun n => linkCode_c_ne hc) l before s
  · intro h; rw [h] at hlow; exact absurd hlow (by decide)
  · intro h; rw [h] at hlow; exact absurd hlow (by decide)

/-- What the loss of the receive side of a link in use leaves, before its core cycle is over (R307, R321, R324). -/
theorem rxLost_leaves {l : Link} {s : State} (hu : s.rxUp l = true) (ho : s.linkOn l = true) (hc : s.prbsChecks l = false)
    (hd : s.CalmDue) :
    (rxLost l s).CalmDue ∧ ((rxLost l s).link l).state = 1 ∧ ((rxLost l s).link l).fit = false ∧
      ((s.link l).fit = true → ((rxLost l s).link l).moveDue = true) ∧
      (rxLost l s).reg (linkCode l Code.linkLosses) 0 = min (((s.regN (linkCode l Code.linkLosses) 0 + 1 : Nat)) : Int) (2 ^ 32 - 1) ∧
      (rxLost l s).ports = s.ports ∧ (rxLost l s).ctxs = s.ctxs := by
  have hlost := State.lossCounted_lost ho hc
  obtain ⟨hfit, hmove⟩ := refreshLink_unfit (before := (s.link l).state) hlost
  rw [State.lossCounted_fit] at hmove
  have hkeep : ∀ {β : Type} {g : State → β}, (∀ (t : State) r m o f, g { t with regs := r, mgmt := m, oxl := o, faults := f } = g t) →
      g (refreshLink l (s.link l).state (s.lossCounted l)) = g s := fun hg =>
    (refreshLink_keeps hg l _ _).trans (State.lossCounted_keeps (fun t r x => hg t r t.mgmt x t.faults) s l)
  rw [rxLost_up hu]
  refine ⟨.refreshLink (hd.of_due (State.lossCounted_keeps (g := fun t => t.faults.due) (fun _ _ _ => rfl) s l)) l _, ?_, hfit, hmove, ?_,
    hkeep fun _ _ _ _ _ => rfl, hkeep fun _ _ _ _ _ => rfl⟩
  · rw [refreshLink_state, State.lossCounted_state ho hc]
  · rw [refreshLink_linkReg (by decide) (by decide) (by decide) (by decide), State.lossCounted, State.reg_bump_same, State.regN,
      rxRestart_keeps (g := fun t => t.reg _ 0) (fun _ _ => rfl)]
    rfl

/-- The loss of a fit link in use and under no test raises its source once. -/
theorem rxLost_raises {l : Link} {s : State} (hu : s.rxUp l = true) (ho : s.linkOn l = true) (hc : s.prbsChecks l = false)
    (hp : s.prbsSends l = false) (hf : (s.link l).fit = true) :
    ∃ u, RaisesBeside (linkSource l) s u ∧
      RaisesBeside (linkSource l) (notice { source := linkSource l, key := [], detail := [(1, (s.link l).state)] } u) (rxLost l s) := by
  have hset := State.lossCounted_settings s l
  obtain ⟨u, h1, h2⟩ := refreshLink_raises (before := (s.link l).state) ((State.lossCounted_fit s l).trans hf) (State.lossCounted_lost ho hc)
    (by unfold State.lossMeant; rw [hset.prbsSends, hset.prbsChecks, hset.linkOn, hp, hc, ho]; rfl)
  refine ⟨u, .trans (.of_same ?_ ?_) h1, rxLost_up hu ▸ h2⟩
  · exact State.lossCounted_keeps (g := fun t => t.faults.due) (fun _ _ _ => rfl) s l
  · exact State.lossCounted_keeps (g := fun t => t.aon.faultCounts) (fun _ _ _ => rfl) s l

end Sys2Proof.Machine

/-! PROOFS. Host links come up and are lost: the statement about them. -/

namespace Sys2Proof.Machine

/-! ## Sending -/

/-- A link but for what its lanes carry. -/
def LinkSt.besidesLanes (x : LinkSt) (y : LinkSt) : LinkSt :=
  { x with laneOut0 := y.laneOut0, laneOut1 := y.laneOut1, coder0 := y.coder0, coder1 := y.coder1, nextLane := y.nextLane }

theorem sendBlocks_link (l : Link) (behind : Bool) (bs : List (BlockKind × BitVec 64)) (s : State) (y : LinkSt) :
    ((sendBlocks l behind bs s).link l).besidesLanes y =
      { (s.link l).besidesLanes y with sentBlocks := (if behind then (s.link l).sentBlocks else []) ++ bs.map (fun b => b.2) } := by
  rw [sendBlocks, State.link_modLink]
  rfl

theorem sendBlocks_keeps {β : Type} {g : State → β} (hg : ∀ (t : State) x, g { t with oxl := x } = g t) (l : Link) (behind : Bool)
    (bs : List (BlockKind × BitVec 64)) (s : State) : g (sendBlocks l behind bs s) = g s := by
  rw [sendBlocks, modLink_keeps hg]

theorem sendBlocks_link_other (l : Link) (behind : Bool) (bs : List (BlockKind × BitVec 64)) (s : State) :
    (sendBlocks l behind bs s).link (otherLink l) = s.link (otherLink l) := by
  rw [sendBlocks, State.link_modLink_other]

/-- The blocks before an ALIGN pair: an IDLE where a pair is half out, then those given (R302, R304). -/
def LinkSt.filled (x : LinkSt) (before : List (BitVec 64)) : List (BitVec 64) :=
  (if x.nextLane = 1 then [0x1E00000000000000#64] else []) ++ before

theorem idleBlock_eq : idleBlock = 0x1E00000000000000#64 := by decide

theorem sendAlign_link (l : Link) (before : List (BlockKind × BitVec 64)) (s : State) (y : LinkSt) :
    ((sendAlign l before s).link l).besidesLanes y = { (s.link l).besidesLanes y with
      alignOut := ((s.link l).alignOut + 1) % 65536, alignAt := some s.time.tick
      sentBlocks := (s.link l).filled (before.map (fun b => b.2)) ++
        [s.alignBlock l 0 (((s.link l).alignOut + 1) % 65536), s.alignBlock l 1 (((s.link l).alignOut + 1) % 65536)] } := by
  have h := fun bs => sendBlocks_link l false bs s y
  rw [sendAlign, State.link_modLink]
  refine (congrArg (fun x : LinkSt => { x with alignOut := ((s.link l).alignOut + 1) % 65536, alignAt := some s.time.tick }) (h _)).trans ?_
  have hb : ∀ fill : List (BlockKind × BitVec 64), (fill ++ before ++ [(BlockKind.align, s.alignBlock l 0 (((s.link l).alignOut + 1) % 65536)),
      (.align, s.alignBlock l 1 (((s.link l).alignOut + 1) % 65536))]).map (fun b => b.2) = fill.map (fun b => b.2) ++ before.map (fun b => b.2) ++
      [s.alignBlock l 0 (((s.link l).alignOut + 1) % 65536), s.alignBlock l 1 (((s.link l).alignOut + 1) % 65536)] := by simp
  have hfill : (if (s.link l).nextLane = 1 then [(BlockKind.control, idleBlock)] else []).map (fun b => b.2) =
      if (s.link l).nextLane = 1 then [0x1E00000000000000#64] else [] := by
    rw [idleBlock_eq]
    split <;> rfl
  rw [hb, hfill]
  rfl

theorem sendFlow_link (l : Link) (s : State) (y : LinkSt) :
    ((sendFlow l s).link l).besidesLanes y = { (s.link l).besidesLanes y with
      flowGroups := [], idleFrom := if (s.link l).flowGroups = [] then (s.link l).idleFrom else s.time.tick
      sentBlocks := (s.link l).sentBlocks ++ [s.flowBlock 0, s.flowBlock 1, s.flowBlock 2] } := by
  have h := sendBlocks_link l true ([0, 1, 2].map (fun g => (.control, s.flowBlock g))) s y
  rw [sendFlow, State.link_modLink]
  refine (congrArg (fun x : LinkSt => { x with
    flowGroups := [], idleFrom := if x.flowGroups.isEmpty then x.idleFrom else s.time.tick }) h).trans ?_
  simp only [List.isEmpty_iff]
  rfl

theorem sendAlign_keeps {β : Type} {g : State → β} (hg : ∀ (t : State) x, g { t with oxl := x } = g t) (l : Link)
    (before : List (BlockKind × BitVec 64)) (s : State) : g (sendAlign l before s) = g s := by
  rw [sendAlign, modLink_keeps hg, sendBlocks_keeps hg]

theorem sendFlow_keeps {β : Type} {g : State → β} (hg : ∀ (t : State) x, g { t with oxl := x } = g t) (l : Link) (s : State) :
    g (sendFlow l s) = g s := by
  rw [sendFlow, modLink_keeps hg, sendBlocks_keeps hg]

theorem sendAlign_link_other (l : Link) (before : List (BlockKind × BitVec 64)) (s : State) :
    (sendAlign l before s).link (otherLink l) = s.link (otherLink l) := by
  rw [sendAlign, State.link_modLink_other, sendBlocks_link_other]

theorem sendFlow_link_other (l : Link) (s : State) : (sendFlow l s).link (otherLink l) = s.link (otherLink l) := by
  rw [sendFlow, State.link_modLink_other, sendBlocks_link_other]

/-- An ALIGN pair with its FLOW groups, and the blocks before it (R302, R304, R311). -/
theorem sendPair_link (l : Link) (before : List (BlockKind × BitVec 64)) (s : State) (y : LinkSt) :
    ((sendFlow l (sendAlign l before s)).link l).besidesLanes y = { (s.link l).besidesLanes y with
      alignOut := ((s.link l).alignOut + 1) % 65536, flowGroups := [], alignAt := some s.time.tick
      idleFrom := if (s.link l).flowGroups = [] then (s.link l).idleFrom else s.time.tick
      sentBlocks := (s.link l).filled (before.map (fun b => b.2)) ++
        [s.alignBlock l 0 (((s.link l).alignOut + 1) % 65536), s.alignBlock l 1 (((s.link l).alignOut + 1) % 65536),
          s.flowBlock 0, s.flowBlock 1, s.flowBlock 2] } := by
  obtain ⟨t, ht⟩ : ∃ t, t = sendAlign l before s := ⟨_, rfl⟩
  have h := sendAlign_link l before s y
  rw [← ht] at h
  have hflow : t.flowBlock = s.flowBlock := ht ▸ sendAlign_keeps (g := State.flowBlock) (fun _ _ => rfl) l before s
  have htime : t.time = s.time := ht ▸ sendAlign_keeps (g := State.time) (fun _ _ => rfl) l before s
  have hgroups : (t.link l).flowGroups = (s.link l).flowGroups := (congrArg (fun x : LinkSt => x.flowGroups) h :)
  have hidle : (t.link l).idleFrom = (s.link l).idleFrom := (congrArg (fun x : LinkSt => x.idleFrom) h :)
  have hsent : (t.link l).sentBlocks = _ := (congrArg (fun x : LinkSt => x.sentBlocks) h :)
  rw [← ht, sendFlow_link, h, hflow, htime, hgroups, hidle, hsent, List.append_assoc]
  rfl

end Sys2Proof.Machine

/-! PROOFS. Host links come up and are lost: the statement about them. -/

namespace Sys2Proof.Machine

theorem linkEvent_keeps {β : Type} {g : State → β} (hg : ∀ (t : State) r o, g { t with regs := r, oxl := o } = g t) (links : List Link)
    (l : Link) (event : Nat) (s : State) : g (linkEventStatus links l event s) = g s :=
  (BesidesLinks.of_fields hg).messages.linkEventStatus links l event s

/-- The state of a link that has seen the other link's bit, before it is reported (R306). -/
def State.miswired (s : State) (l : Link) (farUp : Bool) (farId : Nat) : State :=
  (s.modLink l (fun x => { x with laneMap := x.laneMap ||| 2, alignIn := none, alignGood := 0, farUp := farUp, farId := farId })).bump
    (linkCode l Code.wiringErrors) 0

def wiringOcc (l : Link) : Occ := { source := 21, key := [linkNo l], detail := [(1, linkNo l)] }

theorem wiringMismatch_eq (l : Link) (farUp : Bool) (farId : Nat) (s : State) : wiringMismatch l farUp farId s =
    linkEventStatus (s.miswired l farUp farId).bothLinks l 5 (notice (wiringOcc l) (s.miswired l farUp farId)) := rfl

theorem State.miswired_keeps {β : Type} {g : State → β} (hg : ∀ (t : State) r o, g { t with regs := r, oxl := o } = g t) (s : State)
    (l : Link) (farUp : Bool) (farId : Nat) : g (s.miswired l farUp farId) = g s :=
  (State.bumpBy_keeps (fun t r => hg t r t.oxl) _ _ 0 1).trans (modLink_keeps (fun t x => hg t t.regs x) l _ s)

/-- What a wiring mismatch leaves (R306, R403 source 21). -/
theorem run_wiringMismatch {f : State → State} {l : Link} {farUp : Bool} {farId : Nat} {s : State} (hs : s.Ready)
    (hf : f s = wiringMismatch l farUp farId s) :
    ∃ t : State, run f s = .next t ∧ (t.link l).state = (s.link l).state ∧ (t.link l).farUp = farUp ∧ (t.link l).farId = farId ∧
      (t.link l).laneMap = (s.link l).laneMap ||| 2 ∧ t.faultCount 21 = min (s.faultCount 21 + 1) (2 ^ 32 - 1) ∧
      t.reg (linkCode l Code.wiringErrors) 0 = min (((s.regN (linkCode l Code.wiringErrors) 0 + 1 : Nat)) : Int) (2 ^ 32 - 1) ∧
      t.ctxs = s.ctxs := by
  have hdue : (s.miswired l farUp farId).faults.due = s.faults.due := State.miswired_keeps (g := fun t => t.faults.due) (fun _ _ _ => rfl) ..
  have hcalm : (f s).CalmDue := by
    rw [hf, wiringMismatch_eq]
    refine State.CalmDue.of_due ?_ (linkEvent_keeps (g := fun t => t.faults.due) (fun _ _ _ => rfl) ..)
    refine State.CalmDue.fault (calmDue_of_none ?_) (by decide) [linkNo l] [(1, linkNo l)]
    rw [hdue, hs.2.1]
  obtain ⟨hrun, hkeep⟩ := run_calmDue hs hcalm
  have hback : ∀ {β : Type} {g : State → β}, BesidesCollector g → g (collect (f s)) = g (s.miswired l farUp farId) := by
    intro β g hg
    rw [hkeep hg, hf, wiringMismatch_eq, hg.linkEventStatus]
    exact hg.faults _ _
  have hlink : ((collect (f s)).link l).besidesMessages = { (s.link l).besidesMessages with
      laneMap := (s.link l).laneMap ||| 2, alignIn := none, alignGood := 0, farUp := farUp, farId := farId } := by
    rw [hback (besidesCollector_link l), State.miswired, State.link_bump, State.link_modLink]
    rfl
  refine ⟨_, hrun, (congrArg (fun x : LinkSt => x.state) hlink :), (congrArg (fun x : LinkSt => x.farUp) hlink :),
    (congrArg (fun x : LinkSt => x.farId) hlink :), (congrArg (fun x : LinkSt => x.laneMap) hlink :), ?_, ?_, ?_⟩
  · rw [hf, wiringMismatch_eq]
    exact collect_count_beside (o := wiringOcc l) hs.2.1 rfl
      (.of_same hdue (State.miswired_keeps (g := fun t => t.aon.faultCounts) (fun _ _ _ => rfl) ..))
      (.of_same (linkEvent_keeps (g := fun t => t.faults.due) (fun _ _ _ => rfl) ..)
        (linkEvent_keeps (g := fun t => t.aon.faultCounts) (fun _ _ _ => rfl) ..))
  · rw [hback (besidesCollector_linkReg (by decide) (by decide) (by decide) (by decide) l), State.miswired, State.reg_bump_same, State.regN,
      modLink_keeps (g := fun t => t.reg _ 0) (fun _ _ => rfl)]
    rfl
  · rw [hback besidesCollector_ctxs]
    exact State.miswired_keeps (g := State.ctxs) (fun _ _ _ => rfl) ..

/-! ## The link comes up -/

/-- The link in state 5, counted (R305). -/
def State.cameUp (s : State) (l : Link) : State :=
  (s.modLink l (fun x => { x with state := 5, alignBad := 0 })).bump (linkCode l Code.linkUps) 0

theorem linkUp_comes {l : Link} {s : State} (h4 : (s.link l).state = 4) (hg : 4 ≤ (s.link l).alignGood) :
    linkUp l s = linkEventStatus (refreshLink l 5 (s.cameUp l)).bothLinks l 2 (refreshLink l 5 (s.cameUp l)) := if_pos ⟨h4, hg⟩

theorem State.cameUp_settings (s : State) (l : Link) : SameSettings s (s.cameUp l) :=
  (SameSettings.of_regs (modLink_keeps (g := State.regs) (fun _ _ => rfl) l _ s)
    (modLink_keeps (g := fun t => t.time.n) (fun _ _ => rfl) l _ s)).trans (.bumpBy (by decide) _ l 1)

theorem State.cameUp_keeps {β : Type} {g : State → β} (hg : ∀ (t : State) r o, g { t with regs := r, oxl := o } = g t) (s : State)
    (l : Link) : g (s.cameUp l) = g s :=
  (State.bumpBy_keeps (fun t r => hg t r t.oxl) _ _ 0 1).trans (modLink_keeps (fun t x => hg t t.regs x) l _ s)

theorem State.cameUp_link (s : State) (l : Link) : (s.cameUp l).link l = { s.link l with state := 5, alignBad := 0 } := by
  rw [State.cameUp, State.link_bump, State.link_modLink]

theorem run_linkUp {l : Link} {s : State} (hs : s.Ready) (h4 : (s.link l).state = 4) (hg : 4 ≤ (s.link l).alignGood) :
    ∃ t : State, exec (.linkUp l) s = .next t ∧ (t.link l).state = 5 ∧
      t.reg (linkCode l Code.linkUps) 0 = min (((s.regN (linkCode l Code.linkUps) 0 + 1 : Nat)) : Int) (2 ^ 32 - 1) ∧
      (s.linkOn l = true → s.prbsSends l = false → s.prbsChecks l = false → (s.link l).farDown < 2 → (t.link l).fit = true) ∧
      t.ports = s.ports ∧ t.ctxs = s.ctxs := by
  have hdue : (s.cameUp l).faults.due = s.faults.due := State.cameUp_keeps (g := fun t => t.faults.due) (fun _ _ _ => rfl) s l
  have hcalm : (linkUp l s).CalmDue := by
    rw [linkUp_comes h4 hg]
    refine State.CalmDue.of_due (State.CalmDue.refreshLink (calmDue_of_none ?_) l 5) (linkEvent_keeps (g := fun t => t.faults.due) (fun _ _ _ => rfl) ..)
    rw [hdue, hs.2.1]
  obtain ⟨hrun, hkeep⟩ := run_calmDue hs hcalm
  have hback : ∀ {β : Type} {g : State → β}, BesidesCollector g → g (collect (linkUp l s)) = g (refreshLink l 5 (s.cameUp l)) := by
    intro β g hb
    rw [hkeep hb, linkUp_comes h4 hg, hb.linkEventStatus]
  refine ⟨_, hrun, ?_, ?_, fun ho hp hc hd => ?_, ?_, ?_⟩
  · have h := hback ((besidesCollector_link l).map LinkSt.state)
    exact h.trans ((refreshLink_state l 5 _ l).trans (by rw [State.cameUp_link]))
  · rw [hback (besidesCollector_linkReg (by decide) (by decide) (by decide) (by decide) l), refreshLink_linkReg (by decide) (by decide) (by decide)
      (by decide), State.cameUp, State.reg_bump_same, State.regN, modLink_keeps (g := fun t => t.reg _ 0) (fun _ _ => rfl)]
    rfl
  · have hset := State.cameUp_settings s l
    have hfit : ((refreshLink l 5 (s.cameUp l)).link l).fit = true := refreshLink_fit (by
      unfold State.lostForTraffic State.rxUp
      rw [hset.prbsSends, hset.prbsChecks, hset.linkOn, State.cameUp_link, hp, hc, ho]
      simp [hd])
    have h := hback ((besidesCollector_link l).map LinkSt.fit)
    exact h.trans hfit
  · rw [hback besidesCollector_ports, refreshLink_keeps (g := State.ports) (fun _ _ _ _ _ => rfl)]
    exact State.cameUp_keeps (g := State.ports) (fun _ _ _ => rfl) s l
  · rw [hback besidesCollector_ctxs, refreshLink_keeps (g := State.ctxs) (fun _ _ _ _ _ => rfl)]
    exact State.cameUp_keeps (g := State.ctxs) (fun _ _ _ => rfl) s l

/-! ## The loss of a link behind its core cycle -/

/-- A state that the loss of a link finds as it was before the command. -/
structure SameForLoss (l : Link) (s u : State) : Prop where
  settings : SameSettings s u
  link : u.link l = s.link l
  faults : u.faults = s.faults
  aon : u.aon = s.aon
  ports : u.ports = s.ports
  ctxs : u.ctxs = s.ctxs
  losses : u.reg (linkCode l Code.linkLosses) 0 = s.reg (linkCode l Code.linkLosses) 0

theorem loss_collected {l : Link} {s u w : State} (hs : s.Ready) (hu : SameForLoss l s u) (hup : s.rxUp l = true) (ho : s.linkOn l = true)
    (hc : s.prbsChecks l = false) (hf : w.faults = (rxLost l u).faults) (ha : w.aon = (rxLost l u).aon)
    (hkeep : ∀ {β : Type} {g : State → β}, BesidesCollector g → g (collect w) = g (rxLost l u)) :
    ((collect w).link l).state = 1 ∧ ((collect w).link l).fit = false ∧
      (collect w).reg (linkCode l Code.linkLosses) 0 = min (((s.regN (linkCode l Code.linkLosses) 0 + 1 : Nat)) : Int) (2 ^ 32 - 1) ∧
      (s.prbsSends l = false → (s.link l).fit = true → ((collect w).link l).moveDue = true ∧
        (collect w).faultCount (18 + linkNo l) = min (s.faultCount (18 + linkNo l) + 1) (2 ^ 32 - 1)) ∧
      (collect w).ports = s.ports ∧ (collect w).ctxs = s.ctxs := by
  have hup' : u.rxUp l = true := by rw [State.rxUp, hu.link]; exact hup
  have ho' : u.linkOn l = true := (hu.settings.linkOn l).trans ho
  have hc' : u.prbsChecks l = false := (hu.settings.prbsChecks l).trans hc
  obtain ⟨-, hstate, hfit, hmove, hreg, hports, hctxs⟩ := rxLost_leaves hup' ho' hc' (calmDue_of_none (by rw [hu.faults, hs.2.1]))
  rw [hu.link] at hmove
  refine ⟨?_, ?_, ?_, fun hp hfit' => ⟨?_, ?_⟩, ?_, ?_⟩
  · exact (hkeep ((besidesCollector_link l).map LinkSt.state)).trans hstate
  · exact (hkeep ((besidesCollector_link l).map LinkSt.fit)).trans hfit
  · rw [hkeep (besidesCollector_linkReg (by decide) (by decide) (by decide) (by decide) l), hreg, State.regN, hu.losses]
    rfl
  · exact (hkeep ((besidesCollector_link l).map LinkSt.moveDue)).trans (hmove hfit')
  · obtain ⟨v, h1, h2⟩ := rxLost_raises hup' ho' hc' ((hu.settings.prbsSends l).trans hp) (by rw [hu.link]; exact hfit')
    exact collect_count_beside (o := { source := linkSource l, key := [], detail := [(1, (u.link l).state)] }) hs.2.1 rfl
      (RaisesBeside.trans (.of_same (by rw [hu.faults]) (by rw [hu.aon])) h1) (h2.trans (.of_same (by rw [hf]) (by rw [ha])))
  · rw [hkeep besidesCollector_ports, hports, hu.ports]
  · rw [hkeep besidesCollector_ctxs, hctxs, hu.ctxs]

theorem SameForLoss.refl (l : Link) (s : State) : SameForLoss l s s :=
  ⟨fun _ _ _ => rfl, rfl, rfl, rfl, rfl, rfl, rfl⟩

/-- The syncs that a loss counts are none of what it looks at (R307). -/
theorem SameForLoss.syncErrors (l : Link) (n : Nat) (s : State) : SameForLoss l s (s.bumpBy (linkCode l Code.syncErrors) 0 n) where
  settings := .bumpBy (by decide) s l n
  link := State.link_bumpBy ..
  faults := State.bumpBy_faults ..
  aon := State.bumpBy_aon ..
  ports := State.bumpBy_ports ..
  ctxs := State.bumpBy_ctxs ..
  losses := State.reg_bumpBy_ne (by cases l <;> decide) (linkCode_key_ne (by decide)) n s

theorem SameForLoss.arrived (l : Link) (q : Path) (s : State) : SameForLoss l s (s.arrived q) where
  settings := fun _ _ _ => State.arrived_reg ..
  link := State.arrived_link ..
  faults := State.arrived_faults s q
  aon := State.arrived_aon s q
  ports := State.arrived_ports s q
  ctxs := State.arrived_ctxs s q
  losses := State.arrived_reg ..

/-- Every loss that R307 names comes down to the loss of the receive side. -/
theorem linkLoss_lost {l : Link} {c : LossCause} {s : State} (hu : s.rxUp l = true) (h1 : c = .clockIdle → (s.link l).state = 5)
    (h2 : ∀ n : Nat, c = .syncHeaders n → 16 ≤ n) (h3 : c = .alignCount → 2 ≤ (s.link l).alignBad) :
    ∃ u, SameForLoss l s u ∧ linkLoss l c s = rxLost l u := by
  cases c with
  | clockIdle => exact ⟨s, .refl l s, if_pos (h1 rfl)⟩
  | syncHeaders n =>
    refine ⟨_, .syncErrors l n s, ?_⟩
    unfold linkLoss
    dsimp only
    rw [if_pos hu, if_pos (h2 n rfl)]
  | alignMissing => exact ⟨s, .refl l s, rfl⟩
  | alignCount => exact ⟨s, .refl l s, if_pos (h3 rfl)⟩

/-! ## Writes of RETRAIN and LINK_ENABLE -/

def linkRetrainRow : Obj := ⟨0x600008, .bool, .wo, .device, 0, 1, 0⟩
def linkEnableRow : Obj := ⟨0x600001, .bool, .rwp, .device, 0, 1, 1⟩

theorem findObj_linkRetrain (l : Link) : findObj (linkCode l Code.linkRetrain) = some linkRetrainRow := by cases l <;> decide +kernel
theorem findObj_linkEnable (l : Link) : findObj (linkCode l Code.linkEnable) = some linkEnableRow := by cases l <;> decide +kernel

theorem hostWrite_linkRetrain (q : Path) (l : Link) (inst master : Nat) (s : State) :
    hostWrite q linkRetrainRow (linkCode l Code.linkRetrain) inst 1 master s = oxlRetrain l s := by cases l <;> rfl

theorem hostWrite_linkEnable (q : Path) (l : Link) (inst master : Nat) (v : Int) (s : State) :
    hostWrite q linkEnableRow (linkCode l Code.linkEnable) inst v master s = linkEnable l (s.setReg (linkCode l Code.linkEnable) inst v) := by
  cases l <;> rfl

/-- The link with its transmitter off and its receive side disabled (R307, R321). -/
def State.poweredOff (s : State) (l : Link) : State :=
  (rxRestart l s).modLink l (fun x => { x with tx := 0, sentBlocks := [], laneOut0 := [], laneOut1 := [] })

theorem linkEnable_off {l : Link} {s : State} (h : s.linkOn l = false) :
    linkEnable l s = refreshLink l (s.link l).state (s.poweredOff l) := by
  unfold linkEnable
  dsimp only
  rw [h]
  rfl

/-- The link with its transmitter started and its bring-up begun (R307). -/
def State.poweredOn (s : State) (l : Link) : State :=
  (rxRestart l s).modLink l (fun x => { x with
    tx := if s.prbsSends l then 3 else 1, idleFrom := s.time.tick, alignAt := none, laneSet := [s.laneNow l 0, s.laneNow l 1]
    coder0 := { x.coder0 with prev := 0 }, coder1 := { x.coder1 with prev := 0 }, nextLane := 0 })

theorem linkEnable_on {l : Link} {s : State} (h : s.linkOn l = true) :
    linkEnable l s = if (s.link l).state = 0 then
      (if (s.link (otherLink l)).state = 0 then fault 20 [] [] (s.poweredOn l) else s.poweredOn l) else s := by
  unfold linkEnable
  dsimp only
  rw [h]
  rfl

theorem State.poweredOff_keeps {β : Type} {g : State → β} (hg : ∀ (t : State) x, g { t with oxl := x } = g t) (s : State) (l : Link) :
    g (s.poweredOff l) = g s := by
  rw [State.poweredOff, modLink_keeps hg, rxRestart_keeps hg]

theorem State.poweredOn_keeps {β : Type} {g : State → β} (hg : ∀ (t : State) x, g { t with oxl := x } = g t) (s : State) (l : Link) :
    g (s.poweredOn l) = g s := by
  rw [State.poweredOn, modLink_keeps hg, rxRestart_keeps hg]

/-- What a disabled link is left with, before its core cycle is over (R307, R321). -/
theorem linkEnable_off_leaves {l : Link} {s : State} (h : s.linkOn l = false) (hd : s.CalmDue) :
    (linkEnable l s).CalmDue ∧ ((linkEnable l s).link l).state = 0 ∧ ((linkEnable l s).link l).tx = 0 ∧
      ((linkEnable l s).link l).fit = false ∧
      (∀ {c}, 0x600000 ≤ c → c < 0x610000 → c % 2 ^ 16 ≠ Code.statusDrops % 2 ^ 16 → c % 2 ^ 16 ≠ Code.copiesSent % 2 ^ 16 →
        (linkEnable l s).reg (linkCode l c) 0 = s.reg (linkCode l c) 0) ∧
      (linkEnable l s).ports = s.ports ∧ (linkEnable l s).ctxs = s.ctxs := by
  have hset : SameSettings s (s.poweredOff l) := .of_regs (State.poweredOff_keeps (g := State.regs) (fun _ _ => rfl) s l)
    (State.poweredOff_keeps (g := fun t => t.time.n) (fun _ _ => rfl) s l)
  have hlost : (s.poweredOff l).lostForTraffic l = true := by
    unfold State.lostForTraffic
    rw [hset.linkOn, h]
    simp
  rw [linkEnable_off h]
  refine ⟨.refreshLink (hd.of_due (State.poweredOff_keeps (g := fun t => t.faults.due) (fun _ _ => rfl) s l)) l _, ?_, ?_,
    (refreshLink_unfit hlost).1, fun h1 h2 h3 h4 => ?_, ?_, ?_⟩
  · rw [refreshLink_state, State.poweredOff, State.link_modLink]
    exact (rxRestart_link (k := LinkSt.state) (fun _ _ => rfl) l s).trans (by rw [LinkSt.restarted, State.startState, h]; rfl)
  · rw [refreshLink_link (k := LinkSt.tx) ⟨fun _ _ _ _ _ _ _ _ _ _ => rfl⟩ (fun _ _ _ _ => rfl), State.poweredOff, State.link_modLink]
  · rw [refreshLink_linkReg h1 h2 h3 h4]
    exact State.poweredOff_keeps (g := fun t => t.reg _ 0) (fun _ _ => rfl) s l
  · rw [refreshLink_keeps (g := State.ports) (fun _ _ _ _ _ => rfl)]
    exact State.poweredOff_keeps (g := State.ports) (fun _ _ => rfl) s l
  · rw [refreshLink_keeps (g := State.ctxs) (fun _ _ _ _ _ => rfl)]
    exact State.poweredOff_keeps (g := State.ctxs) (fun _ _ => rfl) s l

/-- What an enabled link is left with, before its core cycle is over (R307). -/
theorem linkEnable_on_leaves {l : Link} {s : State} (h : s.linkOn l = true) (hd : s.CalmDue) :
    (linkEnable l s).CalmDue ∧
      ((s.link l).state = 0 → s.prbsSends l = false → s.prbsChecks l = false →
        ((linkEnable l s).link l).state = 1 ∧ ((linkEnable l s).link l).tx = 1) ∧
      (∀ c, (linkEnable l s).reg c 0 = s.reg c 0) ∧ (linkEnable l s).ports = s.ports ∧ (linkEnable l s).ctxs = s.ctxs := by
  have hdue : (s.poweredOn l).CalmDue := hd.of_due (State.poweredOn_keeps (g := fun t => t.faults.due) (fun _ _ => rfl) s l)
  have hstate : s.prbsSends l = false → s.prbsChecks l = false → ((s.poweredOn l).link l).state = 1 ∧ ((s.poweredOn l).link l).tx = 1 := by
    intro hp hc
    rw [State.poweredOn, State.link_modLink, hp]
    exact ⟨rxRestart_state h hc, rfl⟩
  have hreg : ∀ c, (s.poweredOn l).reg c 0 = s.reg c 0 := fun c => State.poweredOn_keeps (g := fun t => t.reg c 0) (fun _ _ => rfl) s l
  have hports : (s.poweredOn l).ports = s.ports := State.poweredOn_keeps (g := State.ports) (fun _ _ => rfl) s l
  have hctxs : (s.poweredOn l).ctxs = s.ctxs := State.poweredOn_keeps (g := State.ctxs) (fun _ _ => rfl) s l
  rw [linkEnable_on h]
  split
  · split
    · refine ⟨hdue.fault (by decide) _ _, fun _ hp hc => ?_, hreg, hports, hctxs⟩
      have hsame : (fault 20 [] [] (s.poweredOn l)).link l = (s.poweredOn l).link l := by cases l <;> rfl
      rw [hsame]
      exact hstate hp hc
    · exact ⟨hdue, fun _ hp hc => hstate hp hc, hreg, hports, hctxs⟩
  next h0 => exact ⟨hd, fun h => absurd h h0, fun _ => rfl, rfl, rfl⟩

end Sys2Proof.Machine

namespace Sys2Proof.Proofs

open Machine

/-- What a write of LINK_ENABLE leaves (R307, R321). -/
theorem linkEnable_written {q : Path} {tid value : Nat} {l : Link} {s : State} {o : Obj} {v : Int}
    (hacc : s.Accepts q (linkCode l Code.linkEnable) value o v) :
    ∃ t : State, exec (.linkEnable q tid l value) s = .next t ∧ t.reg (linkCode l Code.linkEnable) 0 = v ∧
      (v = 0 → (t.link l).state = 0 ∧ (t.link l).tx = 0 ∧ ((s.link l).fit = true → (t.link l).fit = false)) ∧
      (v = 1 → (s.link l).state = 0 → s.prbsSends l = false → s.prbsChecks l = false → (t.link l).state = 1 ∧ (t.link l).tx = 1) ∧
      t.ports = s.ports ∧ t.ctxs = s.ctxs := by
  obtain rfl := hacc.obj (findObj_linkEnable l)
  obtain ⟨hlo, hhi⟩ := hacc.range
  have hdue : s.faults.due = [] := hacc.1.1.2.1
  obtain ⟨u, hu⟩ : ∃ u, u = (s.arrived q).setReg (linkCode l Code.linkEnable) 0 v := ⟨_, rfl⟩
  have hw : hostWrite q linkEnableRow (linkCode l Code.linkEnable) (s.instOf q linkEnableRow.scope) v (masterOf q) (s.arrived q) =
      linkEnable l u := hu ▸ hostWrite_linkEnable q l _ _ v _
  have hcalm : u.CalmDue := calmDue_of_none (by rw [hu]; exact (congrArg FaultSt.due (State.arrived_faults s q)).trans hdue)
  have hreg : u.reg (linkCode l Code.linkEnable) 0 = v := hu ▸ State.reg_setReg ..
  have hlink : u.link l = s.link l := by rw [hu, State.link_setReg, State.arrived_link]
  have hports : u.ports = s.ports := hu ▸ State.arrived_ports s q
  have hctxs : u.ctxs = s.ctxs := hu ▸ State.arrived_ctxs s q
  have hon : u.linkOn l = decide (v = 1) := by rw [State.linkOn, State.regB, hreg]
  obtain rfl | rfl : v = 0 ∨ v = 1 := by
    have h1 : (0 : Int) ≤ v := hlo
    have h2 : v ≤ 1 := hhi
    omega
  · obtain ⟨hcalm', hstate, htx, hfit, hregs, hp, hx⟩ := linkEnable_off_leaves (by rw [hon]; decide) hcalm
    obtain ⟨w, hrun, -, -, -, hkeep⟩ := exec_accepted_calm (i := .linkEnable q tid l value) rfl hacc hw hcalm'
    refine ⟨_, hrun, ?_, fun _ => ⟨?_, ?_, fun _ => ?_⟩, fun h => absurd h (by decide), ?_, ?_⟩
    · rw [hkeep (besidesCollector_linkReg (by decide) (by decide) (by decide) (by decide) l), hregs (by decide) (by decide) (by decide) (by decide), hreg]
    · exact (hkeep ((besidesCollector_link l).map LinkSt.state)).trans hstate
    · exact (hkeep ((besidesCollector_link l).map LinkSt.tx)).trans htx
    · exact (hkeep ((besidesCollector_link l).map LinkSt.fit)).trans hfit
    · rw [hkeep besidesCollector_ports, hp, hports]
    · rw [hkeep besidesCollector_ctxs, hx, hctxs]
  · obtain ⟨hcalm', hup, hregs, hp, hx⟩ := linkEnable_on_leaves (by rw [hon]; decide) hcalm
    obtain ⟨w, hrun, -, -, -, hkeep⟩ := exec_accepted_calm (i := .linkEnable q tid l value) rfl hacc hw hcalm'
    have hother : ∀ c, c ≠ Code.rollCall → c ≠ linkCode l Code.linkEnable → c < 2 ^ 24 → u.reg c 0 = s.reg c 0 := by
      intro c hr hc _
      rw [hu, State.reg_setReg_ne _ hr (objKey_ne hc (by decide) (by decide)), State.arrived_reg]
    have hsends : u.prbsSends l = s.prbsSends l := by
      unfold State.prbsSends State.regN
      rw [hother _ (by cases l <;> decide) (by cases l <;> decide) (by cases l <;> decide),
        hother _ (by cases l <;> decide) (by cases l <;> decide) (by cases l <;> decide)]
    have hchecks : u.prbsChecks l = s.prbsChecks l := by
      unfold State.prbsChecks State.regN
      rw [hother _ (by cases l <;> decide) (by cases l <;> decide) (by cases l <;> decide),
        hother _ (by cases l <;> decide) (by cases l <;> decide) (by cases l <;> decide)]
    refine ⟨_, hrun, ?_, fun h => absurd h (by decide), fun _ h0 hs hc => ?_, ?_, ?_⟩
    · rw [hkeep (besidesCollector_linkReg (by decide) (by decide) (by decide) (by decide) l), hregs, hreg]
    · obtain ⟨h1, h2⟩ := hup (by rw [hlink, h0]) (hsends.trans hs) (hchecks.trans hc)
      exact ⟨(hkeep ((besidesCollector_link l).map LinkSt.state)).trans h1, (hkeep ((besidesCollector_link l).map LinkSt.tx)).trans h2⟩
    · rw [hkeep besidesCollector_ports, hp, hports]
    · rw [hkeep besidesCollector_ctxs, hx, hctxs]

/-- What a loss or a RETRAIN of a link in use leaves (R307, R321, R324). -/
theorem link_lost {i : Instr} {l : Link} {c : LossCause} {s : State} (hs : s.Ready) (hup : s.rxUp l = true) (ho : s.linkOn l = true)
    (hp : s.prbsSends l = false) (hc : s.prbsChecks l = false)
    (hi : (i = .linkLoss l c ∧ (c = .clockIdle → (s.link l).state = 5) ∧ (∀ n : Nat, c = .syncHeaders n → 16 ≤ n) ∧
      (c = .alignCount → 2 ≤ (s.link l).alignBad)) ∨
      (∃ (q : Path) (tid value : Nat) (o : Obj), i = .oxlRetrain q tid l value ∧
        s.Accepts q (linkCode l Code.linkRetrain) value o 1)) :
    ∃ t : State, exec i s = .next t ∧ (t.link l).state = 1 ∧ (t.link l).fit = false ∧
      t.reg (linkCode l Code.linkLosses) 0 = min (((s.regN (linkCode l Code.linkLosses) 0 + 1 : Nat)) : Int) (2 ^ 32 - 1) ∧
      ((s.link l).fit = true → (t.link l).moveDue = true ∧
        t.faultCount (18 + linkNo l) = min (s.faultCount (18 + linkNo l) + 1) (2 ^ 32 - 1)) ∧
      t.ports = s.ports ∧ t.ctxs = s.ctxs := by
  have hcalm : ∀ u, SameForLoss l s u → (rxLost l u).CalmDue := fun u hu =>
    (rxLost_leaves (by rw [State.rxUp, hu.link]; exact hup) ((hu.settings.linkOn l).trans ho) ((hu.settings.prbsChecks l).trans hc)
      (calmDue_of_none (by rw [hu.faults, hs.2.1]))).1
  rcases hi with ⟨rfl, h1, h2, h3⟩ | ⟨q, tid, value, o, rfl, hacc⟩
  · obtain ⟨u, hu, heq⟩ := linkLoss_lost hup h1 h2 h3
    have hdue := hcalm u hu
    rw [← heq] at hdue
    obtain ⟨hrun, hkeep⟩ := run_calmDue (f := linkLoss l c) hs hdue
    obtain ⟨g1, g2, g3, g4, g5, g6⟩ := loss_collected hs hu hup ho hc (congrArg State.faults heq) (congrArg State.aon heq)
      (fun hg => (hkeep hg).trans (congrArg _ heq))
    exact ⟨_, hrun, g1, g2, g3, g4 hp, g5, g6⟩
  · obtain rfl := hacc.obj (findObj_linkRetrain l)
    have hu := SameForLoss.arrived l q s
    have hretrain : oxlRetrain l (s.arrived q) = rxLost l (s.arrived q) := if_pos (by rw [State.rxUp, hu.link]; exact hup)
    obtain ⟨w, hrun, hf, ha, -, hkeep⟩ := exec_accepted_calm (i := .oxlRetrain q tid l value) rfl hacc
      ((hostWrite_linkRetrain q l _ _ _).trans hretrain) (hcalm _ hu)
    obtain ⟨g1, g2, g3, g4, g5, g6⟩ := loss_collected hs hu hup ho hc hf ha hkeep
    exact ⟨_, hrun, g1, g2, g3, g4 hp, g5, g6⟩

/-- Settles O56: each step of the bring-up, the pairs sent and received, the losses and the writes. -/
theorem hostLinksComeUpAndAreLost : Obligations.HostLinksComeUpAndAreLost := by
  refine ⟨fun l ppm s hs h1 => ⟨fun hp => ?clock, fun hp => ?noClock⟩, fun l e0 e1 s hs h2 => ?adapt, fun l s hs h3 => ?lock,
    fun l b0 b1 link0 lane0 link1 lane1 n id id1 up up1 s hs h4 hb0 hb1 => ⟨fun hl0 hl1 hne => ?deskew, fun hne => ?miswired⟩,
    fun l s hs h4 => ⟨fun hg => ?notYet, run_linkUp hs h4⟩, fun l s hs ho hc => ⟨fun h => ?timeout, fun h => ?noTimeout⟩,
    fun l b0 b1 lane0 n id id1 up1 s hs h4 hlane hin hn hb0 hb1 => ?align, fun l s hs htx hd => ?notDue, fun l s hs htx hd => ?due,
    fun i l c s hs hup ho hp hc hi => link_lost hs hup ho hp hc hi, fun l s hs h6 => ?quiet,
    fun _ _ _ _ _ _ _ => linkEnable_written⟩
  case clock => exact run_to (f := linkClock l ppm) hs (if_pos ⟨h1, hp⟩) (State.modLink_faults ..)
  case noClock => exact run_to (f := linkClock l ppm) hs (if_neg (fun h => absurd h.2 (by omega))) rfl
  case adapt => exact run_to (f := linkAdapt l e0 e1) hs (if_pos h2) (State.modLink_faults ..)
  case lock => exact run_to (f := linkLock l) hs (if_pos h3) (State.modLink_faults ..)
  case deskew =>
    refine run_to (f := linkDeskew l b0 b1) hs ?_ (State.modLink_faults ..)
    unfold linkDeskew
    rw [hb0, hb1]
    dsimp only
    rw [if_pos ⟨h4, rfl⟩, if_neg (by simp [hl0, hl1]), if_neg hne]
  case miswired =>
    have heq : linkDeskew l b0 b1 s = wiringMismatch l up id s := by
      unfold linkDeskew
      rw [hb0, hb1]
      dsimp only
      rw [if_pos ⟨h4, rfl⟩, if_pos (.inl hne)]
    obtain ⟨t, ht, g1, g⟩ := run_wiringMismatch hs heq
    exact ⟨t, ht, g1.trans h4, g⟩
  case notYet => exact run_to (f := linkUp l) hs (if_neg (fun h => absurd h.2 (by omega))) rfl
  case timeout =>
    have heq : linkTimeout l s = rxRestart l s := if_pos h
    refine ⟨_, run_to (f := linkTimeout l) hs heq (rxRestart_keeps (g := State.faults) (fun _ _ => rfl) l s), rxRestart_state ho hc, ?_,
      rxRestart_link_other l s, ?_⟩
    · exact rxRestart_keeps (g := State.regs) (fun _ _ => rfl) l s
    · exact rxRestart_keeps (g := State.ports) (fun _ _ => rfl) l s
  case noTimeout => exact run_to (f := linkTimeout l) hs (if_neg (by omega)) rfl
  case align =>
    refine run_to (f := alignIn l b0 b1) hs ?_ (State.modLink_faults ..)
    have hnext : ((n + 65535) % 65536 + 1) % 65536 = n := by omega
    have hsome : (s.link l).alignIn.isSome = true := by rw [hin]; rfl
    unfold alignIn
    rw [hb0, hb1]
    dsimp only
    rw [if_pos ⟨h4, hsome⟩, if_pos ⟨rfl, rfl⟩]
    simp only [hin, Option.map_some, hnext, laneBit0, hlane, decide_true, Bool.and_self, if_true]
    rw [State.modLink, State.modLink, h4]
  case notDue => exact run_to (f := alignTransmit l) hs (if_neg (by simp [hd])) rfl
  case due =>
    have heq : alignTransmit l s = sendFlow l (sendAlign l [] s) := if_pos ⟨htx, hd⟩
    have hkeep : ∀ {β : Type} {g : State → β}, (∀ (t : State) x, g { t with oxl := x } = g t) → g (sendFlow l (sendAlign l [] s)) = g s :=
      fun hg => (sendFlow_keeps hg l _).trans (sendAlign_keeps hg l [] s)
    refine ⟨_, run_to (f := alignTransmit l) hs heq (hkeep fun _ _ => rfl), hkeep fun _ _ => rfl, hkeep fun _ _ => rfl, ?_, ?_⟩
    · rw [sendFlow_link_other, sendAlign_link_other]
    · refine (sendPair_link l [] s (s.link l)).trans ?_
      rw [LinkSt.filled, List.map_nil, List.append_nil]
      rfl
  case quiet => exact run_to (f := linkLoss l .clockIdle) hs (if_neg (by rw [h6]; decide)) rfl

end Sys2Proof.Proofs

/-! PROOFS. Quiet, the lane checker and its counts, as the host links' statement asks of them. -/

namespace Sys2Proof.Machine

/-! ## Quiet -/

theorem enterQuiet_keeps {β : Type} {g : State → β} (hg : ∀ (t : State) r x, g { t with regs := r, oxl := x } = g t) (l : Link)
    (behind : Bool) (s : State) : g (enterQuiet l behind s) = g s := by
  rw [enterQuiet, State.bump, State.bumpBy_keeps (fun t r => hg t r t.oxl), modLink_keeps (fun t x => hg t t.regs x),
    sendBlocks_keeps (fun t x => hg t t.regs x)]

/-- What a link sends and says of itself, but for what its lanes carry. -/
theorem enterQuiet_link (l : Link) (behind : Bool) (s : State) (y : LinkSt) :
    ((enterQuiet l behind s).link l).besidesLanes y = { (s.link l).besidesLanes y with
      tx := 2, inProgress := (s.link l).afterFrame
      sentBlocks := (if behind then (s.link l).sentBlocks else []) ++ List.replicate 8 0x5500000000000000#64 } := by
  have h := sendBlocks_link l behind (List.replicate 8 (BlockKind.control, quietBlock)) s y
  rw [List.map_replicate, show quietBlock = 0x5500000000000000#64 by decide] at h
  rw [enterQuiet, State.link_bump, State.link_modLink]
  exact congrArg (fun x : LinkSt => { x with tx := 2, inProgress := x.afterFrame }) h

theorem enterQuiet_link_other (l : Link) (behind : Bool) (s : State) :
    (enterQuiet l behind s).link (otherLink l) = s.link (otherLink l) := by
  rw [enterQuiet, State.link_bump, State.link_modLink_other, sendBlocks_link_other]

theorem enterQuiet_counts (l : Link) (behind : Bool) (s : State) :
    (enterQuiet l behind s).reg (linkCode l Code.quietEntriesTx) 0 =
      min (((s.regN (linkCode l Code.quietEntriesTx) 0 + 1 : Nat)) : Int) (2 ^ 32 - 1) := by
  rw [enterQuiet, State.reg_bump_same, State.regN, modLink_keeps (g := fun t => t.reg _ 0) (fun _ _ => rfl),
    sendBlocks_keeps (g := fun t => t.reg _ 0) (fun _ _ => rfl), State.regN]

theorem leaveQuiet_keeps {β : Type} {g : State → β} (hg : ∀ (t : State) x, g { t with oxl := x } = g t) (l : Link) (s : State) :
    g (leaveQuiet l s) = g s := by
  rw [leaveQuiet, modLink_keeps hg, sendFlow_keeps hg, sendAlign_keeps hg]

theorem leaveQuiet_link_other (l : Link) (s : State) : (leaveQuiet l s).link (otherLink l) = s.link (otherLink l) := by
  rw [leaveQuiet, State.link_modLink_other, sendFlow_link_other, sendAlign_link_other]

/-- The blocks of an exit from Quiet: IDLE for 500 ns to 1,000 ns, the ALIGN pair and its FLOW groups (R311, R314). -/
def State.exitBlocks (s : State) (l : Link) : List (BitVec 64) :=
  List.replicate (if (s.link l).nextLane = 1 then 313 else 312) 0x1E00000000000000#64 ++
    [s.alignBlock l 0 (((s.link l).alignOut + 1) % 65536), s.alignBlock l 1 (((s.link l).alignOut + 1) % 65536),
      s.flowBlock 0, s.flowBlock 1, s.flowBlock 2]

theorem idlePairs_blocks (n : Nat) : (idlePairs n).map (fun b => b.2) = List.replicate (2 * n) 0x1E00000000000000#64 := by
  rw [idlePairs, List.map_replicate, idleBlock_eq]

theorem filled_idle (x : LinkSt) : x.filled ((idlePairs 156).map (fun b => b.2)) =
    List.replicate (if x.nextLane = 1 then 313 else 312) 0x1E00000000000000#64 := by
  rw [LinkSt.filled, idlePairs_blocks]
  split
  · exact (List.replicate_succ (n := 312)).symm
  · rfl

theorem leaveQuiet_link (l : Link) (s : State) (y : LinkSt) :
    ((leaveQuiet l s).link l).besidesLanes y = { (s.link l).besidesLanes y with
      tx := 1, alignOut := ((s.link l).alignOut + 1) % 65536, flowGroups := [], alignAt := some s.time.tick
      sentBlocks := s.exitBlocks l, idleFrom := s.time.tick } := by
  have h := sendPair_link l (idlePairs 156) s y
  rw [filled_idle] at h
  rw [leaveQuiet, State.link_modLink]
  exact congrArg (fun x : LinkSt => { x with tx := 1, idleFrom := s.time.tick }) h

/-- A periodic exit up to the IDLE blocks behind it (R315). -/
def State.exitsQuiet (s : State) (l : Link) : State := sendBlocks l true (idlePairs 625) (leaveQuiet l s)

theorem exitsQuiet_keeps {β : Type} {g : State → β} (hg : ∀ (t : State) x, g { t with oxl := x } = g t) (s : State) (l : Link) :
    g (s.exitsQuiet l) = g s := by rw [State.exitsQuiet, sendBlocks_keeps hg, leaveQuiet_keeps hg]

theorem exitsQuiet_link (s : State) (l : Link) :
    ((s.exitsQuiet l).link l).tx = 1 ∧ ((s.exitsQuiet l).link l).alignOut = ((s.link l).alignOut + 1) % 65536 ∧
      ((s.exitsQuiet l).link l).sentBlocks = s.exitBlocks l ++ List.replicate 1250 0x1E00000000000000#64 := by
  have h := leaveQuiet_link l s {}
  have h' := sendBlocks_link l true (idlePairs 625) (leaveQuiet l s) {}
  rw [idlePairs_blocks] at h'
  refine ⟨(congrArg (fun x : LinkSt => x.tx) h' :).trans (congrArg (fun x : LinkSt => x.tx) h :),
    (congrArg (fun x : LinkSt => x.alignOut) h' :).trans (congrArg (fun x : LinkSt => x.alignOut) h :),
    (congrArg (fun x : LinkSt => x.sentBlocks) h' :).trans ?_⟩
  exact congrArg (fun b => b ++ List.replicate 1250 0x1E00000000000000#64) (congrArg (fun x : LinkSt => x.sentBlocks) h :)

theorem quietPeriodicExit_quiet {l : Link} {s : State} (h : (s.link l).tx = 2) :
    quietPeriodicExit l s = if (s.link l).waits then s.exitsQuiet l else enterQuiet l true (s.exitsQuiet l) := if_pos h

/-! ## The checker of a lane -/

theorem State.reg_addPrbs {code n : Nat} (h : 0 < n) (s : State) :
    (addPrbs code n s).reg code 0 = min (((s.regN code 0 + n : Nat)) : Int) (2 ^ 48 - 1) := by
  rw [addPrbs, if_neg (by omega), State.reg_setReg]

theorem State.reg_addPrbs_ne {code c n : Nat} (hc : c ≠ Code.rollCall) (h : objKey c 0 ≠ objKey code 0) (s : State) :
    (addPrbs code n s).reg c 0 = s.reg c 0 := by
  unfold addPrbs
  split
  · rfl
  · exact State.reg_setReg_ne _ hc h

theorem addPrbs_keeps {β : Type} {g : State → β} (hg : ∀ (t : State) r, g { t with regs := r } = g t) (code n : Nat) (s : State) :
    g (addPrbs code n s) = g s := by
  unfold addPrbs
  split
  · rfl
  · exact hg s _

@[simp] theorem LinkSt.checker_setChecker (x : LinkSt) (n : Nat) (c : Checker) : (x.setChecker n c).checker n = c := by
  unfold LinkSt.setChecker LinkSt.checker
  split <;> rfl

/-- The lane counts' keys are not each other's. -/
theorem prbsBits_key_ne {n : Nat} (hn : n < 2) (l : Link) :
    objKey (laneCode l n Code.prbsBits) 0 ≠ objKey (laneCode l n Code.prbsErrors) 0 := by
  refine objKey_ne ?_ (by decide) (by decide)
  obtain rfl | rfl : n = 0 ∨ n = 1 := by omega
  all_goals cases l <;> decide

theorem laneCode_ne_rollCall {n : Nat} (hn : n < 2) (l : Link) :
    laneCode l n Code.prbsBits ≠ Code.rollCall ∧ laneCode l n Code.prbsErrors ≠ Code.rollCall := by
  obtain rfl | rfl : n = 0 ∨ n = 1 := by omega
  all_goals cases l <;> decide

/-- A link with its checker of a lane put. -/
def State.checkerPut (s : State) (l : Link) (n : Nat) (c : Checker) : State := s.modLink l (fun x => x.setChecker n c)

theorem prbsIn_runs {l : Link} {n : Nat} {bits : List Bool} {s : State} (hn : n < 2) (ho : s.linkOn l = true)
    (hc : s.regN (laneCode l n Code.prbsCheck) 0 ≠ 0) :
    let r := prbsRun (s.regN (laneCode l n Code.prbsCheck) 0) ((s.link l).checker n) bits
    prbsIn l n bits s = addPrbs (laneCode l n Code.prbsErrors) r.2.2 (addPrbs (laneCode l n Code.prbsBits) r.2.1 (s.checkerPut l n r.1)) := by
  refine if_neg ?_
  rintro (h | h | h)
  · exact hc h
  · omega
  · exact absurd (ho.symm.trans h) (by decide)

/-- What bits on a lane under test leave (R325). -/
theorem run_prbsIn {l : Link} {n : Nat} {bits : List Bool} {s : State} (hs : s.Ready) (hn : n < 2) (ho : s.linkOn l = true)
    (hc : s.regN (laneCode l n Code.prbsCheck) 0 ≠ 0) :
    let r := prbsRun (s.regN (laneCode l n Code.prbsCheck) 0) ((s.link l).checker n) bits
    ∃ t : State, run (prbsIn l n bits) s = .next t ∧ (t.link l).checker n = r.1 ∧
      (0 < r.2.1 → t.reg (laneCode l n Code.prbsBits) 0 =
        min (((s.regN (laneCode l n Code.prbsBits) 0 + r.2.1 : Nat)) : Int) (2 ^ 48 - 1)) ∧
      (0 < r.2.2 → t.reg (laneCode l n Code.prbsErrors) 0 =
        min (((s.regN (laneCode l n Code.prbsErrors) 0 + r.2.2 : Nat)) : Int) (2 ^ 48 - 1)) ∧
      t.link (otherLink l) = s.link (otherLink l) ∧ t.ports = s.ports ∧ t.ctxs = s.ctxs := by
  intro r
  obtain ⟨hb, he⟩ := laneCode_ne_rollCall hn l
  have hkey := prbsBits_key_ne hn l
  have hput : ∀ {β : Type} {g : State → β}, (∀ (t : State) x, g { t with oxl := x } = g t) → g (s.checkerPut l n r.1) = g s :=
    fun hg => modLink_keeps hg l _ s
  have hkeep : ∀ {β : Type} {g : State → β}, (∀ (t : State) r, g { t with regs := r } = g t) → ∀ a b,
      g (addPrbs (laneCode l n Code.prbsErrors) a (addPrbs (laneCode l n Code.prbsBits) b (s.checkerPut l n r.1))) = g (s.checkerPut l n r.1) :=
    fun hg a b => (addPrbs_keeps hg _ _ _).trans (addPrbs_keeps hg _ _ _)
  refine ⟨_, run_to (f := prbsIn l n bits) hs (prbsIn_runs hn ho hc) ((hkeep (fun _ _ => rfl) _ _).trans (hput fun _ _ => rfl)), ?_,
    fun h => ?_, fun h => ?_, ?_, (hkeep (g := State.ports) (fun _ _ => rfl) _ _).trans (hput fun _ _ => rfl),
    (hkeep (g := State.ctxs) (fun _ _ => rfl) _ _).trans (hput fun _ _ => rfl)⟩
  · refine (hkeep (g := fun t => (t.link l).checker n) (fun _ _ => by cases l <;> rfl) _ _).trans ?_
    rw [State.checkerPut, State.link_modLink, LinkSt.checker_setChecker]
  · rw [State.reg_addPrbs_ne hb hkey, State.reg_addPrbs h, State.regN, hput (g := fun t => t.reg _ 0) (fun _ _ => rfl), State.regN]
  · rw [State.reg_addPrbs h, State.regN, State.reg_addPrbs_ne he hkey.symm, hput (g := fun t => t.reg _ 0) (fun _ _ => rfl), State.regN]
  · refine (hkeep (g := fun t => t.link (otherLink l)) (fun _ _ => by cases l <;> rfl) _ _).trans ?_
    rw [State.checkerPut, State.link_modLink_other]

/-! ## PRBS_CLEAR -/

def prbsClearRow : Obj := ⟨0x602008, .bool, .wo, .device, 0, 1, 0⟩

theorem findObj_prbsClear {n : Nat} (hn : n < 2) (l : Link) : findObj (laneCode l n Code.prbsClear) = some prbsClearRow := by
  obtain rfl | rfl : n = 0 ∨ n = 1 := by omega
  all_goals cases l <;> decide +kernel

theorem prbsClearWritten_arrived (l : Link) (n : Nat) (q : Path) (s : State) :
    prbsClearWritten l n (s.arrived q) = (prbsClearWritten l n s).arrived q := by cases q <;> rfl

theorem hostWrite_prbsClear {n : Nat} (hn : n < 2) (q : Path) (l : Link) (inst master : Nat) (s : State) :
    hostWrite q prbsClearRow (laneCode l n Code.prbsClear) inst 1 master s = prbsClearWritten l n s := by
  obtain rfl | rfl : n = 0 ∨ n = 1 := by omega
  all_goals cases l <;> rfl

end Sys2Proof.Machine

/-! PROOFS. What a lane carries is what the lane at its far end reads. -/

namespace Sys2Proof.Machine

/-! ## Bits and numbers -/

theorem foldl_natBits (n v a : Nat) :
    (natBits n v).foldl (fun a b => 2 * a + (if b then 1 else 0)) a = a * 2 ^ n + v % 2 ^ n := by
  induction n generalizing a with
  | zero => simp [natBits, Nat.mod_one]
  | succ n ih =>
    have hcons : natBits (n + 1) v = v.testBit n :: natBits n v := by
      rw [natBits, List.range_succ_eq_map, List.map_cons, List.map_map, natBits]
      congr 1
      refine List.map_congr_left fun i hi => ?_
      show v.testBit (n + 1 - 1 - (i + 1)) = _
      congr 1
      omega
    rw [hcons, List.foldl_cons, ih, pow_succ, Nat.mod_mul, Nat.testBit_eq_decide_div_mod_eq]
    rcases Nat.mod_two_eq_zero_or_one (v / 2 ^ n) with h | h <;> simp [h] <;> ring

theorem bitsNat_natBits (n v : Nat) : bitsNat (natBits n v) = v % 2 ^ n := by
  rw [bitsNat, foldl_natBits, Nat.zero_mul, Nat.zero_add]

theorem natBits_length (n v : Nat) : (natBits n v).length = n := by simp [natBits]

theorem ofNat_bitsNat_natBits (b : BitVec 64) : BitVec.ofNat 64 (bitsNat (natBits 64 b.toNat)) = b := by
  rw [bitsNat_natBits, Nat.mod_eq_of_lt b.isLt, BitVec.ofNat_toNat, BitVec.setWidth_eq]

/-! ## Scrambling -/

theorem runBits_length (f : BitVec 58 → Bool → Bool × BitVec 58) (s : BitVec 58) (bits : List Bool) :
    (runBits f s bits).1.length = bits.length := by
  induction bits generalizing s with
  | nil => rfl
  | cons b rest ih => simp [runBits, ih]

/-- What is scrambled is descrambled from the same bits before it (R301). -/
theorem runBits_descramble (s : BitVec 58) (bits : List Bool) :
    runBits descrambleBit s (runBits scrambleBit s bits).1 = (bits, (runBits scrambleBit s bits).2) := by
  induction bits generalizing s with
  | nil => rfl
  | cons b rest ih =>
    simp only [runBits, ih, descrambleBit, scrambleBit, Bool.xor_assoc, Bool.xor_self, Bool.xor_false]

theorem blockBits_length (s : BitVec 58) (k : BlockKind) (b : BitVec 64) : (blockBits s k b).1.length = 66 := by
  cases k <;> simp [blockBits, runBits_length, natBits_length]

/-! ## Symbols -/

theorem grayPair_lt (a b : Bool) : grayPair a b < 4 := by cases a <;> cases b <;> decide

theorem grayPairs_lt (bits : List Bool) : ∀ g ∈ grayPairs bits, g < 4 := by
  induction bits using grayPairs.induct with
  | case1 a b rest ih =>
    intro g hg
    rcases List.mem_cons.1 hg with rfl | hg
    · exact grayPair_lt a b
    · exact ih g hg
  | case2 bits h =>
    intro g hg
    rw [grayPairs.eq_2 bits h] at hg
    cases hg

theorem pairOf_grayPair (a b : Bool) : pairOf (grayPair a b) = [a, b] := by cases a <;> cases b <;> decide

/-- An even stream of bits is two bits for each of its Gray values (R298). -/
theorem grayPairs_even {n : Nat} {bits : List Bool} (h : bits.length = 2 * n) :
    (grayPairs bits).length = n ∧ (grayPairs bits).flatMap pairOf = bits := by
  induction n generalizing bits with
  | zero =>
    obtain rfl := List.eq_nil_of_length_eq_zero (by omega : bits.length = 0)
    exact ⟨rfl, rfl⟩
  | succ n ih =>
    match bits, h with
    | a :: b :: rest, h =>
      obtain ⟨h1, h2⟩ := ih (bits := rest) (by simp only [List.length_cons] at h; omega)
      exact ⟨congrArg (· + 1) h1, by rw [grayPairs, List.flatMap_cons, pairOf_grayPair, h2]; rfl⟩

/-- What a lane sends for one Gray value (R299). -/
theorem precode_value_lt (on : Bool) {prev g : Nat} (hg : g < 4) : (if on then (g + 4 - prev % 4) % 4 else g) < 4 := by
  cases on <;> simp <;> omega

/-- Gray values come through the precoding of both ends, which are left at the same value (R299). -/
theorem unprecode_precode (on : Bool) (prev : Nat) (gs : List Nat) (h : ∀ g ∈ gs, g < 4) :
    unprecode on prev (precode on prev gs).1 = (gs, (precode on prev gs).2) ∧ (precode on prev gs).1.length = gs.length ∧
      ∀ p ∈ (precode on prev gs).1, p < 4 := by
  induction gs generalizing prev with
  | nil => exact ⟨rfl, rfl, fun p hp => absurd hp List.not_mem_nil⟩
  | cons g rest ih =>
    have hg : g < 4 := h g List.mem_cons_self
    have hp := precode_value_lt on (prev := prev) hg
    obtain ⟨h1, h2, h3⟩ := ih (if on then (g + 4 - prev % 4) % 4 else g) fun x hx => h x (List.mem_cons_of_mem g hx)
    refine ⟨?_, congrArg (· + 1) h2, fun p hmem => ?_⟩
    · have hback : (if on then ((if on then (g + 4 - prev % 4) % 4 else g) + prev) % 4 else (if on then (g + 4 - prev % 4) % 4 else g)) = g := by
        cases on
        · rfl
        · simp only [if_true]; omega
      simp only [precode, unprecode, h1, hback]
    · rcases List.mem_cons.1 hmem with rfl | hmem
      · exact hp
      · exact h3 p hmem

theorem pam4Value_pam4Level (inv : Bool) {p : Nat} (h : p < 4) : pam4Value inv (pam4Level inv p) = p := by
  unfold pam4Value pam4Level
  cases inv <;> simp only [if_true, Bool.false_eq_true, if_false] <;> omega

/-- Levels are read as the values sent (R298). -/
theorem map_pam4 (inv : Bool) {ps : List Nat} (h : ∀ p ∈ ps, p < 4) : (ps.map (pam4Level inv)).map (pam4Value inv) = ps := by
  rw [List.map_map]
  exact (List.map_congr_left fun p hp => pam4Value_pam4Level inv (h p hp)).trans (List.map_id ps)

/-! ## A block -/

/-- The bits of a block as the receiver decides them, and the value that both coders are left at (R298, R299). -/
theorem laneBits_read (pre inv : Bool) (prev : Nat) {bits : List Bool} (h : bits.length = 66) :
    let y := precode pre prev (grayPairs bits)
    y.1.length = 33 ∧ unprecode pre prev ((y.1.map (pam4Level inv)).map (pam4Value inv)) = (grayPairs bits, y.2) ∧
      (grayPairs bits).flatMap pairOf = bits := by
  obtain ⟨h1, h2, h3⟩ := unprecode_precode pre prev (grayPairs bits) (grayPairs_lt bits)
  obtain ⟨hl, hb⟩ := grayPairs_even (n := 33) h
  exact ⟨h2.trans hl, by rw [map_pam4 inv h3, h1], hb⟩

/-- A receiver that stands where the sender stood reads the block sent, with its sync header (R298–R302). -/
theorem receiveOnLane_sendOnLane (pre inv : Bool) (c : LaneCoder) (k : BlockKind) (b : BitVec 64) :
    (sendOnLane (pre, inv) c k b).1.length = 33 ∧
      receiveOnLane (pre, inv) c (decide (k = .align)) (sendOnLane (pre, inv) c k b).1 =
        ((if k = .data then 1 else 2, b), (sendOnLane (pre, inv) c k b).2) := by
  obtain ⟨hlen, hread, hbits⟩ := laneBits_read pre inv c.prev (blockBits_length c.scrambler k b)
  refine ⟨by rw [sendOnLane, List.length_map]; exact hlen, ?_⟩
  unfold receiveOnLane sendOnLane
  dsimp only
  rw [hread]
  dsimp only
  rw [hbits]
  cases k with
  | data => simp [blockBits, runBits_descramble, ofNat_bitsNat_natBits, show bitsNat [false, true] = 1 from rfl]
  | control => simp [blockBits, runBits_descramble, ofNat_bitsNat_natBits, show bitsNat [true, false] = 2 from rfl]
  | align => simp [blockBits, ofNat_bitsNat_natBits, show bitsNat [true, false] = 2 from rfl]

end Sys2Proof.Machine

/-! PROOFS. Quiet and the lane test: the statement about them. -/

namespace Sys2Proof.Machine

/-- A link that is lost for traffic keeps its queues' frame in progress until its move (R321, R322). -/
theorem refreshLink_lost_progress {l : Link} {before : Nat} {s : State} (hl : s.lostForTraffic l = true) :
    ((refreshLink l before s).link l).inProgress = (s.link l).inProgress := by
  cases hf : (s.link l).fit with
  | false => rw [refreshLink_same (by rw [hf, hl]; rfl)]
  | true =>
    have hlink : (refreshLink l before s).link l = (s.linkLost l).link l := by
      rw [← lossRaised_link s l before, refreshLink_lost hf hl]
      split
      · cases l <;> rfl
      · rfl
    rw [hlink, linkLost_link]

/-- The working value of a lane's object is beside what a core cycle collects and a link's traffic moves. -/
theorem laneReg_refreshLink {c n : Nat} (hc : c = Code.prbsGen ∨ c = Code.prbsCheck) (hn : n < 2) (l : Link) (before : Nat) (s : State) :
    (refreshLink l before s).reg (laneCode l n c) 0 = s.reg (laneCode l n c) 0 := by
  rcases hc with rfl | rfl <;> obtain rfl | rfl : n = 0 ∨ n = 1 := by omega
  all_goals exact refreshLink_linkReg (by decide) (by decide) (by decide) (by decide) l l before s

theorem besidesCollector_laneReg {c n : Nat} (hc : c = Code.prbsGen ∨ c = Code.prbsCheck) (hn : n < 2) (l : Link) :
    BesidesCollector (fun t => t.reg (laneCode l n c) 0) := by
  rcases hc with rfl | rfl <;> obtain rfl | rfl : n = 0 ∨ n = 1 := by omega
  all_goals exact besidesCollector_linkReg (by decide) (by decide) (by decide) (by decide) l

theorem prbsSends_of_lane {s : State} {l : Link} {n : Nat} (hn : n < 2) (h : s.regN (laneCode l n Code.prbsGen) 0 ≠ 0) :
    s.prbsSends l = true := by
  unfold State.prbsSends
  obtain rfl | rfl : n = 0 ∨ n = 1 := by omega
  · simp [h]
  · simp [h]

theorem prbsChecks_of_lane {s : State} {l : Link} {n : Nat} (hn : n < 2) (h : s.regN (laneCode l n Code.prbsCheck) 0 ≠ 0) :
    s.prbsChecks l = true := by
  unfold State.prbsChecks
  obtain rfl | rfl : n = 0 ∨ n = 1 := by omega
  · simp [h]
  · simp [h]

/-! ## PRBS_GEN -/

def prbsGenRow : Obj := ⟨0x601006, .u8, .rw, .device, 0, 2, 0⟩

theorem findObj_prbsGen {n : Nat} (hn : n < 2) (l : Link) : findObj (laneCode l n Code.prbsGen) = some prbsGenRow := by
  obtain rfl | rfl : n = 0 ∨ n = 1 := by omega
  all_goals cases l <;> decide +kernel

theorem hostWrite_prbsGen {n : Nat} (hn : n < 2) (q : Path) (l : Link) (inst master : Nat) (v : Int) (s : State) :
    hostWrite q prbsGenRow (laneCode l n Code.prbsGen) inst v master s =
      prbsGenWritten l n (s.setReg (laneCode l n Code.prbsGen) inst v) := by
  obtain rfl | rfl : n = 0 ∨ n = 1 := by omega
  all_goals cases l <;> rfl

/-- A link whose generator of a lane starts anew (R325). -/
def State.genStarted (s : State) (l : Link) (n : Nat) : State :=
  let code := s.regN (laneCode l n Code.prbsGen) 0
  let g := if code = 0 then ([], s) else prbsStart code s
  g.2.modLink l (fun x => { x with
    tx := if !s.linkOn l then 0 else if s.prbsSends l then 3 else if x.tx = 3 then 1 else x.tx,
    prbs0 := if n = 0 then g.1 else x.prbs0, prbs1 := if n = 0 then x.prbs1 else g.1 })

theorem prbsGenWritten_eq (l : Link) (n : Nat) (s : State) : prbsGenWritten l n s = refreshLink l (s.link l).state (s.genStarted l n) := rfl

theorem genStarted_keeps {β : Type} {g : State → β} (hg : ∀ (t : State) x k, g { t with oxl := x, free := k } = g t) (s : State) (l : Link)
    (n : Nat) : g (s.genStarted l n) = g s := by
  unfold State.genStarted
  refine (modLink_keeps (fun t x => hg t x t.free) _ _ _).trans ?_
  split
  · rfl
  · exact hg s s.oxl _

theorem genStarted_link (s : State) (l : Link) (n : Nat) : ∃ p0 p1, (s.genStarted l n).link l = { s.link l with
    tx := if !s.linkOn l then 0 else if s.prbsSends l then 3 else if (s.link l).tx = 3 then 1 else (s.link l).tx
    prbs0 := p0, prbs1 := p1 } := by
  have hfree : ∀ (x : List Bool) (m : Nat), (if m = 0 then (x, s) else prbsStart m s).2.link l = s.link l := by
    intro x m
    split <;> rfl
  rw [State.genStarted, State.link_modLink, hfree]
  exact ⟨_, _, rfl⟩

/-- A link with the new generator is left in traffic as the lane test lets it, before its core cycle is over (R321, R325). -/
theorem prbsGenWritten_leaves {l : Link} {n : Nat} {s : State} (hn : n < 2) (hd : s.CalmDue) :
    (prbsGenWritten l n s).CalmDue ∧ (prbsGenWritten l n s).reg (laneCode l n Code.prbsGen) 0 = s.reg (laneCode l n Code.prbsGen) 0 ∧
      (s.regN (laneCode l n Code.prbsGen) 0 ≠ 0 →
        (s.linkOn l = true → ((prbsGenWritten l n s).link l).tx = 3) ∧
          ((prbsGenWritten l n s).link l).inProgress = (s.link l).inProgress ∧ ((prbsGenWritten l n s).link l).fit = false) ∧
      (prbsGenWritten l n s).ports = s.ports ∧ (prbsGenWritten l n s).ctxs = s.ctxs := by
  obtain ⟨p0, p1, hlink⟩ := genStarted_link s l n
  rw [prbsGenWritten_eq]
  refine ⟨.refreshLink (hd.of_due (genStarted_keeps (g := fun t => t.faults.due) (fun _ _ _ => rfl) s l n)) l _, ?_, fun hv => ?_, ?_, ?_⟩
  · rw [laneReg_refreshLink (.inl rfl) hn]
    exact genStarted_keeps (g := fun t => t.reg _ 0) (fun _ _ _ => rfl) s l n
  · have hsends := prbsSends_of_lane hn hv
    have hlost : (s.genStarted l n).lostForTraffic l = true := by
      have hsends' : (s.genStarted l n).prbsSends l = true :=
        (genStarted_keeps (g := fun t => t.prbsSends l) (fun _ _ _ => rfl) s l n).trans hsends
      unfold State.lostForTraffic
      rw [hsends']
      simp
    refine ⟨fun ho => ?_, ?_, (refreshLink_unfit hlost).1⟩
    · rw [refreshLink_link (k := LinkSt.tx) ⟨fun _ _ _ _ _ _ _ _ _ _ => rfl⟩ (fun _ _ _ _ => rfl), hlink, ho, hsends]
      rfl
    · rw [refreshLink_lost_progress hlost, hlink]
  · rw [refreshLink_keeps (g := State.ports) (fun _ _ _ _ _ => rfl)]
    exact genStarted_keeps (g := State.ports) (fun _ _ _ => rfl) s l n
  · rw [refreshLink_keeps (g := State.ctxs) (fun _ _ _ _ _ => rfl)]
    exact genStarted_keeps (g := State.ctxs) (fun _ _ _ => rfl) s l n

/-! ## PRBS_CHECK -/

def prbsCheckRow : Obj := ⟨0x602004, .u8, .rw, .device, 0, 2, 0⟩

theorem findObj_prbsCheck {n : Nat} (hn : n < 2) (l : Link) : findObj (laneCode l n Code.prbsCheck) = some prbsCheckRow := by
  obtain rfl | rfl : n = 0 ∨ n = 1 := by omega
  all_goals cases l <;> decide +kernel

theorem hostWrite_prbsCheck {n : Nat} (hn : n < 2) (q : Path) (l : Link) (inst master : Nat) (v : Int) (s : State) :
    hostWrite q prbsCheckRow (laneCode l n Code.prbsCheck) inst v master s =
      prbsCheckWritten l n (s.setReg (laneCode l n Code.prbsCheck) inst v) := by
  obtain rfl | rfl : n = 0 ∨ n = 1 := by omega
  all_goals cases l <;> rfl

/-- Whether a new checker ends or begins the bring-up of the receive side (R307, R325). -/
def State.checkRestarts (s : State) (l : Link) : Bool := s.prbsChecks l != decide ((s.link l).state = 7)

theorem prbsCheckWritten_eq (l : Link) (n : Nat) (s : State) : prbsCheckWritten l n s =
    if s.checkRestarts l then refreshLink l (s.link l).state (rxRestart l (s.checkerPut l n {})) else s.checkerPut l n {} := by
  unfold prbsCheckWritten State.checkRestarts
  cases s.prbsChecks l <;> by_cases h : (s.link l).state = 7 <;> simp [h] <;> rfl

theorem checkerPut_settings (s : State) (l : Link) (n : Nat) (c : Checker) : SameSettings s (s.checkerPut l n c) :=
  .of_regs (modLink_keeps (g := State.regs) (fun _ _ => rfl) l _ s) (modLink_keeps (g := fun t => t.time.n) (fun _ _ => rfl) l _ s)

theorem LinkSt.setChecker_state (x : LinkSt) (n : Nat) (c : Checker) : (x.setChecker n c).state = x.state := by
  unfold LinkSt.setChecker
  split <;> rfl

/-- What the write of a checker leaves, before its core cycle is over (R321, R325). -/
theorem prbsCheckWritten_leaves {l : Link} {n : Nat} {s : State} (hn : n < 2) (hd : s.CalmDue) :
    (prbsCheckWritten l n s).CalmDue ∧ (prbsCheckWritten l n s).reg (laneCode l n Code.prbsCheck) 0 = s.reg (laneCode l n Code.prbsCheck) 0 ∧
      ((prbsCheckWritten l n s).link l).checker n = {} ∧
      (s.regN (laneCode l n Code.prbsCheck) 0 ≠ 0 → (s.linkOn l = true → ((prbsCheckWritten l n s).link l).state = 7) ∧
        ((s.link l).state ≠ 7 → ((prbsCheckWritten l n s).link l).fit = false)) ∧
      (prbsCheckWritten l n s).ports = s.ports ∧ (prbsCheckWritten l n s).ctxs = s.ctxs := by
  obtain ⟨u, hu⟩ : ∃ u, u = s.checkerPut l n {} := ⟨_, rfl⟩
  have hput : ∀ {β : Type} {g : State → β}, (∀ (t : State) x, g { t with oxl := x } = g t) → g u = g s :=
    fun hg => hu ▸ modLink_keeps hg l _ s
  have hset : SameSettings s u := hu ▸ checkerPut_settings s l n {}
  have hlink : u.link l = (s.link l).setChecker n {} := by rw [hu, State.checkerPut, State.link_modLink]
  have hclean : (u.link l).checker n = {} := by rw [hlink, LinkSt.checker_setChecker]
  have hrx : ∀ {β : Type} {g : State → β}, (∀ (t : State) x, g { t with oxl := x } = g t) → g (rxRestart l u) = g s :=
    fun hg => (rxRestart_keeps hg l u).trans (hput hg)
  rw [prbsCheckWritten_eq, ← hu]
  split
  next hr =>
    have hcheckerLink : ((refreshLink l (s.link l).state (rxRestart l u)).link l).checker n = {} := by
      rw [refreshLink_link (k := fun x => x.checker n) ⟨fun _ _ _ _ _ _ _ _ _ _ => rfl⟩ (fun _ _ _ _ => rfl),
        rxRestart_link (k := fun x => x.checker n) (fun _ _ => rfl)]
      exact hclean
    refine ⟨.refreshLink (hd.of_due (hrx (g := fun t => t.faults.due) fun _ _ => rfl)) l _, ?_, hcheckerLink, fun hv => ?_, ?_, ?_⟩
    · rw [laneReg_refreshLink (.inr rfl) hn]
      exact hrx (g := fun t => t.reg _ 0) fun _ _ => rfl
    · have hchecks : s.prbsChecks l = true := prbsChecks_of_lane hn hv
      have hlost : (rxRestart l u).lostForTraffic l = true := by
        unfold State.lostForTraffic
        rw [(rxRestart_settings l u).prbsChecks, hset.prbsChecks, hchecks]
        simp
      refine ⟨fun ho => ?_, fun _ => (refreshLink_unfit hlost).1⟩
      rw [refreshLink_state, rxRestart_link (k := LinkSt.state) (fun _ _ => rfl), LinkSt.restarted, State.startState,
        hset.linkOn, ho, hset.prbsChecks, hchecks]
      rfl
    · rw [refreshLink_keeps (g := State.ports) (fun _ _ _ _ _ => rfl)]
      exact hrx fun _ _ => rfl
    · rw [refreshLink_keeps (g := State.ctxs) (fun _ _ _ _ _ => rfl)]
      exact hrx fun _ _ => rfl
  next hr =>
    refine ⟨hd.of_due (hput (g := fun t => t.faults.due) fun _ _ => rfl), hput (g := fun t => t.reg _ 0) fun _ _ => rfl, hclean,
      fun hv => ?_, hput fun _ _ => rfl, hput fun _ _ => rfl⟩
    have h7 : (s.link l).state = 7 := by
      simpa [State.checkRestarts, prbsChecks_of_lane hn hv] using hr
    exact ⟨fun _ => by rw [hlink, LinkSt.setChecker_state, h7], fun h => absurd h7 h⟩

end Sys2Proof.Machine

namespace Sys2Proof.Proofs

open Machine

/-- A setting of a lane as an accepted write puts it, before it takes effect. -/
theorem laneWrite_put {q : Path} {l : Link} {n c : Nat} {s : State} {v : Int} (hdue : s.faults.due = []) :
    let u := (s.arrived q).setReg (laneCode l n c) 0 v
    u.CalmDue ∧ u.reg (laneCode l n c) 0 = v ∧ u.link l = s.link l ∧ u.ports = s.ports ∧ u.ctxs = s.ctxs := by
  refine ⟨calmDue_of_none ((congrArg FaultSt.due (State.arrived_faults s q)).trans hdue), State.reg_setReg .., ?_, State.arrived_ports s q,
    State.arrived_ctxs s q⟩
  rw [State.link_setReg, State.arrived_link]

theorem laneWrite_linkOn {q : Path} {l : Link} {n c : Nat} {s : State} {v : Int} (hn : n < 2) (hc : c = Code.prbsGen ∨ c = Code.prbsCheck) :
    ((s.arrived q).setReg (laneCode l n c) 0 v).linkOn l = s.linkOn l := by
  have hne : linkCode l Code.linkEnable ≠ laneCode l n c := by
    rcases hc with rfl | rfl <;> obtain rfl | rfl : n = 0 ∨ n = 1 := by omega
    all_goals cases l <;> decide
  rw [State.linkOn, State.regB, State.reg_setReg_ne _ (by cases l <;> decide) (objKey_ne hne (by decide) (by decide)), State.arrived_reg]
  rfl

theorem prbsGen_written {q : Path} {tid value n : Nat} {l : Link} {s : State} {o : Obj} {v : Int} (hn : n < 2)
    (hacc : s.Accepts q (laneCode l n Code.prbsGen) value o v) :
    ∃ t : State, exec (.prbsGen q tid l n value) s = .next t ∧ t.reg (laneCode l n Code.prbsGen) 0 = v ∧
      (v ≠ 0 → s.linkOn l = true → (t.link l).tx = 3 ∧ (t.link l).inProgress = (s.link l).inProgress) ∧
      (v ≠ 0 → (s.link l).fit = true → (t.link l).fit = false) ∧ t.ports = s.ports ∧ t.ctxs = s.ctxs := by
  obtain rfl := hacc.obj (findObj_prbsGen hn l)
  have hlo : (0 : Int) ≤ v := hacc.range.1
  obtain ⟨h1, h2, h3, h4, h5⟩ := laneWrite_put (q := q) (l := l) (n := n) (c := Code.prbsGen) (v := v) (s := s) hacc.1.1.2.1
  have hon := laneWrite_linkOn (q := q) (l := l) (s := s) (v := v) hn (.inl rfl)
  obtain ⟨g1, g2, g3, g4, g5⟩ := prbsGenWritten_leaves (l := l) hn h1
  obtain ⟨w, hrun, -, -, -, hkeep⟩ := exec_accepted_calm (i := .prbsGen q tid l n value) (if_pos hn) hacc (hostWrite_prbsGen hn q l _ _ v _) g1
  have hv : v ≠ 0 → ((s.arrived q).setReg (laneCode l n Code.prbsGen) 0 v).regN (laneCode l n Code.prbsGen) 0 ≠ 0 := by
    intro h
    rw [State.regN, h2]
    omega
  refine ⟨_, hrun, ?_, fun h ho => ⟨?_, ?_⟩, fun h _ => ?_, ?_, ?_⟩
  · exact (hkeep (besidesCollector_laneReg (.inl rfl) hn l)).trans (g2.trans h2)
  · exact (hkeep ((besidesCollector_link l).map LinkSt.tx)).trans ((g3 (hv h)).1 (hon.trans ho))
  · exact (hkeep ((besidesCollector_link l).map LinkSt.inProgress)).trans ((g3 (hv h)).2.1.trans (congrArg _ h3))
  · exact (hkeep ((besidesCollector_link l).map LinkSt.fit)).trans (g3 (hv h)).2.2
  · exact (hkeep besidesCollector_ports).trans (g4.trans h4)
  · exact (hkeep besidesCollector_ctxs).trans (g5.trans h5)

theorem prbsCheck_written {q : Path} {tid value n : Nat} {l : Link} {s : State} {o : Obj} {v : Int} (hn : n < 2)
    (hacc : s.Accepts q (laneCode l n Code.prbsCheck) value o v) :
    ∃ t : State, exec (.prbsCheck q tid l n value) s = .next t ∧ t.reg (laneCode l n Code.prbsCheck) 0 = v ∧
      (t.link l).checker n = {} ∧ (v ≠ 0 → s.linkOn l = true → (t.link l).state = 7) ∧
      (v ≠ 0 → (s.link l).state ≠ 7 → (s.link l).fit = true → (t.link l).fit = false) ∧
      t.ports = s.ports ∧ t.ctxs = s.ctxs := by
  obtain rfl := hacc.obj (findObj_prbsCheck hn l)
  have hlo : (0 : Int) ≤ v := hacc.range.1
  obtain ⟨h1, h2, h3, h4, h5⟩ := laneWrite_put (q := q) (l := l) (n := n) (c := Code.prbsCheck) (v := v) (s := s) hacc.1.1.2.1
  have hon := laneWrite_linkOn (q := q) (l := l) (s := s) (v := v) hn (.inr rfl)
  obtain ⟨g1, g2, g3, g4, g5, g6⟩ := prbsCheckWritten_leaves (l := l) hn h1
  obtain ⟨w, hrun, -, -, -, hkeep⟩ := exec_accepted_calm (i := .prbsCheck q tid l n value) (if_pos hn) hacc (hostWrite_prbsCheck hn q l _ _ v _) g1
  have hv : v ≠ 0 → ((s.arrived q).setReg (laneCode l n Code.prbsCheck) 0 v).regN (laneCode l n Code.prbsCheck) 0 ≠ 0 := by
    intro h
    rw [State.regN, h2]
    omega
  refine ⟨_, hrun, ?_, ?_, fun h ho => ?_, fun h h7 _ => ?_, ?_, ?_⟩
  · exact (hkeep (besidesCollector_laneReg (.inr rfl) hn l)).trans (g2.trans h2)
  · exact (hkeep ((besidesCollector_link l).map (fun x => x.checker n))).trans g3
  · exact (hkeep ((besidesCollector_link l).map LinkSt.state)).trans ((g4 (hv h)).1 (hon.trans ho))
  · exact (hkeep ((besidesCollector_link l).map LinkSt.fit)).trans ((g4 (hv h)).2 (h3 ▸ h7))
  · exact (hkeep besidesCollector_ports).trans (g5.trans h4)
  · exact (hkeep besidesCollector_ctxs).trans (g6.trans h5)

theorem prbsClear_written {q : Path} {tid value n : Nat} {l : Link} {s : State} {o : Obj} (hn : n < 2)
    (hacc : s.Accepts q (laneCode l n Code.prbsClear) value o 1) :
    ∃ t : State, exec (.prbsClear q tid l n value) s = .next t ∧ t.reg (laneCode l n Code.prbsBits) 0 = 0 ∧
      t.reg (laneCode l n Code.prbsErrors) 0 = 0 ∧ { t.link l with mgmt := (s.link l).mgmt } = s.link l ∧ t.ports = s.ports := by
  obtain rfl := hacc.obj (findObj_prbsClear hn l)
  obtain ⟨hb, he⟩ := laneCode_ne_rollCall hn l
  obtain ⟨t, ht, -, ⟨hfields, -, -, hlinks, hregs⟩, -, -⟩ := exec_accepted_onlyAnswered (i := .prbsClear q tid l n value)
    (u := prbsClearWritten l n s) (if_pos hn) hacc ((hostWrite_prbsClear hn q l _ _ _).trans (prbsClearWritten_arrived l n q s)) rfl rfl
  have hbits : t.regWritten (laneCode l n Code.prbsBits) 0 = some 0 := by
    rw [hregs, prbsClearWritten, State.regWritten_setReg_ne _ _ (prbsBits_key_ne hn l), State.regWritten_setReg]
    all_goals obtain rfl | rfl : n = 0 ∨ n = 1 := by omega
    all_goals cases l <;> decide
  have herrors : t.regWritten (laneCode l n Code.prbsErrors) 0 = some 0 := by
    rw [hregs, prbsClearWritten, State.regWritten_setReg]
    all_goals obtain rfl | rfl : n = 0 ∨ n = 1 := by omega
    all_goals cases l <;> decide
  have hlink : (prbsClearWritten l n s).link l = s.link l := by rw [prbsClearWritten, State.link_setReg, State.link_setReg]
  exact ⟨t, ht, reg_of_written hbits, reg_of_written herrors, hlink ▸ hlinks l, (congrArg State.ports hfields :)⟩

/-- Settles O58: Quiet on both sides of a link, the writes of the lane test, the checker, and a block from end to end. -/
theorem quietAndTheLaneTest : Obligations.QuietAndTheLaneTest := by
  refine ⟨fun l s hs htx hup hw => ⟨fun h0 => ?noQuiet, fun h0 ht => ?quiet⟩, fun l s hs h5 => ?rxQuiet,
    fun l s hs htx => ⟨fun hw => ?stay, fun hw => ?leave, fun hw => ?goOn, fun hw => ?again⟩, fun l s hs h6 => ?rxExit,
    fun i l s hs h6 ho hc hi => ?timeout, fun _ _ _ _ _ _ _ _ => prbsGen_written, fun _ _ _ _ _ _ _ _ => prbsCheck_written,
    fun _ _ _ _ _ _ _ => prbsClear_written, fun l n bits s hs hn ho hc => run_prbsIn hs hn ho hc,
    fun pre inv c k b _ => receiveOnLane_sendOnLane pre inv c k b⟩
  case noQuiet => exact run_to (f := quietEntry l) hs (if_neg (fun h => h.2.2.1 h0)) rfl
  case quiet =>
    have helapsed : s.elapsed (s.link l).idleFrom (s.regN (linkCode l Code.quietIdle) 0 * microTicks) = true :=
      (State.elapsed_iff ..).2 ht
    have h := enterQuiet_link l false s {}
    exact ⟨_, run_to (f := quietEntry l) hs (if_pos ⟨htx, hup, h0, hw, helapsed⟩) (enterQuiet_keeps (g := State.faults) (fun _ _ _ => rfl) l false s),
      (congrArg (fun x : LinkSt => x.tx) h :), (congrArg (fun x : LinkSt => x.sentBlocks) h :), enterQuiet_counts l false s,
      enterQuiet_link_other l false s, enterQuiet_keeps (g := State.ports) (fun _ _ _ => rfl) l false s,
      enterQuiet_keeps (g := State.ctxs) (fun _ _ _ => rfl) l false s⟩
  case rxQuiet =>
    have hkeep : ∀ {β : Type} {g : State → β}, (∀ (t : State) r x, g { t with regs := r, oxl := x } = g t) →
        g ((s.modLink l (fun x => { x with state := 6, rxQuiet := true, rxExiting := false })).bump (linkCode l Code.quietEntriesRx) 0) = g s :=
      fun hg => (State.bumpBy_keeps (fun t r => hg t r t.oxl) _ _ _ _).trans (modLink_keeps (fun t x => hg t t.regs x) _ _ _)
    refine ⟨_, run_to (f := quietRxEntry l) hs (if_pos h5) (hkeep (g := State.faults) fun _ _ _ => rfl), ?_, ?_, ?_, ?_, ?_,
      hkeep (g := State.ports) fun _ _ _ => rfl, hkeep (g := State.ctxs) fun _ _ _ => rfl⟩
    · rw [State.link_bump, State.link_modLink]
    · rw [State.link_bump, State.link_modLink]
    · rw [State.link_bump, State.link_modLink]
    · rw [State.reg_bump_same, State.regN, modLink_keeps (g := fun t => t.reg _ 0) (fun _ _ => rfl), State.regN]
    · rw [State.link_bump, State.link_modLink_other]
  case stay => exact run_to (f := quietExit l) hs (if_neg (fun h => absurd (hw.symm.trans h.2) (by decide))) rfl
  case leave =>
    exact ⟨_, run_to (f := quietExit l) hs (if_pos ⟨htx, hw⟩) (leaveQuiet_keeps (g := State.faults) (fun _ _ => rfl) l s),
      leaveQuiet_keeps (g := State.regs) (fun _ _ => rfl) l s, leaveQuiet_keeps (g := State.ports) (fun _ _ => rfl) l s,
      leaveQuiet_link_other l s, leaveQuiet_link l s (s.link l)⟩
  case goOn =>
    obtain ⟨h1, h2, h3⟩ := exitsQuiet_link s l
    exact ⟨_, run_to (f := quietPeriodicExit l) hs ((quietPeriodicExit_quiet htx).trans (if_pos hw))
      (exitsQuiet_keeps (g := State.faults) (fun _ _ => rfl) s l), h1, h2, h3, exitsQuiet_keeps (g := State.regs) (fun _ _ => rfl) s l,
      exitsQuiet_keeps (g := State.ports) (fun _ _ => rfl) s l⟩
  case again =>
    obtain ⟨-, h2, h3⟩ := exitsQuiet_link s l
    have h := enterQuiet_link l true (s.exitsQuiet l) {}
    have hpast : ¬ (s.link l).waits = true := by rw [hw]; decide
    refine ⟨_, run_to (f := quietPeriodicExit l) hs ((quietPeriodicExit_quiet htx).trans (if_neg hpast)) ?_,
      (congrArg (fun x : LinkSt => x.tx) h :), (congrArg (fun x : LinkSt => x.alignOut) h :).trans h2,
      (congrArg (fun x : LinkSt => x.sentBlocks) h :).trans (congrArg (fun b => b ++ List.replicate 8 0x5500000000000000#64) h3), ?_, ?_⟩
    · exact (enterQuiet_keeps (g := State.faults) (fun _ _ _ => rfl) l true _).trans (exitsQuiet_keeps (g := State.faults) (fun _ _ => rfl) s l)
    · rw [enterQuiet_counts, State.regN, exitsQuiet_keeps (g := fun t => t.reg _ 0) (fun _ _ => rfl), State.regN]
    · exact (enterQuiet_keeps (g := State.ports) (fun _ _ _ => rfl) l true _).trans (exitsQuiet_keeps (g := State.ports) (fun _ _ => rfl) s l)
  case rxExit => exact run_to (f := quietRxExit l) hs (if_pos h6) (State.modLink_faults ..)
  case timeout =>
    have hup : s.rxUp l = true := by rw [State.rxUp, h6]; rfl
    have hlost : ∃ f, exec i s = run f s ∧ f s = rxLost l s := by
      rcases hi with ⟨rfl, he⟩ | ⟨rfl, he⟩
      · exact ⟨quietActivityTimeout l, rfl, if_pos ⟨h6, he⟩⟩
      · exact ⟨quietAlignTimeout l, rfl, if_pos ⟨h6, he⟩⟩
    obtain ⟨f, hf, heq⟩ := hlost
    have hdue := (rxLost_leaves hup ho hc (calmDue_of_none hs.2.1)).1
    rw [← heq] at hdue
    obtain ⟨hrun, hkeep⟩ := run_calmDue (f := f) hs hdue
    obtain ⟨g1, g2, g3, -, g5, g6⟩ := loss_collected hs (.refl l s) hup ho hc (congrArg State.faults heq) (congrArg State.aon heq)
      (fun hg => (hkeep hg).trans (congrArg _ heq))
    exact ⟨_, hf.trans hrun, g1, g2, g3, g5, g6⟩

end Sys2Proof.Proofs

/-! PROOFS. Slot maps: plans, announcements, their cycle, and the statement about them. -/

namespace Sys2Proof.Machine

/-! ## Announcing a map -/

/-- What does not look at the messages that a port has to send. -/
def MessageBlind {β : Type} (p : Nat) (g : State → β) : Prop :=
  ∀ (t : State) (f : PortSt → PortSt), (∀ x, { f x with msgs := [] } = { x with msgs := [] }) → g (t.modPort p f) = g t

section
variable {β : Type} {p : Nat} {g : State → β} (h : MessageBlind p g)
include h

theorem MessageBlind.sendSlotMap (m : SlotMap) (sl : Slot) (apply fromCycle : Nat) (advance : Int) (t : State) :
    g (sendSlotMap p m sl apply fromCycle advance t) = g t := by
  unfold Machine.sendSlotMap queueMsg
  refine (h _ _ ?_).trans (h t _ ?_)
  · exact fun _ => rfl
  · exact fun _ => rfl

theorem MessageBlind.announceMap (known new : SlotMap) (apply : Nat) (t : State) : g (announceMap p known new apply t) = g t := by
  refine forAll_keeps g _ _ (fun sl u => ?_) t
  split
  · exact h.sendSlotMap ..
  · rfl

/-- A map in wait is what an installation leaves, messages apart (R86, R484). -/
theorem MessageBlind.installMap (m : SlotMap) (apply : Nat) (t : State) :
    g (installMap p m apply t) = g (t.modPort p (fun x => { x with pending := some { map := m, apply := apply } })) := by
  unfold Machine.installMap
  exact h.announceMap ..

end

theorem messageBlind_of_ports {β : Type} {g : State → β} (p : Nat) (hg : ∀ (t : State) x, g { t with ports := x } = g t) : MessageBlind p g :=
  fun t _ _ => hg t _

theorem messageBlind_port_other {p j : Nat} (h : j ≠ p) : MessageBlind p (fun t => t.port j) :=
  fun _ _ _ => State.port_modPort_ne _ _ h

theorem messageBlind_port (p : Nat) : MessageBlind p (fun t => { t.port p with msgs := [] }) := fun t f hf => by
  show { (t.modPort p f).port p with msgs := [] } = _
  rw [State.port_modPort]
  exact hf _

theorem MessageBlind.map {β γ : Type} {p : Nat} {g : State → β} (h : MessageBlind p g) (k : β → γ) : MessageBlind p (fun t => k (g t)) :=
  fun t f hf => congrArg k (h t f hf)

theorem installMap_pending (p : Nat) (m : SlotMap) (apply : Nat) (s : State) :
    ((installMap p m apply s).port p).pending = some { map := m, apply := apply } ∧
      ((installMap p m apply s).port p).map = (s.port p).map := by
  have h := (messageBlind_port p).installMap m apply s
  dsimp only at h
  rw [State.port_modPort] at h
  exact ⟨(congrArg (fun x : PortSt => x.pending) h :), (congrArg (fun x : PortSt => x.map) h :)⟩

theorem installMap_keeps {β : Type} {g : State → β} (hg : ∀ (t : State) x, g { t with ports := x } = g t) (p : Nat) (m : SlotMap)
    (apply : Nat) (s : State) : g (installMap p m apply s) = g s :=
  ((messageBlind_of_ports p hg).installMap m apply s).trans (hg s _)

theorem installMap_port_other {p j : Nat} (h : j ≠ p) (m : SlotMap) (apply : Nat) (s : State) :
    (installMap p m apply s).port j = s.port j :=
  ((messageBlind_port_other h).installMap m apply s).trans (State.port_modPort_ne _ _ h)

/-! ## A new grant -/

def grantRow : Obj := ⟨0x402001, .u16, .rw, .drop, 0, 2000, 128⟩

theorem findObj_grant : findObj Code.grant = some grantRow := by decide +kernel

theorem hostWrite_grant (q : Path) (inst master : Nat) (v : Int) (s : State) : hostWrite q grantRow Code.grant inst v master s =
    planGrant (inst / 64) (inst % 64) (s.regN Code.grant inst) (s.setReg Code.grant inst v) := rfl

/-- A port without a plan, a move or a waiting map names a change for the first aligned cycle (R84, R86). -/
theorem planGrant_named {p d old : Nat} {s : State} {m : SlotMap} (hp : s.planMap p = some m)
    (hs : ((s.port p).map.slotOf d).isSome = true) (hm : (s.port p).move = none) (hn : (s.port p).pending = none) :
    planGrant p d old s = installMap p m (s.alignedFrom (s.time.cycles + (2 * max (s.port p).map.period m.period + 1))
      (max (s.port p).map.period m.period)) s := by
  have hslot : ¬ ((s.port p).map.slotOf d = none ∧ ((s.port p).pending.bind (fun q => q.map.slotOf d)) = none) := by
    rintro ⟨h, -⟩
    rw [h] at hs
    cases hs
  unfold planGrant
  rw [hp]
  dsimp only
  rw [if_neg hslot, State.namedCycle, State.namedFrom, hm, hn]
  rfl

/-- What the write of a grant leaves (R84, R86). -/
theorem grant_written {q : Path} {tid value p d : Nat} {s : State} {o : Obj} {v : Int} {m : SlotMap}
    (hacc : s.Accepts q Code.grant value o v) (hp : (s.path q).selPort = p) (hd : (s.path q).selDrop = d) (hp1 : p < 144) (hd1 : d ≤ 32)
    (hmove : (s.port p).move = none) (hnone : (s.port p).pending = none) (hslot : ((s.port p).map.slotOf d).isSome = true)
    (hplan : (s.setReg Code.grant (dropKey p d) v).planMap p = some m) :
    ∃ t : State, exec (.grant q tid value) s = .next t ∧ t.Holds q (writeDone tid Code.grant) ∧
      t.reg Code.grant (dropKey p d) = v ∧
      (t.port p).pending = some (PendingMap.mk m (s.alignedFrom
        (s.time.cycles + 2 * max (s.port p).map.period m.period + 1) (max (s.port p).map.period m.period))) ∧
      (t.port p).map = (s.port p).map ∧ (∀ j : Nat, j ≠ p → t.port j = s.port j) ∧ t.ctxs = s.ctxs ∧ t.time = s.time := by
  obtain rfl := hacc.obj findObj_grant
  obtain ⟨u, hu⟩ : ∃ u, u = (s.arrived q).setReg Code.grant (dropKey p d) v := ⟨_, rfl⟩
  obtain ⟨k, hk⟩ : ∃ k, k = s.alignedFrom (s.time.cycles + 2 * max (s.port p).map.period m.period + 1) (max (s.port p).map.period m.period) :=
    ⟨_, rfl⟩
  have hinst : s.instOf q grantRow.scope = dropKey p d := by rw [← hp, ← hd]; rfl
  have hport : u.port = s.port := by rw [hu]; cases q <;> rfl
  have hkey : dropKey p d / 64 = p ∧ dropKey p d % 64 = d := by unfold dropKey; omega
  have huplan : u.planMap p = some m := by rw [← hplan, hu]; cases q <;> rfl
  have hcycle : u.alignedFrom (u.time.cycles + (2 * max (u.port p).map.period m.period + 1)) (max (u.port p).map.period m.period) = k := by
    rw [hport, hk, hu]
    cases q <;> rfl
  have hw : hostWrite q grantRow Code.grant (s.instOf q grantRow.scope) v (masterOf q) (s.arrived q) = installMap p m k u := by
    rw [hinst, hostWrite_grant, hkey.1, hkey.2, ← hu, planGrant_named huplan (hport ▸ hslot) (hport ▸ hmove) (hport ▸ hnone), hcycle]
  have hkeep : ∀ {β : Type} {g : State → β}, (∀ (t : State) x, g { t with ports := x } = g t) → g (installMap p m k u) = g u :=
    fun hg => installMap_keeps hg p m k u
  have hspi : q = .spi → (installMap p m k u).spi.abandoned = false := fun hq => by
    rw [hkeep (g := State.spi) (fun _ _ => rfl), hu]
    exact arrived_abandoned s hq
  have hreg : BesidesAnswers (fun t => t.reg Code.grant (dropKey p d)) :=
    (besidesCollector_reg (by decide) (by unfold dropKey; omega) (fun l => by cases l <;> decide) (fun l => by cases l <;> decide)
      (by decide)).toBesidesAnswers
  obtain ⟨hpend, hmap⟩ := installMap_pending p m k u
  refine ⟨_, exec_accepted (i := .grant q tid value) rfl hacc hw ?_ ?_, ?_, ?_, ?_, ?_, fun j hj => ?_, ?_, ?_⟩
  · rw [hkeep (g := State.oxl) (fun _ _ => rfl), hu]
    exact State.arrived_oxl s q
  · rw [hkeep (g := State.faults) (fun _ _ => rfl), hu]
    exact State.arrived_faults s q
  · simpa using holds_counted (answer_holds (q := q) (r := writeReq tid Code.grant value)
      (.ok (addressBytes (Code.grant / 256) (Code.grant % 256) 0)) rfl hspi)
  · rw [hreg.answered, hkeep (g := fun t => t.reg Code.grant (dropKey p d)) (fun _ _ => rfl), hu, State.reg_setReg]
  · rw [State.port, answered_ports, ← State.port, hpend, hk]
  · rw [State.port, answered_ports, ← State.port, hmap, hport]
  · rw [State.port, answered_ports, ← State.port, installMap_port_other hj, hport]
  · rw [answered_ctxs, hkeep (g := State.ctxs) (fun _ _ => rfl), hu]
    exact State.arrived_ctxs s q
  · rw [answered_time, hkeep (g := State.time) (fun _ _ => rfl), hu]
    exact State.arrived_time s q

/-! ## A map takes effect -/

/-- The new map in force; every drop's return under R209 is over (R86, R209). -/
theorem takeMap_keeps {β : Type} {g : State → β} (hg : ∀ (t : State) x, g { t with ctxs := x } = g t) (p : Nat) (m : SlotMap) (s : State) :
    g (takeMap p m s) = g (s.modPort p (fun x => { x with map := m })) := by
  unfold takeMap
  exact forAll_keeps g _ _ (fun d t => hg t _) _

/-- What leaves every context but for the mark of a return. -/
theorem modCtx_unreverted (p q d e : Nat) (t : State) :
    { (t.modCtx p d (fun x => { x with reverted := false })).ctx q e with reverted := false } = { t.ctx q e with reverted := false } := by
  by_cases h : dropKey q e = dropKey p d
  · have hsame : t.ctx q e = t.ctx p d := by unfold State.ctx; rw [h]
    have hmod : (t.modCtx p d (fun x => { x with reverted := false })).ctx q e =
        (t.modCtx p d (fun x => { x with reverted := false })).ctx p d := by rw [State.ctx, h]; rfl
    rw [hmod, State.ctx_modCtx, hsame]
  · rw [State.ctx_modCtx_ne _ _ h]

theorem Ctx.eq_unreverted {x y : Ctx} (h : { x with reverted := false } = { y with reverted := false }) (hr : x.reverted = false) :
    x = { y with reverted := false } := by
  rw [← h]
  cases x
  cases hr
  rfl

theorem takeMap_ctx {p d : Nat} (hd : d ∈ allDrops) (m : SlotMap) (s : State) :
    (takeMap p m s).ctx p d = { s.ctx p d with reverted := false } := by
  have hrest : { (takeMap p m s).ctx p d with reverted := false } = { s.ctx p d with reverted := false } := by
    unfold takeMap
    exact forAll_keeps (fun t => { t.ctx p d with reverted := false }) _ _ (fun e t => modCtx_unreverted p p e d t) _
  have hmark : ((takeMap p m s).ctx p d).reverted = false := by
    unfold takeMap
    refine forAll_establishes (P := fun t => (t.ctx p d).reverted = false) hd (fun t => ?_) (fun e t ht => ?_) _
    · rw [State.ctx_modCtx]
    · by_cases h : dropKey p d = dropKey p e
      · have : d = e := by unfold dropKey at h; omega
        rw [this, State.ctx_modCtx]
      · rwa [State.ctx_modCtx_ne _ _ h]
  exact Ctx.eq_unreverted hrest hmark

/-- A drop's wake where its cycle has come (R211). -/
def wakeDue (p d : Nat) (t : State) : State :=
  match (t.ctx p d).wakeApply with
  | some k => if t.due k then wakeApplies p d t else t
  | none => t

theorem wakeDue_none {p d : Nat} {s : State} (h : (s.ctx p d).wakeApply = none) : wakeDue p d s = s := by
  unfold wakeDue
  rw [h]

/-- With no wake in wait, none takes place. -/
theorem wakes_none {p : Nat} {s : State} {ds : List Nat} (h : ∀ d ∈ ds, (s.ctx p d).wakeApply = none) : forAll ds (wakeDue p) s = s := by
  induction ds with
  | nil => rfl
  | cons d ds ih =>
    show forAll ds (wakeDue p) (wakeDue p d s) = s
    rw [wakeDue_none (h d List.mem_cons_self)]
    exact ih fun e he => h e (List.mem_cons_of_mem d he)

theorem mem_allDrops {d : Nat} (h : d ∈ allDrops) : 1 ≤ d ∧ d ≤ 32 := by
  simp only [allDrops, span, List.mem_map, List.mem_range] at h
  omega

/-- The port with its pending map in force. -/
def State.mapTaken (s : State) (p : Nat) (m : SlotMap) : State := takeMap p m (s.modPort p (fun x => { x with pending := none }))

theorem mapTaken_port (s : State) (p : Nat) (m : SlotMap) : (s.mapTaken p m).port p = { s.port p with map := m, pending := none } := by
  rw [State.mapTaken, takeMap_keeps (g := fun t => t.port p) (fun _ _ => rfl), State.port_modPort, State.port_modPort]

theorem mapTaken_port_other {p j : Nat} (h : j ≠ p) (s : State) (m : SlotMap) : (s.mapTaken p m).port j = s.port j := by
  rw [State.mapTaken, takeMap_keeps (g := fun t => t.port j) (fun _ _ => rfl), State.port_modPort_ne _ _ h, State.port_modPort_ne _ _ h]

theorem mapTaken_keeps {β : Type} {g : State → β} (hg : ∀ (t : State) x y, g { t with ports := x, ctxs := y } = g t) (s : State) (p : Nat)
    (m : SlotMap) : g (s.mapTaken p m) = g s :=
  (takeMap_keeps (fun t y => hg t t.ports y) p m _).trans ((hg _ _ s.ctxs).trans (hg s _ s.ctxs))

theorem mapTaken_ctx {p d : Nat} (hd : d ∈ allDrops) (s : State) (m : SlotMap) :
    (s.mapTaken p m).ctx p d = { s.ctx p d with reverted := false } := takeMap_ctx hd m _

theorem takeWaiting_nil {p : Nat} {s : State} (h : (s.port p).waiting = []) : takeWaiting p s = s := by
  unfold takeWaiting
  rw [h]
  rfl

/-- What becomes of a port's state once its pending map is judged: the wakes, then what waited (R184, R211, R484). -/
def afterMap (p : Nat) (s : State) : State :=
  let t := forAll allDrops (wakeDue p) s
  if (t.port p).pending.isNone && (t.port p).move.isNone then takeWaiting p t else t

theorem slotMapApply_pending {p : Nat} {a : PendingMap} {s : State} (hp : (s.port p).pending = some a) :
    slotMapApply p s = afterMap p (if s.due a.apply then s.mapTaken p a.map else s) := by
  unfold slotMapApply
  rw [hp]
  rfl

/-- At its cycle, with nothing waiting, a pending map takes effect and nothing else happens (R86). -/
theorem slotMapApply_due {p : Nat} {a : PendingMap} {s : State} (hp : (s.port p).pending = some a) (hw : (s.port p).waiting = [])
    (hwake : ∀ d : Nat, d < 64 → (s.ctx p d).wakeApply = none) (h : a.apply ≤ s.time.cycles + 1) :
    slotMapApply p s = s.mapTaken p a.map := by
  have hdue : s.due a.apply = true := decide_eq_true h
  have hnone : ∀ d ∈ allDrops, ((s.mapTaken p a.map).ctx p d).wakeApply = none := fun d hd => by
    rw [mapTaken_ctx hd]
    exact hwake d (by have := mem_allDrops hd; omega)
  have hwait : takeWaiting p (s.mapTaken p a.map) = s.mapTaken p a.map := takeWaiting_nil (by rw [mapTaken_port]; exact hw)
  rw [slotMapApply_pending hp, if_pos hdue, afterMap, wakes_none hnone, hwait, ite_self]

theorem slotMapApply_early {p : Nat} {a : PendingMap} {s : State} (hp : (s.port p).pending = some a)
    (hwake : ∀ d : Nat, d < 64 → (s.ctx p d).wakeApply = none) (h : s.time.cycles + 1 < a.apply) : slotMapApply p s = s := by
  have hdue : ¬ s.due a.apply = true := fun hd => absurd (of_decide_eq_true hd) (by omega)
  rw [slotMapApply_pending hp, if_neg hdue, afterMap, wakes_none (fun d hd => hwake d (by have := mem_allDrops hd; omega)), hp]
  rfl

end Sys2Proof.Machine

namespace Sys2Proof.Proofs

open Machine

/-- Settles O44: the write of a grant, and the cycle of a pending map. -/
theorem slotMapsTakeEffectAtTheirCycle : Obligations.SlotMapsTakeEffectAtTheirCycle := by
  refine ⟨fun q tid value p d s o v m hacc hp hd hp1 _ hd2 hmove hpend hslot hplan =>
    grant_written hacc hp hd hp1 hd2 hmove hpend hslot hplan, fun p a s hs hp1 hp hw _ hwake => ⟨fun h => ?due, fun h => ?early⟩⟩
  case due =>
    have heq : atPort p (slotMapApply p) s = s.mapTaken p a.map := (if_pos hp1).trans (slotMapApply_due hp hw hwake h)
    exact ⟨_, run_to (f := atPort p (slotMapApply p)) hs heq (mapTaken_keeps (g := State.faults) (fun _ _ _ => rfl) s p a.map), mapTaken_port s p a.map,
      fun d hd => mapTaken_ctx hd s a.map, fun j hj => mapTaken_port_other hj s a.map,
      mapTaken_keeps (g := State.regs) (fun _ _ _ => rfl) s p a.map, mapTaken_keeps (g := State.time) (fun _ _ _ => rfl) s p a.map,
      mapTaken_keeps (g := State.cells) (fun _ _ _ => rfl) s p a.map⟩
  case early =>
    exact run_to (f := atPort p (slotMapApply p)) hs ((if_pos hp1).trans (slotMapApply_early hp hwake h)) rfl

end Sys2Proof.Proofs

/-! PROOFS. Sleep, wake, release and loss of drops: named cycles, plans, and what a release leaves. -/

namespace Sys2Proof.Machine

/-! ## Keys of contexts -/

theorem dropKey_ne {p d j e : Nat} (hd : d < 64) (he : e < 64) (h : (j, e) ≠ (p, d)) : dropKey j e ≠ dropKey p d := by
  intro hk
  unfold dropKey at hk
  exact h (Prod.ext (by dsimp only; omega) (by dsimp only; omega))

/-! ## Named cycles -/

theorem le_firstCycle (test : Nat → Bool) (fuel k : Nat) : k ≤ firstCycle test fuel k := by
  induction fuel generalizing k with
  | zero => exact Nat.le_refl k
  | succ n ih =>
    unfold firstCycle
    split
    · exact Nat.le_refl k
    · exact (Nat.le_succ k).trans (ih (k + 1))

theorem le_alignedFrom (s : State) (k period : Nat) : k ≤ s.alignedFrom k period := le_firstCycle ..

/-- A port without a move and a pending map names a change for an aligned cycle that is not before the one asked for (R86). -/
theorem namedFrom_free {s : State} {p : Nat} (hm : (s.port p).move = none) (hn : (s.port p).pending = none) (earliest period : Nat) :
    ∃ k, s.namedFrom p earliest period = some k ∧ earliest ≤ k := by
  refine ⟨_, ?_, le_alignedFrom s earliest (max (s.port p).map.period period)⟩
  rw [State.namedFrom, hm, hn]
  rfl

theorem namedCycle_free {s : State} {p : Nat} (hm : (s.port p).move = none) (hn : (s.port p).pending = none) (lead period : Nat) :
    ∃ k, s.namedCycle p lead period = some k ∧ s.time.cycles + lead ≤ k := namedFrom_free hm hn _ _

theorem namedCycle_modCtx (s : State) (p d : Nat) (f : Ctx → Ctx) (j lead period : Nat) :
    (s.modCtx p d f).namedCycle j lead period = s.namedCycle j lead period := rfl

/-! ## Plans -/

/-- What a plan looks at in a context (R84, R208–R212). -/
structure Ctx.SamePlan (x y : Ctx) : Prop where
  state : x.state = y.state
  releasing : x.releasing.isNone = y.releasing.isNone
  sleeping : x.sleeping.isNone = y.sleeping.isNone
  moving : x.moving.isNone = y.moving.isNone
  waking : y.state = 4 → x.waking.isSome = y.waking.isSome
  standby : x.standbyMode = y.standbyMode
  pending : x.roleFlags.testBit 1 = y.roleFlags.testBit 1
  next : x.nextMode = y.nextMode
  prev : x.prevMode = y.prevMode
  mode : x.mode = y.mode

theorem Ctx.SamePlan.refl (x : Ctx) : x.SamePlan x := ⟨rfl, rfl, rfl, rfl, fun _ => rfl, rfl, rfl, rfl, rfl, rfl⟩

section
variable {s t : State} {p : Nat} (hp : t.port p = s.port p)
include hp

theorem wantsSlot_congr {d : Nat} (h : (t.ctx p d).SamePlan (s.ctx p d)) : t.wantsSlot p d = s.wantsSlot p d := by
  unfold State.wantsSlot State.waitsFor State.mapped
  dsimp only
  rw [hp, h.state, h.releasing, h.sleeping, h.moving]
  by_cases h4 : (s.ctx p d).state = 4
  · rw [h.waking h4]
  · simp only [if_neg h4]

theorem plannedMode_congr {d : Nat} (h : (t.ctx p d).SamePlan (s.ctx p d)) : t.plannedMode p d = s.plannedMode p d := by
  unfold State.plannedMode State.waitsFor
  dsimp only
  rw [hp, h.state, h.standby, h.pending, h.next, h.prev, h.mode]

theorem slotLen_congr (hr : t.regs = s.regs) (ht : t.time = s.time) (d mode : Nat) : t.slotLen p d mode = s.slotLen p d mode := by
  have hreg : t.reg = s.reg := funext fun c => funext fun i => State.reg_congr hr (congrArg TimeSt.n ht) c i
  have hup : t.upRegion p = s.upRegion p := by
    unfold State.upRegion State.cycleTicks State.winD State.winC State.winT State.regN
    rw [hreg, ht]
  unfold State.slotLen State.grantIn State.regN
  rw [hup, hp, hreg]

/-- Plans of states that differ in nothing that a plan looks at are the same (R84). -/
theorem planMap_congr (hr : t.regs = s.regs) (ht : t.time = s.time) (h : ∀ d, (t.ctx p d).SamePlan (s.ctx p d)) :
    t.planMap p = s.planMap p := by
  have hreg : t.reg = s.reg := funext fun c => funext fun i => State.reg_congr hr (congrArg TimeSt.n ht) c i
  have hup : t.upRegion p = s.upRegion p ∧ t.winD p = s.winD p := by
    unfold State.upRegion State.cycleTicks State.winD State.winC State.winT State.regN
    rw [hreg, ht]
    exact ⟨rfl, rfl⟩
  have hplanned : t.planned p = s.planned p := by
    unfold State.planned
    exact List.filter_congr fun d _ => wantsSlot_congr hp (h d)
  have hlen : (fun d => (d, t.slotLen p d (t.plannedMode p d))) = fun d => (d, s.slotLen p d (s.plannedMode p d)) :=
    funext fun d => by rw [slotLen_congr hp hr ht, plannedMode_congr hp (h d)]
  unfold State.planMap
  rw [hup.1, hup.2, hplanned, hlen]

end

/-- A context changed beside what a plan looks at leaves the plan. -/
theorem planMap_modCtx {s : State} {p d : Nat} {f : Ctx → Ctx} (h : (f (s.ctx p d)).SamePlan (s.ctx p d)) :
    (s.modCtx p d f).planMap p = s.planMap p := by
  refine planMap_congr rfl rfl rfl fun e => ?_
  by_cases he : dropKey p e = dropKey p d
  · obtain rfl : e = d := by unfold dropKey at he; omega
    rw [State.ctx_modCtx]
    exact h
  · rw [State.ctx_modCtx_ne _ _ he]
    exact .refl _

theorem planMap_arrived (s : State) (q : Path) (p : Nat) : (s.arrived q).planMap p = s.planMap p := by cases q <;> rfl

theorem arrived_modCtx (s : State) (q : Path) (p d : Nat) (f : Ctx → Ctx) : (s.arrived q).modCtx p d f = (s.modCtx p d f).arrived q := by
  cases q <;> rfl

/-! ## A change of a drop with its new map -/

/-- A drop's context changed, a message sent, and the map without or with the drop pending (R86). -/
def State.dropNamed (s : State) (p d k : Nat) (m : SlotMap) (msg : OutMsg) (f : Ctx → Ctx) : State :=
  installMap p m k (queueMsg p msg (s.modCtx p d f))

theorem dropNamed_keeps {β : Type} {g : State → β} (hg : ∀ (t : State) x y, g { t with ports := x, ctxs := y } = g t) (s : State)
    (p d k : Nat) (m : SlotMap) (msg : OutMsg) (f : Ctx → Ctx) : g (s.dropNamed p d k m msg f) = g s :=
  (installMap_keeps (fun t x => hg t x t.ctxs) p m k _).trans ((hg _ _ _).trans (hg s s.ports _))

theorem dropNamed_ctx (s : State) (p d k : Nat) (m : SlotMap) (msg : OutMsg) (f : Ctx → Ctx) :
    (s.dropNamed p d k m msg f).ctx p d = f (s.ctx p d) := by
  rw [State.dropNamed, installMap_keeps (g := fun t => t.ctx p d) (fun _ _ => rfl)]
  exact State.ctx_modCtx s p d f

theorem dropNamed_port (s : State) (p d k : Nat) (m : SlotMap) (msg : OutMsg) (f : Ctx → Ctx) :
    ((s.dropNamed p d k m msg f).port p).pending = some { map := m, apply := k } ∧
      ((s.dropNamed p d k m msg f).port p).map = (s.port p).map := by
  obtain ⟨h1, h2⟩ := installMap_pending p m k (queueMsg p msg (s.modCtx p d f))
  refine ⟨h1, h2.trans ?_⟩
  rw [queueMsg, State.port_modPort]
  rfl

theorem dropNamed_port_other {p j : Nat} (h : j ≠ p) (s : State) (d k : Nat) (m : SlotMap) (msg : OutMsg) (f : Ctx → Ctx) :
    (s.dropNamed p d k m msg f).port j = s.port j := by
  rw [State.dropNamed, installMap_port_other h, queueMsg, State.port_modPort_ne _ _ h]
  rfl

/-- SLEEP of an active drop on a port that can name the cycle (R210). -/
theorem sleepDrop_named {p d : Nat} {s : State} {m : SlotMap} (h2 : (s.ctx p d).state = 2) (hs : (s.ctx p d).sleeping = none)
    (hr : (s.ctx p d).releasing = none) (hm : (s.port p).move = none) (hn : (s.port p).pending = none)
    (hp : (s.modCtx p d (fun y => { y with sleeping := some 0 })).planMap p = some m) :
    ∃ k msg, sleepDrop p d s = s.dropNamed p d k m msg (fun y => { y with sleeping := some k }) ∧
      s.time.cycles + s.regN Code.modeLead p ≤ k := by
  obtain ⟨k, hk, hle⟩ := namedCycle_free hm hn (s.regN Code.modeLead p) m.period
  refine ⟨k, { drop := d, bytes := deepSleepBytes (s.numberOf k), untilCycle := none, seqs := [], fromCycle := s.time.cycles + 1 }, ?_, hle⟩
  unfold sleepDrop
  dsimp only
  rw [if_neg (by simp [h2, hs, hr]), hp]
  dsimp only
  rw [hk]
  rfl

/-- The release of an active drop on a port that can name the cycle (R212). -/
theorem beginRelease_named {p d reason : Nat} {s : State} {m : SlotMap} (h2 : (s.ctx p d).state = 2) (hr : (s.ctx p d).releasing = none)
    (hm : (s.port p).move = none) (hn : (s.port p).pending = none)
    (hp : (s.modCtx p d (fun y => { y with releasing := some (0, reason) })).planMap p = some m) :
    ∃ k msg, beginRelease p d reason s = s.dropNamed p d k m msg (fun y => { y with releasing := some (k, reason) }) ∧
      s.time.cycles + (2 * max (s.port p).map.period m.period + 1) ≤ k := by
  obtain ⟨k, hk, hle⟩ := namedCycle_free hm hn (s.mapLead p m.period) m.period
  refine ⟨k, { drop := d, bytes := releaseBytes reason (s.numberOf k), untilCycle := some k, seqs := [], fromCycle := s.time.cycles + 1 },
    ?_, hle⟩
  unfold beginRelease
  dsimp only
  rw [if_neg (by rw [h2]; decide), if_neg (by simp [h2, hr]), hp]
  dsimp only
  rw [hk]
  rfl

theorem releaseRuns_none {p d : Nat} {s : State} (hr : (s.ctx p d).releasing = none) (hw : (s.port p).waiting = []) :
    s.releaseRuns p d = false := by
  unfold State.releaseRuns State.waitsFor
  rw [hr, hw]
  rfl

theorem releaseDrop_starts {p d : Nat} {s : State} (h : s.releaseRuns p d = false) : releaseDrop p d s = beginRelease p d 1 s := by
  rw [releaseDrop, h]
  rfl

/-! ## Wakes -/

theorem setWakeBit_keeps {β : Type} {g : State → β} (hg : ∀ (t : State) x y, g { t with ports := x, ctxs := y } = g t) (p d : Nat)
    (s : State) : g (setWakeBit p d s) = g s := (hg _ _ _).trans (hg s s.ports _)

theorem setWakeBit_ctx (p d : Nat) (s : State) :
    (setWakeBit p d s).ctx p d = setRole 3 true { s.ctx p d with wakeFrom := none, wakeApply := none, wakeLeft := none } :=
  State.ctx_modCtx s p d (fun x => setRole 3 true { x with wakeFrom := none, wakeApply := none, wakeLeft := none })

theorem setWakeBit_ctx_other {p d j e : Nat} (h : dropKey j e ≠ dropKey p d) (s : State) : (setWakeBit p d s).ctx j e = s.ctx j e :=
  State.ctx_modCtx_ne s (fun x => setRole 3 true { x with wakeFrom := none, wakeApply := none, wakeLeft := none }) h

theorem setWakeBit_port (p d : Nat) (s : State) : ((setWakeBit p d s).port p).wakeBits = addTo d (s.port p).wakeBits := by
  rw [setWakeBit, State.port_modPort]
  rfl

theorem setWakeBit_port_other {p j : Nat} (h : j ≠ p) (d : Nat) (s : State) : (setWakeBit p d s).port j = s.port j := by
  rw [setWakeBit, State.port_modPort_ne _ _ h]
  rfl

theorem tellWaking_blind {β : Type} {p : Nat} {g : State → β} (h : MessageBlind p g) (d : Nat) (m : SlotMap) (apply from_ : Nat) (s : State) :
    g (tellWaking p d m apply from_ s) = g s := by
  have hq : ∀ msg, g (queueMsg p msg s) = g s := fun msg => by
    unfold queueMsg
    refine h s _ ?_
    exact fun _ => rfl
  unfold tellWaking
  split
  · rfl
  · dsimp only
    split
    · exact hq _
    · exact h.sendSlotMap ..

/-- A wake with its map named (R211). -/
def State.wakeNamed (s : State) (p d a from_ : Nat) (m : SlotMap) : State :=
  tellWaking p d m a from_ (installMap p m a ((s.modCtx p d (fun y => { y with waking := some (y.waking.getD 0) })).modCtx p d
    (fun y => { y with wakeFrom := none, wakeApply := some a })))

theorem wakeSlotMapStart_named {p d k : Nat} {s : State} {m : SlotMap} (hf : (s.ctx p d).wakeFrom = some k) (hk : k ≤ s.time.cycles + 1)
    (h4 : (s.ctx p d).state = 4) (hw : (s.ctx p d).waking = some 0) (hp : s.planMap p = some m) (hm : (s.port p).move = none)
    (hn : (s.port p).pending = none) :
    ∃ a, wakeSlotMapStart p d s = s.wakeNamed p d a (max k (s.time.cycles + 1)) m ∧
      max k (s.time.cycles + 1) + s.regN Code.modeLead p ≤ a := by
  obtain ⟨a, ha, hle⟩ := namedFrom_free hm hn (max k (s.time.cycles + 1) + s.regN Code.modeLead p) m.period
  have hplan : (s.modCtx p d (fun y => { y with waking := some (y.waking.getD 0) })).planMap p = some m := by
    rw [planMap_modCtx, hp]
    exact ⟨rfl, rfl, rfl, rfl, fun _ => by rw [hw]; rfl, rfl, rfl, rfl, rfl, rfl⟩
  refine ⟨a, ?_, hle⟩
  unfold wakeSlotMapStart
  dsimp only
  rw [hf]
  dsimp only
  rw [if_pos (show s.due k = true from decide_eq_true hk), hplan]
  dsimp only
  have hnamed : (s.modCtx p d (fun y => { y with waking := some (y.waking.getD 0) })).namedFrom p
      (max k (s.time.cycles + 1) + s.regN Code.modeLead p) m.period = some a := ha
  rw [hnamed]
  dsimp only
  rw [if_neg (fun h => absurd (h4.symm.trans h.1) (by decide))]
  rfl

theorem wakeNamed_keeps {β : Type} {g : State → β} (hg : ∀ (t : State) x y, g { t with ports := x, ctxs := y } = g t) (s : State)
    (p d a from_ : Nat) (m : SlotMap) : g (s.wakeNamed p d a from_ m) = g s := by
  rw [State.wakeNamed, tellWaking_blind (messageBlind_of_ports p fun t x => hg t x t.ctxs), installMap_keeps (fun t x => hg t x t.ctxs)]
  exact (hg _ _ _).trans (hg s s.ports _)

theorem wakeNamed_ctx {s : State} {p d : Nat} (hw : (s.ctx p d).waking = some 0) (a from_ : Nat) (m : SlotMap) :
    (s.wakeNamed p d a from_ m).ctx p d = { s.ctx p d with wakeFrom := none, wakeApply := some a } := by
  rw [State.wakeNamed, tellWaking_blind (g := fun t => t.ctx p d) (messageBlind_of_ports p fun _ _ => rfl),
    installMap_keeps (g := fun t => t.ctx p d) (fun _ _ => rfl), State.ctx_modCtx, State.ctx_modCtx, hw]
  exact congrArg (fun w => { s.ctx p d with waking := w, wakeFrom := none, wakeApply := some a }) hw.symm

theorem wakeNamed_pending (s : State) (p d a from_ : Nat) (m : SlotMap) :
    ((s.wakeNamed p d a from_ m).port p).pending = some { map := m, apply := a } :=
  (tellWaking_blind ((messageBlind_port p).map PortSt.pending) ..).trans (installMap_pending ..).1

theorem wakeNamed_port_other {p j : Nat} (h : j ≠ p) (s : State) (d a from_ : Nat) (m : SlotMap) :
    (s.wakeNamed p d a from_ m).port j = s.port j :=
  (tellWaking_blind (messageBlind_port_other h) ..).trans (installMap_port_other h ..)

/-- A wake that is missed and tried again (R211). -/
theorem wakeMiss_again {p d n : Nat} {s : State} (hw : (s.ctx p d).waking = some n) (h2 : (s.ctx p d).state = 2)
    (hl : (s.ctx p d).wakeLeft = some 0) (hn : n < 2) :
    wakeMiss p d s = setWakeBit p d (s.modCtx p d (fun y => { y with waking := some (n + 1) })) := by
  unfold wakeMiss
  dsimp only
  rw [hw]
  dsimp only
  rw [if_pos ⟨h2, hl⟩, if_pos (by omega)]

/-- The drop whose wake is given up (R211). -/
def State.wakeGivenUp (s : State) (p d : Nat) : State :=
  s.modCtx p d (fun y => setRole 3 false { y with waking := none, wakeLeft := none })

theorem wakeMiss_last {p d n : Nat} {s : State} (hw : (s.ctx p d).waking = some n) (h2 : (s.ctx p d).state = 2)
    (hl : (s.ctx p d).wakeLeft = some 0) (hn : 2 ≤ n) : wakeMiss p d s = beginRelease p d 3 (s.wakeGivenUp p d) := by
  unfold wakeMiss
  dsimp only
  rw [hw]
  dsimp only
  rw [if_pos ⟨h2, hl⟩, if_neg (by omega)]
  rfl

theorem wakeGivenUp_ctx (s : State) (p d : Nat) :
    (s.wakeGivenUp p d).ctx p d = setRole 3 false { s.ctx p d with waking := none, wakeLeft := none } := State.ctx_modCtx ..

theorem modCtx_modCtx_ctx (s : State) (p d : Nat) (f g : Ctx → Ctx) : ((s.modCtx p d f).modCtx p d g).ctx p d = g (f (s.ctx p d)) := by
  rw [State.ctx_modCtx, State.ctx_modCtx]

/-- The plan without a drop that is released does not look at its wake. -/
theorem planMap_wakeGivenUp {s : State} {p d reason : Nat} (h2 : (s.ctx p d).state = 2) :
    ((s.wakeGivenUp p d).modCtx p d (fun y => { y with releasing := some (0, reason) })).planMap p =
      (s.modCtx p d (fun y => { y with releasing := some (0, reason) })).planMap p := by
  have hbit : ∀ r : Nat, (r &&& (255 - 2 ^ 3)).testBit 1 = r.testBit 1 := fun r => by
    rw [Nat.testBit_and, show Nat.testBit (255 - 2 ^ 3) 1 = true by decide, Bool.and_true]
  refine planMap_congr rfl rfl rfl fun e => ?_
  by_cases he : dropKey p e = dropKey p d
  · obtain rfl : e = d := by unfold dropKey at he; omega
    rw [State.ctx_modCtx, State.ctx_modCtx, wakeGivenUp_ctx]
    exact ⟨rfl, rfl, rfl, rfl, fun h => absurd (h2.symm.trans h) (by decide), rfl, hbit _, rfl, rfl, rfl⟩
  · rw [State.ctx_modCtx_ne _ _ he, State.ctx_modCtx_ne _ _ he, State.wakeGivenUp, State.ctx_modCtx_ne _ _ he]
    exact .refl _

/-! ## A release -/

/-- What sees neither the queue of a drop nor the counts and messages of stale frames. -/
structure StaleBlind {β : Type} (p d : Nat) (g : State → β) : Prop extends BesidesMessages g where
  queue : ∀ t : State, g (t.modCtx p d (fun x => { x with queue := [], sent := [] })) = g t
  host : ∀ t : State, g (t.bump Code.staleHost (dropKey p d)) = g t
  epoch : ∀ t : State, g (t.bump Code.staleEpoch p) = g t

theorem StaleBlind.purgeQueue {β : Type} {p d : Nat} {g : State → β} (h : StaleBlind p d g) (e : Nat) (s : State) :
    g (purgeQueue p d e s) = g s := by
  unfold Machine.purgeQueue
  dsimp only
  refine (forAll_keeps g _ _ (fun f u => ?_) _).trans (h.queue s)
  exact (h.sendStatus _ _ _ _ _ _ _).trans ((h.epoch _).trans (h.host u))

theorem twinOf_congr {s t : State} {p : Nat}
    (h : ∀ q, q = p ∨ q < 144 → t.reg Code.twinEnable q = s.reg Code.twinEnable q ∧ t.reg Code.twinPartner q = s.reg Code.twinPartner q) :
    t.twinOf p = s.twinOf p := by
  obtain ⟨he, hp⟩ := h p (.inl rfl)
  have hq : t.regN Code.twinPartner p = s.regN Code.twinPartner p := by rw [State.regN, hp]; rfl
  unfold State.twinOf
  dsimp only
  rw [hq]
  by_cases hlt : s.regN Code.twinPartner p < 144
  · obtain ⟨he', hp'⟩ := h _ (.inr hlt)
    have hregB : t.regB Code.twinEnable p = s.regB Code.twinEnable p := by rw [State.regB, he]; rfl
    have hfar : t.regB Code.twinEnable (s.regN Code.twinPartner p) = s.regB Code.twinEnable (s.regN Code.twinPartner p) := by
      rw [State.regB, he']; rfl
    have hback : t.regN Code.twinPartner (s.regN Code.twinPartner p) = s.regN Code.twinPartner (s.regN Code.twinPartner p) := by
      rw [State.regN, hp']; rfl
    rw [hregB, hfar, hback]
  · simp [hlt]

/-- A setting or counter of a port is none of a purge's. -/
theorem staleBlind_reg {p d code i : Nat} (hp : p < 144) (hd : d < 64) (hi : i < 2 ^ 24) (hc : code ≠ Code.rollCall)
    (h1 : code ≠ Code.staleHost) (h2 : code ≠ Code.staleEpoch) (h3 : ∀ l, code ≠ linkCode l Code.statusDrops)
    (h4 : ∀ l, code ≠ linkCode l Code.framesIn) (h5 : code ≠ Code.injections) : StaleBlind p d (fun t => t.reg code i) where
  toBesidesMessages := (besidesCollector_reg hc hi h3 h4 h5).toBesidesMessages
  queue _ := rfl
  host t := State.reg_bumpBy_ne hc (objKey_ne h1 hi (by unfold dropKey; omega)) 1 t
  epoch t := State.reg_bumpBy_ne hc (objKey_ne h2 hi (by omega)) 1 t

theorem staleBlind_twin {p d : Nat} (hp : p < 144) (hd : d < 64) : StaleBlind p d (fun t => t.twinOf p) := by
  have hreg : ∀ q, q = p ∨ q < 144 → ∀ c, c = Code.twinEnable ∨ c = Code.twinPartner → StaleBlind p d (fun t => t.reg c q) := by
    intro q hq c hc
    have hi : q < 2 ^ 24 := by omega
    rcases hc with rfl | rfl
    · exact staleBlind_reg hp hd hi (by decide) (by decide) (by decide) (fun l => by cases l <;> decide) (fun l => by cases l <;> decide) (by decide)
    · exact staleBlind_reg hp hd hi (by decide) (by decide) (by decide) (fun l => by cases l <;> decide) (fun l => by cases l <;> decide) (by decide)
  exact
    { status := fun t l f => twinOf_congr fun q hq => ⟨(hreg q hq _ (.inl rfl)).status t l f, (hreg q hq _ (.inr rfl)).status t l f⟩
      mgmt := fun t l f => twinOf_congr fun q hq => ⟨(hreg q hq _ (.inl rfl)).mgmt t l f, (hreg q hq _ (.inr rfl)).mgmt t l f⟩
      drops := fun t l => twinOf_congr fun q hq => ⟨(hreg q hq _ (.inl rfl)).drops t l, (hreg q hq _ (.inr rfl)).drops t l⟩
      seq := fun t n => twinOf_congr fun q hq => ⟨(hreg q hq _ (.inl rfl)).seq t n, (hreg q hq _ (.inr rfl)).seq t n⟩
      queue := fun t => twinOf_congr fun q hq => ⟨(hreg q hq _ (.inl rfl)).queue t, (hreg q hq _ (.inr rfl)).queue t⟩
      host := fun t => twinOf_congr fun q hq => ⟨(hreg q hq _ (.inl rfl)).host t, (hreg q hq _ (.inr rfl)).host t⟩
      epoch := fun t => twinOf_congr fun q hq => ⟨(hreg q hq _ (.inl rfl)).epoch t, (hreg q hq _ (.inr rfl)).epoch t⟩ }

/-- The epoch that a release leaves (R201). -/
def State.nextEpoch (s : State) (p d : Nat) : Nat := ((s.ctx p d).epoch + 1) % 64

/-- A port without a twin releases its drop alone (R201, R212). -/
theorem releaseNow_alone {p d reason : Nat} {s : State} (hp : p < 144) (hd : d < 64) (h : s.twinOf p = none) :
    releaseNow p d reason s = releaseStatus p d (s.nextEpoch p d) reason
      ((freeCtx p d (s.nextEpoch p d) (purgeQueue p d (s.nextEpoch p d) s)).bump Code.releases p) := by
  have ht : (purgeQueue p d (s.nextEpoch p d) s).twinOf p = none := ((staleBlind_twin hp hd).purgeQueue _ s).trans h
  have hstandby : freeStandby p d (s.nextEpoch p d) (purgeQueue p d (s.nextEpoch p d) s) = purgeQueue p d (s.nextEpoch p d) s := by
    unfold freeStandby
    rw [ht]
  have hsame : sameEpoch p d (s.nextEpoch p d) (purgeQueue p d (s.nextEpoch p d) s) = purgeQueue p d (s.nextEpoch p d) s := by
    unfold sameEpoch
    rw [ht]
  unfold releaseNow
  dsimp only
  rw [← State.nextEpoch, hstandby, hsame]

/-- What messages and counters leave of a release. -/
theorem releaseNow_alone_keeps {β : Type} {g : State → β} {p d reason : Nat} {s : State} (hp : p < 144) (hd : d < 64) (h : s.twinOf p = none)
    (hm : BesidesMessages g) (hr : ∀ t : State, g (t.bump Code.releases p) = g t) :
    g (releaseNow p d reason s) = g (freeCtx p d (s.nextEpoch p d) (purgeQueue p d (s.nextEpoch p d) s)) := by
  rw [releaseNow_alone hp hd h]
  exact (hm.sendStatus _ _ _ _ _ _ _).trans (hr _)

theorem freeCtx_ctx (p d e : Nat) (s : State) : (freeCtx p d e s).ctx p d = { epoch := e } := State.ctx_setCtx s p d _

theorem freeCtx_ctx_other {p d j e : Nat} (h : dropKey j e ≠ dropKey p d) (n : Nat) (s : State) : (freeCtx p d n s).ctx j e = s.ctx j e :=
  State.ctx_setCtx_ne s _ h

theorem freeCtx_port_other {p j : Nat} (h : j ≠ p) (d n : Nat) (s : State) : (freeCtx p d n s).port j = s.port j := by
  rw [freeCtx, State.port_modPort_ne _ _ h]
  rfl

theorem besidesMessages_of_fields {β : Type} {g : State → β} (hg : ∀ (t : State) r o, g { t with regs := r, oxl := o } = g t) :
    BesidesMessages g where
  status t l f := modLink_keeps (fun t x => hg t t.regs x) l _ t
  mgmt t l f := modLink_keeps (fun t x => hg t t.regs x) l _ t
  drops t l := State.bumpBy_keeps (fun t r => hg t r t.oxl) _ _ _ _
  seq t n := hg t t.regs _

theorem staleBlind_of_fields {β : Type} {g : State → β} (hg : ∀ (t : State) r c o, g { t with regs := r, ctxs := c, oxl := o } = g t) (p d : Nat) :
    StaleBlind p d g where
  toBesidesMessages := besidesMessages_of_fields fun t r o => hg t r t.ctxs o
  queue t := hg t t.regs _ t.oxl
  host t := State.bumpBy_keeps (fun t r => hg t r t.ctxs t.oxl) _ _ _ _
  epoch t := State.bumpBy_keeps (fun t r => hg t r t.ctxs t.oxl) _ _ _ _

theorem staleBlind_ctx_other {p d j e : Nat} (h : dropKey j e ≠ dropKey p d) : StaleBlind p d (fun t => t.ctx j e) where
  toBesidesMessages := besidesMessages_of_fields fun _ _ _ => rfl
  queue t := State.ctx_modCtx_ne t _ h
  host t := State.bumpBy_keeps (g := fun t => t.ctx j e) (fun _ _ => rfl) _ _ _ _
  epoch t := State.bumpBy_keeps (g := fun t => t.ctx j e) (fun _ _ => rfl) _ _ _ _

/-- What the release of a drop of a port without a twin leaves (R201, R212). -/
theorem releaseNow_leaves {p d reason : Nat} {s : State} (hp : p < 144) (hd : d < 64) (h : s.twinOf p = none) :
    (releaseNow p d reason s).faults = s.faults ∧ (releaseNow p d reason s).ctx p d = { epoch := ((s.ctx p d).epoch + 1) % 64 } ∧
      (releaseNow p d reason s).reg Code.releases p = min (((s.regN Code.releases p + 1 : Nat)) : Int) (2 ^ 32 - 1) ∧
      (∀ j : Nat, j ≠ p → (releaseNow p d reason s).port j = s.port j) ∧
      (∀ j e : Nat, e < 64 → (j, e) ≠ (p, d) → (releaseNow p d reason s).ctx j e = s.ctx j e) := by
  have hbump : ∀ {β : Type} {g : State → β}, (∀ (t : State) r, g { t with regs := r } = g t) → ∀ t : State, g (t.bump Code.releases p) = g t :=
    fun hg t => State.bumpBy_keeps hg t _ _ _
  refine ⟨?_, ?_, ?_, fun j hj => ?_, fun j e he hne => ?_⟩
  · rw [releaseNow_alone_keeps (g := State.faults) hp hd h (besidesMessages_of_fields fun _ _ _ => rfl) (hbump fun _ _ => rfl)]
    exact (staleBlind_of_fields (g := State.faults) (fun _ _ _ _ => rfl) p d).purgeQueue _ s
  · rw [releaseNow_alone_keeps (g := fun t => t.ctx p d) hp hd h (besidesMessages_of_fields fun _ _ _ => rfl)
      (hbump (g := fun t => t.ctx p d) fun _ _ => rfl), freeCtx_ctx, State.nextEpoch]
  · have hblind : StaleBlind p d (fun t => t.reg Code.releases p) := staleBlind_reg hp hd (by omega) (by decide) (by decide) (by decide)
      (fun l => by cases l <;> decide) (fun l => by cases l <;> decide) (by decide)
    have hfree : (freeCtx p d (s.nextEpoch p d) (purgeQueue p d (s.nextEpoch p d) s)).reg Code.releases p = s.reg Code.releases p :=
      hblind.purgeQueue _ s
    rw [releaseNow_alone hp hd h]
    refine (hblind.sendStatus _ _ _ _ _ _ _).trans ?_
    rw [State.reg_bump_same, State.regN, hfree, State.regN]
  · rw [releaseNow_alone_keeps (g := fun t => t.port j) hp hd h (besidesMessages_of_fields fun _ _ _ => rfl)
      (hbump (g := fun t => t.port j) fun _ _ => rfl), freeCtx_port_other hj]
    exact (staleBlind_of_fields (g := fun t => t.port j) (fun _ _ _ _ => rfl) p d).purgeQueue _ s
  · have hk := dropKey_ne hd he hne
    rw [releaseNow_alone_keeps (g := fun t => t.ctx j e) hp hd h (besidesMessages_of_fields fun _ _ _ => rfl)
      (hbump (g := fun t => t.ctx j e) fun _ _ => rfl), freeCtx_ctx_other hk]
    exact (staleBlind_ctx_other hk).purgeQueue _ s

end Sys2Proof.Machine

/-! PROOFS. Sleep, wake, release and loss of drops: the statement about them. -/

namespace Sys2Proof.Machine

/-- What an accepted write leaves that touches the ports and the contexts alone: its answer, and its effect. -/
theorem exec_accepted_lines {i : Instr} {s u : State} {q : Path} {tid code value : Nat} {o : Obj} {v : Int}
    (hi : hostWriteOf i = some (q, tid, code, value)) (hacc : s.Accepts q code value o v)
    (hw : hostWrite q o code (s.instOf q o.scope) v (masterOf q) (s.arrived q) = u)
    (hu : ∀ {β : Type} {g : State → β}, (∀ (t : State) x y, g { t with ports := x, ctxs := y } = g t) → g u = g (s.arrived q)) :
    ∃ t : State, exec i s = .next t ∧ t.Holds q (writeDone tid code) ∧ t.ports = u.ports ∧ t.ctxs = u.ctxs := by
  have hspi : q = .spi → u.spi.abandoned = false := fun hq => by
    rw [hu (g := State.spi) (fun _ _ _ => rfl)]
    exact arrived_abandoned s hq
  refine ⟨_, exec_accepted hi hacc hw ?_ ?_, ?_, answered_ports .., answered_ctxs ..⟩
  · rw [hu (g := State.oxl) (fun _ _ _ => rfl)]
    exact State.arrived_oxl s q
  · rw [hu (g := State.faults) (fun _ _ _ => rfl)]
    exact State.arrived_faults s q
  · simpa using holds_counted (answer_holds (q := q) (r := writeReq tid code value)
      (.ok (addressBytes (code / 256) (code % 256) 0)) rfl hspi)

theorem State.port_of_ports {s t : State} (h : t.ports = s.ports) (p : Nat) : t.port p = s.port p := by rw [State.port, h]; rfl

theorem State.ctx_of_ctxs {s t : State} (h : t.ctxs = s.ctxs) (p d : Nat) : t.ctx p d = s.ctx p d := by rw [State.ctx, h]; rfl

theorem State.arrived_port (s : State) (q : Path) (p : Nat) : (s.arrived q).port p = s.port p :=
  State.port_of_ports (State.arrived_ports s q) p

theorem State.arrived_ctx (s : State) (q : Path) (p d : Nat) : (s.arrived q).ctx p d = s.ctx p d :=
  State.ctx_of_ctxs (State.arrived_ctxs s q) p d

/-! ## The writes of a drop's commands -/

def sleepRow : Obj := ⟨0x40100C, .bool, .wo, .drop, 0, 1, 0⟩
def wakeRow : Obj := ⟨0x40100D, .bool, .wo, .drop, 0, 1, 0⟩
def releaseRow : Obj := ⟨0x40100B, .bool, .wo, .drop, 0, 1, 0⟩

theorem findObj_sleep : findObj Code.sleep = some sleepRow := by decide +kernel
theorem findObj_wake : findObj Code.wake = some wakeRow := by decide +kernel
theorem findObj_release : findObj Code.release = some releaseRow := by decide +kernel

section
variable {q : Path} {s : State} {p d : Nat} (hp : (s.path q).selPort = p) (hd : (s.path q).selDrop = d) (h64 : d < 64)
include hp hd h64

theorem selectedDrop : s.instOf q .drop / 64 = p ∧ s.instOf q .drop % 64 = d := by
  have h : s.instOf q .drop = 64 * p + d := by subst hp hd; rfl
  omega

theorem hostWrite_sleep (master : Nat) (t : State) :
    hostWrite q sleepRow Code.sleep (s.instOf q sleepRow.scope) 1 master t = sleepDrop p d t := by
  obtain ⟨h1, h2⟩ := selectedDrop hp hd h64
  exact (rfl : _ = sleepDrop (s.instOf q .drop / 64) (s.instOf q .drop % 64) t).trans (by rw [h1, h2])

theorem hostWrite_release (master : Nat) (t : State) :
    hostWrite q releaseRow Code.release (s.instOf q releaseRow.scope) 1 master t = releaseDrop p d t := by
  obtain ⟨h1, h2⟩ := selectedDrop hp hd h64
  exact (rfl : _ = releaseDrop (s.instOf q .drop / 64) (s.instOf q .drop % 64) t).trans (by rw [h1, h2])

theorem hostWrite_wake (master : Nat) (t : State) :
    hostWrite q wakeRow Code.wake (s.instOf q wakeRow.scope) 1 master t = wakeDrop p d t := by
  obtain ⟨h1, h2⟩ := selectedDrop hp hd h64
  exact (rfl : _ = wakeDrop (s.instOf q .drop / 64) (s.instOf q .drop % 64) t).trans (by rw [h1, h2])

/-- A drop that a WAKE is accepted for is asleep (R211, R221). -/
theorem accepted_wake_asleep {value : Nat} (hacc : s.Accepts q Code.wake value wakeRow 1) : (s.ctx p d).state = 4 := by
  obtain ⟨h1, h2⟩ := selectedDrop hp hd h64
  obtain ⟨-, -, -, -, -, hr⟩ := hacc
  by_contra h4
  have hcmd : ∀ i, (s.arrived q).commandRefused Code.wake i 1 = (decide ((1 : Int) = 1) && (((s.arrived q).ctx (i / 64) (i % 64)).state != 4 ||
      ((s.arrived q).cluster (clusterOf (i / 64))).state == 2 || ((s.arrived q).cluster (clusterOf (i / 64))).entering ||
      ((s.arrived q).cluster (clusterOf (i / 64))).closing)) := fun _ => rfl
  have hrefused : (s.arrived q).commandRefused Code.wake (s.instOf q .drop) 1 = true := by
    rw [hcmd, h1, h2, State.arrived_ctx]
    simp [h4]
  have hrw : (s.arrived q).writeRefusal wakeRow Code.wake (s.instOf q .drop) 1 =
      if (s.arrived q).commandRefused Code.wake (s.instOf q .drop) 1 then some Abort.state else none := rfl
  rw [show wakeRow.scope = .drop from rfl, hrw, hrefused] at hr
  cases hr

/-- The write of SLEEP (R210). -/
theorem sleep_written {tid value : Nat} {o : Obj} {m : SlotMap} (hacc : s.Accepts q Code.sleep value o 1) (h2 : (s.ctx p d).state = 2)
    (hs : (s.ctx p d).sleeping = none) (hr : (s.ctx p d).releasing = none) (hm : (s.port p).move = none) (hn : (s.port p).pending = none)
    (hplan : (s.modCtx p d (fun y => { y with sleeping := some 0 })).planMap p = some m) :
    ∃ (t : State) (k : Nat), exec (.sleep q tid value) s = .next t ∧ t.Holds q (writeDone tid Code.sleep) ∧
      t.ctx p d = { s.ctx p d with sleeping := some k } ∧ s.time.cycles + s.regN Code.modeLead p ≤ k ∧
      (t.port p).pending = some (PendingMap.mk m k) ∧ (t.port p).map = (s.port p).map ∧
      (∀ j : Nat, j ≠ p → t.port j = s.port j) := by
  obtain rfl := hacc.obj findObj_sleep
  obtain ⟨k, msg, heq, hk⟩ := sleepDrop_named (s := s.arrived q) (p := p) (d := d) (m := m) (by rw [State.arrived_ctx, h2])
    (by rw [State.arrived_ctx, hs]) (by rw [State.arrived_ctx, hr]) (by rw [State.arrived_port, hm]) (by rw [State.arrived_port, hn])
    (by rw [arrived_modCtx, planMap_arrived, hplan])
  obtain ⟨t, ht, hh, hports, hctxs⟩ := exec_accepted_lines (i := .sleep q tid value) rfl hacc ((hostWrite_sleep hp hd h64 _ _).trans heq)
    (fun hg => dropNamed_keeps hg ..)
  obtain ⟨hpend, hmap⟩ := dropNamed_port (s.arrived q) p d k m msg (fun y => { y with sleeping := some k })
  refine ⟨t, k, ht, hh, ?_, ?_, ?_, ?_, fun j hj => ?_⟩
  · rw [State.ctx_of_ctxs hctxs, dropNamed_ctx, State.arrived_ctx]
  · rwa [State.arrived_time, State.arrived_regN] at hk
  · rw [State.port_of_ports hports, hpend]
  · rw [State.port_of_ports hports, hmap, State.arrived_port]
  · rw [State.port_of_ports hports, dropNamed_port_other hj, State.arrived_port]

/-- The write of RELEASE (R212). -/
theorem release_written {tid value : Nat} {o : Obj} {m : SlotMap} (hacc : s.Accepts q Code.release value o 1) (h2 : (s.ctx p d).state = 2)
    (hr : (s.ctx p d).releasing = none) (hm : (s.port p).move = none) (hn : (s.port p).pending = none) (hw : (s.port p).waiting = [])
    (hplan : (s.modCtx p d (fun y => { y with releasing := some (0, 1) })).planMap p = some m) :
    ∃ (t : State) (k : Nat), exec (.release q tid value) s = .next t ∧ t.Holds q (writeDone tid Code.release) ∧
      t.ctx p d = { s.ctx p d with releasing := some (k, 1) } ∧
      s.time.cycles + 2 * max (s.port p).map.period m.period + 1 ≤ k ∧
      (t.port p).pending = some (PendingMap.mk m k) ∧ (t.port p).map = (s.port p).map ∧
      (∀ j : Nat, j ≠ p → t.port j = s.port j) := by
  obtain rfl := hacc.obj findObj_release
  obtain ⟨k, msg, heq, hk⟩ := beginRelease_named (s := s.arrived q) (p := p) (d := d) (m := m) (reason := 1) (by rw [State.arrived_ctx, h2])
    (by rw [State.arrived_ctx, hr]) (by rw [State.arrived_port, hm]) (by rw [State.arrived_port, hn])
    (by rw [arrived_modCtx, planMap_arrived, hplan])
  have hstart : releaseDrop p d (s.arrived q) = beginRelease p d 1 (s.arrived q) :=
    releaseDrop_starts (releaseRuns_none (by rw [State.arrived_ctx, hr]) (by rw [State.arrived_port, hw]))
  obtain ⟨t, ht, hh, hports, hctxs⟩ := exec_accepted_lines (i := .release q tid value) rfl hacc
    ((hostWrite_release hp hd h64 _ _).trans (hstart.trans heq)) (fun hg => dropNamed_keeps hg ..)
  obtain ⟨hpend, hmap⟩ := dropNamed_port (s.arrived q) p d k m msg (fun y => { y with releasing := some (k, 1) })
  refine ⟨t, k, ht, hh, ?_, ?_, ?_, ?_, fun j hj => ?_⟩
  · rw [State.ctx_of_ctxs hctxs, dropNamed_ctx, State.arrived_ctx]
  · rw [State.arrived_time, State.arrived_port] at hk
    omega
  · rw [State.port_of_ports hports, hpend]
  · rw [State.port_of_ports hports, hmap, State.arrived_port]
  · rw [State.port_of_ports hports, dropNamed_port_other hj, State.arrived_port]

/-- The write of WAKE (R126, R211). -/
theorem wake_written {tid value : Nat} {o : Obj} (hacc : s.Accepts q Code.wake value o 1) (hw : (s.ctx p d).waking = none) :
    ∃ t : State, exec (.wake q tid value) s = .next t ∧ t.Holds q (writeDone tid Code.wake) ∧
      (t.ctx p d).waking = some 0 ∧ (t.ctx p d).state = 4 ∧ (t.port p).wakeBits = addTo d (s.port p).wakeBits ∧
      (∀ j : Nat, j ≠ p → t.port j = s.port j) ∧ (∀ j e : Nat, e < 64 → (j, e) ≠ (p, d) → t.ctx j e = s.ctx j e) := by
  obtain rfl := hacc.obj findObj_wake
  have h4 := accepted_wake_asleep hp hd h64 hacc
  have heq : wakeDrop p d (s.arrived q) = setWakeBit p d ((s.arrived q).modCtx p d (fun y => { y with waking := some 0 })) :=
    if_pos ⟨by rw [State.arrived_ctx, h4], by rw [State.arrived_ctx, hw]⟩
  obtain ⟨t, ht, hh, hports, hctxs⟩ := exec_accepted_lines (i := .wake q tid value) rfl hacc ((hostWrite_wake hp hd h64 _ _).trans heq)
    (fun hg => (setWakeBit_keeps hg ..).trans (hg _ (s.arrived q).ports _))
  refine ⟨t, ht, hh, ?_, ?_, ?_, fun j hj => ?_, fun j e he hne => ?_⟩
  · rw [State.ctx_of_ctxs hctxs, setWakeBit_ctx, State.ctx_modCtx]
    rfl
  · rw [State.ctx_of_ctxs hctxs, setWakeBit_ctx, State.ctx_modCtx, ← h4, ← State.arrived_ctx s q]
    rfl
  · rw [State.port_of_ports hports, setWakeBit_port, ← State.arrived_port s q]
    rfl
  · rw [State.port_of_ports hports, setWakeBit_port_other hj, ← State.arrived_port s q]
    rfl
  · have hk := dropKey_ne h64 he hne
    rw [State.ctx_of_ctxs hctxs, setWakeBit_ctx_other hk, State.ctx_modCtx_ne _ _ hk, State.arrived_ctx]

end

/-! ## Deep sleep -/

/-- A drop that falls asleep (R210). -/
def State.fallenAsleep (s : State) (p d : Nat) : State :=
  (s.modCtx p d (fun x => setRole 1 false
    { x with state := 4, sleeping := none, sent := [], marked := [], named := 0, ackOwed := false, nextMode := x.mode,
             revertLeft := none })).modPort p (fun x => { x with
    levels := x.levels.filter (fun r => !decide (r.drop = d)), msgs := x.msgs.filter (fun m => !decide (m.drop = d)) })

theorem deepSleep_due {p d k : Nat} {s : State} (h : (s.ctx p d).sleeping = some k) (hk : k ≤ s.time.cycles + 1) :
    deepSleepFromCycle p d s = s.fallenAsleep p d := by
  unfold deepSleepFromCycle
  rw [h]
  exact if_pos (show s.due k = true from decide_eq_true hk)

theorem deepSleep_early {p d k : Nat} {s : State} (h : (s.ctx p d).sleeping = some k) (hk : s.time.cycles + 1 < k) :
    deepSleepFromCycle p d s = s := by
  unfold deepSleepFromCycle
  rw [h]
  exact if_neg (fun hd : s.due k = true => absurd (of_decide_eq_true hd) (by omega))

theorem fallenAsleep_ctx (s : State) (p d : Nat) : (s.fallenAsleep p d).ctx p d = setRole 1 false
    { s.ctx p d with state := 4, sleeping := none, sent := [], marked := [], named := 0, ackOwed := false,
                     nextMode := (s.ctx p d).mode, revertLeft := none } :=
  State.ctx_modCtx s p d (fun x => setRole 1 false
    { x with state := 4, sleeping := none, sent := [], marked := [], named := 0, ackOwed := false, nextMode := x.mode,
             revertLeft := none })

theorem fallenAsleep_ctx_other {p d j e : Nat} (h : dropKey j e ≠ dropKey p d) (s : State) : (s.fallenAsleep p d).ctx j e = s.ctx j e :=
  State.ctx_modCtx_ne s (fun x => setRole 1 false
    { x with state := 4, sleeping := none, sent := [], marked := [], named := 0, ackOwed := false, nextMode := x.mode,
             revertLeft := none }) h

theorem fallenAsleep_port_other {p j : Nat} (h : j ≠ p) (d : Nat) (s : State) : (s.fallenAsleep p d).port j = s.port j := by
  rw [State.fallenAsleep, State.port_modPort_ne _ _ h]
  rfl

theorem fallenAsleep_msgs (s : State) (p d : Nat) : ∀ w ∈ ((s.fallenAsleep p d).port p).msgs, w.drop ≠ d := by
  intro w hw
  rw [State.fallenAsleep, State.port_modPort] at hw
  simpa using (List.mem_filter.1 hw).2

/-! ## Release and loss at their cycle -/

theorem releaseFromCycle_due {p d k reason : Nat} {s : State} (h : (s.ctx p d).releasing = some (k, reason)) (hk : k ≤ s.time.cycles + 1) :
    releaseFromCycle p d s = releaseNow p d reason s := by
  unfold releaseFromCycle
  rw [h]
  exact if_pos (show s.due k = true from decide_eq_true hk)

theorem releaseFromCycle_early {p d k reason : Nat} {s : State} (h : (s.ctx p d).releasing = some (k, reason)) (hk : s.time.cycles + 1 < k) :
    releaseFromCycle p d s = s := by
  unfold releaseFromCycle
  rw [h]
  exact if_neg (fun hd : s.due k = true => absurd (of_decide_eq_true hd) (by omega))

theorem moveDue_alone {p d : Nat} {s : State} (h : s.twinOf p = none) : s.moveDue p d = false := by
  unfold State.moveDue
  rw [h]
  simp

/-- The loss of a drop of a port without a twin begins its release (R217). -/
theorem dropLost_released {p d : Nat} {s : State} (h2 : (s.ctx p d).state = 2) (hl : s.regN Code.dropLost p ≤ (s.ctx p d).silent)
    (hv : (s.ctx p d).revertLeft = none) (ht : s.twinOf p = none) (hr : (s.ctx p d).releasing = none) (hw : (s.port p).waiting = []) :
    dropLost p d s = beginRelease p d 2 s := by
  unfold dropLost
  rw [if_pos ⟨h2, hl, by rw [hv]; decide⟩, moveDue_alone ht, releaseRuns_none hr hw]
  rfl

end Sys2Proof.Machine

namespace Sys2Proof.Proofs

open Machine

theorem run_atDrop {f : Nat → Nat → State → State} {p d : Nat} {s t : State} (hs : s.Ready) (hp : p < 144) (h1 : 1 ≤ d) (h2 : d ≤ 32)
    (h : f p d s = t) (hf : t.faults = s.faults) : run (atDrop p d (f p d)) s = .next t :=
  run_to (f := atDrop p d (f p d)) hs ((if_pos ⟨hp, h1, h2⟩).trans h) hf

/-- Settles O49: the writes of a drop's commands, the cycles that they name, and misses and losses. -/
theorem dropsSleepWakeAndLeave : Obligations.DropsSleepWakeAndLeave := by
  refine ⟨fun q tid value p d s o m hp hd h64 h2 hsl hr hm hn hw => ⟨fun hacc hplan => ?sleep, fun hacc hplan => ?release⟩,
    fun p d k s hs hp h1 h2 hk => ⟨fun h => ?asleep, fun h => ?awake⟩, fun q tid value p d s o hacc hp hd h64 hw => ?wake,
    fun p d k m s hs hp h1 h2 hf hk h4 hw hplan hm hn => ?named,
    fun p d n s hs hp h1 h2 hw hst hl => ⟨fun hn => ?again, fun hn hr hm hpe m hplan => ?givenUp⟩,
    fun p d k reason s hs hp h1 h2 hr ht => ⟨fun h => ?released, fun h => ?notYet⟩,
    fun p d m s hs hp h1 h2 hst hl hv ht hr hw hm hn hplan => ?lost⟩
  case sleep => exact sleep_written hp hd h64 hacc h2 hsl hr hm hn hplan
  case release => exact release_written hp hd h64 hacc h2 hr hm hn hw hplan
  case asleep =>
    have hctx := fallenAsleep_ctx s p d
    exact ⟨_, run_atDrop (f := deepSleepFromCycle) hs hp h1 h2 (deepSleep_due hk h) rfl, hctx ▸ rfl, hctx ▸ rfl, hctx ▸ rfl, hctx ▸ rfl,
      hctx ▸ rfl, fallenAsleep_msgs s p d, rfl, fun j hj => fallenAsleep_port_other hj d s,
      fun j e he hne => fallenAsleep_ctx_other (dropKey_ne (by omega) he hne) s⟩
  case awake => exact run_atDrop (f := deepSleepFromCycle) hs hp h1 h2 (deepSleep_early hk h) rfl
  case wake => exact wake_written hp hd h64 hacc hw
  case named =>
    obtain ⟨a, heq, ha⟩ := wakeSlotMapStart_named hf hk h4 hw hplan hm hn
    exact ⟨_, a, run_atDrop (f := wakeSlotMapStart) hs hp h1 h2 heq (wakeNamed_keeps (g := State.faults) (fun _ _ _ => rfl) ..),
      wakeNamed_ctx hw .., ha, wakeNamed_pending .., fun j hj => wakeNamed_port_other hj ..⟩
  case again =>
    refine ⟨_, run_atDrop (f := wakeMiss) hs hp h1 h2 (wakeMiss_again hw hst hl hn) rfl, ?_, setWakeBit_port p d _, rfl⟩
    rw [setWakeBit_ctx, State.ctx_modCtx]
    rfl
  case givenUp =>
    have hctx := wakeGivenUp_ctx s p d
    obtain ⟨k, msg, heq, -⟩ := beginRelease_named (s := s.wakeGivenUp p d) (reason := 3) (m := m) (by rw [hctx]; exact hst)
      (by rw [hctx]; exact hr) hm hpe ((planMap_wakeGivenUp hst).trans hplan)
    have hnamed := dropNamed_ctx (s.wakeGivenUp p d) p d k m msg (fun y => { y with releasing := some (k, 3) })
    rw [hctx] at hnamed
    exact ⟨_, k, run_atDrop (f := wakeMiss) hs hp h1 h2 ((wakeMiss_last hw hst hl hn).trans heq)
      (dropNamed_keeps (g := State.faults) (fun _ _ _ => rfl) (s.wakeGivenUp p d) p d k m msg _), hnamed ▸ rfl, hnamed ▸ rfl, (dropNamed_port ..).1⟩
  case released =>
    obtain ⟨hf, hctx, hreg, hport, hother⟩ := releaseNow_leaves (reason := reason) hp (by omega : d < 64) ht
    exact ⟨_, run_atDrop (f := releaseFromCycle) hs hp h1 h2 (releaseFromCycle_due hr h) hf, hctx, hreg, hport, hother⟩
  case notYet => exact run_atDrop (f := releaseFromCycle) hs hp h1 h2 (releaseFromCycle_early hr h) rfl
  case lost =>
    obtain ⟨k, msg, heq, -⟩ := beginRelease_named hst hr hm hn hplan
    exact ⟨_, k, run_atDrop (f := dropLost) hs hp h1 h2 ((dropLost_released hst hl hv ht hr hw).trans heq)
      (dropNamed_keeps (g := State.faults) (fun _ _ _ => rfl) ..), dropNamed_ctx .., (dropNamed_port ..).1⟩

end Sys2Proof.Proofs

/-! PROOFS. What a link's transmitter sends: FLOW groups, the next frame in order, IDLE. -/

namespace Sys2Proof.Machine

/-! ## The next frame -/

/-- A link but for what takes no part in the choice of the next frame. -/
def LinkSt.afterFlow (x z : LinkSt) : LinkSt :=
  { x with sentBlocks := z.sentBlocks, laneOut0 := z.laneOut0, laneOut1 := z.laneOut1, coder0 := z.coder0, coder1 := z.coder1,
           nextLane := z.nextLane, flowGroups := z.flowGroups, inProgress := z.inProgress, idleFrom := z.idleFrom }

/-- The next frame does not depend on what the lanes carry, on the FLOW groups or on the frame in progress (R311, R312). -/
theorem takeFrame_afterFlow (x z : LinkSt) :
    (x.afterFlow z).takeFrame = x.takeFrame.map (fun e => (e.1, e.2.afterFlow z)) := by
  have hnext : (x.afterFlow z).nextData = x.nextData := rfl
  unfold LinkSt.takeFrame
  rw [hnext]
  cases hs : x.status with
  | cons f rest => simp only [LinkSt.afterFlow, hs, Option.map_some]
  | nil =>
    cases hm : x.mgmt with
    | cons f rest => simp only [LinkSt.afterFlow, hs, hm, Option.map_some]
    | nil =>
      cases hd : (if x.stopData = true then none else x.nextData) with
      | some f => simp only [LinkSt.afterFlow, hs, hm, hd, Option.map_some]
      | none =>
        cases hb : (if x.stopBulk = true then [] else x.bulk) with
        | cons f rest => simp only [LinkSt.afterFlow, hs, hm, hd, hb, Option.map_some]
        | nil => simp only [LinkSt.afterFlow, hs, hm, hd, hb, Option.map_none]

theorem takeFrame_status {x y : LinkSt} {f g : OutFrame} {r : List OutFrame} (h : x.status = g :: r) (ht : x.takeFrame = some (f, y)) :
    f = g ∧ y = { x with status := r } := by
  unfold LinkSt.takeFrame at ht
  rw [h] at ht
  cases ht
  exact ⟨rfl, rfl⟩

theorem takeFrame_mgmt {x y : LinkSt} {f g : OutFrame} {r : List OutFrame} (h1 : x.status = []) (h : x.mgmt = g :: r)
    (ht : x.takeFrame = some (f, y)) : f = g ∧ y = { x with mgmt := r } := by
  cases x
  cases h1
  cases h
  cases ht
  exact ⟨rfl, rfl⟩

/-- A data frame of a port is found when its turn comes (R312). -/
theorem nextData_some {x : LinkSt} (h : ∃ g ∈ x.data, g.port < 144) : ∃ f, x.nextData = some f ∧ f ∈ x.data := by
  obtain ⟨g, hg, hp⟩ := h
  cases hn : x.nextData with
  | some f =>
    obtain ⟨i, -, hi⟩ := List.exists_of_findSome?_eq_some hn
    exact ⟨f, rfl, List.mem_of_find?_eq_some hi⟩
  | none =>
    have hall := List.findSome?_eq_none_iff.1 hn ((g.port + 144 - (x.lastPort + 1) % 144) % 144) (by
      rw [List.mem_range]
      omega)
    have hport : (x.lastPort + 1 + (g.port + 144 - (x.lastPort + 1) % 144) % 144) % 144 = g.port := by omega
    rw [hport] at hall
    exact absurd (beq_self_eq_true g.port) (by simpa using List.find?_eq_none.1 hall g hg)

theorem takeFrame_data {x y : LinkSt} {f : OutFrame} (h1 : x.status = []) (h2 : x.mgmt = []) (h3 : x.stopData = false)
    (h : ∃ g ∈ x.data, g.port < 144) (ht : x.takeFrame = some (f, y)) : f ∈ x.data ∧ y.bulk = x.bulk := by
  obtain ⟨g, hg, hmem⟩ := nextData_some h
  unfold LinkSt.takeFrame at ht
  rw [h1] at ht
  dsimp only at ht
  rw [h2, h3, hg] at ht
  cases ht
  exact ⟨hmem, rfl⟩

/-! ## FRAME_TRANSMIT -/

/-- A link whose changed FLOW groups have gone out (R311). -/
def State.flowSent (s : State) (l : Link) : State :=
  (sendBlocks l false ((s.link l).flowGroups.map (fun g => (BlockKind.control, s.flowBlock g))) s).modLink l (fun y => { y with
    flowGroups := [], inProgress := y.afterFrame,
    idleFrom := if (s.link l).flowGroups.isEmpty then y.idleFrom else s.time.tick })

theorem flowSent_keeps {β : Type} {g : State → β} (hg : ∀ (t : State) x, g { t with oxl := x } = g t) (s : State) (l : Link) :
    g (s.flowSent l) = g s := by rw [State.flowSent, modLink_keeps hg, sendBlocks_keeps hg]

theorem flowSent_link_other (s : State) (l : Link) : (s.flowSent l).link (otherLink l) = s.link (otherLink l) := by
  rw [State.flowSent, State.link_modLink_other, sendBlocks_link_other]

/-- A link with its FLOW groups out is the link before but for them, the frame in progress and the lanes. -/
theorem flowSent_link (s : State) (l : Link) : ∃ z : LinkSt, (s.flowSent l).link l = (s.link l).afterFlow z ∧
    z.sentBlocks = (s.link l).flowGroups.map s.flowBlock ∧ z.flowGroups = [] ∧
    z.inProgress = (if (s.link l).moveDue then (s.link l).inProgress else none) := by
  refine ⟨(s.flowSent l).link l, ?_, ?_, ?_, ?_⟩
  · rw [State.flowSent, State.link_modLink, sendBlocks, State.link_modLink]
    rfl
  · rw [State.flowSent, State.link_modLink, sendBlocks, State.link_modLink, List.map_map]
    exact List.nil_append _
  · rw [State.flowSent, State.link_modLink]
  · rw [State.flowSent, State.link_modLink, sendBlocks, State.link_modLink]
    rfl

theorem frameTransmit_sends {l : Link} {s : State} (h : (s.link l).tx = 1) : frameTransmit l s =
    match (if (s.link l).fit then ((s.flowSent l).link l).takeFrame else none) with
    | none => if ((s.link l).flowGroups.map (fun g => (BlockKind.control, s.flowBlock g))).isEmpty
        then sendBlocks l false (idlePairs 1) (s.flowSent l) else s.flowSent l
    | some (f, y) => (sendBlocks l true (framePieces f) ((s.flowSent l).setLink l { y with
        inProgress := some f, progressAt := s.time.tick, idleFrom := s.time.tick })).bump (linkCode l Code.framesOut) 0 := by
  unfold frameTransmit
  dsimp only
  rw [if_neg (by rw [h]; decide), if_neg (fun hn => hn h)]
  rfl

/-- The blocks of a transmission without a frame (R303, R311). -/
theorem frameTransmit_idle {l : Link} {s : State} (h : (s.link l).tx = 1) (hn : (s.link l).fit = false ∨ (s.link l).takeFrame = none) :
    frameTransmit l s = if (s.link l).flowGroups = [] then sendBlocks l false (idlePairs 1) (s.flowSent l) else s.flowSent l := by
  obtain ⟨z, hz, -⟩ := flowSent_link s l
  have hnone : (if (s.link l).fit then ((s.flowSent l).link l).takeFrame else none) = none := by
    rcases hn with hn | hn
    · rw [hn]; rfl
    · rw [hz, takeFrame_afterFlow, hn, Option.map_none, ite_self]
  rw [frameTransmit_sends h, hnone]
  simp only [List.isEmpty_iff, List.map_eq_nil_iff]

/-- A transmission without a frame leaves the frames as they wait. -/
theorem idleSent_leaves {l : Link} {s t : State}
    (ht : t = if (s.link l).flowGroups = [] then sendBlocks l false (idlePairs 1) (s.flowSent l) else s.flowSent l) :
    (∀ {β : Type} {g : State → β}, (∀ (t : State) x, g { t with oxl := x } = g t) → g t = g s) ∧ (t.link l).flowGroups = [] ∧
      (t.link l).inProgress = (if (s.link l).moveDue then (s.link l).inProgress else none) ∧
      (t.link l).sentBlocks = (if (s.link l).flowGroups = [] then [blockOf [0x1E], blockOf [0x1E]]
        else (s.link l).flowGroups.map s.flowBlock) ∧
      (t.link l).status = (s.link l).status ∧ t.link (otherLink l) = s.link (otherLink l) := by
  obtain ⟨z, hz, hsent, hgroups, hprogress⟩ := flowSent_link s l
  subst ht
  split
  next he =>
    have h := sendBlocks_link l false (idlePairs 1) (s.flowSent l) {}
    rw [hz] at h
    refine ⟨fun hg => (sendBlocks_keeps hg ..).trans (flowSent_keeps hg s l), (congrArg (fun x : LinkSt => x.flowGroups) h :).trans hgroups,
      (congrArg (fun x : LinkSt => x.inProgress) h :).trans hprogress, (congrArg (fun x : LinkSt => x.sentBlocks) h :).trans ?_,
      (congrArg (fun x : LinkSt => x.status) h :), ?_⟩
    · rw [idlePairs_blocks]
      exact show List.replicate 2 0x1E00000000000000#64 = [blockOf [0x1E], blockOf [0x1E]] by decide
    · rw [sendBlocks_link_other, flowSent_link_other]
  next he =>
    rw [hz]
    exact ⟨fun hg => flowSent_keeps hg s l, hgroups, hprogress, hsent, rfl, flowSent_link_other s l⟩

/-- A link that has begun to send a frame (R312). -/
def State.frameBegun (s : State) (l : Link) (f : OutFrame) (y : LinkSt) : State :=
  (sendBlocks l true (framePieces f) ((s.flowSent l).setLink l { y with
    inProgress := some f, progressAt := s.time.tick, idleFrom := s.time.tick })).bump (linkCode l Code.framesOut) 0

theorem frameTransmit_frame {l : Link} {s : State} {f : OutFrame} {y : LinkSt} (h : (s.link l).tx = 1) (hf : (s.link l).fit = true)
    (ht : (s.link l).takeFrame = some (f, y)) :
    ∃ z : LinkSt, frameTransmit l s = s.frameBegun l f (y.afterFlow z) ∧ z.sentBlocks = (s.link l).flowGroups.map s.flowBlock ∧
      z.flowGroups = [] := by
  obtain ⟨z, hz, hsent, hgroups, -⟩ := flowSent_link s l
  refine ⟨z, ?_, hsent, hgroups⟩
  rw [frameTransmit_sends h, if_pos hf, hz, takeFrame_afterFlow, ht]
  rfl

theorem framePieces_blocks (f : OutFrame) : (framePieces f).map (fun b => b.2) = frameBlocks f := by
  simp [framePieces, frameBlocks, Function.comp_def]

theorem State.setLink_keeps {β : Type} {g : State → β} (hg : ∀ (t : State) x, g { t with oxl := x } = g t) (s : State) (l : Link) (x : LinkSt) :
    g (s.setLink l x) = g s := by
  cases l <;> exact hg s _

theorem State.link_setLink_other (s : State) (l : Link) (x : LinkSt) : (s.setLink l x).link (otherLink l) = s.link (otherLink l) := by
  cases l <;> rfl

theorem frameBegun_keeps {β : Type} {g : State → β} (hg : ∀ (t : State) r x, g { t with regs := r, oxl := x } = g t) (s : State) (l : Link)
    (f : OutFrame) (y : LinkSt) : g (s.frameBegun l f y) = g s := by
  rw [State.frameBegun, State.bump, State.bumpBy_keeps (fun t r => hg t r t.oxl), sendBlocks_keeps (fun t x => hg t t.regs x),
    State.setLink_keeps (fun t x => hg t t.regs x), flowSent_keeps (fun t x => hg t t.regs x)]

theorem frameBegun_counts (s : State) (l : Link) (f : OutFrame) (y : LinkSt) :
    (s.frameBegun l f y).reg (linkCode l Code.framesOut) 0 = min (((s.regN (linkCode l Code.framesOut) 0 + 1 : Nat)) : Int) (2 ^ 32 - 1) := by
  rw [State.frameBegun, State.reg_bump_same, State.regN, sendBlocks_keeps (g := fun t => t.reg _ 0) (fun _ _ => rfl),
    State.setLink_keeps (g := fun t => t.reg _ 0) (fun _ _ => rfl), flowSent_keeps (g := fun t => t.reg _ 0) (fun _ _ => rfl), State.regN]

theorem frameBegun_link (s : State) (l : Link) (f : OutFrame) (y : LinkSt) : ((s.frameBegun l f y).link l).besidesLanes {} =
    { y.besidesLanes {} with inProgress := some f, progressAt := s.time.tick, idleFrom := s.time.tick,
                             sentBlocks := y.sentBlocks ++ frameBlocks f } := by
  have h := sendBlocks_link l true (framePieces f) ((s.flowSent l).setLink l { y with
    inProgress := some f, progressAt := s.time.tick, idleFrom := s.time.tick }) {}
  rw [framePieces_blocks, State.link_setLink] at h
  rw [State.frameBegun, State.link_bump]
  exact h

theorem frameBegun_link_other (s : State) (l : Link) (f : OutFrame) (y : LinkSt) :
    (s.frameBegun l f y).link (otherLink l) = s.link (otherLink l) := by
  rw [State.frameBegun, State.link_bump, sendBlocks_link_other, State.link_setLink_other, flowSent_link_other]

/-- What a transmission leaves that takes the next frame (R303, R311, R312). -/
theorem run_frameTransmit {l : Link} {s : State} {f : OutFrame} {y : LinkSt} (hs : s.Ready) (htx : (s.link l).tx = 1)
    (hfit : (s.link l).fit = true) (ht : (s.link l).takeFrame = some (f, y)) :
    ∃ t : State, run (frameTransmit l) s = .next t ∧ (t.link l).inProgress = some f ∧
      (t.link l).sentBlocks = (s.link l).flowGroups.map s.flowBlock ++ frameBlocks f ∧ (t.link l).flowGroups = [] ∧
      t.reg (linkCode l Code.framesOut) 0 = min (((s.regN (linkCode l Code.framesOut) 0 + 1 : Nat)) : Int) (2 ^ 32 - 1) ∧
      (∀ r : List OutFrame, (s.link l).status = f :: r → (t.link l).status = r) ∧
      ((s.link l).status ≠ [] → (s.link l).status.head? = some f ∧ (t.link l).mgmt = (s.link l).mgmt) ∧
      ((s.link l).status = [] → (s.link l).mgmt ≠ [] → (s.link l).mgmt.head? = some f ∧ (t.link l).data = (s.link l).data) ∧
      ((s.link l).status = [] → (s.link l).mgmt = [] → (s.link l).stopData = false →
        (∃ x ∈ (s.link l).data, x.port < 144) →
        f ∈ (s.link l).data ∧ (t.link l).bulk = (s.link l).bulk) ∧
      t.link (otherLink l) = s.link (otherLink l) ∧ t.ports = s.ports ∧ t.ctxs = s.ctxs := by
  obtain ⟨z, heq, hsent, hgroups⟩ := frameTransmit_frame htx hfit ht
  have h := frameBegun_link s l f (y.afterFlow z)
  have hstatus : ((s.frameBegun l f (y.afterFlow z)).link l).status = y.status := (congrArg (fun x : LinkSt => x.status) h :)
  have hmgmt : ((s.frameBegun l f (y.afterFlow z)).link l).mgmt = y.mgmt := (congrArg (fun x : LinkSt => x.mgmt) h :)
  have hdata : ((s.frameBegun l f (y.afterFlow z)).link l).data = y.data := (congrArg (fun x : LinkSt => x.data) h :)
  have hbulk : ((s.frameBegun l f (y.afterFlow z)).link l).bulk = y.bulk := (congrArg (fun x : LinkSt => x.bulk) h :)
  refine ⟨_, run_to (f := frameTransmit l) hs heq (frameBegun_keeps (g := State.faults) (fun _ _ _ => rfl) s l f _),
    (congrArg (fun x : LinkSt => x.inProgress) h :), ?_, ?_, frameBegun_counts s l f _, fun r hr => ?_, fun hn => ?_, fun h1 hn => ?_,
    fun h1 h2 h3 hd => ?_, frameBegun_link_other s l f _, frameBegun_keeps (g := State.ports) (fun _ _ _ => rfl) s l f _,
    frameBegun_keeps (g := State.ctxs) (fun _ _ _ => rfl) s l f _⟩
  · exact (congrArg (fun x : LinkSt => x.sentBlocks) h :).trans (congrArg (· ++ frameBlocks f) hsent)
  · exact (congrArg (fun x : LinkSt => x.flowGroups) h :).trans hgroups
  · obtain ⟨-, rfl⟩ := takeFrame_status hr ht
    exact hstatus
  · obtain ⟨g, r, hr⟩ := List.exists_cons_of_ne_nil hn
    obtain ⟨rfl, rfl⟩ := takeFrame_status hr ht
    exact ⟨by rw [hr]; rfl, hmgmt⟩
  · obtain ⟨g, r, hr⟩ := List.exists_cons_of_ne_nil hn
    obtain ⟨rfl, rfl⟩ := takeFrame_mgmt h1 hr ht
    exact ⟨by rw [hr]; rfl, hdata⟩
  · obtain ⟨hmem, hy⟩ := takeFrame_data h1 h2 h3 hd ht
    exact ⟨hmem, hbulk.trans hy⟩

end Sys2Proof.Machine

/-! PROOFS. Frames from the host: where they go, what they count, and the statement about them. -/

namespace Sys2Proof.Machine

/-! ## Storing a frame -/

theorem bufferWritten_keeps {β : Type} {g : State → β} (hg : ∀ (t : State) x k, g { t with test := x, free := k } = g t) (p : Nat)
    (s : State) : g (bufferWritten p s) = g s := by
  refine forAll_keeps g _ _ (fun w t => ?_) s
  dsimp only [State.draw]
  split
  · exact hg t t.test _
  · exact hg t _ _

/-- What sees neither the FLOW mark of a port nor the FLOW groups that are to go out. -/
structure FlowBlind {β : Type} (p : Nat) (g : State → β) : Prop where
  mark : ∀ (t : State) b, g (t.modPort p (fun x => { x with flowStop := b })) = g t
  groups : ∀ (t : State) l (f : List Nat → List Nat), g (t.modLink l (fun x => { x with flowGroups := f x.flowGroups })) = g t

theorem FlowBlind.flowCheck {β : Type} {p : Nat} {g : State → β} (h : FlowBlind p g) (s : State) : g (flowCheck p s) = g s := by
  unfold Machine.flowCheck
  dsimp only
  generalize (if s.txFree p < 8192 then true else if 16384 ≤ s.txFree p then false else (s.port p).flowStop) = stop
  split
  · rfl
  · exact (forAll_keeps g _ _ (fun l t => h.groups t l _) _).trans (h.mark s _)

theorem flowBlind_of_fields {β : Type} {g : State → β} (hg : ∀ (t : State) x o, g { t with ports := x, oxl := o } = g t) (p : Nat) :
    FlowBlind p g where
  mark t _ := hg t _ t.oxl
  groups t l f := modLink_keeps (fun t o => hg t t.ports o) l _ t

/-! ## What the routing of a frame counts -/

/-- The counters of the frames that reach no drop (R88, R202, R210, R310, R311, R320). -/
def discardCounts (l : Link) (p d : Nat) : List (Nat × Nat) :=
  [(Code.staleHost, dropKey p d), (Code.staleEpoch, p), (Code.noDrop, p), (Code.asleepDiscards, dropKey p d), (Code.oversizeDiscards, p),
   (linkCode l Code.txOverflows, 0), (linkCode l Code.unroutable, 0)]

/-- What a counter is none of: those of messages and of good frames. -/
structure PlainCount (c i : Nat) : Prop where
  roll : c ≠ Code.rollCall
  small : i < 2 ^ 24
  drops : ∀ m, c ≠ linkCode m Code.statusDrops
  frames : ∀ m, c ≠ linkCode m Code.framesIn
  injections : c ≠ Code.injections

theorem PlainCount.messages {c i : Nat} (h : PlainCount c i) : BesidesMessages (fun t => t.reg c i) :=
  (besidesCollector_reg h.roll h.small h.drops h.frames h.injections).toBesidesMessages

theorem PlainCount.framed {c i : Nat} (h : PlainCount c i) (s : State) (l : Link) : (s.framed l).reg c i = s.reg c i :=
  State.reg_bumpBy_ne h.roll (objKey_ne (h.frames l) h.small (by decide)) 1 s

theorem PlainCount.of_low {c i : Nat} (hi : i < 2 ^ 24) (hr : c ≠ Code.rollCall) (hc : c < 0x600000) (hj : c ≠ Code.injections) : PlainCount c i where
  roll := hr
  small := hi
  drops m h := by subst h; revert hc; cases m <;> decide
  frames m h := by subst h; revert hc; cases m <;> decide
  injections := hj

theorem PlainCount.of_link {c : Nat} (hr : ∀ m, linkCode m c ≠ Code.rollCall) (hd : c % 2 ^ 16 ≠ Code.statusDrops % 2 ^ 16)
    (hf : c % 2 ^ 16 ≠ Code.framesIn % 2 ^ 16) (hj : ∀ m, linkCode m c ≠ Code.injections) (l : Link) : PlainCount (linkCode l c) 0 where
  roll := hr l
  small := by decide
  drops _ := linkCode_c_ne hd
  frames _ := linkCode_c_ne hf
  injections := hj l

theorem plainCount_discard {l : Link} {p d : Nat} (hp : p < 144) (hd : d ≤ 32) : ∀ e ∈ discardCounts l p d, PlainCount e.1 e.2 := by
  have hk : dropKey p d < 2 ^ 24 := by unfold dropKey; omega
  have hp' : p < 2 ^ 24 := by omega
  intro e he
  simp only [discardCounts, List.mem_cons, List.not_mem_nil, or_false] at he
  rcases he with rfl | rfl | rfl | rfl | rfl | rfl | rfl
  · exact PlainCount.of_low (c := Code.staleHost) hk (by decide) (by decide) (by decide)
  · exact PlainCount.of_low (c := Code.staleEpoch) hp' (by decide) (by decide) (by decide)
  · exact PlainCount.of_low (c := Code.noDrop) hp' (by decide) (by decide) (by decide)
  · exact PlainCount.of_low (c := Code.asleepDiscards) hk (by decide) (by decide) (by decide)
  · exact PlainCount.of_low (c := Code.oversizeDiscards) hp' (by decide) (by decide) (by decide)
  · exact .of_link (fun m => by cases m <;> decide) (by decide) (by decide) (fun m => by cases m <;> decide) l
  · exact .of_link (fun m => by cases m <;> decide) (by decide) (by decide) (fun m => by cases m <;> decide) l

/-- What is blind to all that the routing of one frame can change. -/
structure RouteBlind {β : Type} (l : Link) (p d : Nat) (g : State → β) : Prop extends BesidesMessages g, FlowBlind p g where
  count : ∀ e ∈ discardCounts l p d, ∀ t : State, g (t.bump e.1 e.2) = g t
  queue : ∀ (t : State) (f : List (Nat × Nat × List Byte) → List (Nat × Nat × List Byte)), g (t.modCtx p d (fun x => { x with queue := f x.queue })) = g t
  words : ∀ (t : State) x k, g { t with test := x, free := k } = g t

section
variable {β : Type} {l : Link} {p d : Nat} {g : State → β} (h : RouteBlind l p d g)
include h

theorem RouteBlind.staleHostFrame (e : Nat) (t : State) : g (staleHostFrame p d e t) = g t :=
  (h.sendStatus _ _ _ _ _ _ _).trans ((h.count (Code.staleEpoch, p) (by simp [discardCounts]) _).trans
    (h.count (Code.staleHost, dropKey p d) (by simp [discardCounts]) t))

theorem RouteBlind.noDropFrame (e : Nat) (t : State) : g (noDropFrame p d e t) = g t :=
  (h.sendStatus _ _ _ _ _ _ _).trans (h.count (Code.noDrop, p) (by simp [discardCounts]) t)

theorem RouteBlind.discardStatus (cause n : Nat) (t : State) : g (discardStatus p d cause n t) = g t := by
  unfold Machine.discardStatus
  dsimp only
  split
  · exact h.sendStatus _ _ _ _ _ _ _
  · exact h.sendStatus _ _ _ _ _ _ _

theorem RouteBlind.discardHost (cause n : Nat) (t : State) : g (discardHost l p d cause n t) = g t :=
  (h.discardStatus _ _ _).trans (h.count (linkCode l Code.unroutable, 0) (by simp [discardCounts]) t)

theorem RouteBlind.queueHost (e : Nat) (body : List Byte) (t : State) : g (queueHost l p d e body t) = g t := by
  unfold Machine.queueHost
  split
  · exact h.count (linkCode l Code.txOverflows, 0) (by simp [discardCounts]) t
  · exact (h.flowCheck _).trans ((bufferWritten_keeps h.words p _).trans (h.queue t (fun fs => fs ++ [(e, 1, body)])))

theorem RouteBlind.routeBranch {f : HostFrame} (hp : hostPort f = p) (hd : hostDrop f = d) (t : State) : g (routeBranch l f t) = g t := by
  unfold Machine.routeBranch
  dsimp only
  rw [hp, hd]
  split
  · exact h.noDropFrame _ _
  split
  · exact h.staleHostFrame _ _
  split
  · exact (h.sendStatus _ _ _ _ _ _ _).trans (h.count (Code.asleepDiscards, dropKey p d) (by simp [discardCounts]) t)
  split
  · exact h.noDropFrame _ _
  split
  · exact (h.discardStatus _ _ _).trans (h.count (Code.oversizeDiscards, p) (by simp [discardCounts]) t)
  · exact h.queueHost _ _ _

end

theorem routeBlind_of_fields {β : Type} {g : State → β}
    (hg : ∀ (t : State) r o q c x k, g { t with regs := r, oxl := o, ports := q, ctxs := c, test := x, free := k } = g t) (l : Link) (p d : Nat) :
    RouteBlind l p d g where
  toBesidesMessages := besidesMessages_of_fields fun t r o => hg t r o t.ports t.ctxs t.test t.free
  toFlowBlind := flowBlind_of_fields (fun t q o => hg t t.regs o q t.ctxs t.test t.free) p
  count e _ t := State.bumpBy_keeps (fun t r => hg t r t.oxl t.ports t.ctxs t.test t.free) t _ _ _
  queue t _ := hg t t.regs t.oxl t.ports _ t.test t.free
  words t x k := hg t t.regs t.oxl t.ports t.ctxs x k

theorem routeBlind_ctx {p d j e : Nat} (hk : dropKey j e ≠ dropKey p d) (l : Link) : RouteBlind l p d (fun t => t.ctx j e) where
  toBesidesMessages := besidesMessages_of_fields fun _ _ _ => rfl
  toFlowBlind := flowBlind_of_fields (fun _ _ _ => rfl) p
  count c _ t := State.bumpBy_keeps (g := fun t => t.ctx j e) (fun _ _ => rfl) t _ _ _
  queue t _ := State.ctx_modCtx_ne t _ hk
  words _ _ _ := rfl

theorem routeBlind_port {p j : Nat} (hj : j ≠ p) (l : Link) (d : Nat) : RouteBlind l p d (fun t => t.port j) where
  toBesidesMessages := besidesMessages_of_fields fun _ _ _ => rfl
  mark t _ := State.port_modPort_ne _ _ hj
  groups t m f := modLink_keeps (g := fun t => t.port j) (fun _ _ => rfl) m _ t
  count c _ t := State.bumpBy_keeps (g := fun t => t.port j) (fun _ _ => rfl) t _ _ _
  queue _ _ := rfl
  words _ _ _ := rfl

theorem routeBlind_frames {p d : Nat} (hp : p < 144) (hd : d ≤ 32) (l m : Link) :
    RouteBlind l p d (fun t => t.reg (linkCode m Code.framesIn) 0) where
  status t k f := modLink_keeps (g := fun t => t.reg _ 0) (fun _ _ => rfl) k _ t
  mgmt t k f := modLink_keeps (g := fun t => t.reg _ 0) (fun _ _ => rfl) k _ t
  drops t k := State.reg_bumpBy_ne (by cases m <;> decide) (linkCode_key_ne (by decide)) 1 t
  seq _ _ := rfl
  mark _ _ := rfl
  groups t k f := modLink_keeps (g := fun t => t.reg _ 0) (fun _ _ => rfl) k _ t
  count e he t := by
    have hplain := plainCount_discard hp hd e he
    exact State.reg_bumpBy_ne (by cases m <;> decide) (objKey_ne (fun h => hplain.frames m h.symm) (by decide) hplain.small) 1 t
  queue _ _ := rfl
  words _ _ _ := rfl

/-! ## A good data frame -/

theorem framed_accepts (s : State) (l m : Link) : (s.framed l).accepts m = s.accepts m := by
  have hmode : (s.framed l).linkMode = s.linkMode :=
    State.regN_bump_ne (by decide) (objKey_ne (by cases l <;> decide) (by decide) (by decide)) s
  have hpref : (s.framed l).regN Code.preferred 0 = s.regN Code.preferred 0 :=
    State.regN_bump_ne (by decide) (objKey_ne (by cases l <;> decide) (by decide) (by decide)) s
  have hactive : (s.framed l).activeLink = s.activeLink := State.framed_keeps (fun _ _ => rfl) s l
  unfold State.accepts
  rw [hmode, hpref, hactive]
  simp only [State.framed_link]

theorem framed_dsMax {p : Nat} (hp : p < 144) (s : State) (l : Link) (d : Nat) : (s.framed l).dsMax p d = s.dsMax p d := by
  have hwin : (s.framed l).winD p = s.winD p :=
    State.regN_bump_ne (by decide) (objKey_ne (by cases l <;> decide) (by omega) (by decide)) s
  have hctx : (s.framed l).ctx p d = s.ctx p d := State.framed_keeps (g := fun t => t.ctx p d) (fun _ _ => rfl) s l
  unfold State.dsMax State.dsLimit
  rw [hwin, hctx]

section
variable {l : Link} {f : HostFrame} {s : State} (h5 : (s.link l).state = 5) (hstart : startGood f = true) (hend : endGood f = true)
include h5 hstart hend

theorem hostFrame_good (hbad : badClass f = false) : hostFrame l f s =
    if hostClass f = 2 then request (pathOfLink l) (parseRequest (hostBody f)) s
    else if hostClass f = 3 then bulkFrame l (hostBody f) s
    else routeFrame l f (s.framed l) := by
  unfold hostFrame
  rw [if_neg (by rw [h5]; decide), hstart, hend, hbad]
  rfl

theorem hostFrame_data (hbad : badClass f = false) (h0 : hostClass f = 0) : hostFrame l f s = routeFrame l f (s.framed l) := by
  rw [hostFrame_good h5 hstart hend hbad, if_neg (by rw [h0]; decide), if_neg (by rw [h0]; decide)]

theorem hostFrame_bad (hbad : badClass f = true) :
    hostFrame l f s = discardHost l (hostPort f) (hostDrop f) 2 (hostLength f) (s.framed l) := by
  unfold hostFrame
  rw [if_neg (by rw [h5]; decide), hstart, hend, hbad]
  rfl

end

/-- The frame that a branch port's link takes goes its way by the drop's state (R202, R210, R320). -/
theorem routeFrame_branch {l : Link} {f : HostFrame} {s : State} (hp : hostPort f < 144) (h1 : (s.port (hostPort f)).mode = 1)
    (hd1 : 1 ≤ hostDrop f) (hd2 : hostDrop f ≤ 32) : routeFrame l f s =
      if s.accepts l then routeBranch l f s else discardHost l (hostPort f) (hostDrop f) 3 (hostLength f) s := by
  have htrunk : s.isTrunk (hostPort f) = false := by unfold State.isTrunk; rw [h1]; rfl
  unfold routeFrame
  dsimp only
  rw [if_neg (by omega), htrunk]
  cases s.accepts l <;> rfl

/-- A branch port's frame, whatever becomes of it. -/
theorem routeFrame_blind {β : Type} {g : State → β} {l : Link} {f : HostFrame} {s : State} (h : RouteBlind l (hostPort f) (hostDrop f) g)
    (hp : hostPort f < 144) (h1 : (s.port (hostPort f)).mode = 1) (hd1 : 1 ≤ hostDrop f) (hd2 : hostDrop f ≤ 32) :
    g (routeFrame l f s) = g s := by
  rw [routeFrame_branch hp h1 hd1 hd2]
  split
  · exact h.routeBranch rfl rfl s
  · exact h.discardHost _ _ s

/-- A counter that an event has counted, and messages after it. -/
theorem counted_reg {c i : Nat} (h : PlainCount c i) (s : State) (l : Link) {t : State}
    (ht : t.reg c i = ((s.framed l).bump c i).reg c i) : t.reg c i = min (((s.regN c i + 1 : Nat)) : Int) (2 ^ 32 - 1) := by
  rw [ht, State.reg_bump_same, State.regN, h.framed s l, State.regN]

/-- Messages leave the ports and the contexts. -/
theorem discardStatus_keeps {β : Type} {g : State → β} (h : BesidesMessages g) (p d cause n : Nat) (t : State) :
    g (discardStatus p d cause n t) = g t := by
  unfold discardStatus
  dsimp only
  split
  · exact h.sendStatus _ _ _ _ _ _ _
  · exact h.sendStatus _ _ _ _ _ _ _

theorem besidesMessages_lines : BesidesMessages (fun t : State => (t.ctxs, t.ports)) := besidesMessages_of_fields fun _ _ _ => rfl

theorem bump_lines (c i : Nat) (t : State) : ((t.bump c i).ctxs, (t.bump c i).ports) = (t.ctxs, t.ports) :=
  State.bumpBy_keeps (g := fun t : State => (t.ctxs, t.ports)) (fun _ _ => rfl) t c i 1

section
variable {l : Link} {p d : Nat} (hp : p < 144) (hd : d ≤ 32) (s : State)
include hp hd

theorem discardHost_leaves (cause n : Nat) :
    let t := discardHost l p d cause n (s.framed l)
    (t.ctxs, t.ports) = (s.ctxs, s.ports) ∧
      t.reg (linkCode l Code.unroutable) 0 = min (((s.regN (linkCode l Code.unroutable) 0 + 1 : Nat)) : Int) (2 ^ 32 - 1) := by
  have hplain : PlainCount (linkCode l Code.unroutable) 0 :=
    plainCount_discard (l := l) (p := p) (d := d) hp hd (linkCode l Code.unroutable, 0) (by simp [discardCounts])
  exact ⟨(discardStatus_keeps besidesMessages_lines ..).trans ((bump_lines ..).trans (bump_lines ..)),
    counted_reg hplain s l (discardStatus_keeps hplain.messages ..)⟩

theorem noDropFrame_leaves (e : Nat) :
    let t := noDropFrame p d e (s.framed l)
    (t.ctxs, t.ports) = (s.ctxs, s.ports) ∧ t.reg Code.noDrop p = min (((s.regN Code.noDrop p + 1 : Nat)) : Int) (2 ^ 32 - 1) := by
  have hplain : PlainCount Code.noDrop p :=
    plainCount_discard (l := l) (p := p) (d := d) hp hd (Code.noDrop, p) (by simp [discardCounts])
  exact ⟨(besidesMessages_lines.sendStatus _ _ _ _ _ _ _).trans ((bump_lines ..).trans (bump_lines ..)),
    counted_reg hplain s l (hplain.messages.sendStatus _ _ _ _ _ _ _)⟩

theorem staleHostFrame_leaves (e : Nat) :
    let t := staleHostFrame p d e (s.framed l)
    (t.ctxs, t.ports) = (s.ctxs, s.ports) ∧
      t.reg Code.staleHost (dropKey p d) = min (((s.regN Code.staleHost (dropKey p d) + 1 : Nat)) : Int) (2 ^ 32 - 1) ∧
      t.reg Code.staleEpoch p = min (((s.regN Code.staleEpoch p + 1 : Nat)) : Int) (2 ^ 32 - 1) := by
  have h1 : PlainCount Code.staleHost (dropKey p d) :=
    plainCount_discard (l := l) (p := p) (d := d) hp hd (Code.staleHost, dropKey p d) (by simp [discardCounts])
  have h2 : PlainCount Code.staleEpoch p :=
    plainCount_discard (l := l) (p := p) (d := d) hp hd (Code.staleEpoch, p) (by simp [discardCounts])
  have hkey : objKey Code.staleHost (dropKey p d) ≠ objKey Code.staleEpoch p := objKey_ne (by decide) h1.small h2.small
  refine ⟨(besidesMessages_lines.sendStatus _ _ _ _ _ _ _).trans ((bump_lines ..).trans ((bump_lines ..).trans (bump_lines ..))), ?_, ?_⟩
  · refine counted_reg h1 s l ((h1.messages.sendStatus _ _ _ _ _ _ _).trans ?_)
    exact State.reg_bumpBy_ne h1.roll hkey 1 _
  · refine (h2.messages.sendStatus _ _ _ _ _ _ _).trans ?_
    rw [State.reg_bump_same, State.regN_bump_ne h2.roll hkey.symm, State.regN, h2.framed s l, State.regN]

theorem asleepDiscard_leaves (cause e epoch : Nat) :
    let t := staleStatus p d cause e epoch ((s.framed l).bump Code.asleepDiscards (dropKey p d))
    (t.ctxs, t.ports) = (s.ctxs, s.ports) ∧ t.reg Code.asleepDiscards (dropKey p d) =
      min (((s.regN Code.asleepDiscards (dropKey p d) + 1 : Nat)) : Int) (2 ^ 32 - 1) := by
  have hplain : PlainCount Code.asleepDiscards (dropKey p d) :=
    plainCount_discard (l := l) (p := p) (d := d) hp hd (Code.asleepDiscards, dropKey p d) (by simp [discardCounts])
  exact ⟨(besidesMessages_lines.sendStatus _ _ _ _ _ _ _).trans ((bump_lines ..).trans (bump_lines ..)),
    counted_reg hplain s l (hplain.messages.sendStatus _ _ _ _ _ _ _)⟩

theorem oversizeDiscard_leaves (cause n : Nat) :
    let t := discardStatus p d cause n ((s.framed l).bump Code.oversizeDiscards p)
    (t.ctxs, t.ports) = (s.ctxs, s.ports) ∧
      t.reg Code.oversizeDiscards p = min (((s.regN Code.oversizeDiscards p + 1 : Nat)) : Int) (2 ^ 32 - 1) := by
  have hplain : PlainCount Code.oversizeDiscards p :=
    plainCount_discard (l := l) (p := p) (d := d) hp hd (Code.oversizeDiscards, p) (by simp [discardCounts])
  exact ⟨(discardStatus_keeps besidesMessages_lines ..).trans ((bump_lines ..).trans (bump_lines ..)),
    counted_reg hplain s l (discardStatus_keeps hplain.messages ..)⟩

theorem queueHost_overflow {e : Nat} {body : List Byte} (h : s.txFree p < body.length) :
    let t := queueHost l p d e body (s.framed l)
    (t.ctxs, t.ports) = (s.ctxs, s.ports) ∧
      t.reg (linkCode l Code.txOverflows) 0 = min (((s.regN (linkCode l Code.txOverflows) 0 + 1 : Nat)) : Int) (2 ^ 32 - 1) := by
  have hplain : PlainCount (linkCode l Code.txOverflows) 0 :=
    plainCount_discard (l := l) (p := p) (d := d) hp hd (linkCode l Code.txOverflows, 0) (by simp [discardCounts])
  have hfree : (s.framed l).txFree p = s.txFree p := State.framed_keeps (g := fun t => t.txFree p) (fun _ _ => rfl) s l
  have heq : queueHost l p d e body (s.framed l) = (s.framed l).bump (linkCode l Code.txOverflows) 0 := if_pos (by rw [hfree]; exact h)
  dsimp only
  rw [heq]
  exact ⟨(bump_lines ..).trans (bump_lines ..), counted_reg hplain s l rfl⟩

end

/-- A frame with room joins its drop's queue (R87, R311). -/
theorem queueHost_joins {l : Link} {p d e : Nat} {body : List Byte} {s : State} (h : body.length ≤ s.txFree p) :
    (queueHost l p d e body (s.framed l)).ctx p d = { s.ctx p d with queue := (s.ctx p d).queue ++ [(e, 1, body)] } := by
  have hfree : (s.framed l).txFree p = s.txFree p := State.framed_keeps (g := fun t => t.txFree p) (fun _ _ => rfl) s l
  have hctx : (s.framed l).ctx p d = s.ctx p d := State.framed_keeps (g := fun t => t.ctx p d) (fun _ _ => rfl) s l
  unfold queueHost
  rw [if_neg (by rw [hfree]; omega), (flowBlind_of_fields (g := fun t => t.ctx p d) (fun _ _ _ => rfl) p).flowCheck,
    bufferWritten_keeps (g := fun t => t.ctx p d) (fun _ _ _ => rfl), State.ctx_modCtx, hctx]

end Sys2Proof.Machine

/-! PROOFS. Frames from the host and to it: the statement about them. -/

namespace Sys2Proof.Machine

theorem run_congr {f g : State → State} {s : State} (h : f s = g s) : run f s = run g s := by
  unfold run
  rw [h]

/-- The READ that the eight bytes of a message carry (R330, R331). -/
theorem parseRequest_read (t h i u : Byte) : parseRequest [1, t, 0, 0, h, i, u, 0] =
    { op := 1, tid := t.toNat, index := h.toNat * 256 + i.toNat, sub := u.toNat } := by
  simp [parseRequest, beVal, opLength]

theorem bulkFrame_op {l : Link} {body : List Byte} {op : Byte} (h : body[0]? = some op) (s : State) : bulkFrame l body s =
    match op.toNat with
    | 1 => readRecord l (beVal ((body.drop 2).take 2)) (beVal ((body.drop 4).take 8)) (beVal ((body.drop 12).take 4))
        (beVal ((body.drop 16).take 4)) s
    | 2 => readDriveBlocks l (beVal ((body.drop 2).take 2)) (beVal ((body.drop 4).take 8)) (beVal ((body.drop 12).take 4))
        (beVal ((body.drop 16).take 4)) s
    | 3 => cancelBulk l (beVal ((body.drop 2).take 2)) s
    | op => badBulk l op (beVal ((body.drop 2).take 2)) (beVal ((body.drop 4).take 8)) s := by
  have hop : beVal ((body.drop 0).take 1) = op.toNat := by
    cases body with
    | nil => cases h
    | cons b rest =>
      obtain rfl : b = op := Option.some.inj h
      simp [beVal]
  unfold bulkFrame
  dsimp only
  generalize beVal ((body.drop 0).take 1) = n at hop ⊢
  subst hop
  rfl

/-! ## Lanes under test -/

theorem prbsTransmit_keeps {β : Type} {g : State → β} (hg : ∀ (t : State) x, g { t with oxl := x } = g t) (l : Link) (s : State) :
    g (prbsTransmit l s) = g s := by
  rw [prbsTransmit, modLink_keeps hg]

theorem prbsTransmit_frame (l : Link) (s : State) : { prbsTransmit l s with oxl := s.oxl } = s :=
  prbsTransmit_keeps (g := fun t => { t with oxl := s.oxl }) (fun _ _ => rfl) l s

end Sys2Proof.Machine

namespace Sys2Proof.Proofs

open Machine

/-- A good data frame for a drop of a branch port (R88, R202, R210, R310, R311, R320). -/
theorem dataFrame_routed {l : Link} {f : HostFrame} {s : State} (hs : s.Ready) (h5 : (s.link l).state = 5) (hstart : startGood f = true)
    (hend : endGood f = true) (hbad : badClass f = false) (h0 : hostClass f = 0) (hp : hostPort f < 144)
    (h1 : (s.port (hostPort f)).mode = 1) (hd1 : 1 ≤ hostDrop f) (hd2 : hostDrop f ≤ 32) :
    let t := hostFrame l f s
    let p := hostPort f
    let d := hostDrop f
    exec (.hostDataFrame l f) s = .next t ∧
      t.reg (linkCode l Code.framesIn) 0 = min (((s.regN (linkCode l Code.framesIn) 0 + 1 : Nat)) : Int) (2 ^ 32 - 1) ∧
      (∀ j e : Nat, e < 64 → (j, e) ≠ (p, d) → t.ctx j e = s.ctx j e) ∧ (∀ j : Nat, j ≠ p → t.port j = s.port j) ∧
      t = if s.accepts l then routeBranch l f (s.framed l) else discardHost l p d 3 (hostLength f) (s.framed l) := by
  have hport : ((s.framed l).port (hostPort f)).mode = 1 :=
    (State.framed_keeps (g := fun t => (t.port (hostPort f)).mode) (fun _ _ => rfl) s l).trans h1
  have heq := hostFrame_data h5 hstart hend hbad h0
  have hblind : ∀ {β : Type} {g : State → β}, RouteBlind l (hostPort f) (hostDrop f) g → g (hostFrame l f s) = g (s.framed l) := fun h => by
    rw [heq]
    exact routeFrame_blind h hp hport hd1 hd2
  refine ⟨run_quiet hs ?_, ?_, fun j e he hne => ?_, fun j hj => ?_, ?_⟩
  · rw [hblind (g := State.faults) (routeBlind_of_fields (fun _ _ _ _ _ _ _ => rfl) _ _ _)]
    exact State.framed_keeps (fun _ _ => rfl) s l
  · rw [hblind (routeBlind_frames hp hd2 l l)]
    exact State.reg_bump_same s _ 0
  · rw [hblind (routeBlind_ctx (dropKey_ne (by omega) he hne) l)]
    exact State.framed_keeps (g := fun t => t.ctx j e) (fun _ _ => rfl) s l
  · rw [hblind (routeBlind_port hj l _)]
    exact State.framed_keeps (g := fun t => t.port j) (fun _ _ => rfl) s l
  · rw [heq, routeFrame_branch hp hport hd1 hd2, framed_accepts]

/-- Where a frame that is taken goes, by the state and epoch of its drop (R202, R210). -/
theorem routeBranch_framed (l : Link) (f : HostFrame) (s : State) (hp : hostPort f < 144) :
    let p := hostPort f
    let d := hostDrop f
    let x := s.ctx p d
    routeBranch l f (s.framed l) =
      if x.state = 0 ∨ x.state = 1 then noDropFrame p d (hostEpoch f) (s.framed l)
      else if hostEpoch f ≠ x.epoch then staleHostFrame p d (hostEpoch f) (s.framed l)
      else if x.state = 4 then
        staleStatus p d 5 (hostEpoch f) x.epoch ((s.framed l).bump Code.asleepDiscards (dropKey p d))
      else if x.state = 3 then noDropFrame p d (hostEpoch f) (s.framed l)
      else if s.dsMax p d < (hostBody f).length then
        discardStatus p d 1 (hostBody f).length ((s.framed l).bump Code.oversizeDiscards p)
      else queueHost l p d (hostEpoch f) (hostBody f) (s.framed l) := by
  have hctx : (s.framed l).ctx (hostPort f) (hostDrop f) = s.ctx (hostPort f) (hostDrop f) :=
    State.framed_keeps (g := fun t => t.ctx (hostPort f) (hostDrop f)) (fun _ _ => rfl) s l
  unfold routeBranch
  dsimp only
  rw [hctx, framed_dsMax hp]

/-- A frame for a trunk joins the port that carries its traffic (R162, R182, R202). -/
theorem trunkFrame_joins {l : Link} {f : HostFrame} {s : State} (h5 : (s.link l).state = 5) (hstart : startGood f = true)
    (hend : endGood f = true) (hbad : badClass f = false) (h0 : hostClass f = 0) (hp : hostPort f < 144)
    (h2 : (s.port (hostPort f)).mode = 2) (hd : hostDrop f = 1) (ha : s.accepts l = true)
    (he : hostEpoch f = (s.ctx (hostPort f) 1).epoch) :
    hostFrame l f s = queueHost l (s.trunkPath (hostPort f)) 1 (hostEpoch f) (hostBody f) (s.framed l) := by
  have hkeep : ∀ {β : Type} {g : State → β}, (∀ (t : State) r, g { t with regs := r } = g t) → g (s.framed l) = g s :=
    fun hg => State.framed_keeps hg s l
  have hmode : ((s.framed l).port (hostPort f)).mode = 2 := (hkeep (g := fun t => (t.port (hostPort f)).mode) (fun _ _ => rfl)).trans h2
  have hepoch : (s.framed l).ctx (hostPort f) 1 = s.ctx (hostPort f) 1 := hkeep (g := fun t => t.ctx (hostPort f) 1) (fun _ _ => rfl)
  have htrunk : (s.framed l).isTrunk (hostPort f) = true := by unfold State.isTrunk; rw [hmode]; rfl
  have hne : ∀ q c, c = Code.twinEnable ∨ c = Code.twinPartner → q = hostPort f ∨ q < 144 → (s.framed l).reg c q = s.reg c q := by
    intro q c hc hq
    have hsmall : q < 2 ^ 24 := by omega
    rcases hc with rfl | rfl
    · exact (PlainCount.of_low hsmall (by decide) (by decide) (by decide)).framed s l
    · exact (PlainCount.of_low hsmall (by decide) (by decide) (by decide)).framed s l
  have htwin : (s.framed l).twinOf (hostPort f) = s.twinOf (hostPort f) :=
    twinOf_congr fun q hq => ⟨hne q _ (.inl rfl) hq, hne q _ (.inr rfl) hq⟩
  have hpath : (s.framed l).trunkPath (hostPort f) = s.trunkPath (hostPort f) := by
    have hport : (s.framed l).port = s.port := hkeep (g := State.port) (fun _ _ => rfl)
    unfold State.trunkPath
    rw [htwin, hport]
  rw [hostFrame_data h5 hstart hend hbad h0]
  unfold routeFrame
  dsimp only
  rw [if_neg (by omega), framed_accepts, ha, htrunk]
  unfold routeTrunk
  rw [hd, hepoch, hpath]
  simp [he]

/-- A good request from the host is the command that its body names (R309, R318, R330). -/
theorem requestFrame_runs {l : Link} {f : HostFrame} {s : State} (h5 : (s.link l).state = 5) (hstart : startGood f = true)
    (hend : endGood f = true) (hbad : badClass f = false) :
    (∀ t h i u : Byte, hostClass f = 2 → hostBody f = [1, t, 0, 0, h, i, u, 0] → exec (.hostDataFrame l f) s =
      exec (.read (pathOfLink l) t.toNat (h.toNat * 256 + i.toNat) u.toNat) s) ∧
    (hostClass f = 3 → (hostBody f)[0]? = some 1#8 → exec (.hostDataFrame l f) s =
      exec (.readRecord l (beVal (((hostBody f).drop 2).take 2)) (beVal (((hostBody f).drop 4).take 8))
        (beVal (((hostBody f).drop 12).take 4)) (beVal (((hostBody f).drop 16).take 4))) s) ∧
    (hostClass f = 3 → (hostBody f)[0]? = some 3#8 → exec (.hostDataFrame l f) s =
      exec (.cancel l (beVal (((hostBody f).drop 2).take 2))) s) := by
  have hgood := hostFrame_good h5 hstart hend hbad
  refine ⟨fun t h i u hc hb => ?_, fun hc hb => ?_, fun hc hb => ?_⟩
  · refine run_congr (f := hostFrame l f) (g := request (pathOfLink l)
      { op := 1, tid := t.toNat, index := h.toNat * 256 + i.toNat, sub := u.toNat }) ?_
    rw [hgood, if_pos hc, hb, parseRequest_read]
  · refine run_congr (f := hostFrame l f) (g := readRecord l _ _ _ _) ?_
    rw [hgood, if_neg (by rw [hc]; decide), if_pos hc, bulkFrame_op hb]
    rfl
  · refine run_congr (f := hostFrame l f) (g := cancelBulk l _) ?_
    rw [hgood, if_neg (by rw [hc]; decide), if_pos hc, bulkFrame_op hb]
    rfl

/-- A frame error counts and does nothing else (R303, R310). -/
theorem run_counted {g : State → State} {s : State} {c : Nat} (hs : s.Ready) (h : g s = s.bump c 0) :
    ∃ t : State, run g s = .next t ∧ { t with regs := s.regs } = s ∧
      t.reg c 0 = min (((s.regN c 0 + 1 : Nat)) : Int) (2 ^ 32 - 1) :=
  ⟨_, run_to hs h (State.bumpBy_keeps (g := State.faults) (fun _ _ => rfl) s c 0 1), s.bumpBy_frame c 0 1, State.reg_bump_same s c 0⟩

/-- Settles O53: data frames by their drop, trunk frames, frame errors, requests, the lane test, FLOW and the transmitter. -/
theorem hostFramesReachTheirDrops : Obligations.HostFramesReachTheirDrops := by
  refine ⟨fun l f s hs h5 hstart hend hbad h0 hp h1 hd1 hd2 => ?data, fun l f s hs h5 hstart hend hbad h0 hp h2 hd ha he hroom => ?trunk,
    fun l f s hs h5 => ⟨rfl, fun h => ?start, fun h1 h2 => ?stop, fun h1 h2 h3 => ?badFrame⟩, fun l s hs h5 => ⟨?block, ?sync⟩,
    fun l f s hs h5 hstart hend hbad => requestFrame_runs h5 hstart hend hbad, fun l s hs htx => ?prbs, fun l b s hs h5 hb0 hb1 => ?flow,
    fun l s hs htx => ⟨fun h => ?idle, fun f y hfit ht => run_frameTransmit hs htx hfit ht⟩⟩
  case data =>
    obtain ⟨hrun, hframes, hctxs, hports, heq⟩ := dataFrame_routed hs h5 hstart hend hbad h0 hp h1 hd1 hd2
    have hroute := routeBranch_framed l f s hp
    dsimp only at hroute
    refine ⟨_, hrun, hframes, hctxs, hports, fun ha hge h3 h4 he hmax hfree => ?_, fun ha => ?_, fun ha hle => ?_, fun ha hge hne => ?_,
      fun ha h4 he => ?_, fun ha h2 he hmax => ?_, fun ha h2 he hmax hfree => ?_⟩
    · rw [heq, if_pos ha, hroute, if_neg (by omega), if_neg (not_not_intro he), if_neg h4, if_neg h3, if_neg (by omega)]
      exact queueHost_joins hfree
    · obtain ⟨hlines, hcount⟩ := discardHost_leaves (l := l) hp hd2 s 3 (hostLength f)
      rw [heq, if_neg (by rw [ha]; decide)]
      exact ⟨(Prod.ext_iff.1 hlines).1, hcount⟩
    · obtain ⟨hlines, hcount⟩ := noDropFrame_leaves (l := l) hp hd2 s (hostEpoch f)
      rw [heq, if_pos ha, hroute, if_pos (by omega)]
      exact ⟨(Prod.ext_iff.1 hlines).1, (Prod.ext_iff.1 hlines).2, hcount⟩
    · obtain ⟨hlines, hcount⟩ := staleHostFrame_leaves (l := l) hp hd2 s (hostEpoch f)
      rw [heq, if_pos ha, hroute, if_neg (by omega), if_pos hne]
      exact ⟨(Prod.ext_iff.1 hlines).1, (Prod.ext_iff.1 hlines).2, hcount⟩
    · obtain ⟨hlines, hcount⟩ := asleepDiscard_leaves (l := l) hp hd2 s 5 (hostEpoch f) (s.ctx (hostPort f) (hostDrop f)).epoch
      rw [heq, if_pos ha, hroute, if_neg (by omega), if_neg (not_not_intro he), if_pos h4]
      exact ⟨(Prod.ext_iff.1 hlines).1, (Prod.ext_iff.1 hlines).2, hcount⟩
    · obtain ⟨hlines, hcount⟩ := oversizeDiscard_leaves (l := l) hp hd2 s 1 (hostBody f).length
      rw [heq, if_pos ha, hroute, if_neg (by omega), if_neg (not_not_intro he), if_neg (by omega), if_neg (by omega), if_pos hmax]
      exact ⟨(Prod.ext_iff.1 hlines).1, (Prod.ext_iff.1 hlines).2, hcount⟩
    · obtain ⟨hlines, hcount⟩ := queueHost_overflow (l := l) hp hd2 s (e := hostEpoch f) hfree
      rw [heq, if_pos ha, hroute, if_neg (by omega), if_neg (not_not_intro he), if_neg (by omega), if_neg (by omega), if_neg (by omega)]
      exact ⟨(Prod.ext_iff.1 hlines).1, (Prod.ext_iff.1 hlines).2, hcount⟩
  case trunk =>
    have heq := trunkFrame_joins h5 hstart hend hbad h0 hp h2 hd ha he
    refine ⟨_, run_to (f := hostFrame l f) hs heq ?_, queueHost_joins hroom⟩
    exact ((routeBlind_of_fields (g := State.faults) (fun _ _ _ _ _ _ _ => rfl) l _ _).queueHost _ _ _).trans
      (State.framed_keeps (fun _ _ => rfl) s l)
  case start =>
    refine run_counted (g := hostFrame l f) hs ?_
    unfold hostFrame
    rw [if_neg (by rw [h5]; decide), h]
    rfl
  case stop =>
    refine run_counted (g := hostFrame l f) hs ?_
    unfold hostFrame
    rw [if_neg (by rw [h5]; decide), h1, h2]
    rfl
  case badFrame =>
    have heq := hostFrame_bad h5 h1 h2 h3
    have hplain : PlainCount (linkCode l Code.unroutable) 0 :=
      .of_link (fun m => by cases m <;> decide) (by decide) (by decide) (fun m => by cases m <;> decide) l
    have hkeep : ∀ {β : Type} {g : State → β}, BesidesMessages g → (∀ t : State, g (t.bump (linkCode l Code.unroutable) 0) = g t) →
        g (discardHost l (hostPort f) (hostDrop f) 2 (hostLength f) (s.framed l)) = g (s.framed l) :=
      fun hm hc => (discardStatus_keeps hm ..).trans (hc _)
    have hfields : ∀ {β : Type} {g : State → β}, (∀ (t : State) r o, g { t with regs := r, oxl := o } = g t) →
        g (discardHost l (hostPort f) (hostDrop f) 2 (hostLength f) (s.framed l)) = g s :=
      fun hg => (hkeep (besidesMessages_of_fields hg) (fun t => State.bumpBy_keeps (fun t r => hg t r t.oxl) t _ _ _)).trans
        (State.framed_keeps (fun t r => hg t r t.oxl) s l)
    have hframes : RouteBlind l 0 0 (fun t => t.reg (linkCode l Code.framesIn) 0) := routeBlind_frames (by decide) (by decide) l l
    refine ⟨_, run_to (f := frameError l (.frame f)) hs heq (hfields fun _ _ _ => rfl), hfields fun _ _ _ => rfl, hfields fun _ _ _ => rfl,
      counted_reg hplain s l (discardStatus_keeps hplain.messages ..), ?_⟩
    refine (hkeep hframes.toBesidesMessages (hframes.count (linkCode l Code.unroutable, 0) (by simp [discardCounts]))).trans ?_
    exact State.reg_bump_same s _ 0
  case block => exact run_counted (g := frameError l .badBlock) hs (if_neg (not_not_intro h5))
  case sync => exact run_counted (g := frameError l .badSync) hs (if_neg (not_not_intro h5))
  case prbs =>
    have heq : frameTransmit l s = prbsTransmit l s := if_pos htx
    refine ⟨_, run_to (f := frameTransmit l) hs heq (prbsTransmit_keeps (g := State.faults) (fun _ _ => rfl) l s), ?_, prbsTransmit_frame l s, ?_⟩
    · rw [prbsTransmit, State.link_modLink]
    · rw [prbsTransmit, State.link_modLink_other]
  case flow => exact run_to (f := flowIn l b) hs (if_pos ⟨h5, hb0, hb1⟩) (State.modLink_faults ..)
  case idle =>
    obtain ⟨hkeep, hgroups, hprogress, hsent, hstatus, hother⟩ := idleSent_leaves (l := l) (s := s) rfl
    exact ⟨_, run_to (f := frameTransmit l) hs (frameTransmit_idle htx h) (hkeep fun _ _ => rfl), hkeep fun _ _ => rfl, hgroups, hprogress,
      hsent, hstatus, hother⟩

end Sys2Proof.Proofs

/-! PROOFS. Trunks in their data phase: markers, acknowledgements, mode changes and their loss (R168, R174, R178, R179, R181). -/

namespace Sys2Proof.Machine

/-! ## Commands of a port -/

theorem run_atPort {f : State → State} {p : Nat} {s t : State} (hs : s.Ready) (hp : p < 144) (h : f s = t)
    (hf : t.faults = s.faults) : run (atPort p f) s = .next t :=
  run_to (f := atPort p f) hs ((if_pos hp).trans h) hf

/-- What a change of trunk states alone leaves of a port's role. -/
theorem trunkHead_of_same {s t : State} {p : Nat} (hm : (t.port p).mode = (s.port p).mode)
    (hr : t.regN Code.trunkRole p = s.regN Code.trunkRole p) : t.trunkHead p = s.trunkHead p := by
  rw [State.trunkHead, State.trunkHead, State.isTrunk, State.isTrunk, hm, hr]

theorem port_modTrunk_ne {p j : Nat} (h : j ≠ p) (s : State) (f : TrunkSt → TrunkSt) : (s.modTrunk p f).port j = s.port j :=
  State.port_modPort_ne _ _ h

theorem port_modTrunk_mode (s : State) (p j : Nat) (f : TrunkSt → TrunkSt) : ((s.modTrunk p f).port j).mode = (s.port j).mode := by
  by_cases h : j = p
  · subst h; rw [State.port_modTrunk]
  · rw [port_modTrunk_ne h]

theorem isTimeSource_modTrunk (s : State) (p : Nat) (f : TrunkSt → TrunkSt) :
    (s.modTrunk p f).isTimeSource p = s.isTimeSource p := by
  rw [State.isTimeSource, State.isTimeSource, trunkHead_of_same (s := s) (port_modTrunk_mode s p p f) rfl]
  rfl

/-! ## Markers -/

/-- The time base with a marker's hops, grade and epoch (R76, R114, R174). -/
def State.epochMarked (s : State) (m : List Byte) : State :=
  let now := s.cycleStartOf s.time.cycles
  let delta : Int := ((beVal ((m.drop 12).take 8) : Nat) : Int) - (now : Int)
  let s1 := { s with time := { s.time with
    hops := min 255 ((atOr m 4 0).toNat + 1), trunkGrade := (atOr m 3 0).toNat % 4, trunkTick := true,
    qualifiedAt := if s.time.trunkTick then s.time.qualifiedAt else s.time.tick } }
  let ahead := (beVal ((m.drop 28).take 4) + 2 ^ 32 - beVal ((m.drop 8).take 4)) % 2 ^ 32
  if (atOr m 3 0).toNat.testBit 2 && decide (1 ≤ ahead) && decide (ahead < 2 ^ 31) then
    { s1 with time := { s1.time with epoch := some (beVal ((m.drop 32).take 8), now + ahead * s.cycleTicks),
                                     adopting := true, announced := s.time.announced && s.time.epoch.isSome } }
  else if s1.time.epoch = none ∧ (delta ≠ 0 ∨ s1.aon.epochWritten = false) then
    { s1 with time := { s1.time with epoch := some (((s1.epochDatum : Int) + delta).toNat, s1.epochDatum),
                                     adopting := true, announced := false } }
  else s1

/-- The time base steered, or slewed, by a port's offset (R70, R174). -/
def State.steered (s : State) (p : Nat) : State :=
  let e : Int := (s.port p).trunk.offset
  let s3 : State := { s with time := { s.time with steer := -(100 * e.tmod 256) } }
  if s3.time.slew = 0 ∧ 256 ≤ e.natAbs then
    State.bump { s3 with time := { s3.time with slew := -(e.tdiv 256), quietSlew := false } } Code.slewEvents 0
  else s3

theorem takeMarker_eq (p : Nat) (m : List Byte) (s : State) : takeMarker p m s = refreshGrade ((s.epochMarked m).steered p) := rfl

theorem State.epochMarked_eq (s : State) (m : List Byte) : ∃ x : TimeSt, s.epochMarked m = { s with time := x } ∧
    x.hops = min 255 ((m[4]?.getD 0).toNat + 1) ∧ x.trunkGrade = (m[3]?.getD 0).toNat % 4 ∧ x.time64 = s.time.time64 := by
  unfold State.epochMarked
  dsimp only
  split
  · exact ⟨_, rfl, rfl, rfl, rfl⟩
  · split <;> exact ⟨_, rfl, rfl, rfl, rfl⟩

theorem State.steered_eq (s : State) (p : Nat) : ∃ x : TimeSt, ∃ r, s.steered p = { s with regs := r, time := x } ∧
    x.hops = s.time.hops ∧ x.trunkGrade = s.time.trunkGrade ∧ x.time64 = s.time.time64 := by
  unfold State.steered
  dsimp only
  split <;> exact ⟨_, _, rfl, rfl, rfl, rfl⟩

/-- What looks at neither counters nor time base, and is besides a report, stands at a marker. -/
theorem takeMarker_keeps {β : Type} {g : State → β} (hr : BesidesReport g)
    (hg : ∀ (t : State) r x, g { t with regs := r, time := x } = g t) (p : Nat) (m : List Byte) (s : State) :
    g (takeMarker p m s) = g s := by
  obtain ⟨x, hx, -⟩ := s.epochMarked_eq m
  obtain ⟨y, r, hy, -⟩ := (s.epochMarked m).steered_eq p
  rw [takeMarker_eq, refreshGrade_keeps hr (fun t x => hg t t.regs x), hy, hg, hx]
  exact hg s s.regs x

/-- The marker's hops and grade come into force, and TIME64 stands (R76, R181). -/
theorem takeMarker_time (p : Nat) (m : List Byte) (s : State) :
    (takeMarker p m s).time.hops = min 255 ((m[4]?.getD 0).toNat + 1) ∧
      (takeMarker p m s).time.trunkGrade = (m[3]?.getD 0).toNat % 4 ∧ (takeMarker p m s).time.time64 = s.time.time64 := by
  obtain ⟨x, hx, hx1, hx2, hx3⟩ := s.epochMarked_eq m
  obtain ⟨y, r, hy, hy1, hy2, hy3⟩ := (s.epochMarked m).steered_eq p
  rw [takeMarker_eq, refreshGrade_time, State.regraded_field (g := TimeSt.hops) (fun _ => rfl),
    State.regraded_field (g := TimeSt.trunkGrade) (fun _ => rfl), State.regraded_time64, hy]
  rw [hx] at hy1 hy2 hy3
  exact ⟨hy1.trans hx1, hy2.trans hx2, hy3.trans hx3⟩

/-- The markers that a trunk keeps behind one with an arrival offset (R174). -/
def TrunkSt.marked (x : TrunkSt) (aH arrival : Int) : List (Int × Int) := ((aH, arrival) :: x.markers).take 16

/-- A partner's trunk behind a marker with an arrival offset (R174, R181). -/
def State.markedTrunk (s : State) (p : Nat) (m : List Byte) (aH arrival : Int) (x : TrunkSt) : TrunkSt :=
  { x with
    farSnr := beVal ((m.drop 24).take 2), markerSeen := true, markers := x.marked aH arrival,
    numbering := untwos 32 (beVal ((m.drop 8).take 4) + 2 ^ 32 - s.cycleNow), headEpoch := s.headAnnounces m,
    delay := (roundDiv (sumInt ((x.marked aH arrival).map (·.1)) + sumInt ((x.marked aH arrival).map (·.2)))
      (2 * (x.marked aH arrival).length)).toNat,
    offset := roundDiv (sumInt ((x.marked aH arrival).map (·.1)) - sumInt ((x.marked aH arrival).map (·.2)))
      (2 * (x.marked aH arrival).length) }

section
variable {p : Nat} {m : List Byte} {arrival : Int} {s : State} (hon : s.trunkOn p = true) (h3 : (s.port p).trunk.state = 3)
  (hm : m.length = 40)
include hon h3

theorem trunkTime_head (hm : m.length = 40) (hh : s.trunkHead p = true) : trunkTime p m arrival true s =
    s.modTrunk p (fun x => { x with farSnr := beVal ((m.drop 24).take 2) }) := by
  simp [trunkTime, hon, h3, hm, hh]

theorem trunkTime_head_bad (hh : s.trunkHead p = true) : trunkTime p m arrival false s = s := by
  simp [trunkTime, hon, h3, hh]

theorem trunkTime_bad (hh : s.trunkHead p = false) : trunkTime p m arrival false s =
    (s.bump Code.markersMissed p).modTrunk p (fun x => { x with markerSeen := true }) := by
  simp [trunkTime, hon, h3, hh]

theorem trunkTime_marked (hm : m.length = 40) (hh : s.trunkHead p = false) {a : Int} (ha : arrivalOf ((m.drop 20).take 4) = some a) :
    trunkTime p m arrival true s =
      if s.isTimeSource p then takeMarker p m (s.modTrunk p (s.markedTrunk p m a arrival))
      else s.modTrunk p (s.markedTrunk p m a arrival) := by
  have hstep : trunkTime p m arrival true s =
      if (s.modTrunk p (s.markedTrunk p m a arrival)).isTimeSource p then takeMarker p m (s.modTrunk p (s.markedTrunk p m a arrival))
      else s.modTrunk p (s.markedTrunk p m a arrival) := by
    unfold trunkTime
    rw [hon, h3, hh, hm, ha]
    rfl
  rw [hstep, isTimeSource_modTrunk]

end

end Sys2Proof.Machine

/-! PROOFS. What the loss of a trunk leaves, and the statement about the data phase (R168, R174, R178–R181). -/

namespace Sys2Proof.Machine

/-! ## The runs and the traffic of a lost trunk -/

/-- What does not see the counters of runs, a port's runs and its moves. -/
structure RunBlind {β : Type} (p : Nat) (g : State → β) : Prop where
  trav : ∀ (t : State) f, g (t.modTrav p f) = g t
  move : ∀ (t : State) q (f : Option Move → Option Move), g (t.modPort q (fun x => { x with move := f x.move })) = g t
  count : ∀ (t : State) c v, 0x500000 ≤ c → c < 0x600000 → g (t.setReg c p v) = g t

/-- What follows the report of a trunk's loss: its run and calibration end, and its traffic moves (R182, R224, R232). -/
def lossEnds (p : Nat) (s : State) : State :=
  let u := abandonRun p s
  lossMove p 2 (if u.trunkHead p then u else calStops p u)

section
variable {β : Type} {p : Nat} {g : State → β} (h : RunBlind p g)
include h

theorem RunBlind.abandonRun (t : State) : g (abandonRun p t) = g t := by
  unfold Machine.abandonRun
  split
  · rfl
  · exact (h.count _ Code.runsAbandoned _ (by decide) (by decide)).trans (h.trav t _)

theorem RunBlind.calStops (t : State) : g (calStops p t) = g t := by
  unfold Machine.calStops
  split
  · exact (h.count _ Code.calFails _ (by decide) (by decide)).trans
      ((h.count _ Code.calResult _ (by decide) (by decide)).trans (h.trav t _))
  · rfl

theorem RunBlind.lossMove (q r : Nat) (t : State) : g (lossMove q r t) = g t := by
  have hcut : g (t.modPort q (fun x => { x with move := x.move.filter (fun v => !v.trunk) })) = g t :=
    h.move t q (fun m => m.filter (fun v => !v.trunk))
  unfold Machine.lossMove
  dsimp only
  split
  · unfold moveTraffic
    split
    · exact (h.move _ _ (fun _ => some _)).trans hcut
    · exact hcut
  · exact hcut

theorem RunBlind.lossEnds (t : State) : g (lossEnds p t) = g t := by
  unfold Machine.lossEnds
  dsimp only
  rw [h.lossMove]
  split
  · exact h.abandonRun t
  · exact (h.calStops _).trans (h.abandonRun t)

end

theorem RunBlind.of_fields {β : Type} {g : State → β} (p : Nat) (hg : ∀ (t : State) r x, g { t with regs := r, ports := x } = g t) :
    RunBlind p g where
  trav t _ := hg t t.regs _
  move t _ _ := hg t t.regs _
  count t _ _ _ _ := hg t _ t.ports

theorem runBlind_trunk (p j : Nat) : RunBlind p (fun t => (t.port j).trunk) where
  trav t f := by
    by_cases h : j = p
    · subst h; simp only [State.port_modTrav]
    · exact congrArg PortSt.trunk (State.port_modPort_ne _ _ h)
  move t q f := by
    by_cases h : j = q
    · subst h; simp only [State.port_modPort]
    · exact congrArg PortSt.trunk (State.port_modPort_ne _ _ h)
  count _ _ _ _ _ := rfl

theorem runBlind_regWritten {c p : Nat} (hc : c < 0x500000) (hp : p < 2 ^ 24) : RunBlind p (fun t => t.regWritten c p) where
  trav _ _ := rfl
  move _ _ _ := rfl
  count t d v hd _ := State.regWritten_setReg_ne t v (objKey_ne (by omega) hp hp)

/-! ## A trunk is lost -/

/-- A port's counters of the loss of its trunk, and the mode of a change that the loss voids (R178, R180). -/
def State.trunkCounted (s : State) (p : Nat) : State :=
  ((voidChange p s).bump Code.trunkLosses p).bumpBy Code.trunkFramesDropped p (s.port p).trunk.awaiting

/-- The occurrence of a trunk's loss (R403 source 23). -/
def trunkOcc (p reason : Nat) : Occ := { source := 23, key := [p], detail := [(1, p), (1, reason)] }

/-- The trunk of a port that has lost it (R178). -/
def trunkCleared (p : Nat) (s : State) : State :=
  (trunkIdle p s).modTrunk p (fun x => { x with
    previous := [], current := [], again := [], marks := [], down := some 2, silence := 18 })

theorem trunkLost_eq (p reason : Nat) (s : State) : trunkLost p reason s =
    lossEnds p (sourceLost p (trunkStatus p 2 (trunkCleared p (notice (trunkOcc p reason) (s.trunkCounted p))))) := rfl

theorem voidChange_eq (p : Nat) (s : State) : voidChange p s = s ∨
    ∃ mode v, voidChange p s = (s.modTrunk p (fun x => { x with mode := mode, applied := none })).setReg Code.levelDowns p v := by
  unfold voidChange
  split
  · split
    · exact .inr ⟨_, _, rfl⟩
    · exact .inl rfl
  · exact .inl rfl

theorem voidChange_now {p mode downs : Nat} {s : State} (h : (s.port p).trunk.applied = some (s.time.cycles, mode, downs)) :
    voidChange p s = (s.modTrunk p (fun x => { x with mode := mode, applied := none })).setReg Code.levelDowns p
      (min (s.regN Code.levelDowns p) downs : Nat) := by
  unfold voidChange
  rw [h]
  exact if_pos rfl

theorem voidChange_keeps {β : Type} {g : State → β} (hg : ∀ (t : State) r x, g { t with regs := r, ports := x } = g t)
    (p : Nat) (s : State) : g (voidChange p s) = g s := by
  rcases voidChange_eq p s with h | ⟨mode, v, h⟩
  · rw [h]
  · rw [h]; exact hg s _ _

theorem voidChange_regWritten {p c : Nat} (hc : c ≠ Code.levelDowns) (hp : p < 2 ^ 24) (s : State) :
    (voidChange p s).regWritten c p = s.regWritten c p := by
  rcases voidChange_eq p s with h | ⟨mode, v, h⟩
  · rw [h]
  · rw [h]; exact State.regWritten_setReg_ne _ _ (objKey_ne hc hp hp)

theorem voidChange_reg {p c : Nat} (hr : c ≠ Code.rollCall) (hc : c ≠ Code.levelDowns) (hp : p < 2 ^ 24) (s : State) :
    (voidChange p s).reg c p = s.reg c p := by
  rw [State.reg, State.reg, voidChange_regWritten hc hp, if_neg hr, if_neg hr, voidChange_keeps (g := State.time) (fun _ _ _ => rfl)]

theorem voidChange_mode (p : Nat) (s : State) : ((voidChange p s).port p).mode = (s.port p).mode := by
  rcases voidChange_eq p s with h | ⟨mode, v, h⟩
  · rw [h]
  · rw [h]; exact port_modTrunk_mode s p p (fun x => { x with mode := mode, applied := none })

theorem trunkCounted_keeps {β : Type} {g : State → β} (hg : ∀ (t : State) r x, g { t with regs := r, ports := x } = g t)
    (p : Nat) (s : State) : g (s.trunkCounted p) = g s :=
  (State.bumpBy_keeps (fun t r => hg t r t.ports) _ _ _ _).trans
    ((State.bumpBy_keeps (fun t r => hg t r t.ports) _ _ _ 1).trans (voidChange_keeps hg p s))

theorem trunkCounted_port (p : Nat) (s : State) : (s.trunkCounted p).port p = (voidChange p s).port p := by
  simp only [State.port, State.trunkCounted, State.bumpBy_ports, State.bump_ports]

theorem trunkCounted_head {p : Nat} (hp : p < 2 ^ 24) (s : State) : (s.trunkCounted p).trunkHead p = s.trunkHead p := by
  refine trunkHead_of_same (by rw [trunkCounted_port, voidChange_mode]) (congrArg Int.toNat ?_)
  rw [State.trunkCounted, State.reg_bumpBy_ne (by decide) (objKey_ne (by decide) hp hp),
    State.bump, State.reg_bumpBy_ne (by decide) (objKey_ne (by decide) hp hp), voidChange_reg (by decide) (by decide) hp]

theorem trunkCleared_trunk (p : Nat) (s : State) : ((trunkCleared p s).port p).trunk = { (s.port p).trunk with
    state := if s.trunkHead p then 4 else 0, holdoff := if s.trunkHead p then s.holdoffTick p else (s.port p).trunk.holdoff,
    phaseQ := none, dataCycle := none, reply := none, flagged := false, change := none, missed := 0, barren := 0,
    low := 0, markers := [], pair := 0, extra := 0, previous := [], current := [], again := [], marks := [], down := some 2,
    silence := 18 } := by
  rw [trunkCleared, State.port_modTrunk, trunkIdle, State.port_modTrunk]

/-- What a trunk's loss leaves behind its counters: what sees neither its reports, its runs nor the time base. -/
theorem trunkLost_keeps {β : Type} {g : State → β} {p : Nat} (hr : BesidesReport g) (hb : RunBlind p g)
    (ht : ∀ (t : State) x, g { t with time := x } = g t) (hf : ∀ (t : State) x, g { t with faults := x } = g t) (reason : Nat) (s : State) :
    g (trunkLost p reason s) = g (trunkCleared p (notice (trunkOcc p reason) (s.trunkCounted p))) := by
  rw [trunkLost_eq, hb.lossEnds, sourceLost_keeps hr ht hf]
  exact sendStatus_keeps g hr.push hr.seq _ _ _ _ _ _ _

theorem trunkLost_trunk {p : Nat} (hp : p < 2 ^ 24) (reason : Nat) (s : State) : ((trunkLost p reason s).port p).trunk =
    { ((voidChange p s).port p).trunk with
      state := if s.trunkHead p then 4 else 0
      holdoff := if s.trunkHead p then (s.trunkCounted p).holdoffTick p else ((voidChange p s).port p).trunk.holdoff,
      phaseQ := none, dataCycle := none, reply := none, flagged := false, change := none, missed := 0, barren := 0,
      low := 0, markers := [], pair := 0, extra := 0, previous := [], current := [], again := [], marks := [], down := some 2,
      silence := 18 } := by
  rw [trunkLost_keeps (g := fun t => (t.port p).trunk) (.of_fields fun _ _ _ _ => rfl) (runBlind_trunk p p) (fun _ _ => rfl) (fun _ _ => rfl),
    trunkCleared_trunk]
  rw [show (notice (trunkOcc p reason) (s.trunkCounted p)).trunkHead p = s.trunkHead p from trunkCounted_head hp s,
    show (notice (trunkOcc p reason) (s.trunkCounted p)).port p = (voidChange p s).port p from trunkCounted_port p s]
  rfl

theorem trunkCleared_regWritten (p c i : Nat) (o : Occ) (s : State) :
    (trunkCleared p (notice o s)).regWritten c i = s.regWritten c i := rfl

theorem trunkCleared_ctxs (p : Nat) (o : Occ) (s : State) : (trunkCleared p (notice o s)).ctxs = s.ctxs := rfl

/-- The reports of a loss count in other objects than those of trunks. -/
theorem besidesReport_trunkReg {c p : Nat} (h1 : 0x300000 ≤ c) (h2 : c < 0x400000) (hp : p < 2 ^ 24) :
    BesidesReport (fun t => t.regWritten c p) where
  push x l t := by
    unfold pushStatus
    split
    · cases l <;> rfl
    · refine bumpBy_regWritten (objKey_ne ?_ hp (by decide)) _ _
      cases l <;> simp only [linkCode, Code.statusDrops] <;> omega
  seq _ _ := rfl
  ended _ := rfl
  counted t := bumpBy_regWritten (objKey_ne (by simp only [Code.holdoverEntries]; omega) hp (by decide)) _ _

theorem trunkLost_regWritten {c p : Nat} (h1 : 0x300000 ≤ c) (h2 : c < 0x400000) (hp : p < 2 ^ 24) (reason : Nat) (s : State) :
    (collect (trunkLost p reason s)).regWritten c p = (s.trunkCounted p).regWritten c p := by
  rw [collect_regWritten (by simp [collectorCounter, linkCode, Code.injections, Code.statusDrops]; omega) hp]
  exact (trunkLost_keeps (g := fun t => t.regWritten c p) (besidesReport_trunkReg h1 h2 hp) (runBlind_regWritten (by omega) hp)
    (fun _ _ => rfl) (fun _ _ => rfl) reason s).trans (trunkCleared_regWritten ..)

theorem trunkLost_raises (p reason : Nat) (s : State) :
    RaisesBeside 23 (notice (trunkOcc p reason) (s.trunkCounted p)) (trunkLost p reason s) := by
  have hends : ∀ t : State, RaisesBeside 23 t (lossEnds p t) := fun t =>
    .of_same ((RunBlind.of_fields p (g := fun t => t.faults.due) fun _ _ _ => rfl).lossEnds t)
      ((RunBlind.of_fields p (g := fun t => t.aon.faultCounts) fun _ _ _ => rfl).lossEnds t)
  have hstatus : ∀ t : State, RaisesBeside 23 t (trunkStatus p 2 t) := fun t => .of_same
    (sendStatus_keeps (fun t => t.faults.due) (fun x l u => by rw [pushStatus_faults]) (fun _ _ => rfl) _ _ _ _ _ _ _)
    (sendStatus_keeps (fun t => t.aon.faultCounts) (fun x l u => by
      unfold pushStatus
      split
      · cases l <;> rfl
      · rw [State.bump_aon]) (fun _ _ => rfl) _ _ _ _ _ _ _)
  rw [trunkLost_eq]
  exact RaisesBeside.trans (t := trunkCleared p (notice (trunkOcc p reason) (s.trunkCounted p))) (.of_same rfl rfl)
    ((hstatus _).trans ((sourceLost_raises (by decide) p _).trans (hends _)))

/-! ## The counters of a loss -/

theorem trunkCounted_losses {p : Nat} (hp : p < 2 ^ 24) (s : State) : (s.trunkCounted p).regWritten Code.trunkLosses p =
    some (min (((s.regN Code.trunkLosses p + 1 : Nat)) : Int) (2 ^ 32 - 1)) := by
  rw [State.trunkCounted, bumpBy_regWritten (objKey_ne (by decide) hp hp), regWritten_bump, State.regN, State.regN,
    voidChange_reg (by decide) (by decide) hp]

theorem trunkCounted_frames {p : Nat} (hp : p < 2 ^ 24) {s : State} (h : 0 < (s.port p).trunk.awaiting) :
    (s.trunkCounted p).regWritten Code.trunkFramesDropped p =
      some (min (((s.regN Code.trunkFramesDropped p + (s.port p).trunk.awaiting : Nat)) : Int) (2 ^ 32 - 1)) := by
  rw [State.trunkCounted, State.bumpBy, if_neg (Nat.ne_of_gt h), State.regWritten_setReg, State.regN,
    State.bump, State.reg_bumpBy_ne (by decide) (objKey_ne (by decide) hp hp), voidChange_reg (by decide) (by decide) hp]
  rfl

theorem trunkCounted_void {p mode downs : Nat} (hp : p < 2 ^ 24) {s : State}
    (h : (s.port p).trunk.applied = some (s.time.cycles, mode, downs)) :
    (s.trunkCounted p).regWritten Code.levelDowns p = some ((min (s.regN Code.levelDowns p) downs : Nat) : Int) := by
  rw [State.trunkCounted, bumpBy_regWritten (objKey_ne (by decide) hp hp), State.bump,
    bumpBy_regWritten (objKey_ne (by decide) hp hp), voidChange_now h, State.regWritten_setReg]

theorem voidChange_now_mode {p mode downs : Nat} {s : State} (h : (s.port p).trunk.applied = some (s.time.cycles, mode, downs)) :
    ((voidChange p s).port p).trunk.mode = mode := by
  rw [voidChange_now h]
  exact congrArg (fun x : PortSt => x.trunk.mode) (State.port_modTrunk s p (fun x => { x with mode := mode, applied := none }))

/-! ## Acknowledgements and changes of mode -/

theorem trunkAck_taken {p : Nat} {m : List Byte} {s : State} (hon : s.trunkOn p = true) (h3 : (s.port p).trunk.state = 3)
    (hm : m.length = 36) : trunkAck p m s =
      unmarked p ((s.port p).trunk.previous.filter (fun f => !(beVal (m.drop 4)).testBit f.seq))
        (s.modTrunk p (fun y => { y with previous := [] })) := by
  simp [trunkAck, hon, h3, hm]

theorem unmarked_port (p : Nat) (fs : List TrunkFrame) (s : State) : (unmarked p fs s).port p =
    { s.port p with trunk := { (s.port p).trunk with again := (s.port p).trunk.again ++ fs.filter (fun f => !f.rtx) } } := by
  simp only [unmarked, State.port, State.bumpBy_ports]
  exact State.port_modTrunk s p (fun y => { y with again := y.again ++ fs.filter (fun f => !f.rtx) })

theorem unmarked_port_ne {p j : Nat} (h : j ≠ p) (fs : List TrunkFrame) (s : State) : (unmarked p fs s).port j = s.port j := by
  simp only [unmarked, State.port, State.bumpBy_ports]
  exact port_modTrunk_ne h s _

theorem trunkMode_taken {p mode : Nat} {m : List Byte} {s : State} (hon : s.trunkOn p = true) (hh : s.trunkHead p = false)
    (h3 : (s.port p).trunk.state = 3) (hm : m.length = 8) (hmode : modeField (m[2]?.getD 0).toNat = some mode)
    (hf : s.headFuture p (beVal (m.drop 4)) = true) : trunkMode p m s =
      s.modTrunk p (fun x => { x with change := some (mode, s.countOfHead p (beVal (m.drop 4))) }) := by
  unfold trunkMode atOr
  rw [hmode]
  simp [hon, hh, h3, hm, hf]

theorem trunkMode_invalid {p : Nat} {m : List Byte} {s : State}
    (h : modeField (m[2]?.getD 0).toNat = none ∨ s.headFuture p (beVal (m.drop 4)) = false) : trunkMode p m s = s := by
  unfold trunkMode
  split
  · split
    · next hmode =>
      rcases h with h | h
      · exact absurd (hmode.symm.trans h) (by simp)
      · rw [h]; rfl
    · rfl
  · rfl

/-- A port whose trunk takes up its new mode (R179). -/
def State.trunkModeTaken (s : State) (p mode k : Nat) : State :=
  (s.modTrunk p (fun x => { x with
    mode := mode, change := none, low := 0, applied := some (k, x.mode, s.regN Code.levelDowns p) })).bump Code.levelDowns p

theorem trunkModeApply_due {p mode k : Nat} {s : State} (ht : s.isTrunk p = true) (hc : (s.port p).trunk.change = some (mode, k))
    (hk : k ≤ s.time.cycles + 1) : trunkModeApply p s = trunkStatus p 3 (s.trunkModeTaken p mode k) := by
  simp [trunkModeApply, hc, ht, State.due, hk, State.trunkModeTaken]

theorem trunkModeApply_early {p mode k : Nat} {s : State} (hc : (s.port p).trunk.change = some (mode, k))
    (hk : s.time.cycles + 1 < k) : trunkModeApply p s = s := by
  simp [trunkModeApply, hc, State.due, Nat.not_le.2 hk]

theorem trunkStatus_keeps {β : Type} {g : State → β} (hg : ∀ (t : State) r o, g { t with regs := r, oxl := o } = g t)
    (p event : Nat) (s : State) : g (trunkStatus p event s) = g s :=
  sendStatus_keeps g (fun x l t => by
    unfold pushStatus
    split
    · cases l
      · exact hg t t.regs _
      · exact hg t t.regs _
    · exact hg t _ t.oxl) (fun t n => hg t t.regs _) _ _ _ _ _ _ _

theorem trunkModeTaken_port (s : State) (p mode k : Nat) : ((s.trunkModeTaken p mode k).port p).trunk = { (s.port p).trunk with
    mode := mode, change := none, low := 0, applied := some (k, (s.port p).trunk.mode, s.regN Code.levelDowns p) } :=
  congrArg PortSt.trunk (State.port_modTrunk s p (fun x => { x with
    mode := mode, change := none, low := 0, applied := some (k, x.mode, s.regN Code.levelDowns p) }))

theorem trunkModeTaken_port_ne {p j : Nat} (h : j ≠ p) (s : State) (mode k : Nat) : (s.trunkModeTaken p mode k).port j = s.port j := by
  simp only [State.trunkModeTaken, State.port, State.bump_ports]
  exact port_modTrunk_ne h s _

theorem trunkModeTaken_downs (s : State) (p mode k : Nat) : (s.trunkModeTaken p mode k).regWritten Code.levelDowns p =
    some (min (((s.regN Code.levelDowns p + 1 : Nat)) : Int) (2 ^ 32 - 1)) := regWritten_bump ..

theorem trunkStatus_regWritten {c p : Nat} (h1 : 0x300000 ≤ c) (h2 : c < 0x400000) (hp : p < 2 ^ 24) (event : Nat) (s : State) :
    (trunkStatus p event s).regWritten c p = s.regWritten c p :=
  have hr := besidesReport_trunkReg h1 h2 hp
  sendStatus_keeps (fun t => t.regWritten c p) hr.push hr.seq _ _ _ _ _ _ _

/-! ## The commands that lose a trunk -/

theorem trunkDown_lost {p : Nat} {m : List Byte} {s : State} (hon : s.trunkOn p = true) (h3 : (s.port p).trunk.state = 3)
    (hm : m.length = 4) : trunkDown p m s = trunkLost p (atOr m 2 0).toNat s := by
  simp [trunkDown, hon, h3, hm]

theorem trunkLoss_lost {p : Nat} {s : State} (hon : s.trunkOn p = true) (h3 : (s.port p).trunk.state = 3)
    (h : s.regN Code.lossCycles p ≤ (s.port p).trunk.missed ∨ 32 ≤ (s.port p).trunk.barren) : trunkLoss p s = trunkLost p 2 s := by
  unfold trunkLoss
  dsimp only
  rw [hon, h3]
  exact if_pos (by simpa using h)

theorem trunkLost_count {p : Nat} {s : State} (hs : s.Ready) (reason : Nat) :
    (collect (trunkLost p reason s)).faultCount 23 = min (s.faultCount 23 + 1) (2 ^ 32 - 1) :=
  collect_count_beside (o := trunkOcc p reason) hs.2.1 rfl
    (.of_same (trunkCounted_keeps (g := fun t => t.faults.due) (fun _ _ _ => rfl) p s)
      (trunkCounted_keeps (g := fun t => t.aon.faultCounts) (fun _ _ _ => rfl) p s)) (trunkLost_raises p reason s)

theorem trunkLost_ctxs (p reason : Nat) (s : State) : (collect (trunkLost p reason s)).ctxs = s.ctxs := by
  rw [collect_ctxs, trunkLost_keeps (g := State.ctxs) (.of_fields fun _ _ _ _ => rfl) (.of_fields p fun _ _ _ => rfl)
    (fun _ _ => rfl) (fun _ _ => rfl), trunkCleared_ctxs]
  exact trunkCounted_keeps (g := State.ctxs) (fun _ _ _ => rfl) p s

/-- The commands that lose a trunk in its data phase run its loss (R178). -/
theorem exec_trunkLost {i : Instr} {p : Nat} {m : List Byte} {s : State} (hs : s.Ready) (hp : p < 144) (hon : s.trunkOn p = true)
    (h3 : (s.port p).trunk.state = 3)
    (h : (i = .trunkDown p m ∧ m.length = 4) ∨ (i = .trunkLoss p ∧
      (s.regN Code.lossCycles p ≤ (s.port p).trunk.missed ∨ 32 ≤ (s.port p).trunk.barren))) :
    ∃ reason, exec i s = .next (collect (trunkLost p reason s)) := by
  have hrun : ∀ f : State → State, run (atPort p f) s = .next (collect (f s)) := fun f =>
    (run_running _ hs.1).trans (congrArg (fun t => Host.Outcome.next (collect t)) (if_pos hp))
  rcases h with ⟨rfl, hm⟩ | ⟨rfl, hl⟩
  · exact ⟨_, (hrun (trunkDown p m)).trans (by rw [trunkDown_lost hon h3 hm])⟩
  · exact ⟨2, (hrun (trunkLoss p)).trans (by rw [trunkLoss_lost hon h3 hl])⟩

end Sys2Proof.Machine

namespace Sys2Proof.Proofs

open Machine

/-- Settles O52: markers, acknowledgements, changes of mode and the loss of a trunk. -/
theorem trunksCarryData : Obligations.TrunksCarryData := by
  refine ⟨fun p m arrival s hs hp hon h3 hm => ⟨fun hh => ?head, fun hh => ?headBad, fun hh => ?bad, fun a hh ha => ?marker⟩,
    fun p m s hs hp hon h3 hm => ?ack, fun p m s hs hp hon hh h3 hm => ⟨fun mode hmode hf => ?mode, fun h => ?noMode⟩,
    fun p mode k s hs hp ht hc => ⟨fun hk => ?early, fun hk => ?apply⟩,
    fun i p m s hs hp hon h3 hi => ?lost, fun p s hs hp hon hh h3 hl hc hm => ?down⟩
  case head => exact run_atPort hs hp (trunkTime_head hon h3 hm hh) rfl
  case headBad => exact run_atPort hs hp (trunkTime_head_bad hon h3 hh) rfl
  case bad => exact run_atPort hs hp (trunkTime_bad hon h3 hh) (State.bump_faults s Code.markersMissed p)
  case marker =>
    have heq := trunkTime_marked (arrival := arrival) hon h3 hm hh ha
    have hport := State.port_modTrunk s p (s.markedTrunk p m a arrival)
    have hrun : ∀ t, trunkTime p m arrival true s = t → t.faults.toCollect = s.faults.toCollect →
        exec (.trunkTime p m arrival true) s = .next t := fun t ht hf => by
      have he : atPort p (trunkTime p m arrival true) s = t := (if_pos hp).trans ht
      exact (run_calm hs (by rw [he, hf])).trans (by rw [he])
    by_cases hsrc : s.isTimeSource p = true
    · rw [if_pos hsrc] at heq
      have hports : (takeMarker p m (s.modTrunk p (s.markedTrunk p m a arrival))).ports =
          (s.modTrunk p (s.markedTrunk p m a arrival)).ports :=
        takeMarker_keeps (g := State.ports) (.of_fields fun _ _ _ _ => rfl) (fun _ _ _ => rfl) ..
      have hport' : ∀ j, (takeMarker p m (s.modTrunk p (s.markedTrunk p m a arrival))).port j =
          (s.modTrunk p (s.markedTrunk p m a arrival)).port j := State.port_of_ports hports
      obtain ⟨hhops, hgrade, h64⟩ := takeMarker_time p m (s.modTrunk p (s.markedTrunk p m a arrival))
      refine ⟨_, hrun _ heq (takeMarker_keeps (g := fun t => t.faults.toCollect) besidesReport_toCollect (fun _ _ _ => rfl) ..),
        ?_, ?_, ?_, ?_, fun _ => ⟨hhops, hgrade⟩, fun h => absurd (h.symm.trans hsrc) (by decide), h64,
        fun j hj => (hport' j).trans (port_modTrunk_ne hj s _),
        takeMarker_keeps (g := State.ctxs) (.of_fields fun _ _ _ _ => rfl) (fun _ _ _ => rfl) ..⟩
      all_goals rw [hport', hport]; rfl
    · rw [if_neg hsrc] at heq
      refine ⟨_, hrun _ heq rfl, ?_, ?_, ?_, ?_, fun h => absurd h hsrc, fun _ => rfl, rfl, fun j hj => port_modTrunk_ne hj s _, rfl⟩
      all_goals rw [hport]; rfl
  case ack =>
    have hport := unmarked_port p ((s.port p).trunk.previous.filter (fun f => !(beVal (m.drop 4)).testBit f.seq))
      (s.modTrunk p (fun y => { y with previous := [] }))
    rw [State.port_modTrunk] at hport
    refine ⟨_, run_atPort hs hp (trunkAck_taken hon h3 hm) (State.bumpBy_faults ..), congrArg PortSt.trunk hport, fun hne => ?_,
      fun j hj => (unmarked_port_ne hj _ _).trans (port_modTrunk_ne hj s _), State.bumpBy_ctxs ..⟩
    have hn := List.length_pos_of_ne_nil hne
    rw [unmarked, State.bumpBy, if_neg (Nat.ne_of_gt hn), State.reg_setReg]
    rfl
  case mode => exact run_atPort hs hp (trunkMode_taken hon hh h3 hm hmode hf) rfl
  case noMode => exact run_atPort hs hp (trunkMode_invalid h) rfl
  case early => exact run_atPort hs hp (trunkModeApply_early hc hk) rfl
  case apply =>
    have hports := State.port_of_ports (trunkStatus_keeps (g := State.ports) (fun _ _ _ => rfl) p 3 (s.trunkModeTaken p mode k))
    refine ⟨_, run_atPort hs hp (trunkModeApply_due ht hc hk) (trunkStatus_keeps (g := State.faults) (fun _ _ _ => rfl) ..),
      (congrArg PortSt.trunk (hports p)).trans (trunkModeTaken_port s p mode k), State.reg_of_written ?_,
      fun j hj => (hports j).trans (trunkModeTaken_port_ne hj s mode k), trunkStatus_keeps (g := State.ctxs) (fun _ _ _ => rfl) ..⟩
    exact (trunkStatus_regWritten (by decide) (by decide) (by omega) 3 _).trans (trunkModeTaken_downs s p mode k)
  case lost =>
    have hp24 : p < 2 ^ 24 := by omega
    obtain ⟨reason, hrun⟩ := exec_trunkLost hs hp hon h3 hi
    have htrunk := (collect_port_trunk (trunkLost p reason s) p).trans (trunkLost_trunk hp24 reason s)
    have hreg : ∀ c v, 0x300000 ≤ c → c < 0x400000 → (s.trunkCounted p).regWritten c p = some v →
        (collect (trunkLost p reason s)).reg c p = v := fun c v h1 h2 h =>
      State.reg_of_written ((trunkLost_regWritten h1 h2 hp24 reason s).trans h)
    refine ⟨_, hrun, by rw [htrunk], by rw [htrunk], by rw [htrunk], by rw [htrunk]; rfl, fun mode downs h => ⟨?_, ?_⟩,
      hreg _ _ (by decide) (by decide) (trunkCounted_losses hp24 s),
      fun h => hreg _ _ (by decide) (by decide) (trunkCounted_frames hp24 h), ?_, ?_⟩
    · rw [htrunk]; exact voidChange_now_mode h
    · exact hreg Code.levelDowns _ (by decide) (by decide) (trunkCounted_void hp24 h)
    · exact trunkLost_count hs reason
    · exact trunkLost_ctxs p reason s
  case down =>
    refine run_atPort hs hp ?_ rfl
    simp [trunkLevelDown, hon, hh, h3, hl, hc, hm]

end Sys2Proof.Proofs

/-! PROOFS. The receiver of a branch port: context loads, detection and the ends of spans (R48, R129–R146, R151, R155). -/

namespace Sys2Proof.Machine

/-! ## Changes of a receiver -/

theorem State.port_modRx_ne {p j : Nat} (h : j ≠ p) (s : State) (f : RxSt → RxSt) : (s.modRx p f).port j = s.port j :=
  State.port_modPort_ne s (fun x => { x with rx := f x.rx }) h

theorem port_bump (s : State) (c i j : Nat) : (s.bump c i).port j = s.port j :=
  State.port_of_ports (State.bump_ports s c i) j

theorem startTiming_eq (p : Nat) (owner : Option Nat) (s : State) :
    ∃ a b, startTiming p owner s = s.modRx p (fun y => { y with phase := a, freq := b }) := by
  cases owner with
  | none => exact ⟨0, 0, rfl⟩
  | some d => exact ⟨_, _, rfl⟩

/-- What does not see the receivers of ports. -/
def RxBlind {β : Type} (g : State → β) : Prop := ∀ (t : State) p f, g (t.modRx p f) = g t

theorem rxBlind_of_ports {β : Type} {g : State → β} (h : ∀ (t : State) x, g { t with ports := x } = g t) : RxBlind g :=
  fun t _ _ => h t _

theorem RxBlind.startTiming {β : Type} {g : State → β} (h : RxBlind g) (p : Nat) (owner : Option Nat) (s : State) :
    g (startTiming p owner s) = g s := by
  obtain ⟨a, b, he⟩ := startTiming_eq p owner s
  rw [he, h]

theorem RxBlind.activate {β : Type} {g : State → β} (h : RxBlind g) (p d : Nat) (s : State) : g (activate p d s) = g s := by
  unfold Machine.activate leaveSlot
  exact (h.startTiming p _ _).trans ((h _ _ _).trans (h s p _))

/-- The receiver of a port whose loaded context becomes the active one (R141). -/
theorem activate_rx (p d : Nat) (s : State) : ((activate p d s).port p).rx.span = .slot d ∧ ((activate p d s).port p).rx.state = .armed ∧
    ((activate p d s).port p).rx.useStart = (s.port p).rx.loadedStart ∧ ((activate p d s).port p).rx.mode = (s.ctx p d).mode := by
  unfold activate
  obtain ⟨a, b, he⟩ := startTiming_eq p (if (s.port p).rx.loadedStart then none else some d) ((leaveSlot p s).modRx p (fun x =>
    { x with span := .slot d, state := .armed, loaded := none, useStart := x.loadedStart, mode := (s.ctx p d).mode,
             preamble := false, energySeen := false, eqReset := false, agcFrozen := false, returned := false,
             header := none, noRoom := false }))
  rw [he, State.port_modRx, State.port_modRx, leaveSlot, State.port_modRx]
  exact ⟨rfl, rfl, rfl, rfl⟩

theorem activate_port_ne {p j : Nat} (h : j ≠ p) (d : Nat) (s : State) : (activate p d s).port j = s.port j := by
  unfold activate
  obtain ⟨a, b, he⟩ := startTiming_eq p (if (s.port p).rx.loadedStart then none else some d) ((leaveSlot p s).modRx p (fun x =>
    { x with span := .slot d, state := .armed, loaded := none, useStart := x.loadedStart, mode := (s.ctx p d).mode,
             preamble := false, energySeen := false, eqReset := false, agcFrozen := false, returned := false,
             header := none, noRoom := false }))
  rw [he, State.port_modRx_ne h, State.port_modRx_ne h, leaveSlot, State.port_modRx_ne h]

/-! ## Context loads -/

/-- A drop's context as a load has read it (R144, R145). -/
def State.ctxRead (s : State) (p d : Nat) (bad start : Bool) : State :=
  s.modCtx p d (fun y =>
    { y with ctxFlags := (if y.ctxFlags.testBit 0 then 1 else 0) + (if bad then 2 else 0), snrFresh := y.snrFresh || start })

/-- Whether a context whose words can all be read has the receiver start from the start context (R140, R145). -/
def State.startsAnew (s : State) (p d : Nat) : Bool := !(s.ctx p d).ctxFlags.testBit 0 || (s.ctx p d).ctxFlags.testBit 2

theorem ctxRead_ctx (s : State) (p d : Nat) (bad start : Bool) : (s.ctxRead p d bad start).ctx p d = { s.ctx p d with
    ctxFlags := (if (s.ctx p d).ctxFlags.testBit 0 then 1 else 0) + (if bad then 2 else 0), snrFresh := (s.ctx p d).snrFresh || start } :=
  State.ctx_modCtx s p d (fun y =>
    { y with ctxFlags := (if y.ctxFlags.testBit 0 then 1 else 0) + (if bad then 2 else 0), snrFresh := y.snrFresh || start })

theorem ctxRead_ctx_ne {p d j e : Nat} (h : dropKey j e ≠ dropKey p d) (s : State) (bad start : Bool) :
    (s.ctxRead p d bad start).ctx j e = s.ctx j e :=
  State.ctx_modCtx_ne s (fun y =>
    { y with ctxFlags := (if y.ctxFlags.testBit 0 then 1 else 0) + (if bad then 2 else 0), snrFresh := y.snrFresh || start }) h

theorem rebuildCtx_none (p d : Nat) (s : State) : rebuildCtx p d [] s = s := by
  unfold rebuildCtx
  split <;> rfl

section
variable {p d : Nat} {s : State} (hgood : ∀ w : Nat, w < 64 → s.isBad 2 (ctxWord p d + w) = false)
include hgood

theorem badCtxWords_clean (errors : List (Nat × Ecc)) :
    s.badCtxWords p d errors = (List.range 64).filter (fun w => errors.contains (w, .double)) :=
  List.filter_congr fun w hw => by rw [hgood w (List.mem_range.1 hw), Bool.or_false]

omit hgood in
theorem readContext_clean {errors : List (Nat × Ecc)} (h : s.badCtxWords p d errors = []) : readContext p d errors s =
    (forAll (errors.filter (fun e => decide (e.1 < 64) && decide (e.2 = .single))) (fun _ t => sramCorrected 2 t)
      (s.ctxRead p d false (s.startsAnew p d)), s.startsAnew p d) := by
  unfold readContext
  dsimp only
  rw [h]
  exact Prod.ext (rebuildCtx_none ..) rfl

theorem readContext_good : readContext p d [] s = (s.ctxRead p d false (s.startsAnew p d), s.startsAnew p d) :=
  readContext_clean ((badCtxWords_clean hgood []).trans (List.filter_false _))

theorem readContext_single {w : Nat} (hw : w < 64) : readContext p d [(w, .single)] s =
    (sramCorrected 2 (s.ctxRead p d false (s.startsAnew p d)), s.startsAnew p d) := by
  rw [readContext_clean ((badCtxWords_clean hgood _).trans (List.filter_eq_nil_iff.2 fun v _ => by simp))]
  simp [hw, forAll]

theorem badCtxWords_double {w : Nat} (hw : w < 24) : s.badCtxWords p d [(w, .double)] = [w] := by
  rw [badCtxWords_clean hgood]
  revert w
  decide

/-- A word of the equaliser fields that cannot be read (R144). -/
theorem readContext_double {w : Nat} (hw : w < 24) : readContext p d [(w, .double)] s =
    (countDrop p d Code.ctxEccStarts Code.ctxEcc
      (sramUncorrectable 2 (ctxWord p d + w) accRead (masterEngine (s.engineFor p)) (s.ctxRead p d true true)), true) := by
  unfold readContext
  dsimp only
  rw [badCtxWords_double hgood hw]
  have h24 : [w].filter (fun w => decide (24 ≤ w)) = [] := by simp [hw]
  have hbad : [w].any (fun w => decide (w < 24)) = true := by simp [hw]
  have hsingle : [(w, Ecc.double)].filter (fun e => decide (e.1 < 64) && decide (e.2 = .single)) = [] := by simp
  rw [h24, hbad, hsingle]
  exact Prod.ext (rebuildCtx_none ..) rfl

end

/-- The load of a context where nothing is in reception makes it the active one (R141). -/
theorem contextLoad_activates {p d : Nat} {errors : List (Nat × Ecc)} {s : State} (hl : s.listening p = true)
    (hslot : (s.port p).map.hasSlot d s.cycleNow = true) (hr : inReception (s.port p).rx.state = false) {u : State} {b : Bool}
    (h : readContext p d errors s = (u, b)) :
    contextLoad p d errors s = activate p d (u.modRx p (fun y => { y with loaded := some d, loadedStart := b })) := by
  unfold contextLoad
  rw [hl, hslot, h, hr]
  rfl

/-- A context that is loaded and active. -/
def State.loadsCtx (u : State) (p d : Nat) (b : Bool) : State :=
  activate p d (u.modRx p (fun y => { y with loaded := some d, loadedStart := b }))

theorem RxBlind.loadsCtx {β : Type} {g : State → β} (h : RxBlind g) (u : State) (p d : Nat) (b : Bool) : g (u.loadsCtx p d b) = g u :=
  (h.activate p d _).trans (h u p _)

theorem loadsCtx_rx (u : State) (p d : Nat) (b : Bool) : ((u.loadsCtx p d b).port p).rx.span = .slot d ∧
    ((u.loadsCtx p d b).port p).rx.state = .armed ∧ ((u.loadsCtx p d b).port p).rx.useStart = b ∧
    ((u.loadsCtx p d b).port p).rx.mode = (u.ctx p d).mode := by
  obtain ⟨h1, h2, h3, h4⟩ := activate_rx p d (u.modRx p (fun y => { y with loaded := some d, loadedStart := b }))
  refine ⟨h1, h2, h3.trans ?_, h4⟩
  rw [State.port_modRx]

theorem loadsCtx_port_ne {p j : Nat} (h : j ≠ p) (u : State) (d : Nat) (b : Bool) : (u.loadsCtx p d b).port j = u.port j :=
  (activate_port_ne h d _).trans (State.port_modRx_ne h u _)

/-! ## Counts of a drop -/

theorem countDrop_keeps {β : Type} {g : State → β} (hg : ∀ (t : State) r, g { t with regs := r } = g t) (p d c e : Nat) (s : State) :
    g (countDrop p d c e s) = g s :=
  (State.bumpBy_keeps hg _ _ _ 1).trans (State.bumpBy_keeps hg s _ _ 1)

/-- The counters of a port lie below those of a drop. -/
theorem portKey_lt_dropKey {c e p n : Nat} (hc : c < 0x400000) (he : 0x400000 ≤ e) (hp : p < 2 ^ 24) : objKey c p ≠ objKey e n := by
  unfold objKey; omega

theorem countDrop_port {c e p d : Nat} (hc : c < 0x400000) (he : 0x400000 ≤ e) (hp : p < 2 ^ 24) (s : State) :
    (countDrop p d c e s).regWritten c p = some (min (((s.regN c p + 1 : Nat)) : Int) (2 ^ 32 - 1)) := by
  rw [countDrop, State.bump, bumpBy_regWritten (portKey_lt_dropKey hc he hp), regWritten_bump]

theorem countDrop_drop {c e p d : Nat} (hc : c < 0x400000) (he : 0x400000 ≤ e) (hp : p < 2 ^ 24) (hr : e ≠ Code.rollCall) (s : State) :
    (countDrop p d c e s).reg e (dropKey p d) = min (((s.regN e (dropKey p d) + 1 : Nat)) : Int) (2 ^ 32 - 1) := by
  rw [countDrop, State.reg_bump_same, State.regN_bump_ne hr (portKey_lt_dropKey hc he hp).symm]

end Sys2Proof.Machine

/-! PROOFS. The receiver of a branch port: the statement about its acquisition. -/

namespace Sys2Proof.Machine

/-! ## Windows -/

/-- A slot that still lasts, or the span between slots, is what the receiver stays in (R129). -/
theorem syncWindow_slot {p d : Nat} {s : State} (hspan : (s.port p).rx.span = .slot d) (ha : inReception (s.port p).rx.state = false)
    (hover : s.slotOver p d = false) (hw : s.cyclePos + (s.port p).latch.t + (s.port p).latch.c < s.cycleTicks) : syncWindow p s = s := by
  unfold syncWindow
  dsimp only
  rw [ha, if_neg (by decide), if_neg (by omega), if_neg (by omega), hspan]
  exact if_neg (by rw [hover]; decide)

theorem syncWindow_idle {p : Nat} {s : State} (hspan : (s.port p).rx.span = .idle) (ha : inReception (s.port p).rx.state = false)
    (hw : s.inUpRegion p = true) : syncWindow p s = s := by
  have hpos := of_decide_eq_true (Bool.and_eq_true_iff.1 hw).2
  unfold syncWindow
  dsimp only
  rw [ha, if_neg (by decide), if_neg (by omega), if_neg (by omega), hspan]

/-! ## Energy -/

section
variable {p d : Nat} {v0 v1 : List Int} {e0 e1 : Int} {s : State} (hl : s.listening p = true) (hspan : (s.port p).rx.span = .slot d)
  (ha : (s.port p).rx.state = .armed) (hover : s.slotOver p d = false)
  (hw : s.cyclePos + (s.port p).latch.t + (s.port p).latch.c < s.cycleTicks)
include hl hspan ha hover hw

/-- Two symbols over the threshold begin an acquisition (R132). -/
theorem energyDetect_loud (h : (overThreshold (s.port p) (energyOf v0) && overThreshold (s.port p) (energyOf v1)) = true) :
    energyDetect p v0 v1 s =
      if (s.port p).rx.recovery then
        s.modRx p (fun y => { y with state := .acquire, reference := energyValue (energyOf (v0 ++ v1)), returned := false })
      else (s.modRx p (fun y => { y with
        state := .acquire, reference := energyValue (energyOf (v0 ++ v1)), returned := false })).bump Code.energyDetects p := by
  unfold energyDetect
  dsimp only
  rw [if_pos hl, syncWindow_slot hspan (by rw [ha]; rfl) hover hw, if_pos ha, if_pos h]

/-- Other symbols track the noise floor, and two below the threshold end a recovery period (R131, R151). -/
theorem energyDetect_quiet (h : (overThreshold (s.port p) (energyOf v0) && overThreshold (s.port p) (energyOf v1)) = false) :
    energyDetect p v0 v1 s = endRecovery p (overThreshold (s.port p) (energyOf v0)) (overThreshold (s.port p) (energyOf v1))
      (s.modRx p (fun y => { y with noiseFloor := trackFloor (trackFloor y.noiseFloor (energyOf v0)) (energyOf v1) })) := by
  unfold energyDetect
  dsimp only
  rw [if_pos hl, syncWindow_slot hspan (by rw [ha]; rfl) hover hw, if_pos ha, if_neg (by rw [h]; decide)]

end

/-- The end of a recovery period, or nothing (R151). -/
theorem endRecovery_eq (p : Nat) (a b : Bool) (s : State) : endRecovery p a b s =
    if a || b then s else s.modRx p (fun y => { y with recovery := false }) := rfl

/-! ## Ends of acquisitions and of slots -/

theorem settleRx_none {p : Nat} {next : RxState} {s : State} (h : (s.port p).rx.loaded = none) : settleRx p next s =
    s.modRx p (fun y => { y with state := next, agcFrozen := false, returned := false, header := none, noRoom := false,
                                 eqReset := false }) := by
  unfold settleRx
  rw [h]

theorem countRx_slot {p d : Nat} {s : State} (h : (s.port p).rx.span = .slot d) (c e : Nat) :
    countRx p c e s = countDrop p d c e s := by
  unfold countRx
  rw [h]
  rfl

theorem countDrop_port_of (p d c e j : Nat) (s : State) : (countDrop p d c e s).port j = s.port j :=
  countDrop_keeps (g := fun t => t.port j) (fun _ _ => rfl) p d c e s

theorem regWritten_modRx (s : State) (p c i : Nat) (f : RxSt → RxSt) : (s.modRx p f).regWritten c i = s.regWritten c i := rfl

/-- An acquisition that ends in a slot is counted, and the receiver is armed again (R134, R135). -/
def State.rearmed (s : State) (p d c e : Nat) : State :=
  (countDrop p d c e s).modRx p (fun y => { y with
    state := .armed, agcFrozen := false, returned := false, header := none, noRoom := false, eqReset := false })

theorem rearmed_of {p d c e : Nat} {s : State} (hspan : (s.port p).rx.span = .slot d) (hn : (s.port p).rx.loaded = none) :
    settleRx p .armed (countRx p c e s) = s.rearmed p d c e := by
  rw [countRx_slot hspan, settleRx_none (by rw [countDrop_port_of]; exact hn)]
  rfl

theorem rearmed_rx (s : State) (p d c e : Nat) : ((s.rearmed p d c e).port p).rx.state = .armed ∧
    ((s.rearmed p d c e).port p).rx.span = (s.port p).rx.span := by
  rw [State.rearmed, State.port_modRx, countDrop_port_of]
  exact ⟨rfl, rfl⟩

theorem rearmed_keeps {β : Type} {g : State → β} (hg : ∀ (t : State) r x, g { t with regs := r, ports := x } = g t)
    (s : State) (p d c e : Nat) : g (s.rearmed p d c e) = g s :=
  (hg (countDrop p d c e s) (countDrop p d c e s).regs _).trans (countDrop_keeps (fun t r => hg t r t.ports) p d c e s)

theorem rearmed_count {p d c e : Nat} (hc : c < 0x400000) (he : 0x400000 ≤ e) (hp : p < 2 ^ 24) (s : State) :
    (s.rearmed p d c e).reg c p = min (((s.regN c p + 1 : Nat)) : Int) (2 ^ 32 - 1) := by
  refine State.reg_of_written ?_
  rw [State.rearmed, regWritten_modRx, countDrop_port hc he hp]

theorem noiseEvent_slot {p d : Nat} {s : State} (hl : s.listening p = true) (hspan : (s.port p).rx.span = .slot d)
    (ha : (s.port p).rx.state = .acquire) (hn : (s.port p).rx.loaded = none) (hr : (s.port p).rx.recovery = false) :
    noiseEvent p s = s.rearmed p d Code.portNoiseEvents Code.dropNoiseEvents := by
  unfold noiseEvent
  rw [hl, ha, hr]
  exact rearmed_of hspan hn

theorem falseDetection_slot {p d : Nat} {s : State} (hl : s.listening p = true) (hspan : (s.port p).rx.span = .slot d)
    (ha : (s.port p).rx.state = .search) (hn : (s.port p).rx.loaded = none) (hr : (s.port p).rx.recovery = false)
    (ht : (s.port p).rx.returned = false) : falseDetection p s = s.rearmed p d Code.portFalseDetects Code.dropFalseDetects := by
  unfold falseDetection
  rw [hl, ha, hr, ht]
  exact rearmed_of hspan hn

/-- An empty slot counts, and changes the receiver (R155). -/
def State.emptied (s : State) (p d : Nat) (f : RxSt → RxSt) : State :=
  countDrop p d Code.portEmptySlots Code.dropEmptySlots (s.modRx p f)

theorem countEmpty_emptied {p d : Nat} {f : RxSt → RxSt} {s : State} (h : s.slotOmitted p d = false) :
    countEmpty p d (s.modRx p f) = s.emptied p d f := by
  have hmap : ((s.modRx p f).port p).map = (s.port p).map := by rw [State.port_modRx]
  have ho : (s.modRx p f).slotOmitted p d = s.slotOmitted p d := by
    unfold State.slotOmitted
    rw [hmap]
    rfl
  exact if_neg (by rw [ho, h]; decide)

theorem emptySlot_empty {p d : Nat} {s : State} (hl : s.listening p = true) (hspan : (s.port p).rx.span = .slot d)
    (hp : (s.port p).rx.preamble = false) (he : (s.port p).rx.ending = none) (hr : inReception (s.port p).rx.state = false)
    (ho : s.slotOmitted p d = false) :
    emptySlot p s = s.emptied p d (fun y => { y with span := .idle, state := .idle, energySeen := false }) := by
  unfold emptySlot
  dsimp only
  rw [if_pos hl, he, hspan, hp, hr]
  exact countEmpty_emptied ho

theorem emptySlot_ended {p e : Nat} {s : State} (hl : s.listening p = true) (he : (s.port p).rx.ending = some e)
    (ho : s.slotOmitted p e = false) : emptySlot p s = s.emptied p e (fun y => { y with ending := none }) := by
  unfold emptySlot
  dsimp only
  rw [if_pos hl, he]
  exact countEmpty_emptied ho

theorem emptied_rx (s : State) (p d : Nat) (f : RxSt → RxSt) : ((s.emptied p d f).port p).rx = f (s.port p).rx := by
  rw [State.emptied, countDrop_port_of, State.port_modRx]

theorem emptied_keeps {β : Type} {g : State → β} (hg : ∀ (t : State) r x, g { t with regs := r, ports := x } = g t)
    (s : State) (p d : Nat) (f : RxSt → RxSt) : g (s.emptied p d f) = g s :=
  (countDrop_keeps (fun t r => hg t r t.ports) p d _ _ _).trans (hg s s.regs _)

theorem emptied_counts {p : Nat} (hp : p < 2 ^ 24) (s : State) (d : Nat) (f : RxSt → RxSt) :
    (s.emptied p d f).reg Code.portEmptySlots p = min (((s.regN Code.portEmptySlots p + 1 : Nat)) : Int) (2 ^ 32 - 1) ∧
      (s.emptied p d f).reg Code.dropEmptySlots (dropKey p d) =
        min (((s.regN Code.dropEmptySlots (dropKey p d) + 1 : Nat)) : Int) (2 ^ 32 - 1) :=
  ⟨State.reg_of_written (countDrop_port (by decide) (by decide) hp _), countDrop_drop (by decide) (by decide) hp (by decide) _⟩

/-! ## The write of EQ_RESET -/

def eqResetRow : Obj := ⟨0x403007, .bool, .wo, .drop, 0, 1, 0⟩

theorem findObj_eqReset : findObj Code.eqReset = some eqResetRow := by decide +kernel

section
variable {q : Path} {s : State} {p d : Nat} (hp : (s.path q).selPort = p) (hd : (s.path q).selDrop = d) (h64 : d < 64)
include hp hd h64

theorem hostWrite_eqReset (master : Nat) (t : State) :
    hostWrite q eqResetRow Code.eqReset (s.instOf q eqResetRow.scope) 1 master t = eqResetDrop p d t := by
  obtain ⟨h1, h2⟩ := selectedDrop hp hd h64
  exact (rfl : _ = eqResetDrop (s.instOf q .drop / 64) (s.instOf q .drop % 64) t).trans (by rw [h1, h2])

/-- The write of EQ_RESET outside a reception (R145). -/
theorem eqReset_written {tid value : Nat} {o : Obj} (hacc : s.Accepts q Code.eqReset value o 1)
    (hr : inReception (s.port p).rx.state = false) :
    ∃ t : State, exec (.eqReset q tid value) s = .next t ∧ t.Holds q (writeDone tid Code.eqReset) ∧
      t.ctx p d = { s.ctx p d with ctxFlags := (s.ctx p d).ctxFlags ||| 4 } ∧ t.ports = s.ports ∧
      (∀ j e : Nat, e < 64 → (j, e) ≠ (p, d) → t.ctx j e = s.ctx j e) := by
  obtain rfl := hacc.obj findObj_eqReset
  have heq : eqResetDrop p d (s.arrived q) = (s.arrived q).modCtx p d (fun x => { x with ctxFlags := x.ctxFlags ||| 4 }) :=
    if_neg (by rw [State.arrived_port, hr]; simp)
  obtain ⟨t, ht, hh, hports, hctxs⟩ := exec_accepted_lines (i := .eqReset q tid value) rfl hacc
    ((hostWrite_eqReset hp hd h64 _ _).trans heq) (fun hg => hg _ (s.arrived q).ports _)
  refine ⟨t, ht, hh, ?_, hports.trans (State.arrived_ports s q), fun j e he hne => ?_⟩
  · rw [State.ctx_of_ctxs hctxs, State.ctx_modCtx, State.arrived_ctx]
  · rw [State.ctx_of_ctxs hctxs, State.ctx_modCtx_ne _ _ (dropKey_ne h64 he hne), State.arrived_ctx]

end

end Sys2Proof.Machine

/-! PROOFS. The receiver of a branch port: its commands and the statement about them. -/

namespace Sys2Proof.Machine

theorem listening_branch {p : Nat} {s : State} (h : s.listening p = true) : s.isTrunk p = false := by
  simp only [State.listening, Bool.and_eq_true, State.isBranch, beq_iff_eq] at h
  obtain ⟨⟨⟨-, hm⟩, -⟩, -⟩ := h
  rw [State.isTrunk, hm]
  rfl

theorem listening_trunkOn {p : Nat} {s : State} (h : s.listening p = true) : s.trunkOn p = false := by
  rw [State.trunkOn, listening_branch h]
  simp

theorem overThreshold_some (x : PortSt) (e : Int) :
    overThreshold x (some e) = decide (x.rx.noiseFloor + 524288 * (x.latch.detThresh : Int) ≤ 65536 * e) := rfl

/-! ## The loads of the statement -/

section
variable {p d : Nat} {s : State} (hs : s.Ready) (hp : p < 144) (h1 : 1 ≤ d) (h2 : d ≤ 32) (hl : s.listening p = true)
  (hslot : (s.port p).map.hasSlot d s.cycleNow = true) (hr : inReception (s.port p).rx.state = false)
include hs hp h1 h2 hl hslot hr

theorem exec_contextLoad {errors : List (Nat × Ecc)} {u : State} {b : Bool} (h : readContext p d errors s = (u, b)) :
    exec (.contextLoad p d errors) s = .next (collect (u.loadsCtx p d b)) := by
  refine (run_running _ hs.1).trans (congrArg (fun t => Host.Outcome.next (collect t)) ((if_pos ⟨hp, h1, h2⟩).trans ?_))
  exact (if_neg (by rw [listening_branch hl]; decide)).trans (contextLoad_activates hl hslot hr h)

theorem exec_contextLoad_quiet {errors : List (Nat × Ecc)} {u : State} {b : Bool} (h : readContext p d errors s = (u, b))
    (hf : u.faults = s.faults) : exec (.contextLoad p d errors) s = .next (u.loadsCtx p d b) := by
  have hfaults : (u.loadsCtx p d b).faults = s.faults :=
    ((rxBlind_of_ports (g := State.faults) fun _ _ => rfl).loadsCtx u p d b).trans hf
  rw [exec_contextLoad hs hp h1 h2 hl hslot hr h]
  obtain ⟨-, hdue, hnext, hacked⟩ := hs
  rw [collect_nil (hfaults ▸ hdue) (hfaults ▸ hnext) (hfaults ▸ hacked)]

variable (hgood : ∀ w : Nat, w < 64 → s.isBad 2 (ctxWord p d + w) = false)
include hgood

/-- A load whose words are all good (R140, R141). -/
theorem load_good : ∃ t : State, exec (.contextLoad p d []) s = .next t ∧ (t.port p).rx.span = .slot d ∧
    (t.port p).rx.state = .armed ∧ (t.port p).rx.useStart = s.startsAnew p d ∧ (t.port p).rx.mode = (s.ctx p d).mode ∧
    (t.ctx p d).ctxFlags = (if (s.ctx p d).ctxFlags.testBit 0 then 1 else 0) ∧ (t.ctx p d).ffe = (s.ctx p d).ffe ∧ t.regs = s.regs ∧
    (∀ j e : Nat, e < 64 → (j, e) ≠ (p, d) → d < 64 → t.ctx j e = s.ctx j e) ∧ (∀ j : Nat, j ≠ p → t.port j = s.port j) := by
  obtain ⟨hspan, hstate, hstart, hmode⟩ := loadsCtx_rx (s.ctxRead p d false (s.startsAnew p d)) p d (s.startsAnew p d)
  have hctxs := (rxBlind_of_ports (g := State.ctxs) fun _ _ => rfl).loadsCtx (s.ctxRead p d false (s.startsAnew p d)) p d (s.startsAnew p d)
  refine ⟨_, exec_contextLoad_quiet hs hp h1 h2 hl hslot hr (readContext_good hgood) rfl, hspan, hstate, hstart, ?_, ?_, ?_,
    (rxBlind_of_ports (g := State.regs) fun _ _ => rfl).loadsCtx _ p d _, fun j e he hne hd => ?_, fun j hj => loadsCtx_port_ne hj _ d _⟩
  · rw [hmode, ctxRead_ctx]
  · rw [State.ctx_of_ctxs hctxs, ctxRead_ctx]
    rfl
  · rw [State.ctx_of_ctxs hctxs, ctxRead_ctx]
  · rw [State.ctx_of_ctxs hctxs, ctxRead_ctx_ne (dropKey_ne hd he hne)]

/-- A load that corrects a word (R48). -/
theorem load_corrected {w : Nat} (hw : w < 64) : ∃ t : State, exec (.contextLoad p d [(w, .single)]) s = .next t ∧
    (t.port p).rx.span = .slot d ∧
    Tab.get t.test.corrected 2 0 = min (Tab.get s.test.corrected 2 0 + 1) (2 ^ 32 - 1) ∧
    (t.port p).rx.useStart = s.startsAnew p d ∧ t.regs = s.regs ∧ t.faults = s.faults := by
  obtain ⟨hspan, -, hstart, -⟩ := loadsCtx_rx (sramCorrected 2 (s.ctxRead p d false (s.startsAnew p d))) p d (s.startsAnew p d)
  have htest := (rxBlind_of_ports (g := State.test) fun _ _ => rfl).loadsCtx
    (sramCorrected 2 (s.ctxRead p d false (s.startsAnew p d))) p d (s.startsAnew p d)
  refine ⟨_, exec_contextLoad_quiet hs hp h1 h2 hl hslot hr (readContext_single hgood hw) rfl, hspan, ?_, hstart,
    (rxBlind_of_ports (g := State.regs) fun _ _ => rfl).loadsCtx _ p d _, (rxBlind_of_ports (g := State.faults) fun _ _ => rfl).loadsCtx _ p d _⟩
  rw [htest]
  exact Tab.get_put_self ..

/-- The occurrence of a word that a load cannot correct (R403 source 4). -/
def loadOcc (p d w : Nat) (s : State) : Occ :=
  { source := 4, key := [2, ctxWord p d + w], detail := [(1, 2)], access := accRead, master := masterEngine (s.engineFor p),
    address := busAddress 2 (ctxWord p d + w) }

/-- A load that cannot read a word of the equaliser fields (R144). -/
theorem load_failed {w : Nat} (hw : w < 24) : ∃ t : State, exec (.contextLoad p d [(w, .double)]) s = .next t ∧
    (t.port p).rx.span = .slot d ∧ (t.port p).rx.useStart = true ∧
    (t.ctx p d).ctxFlags = (if (s.ctx p d).ctxFlags.testBit 0 then 1 else 0) + 2 ∧
    t.isBad 2 (ctxWord p d + w) = true ∧
    t.reg Code.ctxEccStarts p = min (((s.regN Code.ctxEccStarts p + 1 : Nat)) : Int) (2 ^ 32 - 1) ∧
    t.faultCount 4 = min (s.faultCount 4 + 1) (2 ^ 32 - 1) := by
  obtain ⟨m, hm⟩ : ∃ m, m = notice (loadOcc p d w s) (markBad 2 (ctxWord p d + w) (s.ctxRead p d true true)) := ⟨_, rfl⟩
  have hread : readContext p d [(w, .double)] s = (countDrop p d Code.ctxEccStarts Code.ctxEcc m, true) := by
    rw [hm]; exact readContext_double hgood hw
  have hkeep : ∀ {β : Type} {g : State → β}, (∀ (t : State) r x, g { t with regs := r, ports := x } = g t) →
      g ((countDrop p d Code.ctxEccStarts Code.ctxEcc m).loadsCtx p d true) = g m := fun hg =>
    ((rxBlind_of_ports fun t x => hg t t.regs x).loadsCtx _ p d true).trans (countDrop_keeps (fun t r => hg t r t.ports) p d _ _ m)
  obtain ⟨hspan, -, hstart, -⟩ := loadsCtx_rx (countDrop p d Code.ctxEccStarts Code.ctxEcc m) p d true
  refine ⟨_, exec_contextLoad hs hp h1 h2 hl hslot hr hread, by rw [collect_port_rx, hspan], by rw [collect_port_rx, hstart], ?_, ?_,
    State.reg_of_written ?_, ?_⟩
  · rw [collect_ctx, hkeep (g := fun t => t.ctx p d) (fun _ _ _ => rfl), hm]
    exact congrArg Ctx.ctxFlags (ctxRead_ctx s p d true true)
  · rw [collect_isBad, hkeep (g := fun t => t.isBad 2 (ctxWord p d + w)) (fun _ _ _ => rfl), hm]
    exact (State.isBad_iff _ _ _).mpr ((mem_addTo _ _ _).mpr (.inl rfl))
  · rw [collect_regWritten (by decide) (by omega),
      (rxBlind_of_ports (g := fun t => t.regWritten Code.ctxEccStarts p) fun _ _ => rfl).loadsCtx,
      countDrop_port (by decide) (by decide) (by omega), hm]
    rfl
  · refine collect_count_beside (o := loadOcc p d w s) (u := markBad 2 (ctxWord p d + w) (s.ctxRead p d true true)) hs.2.1 rfl
      (.of_same rfl rfl) (.of_same ?_ ?_)
    · rw [hkeep (g := fun t => t.faults.due) (fun _ _ _ => rfl), hm]
    · rw [hkeep (g := fun t => t.aon.faultCounts) (fun _ _ _ => rfl), hm]

end

/-! ## Preambles and sync words -/

theorem preambleDetect_slot {p d : Nat} {w : BitVec 16} {s : State} (hl : s.listening p = true) (hspan : (s.port p).rx.span = .slot d)
    (ha : (s.port p).rx.state = .acquire) (hw : preambleMatch w = true) : preambleDetect p w true s =
      (s.modRx p (fun y => { y with state := .search, returned := false, preamble := true })).modCtx p d
        (fun c => { c with preambleSeen := true }) := by
  unfold preambleDetect
  rw [hl, ha, hw, hspan]
  rfl

theorem preambleDetect_none {p : Nat} {w : BitVec 16} {agc : Bool} (h : agc = false ∨ preambleMatch w = false) (s : State) :
    preambleDetect p w agc s = s := by
  refine if_neg ?_
  rcases h with h | h
  · rw [h]; simp
  · rw [h]; simp

theorem run_branch {f g : State → State} {p : Nat} {s t : State} (hs : s.Ready) (hp : p < 144) (hl : s.listening p = true)
    (h : g s = t) (hf : t.faults = s.faults) : run (atPort p (fun u => if u.trunkOn p then f u else g u)) s = .next t :=
  run_atPort hs hp ((if_neg (by rw [listening_trunkOn hl]; decide)).trans h) hf

theorem outOfSlot_idle {p : Nat} {v0 v1 : List Int} {s : State} (hl : s.listening p = true) (hspan : (s.port p).rx.span = .idle)
    (hst : (s.port p).rx.state = .idle) (hu : s.inUpRegion p = true) : outOfSlot p v0 v1 s =
      if (!(s.port p).rx.energySeen && overThreshold (s.port p) (energyOf v0) && overThreshold (s.port p) (energyOf v1)) = true then
        (s.modRx p (fun y => { y with energySeen := true })).bump Code.outOfSlot p
      else s := by
  unfold outOfSlot
  dsimp only
  rw [if_pos hl, syncWindow_idle hspan (by rw [hst]; rfl) hu, hspan, hu]
  rfl

end Sys2Proof.Machine

/-! PROOFS. The statement about a receiver's acquisition. -/

namespace Sys2Proof.Proofs

open Machine

section
variable {p d : Nat} {v0 v1 : List Int} {e0 e1 : Int} {s : State} (hs : s.Ready) (hp : p < 144) (hl : s.listening p = true)
include hs hp hl

/-- The energies of two symbols in an armed slot (R131, R132). -/
theorem energyIsDetected (hspan : (s.port p).rx.span = .slot d) (ha : (s.port p).rx.state = .armed) (hover : s.slotOver p d = false)
    (hw : s.cyclePos + (s.port p).latch.t + (s.port p).latch.c < s.cycleTicks) (h0 : energyOf v0 = some e0)
    (h1 : energyOf v1 = some e1) :
    let loud := fun (e : Int) => (s.port p).rx.noiseFloor + 524288 * ((s.port p).latch.detThresh : Int) ≤ 65536 * e
    (loud e0 → loud e1 → ∃ t : State, exec (.energyDetect p v0 v1) s = .next t ∧ (t.port p).rx.state = .acquire ∧
      (t.port p).rx.reference = energyValue (energyOf (v0 ++ v1)) ∧ (t.port p).rx.noiseFloor = (s.port p).rx.noiseFloor ∧
      t.regs = (if (s.port p).rx.recovery then s.regs else (s.bump Code.energyDetects p).regs) ∧ t.ctxs = s.ctxs ∧
      (∀ j : Nat, j ≠ p → t.port j = s.port j)) ∧
    (¬ (loud e0 ∧ loud e1) → ∃ t : State, exec (.energyDetect p v0 v1) s = .next t ∧ t.regs = s.regs ∧ t.ctxs = s.ctxs ∧
      (t.port p).rx = { (s.port p).rx with
        noiseFloor := trackFloor (trackFloor (s.port p).rx.noiseFloor (some e0)) (some e1)
        recovery := (t.port p).rx.recovery } ∧
      ((t.port p).rx.recovery = true ↔ (s.port p).rx.recovery = true ∧ (loud e0 ∨ loud e1)) ∧
      (∀ j : Nat, j ≠ p → t.port j = s.port j)) := by
  intro loud
  have hover0 : overThreshold (s.port p) (energyOf v0) = decide (loud e0) := h0 ▸ overThreshold_some ..
  have hover1 : overThreshold (s.port p) (energyOf v1) = decide (loud e1) := h1 ▸ overThreshold_some ..
  refine ⟨fun hl0 hl1 => ?_, fun hn => ?_⟩
  · have heq := energyDetect_loud (v0 := v0) (v1 := v1) hl hspan ha hover hw
      (by rw [hover0, hover1, decide_eq_true hl0, decide_eq_true hl1]; rfl)
    by_cases hr : (s.port p).rx.recovery = true
    · rw [if_pos hr] at heq
      refine ⟨_, run_atPort hs hp heq rfl, ?_, ?_, ?_, (if_pos hr).symm, rfl, fun j hj => State.port_modRx_ne hj s _⟩
      all_goals rw [State.port_modRx]
    · rw [if_neg hr] at heq
      refine ⟨_, run_atPort hs hp heq rfl, ?_, ?_, ?_, (if_neg hr).symm, rfl,
        fun j hj => (port_bump _ _ _ j).trans (State.port_modRx_ne hj s _)⟩
      all_goals rw [port_bump, State.port_modRx]
  · have heq := energyDetect_quiet (v0 := v0) (v1 := v1) hl hspan ha hover hw
      (by rw [hover0, hover1, ← Bool.decide_and]; exact decide_eq_false hn)
    rw [endRecovery_eq, h0, h1] at heq
    rw [h0] at hover0
    rw [h1] at hover1
    by_cases ho : loud e0 ∨ loud e1
    · rw [if_pos (by rw [hover0, hover1, ← Bool.decide_or]; exact decide_eq_true ho)] at heq
      refine ⟨_, run_atPort hs hp heq rfl, rfl, rfl, ?_, ?_, fun j hj => State.port_modRx_ne hj s _⟩
      · rw [State.port_modRx]
      · rw [State.port_modRx]
        exact (and_iff_left ho).symm
    · rw [if_neg (by rw [hover0, hover1, ← Bool.decide_or, decide_eq_false ho]; decide)] at heq
      refine ⟨_, run_atPort hs hp heq rfl, rfl, rfl, ?_, ?_, fun j hj =>
        (State.port_modRx_ne hj _ _).trans (State.port_modRx_ne hj s _)⟩
      · rw [State.port_modRx, State.port_modRx]
      · rw [State.port_modRx]
        exact ⟨fun h => absurd h Bool.false_ne_true, fun h => absurd h.2 ho⟩

/-- Energy outside every slot is counted once in a span (R130). -/
theorem energyOutsideSlots (hspan : (s.port p).rx.span = .idle) (hst : (s.port p).rx.state = .idle) (hu : s.inUpRegion p = true) :
    let both := overThreshold (s.port p) (energyOf v0) = true ∧ overThreshold (s.port p) (energyOf v1) = true
    (both → (s.port p).rx.energySeen = false → exec (.outOfSlot p v0 v1) s = .next
      ((s.modRx p (fun y => { y with energySeen := true })).bump Code.outOfSlot p)) ∧
    (¬ both ∨ (s.port p).rx.energySeen = true → exec (.outOfSlot p v0 v1) s = .next s) := by
  intro both
  have heq := outOfSlot_idle (v0 := v0) (v1 := v1) hl hspan hst hu
  refine ⟨fun ⟨hb0, hb1⟩ hseen => ?_, fun h => ?_⟩
  · rw [if_pos (by rw [hseen, hb0, hb1]; rfl)] at heq
    exact run_atPort hs hp heq rfl
  · rw [if_neg] at heq
    · exact run_atPort hs hp heq rfl
    · rcases h with h | h
      · simp only [Bool.and_eq_true]
        exact fun hc => h ⟨hc.1.2, hc.2⟩
      · rw [h]; simp

end

/-- Settles O45: context loads, energies, preambles, noise, sync words and the ends of spans of a receiver. -/
theorem receiversAcquire : Obligations.ReceiversAcquire := by
  refine ⟨fun p d s hs hp h1 h2 hl hslot hr hgood => ⟨?good, fun w hw => ?failed, fun w hw => ?corrected⟩,
    fun p d v0 v1 e0 e1 s hs hp hl hspan ha hover hw h0 h1 => energyIsDetected hs hp hl hspan ha hover hw h0 h1,
    fun p d s hs hp hl hspan => ⟨fun ha => ⟨fun w hw => ?preamble, fun w agc h => ?noPreamble, fun hn hr => ?noise⟩,
      fun ha => ⟨fun hn hr ht => ?falseDetection, fun w vs => ⟨fun hw => ?sync, fun hw => ?noSync⟩⟩, fun hpre he hr ho => ?empty,
      fun e he h64 ho => ?ended⟩,
    fun p v0 v1 s hs hp hl => ⟨fun h0 h1 => ?quiet, fun h => ?notQuiet⟩,
    fun p v0 v1 s hs hp hl hspan hst hu => energyOutsideSlots hs hp hl hspan hst hu,
    fun p id s hs hp => ?kept, fun q tid value s o hacc h64 hr => ?reset⟩
  case good => exact load_good hs hp h1 h2 hl hslot hr hgood
  case failed => exact load_failed hs hp h1 h2 hl hslot hr hgood hw
  case corrected => exact load_corrected hs hp h1 h2 hl hslot hr hgood hw
  case preamble =>
    refine ⟨_, run_branch hs hp hl (preambleDetect_slot hl hspan ha hw) rfl, ?_, ?_, ?_, rfl⟩
    · exact congrArg (fun x : PortSt => x.rx.state)
        (State.port_modRx s p (fun y => { y with state := .search, returned := false, preamble := true }))
    · exact congrArg (fun x : PortSt => x.rx.preamble)
        (State.port_modRx s p (fun y => { y with state := .search, returned := false, preamble := true }))
    · exact State.ctx_modCtx _ p d (fun c => { c with preambleSeen := true })
  case noPreamble => exact run_branch hs hp hl (preambleDetect_none h s) rfl
  case noise =>
    obtain ⟨hst, hsp⟩ := rearmed_rx s p d Code.portNoiseEvents Code.dropNoiseEvents
    exact ⟨_, run_atPort hs hp (noiseEvent_slot hl hspan ha hn hr) (rearmed_keeps (g := State.faults) (fun _ _ _ => rfl) ..), hst,
      hsp.trans hspan, rearmed_count (by decide) (by decide) (by omega) s, rearmed_keeps (g := State.ctxs) (fun _ _ _ => rfl) ..⟩
  case falseDetection =>
    obtain ⟨hst, -⟩ := rearmed_rx s p d Code.portFalseDetects Code.dropFalseDetects
    exact ⟨_, run_atPort hs hp (falseDetection_slot hl hspan ha hn hr ht) (rearmed_keeps (g := State.faults) (fun _ _ _ => rfl) ..), hst,
      rearmed_count (by decide) (by decide) (by omega) s, rearmed_keeps (g := State.ctxs) (fun _ _ _ => rfl) ..⟩
  case sync =>
    refine run_branch hs hp hl (if_pos ?_) rfl
    rw [hl, ha, decide_eq_true hw]
    rfl
  case noSync =>
    refine run_branch hs hp hl (if_neg ?_) rfl
    rw [decide_eq_false (Nat.not_le.2 hw)]
    simp
  case empty =>
    have hrx := emptied_rx s p d (fun y => { y with span := .idle, state := .idle, energySeen := false })
    refine ⟨_, run_atPort hs hp (emptySlot_empty hl hspan hpre he hr ho) (emptied_keeps (g := State.faults) (fun _ _ _ => rfl) ..), ?_, ?_,
      (emptied_counts (by omega) s d _).1, emptied_keeps (g := State.ctxs) (fun _ _ _ => rfl) ..⟩
    all_goals rw [hrx]
  case ended =>
    have hrx := emptied_rx s p e (fun y => { y with ending := none })
    obtain ⟨hport, hdrop⟩ := emptied_counts (p := p) (by omega) s e (fun y => { y with ending := none })
    refine ⟨_, run_atPort hs hp (emptySlot_ended hl he ho) (emptied_keeps (g := State.faults) (fun _ _ _ => rfl) ..), ?_, ?_,
      hport, hdrop, emptied_keeps (g := State.ctxs) (fun _ _ _ => rfl) ..⟩
    · rw [hrx]
    · rw [hrx]; exact hspan
  case quiet =>
    refine run_atPort hs hp ((if_pos hl).trans ?_) rfl
    rw [endRecovery_eq, h0, h1]
    rfl
  case notQuiet =>
    refine run_atPort hs hp ((if_pos hl).trans ?_) rfl
    rw [endRecovery_eq]
    exact if_pos (Bool.or_eq_true_iff.2 h)
  case kept => exact run_atPort (f := keptExpiry p id) hs hp rfl rfl
  case reset => exact eqReset_written rfl rfl h64 hacc hr

end Sys2Proof.Proofs

/-! PROOFS. What the start-up leaves: the settings of the set, the NVM, the requests that wait (R41, R345, R435, R449). -/

namespace Sys2Proof.Machine

/-! ## What the steps of the start-up leave alone -/

/-- What sees neither lines, cells, links, archive, engines, power nor heat, of the working values the persistent ones alone, and of the
collector and the management controller whether they run. -/
structure StartBlind {β : Type} (g : State → β) : Prop where
  value : ∀ (t : State) c i v, isRwp c = false → i < 2 ^ 24 → g (t.setReg c i v) = g t
  parts : ∀ (t : State) a b c d e f h i j k, g { t with
    time := a, ports := b, ctxs := c, cells := d, oxl := e, arch := f, clusters := h, engines := i, heat := j, test := k } = g t
  power : ∀ (t : State) x, g { t with power := x } = g t
  faults : ∀ (t : State) x, x.started = t.faults.started → g { t with faults := x } = g t
  mgmt : ∀ (t : State) x, x.mcReset = t.mgmt.mcReset → x.waiting.length = t.mgmt.waiting.length → g { t with mgmt := x } = g t

section
variable {β : Type} {g : State → β} (h : StartBlind g)
include h

theorem StartBlind.ports (t : State) (x : Tab PortSt) : g { t with ports := x } = g t :=
  h.parts t t.time x t.ctxs t.cells t.oxl t.arch t.clusters t.engines t.heat t.test

theorem StartBlind.time (t : State) (x : TimeSt) : g { t with time := x } = g t :=
  h.parts t x t.ports t.ctxs t.cells t.oxl t.arch t.clusters t.engines t.heat t.test

theorem StartBlind.ctxs (t : State) (x : Tab Ctx) : g { t with ctxs := x } = g t :=
  h.parts t t.time t.ports x t.cells t.oxl t.arch t.clusters t.engines t.heat t.test

theorem StartBlind.cells (t : State) (x : CellSt) : g { t with cells := x } = g t :=
  h.parts t t.time t.ports t.ctxs x t.oxl t.arch t.clusters t.engines t.heat t.test

theorem StartBlind.oxl (t : State) (x : OxlSt) : g { t with oxl := x } = g t :=
  h.parts t t.time t.ports t.ctxs t.cells x t.arch t.clusters t.engines t.heat t.test

theorem StartBlind.arch (t : State) (x : ArchSt) : g { t with arch := x } = g t :=
  h.parts t t.time t.ports t.ctxs t.cells t.oxl x t.clusters t.engines t.heat t.test

theorem StartBlind.clusters (t : State) (x : Tab ClusterSt) : g { t with clusters := x } = g t :=
  h.parts t t.time t.ports t.ctxs t.cells t.oxl t.arch x t.engines t.heat t.test

theorem StartBlind.engines (t : State) (x : Tab EngineSt) : g { t with engines := x } = g t :=
  h.parts t t.time t.ports t.ctxs t.cells t.oxl t.arch t.clusters x t.heat t.test

theorem StartBlind.heat (t : State) (x : HeatSt) : g { t with heat := x } = g t :=
  h.parts t t.time t.ports t.ctxs t.cells t.oxl t.arch t.clusters t.engines x t.test

theorem StartBlind.test (t : State) (x : TestSt) : g { t with test := x } = g t :=
  h.parts t t.time t.ports t.ctxs t.cells t.oxl t.arch t.clusters t.engines t.heat x

theorem StartBlind.fault (n : Nat) (key : List Nat) (detail : List (Nat × Nat)) (t : State) : g (fault n key detail t) = g t :=
  h.faults t _ rfl

theorem StartBlind.ended (source : Nat) (key : List Nat) (t : State) : g (endCondition source key t) = g t := h.faults t _ rfl

theorem StartBlind.endedAll (source : Nat) (t : State) : g (endConditions source t) = g t := h.faults t _ rfl

theorem StartBlind.count {c i : Nat} (hc : isRwp c = false) (hi : i < 2 ^ 24) (t : State) (n : Nat) : g (t.bumpBy c i n) = g t := by
  unfold State.bumpBy
  split
  · rfl
  · exact h.value t c i _ hc hi

theorem StartBlind.modLink (t : State) (l : Link) (f : LinkSt → LinkSt) : g (t.modLink l f) = g t :=
  modLink_keeps (fun t x => h.oxl t x) l f t

/-! ## Lines -/

theorem StartBlind.latchPort {p : Nat} (hp : p < 2 ^ 24) (t : State) : g (latchPort p t) = g t := by
  have hidle : ∀ u : State, g (dcIdle p u) = g u := by
    intro u
    unfold dcIdle
    split
    · exact h.ports u _
    · split
      · exact h.ports u _
      · split
        · rfl
        · exact h.ports u _
  have hrun : ∀ u : State, g (latchRun p u) = g u := by
    intro u
    unfold latchRun
    split
    · rfl
    · exact h.ports u _
  have hcut : g (abandonRun p t) = g t := by
    unfold abandonRun
    split
    · rfl
    · exact (h.count (by decide +kernel) hp _ 1).trans (h.ports t _)
  unfold Machine.latchPort
  dsimp only
  rw [hidle, hrun]
  split
  · exact h.ports t _
  · exact (h.ports (abandonRun p t) _).trans hcut

theorem StartBlind.modCtx (t : State) (p d : Nat) (f : Ctx → Ctx) : g (t.modCtx p d f) = g t := h.ctxs t _

theorem StartBlind.formPair (p q : Nat) (t : State) : g (formPair p q t) = g t := by
  have hgive : ∀ (a b : Nat) (u : State), g (forAll allDrops (fun d u =>
      if ((u.ctx a d).state = 2 ∨ (u.ctx a d).state = 4) ∧ (u.ctx b d).state = 0 then makeStandby a d u else u) u) = g u := by
    intro a b u
    refine forAll_keeps g _ _ (fun d v => ?_) u
    split
    · unfold makeStandby
      dsimp only
      split
      · split
        · exact h.ctxs v _
        · rfl
      · rfl
    · rfl
  have hepochs : ∀ u : State, g (forAll allDrops (pairEpoch p q) u) = g u := by
    refine fun u => forAll_keeps g _ _ (fun d v => ?_) u
    unfold pairEpoch
    dsimp only
    split
    · exact (h.modCtx _ _ _ _).trans (h.modCtx v _ _ _)
    · rfl
  unfold Machine.formPair
  dsimp only
  refine (h.ports _ _).trans ((h.ports _ _).trans ?_)
  split
  · exact (h.modCtx _ _ _ _).trans (h.modCtx t _ _ _)
  · split
    · exact (hgive q p _).trans ((hgive p q _).trans (hepochs t))
    · rfl

/-! ## Engines and tests -/

theorem StartBlind.assignEngines (k : Nat) (t : State) : g (assignEngines k t) = g t := by
  unfold Machine.assignEngines
  dsimp only
  have hengines : ∀ (es : List Nat) (f : Nat → EngineSt → EngineSt) (u : State), g (forAll es (fun e v => v.modEngine e (f e)) u) = g u :=
    fun es f u => forAll_keeps g _ _ (fun e v => h.engines v _) u
  have hports : ∀ (left : List Nat) (u : State), g (forAll (span 0 16) (fun i t =>
      match left[i]? with
      | some e => t.modPort (16 * k + i) (fun x => { x with movedTo := if e = engineOf (16 * k + i) then none else some e, stopped := false })
      | none =>
        if (t.port (16 * k + i)).stopped then t
        else Machine.fault 9 [16 * k + i] [(1, 16 * k + i), (1, engineOf (16 * k + i))]
          (t.modPort (16 * k + i) (fun x => { x with stopped := true }))) u) = g u := by
    intro left u
    refine forAll_keeps g _ _ (fun i v => ?_) u
    split
    · exact h.ports v _
    · split
      · rfl
      · exact (h.fault _ _ _ _).trans (h.ports v _)
  split
  · exact (h.fault _ _ _ _).trans ((h.clusters _ _).trans ((hports _ _).trans (hengines _ _ t)))
  · exact (hports _ _).trans (hengines _ _ t)

theorem StartBlind.loadRemaps (m : Mem) (t : State) : g (loadRemaps m t) = g t := by
  unfold Machine.loadRemaps
  exact State.modTester_keeps (fun t x => h.test t x) t m _

theorem StartBlind.goldenCheck (t : State) : g (goldenCheck t) = g t := by
  unfold Machine.goldenCheck goldenMissing
  dsimp only
  refine (forAll_keeps g _ _ (fun n u => (h.fault _ _ _ _).trans (h.test u _)) _).trans (forAll_keeps g _ _ (fun n u => ?_) t)
  exact (h.ended _ _ _).trans (h.test u _)

/-! ## Links and archive -/

theorem StartBlind.besidesLinks : BesidesLinks g where
  link t l f := h.modLink t l f
  drops t l := h.count (by cases l <;> decide +kernel) (by decide) t 1
  seq t _ := h.oxl t _

theorem StartBlind.silence (l : Link) (t : State) : g (silence l t) = g t := by
  unfold Machine.silence
  refine (h.mgmt _ _ ?_ ?_).trans (h.modLink t l _)
  · cases l <;> rfl
  · cases l <;> exact List.length_map ..

theorem StartBlind.refreshLink (l : Link) (before : Nat) (t : State) : g (refreshLink l before t) = g t := by
  have hlost : g (t.linkLost l) = g t := by
    exact (h.silence l _).trans (h.modLink t l _)
  have hraised : g (t.lossRaised l before) = g t := by
    unfold State.lossRaised
    split
    · exact hlost
    · exact (h.fault _ _ _ _).trans hlost
  have hfound : g (t.linkFound l) = g t := by
    exact (h.endedAll _ _).trans ((h.endedAll _ _).trans (h.modLink t l _))
  rcases refreshLink_cases l t with hs | ⟨hf, hl⟩ | ⟨hf, hl⟩
  · rw [refreshLink_same hs]
  · rw [refreshLink_lost hf hl]
    split
    · exact (h.fault _ _ _ _).trans hraised
    · exact hraised
  · rw [refreshLink_found hf hl]
    split
    · exact hfound
    · exact (moveLink_keeps h.besidesLinks (fun t l n => h.count (by cases l <;> decide +kernel) (by decide) t n)
        (fun t l => reassign_keeps (fun t x => h.oxl t x) l t) (fun t => h.count (by decide +kernel) (by decide) t 1) _ _).trans hfound

theorem StartBlind.rxRestart (l : Link) (t : State) : g (rxRestart l t) = g t := by
  unfold Machine.rxRestart takeRxSettings
  exact (h.modLink _ l _).trans (h.modLink t l _)

theorem StartBlind.linkEnable (l : Link) (t : State) : g (linkEnable l t) = g t := by
  unfold Machine.linkEnable
  dsimp only
  split
  · split
    · split
      · exact (h.fault _ _ _ _).trans ((h.modLink _ l _).trans (h.rxRestart l t))
      · exact (h.modLink _ l _).trans (h.rxRestart l t)
    · rfl
  · exact (h.refreshLink l _ _).trans ((h.modLink _ l _).trans (h.rxRestart l t))

theorem StartBlind.recheckLink (l : Link) (t : State) : g (recheckLink l t) = g t := by
  unfold Machine.recheckLink
  dsimp only
  split
  · split
    · exact (h.fault _ _ _ _).trans (h.faults t _ rfl)
    · exact h.faults t _ rfl
  · rfl

theorem StartBlind.archOff (t : State) : g (setArch 0 0 t) = g t :=
  (h.arch _ _).trans (h.mgmt t _ rfl rfl)

/-! ## Cells -/

theorem StartBlind.tidyPool (t : State) : g (tidyPool t) = g t := by
  unfold Machine.tidyPool
  exact h.cells t _

theorem StartBlind.putCells (r : Range) (cs : Tab Cell) (t : State) : g (putCells r cs t) = g t := by
  unfold Machine.putCells
  exact (h.tidyPool _).trans ((h.test _ _).trans (h.cells t _))

theorem StartBlind.layoutRange {p : Nat} (hp : p < 2 ^ 24) (b : Bool) (n second : Nat) (t : State) : g (layoutRange p b false n second t) = g t := by
  unfold Machine.layoutRange setShaped
  dsimp only
  refine (h.value _ _ _ _ (by decide +kernel) hp).trans ?_
  unfold remake
  exact (h.putCells _ _ _).trans ((h.cells _ _).trans (h.cells t _))

theorem StartBlind.setRange (p : Nat) (b : Bool) (r : Range) (t : State) : g (setRange p b r t) = g t := by
  unfold Machine.setRange
  split <;> exact h.cells t _

theorem StartBlind.startCells {p : Nat} (hp : p < 2 ^ 24) (t : State) : g (startCells p t) = g t := by
  unfold Machine.startCells
  dsimp only
  rw [h.layoutRange hp, h.layoutRange hp, h.setRange, h.setRange]

/-! ## Rails -/

theorem StartBlind.queuePm (r : PmReq) (t : State) : g (queuePm r t) = g t := (h.power _ _).trans (h.power t _)

theorem StartBlind.pmVcore (mV : Nat) (t : State) : g (pmVcore mV t) = g t := (h.queuePm _ _).trans (h.power t _)

theorem StartBlind.pmOn (rail prio : Nat) (w : Option Nat) (t : State) : g (pmOn rail prio w t) = g t := h.queuePm _ t

end

end Sys2Proof.Machine

/-! PROOFS. BOOT and STARTUP: the bank, the committed settings and the rails (R345, R403, R416, R449, R452, R457). -/

namespace Sys2Proof.Machine

/-! ## Pairs that end -/

theorem endTwins_keeps {β : Type} {g : State → β}
    (hg : ∀ (t : State) r x c o, g { t with regs := r, ports := x, ctxs := c, oxl := o } = g t) (p q : Nat) (s : State) :
    g (endTwins p q s) = g s := by
  have hports : ∀ (t : State) x, g { t with ports := x } = g t := fun t x => hg t t.regs x t.ctxs t.oxl
  have hraise : ∀ (p : Nat) (t : State), g (raiseEpochs p t) = g t := by
    refine fun p t => forAll_keeps g _ _ (fun d u => ?_) t
    split
    · exact (hg _ _ _ _ _).trans ((staleBlind_of_fields (fun t r c o => hg t r t.ports c o) p d).purgeQueue _ u)
    · rfl
  have hfree : ∀ (a : Nat) (t : State), g (forAll allDrops (fun d u =>
      if (u.ctx a d).state = 3 then freeCtx a d (((u.ctx a d).epoch + 1) % 64) u else u) t) = g t := by
    refine fun a t => forAll_keeps g _ _ (fun d u => ?_) t
    split
    · exact hg u u.regs _ _ u.oxl
    · rfl
  unfold endTwins
  split
  · unfold endPair
    dsimp only
    refine (hports _ _).trans ((hports _ _).trans ?_)
    rw [hraise, hraise, hfree, hfree]
  · exact (hports _ _).trans (hports s _)

/-! ## The committed set -/

/-- The state with a set's settings, its contents and its time in force (R345). -/
def State.withSet (s : State) (c : CommitSet) : State :=
  { s with regs := c.regs, doms := c.doms.foldl (fun t e => Tab.put t e.1 e.2) s.doms, nvm := { s.nvm with commitTime := c.time } }

theorem loadSet_some {s : State} {c : CommitSet} (h : s.currentSet = some c) : loadSet s = s.withSet c := by
  unfold loadSet
  rw [h]
  rfl

/-- Where every page can be read the slots stand, and only the log is checked (R452, R453). -/
theorem readNvm_good (s : State) : ∃ l, readNvm [] s = { s with nvm := { s.nvm with log := l } } := by
  have hkeep : ∀ (b : Bool) (x : Option CommitSet), x.filter (fun c => !slotUnread b c []) = x := by
    intro b x
    cases x <;> rfl
  refine ⟨s.nvm.log.mapIdx (fun i r => { r with good := !([] : List Nat).contains (logPage i) }), ?_⟩
  unfold readNvm
  dsimp only
  rw [hkeep, hkeep]
  rfl

/-- The state whose committed set is in force, with the pairs of ports that its settings form (R345, R371). -/
def State.setLoaded (s : State) : State := withTwinChanges loadSet (readNvm [] s)

/-- What loading the set leaves of what pairs, lines and links do not touch. -/
theorem setLoaded_eq {s : State} {c : CommitSet} (hc : s.currentSet = some c) : ∃ u : State, u.nvm.slotA = s.nvm.slotA ∧
    u.nvm.slotB = s.nvm.slotB ∧ u.mgmt = s.mgmt ∧ u.faults = s.faults ∧
      ∀ {β : Type} {g : State → β}, StartBlind g → g s.setLoaded = g (u.withSet c) := by
  obtain ⟨l, hl⟩ := readNvm_good s
  have hcur : (readNvm [] s).currentSet = some c := by rw [hl]; exact hc
  unfold State.setLoaded withTwinChanges
  dsimp only
  generalize (List.filter _ _ : List (Nat × Nat)) = new
  generalize (List.filter _ _ : List (Nat × Nat)) = old
  obtain ⟨u, hu⟩ : ∃ u, u = forAll old (fun (e : Nat × Nat) v => endTwins e.1 e.2 v) (readNvm [] s) := ⟨_, rfl⟩
  have hkeep : ∀ {β : Type} {g : State → β},
      (∀ (t : State) r x c o, g { t with regs := r, ports := x, ctxs := c, oxl := o } = g t) → g u = g (readNvm [] s) := by
    intro β g hg
    rw [hu]
    exact forAll_keeps g old (fun e v => endTwins e.1 e.2 v) (fun e v => endTwins_keeps hg e.1 e.2 v) _
  have hnvm : u.nvm = (readNvm [] s).nvm := hkeep (g := State.nvm) (fun _ _ _ _ _ => rfl)
  have hset : u.currentSet = some c := (hkeep (g := State.currentSet) (fun _ _ _ _ _ => rfl)).trans hcur
  refine ⟨u, by rw [hnvm, hl], by rw [hnvm, hl], (hkeep (g := State.mgmt) (fun _ _ _ _ _ => rfl)).trans (by rw [hl]),
    (hkeep (g := State.faults) (fun _ _ _ _ _ => rfl)).trans (by rw [hl]), fun h => ?_⟩
  rw [← hu, loadSet_some hset]
  exact forAll_keeps _ new (fun e v => formPair e.1 e.2 v) (fun e v => h.formPair e.1 e.2 v) _

/-! ## The firmware runs -/

/-- The state whose firmware and collector run on the settings of the set (R415, R449). -/
def State.runsOn (s : State) : State :=
  { s with mgmt := { s.mgmt with mcReset := false }, faults := { s.faults with started := true } }

theorem runsOn_regWritten (s : State) (c i : Nat) : s.runsOn.regWritten c i = s.regWritten c i := rfl

theorem runsOn_nvm (s : State) : s.runsOn.nvm = s.nvm := rfl

/-- The state with the settings of the set latched in every port (R128, R345). -/
def State.setLatched (s : State) : State := forAll allPorts latchPort (startQuality s.setLoaded)

/-- The state in which the firmware has begun to run on the set (R449). -/
def State.firmwareRuns (s : State) : State := s.setLatched.runsOn

/-- The engines and slices as the repair log has them (R41, R453). -/
def startEngines (s : State) : State :=
  forAll (List.range 9) assignEngines (loadRemaps .contexts (loadRemaps .buffers (loadRemaps .cells s)))

/-- The raise of source 31 that a shutdown by heat has left to the start (R403). -/
def startOwed (s : State) : State :=
  if s.heat.owed31 then
    fault 31 [] [(2, twos 16 s.aon.shutdownTemp)] { s with heat := { s.heat with owed31 := false } } else s

/-- Golden values and host links at the start (R307, R395, R418). -/
def startLinks (s : State) : State := recheckLink .b (recheckLink .a (linkEnable .b (linkEnable .a (goldenCheck s))))

/-- The archive at the start: off where it is not enabled (R266). -/
def startArch (s : State) : State := if s.regB Code.archEnable 0 then s else setArch 0 0 s

/-- The ranges of the ports at the start (R247). -/
def startRanges (s : State) : State := forAll allPorts startCells { s with cells := { s.cells with stampDue := true } }

/-- The core voltage asked for at the start (R435). -/
def startCore (s : State) : State := pmVcore (s.regN Code.vcoreNom 0) s

/-- What STARTUP does once the firmware runs, up to the rails (R41, R395, R435, R449). -/
def State.startRuns (s : State) : State := startCore (startRanges (startArch (startLinks (startOwed (startEngines s.firmwareRuns)))))

/-- The rails of the first three clusters, requested on (R449). -/
def railsAsked (s : State) : State := forAll (span 0 3) (fun k t => pmOn (lineRail k) 4 none t) s

theorem startupCore_runs {s : State} (hm : s.mgmt.mcReset = true) (hf : s.faults.started = false) (hb : s.fw.booted = true) :
    startupCore [] s = railsAsked s.startRuns := by
  unfold startupCore
  rw [if_pos ⟨hm, hf, hb⟩]
  extract_lets s1 m f s2 s3 heat s4 s5 s6 cells s7 s8
  have h1 : s1 = s.setLatched := rfl
  clear_value s1
  have h2 : s2 = s1.runsOn := rfl
  clear_value s2
  have h3 : s3 = startEngines s2 := rfl
  clear_value s3
  have h4 : s4 = startOwed s3 := rfl
  clear_value s4
  have h5 : s5 = startLinks s4 := rfl
  clear_value s5
  have h6 : s6 = startArch s5 := rfl
  clear_value s6
  have h7 : s7 = startRanges s6 := rfl
  clear_value s7
  have h8 : s8 = startCore s7 := rfl
  have h9 : s8 = s.startRuns := by rw [h8, h7, h6, h5, h4, h3, h2, h1, State.startRuns, State.firmwareRuns]
  clear_value s8
  rw [← h9, railsAsked]

theorem mem_allPorts_lt {p : Nat} (h : p ∈ allPorts) : p < 2 ^ 24 := Nat.lt_trans (List.mem_range.1 h) (by decide)

section
variable {β : Type} {g : State → β} (h : StartBlind g)
include h

theorem startEngines_keeps (s : State) : g (startEngines s) = g s :=
  (forAll_keeps g _ _ (fun k u => h.assignEngines k u) _).trans
    ((h.loadRemaps _ _).trans ((h.loadRemaps _ _).trans (h.loadRemaps _ s)))

theorem startOwed_keeps (s : State) : g (startOwed s) = g s := by
  unfold startOwed
  split
  · exact (h.fault _ _ _ _).trans (h.heat s _)
  · rfl

theorem startLinks_keeps (s : State) : g (startLinks s) = g s :=
  (h.recheckLink _ _).trans ((h.recheckLink _ _).trans ((h.linkEnable _ _).trans ((h.linkEnable _ _).trans (h.goldenCheck s))))

theorem startArch_keeps (s : State) : g (startArch s) = g s := by
  unfold startArch
  split
  · rfl
  · exact h.archOff s

theorem startRanges_keeps (s : State) : g (startRanges s) = g s :=
  (forAll_keeps_of_mem g (fun _ hp t => h.startCells (mem_allPorts_lt hp) t) _).trans (h.cells s _)

theorem startRuns_keeps (s : State) : g s.startRuns = g s.firmwareRuns :=
  (h.pmVcore _ _).trans ((startRanges_keeps h _).trans ((startArch_keeps h _).trans ((startLinks_keeps h _).trans
    ((startOwed_keeps h _).trans (startEngines_keeps h _)))))

end

theorem railsAsked_keeps {β : Type} {g : State → β} (h : StartBlind g) (s : State) : g (railsAsked s) = g s :=
  forAll_keeps g _ _ (fun _ t => h.pmOn _ _ _ t) s

theorem setLatched_keeps {β : Type} {g : State → β} (h : StartBlind g) (s : State) : g s.setLatched = g s.setLoaded :=
  (forAll_keeps_of_mem g (fun _ hp t => h.latchPort (mem_allPorts_lt hp) t) _).trans
    ((h.time _ _).trans (h.time s.setLoaded _))

/-! ## What the start-up keeps -/

theorem startBlind_regWritten {code inst : Nat} (hc : isRwp code = true) (hi : inst < 2 ^ 24) :
    StartBlind (fun t => t.regWritten code inst) where
  value t c i v hn hj := State.regWritten_setReg_ne t v (objKey_ne (fun he => by rw [he, hn] at hc; cases hc) hi hj)
  parts _ _ _ _ _ _ _ _ _ _ _ := rfl
  power _ _ := rfl
  faults _ _ _ := rfl
  mgmt _ _ _ _ := rfl

theorem startBlind_nvm : StartBlind State.nvm where
  value _ _ _ _ _ _ := rfl
  parts _ _ _ _ _ _ _ _ _ _ _ := rfl
  power _ _ := rfl
  faults _ _ _ := rfl
  mgmt _ _ _ _ := rfl

/-- Whether the controller is in reset, how many requests wait, and whether the collector has started. -/
def State.runState (s : State) : Bool × Nat × Bool := (s.mgmt.mcReset, s.mgmt.waiting.length, s.faults.started)

theorem runState_waiting (s : State) : s.runState.2.1 = s.mgmt.waiting.length := rfl

theorem withSet_mgmt (s : State) (c : CommitSet) : (s.withSet c).mgmt = s.mgmt := rfl

theorem runsOn_runState (s : State) : s.runsOn.runState = (false, s.mgmt.waiting.length, true) := rfl

theorem startBlind_runState : StartBlind State.runState where
  value _ _ _ _ _ _ := rfl
  parts _ _ _ _ _ _ _ _ _ _ _ := rfl
  power _ _ := rfl
  faults t x h := by simp only [State.runState, h]
  mgmt t x h1 h2 := by simp only [State.runState, h1, h2]

/-- What the start-up keeps of the state in which the firmware begins to run. -/
theorem started_keeps {β : Type} {g : State → β} (h : StartBlind g) (s : State) : g (railsAsked s.startRuns) = g s.firmwareRuns :=
  (railsAsked_keeps h _).trans (startRuns_keeps h s)

section
variable {s : State} {c : CommitSet} (hc : s.currentSet = some c)
include hc

theorem started_regWritten {code inst : Nat} (hr : isRwp code = true) (hi : inst < 2 ^ 24) :
    (railsAsked s.startRuns).regWritten code inst = Tab.find c.regs (objKey code inst) := by
  have h := startBlind_regWritten hr hi
  obtain ⟨u, -, -, -, -, hu⟩ := setLoaded_eq hc
  have hset : s.setLatched.regWritten code inst = (u.withSet c).regWritten code inst := (setLatched_keeps h s).trans (hu h)
  rw [started_keeps h, State.firmwareRuns, runsOn_regWritten, hset]
  rfl

theorem started_nvm : (railsAsked s.startRuns).nvm.commitTime = c.time ∧ (railsAsked s.startRuns).currentSet = some c := by
  obtain ⟨u, ha, hb, -, -, hu⟩ := setLoaded_eq hc
  have hset : s.setLatched.nvm = (u.withSet c).nvm := (setLatched_keeps startBlind_nvm s).trans (hu startBlind_nvm)
  have hn : (railsAsked s.startRuns).nvm = (u.withSet c).nvm := by
    rw [started_keeps startBlind_nvm, State.firmwareRuns, runsOn_nvm, hset]
  refine ⟨by rw [hn]; rfl, (currentSet_of_slots (s := s) ⟨?_, ?_⟩).trans hc⟩
  · rw [hn]; exact ha
  · rw [hn]; exact hb

theorem started_runs (hw : s.mgmt.waiting = []) : (railsAsked s.startRuns).runState = (false, 0, true) := by
  obtain ⟨u, -, -, hm, -, hu⟩ := setLoaded_eq hc
  have hset : s.setLatched.runState = (u.withSet c).runState := (setLatched_keeps startBlind_runState s).trans (hu startBlind_runState)
  have hlen : s.setLatched.mgmt.waiting.length = 0 := by
    rw [← runState_waiting, hset, runState_waiting, withSet_mgmt, hm, hw]
    rfl
  rw [started_keeps startBlind_runState, State.firmwareRuns, runsOn_runState, hlen]

end

/-! ## Requests on the bus -/

/-- A request for a rail waits or is under way (R431, R434). -/
def State.Asked (s : State) (rail cmd data : Nat) : Prop := ∃ r ∈ s.power.queue, r.rail = rail ∧ r.cmd = cmd ∧ r.data = data

theorem latchHead_asked {rail cmd data : Nat} {s : State} (h : s.Asked rail cmd data) : (latchHead s).Asked rail cmd data := by
  obtain ⟨r, hr, hrail⟩ := h
  have hq : (latchHead s).power.queue = match s.power.queue with
    | [] => []
    | x :: rest =>
      (if x.addr.isNone && s.pmBegun x then
        { x with addr := some (s.regN (Code.railAddr + 256 * x.rail) 0, s.regN (Code.railPage + 256 * x.rail) 0) }
       else x) :: rest := rfl
  unfold State.Asked
  rw [hq]
  cases hs : s.power.queue with
  | nil => rw [hs] at hr; cases hr
  | cons x rest =>
    rw [hs] at hr
    rcases List.mem_cons.1 hr with rfl | hr
    · refine ⟨_, List.mem_cons_self .., ?_⟩
      split <;> exact hrail
    · exact ⟨r, List.mem_cons_of_mem _ hr, hrail⟩

/-- A request that is queued waits, and those before it still do (R434). -/
theorem mem_queuePm {r x : PmReq} {s : State} (h : x = r ∨ x ∈ s.power.queue) :
    (queuePm r s).Asked x.rail x.cmd x.data := by
  refine latchHead_asked ⟨x, ?_, rfl, rfl, rfl⟩
  show x ∈ (match s.power.queue with
    | [] => [r]
    | y :: rest =>
      if s.pmBegun y then y :: insertBy (fun a b => decide (a.prio ≤ b.prio)) r rest
      else insertBy (fun a b => decide (a.prio ≤ b.prio)) r (y :: rest))
  cases hq : s.power.queue with
  | nil =>
    rw [hq] at h
    simpa using h
  | cons y rest =>
    rw [hq] at h
    dsimp only
    split
    · simp only [List.mem_cons, mem_insertBy] at h ⊢
      tauto
    · exact mem_insertBy.2 h

theorem queuePm_asked {r : PmReq} {rail cmd data : Nat} {s : State} (h : s.Asked rail cmd data) : (queuePm r s).Asked rail cmd data := by
  obtain ⟨x, hx, rfl, rfl, rfl⟩ := h
  exact mem_queuePm (.inr hx)

theorem railsAsked_asked (s : State) {k : Nat} (hk : k < 3) : (railsAsked s).Asked (13 + k) 0x01 0x80 := by
  have h : railsAsked s = pmOn (lineRail 2) 4 none (pmOn (lineRail 1) 4 none (pmOn (lineRail 0) 4 none s)) := rfl
  rw [h]
  obtain rfl | rfl | rfl : k = 0 ∨ k = 1 ∨ k = 2 := by omega
  · exact queuePm_asked (queuePm_asked (mem_queuePm (.inl rfl)))
  · exact queuePm_asked (mem_queuePm (.inl rfl))
  · exact mem_queuePm (.inl rfl)

end Sys2Proof.Machine

/-! PROOFS. O34: BOOT chooses the bank, STARTUP loads the set, and a reset of the controller leaves the rest running (R345, R403,
R445, R448, R449, R457). -/

namespace Sys2Proof.Machine

/-! ## BOOT -/

/-- Of two valid banks, none barred, the newer one is started (R457). -/
theorem bootChoice_newer {s : State} (h0 : s.fw.bank0.state = 1) (h1 : s.fw.bank1.state = 1) (hb0 : s.aon.bank0.barred = false)
    (hb1 : s.aon.bank1.barred = false) : s.bootChoice = some s.newerBank := by
  simp [State.bootChoice, h0, h1, hb0, hb1]

theorem bootChoice_none {s : State} (h0 : s.fw.bank0.state ≠ 1) (h1 : s.fw.bank1.state ≠ 1) : s.bootChoice = none := by
  simp [State.bootChoice, h0, h1]

theorem boot_newer {s : State} (hm : s.mgmt.mcReset = true) (hf : s.faults.started = false) (h0 : s.fw.bank0.state = 1)
    (h1 : s.fw.bank1.state = 1) (hb0 : s.aon.bank0.barred = false) (hb1 : s.aon.bank1.barred = false) :
    boot s = { s with fw := { s.fw with active := s.newerBank, boot := s.newerBank, booted := true, newCode := List.range 162 } } := by
  simp [boot, hm, hf, bootChoice_newer h0 h1 hb0 hb1, State.bank, h0, h1, startBank, State.modFw]

/-- The raise of a bank whose image does not verify (R403 source 38). -/
def bankBad (b : Nat) (t : State) : State := if (t.bank b).state = 2 then fault 38 [b] [(1, b), (1, 2)] t else t

/-- The occurrence of a device without a valid bank (R403 source 2). -/
def noBank (s : State) : Occ := { source := 2, key := [], detail := [(1, s.fw.bank0.state), (1, s.fw.bank1.state)] }

theorem boot_none {s : State} (hm : s.mgmt.mcReset = true) (hf : s.faults.started = false) (h0 : s.fw.bank0.state ≠ 1)
    (h1 : s.fw.bank1.state ≠ 1) (hlc : s.lc ≠ 0) : boot s = notice (noBank s) (bankBad 1 (bankBad 0 s)) := by
  unfold boot
  rw [if_pos ⟨hm, hf⟩, bootChoice_none h0 h1]
  exact if_neg hlc

/-- A bank's check touches the occurrences of the core cycle alone (R403). -/
theorem bankBad_keeps {β : Type} {g : State → β} (hg : ∀ (t : State) o, g (notice o t) = g t) (b : Nat) (t : State) :
    g (bankBad b t) = g t := by
  unfold bankBad
  split
  · exact hg _ _
  · rfl

theorem bankBad_raises (b : Nat) (t : State) : RaisesBeside 2 t (bankBad b t) := by
  unfold bankBad
  split
  · exact .notice (o := { source := 38, key := [b], detail := [(1, b), (1, 2)] }) rfl (show (38 : Nat) ≠ 2 by decide) t
  · exact .refl 2 t

/-- Real occurrences of other sources do not keep an occurrence of default class 4 from the Fatal stop (R416). -/
theorem collect_fatal_raised {s u : State} {o : Occ} (hdue : s.faults.due = []) (hr : RaisesBeside o.source s u)
    (hi : o.injected = false) (hd : defaultClass o.source = 4) (hheld : ∀ r ∈ u.faults.held, r.source ≠ o.source) :
    (collect (notice o u)).faults.fatal = true := by
  obtain ⟨-, l, hl, hp⟩ := hr
  have hq : (notice o u).faults.due = l ++ [o] := by
    have : (notice o u).faults.due = u.faults.due ++ [o] := rfl
    rw [this, hl, hdue, List.nil_append]
  obtain ⟨v, hv⟩ := collect_fatal_beside (s := notice o u) (o := o) (by simp [hq])
    (fun x hx => by
      rw [hq] at hx
      rcases List.mem_append.mp hx with hx | hx
      · exact .inr (hp x hx).2
      · exact .inl (List.mem_singleton.mp hx)) hi hd (fun r h => .inl (hheld r h))
  rw [hv, State.forgetAcks_fatal, fatalStop_split, State.stopped_fatal]

/-! ## STARTUP -/

theorem takeRaise_started (o : Occ) (b : Bool) (s : State) : (takeRaise o b s).1.faults.started = s.faults.started := by
  have hc : (stampOcc o (countOcc o s)).faults = s.faults := by unfold stampOcc countOcc; split <;> simp
  refine Eq.trans (b := (stampOcc o (countOcc o s)).faults.started) ?_ (congrArg FaultSt.started hc)
  unfold takeRaise logFault
  dsimp only
  (repeat' split) <;> rfl

theorem takeRepeat_started (o : Occ) (s : State) : (takeRepeat o s).faults.started = s.faults.started := by
  have hc : (stampOcc o (countOcc o s)).faults = s.faults := by unfold stampOcc countOcc; split <;> simp
  exact Eq.trans (b := (stampOcc o (countOcc o s)).faults.started) rfl (congrArg FaultSt.started hc)

theorem takeAll_started (os : List Occ) (b : Bool) (s : State) : (takeAll os b s).1.faults.started = s.faults.started := by
  induction os generalizing b s with
  | nil => rfl
  | cons o rest ih =>
    unfold takeAll
    split
    · exact (ih _ _).trans (takeRepeat_started o s)
    · exact (ih _ _).trans (takeRaise_started o b s)

/-- The collector goes on running (R415). -/
theorem collect_started (s : State) : (collect s).faults.started = s.faults.started := by
  have fin : ∀ (os : List Occ) (u : State), (if (takeAll os false u).2.any (fun x => x.cls == 4) then fatalStop (takeAll os false u).1
      else forAll (takeAll os false u).2 reportFault (takeAll os false u).1).faults.started = u.faults.started := by
    intro os u
    split
    · obtain ⟨x, -, hx⟩ := fatalStop_eq (takeAll os false u).1
      rw [hx]
      exact takeAll_started os false u
    · rw [forAll_keeps (fun t => t.faults) _ _ (fun r t => reportFault_faults r t)]
      exact takeAll_started os false u
  unfold collect
  split
  · rfl
  · rfl
  · exact fin _ _

theorem runState_mcReset (s : State) : s.runState.1 = s.mgmt.mcReset := rfl

theorem runState_started (s : State) : s.runState.2.2 = s.faults.started := rfl

theorem serveWaiting_none {s : State} (h : s.mgmt.waiting = []) : serveWaiting s = s := by
  unfold serveWaiting
  rw [h]
  simp only [serveAll]
  rw [← h]

/-- STARTUP without waiting requests (R449). -/
theorem startup_runs {s : State} {c : CommitSet} (hm : s.mgmt.mcReset = true) (hf : s.faults.started = false)
    (hb : s.fw.booted = true) (hw : s.mgmt.waiting = []) (hc : s.currentSet = some c) :
    startup [] s = railsAsked s.startRuns := by
  unfold startup
  rw [if_pos ⟨hm, hf, hb⟩, startupCore_runs hm hf hb]
  refine serveWaiting_none (List.eq_nil_of_length_eq_zero ?_)
  rw [← runState_waiting, started_runs hc hw]

theorem collectorCounter_of_isRwp {code : Nat} (h : isRwp code = true) : collectorCounter code = false := by
  by_contra hc
  simp only [collectorCounter, Bool.not_eq_false, Bool.or_eq_true, beq_iff_eq] at hc
  rcases hc with (rfl | rfl) | rfl <;> exact absurd h (by decide +kernel)

/-! ## A reset of the management controller -/

/-- The state with the management controller alone in reset, by RESET_CMD 1 (R445). -/
def State.controllerReset1 (s : State) : State :=
  { s with
    mgmt := { s.mgmt with mcReset := true }
    time := { s.time with resetAt := some s.time.tick }
    aon := { s.aon with resets := min (s.aon.resets + 1) (2 ^ 32 - 1) }
    resetCause := 4 }

theorem controllerResets_alone {s : State} (h : s.resetTogether = false) : controllerResets 4 s = s.controllerReset1 := by
  unfold controllerResets
  rw [State.firstCause_alone h, State.resetCounted, h]
  rfl

theorem resetCommand_one (q : Path) (tid : Nat) (t : State) :
    resetCommand q (writeReq tid Code.resetCmd 1) (.ok (addressBytes (Code.resetCmd / 256) (Code.resetCmd % 256) 0)) t =
      controllerResets 4 t := by
  rw [resetCommand]
  rw [if_pos ⟨rfl, resetCmd_address tid 1⟩]
  exact if_pos rfl

/-- RESET_CMD 1 puts the controller in reset behind its answer, and its frame counts (R363). -/
theorem request_resetCmd_controller {q : Path} {s : State} {o : Obj} {v : Int} (h : s.Accepts q Code.resetCmd 1 o v)
    (hr : s.resetTogether = false) (tid : Nat) :
    request q (writeReq tid Code.resetCmd 1) s = (s.controllerReset1.resetAnswered q tid 1).counted q := by
  have hx := execute_resetCmd h tid
  obtain ⟨⟨-, hmc, hw, hb⟩, -⟩ := h
  have hserve : serve q (writeReq tid Code.resetCmd 1) (s.arrived q) = s.controllerReset1.resetAnswered q tid 1 := by
    rw [serve, hx, linkGone_of_oxl rfl]
    refine (resetCommand_one q tid _).trans ?_
    have ht : (s.resetAnswered q tid 1).resetTogether = false := by
      obtain ⟨-, htime, -⟩ := resetAnswered_same s q tid 1
      rw [State.resetTogether, htime]
      exact hr
    refine (controllerResets_alone (s := s.resetAnswered q tid 1) ht).trans ?_
    cases q <;> rfl
  have hno : requestResets q (writeReq tid Code.resetCmd 1) s = false := by
    simp [requestResets, writeReq]
  rw [← hserve]
  cases q with
  | spi => simp [request, linkOfPath, admitRequest, State.arrived, State.counted, hb, hmc]
  | oxlA => simp [request, linkOfPath, admitRequest, State.arrived, State.counted, hmc, hw, hno]
  | oxlB => simp [request, linkOfPath, admitRequest, State.arrived, State.counted, hmc, hw, hno]

theorem run_resetCmd_controller {q : Path} {s : State} {o : Obj} {v : Int} (h : s.Accepts q Code.resetCmd 1 o v)
    (hr : s.resetTogether = false) (tid : Nat) :
    run (writeRequest q tid Code.resetCmd 1) s = .next ((s.controllerReset1.resetAnswered q tid 1).counted q) := by
  have hreq := request_resetCmd_controller h hr tid
  obtain ⟨⟨hs, -⟩, -⟩ := h
  have hc : collect ((s.controllerReset1.resetAnswered q tid 1).counted q) = (s.controllerReset1.resetAnswered q tid 1).counted q :=
    collect_answered (u := s.controllerReset1.arrived q) hs (by cases q <;> rfl)
  refine (run_running _ hs.1).trans ?_
  exact congrArg _ ((congrArg collect hreq).trans hc)

theorem controllerReset_holds (s : State) (q : Path) (tid : Nat) :
    ((s.controllerReset1.resetAnswered q tid 1).counted q).Holds q (writeDone tid Code.resetCmd) := by
  refine holds_counted ?_
  rw [State.resetAnswered, ← responseBytes_writeReq]
  exact answer_holds _ rfl (by rintro rfl; rfl)

theorem controllerReset_onlyAnswered (s : State) (q : Path) (tid : Nat) :
    ((s.controllerReset1.resetAnswered q tid 1).counted q).OnlyAnswered s.controllerReset1 := by
  rw [State.resetAnswered]
  exact onlyAnswered_answer s.controllerReset1 q (writeReq tid Code.resetCmd 1) _

/-! ## The end of the reset -/

/-- The state with the management controller out of reset and nothing waiting (R448). -/
def State.controllerRuns (s : State) : State := { s with mgmt := { s.mgmt with mcReset := false, waiting := [] } }

theorem serve_nop (q : Path) (tid : Nat) (t : State) :
    serve q { op := 0, tid := tid } t = answer q { op := 0, tid := tid } (.ok []) t := by
  have hx : execute q { op := 0, tid := tid } t = (.ok [], t) := rfl
  have ha : addressCode ({ op := 0, tid := tid } : MgmtReq).index ({ op := 0, tid := tid } : MgmtReq).sub ≠ Code.resetCmd := by
    simp [addressCode, Code.resetCmd]
  rw [serve_eq_answer q t ha, hx, linkGone_of_oxl rfl]
  rfl

/-- The controller answers a NOP that has waited for it (R363, R448). -/
theorem mcResetEnd_nop {s : State} {tid : Nat} (hm : s.mgmt.mcReset = true) (hf : s.faults.started = true)
    (hw : s.mgmt.waiting = [(.oxlA, { op := 0, tid := tid })]) :
    mcResetEnd s = answer .oxlA { op := 0, tid := tid } (.ok []) s.controllerRuns := by
  unfold mcResetEnd
  rw [if_pos ⟨hm, hf⟩, serveWaiting]
  dsimp only
  rw [hw]
  simp only [serveAll, hf, if_true]
  rw [admitRequest, if_neg (by simp)]
  exact serve_nop _ _ _

end Sys2Proof.Machine

namespace Sys2Proof.Proofs

open Machine

/-- Settles O34, stage by stage. -/
theorem startupLoadsTheSet : Obligations.StartupLoadsTheSet := by
  refine ⟨fun s hs hm hf h0 h1 hb0 hb1 => ?boot, fun s hs hm hf h0 h1 hlc hheld => ?none, fun s c hs hm hf hb hw hc => ?startup,
    fun q tid s o ha hr => ?reset, fun s hs hm hf => ⟨fun hw => ?idle, fun tid hw => ?nop⟩⟩
  case boot => exact run_to hs (boot_newer hm hf h0 h1 hb0 hb1) rfl
  case none =>
    have hr : RaisesBeside 2 s (bankBad 1 (bankBad 0 s)) := (bankBad_raises 0 s).trans (bankBad_raises 1 _)
    have keeps : ∀ {β : Type} {g : State → β}, (∀ (t : State) o, g (notice o t) = g t) → g (boot s) = g s := by
      intro β g hg
      rw [boot_none hm hf h0 h1 hlc, hg, bankBad_keeps hg, bankBad_keeps hg]
    have hh : (bankBad 1 (bankBad 0 s)).faults.held = s.faults.held :=
      (bankBad_keeps (g := fun t => t.faults.held) (fun _ _ => rfl) 1 _).trans (bankBad_keeps (g := fun t => t.faults.held) (fun _ _ => rfl) 0 s)
    refine ⟨collect (boot s), run_running _ hs.1, ?_, ?_, (collect_nvm _).trans (keeps (fun _ _ => rfl)),
      (collect_lc _).trans (keeps (fun _ _ => rfl))⟩
    · rw [boot_none hm hf h0 h1 hlc]
      exact collect_fatal_raised hs.2.1 hr rfl rfl (by rw [hh]; exact hheld)
    · rw [boot_none hm hf h0 h1 hlc]
      exact collect_count_beside hs.2.1 (o := noBank s) rfl hr (.refl 2 _)
  case startup =>
    obtain ⟨htime, hset⟩ := started_nvm hc
    have hruns := started_runs hc hw
    refine ⟨collect (railsAsked s.startRuns), (run_running _ hs.1).trans (by rw [startup_runs hm hf hb hw hc]), ?_, ?_, ?_, ?_,
      fun k hk => ?_, fun code inst hi hr => ?_⟩
    · rw [collect_mgmt, ← runState_mcReset, hruns]
    · rw [collect_started, ← runState_started, hruns]
    · rw [collect_nvm]; exact htime
    · exact (currentSet_of_slots (s := railsAsked s.startRuns) ⟨by rw [collect_nvm], by rw [collect_nvm]⟩).trans hset
    · rw [collect_power]; exact railsAsked_asked _ hk
    · rw [collect_regWritten (collectorCounter_of_isRwp hr) hi]
      exact started_regWritten hc hr hi
  case reset =>
    refine ⟨_, run_resetCmd_controller ha hr tid, controllerReset_holds s q tid, ?_⟩
    exact controllerReset_onlyAnswered s q tid
  case idle =>
    have he : mcResetEnd s = { s with mgmt := { s.mgmt with mcReset := false } } := by
      rw [mcResetEnd, if_pos ⟨hm, hf⟩]
      exact serveWaiting_none hw
    exact run_to hs he rfl
  case nop =>
    exact ⟨_, run_to hs (mcResetEnd_nop hm hf hw) rfl, rfl, answer_holds _ rfl (by rintro h; cases h)⟩

end Sys2Proof.Proofs

/-! PROOFS. The steps of steep and the PMBus requests: the queue, its head, what a done and what a lost request does (R422, R424,
R431, R433–R436). -/

namespace Sys2Proof.Machine

/-! ## The always-on commands -/

theorem runAon_running {s : State} (f : State → State) (hs : s.Ready) : runAon f s = .next (collect (f s)) := by
  obtain ⟨hcore, -⟩ := hs
  rw [State.coreStopped, Bool.or_eq_false_iff] at hcore
  obtain ⟨hfatal, hdown⟩ := hcore
  simp [runAon, hfatal, hdown]

theorem runAon_to {f : State → State} {s t : State} (hs : s.Ready) (h : f s = t) (hf : t.faults = s.faults) :
    runAon f s = .next t := by
  obtain ⟨hcore, hdue, hnext, hacked⟩ := id hs
  rw [runAon_running f hs, h, collect_nil (hf ▸ hdue) (hf ▸ hnext) (hf ▸ hacked)]

theorem State.Ready.coreUp {s : State} (hs : s.Ready) : s.heat.coreDown = false := by
  obtain ⟨hcore, -⟩ := hs
  rw [State.coreStopped, Bool.or_eq_false_iff] at hcore
  exact hcore.2

theorem run_atCluster {f : State → State} {k : Nat} {s t : State} (hs : s.Ready) (hk : k < 9) (h : f s = t)
    (hf : t.faults = s.faults) : run (atCluster k f) s = .next t :=
  run_to hs (by rw [atCluster, if_pos hk, h]) hf

/-! ## The queue of requests -/

/-- The state with the requests named, the first of them at the bus where its time has come (R373, R434). -/
def State.withRequests (s : State) (q : List PmReq) : State := { s with power := { s.power with queue := s.onBus q } }

theorem latchHead_eq (s : State) : latchHead s = s.withRequests s.power.queue := by
  have hq : (latchHead s).power.queue = s.onBus s.power.queue := by
    cases hq : s.power.queue with
    | nil => simp [latchHead, State.modPower, hq, State.onBus]
    | cons r rest => simp [latchHead, State.modPower, hq, State.onBus]
  exact congrArg (fun q => ({ s with power := { s.power with queue := q } } : State)) hq

theorem withRequests_queue (s : State) (q r : List PmReq) : ({ s with power := { s.power with queue := r } } : State).withRequests q = s.withRequests q := by
  unfold State.withRequests State.onBus
  cases q <;> rfl

theorem latchHead_popped (s : State) (rest : List PmReq) :
    latchHead (s.modPower (fun x => { x with queue := rest })) = s.withRequests rest :=
  (latchHead_eq _).trans (withRequests_queue s rest rest)

theorem queuePm_empty {s : State} (h : s.power.queue = []) (r : PmReq) : queuePm r s = s.withRequests [r] := by
  unfold queuePm
  rw [latchHead_eq]
  unfold State.modPower
  dsimp only
  rw [h]
  exact withRequests_queue s [r] _

/-- A request whose time has not come is not at the bus (R434). -/
theorem onBus_later {s : State} {r : PmReq} (h : s.time.tick < r.notBefore) (rest : List PmReq) : s.onBus (r :: rest) = r :: rest := by
  simp [State.onBus, State.pmBegun, h]

theorem onBus_nil (s : State) : s.onBus [] = [] := rfl

/-- The requests, whatever they are at the bus with (R434). -/
def PmReq.plain (r : PmReq) : PmReq := { r with addr := none }

theorem onBus_plain (s : State) (q : List PmReq) : (s.onBus q).map PmReq.plain = q.map PmReq.plain := by
  cases q with
  | nil => rfl
  | cons r rest =>
    unfold State.onBus
    simp only [List.map_cons, List.cons.injEq, and_true]
    split <;> rfl

theorem queuePm_plain (r : PmReq) (s : State) (x : PmReq) :
    x ∈ (queuePm r s).power.queue.map PmReq.plain ↔ x = r.plain ∨ x ∈ s.power.queue.map PmReq.plain := by
  unfold queuePm
  rw [latchHead_eq, State.withRequests]
  dsimp only
  rw [onBus_plain]
  unfold State.modPower
  dsimp only
  cases s.power.queue with
  | nil => simp
  | cons h rest =>
    dsimp only
    split
    · simp only [List.map_cons, List.mem_cons, List.mem_map, mem_insertBy]
      grind
    · simp only [List.map_cons, List.mem_cons, List.mem_map, mem_insertBy]
      grind

theorem queuePm_frame (r : PmReq) (s : State) : ∃ p, queuePm r s = { s with power := p } := ⟨_, rfl⟩

/-! ## The request in progress -/

section
variable {s : State} {r : PmReq} {rest : List PmReq} (hq : s.power.queue = r :: rest) (hw : r.waiting = false)
  (hb : r.notBefore ≤ s.time.tick)
include hq hw hb

/-- An acknowledged request has its effect, a write once BUSY has shown clear (R433). -/
theorem pmbusComplete_ack (w : Nat) (hc : pmWrites r.cmd = false ∨ r.clear = true) :
    pmbusComplete (.ack w) s = pmDone r w (s.withRequests rest) := by
  unfold pmbusComplete
  rw [hq]
  dsimp only
  rw [if_neg (by simp [hw, State.pmBegun, hb]), if_neg (by rcases hc with hc | hc <;> simp [hc]), latchHead_popped]

theorem pmbusComplete_busy (w : Nat) (hc : pmWrites r.cmd = true) (hcl : r.clear = false) : pmbusComplete (.ack w) s = s := by
  unfold pmbusComplete
  rw [hq]
  dsimp only
  rw [if_neg (by simp [hw, State.pmBegun, hb]), if_pos (by simp [hc, hcl])]

/-- A request that fails before its third try is tried again (R433). -/
theorem pmbusComplete_retry {res : PmbusResult} (hres : ∀ w, res ≠ .ack w) (ht : r.tries < 2) :
    pmbusComplete res s = ({ s with power := { s.power with
      queue := { r with tries := r.tries + 1, waiting := true, busy := false, clear := false } :: rest } } : State).bump (pmCause res).1 0 := by
  unfold pmbusComplete
  rw [hq]
  dsimp only
  rw [if_neg (by simp [hw, State.pmBegun, hb])]
  cases res with
  | ack w => exact absurd rfl (hres w)
  | badPec => exact if_pos (show r.tries + 1 < 3 by omega)
  | busyTimeout => exact if_pos (show r.tries + 1 < 3 by omega)
  | nack => exact if_pos (show r.tries + 1 < 3 by omega)

theorem pmbusComplete_lost (ht : r.tries = 2) :
    pmbusComplete .nack s = pmLost r 1 ((s.withRequests rest).bump Code.pmbusNacks 0) := by
  unfold pmbusComplete
  rw [hq]
  dsimp only
  rw [if_neg (by simp [hw, State.pmBegun, hb]), if_neg (show ¬ r.tries + 1 < 3 by omega), latchHead_popped]
  rfl

end

theorem restartSettles_none {s : State} (h : s.heat.restarting = false) : restartSettles s = s := if_pos (.inl h)

/-! ## What a done request does -/

/-- The state with a rail on (R433, R436). -/
def State.railUp (s : State) (rail : Nat) : State := { s with power := { s.power with on := Tab.put s.power.on rail true } }

/-- A rail that comes on tells its die since when it is powered, and nothing else but what waits for it (R433, R437). -/
theorem pmDone_on {s : State} {r : PmReq} (w : Nat) (hc : r.cmd = cmdOperation) (hd : r.data = 0x80) :
    ∃ h : HeatSt, h.coreDown = s.heat.coreDown ∧ h.restarting = s.heat.restarting ∧ pmDone r w s = (match r.wakeOf with
        | some k => ({ s.railUp r.rail with heat := h } : State).modCluster k (fun c => { c with acked := true, tries := r.tries })
        | none => if r.starts && !s.heat.coreDown then pmCheck r.rail r.tries { s.railUp r.rail with heat := h }
                  else { s.railUp r.rail with heat := h }) := by
  unfold pmDone
  rw [if_pos hc, hd]
  simp only [decide_true, if_true]
  cases dieOfRail r.rail with
  | none =>
    refine ⟨s.heat, rfl, rfl, ?_⟩
    cases r.wakeOf <;> rfl
  | some n =>
    refine ⟨(s.setSensor n { s.sensor n with poweredAt := some (((s.sensor n).poweredAt).getD s.time.tick) }).heat, rfl, rfl, ?_⟩
    cases r.wakeOf <;> rfl

/-- The rail of a start-up is followed by its check, which waits for the rail (R429, R449). -/
theorem pmCheck_empty {s : State} (h : s.power.queue = []) (k tries : Nat) : pmCheck (13 + k) tries s =
    { s with power := { s.power with
      queue := [{ pmReq (13 + k) cmdStatus tries 4 none with check := true, notBefore := s.time.tick + 20000 }] } } := by
  have hd : railDelay (13 + k) = 20000 := if_pos (Nat.le_add_right 13 k)
  unfold pmCheck
  rw [queuePm_empty h, State.withRequests, onBus_later, hd]
  rw [hd]
  exact Nat.lt_add_of_pos_right (by decide)

theorem clusterOfRail_line {k : Nat} (hk : k < 9) : clusterOfRail (13 + k) = some k := by
  unfold clusterOfRail
  rw [if_pos (by omega), Nat.add_sub_cancel_left]

/-- A STATUS_WORD of 0 where none was bad before is only noted (R434). -/
theorem takeStatus_good {s : State} {rail w : Nat} (h : Tab.get s.power.status rail 0 = 0) (hw : w = 0x0080 ∨ w = 0) :
    takeStatus rail w s = { s with power := { s.power with status := Tab.put s.power.status rail w } } := by
  unfold takeStatus
  rcases hw with rfl | rfl
  · simp [h, Nat.testBit, State.modPower]
  · simp [h, State.modPower]

/-- The check of a start-up's line rail that finds it good asks for VDD_AFE of the cluster (R429, R449). -/
theorem startChecked_line {s : State} {r : PmReq} {k : Nat} (hr : r.rail = 13 + k) (hk : k < 9) (h5 : (s.cluster k).state ≠ 5)
    (hcore : s.heat.coreDown = false) : startChecked r 0 s = pmOn (4 + k) 4 none s := by
  have hgood : railGood 0 = true := by decide
  have h13 : (13 ≤ 13 + k ∧ true = true ∧ (s.cluster k).state ≠ 5) := ⟨Nat.le_add_right 13 k, rfl, h5⟩
  simp [startChecked, hr, clusterOfRail_line hk, h5, hgood, startRail, hcore, afeRail]

theorem pmDone_check {s : State} {r : PmReq} {k : Nat} (hr : r.rail = 13 + k) (hk : k < 9) (hc : r.cmd = cmdStatus)
    (hch : r.check = true) (h5 : (s.cluster k).state ≠ 5) (hcore : s.heat.coreDown = false)
    (hst : Tab.get s.power.status (13 + k) 0 = 0) :
    pmDone r 0 s = pmOn (4 + k) 4 none { s with power := { s.power with status := Tab.put s.power.status (13 + k) 0 } } := by
  unfold pmDone
  rw [hc, if_neg (show ¬ cmdStatus = cmdOperation by decide), if_neg (show ¬ cmdStatus = cmdVout by decide), if_pos rfl, hr,
    takeStatus_good hst (.inr rfl)]
  dsimp only
  rw [hch, if_pos rfl]
  exact startChecked_line hr hk h5 hcore

/-! ## What a lost request does -/

/-- The last try of a poll raises PMBus-failed, and no more (R433, R403 source 26). -/
theorem pmLost_poll {s : State} {r : PmReq} (hw : r.wakeOf = none) (hc : r.cmd = cmdStatus) (hch : r.check = false) :
    pmLost r 1 s = fault 26 [r.rail] [(1, r.rail), (1, cmdStatus), (1, 1)] (s.bump (Code.railFails + 256 * r.rail) 0) := by
  have hs : r.starts = false := by simp [PmReq.starts, hc, hch, cmdStatus, cmdOperation]
  unfold pmLost
  simp only [hw, hs, hc, railFailed]
  rw [if_neg (by decide), if_neg (by decide), if_neg (fun h => absurd h.1 (by decide))]

end Sys2Proof.Machine

/-! PROOFS. O37: steep entries and exits, and the requests, monitors and polls of the rails (R422, R424, R431–R436). -/

namespace Sys2Proof.Machine

/-! ## Steep -/

/-- A port may enter steep (R422). -/
def State.mayRest (s : State) (p : Nat) : Prop :=
  (s.port p).started = true ∧ (s.port p).mode ≠ 0 ∧ (s.port p).stopped = false ∧ (s.cluster (clusterOf p)).state ≤ 1 ∧
    s.time.running = true

theorem portSteep_span {s : State} {p a b : Nat} (h : s.mayRest p) (hs : s.idleSpan p = some (a, b)) :
    portSteep p s = if a + 200 ≤ b ∧ s.cyclePos + 100 < b then s.modPort p (fun x => { x with steep := true }) else s := by
  unfold State.mayRest at h
  unfold portSteep
  rw [if_pos h, hs]

theorem portSteep_busy {s : State} {p : Nat} (h : s.mayRest p) (hs : s.idleSpan p = none) : portSteep p s = s := by
  unfold State.mayRest at h
  unfold portSteep
  rw [if_pos h, hs]

theorem leaveSteep_ports (p : Nat) (s : State) : (leaveSteep p s).ports = (s.modPort p (fun x => { x with steep := false })).ports := by
  unfold leaveSteep
  dsimp only
  split <;> rfl

theorem leaveSteep_port (p j : Nat) (s : State) :
    (leaveSteep p s).port j = (s.modPort p (fun x => { x with steep := false })).port j := by
  simp only [State.port, leaveSteep_ports]

/-- A port that leaves steep takes its cluster out of Steep (R422, R424). -/
theorem leaveSteep_cluster (p : Nat) (s : State) : (leaveSteep p s).cluster (clusterOf p) =
    (if (s.cluster (clusterOf p)).state = 1 then { s.cluster (clusterOf p) with state := 0, gated := false }
     else s.cluster (clusterOf p)) := by
  unfold leaveSteep
  dsimp only
  split
  · exact State.cluster_modCluster ..
  · rfl

theorem leaveSteep_frame (p : Nat) (s : State) : { leaveSteep p s with ports := s.ports, clusters := s.clusters } = s := by
  unfold leaveSteep
  dsimp only
  split <;> rfl

theorem leaveSteep_faults (p : Nat) (s : State) : (leaveSteep p s).faults = s.faults := by
  unfold leaveSteep
  dsimp only
  split <;> rfl

theorem clusterSteep_rests {s : State} {k : Nat} (h0 : (s.cluster k).state = 0)
    (h : ∀ p ∈ portsOf k, (s.port p).mode = 0 ∨ ((s.port p).steep = true ∧ 400 < s.idleLeft p)) :
    clusterSteep k s = s.modCluster k (fun c => { c with state := 1, gated := true }) := by
  refine if_pos ⟨h0, List.all_eq_true.2 fun p hp => ?_⟩
  rcases h p hp with h | ⟨h1, h2⟩ <;> simp [*]

theorem clusterUnsteep_busy {s : State} {k p : Nat} (h1 : (s.cluster k).state = 1) (hp : p ∈ portsOf k) (hm : (s.port p).mode ≠ 0)
    (hl : s.idleLeft p ≤ 200) : clusterUnsteep k s = s.modCluster k (fun c => { c with state := 0, gated := false }) :=
  if_pos ⟨h1, List.any_eq_true.2 ⟨p, hp, by simp [hm, hl]⟩⟩

theorem clusterUnsteep_idle {s : State} {k : Nat} (h : ∀ p ∈ portsOf k, (s.port p).mode = 0 ∨ 200 < s.idleLeft p) :
    clusterUnsteep k s = s := by
  refine if_neg fun hc => ?_
  obtain ⟨p, hp, hb⟩ := List.any_eq_true.1 hc.2
  simp only [Bool.and_eq_true, decide_eq_true_eq] at hb
  rcases h p hp with h | h
  · exact hb.1 h
  · exact absurd hb.2 (Nat.not_le.2 h)

/-! ## Polling and the monitors -/

/-- Polling asks each rail for its STATUS_WORD and its voltage (R434). -/
def askRail (n : Nat) (s : State) : State := queuePm (pmReq n cmdReadVout 0 4 none) (queuePm (pmReq n cmdStatus 0 4 none) s)

theorem pmbusPolling_eq (s : State) : pmbusPolling s = forAll ((List.range 22).filter s.railOn) askRail s := rfl

theorem askRails_plain (ns : List Nat) (s : State) (x : PmReq) :
    x ∈ (forAll ns askRail s).power.queue.map PmReq.plain ↔
      x ∈ s.power.queue.map PmReq.plain ∨ ∃ n ∈ ns, x = pmReq n cmdStatus 0 4 none ∨ x = pmReq n cmdReadVout 0 4 none := by
  induction ns generalizing s with
  | nil => simp [forAll]
  | cons n ns ih =>
    have h : forAll (n :: ns) askRail s = forAll ns askRail (askRail n s) := rfl
    have hplain : ∀ c, (pmReq n c 0 4 none).plain = pmReq n c 0 4 none := fun _ => rfl
    rw [h, ih, askRail, queuePm_plain, queuePm_plain, hplain, hplain]
    simp only [List.exists_mem_cons_iff]
    grind

/-- A state with what is known of the rails put back. -/
def State.withPower (s : State) (p : PowerSt) : State := { s with power := p }

theorem queuePm_withPower (r : PmReq) (s : State) (p : PowerSt) : (queuePm r s).withPower p = s.withPower p := rfl

theorem askRails_withPower (ns : List Nat) (s : State) (p : PowerSt) : (forAll ns askRail s).withPower p = s.withPower p :=
  forAll_keeps (fun t => t.withPower p) ns askRail (fun _ t => (queuePm_withPower _ _ p).trans (queuePm_withPower _ t p)) s

theorem askRails_faults (ns : List Nat) (s : State) : (forAll ns askRail s).faults = s.faults :=
  forAll_keeps (fun t => t.faults) ns askRail (fun _ _ => rfl) s

/-- A monitor below its margin asks for 10 mV more where the bounds let it (R435). -/
theorem avsAdjust_raises {s : State} {ample : Bool} (he : s.regB Code.avsEnable 0 = true) (hst : s.power.started = true)
    (hat : s.power.avsAt = none) (hlo : s.reg Code.vcoreMin 0 ≤ (s.power.vcore : Int) + 10)
    (hhi : (s.power.vcore : Int) + 10 ≤ s.reg Code.vcoreMax 0) :
    avsAdjust true ample s = pmVcore (s.power.vcore + 10) (s.modPower (fun x => { x with avsAt := some s.time.tick })) := by
  have hwant : clamp (s.reg Code.vcoreMin 0) (s.reg Code.vcoreMax 0) ((s.power.vcore : Int) + 10) = (s.power.vcore : Int) + 10 := by
    unfold clamp
    omega
  have hfree : s.avsFree = true := by rw [State.avsFree, hat]
  have hne : (s.power.vcore : Int) + 10 ≠ (s.power.vcore : Int) := by omega
  unfold avsAdjust
  simp only [if_true, hwant]
  exact if_pos ⟨he, hst, hfree, hne⟩

theorem pmVcore_empty {s : State} (h : s.power.queue = []) (mV : Nat) :
    pmVcore mV s = ({ s with power := { s.power with vcoreAsked := some mV } } : State).withRequests [pmReq 0 cmdVout (voutWord mV) 3 none] :=
  queuePm_empty (s := { s with power := { s.power with vcoreAsked := some mV } }) h _

/-- Power aside, the bus takes a request as it stands (R434). -/
theorem onBus_power (s : State) (p : PowerSt) (q : List PmReq) : ({ s with power := p } : State).onBus q = s.onBus q := by
  cases q <;> rfl

/-! ## Requests that end -/

theorem withRequests_power (s : State) (q : List PmReq) : (s.withRequests q).power = { s.power with queue := s.onBus q } := rfl

/-- A start-up's rail that is acknowledged is on, and its check follows (R429, R449). -/
theorem startRail_done {s : State} {r : PmReq} {k : Nat} (hs : s.Ready) (hr : r.rail = 13 + k) (hc : r.cmd = cmdOperation)
    (hd : r.data = 0x80) (hp : r.prio = 4) (hw : r.wakeOf = none) (ht : r.tries = 0) (w : Nat) :
    ∃ h : HeatSt, h.restarting = s.heat.restarting ∧ pmDone r w (s.withRequests []) =
      { s with heat := h
               power := { s.power with
                 on := Tab.put s.power.on (13 + k) true
                 queue := [{ pmReq (13 + k) cmdStatus 0 4 none with check := true, notBefore := s.time.tick + 20000 }] } } := by
  obtain ⟨h, -, hrest, he⟩ := pmDone_on (s := s.withRequests []) (r := r) w hc hd
  have hstart : (r.starts && !(s.withRequests []).heat.coreDown) = true := by
    have hcore : (s.withRequests []).heat.coreDown = false := hs.coreUp
    rw [hcore]
    simp [PmReq.starts, hc, hd, hp]
  refine ⟨h, hrest, ?_⟩
  rw [he, hw]
  dsimp only
  rw [if_pos hstart, ht, hr, pmCheck_empty rfl]
  rfl

/-- The check that finds a start-up's line rail good is noted, and VDD_AFE is asked for (R429, R449). -/
theorem startCheck_done {s : State} {r : PmReq} {k : Nat} (hs : s.Ready) (hr : r.rail = 13 + k) (hk : k < 9) (hc : r.cmd = cmdStatus)
    (hch : r.check = true) (h5 : (s.cluster k).state ≠ 5) (hst : Tab.get s.power.status (13 + k) 0 = 0) :
    ∃ st, pmDone r 0 (s.withRequests []) =
      { s with power := { s.power with status := st, queue := s.onBus [pmReq (4 + k) cmdOperation 0x80 4 none] } } := by
  refine ⟨Tab.put s.power.status (13 + k) 0, ?_⟩
  rw [pmDone_check (s := s.withRequests []) hr hk hc hch h5 hs.coreUp hst]
  exact queuePm_empty rfl _

/-- Any other rail that is acknowledged on is on, and a wake that waits for it goes on (R429, R433). -/
theorem rail_done {s : State} {r : PmReq} (hc : r.cmd = cmdOperation) (hd : r.data = 0x80) (hp : r.prio ≠ 4)
    (hch : r.check = false) (w : Nat) (rest : List PmReq) :
    ∃ (h : HeatSt) (cs : Tab ClusterSt), h.restarting = s.heat.restarting ∧
      (∀ k, r.wakeOf = some k → Tab.get cs k {} = { s.cluster k with acked := true, tries := r.tries }) ∧
      pmDone r w (s.withRequests rest) = { s with
        heat := h, clusters := cs, power := { s.power with on := Tab.put s.power.on r.rail true, queue := s.onBus rest } } := by
  obtain ⟨h, -, hrest, he⟩ := pmDone_on (s := s.withRequests rest) (r := r) w hc hd
  have hstart : r.starts = false := by simp [PmReq.starts, hp, hch]
  rw [he, hstart]
  cases hw : r.wakeOf with
  | none => exact ⟨h, s.clusters, hrest, by simp, rfl⟩
  | some k =>
    refine ⟨h, Tab.put s.clusters k { s.cluster k with acked := true, tries := r.tries }, hrest, fun j hj => ?_, rfl⟩
    obtain rfl := Option.some.inj hj
    exact Tab.get_put_self ..

theorem requestComplete_to {res : PmbusResult} {s t : State} (hs : s.Ready) (h : pmbusComplete res s = t)
    (hr : t.heat.restarting = false) (hf : t.faults = s.faults) : exec (.pmbusRequestComplete res) s = .next t :=
  runAon_to (f := fun u => restartSettles (pmbusComplete res u)) hs (show restartSettles (pmbusComplete res s) = t by rw [h, restartSettles_none hr]) hf

theorem requestComplete_running {res : PmbusResult} {s t : State} (hs : s.Ready) (h : restartSettles (pmbusComplete res s) = t) :
    exec (.pmbusRequestComplete res) s = .next (collect t) :=
  h ▸ runAon_running (fun u => restartSettles (pmbusComplete res u)) hs

/-- The state with the failure of a rail's poll counted. -/
def State.pollLost (s : State) (rail : Nat) (rest : List PmReq) : State :=
  ((s.withRequests rest).bump Code.pmbusNacks 0).bump (Code.railFails + 256 * rail) 0

theorem pollLost_fields (s : State) (rail : Nat) (rest : List PmReq) :
    (s.pollLost rail rest).power = { s.power with queue := s.onBus rest } ∧ (s.pollLost rail rest).faults = s.faults ∧
      (s.pollLost rail rest).clusters = s.clusters ∧ (s.pollLost rail rest).heat = s.heat ∧ (s.pollLost rail rest).aon = s.aon := by
  have keeps : ∀ {β : Type} {g : State → β}, (∀ (t : State) r, g { t with regs := r } = g t) →
      g (s.pollLost rail rest) = g (s.withRequests rest) :=
    fun hg => (State.bumpBy_keeps hg _ _ 0 1).trans (State.bumpBy_keeps hg _ _ 0 1)
  exact ⟨keeps (fun _ _ => rfl), keeps (fun _ _ => rfl), keeps (fun _ _ => rfl), keeps (fun _ _ => rfl), keeps (fun _ _ => rfl)⟩

theorem railFails_ne (rail : Nat) : Code.pmbusNacks ≠ Code.railFails + 256 * rail := by
  have h1 : Code.pmbusNacks = 0x700101 := rfl
  have h2 : Code.railFails = 0x704007 := rfl
  omega

theorem pollLost_counted (s : State) (rail : Nat) (rest : List PmReq) :
    (s.pollLost rail rest).regWritten Code.pmbusNacks 0 = some (min (((s.regN Code.pmbusNacks 0 + 1 : Nat)) : Int) (2 ^ 32 - 1)) := by
  have hne := objKey_ne (railFails_ne rail) (i := 0) (j := 0) (by decide) (by decide)
  exact (bumpBy_regWritten hne 1 _).trans (regWritten_bump (s.withRequests rest) Code.pmbusNacks 0)

/-- The occurrence of a rail whose poll has failed for good (R403 source 26). -/
def railOcc (rail : Nat) : Occ := { source := 26, key := [rail], detail := [(1, rail), (1, cmdStatus), (1, 1)] }

theorem notice_power (o : Occ) (t : State) : (notice o t).power = t.power := rfl
theorem notice_clusters (o : Occ) (t : State) : (notice o t).clusters = t.clusters := rfl
theorem notice_heat (o : Occ) (t : State) : (notice o t).heat = t.heat := rfl
theorem notice_regs (o : Occ) (t : State) : (notice o t).regs = t.regs := rfl

theorem pollLost_run {s : State} {r : PmReq} {rest : List PmReq} (hs : s.Ready) (hq : s.power.queue = r :: rest)
    (hw : r.waiting = false) (hb : r.notBefore ≤ s.time.tick) (hrest : s.heat.restarting = false) (ht : r.tries = 2)
    (hwake : r.wakeOf = none) (hc : r.cmd = cmdStatus) (hch : r.check = false) :
    exec (.pmbusRequestComplete .nack) s = .next (collect (notice (railOcc r.rail) (s.pollLost r.rail rest))) := by
  obtain ⟨-, -, -, hheat, -⟩ := pollLost_fields s r.rail rest
  have hr : (notice (railOcc r.rail) (s.pollLost r.rail rest)).heat.restarting = false := by
    rw [notice_heat, hheat, hrest]
  refine requestComplete_running hs ?_
  rw [pmbusComplete_lost hq hw hb ht, pmLost_poll hwake hc hch, ← State.pollLost]
  exact restartSettles_none hr

theorem pollLost_power (s : State) (rail : Nat) (rest : List PmReq) :
    (collect (notice (railOcc rail) (s.pollLost rail rest))).power = { s.power with queue := s.onBus rest } := by
  obtain ⟨hpow, -⟩ := pollLost_fields s rail rest
  rw [collect_power, notice_power, hpow]

theorem pollLost_count {s : State} (hs : s.Ready) (rail : Nat) (rest : List PmReq) :
    (collect (notice (railOcc rail) (s.pollLost rail rest))).faultCount 26 = min (s.faultCount 26 + 1) (2 ^ 32 - 1) := by
  obtain ⟨-, hfaults, -, -, haon⟩ := pollLost_fields s rail rest
  exact collect_count_beside hs.2.1 (o := railOcc rail) rfl (.of_same (by rw [hfaults]) (by rw [haon])) (.refl 26 _)

theorem pollLost_clusters (s : State) (rail : Nat) (rest : List PmReq) (k : Nat) :
    sameButLink ((collect (notice (railOcc rail) (s.pollLost rail rest))).cluster k) (s.cluster k) := by
  obtain ⟨-, -, hclusters, -⟩ := pollLost_fields s rail rest
  have hk : (notice (railOcc rail) (s.pollLost rail rest)).cluster k = s.cluster k := by
    rw [State.cluster, notice_clusters, hclusters, ← State.cluster]
  have h := collect_sameButLink (notice (railOcc rail) (s.pollLost rail rest)) k
  rw [hk] at h
  exact h

theorem pollLost_nacks (s : State) (rail : Nat) (rest : List PmReq) :
    (collect (notice (railOcc rail) (s.pollLost rail rest))).reg Code.pmbusNacks 0 =
      min (((s.regN Code.pmbusNacks 0 + 1 : Nat)) : Int) (2 ^ 32 - 1) := by
  refine State.reg_of_written ((collect_regWritten (by decide) (by decide) _).trans ?_)
  rw [State.regWritten, notice_regs, ← State.regWritten]
  exact pollLost_counted s rail rest

end Sys2Proof.Machine

namespace Sys2Proof.Proofs

open Machine

/-- Settles O37, event by event. -/
theorem steepAndRails : Obligations.SteepAndRails := by
  refine ⟨fun p s hs hp hst hm hsp hc hrun => ?entry, fun p s hs hp hst hsta => ?exit, fun k s hs hk h0 h => ?centry,
    fun k s hs hk h1 => ?cexit, fun r rest s hs hq hw hb hrest => ?complete, fun r rest w s hs hq hw hb hc hword hst => ?poll,
    fun r rest s hs hq hw => ?retry, fun s hs hq => ?polling, fun ample s hs he hst hat hlo hhi hq => ?avs⟩
  case entry =>
    have h : s.mayRest p := ⟨hst, hm, hsp, hc, hrun⟩
    refine ⟨fun a b hi h1 h2 => ?_, fun a b hi hno => ?_, fun hi => ?_⟩
    · exact run_atPort hs hp ((portSteep_span h hi).trans (if_pos ⟨h1, h2⟩)) rfl
    · exact run_atPort hs hp ((portSteep_span h hi).trans (if_neg (by omega))) rfl
    · exact run_atPort hs hp (portSteep_busy h hi) rfl
  case exit =>
    refine ⟨fun hl => ?_, fun hl => ?_⟩
    · refine ⟨leaveSteep p s, run_atPort hs hp (if_pos ⟨hst, hsta, hl⟩) (leaveSteep_faults p s), ?_, fun j hj => ?_, leaveSteep_cluster p s,
        leaveSteep_frame p s⟩
      · rw [leaveSteep_port, State.port_modPort]
      · rw [leaveSteep_port, State.port_modPort_ne _ _ hj]
    · exact run_atPort hs hp (if_neg (fun h => absurd h.2.2 (Nat.not_le.2 hl))) rfl
  case centry => exact run_atCluster hs hk (clusterSteep_rests h0 h) rfl
  case cexit =>
    exact ⟨fun p hp hm hl => run_atCluster hs hk (clusterUnsteep_busy h1 hp hm hl) rfl,
      fun h => run_atCluster hs hk (clusterUnsteep_idle h) rfl⟩
  case complete =>
    refine ⟨fun w k hr hnil hk => ?start, fun k hr hc hch hwake hnil hk h5 hst => ?check, fun w hc hcl => ?busy,
      fun w hc hd hp hch hcl => ?done, fun res hres ht => ?again, fun ht hwake hc hch _ => ?lost⟩
    case start =>
      obtain rfl := hnil
      obtain ⟨h, hr', he⟩ := startRail_done (r := r) (k := k) hs (congrArg PmReq.rail hr) (congrArg PmReq.cmd hr)
        (congrArg PmReq.data hr) (congrArg PmReq.prio hr) (congrArg PmReq.wakeOf hr) (congrArg PmReq.tries hr) w
      have hcl : r.clear = true := congrArg PmReq.clear hr
      refine ⟨_, requestComplete_to hs ((pmbusComplete_ack hq hw hb w (.inr hcl)).trans he) (hr'.trans hrest) rfl, ?_, rfl, rfl, rfl, rfl⟩
      exact Tab.get_put_self ..
    case check =>
      obtain rfl := hnil
      obtain ⟨st, he⟩ := startCheck_done hs hr hk hc hch h5 hst
      exact ⟨_, requestComplete_to hs ((pmbusComplete_ack hq hw hb 0 (.inl (by rw [hc]; rfl))).trans he) hrest rfl, rfl, rfl, rfl, rfl⟩
    case busy =>
      exact requestComplete_to hs (pmbusComplete_busy hq hw hb w (by rw [hc]; rfl) hcl) hrest rfl
    case done =>
      obtain ⟨h, cs, hr', hcs, he⟩ := rail_done (s := s) hc hd hp hch w rest
      exact ⟨_, requestComplete_to hs ((pmbusComplete_ack hq hw hb w (.inr hcl)).trans he) (hr'.trans hrest) rfl, rfl, hcs, rfl, rfl, rfl⟩
    case again =>
      have hno : ∀ w, res ≠ .ack w := by rcases hres with rfl | rfl | rfl <;> simp
      have he := pmbusComplete_retry hq hw hb hno ht
      exact ⟨_, requestComplete_to hs he (by simpa using hrest) (by simp), by simp, by simp, by simp, by simp⟩
    case lost =>
      exact ⟨_, pollLost_run hs hq hw hb hrest ht hwake hc hch, pollLost_power s r.rail rest, pollLost_count hs r.rail rest,
        pollLost_clusters s r.rail rest, pollLost_nacks s r.rail rest⟩
  case poll =>
    have he : pmbusBusyPoll w s = { s with power := { s.power with
        queue := { r with busy := decide (w = 0x0080), clear := decide (w = 0) } :: rest
        status := Tab.put s.power.status r.rail w } } := by
      have hbit : w.testBit 7 = decide (w = 0x0080) ∧ (!w.testBit 7) = decide (w = 0) := by rcases hword with rfl | rfl <;> decide
      unfold pmbusBusyPoll
      rw [hq]
      dsimp only
      rw [if_neg (by simp [hw, State.pmBegun, hb, hc, pmWrites, cmdOperation]), hbit.2, hbit.1]
      exact takeStatus_good hst hword
    exact runAon_to hs he rfl
  case retry =>
    have he : pmbusRetry s = ({ s with power := { s.power with queue := { r with waiting := false } :: rest } } : State).bump
        Code.pmbusRetries 0 := by
      unfold pmbusRetry
      rw [hq]
      exact if_pos hw
    exact runAon_to hs he (by simp)
  case polling =>
    have hframe := askRails_withPower ((List.range 22).filter s.railOn) s s.power
    refine ⟨_, runAon_to hs (pmbusPolling_eq s) (askRails_faults _ s), hframe, fun x => ?_⟩
    have h := askRails_plain ((List.range 22).filter s.railOn) s x
    rw [hq] at h
    refine h.trans ?_
    simp only [List.map_nil, List.not_mem_nil, false_or, List.mem_filter, List.mem_range, and_assoc]
    rfl
  case avs =>
    have he : avsAdjust true ample s = { s with power := { s.power with
        avsAt := some s.time.tick
        vcoreAsked := some (s.power.vcore + 10)
        queue := s.onBus [pmReq 0 0x21 (voutWord (s.power.vcore + 10)) 3 none] } } := by
      rw [avsAdjust_raises he hst hat hlo hhi, pmVcore_empty (s := s.modPower (fun x => { x with avsAt := some s.time.tick })) hq]
      rfl
    exact run_to hs he rfl

end Sys2Proof.Proofs

/-! PROOFS. O38, refuted: the shutdown of a line die that ends a move of drops from a port that is none (R215, R439). -/

namespace Sys2Proof.Machine

/-- The port number whose RELEASES shares its key in the value table with LINE_DIE_SHUTDOWNS. -/
def farSource : Nat := (Code.lineDieShutdowns - Code.releases) * 2 ^ 24

/-- A move of drops from that port, drop 1 active on it, onto a port of cluster 0. -/
def farMove : State :=
  { State.reset with
    ports := [(0, { ({} : PortSt) with
      move := some { trigger := 0, apply := 1, source := farSource, reason := 1, drops := [1], map := {}, trunk := false } })]
    ctxs := [(dropKey farSource 1, { ({} : Ctx) with state := 2 })] }

theorem farMove_ready : farMove.Ready := by decide +kernel

/-- The shutdown of die 0 releases the drop that the move had taken up, and counts that release too (R215). -/
theorem farMove_lineDie :
    valueAfter (exec (.thermalSample ((List.replicate 10 (0 : Int)).set 1 2000)) farMove) Code.lineDieShutdowns 0 = some 2 := by
  decide +kernel

end Sys2Proof.Machine

namespace Sys2Proof.Proofs

open Machine

/-- Refutes O38: a line die at 125 °C shuts down the cluster of a port to which a drop moves from the port whose RELEASES and
LINE_DIE_SHUTDOWNS are one entry of the value table: the release of that drop and the shutdown count two there. -/
theorem not_heatIsGoverned : ¬ Obligations.HeatIsGoverned := by
  rintro ⟨-, -, -, -, h, -⟩
  obtain ⟨t, ht, -, -, hreg, -⟩ := h 0 2000 farMove farMove_ready (by decide) (by decide) (by decide +kernel) (by decide +kernel)
    (by decide +kernel)
  exact absurd (valueAfter_ne farMove_lineDie ht hreg) (by decide +kernel)

end Sys2Proof.Proofs

/-! PROOFS. The copy of a tap store from one engine to another, and the load of a trunk's context (R48, R144, R382, R387). -/

namespace Sys2Proof.Machine

/-! ## Words marked bad -/

theorem sramUncorrectable_isBad_iff (mem w access master : Nat) (s : State) (k v : Nat) :
    (sramUncorrectable mem w access master s).isBad k v = true ↔ (k = mem ∧ v = w) ∨ s.isBad k v = true := by
  rw [State.isBad_iff, State.isBad_iff]
  exact (mem_addTo _ _ _).trans (by rw [Prod.mk.injEq])

theorem wordsUncorrectable_isBad_iff (mem : Nat) (at_ : Nat → Nat) (access master : Nat) (ws : List Nat) (s : State) (k v : Nat) :
    (forAll ws (fun w t => sramUncorrectable mem (at_ w) access master t) s).isBad k v = true ↔
      (k = mem ∧ v ∈ ws.map at_) ∨ s.isBad k v = true := by
  induction ws generalizing s with
  | nil => exact ⟨.inr, fun h => h.elim (fun h => absurd h.2 List.not_mem_nil) id⟩
  | cons w ws ih =>
    refine (ih _).trans ?_
    rw [sramUncorrectable_isBad_iff, List.map_cons, List.mem_cons]
    tauto

theorem clearBad_isBad_iff (mem w n : Nat) (s : State) (k v : Nat) :
    (clearBad mem w n s).isBad k v = true ↔ s.isBad k v = true ∧ ¬ (k = mem ∧ w ≤ v ∧ v < w + n) := by
  rw [State.isBad_iff, State.isBad_iff]
  refine List.mem_filter.trans (and_congr_right fun _ => ?_)
  simp only [Bool.not_eq_true', Bool.and_eq_false_iff, beq_eq_false_iff_ne, decide_eq_false_iff_not, ne_eq, not_and_or, or_assoc]

/-! ## The copy of a tap store -/

/-- The words of an engine's tap store that a copy cannot read (R48, R382). -/
def State.tapsLost (s : State) (x : Nat) (bad : List Nat) : List Nat :=
  (List.range tapWords).filter (fun w => bad.contains w || s.isBad 4 (tapWord x w))

/-- Echo-canceller taps with those of the lost words 0 (R382). -/
def tapsZeroed (lost : List Nat) (ech : List Int) : List Int := ech.mapIdx (fun i c => if lost.contains (i / 4) then 0 else c)

theorem tapsZeroed_twice (lost : List Nat) (ech : List Int) : tapsZeroed lost (tapsZeroed lost ech) = tapsZeroed lost ech := by
  unfold tapsZeroed
  rw [List.mapIdx_mapIdx]
  congr 1
  funext i c
  simp only [Function.comp]
  split <;> rfl

/-- An engine whose store lacks the lost words of a copy (R382). -/
def EngineSt.copied (lost : List Nat) (e : EngineSt) : EngineSt := { e with zeroed := lost }

/-- A port whose taps a copy has taken over (R382). -/
def PortSt.copied (lost : List Nat) (x : PortSt) : PortSt :=
  { x with trunk := { x.trunk with ech := tapsZeroed lost x.trunk.ech } }

theorem PortSt.copied_twice (lost : List Nat) (x : PortSt) : (x.copied lost).copied lost = x.copied lost := by
  unfold PortSt.copied
  dsimp only
  rw [tapsZeroed_twice]

/-- What a copy of tap stores has done (R382, R387). -/
structure TapsCopied (p x y : Nat) (lost : List Nat) (s t : State) : Prop where
  clean : ∀ w, w < 384 → t.isBad 4 (tapWord y w) = false
  marked : ∀ w, w < 384 → t.isBad 4 (tapWord x w) = lost.contains w
  loaded : t.engine y = (s.engine y).copied lost
  engines : ∀ e, e ≠ y → t.engine e = s.engine e
  port : t.port p = (s.port p).copied lost
  ports : ∀ j, j ≠ p → t.port j = s.port j

/-- The words of a tap store that a copy is the first to find unreadable, met one after the other (R48, R382). -/
def State.tapsMet (s : State) (x : Nat) (lost : List Nat) : State :=
  forAll (lost.filter (fun w => !s.isBad 4 (tapWord x w)))
    (fun w t => sramUncorrectable 4 (tapWord x w) accRead (masterEngine x) t) s

theorem copyTaps_eq (p x y : Nat) (bad : List Nat) (s : State) : copyTaps p x y bad s =
    clearBad 4 (tapWord y 0) tapWords (((s.tapsMet x (s.tapsLost x bad)).modPort p (PortSt.copied (s.tapsLost x bad))).modEngine y
      (EngineSt.copied (s.tapsLost x bad))) := rfl

theorem clearBad_engine (mem w n : Nat) (s : State) (e : Nat) : (clearBad mem w n s).engine e = s.engine e := rfl
theorem clearBad_port (mem w n : Nat) (s : State) (p : Nat) : (clearBad mem w n s).port p = s.port p := rfl
theorem modEngine_port (s : State) (e : Nat) (f : EngineSt → EngineSt) (p : Nat) : (s.modEngine e f).port p = s.port p := rfl
theorem modPort_engine (s : State) (p : Nat) (f : PortSt → PortSt) (e : Nat) : (s.modPort p f).engine e = s.engine e := rfl
theorem State.engine_of_engines {s t : State} (h : t.engines = s.engines) (e : Nat) : t.engine e = s.engine e := by
  simp only [State.engine, h]

theorem tapsMet_keeps {β : Type} {g : State → β}
    (hg : ∀ (t : State) f b, g { t with faults := f, test := { t.test with badWords := b } } = g t) (x : Nat) (lost : List Nat)
    (s : State) : g (s.tapsMet x lost) = g s :=
  forAll_keeps g _ _ (fun _ t => hg t _ _) s

theorem tapsMet_isBad {x w : Nat} {s : State} {bad : List Nat} (hw : w < 384) :
    (s.tapsMet x (s.tapsLost x bad)).isBad 4 (tapWord x w) = (s.tapsLost x bad).contains w := by
  rw [Bool.eq_iff_iff, State.tapsMet, wordsUncorrectable_isBad_iff, List.contains_iff_mem]
  have hmem : w ∈ s.tapsLost x bad ↔ w ∈ bad ∨ s.isBad 4 (tapWord x w) = true := by
    simp [State.tapsLost, tapWords, hw]
  have hinj : ∀ v, v < 384 → tapWord x w = tapWord x v → v = w := fun v hv h => by simp only [tapWord, tapWords] at h; omega
  rw [hmem, List.mem_map]
  constructor
  · rintro (⟨-, v, hv, he⟩ | h)
    · obtain ⟨hv, -⟩ := List.mem_filter.1 hv
      have hlt : v < 384 := List.mem_range.1 (List.mem_filter.1 hv).1
      obtain rfl := hinj v hlt he.symm
      exact hmem.1 hv
    · exact .inr h
  · intro h
    by_cases hb : s.isBad 4 (tapWord x w) = true
    · exact .inr hb
    · exact .inl ⟨rfl, w, List.mem_filter.2 ⟨hmem.2 h, by simpa using hb⟩, rfl⟩

theorem copyTaps_copied {p x y : Nat} (h : y ≠ x) (bad : List Nat) (s : State) :
    TapsCopied p x y (s.tapsLost x bad) s (copyTaps p x y bad s) := by
  have hports : (s.tapsMet x (s.tapsLost x bad)).ports = s.ports := tapsMet_keeps (fun _ _ _ => rfl) x _ s
  have hengines : (s.tapsMet x (s.tapsLost x bad)).engines = s.engines := tapsMet_keeps (fun _ _ _ => rfl) x _ s
  have hbad := fun w hw => tapsMet_isBad (x := x) (w := w) (s := s) (bad := bad) hw
  rw [copyTaps_eq]
  generalize s.tapsLost x bad = lost at hports hengines hbad ⊢
  generalize s.tapsMet x lost = u at hports hengines hbad ⊢
  refine ⟨fun w hw => ?_, fun w hw => ?_, ?_, fun e he => ?_, ?_, fun j hj => ?_⟩
  · have hword : tapWord y w = tapWord y 0 + w := by simp only [tapWord, tapWords]; omega
    rw [hword]
    exact clearBad_self 4 _ _ w hw _
  · rw [← hbad w hw, Bool.eq_iff_iff, clearBad_isBad_iff]
    refine ⟨fun hc => hc.1, fun hc => ⟨hc, ?_⟩⟩
    simp only [tapWord, tapWords]
    omega
  · rw [clearBad_engine, State.engine_modEngine, modPort_engine, State.engine_of_engines hengines]
  · rw [clearBad_engine, State.engine_modEngine_ne he, modPort_engine, State.engine_of_engines hengines]
  · rw [clearBad_port, modEngine_port, State.port_modPort, State.port_of_ports hports]
  · rw [clearBad_port, modEngine_port, State.port_modPort_ne _ _ hj, State.port_of_ports hports]

/-- A copy leaves what sees neither the ports, the engines, the faults nor the words marked bad. -/
theorem copyTaps_keeps {β : Type} {g : State → β}
    (hg : ∀ (t : State) p e f b, g { t with ports := p, engines := e, faults := f, test := { t.test with badWords := b } } = g t)
    (p x y : Nat) (bad : List Nat) (s : State) : g (copyTaps p x y bad s) = g s := by
  rw [copyTaps_eq]
  generalize hu : s.tapsMet x (s.tapsLost x bad) = u
  have hmet : g u = g s := hu ▸ tapsMet_keeps (fun t f b => hg t t.ports t.engines f b) x _ s
  exact (hg u _ _ u.faults _).trans hmet

/-- Both runs of a copy lose the same words (R382). -/
theorem tapsLost_copied {p x y : Nat} {bad : List Nat} {s t : State} (h : TapsCopied p x y (s.tapsLost x bad) s t) :
    t.tapsLost x bad = s.tapsLost x bad := by
  refine List.filter_congr fun w hw => ?_
  have hlt : w < 384 := List.mem_range.1 hw
  have hmem : w ∈ s.tapsLost x bad ↔ w ∈ bad ∨ s.isBad 4 (tapWord x w) = true := by
    simp [State.tapsLost, tapWords, hlt]
  rw [h.marked w hlt, Bool.eq_iff_iff]
  simp only [Bool.or_eq_true, List.contains_iff_mem, hmem]
  tauto

theorem TapsCopied.trans {p x y : Nat} {lost : List Nat} {s t u : State} (h1 : TapsCopied p x y lost s t) (h2 : TapsCopied p x y lost t u) :
    TapsCopied p x y lost s u where
  clean := h2.clean
  marked := h2.marked
  loaded := by rw [h2.loaded, h1.loaded]; rfl
  engines e he := (h2.engines e he).trans (h1.engines e he)
  port := by rw [h2.port, h1.port, PortSt.copied_twice]
  ports j hj := (h2.ports j hj).trans (h1.ports j hj)

/-- The copy of a migration: once more where the check over both stores differs (R382). -/
def tapsCopied (p x y : Nat) (crcEqual : Bool) (bad : List Nat) (s : State) : State :=
  if crcEqual then copyTaps p x y bad s else copyTaps p x y bad (copyTaps p x y bad s)

theorem tapsCopied_copied {p x y : Nat} (h : y ≠ x) (crcEqual : Bool) (bad : List Nat) (s : State) :
    TapsCopied p x y (s.tapsLost x bad) s (tapsCopied p x y crcEqual bad s) := by
  have h1 := copyTaps_copied (p := p) h bad s
  unfold tapsCopied
  split
  · exact h1
  · have h2 := copyTaps_copied (p := p) h bad (copyTaps p x y bad s)
    rw [tapsLost_copied h1] at h2
    exact h1.trans h2

theorem tapsCopied_keeps {β : Type} {g : State → β}
    (hg : ∀ (t : State) p e f b, g { t with ports := p, engines := e, faults := f, test := { t.test with badWords := b } } = g t)
    (p x y : Nat) (crcEqual : Bool) (bad : List Nat) (s : State) : g (tapsCopied p x y crcEqual bad s) = g s := by
  unfold tapsCopied
  split
  · exact copyTaps_keeps hg p x y bad s
  · exact (copyTaps_keeps hg p x y bad _).trans (copyTaps_keeps hg p x y bad s)

/-- Where every lost word is marked already, a copy raises nothing (R48). -/
theorem tapsMet_marked {x : Nat} {bad : List Nat} {s : State}
    (h : ∀ w ∈ bad, w < 384 → s.isBad 4 (tapWord x w) = true) : s.tapsMet x (s.tapsLost x bad) = s := by
  have hnone : (s.tapsLost x bad).filter (fun w => !s.isBad 4 (tapWord x w)) = [] := by
    refine List.filter_eq_nil_iff.2 fun w hw => ?_
    obtain ⟨hr, hb⟩ := List.mem_filter.1 hw
    rw [Bool.or_eq_true, List.contains_iff_mem] at hb
    simp [hb.elim (fun hb => h w hb (List.mem_range.1 hr)) id]
  unfold State.tapsMet
  rw [hnone]
  rfl

theorem copyTaps_faults {p x y : Nat} {bad : List Nat} {s : State} (h : ∀ w ∈ bad, w < 384 → s.isBad 4 (tapWord x w) = true) :
    (copyTaps p x y bad s).faults = s.faults := by
  rw [copyTaps_eq, tapsMet_marked h]
  rfl

theorem tapsCopied_faults {p x y : Nat} (hy : y ≠ x) {crcEqual : Bool} {bad : List Nat} {s : State}
    (h : ∀ w ∈ bad, w < 384 → s.isBad 4 (tapWord x w) = true) : (tapsCopied p x y crcEqual bad s).faults = s.faults := by
  unfold tapsCopied
  split
  · exact copyTaps_faults h
  · refine (copyTaps_faults fun w hw hlt => ?_).trans (copyTaps_faults h)
    rw [(copyTaps_copied hy bad s).marked w hlt, List.contains_iff_mem, State.tapsLost, List.mem_filter]
    exact ⟨List.mem_range.2 hlt, by simp [hw]⟩

end Sys2Proof.Machine

/-! PROOFS. The load of a trunk's context by its new engine (R48, R144, R165, R383). -/

namespace Sys2Proof.Machine

/-! ## What a load of a drop's context leaves alone -/

/-- What sees neither a drop's context nor its words and counters. -/
structure ContextBlind {β : Type} (p d : Nat) (g : State → β) : Prop where
  ctxs : ∀ (t : State) f c, g { t with free := f, ctxs := c } = g t
  corrected : ∀ t, g (sramCorrected 2 t) = g t
  unread : ∀ w a m t, g (sramUncorrectable 2 w a m t) = g t
  clear : ∀ w t, g (clearBad 2 w 1 t) = g t
  counter : ∀ (t : State) c v, 0x400000 ≤ c → g (t.setReg c (dropKey p d) v) = g t
  counted : ∀ t, g (countDrop p d Code.ctxEccStarts Code.ctxEcc t) = g t

theorem ctxCounters_high {w c : Nat} (h : ctxCounters w = some c) : 0x400000 ≤ c := by
  unfold ctxCounters at h
  split at h
  · cases h; omega
  · split at h
    · cases h; omega
    · cases h

section
variable {β : Type} {p d : Nat} {g : State → β} (h : ContextBlind p d g)
include h

theorem ContextBlind.drawn (t : State) (f : Ctx → Ctx) : g (t.draw.2.modCtx p d f) = g t := h.ctxs t _ _

theorem ContextBlind.counters (words : List Nat) (t : State) : g (forAll words (fun w t => match ctxCounters w with
    | some c => (t.setReg c (dropKey p d) 0).setReg (c + 1) (dropKey p d) 0
    | none => t) t) = g t := by
  refine forAll_keeps g _ _ (fun w t => ?_) t
  split
  next c hc =>
    have hhigh := ctxCounters_high hc
    exact (h.counter _ _ _ (by omega)).trans (h.counter _ _ _ hhigh)
  · rfl

theorem ContextBlind.rebuildCtx (words : List Nat) (t : State) : g (rebuildCtx p d words t) = g t := by
  have hif : ∀ (c : Prop) [Decidable c] (t : State) f, g (if c then t.draw.2.modCtx p d f else t) = g t := by
    intro c _ t f
    split
    · exact h.drawn t f
    · rfl
  unfold Machine.rebuildCtx
  split
  · rfl
  dsimp only
  refine (forAll_keeps g _ _ (fun w t => h.clear _ t) _).trans ?_
  rw [hif, hif]
  exact (forAll_keeps g _ _ (fun i t => hif _ t _) _).trans (h.counters words t)

theorem ContextBlind.readContext (errors : List (Nat × Ecc)) (t : State) : g (readContext p d errors t).1 = g t := by
  unfold Machine.readContext
  dsimp only
  refine (h.rebuildCtx _ _).trans ?_
  have h3 : ∀ (es : List (Nat × Ecc)) ws (f : Ctx → Ctx) m, g (forAll ws (fun w t => sramUncorrectable 2 (ctxWord p d + w) accRead m t)
      (forAll es (fun _ t => sramCorrected 2 t) (t.modCtx p d f))) = g t := fun es ws f m =>
    (forAll_keeps g _ _ (fun w u => h.unread _ _ _ u) _).trans ((forAll_keeps g _ _ (fun _ u => h.corrected u) _).trans (h.ctxs t _ _))
  split
  · exact (h.counted _).trans (h3 _ _ _ _)
  · exact h3 _ _ _ _

/-- The load of a trunk's context leaves what does not see its receiver either (R165). -/
theorem ContextBlind.trunkLoad (hd : d = 1) (hrx : RxBlind g) (t : State) : g (trunkLoad p [] t) = g t := by
  subst hd
  exact (hrx.startTiming p _ _).trans ((hrx _ p _).trans (h.readContext [] t))

end

theorem ContextBlind.of_fields {β : Type} {p d : Nat} {g : State → β}
    (hg : ∀ (t : State) f c x y r, g { t with free := f, ctxs := c, test := x, faults := y, regs := r } = g t) : ContextBlind p d g where
  ctxs t f c := hg t f c t.test t.faults t.regs
  corrected t := hg t t.free t.ctxs _ t.faults t.regs
  unread _ _ _ t := hg t t.free t.ctxs _ _ t.regs
  clear _ t := hg t t.free t.ctxs _ t.faults t.regs
  counter t _ _ _ := hg t t.free t.ctxs t.test t.faults _
  counted t := countDrop_keeps (fun u r => hg u u.free u.ctxs u.test u.faults r) p d _ _ t

/-- The words of the tap stores that are marked bad. -/
def State.tapsBad (s : State) : List (Nat × Nat) := s.test.badWords.filter (fun w => w.1 == 4)

theorem isBad_of_tapsBad {s t : State} (h : t.tapsBad = s.tapsBad) (w : Nat) : t.isBad 4 w = s.isBad 4 w := by
  have hmem : ∀ u : State, u.isBad 4 w = true ↔ (4, w) ∈ u.tapsBad := fun u => by
    rw [State.isBad_iff, State.tapsBad, List.mem_filter]
    simp
  rw [Bool.eq_iff_iff, hmem, hmem, h]

theorem contextBlind_tapsBad (p d : Nat) : ContextBlind p d State.tapsBad where
  ctxs _ _ _ := rfl
  corrected _ := rfl
  unread w _ _ t := by
    change (addTo (2, w) t.test.badWords).filter _ = _
    unfold addTo
    split
    · rfl
    · rw [List.filter_append]
      exact List.append_nil _
  clear w t := by
    refine List.filter_filter.trans (List.filter_congr fun x _ => ?_)
    by_cases hx : x.1 = 4
    · simp [hx]
    · simp [hx]
  counter _ _ _ _ := rfl
  counted t := countDrop_keeps (g := State.tapsBad) (fun _ _ => rfl) p d _ _ t

theorem contextBlind_reg {c i p d : Nat} (hc : c < 0x400000) (hne : c ≠ Code.ctxEccStarts) (hi : i < 2 ^ 24) (hp : p < 2 ^ 24)
    (hd : dropKey p d < 2 ^ 24) : ContextBlind p d (fun t => t.regWritten c i) where
  ctxs _ _ _ := rfl
  corrected _ := rfl
  unread _ _ _ _ := rfl
  clear _ _ := rfl
  counter t e v he := State.regWritten_setReg_ne t v (objKey_ne (by omega) hi hd)
  counted t := (bumpBy_regWritten (objKey_ne (by unfold Code.ctxEcc; omega) hi hd) 1 _).trans (bumpBy_regWritten (objKey_ne hne hi hp) 1 t)

/-- A working value that has no rule of its own reads the same where it is written the same (R336). -/
theorem reg_of_regWritten {s t : State} {c i : Nat} (h : t.regWritten c i = s.regWritten c i) (hr : c ≠ Code.rollCall)
    (hd : c ≠ Code.dsWindow) (hw : c ≠ Code.contWindow) : t.reg c i = s.reg c i := by
  have hp : plainDefault c i t.time.n = plainDefault c i s.time.n := by simp only [plainDefault, if_neg hd, if_neg hw]
  unfold State.reg
  rw [h]
  cases s.regWritten c i with
  | some v => rfl
  | none => simp only [if_neg hr, hp]

end Sys2Proof.Machine

/-! PROOFS. Migrations: the port, its engines and their tap stores behind the move (R382–R387). -/

namespace Sys2Proof.Machine

/-- A port that has moved to an engine, its beacon cut off where the move falls into it (R382, R384). -/
def PortSt.movedAt (home y : Nat) (cut : Bool) (z : PortSt) : PortSt :=
  { z with movedTo := if y = home then none else some y, beaconCut := z.beaconCut || cut }

/-- An engine that a port has left, under test (R386). -/
def EngineSt.released (tick : Nat) (e : EngineSt) : EngineSt :=
  { e with state := 2, since := tick, second := false, failing := false, target := none, rotating := false, zeroed := [] }

/-- An engine that serves a port (R380). -/
def EngineSt.taken (tick : Nat) (e : EngineSt) : EngineSt := { e with state := 0, since := tick }

/-- The state of a migration with the taps copied and both engines in their new states (R382, R386). -/
def State.enginesMoved (s : State) (p x y : Nat) (crcEqual : Bool) (bad : List Nat) : State :=
  ((tapsCopied p x y crcEqual bad (s.modPort p (PortSt.movedAt (engineOf p) y (s.beaconBoundary p)))).modEngine x
    (EngineSt.released s.time.tick)).modEngine y (EngineSt.taken s.time.tick)

/-- The new engine of a trunk that is on has loaded its context (R383). -/
def moveLoaded (p : Nat) (t : State) : State := if t.trunkOn p then trunkLoad p [] t else t

/-- The end of a migration: a trunk's context loaded, and the migration counted (R383, R385). -/
def State.moveCounted (s t : State) (p : Nat) : State :=
  let u := (moveLoaded p t).bump Code.migrations p
  let v := if (s.engine (s.engineFor p)).rotating then u.bump Code.rotations 0 else u
  if (s.engine (s.engineFor p)).failing then v.modCluster (clusterOf p) (fun c => { c with failMoved := true }) else v

theorem migration_eq {p y : Nat} {crcEqual : Bool} {bad : List Nat} {s : State} (hy : (s.engine (s.engineFor p)).target = some y)
    (hb : s.beaconBoundary p = false ∨ (s.engine (s.engineFor p)).failing = true) (hs : (s.port p).stopped = false) :
    migration p crcEqual bad s =
      let t := s.moveCounted (s.enginesMoved p (s.engineFor p) y crcEqual bad) p
      if (t.engine y).failing then planRescue y t else t := by
  unfold migration
  simp only [hy]
  rw [if_neg (by rw [hs]; rcases hb with h | h <;> simp [h])]
  rfl

section
variable {p y : Nat} {s : State} (hne : y ≠ s.engineFor p) (crcEqual : Bool) (bad : List Nat)

section
variable {β : Type} {g : State → β}
  (hg : ∀ (t : State) p e f b, g { t with ports := p, engines := e, faults := f, test := { t.test with badWords := b } } = g t)
include hg

theorem enginesMoved_keeps (x : Nat) : g (s.enginesMoved p x y crcEqual bad) = g s := by
  have h1 : g (s.modPort p (PortSt.movedAt (engineOf p) y (s.beaconBoundary p))) = g s := hg s _ s.engines s.faults s.test.badWords
  have h2 := (tapsCopied_keeps hg p x y crcEqual bad (s.modPort p (PortSt.movedAt (engineOf p) y (s.beaconBoundary p)))).trans h1
  unfold State.enginesMoved
  generalize tapsCopied p x y crcEqual bad (s.modPort p (PortSt.movedAt (engineOf p) y (s.beaconBoundary p))) = u at h2
  exact (hg u u.ports _ u.faults u.test.badWords).trans h2

end

include hne

/-- What a migration leaves of stores, engines and ports before the load of a trunk's context (R382, R386). -/
theorem enginesMoved_copied : TapsCopied p (s.engineFor p) y (s.tapsLost (s.engineFor p) bad)
    (s.modPort p (PortSt.movedAt (engineOf p) y (s.beaconBoundary p)))
    (tapsCopied p (s.engineFor p) y crcEqual bad (s.modPort p (PortSt.movedAt (engineOf p) y (s.beaconBoundary p)))) :=
  tapsCopied_copied hne crcEqual bad (s.modPort p (PortSt.movedAt (engineOf p) y (s.beaconBoundary p)))

theorem enginesMoved_bad {w : Nat} (hw : w < 384) :
    (s.enginesMoved p (s.engineFor p) y crcEqual bad).isBad 4 (tapWord y w) = false ∧
    (s.enginesMoved p (s.engineFor p) y crcEqual bad).isBad 4 (tapWord (s.engineFor p) w) =
      (s.tapsLost (s.engineFor p) bad).contains w :=
  have h := enginesMoved_copied hne crcEqual bad
  ⟨h.clean w hw, h.marked w hw⟩

theorem enginesMoved_engine :
    (s.enginesMoved p (s.engineFor p) y crcEqual bad).engine y =
      { s.engine y with state := 0, since := s.time.tick, zeroed := s.tapsLost (s.engineFor p) bad } ∧
    (∃ e, (s.enginesMoved p (s.engineFor p) y crcEqual bad).engine (s.engineFor p) = EngineSt.released s.time.tick e) ∧
    ∀ e, e ≠ y → e ≠ s.engineFor p → (s.enginesMoved p (s.engineFor p) y crcEqual bad).engine e = s.engine e := by
  have h := enginesMoved_copied hne crcEqual bad
  have hport : ∀ e, (s.modPort p (PortSt.movedAt (engineOf p) y (s.beaconBoundary p))).engine e = s.engine e := fun _ => rfl
  unfold State.enginesMoved
  refine ⟨?_, ⟨(tapsCopied p (s.engineFor p) y crcEqual bad (s.modPort p (PortSt.movedAt (engineOf p) y (s.beaconBoundary p)))).engine
    (s.engineFor p), ?_⟩, fun e hy hx => ?_⟩
  · rw [State.engine_modEngine, State.engine_modEngine_ne hne, h.loaded, hport]
    rfl
  · rw [State.engine_modEngine_ne hne.symm, State.engine_modEngine]
  · rw [State.engine_modEngine_ne hy, State.engine_modEngine_ne hx, h.engines e hy, hport]

theorem enginesMoved_port :
    (s.enginesMoved p (s.engineFor p) y crcEqual bad).port p =
      PortSt.copied (s.tapsLost (s.engineFor p) bad) (PortSt.movedAt (engineOf p) y (s.beaconBoundary p) (s.port p)) ∧
    ∀ j, j ≠ p → (s.enginesMoved p (s.engineFor p) y crcEqual bad).port j = s.port j := by
  have h := enginesMoved_copied hne crcEqual bad
  unfold State.enginesMoved
  refine ⟨?_, fun j hj => ?_⟩
  · rw [modEngine_port, modEngine_port, h.port, State.port_modPort]
  · rw [modEngine_port, modEngine_port, h.ports j hj, State.port_modPort_ne _ _ hj]

theorem enginesMoved_trunkOn : (s.enginesMoved p (s.engineFor p) y crcEqual bad).trunkOn p = s.trunkOn p := by
  obtain ⟨h, -⟩ := enginesMoved_port hne crcEqual bad
  have ht : (s.enginesMoved p (s.engineFor p) y crcEqual bad).time = s.time := enginesMoved_keeps crcEqual bad (g := State.time) (fun _ _ _ _ _ => rfl) _
  unfold State.trunkOn State.isTrunk
  rw [h, ht]
  rfl

theorem enginesMoved_faults (h : ∀ w ∈ bad, w < 384 → s.isBad 4 (tapWord (s.engineFor p) w) = true) :
    (s.enginesMoved p (s.engineFor p) y crcEqual bad).faults = s.faults :=
  tapsCopied_faults (s := s.modPort p (PortSt.movedAt (engineOf p) y (s.beaconBoundary p))) hne h

end

/-! ## The end of a migration -/

theorem moveLoaded_keeps {β : Type} {p : Nat} {g : State → β} (hctx : ContextBlind p 1 g) (hrx : RxBlind g) (t : State) :
    g (moveLoaded p t) = g t := by
  unfold moveLoaded
  split
  · exact hctx.trunkLoad rfl hrx t
  · rfl

theorem moveLoaded_off {p : Nat} {t : State} (h : t.trunkOn p = false) : moveLoaded p t = t := if_neg (by rw [h]; decide)

theorem moveCounted_keeps {β : Type} {g : State → β} (hg : ∀ (t : State) r c, g { t with regs := r, clusters := c } = g t)
    (p : Nat) (s t : State) : g (s.moveCounted t p) = g (moveLoaded p t) := by
  have hb : ∀ c i u, g (State.bump u c i) = g u := fun c i u => State.bumpBy_keeps (fun v r => hg v r v.clusters) u c i 1
  unfold State.moveCounted
  extract_lets u v
  have hv : g v = g (moveLoaded p t) := by
    unfold v
    split
    · exact (hb _ _ _).trans (hb _ _ _)
    · exact hb _ _ _
  split
  · exact (hg v v.regs _).trans hv
  · exact hv

theorem dropKey_first {p : Nat} (hp : p < 144) : dropKey p 1 < 2 ^ 24 := by unfold dropKey; omega

/-- A migration is counted once (R385). -/
theorem moveCounted_counted {p : Nat} (hp : p < 144) (s t : State) :
    (s.moveCounted t p).regWritten Code.migrations p = some (min ((t.regN Code.migrations p + 1 : Nat) : Int) (2 ^ 32 - 1)) := by
  have hload : (moveLoaded p t).regWritten Code.migrations p = t.regWritten Code.migrations p :=
    moveLoaded_keeps (contextBlind_reg (by decide) (by decide) (by omega) (by omega) (dropKey_first hp)) (fun _ _ _ => rfl) t
  have hread : (moveLoaded p t).regN Code.migrations p = t.regN Code.migrations p :=
    congrArg Int.toNat (reg_of_regWritten hload (by decide) (by decide) (by decide))
  have hu := regWritten_bump (moveLoaded p t) Code.migrations p
  rw [hread] at hu
  unfold State.moveCounted
  extract_lets u v
  have hv : v.regWritten Code.migrations p = u.regWritten Code.migrations p := by
    unfold v
    split
    · exact bumpBy_regWritten (objKey_ne (by decide) (by omega) (by decide)) 1 u
    · rfl
  have hcl : ∀ f, (v.modCluster (clusterOf p) f).regWritten Code.migrations p = v.regWritten Code.migrations p := fun _ => rfl
  split
  · rw [hcl, hv, hu]
  · rw [hv, hu]

theorem rxBlind_role (p : Nat) : RxBlind (fun t => ((t.port p).movedTo, (t.port p).trunk)) := fun t q f => by
  dsimp only
  by_cases h : p = q
  · subst h
    rw [State.port_modRx]
  · rw [State.port_modRx_ne h]

end Sys2Proof.Machine

/-! PROOFS. O28: migrations, engine tests, failing engines and ports without one (R382–R388, R394, R402, R403). -/

namespace Sys2Proof.Machine

section
variable {p y : Nat} {s : State} {crcEqual : Bool} {bad : List Nat}

/-- A migration arranged to an engine that does not fail, where the boundary lets it be made (R384). -/
theorem migration_moves (hy : (s.engine (s.engineFor p)).target = some y) (hne : y ≠ s.engineFor p)
    (hb : s.beaconBoundary p = false ∨ (s.engine (s.engineFor p)).failing = true) (hs : (s.port p).stopped = false)
    (hf : (s.engine y).failing = false) :
    migration p crcEqual bad s = s.moveCounted (s.enginesMoved p (s.engineFor p) y crcEqual bad) p := by
  obtain ⟨hload, -⟩ := enginesMoved_engine hne crcEqual bad
  have heng : (s.moveCounted (s.enginesMoved p (s.engineFor p) y crcEqual bad) p).engine y =
      (s.enginesMoved p (s.engineFor p) y crcEqual bad).engine y :=
    (moveCounted_keeps (g := fun t => t.engine y) (fun _ _ _ => rfl) p s _).trans
      (moveLoaded_keeps (g := fun t => t.engine y) (.of_fields (fun _ _ _ _ _ _ => rfl)) (fun _ _ _ => rfl) _)
  rw [migration_eq hy hb hs]
  dsimp only
  rw [heng, hload]
  exact if_neg (by rw [hf]; decide)

theorem migration_waits (h : s.beaconBoundary p = true) (hf : (s.engine (s.engineFor p)).failing = false) :
    migration p crcEqual bad s = s := by
  unfold migration
  dsimp only
  split
  · rfl
  · exact if_pos (by simp [h, hf])

theorem engineFor_moved {t : State} (h : (t.port p).movedTo = if y = engineOf p then none else some y) : t.engineFor p = y := by
  unfold State.engineFor
  rw [h]
  split
  next he => exact he.symm
  · rfl

/-- What a migration leaves of the port, the engines and the stores (R382–R387). -/
theorem moveCounted_parts (hne : y ≠ s.engineFor p) :
    let t := s.moveCounted (s.enginesMoved p (s.engineFor p) y crcEqual bad) p
    t.engineFor p = y ∧ (t.port p).trunk.ech = tapsZeroed (s.tapsLost (s.engineFor p) bad) (s.port p).trunk.ech ∧
      t.engines = (s.enginesMoved p (s.engineFor p) y crcEqual bad).engines ∧
      (∀ w, t.isBad 4 w = (s.enginesMoved p (s.engineFor p) y crcEqual bad).isBad 4 w) ∧ t.cells = s.cells := by
  have keep : ∀ {γ : Type} {g : State → γ}, ContextBlind p 1 g → RxBlind g → (∀ (t : State) r c, g { t with regs := r, clusters := c } = g t) →
      g (s.moveCounted (s.enginesMoved p (s.engineFor p) y crcEqual bad) p) = g (s.enginesMoved p (s.engineFor p) y crcEqual bad) :=
    fun hc hr hg => (moveCounted_keeps hg p s _).trans (moveLoaded_keeps hc hr _)
  have hrole := keep (g := fun t => ((t.port p).movedTo, (t.port p).trunk)) (.of_fields (fun _ _ _ _ _ _ => rfl)) (rxBlind_role p) (fun _ _ _ => rfl)
  obtain ⟨hport, -⟩ := enginesMoved_port hne crcEqual bad
  rw [hport] at hrole
  obtain ⟨hmoved, htrunk⟩ := Prod.mk.inj hrole
  have hcells := keep (g := State.cells) (.of_fields (fun _ _ _ _ _ _ => rfl)) (fun _ _ _ => rfl) (fun _ _ _ => rfl)
  refine ⟨engineFor_moved hmoved, congrArg TrunkSt.ech htrunk, ?_, fun w => isBad_of_tapsBad ?_ w, ?_⟩
  · exact keep (.of_fields (fun _ _ _ _ _ _ => rfl)) (fun _ _ _ => rfl) (fun _ _ _ => rfl)
  · exact keep (contextBlind_tapsBad p 1) (fun _ _ _ => rfl) (fun _ _ _ => rfl)
  · exact hcells.trans (enginesMoved_keeps crcEqual bad (fun _ _ _ _ _ => rfl) _)

/-- A branch port's migration touches no context, and where no new word is lost it raises nothing and touches no other port. -/
theorem moveCounted_branch (hne : y ≠ s.engineFor p) (hoff : s.trunkOn p = false) :
    let t := s.moveCounted (s.enginesMoved p (s.engineFor p) y crcEqual bad) p
    t.ctxs = s.ctxs ∧ ((∀ w ∈ bad, w < 384 → s.isBad 4 (tapWord (s.engineFor p) w) = true) → t.faults = s.faults) ∧
      ∀ j, j ≠ p → t.port j = s.port j := by
  have hload : moveLoaded p (s.enginesMoved p (s.engineFor p) y crcEqual bad) = s.enginesMoved p (s.engineFor p) y crcEqual bad :=
    moveLoaded_off ((enginesMoved_trunkOn hne crcEqual bad).trans hoff)
  have keep : ∀ {γ : Type} {g : State → γ}, (∀ (t : State) r c, g { t with regs := r, clusters := c } = g t) →
      g (s.moveCounted (s.enginesMoved p (s.engineFor p) y crcEqual bad) p) = g (s.enginesMoved p (s.engineFor p) y crcEqual bad) :=
    fun hg => (moveCounted_keeps hg p s _).trans (by rw [hload])
  obtain ⟨-, hports⟩ := enginesMoved_port hne crcEqual bad
  refine ⟨?_, fun h => ?_, fun j hj => ?_⟩
  · exact (keep (g := State.ctxs) (fun _ _ _ => rfl)).trans (enginesMoved_keeps crcEqual bad (fun _ _ _ _ _ => rfl) _)
  · exact (keep (g := State.faults) (fun _ _ _ => rfl)).trans (enginesMoved_faults hne crcEqual bad h)
  · exact (keep (g := fun t => t.port j) (fun _ _ _ => rfl)).trans (hports j hj)

end

/-- Migrations as the statement asks of them (R382–R387). -/
theorem migrations_move {p y : Nat} {crcEqual : Bool} {bad : List Nat} {s : State} (hs : s.Ready) (hp : p < 144)
    (hy : (s.engine (s.engineFor p)).target = some y) (hne : y ≠ s.engineFor p) (hst : (s.port p).stopped = false)
    (hf : (s.engine y).failing = false) (hb : s.beaconBoundary p = false ∨ (s.engine (s.engineFor p)).failing = true) :
    let x := s.engineFor p
    let lost := (List.range 384).filter (fun w => bad.contains w || s.isBad 4 (tapWord x w))
    ∃ t : State, exec (.migration p crcEqual bad) s = .next t ∧ t.engineFor p = y ∧
      t.engine y = { s.engine y with state := 0, since := s.time.tick, zeroed := lost } ∧
      (t.port p).trunk.ech = (s.port p).trunk.ech.mapIdx (fun i c => if lost.contains (i / 4) then 0 else c) ∧
      (∀ w : Nat, w < 384 → t.isBad 4 (tapWord y w) = false ∧ t.isBad 4 (tapWord x w) = lost.contains w) ∧
      (t.engine x).state = 2 ∧ (t.engine x).target = none ∧
      t.reg Code.migrations p = min (((s.regN Code.migrations p + 1 : Nat)) : Int) (2 ^ 32 - 1) ∧
      (∀ e : Nat, e ≠ y → e ≠ x → t.engine e = s.engine e) ∧ t.cells = s.cells ∧
      (s.trunkOn p = false → t.ctxs = s.ctxs ∧
        ((∀ w ∈ bad, w < 384 → s.isBad 4 (tapWord x w) = true) → t.faults = s.faults ∧
          ∀ j : Nat, j ≠ p → t.port j = s.port j)) := by
  have hmove := migration_moves (crcEqual := crcEqual) (bad := bad) hy hne hb hst hf
  have hrun : exec (.migration p crcEqual bad) s = .next (collect (migration p crcEqual bad s)) :=
    (run_running _ hs.1).trans (congrArg (fun t => Host.Outcome.next (collect t)) (if_pos hp))
  have hcounted := moveCounted_counted hp s (s.enginesMoved p (s.engineFor p) y crcEqual bad)
  have hregs : (s.enginesMoved p (s.engineFor p) y crcEqual bad).regN Code.migrations p = s.regN Code.migrations p :=
    enginesMoved_keeps crcEqual bad (g := fun t => t.regN Code.migrations p) (fun _ _ _ _ _ => rfl) _
  obtain ⟨hport, hech, hengines, hbad, hcells⟩ := moveCounted_parts (crcEqual := crcEqual) (bad := bad) hne
  obtain ⟨hloaded, ⟨e, hreleased⟩, hothers⟩ := enginesMoved_engine hne crcEqual bad
  have hbranch := moveCounted_branch (crcEqual := crcEqual) (bad := bad) hne
  have hmarks := fun w hw => enginesMoved_bad hne crcEqual bad (w := w) hw
  rw [hmove] at hrun
  rw [hregs] at hcounted
  dsimp only at hport hech hengines hbad hcells hbranch
  generalize s.moveCounted (s.enginesMoved p (s.engineFor p) y crcEqual bad) p = t at hrun hport hech hengines hbad hcells hbranch hcounted
  have heng : ∀ e, (collect t).engine e = (s.enginesMoved p (s.engineFor p) y crcEqual bad).engine e := fun e =>
    (collect_engine t e).trans (State.engine_of_engines hengines e)
  refine ⟨collect t, hrun, ?_, (heng y).trans hloaded, ?_, fun w hw => ?_, ?_, ?_, ?_, fun e hy hx => (heng e).trans (hothers e hy hx), ?_,
    fun hoff => ?_⟩
  · unfold State.engineFor
    rw [collect_port_movedTo]
    exact hport
  · rw [collect_port_trunk]; exact hech
  · obtain ⟨h1, h2⟩ := hmarks w hw
    exact ⟨by rw [collect_isBad, hbad]; exact h1, by rw [collect_isBad, hbad]; exact h2⟩
  · rw [heng, hreleased]; rfl
  · rw [heng, hreleased]; rfl
  · exact State.reg_of_written ((collect_regWritten (by decide) (by omega) t).trans hcounted)
  · rw [collect_cells, hcells]
  · obtain ⟨hctxs, hfaults, hports⟩ := hbranch hoff
    refine ⟨by rw [collect_ctxs, hctxs], fun h => ?_⟩
    have hsame := hfaults h
    obtain ⟨-, hdue, hnext, hacked⟩ := hs
    rw [collect_nil (hsame ▸ hdue) (hsame ▸ hnext) (hsame ▸ hacked)]
    exact ⟨hsame, hports⟩

end Sys2Proof.Machine

/-! PROOFS. O28: engine tests, failing engines and ports without one (R381, R385–R388, R394, R402, R403). -/

namespace Sys2Proof.Machine

theorem exec_engine {f : Nat → State → State} {e : Nat} {s : State} (hs : s.Ready) (he : e < 162) :
    run (if e < 162 then f e else id) s = .next (collect (f e s)) := by
  rw [if_pos he]
  exact run_running _ hs.1

theorem run_engine {f : State → State} {e : Nat} {s t : State} (hs : s.Ready) (he : e < 162) (h : f s = t) (hf : t.faults = s.faults) :
    run (if e < 162 then f else id) s = .next t := by
  rw [if_pos he]
  exact run_to hs h hf

/-! ## Engine tests -/

/-- An engine that has passed its test: a ready spare (R380, R386). -/
def EngineSt.fit (tick second : Nat) (x : EngineSt) : EngineSt :=
  { x with state := 1, since := tick, second := false, passed := true, tested := second }

/-- The state in which an engine has passed its test, and the pass is counted (R386). -/
def State.enginePassed (s : State) (e : Nat) : State :=
  (s.modEngine e (EngineSt.fit s.time.tick (s.time.time64 / secondTicks % 2 ^ 32))).bump Code.enginePasses 0

theorem enginePassed_keeps {β : Type} {g : State → β} (hg : ∀ (t : State) r e, g { t with regs := r, engines := e } = g t) (e : Nat)
    (s : State) : g (s.enginePassed e) = g s :=
  (State.bumpBy_keeps (fun t r => hg t r t.engines) _ _ _ 1).trans (hg s s.regs _)

theorem enginePassed_engines (e : Nat) (s : State) : (s.enginePassed e).engines =
    (s.modEngine e (EngineSt.fit s.time.tick (s.time.time64 / secondTicks % 2 ^ 32))).engines :=
  State.bumpBy_keeps (g := State.engines) (fun _ _ => rfl) _ _ _ 1

theorem loadNext_still {s : State} (h : s.fw.switching = false) (k : Nat) : loadNext k s = s :=
  if_neg (by rw [h]; simp)

section
variable {e : Nat} {sigs : List Response} {s : State} (h2 : (s.engine e).state = 2)
include h2

theorem engineTest_open (hm : s.mismatches sigs = []) (ht : s.enginesTestable = false) : engineTestComplete e sigs s = s := by
  unfold engineTestComplete
  rw [if_neg (by rw [h2]; decide)]
  simp [hm, ht]

theorem engineTest_passes (hm : s.mismatches sigs = []) (ht : s.enginesTestable = true) (hsw : s.fw.switching = false) :
    engineTestComplete e sigs s = clearBad 4 (tapWord e 0) tapWords (s.enginePassed e) := by
  have hsw1 : (clearBad 4 (tapWord e 0) tapWords (s.enginePassed e)).fw.switching = false :=
    (enginePassed_keeps (g := fun t => t.fw.switching) (fun _ _ _ => rfl) e s).trans hsw
  unfold engineTestComplete
  rw [if_neg (by rw [h2]; decide)]
  simp only [hm, ht, List.isEmpty_nil, Bool.not_true, Bool.and_false, Bool.false_eq_true, if_false, if_true, hsw]
  exact loadNext_still hsw1 (e / 18)

theorem engineTest_fails (hm : s.mismatches sigs ≠ []) :
    engineTestComplete e sigs s =
      let u := (s.bump Code.engineFails 0).bumpBy Code.misrMismatches 0 (s.mismatches sigs).length
      if (s.engine e).second then recordFailed e ((s.mismatches sigs).headD 0) u
      else u.modEngine e (fun x => { x with second := true, passed := false }) := by
  have hempty : (s.mismatches sigs).isEmpty = false := by
    rw [Bool.eq_false_iff]
    exact fun h => hm (List.isEmpty_iff.1 h)
  unfold engineTestComplete
  rw [if_neg (by rw [h2]; decide)]
  simp only [hempty, Bool.false_and, Bool.false_eq_true, if_false]

end

/-- The state with the failure of an engine test counted (R386). -/
def State.testFailed (s : State) (n : Nat) : State := (s.bump Code.engineFails 0).bumpBy Code.misrMismatches 0 n

theorem testFailed_keeps {β : Type} {g : State → β} (hg : ∀ (t : State) r, g { t with regs := r } = g t) (n : Nat) (s : State) :
    g (s.testFailed n) = g s :=
  (State.bumpBy_keeps hg _ _ _ _).trans (State.bumpBy_keeps hg s _ _ _)

theorem testFailed_reg (n : Nat) (s : State) :
    (s.testFailed n).reg Code.engineFails 0 = min (((s.regN Code.engineFails 0 + 1 : Nat)) : Int) (2 ^ 32 - 1) :=
  State.reg_of_written ((bumpBy_regWritten (objKey_ne (by decide) (by decide) (by decide)) n _).trans (regWritten_bump ..))

theorem recordFailed_log (e test : Nat) (s : State) : (recordFailed e test s).nvm.toLog =
    s.nvm.toLog ++ [{ kind := 1, unit := e, spare := 0, time := s.time.time64 }] := by
  have hnvm : (recordFailed e test s).nvm = (s.failRecorded e).nvm := by
    unfold recordFailed
    dsimp only
    split <;> rfl
  rw [hnvm, State.failRecorded, logRepair_toLog]
  rfl

theorem recordFailed_engine_ne {e j : Nat} (h : j ≠ e) (test : Nat) (s : State) : (recordFailed e test s).engine j = s.engine j := by
  have hen : (recordFailed e test s).engines = (s.failRecorded e).engines := by
    unfold recordFailed
    dsimp only
    split <;> rfl
  have hlog : ∀ a b c (t : State), (logRepair a b c t).engines = t.engines := logRepair_keeps (g := State.engines) (fun _ _ _ _ _ _ => rfl)
  rw [State.engine_of_engines hen, State.failRecorded, State.engine_of_engines (hlog ..), State.engine_modEngine_ne h]

/-- Engine tests as the statement asks of them (R381, R386, R394, R395). -/
theorem engines_tested {e : Nat} {sigs : List Response} {s : State} (hs : s.Ready) (he : e < 162) (h2 : (s.engine e).state = 2)
    (hsw : s.fw.switching = false) :
    let now := s.time.time64 / 10000000 % 2 ^ 32
    (s.mismatches sigs = [] → s.enginesTestable = false → exec (.engineTestComplete e sigs) s = .next s) ∧
    (s.mismatches sigs = [] → s.enginesTestable = true → ∃ t : State, exec (.engineTestComplete e sigs) s = .next t ∧
      t.engine e = { s.engine e with state := 1, since := s.time.tick, second := false, passed := true, tested := now } ∧
      t.reg Code.enginePasses 0 = min (((s.regN Code.enginePasses 0 + 1 : Nat)) : Int) (2 ^ 32 - 1) ∧
      (∀ j : Nat, j ≠ e → t.engine j = s.engine j) ∧ t.ports = s.ports ∧ t.ctxs = s.ctxs ∧ t.nvm = s.nvm) ∧
    (s.mismatches sigs ≠ [] → (s.engine e).second = false →
      ∃ t : State, exec (.engineTestComplete e sigs) s = .next t ∧
        t.engine e = { s.engine e with second := true, passed := false } ∧
        t.reg Code.engineFails 0 = min (((s.regN Code.engineFails 0 + 1 : Nat)) : Int) (2 ^ 32 - 1) ∧
        (∀ j : Nat, j ≠ e → t.engine j = s.engine j) ∧ t.ports = s.ports ∧ t.ctxs = s.ctxs ∧ t.nvm = s.nvm) ∧
    (s.mismatches sigs ≠ [] → (s.engine e).second = true →
      ∃ t : State, exec (.engineTestComplete e sigs) s = .next t ∧ (t.engine e).state = 4 ∧
        t.nvm.toLog = s.nvm.toLog ++ [{ kind := 1, unit := e, spare := 0, time := s.time.time64 }] ∧
        t.faultCount 11 = min (s.faultCount 11 + 1) (2 ^ 32 - 1) ∧
        (∀ j : Nat, j ≠ e → t.engine j = s.engine j) ∧ t.ctxs = s.ctxs) := by
  refine ⟨fun hm ht => ?untestable, fun hm ht => ?passes, fun hm h1 => ?fails, fun hm h1 => ?recorded⟩
  case untestable => exact run_engine hs he (engineTest_open h2 hm ht) rfl
  case passes =>
    have keep := fun {β : Type} (g : State → β) (hg : ∀ (t : State) r e, g { t with regs := r, engines := e } = g t) =>
      enginePassed_keeps hg e s
    refine ⟨_, run_engine hs he (engineTest_passes h2 hm ht hsw) (keep State.faults (fun _ _ _ => rfl)), ?_,
      State.reg_of_written (regWritten_bump ..), fun j hj => ?_, keep State.ports (fun _ _ _ => rfl), keep State.ctxs (fun _ _ _ => rfl),
      keep State.nvm (fun _ _ _ => rfl)⟩
    · rw [clearBad_engine, State.engine_of_engines (enginePassed_engines e s), State.engine_modEngine]
      rfl
    · rw [clearBad_engine, State.engine_of_engines (enginePassed_engines e s), State.engine_modEngine_ne hj]
  case fails =>
    have hf := engineTest_fails h2 hm
    rw [h1] at hf
    have keep := fun {β : Type} (g : State → β) (hg : ∀ (t : State) r, g { t with regs := r } = g t) =>
      testFailed_keeps hg (s.mismatches sigs).length s
    refine ⟨(s.testFailed (s.mismatches sigs).length).modEngine e (fun x => { x with second := true, passed := false }),
      run_engine hs he hf (keep State.faults (fun _ _ => rfl)), ?_, testFailed_reg _ s, fun j hj => ?_,
      keep State.ports (fun _ _ => rfl), keep State.ctxs (fun _ _ => rfl), keep State.nvm (fun _ _ => rfl)⟩
    · rw [State.engine_modEngine, State.engine_of_engines (keep State.engines (fun _ _ => rfl))]
    · rw [State.engine_modEngine_ne hj, State.engine_of_engines (keep State.engines (fun _ _ => rfl))]
  case recorded =>
    have hf := engineTest_fails h2 hm
    rw [h1] at hf
    have hrun := exec_engine (f := fun e => engineTestComplete e sigs) hs he
    have keep := fun {β : Type} (g : State → β) (hg : ∀ (t : State) r, g { t with regs := r } = g t) =>
      testFailed_keeps hg (s.mismatches sigs).length s
    have hraises : RaisesBeside 11 s (s.testFailed (s.mismatches sigs).length) :=
      .of_same (keep (fun t => t.faults.due) (fun _ _ => rfl)) (keep (fun t => t.aon.faultCounts) (fun _ _ => rfl))
    have hcount := collect_count_beside (o := engineOcc e ((s.mismatches sigs).headD 0)) hs.2.1 rfl
      (hraises.trans (State.failRecorded_raises (by decide) (by decide) e _)) (recordFailed_raises (n := 11) (by decide) e _ _)
    rw [show engineTestComplete e sigs s = recordFailed e ((s.mismatches sigs).headD 0) (s.testFailed (s.mismatches sigs).length) from hf] at hrun
    refine ⟨_, hrun, ?_, ?_, hcount, fun j hj => ?_, ?_⟩
    · rw [collect_engine]; exact recordFailed_engine e _ _
    · rw [collect_nvm, recordFailed_log, keep State.nvm (fun _ _ => rfl), keep State.time (fun _ _ => rfl)]
    · rw [collect_engine, recordFailed_engine_ne hj, State.engine_of_engines (keep State.engines (fun _ _ => rfl))]
    · rw [collect_ctxs]
      exact (recordFailed_keeps (g := State.ctxs) (fun _ _ _ _ _ _ _ _ => rfl) e _ _).trans (keep State.ctxs (fun _ _ => rfl))

end Sys2Proof.Machine

/-! PROOFS. O28: failing engines, ports without one, and the statement (R387, R388, R402, R403). -/

namespace Sys2Proof.Machine

/-! ## Failing engines -/

theorem forAll_still {α : Type} {f : α → State → State} {xs : List α} {s : State} (h : ∀ x ∈ xs, f x s = s) : forAll xs f s = s := by
  induction xs with
  | nil => rfl
  | cons x xs ih =>
    have hx : forAll (x :: xs) f s = forAll xs f (f x s) := rfl
    rw [hx, h x (List.mem_cons_self ..)]
    exact ih fun y hy => h y (List.mem_cons_of_mem _ hy)

/-- Which spare is ready, and since when, is all that the choice of one sees (R385). -/
theorem spareFor_congr {s t : State} (h : ∀ x, (t.engine x).state = (s.engine x).state ∧ (t.engine x).passed = (s.engine x).passed ∧
    (t.engine x).since = (s.engine x).since) (k : Nat) : t.spareFor k = s.spareFor k := by
  have hready : t.readySpare = s.readySpare := funext fun x => by
    obtain ⟨h1, h2, -⟩ := h x
    simp only [State.readySpare, h1, h2]
  have hlongest : t.longest = s.longest := funext fun es => by
    simp only [State.longest, (h _).2.2]
  unfold State.spareFor
  rw [hready, hlongest]

/-- What brings an engine to fail (R48, R402, R403 sources 4 and 10). -/
def failOcc (e p : Nat) : EngineFault → Occ
  | .tapStore w => { source := 4, key := [4, tapWord e w], detail := [(1, 4)], access := accRead, master := masterEngine e,
                     address := busAddress 4 (tapWord e w) }
  | .hang => { source := 10, key := [e], detail := [(1, e), (1, p)] }

/-- The state in which an engine has begun to fail, before its fault (R48). -/
def failMarked (e : Nat) (f : EngineFault) (s : State) : State :=
  match f with
  | .tapStore w => markBad 4 (tapWord e w) s
  | .hang => s

theorem failMarked_keeps {β : Type} {g : State → β} (hg : ∀ (t : State) b, g { t with test := { t.test with badWords := b } } = g t)
    (e : Nat) (f : EngineFault) (s : State) : g (failMarked e f s) = g s := by
  cases f with
  | tapStore w => exact hg s _
  | hang => rfl

/-- The state in which an engine fails that serves a port: no rotation of it goes on (R387, R402). -/
def State.failing (s : State) (e : Nat) : State :=
  (s.modEngine e (fun x => { x with failing := true })).modEngine e (fun x => { x with rotating := false })

theorem failing_engine (s : State) (e : Nat) : (s.failing e).engine e = { s.engine e with failing := true, rotating := false } := by
  unfold State.failing
  rw [State.engine_modEngine, State.engine_modEngine]

theorem failing_engine_ne {e j : Nat} (h : j ≠ e) (s : State) : (s.failing e).engine j = s.engine j := by
  unfold State.failing
  rw [State.engine_modEngine_ne h, State.engine_modEngine_ne h]

/-- The choice of a spare does not see that an engine fails (R385). -/
theorem failing_spareFor (s : State) (e k : Nat) : (s.failing e).spareFor k = s.spareFor k := by
  refine spareFor_congr (fun x => ?_) k
  by_cases hx : x = e
  · subst hx; rw [failing_engine]; exact ⟨rfl, rfl, rfl⟩
  · rw [failing_engine_ne hx]; exact ⟨rfl, rfl, rfl⟩

theorem planRescue_spare {e y : Nat} {s : State} (ht : (s.engine e).target = none) (hy : s.spareFor (e / 18) = some y) :
    planRescue e s = planMigration e y false s := by
  unfold planRescue State.rescue
  rw [ht, hy]
  rfl

theorem cancelRotation_still {x : Nat} {s : State} (h : (s.engine x).target = none) : cancelRotation x s = s := by
  unfold cancelRotation
  rw [h]

/-- Where nothing of its cluster moves and a spare is ready, a failing engine is given that spare (R387). -/
theorem engineFailing_rescued {e y : Nat} {f : EngineFault} {s : State} (h0 : (s.engine e).state = 0)
    (hnone : ∀ x ∈ enginesOf (e / 18), (s.engine x).target = none) (hme : (s.engine e).target = none) (hy : s.spareFor (e / 18) = some y) :
    ∃ p, engineFailing e f s = planMigration e y false ((notice (failOcc e p f) (failMarked e f s)).failing e) := by
  refine ⟨(s.portServed e).getD ((portsOf (e / 18)).find? (fun q => (s.engine (s.engineFor q)).target = some e) |>.getD 0), ?_⟩
  generalize hp : (s.portServed e).getD ((portsOf (e / 18)).find? (fun q => (s.engine (s.engineFor q)).target = some e) |>.getD 0) = p
  have hengines : (notice (failOcc e p f) (failMarked e f s)).engines = s.engines := by cases f <;> rfl
  have hshape : engineFailing e f s = planRescue e ((forAll (enginesOf (e / 18))
      (fun x t => if x = e ∨ (t.engine x).target = some e then t else cancelRotation x t)
      ((notice (failOcc e p f) (failMarked e f s)).modEngine e (fun x => { x with failing := true }))).modEngine e
      (fun x => { x with rotating := false })) := by
    unfold engineFailing
    rw [if_neg (by rw [h0]; decide)]
    simp only [hp, h0, if_true]
    cases f <;> rfl
  rw [hshape]
  generalize notice (failOcc e p f) (failMarked e f s) = u at hengines
  have hu : ∀ x, u.engine x = s.engine x := State.engine_of_engines hengines
  have hstill : forAll (enginesOf (e / 18)) (fun x t => if x = e ∨ (t.engine x).target = some e then t else cancelRotation x t)
      (u.modEngine e (fun x => { x with failing := true })) = u.modEngine e (fun x => { x with failing := true }) := by
    refine forAll_still fun x hx => ?_
    split
    · rfl
    next hne =>
      refine cancelRotation_still ?_
      rw [State.engine_modEngine_ne (fun he => hne (.inl he)), hu]
      exact hnone x hx
  rw [hstill]
  refine planRescue_spare (s := u.failing e) ?_ ?_
  · rw [failing_engine, hu]; exact hme
  · rw [failing_spareFor]
    exact (spareFor_congr (fun x => by rw [hu]; exact ⟨rfl, rfl, rfl⟩) _).trans hy

theorem planned_engine {x y : Nat} (h : x ≠ y) (s : State) :
    (planMigration x y false s).engine x = { s.engine x with target := some y, rotating := false } := by
  unfold planMigration
  rw [State.engine_modEngine_ne h, State.engine_modEngine]

/-- A rescue touches the engines alone. -/
theorem rescued_frame (e y : Nat) (s : State) : (planMigration e y false (s.failing e)).faults = s.faults ∧
    (planMigration e y false (s.failing e)).aon = s.aon ∧ (planMigration e y false (s.failing e)).test = s.test ∧
    (planMigration e y false (s.failing e)).ctxs = s.ctxs := ⟨rfl, rfl, rfl, rfl⟩

/-- Failing engines as the statement asks of them (R48, R387, R402). -/
theorem engines_rescued {e y : Nat} {f : EngineFault} {s : State} (hs : s.Ready) (he : e < 162) (h0 : (s.engine e).state = 0)
    (hnone : ∀ x ∈ enginesOf (e / 18), (s.engine x).target = none) (hy : s.spareFor (e / 18) = some y) :
    ∃ t : State, exec (.engineFailing e f) s = .next t ∧ (t.engine e).failing = true ∧ (t.engine e).target = some y ∧
      (t.engine e).rotating = false ∧ (t.engine y).state = 3 ∧ y ≠ e ∧ (∀ j : Nat, j ≠ e → j ≠ y → t.engine j = s.engine j) ∧
      (∀ a : Nat, f = .tapStore a → t.isBad 4 (tapWord e a) = true ∧ t.faultCount 4 = min (s.faultCount 4 + 1) (2 ^ 32 - 1)) ∧
      (f = .hang → t.test = s.test ∧ t.faultCount 10 = min (s.faultCount 10 + 1) (2 ^ 32 - 1)) ∧ t.ctxs = s.ctxs := by
  obtain ⟨p, hfails⟩ := engineFailing_rescued (f := f) h0 hnone (hnone e (mem_enginesOf.2 (by omega))) hy
  have hne : e ≠ y := by
    rintro rfl
    have hready := (List.mem_filter.mp (State.longest_mem hy)).2
    simp [State.readySpare, h0] at hready
  have hrun := exec_engine (f := fun e => engineFailing e f) hs he
  have hengines : (notice (failOcc e p f) (failMarked e f s)).engines = s.engines := by cases f <;> rfl
  have hinj : (failOcc e p f).injected = false := by cases f <;> rfl
  have hmarked : RaisesBeside (failOcc e p f).source s (failMarked e f s) :=
    .of_same (failMarked_keeps (g := fun t => t.faults.due) (fun _ _ => rfl) e f s)
      (failMarked_keeps (g := fun t => t.aon.faultCounts) (fun _ _ => rfl) e f s)
  have hctxs : (failMarked e f s).ctxs = s.ctxs := failMarked_keeps (g := State.ctxs) (fun _ _ => rfl) e f s
  obtain ⟨-, hstate, hothers⟩ := planMigration_engines hne false ((notice (failOcc e p f) (failMarked e f s)).failing e)
  have hplanned := planned_engine hne ((notice (failOcc e p f) (failMarked e f s)).failing e)
  obtain ⟨hfaults, haon, htest, hkept⟩ := rescued_frame e y (notice (failOcc e p f) (failMarked e f s))
  rw [hfails] at hrun
  rw [failing_engine, State.engine_of_engines hengines] at hplanned
  generalize planMigration e y false ((notice (failOcc e p f) (failMarked e f s)).failing e) = v at hrun hstate hothers hplanned hfaults haon htest hkept
  have hcount := collect_count_beside hs.2.1 hinj hmarked (.of_same (congrArg FaultSt.due hfaults) (congrArg AonSt.faultCounts haon) :
    RaisesBeside (failOcc e p f).source (notice (failOcc e p f) (failMarked e f s)) v)
  refine ⟨_, hrun, ?_, ?_, ?_, ?_, hne.symm, fun j hj hjy => ?_, fun a ha => ⟨?_, ?_⟩, fun hh => ⟨?_, ?_⟩, ?_⟩
  · rw [collect_engine, hplanned]
  · rw [collect_engine, hplanned]
  · rw [collect_engine, hplanned]
  · rw [collect_engine, hstate]
  · rw [collect_engine, hothers j hj hjy, failing_engine_ne hj, State.engine_of_engines hengines]
  · subst ha
    rw [collect_isBad, State.isBad, htest]
    exact (State.isBad_iff _ _ _).2 ((mem_addTo _ _ _).2 (.inl rfl))
  · subst ha; exact hcount
  · subst hh; rw [collect_test, htest]; rfl
  · subst hh; exact hcount
  · rw [collect_ctxs, hkept]; exact hctxs

/-! ## Ports without an engine -/

/-- A port that has stopped for lack of an engine (R388). -/
def PortSt.noEngine (x : PortSt) : PortSt :=
  { x with stopped := true, onLine := [], beaconCut := x.beaconCut || decide (x.beaconLeft ≠ 0),
           rx := { x.rx with state := .off, span := .off, header := none } }

/-- The fault of a port that has stopped (R403 source 9). -/
def stopOcc (p e : Nat) : Occ := { source := 9, key := [p], detail := [(1, p), (1, e)] }

theorem stopForEngine_eq (p : Nat) (s : State) : stopForEngine p s =
    portLost p (notice (stopOcc p (s.engineFor p)) ((leaveSteep p s).modPort p PortSt.noEngine)) := rfl

theorem leaveSteep_keeps {β : Type} {g : State → β} (hg : ∀ (t : State) p c, g { t with ports := p, clusters := c } = g t)
    (p : Nat) (s : State) : g (leaveSteep p s) = g s := by
  unfold leaveSteep
  dsimp only
  split
  · exact hg s _ _
  · exact hg s _ s.clusters

/-- A port stops: nothing is on its line, its stop is raised once, and the engines stay (R388). -/
theorem stopForEngine_stops {p : Nat} {s u : State} (hd : s.faults.due = []) (hu : RaisesBeside 9 s u) :
    let t := collect (stopForEngine p u)
    (t.port p).stopped = true ∧ (t.port p).onLine = [] ∧ t.engines = u.engines ∧
      t.faultCount 9 = min (s.faultCount 9 + 1) (2 ^ 32 - 1) := by
  have hsteep : RaisesBeside 9 u ((leaveSteep p u).modPort p PortSt.noEngine) :=
    .of_same (leaveSteep_keeps (g := fun t => t.faults.due) (fun _ _ _ => rfl) p u)
      (leaveSteep_keeps (g := fun t => t.aon.faultCounts) (fun _ _ _ => rfl) p u)
  have hcount := collect_count_beside (o := stopOcc p (u.engineFor p)) hd rfl (hu.trans hsteep) (portLost_raises (n := 9) (by decide) p _)
  have hport : ((stopForEngine p u).port p).atRest = (((leaveSteep p u).modPort p PortSt.noEngine).port p).atRest :=
    portsLost_port p [p] (notice (stopOcc p (u.engineFor p)) ((leaveSteep p u).modPort p PortSt.noEngine))
  rw [State.port_modPort] at hport
  have hstopped : ((stopForEngine p u).port p).stopped = true := congrArg PortSt.stopped hport
  have hline : ((stopForEngine p u).port p).onLine = [] := congrArg PortSt.onLine hport
  have hengines : (stopForEngine p u).engines = u.engines :=
    (portsLost_keeps (g := State.engines) (fun _ _ _ _ _ _ _ => rfl) [p] _).trans
      (leaveSteep_keeps (g := State.engines) (fun _ _ _ => rfl) p u)
  refine ⟨by rw [collect_port_stopped, hstopped], ?_, ?_, hcount⟩
  · rcases collect_port (stopForEngine p u) p with h | h
    · rw [h, hline]
    · rw [h]; rfl
  · rw [collect_engines, hengines]

end Sys2Proof.Machine

namespace Sys2Proof.Proofs

open Machine

/-- Settles O28: migrations, engine tests, failing engines, and ports that no engine is left for. -/
theorem enginesMigrateAndAreTested : Obligations.EnginesMigrateAndAreTested := by
  refine ⟨fun p y crc bad s hs hp hy hne hst hf => ⟨fun hb hx => ?_, fun hb => migrations_move hs hp hy hne hst hf hb⟩,
    fun e sigs s hs he h2 hsw => engines_tested hs he h2 hsw, fun e y f s hs he h0 hnone hy => engines_rescued hs he h0 hnone hy,
    fun p s hs hp hx ht hst => ?_⟩
  · exact run_atPort hs hp (migration_waits hb hx) rfl
  · have hrun : exec (.engineExhausted p) s = .next (collect (engineExhausted p s)) :=
      (run_running _ hs.1).trans (congrArg (fun t => Host.Outcome.next (collect t)) (if_pos hp))
    rw [engineExhausted, if_pos ⟨hx, ht, hst⟩] at hrun
    obtain ⟨h1, h2, h3, h4⟩ := stopForEngine_stops (p := p) (s := s) (u := s.modEngine (s.engineFor p)
      (fun x => { x with state := 2, since := s.time.tick, second := false, failing := false })) hs.2.1 (.of_same rfl rfl)
    refine ⟨_, hrun, h1, h2, ?_, ?_, h4, fun j hj => ?_⟩
    · rw [State.engine_of_engines h3, State.engine_modEngine]
    · rw [State.engine_of_engines h3, State.engine_modEngine]
    · rw [State.engine_of_engines h3, State.engine_modEngine_ne hj]

end Sys2Proof.Proofs

/-! PROOFS. The start of a cycle leaves TIME_SOURCE as it is: of the working values it changes counters and settings of ports and drops
alone (R63, R75). -/

namespace Sys2Proof.Machine

/-- What a value table holds for TIME_SOURCE (R75). -/
def sourceOf (r : Tab Int) : Option Int := Tab.find r (objKey Code.timeSource 0)

@[simp] theorem State.setCell_regs (s : State) (i : Nat) (c : Cell) : (s.setCell i c).regs = s.regs := rfl
@[simp] theorem State.draw_regs (s : State)  : (s.draw.2).regs = s.regs := rfl

/-- The objects of ports, drops and links lie above TIME_SOURCE. -/
@[simp] theorem sourceOf_setReg {c : Nat} (hc : 0x300000 ≤ c) (i : Nat) (v : Int) (s : State) :
    sourceOf (s.setReg c i v).regs = sourceOf s.regs :=
  State.regWritten_setReg_ne s v (by unfold objKey Code.timeSource; omega)

@[simp] theorem sourceOf_bumpBy {c : Nat} (hc : 0x300000 ≤ c) (i n : Nat) (s : State) : sourceOf (s.bumpBy c i n).regs = sourceOf s.regs :=
  bumpBy_regWritten (by unfold objKey Code.timeSource; omega) n s

@[simp] theorem sourceOf_bump {c : Nat} (hc : 0x300000 ≤ c) (i : Nat) (s : State) : sourceOf (s.bump c i).regs = sourceOf s.regs :=
  sourceOf_bumpBy hc i 1 s

@[simp] theorem sourceOf_forAll {α : Type} {f : α → State → State} (h : ∀ x t, sourceOf (f x t).regs = sourceOf t.regs) (xs : List α)
    (s : State) : sourceOf (forAll xs f s).regs = sourceOf s.regs := forAll_keeps (fun t => sourceOf t.regs) xs f h s

@[simp] theorem sourceOf_ite (c : Prop) [Decidable c] (s t : State) :
    sourceOf (if c then s else t).regs = if c then sourceOf s.regs else sourceOf t.regs := apply_ite (fun t => sourceOf t.regs) c s t

theorem sourceOf_foldl {α β : Type} {f : α × State → β → α × State} (h : ∀ y w, sourceOf (f y w).2.regs = sourceOf y.2.regs) (ws : List β)
    (x : α × State) : sourceOf (ws.foldl f x).2.regs = sourceOf x.2.regs := by
  induction ws generalizing x with
  | nil => rfl
  | cons w ws ih => exact (ih _).trans (h x w)

theorem sourceOf_getD {o : Option State} {s d : State} (h : ∀ t, o = some t → sourceOf t.regs = sourceOf s.regs)
    (hd : sourceOf d.regs = sourceOf s.regs) : sourceOf (o.getD d).regs = sourceOf s.regs := by
  cases o with
  | none => exact hd
  | some t => exact h t rfl

/-- Moves, releases and failovers leave it (R215). -/
theorem sourceBlind : LineBlind (fun t => sourceOf t.regs) := lineBlind_reg (c := Code.timeSource) (i := 0) (by decide) (by decide)

/-! ## Reports and faults -/

@[simp] theorem pushStatus_source (f : OutFrame) (l : Link) (s : State) : sourceOf (pushStatus f l s).regs = sourceOf s.regs := by
  unfold pushStatus
  split
  · simp
  · exact sourceOf_bump (by cases l <;> decide) 0 s

@[simp] theorem sendStatus_source (links : List Link) (kind port drop epoch : Nat) (body : List Byte) (s : State) : sourceOf (sendStatus links kind port drop epoch body s).regs = sourceOf s.regs := by simp +decide [sendStatus]

@[simp] theorem portStatus_source (kind port drop epoch : Nat) (body : List Byte) (s : State) : sourceOf (portStatus kind port drop epoch body s).regs = sourceOf s.regs := by simp +decide [portStatus]

@[simp] theorem releaseStatus_source (p d epoch reason : Nat) (s : State) : sourceOf (releaseStatus p d epoch reason s).regs = sourceOf s.regs := by simp +decide [releaseStatus]

@[simp] theorem trunkStatus_source (p event : Nat) (s : State) : sourceOf (trunkStatus p event s).regs = sourceOf s.regs := by simp +decide [trunkStatus]

@[simp] theorem notice_source (o : Occ) (s : State) : sourceOf (notice o s).regs = sourceOf s.regs := by simp +decide [notice]

@[simp] theorem fault_source (source : Nat) (key : List Nat) (detail : List (Nat × Nat)) (s : State) : sourceOf (fault source key detail s).regs = sourceOf s.regs := by simp +decide [fault]

@[simp] theorem endCondition_source (source : Nat) (key : List Nat) (s : State) : sourceOf (endCondition source key s).regs = sourceOf s.regs := by simp +decide [endCondition]

@[simp] theorem markBad_source (mem word : Nat) (s : State) : sourceOf (markBad mem word s).regs = sourceOf s.regs := by simp +decide [markBad]

@[simp] theorem clearBad_source (mem word n : Nat) (s : State) : sourceOf (clearBad mem word n s).regs = sourceOf s.regs := by simp +decide [clearBad]

@[simp] theorem sramUncorrectable_source (mem word access master : Nat) (s : State) : sourceOf (sramUncorrectable mem word access master s).regs = sourceOf s.regs := by simp +decide [sramUncorrectable]

@[simp] theorem readSum_source (p n master : Nat) (acc : List Int) (s : State) : sourceOf (readSum p n master acc s).2.regs = sourceOf s.regs := by
  unfold readSum
  exact sourceOf_foldl (fun y w => by simp +decide) _ _

/-! ## Messages and slot maps -/

@[simp] theorem queueMsg_source (p : Nat) (m : OutMsg) (s : State) : sourceOf (queueMsg p m s).regs = sourceOf s.regs := by simp +decide [queueMsg]

@[simp] theorem announceMap_source (p : Nat) (known new : SlotMap) (apply : Nat) (s : State) : sourceOf (announceMap p known new apply s).regs = sourceOf s.regs :=
  sourceBlind.announceMap p known new apply s

@[simp] theorem installMap_source (p : Nat) (m : SlotMap) (apply : Nat) (s : State) : sourceOf (installMap p m apply s).regs = sourceOf s.regs := by simp +decide [installMap]

@[simp] theorem waitFor_source (p d : Nat) (c : Change) (s : State) : sourceOf (waitFor p d c s).regs = sourceOf s.regs := by simp +decide [waitFor]

/-! ## Traverse runs -/

@[simp] theorem latchRun_source (p : Nat) (s : State) : sourceOf (latchRun p s).regs = sourceOf s.regs := by simp +decide [latchRun]

@[simp] theorem abandonRun_source (p : Nat) (s : State) : sourceOf (abandonRun p s).regs = sourceOf s.regs := by
  unfold abandonRun
  split <;> simp +decide

@[simp] theorem calFailed_source (p : Nat) (s : State) : sourceOf (calFailed p s).regs = sourceOf s.regs := by simp +decide [calFailed]

@[simp] theorem calStops_source (p : Nat) (s : State) : sourceOf (calStops p s).regs = sourceOf s.regs := by simp +decide [calStops]

@[simp] theorem beginRun_source (p : Nat) (k : RunKind) (s : State) : sourceOf (beginRun p k s).regs = sourceOf s.regs := by simp +decide [beginRun]

@[simp] theorem contribute_source (p : Nat) (es : List Echo) (s : State) : sourceOf (contribute p es s).regs = sourceOf s.regs := by
  unfold contribute
  dsimp only
  (repeat' split) <;> simp +decide

@[simp] theorem endFullRun_source (p : Nat) (s : State) : sourceOf (endFullRun p s).regs = sourceOf s.regs := by
  unfold endFullRun
  (repeat' split) <;> simp

@[simp] theorem dcSpan_source (p : Nat) (es : List Echo) (s : State) : sourceOf (dcSpan p es s).regs = sourceOf s.regs := by simp +decide [dcSpan]

@[simp] theorem dcIdle_source (p : Nat) (s : State) : sourceOf (dcIdle p s).regs = sourceOf s.regs := by simp +decide [dcIdle]

@[simp] theorem latchPort_source (p : Nat) (s : State) : sourceOf (latchPort p s).regs = sourceOf s.regs := by simp +decide [latchPort]

/-! ## Watch cells -/

@[simp] theorem setRange_source (p : Nat) (b : Bool) (r : Range) (s : State) : sourceOf (setRange p b r s).regs = sourceOf s.regs := by simp +decide [setRange]

@[simp] theorem tidyPool_source (s : State) : sourceOf (tidyPool s).regs = sourceOf s.regs := by simp +decide [tidyPool]

@[simp] theorem putCells_source (r : Range) (cs : Tab Cell) (s : State) : sourceOf (putCells r cs s).regs = sourceOf s.regs := by simp +decide [putCells]

@[simp] theorem setLayout_source (p : Nat) (b : Bool) (l : Layout) (s : State) : sourceOf (setLayout p b l s).regs = sourceOf s.regs := by simp +decide [setLayout]

@[simp] theorem remake_source (whole : Bool) (p : Nat) (b : Bool) (l : Layout) (f : Nat → Cell → Cell) (s : State) : sourceOf (remake whole p b l f s).regs = sourceOf s.regs := by simp +decide [remake]

@[simp] theorem leaveCap_source (i : Nat) (s : State) : sourceOf (leaveCap i s).regs = sourceOf s.regs := by simp +decide [leaveCap]

@[simp] theorem leaveCaps_source (r : Range) (keep : Bool) (s : State) : sourceOf (leaveCaps r keep s).regs = sourceOf s.regs := by simp +decide [leaveCaps]

@[simp] theorem setShaped_source (p : Nat) (b v : Bool) (s : State) : sourceOf (setShaped p b v s).regs = sourceOf s.regs := by simp +decide [setShaped]

@[simp] theorem rebuildCell_source (i : Nat) (s : State) : sourceOf (rebuildCell i s).regs = sourceOf s.regs := by
  unfold rebuildCell
  dsimp only
  (repeat' split) <;> simp +decide

@[simp] theorem cellReadError_source (i master : Nat) (s : State) : sourceOf (cellReadError i master s).regs = sourceOf s.regs := by simp +decide [cellReadError]

@[simp] theorem mendRange_source (r : Range) (master : Nat) (s : State) : sourceOf (mendRange r master s).regs = sourceOf s.regs := by simp +decide [mendRange]

@[simp] theorem layoutRange_source (p : Nat) (b keep : Bool) (n second : Nat) (s0 : State) : sourceOf (layoutRange p b keep n second s0).regs = sourceOf s0.regs := by simp +decide [layoutRange]

@[simp] theorem resetRange_source (p : Nat) (b : Bool) (second : Nat) (s0 : State) : sourceOf (resetRange p b second s0).regs = sourceOf s0.regs := by simp +decide [resetRange]

@[simp] theorem takeRange_source (p : Nat) (b : Bool) (s : State) : sourceOf (takeRange p b s).regs = sourceOf s.regs := by simp +decide [takeRange]

@[simp] theorem takeRanges_source (p : Nat) (s : State) : sourceOf (takeRanges p s).regs = sourceOf s.regs := by simp +decide [takeRanges]

@[simp] theorem sendReport_source (r : Report) (s : State) : sourceOf (sendReport r s).regs = sourceOf s.regs := by simp +decide [sendReport]

@[simp] theorem reloadMended_source (p n benchTime : Nat) (s : State) : sourceOf (reloadMended p n benchTime s).regs = sourceOf s.regs := by simp +decide [reloadMended]

@[simp] theorem reloadCells_source (p n benchTime : Nat) (s : State) : sourceOf (reloadCells p n benchTime s).regs = sourceOf s.regs := by simp +decide [reloadCells]

/-! ## Records -/

@[simp] theorem issue_source (pair : Nat) (job : NvmeJob) (s : State) : sourceOf (issue pair job s).regs = sourceOf s.regs := by
  exact issue_keeps (g := fun t => sourceOf t.regs) (fun _ _ => rfl) pair job s

@[simp] theorem startReclaim_source (tier : Nat) (s : State) : sourceOf (startReclaim tier s).regs = sourceOf s.regs := by
  simp [startReclaim, State.modArch]

@[simp] theorem writeRecord_source (r : Rec) (s : State) : sourceOf (writeRecord r s).regs = sourceOf s.regs := by
  have put : ∀ (f : ArchSt → ArchSt) pair job, sourceOf (issue pair job ((s.modArch f).modArch (fun a => { a with nextSeq := a.nextSeq + 1 }))).regs =
      sourceOf s.regs := fun f pair job => issue_source pair job _
  unfold writeRecord
  dsimp only
  split
  · exact put _ _ _
  · split
    · exact put _ _ _
    · exact startReclaim_source _ _

@[simp] theorem archiveBench_source (p : Nat) (r : Rec) (s : State) : sourceOf (archiveBench p r s).regs = sourceOf s.regs := by simp +decide [archiveBench]

@[simp] theorem takeBench_source (p : Nat) (r : Run) (t : Trace) (ts : List (Run × Trace)) (s : State) : sourceOf (takeBench p r t ts s).regs = sourceOf s.regs := by simp +decide [takeBench]

@[simp] theorem endCapture_source (p : Nat) (s : State) : sourceOf (endCapture p s).regs = sourceOf s.regs := by
  unfold endCapture
  dsimp only
  (repeat' split) <;> simp +decide

@[simp] theorem traverseCycle_source (p : Nat) (es : List Echo) (s : State) : sourceOf (traverseCycle p es s).regs = sourceOf s.regs := by
  unfold traverseCycle
  dsimp only
  (repeat' split) <;> simp +decide

/-! ## Acknowledgements, levelling and admission -/

@[simp] theorem ackPoint_source (p d a : Nat) (s : State) : sourceOf (ackPoint p d a s).regs = sourceOf s.regs := by simp +decide [ackPoint]

@[simp] theorem missedPoint_source (p d : Nat) (s : State) : sourceOf (missedPoint p d s).regs = sourceOf s.regs := by simp +decide [missedPoint]

@[simp] theorem composeAck_source (p d : Nat) (s : State) : sourceOf (composeAck p d s).regs = sourceOf s.regs := by simp +decide [composeAck]

theorem placeBurst_source {p limit : Nat} {b : Burst} {s t : State} (h : placeBurst p limit b s = some t) :
    sourceOf t.regs = sourceOf s.regs := by
  unfold placeBurst at h
  dsimp only at h
  split at h
  · cases h; rfl
  · cases h

theorem sendToDrop_source {p d typ seq flags : Nat} {acks : Bool} {payload : List Byte} {s t : State}
    (h : sendToDrop p d typ seq flags acks payload s = some t) : sourceOf t.regs = sourceOf s.regs := by
  obtain ⟨u, hu, rfl⟩ := Option.map_eq_some_iff.1 h
  rw [State.modCtx_regs, placeBurst_source hu]
  split <;> simp

theorem sendSequenced_source {p d typ flags : Nat} {acks repeated : Bool} {payload : List Byte} {s t : State}
    (h : sendSequenced p d typ flags acks repeated payload s = some t) : sourceOf t.regs = sourceOf s.regs := by
  unfold sendSequenced at h
  dsimp only at h
  split at h
  · cases h
  · obtain ⟨u, hu, rfl⟩ := Option.map_eq_some_iff.1 h
    rw [State.modCtx_regs, sendToDrop_source hu]

theorem sendQueued_source {p d : Nat} {acked : List Nat} {s t : State} (h : sendQueued p acked d s = some t) :
    sourceOf t.regs = sourceOf s.regs := by
  unfold sendQueued at h
  dsimp only at h
  split at h
  · cases h
  · split at h
    · cases h
    · obtain ⟨u, hu, rfl⟩ := Option.map_eq_some_iff.1 h
      rw [State.modCtx_regs, sendSequenced_source hu]

@[simp] theorem purgeQueue_source (p d newEpoch : Nat) (s : State) : sourceOf (purgeQueue p d newEpoch s).regs = sourceOf s.regs :=
  sourceBlind.purgeQueue p d newEpoch s

@[simp] theorem queueOnce_source (p d : Nat) (bytes : List Byte) (s : State) : sourceOf (queueOnce p d bytes s).regs = sourceOf s.regs := by simp +decide [queueOnce]

@[simp] theorem changeMode_source (p d mode atten : Nat) (s : State) : sourceOf (changeMode p d mode atten s).regs = sourceOf s.regs := by
  unfold changeMode
  dsimp only
  (repeat' split) <;> simp +decide

@[simp] theorem putRun_source (p : Nat) (r : LevelRun) (s : State) : sourceOf (putRun p r s).regs = sourceOf s.regs := by simp +decide [putRun]

@[simp] theorem endRun_source (p d : Nat) (s : State) : sourceOf (endRun p d s).regs = sourceOf s.regs := by simp +decide [endRun]

@[simp] theorem requestSounding_source (p length : Nat) (r : LevelRun) (s : State) : sourceOf (requestSounding p length r s).regs = sourceOf s.regs := by simp +decide [requestSounding]

@[simp] theorem decideRun_source (p : Nat) (r : LevelRun) (s : State) : sourceOf (decideRun p r s).regs = sourceOf s.regs := by simp +decide [decideRun]

@[simp] theorem goOn_source (fuel p b : Nat) (r : LevelRun) (s : State) : sourceOf (goOn fuel p b r s).regs = sourceOf s.regs := by
  induction fuel generalizing b r with
  | zero => exact decideRun_source p r s
  | succ n ih =>
    unfold goOn
    dsimp only
    (repeat' split) <;> simp [ih]

@[simp] theorem serveRuns_source (fuel p : Nat) (s : State) : sourceOf (serveRuns fuel p s).regs = sourceOf s.regs := by
  induction fuel generalizing s with
  | zero => rfl
  | succ n ih =>
    unfold serveRuns
    split
    · rfl
    · split
      · exact (ih _).trans (goOn_source _ _ _ _ s)
      · rfl

@[simp] theorem freeCtx_source (p d epoch : Nat) (s : State) : sourceOf (freeCtx p d epoch s).regs = sourceOf s.regs :=
  sourceBlind.freeCtx p d epoch s

@[simp] theorem sameEpoch_source (p d epoch : Nat) (s : State) : sourceOf (sameEpoch p d epoch s).regs = sourceOf s.regs :=
  sourceBlind.sameEpoch p d epoch s

@[simp] theorem epochHolds_source (p d : Nat) (s : State) : sourceOf (epochHolds p d s).regs = sourceOf s.regs := by
  unfold epochHolds
  dsimp only
  (repeat' split) <;> simp +decide

@[simp] theorem admitTaken_source (p : Nat) (s : State) : sourceOf (admitTaken p s).regs = sourceOf s.regs := by
  unfold admitTaken
  split <;> simp

@[simp] theorem rollOpened_source (p : Nat) (s : State) : sourceOf (rollOpened p s).regs = sourceOf s.regs := by simp +decide [rollOpened]

@[simp] theorem failover_source (p reason : Nat) (only : Option Nat) (s : State) : sourceOf (failover p reason only s).regs = sourceOf s.regs :=
  sourceBlind.failover p reason only s

@[simp] theorem survivorLost_source (q : Nat) (s : State) : sourceOf (survivorLost q s).regs = sourceOf s.regs :=
  sourceBlind.survivorLost q s

/-! ## Trunks -/

@[simp] theorem putTrain_source (p stop : Nat) (frames : List Burst) (s : State) : sourceOf (putTrain p stop frames s).regs = sourceOf s.regs := by simp +decide [putTrain]

@[simp] theorem sendTraining_source (p stop start : Nat) (message : List Byte) (s : State) : sourceOf (sendTraining p stop start message s).regs = sourceOf s.regs := by simp +decide [sendTraining]

@[simp] theorem sendDataTrain_source (p : Nat) (s : State) : sourceOf (sendDataTrain p s).regs = sourceOf s.regs := by simp +decide [sendDataTrain]

@[simp] theorem trunkIdle_source (p : Nat) (s : State) : sourceOf (trunkIdle p s).regs = sourceOf s.regs :=
  sourceBlind.trunkIdle p s

@[simp] theorem trainFail_source (p : Nat) (s : State) : sourceOf (trainFail p s).regs = sourceOf s.regs := by simp +decide [trainFail]

@[simp] theorem lossMove_source (p reason : Nat) (s : State) : sourceOf (lossMove p reason s).regs = sourceOf s.regs :=
  sourceBlind.lossMove p reason s

@[simp] theorem headPhaseE_source (p : Nat) (s : State) : sourceOf (headPhaseE p s).regs = sourceOf s.regs := by simp +decide [headPhaseE]

@[simp] theorem partnerPhaseE_source (p : Nat) (s : State) : sourceOf (partnerPhaseE p s).regs = sourceOf s.regs := by
  unfold partnerPhaseE
  dsimp only
  (repeat' split) <;> simp +decide

@[simp] theorem phaseQCycle_source (p q : Nat) (s : State) : sourceOf (phaseQCycle p q s).regs = sourceOf s.regs := by
  unfold phaseQCycle
  dsimp only
  (repeat' split) <;> simp +decide

@[simp] theorem enterData_source (p : Nat) (s : State) : sourceOf (enterData p s).regs = sourceOf s.regs := by simp +decide [enterData]

@[simp] theorem countLow_source (p : Nat) (s : State) : sourceOf (countLow p s).regs = sourceOf s.regs := by simp +decide [countLow]

@[simp] theorem unmarked_source (p : Nat) (fs : List TrunkFrame) (s : State) : sourceOf (unmarked p fs s).regs = sourceOf s.regs := by simp +decide [unmarked]

@[simp] theorem retrainDown_source (p : Nat) (s : State) : sourceOf (retrainDown p s).regs = sourceOf s.regs := by simp +decide [retrainDown]

@[simp] theorem headNumbering_source (p : Nat) (s : State) : sourceOf (headNumbering p s).regs = sourceOf s.regs := by
  unfold headNumbering
  (repeat' split) <;> simp

@[simp] theorem sendDown_source (p r : Nat) (s : State) : sourceOf (sendDown p r s).regs = sourceOf s.regs := by simp +decide [sendDown]

@[simp] theorem dataCycle_source (p : Nat) (s : State) : sourceOf (dataCycle p s).regs = sourceOf s.regs := by simp +decide [dataCycle]

@[simp] theorem trunkCycle_source (p : Nat) (s : State) : sourceOf (trunkCycle p s).regs = sourceOf s.regs := by
  unfold trunkCycle
  dsimp only
  (repeat' split) <;> simp +decide

@[simp] theorem ownTrain_source (p : Nat) (own : List (List Int × Int)) (s : State) : sourceOf (ownTrain p own s).regs = sourceOf s.regs := by simp +decide [ownTrain]

@[simp] theorem flowCheck_source (p : Nat) (s : State) : sourceOf (flowCheck p s).regs = sourceOf s.regs := by simp +decide [flowCheck]

/-! ## Modes and engines -/

@[simp] theorem leaveSteep_source (p : Nat) (s : State) : sourceOf (leaveSteep p s).regs = sourceOf s.regs := by simp +decide [leaveSteep]

@[simp] theorem resumePort_source (p : Nat) (s : State) : sourceOf (resumePort p s).regs = sourceOf s.regs := by
  unfold resumePort
  (repeat' split) <;> simp +decide

@[simp] theorem freeEngine_source (p : Nat) (s : State) : sourceOf (freeEngine p s).regs = sourceOf s.regs := by simp +decide [freeEngine]

@[simp] theorem closeDrop_source (p : Nat) (periodEnds : Bool) (d : Nat) (s : State) : sourceOf (closeDrop p periodEnds d s).regs = sourceOf s.regs := by simp +decide [closeDrop]

@[simp] theorem closePort_source (p : Nat) (s : State) : sourceOf (closePort p s).regs = sourceOf s.regs := by simp +decide [closePort]

@[simp] theorem endBranch_source (p : Nat) (s : State) : sourceOf (endBranch p s).regs = sourceOf s.regs := by simp +decide [endBranch]

@[simp] theorem leaveMode_source (p : Nat) (s : State) : sourceOf (leaveMode p s).regs = sourceOf s.regs := by
  have key : ∀ t f, sourceOf (freeEngine p (calStops p ((abandonRun p t).modPort p f))).regs = sourceOf t.regs := fun t f => by
    rw [freeEngine_source, calStops_source]
    exact abandonRun_source p t
  unfold leaveMode
  dsimp only
  rw [key]
  split
  · exact endBranch_source p s
  · rfl

@[simp] theorem enterMode_source (p m : Nat) (s : State) : sourceOf (enterMode p m s).regs = sourceOf s.regs := by
  have key : ∀ t : State, sourceOf (if (t.port p).stopped ∧ ((resumePort p t).port p).stopped then
      fault 9 [p] [(1, p), (1, (resumePort p t).engineFor p)] (resumePort p t) else resumePort p t).regs = sourceOf t.regs := by
    intro t
    split <;> simp
  unfold enterMode
  dsimp only
  have one : ∀ (t : State) f, sourceOf (if (t.port p).begun then t else t.modPort p f).regs = sourceOf t.regs := by
    intro t f
    split <;> rfl
  rw [key]
  split
  · rw [one, rollOpened_source]
    split
    · exact leaveSteep_source p s
    · exact (sourceOf_setReg (by decide) p 0 _).trans (leaveSteep_source p s)
  · exact leaveSteep_source p s

@[simp] theorem takeMode_source (p : Nat) (s : State) : sourceOf (takeMode p s).regs = sourceOf s.regs := by simp +decide [takeMode]

@[simp] theorem applyMode_source (p : Nat) (s : State) : sourceOf (applyMode p s).regs = sourceOf s.regs := by simp +decide [applyMode]

@[simp] theorem sendAdmit_source (p : Nat) (s : State) : sourceOf (sendAdmit p s).regs = sourceOf s.regs := by
  unfold sendAdmit
  split
  · rfl
  · refine sourceOf_getD (fun t ht => ?_) rfl
    obtain ⟨u, hu, rfl⟩ := Option.map_eq_some_iff.1 ht
    rw [admitTaken_source, placeBurst_source hu]

@[simp] theorem sendSound_source (p : Nat) (s : State) : sourceOf (sendSound p s).regs = sourceOf s.regs := by
  unfold sendSound
  (repeat' split)
  · rfl
  · rfl
  · refine sourceOf_getD (fun t ht => ?_) rfl
    obtain ⟨u, hu, rfl⟩ := Option.map_eq_some_iff.1 ht
    rw [State.modCtx_regs, placeBurst_source hu]

@[simp] theorem sendAgain_source (p : Nat) (acked : List Nat) (d : Nat) (s : State) : sourceOf (sendAgain p acked d s).regs = sourceOf s.regs := by
  unfold sendAgain
  refine sourceOf_forAll (fun f t => ?_) _ s
  split
  · rfl
  next u hu =>
    rw [sourceOf_bump (by decide), State.modCtx_regs, sendToDrop_source hu]

@[simp] theorem sendMsg_source (p : Nat) (acked : List Nat) (m : OutMsg) (s : State) : sourceOf (sendMsg p acked m s).regs = sourceOf s.regs := by
  unfold sendMsg
  dsimp only
  split
  · rfl
  · split
    · rfl
    next u hu => rw [State.modPort_regs, sendSequenced_source hu]

@[simp] theorem sendAck_source (p : Nat) (acked : List Nat) (d : Nat) (s : State) : sourceOf (sendAck p acked d s).regs = sourceOf s.regs := by
  have answered : ∀ t : State, sourceOf t.regs = sourceOf s.regs → sourceOf (if (t.ctx p d).ackOwed then
      match sendQueued p acked d t with
      | some u => u
      | none => (sendToDrop p d 0 0 (t.moreFlag p d 0 none none) true [] t).getD t
    else t).regs = sourceOf s.regs := by
    intro t ht
    split
    · split
      next u hu => exact (sendQueued_source hu).trans ht
      · exact sourceOf_getD (fun u hu => (sendToDrop_source hu).trans ht) ht
    · exact ht
  unfold sendAck
  dsimp only
  split
  · refine answered _ ?_
    split
    · exact sendMsg_source ..
    · rfl
  · split
    · refine sourceOf_getD (fun t ht => ?_) rfl
      obtain ⟨u, hu, rfl⟩ := Option.map_eq_some_iff.1 ht
      rw [State.modCtx_regs, sendToDrop_source hu, State.modCtx_regs]
    · rfl

@[simp] theorem fillTurn_source (p : Nat) (acked ds : List Nat) (s : State) : sourceOf (fillTurn p acked ds s).1.regs = sourceOf s.regs := by
  induction ds generalizing s with
  | nil => rfl
  | cons d rest ih =>
    unfold fillTurn
    split
    · exact ih s
    next t ht => exact (ih t).trans (sendQueued_source ht)

@[simp] theorem fillWindow_source (fuel p : Nat) (acked ds : List Nat) (first : Option Nat) (s : State) : sourceOf (fillWindow fuel p acked ds first s).1.regs = sourceOf s.regs := by
  induction fuel generalizing first s with
  | zero => rfl
  | succ n ih =>
    unfold fillWindow
    dsimp only
    split
    · exact fillTurn_source p acked ds s
    · exact (ih _ _).trans (fillTurn_source p acked ds s)

@[simp] theorem fillDown_source (p : Nat) (acked : List Nat) (s : State) : sourceOf (fillDown p acked s).regs = sourceOf s.regs := by
  unfold fillDown
  dsimp only
  (repeat' split) <;> simp +decide

@[simp] theorem downstream_source (p : Nat) (s : State) : sourceOf (downstream p s).regs = sourceOf s.regs := by simp +decide [downstream]

@[simp] theorem standbyDue_source (q d : Nat) (s : State) : sourceOf (standbyDue q d s).regs = sourceOf s.regs := by
  unfold standbyDue
  dsimp only
  (repeat' split) <;> simp +decide

@[simp] theorem openDrop_source (p d : Nat) (s : State) : sourceOf (openDrop p d s).regs = sourceOf s.regs := by simp +decide [openDrop]

@[simp] theorem resetRx_source (p : Nat) (idle : Bool) (s : State) : sourceOf (resetRx p idle s).regs = sourceOf s.regs := by simp +decide [resetRx]

@[simp] theorem branchCycle_source (p : Nat) (s : State) : sourceOf (branchCycle p s).regs = sourceOf s.regs := by simp +decide [branchCycle]

@[simp] theorem countShort_source (p : Nat) (s : State) : sourceOf (countShort p s).regs = sourceOf s.regs := by simp +decide [countShort]

@[simp] theorem passBeacon_source (p : Nat) (s : State) : sourceOf (passBeacon p s).regs = sourceOf s.regs := by simp +decide [passBeacon]

end Sys2Proof.Machine

/-! PROOFS. What the start of a cycle on the ports leaves of the time base (R61, R63, R70, R75). -/

namespace Sys2Proof.Machine

/-! ## The time base beside the loss of its source -/

/-- What of the time base even the loss of its source leaves: TIME64, the cycles and the cycle length (R61, R63, R70). -/
def TimeSt.grid (x : TimeSt) : Nat × Nat × Nat × Nat × Bool := (x.time64, x.cycles, x.nextCycle, x.n, x.held)

/-- From one state to another the grid stays, TIME_SOURCE too, and without a trunk as source the whole time base. -/
structure KeepsClock (s t : State) : Prop where
  grid : t.time.grid = s.time.grid
  source : sourceOf t.regs = sourceOf s.regs
  steady : s.trunkSource = none → t.time = s.time

theorem trunkSource_of_source {s t : State} (h : sourceOf t.regs = sourceOf s.regs) : t.trunkSource = s.trunkSource := by
  have hreg : t.regN Code.timeSource 0 = s.regN Code.timeSource 0 :=
    congrArg Int.toNat (reg_of_regWritten (c := Code.timeSource) (i := 0) h (by decide) (by decide) (by decide))
  unfold State.trunkSource
  rw [hreg]

theorem KeepsClock.of_same {s t : State} (ht : t.time = s.time) (hr : sourceOf t.regs = sourceOf s.regs) : KeepsClock s t :=
  ⟨congrArg TimeSt.grid ht, hr, fun _ => ht⟩

theorem KeepsClock.refl (s : State) : KeepsClock s s := .of_same rfl rfl

theorem KeepsClock.trans {s t u : State} (h1 : KeepsClock s t) (h2 : KeepsClock t u) : KeepsClock s u where
  grid := h2.grid.trans h1.grid
  source := h2.source.trans h1.source
  steady h := (h2.steady ((trunkSource_of_source h1.source).trans h)).trans (h1.steady h)

theorem KeepsClock.ite {c : Prop} [Decidable c] {s t u : State} (h1 : KeepsClock s t) (h2 : KeepsClock s u) :
    KeepsClock s (if c then t else u) := by
  split
  · exact h1
  · exact h2

theorem KeepsClock.forAll {α : Type} {f : α → State → State} (h : ∀ x t, KeepsClock t (f x t)) (xs : List α) (s : State) :
    KeepsClock s (forAll xs f s) := by
  induction xs generalizing s with
  | nil => exact .refl s
  | cons x xs ih => exact (h x s).trans (ih (f x s))

/-! ## Lost ports -/

theorem sourceLost_grid (p : Nat) (s : State) : (sourceLost p s).time.grid = s.time.grid := by
  unfold sourceLost
  split
  · exact (congrArg TimeSt.grid (refreshGrade_time _)).trans (State.regraded_field (g := TimeSt.grid) (fun _ => rfl) _)
  · rfl

theorem sourceLost_source (p : Nat) (s : State) : sourceOf (sourceLost p s).regs = sourceOf s.regs :=
  sourceLost_keeps (g := fun t => sourceOf t.regs)
    ⟨fun x l t => pushStatus_source x l t, fun _ _ => rfl, fun _ => rfl, fun t => bumpBy_regWritten (objKey_ne (by decide) (by decide) (by decide)) 1 t⟩
    (fun _ _ => rfl) (fun _ _ => rfl) p s

theorem sourceLost_keepsClock (p : Nat) (s : State) : KeepsClock s (sourceLost p s) where
  grid := sourceLost_grid p s
  source := sourceLost_source p s
  steady h := by
    unfold sourceLost State.isTimeSource
    rw [h]
    exact congrArg State.time (if_neg (by simp))

theorem portLost_keepsClock (p : Nat) (s : State) : KeepsClock s (portLost p s) := by
  unfold portLost
  dsimp only
  split
  · have h1 : KeepsClock s ((trunkIdle p (s.bumpBy Code.trunkFramesDropped p (s.port p).trunk.awaiting)).modTrunk p
        (fun x => { x with previous := [], current := [], again := [], marks := [] })) :=
      .of_same (by simp) (by simp +decide)
    refine KeepsClock.trans ?_ (.of_same (lossMove_clock _ _ _).1 (lossMove_source _ _ _))
    split
    · exact h1.trans (sourceLost_keepsClock p _)
    · exact h1
  · exact .of_same (by simp) (by simp)

theorem stopForEngine_keepsClock (p : Nat) (s : State) : KeepsClock s (stopForEngine p s) := by
  rw [stopForEngine_eq]
  refine KeepsClock.trans ?_ (portLost_keepsClock p _)
  exact .of_same (leaveSteep_clock p s).1 (leaveSteep_source p s)

theorem stopHalfless_keepsClock (p : Nat) (s : State) : KeepsClock s (stopHalfless p s) :=
  .ite (stopForEngine_keepsClock p s) (.refl s)

/-! ## The start of a cycle on a port -/

/-- A port's last cycle is closed, its mode and settings taken up (R80, R370). -/
def portTaken (p : Nat) (s : State) : State :=
  latchPort p (applyMode p (endFullRun p (if (s.port p).steep && (s.port p).started then leaveSteep p s else s)))

/-- The cycle of a port that runs (R78, R128). -/
def portRuns (es : List Echo) (p : Nat) (s : State) : State :=
  flowCheck p (countShort p (dcSpan p es (traverseCycle p es
    (if s.isTrunk p then trunkCycle p (ownTrain p (ownOf es p) s) else branchCycle p s))))

theorem openPort_eq (es : List Echo) (p : Nat) (s : State) : openPort es p s =
    if ((portTaken p s).port p).started = false ∨ ((portTaken p s).port p).mode = 0 then
      if ((portTaken p s).port p).flowStop then flowCheck p (portTaken p s) else portTaken p s
    else if ((stopHalfless p (resumePort p (portTaken p s))).port p).stopped then
      flowCheck p (passBeacon p (stopHalfless p (resumePort p (portTaken p s))))
    else portRuns es p (stopHalfless p (resumePort p (portTaken p s))) := rfl

theorem portTaken_keepsClock (p : Nat) (s : State) : KeepsClock s (portTaken p s) := by
  have hsteep : KeepsClock s (if (s.port p).steep && (s.port p).started then leaveSteep p s else s) :=
    .ite (.of_same (leaveSteep_clock p s).1 (leaveSteep_source p s)) (.refl s)
  have htaken : ∀ t, KeepsClock t (latchPort p (applyMode p (endFullRun p t))) := fun t => .of_same (by simp) (by simp)
  exact hsteep.trans (htaken _)

theorem portRuns_keepsClock (es : List Echo) (p : Nat) (s : State) : KeepsClock s (portRuns es p s) := by
  have hcycle : KeepsClock s (if s.isTrunk p then trunkCycle p (ownTrain p (ownOf es p) s) else branchCycle p s) :=
    .ite (.of_same (by simp) (by simp)) (.of_same (by simp) (by simp))
  have hends : ∀ t, KeepsClock t (flowCheck p (countShort p (dcSpan p es (traverseCycle p es t)))) := fun t =>
    .of_same (by simp) (by simp)
  exact hcycle.trans (hends _)

theorem openPort_keepsClock (es : List Echo) (p : Nat) (s : State) : KeepsClock s (openPort es p s) := by
  have htaken := portTaken_keepsClock p s
  have hkept : KeepsClock s (stopHalfless p (resumePort p (portTaken p s))) :=
    htaken.trans ((KeepsClock.of_same (resumePort_clock p _).1 (resumePort_source p _)).trans (stopHalfless_keepsClock p _))
  have flow : ∀ t, KeepsClock t (flowCheck p t) := fun t => .of_same (flowCheck_clock p t).1 (flowCheck_source p t)
  rw [openPort_eq]
  refine .ite (.ite (htaken.trans (flow _)) htaken) (.ite ?_ (hkept.trans (portRuns_keepsClock es p _)))
  exact hkept.trans ((KeepsClock.of_same (passBeacon_clock p _).1 (passBeacon_source p _)).trans (flow _))

theorem closePort_keepsClock (p : Nat) (s : State) : KeepsClock s (closePort p s) :=
  .of_same (closePort_clock p s).1 (closePort_source p s)

end Sys2Proof.Machine

/-! PROOFS. O43: the datum, the start of a cycle and a realignment (R54, R58, R61, R63, R64, R70, R71). -/

namespace Sys2Proof.Machine

theorem exec_datum {xo : Int} {s : State} (hs : s.Ready) : exec (.datum xo) s = .next (collect (datum xo s)) :=
  run_running _ hs.1

theorem exec_cycleStart {es : List Echo} {s : State} (hs : s.Ready) : exec (.cycleStart es) s = .next (collect (cycleStart es s)) :=
  run_running _ hs.1

/-! ## The start of a cycle -/

/-- The state of a cycle's start with the ports closed and TIME64 at it (R61, R63). -/
def State.cycleReached (s : State) : State := advanceTo s.time.nextCycle (forAll allPorts closePort s)

theorem cycleReached_time (s : State) (h : s.time.time64 ≤ s.time.nextCycle) :
    ∃ tick, s.cycleReached.time = { s.time with tick := tick, time64 := s.time.nextCycle } := by
  have hclosed : (forAll allPorts closePort s).time = s.time := forAll_keeps State.time _ _ (fun p t => (closePort_clock p t).1) s
  unfold State.cycleReached advanceTo
  rw [hclosed]
  split
  next hle =>
    refine ⟨s.time.tick, ?_⟩
    rw [hclosed, ← Nat.le_antisymm h hle]
  · exact ⟨_, by rw [passTicks, hclosed]⟩

theorem advanceTo_regs (t : Nat) (s : State) : (advanceTo t s).regs = s.regs := by
  unfold advanceTo
  split <;> rfl

theorem cycleReached_source (s : State) : sourceOf s.cycleReached.regs = sourceOf s.regs := by
  unfold State.cycleReached
  rw [advanceTo_regs]
  exact sourceOf_forAll (fun p t => closePort_source p t) _ s

/-- The time base at the start of a cycle (R63, R70). -/
def TimeSt.nextBegun (x : TimeSt) (n : Nat) : TimeSt :=
  { stepSteer (stepSlew x) with cycles := x.cycles + 1, nextCycle := n }

/-- The state in which the next cycle has begun, before its work on the ports (R63). -/
def State.cycleBegun (s : State) : State :=
  { s.cycleReached with time := s.cycleReached.time.nextBegun (s.time.nextCycle + s.cycleReached.cycleTicks) }

theorem cycleStart_begins {es : List Echo} {s : State} (hr : s.time.running = true) (ha : s.time.realigning = false)
    (h : s.time.time64 ≤ s.time.nextCycle) : cycleStart es s =
      forAll (List.range 9) (fun k u => if (u.cluster k).failMoved then u.modCluster k (fun c => { c with failMoved := false }) else u)
        (forAll allPorts (openPort es) s.cycleBegun) := by
  have hclosed : (forAll allPorts closePort s).time = s.time := forAll_keeps State.time _ _ (fun p t => (closePort_clock p t).1) s
  have hmax : max (forAll allPorts closePort s).time.nextCycle ((forAll allPorts closePort s).time.time64 /
      (forAll allPorts closePort s).cycleTicks * (forAll allPorts closePort s).cycleTicks) = s.time.nextCycle := by
    rw [hclosed]
    exact Nat.max_eq_left ((Nat.div_mul_le_self _ _).trans h)
  have hskip : skipTo s.time.nextCycle s.cycleReached = s.cycleReached := by
    obtain ⟨tick, ht⟩ := cycleReached_time s h
    refine if_neg ?_
    rw [ht]
    exact Nat.lt_irrefl _
  unfold cycleStart
  rw [hr, ha]
  simp only [Bool.true_eq_false, if_false, Bool.false_eq_true]
  rw [hmax]
  change forAll _ _ (forAll _ _ { skipTo s.time.nextCycle s.cycleReached with
    time := (skipTo s.time.nextCycle s.cycleReached).time.nextBegun (s.time.nextCycle + (skipTo s.time.nextCycle s.cycleReached).cycleTicks) }) = _
  rw [hskip]
  rfl

/-- CYCLE_START as the statement asks of it (R61, R63, R70). -/
theorem cycles_begin {es : List Echo} {s : State} (hs : s.Ready) (hr : s.time.running = true) (ha : s.time.realigning = false)
    (h : s.time.time64 ≤ s.time.nextCycle) :
    ∃ t : State, exec (.cycleStart es) s = .next t ∧ t.time.time64 = s.time.nextCycle ∧
      t.time.cycles = s.time.cycles + 1 ∧ t.time.nextCycle = s.time.nextCycle + s.time.n * 10000 ∧
      t.time.n = s.time.n ∧ t.time.held = false ∧
      (s.trunkSource = none →
        t.time.slew = (if 0 < s.time.slew then s.time.slew - 1 else if s.time.slew < 0 then s.time.slew + 1 else 0)) := by
  obtain ⟨tick, hreached⟩ := cycleReached_time s h
  have hbegun : s.cycleBegun.time = { s.time with tick := tick, time64 := s.time.nextCycle }.nextBegun (s.time.nextCycle + s.time.n * 10000) := by
    unfold State.cycleBegun State.cycleTicks
    rw [hreached]
    rfl
  have hports : KeepsClock s.cycleBegun (forAll allPorts (openPort es) s.cycleBegun) := .forAll (fun p t => openPort_keepsClock es p t) _ _
  have hends : ∀ u, (forAll (List.range 9) (fun k u => if (u.cluster k).failMoved then u.modCluster k (fun c => { c with failMoved := false }) else u) u).time =
      u.time := fun u => forAll_keeps State.time _ _ (fun k v => by split <;> rfl) u
  have htime : (collect (cycleStart es s)).time = (forAll allPorts (openPort es) s.cycleBegun).time := by
    rw [collect_time, cycleStart_begins hr ha h, hends]
  have hgrid := hports.grid
  rw [← htime, hbegun] at hgrid
  simp only [TimeSt.grid, Prod.mk.injEq] at hgrid
  obtain ⟨h64, hcycles, hnext, hn, hheld⟩ := hgrid
  refine ⟨_, exec_cycleStart hs, h64, hcycles, hnext, hn, hheld, fun hsource => ?_⟩
  have hsteady := hports.steady ((trunkSource_of_source (cycleReached_source s)).trans hsource)
  rw [← htime, hbegun] at hsteady
  rw [hsteady]
  rfl

/-! ## Realignment -/

/-- A port with its run ended and nothing on its line, until the new grid starts (R71, R224). -/
def PortSt.silenced (x : PortSt) : PortSt :=
  { x with onLine := [], beaconLeft := 0, beaconCut := false, rx := { x.rx with state := .off, span := .off, loaded := none, header := none } }

/-- A port stops for a realignment (R71). -/
def realignPort (p : Nat) (s : State) : State := (abandonRun p (endFullRun p s)).modPort p PortSt.silenced

theorem stopForRealign_eq (s : State) :
    stopForRealign s = forAll allPorts realignPort { s with time := { s.time with running := false } } := rfl

theorem realignPort_keeps {β : Type} {g : State → β} (hg : ∀ (t : State) r p, g { t with regs := r, ports := p } = g t) (p : Nat) (s : State) :
    g (realignPort p s) = g s := by
  have hend : g (endFullRun p s) = g s := by
    unfold endFullRun
    (repeat' split)
    · exact hg s s.regs _
    · rfl
    · rfl
  exact (hg _ (abandonRun p (endFullRun p s)).regs _).trans ((abandonRun_keeps hg p _).trans hend)

theorem realignPort_port_ne {p q : Nat} (h : q ≠ p) (s : State) : (realignPort p s).port q = s.port q := by
  have hend : (endFullRun p s).port q = s.port q := by
    unfold endFullRun
    (repeat' split)
    · exact State.port_modPort_ne _ _ h
    · rfl
    · rfl
  exact (State.port_modPort_ne _ _ h).trans ((abandonRun_port_ne h _).trans hend)

theorem stopForRealign_port {p : Nat} (hp : p < 144) (s : State) :
    ((stopForRealign s).port p).onLine = [] ∧ ((stopForRealign s).port p).rx.state = .off := by
  have hmem : p ∈ allPorts := List.mem_range.2 hp
  rw [stopForRealign_eq]
  refine forAll_establishes (P := fun t => (t.port p).onLine = [] ∧ (t.port p).rx.state = .off) hmem
    (fun t => ?_) (fun q t ht => ?_) _
  · rw [realignPort, State.port_modPort]
    exact ⟨rfl, rfl⟩
  · by_cases hq : p = q
    · subst hq
      rw [realignPort, State.port_modPort]
      exact ⟨rfl, rfl⟩
    · rw [realignPort_port_ne hq]
      exact ht

/-- With a realignment begun, CYCLE_START stops the ports (R71). -/
theorem realignment_stops {es : List Echo} {s : State} (hs : s.Ready) (hr : s.time.running = true) (ha : s.time.realigning = true) :
    ∃ t : State, exec (.cycleStart es) s = .next t ∧ t.time = { s.time with running := false } ∧
      (∀ p : Nat, p < 144 → (t.port p).onLine = [] ∧ (t.port p).rx.state = .off) ∧ t.ctxs = s.ctxs := by
  have hstops : cycleStart es s = stopForRealign s := by
    unfold cycleStart
    rw [hr, ha]
    rfl
  have hrun := exec_cycleStart (es := es) hs
  rw [hstops] at hrun
  have keep := fun {β : Type} (g : State → β) (hg : ∀ (t : State) r p, g { t with regs := r, ports := p } = g t) =>
    forAll_keeps g allPorts realignPort (fun p t => realignPort_keeps hg p t) { s with time := { s.time with running := false } }
  refine ⟨_, hrun, ?_, fun p hp => ?_, ?_⟩
  · rw [collect_time, stopForRealign_eq, keep State.time (fun _ _ _ => rfl)]
  · obtain ⟨hline, hrx⟩ := stopForRealign_port hp s
    rw [collect_port_rx]
    refine ⟨?_, hrx⟩
    rcases collect_port (stopForRealign s) p with h | h
    · rw [h, hline]
    · rw [h]; rfl
  · rw [collect_ctxs, stopForRealign_eq, keep State.ctxs (fun _ _ _ => rfl)]

end Sys2Proof.Machine

/-! PROOFS. O43: the datum and the statement about the grid (R54, R58, R61, R63, R64, R70, R71). -/

namespace Sys2Proof.Machine

/-! ## What the work of a datum leaves alone -/

/-- What sees neither lines, contexts, cells, clusters, engines, tests nor ledgers, of the power whether the core has started, of the
collector what it holds, and of the working values none that counts a skipped run. -/
structure DatumBlind {β : Type} (g : State → β) : Prop where
  parts : ∀ (t : State) p c e k n x w f l, g { t with
    ports := p, ctxs := c, cells := e, clusters := k, engines := n, test := x, power := w, faults := f, aon := { t.aon with ledgers := l } } = g t
  skipped : ∀ p t, g (State.bump t Code.runsSkipped p) = g t

section
variable {β : Type} {g : State → β} (h : DatumBlind g)
include h

theorem DatumBlind.ports (t : State) (x : Tab PortSt) : g { t with ports := x } = g t :=
  h.parts t x t.ctxs t.cells t.clusters t.engines t.test t.power t.faults t.aon.ledgers

theorem DatumBlind.ctxs (t : State) (x : Tab Ctx) : g { t with ctxs := x } = g t :=
  h.parts t t.ports x t.cells t.clusters t.engines t.test t.power t.faults t.aon.ledgers

theorem DatumBlind.cells (t : State) (x : CellSt) (y : TestSt) : g { t with cells := x, test := y } = g t :=
  h.parts t t.ports t.ctxs x t.clusters t.engines y t.power t.faults t.aon.ledgers

theorem DatumBlind.clusters (t : State) (x : Tab ClusterSt) : g { t with clusters := x } = g t :=
  h.parts t t.ports t.ctxs t.cells x t.engines t.test t.power t.faults t.aon.ledgers

theorem DatumBlind.engines (t : State) (x : Tab EngineSt) : g { t with engines := x } = g t :=
  h.parts t t.ports t.ctxs t.cells t.clusters x t.test t.power t.faults t.aon.ledgers

theorem DatumBlind.power (t : State) (x : PowerSt) : g { t with power := x } = g t :=
  h.parts t t.ports t.ctxs t.cells t.clusters t.engines t.test x t.faults t.aon.ledgers

theorem DatumBlind.faults (t : State) (x : FaultSt) : g { t with faults := x } = g t :=
  h.parts t t.ports t.ctxs t.cells t.clusters t.engines t.test t.power x t.aon.ledgers

theorem DatumBlind.modLedger (k : Nat) (f : Ledger → Ledger) (t : State) : g (modLedger k f t) = g t := by
  unfold Machine.modLedger
  (repeat' split)
  · exact h.parts t t.ports t.ctxs t.cells t.clusters t.engines t.test t.power t.faults _
  · rfl
  · rfl

theorem DatumBlind.clusterDatum (d k : Nat) (t : State) : g (clusterDatum d k t) = g t := by
  have hports : ∀ u, g (forAll (portsOf k) (fun p t => t.modPort p (fun x => { x with started := true, driverOff := false, steep := false })) u) = g u :=
    fun u => forAll_keeps g _ _ (fun p v => h.ports v _) u
  unfold Machine.clusterDatum
  dsimp only
  split
  · exact (h.faults _ _).trans ((h.faults _ _).trans ((h.modLedger k _ _).trans ((hports _).trans (h.clusters t _))))
  · rfl

theorem DatumBlind.remake (whole : Bool) (p : Nat) (b : Bool) (l : Layout) (f : Nat → Cell → Cell) (t : State) :
    g (remake whole p b l f t) = g t := by
  have htidy : ∀ u, g (tidyPool u) = g u := fun u => h.cells u _ u.test
  have hput : ∀ r cs u, g (putCells r cs u) = g u := fun r cs u => (htidy _).trans (h.cells u _ _)
  exact (hput _ _ _).trans (h.cells t _ t.test)

theorem DatumBlind.stampCells (second : Nat) (t : State) : g (stampCells second t) = g t := by
  unfold Machine.stampCells
  dsimp only
  split
  · refine (forAll_keeps g _ _ (fun p u => ?_) _).trans (h.cells t _ t.test)
    split
    · rfl
    · exact (h.remake _ _ _ _ _ _).trans (h.remake _ _ _ _ _ u)
  · rfl

theorem DatumBlind.firstDatumWork (second : Nat) (t : State) : g (firstDatumWork second t) = g t := by
  unfold Machine.firstDatumWork
  dsimp only
  split
  · rfl
  · refine (forAll_keeps g _ _ (fun k u => ?_) _).trans ((h.stampCells _ _).trans (h.power t _))
    split
    · exact h.clusters u _
    · rfl

theorem DatumBlind.beaconDatum (d k p : Nat) (t : State) : g (beaconDatum d k p t) = g t := by
  have hwakes : ∀ ns (f : State → Ctx → Ctx) (u : State), g (forAll ns (fun n v => v.modCtx p n (f v)) u) = g u :=
    fun ns f u => forAll_keeps g _ _ (fun n v => h.ctxs v _) u
  have hsteep : ∀ u, g (leaveSteep p u) = g u :=
    leaveSteep_keeps (fun u x c => h.parts u x u.ctxs u.cells c u.engines u.test u.power u.faults u.aon.ledgers) p
  unfold Machine.beaconDatum
  dsimp only
  split
  · exact (h.ports _ _).trans ((hsteep _).trans (hwakes _ (fun v c => { c with wakeFrom := some (k + wakeGap v.time.n) }) t))
  · rfl

theorem DatumBlind.travDatum (p second : Nat) (t : State) : g (travDatum p second t) = g t := by
  have hdue : ∀ b : Bool, g (if b then t.bump Code.runsSkipped p else t.modTrav p (fun x => { x with due := true })) = g t := by
    intro b
    split
    · exact h.skipped p t
    · exact h.ports t _
  unfold Machine.travDatum
  dsimp only
  split
  · exact hdue _
  · rfl

theorem DatumBlind.dwellDatum (k : Nat) (t : State) : g (dwellDatum k t) = g t := by
  unfold Machine.dwellDatum
  dsimp only
  split <;> exact h.clusters t _

theorem DatumBlind.rotationDatum (second : Nat) (t : State) : g (rotationDatum second t) = g t := by
  unfold Machine.rotationDatum
  split
  · unfold rotate
    dsimp only
    split
    · split
      · exact h.engines t _
      · rfl
    · rfl
  · rfl

end

/-- The work of a datum on clusters, ports and cells (R81, R90, R222, R236, R449). -/
def datumWork (d second k : Nat) (s : State) : State :=
  forAll (List.range 9) (fun k t => if (t.cluster k).state ≤ 1 then dwellDatum k t else t)
    (forAll allPorts (fun p t => travDatum p second t)
      (forAll allPorts (beaconDatum d k) (firstDatumWork second (forAll (List.range 9) (clusterDatum d) s))))

theorem DatumBlind.datumWork {β : Type} {g : State → β} (h : DatumBlind g) (d second k : Nat) (t : State) :
    g (datumWork d second k t) = g t := by
  have hdwell : ∀ u, g (forAll (List.range 9) (fun k t => if (t.cluster k).state ≤ 1 then Machine.dwellDatum k t else t) u) = g u :=
    fun u => forAll_keeps g _ _ (fun k v => by
      split
      · exact h.dwellDatum k v
      · rfl) u
  have htrav : ∀ u, g (forAll allPorts (fun p t => Machine.travDatum p second t) u) = g u :=
    fun u => forAll_keeps g _ _ (fun p v => h.travDatum p second v) u
  have hbeacon : ∀ u, g (forAll allPorts (Machine.beaconDatum d k) u) = g u :=
    fun u => forAll_keeps g _ _ (fun p v => h.beaconDatum d k p v) u
  have hcluster : ∀ u, g (forAll (List.range 9) (Machine.clusterDatum d) u) = g u :=
    fun u => forAll_keeps g _ _ (fun k v => h.clusterDatum d k v) u
  unfold Machine.datumWork
  rw [hdwell, htrav, hbeacon, h.firstDatumWork, hcluster]

/-! ## The datum -/

/-- TIME64 at the datum, with the cycles before it counted (R61, R63). -/
def State.datumReached (s : State) : State := skipTo s.nextDatum (advanceTo s.nextDatum s)

/-- The state in which a datum has come, before its work (R58, R61, R64). -/
def State.datumBegun (s : State) : State :=
  let u := s.datumReached
  let n := u.regN Code.cycleLen 0
  { u with
    time := { u.time with lastDatum := some s.nextDatum, n := n,
                          nextCycle := if decide (s.nextDatum < u.time.nextCycle) then s.nextDatum + n * milliTicks else s.nextDatum }
    aon := { u.aon with rtc := u.time.time64 } }

theorem datum_eq {xo : Int} {s : State} (hr : s.time.running = true) : ∃ k, datum xo s =
    rotationDatum (s.nextDatum / secondTicks) (learnOffset xo (datumWork s.nextDatum (s.nextDatum / secondTicks) k s.datumBegun)) := by
  unfold datum
  rw [if_neg (by rw [hr]; decide)]
  exact ⟨_, rfl⟩

theorem datumReached_parts (s : State) : s.datumReached.regs = s.regs ∧ s.datumReached.time.n = s.time.n ∧
    s.datumReached.time.slew = s.time.slew ∧ s.datumReached.time.ref10m = s.time.ref10m ∧
    s.datumReached.time.trunkTick = s.time.trunkTick ∧ s.datumReached.aon.xoOffset = s.aon.xoOffset ∧
    s.datumReached.time.time64 = max s.time.time64 s.nextDatum := by
  have hskip : ∀ {β : Type} (g : State → β), (∀ (t : State) c n, g { t with time := { t.time with cycles := c, nextCycle := n } } = g t) →
      ∀ t u, g (skipTo t u) = g u := fun g hg t u => by
    unfold skipTo
    split
    · exact hg u _ _
    · rfl
  unfold State.datumReached
  simp only [hskip (fun t => t.regs) (fun _ _ _ => rfl), hskip (fun t => t.time.n) (fun _ _ _ => rfl),
    hskip (fun t => t.time.slew) (fun _ _ _ => rfl), hskip (fun t => t.time.ref10m) (fun _ _ _ => rfl),
    hskip (fun t => t.time.trunkTick) (fun _ _ _ => rfl), hskip (fun t => t.aon.xoOffset) (fun _ _ _ => rfl),
    hskip (fun t => t.time.time64) (fun _ _ _ => rfl)]
  unfold advanceTo
  split
  next h => exact ⟨rfl, rfl, rfl, rfl, rfl, rfl, (Nat.max_eq_left h).symm⟩
  next h => exact ⟨rfl, rfl, rfl, rfl, rfl, rfl, (Nat.max_eq_right (Nat.le_of_not_le h)).symm⟩

/-- The datum that comes next: a whole second that has not been, at TIME64 or after it but where the grid lies before the edge
that set it (R54, R59). -/
theorem nextDatum_parts (s : State) : s.nextDatum % 10000000 = 0 ∧ s.time.lastDatum ≠ some s.nextDatum ∧
    (s.time.nextCycle ≠ s.time.time64 / 10000000 * 10000000 ∨ s.time.lastDatum = some (s.time.time64 / 10000000 * 10000000) →
      s.time.time64 ≤ s.nextDatum) := by
  unfold State.nextDatum secondTicks
  dsimp only
  split
  next h =>
    obtain ⟨hn, hl⟩ := h
    exact ⟨by omega, hl, fun hc => (hc.elim (fun hc => absurd hn hc) (fun hc => absurd hc hl))⟩
  · split
    next h =>
      refine ⟨by omega, ?_, fun _ => by omega⟩
      rw [h]
      simp
    next h => exact ⟨by omega, h, fun _ => by omega⟩

theorem datumBlind_source : DatumBlind (fun t => sourceOf t.regs) where
  parts _ _ _ _ _ _ _ _ _ _ := rfl
  skipped p t := sourceOf_bump (by decide) p t

theorem DatumBlind.of_fields {β : Type} {g : State → β}
    (hg : ∀ (t : State) p c e k n x w f l r, g { t with
      ports := p, ctxs := c, cells := e, clusters := k, engines := n, test := x, power := w, faults := f, aon := { t.aon with ledgers := l },
      regs := r } = g t) : DatumBlind g where
  parts t p c e k n x w f l := hg t p c e k n x w f l t.regs
  skipped p t := State.bumpBy_keeps (fun u r => hg u u.ports u.ctxs u.cells u.clusters u.engines u.test u.power u.faults u.aon.ledgers r) t _ p 1

/-- Learning goes on at a datum as it did before it (R58). -/
theorem datumWork_learning (d second k : Nat) (s : State) : (datumWork d second k s.datumBegun).learning = s.learning := by
  obtain ⟨hregs, -, -, href, htick, -⟩ := datumReached_parts s
  have hsource : sourceOf (datumWork d second k s.datumBegun).regs = sourceOf s.regs :=
    (datumBlind_source.datumWork d second k _).trans (congrArg sourceOf hregs)
  have htime : (datumWork d second k s.datumBegun).time = s.datumBegun.time :=
    (DatumBlind.of_fields (g := State.time) (fun _ _ _ _ _ _ _ _ _ _ _ => rfl)).datumWork d second k _
  unfold State.learning
  rw [trunkSource_of_source hsource, htime]
  exact congrArg₂ (fun a b => if s.trunkSource.isSome then a else b) htick href

theorem learnOffset_parts (xo : Int) (s : State) : (learnOffset xo s).time = s.time ∧ (learnOffset xo s).aon.rtc = s.aon.rtc ∧
    (learnOffset xo s).aon.xoOffset = if s.learning then xo else s.aon.xoOffset := by
  unfold learnOffset
  split <;> exact ⟨rfl, rfl, rfl⟩

/-- DATUM as the statement asks of it (R54, R58, R61, R64). -/
theorem datums_come {xo : Int} {s : State} (hs : s.Ready) (hr : s.time.running = true) :
    ∃ (t : State) (d : Nat), exec (.datum xo) s = .next t ∧ d % 10000000 = 0 ∧ s.time.time64 ≤ t.time.time64 ∧
      t.time.lastDatum = some d ∧ s.time.lastDatum ≠ some d ∧ d ≤ t.time.time64 ∧ t.aon.rtc = t.time.time64 ∧
      (s.time.nextCycle ≠ s.time.time64 / 10000000 * 10000000 ∨ s.time.lastDatum = some (s.time.time64 / 10000000 * 10000000) →
        t.time.time64 = d) ∧
      t.time.n = s.regN Code.cycleLen 0 ∧ t.time.slew = s.time.slew ∧ (s.learning = true → t.aon.xoOffset = xo) ∧
      (s.learning = false → t.aon.xoOffset = s.aon.xoOffset) := by
  obtain ⟨hround, hnew, hahead⟩ := nextDatum_parts s
  obtain ⟨hregs, hn, hslew, -, -, hxo, h64⟩ := datumReached_parts s
  obtain ⟨k, hdatum⟩ := datum_eq (xo := xo) hr
  have hlearning := datumWork_learning s.nextDatum (s.nextDatum / secondTicks) k s
  have keep := fun {β : Type} (g : State → β) (hg : DatumBlind g) => hg.datumWork s.nextDatum (s.nextDatum / secondTicks) k s.datumBegun
  have hworktime := keep State.time (.of_fields (fun _ _ _ _ _ _ _ _ _ _ _ => rfl))
  have hworkrtc := keep (fun t => t.aon.rtc) (.of_fields (fun _ _ _ _ _ _ _ _ _ _ _ => rfl))
  have hworkxo := keep (fun t => t.aon.xoOffset) (.of_fields (fun _ _ _ _ _ _ _ _ _ _ _ => rfl))
  generalize datumWork s.nextDatum (s.nextDatum / secondTicks) k s.datumBegun = u at hdatum hlearning hworktime hworkrtc hworkxo
  obtain ⟨hlt, hlr, hlx⟩ := learnOffset_parts xo u
  have htime : (collect (datum xo s)).time = s.datumBegun.time := by
    rw [collect_time, hdatum,
      (DatumBlind.of_fields (g := State.time) (fun _ _ _ _ _ _ _ _ _ _ _ => rfl)).rotationDatum, hlt, hworktime]
  have hrtc : (collect (datum xo s)).aon.rtc = s.datumReached.time.time64 := by
    rw [collect_aon_congr (g := AonSt.rtc) (fun _ => rfl), hdatum,
      (DatumBlind.of_fields (g := fun t => t.aon.rtc) (fun _ _ _ _ _ _ _ _ _ _ _ => rfl)).rotationDatum, hlr, hworkrtc]
    rfl
  have hoffset : (collect (datum xo s)).aon.xoOffset = if s.learning then xo else s.aon.xoOffset := by
    rw [collect_aon_congr (g := AonSt.xoOffset) (fun _ => rfl), hdatum,
      (DatumBlind.of_fields (g := fun t => t.aon.xoOffset) (fun _ _ _ _ _ _ _ _ _ _ _ => rfl)).rotationDatum, hlx, hlearning, hworkxo]
    exact congrArg (fun x => if s.learning then xo else x) hxo
  have hlen : s.datumReached.regN Code.cycleLen 0 = s.regN Code.cycleLen 0 :=
    congrArg Int.toNat (reg_of_regWritten (congrArg (fun r => Tab.find r (objKey Code.cycleLen 0)) hregs) (by decide) (by decide) (by decide))
  have hnow : (collect (datum xo s)).time.time64 = max s.time.time64 s.nextDatum := by rw [htime]; exact h64
  refine ⟨collect (datum xo s), s.nextDatum, exec_datum hs, hround, ?_, by rw [htime]; rfl, hnew, ?_, ?_, fun h => ?_, ?_, ?_, fun h => ?_, fun h => ?_⟩
  · rw [hnow]; exact Nat.le_max_left ..
  · rw [hnow]; exact Nat.le_max_right ..
  · rw [hrtc, hnow, h64]
  · rw [hnow]; exact Nat.max_eq_right (hahead h)
  · rw [htime]; exact hlen
  · rw [htime]; exact hslew
  · rw [hoffset, h]; rfl
  · rw [hoffset, h]; rfl

end Sys2Proof.Machine

namespace Sys2Proof.Proofs

open Machine

/-- Settles O43: the datum, the start of a cycle, a grid that stands, and a realignment that has begun. -/
theorem theGridTurns : Obligations.TheGridTurns := by
  refine ⟨⟨fun xo s hs hr => datums_come hs hr, fun xo s hs hr => ⟨?_, fun es => ?_⟩⟩,
    fun es s hs hr ha h _ _ => cycles_begin hs hr ha h, fun es s hs hr ha => realignment_stops hs hr ha⟩
  · exact run_to (f := datum xo) hs (if_pos hr) rfl
  · exact run_to (f := cycleStart es) hs (if_pos hr) rfl

end Sys2Proof.Proofs

end
